-- ==== Sys2Proof/Word.lean ====
section
/-! DEFINITION. The words of the chip set: register words, bytes and the 64-bit stamps (R7, "Time conventions"). -/
namespace Sys2Proof

/-- A register word (R7: every register is 32 bits wide). -/
abbrev Word := BitVec 32

/-- A byte of memory or of a frame. -/
abbrev Byte := BitVec 8

/-- A 64-bit sensor word or stamp. -/
abbrev Word64 := BitVec 64

end Sys2Proof
end

