-- ==== Sys2Proof/Syntax.lean ====
section
/-! DEFINITION. The commands of the block: one constructor per row of the opcode table, with the row's operands, and
the operand structures that carry received frames. Every docstring names the rule of the row. -/
namespace Sys2Proof

/-- Which chip a register access or an event concerns (R574, R578, R579). -/
inductive Chip where
  /-- this BQ7100 -/
  | unit
  /-- hub `h`, 0 to 47 (R17) -/
  | hub (h : Nat)
  /-- the cell with this CID (R16) -/
  | cell (cid : Nat)
  deriving DecidableEq, Repr

/-- Which lane of which chip (R304, R305, R348). -/
inductive LaneAt where
  | unit (n : Nat)
  | hub (h n : Nat)
  | cell (cid u : Nat)
  deriving DecidableEq, Repr

/-- The hardware update of an RC field that falls in the handshake of a read of it (R12): nothing, a count of events, or a value that a
lowest, a highest or a highest signed field records; `lo` is the field's lowest bit. -/
inductive Tie where
  | none
  | count (lo n : Nat)
  | least (lo v : Nat)
  | most (lo v : Nat)
  | mostSigned (lo v : Nat)
  deriving DecidableEq, Repr

/-- How a received frame's check came out: correct, incorrect, stomped on purpose (R316), or cut by a control
block (R140, R488). -/
inductive Check where
  | good | bad | stomped | cut
  deriving DecidableEq, Repr

/-- The CTRL payload (R491), with the boundary of its cycle (R489). -/
structure Ctrl where
  cycDn   : Nat
  status  : Nat
  role    : Nat
  prefer  : Bool
  unitB   : Bool
  hoDn    : Nat
  hoReq   : Bool
  take    : Bool
  rev     : Bool
  clrReq  : Bool
  clrAcc  : Bool
  clrRef  : Bool
  convEn  : Bool
  rlq     : Bool
  tTx     : Nat
  tRx     : Nat
  rxCyc   : Nat
  ord     : Nat
  brd     : Nat
  cfgId   : Nat
  fwId    : Nat
  clrDn   : Nat
  deriving DecidableEq, Repr

/-- One slot of a LOOP section (R490). -/
structure SlotMirror where
  slot   : Nat
  locked : Bool
  feCnt  : Nat
  state  : List Nat
  deriving DecidableEq, Repr

/-- One cell of an FRN section (R490). -/
structure FrnMirror where
  w        : Int
  k        : Nat
  suspect  : Bool
  aged     : Bool
  kclamp   : Bool
  unseeded : Bool
  susRun   : Nat
  deriving DecidableEq, Repr

/-- The ARM payload (R497). `member` holds the ordinals whose bit is 1. -/
structure ArmMirror where
  dn        : Nat
  s         : Nat
  dir       : Bool
  pol       : Bool
  trimValid : Bool
  trimOrd   : Nat
  trimSince : Nat
  carry     : Int
  member    : List Nat
  deriving DecidableEq, Repr

/-- A mirror section other than CTRL (R490). -/
inductive Section where
  | loop (slots : List SlotMirror)
  | arm (arm : Nat) (p : ArmMirror)
  | frn (arm slice : Nat) (cells : List FrnMirror)
  | region (r : Nat) (bytes : List Nat)
  deriving DecidableEq, Repr

/-- One ASDU of a sampled-value frame (R274 to R276): svID octets, confRev, smpCnt, smpSynch, and the raw value and
quality of each channel of the dataset. -/
structure Asdu where
  svId     : List Nat
  confRev  : Nat
  smpCnt   : Nat
  smpSynch : Nat
  data     : List (Nat × Nat)
  deriving DecidableEq, Repr

/-- One top-level member of a GOOSE allData (R280). -/
inductive Member where
  | boolean (b : Bool)
  | integer (octets : Nat) (v : Int)
  | float32 (w : Nat)
  | other
  deriving DecidableEq, Repr

/-- The protocol data unit that a received Ethernet frame carries behind its EtherType, decoded (R271, R274, R279, R280). -/
inductive EthPayload where
  | sv (asdus : List Asdu)
  | goose (gocbRef : List Nat) (confRev : Nat) (ndsCom test : Bool) (stNum sqNum ttl : Nat) (members : List Member)
  | other
  deriving DecidableEq, Repr

/-- A received Ethernet frame whose FCS is correct (R271 to R273): the port; its octets from the destination address, with the PRP
trailer or HSR tag it came with and without the FCS; the stamp taken at the PCS; its protocol data unit decoded. -/
structure EthFrame where
  port    : Nat
  octets  : List Nat
  raw     : Nat
  payload : EthPayload
  deriving DecidableEq, Repr

/-- What a lane receives where training is awaited (R286 to R288). On a 25.78125 Gbit/s lane a block as it stands on the line: the 58
scrambled bits before it, the latest in bit 57, its sync header (1 for 0b01, 2 for 0b10), its 64 scrambled bits, the first in bit 0, and
the count of the 2.56 ns blocks of the chip at which it arrived. On a 2.5 Gbit/s lane the eight 10-bit code groups of a set, the bit
sent first in bit 9. -/
inductive Training where
  | block (prior header line arr : Nat)
  | set (groups : List Nat)
  deriving DecidableEq, Repr

/-- The commands that the chip set takes, one row of the opcode table each: first the rows with operands, then those without. -/
inductive Instr where
  /-- REGISTER_WRITE (R10): A core store to a register field with no row of its own acts according to the field's access code. -/
  | registerWrite (chip : Chip) (core addr size data : Nat)
  /-- RC_FIELD_READ (R12): A read of an RC field returns its value, then sets the field to its reset value; a hardware update in the same handshake is applied after the clear. -/
  | rcFieldRead (chip : Chip) (core addr size : Nat) (tie : Tie)
  /-- STATUS_W1C_WRITE (R444): A write of 1 to a STATUS cause bit clears that bit and nothing else; a bit of `same`, whose cause
  was raised in this handshake by the commands before it, stays set (R11). -/
  | statusW1cWrite (chip : Chip) (addr data same : Nat)
  /-- BLOCK_ACK (R444): A write of 1 to ACK clears FIRST and EVENTS, ends escalation for the block and ends the block's causes that last until acknowledged. -/
  | blockAck (chip : Chip) (addr data : Nat)
  /-- TIM_INC_FRAC_WRITE (R36): A write to TIM_INC_FRAC goes to a shadow. -/
  | timIncFracWrite (v : Nat)
  /-- TIM_INC_INT_WRITE (R36): A write to TIM_INC_INT combines with the shadowed fraction and commits the pair from the next reference tick. -/
  | timIncIntWrite (v : Nat)
  /-- TIM_DEP_START_WRITE (R38): A write to TIM_DEP_START stores the value, and while ARMED compares it with the current DN. -/
  | timDepStartWrite (v : Nat)
  /-- DEP_START (R38): START written to TIM_DEP_CTL arms the departure generator, or runs it from the next boundary with START_LATE when the start DN has passed. -/
  | depStart (stop : Bool)
  /-- TIM_STEP_WRITE (R40): A write to TIM_STEP makes a step pending, replacing any step already pending. -/
  | timStepWrite (v : Nat)
  /-- TIM_SET_LOAD (R42): A write of TIM_SET_NS with LOAD loads station time, or is refused with SET_REJ unless the generator is STOPPED and the nanoseconds are valid. -/
  | timSetLoad (v : Nat)
  /-- TIM_NOW_LATCH (R51): A read of TIM_NOW_TSL latches all six TIM_NOW registers of the core at one instant. -/
  | timNowLatch (core : Nat)
  /-- TIME_STATE_WRITE (R50): A write of a new TIME_STATE value raises the Info cause TIME_STATE. -/
  | timeStateWrite (v : Nat)
  /-- PTP_EVENT_RX (R44): A received PTP event message is classified, stamped and delivered to firmware with its TS64. -/
  | ptpEventRx (port msgType domain seqId raw : Nat) (octets : List Nat)
  /-- PTP_EVENT_TX (R44): A transmitted PTP event message is stamped and placed in its port's transmit time-stamp queue. -/
  | ptpEventTx (port msgType seqId raw : Nat)
  /-- TXQ_POP (R45): A write of POP removes the head entry of a port's transmit time-stamp queue. -/
  | txqPop (port : Nat)
  /-- HSR_SYNC_FORWARD (R43): A Sync forwarded between HSR ring ports has its residence time added to the Sync or its Follow_Up correctionField. -/
  | hsrSyncForward (port seqId : Nat) (oneStep : Bool) (correction rx tx : Nat)
  /-- FRN_CLR_SUSPECT (R73): FRN_CMD CLR_SUSPECT clears SUSPECT and SUS_RUN of a cell at the next boundary. -/
  | frnClrSuspect (a cell : Nat)
  /-- FRN_RESEED (R68): FRN_CMD RESEED sets UNSEEDED of a cell at the next boundary. -/
  | frnReseed (a cell : Nat)
  /-- FRN_SET_K (R70): FRN_CMD SET_K sets a cell's K, clamped, at the next boundary. -/
  | frnSetK (a cell k : Nat)
  /-- FRN_SET_B (R604): FRN_CMD SET_B sets a cell's bleed at the next boundary. -/
  | frnSetB (a cell v : Nat)
  /-- FRN_CLR_AGED (R71): FRN_CMD CLR_AGED clears AGED and KCLAMP of a cell at the next boundary. -/
  | frnClrAged (a cell : Nat)
  /-- FRN_EN_WRITE (R78): A write of FRN_CTL EN starts or stops the engine, seeding anew on a change to 1, and is ignored as 0 while converter functions are enabled. -/
  | frnEnWrite (a : Nat) (en : Bool)
  /-- LEDGER_STORE (R75): A core store to a ledger record of an enabled arm takes a store access fault and changes nothing. -/
  | ledgerStore (addr size data : Nat)
  /-- SELECTION (R91): After the Firn work, the selection engine ranks cells and settles the level, swaps, trim and grants for the planned departure. -/
  | selection (a : Nat)
  /-- MSH_EN_WRITE (R114): A write of MSH_CTL EN starts or stops selection, subject to converter functions and the Firn EN. -/
  | mshEnWrite (a : Nat) (en : Bool)
  /-- MSH_RETIRE (R111): MSH_CMD RETIRE sets RETIRED of a cell before the next selection. -/
  | mshRetire (a cell : Nat)
  /-- MSH_RESTORE (R115): MSH_CMD RESTORE clears RETIRED and sets UNSEEDED, refused while converter functions are enabled. -/
  | mshRestore (a cell : Nat)
  /-- MSH_ROTATE (R97): MSH_CMD ROTATE makes the trim cell due for replacement. -/
  | mshRotate (a : Nat)
  /-- MSH_CLR_REQ (R104): MSH_CMD CLR_REQ clears REQ of a cell. -/
  | mshClrReq (a cell : Nat)
  /-- CONV_EN_WRITE (R119): A write of 1 to CONV_EN is accepted only when every condition of R119 holds, else CONV_REJ; a write of 0 is always accepted. -/
  | convEnWrite (en : Bool)
  /-- FORCE_SET (R127): A SET force command enters or replaces a pending forced state for a CID, or is refused. -/
  | forceSet (cid code : Nat)
  /-- FORCE_RELEASE (R128): A RELEASE force command places a pending release on an entry from its effective DN. -/
  | forceRelease (cid : Nat)
  /-- HUB_ORDER_LOSS (R138): After 4 intervals without a valid ORDER frame the hub raises its loss event and avalanches its segment. -/
  | hubOrderLoss (h : Nat)
  /-- HUB_AVALANCHE_RX (R142): A hub receiving an avalanche control block sends K28.7 on every enabled Trackway lane and sets AVL. -/
  | hubAvalancheRx (h lane : Nat) (block : Nat × List Nat)
  /-- CELL_K28_7_RX (R143): A cell receiving K28.7 turns all gates off, forwards K28.7 and latches BLOCK. -/
  | cellK287Rx (cid port : Nat)
  /-- CELL_FRAME_RX (R132): A cell checks a downlink frame, holds its order and forwards it with its own changes. -/
  | cellFrameRx (cid port ofs : Nat) (chars : List Nat) (same : Option (List Nat))
  /-- CELL_BOUNDARY (R159): At its local boundary a cell drives the pattern resolved by the priority rows of R159. -/
  | cellBoundary (cid : Nat) (stPass : Bool)
  /-- CELL_WATCHDOG (R135): After WDOG departures without an order the cell enters its safe state. -/
  | cellWatchdog (cid : Nat)
  /-- DEP_PEEK (R148): A write to DEP_PEEK_DN loads DEP_PEEK_DATA with the order of the selected CID and DN. -/
  | depPeek (dn : Nat)
  /-- GTE_PAT_WRITE (R153): A pattern-table write is checked and refused with PAT_REJ if it would short a leg. -/
  | gtePatWrite (cid code v : Nat)
  /-- GTE_CTL_WRITE (R154): A write of TYPE, BYP_SEL, SAFE or LOCK in GTE_CTL, ignored for locked fields. -/
  | gteCtlWrite (cid v : Nat)
  /-- TEST_EN_WRITE (R175): A write of TEST_EN enters direct test mode only while the cell executes BLOCK, or leaves it. -/
  | testEnWrite (cid : Nat) (en : Bool)
  /-- GTE_TEST_WRITE (R177): A write to GTE_TEST applies static leg outputs, discarding a leg that would short. -/
  | gteTestWrite (cid v : Nat)
  /-- PWM_RUN_WRITE (R179): A change of RUN to 1 takes both PWM shadows and starts the generator. -/
  | pwmRunWrite (cid : Nat) (run : Bool)
  /-- PWM_LOAD (R179): LOAD transfers the PWM shadows at the next period start. -/
  | pwmLoad (cid : Nat)
  /-- PWM_PERIOD_START (R178): At each period start the PWM generator switches its legs and takes loaded shadows. -/
  | pwmPeriodStart (cid : Nat)
  /-- CALIBRATION_COMPLETE (R170): A completed calibration swaps the lines if valid, or counts it and takes a line out after three failures. -/
  | calibrationComplete (cid p q : Nat)
  /-- REFRESH_REQUEST (R172): A leg's time without refresh reaching ON_MAX − ADV sets the refresh-request flag. -/
  | refreshRequest (cid leg : Nat)
  /-- AUTO_REFRESH (R174): A leg reaching ON_MAX makes an autonomous refresh pulse and raises AUTO_REF. -/
  | autoRefresh (cid leg : Nat)
  /-- COMPARATOR_TRIP (R187): A level-1 or level-2 crossing turns off the affected legs within 15 ns and sets their holds.
  `ins` lists the inputs that cross in one 4 ns cycle: 0 to 3 those of XH, XL, YH and YL, 4 AIN0, in 1/256 of the LSB of their codes. -/
  | comparatorTrip (cid : Nat) (ins : List (Nat × Nat))
  /-- BLANK_WINDOW_CLOSE (R184): At the close of a blanking window a level-1 input still above threshold trips.
  `sws` are the switches whose windows close in one 4 ns cycle, `ins` their inputs as in COMPARATOR_TRIP. -/
  | blankWindowClose (cid sws : Nat) (ins : List (Nat × Nat))
  /-- SOFT_OFF_END (R191): When T_SOFT ends the cell makes a bypass request, raises the cause at class 3 and reports. -/
  | softOffEnd (cid : Nat)
  /-- BYP_WAIT_EXPIRE (R192): BYP_WAIT boundaries after a bypass request with BYP_AUTO the cell starts retirement itself. -/
  | bypWaitExpire (cid : Nat)
  /-- PRT_THR_WRITE (R183): A threshold write leaving L2 at or below L1 is refused with THR_REJ. -/
  | prtThrWrite (cid sw v : Nat)
  /-- PRT_OVA_WRITE (R195): A dump-threshold write leaving DMP_OFF at or above DMP_ON is refused. -/
  | prtOvaWrite (cid v : Nat)
  /-- CLR_HOLD (R189): PRT_CMD CLR_HOLD clears every leg hold when its conditions hold, else is refused.
  `ins` are the inputs of the comparators at that instant. -/
  | clrHold (cid : Nat) (ins : List (Nat × Nat))
  /-- SELFTEST (R208): PRT_CMD SELFTEST starts a comparator self-test of the masked comparators. -/
  | selftest (cid mask : Nat)
  /-- SELFTEST_TIMEOUT (R210): A self-test not complete within 1,024 departures ends with ST_ABORT. -/
  | selftestTimeout (cid : Nat)
  /-- CLR_JOURNAL (R206): PRT_CMD CLR_JOURNAL clears the retirement record once the sequence has ended. -/
  | clrJournal (cid : Nat)
  /-- DMP_TMAX_EXPIRE (R196): DMP on for DMP_TMAX is forced off and DUMP_LONG raised. -/
  | dmpTmaxExpire (cid : Nat)
  /-- OV2_CROSSING (R199): The analogue overvoltage comparator turns all outputs off, raises OV2 and starts retirement.
  `ins` lists every input that crosses in that 4 ns cycle. -/
  | ov2Crossing (cid : Nat) (ins : List (Nat × Nat))
  /-- UVLO_ENTRY (R200): VAUX or the core rail below threshold activates the lock-out and holds all outputs at 0. -/
  | uvloEntry (cid : Nat)
  /-- UVLO_RELEASE (R200): After 10 µs of good supply the lock-out releases, advances UVLO_CNT and raises UVLO_SEEN.
  `ins` are the inputs of the comparators at that instant. -/
  | uvloRelease (cid : Nat) (ins : List (Nat × Nat))
  /-- CELL_POR (R202): VAUX below 2.5 V resets the cell and clears the RETIRE latch but keeps the journal record. -/
  | cellPor (cid : Nat)
  /-- RETIREMENT_RECORD_DONE (R204): The retirement record completes in the journal flash. -/
  | retirementRecordDone (cid : Nat)
  /-- BYC_PULSE_START (R204): At BYC_DLY after the start BYC is driven to 1 for BYC_PULSE. -/
  | bycPulseStart (cid : Nat)
  /-- BYC_PULSE_END (R204): BYC returns to 0 at the end of its pulse. -/
  | bycPulseEnd (cid : Nat)
  /-- BYC_CONFIRM (R204): BYCS high for 100 µs confirms the bypass switch closed and schedules BYF off. -/
  | bycConfirm (cid : Nat)
  /-- BYC_TIMEOUT (R204): No confirmation within BYC_TMO raises BYC_FAIL at class 3. -/
  | bycTimeout (cid : Nat)
  /-- BYF_RELEASE (R204): BYF returns to 0 1 ms after the confirmation. -/
  | byfRelease (cid : Nat)
  /-- BYF_PULSE (R204): From BYF_T without confirmation BYF pulses 10 µs in every 100 µs. -/
  | byfPulse (cid : Nat) (level : Bool)
  /-- GATE_MISMATCH (R207): A gate feedback mismatch for three cycles raises GATE_MISMATCH and acts as a level-1 trip.
  `high` is the level at which the feedback of the switch has stood for three cycles. -/
  | gateMismatch (cid sw : Nat) (high : Bool)
  /-- LPE_RUN_COMMIT (R222): A run's outputs are committed to the board when its last slot completes. -/
  | lpeRunCommit (g : Nat)
  /-- BOARD_CORE_STORE (R216): A core store to a board entry is applied only to general entries no enabled slot writes, else WR_REJ. -/
  | boardCoreStore (e v : Nat)
  /-- SLOT_CTL_WRITE (R229): A write of slot configuration fields is refused with WR_REJ while EN is 1. -/
  | slotCtlWrite (sl reg v : Nat)
  /-- SLOT_ENABLE (R230): A write of 1 to a slot's EN is checked and refused with WR_REJ when invalid. -/
  | slotEnable (sl : Nat)
  /-- SLOT_STATE_STORE (R233): A core store to a state word of a slot in service is refused with WR_REJ. -/
  | slotStateStore (sl n v : Nat)
  /-- SLOT_COEF_STORE (R243): A core store to a coefficient word is atomic and used from the slot's next computation. -/
  | slotCoefStore (sl n v : Nat)
  /-- LPE_MEM_ERROR (R249): An uncorrectable error in a slot record or board entry holds the slot or zeroes the entry and raises MEM_ERR;
  one that the symbol code corrects is counted. -/
  | lpeMemError (entry : Bool) (n : Nat) (corrected : Bool)
  /-- LPE_EN_WRITE (R252): A write of LPE_CTL EN starts or stops runs, ignored as 0 while converter functions are enabled. -/
  | lpeEnWrite (en : Bool)
  /-- SENSOR_WORD (R258): A completed sensor word is checked for form, sequence and sensor error and accepted or discarded. -/
  | sensorWord (input w : Nat)
  /-- SENSOR_TIMEOUT (R262): A port deadline reached without an accepted word enters TIMEOUT and counts an error. -/
  | sensorTimeout (p : Nat)
  /-- SNS_ERR_WINDOW_CLOSE (R263): The close of a port's error window returns ERRS to 0. -/
  | snsErrWindowClose (p : Nat)
  /-- SNS_PORT_EN_WRITE (R262): A write of a port's EN moves it between OFF and SYNC, subject to R261. -/
  | snsPortEnWrite (p : Nat) (en : Bool)
  /-- SNS_RESTORE (R262): SNS_PCMD RESTORE returns a retired port to SYNC. -/
  | snsRestore (p : Nat)
  /-- SNS_OFS_COMMIT (R260): A write to SNS_OFS commits OFS and the shadowed gain together. -/
  | snsOfsCommit (p v : Nat)
  /-- SNS_THR_CFG_WRITE (R266): A comparator configuration write, with SB_EN or AV_EN cleared only while converter functions are disabled. -/
  | snsThrCfgWrite (p k v : Nat)
  /-- SEQ_RISING_EDGE (R268): An accepted rising edge of a sequence monitor input is used for phase order and frequency. -/
  | seqRisingEdge (m input : Nat)
  /-- FREQ_WINDOW_END (R270): At the end of a frequency window FREQ is computed and checked, raising FREQ_BAD. -/
  | freqWindowEnd (m : Nat)
  /-- SEQ_INPUT_LOST (R270): An input with no accepted edge for LOST_MS raises INPUT_LOST. -/
  | seqInputLost (m input : Nat)
  /-- PBX_FRAME_RX (R271): A received Ethernet frame is filtered, de-duplicated and classified to PTP, SV, GOOSE or the firmware ring. -/
  | pbxFrameRx (f : EthFrame)
  /-- SV_ALIGNED_WRITE (R277): An aligned map entry writes its board entry at the sample instant plus ALIGN_DLY. -/
  | svAlignedWrite (j : Nat)
  /-- SV_TIMEOUT (R278): No accepted ASDU for TMO sample periods puts the subscription in timeout. -/
  | svTimeout (k : Nat)
  /-- GOOSE_TIMEOUT (R281): A passed timeAllowedToLive raises GO_TMO and sets the output to FAIL_VAL. -/
  | gooseTimeout (c : Nat)
  /-- PBX_TX_PROD_WRITE (R273): Advancing the transmit ring PROD makes hardware send the frame on both ports of the pair. -/
  | pbxTxProdWrite (q v : Nat)
  /-- PBX_LINK_DOWN (R283): A port link of an enabled pair going down raises RED_LOSS. -/
  | pbxLinkDown (port : Nat)
  /-- PBX_RATE_WRITE (R285): A change of RATE restarts the link of its port. -/
  | pbxRateWrite (v : Nat)
  /-- LANE_EN_WRITE (R289): A write of a lane's EN starts bring-up at SIG or squelches the lane to OFF. -/
  | laneEnWrite (l : LaneAt) (en : Bool)
  /-- LANE_SIGNAL_DETECT (R289): Signal present for 10 µs starts CDR. -/
  | laneSignalDetect (l : LaneAt)
  /-- LANE_CDR_LOCK (R289): CDR and block or comma lock start equalisation adaptation. -/
  | laneCdrLock (l : LaneAt)
  /-- EQUALISATION_SETTLED (R294): Settled equalisation moves the lane to POL. -/
  | equalisationSettled (l : LaneAt)
  /-- TRAINING_RX (R289): A received training block or set advances the lane through POL, ID, DESKEW and UP-WAIT. -/
  | trainingRx (l : LaneAt) (tr : Training)
  /-- LANE_LINK_LOSS (R289): Loss of signal, lock or peer RDY takes an UP lane back to SIG with RETRAIN. -/
  | laneLinkLoss (l : LaneAt)
  /-- LANE_CODE_ERRORS (R289): Invalid sync headers or code errors beyond the limit take an UP lane back to SIG. -/
  | laneCodeErrors (l : LaneAt) (n : Nat)
  /-- LANE_CHECK_ERROR (R300): A frame check error is counted in the error window. -/
  | laneCheckError (l : LaneAt)
  /-- CRC_WINDOW_CLOSE (R300): The close of the check-error window returns ERRS to 0. -/
  | crcWindowClose (l : LaneAt)
  /-- LANE_RETRAIN_TIMEOUT (R289): A lane not UP for RETRAIN_TMO since it left UP is retired. -/
  | laneRetrainTimeout (l : LaneAt)
  /-- DESKEW_TIMEOUT (R293): A lane whose partners have not reached DESKEW within DSK_TMO goes on alone. -/
  | deskewTimeout (l : LaneAt)
  /-- LANE_RESTORE (R301): LNS_CMD RESTORE returns a retired lane to SIG, refused while a test is set. -/
  | laneRestore (l : LaneAt)
  /-- LANE_RETRAIN_CMD (R304): LNS_CMD RETRAIN restarts the lane at SIG. -/
  | laneRetrainCmd (l : LaneAt)
  /-- LANE_TEST_WRITE (R299): Setting LOOP, GEN or CHK takes effect only while the lane is OFF or RETIRED. -/
  | laneTestWrite (l : LaneAt) (prbs : Bool) (v : Nat)
  /-- LANE_TXEQ_WRITE (R295): A transmitter equaliser write with taps summing above 63 is refused with WR_REJ. -/
  | laneTxeqWrite (l : LaneAt) (v : Nat)
  /-- HUB_BOUNDARY (R350): The hub's departure grid reaches a boundary. -/
  | hubBoundary (h : Nat)
  /-- RPT_MISS (R323): A report finding no frame within d + 1,120 ns is lost and raises RPT_MISS. -/
  | rptMiss (cid : Nat)
  /-- HUB_TRACKWAY_RX (R324): A hub receives an uplink Trackway frame at a loop end and forwards its first copies of reports. -/
  | hubTrackwayRx (h lane transit : Nat) (chars : List Nat) (same : Option (Nat × List Nat))
  /-- HUB_FRAME_DROP (R332): A hub-to-unit frame not started within 1 µs is dropped and FDROP raised. -/
  | hubFrameDrop (h loop : Nat)
  /-- HUB_UNREACH (R325): A seen position unseen for 16 departures makes the hub send NOTICE UNREACH. -/
  | hubUnreach (h loop pos : Nat)
  /-- NOTICE_RX (R325): A central unit receiving UNREACH retires the cell, or on REJOIN sets UNSEEDED and re-attests it. -/
  | noticeRx (lane : Nat) (blocks : List (Nat × List Nat))
  /-- HUB_ORDER_RX (R330): The hub checks an ORDER frame and keeps the first valid one per DN. -/
  | hubOrderRx (h lane arr done : Nat) (blocks : List (Nat × List Nat))
  /-- LOOP_FRAME_RX (R333): A central unit checks a LOOP frame and queues each valid report to its arm engine. -/
  | loopFrameRx (lane : Nat) (blocks : List (Nat × List Nat))
  /-- MAIL_RX (R333): A central unit checks a MAIL frame and hands its mailbox to MLK, SEC or firmware. -/
  | mailRx (lane arr : Nat) (blocks : List (Nat × List Nat))
  /-- POINT_REQUEST_RX (R338): A cell executes, re-answers or ignores a point request addressed to it. -/
  | pointRequestRx (cid : Nat) (octets : List Nat) (same : Option (List Nat))
  /-- RSP_DROP (R339): A response not placed within 64 departures is dropped and RSP_DROP raised. -/
  | rspDrop (cid : Nat)
  /-- POINT_RETRY_TIMEOUT (R345): No response within PTS_TMO resends the request, or completes it with TIMEOUT and PTS_FAIL. -/
  | pointRetryTimeout (h loop : Nat)
  /-- POINT_RESPONSE_RX (R344): A matching response completes its request; an unmatched one is counted in STRAY. -/
  | pointResponseRx (h : Nat) (octets : List Nat)
  /-- LOOP_MEASUREMENT (R361): The hub starts a loop measurement by sending SKEW_REQ. -/
  | loopMeasurement (h loop : Nat)
  /-- MEASUREMENT_COMPLETE (R359): After collecting SKEW_RSP the hub computes offsets, sends TIME_SET and PATH. -/
  | measurementComplete (h loop : Nat)
  /-- PATH_RX (R28): A central unit receiving a PATH runs the lead check of that hub. -/
  | pathRx (h dlyA dlyB dlMax : Nat)
  /-- HUB_HEARTBEAT_WRITE (R367): A write of HSY_HEART restarts the hub's heartbeat supervision. -/
  | hubHeartbeatWrite (h v : Nat)
  /-- HUB_HB_LOST (R367): No heartbeat for HB_MAX raises HB_LOST, stops ALIVE and resets the management core. -/
  | hubHbLost (h : Nat)
  /-- HUB_MEM_UNC (R367): An uncorrectable error in an HTW or HDP table raises MEM_UNC. -/
  | hubMemUnc (h : Nat)
  /-- HUB_ALIVE_TOGGLE (R368): The hub's ALIVE toggles at 1 kHz unless stopped. -/
  | hubAliveToggle (h : Nat)
  /-- REG_REQ (R366): The management core serves a register request and answers the requesting unit. -/
  | regReq (h : Nat)
  /-- ADC_CONVERSION (R371): A conversion slot of a slice holds and converts a sample for its entry. -/
  | adcConversion (cid k raw : Nat)
  /-- ADC_ENTRY_ENABLE (R374): A write of 1 to an entry's EN is checked and refused with WR_REJ when invalid. -/
  | adcEntryEnable (cid n v : Nat)
  /-- ADC_OFS_COMMIT (R379): A write to ADC_ENT_OFS commits SHIFT, OFFSET and the shadowed SCALE. -/
  | adcOfsCommit (cid n v : Nat)
  /-- ADC_RES_READ (R380): A read of ADC_ENT_RES latches ADC_ENT_RES_DN for the result returned. -/
  | adcResRead (cid n : Nat)
  /-- CCP_ARM (R403): CCP ARM starts the cell capture. -/
  | ccpArm (cid : Nat)
  /-- CCP_STOP (R403): CCP STOP ends the cell capture. -/
  | ccpStop (cid : Nat)
  /-- CCP_SWTRIG (R403): CCP SWTRIG triggers the cell capture. -/
  | ccpSwtrig (cid : Nat)
  /-- SCH_WAIT_READ (R416): A read of SCH_WAIT ends any open run and blocks until a thread is dispatched to the core. -/
  | schWaitRead (core : Nat)
  /-- END_WAIT (R420): SCH_END WAIT ends the run, completing its item, and leaves the thread WAITING or READY. -/
  | endWait (core : Nat)
  /-- END_WAIT_UNTIL (R424): SCH_END WAIT_UNTIL ends the run with a timetable deadline. -/
  | endWaitUntil (core : Nat)
  /-- END_YIELD (R420): SCH_END YIELD ends the run and puts the thread at the tail of its ready list. -/
  | endYield (core : Nat)
  /-- END_EXIT (R420): SCH_END EXIT ends the run and frees the thread. -/
  | endExit (core : Nat)
  /-- RELEASE_RESUME (R432): A release waiting for ring room or pool entries proceeds when room appears. -/
  | releaseResume (flow : Nat)
  /-- SCH_CREATE (R422): CREATE moves a thread from FREE to WAITING. -/
  | schCreate (core th : Nat)
  /-- SCH_DESTROY (R422): DESTROY frees a waiting or ready thread. -/
  | schDestroy (core th : Nat)
  /-- SCH_READY (R423): READY makes a waiting thread ready, or sets WAKE of a running one. -/
  | schReady (core th : Nat) (cancel : Option Nat)
  /-- SCH_CANCEL (R423): CANCEL returns a ready thread to WAITING, or returns TOO_LATE. -/
  | schCancel (core th : Nat)
  /-- SCH_RESTART (R422): RESTART moves a faulted thread to WAITING. -/
  | schRestart (core th : Nat)
  /-- SCH_POST (R433): POST queues an item on a flow for its default thread. -/
  | schPost (core flow : Nat)
  /-- SCH_RETIRE_CORE (R437): RETIRE_CORE retires a core not running a thread. -/
  | schRetireCore (core target : Nat)
  /-- SCH_RESTORE_CORE (R437): RESTORE_CORE releases a retired core at the secondary entry. -/
  | schRestoreCore (core target : Nat)
  /-- SCH_CMD_RES_READ (R422): A read of SCH_CMD_RES blocks until the command has been served. -/
  | schCmdResRead (core : Nat)
  /-- SCH_IPI_WRITE (R411): A write of SCH_IPI sets MSIP of target cores or clears this core's. -/
  | schIpiWrite (core v : Nat)
  /-- SCH_SRC_WRITE (R427): A write to a source binding is refused with CMD_REJ while PEND is set. -/
  | schSrcWrite (src v : Nat)
  /-- LONG_RUN (R421): A run longer than RUN_MAX raises LONG_RUN and sets PREEMPT. -/
  | longRun (core : Nat)
  /-- PACE_CHECK (R412): Each microsecond a core's pace is measured and SLOW raised below PACE_LIM. -/
  | paceCheck (core pace : Nat)
  /-- CORE_UNCORR_ERROR (R436): An uncorrectable error in a dirty L1-D line or register file retires the core. `kind` is what
  the error is in: 0 a dirty L1-D line or a register file; 1 L1-I or a clean L1-D line, which is refetched; 2 corrected. -/
  | coreUncorrError (core kind : Nat)
  /-- SCRUB_READ (R452): The background scrubber reads and corrects the next SRAM word. -/
  | scrubRead (chip : Chip) (symbols : Nat) (still : Bool)
  /-- MEMORY_UNCORR_READ (R454): An uncorrectable word read faults the load or reads 0 and raises UNCORR. -/
  | memoryUncorrRead (chip : Chip) (addr : Nat) (core : Option Nat)
  /-- SYS_INJ_WRITE (R456): A write to SYS_INJ arms fault injection, refused with INJ_REJ for critical targets while CONV_EN is 1. -/
  | sysInjWrite (chip : Chip) (toAddr : Bool) (v : Nat)
  /-- SBX_LINE_CHANGE (R468): A signal-box line changes its sampled state and acts per its configured action. -/
  | sbxLineChange (line : Nat) (level : Bool)
  /-- HW_ALIVE_TIMEOUT (R469): An alive-mode input without a change for ALV_MAX is asserted. -/
  | hwAliveTimeout (j : Nat)
  /-- SBX_HEART_WRITE (R472): A heartbeat write is checked for window and token, moving HB among WAIT, OK and LOST. -/
  | sbxHeartWrite (token tick : Nat)
  /-- SBX_HS_WRITE (R464): A write of SBX_HS requests high-side switches closed. -/
  | sbxHsWrite (v : Nat)
  /-- SBX_CFG_LOAD_WRITE (R481): A word written to SBX_CFG_LOAD is stored in the configuration being loaded. -/
  | sbxCfgLoadWrite (v : Nat)
  /-- SBX_CLEAR (R483): Keyed CLEAR clears TRIPPED and the avalanche output when its conditions hold, else CLR_REJ. -/
  | sbxClear (key : Nat)
  /-- SBX_FT_CLR (R484): Keyed FT_CLR empties the first-trip record unless tripped or in glacier mode. -/
  | sbxFtClr (key : Nat)
  /-- READBACK_SAMPLE (R477): Each microsecond PRk is sampled and a lasting mismatch raises RB_FAULT. -/
  | readbackSample (pr : Nat)
  /-- TEST_PULSE_START (R478): At the start of its slot a test pulse opens the switch under test. -/
  | testPulseStart (k : Nat) (low : Bool)
  /-- TEST_PULSE_END (R478): At the end of TP_LEN the switch recloses and the readback checks decide the test. -/
  | testPulseEnd (openedAtEnd energisedAfter : Bool)
  /-- OSC_WINDOW_END (R479): At the end of each millisecond the tick count outside its window raises OSC_DEV. -/
  | oscWindowEnd (count : Nat)
  /-- CTRL_RX (R491): A valid peer CTRL updates peer state, digests, offset and role decisions. `parts` is what each Siding lane received of its
  frame (R487). -/
  | ctrlRx (parts : List (Nat × List (Nat × List Nat)))
  /-- MIRROR_SECTION_RX (R495): A received mirror section is checked and held for application or discarded as late. `parts` as in CTRL_RX. -/
  | mirrorSectionRx (parts : List (Nat × List (Nat × List Nat)))
  /-- SDL_REGION_WRITE (R493): A region declaration breaking the mirror budget is refused with WR_REJ. -/
  | sdlRegionWrite (r : Nat) (len : Bool) (v : Nat)
  /-- RESET_ASSERT (R516): A reset source asserts, beginning or widening a reset episode, of the unit or of a hub (R542).
  `reach` is what a write of SYS_RST_SW asks for (source 5), or a hub's reach. -/
  | resetAssert (chip : Chip) (src reach block : Nat)
  /-- RESET_STAGE_COMPLETE (R515): A reset exit stage completes and the next stage of the episode reach begins. -/
  | resetStageComplete (chip : Chip) (straps : Nat)
  /-- FUSE_LOAD_DONE (R523): A fuse load passes and applies trims, or fails and is retried up to three times. `words` are the 256
  words that the load has read. -/
  | fuseLoadDone (chip : Chip) (words : List Nat)
  /-- SYS_RST_SYSTEM (R526): A keyed SYS_RST_SW write requests a System reset. -/
  | sysRstSystem (key : Nat)
  /-- SYS_RST_ENGINE (R526): A keyed SYS_RST_SW write requests an Engine reset, refused while CONV_EN is 1. -/
  | sysRstEngine (key : Nat)
  /-- SYS_RST_BLOCK (R526): A keyed SYS_RST_SW write requests a Block reset of an allowed block. -/
  | sysRstBlock (key block : Nat)
  /-- SYS_RST_PEER (R526): A keyed write with PEER sends PEER_RESET on Siding. -/
  | sysRstPeer (key : Nat)
  /-- WDOG_KICK (R527): A write of 0xD0C5 restarts the watchdog period. -/
  | wdogKick (key : Nat)
  /-- DIE_TEMP_CHANGE (R528): The die temperature crossing OT_WARN or OT_RST raises OT_WARN or the OT reset. -/
  | dieTempChange (chip : Chip) (temp : Int)
  /-- SYS_PWR_WRITE (R529): A write of SYS_PWR powers domains down or up, all or none, or is refused with PWR_REJ. -/
  | sysPwrWrite (v : Nat)
  /-- CORE_RELEASE (R532): A write of SYS_CORE_REL releases a core at SYS_CORE_ENTRY. -/
  | coreRelease (v : Nat)
  /-- BAK_CLR_CNT (R521): Keyed BAK command CLR_CNT sets the reset counter to 0. -/
  | bakClrCnt (key : Nat)
  /-- BAK_CLR_HIST (R521): Keyed BAK command CLR_HIST empties the cause history. -/
  | bakClrHist (key : Nat)
  /-- BAK_CLR_LF (R521): Keyed BAK command CLR_LF empties the last-fault record. -/
  | bakClrLf (key : Nat)
  /-- VBAK_RISE (R521): VBAK rising with a failed BAK check clears BAK, raising BAK_LOST at the next boot. `octets` are
  the 296 bytes that BAK holds then, its check word last. -/
  | vbakRise (octets : List Nat)
  /-- CONFIG_BLOCK_RX (R541): A cell assembles configuration blocks and on the last checks, applies and answers the set. -/
  | configBlockRx (cid : Nat) (octets : List Nat)
  /-- CONFIG_RESEND_TIMEOUT (R541): No OK answer within 64 departures makes MLK resend the set, up to 3 attempts. -/
  | configResendTimeout (cid : Nat)
  /-- CELL_SELF_RESET (R544): The cell performs its commanded reset with power-on reach. -/
  | cellSelfReset (cid : Nat)
  /-- SEC_VERIFY (R557): VERIFY runs the image checks on a slot that is not running. -/
  | secVerify (slot : Nat)
  /-- SEC_SET_PENDING (R557): SET_PENDING writes a slot record making a verified slot start at the next reset. -/
  | secSetPending (slot : Nat)
  /-- SEC_COMMIT_ARB (R557): COMMIT_ARB blows anti-rollback fuses up to the running image's ARB. -/
  | secCommitArb (key : Nat)
  /-- SEC_OWNER_SET (R550): OWNER_SET writes the owner key once and blows OWNER_HASH. -/
  | secOwnerSet (key : Nat)
  /-- SEC_OWNER_LOCK (R557): OWNER_LOCK blows OWNER_LOCK so vendor-signed images are refused. -/
  | secOwnerLock (key : Nat)
  /-- ATT_CHALLENGE_RX (R561): A cell or hub takes an attestation challenge and queues a statement. -/
  | attChallengeRx (chip : Chip) (octets : List Nat)
  /-- ATT_STATEMENT_DONE (R561): A signed statement completes and its answer blocks are placed. -/
  | attStatementDone (chip : Chip)
  /-- ATT_ANSWER_RX (R563): SEC checks a complete answer and writes its result, raising ATT_FAIL or ATT_DONE. -/
  | attAnswerRx (id : Nat) (unitB : Bool) (tag : Nat) (answer : List Nat)
  /-- ATT_TIMEOUT (R562): No answer within ATT_TMO resends the challenge once, then records NO_ANSWER. -/
  | attTimeout (id : Nat)
  /-- CELL_UPD_IDENT (R566): Update OP IDENT returns the cell's identity and image data. -/
  | cellUpdIdent (cid : Nat) (octets : List Nat)
  /-- CELL_UPD_BEGIN (R566): Update OP BEGIN erases the slot that is not running. -/
  | cellUpdBegin (cid : Nat) (octets : List Nat) (fail : Bool)
  /-- CELL_UPD_DATA (R566): Update OP DATA writes bytes at the expected offset, else ORDER. -/
  | cellUpdData (cid : Nat) (octets : List Nat) (fail : Bool)
  /-- CELL_UPD_END (R566): Update OP END runs the image checks on the written slot. -/
  | cellUpdEnd (cid : Nat) (octets : List Nat)
  /-- CELL_UPD_ACTIVATE (R566): Update OP ACTIVATE sets the written slot pending and resets the cell. -/
  | cellUpdActivate (cid : Nat) (octets : List Nat)
  /-- HUB_IMAGE_READ (R567): MLK answers a hub ROM's READ with bytes of the hub firmware partition. -/
  | hubImageRead (h : Nat) (octets : List Nat)
  /-- REC_IDENT (R570): Recovery IDENT returns identity and boot status. -/
  | recIdent (uart : Bool) (octets : List Nat)
  /-- REC_CERT_READ (R570): Recovery CERT_READ returns certificate bytes. -/
  | recCertRead (uart : Bool) (octets : List Nat)
  /-- REC_BEGIN (R570): Recovery BEGIN erases the target partition and opens a session. -/
  | recBegin (uart : Bool) (octets : List Nat) (fail : Bool)
  /-- REC_DATA (R570): Recovery DATA writes bytes at the expected offset. -/
  | recData (uart : Bool) (octets : List Nat) (fail : Bool)
  /-- REC_END (R570): Recovery END checks the written target and records a firmware slot. -/
  | recEnd (uart : Bool) (octets : List Nat) (fail : Bool)
  /-- REC_BOOT (R570): Recovery BOOT makes a system reset after the reply. -/
  | recBoot (uart : Bool) (octets : List Nat)
  /-- XSPI_PROGRAM (R575): A store through the xSPI window programs flash bytes, subject to R554. -/
  | xspiProgram (addr : Nat) (octets : List Nat)
  /-- XSPI_ERASE (R575): A store to a sector's first word in the erase alias erases that sector. -/
  | xspiErase (addr : Nat)
  /-- RESET_SOURCE_RELEASE (R516): A reset source is released, such as RESET_N going high or a supply rising above its POR threshold, and stage HOLD may end 10 µs after the last release. -/
  | resetSourceRelease (chip : Chip) (src : Nat)
  /-- SEC_COMMAND_DONE (R557): A running SEC or CSE command (VERIFY, JRN_WRITE, COMMIT_ARB and the others) completes: BUSY clears, DONE or REJ and RESULT are set, and VERIFY_FAIL or JRN_FAIL may be raised. -/
  | secCommandDone (chip : Chip) (fail : Bool)
  /-- PRBS_LOCK_CHANGE (R297): The PRBS checker sets CHK_LOCK after 64 agreeing bits, or clears it after 64 errors in 1,024 bits and seeds again.
  `xs` are the line bits that the lane has received, in turn. -/
  | prbsLockChange (l : LaneAt) (xs : List Bool)
  /-- PBX_LINK_UP (R285): The link of an Ethernet port comes up and its UP bit in PBX_LINK is set. -/
  | pbxLinkUp (port : Nat)
  /-- PEER_AVALANCHE_RX (R141): An avalanche control block arriving over Siding is handled as an avalanche with PEER as source. -/
  | peerAvalancheRx (block : Nat × List Nat)
  /-- RELINQUISH_RX (R488): A STANDBY unit receiving RELINQUISH becomes ACTIVE. -/
  | relinquishRx (block : Nat × List Nat)
  /-- PEER_RESET_RX (R526): A received PEER_RESET asserts PEER when enabled and not ACTIVE, else RST_REJ. -/
  | peerResetRx (block : Nat × List Nat)
  /-- REFERENCE_TICK (R36): On each reference clock tick the time base adds TIM_INC to its nanosecond count and applies any committed increment. -/
  | referenceTick
  /-- BOUNDARY (R39): The time base emits the boundary pulse of the next DN, or the first boundary after a set or step. -/
  | boundary
  /-- DEP_STOP (R38): STOP written to TIM_DEP_CTL stops the generator when armed or when converter functions are disabled, and is refused with STOP_REJ otherwise. -/
  | depStop
  /-- STEP_APPLY (R40): At its tick a pending step is added to station time, or refused with STEP_REJ under R40 and R41. -/
  | stepApply
  /-- FORCE_RELEASE_ALL (R605): RELEASE_ALL places a pending release on every force-table entry. -/
  | forceReleaseAll
  /-- AV_FIRE (R139): A write of FIRE to DEP_AV is a firmware avalanche source. -/
  | avFire
  /-- AV_CLEAR (R144): A write of CLEAR to DEP_AV asks the peer and, when accepted, starts 16 clearing departures, else CLR_REJ. -/
  | avClear
  /-- CLEAR_RUN_END (R145): After 16 clearing departures AV_LATCHED and the sources are cleared. -/
  | clearRunEnd
  /-- RESET_CLEAR_RUN (R146): After a reset a unit sending as OFFLINE or ACTIVE makes one run of 16 clearing departures. -/
  | resetClearRun
  /-- POINT_REQUEST_SEND (R343): MLK takes a request from the ring and sends it when its loop has none outstanding. -/
  | pointRequestSend
  /-- COMPLETION_WRITE (R344): A completion is written to the completion ring once there is room. -/
  | completionWrite
  /-- CAP_ARM (R390): ARM starts a buffer capture in FILL or a stream in STREAM. -/
  | capArm
  /-- CAP_STOP (R390): STOP ends a capture in DONE keeping its rows. -/
  | capStop
  /-- CAP_SWTRIG (R387): SWTRIG is a software trigger of the capture unit. -/
  | capSwtrig
  /-- STREAM_FRAME_SEND (R395): The stream engine sends a full frame of rows on Ethernet. -/
  | streamFrameSend
  /-- STREAM_FLASH_WRITE (R396): The stream engine writes rows into flash, ending with FLASH_END or STOP_CONV. -/
  | streamFlashWrite
  /-- SNP_FIRE (R397): A snapshot source latches the image and starts its copy, or is refused with SNP_BUSY. -/
  | snpFire
  /-- SNAPSHOT_COPY_DONE (R397): The snapshot image copy to SRAM completes. -/
  | snapshotCopyDone
  /-- SNP_TCMD_GO (R399): GO of SNP_TCMD issues a timed command to cells, or refuses it with TCMD_REJ. -/
  | snpTcmdGo
  /-- TIMETABLE_EXPIRY (R424): At a boundary every expired deadline makes its thread READY with reason TIMEOUT. -/
  | timetableExpiry
  /-- LOAD_WINDOW_END (R434): At the end of each 1 ms window LOAD and RUNS of each core are updated. -/
  | loadWindowEnd
  /-- ALIVE_TOGGLE (R451): The unit's ALIVE changes level every 500 µs unless stopped. -/
  | aliveToggle
  /-- HEARTBEAT_WINDOW_END (R472): The end of the heartbeat window without a write makes HB LOST. -/
  | heartbeatWindowEnd
  /-- SBX_CFG_START (R481): START discards the words held. -/
  | sbxCfgStart
  /-- SBX_CFG_LOCK (R482): LOCK checks the configuration and locks it or raises CFG_BAD. -/
  | sbxCfgLock
  /-- GLACIER_EXPIRE (R476): The glacier timer reaching GLACIER_MAX raises GL_EXPIRE at class 3 and trips. -/
  | glacierExpire
  /-- PEER_STATUS_TIMEOUT (R473): PEER_TMO cycles without a valid peer status assert line 147 and clear PEER_OK. -/
  | peerStatusTimeout
  /-- SDL_JOIN (R502): JOIN makes an OFFLINE unit join the pair as SYNCING or ACTIVE. -/
  | sdlJoin
  /-- SDL_SWAP (R506): SWAP starts a handover on the ACTIVE unit, or is refused with SWAP_REJ. -/
  | sdlSwap
  /-- SDL_RELQ (R504): RELQ is a relinquish cause written by firmware. -/
  | sdlRelq
  /-- SDL_REJOIN (R502): REJOIN moves a RELINQUISHED unit to SYNCING. -/
  | sdlRejoin
  /-- JOIN_TIMEOUT (R502): JOIN pending for JOIN_TMO without an ACTIVE peer makes the unit ACTIVE. -/
  | joinTimeout
  /-- PEER_LOST (R505): No valid peer CTRL for TAKE_TMO cycles makes a SYNCING or STANDBY unit ACTIVE. -/
  | peerLost
  /-- CLEAR_ANSWER_TIMEOUT (R508): No answer to a clear request within 3 cycles raises CLR_REJ. -/
  | clearAnswerTimeout
  /-- REV_HOLD_EXPIRE (R506): The preferred unit STANDBY for REV_HOLD sets REV to ask for the active role back. -/
  | revHoldExpire
  /-- RLQ_RESET (R504): 1 ms after relinquishing with RLQ_RST the unit requests its own system reset. -/
  | rlqReset
  /-- OSC_STOP_DETECT (R519): No reset-oscillator edge for 1 µs engages the analogue stretcher. -/
  | oscStopDetect
  /-- STRETCH_RELEASE (R519): The stretcher releases and a Cold episode with source STRETCH runs. -/
  | stretchRelease
  /-- WDOG_ENABLE (R527): A write of EN starts the system watchdog. -/
  | wdogEnable
  /-- WDOG_PERIOD_END (R527): A period without a kick raises WDOG_WARN, and a second asserts WDOG. -/
  | wdogPeriodEnd
  /-- VSBX_UNDERVOLTAGE (R593): VSBX below 2.90 V resets the signal box and opens every low side. -/
  | vsbxUndervoltage
  /-- SEC_MARK_HEALTHY (R557): MARK_HEALTHY makes a pending running slot the active slot. -/
  | secMarkHealthy
  /-- SEC_JRN_WRITE (R545): JRN_WRITE appends a firmware journal record through SEC. -/
  | secJrnWrite
  /-- KEY_STORE_VIOLATION (R549): A core access to the key store or a glitch asserts the SEC reset source. -/
  | keyStoreViolation
  /-- ATT_START (R562): ATT_START makes SEC challenge every configured hub and cell. -/
  | attStart
  /-- TIME_BASE_CHECK_ERROR (R50): A check error in the time base state or in TIM_INC raises TB_ERR at class 2, and on an active unit is a relinquish cause. -/
  | timeBaseCheckError
  /-- GLACIER_TIMER_RESET (R476): After GL_ACTIVE has been 0 without a break for GLACIER_MAX seconds the glacier timer returns to 0, so GL_EXPIRE may be raised again. -/
  | glacierTimerReset
  /-- VSBX_RELEASE (R593): 100 µs after VSBX is again above 3.00 V the signal box leaves reset with its configuration EMPTY. -/
  | vsbxRelease
  /-- SBX_OSCILLATOR_STOP (R466): When the signal box oscillator stops, the charge pumps stop and every low side opens within 50 µs. -/
  | sbxOscillatorStop
  /-- DOMAIN_POWER_UP_DONE (R529): A domain powered up again completes stages 4 and 5 for that domain alone, BUSY clears and the domain may be used. -/
  | domainPowerUpDone
  /-- START_TIMEOUT (R536): When START_TMO expires, the cells still missing are marked retired and counted. -/
  | startTimeout
  /-- XSPI_OPERATION_DONE (R575): A flash program or erase ends, so a store that waited for the busy flash proceeds. -/
  | xspiOperationDone
  deriving DecidableEq, Repr

end Sys2Proof
end

