-- ==== Sys2Proof/Config.lean ====
section
/-! DEFINITION. What the spec leaves to the device or to cryptography, and the free values: constants without a body. -/
namespace Sys2Proof.Config

/-- A value the spec leaves open: the `n`-th free value drawn by the chip `chip`
(0 the central unit, 1 + h hub h, 0x1_0000 + c cell c). Nothing constrains it (log entry 2). -/
opaque freeValue : Nat → Nat → Nat

/-- The SHAKE256 digest of 32 bytes over a byte string, byte 0 lowest (R552, R559). Uninterpreted (log entry 3). -/
opaque shake256Bits : List Nat → BitVec 256

/-- That digest as a number. -/
def shake256 (l : List Nat) : Nat := (shake256Bits l).toNat

/-- The outcome of an ML-DSA-65 signature check: key, message digest, signature digest (R549, R553, R563).
Uninterpreted (log entry 3). -/
opaque mlDsaVerify : Nat → Nat → Nat → Bool

/-- The ML-DSA-65 signature of a message under the key of a chip (R561). Uninterpreted (log entry 3). -/
opaque mlDsaSign : Nat → List Nat → Nat

/-- The error of the engine's sine and cosine at an angle (UQ0.32), in units of 2^-30 around 0 once reduced: R238 bounds
it by 2^-22 and leaves it open within (log entry 2). The first argument tells sine (0) from cosine (1). -/
opaque trigError : Nat → Nat → Nat

/-- The angle of the vector (0, 0) that R239 does not state (log entry 2). -/
opaque zeroAngle : Nat

/-- A quotient by 0 that R239 does not state: numerator (log entry 2). -/
opaque divByZero : Int → Nat

/-- The own address of an Ethernet port, which the spec does not give (log entry 2). -/
opaque portAddress : Nat → Nat

end Sys2Proof.Config
end

