-- ==== Sys2Proof/Machine/Arith.lean ====
section
/-! DEFINITION. The arithmetic every block shares: rounding half to even and saturation (R5), two's-complement
fields, comparison by signed difference (R13, R32), bit fields and the two cyclic redundancy checks. -/
namespace Sys2Proof.Machine

/-- Division rounded to the nearest integer, ties to the even one (R5). -/
def rdiv (n : Int) (d : Nat) : Int :=
  let q := n / (d : Int)
  let r := n % (d : Int)
  if 2 * r < d then q else if 2 * r > d then q + 1 else if q % 2 = 0 then q else q + 1

/-- The signed value of a `w`-bit two's-complement field. -/
def sx (w n : Nat) : Int :=
  let m := n % 2 ^ w
  if m < 2 ^ (w - 1) then (m : Int) else (m : Int) - 2 ^ w

/-- Rounding division by a signed divisor; the quotient by 0, which no rule states, is free (log entry 2). -/
def rdivI (n d : Int) : Int :=
  if d = 0 then sx 64 (Config.divByZero n) else if d < 0 then rdiv (-n) d.natAbs else rdiv n d.natAbs

/-- Division by 2^k rounded half to even (R5). -/
def rshift (n : Int) (k : Nat) : Int := rdiv n (2 ^ k)

/-- An integer held inside `[lo, hi]` (R5). -/
def clamp (lo hi x : Int) : Int := if x < lo then lo else if hi < x then hi else x

/-- Saturation to a signed format of `w` bits (R5). -/
def satS (w : Nat) (x : Int) : Int := clamp (-(2 ^ (w - 1))) (2 ^ (w - 1) - 1) x

/-- Saturation to an unsigned format of `w` bits (R5). -/
def satU (w : Nat) (x : Int) : Int := clamp 0 (2 ^ w - 1) x

/-- The `w`-bit two's-complement field of an integer. -/
def enc (w : Nat) (x : Int) : Nat := (x % (2 ^ w : Int)).toNat

/-- Field `[lo + w - 1 : lo]` of a number. -/
def bits (v lo w : Nat) : Nat := v / 2 ^ lo % 2 ^ w

/-- Bit `n` of a number as a Bool. -/
def bitAt (v n : Nat) : Bool := v / 2 ^ n % 2 == 1

/-- `v` with bit `n` set. -/
def setBit (v n : Nat) : Nat := if bitAt v n then v else v + 2 ^ n

/-- `v` with bit `n` cleared. -/
def clrBit (v n : Nat) : Nat := if bitAt v n then v - 2 ^ n else v

/-- A Bool as a one-bit field. -/
def b2n (b : Bool) : Nat := if b then 1 else 0

/-- Signed 32-bit difference `a - b` of TS32 or DN values (R13). -/
def dnDiff (a b : Nat) : Int := sx 32 (a % 2 ^ 32 + 2 ^ 32 - b % 2 ^ 32)

/-- Signed 64-bit difference `a - b` of TS64 values (R32). -/
def tsDiff (a b : Nat) : Int := sx 64 (a % 2 ^ 64 + 2 ^ 64 - b % 2 ^ 64)

/-- A DN moved by a signed number of departures. -/
def dnAdd (a : Nat) (d : Int) : Nat := enc 32 ((a : Int) + d)

/-- A counter of `w` bits that saturates (R6). -/
def satInc (w v by_ : Nat) : Nat := min (2 ^ w - 1) (v + by_)

/-- The `n` little-endian bytes of a number. -/
def toBytes : Nat → Nat → List Nat
  | 0, _ => []
  | n + 1, v => v % 256 :: toBytes n (v / 256)

/-- The number whose little-endian bytes are given. -/
def ofBytes : List Nat → Nat
  | [] => 0
  | b :: t => b % 256 + 256 * ofBytes t

/-- One bit of a reflected CRC register. -/
def crcBits (poly : Nat) : Nat → Nat → Nat
  | 0, r => r
  | n + 1, r => crcBits poly n (if r % 2 = 1 then (r / 2) ^^^ poly else r / 2)

/-- CRC-32C (Castagnoli), reflected, initial value and final inversion all ones. -/
def crc32c (bs : List Nat) : Nat :=
  (bs.foldl (fun r b => crcBits 0x82F63B78 8 (r ^^^ (b % 256))) 0xFFFFFFFF) ^^^ 0xFFFFFFFF

/-- One bit of a most-significant-first CRC-8 register. -/
def crc8Bits (poly : Nat) : Nat → Nat → Nat
  | 0, r => r
  | n + 1, r => crc8Bits poly n (if r ≥ 128 then ((r * 2) % 256) ^^^ poly else r * 2)

/-- A CRC-8 over bytes, most significant bit first, with a polynomial and an initial value. -/
def crc8 (poly init : Nat) (bs : List Nat) : Nat :=
  bs.foldl (fun r b => crc8Bits poly 8 (r ^^^ (b % 256))) init

end Sys2Proof.Machine
end

