-- ==== Sys2Proof/Machine/Tables.lean ====
section
/-! DEFINITION. Plain data with keys: tables in rising key order, the sparse register store (R7, R10) and byte memory
in canonical form. -/
namespace Sys2Proof.Machine

/-- Values by number, keys strictly rising. -/
abbrev Tbl (α : Type) := List (Nat × α)

/-- The entry at a key. -/
def Tbl.find? {α : Type} : Tbl α → Nat → Option α
  | [], _ => none
  | (k, v) :: t, i => if k = i then some v else Tbl.find? t i

/-- The entry at a key, or what an unlisted key reads as. -/
def Tbl.get {α : Type} (t : Tbl α) (i : Nat) (d : α) : α := (Tbl.find? t i).getD d

/-- The table with the entry at a key replaced or inserted in order. -/
def Tbl.set {α : Type} : Tbl α → Nat → α → Tbl α
  | [], i, v => [(i, v)]
  | (k, x) :: t, i, v =>
    if k = i then (i, v) :: t else if i < k then (i, v) :: (k, x) :: t else (k, x) :: Tbl.set t i v

/-- The table without the entry at a key. -/
def Tbl.erase {α : Type} : Tbl α → Nat → Tbl α
  | [], _ => []
  | (k, x) :: t, i => if k = i then Tbl.erase t i else (k, x) :: Tbl.erase t i

/-- Setting with a default that is never listed. -/
def Tbl.put {α : Type} [DecidableEq α] (d : α) (t : Tbl α) (i : Nat) (v : α) : Tbl α :=
  if v = d then Tbl.erase t i else Tbl.set t i v

/-- Keys strictly rising, all above a bound. -/
def Tbl.above {α : Type} (t : Tbl α) (b : Nat) : Bool :=
  match t with
  | [] => true
  | (k, _) :: t => decide (b < k) && Tbl.above t k

/-- Keys strictly rising. -/
def Tbl.wf {α : Type} (t : Tbl α) : Bool :=
  match t with
  | [] => true
  | (k, _) :: t => Tbl.above t k

/-- How a register field answers a core (R10). -/
inductive Acc where
  | rw | ro | wo | w1c | w1s | rc | rb
  deriving DecidableEq, Repr

/-- One field of one register: address, place, access and reset value. -/
structure Fld where
  addr  : Nat
  lo    : Nat
  width : Nat
  acc   : Acc
  reset : Nat
  deriving DecidableEq, Repr

/-- A field's key in the register store: its bit address. -/
def Fld.key (f : Fld) : Nat := f.addr * 32 + f.lo

/-- The registers of one chip: the fields that differ from their reset values, by bit address. -/
abbrev Regs := Tbl Nat

/-- The value of a field, within its width: its reset value unless listed. -/
def Regs.get (r : Regs) (f : Fld) : Nat := (Tbl.find? r f.key).getD f.reset % 2 ^ f.width

/-- A field set to a value, kept to its width; a field at its reset value is not listed. -/
def Regs.set (r : Regs) (f : Fld) (v : Nat) : Regs :=
  let x := v % 2 ^ f.width
  if x = f.reset then Tbl.erase r f.key else Tbl.set r f.key x

/-- The registers after a reset that reaches the addresses from `a` below `b`: every field there at its reset value. -/
def Regs.resetRange (r : Regs) (a b : Nat) : Regs :=
  r.filter (fun e => decide (e.1 < a * 32) || decide (b * 32 ≤ e.1))

/-- Byte memory: the bytes that are not 0, by address (log entry 4: a byte nothing has written reads 0). -/
abbrev Mem := Tbl Byte

/-- One byte. -/
def Mem.byte (m : Mem) (a : Nat) : Byte := Tbl.get m a 0

/-- One byte written. -/
def Mem.setByte (m : Mem) (a : Nat) (v : Byte) : Mem := Tbl.put 0 m a v

/-- A little-endian number of `n` bytes (R7). -/
def Mem.read (m : Mem) (a : Nat) : Nat → Nat
  | 0 => 0
  | n + 1 => (Mem.byte m a).toNat + 256 * Mem.read m (a + 1) n

/-- A little-endian number of `n` bytes written (R7). -/
def Mem.write (m : Mem) (a : Nat) : Nat → Nat → Mem
  | 0, _ => m
  | n + 1, v => Mem.write (Mem.setByte m a (BitVec.ofNat 8 v)) (a + 1) n (v / 256)

/-- A run of bytes written. -/
def Mem.writeBytes (m : Mem) (a : Nat) : List Nat → Mem
  | [] => m
  | b :: t => Mem.writeBytes (Mem.setByte m a (BitVec.ofNat 8 b)) (a + 1) t

/-- A run of bytes read. -/
def Mem.readBytes (m : Mem) (a : Nat) : Nat → List Nat
  | 0 => []
  | n + 1 => (Mem.byte m a).toNat :: Mem.readBytes m (a + 1) n

/-- The canonical form: addresses strictly rising and no byte listed that an unlisted address reads as. -/
def Mem.wf (m : Mem) : Bool := Tbl.wf m && m.all (fun e => decide (e.2 ≠ 0))

end Sys2Proof.Machine
end

