-- ==== Sys2Proof/Machine/Images.lean ====
section
/-! DEFINITION. Flash, firmware images, slot records, the boot choice and attestation answers, the same on every chip
(R551 to R560, R575). Hashing and signatures are uninterpreted (log entry 3). -/
namespace Sys2Proof.Machine

/-- Flash bytes by address; an unlisted byte is erased and reads 0xFF. -/
abbrev Flash := Tbl Byte

/-- One byte. -/
def Flash.byte (f : Flash) (a : Nat) : Nat := (Tbl.get f a 255).toNat
/-- A run of bytes. -/
def Flash.bytes (f : Flash) (a : Nat) : Nat → List Nat
  | 0 => []
  | n + 1 => Flash.byte f a :: Flash.bytes f (a + 1) n
/-- A little-endian number. -/
def Flash.num (f : Flash) (a n : Nat) : Nat := ofBytes (Flash.bytes f a n)
/-- Bytes programmed. -/
def Flash.program (f : Flash) (a : Nat) : List Nat → Flash
  | [] => f
  | b :: t => Flash.program (Tbl.put 255 f a (BitVec.ofNat 8 b)) (a + 1) t
/-- A span erased. -/
def Flash.erase (f : Flash) (a n : Nat) : Flash := f.filter (fun e => decide (e.1 < a) || decide (a + n ≤ e.1))

/-- A slot record (R555): ACTIVE, PENDING, TRIES, FALLBACK. -/
structure SlotRec where
  active   : Nat
  pending  : Option Nat
  tries    : Nat
  fallback : Bool
  deriving DecidableEq, Repr

/-- The latest slot record; without one ACTIVE is 0 and nothing is pending (R555). -/
def latestSlot (rs : List SlotRec) : SlotRec := rs.getLastD ⟨0, none, 0, false⟩

/-- What a chip checks an image against (R550, R553): HW_TYPE, UNIT_ID, VENDOR_HASH, OWNER_LOCK, OWNER_HASH (0 for none), the fused anti-rollback
count, and whether UNIT_BIND and ARB are checked (R570 leaves them out for images of other chips). -/
structure Verifier where
  hwType  : Nat
  unitId  : Nat
  vendor  : Nat
  lock    : Bool
  owner   : Nat
  arb     : Nat
  own     : Bool
  deriving DecidableEq, Repr

/-- The checks on an image of a slot (R553): the status of R570. -/
def imageCheck (v : Verifier) (f : Flash) (base size : Nat) : Nat :=
  let n := fun (o w : Nat) => Flash.num f (base + o) w
  let sel := n 21 1
  if n 0 4 ≠ 0x46575142 || n 4 2 ≠ 1 || n 6 2 ≠ v.hwType || (v.own && n 8 8 ≠ 0 && n 8 8 ≠ v.unitId) || 4096 + n 24 4 > size then 2
  else if !((sel == 0 && !v.lock) || (sel == 1 && v.owner != 0)) ||
      !Config.mlDsaVerify (if sel = 0 then v.vendor else v.owner) (n 0 96) (n 96 3309) then 3
  else if n 64 32 ≠ Config.shake256 (Flash.bytes f (base + 4096) (n 24 4)) then 5
  else if v.own && decide (n 20 1 < v.arb) then 4
  else 0

/-- The outcome of the boot choice (R556): the slot started, or none for recovery; whether it is pending; the records written. -/
structure BootChoice where
  slot    : Option Nat
  pending : Bool
  recs    : List SlotRec
  fell    : Bool
  deriving DecidableEq, Repr

/-- The boot choice (R556). -/
def bootChoice (recs : List SlotRec) (accept : Nat → Bool) : BootChoice :=
  let r := latestSlot recs
  let tryActive := fun (rs : List SlotRec) (fell : Bool) =>
    if accept r.active then BootChoice.mk (some r.active) false rs fell
    else if accept (1 - r.active) then BootChoice.mk (some (1 - r.active)) false (rs ++ [SlotRec.mk (1 - r.active) none 0 false]) fell
    else BootChoice.mk none false rs fell
  match r.pending with
  | none => tryActive recs false
  | some p =>
    let up := SlotRec.mk r.active (some p) (r.tries + 1) false
    let back := SlotRec.mk r.active none 0 true
    if r.tries < 3 then
      if accept p then BootChoice.mk (some p) true (recs ++ [up]) false else tryActive (recs ++ [up, back]) true
    else tryActive (recs ++ [back]) true

/-- The attestation answer (R559): the chip's number for its key, HW_TYPE, byte 3, UNIT_ID, NONCE, M, FWD, CFG, VERSION, ARB, UNIT and
certificate. -/
def attestation (chip hw slotByte unitId nonce m fwd cfg version arb unit : Nat) (cert : List Nat) : List Nat :=
  let head := toBytes 2 hw ++ [0xC0, slotByte] ++ toBytes 8 unitId ++ toBytes 32 nonce ++ toBytes 32 m ++ toBytes 32 fwd ++
    toBytes 32 cfg ++ toBytes 4 version ++ [arb, unit, 0, 0]
  head ++ toBytes 3309 (Config.mlDsaSign chip head) ++ cert

/-- The measurement of a chip (R558). -/
def measurement (fwd cfg : Nat) : Nat := Config.shake256 (toBytes 32 fwd ++ toBytes 32 cfg)

/-- The SHAKE256 input of a set (R541). -/
def setBytes (s : List (Nat × Nat)) : List Nat := s.flatMap (fun e => toBytes 2 e.1 ++ toBytes 4 e.2)

/-- A block of an answer (R560). -/
def answerBlock (tag dest blk : Nat) (answer : List Nat) : List Nat :=
  let d := (answer.drop (56 * blk)).take 56
  [0x19, tag] ++ toBytes 2 dest ++ [blk, 157, 0, 0] ++ d ++ List.replicate (56 - d.length) 0

end Sys2Proof.Machine
end

