-- ==== Sys2Proof/Machine/JournalPages.lean ====
section
/-! DEFINITION. The journal: its pages and records, the same on the central unit and on a cell (R545, R555). -/
namespace Sys2Proof.Machine

/-- A record of the journal: its TYPE, sequence and payload. -/
structure JrnRec where
  ty      : Nat
  seq     : Nat
  payload : List Nat
  deriving DecidableEq, Repr

/-- The bytes of a record without its check word: the head and the payload padded to 4 bytes (R545). -/
def JrnRec.body (r : JrnRec) : List Nat :=
  toBytes 2 r.ty ++ toBytes 2 r.payload.length ++ toBytes 4 r.seq ++ r.payload ++
    List.replicate ((4 - r.payload.length % 4) % 4) 0

/-- The bytes of a record (R545). -/
def JrnRec.bytes (r : JrnRec) : List Nat := r.body ++ toBytes 4 (crc32c r.body)

/-- The records of a page from an offset, where the reader stops, and whether it stopped at an erased head (R545). -/
def pageRecs (f : Flash) (page : Nat) : Nat → Nat → List JrnRec × Nat × Bool
  | 0, o => ([], o, false)
  | n + 1, o =>
    if o + 12 > 4096 then ([], o, false) else
    let ty := Flash.num f (page + o) 2
    let len := Flash.num f (page + o + 2) 2
    if ty = 0xFFFF then ([], o, true) else
    let r := JrnRec.mk ty (Flash.num f (page + o + 4) 4) (Flash.bytes f (page + o + 8) len)
    let size := r.body.length
    if o + size + 4 > 4096 || Flash.num f (page + o + size) 4 ≠ crc32c (Flash.bytes f (page + o) size) then ([], o, false) else
    let t := pageRecs f page n (o + size + 4)
    (r :: t.1, t.2)

/-- A page put in rising PSEQ. -/
def pageInsert (p : Nat × Nat) : List (Nat × Nat) → List (Nat × Nat)
  | [] => [p]
  | q :: t => if p.1 ≤ q.1 then p :: q :: t else q :: pageInsert p t

/-- The valid pages of a journal as PSEQ and address, in rising PSEQ (R545). -/
def journalPages (f : Flash) (base len : Nat) : List (Nat × Nat) :=
  (List.range (len / 4096)).foldl (fun (ps : List (Nat × Nat)) k =>
    let a := base + 4096 * k
    if Flash.num f a 2 = 0x4A52 then pageInsert (Flash.num f (a + 4) 4, a) ps else ps) []

/-- The records that a reader finds: those of the valid page with the highest PSEQ, oldest first (R545). -/
def journalRecs (f : Flash) (base len : Nat) : List JrnRec :=
  match (journalPages f base len).getLast? with
  | none => []
  | some p => (pageRecs f p.2 400 16).1

/-- The records that a new page takes over: the latest retirement record and the latest slot record, but none of TYPE `ty` (log entry
108). -/
def carried (ty : Nat) (rs : List JrnRec) : List JrnRec :=
  ([1, 2].filter (· != ty)).filterMap (fun t => (rs.filter (fun r => r.ty == t)).getLast?)

/-- The bytes that records take. -/
def recsBytes (rs : List JrnRec) : List Nat := rs.flatMap JrnRec.bytes

/-- The next page begun with records (R545): it is erased, and where the writer keeps its next page erased, so is the one after it. -/
def journalBegin (f : Flash) (base len : Nat) (ahead : Bool) (rs : List JrnRec) : Flash :=
  let last := (journalPages f base len).getLast?
  let next := fun (a : Nat) => base + (a - base + 4096) % (len / 4096 * 4096)
  let psq := (last.map (fun p => p.1 + 1)).getD 1
  let a := (last.map (fun p => next p.2)).getD base
  let head := [0x52, 0x4A, 0xFF, 0xFF] ++ toBytes 4 psq ++ List.replicate 8 0xFF
  let f := Flash.program (Flash.erase f a 4096) a (head ++ recsBytes rs)
  if ahead then Flash.erase f (next a) 4096 else f

/-- A record appended (R545): on the page of the highest PSEQ while it has erased room, else on a new page, which takes the retirement and
slot records over; where it has no room for them beside the record, they stand on one page more. -/
def journalAppend (f : Flash) (base len : Nat) (ahead : Bool) (ty : Nat) (payload : List Nat) : Flash :=
  let rs := journalRecs f base len
  let r := JrnRec.mk ty ((rs.getLast?.map (fun r => r.seq + 1)).getD 0) payload
  let b := r.bytes
  let here := match (journalPages f base len).getLast? with
    | none => none
    | some p =>
      let e := pageRecs f p.2 400 16
      if e.2.2 && decide (e.2.1 + b.length ≤ 4096) then some (p.2 + e.2.1) else none
  match here with
  | some a => Flash.program f a b
  | none =>
    let keep := carried ty rs
    if 16 + (recsBytes keep).length + b.length ≤ 4096 then journalBegin f base len ahead (keep ++ [r])
    else journalBegin (journalBegin f base len ahead [r]) base len ahead keep

/-- The records of a TYPE that a reader no longer finds: a new page takes the others over (R206, log entry 108). -/
def journalDrop (f : Flash) (base len : Nat) (ahead : Bool) (ty : Nat) : Flash :=
  journalBegin f base len ahead (carried ty (journalRecs f base len))

/-- The slot records of a journal, oldest first (R555). -/
def journalSlots (f : Flash) (base len : Nat) : List SlotRec :=
  ((journalRecs f base len).filter (fun r => r.ty == 2)).map (fun r =>
    let b := fun (i : Nat) => r.payload.getD i 0
    SlotRec.mk (b 0 % 2) (if b 1 = 0xFF then none else some (b 1 % 2)) (b 2) (bitAt (b 3) 0))

/-- The payload of a slot record (R555). -/
def SlotRec.bytes (r : SlotRec) : List Nat := [r.active, r.pending.getD 0xFF, r.tries, b2n r.fallback, 0, 0, 0, 0]

end Sys2Proof.Machine
end

