-- ==== Sys2Proof/Machine/EthFrames.lean ====
section
/-! DEFINITION. The octets of Ethernet frames: addresses, IEEE 802.1Q tag, EtherType, the PRP trailer and the HSR tag of IEC 62439-3, the
FCS (R271 to R273; the layouts are those of the standards that R271 names, log entry 129); IPv4, UDP and SLIP of the recovery protocol
(R568, log entry 133). -/
namespace Sys2Proof.Machine
namespace Eth

/-- Two octets, most significant first. -/
def at16 (o : List Nat) (n : Nat) : Nat := o.getD n 0 % 256 * 256 + o.getD (n + 1) 0 % 256

/-- A 48-bit address: the destination at 0, the source at 6. -/
def mac (o : List Nat) (n : Nat) : Nat := at16 o n * 2 ^ 32 + at16 o (n + 2) * 2 ^ 16 + at16 o (n + 4)

/-- Whether a frame carries an IEEE 802.1Q tag. -/
def tagged (o : List Nat) : Bool := at16 o 12 == 0x8100

/-- The VID of a tagged frame. -/
def vid (o : List Nat) : Option Nat := if tagged o then some (at16 o 14 % 4096) else none

/-- The place of the EtherType. -/
def base (o : List Nat) : Nat := if tagged o then 16 else 12

/-- The EtherType. -/
def etherType (o : List Nat) : Nat := at16 o (base o)

/-- Whether a destination is a broadcast or multicast address. -/
def toGroup (o : List Nat) : Bool := o.getD 0 0 % 2 == 1

/-- The path and the sequence number of the HSR tag, where a frame has one. -/
def hsrTag (o : List Nat) : Option (Nat × Nat) :=
  if etherType o = 0x892F then some (o.getD (base o + 2) 0 / 16 % 16, at16 o (base o + 4)) else none

/-- A frame without its HSR tag. -/
def hsrStrip (o : List Nat) : List Nat := o.take (base o) ++ o.drop (base o + 6)

/-- A frame with an HSR tag of a path and a sequence number, its LSDU size counted with the tag. -/
def hsrAdd (path seq : Nat) (o : List Nat) : List Nat :=
  let size := o.length + 6 - (base o + 2)
  o.take (base o) ++ [0x89, 0x2F, path * 16 + size / 256 % 16, size % 256, seq / 256 % 256, seq % 256] ++ o.drop (base o)

/-- The LAN identifier and the sequence number of the PRP trailer, where a frame ends with one of its size. -/
def rct (o : List Nat) : Option (Nat × Nat) :=
  let n := o.length
  let sized := at16 o (n - 4) % 4096 + base o + 2 == n
  if n ≥ base o + 8 && at16 o (n - 2) == 0x88FB && sized then some (o.getD (n - 4) 0 / 16 % 16, at16 o (n - 6)) else none

/-- A frame without its PRP trailer. -/
def rctStrip (o : List Nat) : List Nat := o.take (o.length - 6)

/-- A frame with a PRP trailer of a LAN identifier and a sequence number, its LSDU size counted with the trailer. -/
def rctAdd (lan seq : Nat) (o : List Nat) : List Nat :=
  let size := o.length + 6 - (base o + 2)
  o ++ [seq / 256 % 256, seq % 256, lan * 16 + size / 256 % 16, size % 256, 0x88, 0xFB]

/-- The FCS of a frame in the order of its octets. -/
def fcs (o : List Nat) : List Nat :=
  toBytes 4 ((o.foldl (fun r b => crcBits 0xEDB88320 8 (r ^^^ (b % 256))) 0xFFFFFFFF) ^^^ 0xFFFFFFFF)

/-- The messageType of a PTP message. -/
def ptpType (o : List Nat) : Nat := o.getD (base o + 2) 0 % 16
/-- Its domainNumber. -/
def ptpDomain (o : List Nat) : Nat := o.getD (base o + 6) 0 % 256
/-- Its sequenceId. -/
def ptpSeq (o : List Nat) : Nat := at16 o (base o + 32)
/-- Whether it is an event message. -/
def ptpEvent (o : List Nat) : Bool := decide (ptpType o < 4)

/-- A number of `n` octets, most significant first. -/
def msb (n v : Nat) : List Nat := (toBytes n v).reverse

/-- The sum of the 16-bit words of a list, most significant octet first, an odd last octet filled with 0. -/
def wordSum : List Nat → Nat
  | a :: b :: t => a % 256 * 256 + b % 256 + wordSum t
  | [a] => a % 256 * 256
  | [] => 0

/-- The ones' complement sum of 16-bit words, from their sum. -/
def fold16 (n : Nat) : Nat := if n = 0 then 0 else (n - 1) % 65535 + 1

/-- The words that a UDP checksum covers: addresses, protocol and length, then the datagram. -/
def udpSum (addrs datagram : List Nat) : Nat := fold16 (wordSum addrs + 17 + datagram.length + wordSum datagram)

/-- The data of a UDP datagram to `port` that an untagged frame carries to the address `own` or to broadcast: no IP options, no fragment,
a right header checksum, a UDP checksum of 0 or a right one (R568). -/
def udpData (own port : Nat) (o : List Nat) : Option (List Nat) :=
  let total := at16 o 16
  let len := at16 o 38
  let dg := (o.drop 34).take len
  if (mac o 0 == own || mac o 0 == 0xFFFFFFFFFFFF) && at16 o 12 == 0x0800 && o.getD 14 0 == 0x45 && decide (28 ≤ total) &&
      decide (14 + total ≤ o.length) && at16 o 20 % 0x4000 == 0 && o.getD 23 0 == 17 && fold16 (wordSum ((o.drop 14).take 20)) == 0xFFFF &&
      at16 o 36 == port && decide (8 ≤ len) && decide (20 + len ≤ total) &&
      (at16 o 40 == 0 || udpSum ((o.drop 26).take 8) dg == 0xFFFF)
  then some (dg.drop 8) else none

/-- The frame that carries `data` back to the sender of the frame `o`: the addresses and ports the other way round, both checksums, the
octets to 60, the FCS (R568). The type of service, the identification and the time to live are what `free` holds. -/
def udpReply (own : Nat) (o : List Nat) (free : Nat) (data : List Nat) : List Nat :=
  let addrs := (o.drop 30).take 4 ++ (o.drop 26).take 4
  let size := 8 + data.length
  let ports := (o.drop 36).take 2 ++ (o.drop 34).take 2 ++ msb 2 size
  let sum := 65535 - udpSum addrs (ports ++ [0, 0] ++ data)
  let head := [0x45, free % 256] ++ msb 2 (20 + size) ++ msb 2 (free / 256) ++ [0, 0, free / 2 ^ 24 % 256, 17]
  let ip := head ++ msb 2 (65535 - fold16 (wordSum head + wordSum addrs)) ++ addrs
  let f := (o.drop 6).take 6 ++ msb 6 own ++ [8, 0] ++ ip ++ ports ++ msb 2 (if sum = 0 then 65535 else sum) ++ data
  let f := f ++ List.replicate (60 - f.length) 0
  f ++ fcs f

/-- The octets of SLIP frames between their END octets, the escapes undone; none where an escape or an END stands wrong. -/
def slipRead : List Nat → Option (List Nat)
  | 0xDB :: 0xDC :: t => (slipRead t).map (0xC0 :: ·)
  | 0xDB :: 0xDD :: t => (slipRead t).map (0xDB :: ·)
  | 0xDB :: _ => none
  | 0xC0 :: t => if t.all (· == 0xC0) then some [] else none
  | b :: t => (slipRead t).map (b :: ·)
  | [] => none

/-- A message in SLIP, an END before and after it (RFC 1055). -/
def slipSend (m : List Nat) : List Nat :=
  [0xC0] ++ m.flatMap (fun b => if b = 0xC0 then [0xDB, 0xDC] else if b = 0xDB then [0xDB, 0xDD] else [b]) ++ [0xC0]

/-- The message in the octets of one SLIP frame, followed by the CRC-32C of R310 over it (R568). -/
def slipMessage (o : List Nat) : Option (List Nat) :=
  match slipRead (o.dropWhile (· == 0xC0)) with
  | some m =>
    let n := m.length - 4
    if 4 ≤ m.length && ofBytes (m.drop n) == crc32c (m.take n) then some (m.take n) else none
  | none => none

end Eth
end Sys2Proof.Machine
end

