-- ==== Sys2Proof/Machine/LineCode.lean ====
section
/-! DEFINITION. What stands on a serial line: the scrambled 66-bit blocks and the 8b/10b code groups of training, the training they
carry, and the test patterns (R255, R286 to R288, R290, R296, R297). The 8b/10b tables are those of IEEE 802.3 Clause 36, which R286
names (log entry 130). -/
namespace Sys2Proof.Machine

/-- A 66-bit block's 64 bits descrambled by x^58 + x^39 + 1: `prior` are the 58 line bits before them, the latest in bit 57, and the
first bit on the line is bit 0 (R286). -/
def descramble (prior bits : Nat) : Nat :=
  let w := prior + bits * 2 ^ 58
  ((w >>> 58) ^^^ (w >>> 19) ^^^ w) % 2 ^ 64

/-- The 64 line bits of a block scrambled behind the 58 line bits before it (R286). -/
def scramble (prior data : Nat) : Nat :=
  let lo := (data ^^^ (prior >>> 19) ^^^ prior) % 2 ^ 39
  let w := prior + lo * 2 ^ 58
  let hi := ((data >>> 39) ^^^ (w >>> 58) ^^^ (w >>> 39)) % 2 ^ 25
  lo + hi * 2 ^ 39

/-- The 5b/6b codes of D0 to D31 at negative running disparity, the bit sent first leftmost. -/
def code6 : List Nat :=
  [0b100111, 0b011101, 0b101101, 0b110001, 0b110101, 0b101001, 0b011001, 0b111000, 0b111001, 0b100101, 0b010101, 0b110100, 0b001101,
    0b101100, 0b011100, 0b010111, 0b011011, 0b100011, 0b010011, 0b110010, 0b001011, 0b101010, 0b011010, 0b111010, 0b110011, 0b100110,
    0b010110, 0b110110, 0b001110, 0b101110, 0b011110, 0b101011]

/-- The 3b/4b codes of Dx.0 to Dx.7 at negative running disparity. -/
def code4 : List Nat := [0b1011, 0b1001, 0b0101, 0b1100, 0b1101, 0b1010, 0b0110, 0b1110]

/-- The ones among the lowest bits of a number. -/
def ones : Nat → Nat → Nat
  | 0, _ => 0
  | n + 1, v => v % 2 + ones n (v / 2)

/-- A sub-block of `n` bits at a running disparity, given at the negative one: an unbalanced one, and a balanced one that has two
forms, is complemented at the positive disparity. The disparity after it. -/
def subBlock (n : Nat) (plus twoForms : Bool) (c : Nat) : Nat × Bool :=
  let even := decide (2 * ones n c = n)
  (if plus && (!even || twoForms) then 2 ^ n - 1 - c else c, plus != !even)

/-- The code group of a data character at a running disparity, and the disparity after it. -/
def dataGroup (plus : Bool) (v : Nat) : Nat × Bool :=
  let x := v % 32
  let y := v / 32 % 8
  let s := subBlock 6 plus (x == 7) (code6.getD x 0)
  let alt := y == 7 && (if s.2 then x == 11 || x == 13 || x == 14 else x == 17 || x == 18 || x == 20)
  let f := subBlock 4 s.2 (y == 3) (if alt then 0b0111 else code4.getD y 0)
  (s.1 * 16 + f.1, f.2)

/-- The code group of K28.5 at a running disparity; the disparity after it is the other one. -/
def k28_5 (plus : Bool) : Nat := if plus then 0b1100000101 else 0b0011111010

/-- The data character of a code group at a running disparity, and the disparity after it. -/
def readGroup (plus : Bool) (g : Nat) : Option (Nat × Bool) :=
  match (List.range 32).find? (fun x => (subBlock 6 plus (x == 7) (code6.getD x 0)).1 == g / 16) with
  | none => none
  | some x => ((List.range 8).find? (fun y => (dataGroup plus (x + 32 * y)).1 == g)).map (fun y =>
      (x + 32 * y, (dataGroup plus (x + 32 * y)).2))

/-- The data characters of code groups in turn. -/
def readGroups : Bool → List Nat → Option (List Nat)
  | _, [] => some []
  | plus, g :: rest =>
    match readGroup plus g with
    | none => none
    | some r => (readGroups r.2 rest).map (fun l => r.1 :: l)

/-- The code groups of data characters in turn. -/
def sendGroups : Bool → List Nat → List Nat
  | _, [] => []
  | plus, v :: rest => (dataGroup plus v).1 :: sendGroups (dataGroup plus v).2 rest

/-- What training says of its sender (R287, R288): the role (unit A 0, unit B 1, hub 2, cell port U 3, cell port D 4), GROUP, LINK,
the logical lane, the lanes in the link. -/
structure Sender where
  role  : Nat
  group : Nat
  link  : Nat
  lane  : Nat
  lanes : Nat
  deriving DecidableEq, Repr

/-- A training block or set as received: whether it came complemented, its sender, RDY, TSEQ. -/
structure TrainIn where
  compl : Bool
  who   : Sender
  rdy   : Bool
  tseq  : Nat
  deriving DecidableEq, Repr

/-- The CRC-8 of R255. -/
def chk8 (bs : List Nat) : Nat := crc8 0x2F 0xFF bs

/-- A training block (R287). -/
def trainingBlock (w : Sender) (rdy : Bool) (tseq : Nat) : List Nat :=
  let b := [0xD2, w.lane + 16 * w.lanes, w.role + 4 * b2n rdy + 8 * w.group, w.link] ++ toBytes 2 tseq ++ [0]
  b ++ [chk8 b]

/-- The characters of a training set behind its K28.5 (R288). -/
def trainingSet (w : Sender) (rdy : Bool) (tseq : Nat) : List Nat :=
  let b := [w.role, b2n rdy] ++ toBytes 2 tseq
  [0xB5, 0xB5] ++ b ++ [chk8 b]

/-- A training block with a good check, of its eight bytes (R287). -/
def readBlock (compl : Bool) (b : List Nat) : Option TrainIn :=
  if b.headD 0 ≠ 0xD2 || b.getD 7 0 ≠ chk8 (b.take 7) then none
  else some ⟨compl, ⟨b.getD 2 0 % 4, bits (b.getD 2 0) 3 1, b.getD 3 0, b.getD 1 0 % 16, b.getD 1 0 / 16⟩, bitAt (b.getD 2 0) 2,
    b.getD 4 0 + 256 * b.getD 5 0⟩

/-- A training set with a good check, of its eight code groups (R288). -/
def readSet (compl : Bool) (gs : List Nat) : Option TrainIn :=
  match gs with
  | [] => none
  | k :: rest =>
    match (if k = k28_5 false then readGroups true rest else if k = k28_5 true then readGroups false rest else none) with
    | none => none
    | some c =>
      if c.take 2 ≠ [0xB5, 0xB5] || c.getD 6 0 ≠ chk8 ((c.drop 2).take 4) then none
      else some ⟨compl, ⟨c.getD 2 0, 0, 0, 0, 1⟩, bitAt (c.getD 3 0) 0, c.getD 4 0 + 256 * c.getD 5 0⟩

/-- The code groups that are no data character at their running disparity, which the next one takes as the group leaves it (R289). -/
def groupErrors : Bool → List Nat → Nat
  | _, [] => 0
  | plus, g :: rest =>
    match readGroup plus g with
    | some r => groupErrors r.2 rest
    | none => 1 + groupErrors (plus != (ones 10 g != 5)) rest

/-- The code errors of a training set (R288, R289): its first group is K28.5. -/
def setErrors : List Nat → Nat
  | [] => 0
  | k :: rest =>
    if k = k28_5 false then groupErrors true rest
    else if k = k28_5 true then groupErrors false rest
    else 1 + groupErrors (decide (ones 10 k > 5)) rest

/-- What a lane receives, read as training, plain or complemented: an inverted lane turns sync header 0b10 into 0b01, and gives the
complement of the block that was sent (R290). -/
def readTraining : Training → Option TrainIn
  | .block prior header line _ =>
    let d := descramble prior line
    if header = 2 then readBlock false (toBytes 8 d)
    else if header = 1 then readBlock true (toBytes 8 (2 ^ 64 - 1 - d))
    else none
  | .set gs =>
    match readSet false gs with
    | some t => some t
    | none => readSet true (gs.map (fun g => 1023 - g))

/-- The exponents of a test pattern's polynomial (R296). -/
def prbsTaps (code : Nat) : Nat × Nat :=
  if code = 1 then (7, 6) else if code = 2 then (15, 14) else if code = 3 then (23, 18) else (31, 28)

/-- The next bit of a pattern behind the latest bits, the latest in bit 0 (R296). -/
def prbsNext (code reg : Nat) : Bool := bitAt reg ((prbsTaps code).1 - 1) != bitAt reg ((prbsTaps code).2 - 1)

/-- A generator's bits all ones (log entry 168). -/
def onesSeed : Nat := 2 ^ 31 - 1

/-- The next bits of a pattern, and the latest 31 bits behind them (R296). -/
def patternBits (code : Nat) : Nat → Nat → List Bool × Nat
  | 0, reg => ([], reg)
  | n + 1, reg =>
    let x := prbsNext code reg
    let r := patternBits code n ((reg * 2 + b2n x) % 2 ^ 31)
    (x :: r.1, r.2)

/-- A pattern checker (R297): the latest bits of its pattern, how many of them it holds, the bits that have agreed in a row while it
seeds, the bits since its lock, and where the latest errors fell among them. -/
structure Checker where
  reg   : Nat
  held  : Nat
  agree : Nat
  seen  : Nat
  errs  : List Nat
  deriving DecidableEq, Repr

/-- A checker that seeds anew. -/
def Checker.zero : Checker := ⟨0, 0, 0, 0, []⟩

/-- One received bit at a checker: whether it stays or becomes locked, whether the bit counts as an error (R297). -/
def Checker.bit (k : Checker) (code : Nat) (lock x : Bool) : Checker × Bool × Bool :=
  let shift := fun (v : Bool) => (k.reg * 2 + b2n v) % 2 ^ 31
  let next := prbsNext code k.reg
  let w := (prbsTaps code).1
  if lock then
    let wrong := x != next
    let errs := if wrong then (k.seen :: k.errs).take 64 else k.errs
    let lost := wrong && errs.length == 64 && decide (k.seen < errs.getD 63 0 + 1024)
    (if lost then Checker.zero else { k with reg := shift next, seen := k.seen + 1, errs := errs }, !lost, wrong)
  else
    let ok := decide (w ≤ k.held) && k.reg % 2 ^ w != 0 && x == next
    let agree := if ok then k.agree + 1 else 0
    if agree ≥ 64 then ({ Checker.zero with reg := shift x }, true, false)
    else ({ k with reg := shift x, held := min 31 (k.held + 1), agree := agree }, false, false)

end Sys2Proof.Machine
end

