-- ==== Sys2Proof/Machine/Frames.lean ====
section
/-! DEFINITION. The frames between the chips, octet by octet: Trackway frames, Mainline blocks and frames, mailboxes (R307, R309, R310,
R314, R326 to R329, R331, R335, R336, R353, R354, R488 to R491, R497, R541, R560, R565). -/
namespace Sys2Proof.Machine

/-- `n` little-endian bytes from byte `o` on. -/
def le (b : List Nat) (o n : Nat) : Nat := ofBytes ((b.drop o).take n)
/-- One byte. -/
def octet (b : List Nat) (o : Nat) : Nat := b.getD o 0
/-- Octets put in place of those from an offset on. -/
def putAt (b : List Nat) (o : Nat) (v : List Nat) : List Nat := b.take o ++ v ++ b.drop (o + v.length)
/-- Zero bytes. -/
def zeros (n : Nat) : List Nat := List.replicate n 0
/-- A message filled up to the 64 bytes of a mailbox (R335). -/
def mailbox (o : List Nat) : List Nat := o ++ zeros (64 - o.length)

/-! ## Trackway -/

/-- K28.5 as a character of a Trackway lane: control characters stand above 255. -/
def charK28_5 : Nat := 256 + 0xBC
/-- K28.7 as a character of a Trackway lane. -/
def charK28_7 : Nat := 256 + 0xFC

/-- A Trackway frame as the fields of R309 name it; the reports by position. -/
structure TwFrame where
  hop      : Nat
  endB     : Bool
  dn       : Nat
  resid    : Nat
  ahead    : Nat
  loopCid  : Nat
  tcmd     : Nat
  tcmdDn   : Nat
  cstat    : List Nat
  mbx      : List Nat
  avl      : Bool
  avClr    : Bool
  held     : Bool
  act      : Bool
  unitB    : Bool
  states   : Nat
  grants   : Nat
  trimCid  : Nat
  trimDuty : Nat
  rpts     : List (Nat × List Nat)
  deriving DecidableEq, Repr

/-- The fields of a frame's characters (R309). -/
def readTw (c : List Nat) : TwFrame :=
  let b := c.map (fun v => v % 256)
  let flags := octet b 88
  { hop := octet b 1 % 16, endB := bitAt (octet b 1) 4, dn := le b 2 4, resid := le b 6 2, ahead := octet b 8, loopCid := le b 9 2 % 32768,
    tcmd := octet b 11, tcmdDn := le b 12 4, cstat := (b.drop 16).take 8, mbx := (b.drop 24).take 64, avl := bitAt flags 0,
    avClr := bitAt flags 1, held := bitAt flags 2, act := bitAt flags 3, unitB := bitAt flags 4, states := le b 89 4, grants := octet b 93,
    trimCid := le b 94 2, trimDuty := le b 96 2, rpts := (List.range 8).map (fun p => (p, (b.drop (98 + 16 * p)).take 16)) }

/-- The characters of a frame without its CRC (R309). -/
def sendTw (f : TwFrame) : List Nat :=
  let slots := (List.range 8).flatMap (fun p => match f.rpts.find? (fun e => e.1 == p) with
    | some e => e.2
    | none => zeros 16)
  [charK28_5, f.hop + 16 * b2n f.endB] ++ toBytes 4 f.dn ++ toBytes 2 f.resid ++ [f.ahead] ++ toBytes 2 f.loopCid ++ [f.tcmd] ++
    toBytes 4 f.tcmdDn ++ f.cstat ++ f.mbx ++
    [b2n f.avl + 2 * b2n f.avClr + 4 * b2n f.held + 8 * b2n f.act + 16 * b2n f.unitB] ++ toBytes 4 f.states ++ [f.grants] ++
    toBytes 2 f.trimCid ++ toBytes 2 f.trimDuty ++ slots ++ zeros 20

/-- The correct CRC of a frame: over characters 1 to 245 (R310). -/
def twCrc (c : List Nat) : Nat := crc32c ((c.drop 1).take 245)
/-- All bits of a CRC complemented. -/
def flipCrc (v : Nat) : Nat := v ^^^ 0xFFFFFFFF

/-- A frame closed with its CRC, or stomped with the complement (R310). -/
def sealTw (c : List Nat) (stomped : Bool) : List Nat :=
  c.take 246 ++ toBytes 4 (if stomped then flipCrc (twCrc c) else twCrc c)

/-- What a received frame's check finds (R307, R310, R314): a character lost to K28.7, another control character or code error behind
character 0, the correct CRC, its complement, or another. -/
def twCheck (c : List Nat) : Check :=
  if c.contains charK28_7 then .cut
  else if (c.drop 1).any (fun v => decide (256 ≤ v)) then .bad
  else if le c 246 4 = twCrc c then .good
  else if le c 246 4 = flipCrc (twCrc c) then .stomped
  else .bad

/-- The code errors of a frame, character by character (R307). -/
def twErrors (c : List Nat) : List Bool := false :: (c.drop 1).map (fun v => decide (256 ≤ v) && v != charK28_7)

/-! ## Mainline -/

/-- A 66-bit block descrambled: its sync header, 1 for 0b01 (data) or 2 for 0b10, and its eight bytes (R286, R326). -/
abbrev Block := Nat × List Nat

/-- A control block of a type with its bytes 1 to 7 (R326). -/
def control (type : Nat) (b : List Nat) : Block := (2, type :: (b ++ zeros (7 - b.length)))

/-- The data blocks of a frame. -/
def dataBlocks : List Nat → Nat → List Block
  | _, 0 => []
  | b, n + 1 => (1, b.take 8) :: dataBlocks (b.drop 8) n

/-- The blocks of a frame: START, data, END with its CRC (R326). -/
def sendBlocks (f : List Nat) : List Block :=
  control 0x78 (f.take 7) :: dataBlocks (f.drop 7) ((f.length - 7) / 8) ++ [control 0xE1 (toBytes 4 (crc32c f))]

/-- The frame bytes of the blocks behind START, and the CRC of END; nothing where another block interrupts them (R326). -/
def readData : List Block → Option (List Nat × Nat)
  | [] => none
  | (h, b) :: rest =>
    if h = 1 then (readData rest).map (fun r => (b ++ r.1, r.2))
    else if h = 2 && octet b 0 == 0xE1 && rest.isEmpty then some ([], le b 1 4)
    else none

/-- The bytes of a frame that passes its check (R326). -/
def readBlocks : List Block → Option (List Nat)
  | [] => none
  | (h, b) :: rest =>
    if h = 2 && octet b 0 == 0x78 then
      match readData rest with
      | some r => if r.2 = crc32c (b.drop 1 ++ r.1) then some (b.drop 1 ++ r.1) else none
      | none => none
    else none

/-- The AVALANCHE control block (R326). -/
def avalancheBlock : Block := control 0x5A (List.replicate 7 0x3C)
/-- An avalanche as it is sent: four blocks back to back (R327). -/
def avalancheBlocks : List Block := List.replicate 4 avalancheBlock

/-- A HUB_SET (R354): SEQ, EFF_DN, L, TW_OFS in units of 4 ns, the SIZE of each loop. -/
structure HubSet where
  seq   : Nat
  effDn : Nat
  lead  : Nat
  twOfs : Nat
  sizes : List Nat
  deriving DecidableEq, Repr

/-- The loop sizes of a hub as a HUB_SET carries them (R354). -/
def sizeBytes (s : List Nat) : List Nat := (List.range 32).map (fun i => s.getD (2 * i) 0 % 16 + s.getD (2 * i + 1) 0 % 16 * 16)

/-- A HUB_SET's mailbox (R354). -/
def HubSet.bytes (s : HubSet) : List Nat :=
  mailbox ([0x84, s.seq] ++ toBytes 4 s.effDn ++ [s.lead, 0] ++ toBytes 2 s.twOfs ++ zeros 6 ++ sizeBytes s.sizes)

/-- A HUB_SET of a mailbox (R354). -/
def readHubSet (o : List Nat) : HubSet :=
  ⟨octet o 1, le o 2 4, octet o 6, le o 8 2, (List.range 64).map (fun l => bits (octet o (16 + l / 2)) (4 * (l % 2)) 4)⟩

/-- A register request to the management core of a hub (R354, R366). -/
structure RegReq where
  tag    : Nat
  op     : Nat
  count  : Nat
  addr   : Nat
  values : List Nat
  deriving DecidableEq, Repr

/-- A register request of a mailbox (R354). -/
def readRegReq (o : List Nat) : RegReq :=
  ⟨octet o 1, octet o 2, octet o 3, le o 4 4, (List.range 12).map (fun i => le o (8 + 4 * i) 4)⟩

/-- A mailbox entry of an ORDER frame (R329): whether it is for the management core, its loop, its mailbox. -/
structure OrderEntry where
  hubMgt : Bool
  loop   : Nat
  mbx    : List Nat
  deriving DecidableEq, Repr

/-- The flags of a frame from a unit (R309, R329). -/
structure OrderFlags where
  avl   : Bool
  avClr : Bool
  held  : Bool
  act   : Bool
  unitB : Bool
  deriving DecidableEq, Repr

/-- FLAGS as a byte (R309). -/
def OrderFlags.byte (f : OrderFlags) : Nat := b2n f.avl + 2 * b2n f.avClr + 4 * b2n f.held + 8 * b2n f.act + 16 * b2n f.unitB

/-- An ORDER frame as the fields of R329 name it: STATES and GRANTS by loop, the mailbox entries. -/
structure OrderFrame where
  flags    : OrderFlags
  dn       : Nat
  residM   : Nat
  hub      : Nat
  trimCid  : Nat
  trimDuty : Nat
  tcmd     : Nat
  tcmdDn   : Nat
  states   : List Nat
  grants   : List Nat
  entries  : List OrderEntry
  deriving DecidableEq, Repr

/-- The bytes of an entry (R329). -/
def OrderEntry.bytes (e : OrderEntry) : List Nat := [e.loop % 64 + 64 * b2n e.hubMgt] ++ zeros 7 ++ e.mbx

/-- The bytes of an ORDER frame (R329). -/
def OrderFrame.bytes (f : OrderFrame) : List Nat :=
  [1, f.flags.byte] ++ toBytes 4 f.dn ++ [f.residM, f.hub] ++ toBytes 2 f.trimCid ++ toBytes 2 f.trimDuty ++ [f.tcmd] ++ toBytes 4 f.tcmdDn ++
    zeros 7 ++ f.states.flatMap (toBytes 4) ++ f.grants ++ [f.entries.length] ++ zeros 6 ++ f.entries.flatMap OrderEntry.bytes

/-- The flags of a byte (R309). -/
def readFlags (v : Nat) : OrderFlags := ⟨bitAt v 0, bitAt v 1, bitAt v 2, bitAt v 3, bitAt v 4⟩

/-- An ORDER frame of its bytes (R329). -/
def readOrder (b : List Nat) : OrderFrame :=
  { flags := readFlags (octet b 1), dn := le b 2 4, residM := octet b 6, hub := octet b 7, trimCid := le b 8 2, trimDuty := le b 10 2,
    tcmd := octet b 12, tcmdDn := le b 13 4, states := (List.range 64).map (fun l => le b (24 + 4 * l) 4),
    grants := (b.drop 280).take 64,
    entries := (List.range (min 8 (octet b 344))).map (fun k =>
      let d := octet b (351 + 72 * k)
      ⟨bitAt d 6, d % 64, mailbox ((b.drop (359 + 72 * k)).take 64)⟩) }

/-- A LOOP frame (R331): the reports by position, ascending. -/
def loopBytes (l : Nat) (laneB : Bool) (dn : Nat) (rs : List (Nat × List Nat)) : List Nat :=
  [2, l % 64 + 64 * b2n laneB] ++ toBytes 4 dn ++ [rs.foldl (fun m e => setBit m e.1) 0] ++ rs.flatMap (fun e => e.2)

/-- The reports of a LOOP frame by position (R331). -/
def readLoop (b : List Nat) : List (Nat × List Nat) :=
  let ps := (List.range 8).filter (fun p => bitAt (octet b 6) p)
  ps.zipIdx.map (fun e => (e.1, (b.drop (7 + 16 * e.2)).take 16))

/-- A MAIL frame (R331). -/
def mailBytes (l : Nat) (hubMgt laneB : Bool) (dn : Nat) (o : List Nat) : List Nat :=
  [5, l % 64 + 64 * b2n hubMgt + 128 * b2n laneB] ++ toBytes 4 dn ++ [0] ++ mailbox o

/-- A NOTICE frame (R331). -/
def noticeBytes (kind dn cid : Nat) : List Nat := [6, kind] ++ toBytes 4 dn ++ [0] ++ toBytes 2 cid ++ zeros 6

/-- A TIME frame (R331). -/
def timeBytes (f : OrderFlags) (dn state ts era : Nat) : List Nat :=
  [3, f.byte] ++ toBytes 4 dn ++ [state] ++ toBytes 8 ts ++ toBytes 2 era ++ zeros 6

/-! ## Siding -/

/-- The RELINQUISH control block as it is sent: four blocks back to back (R488). -/
def relinquishBlock : Block := control 0x4B (List.replicate 7 0xB4)
/-- The PEER_RESET control block (R526). -/
def peerResetBlock : Block := control 0x66 (List.replicate 7 0x99)
/-- The entries of a LOOP section (R490). -/
def slotBytes (m : SlotMirror) : List Nat :=
  [m.slot, b2n m.locked] ++ toBytes 2 m.feCnt ++ zeros 4 ++ (List.range 8).flatMap (fun k => toBytes 4 (m.state.getD k 0))
/-- An entry of an FRN section (R490). -/
def frnBytes (m : FrnMirror) : List Nat :=
  toBytes 8 (enc 64 m.w) ++ toBytes 4 m.k ++
    [b2n m.suspect + 2 * b2n m.aged + 4 * b2n m.kclamp + 8 * b2n m.unseeded, m.susRun, 0, 0]
/-- The ARM payload (R497). -/
def armBytes (p : ArmMirror) : List Nat :=
  toBytes 4 p.dn ++ toBytes 2 p.s ++ [b2n p.dir + 2 * b2n p.pol + 4 * b2n p.trimValid, 0] ++ toBytes 2 p.trimOrd ++ toBytes 4 p.trimSince ++
    toBytes 4 (enc 32 p.carry) ++ zeros 14 ++
    (List.range 256).map (fun k => (List.range 8).foldl (fun v i => if p.member.contains (8 * k + i) then v + 2 ^ i else v) 0)

/-- A MIRROR frame (R489): section, cycle, index, payload. -/
def mirrorBytes (sect cyc index : Nat) (payload : List Nat) : List Nat :=
  [4, sect] ++ toBytes 4 cyc ++ [index] ++ toBytes 3 payload.length ++ zeros 5 ++ payload

/-- The frame of a section; an FRN section is filled up to the entries that the largest slice of the arm has, `most` (R490). -/
def sectionBytes (cyc most : Nat) : Section → List Nat
  | .loop slots => mirrorBytes 1 cyc 0 (slots.flatMap slotBytes)
  | .arm a p => mirrorBytes 2 cyc a (armBytes p)
  | .frn a j cells => mirrorBytes 3 cyc a (j :: zeros 15 ++ cells.flatMap frnBytes ++ zeros (16 * (most - cells.length)))
  | .region r bytes => mirrorBytes 4 cyc r bytes

/-- The section of a MIRROR frame (R490, R497); none for CTRL and for an index that no arm or region has. -/
def readSection (b : List Nat) : Option Section :=
  let p := (b.drop 15).take (le b 7 3)
  let ix := octet b 6
  if octet b 1 = 1 then
    some (.loop (((List.range 96).map (fun k =>
      let e := p.drop (40 * k)
      (⟨octet e 0, bitAt (octet e 1) 0, le e 2 2, (List.range 8).map (fun i => le e (8 + 4 * i) 4)⟩ : SlotMirror))).filter (fun m =>
        decide (m.slot < 96))))
  else if octet b 1 = 2 && decide (ix < 12) then
    some (.arm ix
      { dn := le p 0 4, s := le p 4 2, dir := bitAt (octet p 6) 0, pol := bitAt (octet p 6) 1, trimValid := bitAt (octet p 6) 2,
        trimOrd := le p 8 2, trimSince := le p 10 4, carry := sx 32 (le p 14 4),
        member := (List.range 2048).filter (fun o => bitAt (octet p (32 + o / 8)) (o % 8)) })
  else if octet b 1 = 3 && decide (ix < 12) then
    some (.frn ix (octet p 0 % 32) ((List.range ((p.length - 16) / 16)).map (fun k =>
      let e := p.drop (16 + 16 * k)
      (⟨sx 64 (le e 0 8), le e 8 4, bitAt (octet e 12) 0, bitAt (octet e 12) 1, bitAt (octet e 12) 2, bitAt (octet e 12) 3, octet e 13⟩ :
        FrnMirror))))
  else if octet b 1 = 4 && decide (ix < 16) then some (.region ix p)
  else none

/-- A CTRL frame (R489, R491). -/
def ctrlBytes (c : Ctrl) : List Nat :=
  mirrorBytes 0 c.cycDn 0
    ([c.status, c.role + 8 * b2n c.prefer + 16 * b2n c.unitB] ++ toBytes 4 c.hoDn ++
      [b2n c.hoReq + 2 * b2n c.take + 4 * b2n c.rev + 8 * b2n c.clrReq + 16 * b2n c.clrAcc + 32 * b2n c.clrRef + 64 * b2n c.convEn +
        128 * b2n c.rlq, 0] ++
      toBytes 8 c.tTx ++ toBytes 8 c.tRx ++ toBytes 4 c.rxCyc ++ toBytes 4 c.ord ++ toBytes 4 c.brd ++ toBytes 8 c.cfgId ++
      toBytes 8 c.fwId ++ toBytes 4 c.clrDn)

/-- The CTRL of a frame (R491). -/
def readCtrl (b : List Nat) : Ctrl :=
  let p := b.drop 15
  let f := octet p 6
  { cycDn := le b 2 4, status := octet p 0, role := octet p 1 % 8, prefer := bitAt (octet p 1) 3, unitB := bitAt (octet p 1) 4,
    hoDn := le p 2 4, hoReq := bitAt f 0, take := bitAt f 1, rev := bitAt f 2, clrReq := bitAt f 3, clrAcc := bitAt f 4,
    clrRef := bitAt f 5, convEn := bitAt f 6, rlq := bitAt f 7, tTx := le p 8 8, tRx := le p 16 8, rxCyc := le p 24 4,
    ord := le p 28 4, brd := le p 32 4, cfgId := le p 36 8, fwId := le p 44 8, clrDn := le p 52 4 }

/-- Bytes 0 to 6 of a frame, as its START block carries them, whether or not it passes its check. -/
def frameHead : List Block → List Nat
  | (2, 0x78 :: b) :: _ => b
  | _ => []

/-! ## Mailboxes to a cell -/

/-- A point request (R336). -/
structure PointReq where
  tag    : Nat
  cid    : Nat
  unitB  : Bool
  op     : Nat
  att    : Nat
  count  : Nat
  first  : Nat
  values : List Nat
  deriving DecidableEq, Repr

/-- A point request of a mailbox (R336). -/
def readPoint (o : List Nat) : PointReq :=
  { tag := octet o 1, cid := le o 2 2 % 32768, unitB := bitAt (octet o 3) 7, op := octet o 4 % 16, att := bits (octet o 4) 4 2,
    count := octet o 5, first := le o 6 2, values := (List.range 14).map (fun i => le o (8 + 4 * i) 4) }

/-- A configuration block (R541): its entries, or, in the last block, the check word. -/
structure CfgBlock where
  tag     : Nat
  cid     : Nat
  unitB   : Bool
  blk     : Nat
  nblk    : Nat
  entries : List (Nat × Nat)
  check   : Nat
  deriving DecidableEq, Repr

/-- A configuration block of a mailbox (R541). -/
def readCfgBlock (o : List Nat) : CfgBlock :=
  { tag := octet o 1, cid := le o 2 2 % 32768, unitB := bitAt (octet o 3) 7, blk := octet o 4, nblk := octet o 5,
    entries := (List.range 9).map (fun i => (le o (8 + 6 * i) 2, le o (10 + 6 * i) 4)), check := le o 8 32 }

/-- An update request (R565). -/
structure UpdReq where
  tag    : Nat
  cid    : Nat
  unitB  : Bool
  op     : Nat
  att    : Nat
  len    : Nat
  offset : Nat
  data   : List Nat
  deriving DecidableEq, Repr

/-- An update request of a mailbox (R565): ATT stands beside OP as in R336. -/
def readUpd (o : List Nat) : UpdReq :=
  { tag := octet o 1, cid := le o 2 2 % 32768, unitB := bitAt (octet o 3) 7, op := octet o 4 % 16, att := bits (octet o 4) 4 2,
    len := octet o 5, offset := le o 8 4, data := (o.drop 12).take (octet o 5) }

/-- A challenge (R560): TAG, CID, UNIT, NONCE. -/
structure Challenge where
  tag   : Nat
  cid   : Nat
  unitB : Bool
  nonce : Nat
  deriving DecidableEq, Repr

/-- A challenge of a mailbox (R560). -/
def readChallenge (o : List Nat) : Challenge := ⟨octet o 1, le o 2 2 % 32768, bitAt (octet o 3) 7, le o 8 32⟩

/-- Whether a mailbox holds a message of a type (R335, R353). -/
def isMsg (o : List Nat) (mtype : Nat) : Bool := octet o 0 == mtype
/-- Whether a mailbox holds an update request of an operation (R565, R566). -/
def isUpd (o : List Nat) (op : Nat) : Bool := isMsg o 0x20 && octet o 4 % 16 == op

end Sys2Proof.Machine
end

