-- ==== Sys2Proof/Machine/RegsShared.lean ====
section
/-! DEFINITION. The register fields of the lane records by base address (R304, R305, R348) and the memory and injection registers by chip base (R458), each with address, place, access code and reset value
as the register tables give them. A field whose reset value is a strap, fuse, image or BAK value stands at 0 until that
load (log entry 5). STATUS, ENABLE, FIRST, COUNT and ACK of the fault records are in Machine/Records.lean (R441). -/
namespace Sys2Proof.Machine.R

-- LNS_CTL (R304, 10_lanes.md)
abbrev LNS_CTL_EN (b : Nat) : Fld := ⟨b + 0x0, 0, 1, .rw, if b < 0x400000000 then 1 else 0⟩
abbrev LNS_CTL_POL_AUTO (b : Nat) : Fld := ⟨b + 0x0, 1, 1, .rw, 1⟩
abbrev LNS_CTL_POL_FORCE (b : Nat) : Fld := ⟨b + 0x0, 2, 1, .rw, 0⟩
abbrev LNS_CTL_TX_INV (b : Nat) : Fld := ⟨b + 0x0, 3, 1, .rw, 0⟩
abbrev LNS_CTL_LOOP (b : Nat) : Fld := ⟨b + 0x0, 4, 3, .rw, 0⟩
abbrev LNS_CTL_TX_SQ (b : Nat) : Fld := ⟨b + 0x0, 7, 1, .rw, 0⟩
abbrev LNS_CTL_INJ_ONCE (b : Nat) : Fld := ⟨b + 0x0, 8, 1, .w1s, 0⟩
abbrev LNS_CTL_INJ_CONT (b : Nat) : Fld := ⟨b + 0x0, 9, 1, .rw, 0⟩
-- LNS_STATE (R304, 10_lanes.md)
abbrev LNS_STATE_STATE (b : Nat) : Fld := ⟨b + 0x4, 0, 4, .ro, if b < 0x400000000 then 1 else 0⟩
abbrev LNS_STATE_RX_INV (b : Nat) : Fld := ⟨b + 0x4, 4, 1, .ro, 0⟩
abbrev LNS_STATE_REVERSED (b : Nat) : Fld := ⟨b + 0x4, 5, 1, .ro, 0⟩
abbrev LNS_STATE_PEER_ROLE (b : Nat) : Fld := ⟨b + 0x4, 6, 2, .ro, 0⟩
abbrev LNS_STATE_PEER_LANE (b : Nat) : Fld := ⟨b + 0x4, 8, 4, .ro, 0⟩
abbrev LNS_STATE_PEER_LINK (b : Nat) : Fld := ⟨b + 0x4, 16, 8, .ro, 0⟩
abbrev LNS_STATE_SKEW (b : Nat) : Fld := ⟨b + 0x4, 24, 8, .ro, 0⟩
-- LNS_EQ (R304, 10_lanes.md)
abbrev LNS_EQ_CTLE_ADAPT (b : Nat) : Fld := ⟨b + 0x8, 0, 1, .rw, 1⟩
abbrev LNS_EQ_CTLE (b : Nat) : Fld := ⟨b + 0x8, 1, 4, .rw, 8⟩
abbrev LNS_EQ_DFE_ADAPT (b : Nat) : Fld := ⟨b + 0x8, 5, 1, .rw, 1⟩
abbrev LNS_EQ_FREEZE (b : Nat) : Fld := ⟨b + 0x8, 6, 1, .rw, 0⟩
-- LNS_DFE (R304, 10_lanes.md)
abbrev LNS_DFE_TAPS (b : Nat) : Fld := ⟨b + 0xC, 0, 30, .rw, 0⟩
-- LNS_TXEQ (R304, 10_lanes.md)
abbrev LNS_TXEQ_PRE (b : Nat) : Fld := ⟨b + 0x10, 0, 4, .rw, 0⟩
abbrev LNS_TXEQ_MAIN (b : Nat) : Fld := ⟨b + 0x10, 4, 6, .rw, 48⟩
abbrev LNS_TXEQ_POST (b : Nat) : Fld := ⟨b + 0x10, 10, 5, .rw, 6⟩
-- LNS_PRBS (R304, 10_lanes.md)
abbrev LNS_PRBS_GEN (b : Nat) : Fld := ⟨b + 0x20, 0, 3, .rw, 0⟩
abbrev LNS_PRBS_GEN_INV (b : Nat) : Fld := ⟨b + 0x20, 3, 1, .rw, 0⟩
abbrev LNS_PRBS_CHK (b : Nat) : Fld := ⟨b + 0x20, 4, 3, .rw, 0⟩
abbrev LNS_PRBS_CHK_INV (b : Nat) : Fld := ⟨b + 0x20, 7, 1, .rw, 0⟩
abbrev LNS_PRBS_CHK_LOCK (b : Nat) : Fld := ⟨b + 0x20, 8, 1, .ro, 0⟩
-- LNS_PRBS_ERR (R304, 10_lanes.md)
abbrev LNS_PRBS_ERR_ERR (b : Nat) : Fld := ⟨b + 0x24, 0, 32, .rc, 0⟩
-- LNS_PRBS_TIME (R304, 10_lanes.md)
abbrev LNS_PRBS_TIME_TIME (b : Nat) : Fld := ⟨b + 0x28, 0, 32, .rc, 0⟩
-- LNS_RET (R304, 10_lanes.md)
abbrev LNS_RET_CRC_MAX (b : Nat) : Fld := ⟨b + 0x30, 0, 8, .rw, 16⟩
abbrev LNS_RET_CRC_WIN (b : Nat) : Fld := ⟨b + 0x30, 8, 8, .rw, 1⟩
abbrev LNS_RET_RETRAIN_TMO (b : Nat) : Fld := ⟨b + 0x30, 16, 10, .rw, 10⟩
abbrev LNS_RET_DSK_TMO (b : Nat) : Fld := ⟨b + 0x30, 26, 6, .rw, 1⟩
-- LNS_CNT_A (R304, 10_lanes.md)
abbrev LNS_CNT_A_CRC_CNT (b : Nat) : Fld := ⟨b + 0x34, 0, 16, .rc, 0⟩
abbrev LNS_CNT_A_RETRAIN_CNT (b : Nat) : Fld := ⟨b + 0x34, 16, 16, .rc, 0⟩
-- LNS_CNT_B (R304, 10_lanes.md)
abbrev LNS_CNT_B_CODE_CNT (b : Nat) : Fld := ⟨b + 0x38, 0, 32, .rc, 0⟩
-- LNS_CMD (R304, 10_lanes.md)
abbrev LNS_CMD_RESTORE (b : Nat) : Fld := ⟨b + 0x3C, 0, 1, .wo, 0⟩
abbrev LNS_CMD_RETRAIN (b : Nat) : Fld := ⟨b + 0x3C, 1, 1, .wo, 0⟩
-- SYS_MEM_CTL (R458, 16_faults.md)
abbrev SYS_MEM_CTL_SCRUB_PER (b : Nat) : Fld := ⟨b + 0x800, 0, 8, .rw, 4⟩
-- SYS_INJ (R458, 16_faults.md)
abbrev SYS_INJ_TARGET (b : Nat) : Fld := ⟨b + 0x804, 0, 4, .rw, 0⟩
abbrev SYS_INJ_UNIT (b : Nat) : Fld := ⟨b + 0x804, 4, 5, .rw, 0⟩
abbrev SYS_INJ_SYMS (b : Nat) : Fld := ⟨b + 0x804, 9, 2, .rw, 1⟩
abbrev SYS_INJ_ONCE (b : Nat) : Fld := ⟨b + 0x804, 11, 1, .w1s, 0⟩
abbrev SYS_INJ_CONT (b : Nat) : Fld := ⟨b + 0x804, 12, 1, .rw, 0⟩
-- SYS_INJ_ADDR (R458, 16_faults.md)
abbrev SYS_INJ_ADDR_ADDR (b : Nat) : Fld := ⟨b + 0x808, 4, 28, .rw, 0⟩
-- SYS_MEM_CNT (R458, 16_faults.md)
abbrev SYS_MEM_CNT_CORR_CNT (b : Nat) : Fld := ⟨b + 0x82C, 0, 16, .rc, 0⟩
abbrev SYS_MEM_CNT_UNC_CNT (b : Nat) : Fld := ⟨b + 0x82C, 16, 16, .rc, 0⟩
-- SYS_MEM_SEL (R458, 16_faults.md)
abbrev SYS_MEM_SEL_BANK (b : Nat) : Fld := ⟨b + 0x830, 0, 6, .rw, 0⟩
-- SYS_MEM_SPARE (R458, 16_faults.md)
abbrev SYS_MEM_SPARE_USED (b : Nat) : Fld := ⟨b + 0x834, 0, 5, .ro, 0⟩
abbrev SYS_MEM_SPARE_LAST_ROW (b : Nat) : Fld := ⟨b + 0x834, 16, 13, .ro, 0⟩

end Sys2Proof.Machine.R
end

