-- ==== Sys2Proof/Machine/RegsUnit.lean ====
section
/-! DEFINITION. The register fields of the BQ7100, each with address, place, access code and reset value
as the register tables give them. A field whose reset value is a strap, fuse, image or BAK value stands at 0 until that
load (log entry 5). STATUS, ENABLE, FIRST, COUNT and ACK of the fault records are in Machine/Records.lean (R441). -/
namespace Sys2Proof.Machine.R

-- TIM_CTL (R51, 02_time.md)
abbrev TIM_CTL_PTP_PAIR : Fld := ⟨0x400010000, 0, 2, .rw, 0⟩
abbrev TIM_CTL_TIME_STATE : Fld := ⟨0x400010000, 4, 2, .rw, 0⟩
abbrev TIM_CTL_PTP_DOMAIN : Fld := ⟨0x400010000, 8, 8, .rw, 0⟩
-- TIM_INC_FRAC (R51, 02_time.md)
abbrev TIM_INC_FRAC_FRAC : Fld := ⟨0x400010004, 0, 32, .rw, 0⟩
-- TIM_INC_INT (R51, 02_time.md)
abbrev TIM_INC_INT_INT : Fld := ⟨0x400010008, 0, 32, .rw, 0⟩
-- TIM_STEP (R51, 02_time.md)
abbrev TIM_STEP_STEP : Fld := ⟨0x40001000C, 0, 32, .wo, 0⟩
-- TIM_STEP_LIM (R51, 02_time.md)
abbrev TIM_STEP_LIM_STEP_MAX : Fld := ⟨0x400010010, 0, 8, .rw, 100⟩
abbrev TIM_STEP_LIM_STEP_GAP : Fld := ⟨0x400010010, 16, 16, .rw, 1000⟩
-- TIM_SET_SECH (R51, 02_time.md)
abbrev TIM_SET_SECH_SEC_HI : Fld := ⟨0x400010014, 0, 16, .rw, 0⟩
-- TIM_SET_SECL (R51, 02_time.md)
abbrev TIM_SET_SECL_SEC_LO : Fld := ⟨0x400010018, 0, 32, .rw, 0⟩
-- TIM_SET_NS (R51, 02_time.md)
abbrev TIM_SET_NS_NS : Fld := ⟨0x40001001C, 0, 30, .rw, 0⟩
abbrev TIM_SET_NS_LOAD : Fld := ⟨0x40001001C, 31, 1, .wo, 0⟩
-- TIM_NOW_TSL (R51, 02_time.md)
abbrev TIM_NOW_TSL_TS_LO (core : Nat) : Fld := ⟨0x400010020 + core * 0x10000000000, 0, 32, .ro, 0⟩
-- TIM_NOW_TSH (R51, 02_time.md)
abbrev TIM_NOW_TSH_TS_HI (core : Nat) : Fld := ⟨0x400010024 + core * 0x10000000000, 0, 32, .ro, 0⟩
-- TIM_NOW_SECH (R51, 02_time.md)
abbrev TIM_NOW_SECH_SEC_HI (core : Nat) : Fld := ⟨0x400010028 + core * 0x10000000000, 0, 16, .ro, 0⟩
abbrev TIM_NOW_SECH_ERA (core : Nat) : Fld := ⟨0x400010028 + core * 0x10000000000, 16, 16, .ro, 0⟩
-- TIM_NOW_SECL (R51, 02_time.md)
abbrev TIM_NOW_SECL_SEC_LO (core : Nat) : Fld := ⟨0x40001002C + core * 0x10000000000, 0, 32, .ro, 0⟩
-- TIM_NOW_NS (R51, 02_time.md)
abbrev TIM_NOW_NS_NS (core : Nat) : Fld := ⟨0x400010030 + core * 0x10000000000, 0, 30, .ro, 0⟩
-- TIM_NOW_DN (R51, 02_time.md)
abbrev TIM_NOW_DN_DN (core : Nat) : Fld := ⟨0x400010034 + core * 0x10000000000, 0, 32, .ro, 0⟩
-- TIM_DEP_CTL (R51, 02_time.md)
abbrev TIM_DEP_CTL_START : Fld := ⟨0x400010040, 0, 1, .w1s, 0⟩
abbrev TIM_DEP_CTL_STOP : Fld := ⟨0x400010040, 1, 1, .w1s, 0⟩
abbrev TIM_DEP_CTL_STATE : Fld := ⟨0x400010040, 4, 2, .ro, 0⟩
-- TIM_DEP_START (R51, 02_time.md)
abbrev TIM_DEP_START_DN_START : Fld := ⟨0x400010044, 0, 32, .rw, 0⟩
-- TIM_STATUS (R51, 02_time.md)
abbrev TIM_STATUS_STEP_PEND : Fld := ⟨0x400010048, 8, 1, .ro, 0⟩
abbrev TIM_STATUS_PEER_VALID : Fld := ⟨0x400010048, 9, 1, .ro, 0⟩
-- TIM_PEER_OFS (R52, 02_time.md)
abbrev TIM_PEER_OFS_OFS : Fld := ⟨0x40001004C, 0, 32, .ro, 0⟩
-- TIM_PEER_LIM (R52, 02_time.md)
abbrev TIM_PEER_LIM_LIM : Fld := ⟨0x400010050, 0, 16, .rw, 160⟩
-- TIM_PORT_LAT (R52, 02_time.md)
abbrev TIM_PORT_LAT_INGRESS (p : Nat) : Fld := ⟨0x400010080 + p * 0x4, 0, 16, .rw, 0⟩
abbrev TIM_PORT_LAT_EGRESS (p : Nat) : Fld := ⟨0x400010080 + p * 0x4, 16, 16, .rw, 0⟩
-- TIM_TXQ_STAT (R52, 02_time.md)
abbrev TIM_TXQ_STAT_COUNT (p : Nat) : Fld := ⟨0x400010100 + p * 0x10, 0, 5, .ro, 0⟩
abbrev TIM_TXQ_STAT_OVF (p : Nat) : Fld := ⟨0x400010100 + p * 0x10, 8, 1, .w1c, 0⟩
abbrev TIM_TXQ_STAT_POP (p : Nat) : Fld := ⟨0x400010100 + p * 0x10, 12, 1, .wo, 0⟩
abbrev TIM_TXQ_STAT_DROP (p : Nat) : Fld := ⟨0x400010100 + p * 0x10, 16, 16, .ro, 0⟩
-- TIM_TXQ_HEAD (R52, 02_time.md)
abbrev TIM_TXQ_HEAD_PORT (p : Nat) : Fld := ⟨0x400010104 + p * 0x10, 0, 2, .ro, 0⟩
abbrev TIM_TXQ_HEAD_MSG_TYPE (p : Nat) : Fld := ⟨0x400010104 + p * 0x10, 4, 4, .ro, 0⟩
abbrev TIM_TXQ_HEAD_SEQ_ID (p : Nat) : Fld := ⟨0x400010104 + p * 0x10, 16, 16, .ro, 0⟩
-- TIM_TXQ_TSL (R52, 02_time.md)
abbrev TIM_TXQ_TSL_TS_LO (p : Nat) : Fld := ⟨0x400010108 + p * 0x10, 0, 32, .ro, 0⟩
-- TIM_TXQ_TSH (R52, 02_time.md)
abbrev TIM_TXQ_TSH_TS_HI (p : Nat) : Fld := ⟨0x40001010C + p * 0x10, 0, 32, .ro, 0⟩
-- FRN_CTL (R604, 03_firn.md)
abbrev FRN_CTL_EN (a : Nat) : Fld := ⟨0x400100000 + a * 0x10000, 0, 1, .rw, 0⟩
abbrev FRN_CTL_PRED (a : Nat) : Fld := ⟨0x400100000 + a * 0x10000, 1, 1, .rw, 1⟩
abbrev FRN_CTL_ADAPT_EN (a : Nat) : Fld := ⟨0x400100000 + a * 0x10000, 2, 1, .rw, 1⟩
abbrev FRN_CTL_GAIN_SH (a : Nat) : Fld := ⟨0x400100000 + a * 0x10000, 4, 4, .rw, 3⟩
abbrev FRN_CTL_ADAPT_SH (a : Nat) : Fld := ⟨0x400100000 + a * 0x10000, 8, 5, .rw, 10⟩
abbrev FRN_CTL_FORCE_SV (a : Nat) : Fld := ⟨0x400100000 + a * 0x10000, 16, 1, .rw, 0⟩
-- FRN_SRC (R604, 03_firn.md)
abbrev FRN_SRC_PORT (a : Nat) : Fld := ⟨0x400100004 + a * 0x10000, 0, 5, .ro, 0⟩
abbrev FRN_SRC_SV_STREAM (a : Nat) : Fld := ⟨0x400100004 + a * 0x10000, 8, 6, .rw, 0⟩
abbrev FRN_SRC_SV_CHAN (a : Nat) : Fld := ⟨0x400100004 + a * 0x10000, 16, 4, .rw, 0⟩
abbrev FRN_SRC_SV_EN (a : Nat) : Fld := ⟨0x400100004 + a * 0x10000, 24, 1, .rw, 0⟩
abbrev FRN_SRC_CUR_SRC (a : Nat) : Fld := ⟨0x400100004 + a * 0x10000, 30, 2, .ro, 0⟩
-- FRN_SUS (R604, 03_firn.md)
abbrev FRN_SUS_SUS_LIM (a : Nat) : Fld := ⟨0x400100008 + a * 0x10000, 0, 16, .rw, 64⟩
abbrev FRN_SUS_SUS_N (a : Nat) : Fld := ⟨0x400100008 + a * 0x10000, 16, 8, .rw, 3⟩
-- FRN_FLOOR (R604, 03_firn.md)
abbrev FRN_FLOOR_I_FLOOR (a : Nat) : Fld := ⟨0x40010000C + a * 0x10000, 0, 16, .rw, 200⟩
-- FRN_AGE (R604, 03_firn.md)
abbrev FRN_AGE_AGE_LIM (a : Nat) : Fld := ⟨0x400100010 + a * 0x10000, 0, 10, .rw, 50⟩
-- FRN_STATUS (R604, 03_firn.md)
abbrev FRN_STATUS_CUR_SV (a : Nat) : Fld := ⟨0x400100014 + a * 0x10000, 16, 1, .ro, 0⟩
abbrev FRN_STATUS_CUR_NONE (a : Nat) : Fld := ⟨0x400100014 + a * 0x10000, 17, 1, .ro, 0⟩
-- FRN_COUNT (R604, 03_firn.md)
abbrev FRN_COUNT_SUSPECTS (a : Nat) : Fld := ⟨0x400100028 + a * 0x10000, 16, 16, .ro, 0⟩
-- FRN_CUR (R604, 03_firn.md)
abbrev FRN_CUR_I (a : Nat) : Fld := ⟨0x400100030 + a * 0x10000, 0, 32, .ro, 0⟩
-- FRN_CUR_DN (R604, 03_firn.md)
abbrev FRN_CUR_DN_DN (a : Nat) : Fld := ⟨0x400100034 + a * 0x10000, 0, 32, .ro, 0⟩
-- FRN_TIME (R604, 03_firn.md)
abbrev FRN_TIME_LAST (a : Nat) : Fld := ⟨0x400100038 + a * 0x10000, 0, 16, .ro, 0⟩
abbrev FRN_TIME_MAX (a : Nat) : Fld := ⟨0x400100038 + a * 0x10000, 16, 16, .rc, 0⟩
-- FRN_DISCARD (R604, 03_firn.md)
abbrev FRN_DISCARD_STALE (a : Nat) : Fld := ⟨0x40010003C + a * 0x10000, 0, 16, .rc, 0⟩
abbrev FRN_DISCARD_FUTURE (a : Nat) : Fld := ⟨0x40010003C + a * 0x10000, 16, 16, .rc, 0⟩
-- FRN_SKIP (R604, 03_firn.md)
abbrev FRN_SKIP_SKIP (a : Nat) : Fld := ⟨0x400100040 + a * 0x10000, 0, 16, .rc, 0⟩
abbrev FRN_SKIP_QOVF_CNT (a : Nat) : Fld := ⟨0x400100040 + a * 0x10000, 16, 16, .rc, 0⟩
-- FRN_CMD (R604, 03_firn.md)
abbrev FRN_CMD_CELL (a : Nat) : Fld := ⟨0x400100044 + a * 0x10000, 0, 11, .rw, 0⟩
abbrev FRN_CMD_OP (a : Nat) : Fld := ⟨0x400100044 + a * 0x10000, 16, 3, .rw, 0⟩
abbrev FRN_CMD_GO (a : Nat) : Fld := ⟨0x400100044 + a * 0x10000, 31, 1, .w1s, 0⟩
-- FRN_CMD_DATA (R604, 03_firn.md)
abbrev FRN_CMD_DATA_DATA (a : Nat) : Fld := ⟨0x400100048 + a * 0x10000, 0, 32, .rw, 0⟩
-- FRN_CMD_STAT (R604, 03_firn.md)
abbrev FRN_CMD_STAT_DONE (a : Nat) : Fld := ⟨0x40010004C + a * 0x10000, 0, 1, .w1c, 0⟩
abbrev FRN_CMD_STAT_REJ (a : Nat) : Fld := ⟨0x40010004C + a * 0x10000, 1, 1, .w1c, 0⟩
-- MSH_CTL (R114, 04_marshalling.md)
abbrev MSH_CTL_EN (a : Nat) : Fld := ⟨0x400200000 + a * 0x10000, 0, 1, .rw, 0⟩
abbrev MSH_CTL_FB_BYP (a : Nat) : Fld := ⟨0x400200000 + a * 0x10000, 1, 1, .rw, 0⟩
abbrev MSH_CTL_TRIM_POOL (a : Nat) : Fld := ⟨0x400200000 + a * 0x10000, 2, 1, .rw, 0⟩
abbrev MSH_CTL_NREF_IDX (a : Nat) : Fld := ⟨0x400200000 + a * 0x10000, 4, 10, .rw, 0⟩
-- MSH_BAND (R114, 04_marshalling.md)
abbrev MSH_BAND_BAND (a : Nat) : Fld := ⟨0x400200004 + a * 0x10000, 0, 16, .rw, 205⟩
abbrev MSH_BAND_I_DIR (a : Nat) : Fld := ⟨0x400200004 + a * 0x10000, 16, 16, .rw, 20⟩
-- MSH_SWAP (R114, 04_marshalling.md)
abbrev MSH_SWAP_SWAP_MAX (a : Nat) : Fld := ⟨0x400200008 + a * 0x10000, 0, 7, .rw, 16⟩
abbrev MSH_SWAP_DWELL_MIN (a : Nat) : Fld := ⟨0x400200008 + a * 0x10000, 8, 8, .rw, 4⟩
-- MSH_TRIM (R114, 04_marshalling.md)
abbrev MSH_TRIM_TRIM_ROT (a : Nat) : Fld := ⟨0x40020000C + a * 0x10000, 0, 10, .rw, 10⟩
abbrev MSH_TRIM_TMIN (a : Nat) : Fld := ⟨0x40020000C + a * 0x10000, 16, 10, .rw, 120⟩
-- MSH_DEAD (R114, 04_marshalling.md)
abbrev MSH_DEAD_DEAD (a : Nat) : Fld := ⟨0x400200010 + a * 0x10000, 0, 10, .rw, 150⟩
-- MSH_REFRESH (R114, 04_marshalling.md)
abbrev MSH_REFRESH_REFRESH_MAX (a : Nat) : Fld := ⟨0x400200014 + a * 0x10000, 0, 3, .rw, 2⟩
abbrev MSH_REFRESH_REF_LATE (a : Nat) : Fld := ⟨0x400200014 + a * 0x10000, 16, 16, .rw, 400⟩
-- MSH_AVAIL (R114, 04_marshalling.md)
abbrev MSH_AVAIL_MIN_AVAIL (a : Nat) : Fld := ⟨0x400200018 + a * 0x10000, 0, 12, .rw, 0⟩
-- MSH_STATUS (R114, 04_marshalling.md)
abbrev MSH_STATUS_POL (a : Nat) : Fld := ⟨0x40020001C + a * 0x10000, 16, 1, .ro, 0⟩
abbrev MSH_STATUS_DIR (a : Nat) : Fld := ⟨0x40020001C + a * 0x10000, 17, 1, .ro, 0⟩
abbrev MSH_STATUS_TRIM_VALID (a : Nat) : Fld := ⟨0x40020001C + a * 0x10000, 18, 1, .ro, 0⟩
abbrev MSH_STATUS_AVAIL_SHORT (a : Nat) : Fld := ⟨0x40020001C + a * 0x10000, 19, 1, .ro, 0⟩
-- MSH_MARGIN (R114, 04_marshalling.md)
abbrev MSH_MARGIN_LAST (a : Nat) : Fld := ⟨0x400200038 + a * 0x10000, 0, 16, .ro, 0⟩
abbrev MSH_MARGIN_MIN (a : Nat) : Fld := ⟨0x400200038 + a * 0x10000, 16, 16, .rc, 65535⟩
-- MSH_TIME (R114, 04_marshalling.md)
abbrev MSH_TIME_LAST (a : Nat) : Fld := ⟨0x40020003C + a * 0x10000, 0, 16, .ro, 0⟩
abbrev MSH_TIME_MAX (a : Nat) : Fld := ⟨0x40020003C + a * 0x10000, 16, 16, .rc, 0⟩
-- MSH_LEVEL (R114, 04_marshalling.md)
abbrev MSH_LEVEL_NREF (a : Nat) : Fld := ⟨0x400200040 + a * 0x10000, 0, 32, .ro, 0⟩
-- MSH_LEVEL_DN (R114, 04_marshalling.md)
abbrev MSH_LEVEL_DN_DN (a : Nat) : Fld := ⟨0x400200044 + a * 0x10000, 0, 32, .ro, 0⟩
-- MSH_SET (R114, 04_marshalling.md)
abbrev MSH_SET_INSERTED (a : Nat) : Fld := ⟨0x400200048 + a * 0x10000, 0, 12, .ro, 0⟩
abbrev MSH_SET_AVAIL (a : Nat) : Fld := ⟨0x400200048 + a * 0x10000, 16, 12, .ro, 0⟩
-- MSH_TRIM_CUR (R114, 04_marshalling.md)
abbrev MSH_TRIM_CUR_CELL (a : Nat) : Fld := ⟨0x40020004C + a * 0x10000, 0, 11, .ro, 0⟩
abbrev MSH_TRIM_CUR_POL (a : Nat) : Fld := ⟨0x40020004C + a * 0x10000, 16, 1, .ro, 0⟩
abbrev MSH_TRIM_CUR_FULL (a : Nat) : Fld := ⟨0x40020004C + a * 0x10000, 18, 1, .ro, 0⟩
-- MSH_TRIM_CARRY (R114, 04_marshalling.md)
abbrev MSH_TRIM_CARRY_CARRY (a : Nat) : Fld := ⟨0x400200050 + a * 0x10000, 0, 32, .ro, 0⟩
-- MSH_SWAPS (R114, 04_marshalling.md)
abbrev MSH_SWAPS_SWAPS (a : Nat) : Fld := ⟨0x400200054 + a * 0x10000, 0, 7, .ro, 0⟩
abbrev MSH_SWAPS_BUDGET (a : Nat) : Fld := ⟨0x400200054 + a * 0x10000, 7, 1, .ro, 0⟩
abbrev MSH_SWAPS_LEVEL_CHG (a : Nat) : Fld := ⟨0x400200054 + a * 0x10000, 8, 12, .ro, 0⟩
-- MSH_CNT_A (R114, 04_marshalling.md)
abbrev MSH_CNT_A_DWELL_BRK_CNT (a : Nat) : Fld := ⟨0x400200058 + a * 0x10000, 0, 16, .rc, 0⟩
abbrev MSH_CNT_A_REF_LATE_CNT (a : Nat) : Fld := ⟨0x400200058 + a * 0x10000, 16, 16, .rc, 0⟩
-- MSH_CNT_B (R114, 04_marshalling.md)
abbrev MSH_CNT_B_GRANTS (a : Nat) : Fld := ⟨0x40020005C + a * 0x10000, 0, 16, .rc, 0⟩
abbrev MSH_CNT_B_BUDGET_CNT (a : Nat) : Fld := ⟨0x40020005C + a * 0x10000, 16, 16, .rc, 0⟩
-- MSH_START (R114, 04_marshalling.md)
abbrev MSH_START_S (a : Nat) : Fld := ⟨0x400200060 + a * 0x10000, 0, 11, .ro, 0⟩
-- MSH_CMD (R114, 04_marshalling.md)
abbrev MSH_CMD_CELL (a : Nat) : Fld := ⟨0x400200064 + a * 0x10000, 0, 11, .rw, 0⟩
abbrev MSH_CMD_OP (a : Nat) : Fld := ⟨0x400200064 + a * 0x10000, 16, 3, .rw, 0⟩
abbrev MSH_CMD_GO (a : Nat) : Fld := ⟨0x400200064 + a * 0x10000, 31, 1, .w1s, 0⟩
-- MSH_CMD_STAT (R114, 04_marshalling.md)
abbrev MSH_CMD_STAT_DONE (a : Nat) : Fld := ⟨0x400200068 + a * 0x10000, 0, 1, .w1c, 0⟩
abbrev MSH_CMD_STAT_REJ (a : Nat) : Fld := ⟨0x400200068 + a * 0x10000, 1, 1, .w1c, 0⟩
-- DEP_CTL (R148, 05_departures.md)
abbrev DEP_CTL_CONV_EN : Fld := ⟨0x400300000, 0, 1, .rw, 0⟩
abbrev DEP_CTL_LEAD : Fld := ⟨0x400300000, 4, 4, .rw, 4⟩
-- DEP_STATUS (R148, 05_departures.md)
abbrev DEP_STATUS_AV_LATCHED : Fld := ⟨0x400300004, 16, 1, .ro, 0⟩
abbrev DEP_STATUS_CLR_SENDING : Fld := ⟨0x400300004, 17, 1, .ro, 0⟩
abbrev DEP_STATUS_HELD_ANY : Fld := ⟨0x400300004, 18, 1, .ro, 0⟩
-- DEP_AV (R148, 05_departures.md)
abbrev DEP_AV_FIRE : Fld := ⟨0x400300020, 0, 1, .wo, 0⟩
abbrev DEP_AV_CLEAR : Fld := ⟨0x400300020, 1, 1, .wo, 0⟩
-- DEP_AV_SRC (R148, 05_departures.md)
abbrev DEP_AV_SRC_SRC : Fld := ⟨0x400300024, 0, 6, .ro, 0⟩
abbrev DEP_AV_SRC_FIRST_SRC : Fld := ⟨0x400300024, 8, 3, .ro, 0⟩
abbrev DEP_AV_SRC_DETAIL : Fld := ⟨0x400300024, 16, 8, .ro, 0⟩
-- DEP_AV_TSL (R148, 05_departures.md)
abbrev DEP_AV_TSL_TS_LO : Fld := ⟨0x400300028, 0, 32, .ro, 0⟩
-- DEP_AV_TSH (R148, 05_departures.md)
abbrev DEP_AV_TSH_TS_HI : Fld := ⟨0x40030002C, 0, 32, .ro, 0⟩
-- DEP_FREEZE (R148, 05_departures.md)
abbrev DEP_FREEZE_DN : Fld := ⟨0x400300030, 0, 32, .ro, 0⟩
-- DEP_OVR (R148, 05_departures.md)
abbrev DEP_OVR_OVR : Fld := ⟨0x400300034, 0, 12, .w1c, 0⟩
abbrev DEP_OVR_HELD : Fld := ⟨0x400300034, 16, 12, .ro, 0⟩
-- DEP_OVR_CNT (R148, 05_departures.md)
abbrev DEP_OVR_CNT_COUNT (a : Nat) : Fld := ⟨0x400300040 + a * 0x4, 0, 16, .rc, 0⟩
abbrev DEP_OVR_CNT_RUN (a : Nat) : Fld := ⟨0x400300040 + a * 0x4, 16, 8, .ro, 0⟩
-- DEP_FORCE_CTL (R148, 05_departures.md)
abbrev DEP_FORCE_CTL_CID : Fld := ⟨0x400300080, 0, 15, .rw, 0⟩
abbrev DEP_FORCE_CTL_CODE : Fld := ⟨0x400300080, 16, 4, .rw, 0⟩
abbrev DEP_FORCE_CTL_OP : Fld := ⟨0x400300080, 20, 2, .rw, 0⟩
abbrev DEP_FORCE_CTL_GO : Fld := ⟨0x400300080, 31, 1, .w1s, 0⟩
-- DEP_FORCE_DN (R148, 05_departures.md)
abbrev DEP_FORCE_DN_DN : Fld := ⟨0x400300084, 0, 32, .rw, 0⟩
-- DEP_FORCE_STAT (R148, 05_departures.md)
abbrev DEP_FORCE_STAT_DONE : Fld := ⟨0x400300088, 0, 1, .w1c, 0⟩
abbrev DEP_FORCE_STAT_REJ : Fld := ⟨0x400300088, 1, 1, .w1c, 0⟩
abbrev DEP_FORCE_STAT_LATE : Fld := ⟨0x400300088, 2, 1, .w1c, 0⟩
abbrev DEP_FORCE_STAT_ACTIVE : Fld := ⟨0x400300088, 8, 7, .ro, 0⟩
-- DEP_FORCE_EFF (R148, 05_departures.md)
abbrev DEP_FORCE_EFF_DN : Fld := ⟨0x40030008C, 0, 32, .ro, 0⟩
-- DEP_PEEK_CID (R148, 05_departures.md)
abbrev DEP_PEEK_CID_CID : Fld := ⟨0x400300090, 0, 15, .rw, 0⟩
-- DEP_PEEK_DN (R148, 05_departures.md)
abbrev DEP_PEEK_DN_DN : Fld := ⟨0x400300094, 0, 32, .rw, 0⟩
-- DEP_PEEK_DATA (R148, 05_departures.md)
abbrev DEP_PEEK_DATA_CODE : Fld := ⟨0x400300098, 0, 4, .ro, 0⟩
abbrev DEP_PEEK_DATA_GRANT : Fld := ⟨0x400300098, 4, 1, .ro, 0⟩
abbrev DEP_PEEK_DATA_TRIM : Fld := ⟨0x400300098, 5, 1, .ro, 0⟩
abbrev DEP_PEEK_DATA_HELD : Fld := ⟨0x400300098, 6, 1, .ro, 0⟩
abbrev DEP_PEEK_DATA_FORCED : Fld := ⟨0x400300098, 7, 1, .ro, 0⟩
abbrev DEP_PEEK_DATA_AVL : Fld := ⟨0x400300098, 8, 1, .ro, 0⟩
abbrev DEP_PEEK_DATA_VALID : Fld := ⟨0x400300098, 9, 1, .ro, 0⟩
abbrev DEP_PEEK_DATA_DUTY : Fld := ⟨0x400300098, 16, 16, .ro, 0⟩
-- LPE_CTL (R252, 08_loops.md)
abbrev LPE_CTL_EN : Fld := ⟨0x400310000, 0, 1, .rw, 0⟩
-- LPE_CNT_A (R252, 08_loops.md)
abbrev LPE_CNT_A_WR_REJ_CNT : Fld := ⟨0x400310020, 0, 16, .rc, 0⟩
abbrev LPE_CNT_A_TIE_CNT : Fld := ⟨0x400310020, 16, 16, .rc, 0⟩
-- LPE_CNT_B (R252, 08_loops.md)
abbrev LPE_CNT_B_SCRUB_CNT : Fld := ⟨0x400310024, 0, 16, .rc, 0⟩
-- LPE_GRP_TIME (R252, 08_loops.md)
abbrev LPE_GRP_TIME_LAST (g : Nat) : Fld := ⟨0x400310040 + g * 0x10, 0, 16, .ro, 0⟩
abbrev LPE_GRP_TIME_MAX (g : Nat) : Fld := ⟨0x400310040 + g * 0x10, 16, 16, .rc, 0⟩
-- LPE_GRP_MARGIN (R252, 08_loops.md)
abbrev LPE_GRP_MARGIN_LAST (g : Nat) : Fld := ⟨0x400310044 + g * 0x10, 0, 16, .ro, 0⟩
abbrev LPE_GRP_MARGIN_MIN (g : Nat) : Fld := ⟨0x400310044 + g * 0x10, 16, 16, .rc, 65535⟩
-- LPE_GRP_OVR (R252, 08_loops.md)
abbrev LPE_GRP_OVR_COUNT (g : Nat) : Fld := ⟨0x400310048 + g * 0x10, 0, 16, .rc, 0⟩
abbrev LPE_GRP_OVR_RUN (g : Nat) : Fld := ⟨0x400310048 + g * 0x10, 16, 8, .ro, 0⟩
-- LPE_GRP_DN (R252, 08_loops.md)
abbrev LPE_GRP_DN_DN (g : Nat) : Fld := ⟨0x40031004C + g * 0x10, 0, 32, .ro, 0⟩
-- LPE_SAT (R252, 08_loops.md)
abbrev LPE_SAT_FLAGS (w : Nat) : Fld := ⟨0x400310080 + w * 0x4, 0, 32, .w1c, 0⟩
-- LPE_LIM (R252, 08_loops.md)
abbrev LPE_LIM_FLAGS (w : Nat) : Fld := ⟨0x400310090 + w * 0x4, 0, 32, .w1c, 0⟩
-- LPE_FOLLOW (R252, 08_loops.md)
abbrev LPE_FOLLOW_FLAGS (w : Nat) : Fld := ⟨0x4003100A0 + w * 0x4, 0, 32, .w1c, 0⟩
-- SLOT_CTL (R252, 08_loops.md)
abbrev SLOT_CTL_TYPE (s : Nat) : Fld := ⟨0x400311000 + s * 0x80, 0, 3, .rw, 0⟩
abbrev SLOT_CTL_GROUP (s : Nat) : Fld := ⟨0x400311000 + s * 0x80, 4, 2, .rw, 0⟩
abbrev SLOT_CTL_EN (s : Nat) : Fld := ⟨0x400311000 + s * 0x80, 6, 1, .rw, 0⟩
abbrev SLOT_CTL_HOLD (s : Nat) : Fld := ⟨0x400311000 + s * 0x80, 7, 1, .rw, 0⟩
abbrev SLOT_CTL_BLK_HOLD (s : Nat) : Fld := ⟨0x400311000 + s * 0x80, 8, 1, .rw, 0⟩
abbrev SLOT_CTL_MODE (s : Nat) : Fld := ⟨0x400311000 + s * 0x80, 9, 3, .rw, 0⟩
abbrev SLOT_CTL_TGT_CONST (s : Nat) : Fld := ⟨0x400311000 + s * 0x80, 12, 1, .rw, 0⟩
abbrev SLOT_CTL_FF_EN (s : Nat) : Fld := ⟨0x400311000 + s * 0x80, 13, 1, .rw, 0⟩
abbrev SLOT_CTL_WRAP (s : Nat) : Fld := ⟨0x400311000 + s * 0x80, 14, 1, .rw, 0⟩
abbrev SLOT_CTL_IN_SRC (s : Nat) : Fld := ⟨0x400311000 + s * 0x80, 15, 1, .rw, 0⟩
-- SLOT_IN_A (R252, 08_loops.md)
abbrev SLOT_IN_A_IN0 (s : Nat) : Fld := ⟨0x400311004 + s * 0x80, 0, 10, .rw, 255⟩
-- SLOT_IN_B (R252, 08_loops.md)
abbrev SLOT_IN_B_IN2 (s : Nat) : Fld := ⟨0x400311008 + s * 0x80, 0, 10, .rw, 255⟩
-- SLOT_IN_A (R252, 08_loops.md)
abbrev SLOT_IN_A_IN1 (s : Nat) : Fld := ⟨0x400311004 + s * 0x80, 16, 10, .rw, 255⟩
-- SLOT_IN_B (R252, 08_loops.md)
abbrev SLOT_IN_B_IN3 (s : Nat) : Fld := ⟨0x400311008 + s * 0x80, 16, 10, .rw, 255⟩
-- SLOT_OUT (R252, 08_loops.md)
abbrev SLOT_OUT_OUT0 (s : Nat) : Fld := ⟨0x40031100C + s * 0x80, 0, 10, .rw, 0⟩
abbrev SLOT_OUT_OUT1 (s : Nat) : Fld := ⟨0x40031100C + s * 0x80, 10, 10, .rw, 0⟩
abbrev SLOT_OUT_OUT2 (s : Nat) : Fld := ⟨0x40031100C + s * 0x80, 20, 10, .rw, 0⟩
-- SLOT_STAT (R252, 08_loops.md)
abbrev SLOT_STAT_IN_SERVICE (s : Nat) : Fld := ⟨0x400311010 + s * 0x80, 0, 1, .ro, 0⟩
abbrev SLOT_STAT_LOCKED (s : Nat) : Fld := ⟨0x400311010 + s * 0x80, 1, 1, .ro, 0⟩
abbrev SLOT_STAT_ARMED (s : Nat) : Fld := ⟨0x400311010 + s * 0x80, 2, 1, .ro, 1⟩
abbrev SLOT_STAT_MEM (s : Nat) : Fld := ⟨0x400311010 + s * 0x80, 3, 1, .ro, 0⟩
abbrev SLOT_STAT_FE_CNT (s : Nat) : Fld := ⟨0x400311010 + s * 0x80, 16, 16, .ro, 0⟩
-- SLOT_COEF (R252, 08_loops.md)
abbrev SLOT_COEF_COEF (s : Nat) (n : Nat) : Fld := ⟨0x400311020 + s * 0x80 + n * 0x4, 0, 32, .rw, 0⟩
-- SLOT_STATE (R252, 08_loops.md)
abbrev SLOT_STATE_STATE (s : Nat) (n : Nat) : Fld := ⟨0x400311040 + s * 0x80 + n * 0x4, 0, 32, .rw, 0⟩
-- LPE_BOARD (R252, 08_loops.md)
abbrev LPE_BOARD_VALUE (e : Nat) : Fld := ⟨0x400318000 + e * 0x4, 0, 32, .rw, 0⟩
-- SNS_PCFG (R284, 09_sensors.md)
abbrev SNS_PCFG_EN (p : Nat) : Fld := ⟨0x400320100 + p * 0x80, 0, 1, .rw, 0⟩
abbrev SNS_PCFG_PAIR (p : Nat) : Fld := ⟨0x400320100 + p * 0x80, 1, 1, .rw, 0⟩
abbrev SNS_PCFG_TYPE (p : Nat) : Fld := ⟨0x400320100 + p * 0x80, 2, 4, .rw, 0⟩
abbrev SNS_PCFG_GAIN_SH (p : Nat) : Fld := ⟨0x400320100 + p * 0x80, 6, 5, .rw, 0⟩
-- SNS_PERIOD (R284, 09_sensors.md)
abbrev SNS_PERIOD_NOM_PERIOD (p : Nat) : Fld := ⟨0x400320104 + p * 0x80, 0, 16, .rw, 1000⟩
abbrev SNS_PERIOD_TIMEOUT (p : Nat) : Fld := ⟨0x400320104 + p * 0x80, 16, 8, .rw, 4⟩
-- SNS_ERR (R284, 09_sensors.md)
abbrev SNS_ERR_ERR_MAX (p : Nat) : Fld := ⟨0x400320108 + p * 0x80, 0, 8, .rw, 8⟩
abbrev SNS_ERR_ERR_WIN (p : Nat) : Fld := ⟨0x400320108 + p * 0x80, 8, 20, .rw, 1000⟩
-- SNS_LAT (R284, 09_sensors.md)
abbrev SNS_LAT_LAT (p : Nat) : Fld := ⟨0x40032010C + p * 0x80, 0, 24, .rw, 0⟩
-- SNS_GAIN_M (R284, 09_sensors.md)
abbrev SNS_GAIN_M_GAIN_M (p : Nat) : Fld := ⟨0x400320110 + p * 0x80, 0, 32, .rw, 1073741824⟩
-- SNS_OFS (R284, 09_sensors.md)
abbrev SNS_OFS_OFS (p : Nat) : Fld := ⟨0x400320114 + p * 0x80, 0, 32, .rw, 0⟩
-- SNS_PSTAT (R284, 09_sensors.md)
abbrev SNS_PSTAT_STATE (p : Nat) : Fld := ⟨0x400320118 + p * 0x80, 0, 3, .ro, 0⟩
abbrev SNS_PSTAT_TRIP0 (p : Nat) : Fld := ⟨0x400320118 + p * 0x80, 3, 1, .ro, 0⟩
abbrev SNS_PSTAT_TRIP1 (p : Nat) : Fld := ⟨0x400320118 + p * 0x80, 4, 1, .ro, 0⟩
abbrev SNS_PSTAT_ERRS (p : Nat) : Fld := ⟨0x400320118 + p * 0x80, 8, 8, .ro, 0⟩
abbrev SNS_PSTAT_SSTAT (p : Nat) : Fld := ⟨0x400320118 + p * 0x80, 16, 7, .ro, 0⟩
abbrev SNS_PSTAT_SEQ (p : Nat) : Fld := ⟨0x400320118 + p * 0x80, 24, 8, .ro, 0⟩
-- SNS_LAST (R284, 09_sensors.md)
abbrev SNS_LAST_SAMPLE (p : Nat) : Fld := ⟨0x40032011C + p * 0x80, 0, 32, .ro, 0⟩
-- SNS_LAST_TSL (R284, 09_sensors.md)
abbrev SNS_LAST_TSL_TS_LO (p : Nat) : Fld := ⟨0x400320120 + p * 0x80, 0, 32, .ro, 0⟩
-- SNS_LAST_TSH (R284, 09_sensors.md)
abbrev SNS_LAST_TSH_TS_HI (p : Nat) : Fld := ⟨0x400320124 + p * 0x80, 0, 32, .ro, 0⟩
-- SNS_CNT_A (R284, 09_sensors.md)
abbrev SNS_CNT_A_CHK_CNT (p : Nat) : Fld := ⟨0x400320128 + p * 0x80, 0, 16, .rc, 0⟩
abbrev SNS_CNT_A_SEQ_CNT (p : Nat) : Fld := ⟨0x400320128 + p * 0x80, 16, 16, .rc, 0⟩
-- SNS_CNT_B (R284, 09_sensors.md)
abbrev SNS_CNT_B_SERR_CNT (p : Nat) : Fld := ⟨0x40032012C + p * 0x80, 0, 16, .rc, 0⟩
abbrev SNS_CNT_B_TMO_CNT (p : Nat) : Fld := ⟨0x40032012C + p * 0x80, 16, 16, .rc, 0⟩
-- SNS_PCMD (R284, 09_sensors.md)
abbrev SNS_PCMD_RESTORE (p : Nat) : Fld := ⟨0x400320130 + p * 0x80, 0, 1, .wo, 0⟩
-- SNS_THR_LVL (R284, 09_sensors.md)
abbrev SNS_THR_LVL_LVL (p : Nat) (k : Nat) : Fld := ⟨0x400320140 + p * 0x80 + k * 0x8, 0, 32, .rw, 2147483647⟩
-- SNS_THR_CFG (R284, 09_sensors.md)
abbrev SNS_THR_CFG_HYST (p : Nat) (k : Nat) : Fld := ⟨0x400320144 + p * 0x80 + k * 0x8, 0, 24, .rw, 0⟩
abbrev SNS_THR_CFG_DIR (p : Nat) (k : Nat) : Fld := ⟨0x400320144 + p * 0x80 + k * 0x8, 24, 1, .rw, 0⟩
abbrev SNS_THR_CFG_SB_EN (p : Nat) (k : Nat) : Fld := ⟨0x400320144 + p * 0x80 + k * 0x8, 25, 1, .rw, 0⟩
abbrev SNS_THR_CFG_AV_EN (p : Nat) (k : Nat) : Fld := ⟨0x400320144 + p * 0x80 + k * 0x8, 26, 1, .rw, 0⟩
abbrev SNS_THR_CFG_FAILTRIP (p : Nat) (k : Nat) : Fld := ⟨0x400320144 + p * 0x80 + k * 0x8, 27, 1, .rw, 1⟩
-- SNS_SEQ_CFG (R284, 09_sensors.md)
abbrev SNS_SEQ_CFG_EN (m : Nat) : Fld := ⟨0x500321000 + m * 0x10, 0, 1, .rw, 0⟩
abbrev SNS_SEQ_CFG_EXP_ORDER (m : Nat) : Fld := ⟨0x500321000 + m * 0x10, 1, 1, .rw, 0⟩
abbrev SNS_SEQ_CFG_FWIN (m : Nat) : Fld := ⟨0x500321000 + m * 0x10, 2, 11, .rw, 200⟩
abbrev SNS_SEQ_CFG_LOST_MS (m : Nat) : Fld := ⟨0x500321000 + m * 0x10, 13, 10, .rw, 100⟩
abbrev SNS_SEQ_CFG_DEGLITCH (m : Nat) : Fld := ⟨0x500321000 + m * 0x10, 23, 8, .rw, 2⟩
-- SNS_SEQ_LIM (R284, 09_sensors.md)
abbrev SNS_SEQ_LIM_FMIN (m : Nat) : Fld := ⟨0x500321004 + m * 0x10, 0, 16, .rw, 4500⟩
abbrev SNS_SEQ_LIM_FMAX (m : Nat) : Fld := ⟨0x500321004 + m * 0x10, 16, 16, .rw, 6500⟩
-- SNS_SEQ_STAT (R284, 09_sensors.md)
abbrev SNS_SEQ_STAT_ORDER (m : Nat) : Fld := ⟨0x500321008 + m * 0x10, 0, 1, .ro, 0⟩
abbrev SNS_SEQ_STAT_ORDER_VALID (m : Nat) : Fld := ⟨0x500321008 + m * 0x10, 1, 1, .ro, 0⟩
abbrev SNS_SEQ_STAT_IN_OK (m : Nat) : Fld := ⟨0x500321008 + m * 0x10, 2, 3, .ro, 0⟩
abbrev SNS_SEQ_STAT_EDGES (m : Nat) : Fld := ⟨0x500321008 + m * 0x10, 16, 16, .ro, 0⟩
-- SNS_SEQ_FREQ (R284, 09_sensors.md)
abbrev SNS_SEQ_FREQ_FREQ (m : Nat) : Fld := ⟨0x50032100C + m * 0x10, 0, 16, .ro, 0⟩
-- PBX_CTL (R285, 09_sensors.md)
abbrev PBX_CTL_RATE : Fld := ⟨0x400330000, 0, 4, .rw, 0⟩
abbrev PBX_CTL_PRP_EN : Fld := ⟨0x400330000, 4, 1, .rw, 0⟩
abbrev PBX_CTL_HSR_EN : Fld := ⟨0x400330000, 5, 1, .rw, 0⟩
abbrev PBX_CTL_TEST_OK : Fld := ⟨0x400330000, 6, 1, .rw, 0⟩
abbrev PBX_CTL_SIM_OK : Fld := ⟨0x400330000, 7, 1, .rw, 0⟩
-- PBX_LINK (R285, 09_sensors.md)
abbrev PBX_LINK_UP : Fld := ⟨0x400330020, 0, 4, .ro, 0⟩
-- PBX_DD (R285, 09_sensors.md)
abbrev PBX_DD_DD_AGE : Fld := ⟨0x400330024, 0, 10, .rw, 400⟩
-- PBX_RED_CNT (R285, 09_sensors.md)
abbrev PBX_RED_CNT_DUP (q : Nat) : Fld := ⟨0x400330028 + q * 0x4, 0, 16, .rc, 0⟩
abbrev PBX_RED_CNT_OTHER (q : Nat) : Fld := ⟨0x400330028 + q * 0x4, 16, 16, .rc, 0⟩
-- PBX_RING_BASE (R285, 09_sensors.md)
abbrev PBX_RING_BASE_BASE (r : Nat) : Fld := ⟨0x400330040 + r * 0x10, 11, 21, .rw, 0⟩
-- PBX_RING_SIZE (R285, 09_sensors.md)
abbrev PBX_RING_SIZE_SIZE (r : Nat) : Fld := ⟨0x400330044 + r * 0x10, 0, 10, .rw, 0⟩
abbrev PBX_RING_SIZE_DROP (r : Nat) : Fld := ⟨0x400330044 + r * 0x10, 16, 16, .rc, 0⟩
-- PBX_RING_PROD (R285, 09_sensors.md)
abbrev PBX_RING_PROD_PROD (r : Nat) : Fld := ⟨0x400330048 + r * 0x10, 0, 10, .rw, 0⟩
-- PBX_RING_CONS (R285, 09_sensors.md)
abbrev PBX_RING_CONS_CONS (r : Nat) : Fld := ⟨0x40033004C + r * 0x10, 0, 10, .rw, 0⟩
-- SV_CFG (R285, 09_sensors.md)
abbrev SV_CFG_EN (k : Nat) : Fld := ⟨0x400331000 + k * 0x80, 0, 1, .rw, 0⟩
abbrev SV_CFG_PAIR (k : Nat) : Fld := ⟨0x400331000 + k * 0x80, 1, 1, .rw, 0⟩
abbrev SV_CFG_RATE (k : Nat) : Fld := ⟨0x400331000 + k * 0x80, 2, 3, .rw, 0⟩
abbrev SV_CFG_ALIGN (k : Nat) : Fld := ⟨0x400331000 + k * 0x80, 5, 1, .rw, 0⟩
abbrev SV_CFG_SYNC_REQ (k : Nat) : Fld := ⟨0x400331000 + k * 0x80, 6, 1, .rw, 1⟩
abbrev SV_CFG_CHANS (k : Nat) : Fld := ⟨0x400331000 + k * 0x80, 7, 5, .rw, 1⟩
abbrev SV_CFG_ID_LEN (k : Nat) : Fld := ⟨0x400331000 + k * 0x80, 12, 7, .rw, 1⟩
abbrev SV_CFG_TMO (k : Nat) : Fld := ⟨0x400331000 + k * 0x80, 19, 8, .rw, 8⟩
-- SV_APPID (R285, 09_sensors.md)
abbrev SV_APPID_APPID (k : Nat) : Fld := ⟨0x400331004 + k * 0x80, 0, 16, .rw, 16384⟩
abbrev SV_APPID_VID (k : Nat) : Fld := ⟨0x400331004 + k * 0x80, 16, 12, .rw, 0⟩
abbrev SV_APPID_VID_EN (k : Nat) : Fld := ⟨0x400331004 + k * 0x80, 28, 1, .rw, 0⟩
-- SV_CONFREV (R285, 09_sensors.md)
abbrev SV_CONFREV_CONFREV (k : Nat) : Fld := ⟨0x400331008 + k * 0x80, 0, 32, .rw, 1⟩
-- SV_ALIGN (R285, 09_sensors.md)
abbrev SV_ALIGN_ALIGN_DLY (k : Nat) : Fld := ⟨0x40033100C + k * 0x80, 0, 24, .rw, 0⟩
-- SV_AGE (R285, 09_sensors.md)
abbrev SV_AGE_MAX_AGE (k : Nat) : Fld := ⟨0x400331010 + k * 0x80, 0, 24, .rw, 16777215⟩
-- SV_STAT (R285, 09_sensors.md)
abbrev SV_STAT_STATE (k : Nat) : Fld := ⟨0x400331014 + k * 0x80, 0, 2, .ro, 0⟩
abbrev SV_STAT_QBAD (k : Nat) : Fld := ⟨0x400331014 + k * 0x80, 16, 16, .ro, 0⟩
-- SV_SMP (R285, 09_sensors.md)
abbrev SV_SMP_SMP_CNT (k : Nat) : Fld := ⟨0x400331018 + k * 0x80, 0, 17, .ro, 0⟩
-- SV_CNT_A (R285, 09_sensors.md)
abbrev SV_CNT_A_GAP (k : Nat) : Fld := ⟨0x40033101C + k * 0x80, 0, 16, .rc, 0⟩
abbrev SV_CNT_A_REPEAT (k : Nat) : Fld := ⟨0x40033101C + k * 0x80, 16, 16, .rc, 0⟩
-- SV_CNT_B (R285, 09_sensors.md)
abbrev SV_CNT_B_LATE (k : Nat) : Fld := ⟨0x400331020 + k * 0x80, 0, 16, .rc, 0⟩
abbrev SV_CNT_B_MISMATCH (k : Nat) : Fld := ⟨0x400331020 + k * 0x80, 16, 16, .rc, 0⟩
-- SV_ID (R285, 09_sensors.md)
abbrev SV_ID_OCTETS (k : Nat) (n : Nat) : Fld := ⟨0x400331040 + k * 0x80 + n * 0x4, 0, 32, .rw, 0⟩
-- MAP_CFG (R285, 09_sensors.md)
abbrev MAP_CFG_EN (j : Nat) : Fld := ⟨0x400335000 + j * 0x8, 0, 1, .rw, 0⟩
abbrev MAP_CFG_STREAM (j : Nat) : Fld := ⟨0x400335000 + j * 0x8, 1, 6, .rw, 0⟩
abbrev MAP_CFG_CHAN (j : Nat) : Fld := ⟨0x400335000 + j * 0x8, 7, 4, .rw, 0⟩
abbrev MAP_CFG_SH (j : Nat) : Fld := ⟨0x400335000 + j * 0x8, 11, 5, .rw, 0⟩
-- MAP_M (R285, 09_sensors.md)
abbrev MAP_M_M (j : Nat) : Fld := ⟨0x400335004 + j * 0x8, 0, 32, .rw, 0⟩
-- GO_CFG (R285, 09_sensors.md)
abbrev GO_CFG_EN (c : Nat) : Fld := ⟨0x400336000 + c * 0x80, 0, 1, .rw, 0⟩
abbrev GO_CFG_PAIR (c : Nat) : Fld := ⟨0x400336000 + c * 0x80, 1, 1, .rw, 0⟩
abbrev GO_CFG_TRIP_IDX (c : Nat) : Fld := ⟨0x400336000 + c * 0x80, 2, 6, .rw, 0⟩
abbrev GO_CFG_ANA_IDX (c : Nat) : Fld := ⟨0x400336000 + c * 0x80, 8, 6, .rw, 0⟩
abbrev GO_CFG_ANA_EN (c : Nat) : Fld := ⟨0x400336000 + c * 0x80, 14, 1, .rw, 0⟩
abbrev GO_CFG_FAIL_VAL (c : Nat) : Fld := ⟨0x400336000 + c * 0x80, 15, 1, .rw, 1⟩
abbrev GO_CFG_SB_EN (c : Nat) : Fld := ⟨0x400336000 + c * 0x80, 16, 1, .rw, 0⟩
abbrev GO_CFG_AV_EN (c : Nat) : Fld := ⟨0x400336000 + c * 0x80, 17, 1, .rw, 0⟩
abbrev GO_CFG_COPY (c : Nat) : Fld := ⟨0x400336000 + c * 0x80, 18, 1, .rw, 0⟩
abbrev GO_CFG_REF_LEN (c : Nat) : Fld := ⟨0x400336000 + c * 0x80, 19, 7, .rw, 1⟩
-- GO_APPID (R285, 09_sensors.md)
abbrev GO_APPID_APPID (c : Nat) : Fld := ⟨0x400336004 + c * 0x80, 0, 16, .rw, 0⟩
abbrev GO_APPID_VID (c : Nat) : Fld := ⟨0x400336004 + c * 0x80, 16, 12, .rw, 0⟩
abbrev GO_APPID_VID_EN (c : Nat) : Fld := ⟨0x400336004 + c * 0x80, 28, 1, .rw, 0⟩
-- GO_CONFREV (R285, 09_sensors.md)
abbrev GO_CONFREV_CONFREV (c : Nat) : Fld := ⟨0x400336008 + c * 0x80, 0, 32, .rw, 1⟩
-- GO_STAT (R285, 09_sensors.md)
abbrev GO_STAT_TRIP (c : Nat) : Fld := ⟨0x40033600C + c * 0x80, 0, 1, .ro, 0⟩
abbrev GO_STAT_TIMEOUT (c : Nat) : Fld := ⟨0x40033600C + c * 0x80, 1, 1, .ro, 0⟩
abbrev GO_STAT_SEEN (c : Nat) : Fld := ⟨0x40033600C + c * 0x80, 2, 1, .ro, 0⟩
-- GO_STNUM (R285, 09_sensors.md)
abbrev GO_STNUM_STNUM (c : Nat) : Fld := ⟨0x400336010 + c * 0x80, 0, 32, .ro, 0⟩
-- GO_SQNUM (R285, 09_sensors.md)
abbrev GO_SQNUM_SQNUM (c : Nat) : Fld := ⟨0x400336014 + c * 0x80, 0, 32, .ro, 0⟩
-- GO_CNT (R285, 09_sensors.md)
abbrev GO_CNT_FMT_CNT (c : Nat) : Fld := ⟨0x400336018 + c * 0x80, 0, 16, .rc, 0⟩
abbrev GO_CNT_TMO_CNT (c : Nat) : Fld := ⟨0x400336018 + c * 0x80, 16, 16, .rc, 0⟩
-- GO_REF (R285, 09_sensors.md)
abbrev GO_REF_OCTETS (c : Nat) (n : Nat) : Fld := ⟨0x400336040 + c * 0x80 + n * 0x4, 0, 32, .rw, 0⟩
-- MLK_CTL (R347, 11_trackway.md)
abbrev MLK_CTL_PTS_EN : Fld := ⟨0x400500000, 0, 1, .rw, 0⟩
abbrev MLK_CTL_RETRY : Fld := ⟨0x400500000, 1, 2, .rw, 3⟩
abbrev MLK_CTL_PTS_TMO : Fld := ⟨0x400500000, 8, 8, .rw, 32⟩
-- MLK_NOTICE (R347, 11_trackway.md)
abbrev MLK_NOTICE_CID : Fld := ⟨0x400500020, 0, 15, .ro, 0⟩
abbrev MLK_NOTICE_KIND : Fld := ⟨0x400500020, 16, 2, .ro, 0⟩
-- MLK_HUB_RPT (R347, 11_trackway.md)
abbrev MLK_HUB_RPT_REPORTS (h : Nat) : Fld := ⟨0x400500100 + h * 0x10, 0, 32, .rc, 0⟩
-- MLK_HUB_ERR (R347, 11_trackway.md)
abbrev MLK_HUB_ERR_REC_BAD (h : Nat) : Fld := ⟨0x400500104 + h * 0x10, 0, 16, .rc, 0⟩
abbrev MLK_HUB_ERR_STRAY (h : Nat) : Fld := ⟨0x400500104 + h * 0x10, 16, 16, .rc, 0⟩
-- MLK_HUB_PTS (R347, 11_trackway.md)
abbrev MLK_HUB_PTS_RETRIES (h : Nat) : Fld := ⟨0x400500108 + h * 0x10, 0, 16, .rc, 0⟩
abbrev MLK_HUB_PTS_FAILS (h : Nat) : Fld := ⟨0x400500108 + h * 0x10, 16, 16, .rc, 0⟩
-- MLK_HUB_PEND (R347, 11_trackway.md)
abbrev MLK_HUB_PEND_PENDING (h : Nat) : Fld := ⟨0x40050010C + h * 0x10, 0, 7, .ro, 0⟩
-- MLK_HUB_LEAD (R347, 11_trackway.md)
abbrev MLK_HUB_LEAD_MARGIN (h : Nat) : Fld := ⟨0x400500400 + h * 0x4, 0, 16, .ro, 0⟩
abbrev MLK_HUB_LEAD_VALID (h : Nat) : Fld := ⟨0x400500400 + h * 0x4, 16, 1, .ro, 0⟩
abbrev MLK_HUB_LEAD_NEG (h : Nat) : Fld := ⟨0x400500400 + h * 0x4, 17, 1, .ro, 0⟩
-- CAP_CTL (R406, 14_capture.md)
abbrev CAP_CTL_ARM : Fld := ⟨0x400520000, 0, 1, .w1s, 0⟩
abbrev CAP_CTL_STOP : Fld := ⟨0x400520000, 1, 1, .w1s, 0⟩
abbrev CAP_CTL_SWTRIG : Fld := ⟨0x400520000, 2, 1, .w1s, 0⟩
abbrev CAP_CTL_MODE : Fld := ⟨0x400520000, 3, 1, .rw, 0⟩
abbrev CAP_CTL_PREFILL : Fld := ⟨0x400520000, 4, 1, .rw, 0⟩
abbrev CAP_CTL_SINK : Fld := ⟨0x400520000, 5, 1, .rw, 0⟩
abbrev CAP_CTL_SINK_PAIR : Fld := ⟨0x400520000, 6, 1, .rw, 0⟩
abbrev CAP_CTL_TRIG_EDGE : Fld := ⟨0x400520000, 7, 1, .rw, 0⟩
abbrev CAP_CTL_TRIG_FAULT : Fld := ⟨0x400520000, 8, 1, .rw, 0⟩
abbrev CAP_CTL_TRIG_SNP : Fld := ⟨0x400520000, 9, 1, .rw, 0⟩
abbrev CAP_CTL_FAULT_CLASS : Fld := ⟨0x400520000, 10, 2, .rw, 3⟩
-- CAP_REGION (R406, 14_capture.md)
abbrev CAP_REGION_BASE : Fld := ⟨0x400520004, 0, 10, .rw, 0⟩
abbrev CAP_REGION_SIZE : Fld := ⟨0x400520004, 16, 8, .rw, 128⟩
-- CAP_RATE (R406, 14_capture.md)
abbrev CAP_RATE_DEC : Fld := ⟨0x400520008, 0, 16, .rw, 1⟩
abbrev CAP_RATE_NCH : Fld := ⟨0x400520008, 16, 7, .rw, 1⟩
-- CAP_POST (R406, 14_capture.md)
abbrev CAP_POST_POST : Fld := ⟨0x40052000C, 0, 24, .rw, 1⟩
-- CAP_TRIG (R406, 14_capture.md)
abbrev CAP_TRIG_CHAN : Fld := ⟨0x400520010, 0, 6, .rw, 0⟩
abbrev CAP_TRIG_EDGE : Fld := ⟨0x400520010, 6, 2, .rw, 0⟩
-- CAP_LEVEL (R406, 14_capture.md)
abbrev CAP_LEVEL_LEVEL : Fld := ⟨0x400520014, 0, 32, .rw, 0⟩
-- CAP_HYST (R406, 14_capture.md)
abbrev CAP_HYST_HYST : Fld := ⟨0x400520018, 0, 32, .rw, 0⟩
-- CAP_STATE (R406, 14_capture.md)
abbrev CAP_STATE_STATE : Fld := ⟨0x40052001C, 0, 3, .ro, 0⟩
abbrev CAP_STATE_TRIG_CAUSE : Fld := ⟨0x40052001C, 8, 4, .ro, 0⟩
-- CAP_TRIG_DN (R406, 14_capture.md)
abbrev CAP_TRIG_DN_DN : Fld := ⟨0x400520020, 0, 32, .ro, 0⟩
-- CAP_TRIG_ROW (R406, 14_capture.md)
abbrev CAP_TRIG_ROW_ROW : Fld := ⟨0x400520024, 0, 24, .ro, 0⟩
-- CAP_PRE (R406, 14_capture.md)
abbrev CAP_PRE_PRE : Fld := ⟨0x400520028, 0, 24, .ro, 0⟩
-- CAP_GEOM (R406, 14_capture.md)
abbrev CAP_GEOM_DEPTH : Fld := ⟨0x40052002C, 0, 24, .ro, 0⟩
abbrev CAP_GEOM_ROW16 : Fld := ⟨0x40052002C, 24, 5, .ro, 0⟩
-- CAP_SPROD (R406, 14_capture.md)
abbrev CAP_SPROD_PROD : Fld := ⟨0x400520030, 0, 24, .ro, 0⟩
-- CAP_SCONS (R406, 14_capture.md)
abbrev CAP_SCONS_CONS : Fld := ⟨0x400520034, 0, 24, .ro, 0⟩
-- CAP_FLASH_ADDR (R406, 14_capture.md)
abbrev CAP_FLASH_ADDR_ADDR : Fld := ⟨0x400520038, 16, 16, .rw, 0⟩
-- CAP_FLASH_LEN (R406, 14_capture.md)
abbrev CAP_FLASH_LEN_LEN : Fld := ⟨0x40052003C, 0, 16, .rw, 0⟩
-- CAP_MAC_L (R406, 14_capture.md)
abbrev CAP_MAC_L_MAC_LO : Fld := ⟨0x400520040, 0, 32, .rw, 0⟩
-- CAP_MAC_H (R406, 14_capture.md)
abbrev CAP_MAC_H_MAC_HI : Fld := ⟨0x400520044, 0, 16, .rw, 0⟩
abbrev CAP_MAC_H_VID : Fld := ⟨0x400520044, 16, 12, .rw, 0⟩
abbrev CAP_MAC_H_PCP : Fld := ⟨0x400520044, 28, 3, .rw, 0⟩
abbrev CAP_MAC_H_TAG : Fld := ⟨0x400520044, 31, 1, .rw, 0⟩
-- CAP_CNT (R406, 14_capture.md)
abbrev CAP_CNT_TRIG_IGN : Fld := ⟨0x400520048, 0, 16, .rc, 0⟩
abbrev CAP_CNT_FRAMES : Fld := ⟨0x400520048, 16, 16, .rc, 0⟩
-- CAP_CH (R406, 14_capture.md)
abbrev CAP_CH_SRC (c : Nat) : Fld := ⟨0x400520100 + c * 0x4, 0, 10, .rw, 255⟩
abbrev CAP_CH_KIND (c : Nat) : Fld := ⟨0x400520100 + c * 0x4, 10, 1, .rw, 0⟩
-- SCH_WAIT (R440, 15_scheduler.md)
abbrev SCH_WAIT_THREAD (core : Nat) : Fld := ⟨0x400530000 + core * 0x10000000000, 0, 8, .rb, 0⟩
abbrev SCH_WAIT_FLOW (core : Nat) : Fld := ⟨0x400530000 + core * 0x10000000000, 8, 6, .rb, 0⟩
abbrev SCH_WAIT_REASON (core : Nat) : Fld := ⟨0x400530000 + core * 0x10000000000, 14, 2, .rb, 0⟩
abbrev SCH_WAIT_SEQ (core : Nat) : Fld := ⟨0x400530000 + core * 0x10000000000, 16, 16, .rb, 0⟩
-- SCH_ITEM_SRC (R440, 15_scheduler.md)
abbrev SCH_ITEM_SRC_SRC (core : Nat) : Fld := ⟨0x400530004 + core * 0x10000000000, 0, 9, .ro, 0⟩
-- SCH_ITEM_DATA (R440, 15_scheduler.md)
abbrev SCH_ITEM_DATA_DATA (core : Nat) : Fld := ⟨0x400530008 + core * 0x10000000000, 0, 32, .ro, 0⟩
-- SCH_END (R440, 15_scheduler.md)
abbrev SCH_END_DISP (core : Nat) : Fld := ⟨0x400530010 + core * 0x10000000000, 0, 2, .wo, 0⟩
-- SCH_END_DN (R440, 15_scheduler.md)
abbrev SCH_END_DN_DN (core : Nat) : Fld := ⟨0x400530014 + core * 0x10000000000, 0, 32, .rw, 0⟩
-- SCH_END_RES (R440, 15_scheduler.md)
abbrev SCH_END_RES_RES (core : Nat) : Fld := ⟨0x400530018 + core * 0x10000000000, 0, 32, .rw, 0⟩
-- SCH_CMD (R440, 15_scheduler.md)
abbrev SCH_CMD_OP (core : Nat) : Fld := ⟨0x400530020 + core * 0x10000000000, 0, 4, .wo, 0⟩
abbrev SCH_CMD_ARG (core : Nat) : Fld := ⟨0x400530020 + core * 0x10000000000, 8, 8, .wo, 0⟩
-- SCH_CMD_DATA (R440, 15_scheduler.md)
abbrev SCH_CMD_DATA_DATA (core : Nat) : Fld := ⟨0x400530024 + core * 0x10000000000, 0, 32, .rw, 0⟩
-- SCH_CMD_RES (R440, 15_scheduler.md)
abbrev SCH_CMD_RES_STATUS (core : Nat) : Fld := ⟨0x400530028 + core * 0x10000000000, 0, 3, .rb, 0⟩
abbrev SCH_CMD_RES_SEQ (core : Nat) : Fld := ⟨0x400530028 + core * 0x10000000000, 16, 16, .rb, 0⟩
-- SCH_IPI (R440, 15_scheduler.md)
abbrev SCH_IPI_TARGET (core : Nat) : Fld := ⟨0x40053002C + core * 0x10000000000, 0, 16, .wo, 0⟩
abbrev SCH_IPI_CLR (core : Nat) : Fld := ⟨0x40053002C + core * 0x10000000000, 16, 1, .wo, 0⟩
-- SCH_CTL (R440, 15_scheduler.md)
abbrev SCH_CTL_RUN_MAX : Fld := ⟨0x400530100, 0, 16, .rw, 0⟩
abbrev SCH_CTL_PACE_LIM : Fld := ⟨0x400530100, 16, 11, .rw, 0⟩
-- SCH_POOL (R440, 15_scheduler.md)
abbrev SCH_POOL_FREE : Fld := ⟨0x400530104, 0, 11, .ro, 1024⟩
abbrev SCH_POOL_COAL_CNT : Fld := ⟨0x400530104, 16, 16, .rc, 0⟩
-- SCH_RR_BASE (R440, 15_scheduler.md)
abbrev SCH_RR_BASE_BASE : Fld := ⟨0x400530110, 4, 28, .rw, 0⟩
-- SCH_RR_SIZE (R440, 15_scheduler.md)
abbrev SCH_RR_SIZE_SIZE : Fld := ⟨0x400530114, 0, 12, .rw, 0⟩
-- SCH_RR_PROD (R440, 15_scheduler.md)
abbrev SCH_RR_PROD_PROD : Fld := ⟨0x400530118, 0, 12, .ro, 0⟩
-- SCH_RR_CONS (R440, 15_scheduler.md)
abbrev SCH_RR_CONS_CONS : Fld := ⟨0x40053011C, 0, 12, .rw, 0⟩
-- SCH_CORE_STAT (R440, 15_scheduler.md)
abbrev SCH_CORE_STAT_STATE (c : Nat) : Fld := ⟨0x400532000 + c * 0x20, 0, 2, .ro, 0⟩
abbrev SCH_CORE_STAT_PREEMPT (c : Nat) : Fld := ⟨0x400532000 + c * 0x20, 2, 1, .ro, 0⟩
abbrev SCH_CORE_STAT_THREAD (c : Nat) : Fld := ⟨0x400532000 + c * 0x20, 8, 8, .ro, 0⟩
abbrev SCH_CORE_STAT_DEPTH (c : Nat) : Fld := ⟨0x400532000 + c * 0x20, 16, 8, .ro, 0⟩
-- SCH_CORE_LOAD (R440, 15_scheduler.md)
abbrev SCH_CORE_LOAD_LOAD (c : Nat) : Fld := ⟨0x400532004 + c * 0x20, 0, 16, .ro, 0⟩
abbrev SCH_CORE_LOAD_RUNS (c : Nat) : Fld := ⟨0x400532004 + c * 0x20, 16, 16, .ro, 0⟩
-- SCH_CORE_PACE (R440, 15_scheduler.md)
abbrev SCH_CORE_PACE_LAST (c : Nat) : Fld := ⟨0x400532008 + c * 0x20, 0, 11, .ro, 0⟩
abbrev SCH_CORE_PACE_MIN (c : Nat) : Fld := ⟨0x400532008 + c * 0x20, 16, 11, .rc, 2047⟩
-- SCH_CORE_CNT (R440, 15_scheduler.md)
abbrev SCH_CORE_CNT_SCRUB_CNT (c : Nat) : Fld := ⟨0x40053200C + c * 0x20, 0, 8, .rc, 0⟩
abbrev SCH_CORE_CNT_REFETCH_CNT (c : Nat) : Fld := ⟨0x40053200C + c * 0x20, 8, 8, .rc, 0⟩
abbrev SCH_CORE_CNT_IMPLICIT_CNT (c : Nat) : Fld := ⟨0x40053200C + c * 0x20, 16, 8, .rc, 0⟩
-- SCH_THR_CFG (R440, 15_scheduler.md)
abbrev SCH_THR_CFG_PRIO (t : Nat) : Fld := ⟨0x400534000 + t * 0x10, 0, 5, .rw, 31⟩
abbrev SCH_THR_CFG_AFFINITY (t : Nat) : Fld := ⟨0x400534000 + t * 0x10, 16, 16, .rw, 65535⟩
-- SCH_THR_STAT (R440, 15_scheduler.md)
abbrev SCH_THR_STAT_STATE (t : Nat) : Fld := ⟨0x400534004 + t * 0x10, 0, 3, .ro, 0⟩
abbrev SCH_THR_STAT_WAKE (t : Nat) : Fld := ⟨0x400534004 + t * 0x10, 3, 1, .ro, 0⟩
abbrev SCH_THR_STAT_DL_VALID (t : Nat) : Fld := ⟨0x400534004 + t * 0x10, 4, 1, .ro, 0⟩
abbrev SCH_THR_STAT_CORE (t : Nat) : Fld := ⟨0x400534004 + t * 0x10, 8, 4, .ro, 0⟩
abbrev SCH_THR_STAT_FLOW (t : Nat) : Fld := ⟨0x400534004 + t * 0x10, 16, 6, .ro, 0⟩
-- SCH_THR_DL (R440, 15_scheduler.md)
abbrev SCH_THR_DL_DN (t : Nat) : Fld := ⟨0x400534008 + t * 0x10, 0, 32, .ro, 0⟩
-- SCH_FLOW_CFG (R440, 15_scheduler.md)
abbrev SCH_FLOW_CFG_MODE (f : Nat) : Fld := ⟨0x400538000 + f * 0x20, 0, 1, .rw, if 1 ≤ f ∧ f ≤ 12 then 0 else 1⟩
abbrev SCH_FLOW_CFG_RING (f : Nat) : Fld := ⟨0x400538000 + f * 0x20, 1, 1, .rw, 0⟩
abbrev SCH_FLOW_CFG_PAR (f : Nat) : Fld := ⟨0x400538000 + f * 0x20, 2, 5, .rw, 16⟩
abbrev SCH_FLOW_CFG_NEXT (f : Nat) : Fld := ⟨0x400538000 + f * 0x20, 8, 6, .rw, 0⟩
abbrev SCH_FLOW_CFG_DEF_THREAD (f : Nat) : Fld := ⟨0x400538000 + f * 0x20, 16, 8, .rw, 0⟩
abbrev SCH_FLOW_CFG_QWARN (f : Nat) : Fld := ⟨0x400538000 + f * 0x20, 24, 8, .rw, 255⟩
-- SCH_FLOW_STAT (R440, 15_scheduler.md)
abbrev SCH_FLOW_STAT_QUEUED (f : Nat) : Fld := ⟨0x400538004 + f * 0x20, 0, 11, .ro, 0⟩
abbrev SCH_FLOW_STAT_IN_SVC (f : Nat) : Fld := ⟨0x400538004 + f * 0x20, 16, 5, .ro, 0⟩
abbrev SCH_FLOW_STAT_HELD (f : Nat) : Fld := ⟨0x400538004 + f * 0x20, 24, 7, .ro, 0⟩
-- SCH_FLOW_WAIT (R440, 15_scheduler.md)
abbrev SCH_FLOW_WAIT_MAX (f : Nat) : Fld := ⟨0x400538008 + f * 0x20, 0, 16, .rc, 0⟩
abbrev SCH_FLOW_WAIT_MEAN (f : Nat) : Fld := ⟨0x400538008 + f * 0x20, 16, 16, .ro, 0⟩
-- SCH_FLOW_SEQ (R440, 15_scheduler.md)
abbrev SCH_FLOW_SEQ_NEXT_SEQ (f : Nat) : Fld := ⟨0x40053800C + f * 0x20, 0, 16, .ro, 0⟩
abbrev SCH_FLOW_SEQ_REL_SEQ (f : Nat) : Fld := ⟨0x40053800C + f * 0x20, 16, 16, .ro, 0⟩
-- SCH_SRC (R440, 15_scheduler.md)
abbrev SCH_SRC_FLOW (s : Nat) : Fld := ⟨0x40053C000 + s * 0x4, 0, 6, .rw, 0⟩
abbrev SCH_SRC_THREAD (s : Nat) : Fld := ⟨0x40053C000 + s * 0x4, 8, 8, .rw, 0⟩
abbrev SCH_SRC_PEND (s : Nat) : Fld := ⟨0x40053C000 + s * 0x4, 16, 1, .ro, 0⟩
-- SBX_CMD (R486, 17_signal_box.md)
abbrev SBX_CMD_OP : Fld := ⟨0x400540000, 0, 3, .wo, 0⟩
abbrev SBX_CMD_KEY : Fld := ⟨0x400540000, 16, 16, .wo, 0⟩
-- SBX_STATE (R486, 17_signal_box.md)
abbrev SBX_STATE_CFG : Fld := ⟨0x400540004, 0, 2, .ro, 0⟩
abbrev SBX_STATE_HB : Fld := ⟨0x400540004, 2, 2, .ro, 0⟩
abbrev SBX_STATE_TRIPPED : Fld := ⟨0x400540004, 4, 1, .ro, 0⟩
abbrev SBX_STATE_AV_OUT : Fld := ⟨0x400540004, 5, 1, .ro, 0⟩
abbrev SBX_STATE_GL_ACTIVE : Fld := ⟨0x400540004, 6, 1, .ro, 0⟩
abbrev SBX_STATE_GL_OWN : Fld := ⟨0x400540004, 7, 1, .ro, 0⟩
abbrev SBX_STATE_PEER_OK : Fld := ⟨0x400540004, 8, 1, .ro, 0⟩
abbrev SBX_STATE_PEER_GL : Fld := ⟨0x400540004, 9, 1, .ro, 0⟩
abbrev SBX_STATE_PEER_TRIP : Fld := ⟨0x400540004, 10, 1, .ro, 0⟩
abbrev SBX_STATE_RUN_OK : Fld := ⟨0x400540004, 11, 1, .ro, 0⟩
abbrev SBX_STATE_PRE_OK : Fld := ⟨0x400540004, 12, 1, .ro, 0⟩
-- SBX_GLACIER (R486, 17_signal_box.md)
abbrev SBX_GLACIER_GL_TIME : Fld := ⟨0x400540008, 0, 16, .ro, 0⟩
-- SBX_HS (R486, 17_signal_box.md)
abbrev SBX_HS_HS : Fld := ⟨0x40054000C, 0, 8, .rw, 0⟩
-- SBX_HEART (R486, 17_signal_box.md)
abbrev SBX_HEART_TOKEN : Fld := ⟨0x400540010, 0, 8, .wo, 0⟩
-- SBX_PERM (R486, 17_signal_box.md)
abbrev SBX_PERM_LS : Fld := ⟨0x400540014, 0, 8, .ro, 0⟩
abbrev SBX_PERM_HS_OUT : Fld := ⟨0x400540014, 8, 8, .ro, 0⟩
abbrev SBX_PERM_RB : Fld := ⟨0x400540014, 16, 8, .ro, 0⟩
abbrev SBX_PERM_GRANTED : Fld := ⟨0x400540014, 24, 8, .ro, 0⟩
-- SBX_CFG_LOAD (R486, 17_signal_box.md)
abbrev SBX_CFG_LOAD_WORD : Fld := ⟨0x400540018, 0, 32, .wo, 0⟩
-- SBX_CFG_CTL (R486, 17_signal_box.md)
abbrev SBX_CFG_CTL_START : Fld := ⟨0x40054001C, 0, 1, .w1s, 0⟩
abbrev SBX_CFG_CTL_LOCK : Fld := ⟨0x40054001C, 1, 1, .w1s, 0⟩
abbrev SBX_CFG_CTL_WORDS : Fld := ⟨0x40054001C, 16, 7, .ro, 0⟩
-- SBX_FT (R486, 17_signal_box.md)
abbrev SBX_FT_CAUSE : Fld := ⟨0x400540040, 0, 4, .ro, 0⟩
abbrev SBX_FT_CLASS : Fld := ⟨0x400540040, 4, 4, .ro, 0⟩
abbrev SBX_FT_SOURCE : Fld := ⟨0x400540040, 8, 8, .ro, 0⟩
abbrev SBX_FT_VALID : Fld := ⟨0x400540040, 31, 1, .ro, 0⟩
-- SBX_FT_TSL (R486, 17_signal_box.md)
abbrev SBX_FT_TSL_TS_LO : Fld := ⟨0x400540044, 0, 32, .ro, 0⟩
-- SBX_FT_TSH (R486, 17_signal_box.md)
abbrev SBX_FT_TSH_TS_HI : Fld := ⟨0x400540048, 0, 32, .ro, 0⟩
-- SBX_TRIP_LINE (R486, 17_signal_box.md)
abbrev SBX_TRIP_LINE_LINE : Fld := ⟨0x40054004C, 0, 8, .ro, 0⟩
abbrev SBX_TRIP_LINE_VALID : Fld := ⟨0x40054004C, 8, 1, .ro, 0⟩
-- SBX_CNT (R486, 17_signal_box.md)
abbrev SBX_CNT_TP_CNT : Fld := ⟨0x400540050, 0, 16, .rc, 0⟩
abbrev SBX_CNT_RB_ERR : Fld := ⟨0x400540050, 16, 16, .rc, 0⟩
-- SBX_LINES (R486, 17_signal_box.md)
abbrev SBX_LINES_LINE (w : Nat) : Fld := ⟨0x400540080 + w * 0x4, 0, 32, .ro, 0⟩
-- SBX_CH (R486, 17_signal_box.md)
abbrev SBX_CH_ROLE (k : Nat) : Fld := ⟨0x400540100 + k * 0x4, 0, 2, .ro, 0⟩
abbrev SBX_CH_TRIP (k : Nat) : Fld := ⟨0x400540100 + k * 0x4, 2, 1, .ro, 0⟩
abbrev SBX_CH_TEST (k : Nat) : Fld := ⟨0x400540100 + k * 0x4, 3, 1, .ro, 0⟩
-- SDL_CTL (R510, 18_pair.md)
abbrev SDL_CTL_JOIN : Fld := ⟨0x400510000, 0, 1, .w1s, 0⟩
abbrev SDL_CTL_SOLO : Fld := ⟨0x400510000, 1, 1, .rw, 0⟩
abbrev SDL_CTL_SWAP : Fld := ⟨0x400510000, 2, 1, .w1s, 0⟩
abbrev SDL_CTL_RELQ : Fld := ⟨0x400510000, 3, 1, .w1s, 0⟩
abbrev SDL_CTL_REJOIN : Fld := ⟨0x400510000, 4, 1, .w1s, 0⟩
abbrev SDL_CTL_NO_REV : Fld := ⟨0x400510000, 5, 1, .rw, 0⟩
abbrev SDL_CTL_RLQ_RST : Fld := ⟨0x400510000, 6, 1, .rw, 0⟩
abbrev SDL_CTL_RLQ_TB : Fld := ⟨0x400510000, 8, 1, .ro, 1⟩
abbrev SDL_CTL_RLQ_MASK : Fld := ⟨0x400510000, 9, 5, .rw, 0⟩
abbrev SDL_CTL_TAKE_HW : Fld := ⟨0x400510000, 14, 5, .rw, 0⟩
-- SDL_TMO (R510, 18_pair.md)
abbrev SDL_TMO_TAKE_TMO : Fld := ⟨0x400510004, 0, 8, .rw, 4⟩
abbrev SDL_TMO_MIR_GAP : Fld := ⟨0x400510004, 8, 8, .rw, 4⟩
abbrev SDL_TMO_SYNC_N : Fld := ⟨0x400510004, 16, 10, .rw, 200⟩
-- SDL_TMO2 (R510, 18_pair.md)
abbrev SDL_TMO2_REV_HOLD : Fld := ⟨0x400510008, 0, 16, .rw, 1000⟩
abbrev SDL_TMO2_JOIN_TMO : Fld := ⟨0x400510008, 16, 16, .rw, 100⟩
-- SDL_ROLE (R510, 18_pair.md)
abbrev SDL_ROLE_ROLE : Fld := ⟨0x40051000C, 0, 3, .ro, 0⟩
abbrev SDL_ROLE_PREFER : Fld := ⟨0x40051000C, 3, 1, .ro, 0⟩
abbrev SDL_ROLE_UNIT : Fld := ⟨0x40051000C, 4, 1, .ro, 0⟩
abbrev SDL_ROLE_PEER_ROLE : Fld := ⟨0x40051000C, 5, 3, .ro, 0⟩
abbrev SDL_ROLE_PEER_VALID : Fld := ⟨0x40051000C, 8, 1, .ro, 0⟩
abbrev SDL_ROLE_SENDING : Fld := ⟨0x40051000C, 9, 1, .ro, 0⟩
abbrev SDL_ROLE_HO_PEND : Fld := ⟨0x40051000C, 10, 1, .ro, 0⟩
abbrev SDL_ROLE_CLR_PEND : Fld := ⟨0x40051000C, 11, 1, .ro, 0⟩
abbrev SDL_ROLE_SYNC_CNT : Fld := ⟨0x40051000C, 12, 10, .ro, 0⟩
-- SDL_HO_DN (R510, 18_pair.md)
abbrev SDL_HO_DN_DN : Fld := ⟨0x400510010, 0, 32, .ro, 0⟩
-- SDL_DIG_DN (R510, 18_pair.md)
abbrev SDL_DIG_DN_DN : Fld := ⟨0x400510040, 0, 32, .ro, 0⟩
-- SDL_ORD_OWN (R510, 18_pair.md)
abbrev SDL_ORD_OWN_CRC : Fld := ⟨0x400510044, 0, 32, .ro, 0⟩
-- SDL_ORD_PEER (R510, 18_pair.md)
abbrev SDL_ORD_PEER_CRC : Fld := ⟨0x400510048, 0, 32, .ro, 0⟩
-- SDL_BRD_OWN (R510, 18_pair.md)
abbrev SDL_BRD_OWN_CRC : Fld := ⟨0x40051004C, 0, 32, .ro, 0⟩
-- SDL_BRD_PEER (R510, 18_pair.md)
abbrev SDL_BRD_PEER_CRC : Fld := ⟨0x400510050, 0, 32, .ro, 0⟩
-- SDL_BUDGET (R510, 18_pair.md)
abbrev SDL_BUDGET_HW : Fld := ⟨0x400510054, 0, 17, .ro, 0⟩
-- SDL_REG_USED (R510, 18_pair.md)
abbrev SDL_REG_USED_FRAME : Fld := ⟨0x400510058, 0, 17, .ro, 0⟩
-- SDL_CNT_A (R510, 18_pair.md)
abbrev SDL_CNT_A_LATE_CNT : Fld := ⟨0x400510060, 0, 16, .rc, 0⟩
abbrev SDL_CNT_A_SKIP_CNT : Fld := ⟨0x400510060, 16, 16, .rc, 0⟩
-- SDL_CNT_B (R510, 18_pair.md)
abbrev SDL_CNT_B_MSH_REPL : Fld := ⟨0x400510064, 0, 16, .rc, 0⟩
abbrev SDL_CNT_B_ROLE_CNT : Fld := ⟨0x400510064, 16, 16, .rc, 0⟩
-- SDL_REG_BASE (R510, 18_pair.md)
abbrev SDL_REG_BASE_BASE (r : Nat) : Fld := ⟨0x400510100 + r * 0x10, 4, 28, .rw, 0⟩
-- SDL_REG_LEN (R510, 18_pair.md)
abbrev SDL_REG_LEN_LEN (r : Nat) : Fld := ⟨0x400510104 + r * 0x10, 0, 17, .rw, 0⟩
-- SDL_REG_SEQ (R510, 18_pair.md)
abbrev SDL_REG_SEQ_SEQ (r : Nat) : Fld := ⟨0x400510108 + r * 0x10, 0, 32, .ro, 0⟩
-- SYS_ID (R548, 19_reset_boot.md)
abbrev SYS_ID_TYPE : Fld := ⟨0x400000000, 0, 16, .ro, 28928⟩
abbrev SYS_ID_REV : Fld := ⟨0x400000000, 16, 8, .ro, 192⟩
-- SYS_STRAP (R548, 19_reset_boot.md)
abbrev SYS_STRAP_BOOT_SRC : Fld := ⟨0x400000004, 0, 2, .ro, 0⟩
abbrev SYS_STRAP_CLK_MODE : Fld := ⟨0x400000004, 2, 2, .ro, 0⟩
abbrev SYS_STRAP_UNIT_ID : Fld := ⟨0x400000004, 4, 1, .ro, 0⟩
abbrev SYS_STRAP_PREFER : Fld := ⟨0x400000004, 5, 1, .ro, 0⟩
-- SYS_FUSE (R548, 19_reset_boot.md)
abbrev SYS_FUSE_STATE : Fld := ⟨0x400000008, 0, 2, .ro, 0⟩
abbrev SYS_FUSE_FAILS : Fld := ⟨0x400000008, 2, 2, .ro, 0⟩
abbrev SYS_FUSE_FUSE_FAIL : Fld := ⟨0x400000008, 4, 1, .ro, 0⟩
abbrev SYS_FUSE_DEF_TRIM : Fld := ⟨0x400000008, 5, 1, .ro, 1⟩
-- SYS_RST_CAUSE (R548, 19_reset_boot.md)
abbrev SYS_RST_CAUSE_SOURCES : Fld := ⟨0x40000000C, 0, 11, .ro, 0⟩
abbrev SYS_RST_CAUSE_REACH : Fld := ⟨0x40000000C, 12, 3, .ro, 0⟩
-- SYS_RST_CNT (R548, 19_reset_boot.md)
abbrev SYS_RST_CNT_COUNT : Fld := ⟨0x400000010, 0, 32, .ro, 0⟩
-- SYS_RST_SW (R548, 19_reset_boot.md)
abbrev SYS_RST_SW_REACH : Fld := ⟨0x400000014, 0, 2, .wo, 0⟩
abbrev SYS_RST_SW_PEER : Fld := ⟨0x400000014, 2, 1, .wo, 0⟩
abbrev SYS_RST_SW_BLOCK : Fld := ⟨0x400000014, 4, 7, .wo, 0⟩
abbrev SYS_RST_SW_KEY : Fld := ⟨0x400000014, 16, 16, .wo, 0⟩
-- SYS_RST_CTL (R548, 19_reset_boot.md)
abbrev SYS_RST_CTL_PEER_RST_EN : Fld := ⟨0x400000018, 0, 1, .rw, 0⟩
-- SYS_WDOG (R548, 19_reset_boot.md)
abbrev SYS_WDOG_PERIOD : Fld := ⟨0x40000001C, 0, 10, .rw, 100⟩
abbrev SYS_WDOG_EN : Fld := ⟨0x40000001C, 10, 1, .w1s, 0⟩
-- SYS_WDOG_KICK (R548, 19_reset_boot.md)
abbrev SYS_WDOG_KICK_KEY : Fld := ⟨0x400000020, 0, 16, .wo, 0⟩
-- SYS_OT (R548, 19_reset_boot.md)
abbrev SYS_OT_OT_WARN : Fld := ⟨0x400000024, 0, 8, .rw, 110⟩
abbrev SYS_OT_TEMP : Fld := ⟨0x400000024, 8, 8, .ro, 0⟩
abbrev SYS_OT_OT_RST : Fld := ⟨0x400000024, 16, 8, .ro, 0⟩
-- SYS_PWR (R548, 19_reset_boot.md)
abbrev SYS_PWR_CPB_OFF : Fld := ⟨0x400000028, 0, 1, .rw, 0⟩
abbrev SYS_PWR_ENB_OFF : Fld := ⟨0x400000028, 1, 1, .rw, 0⟩
abbrev SYS_PWR_MEB_OFF : Fld := ⟨0x400000028, 2, 1, .rw, 0⟩
abbrev SYS_PWR_HLX_Q2_OFF : Fld := ⟨0x400000028, 3, 1, .rw, 0⟩
abbrev SYS_PWR_HLX_Q3_OFF : Fld := ⟨0x400000028, 4, 1, .rw, 0⟩
-- SYS_PWR_STAT (R548, 19_reset_boot.md)
abbrev SYS_PWR_STAT_ON : Fld := ⟨0x40000002C, 0, 12, .ro, 4095⟩
abbrev SYS_PWR_STAT_BUSY : Fld := ⟨0x40000002C, 16, 1, .ro, 0⟩
-- SYS_CFG (R548, 19_reset_boot.md)
abbrev SYS_CFG_CFG_DEFAULT : Fld := ⟨0x400000030, 0, 1, .ro, 1⟩
abbrev SYS_CFG_CFG_ERR : Fld := ⟨0x400000030, 1, 3, .ro, 0⟩
abbrev SYS_CFG_TWIN : Fld := ⟨0x400000030, 4, 1, .ro, 0⟩
-- SYS_CFG_DET (R548, 19_reset_boot.md)
abbrev SYS_CFG_DET_SECT : Fld := ⟨0x400000034, 0, 8, .ro, 0⟩
abbrev SYS_CFG_DET_ENTRY : Fld := ⟨0x400000034, 8, 24, .ro, 0⟩
-- SYS_LGR_BASE (R548, 19_reset_boot.md)
abbrev SYS_LGR_BASE_BASE : Fld := ⟨0x400000038, 0, 32, .ro, 0⟩
-- SYS_BOOT (R548, 19_reset_boot.md)
abbrev SYS_BOOT_SLOT : Fld := ⟨0x40000003C, 0, 1, .ro, 0⟩
abbrev SYS_BOOT_NO_IMAGE : Fld := ⟨0x40000003C, 1, 1, .ro, 0⟩
abbrev SYS_BOOT_RECOVERY : Fld := ⟨0x40000003C, 2, 1, .ro, 0⟩
-- SYS_CORE_ENTRY_L (R548, 19_reset_boot.md)
abbrev SYS_CORE_ENTRY_L_ENTRY_LO : Fld := ⟨0x400000040, 2, 30, .rw, 0⟩
-- SYS_CORE_ENTRY_H (R548, 19_reset_boot.md)
abbrev SYS_CORE_ENTRY_H_ENTRY_HI : Fld := ⟨0x400000044, 0, 8, .rw, 0⟩
-- SYS_CORE_REL (R548, 19_reset_boot.md)
abbrev SYS_CORE_REL_REL : Fld := ⟨0x400000048, 0, 16, .w1s, 1⟩
-- SYS_BAK_CMD (R548, 19_reset_boot.md)
abbrev SYS_BAK_CMD_CLR_CNT : Fld := ⟨0x40000004C, 0, 1, .wo, 0⟩
abbrev SYS_BAK_CMD_CLR_HIST : Fld := ⟨0x40000004C, 1, 1, .wo, 0⟩
abbrev SYS_BAK_CMD_CLR_LF : Fld := ⟨0x40000004C, 2, 1, .wo, 0⟩
abbrev SYS_BAK_CMD_KEY : Fld := ⟨0x40000004C, 16, 16, .wo, 0⟩
-- SYS_HIST_SEL (R548, 19_reset_boot.md)
abbrev SYS_HIST_SEL_ENTRY : Fld := ⟨0x400000050, 0, 3, .rw, 0⟩
-- SYS_HIST (R548, 19_reset_boot.md)
abbrev SYS_HIST_SOURCES : Fld := ⟨0x400000054, 0, 11, .ro, 0⟩
abbrev SYS_HIST_REACH : Fld := ⟨0x400000054, 12, 3, .ro, 0⟩
abbrev SYS_HIST_VALID : Fld := ⟨0x400000054, 15, 1, .ro, 0⟩
-- SYS_HIST_TSL (R548, 19_reset_boot.md)
abbrev SYS_HIST_TSL_TS_LO : Fld := ⟨0x400000058, 0, 32, .ro, 0⟩
-- SYS_HIST_TSH (R548, 19_reset_boot.md)
abbrev SYS_HIST_TSH_TS_HI : Fld := ⟨0x40000005C, 0, 32, .ro, 0⟩
-- SYS_LF_SEL (R548, 19_reset_boot.md)
abbrev SYS_LF_SEL_ENTRY : Fld := ⟨0x400000060, 0, 4, .rw, 0⟩
-- SYS_LF (R548, 19_reset_boot.md)
abbrev SYS_LF_CAUSE : Fld := ⟨0x400000064, 0, 4, .ro, 0⟩
abbrev SYS_LF_CLASS : Fld := ⟨0x400000064, 4, 4, .ro, 0⟩
abbrev SYS_LF_SOURCE : Fld := ⟨0x400000064, 8, 8, .ro, 0⟩
abbrev SYS_LF_VALID : Fld := ⟨0x400000064, 31, 1, .ro, 0⟩
-- SYS_LF_TSL (R548, 19_reset_boot.md)
abbrev SYS_LF_TSL_TS_LO : Fld := ⟨0x400000068, 0, 32, .ro, 0⟩
-- SYS_LF_TSH (R548, 19_reset_boot.md)
abbrev SYS_LF_TSH_TS_HI : Fld := ⟨0x40000006C, 0, 32, .ro, 0⟩
-- SEC_UNIT_L (R572, 20_identity_update.md)
abbrev SEC_UNIT_L_UNIT_LO : Fld := ⟨0x400550000, 0, 32, .ro, 0⟩
-- SEC_UNIT_H (R572, 20_identity_update.md)
abbrev SEC_UNIT_H_UNIT_HI : Fld := ⟨0x400550004, 0, 32, .ro, 0⟩
-- SEC_BOOT (R572, 20_identity_update.md)
abbrev SEC_BOOT_SLOT : Fld := ⟨0x400550008, 0, 1, .ro, 0⟩
abbrev SEC_BOOT_PENDING : Fld := ⟨0x400550008, 1, 1, .ro, 0⟩
abbrev SEC_BOOT_TRIES : Fld := ⟨0x400550008, 2, 2, .ro, 0⟩
abbrev SEC_BOOT_FALLBACK : Fld := ⟨0x400550008, 4, 1, .ro, 0⟩
abbrev SEC_BOOT_KEY : Fld := ⟨0x400550008, 5, 1, .ro, 0⟩
abbrev SEC_BOOT_ARB : Fld := ⟨0x400550008, 8, 8, .ro, 0⟩
abbrev SEC_BOOT_OWNER_SET : Fld := ⟨0x400550008, 16, 1, .ro, 0⟩
abbrev SEC_BOOT_OWNER_LOCK : Fld := ⟨0x400550008, 17, 1, .ro, 0⟩
-- SEC_VERSION (R572, 20_identity_update.md)
abbrev SEC_VERSION_VERSION : Fld := ⟨0x40055000C, 0, 32, .ro, 0⟩
-- SEC_CMD (R572, 20_identity_update.md)
abbrev SEC_CMD_OP : Fld := ⟨0x400550010, 0, 4, .wo, 0⟩
abbrev SEC_CMD_SLOT : Fld := ⟨0x400550010, 4, 1, .wo, 0⟩
abbrev SEC_CMD_KEY : Fld := ⟨0x400550010, 16, 16, .wo, 0⟩
-- SEC_CMD_ARG (R572, 20_identity_update.md)
abbrev SEC_CMD_ARG_ARG : Fld := ⟨0x400550014, 0, 32, .rw, 0⟩
-- SEC_CMD_STAT (R572, 20_identity_update.md)
abbrev SEC_CMD_STAT_DONE : Fld := ⟨0x400550018, 0, 1, .w1c, 0⟩
abbrev SEC_CMD_STAT_REJ : Fld := ⟨0x400550018, 1, 1, .w1c, 0⟩
abbrev SEC_CMD_STAT_BUSY : Fld := ⟨0x400550018, 2, 1, .ro, 0⟩
abbrev SEC_CMD_STAT_RESULT : Fld := ⟨0x400550018, 8, 4, .ro, 0⟩
-- SEC_ATT_BASE (R572, 20_identity_update.md)
abbrev SEC_ATT_BASE_BASE : Fld := ⟨0x400550020, 10, 22, .rw, 0⟩
-- SEC_ATT_STAT (R572, 20_identity_update.md)
abbrev SEC_ATT_STAT_RUNNING : Fld := ⟨0x400550024, 0, 1, .ro, 0⟩
-- SEC_ATT_CNT (R572, 20_identity_update.md)
abbrev SEC_ATT_CNT_PASS : Fld := ⟨0x400550028, 0, 16, .ro, 0⟩
abbrev SEC_ATT_CNT_FAIL : Fld := ⟨0x400550028, 16, 16, .ro, 0⟩
-- SEC_ATT_TMO (R572, 20_identity_update.md)
abbrev SEC_ATT_TMO_ATT_TMO : Fld := ⟨0x40055002C, 0, 16, .rw, 500⟩
-- SEC_JRN (R572, 20_identity_update.md)
abbrev SEC_JRN_TYPE : Fld := ⟨0x400550030, 0, 16, .rw, 256⟩
abbrev SEC_JRN_LEN : Fld := ⟨0x400550030, 16, 12, .rw, 0⟩
-- SEC_CERT (R572, 20_identity_update.md)
abbrev SEC_CERT_BYTES (n : Nat) : Fld := ⟨0x400551000 + n * 0x4, 0, 32, .ro, 0⟩
-- SNP_CTL (R407, 14_capture.md)
abbrev SNP_CTL_FIRE : Fld := ⟨0x400020000, 0, 1, .w1s, 0⟩
abbrev SNP_CTL_ON_CAP : Fld := ⟨0x400020000, 1, 1, .rw, 0⟩
abbrev SNP_CTL_ON_FAULT : Fld := ⟨0x400020000, 2, 1, .rw, 0⟩
abbrev SNP_CTL_ON_DN : Fld := ⟨0x400020000, 3, 1, .rw, 0⟩
-- SNP_DN (R407, 14_capture.md)
abbrev SNP_DN_DN : Fld := ⟨0x400020004, 0, 32, .rw, 0⟩
-- SNP_BASE (R407, 14_capture.md)
abbrev SNP_BASE_BASE : Fld := ⟨0x400020008, 13, 13, .rw, 0⟩
-- SNP_LAST (R407, 14_capture.md)
abbrev SNP_LAST_SEQ : Fld := ⟨0x40002000C, 0, 16, .ro, 0⟩
abbrev SNP_LAST_SRC : Fld := ⟨0x40002000C, 16, 4, .ro, 0⟩
abbrev SNP_LAST_BUSY_CNT : Fld := ⟨0x40002000C, 24, 8, .rc, 0⟩
-- SNP_TCMD (R407, 14_capture.md)
abbrev SNP_TCMD_CMD : Fld := ⟨0x400020020, 0, 2, .rw, 0⟩
abbrev SNP_TCMD_ARMS : Fld := ⟨0x400020020, 16, 12, .rw, 0⟩
abbrev SNP_TCMD_GO : Fld := ⟨0x400020020, 31, 1, .w1s, 0⟩
-- SNP_TCMD_DN (R407, 14_capture.md)
abbrev SNP_TCMD_DN_DN : Fld := ⟨0x400020024, 0, 32, .rw, 0⟩
-- SNP_TCMD_STAT (R407, 14_capture.md)
abbrev SNP_TCMD_STAT_DONE : Fld := ⟨0x400020028, 0, 1, .w1c, 0⟩
abbrev SNP_TCMD_STAT_REJ : Fld := ⟨0x400020028, 1, 1, .w1c, 0⟩
-- MLK_PQ_BASE (R347, 11_trackway.md)
abbrev MLK_PQ_BASE_BASE : Fld := ⟨0x400500040, 7, 25, .rw, 0⟩
-- MLK_PC_BASE (R347, 11_trackway.md)
abbrev MLK_PC_BASE_BASE : Fld := ⟨0x400500050, 7, 25, .rw, 0⟩
-- MLK_PQ_SIZE (R347, 11_trackway.md)
abbrev MLK_PQ_SIZE_SIZE : Fld := ⟨0x400500044, 0, 12, .rw, 0⟩
-- MLK_PC_SIZE (R347, 11_trackway.md)
abbrev MLK_PC_SIZE_SIZE : Fld := ⟨0x400500054, 0, 12, .rw, 0⟩
-- MLK_PQ_PROD (R347, 11_trackway.md)
abbrev MLK_PQ_PROD_PROD : Fld := ⟨0x400500048, 0, 12, .rw, 0⟩
-- MLK_PC_PROD (R347, 11_trackway.md)
abbrev MLK_PC_PROD_PROD : Fld := ⟨0x400500058, 0, 12, .ro, 0⟩
-- MLK_PQ_CONS (R347, 11_trackway.md)
abbrev MLK_PQ_CONS_CONS : Fld := ⟨0x40050004C, 0, 12, .ro, 0⟩
-- MLK_PC_CONS (R347, 11_trackway.md)
abbrev MLK_PC_CONS_CONS : Fld := ⟨0x40050005C, 0, 12, .rw, 0⟩

end Sys2Proof.Machine.R
end

