-- ==== Sys2Proof/Machine/StateTail.lean ====
section
/-! DEFINITION. The parts of the central unit's state that belong to the Mainline link engine, capture, snapshots, reset and boot, and
the security block, beside their registers. -/
namespace Sys2Proof.Machine

/-- The link to a hub (R28, R352, R355, R356): whether it was UP at the latest boundary, the L, TW_OFS and sizes last sent with the SEQ
of the next HUB_SET, TW_OFS in use, the ping to be echoed (SEQ, T1, T2), whether LEAD_NEG is active for it. -/
structure HubLink where
  up   : Bool
  sent : Option (Nat × Nat × List Nat)
  seq  : Nat
  tw   : Nat
  echo : Option (Nat × Nat × Nat)
  neg  : Bool
  deriving DecidableEq, Repr

/-- A request outstanding on a loop (R343, R345): its ring entry, its octets as sent, TAG, ATT and the DN of the latest send. -/
structure PtReq where
  idx    : Nat
  octets : List Nat
  tag    : Nat
  att    : Nat
  dn     : Nat
  deriving DecidableEq, Repr

/-- A configuration set sent to a cell (R541): its TAG, the attempts made and the DN of the latest. -/
structure CfgSend where
  tag   : Nat
  tries : Nat
  dn    : Nat
  deriving DecidableEq, Repr

/-- The Mainline link engine beside its registers: the hubs, the outstanding requests by loop (hub × 64 + loop), the TAG of each loop's
next request, the ring entries taken beyond CONS (R343), the completions that wait (octets, entry, DN) (R344), the sets sent and the
cells that have answered OK (R541), the TAG of the next set, the entries that wait for an ORDER frame, by hub: byte 0 of the entry and its
mailbox (R329). -/
structure Mlk where
  hubs  : Tbl HubLink
  reqs  : Tbl PtReq
  tags  : Tbl Nat
  taken : List Nat
  ready : List (List Nat × Nat × Nat)
  cfg   : Tbl CfgSend
  ok    : List Nat
  tag   : Nat
  out   : Tbl (List (Nat × List Nat))
  deriving DecidableEq, Repr

/-- The capture unit beside its registers (R388 to R396): the next index, the rows written since ARM, which edges the detector is armed
for (bit 0 rising, bit 1 falling), the triggers that fall due on the next row, the rows still to write, POST in use, the sequence of
the next stream frame, the rows written to flash, whether CONV_EN has become 1 under a flash stream (R396). -/
structure Cap where
  next  : Nat
  total : Nat
  armed : Nat
  due   : Nat
  left  : Nat
  post  : Nat
  seq   : Nat
  flash : Nat
  conv  : Bool
  deriving DecidableEq, Repr

/-- The snapshot unit beside its registers (R397, R399): the latched image being copied, as words by offset; the sources that have
fired in this handshake. -/
structure Snp where
  image : Option (List (Nat × Nat))
  fired : Nat
  deriving DecidableEq, Repr

/-- A reset episode (R513 to R516): the sources asserted so far, those asserted now, the episode reach (0 Cold to 3 Block), the indices
of Block resets, the stage (1 HOLD to 6 BOOT), the TS64 of its first assertion. -/
structure Episode where
  srcs   : Nat
  now    : Nat
  reach  : Nat
  blocks : List Nat
  stage  : Nat
  ts     : Nat
  deriving DecidableEq, Repr

/-- The episode with a source that asserts (R516): it joins the one that runs or begins one; the exit restarts at stage 1. -/
def Episode.join (o : Option Episode) (src reach block ts : Nat) : Episode :=
  let e := o.getD ⟨0, 0, reach, [], 1, ts⟩
  ⟨setBit e.srcs src, setBit e.now src, min e.reach reach, if reach = 3 then e.blocks.filter (· != block) ++ [block] else e.blocks, 1, e.ts⟩

/-- Whether the 256 words of a fuse map pass their check (R523): word 255 is the CRC-32C of R310 over the others. -/
def fusePass (ws : List Nat) : Bool := ws.length == 256 && ws.getD 255 0 == crc32c ((ws.take 255).flatMap (toBytes 4))

/-- The state of a configurable ball (R524), or that its block drives it. -/
inductive Ball where
  | hiZ | pullUp | pullDown | drive0 | drive1 | driven
  deriving DecidableEq, Repr

/-- The ball that a fuse code asks for (R524). -/
def Ball.ofCode (c : Nat) : Ball :=
  match c with
  | 1 => .pullUp
  | 2 => .pullDown
  | 3 => .drive0
  | 4 => .drive1
  | _ => .hiZ

/-- Whether a ball that nothing else drives reads high: the weak pull-up, or driven so (R451, R524). -/
def Ball.high : Ball → Bool
  | .pullUp | .drive1 => true
  | _ => false

/-- The fuses (R523, R550; the port latencies of R51 as ingress and egress by port; OT_RST of R528; the codes of the configurable balls
in the order of R583, with ALIVE last, R524) and the part's certificate (R551): they outlast every reset. -/
structure Fuses where
  unitId : Nat
  issuer : Nat
  vendor : Nat
  owner  : Nat
  lock   : Bool
  arb    : Nat
  otRst  : Nat
  lat    : Tbl (Nat × Nat)
  cert   : List Nat
  ball   : List Nat
  deriving DecidableEq, Repr

/-- Reset and boot beside the registers of SYS: the episode that runs, the reset counter and the cause history, newest first, of BAK
(sources, reach, TS64) and the CRC-32C over BAK (R521), whether BAK was cleared since the last boot, the fuses, the words of the fuse
shadow and whether it is valid (R523), the configurable balls that their blocks drive (R524), whether the
stretcher acts (R519), the watchdog periods missed in a row (R527), the domains that power up (R529), the cells counted missing at
start (R536), the level of the ALIVE output (R451), whether the die is at OT_WARN (R528). -/
structure Sys where
  ep      : Option Episode
  count   : Nat
  hist    : List (Nat × Nat × Nat)
  bakCrc  : Nat
  bakLost : Bool
  fuse    : Fuses
  words   : List Nat
  shadow  : Bool
  owned   : List Nat
  stretch : Bool
  missed  : Nat
  rising  : List Nat
  missing : Nat
  alive   : Bool
  hot     : Bool
  deriving DecidableEq, Repr

/-- An attestation challenge outstanding (R562): TAG, NONCE and whether it is the second. -/
structure Chal where
  tag    : Nat
  nonce  : Nat
  second : Bool
  deriving DecidableEq, Repr

/-- A recovery session (R568 to R570): TARGET, the span it writes, the next OFFSET. -/
structure RecSess where
  target : Nat
  base   : Nat
  size   : Nat
  next   : Nat
  deriving DecidableEq, Repr

/-- A flash operation that waits (R575): a program of bytes, or the erase of a sector. -/
inductive FlashOp where
  | program (addr : Nat) (bytes : List Nat)
  | erase (addr : Nat)
  deriving DecidableEq, Repr

/-- The security block and the flash controller beside their registers: the command that runs (OP, SLOT), the slots whose VERIFY passed
(R557), the challenges outstanding by target (hub h at h, cell at 64 + CID), the positions that wait by loop (R562), the TAG of the
next challenge, the previous recovery request's SEQ and reply, the recovery session, whether the flash is busy and what waits. -/
structure Sec where
  run   : Option (Nat × Nat)
  good  : List Nat
  chal  : Tbl Chal
  todo  : Tbl (List Nat)
  tag   : Nat
  prev  : Option (Nat × List Nat)
  sess  : Option RecSess
  busy  : Bool
  wait  : List FlashOp
  deriving DecidableEq, Repr

/-- A hub link after reset (R355). -/
def HubLink.zero : HubLink := ⟨false, none, 0, 400, none, false⟩
/-- The Mainline link engine after reset. -/
def Mlk.zero : Mlk := ⟨[], [], [], [], [], [], [], 0, []⟩
/-- The capture unit after reset. -/
def Cap.zero : Cap := ⟨0, 0, 0, 0, 0, 0, 0, 0, false⟩
/-- The snapshot unit after reset. -/
def Snp.zero : Snp := ⟨none, 0⟩
/-- The fuses of a part whose fuses the model does not know (log entry 5); OT_RST is 125 °C (R528). -/
def Fuses.zero : Fuses :=
  { unitId := 0, issuer := 0, vendor := 0, owner := 0, lock := false, arb := 0, otRst := 125, lat := [], cert := [], ball := [] }
/-- The CRC-32C over an empty BAK, 292 bytes of 0 (R521). -/
def bakEmpty : Nat := 0x598DB481
/-- Reset and boot after reset. -/
def Sys.zero : Sys :=
  { ep := none, count := 0, hist := [], bakCrc := bakEmpty, bakLost := false, fuse := .zero, words := [], shadow := false, owned := [],
    stretch := false, missed := 0, rising := [], missing := 0, alive := false, hot := false }
/-- The security block after reset. -/
def Sec.zero : Sec := ⟨none, [], [], [], 0, none, none, false, []⟩

end Sys2Proof.Machine
end

