-- ==== Sys2Proof/Machine/Output.lean ====
section
/-! DEFINITION. What a chip sends or drives: the messages, answers and pins that other chips, cores and the plant see.
A command appends what it sends to its chip's list (log entry 6). -/
namespace Sys2Proof.Machine

/-- What the transmitter of a lane sends (R287 to R289, R296, R298): nothing; training of this sender, block after block or set after set
with TSEQ rising by 1 from a start that the spec leaves open; frames and idles; the bits that the lane receives; a test pattern. -/
inductive LaneTx where
  | squelched
  | training (who : Sender) (rdy : Bool)
  | mission
  | received
  | pattern (code : Nat) (inv : Bool)
  deriving DecidableEq, Repr

/-- A power domain of the BQ7100 that a reset releases, in the order of R515. -/
inductive Domain where
  | aon | ctl | mea | meb | hlx | stn | ena | enb | sbx | cpa | cpb
  deriving DecidableEq, Repr

/-- The domains of the BQ7100 in the order in which they are released (R515). -/
def Domain.all : List Domain := [.aon, .ctl, .mea, .meb, .hlx, .stn, .ena, .enb, .sbx, .cpa, .cpb]

/-- One thing that a chip sends. -/
inductive Output where
  /-- a register access answered with a bus error (R8, R574, R576) -/
  | busError (core addr : Nat)
  /-- a core store answered with a store access fault (R75, R386, R454) -/
  | storeFault (addr : Nat)
  /-- a core load answered with a load access fault (R454) -/
  | loadFault (addr : Nat)
  /-- a register read completed with this value -/
  | readData (core addr value : Nat)
  /-- blocks sent on a Mainline lane, a hub's or a unit's, or on one Siding lane: a frame from START to END, or control blocks (R140, R326 to
  R331) -/
  | mainline (lane : Nat) (blocks : List (Nat × List Nat))
  /-- blocks sent on Siding, which these lanes take in turn, those that are UP: a MIRROR frame or as much of it as was sent, or the
  RELINQUISH or PEER_RESET control blocks (R487 to R492, R526) -/
  | siding (lanes : List Nat) (blocks : List (Nat × List Nat))
  /-- a core released from reset at an address (R437, R532) -/
  | coreStart (core addr : Nat)
  /-- firmware entered on a core at an address (R531) -/
  | enter (core addr : Nat)
  /-- a PTP Sync forwarded between the HSR ring ports with the correctionField of the Sync (one-step) or of its
  Follow_Up (two-step) after the residence time is added (R43) -/
  | hsrForward (port seqId correction : Nat) (oneStep : Bool)
  /-- a frame that a port sends, with its trailer or tag and its FCS: the transmit rings (R273), the HSR ring (R272), the stream engine (R395) -/
  | ethFrame (port : Nat) (octets : List Nat)
  /-- an edge of a cell's bridge output: switch, offset from the local boundary in 1/16 ns, level, and for an edge of the timing unit
  whether line B places it and at which tap (R149, R156, R158, R168, R169) -/
  | edge (sw : Nat) (ofs : Int) (on : Bool) (via : Option (Bool × Nat))
  /-- what a lane's transmitter sends from now on, and whether it is inverted (R289, R290, R301) -/
  | lane (n : Nat) (tx : LaneTx) (inv : Bool)
  /-- an event issued on a source of a hub: source, cause bit (R303, R369, R443) -/
  | event (source bit : Nat)
  /-- an output of a cell other than the bridge: SOX 0, SOY 1, BYF 2, BYC 3, DMP 4 (R149, R187) -/
  | pin (pin : Nat) (level : Bool)
  /-- K28.7 sent on a lane or port (R142, R143, R364) -/
  | k28_7 (lane : Nat)
  /-- the 250 characters of a Trackway frame sent on a lane or port (R309, R313, R316) -/
  | trackway (lane : Nat) (chars : List Nat)
  /-- a mailbox handed to firmware (R333) -/
  | toFirmware (hub : Nat) (octets : List Nat)
  /-- RESET_OUT_N (R520): true while it is low -/
  | resetOut (low : Bool)
  /-- a power domain released from reset (R515) -/
  | released (d : Domain)
  /-- the states that the configurable balls take: xSPI 0 to 12, TXD, RXD, SCL and SDA 13 to 16, JTAG 17 to 21, ALIVE 22 (R524, R583) -/
  | balls (states : List Ball)
  /-- the ALIVE output (R368, R451) -/
  | alive (level : Bool)
  /-- octets that the ROM sends on the UART: a reply of the recovery protocol (R568, R569) -/
  | recovery (octets : List Nat)
  deriving DecidableEq, Repr

end Sys2Proof.Machine
end

