-- ==== Sys2Proof/Machine/LaneCore.lean ====
section
/-! DEFINITION. One serial lane of any chip: bring-up, polarity, identity, deskew, test and retirement, over the lane's
register record and its state beside it (R286 to R305). -/
namespace Sys2Proof.Machine

/-- A lane beside its registers: whether it has been UP since EN became 1, whether its polarity is decided (R290), whether
ID_BAD has been raised in this pass through ID for the identity and for the order of the lanes, whether its clock and block or comma lock
stand, the consecutive training
blocks that count in its state, the end of the open error window in ns and the errors in it (R300), the blocks of the chip since TSEQ 0
of the training last received (R293), the DFE taps written (R294), the departure of the latest frame and which of its last code groups were
errors (R289), its pattern checker (R297) and the latest bits of its pattern generator (R296). -/
structure Lane where
  everUp : Bool
  polSet : Bool
  idBad  : Bool
  disord : Bool
  locked : Bool
  count  : Nat
  win    : Option Nat
  errs   : Nat
  skew   : Option Nat
  taps   : Nat
  tail   : Nat × List Bool
  chk    : Checker
  gen    : Nat
  deriving DecidableEq, Repr

/-- A lane after reset: its pattern generator holds ones (log entry 168). -/
def Lane.zero : Lane :=
  { everUp := false, polSet := false, idBad := false, disord := false, locked := false, count := 0, win := none, errs := 0, skew := none,
    taps := 0, tail := (0, []), chk := .zero, gen := onesSeed }

/-- The lanes of a chip as one lane's event finds and leaves them: registers, states by record base, and the causes raised
by record base and cause bit. -/
structure LaneIO where
  regs   : Regs
  lanes  : Tbl Lane
  raised : List (Nat × Nat)
  deriving DecidableEq, Repr

/-- What a lane is (R286): its record's base, whether it runs at 25.78125 Gbit/s, the record bases of its link in order of
physical position, its own position, which senders pass its identity check (R291), and what its own training says (R287, R288). -/
structure LaneKind where
  base   : Nat
  fast   : Bool
  link   : List Nat
  pos    : Nat
  accept : Sender → Bool
  own    : Sender

namespace LaneIO

/-- A field of a lane. -/
def rd (io : LaneIO) (f : Fld) : Nat := io.regs.get f
/-- A field of a lane as a flag. -/
def on (io : LaneIO) (f : Fld) : Bool := io.rd f != 0
/-- A field of a lane set. -/
def wr (io : LaneIO) (f : Fld) (v : Nat) : LaneIO := { io with regs := io.regs.set f v }
/-- A counter of a lane advanced. -/
def incBy (io : LaneIO) (f : Fld) (n : Nat) : LaneIO := io.wr f (satInc f.width (io.rd f) n)
/-- The state beside a lane's registers. -/
def hid (io : LaneIO) (b : Nat) : Lane := io.lanes.get b Lane.zero
/-- The state beside a lane's registers replaced. -/
def upd (io : LaneIO) (b : Nat) (f : Lane → Lane) : LaneIO := { io with lanes := io.lanes.set b (f (io.hid b)) }
/-- A lane's STATE (R304). -/
def st (io : LaneIO) (b : Nat) : Nat := io.rd (R.LNS_STATE_STATE b)
/-- A lane's cause raised. -/
def cause (io : LaneIO) (b bit : Nat) : LaneIO := { io with raised := io.raised ++ [(b, bit)] }

/-- A state entered: training is counted from 0. -/
def goto (io : LaneIO) (b st : Nat) : LaneIO := (io.wr (R.LNS_STATE_STATE b) st).upd b (fun l => { l with count := 0 })

/-- The start of bring-up at SIG. -/
def toSig (io : LaneIO) (b : Nat) : LaneIO :=
  (io.goto b 1).upd b (fun l => { l with locked := false, idBad := false, disord := false, skew := none })

/-- A lane leaving UP for SIG (R289): RETRAIN and its count. -/
def retrain (io : LaneIO) (b : Nat) : LaneIO :=
  ((io.toSig b).incBy (R.LNS_CNT_A_RETRAIN_CNT b) 1).cause b 2

/-- A lane retired (R289, R300): its error window stands until its close. -/
def retire (io : LaneIO) (b : Nat) : LaneIO := ((io.goto b 8).upd b (fun l => { l with polSet := false })).cause b 0

/-- A write of EN (R289). -/
def enWrite (io : LaneIO) (b : Nat) (en : Bool) : LaneIO :=
  let was := io.st b
  let io := io.wr (R.LNS_CTL_EN b) (b2n en)
  let fresh := fun (io : LaneIO) => io.upd b (fun l => { l with
    everUp := false, polSet := false, locked := false, idBad := false, disord := false })
  if !en then fresh (io.goto b 0) else if was = 0 then fresh (io.toSig b) else io

/-- Signal present for 10 µs (R289). -/
def signal (io : LaneIO) (b : Nat) : LaneIO := if io.st b = 1 then io.goto b 2 else io

/-- Clock and block or comma lock (R289): a lane in far-end loopback stays in CDR (R298). -/
def cdrLock (io : LaneIO) (b : Nat) : LaneIO := if io.st b = 2 then io.upd b (fun l => { l with locked := true }) else io

/-- The CTLE code and the DFE taps that adaptation has come to (R294). -/
def adapt (io : LaneIO) (k : LaneKind) (ctle taps : Nat) : LaneIO :=
  let b := k.base
  let held := io.on (R.LNS_EQ_FREEZE b)
  let io := if io.on (R.LNS_EQ_CTLE_ADAPT b) && !held
    then io.wr (R.LNS_EQ_CTLE b) (if k.fast then ctle % 16 else ctle % 4) else io
  if k.fast && io.on (R.LNS_EQ_DFE_ADAPT b) && !held then io.wr (R.LNS_DFE_TAPS b) taps else io

/-- The taps written come into use while DFE_ADAPT is 0 and FREEZE does not hold those in use (R294). -/
def useTaps (io : LaneIO) (b : Nat) : LaneIO :=
  if io.on (R.LNS_EQ_DFE_ADAPT b) || io.on (R.LNS_EQ_FREEZE b) then io else io.wr (R.LNS_DFE_TAPS b) (io.hid b).taps

/-- A store to LNS_EQ (R294, R304): the CTLE code written is used while CTLE_ADAPT is 0, and FREEZE holds the one in use; a 2.5 Gbit/s lane
has neither CTLE [4:3] nor DFE_ADAPT (R305). -/
def eqWrite (io : LaneIO) (k : LaneKind) (v : Nat) : LaneIO :=
  let b := k.base
  let io := ((io.wr (R.LNS_EQ_CTLE_ADAPT b) (bits v 0 1)).wr (R.LNS_EQ_FREEZE b) (bits v 6 1))
  let io := if bitAt v 0 || bitAt v 6 then io else io.wr (R.LNS_EQ_CTLE b) (bits v 1 (if k.fast then 4 else 2))
  if k.fast then (io.wr (R.LNS_EQ_DFE_ADAPT b) (bits v 5 1)).useTaps b else io

/-- A store to LNS_DFE (R294, R304, R305). -/
def dfeWrite (io : LaneIO) (k : LaneKind) (v : Nat) : LaneIO :=
  if k.fast then (io.upd k.base (fun l => { l with taps := bits v 0 30 })).useTaps k.base else io

/-- Equalisation settled (R289, R294, R298): in CDR, where a lane in far-end loopback stays, and again whenever it tracks in UP. -/
def settled (io : LaneIO) (k : LaneKind) (ctle taps : Nat) : LaneIO :=
  let b := k.base
  if io.st b = 7 then io.adapt k ctle taps
  else if io.st b ≠ 2 || !(io.hid b).locked then io
  else if io.rd (R.LNS_CTL_LOOP b) = 3 then io.adapt k ctle taps
  else (io.adapt k ctle taps).goto b 3

/-- The inversion that training accepted in POL decides (R290): POL_FORCE while POL_AUTO is 0; a decided one is kept through retraining. -/
def polAccept (io : LaneIO) (b : Nat) (tr : TrainIn) : Option Bool :=
  let only := fun (f : Bool) => if tr.compl = f then some f else none
  if !io.on (R.LNS_CTL_POL_AUTO b) then only (io.on (R.LNS_CTL_POL_FORCE b))
  else if (io.hid b).polSet then only (io.on (R.LNS_STATE_RX_INV b))
  else some tr.compl

/-- The next count of consecutive training, and what happens when it is reached. -/
def counted (io : LaneIO) (b n : Nat) (ok : Bool) (go : LaneIO → LaneIO) : LaneIO :=
  if !ok then io.upd b (fun l => { l with count := 0 })
  else if (io.hid b).count + 1 ≥ n then go io
  else io.upd b (fun l => { l with count := l.count + 1 })

/-- ID_BAD raised once in this pass (R289). -/
def idBad (io : LaneIO) (b : Nat) : LaneIO :=
  if (io.hid b).idBad then io else (io.upd b (fun l => { l with idBad := true })).cause b 1

/-- Whether a lane has passed ID. -/
def pastId (io : LaneIO) (b : Nat) : Bool := decide (5 ≤ io.st b) && decide (io.st b ≤ 7)

/-- The order of the lanes of a link (R292): 0 in order, 1 reversed, 2 any other. -/
def linkOrder (io : LaneIO) (k : LaneKind) : Nat :=
  let n := k.link.length
  let seen := k.link.zipIdx.filter (fun e => e.1 == k.base || io.pastId e.1)
  if seen.all (fun e => io.rd (R.LNS_STATE_PEER_LANE e.1) == e.2) then 0
  else if seen.all (fun e => io.rd (R.LNS_STATE_PEER_LANE e.1) + e.2 + 1 == n) then 1
  else 2

/-- A lane of a link whose lanes stand in a wrong order (R292): one past ID returns to it, and leaves UP by a RETRAIN; ID_BAD is raised
once while the order stays wrong. -/
def backToId (io : LaneIO) (x : Nat) : LaneIO :=
  let io := if io.st x = 7 then (io.incBy (R.LNS_CNT_A_RETRAIN_CNT x) 1).cause x 2 else io
  let io := if io.pastId x then (io.goto x 4).upd x (fun l => { l with idBad := false, disord := false }) else io
  if (io.hid x).disord then io else (io.upd x (fun l => { l with disord := true })).cause x 1

/-- A lane passes ID (R289). -/
def passId (io : LaneIO) (b : Nat) : LaneIO := (io.goto b 5).upd b (fun l => { l with idBad := false, disord := false })

/-- Whether a lane is in a near-end loopback: it receives what its own transmitter sends, and nothing else (R298). -/
def looped (io : LaneIO) (b : Nat) : Bool := io.rd (R.LNS_CTL_LOOP b) == 1 || io.rd (R.LNS_CTL_LOOP b) == 2

/-- Whether a sender passes a lane's identity check (R291): in a near-end loopback its own training does (R298). -/
def passes (io : LaneIO) (k : LaneKind) (w : Sender) : Bool := if io.looped k.base then w == k.own else k.accept w

/-- The position at which the data of a lane stand in its link (R292): its logical one, where the order is reversed. -/
def place (io : LaneIO) (k : LaneKind) : Nat := if io.on (R.LNS_STATE_REVERSED k.base) then k.link.length - 1 - k.pos else k.pos

/-- Training in ID (R289, R291, R292). -/
def identify (io : LaneIO) (k : LaneKind) (w : Sender) : LaneIO :=
  let b := k.base
  let io := (io.wr (R.LNS_STATE_PEER_ROLE b) w.role)
  let io := if k.fast then (io.wr (R.LNS_STATE_PEER_LANE b) w.lane).wr (R.LNS_STATE_PEER_LINK b) w.link else io
  if !io.passes k w then io.idBad b
  else if k.link.length ≤ 1 then io.passId b
  else
    match io.linkOrder k with
    | 0 => (k.link.foldl (fun io x => if x = b || io.pastId x then io.wr (R.LNS_STATE_REVERSED x) 0 else io) io).passId b
    | 1 => (k.link.foldl (fun io x => if x = b || io.pastId x then io.wr (R.LNS_STATE_REVERSED x) 1 else io) io).passId b
    | _ => k.link.foldl (fun io x => io.backToId x) io

/-- A number of blocks as the signed distance of two TSEQ counts. -/
def seqDiff (a b : Nat) : Int := sx 16 (enc 16 ((a : Int) - b))

/-- The partners of a lane past ID whose training has been placed, with its place (R293). -/
def partners (io : LaneIO) (k : LaneKind) : List (Nat × Nat) :=
  (k.link.filter (fun x => x != k.base && io.pastId x)).filterMap (fun x => (io.hid x).skew.map (fun s => (x, s)))

/-- The lanes of a link that are aligned, but for one of them, with the delay each has (R293). -/
def aligned (io : LaneIO) (k : LaneKind) : List (Nat × Nat) :=
  ((io.partners k).filter (fun e => decide (6 ≤ io.st e.1))).map (fun e => (e.1, io.rd (R.LNS_STATE_SKEW e.1)))

/-- How far in blocks a lane is ahead of the lanes of its link (R293): of lanes already aligned, with the delay they have; without one,
of the latest. -/
def ahead (io : LaneIO) (k : LaneKind) (at_ : Nat) : Int :=
  match (io.partners k).find? (fun e => decide (6 ≤ io.st e.1)) with
  | some e => seqDiff e.2 at_ + (io.rd (R.LNS_STATE_SKEW e.1) : Int)
  | none => (io.partners k).foldl (fun (m : Int) e => max m (seqDiff e.2 at_)) 0

/-- By how much the delays of the lanes already aligned change when a lane that is `due` blocks ahead joins them (R293): a lane behind them
makes each of them wait longer, and a delay beyond its eight bits makes each wait less; neither interrupts them (log entry 169). -/
def shift (io : LaneIO) (k : LaneKind) (due : Int) : Int :=
  if due < 0 then -due
  else if due > 255 then -((io.aligned k).foldl (fun (m : Int) e => min m (e.2 : Int)) due)
  else 0

/-- The lanes of a link aligned with one that joins them, whose place is `at_` (R293): none where they differ by more than 320 ns,
which is 125 blocks. -/
def align (io : LaneIO) (k : LaneKind) (at_ : Nat) : Option LaneIO :=
  let due := io.ahead k at_
  let by_ := io.shift k due
  if !(io.partners k).all (fun e => decide ((seqDiff e.2 at_).natAbs ≤ 125)) then none
  else some (((io.aligned k).foldl (fun (io : LaneIO) e => io.wr (R.LNS_STATE_SKEW e.1) ((e.2 : Int) + by_).toNat) io).wr
    (R.LNS_STATE_SKEW k.base) (due + by_).toNat)

/-- Training in DESKEW (R293) with its arrival less its TSEQ, in blocks; `alone` once DSK_TMO has passed. A larger skew returns every
lane of the link that is in bring-up or UP to SIG. -/
def deskew (io : LaneIO) (k : LaneKind) (alone : Bool) : LaneIO :=
  let b := k.base
  if k.link.length ≤ 1 then io.goto b 6
  else if !alone && !k.link.all (fun x => io.pastId x && (decide (6 ≤ io.st x) || (io.hid x).skew.isSome)) then io
  else
    match (io.hid b).skew with
    | none => if alone then io.goto b 6 else io
    | some s =>
      match io.align k s with
      | some w => w.goto b 6
      | none => k.link.foldl (fun io x => if io.st x = 7 then io.retrain x else if 2 ≤ io.st x && io.st x ≤ 6 then io.toSig x else io)
          (io.cause b 3)

/-- When a training block arrived, less its TSEQ (R293). -/
def skewOf (tr : Training) (t : TrainIn) : Option Nat :=
  match tr with
  | .block _ _ _ arr => some (enc 16 ((arr : Int) - t.tseq))
  | .set _ => none

/-- What a lane in a state does with good training that came in its own polarity (R289). -/
def trained (io : LaneIO) (k : LaneKind) (tr : Training) (t : TrainIn) : LaneIO :=
  let b := k.base
  match io.st b with
  | 4 => io.identify k t.who
  | 5 => (io.upd b (fun l => { l with skew := skewOf tr t })).deskew k false
  | 6 => io.counted b 16 t.rdy (fun io => (io.goto b 7).upd b (fun l => { l with everUp := true }))
  | 7 => io.counted b 4 (!t.rdy) (fun io => io.retrain b)
  | _ => io

/-- What arrives where training is awaited (R287 to R290): training of the other polarity, and what is no good training, breaks a count. -/
def learn (io : LaneIO) (k : LaneKind) (tr : Training) : LaneIO :=
  let b := k.base
  let none' := if io.st b = 3 || io.st b = 6 || io.st b = 7 then io.upd b (fun l => { l with count := 0 }) else io
  match readTraining tr with
  | none => none'
  | some t =>
    if io.st b = 3 then
      match io.polAccept b t with
      | none => none'
      | some inv => io.counted b 8 true (fun io =>
          ((io.wr (R.LNS_STATE_RX_INV b) (b2n inv)).upd b (fun l => { l with polSet := true })).goto b 4)
    else if t.compl == io.on (R.LNS_STATE_RX_INV b) then io.trained k tr t
    else none'

/-- The code errors of what arrives where training is awaited (R301, R304): an invalid sync header, or the code groups of a set that are none
at their running disparity. -/
def trainingErrors (io : LaneIO) (b : Nat) : Training → Nat
  | .block _ header _ _ => if header = 1 || header = 2 then 0 else 1
  | .set gs =>
    if (readTraining (.set gs)).isSome then 0
    else setErrors (if io.on (R.LNS_STATE_RX_INV b) then gs.map (fun g => 1023 - g) else gs)

/-- A training block or set received: its code errors count on a lane that is not OFF (R301), and a lane in a near-end loopback receives
its own training only (R298). -/
def training (io : LaneIO) (k : LaneKind) (tr : Training) : LaneIO :=
  let own := match readTraining tr with
    | some t => t.who == k.own
    | none => false
  if io.looped k.base && !own then io else
  (if io.st k.base = 0 then io else io.incBy (R.LNS_CNT_B_CODE_CNT k.base) (io.trainingErrors k.base tr)).learn k tr

/-- Signal or lock lost (R289): a lane in UP leaves it, one in CDR waits for its lock again. -/
def linkLoss (io : LaneIO) (b : Nat) : LaneIO :=
  if io.st b = 7 then io.retrain b
  else if io.st b = 2 then io.upd b (fun l => { l with locked := false }) else io

/-- Code errors within the span of R289. -/
def codeErrors (io : LaneIO) (k : LaneKind) (n : Nat) : LaneIO :=
  let io := io.incBy (R.LNS_CNT_B_CODE_CNT k.base) n
  if io.st k.base = 7 && decide (n ≥ (if k.fast then 16 else 4)) then io.retrain k.base else io

/-- Whether `most` of `span` consecutive places are errors (R289). -/
def dense (most span : Nat) : List Bool → Bool
  | [] => false
  | e :: rest => decide (((e :: rest).take span).countP id ≥ most) || dense most span rest

/-- The code errors of a received frame of a departure, code group by code group, behind the last code groups of the frame before it, which
came without a gap where it was that of the departure before (R289, R301, R306, R307): every lane but one that is OFF counts them. -/
def frameErrors (io : LaneIO) (b d : Nat) (es : List Bool) : LaneIO :=
  if io.st b = 0 then io else
  let t := (io.hid b).tail
  let run := (if t.1 + 1 = d then t.2 else []) ++ es
  let io := (io.incBy (R.LNS_CNT_B_CODE_CNT b) (es.countP id)).upd b (fun l => { l with tail := (d, run.drop (run.length - 15)) })
  if io.st b = 7 && dense 4 16 run then io.retrain b else io

/-- The invalid sync headers among the blocks of a received frame (R289, R301, R304). -/
def headerErrors (io : LaneIO) (b : Nat) (hs : List Nat) : LaneIO :=
  if io.st b = 0 then io else
  let es := hs.map (fun h => h != 1 && h != 2)
  let io := io.incBy (R.LNS_CNT_B_CODE_CNT b) (es.countP id)
  if io.st b = 7 && dense 16 64 es then io.retrain b else io

/-- A check error of a lane in UP (R300); `now` in ns. -/
def checkError (io : LaneIO) (b now : Nat) : LaneIO :=
  if io.st b ≠ 7 then io else
  let io := io.incBy (R.LNS_CNT_A_CRC_CNT b) 1
  let l := io.hid b
  let inside := match l.win with
    | some e => decide (now < e)
    | none => false
  let errs := if inside then l.errs + 1 else 1
  let win := if inside then l.win else some (now + io.rd (R.LNS_RET_CRC_WIN b) * 1000000)
  let io := io.upd b (fun l => { l with win := win, errs := errs })
  if errs > io.rd (R.LNS_RET_CRC_MAX b) then io.retire b else io

/-- The close of the error window (R300). -/
def windowClose (io : LaneIO) (b : Nat) : LaneIO := io.upd b (fun l => { l with win := none, errs := 0 })

/-- RETRAIN_TMO since the lane left UP (R289). -/
def retrainTimeout (io : LaneIO) (b : Nat) : LaneIO :=
  if 1 ≤ io.st b && io.st b ≤ 6 && (io.hid b).everUp then io.retire b else io

/-- DSK_TMO (R293): the lane goes on without the partners that have not come. -/
def deskewTimeout (io : LaneIO) (k : LaneKind) : LaneIO := if io.st k.base = 5 then io.deskew k true else io

/-- Whether a test is set (R299). -/
def testing (io : LaneIO) (b : Nat) : Bool :=
  io.on (R.LNS_CTL_LOOP b) || io.on (R.LNS_PRBS_GEN b) || io.on (R.LNS_PRBS_CHK b)

/-- RESTORE (R289, R299, R301): whether the lane has been UP since EN became 1 is kept (log entry 53). -/
def restore (io : LaneIO) (b : Nat) : LaneIO :=
  if io.testing b then io.cause b 4
  else if io.st b = 8 then
    let io := ((io.wr (R.LNS_CNT_A_CRC_CNT b) 0).wr (R.LNS_CNT_A_RETRAIN_CNT b) 0).wr (R.LNS_CNT_B_CODE_CNT b) 0
    (io.toSig b).upd b (fun l => { l with win := none, errs := 0 })
  else io

/-- RETRAIN of LNS_CMD (R304). -/
def retrainCmd (io : LaneIO) (b : Nat) : LaneIO :=
  if io.st b = 7 then io.retrain b else if io.st b = 0 || io.st b = 8 then io else io.toSig b

/-- Whether a lane is OFF or RETIRED. -/
def idle (io : LaneIO) (b : Nat) : Bool := io.st b == 0 || io.st b == 8

/-- A test field as a store would leave it: a value above `most` leaves it unchanged (R304). -/
def testField (io : LaneIO) (f : Fld) (most v : Nat) : Nat := if v ≤ most then v else io.rd f

/-- Whether a store of a test field is refused (R299): it sets another value than 0, and not the present one (R603), of a lane that is
neither OFF nor RETIRED. -/
def testRefused (io : LaneIO) (b : Nat) (f : Fld) (most v : Nat) : Bool :=
  let new := io.testField f most v
  new != 0 && new != io.rd f && !io.idle b

/-- A store to LNS_PRBS (R296, R297, R299): a change of CHK seeds the checker anew, and one of GEN the generator (log entry 168). -/
def prbsWrite (io : LaneIO) (b v : Nat) : LaneIO :=
  if io.testRefused b (R.LNS_PRBS_GEN b) 4 (bits v 0 3) || io.testRefused b (R.LNS_PRBS_CHK b) 4 (bits v 4 3) then io.cause b 4 else
  let chk := io.testField (R.LNS_PRBS_CHK b) 4 (bits v 4 3)
  let io := if io.rd (R.LNS_PRBS_CHK b) = chk then io
    else ((io.wr (R.LNS_PRBS_CHK b) chk).wr (R.LNS_PRBS_CHK_LOCK b) 0).upd b (fun l => { l with chk := .zero })
  let gen := io.testField (R.LNS_PRBS_GEN b) 4 (bits v 0 3)
  let io := if io.rd (R.LNS_PRBS_GEN b) = gen then io else (io.wr (R.LNS_PRBS_GEN b) gen).upd b (fun l => { l with gen := onesSeed })
  (io.wr (R.LNS_PRBS_GEN_INV b) (bits v 3 1)).wr (R.LNS_PRBS_CHK_INV b) (bits v 7 1)

/-- A store to LNS_CTL (R289, R290, R298, R299, R304): refused as a whole, or EN with the fields beside it; while POL_AUTO is 0 the lane
inverts exactly when POL_FORCE is 1. -/
def ctlWrite (io : LaneIO) (b v : Nat) : LaneIO :=
  if io.testRefused b (R.LNS_CTL_LOOP b) 3 (bits v 4 3) then io.cause b 4 else
  let io := ((io.wr (R.LNS_CTL_POL_AUTO b) (bits v 1 1)).wr (R.LNS_CTL_POL_FORCE b) (bits v 2 1)).wr (R.LNS_CTL_TX_INV b) (bits v 3 1)
  let io := if bitAt v 1 then io else io.wr (R.LNS_STATE_RX_INV b) (bits v 2 1)
  let io := io.wr (R.LNS_CTL_LOOP b) (io.testField (R.LNS_CTL_LOOP b) 3 (bits v 4 3))
  let io := (io.wr (R.LNS_CTL_TX_SQ b) (bits v 7 1)).wr (R.LNS_CTL_INJ_CONT b) (bits v 9 1)
  let io := if bitAt v 8 then io.wr (R.LNS_CTL_INJ_ONCE b) 1 else io
  if bitAt v 0 = io.on (R.LNS_CTL_EN b) then io else io.enWrite b (bitAt v 0)

/-- A store to the register of a lane that holds a test (R299): LNS_PRBS, or LNS_CTL. -/
def testWrite (io : LaneIO) (b : Nat) (prbs : Bool) (v : Nat) : LaneIO := if prbs then io.prbsWrite b v else io.ctlWrite b v

/-- A write of LNS_TXEQ (R295). -/
def txeqWrite (io : LaneIO) (k : LaneKind) (v : Nat) : LaneIO :=
  let b := k.base
  if !k.fast then io
  else if bits v 0 4 + bits v 4 6 + bits v 10 5 > 63 then io.cause b 4
  else ((io.wr (R.LNS_TXEQ_PRE b) (bits v 0 4)).wr (R.LNS_TXEQ_MAIN b) (bits v 4 6)).wr (R.LNS_TXEQ_POST b) (bits v 10 5)

/-- One received bit at a lane's checker (R297): the receive inversion acts on it (R290), and INV is undone (R296). -/
def prbsBit (io : LaneIO) (b : Nat) (x : Bool) : LaneIO :=
  let r := (io.hid b).chk.bit (io.rd (R.LNS_PRBS_CHK b)) (io.on (R.LNS_PRBS_CHK_LOCK b))
    ((x != io.on (R.LNS_STATE_RX_INV b)) != io.on (R.LNS_PRBS_CHK_INV b))
  let io := (io.upd b (fun l => { l with chk := r.1 })).wr (R.LNS_PRBS_CHK_LOCK b) (b2n r.2.1)
  if r.2.2 then io.incBy (R.LNS_PRBS_ERR_ERR b) 1 else io

/-- The bits that a lane with a pattern on its transmitter gives next (R290, R296), and the generator behind them; `serial` behind the
serialiser, where TX_INV acts. -/
def patternOut (io : LaneIO) (b n : Nat) (serial : Bool) : List Bool × LaneIO :=
  let r := patternBits (io.rd (R.LNS_PRBS_GEN b)) n (io.hid b).gen
  (r.1.map (fun x => (x != io.on (R.LNS_PRBS_GEN_INV b)) != (serial && io.on (R.LNS_CTL_TX_INV b))), io.upd b (fun l => { l with gen := r.2 }))

/-- The line bits that a lane with a pattern selected has received (R297): in a near-end loopback those of its own pattern (R298). -/
def prbsRx (io : LaneIO) (b : Nat) (xs : List Bool) : LaneIO :=
  let own := io.looped b && io.on (R.LNS_PRBS_GEN b)
  let r := if own then io.patternOut b xs.length (io.rd (R.LNS_CTL_LOOP b) == 1) else (xs, io)
  if r.2.on (R.LNS_PRBS_CHK b) then r.1.foldl (fun io x => io.prbsBit b x) r.2 else r.2

/-- One µs of a locked checker (R297). -/
def prbsTime (io : LaneIO) (b : Nat) : LaneIO :=
  if io.on (R.LNS_PRBS_CHK_LOCK b) then io.incBy (R.LNS_PRBS_TIME_TIME b) 1 else io

/-- Whether a frame check of a lane is inverted on purpose, used once or continuously (R304). -/
def injected (io : LaneIO) (b : Nat) : Bool × LaneIO :=
  (io.on (R.LNS_CTL_INJ_ONCE b) || io.on (R.LNS_CTL_INJ_CONT b), io.wr (R.LNS_CTL_INJ_ONCE b) 0)

/-- What a lane's transmitter sends (R287 to R289, R296, R298, R301): a pattern, the received bits of a far-end loopback, nothing where a
near-end loopback squelches it, and otherwise what its state gives; RDY from UP-WAIT on. -/
def tx (io : LaneIO) (k : LaneKind) : LaneTx :=
  let b := k.base
  let loop := io.rd (R.LNS_CTL_LOOP b)
  let st := io.st b
  if io.on (R.LNS_PRBS_GEN b) then .pattern (io.rd (R.LNS_PRBS_GEN b)) (io.on (R.LNS_PRBS_GEN_INV b))
  else if loop = 3 then .received
  else if (loop = 1 || loop = 2) && io.on (R.LNS_CTL_TX_SQ b) then .squelched
  else if st = 0 then .squelched
  else if st = 7 then .mission
  else .training k.own (st == 6)

/-- Whether frames and control blocks of a lane leave on its line (R289, R298): in UP, with no pattern, no far-end loopback and no
squelch in their place. -/
def sends (io : LaneIO) (k : LaneKind) : Bool := io.tx k == .mission

/-- Whether a lane sends training (R289). -/
def trains (io : LaneIO) (k : LaneKind) : Bool :=
  match io.tx k with
  | .training _ _ => true
  | _ => false

/-- What a lane puts on its line: what its transmitter sends, and whether TX_INV inverts it (R290). -/
def line (io : LaneIO) (k : LaneKind) : LaneTx × Bool := (io.tx k, io.on (R.LNS_CTL_TX_INV k.base))

end LaneIO
end Sys2Proof.Machine
end

