-- ==== Sys2Proof/Machine/LineOut.lean ====
section
/-! DEFINITION. What leaves on a chip's lines (R286 to R288, R290, R296, R298): the training, frames and control blocks that the lanes of a
chip are given, scrambled or 8b/10b coded behind what each lane sent before. How many idles stand between two frames, and how much training
has been sent, is free (log entry 170). -/
namespace Sys2Proof.Machine

/-- What the lines of a chip carry on from (R286, R287, R288): by lane the latest 58 bits of its scrambler and its running disparity, by the
first lane of a link the TSEQ that the link is at, how many of the chip's outputs have been put on lines, and the words that have left, by
lane: sync header and 64 scrambled bits, or a code group, or a pattern's bit. -/
structure LineHid where
  scr  : Tbl Nat
  plus : Tbl Bool
  tseq : Tbl Nat
  seen : Nat
  sent : List (Nat × List (Nat × Nat))
  deriving DecidableEq, Repr

/-- The lines of a chip after reset (log entry 168). -/
def LineHid.zero : LineHid := ⟨[], [], [], 0, []⟩

/-- A block scrambled behind the 58 bits before it, and the 58 bits behind it (R286). -/
def codeBlock (scr : Nat) (b : Block) : (Nat × Nat) × Nat :=
  let w := scramble scr (ofBytes b.2)
  ((b.1, w), w >>> 6)

/-- Blocks scrambled in turn (R286). -/
def codeBlocks : Nat → List Block → List (Nat × Nat) × Nat
  | scr, [] => ([], scr)
  | scr, b :: rest =>
    let r := codeBlock scr b
    let s := codeBlocks r.2 rest
    (r.1 :: s.1, s.2)

/-- The scrambler behind a run of IDLE blocks (R286, R326). -/
def idleRun : Nat → Nat → Nat
  | 0, scr => scr
  | n + 1, scr => idleRun n (codeBlock scr (control 0x1E [])).2

/-- The code group of a Trackway character at a running disparity, and the disparity behind it (R286, R307): what a character received with
a code error leaves as is `other`. -/
def charGroup (other : Nat) (plus : Bool) (v : Nat) : Nat × Bool :=
  if v < 256 then dataGroup plus v
  else if v = charK28_5 then (k28_5 plus, !plus)
  else if v = charK28_7 then (if plus then 0b1100000111 else 0b0011111000, plus)
  else (other % 1024, plus)

/-- Trackway characters coded in turn (R286). -/
def codeChars (other : Nat) : Bool → List Nat → List (Nat × Nat) × Bool
  | plus, [] => ([], plus)
  | plus, v :: rest =>
    let r := charGroup other plus v
    let s := codeChars other r.2 rest
    ((0, r.1) :: s.1, s.2)

/-- The blocks that each of some lanes takes of a run of blocks, in turn (R487). -/
def turns (lanes : List Nat) (blocks : List Block) : List (Nat × List Block) :=
  lanes.zipIdx.map (fun e => (e.1, (blocks.zipIdx.filter (fun b => b.2 % lanes.length == e.2)).map (fun b => b.1)))

/-- What a lane's output carries: the lane, and blocks or characters; nothing for an output of another kind. -/
inductive LineItem where
  | blocks (lane : Nat) (bs : List Block) (frame : Bool)
  | chars (lane : Nat) (cs : List Nat) (frame : Bool)
  | change (lane : Nat) (tx : LaneTx)

/-- An output as its lanes are given it: control blocks and K28.7 go out in training as well (R140, R142). -/
def Output.items : Output → List LineItem
  | .mainline n bs => [.blocks n bs (bs != avalancheBlocks)]
  | .siding lanes bs => (turns lanes bs).map (fun e => .blocks e.1 e.2 true)
  | .trackway n cs => [.chars n cs true]
  | .k28_7 n => [.chars n [charK28_7] false]
  | .lane n tx _ => [.change n tx]
  | _ => []

namespace LineHid

/-- Words put on a lane's line, inverted where TX_INV says so (R290). -/
def out (l : LineHid) (n : Nat) (inv : Bool) (slow : Bool) (ws : List (Nat × Nat)) : LineHid :=
  let w := if !inv then ws else ws.map (fun e => if slow then (e.1, 1023 - e.2) else (3 - e.1, 2 ^ 64 - 1 - e.2))
  { l with sent := l.sent ++ [(n, w)] }

/-- Blocks sent on a lane (R286): behind a free number of idles, or in training behind bits that are free. -/
def blocks (l : LineHid) (n d : Nat) (idle inv : Bool) (bs : List Block) : LineHid :=
  let r := codeBlocks (if idle then idleRun d (l.scr.get n 0) else d % 2 ^ 58) bs
  ({ l with scr := l.scr.set n r.2 }).out n inv false r.1

/-- Characters sent on a lane (R286, R306): frames and idles leave its running disparity to the next frame, training leaves a free one. -/
def chars (l : LineHid) (n d : Nat) (idle inv : Bool) (cs : List Nat) : LineHid :=
  let r := codeChars d (if idle then l.plus.get n false else d % 2 == 1) cs
  ({ l with plus := l.plus.set n r.2 }).out n inv true r.1

/-- What a lane sends from now on (R287, R288, R296): the first of the training blocks or sets, which go on with TSEQ rising by 1, all lanes of a
link at one TSEQ; or the next 64 bits of a pattern. `step` is how far the TSEQ of every link has risen since the chip's last outputs. -/
def change (l : LineHid) (io : LaneIO) (k : LaneKind) (was : Tbl Nat) (n step d : Nat) (tx : LaneTx) : LineHid :=
  let inv := io.on (R.LNS_CTL_TX_INV k.base)
  let l := { l with scr := l.scr.set n (d % 2 ^ 58), plus := l.plus.set n (d % 2 == 1) }
  match tx with
  | .training who rdy =>
    let key := k.link.headD 0
    let q := (was.get key 0 + step) % 65536
    let l := { l with tseq := l.tseq.set key q }
    if k.fast then l.blocks n d false inv [(2, trainingBlock who rdy q)]
    else l.chars n d false inv (charK28_5 :: trainingSet who rdy q)
  | .pattern _ _ => l.out n false false ((io.patternOut k.base 64 true).1.map (fun x => (0, b2n x)))
  | _ => l

/-- One item put on the line of its lane, where the lane sends it (R289, R298): frames in UP, control blocks and K28.7 in training too. -/
def put (l : LineHid) (io : LaneIO) (kind : Nat → LaneKind) (was : Tbl Nat) (step d : Nat) : LineItem → LineHid
  | .blocks n bs frame =>
    let idle := io.sends (kind n)
    if idle || (!frame && io.trains (kind n)) then l.blocks n d idle (io.on (R.LNS_CTL_TX_INV (kind n).base)) bs else l
  | .chars n cs frame =>
    let idle := io.sends (kind n)
    if idle || (!frame && io.trains (kind n)) then l.chars n d idle (io.on (R.LNS_CTL_TX_INV (kind n).base)) cs else l
  | .change n tx => l.change io (kind n) was n step d tx

/-- The items of the outputs that have not been put on lines. -/
def waiting (l : LineHid) (out : List Output) : List LineItem := (out.drop l.seen).flatMap Output.items

end LineHid
end Sys2Proof.Machine
end

