-- ==== Sys2Proof/Machine/RegMap.lean ====
section
/-! DEFINITION. How an address reaches register fields, and what a plain store does to them (R7 to R10, R576, R603). -/
namespace Sys2Proof.Machine

/-- One row of a register map: a field, how often it repeats (two counts with their strides), whether each core has its own
copy (R577), and the intervals of values that a write may give it (all values when empty). -/
structure RegRow where
  n1   : Nat
  s1   : Nat
  n2   : Nat
  s2   : Nat
  core : Bool
  f    : Fld
  rng  : List (Nat × Nat)
  deriving DecidableEq, Repr

/-- The place that one dimension takes of an offset: whether the offset can lie in it, and what is left. -/
def dimRest (n s off : Nat) : Option Nat :=
  if n = 1 then some off else if off / s < n then some (off % s) else none

/-- Whether a row holds a field at an address. -/
def RegRow.covers (r : RegRow) (addr : Nat) : Bool :=
  decide (r.f.addr ≤ addr) &&
    (match dimRest r.n1 r.s1 (addr - r.f.addr) with
    | some x => match dimRest r.n2 r.s2 x with
      | some y => y == 0
      | none => false
    | none => false)

/-- The fields of a register, with the values each may be given; `core` selects the private copy (R577). -/
def fieldsAt (m : List RegRow) (core addr : Nat) : List (Fld × List (Nat × Nat)) :=
  (m.filter (fun r => r.covers addr)).map (fun r =>
    ({ r.f with addr := if r.core then addr + core * 0x10000000000 else addr }, r.rng))

/-- Whether a value is one that a field may be given. -/
def inRange (rng : List (Nat × Nat)) (v : Nat) : Bool := rng.isEmpty || rng.any (fun e => decide (e.1 ≤ v) && decide (v ≤ e.2))

/-- A register read without side effect: WO fields return 0 (R10, R581). -/
def Regs.word (r : Regs) (fs : List (Fld × List (Nat × Nat))) : Nat :=
  fs.foldl (fun (w : Nat) e => if e.1.acc = .wo then w else w + r.get e.1 * 2 ^ e.1.lo) 0

/-- The RC fields of a register set to their reset values by a read (R10, R12). -/
def Regs.readClear (r : Regs) (fs : List (Fld × List (Nat × Nat))) : Regs :=
  fs.foldl (fun (r : Regs) e => if e.1.acc = .rc then r.set e.1 e.1.reset else r) r

/-- An RC field updated by hardware in the handshake of a read of it, after the clear of that read (R12). -/
def Regs.tie (r : Regs) (fs : List (Fld × List (Nat × Nat))) (x : Tie) : Regs :=
  let upd := fun (lo : Nat) (g : Fld → Nat → Nat) =>
    fs.foldl (fun (r : Regs) e => if e.1.acc = .rc ∧ e.1.lo = lo then r.set e.1 (g e.1 (r.get e.1)) else r) r
  match x with
  | .none => r
  | .count lo n => upd lo (fun f c => satInc f.width c n)
  | .least lo v => upd lo (fun _ c => min c v)
  | .most lo v => upd lo (fun _ c => max c v)
  | .mostSigned lo v => upd lo (fun f c => if sx f.width c < sx f.width v then v else c)

/-- A field stored to by its access code (R10): RW sets it to a value in its range, W1C and W1S act on ones; RO, WO, RC and RB
ignore the store. -/
def Regs.storeField (r : Regs) (e : Fld × List (Nat × Nat)) (data : Nat) : Regs :=
  let v := bits data e.1.lo e.1.width
  match e.1.acc with
  | .rw => if inRange e.2 v then r.set e.1 v else r
  | .w1c => r.set e.1 (r.get e.1 - (r.get e.1 &&& v))
  | .w1s => r.set e.1 (r.get e.1 ||| v)
  | _ => r

/-- A 32-bit store to a register's fields by their access codes (R10). -/
def Regs.store (r : Regs) (fs : List (Fld × List (Nat × Nat))) (data : Nat) : Regs :=
  fs.foldl (fun (r : Regs) e => r.storeField e data) r

/-- The fields of a register that a store would change (R603). -/
def Regs.changed (r : Regs) (fs : List (Fld × List (Nat × Nat))) (data : Nat) : List Fld :=
  (fs.filter (fun e => (r.storeField e data).get e.1 != r.get e.1)).map (fun e => e.1)

/-- Whether a register holds a field that a core store can write (R581). -/
def storable (fs : List (Fld × List (Nat × Nat))) : Bool :=
  fs.any (fun e => e.1.acc = .rw || e.1.acc = .wo || e.1.acc = .w1c || e.1.acc = .w1s)

end Sys2Proof.Machine
end

