-- ==== Sys2Proof/Machine/MemoryErrors.lean ====
section
/-! DEFINITION. Symbol code, scrubbing, spare rows and injection, the same on every chip (R452 to R458). -/
namespace Sys2Proof.Machine

/-- Memory errors of a chip beside its registers (R452 to R454): the words that give an uncorrectable error until they are written, the
rows replaced by bank, newest first, the address that the scrubber reads next. -/
structure MemHid where
  poison : List Nat
  spare  : Tbl (List Nat)
  scrub  : Nat
  deriving DecidableEq, Repr

/-- Memory without an error. -/
def MemHid.zero : MemHid := ⟨[], [], 0⟩

/-- The memory of a chip as an event finds and leaves it: registers, what lies beside them, the causes raised as cause bit and
bank, and how many errors it has corrected. -/
structure MemIO where
  regs   : Regs
  hid    : MemHid
  raised : List (Nat × Nat)
  fixed  : Nat
  deriving DecidableEq, Repr

namespace MemIO

/-- A field. -/
def rd (io : MemIO) (f : Fld) : Nat := io.regs.get f
/-- A field set. -/
def wr (io : MemIO) (f : Fld) (v : Nat) : MemIO := { io with regs := io.regs.set f v }
/-- A counter advanced. -/
def inc (io : MemIO) (f : Fld) : MemIO := io.wr f (satInc f.width (io.rd f) 1)
/-- A cause raised: 0 UNCORR, 1 SPARED, 2 SPARE_OUT, 3 INJ_REJ. -/
def cause (io : MemIO) (bit bank : Nat) : MemIO := { io with raised := io.raised ++ [(bit, bank)] }

/-- Whether a bank has a spare row left (R453). -/
def hasSpare (io : MemIO) (addr : Nat) : Bool := decide ((io.hid.spare.get (addr / 2 ^ 20) []).length < 16)

/-- A row replaced by a spare of its bank, or left in service when none is left (R453). -/
def spareRow (io : MemIO) (addr : Nat) : MemIO :=
  let bank := addr / 2 ^ 20
  let rows := io.hid.spare.get bank []
  if io.hasSpare addr then
    { io with hid := { io.hid with spare := io.hid.spare.set bank (addr % 2 ^ 20 / 128 :: rows) } }.cause 1 bank
  else io.cause 2 bank

/-- An uncorrectable error of a word (R453, R454): the row replaced and the word poisoned in the spare. With no spare left the word stays
as it is: in error until it is written, or, when the error was injected alone, good (R455). A word poisoned already costs no further
row. -/
def uncorr (io : MemIO) (b addr : Nat) (injected : Bool) : MemIO :=
  let word := addr / 16 * 16
  let io := (io.inc (R.SYS_MEM_CNT_UNC_CNT b)).cause 0 (addr / 2 ^ 20)
  if io.hid.poison.contains word then io
  else if injected && !io.hasSpare addr then io.spareRow addr
  else { io with hid := { io.hid with poison := io.hid.poison ++ [word] } }.spareRow addr

/-- A corrected error (R452). -/
def corrected (io : MemIO) (b : Nat) : MemIO := { io.inc (R.SYS_MEM_CNT_CORR_CNT b) with fixed := io.fixed + 1 }

/-- Whether the next check of an injection target sees inverted check bits: how many symbols, and the memory with ONCE used (R455). -/
def inject (io : MemIO) (b target : Nat) : Option Nat × MemIO :=
  if io.rd (R.SYS_INJ_TARGET b) = target && (io.rd (R.SYS_INJ_ONCE b) = 1 || io.rd (R.SYS_INJ_CONT b) = 1) then
    (some (io.rd (R.SYS_INJ_SYMS b)), io.wr (R.SYS_INJ_ONCE b) 0)
  else (none, io)

/-- An error of a check beside the SRAM, by its symbols (R452, R454, R455): it has no bank, and bank 0 stands for it (log entry 167). -/
def tableError (io : MemIO) (b symbols : Nat) : MemIO :=
  if symbols ≥ 2 then (io.inc (R.SYS_MEM_CNT_UNC_CNT b)).cause 0 0 else io.corrected b

/-- A word read with as many symbols in error as given, and whether the read after the write-back still shows an error
(R452, R453, R455); whether it was uncorrectable. -/
def read (io : MemIO) (b addr symbols : Nat) (still : Bool) : Bool × MemIO :=
  let here := io.rd (R.SYS_INJ_TARGET b) == 0 && io.rd (R.SYS_INJ_ADDR_ADDR b) == addr / 16
  let once := io.rd (R.SYS_INJ_ONCE b) == 1
  let cont := io.rd (R.SYS_INJ_CONT b) == 1
  let inj := here && (once || cont)
  let n := if inj then max symbols (io.rd (R.SYS_INJ_SYMS b)) else symbols
  let io := if inj then io.wr (R.SYS_INJ_ONCE b) 0 else io
  if n ≥ 2 || io.hid.poison.contains (addr / 16 * 16) then (true, io.uncorr b addr (decide (symbols < 2)))
  else if n = 0 then (false, io)
  else
    let io := io.corrected b
    (false, if still || (here && cont) then io.spareRow addr else io)

/-- The words that an access of a size meets, read without an error of their own (R452, R453). -/
def access (io : MemIO) (b addr size : Nat) : Bool × MemIO :=
  let p := io.read b addr 0 false
  if addr / 16 = (addr + size - 1) / 16 then p
  else
    let q := p.2.read b (addr + size - 1) 0 false
    (p.1 || q.1, q.2)

/-- The scrubber reads its next word of a memory of a size (R452). -/
def scrub (io : MemIO) (b size symbols : Nat) (still : Bool) : MemIO :=
  let a := io.hid.scrub
  let io := (io.read b a symbols still).2
  { io with hid := { io.hid with scrub := if a + 16 ≥ size then 0 else a + 16 } }

/-- A word written anew: no longer poisoned (R453). -/
def written (h : MemHid) (addr n : Nat) : MemHid :=
  { h with poison := h.poison.filter (fun w => decide (w + 16 ≤ addr) || decide (addr + n ≤ w)) }

/-- A store to `SYS_INJ` or `SYS_INJ_ADDR` (R455, R456, R458, R603): the targets this chip accepts, and whether critical ones are
refused now. -/
def injWrite (io : MemIO) (b : Nat) (toAddr : Bool) (targets : Nat) (conv : Bool) (v : Nat) : MemIO :=
  let cont := io.rd (R.SYS_INJ_CONT b) == 1
  if toAddr then
    if bits v 4 28 = io.rd (R.SYS_INJ_ADDR_ADDR b) then io
    else if cont then io.cause 3 0
    else io.wr (R.SYS_INJ_ADDR_ADDR b) (bits v 4 28)
  else
    let tgt := if bits v 0 4 ≤ targets then bits v 0 4 else io.rd (R.SYS_INJ_TARGET b)
    let syms := if bits v 9 2 = 1 || bits v 9 2 = 2 then bits v 9 2 else io.rd (R.SYS_INJ_SYMS b)
    let same := tgt == io.rd (R.SYS_INJ_TARGET b) && bits v 4 5 == io.rd (R.SYS_INJ_UNIT b) && syms == io.rd (R.SYS_INJ_SYMS b) &&
      bitAt v 12 == cont && (!bitAt v 11 || io.rd (R.SYS_INJ_ONCE b) == 1)
    if same then io
    else if cont && bitAt v 12 then io.cause 3 0
    else if conv && (bitAt v 11 || bitAt v 12) && (tgt == 2 || tgt == 3 || tgt == 5 || tgt == 6) then io.cause 3 0
    else
      let io := ((io.wr (R.SYS_INJ_TARGET b) tgt).wr (R.SYS_INJ_UNIT b) (bits v 4 5)).wr (R.SYS_INJ_SYMS b) syms
      let io := if bitAt v 11 then io.wr (R.SYS_INJ_ONCE b) 1 else io
      io.wr (R.SYS_INJ_CONT b) (bits v 12 1)

/-- Memory with the words lost that an event has poisoned: hardware reads 0 there (R453, R454). -/
def lost (m : Mem) (old new : MemHid) : Mem :=
  (new.poison.filter (fun w => !old.poison.contains w)).foldl (fun (m : Mem) w => m.writeBytes w (List.replicate 16 0)) m

/-- `SYS_MEM_SPARE` for the selected bank (R458). -/
def spareWord (io : MemIO) (b : Nat) : Nat :=
  let rows := io.hid.spare.get (io.rd (R.SYS_MEM_SEL_BANK b)) []
  rows.length + rows.headD 0 * 2 ^ 16

end MemIO
end Sys2Proof.Machine
end

