-- ==== Sys2Proof/Machine/StateUnit.lean ====
section
/-! DEFINITION. The state of the central unit BQ7100 beside its registers and memory: what the chapters name that no
register shows. Every structure names the chapter rule it follows. -/
namespace Sys2Proof.Machine

/-- The time base (R31, R36, R39): full station time at the last reference tick, the time elapsed since it, the
increment in force and the one that the next tick takes up, the full µs count of the last boundary emitted, the
reference clock's elapsed time at its nominal period, in 1/80 ns, at the last tick, and the time elapsed since that tick, which a set
leaves (R602). -/
structure TimeBase where
  sec     : Nat
  ns      : Nat
  frac    : Nat
  elapsed : Nat
  inc     : Nat
  incNext : Option Nat
  lastUs  : Nat
  ref80   : Nat
  since   : Nat
  deriving DecidableEq, Repr

/-- One entry of a transmit time-stamp queue (R44). -/
structure TxEntry where
  msgType : Nat
  seqId   : Nat
  ts      : Nat
  deriving DecidableEq, Repr

/-- TIM beside its registers: the pending step in 1/16 ns (R40), whether a boundary has passed since it was written,
the departures passed since the last step applied (R41), whether the generator runs from the next boundary (R38), the transmit
time-stamp queues (R44). -/
structure TimHid where
  step     : Option Int
  stepBnd  : Bool
  lastStep : Option Nat
  runNext  : Bool
  txq      : Tbl (List TxEntry)
  deriving DecidableEq, Repr

/-- A block's fault record beside its registers (R445, R448): the classes recorded since the last ACK (bit k for
class k), whether a class-2 cause stays active until ACK, whether a class-3 fault is unacknowledged. -/
structure Rec where
  classes : Nat
  act2    : Bool
  open3   : Bool
  deriving DecidableEq, Repr

/-- Where an item of the pool stands (R428, R431). -/
inductive ItemState where
  | queued | inService | held
  deriving DecidableEq, Repr

/-- One item of the pool (R428); `event` says that a source's event queued it, so that the source's PEND stands for it (R427). -/
structure Item where
  flow   : Nat
  seq    : Nat
  src    : Nat
  data   : Nat
  thread : Nat
  state  : ItemState
  qTs    : Nat
  res    : Nat
  event  : Bool
  deriving DecidableEq, Repr

/-- One open run of a core (R416, R421). -/
structure Run where
  thread  : Nat
  item    : Option (Nat × Nat)
  start   : Nat
  long    : Bool
  deriving DecidableEq, Repr

/-- The scheduler beside its registers: the item pool in order of queueing, the READY threads in order of becoming
READY, the reason of each pending plain READY, the cores blocked on SCH_WAIT with the reference time since when (R418), the open
runs, the cores whose SCH_CMD_RES holds a result not yet read, the cores blocked on it, MSIP and MEIP by core, the flows
whose release waits, the flows whose QHIGH has been raised, whether POOL_LOW is raised, and each core's busy time in
1/16 ns and dispatches in the open 1 ms window. -/
structure Sched where
  items    : List Item
  ready    : List Nat
  plain    : Tbl Nat
  waiting  : Tbl Nat
  runs     : Tbl Run
  resReady : List Nat
  blocked  : List Nat
  msip     : Nat
  meip     : Nat
  stalled  : List Nat
  qhigh    : List Nat
  poolLow  : Bool
  winStart : Nat
  winBusy  : Tbl Nat
  winRuns  : Tbl Nat
  deriving DecidableEq, Repr

/-- The trim descriptor of an order set (R116). -/
structure Trim where
  cid  : Nat
  neg  : Bool
  duty : Nat
  deriving DecidableEq, Repr

/-- One arm's order set for one departure (R116): the state codes that are not BLOCK and the granted and forced
cells, by CID. -/
structure OrderSet where
  states : Tbl Nat
  grants : List Nat
  forced : List Nat
  trim   : Option Trim
  held   : Bool
  avl    : Bool
  avClr  : Bool
  deriving DecidableEq, Repr

/-- A pending change of a force-table entry (R605): a state code, or `none` for a release, from a DN. -/
structure ForceChange where
  code : Option Nat
  eff  : Nat
  deriving DecidableEq, Repr

/-- One entry of the force table (R605). -/
structure ForceEntry where
  cid : Nat
  cur : Option Nat
  chg : Option ForceChange
  deriving DecidableEq, Repr

/-- The departure unit beside its registers: the platform by arm × 2^32 + DN (R117), the sets planned and not yet
frozen by arm with their DN, the arms whose next freeze finds no earlier set (R124), the force table (R127), the
clearing departures left of a run of R145 or R146, the boundary at which an accepted clear starts (R508), whether
the run of R146 has been made since the reset or is ruled out, whether the generator has entered RUNNING since it, whether an ORDER
frame has been sent since it. -/
structure Dep where
  sets     : Tbl OrderSet
  planned  : Tbl (Nat × OrderSet)
  fresh    : List Nat
  force    : List ForceEntry
  clrLeft  : Nat
  clrAt    : Option Nat
  resetRun : Bool
  ranSince : Bool
  sent     : Bool
  deriving DecidableEq, Repr

/-- The signal box beside its registers: the words of the configuration held (R480), the filtered levels of the
hard-wired inputs and whether each alive-mode input has timed out (R469), the tick of the last accepted heartbeat,
the token expected next and the first tick of a recovery pair (R472), the consecutive readback mismatches, the
readback faults that wait, the channels commanded closed at the last sample and how long each command has stood (R477), the test pulse in progress (R478), the glacier time in µs and whether it has
expired (R476), the change from which entry 250 moves and its value there (R475), the mirror cycles since a valid peer
status and whether the VSBX supply and the oscillator run (R473, R466). -/
structure Sbx where
  cfg      : List Nat
  hw       : Nat
  alvOut   : Nat
  hbLast   : Nat
  hbToken  : Nat
  hbPair   : Option Nat
  rbCnt    : Tbl Nat
  rbFault  : Nat
  cmdWas   : Nat
  cmdAge   : Tbl Nat
  pulse    : Option (Nat × Bool)
  glUs     : Nat
  glExp    : Bool
  rampAt   : Option Nat
  rampFrom : Nat
  frac250  : Nat
  peerMiss : Nat
  supply   : Bool
  osc      : Bool
  deriving DecidableEq, Repr

/-- A section that waits to be sent in the mirror cycle (R490): CTRL with its frame, the arms and the slice of an FRN section, a region. -/
inductive SideItem where
  | ctrl (bytes : List Nat)
  | loop
  | arm (a : Nat)
  | frn (a j : Nat)
  | region (r : Nat)
  deriving DecidableEq, Repr

/-- The MIRROR frame being sent (R487 to R492): the lanes that take its blocks, when it started in 1/300 ns of station time, its frame
bytes, those known so far, where the bytes of a region that are not yet sent are read, and how many bytes stand in blocks begun. -/
structure SideFrame where
  lanes : List Nat
  start : Nat
  len   : Nat
  bytes : List Nat
  src   : Option Nat
  done  : Nat
  deriving DecidableEq, Repr

/-- What SDL holds beside its registers (R491 to R508): the role decided and not yet in force with the causes it
raises, the latest valid peer CTRL, the arrival stamp of it, this unit's stamps of the CTRLs sent by cycle, the cycles
since a valid CTRL, the consecutive incomplete cycles, whether TAKE has arrived and has been sent, whether REV is
asked, the clear handshake (cycles waited since CLR_REQ), the answer to send, whether a relinquish is held back,
whether RLQ is set in later CTRLs, the blocks whose relinquish cause is not acknowledged (0 for RELQ), whether
PREFER_BAD has been raised, CONV_EN at the latest boundary, whether CONV_EN is to be cleared at the next boundary (R507),
whether the peer offset stood beyond its limit (R46), the boundary of the cycle latched and the sections received for it, the
sections applied in the cycle, the own latches (ARM payloads by arm, W by CID, slot states), the digests of recent
cycles, the regions in force, whether a handover of this unit has passed HO_DN without TAKE and whether the peer has one that may have
(R503), the sections that wait to be sent, the frame being sent, when the next may start and the end of the sending window in 1/300 ns
(R492). -/
structure Sdl where
  next     : Option Nat
  peer     : Option Ctrl
  peerTs   : Nat
  txTs     : Tbl Nat
  miss     : Nat
  gap      : Nat
  takeRx   : Bool
  takeTx   : Bool
  hoReq    : Bool
  rev      : Bool
  clrWait  : Option Nat
  clrAns   : Option Bool
  clrDn    : Nat
  rlqHeld  : Bool
  rlq      : Bool
  rlqBy    : List Nat
  prefBad  : Bool
  convWas  : Bool
  convOff  : Bool
  ofsOver  : Bool
  cycDn    : Nat
  recv     : List Section
  armLatch : Tbl ArmMirror
  wLatch   : Tbl FrnMirror
  slotLatch : List SlotMirror
  dig      : Tbl (Nat × Nat)
  regions  : Tbl (Nat × Nat)
  hoFail   : Bool
  hoPeer   : Bool
  tx       : List SideItem
  cur      : Option SideFrame
  free     : Option Nat
  winEnd   : Nat
  deriving DecidableEq, Repr

/-- One entry of the last-fault record in BAK (R522). -/
structure LfEntry where
  ts  : Nat
  src : Nat
  bit : Nat
  cls : Nat
  deriving DecidableEq, Repr

/-- One configured cell (R537): its CID, type, nameplate gain, bleed and configuration set, the entries of its class
and its overrides in the order in which MLK sends them. -/
structure CellCfg where
  cid : Nat
  fb  : Bool
  k0  : Nat
  b   : Nat
  set : List (Nat × Nat)
  deriving DecidableEq, Repr

/-- The loaded topology (R536): NSEG of the configured arms, the loop sizes of the configured hubs, the configured
cells in ascending CID, START_TMO in s, CFG_ID (R534), the check word (R558), and PORT, MIN_AVAIL and NREF_IDX of the configured arms,
to which the fields marked Image return at a reset. -/
structure Topo where
  nseg     : Tbl Nat
  loops    : Tbl (List Nat)
  cells    : List CellCfg
  startTmo : Nat
  cfgId    : Nat
  check    : Nat
  armImg   : Tbl (Nat × Nat × Nat)
  deriving DecidableEq, Repr

/-- One evaluated boundary of an arm: its DN, the arm current, and whether an avalanche made every cell count as
BLOCK in the interval it opens (R54, R69). -/
structure ArmAt where
  dn : Nat
  i  : Int
  av : Bool
  deriving DecidableEq, Repr

/-- The settings of a selection engine that take effect at a boundary (R113). -/
structure MshCfg where
  en         : Bool
  fbByp      : Bool
  trimPool   : Bool
  band       : Nat
  iDir       : Nat
  swapMax    : Nat
  dwell      : Nat
  trimRot    : Nat
  tmin       : Nat
  dead       : Nat
  refreshMax : Nat
  refLate    : Nat
  minAvail   : Nat
  deriving DecidableEq, Repr

/-- One arm engine beside its registers and ledger. Firn: whether EN is in force, the report queue (CID and 16
bytes), the boundaries of the history, whether the fallback source is selected and whether NOCUR stands, the projected
estimates by ordinal and the predicted current of the departure being planned (R63). Selection: the settings and the
level reference latched at the boundary, the DN being planned and whether its selection has been made, the
trim cell's ordinal and TRIM_SINCE, the residue carry, whether TRIM_NONE stands, the cells whose
REFRESH_LATE has been raised, whether ROTATE is asked. `pre` holds W and K of the cells, by ordinal, from which the interval in
progress advanced them (R54). -/
structure ArmHid where
  en     : Bool
  queue  : List (Nat × List Nat)
  ring   : List ArmAt
  fbSel  : Bool
  noCur  : Bool
  vp     : List Int
  ipDn   : Int
  cfg    : MshCfg
  nref   : Int
  planDn : Nat
  open_  : Bool
  trim   : Option (Nat × Nat)
  carry  : Int
  none_  : Bool
  late   : List Nat
  rotate : Bool
  pre    : List (Int × Nat)
  deriving DecidableEq, Repr

/-- A direct sensor port beside its registers (R258 to R263, R58): reference SEQ and time, deadline, end of the open
error window, all in the reference clock's elapsed time (R602); the committed GAIN_M, GAIN_SH and OFS; the number of
consecutive valid samples; the latest valid samples with their stamps, newest first. -/
structure Port where
  sRef   : Nat
  tRef   : Nat
  dead   : Option Nat
  win    : Option Nat
  gm     : Nat
  gsh    : Nat
  ofs    : Int
  valid  : Nat
  line   : List (Nat × Int)
  deriving DecidableEq, Repr

/-- A sequence monitor beside its registers (R267 to R270): the last accepted edge of each input, whether the next edge
after one on SQA is awaited, the order noted last, the edges in the open window, whether REVERSAL and FREQ_BAD stand. -/
structure SeqMon where
  last  : Tbl Nat
  await : Bool
  noted : Option Nat
  edges : Nat
  rev   : Bool
  bad   : Bool
  deriving DecidableEq, Repr

/-- The process bus beside its registers (R272 to R281): the duplicate tables by pair (source, sequence, time made in
ns, oldest first), the last accepted smpCnt and arrival of each subscription, the newest raw values of each channel by
16k + channel with their instants (R59), the aligned board writes that wait (due time, entry, value), the deadline of
each GOOSE block in ns, the next sequence number of the frames sent by pair (R273). -/
structure Pbx where
  dup   : Tbl (List (Nat × Nat × Nat))
  smp   : Tbl Nat
  arr   : Tbl Nat
  line  : Tbl (List (Nat × Int))
  align : List (Nat × Nat × Int)
  go    : Tbl Nat
  seq   : Tbl Nat
  deriving DecidableEq, Repr

/-- The results of one slot in a run (R220, R224, R228, R234): they take effect at the run's commit. `followed` and
`unlocked` are the causes FOLLOW and PLL_UNLOCK it raises. -/
structure SlotRes where
  slot     : Nat
  state    : List Nat
  locked   : Bool
  armed    : Bool
  feCnt    : Nat
  sat      : Bool
  lim      : Bool
  followed : Bool
  unlocked : Bool
  outs     : List (Nat × Int)
  deriving DecidableEq, Repr

/-- A run of a rate group in progress (R219, R220, R222): its start boundary in full µs and on the reference clock in 1/80 ns, whether
its commit came in the handshake of the next start boundary, the slots in service still to be computed, those that have left service, the
registers that it sees, the slots newly enabled (R235), the results so far. -/
structure LpeRun where
  start : Nat
  ref   : Nat
  tie   : Bool
  left  : List Nat
  off   : List Nat
  view  : Regs
  fresh : List Nat
  res   : List SlotRes
  deriving DecidableEq, Repr

/-- The loop engine beside its registers: the runs in progress by group, the slots whose EN has changed to 1 since
their last run in service (R235), and, from the handshake of a boundary until its work is done, the registers as that handshake found
them: what is written in it is in no latch of the boundary and acts in no run that starts there (R221, R231). -/
structure Lpe where
  runs  : Tbl LpeRun
  enNew : List Nat
  edge  : Option Regs
  deriving DecidableEq, Repr

/-- The central unit: its registers, the SRAM, the flash behind the xSPI window, the fault records beside their registers, the
lasting class-2 causes active now (STATUS address and cause bit, R448), the events in flight to the scheduler (R426),
each block's state beside its registers, the lanes and their lines, the latest lead margin of each hub (R28), the
first 8 bytes of the running firmware image's digest (R491), the last-fault record, what it has sent, and the count of free values it
has drawn (the model's own field, log entry 2). -/
structure U where
  regs  : Regs
  mem   : Mem
  flash : Tbl Byte
  recs  : Tbl Rec
  act   : List (Nat × Nat)
  evq   : List Nat
  tim   : TimHid
  sch   : Sched
  dep   : Dep
  sbx   : Sbx
  sdl   : Sdl
  lf    : List LfEntry
  topo  : Topo
  arms  : Tbl ArmHid
  ports : Tbl Port
  mons  : Tbl SeqMon
  pbx   : Pbx
  lpe   : Lpe
  leads : Tbl Int
  fwId  : Nat
  lanes : Tbl Lane
  serial : LineHid
  mlk   : Mlk
  cap   : Cap
  snp   : Snp
  sys   : Sys
  sec   : Sec
  memh  : MemHid
  out   : List Output
  free  : Nat
  deriving DecidableEq, Repr

end Sys2Proof.Machine
end

