-- ==== Sys2Proof/Machine/UnitOps.lean ====
section
/-! DEFINITION. The named operations over the central unit: register fields, counters, outputs, free values and the
formats of station time (R31 to R34). -/
namespace Sys2Proof.Machine

/-- A register field of the unit. -/
def U.rd (u : U) (f : Fld) : Nat := u.regs.get f

/-- A register field as a flag. -/
def U.on (u : U) (f : Fld) : Bool := u.rd f != 0

/-- A register field written by hardware. -/
def U.wr (u : U) (f : Fld) (v : Nat) : U := { u with regs := u.regs.set f v }

/-- A one-bit field written by hardware. -/
def U.put (u : U) (f : Fld) (b : Bool) : U := u.wr f (b2n b)

/-- A counter field advanced, saturating at its width (R6). -/
def U.inc (u : U) (f : Fld) : U := u.wr f (satInc f.width (u.rd f) 1)

/-- A counter field advanced by a number, saturating at its width (R6). -/
def U.incBy (u : U) (f : Fld) (n : Nat) : U := u.wr f (satInc f.width (u.rd f) n)

/-- A signed field. -/
def U.rdS (u : U) (f : Fld) : Int := sx f.width (u.rd f)

/-- A signed field written. -/
def U.wrS (u : U) (f : Fld) (v : Int) : U := u.wr f (enc f.width v)

/-- A message, answer or pin value sent. -/
def U.emit (u : U) (o : Output) : U := { u with out := u.out ++ [o] }

/-- Bytes written to SRAM by hardware (R453). -/
def U.memPut (u : U) (a : Nat) (bs : List Nat) : U :=
  { u with mem := u.mem.writeBytes a bs, memh := MemIO.written u.memh a bs.length }

/-- A little-endian number written to SRAM (R7, R453). -/
def U.memWrite (u : U) (a n v : Nat) : U := { u with mem := u.mem.write a n v, memh := MemIO.written u.memh a n }

/-- Whether the next check of an injection target sees inverted check bits, and the unit with ONCE used (R455). -/
def U.injected (u : U) (target unit : Nat) : Bool × U :=
  let hit := u.rd (R.SYS_INJ_TARGET 0x400000000) == target && (target < 7 || u.rd (R.SYS_INJ_UNIT 0x400000000) == unit) &&
    (u.on (R.SYS_INJ_ONCE 0x400000000) || u.on (R.SYS_INJ_CONT 0x400000000))
  (hit, if hit then u.wr (R.SYS_INJ_ONCE 0x400000000) 0 else u)

/-- Whether an Engine or Block episode holds a block (R516, R576); the signal box is in reset while its supply is too low (R466, R593). -/
def U.blockHeld (u : U) (i : Nat) : Bool :=
  (i == 84 && !u.sbx.supply) ||
  match u.sys.ep with
  | none => false
  | some e => e.blocks.contains i || (e.reach == 2 && ((decide (16 ≤ i) && decide (i < 44)) || i == 49))

/-- What a block does, unless an Engine or Block episode holds it (R516). -/
def U.awake (u : U) (i : Nat) (f : U → U) : U := if u.blockHeld i then u else f u

/-- The record base of a lane of the unit (R304). -/
def laneBase (n : Nat) : Nat := 0x400400000 + n * 0x1000
/-- Whether a lane is UP. -/
def U.laneUp (u : U) (n : Nat) : Bool := u.rd (R.LNS_STATE_STATE (laneBase n)) == 7

/-- How many Siding lanes are UP (R289, R487). -/
def U.sidingUp (u : U) : Nat := ([96, 97, 98, 99].filter u.laneUp).length
/-- The Siding lanes that are UP, which take the blocks in turn (R487). -/
def U.sidingLanes (u : U) : List Nat := [96, 97, 98, 99].filter u.laneUp

/-- The next free value, and the unit with it drawn (log entry 2). -/
def U.draw (u : U) : Nat × U := (Config.freeValue 0 u.free, { u with free := u.free + 1 })

/-- `f` applied to each number below `n`, in ascending order. -/
def U.each (u : U) (l : List Nat) (f : U → Nat → U) : U := l.foldl f u

/-- Full station time in 1/16 ns (R31). -/
def TimeBase.t16 (t : TimeBase) : Nat := (t.sec * 1000000000 + t.ns) * 16 + t.frac / 268435456 + t.elapsed

/-- Full station time in ns. -/
def TimeBase.tns (t : TimeBase) : Nat := t.t16 / 16

/-- TS64 of now (R31). -/
def TimeBase.ts64 (t : TimeBase) : Nat := t.t16 % 2 ^ 64

/-- Full station time in µs. -/
def TimeBase.us (t : TimeBase) : Nat := t.tns / 1000

/-- The current departure (R33). -/
def TimeBase.dn (t : TimeBase) : Nat := t.us % 2 ^ 32

/-- Whether station time has reached the next boundary (R39). -/
def TimeBase.due (t : TimeBase) : Bool := decide ((t.lastUs + 1) * 1000 ≤ t.tns)

/-- The boundary that opened the present interval, as a count in µs: the last one emitted, or the one that station time has reached and
whose work is not yet done (R33, R39). -/
def TimeBase.cur (t : TimeBase) : Nat := if t.due then t.us else t.lastUs

/-- The elapsed time of the reference clock at its nominal period, in 1/80 ns (R602). -/
def TimeBase.ref (t : TimeBase) : Nat := t.ref80 + 5 * t.since

/-- The era number (R31). -/
def TimeBase.era (t : TimeBase) : Nat := t.t16 / 2 ^ 64 % 65536

end Sys2Proof.Machine
end

