-- ==== Sys2Proof/Machine/Ledger.lean ====
section
/-! DEFINITION. The loaded topology and the ledger: which CIDs are valid, the configured cells of an arm, the fields of a
ledger record in SRAM (R16 to R20, R74, R75, R83, R110). -/
namespace Sys2Proof.Machine

/-- Arm, segment, loop and position of a CID (R16). -/
def cidArm (cid : Nat) : Nat := bits cid 11 4
/-- The segment of a CID. -/
def cidSeg (cid : Nat) : Nat := bits cid 9 2
/-- The loop of a CID. -/
def cidLoop (cid : Nat) : Nat := bits cid 3 6
/-- The position of a CID. -/
def cidPos (cid : Nat) : Nat := bits cid 0 3
/-- The hub of a CID (R20). -/
def cidHub (cid : Nat) : Nat := 4 * cidArm cid + cidSeg cid
/-- The CID of a position of a loop of a hub (R16, R20). -/
def mkCid (hub loop_ pos : Nat) : Nat := hub / 4 * 2048 + hub % 4 * 512 + loop_ * 8 + pos

/-- No arm or hub configured (R540). -/
def Topo.zero : Topo := ⟨[], [], [], 1, 0, 0, []⟩

/-- The number of cells of a loop of a hub. -/
def Topo.loopSize (p : Topo) (hub l : Nat) : Nat := (p.loops.get hub []).getD l 0

/-- Whether a CID is valid in the topology (R18). -/
def Topo.valid (p : Topo) (cid : Nat) : Bool :=
  decide (cid < 32768) && decide (cidSeg cid < p.nseg.get (cidArm cid) 0) &&
    decide (cidPos cid < p.loopSize (cidHub cid) (cidLoop cid))

/-- The configured cells of an arm, in ascending CID: ordinal order (R83). -/
def Topo.armCells (p : Topo) (a : Nat) : List CellCfg := p.cells.filter (fun c => cidArm c.cid == a)

/-- Whether an arm is configured. -/
def Topo.armOn (p : Topo) (a : Nat) : Bool := p.nseg.get a 0 != 0

/-- The configured hubs: those of the segments of configured arms (R20). -/
def Topo.hubs (p : Topo) : List Nat :=
  (List.range 48).filter (fun h => decide (h % 4 < p.nseg.get (h / 4) 0))

/-- The cells of an arm with their ordinals. -/
def U.armCells (u : U) (a : Nat) : List (Nat × CellCfg) :=
  ((u.topo.armCells a).zipIdx).map (fun e => (e.2, e.1))

/-- A configured cell with its ordinal. -/
def U.cellOf (u : U) (cid : Nat) : Option (Nat × CellCfg) :=
  (u.armCells (cidArm cid)).find? (fun e => e.2.cid == cid)

/-- The address of a ledger field (R74). -/
def U.lgr (u : U) (cid off : Nat) : Nat :=
  u.rd R.SYS_LGR_BASE_BASE * 2 ^ R.SYS_LGR_BASE_BASE.lo + cid * 0x400 + off

/-- A ledger field of `n` bytes. -/
def U.lg (u : U) (cid off n : Nat) : Nat := u.mem.read (u.lgr cid off) n

/-- A ledger field written. -/
def U.lgw (u : U) (cid off n v : Nat) : U := u.memWrite (u.lgr cid off) n v

/-- A signed 32-bit ledger field. -/
def U.lgS (u : U) (cid off : Nat) : Int := sx 32 (u.lg cid off 4)

/-- W of a cell, all 64 bits read as a signed number and held to 48 bits (R56). -/
def U.wOf (u : U) (cid : Nat) : Int := satS 48 (sx 64 (u.lg cid 0 8))

/-- The words of an arm's ledger records that Firn reads in an interval (R55, R66): the record's head and Qc at the boundary, and H and Qc
whole for the cells whose reports it takes. -/
def U.firnSpans (u : U) (a b : Nat) (reported : List Nat) : List (Nat × Nat) :=
  (u.topo.armCells a).flatMap (fun c => [(u.lgr c.cid 0, 0x20), (u.lgr c.cid (0xC0 + b % 32 * 4), 4)]) ++
    reported.flatMap (fun cid => [(u.lgr cid 0x40, 0x100)])

/-- The words of an arm's ledger records that a selection reads (R84, R87, R101). -/
def U.selectSpans (u : U) (a : Nat) : List (Nat × Nat) :=
  (u.topo.armCells a).flatMap (fun c => [(u.lgr c.cid 0x10, 0x10), (u.lgr c.cid 0x140, 0x30)])

/-- W of a cell written, sign-extended. -/
def U.setW (u : U) (cid : Nat) (w : Int) : U := u.lgw cid 0 8 (enc 64 (satS 48 w))

/-- K of a cell. -/
def U.kOf (u : U) (cid : Nat) : Nat := u.lg cid 8 4

/-- V̂ of a cell at a boundary in the history. -/
def U.hist (u : U) (cid k : Nat) : Int := u.lgS cid (0x40 + k % 32 * 4)

/-- V̂ of a cell at a boundary written. -/
def U.setHist (u : U) (cid k : Nat) (v : Int) : U := u.lgw cid (0x40 + k % 32 * 4) 4 (enc 32 (satS 32 v))

/-- Qc of a cell at a boundary. -/
def U.qc (u : U) (cid k : Nat) : Int := u.lgS cid (0xC0 + k % 32 * 4)

/-- The bits of FLAGS (R74). -/
inductive LFlag where
  | retired | suspect | refreshing | trim | aged | kclamp | unseeded
  deriving DecidableEq, Repr

/-- The place of a flag. -/
def LFlag.bit : LFlag → Nat
  | .retired => 1
  | .suspect => 2
  | .refreshing => 3
  | .trim => 4
  | .aged => 5
  | .kclamp => 6
  | .unseeded => 7

/-- A flag of a cell's ledger record. -/
def U.flag (u : U) (cid : Nat) (f : LFlag) : Bool := bitAt (u.lg cid 0x14 4) f.bit

/-- The FLAGS word written; the engine writes the configured FB with it, and the word that holds W in the same handshake (R56, R75). -/
def U.setFlags (u : U) (c : CellCfg) (v : Nat) : U :=
  (u.setW c.cid (u.wOf c.cid)).lgw c.cid 0x14 4 (v % 2 ^ 16 / 2 * 2 + b2n c.fb)

/-- A write of the record by the engine: W in its saturated form and the configured FB with it (R56, R75). -/
def U.recWrite (u : U) (c : CellCfg) : U := u.setFlags c (u.lg c.cid 0x14 4)

/-- W written by the engine with the two words of its record (R75). -/
def U.setRec (u : U) (c : CellCfg) (w : Int) : U := (u.setW c.cid w).recWrite c

/-- A flag of a cell set or cleared. -/
def U.setFlag (u : U) (c : CellCfg) (f : LFlag) (b : Bool) : U :=
  let v := u.lg c.cid 0x14 4
  u.setFlags c (if b then setBit v f.bit else clrBit v f.bit)

/-- SUS_RUN of a cell. -/
def U.susRun (u : U) (cid : Nat) : Nat := bits (u.lg cid 0x14 4) 8 8

/-- SUS_RUN of a cell written. -/
def U.setSusRun (u : U) (c : CellCfg) (n : Nat) : U := u.setFlags c (u.lg c.cid 0x14 4 % 256 + n * 256)

/-- MEMBER of a cell (R110). -/
def U.member (u : U) (cid : Nat) : Bool := bitAt (u.lg cid 0x144 4) 4
/-- GRANT of a cell. -/
def U.grant (u : U) (cid : Nat) : Bool := bitAt (u.lg cid 0x144 4) 5
/-- REQ of a cell. -/
def U.req (u : U) (cid : Nat) : Bool := bitAt (u.lg cid 0x144 4) 6
/-- LAST_CHG of a cell. -/
def U.lastChg (u : U) (cid : Nat) : Nat := u.lg cid 0x140 4
/-- REQ_DN of a cell. -/
def U.reqDn (u : U) (cid : Nat) : Nat := u.lg cid 0x14C 4

/-- The SEL word written: ORD, MEMBER, GRANT, REQ, and the configured ordinal (R75, R110). -/
def U.setSel (u : U) (ord cid code : Nat) (member grant req : Bool) : U :=
  u.lgw cid 0x144 4 (code % 16 + 16 * b2n member + 32 * b2n grant + 64 * b2n req + ord % 2048 * 65536)

/-- MEMBER of a cell written. -/
def U.setMember (u : U) (ord cid : Nat) (b : Bool) : U :=
  u.setSel ord cid (u.lg cid 0x144 4 % 16) b (u.grant cid) (u.req cid)

/-- REQ of a cell written. -/
def U.setReq (u : U) (ord cid : Nat) (b : Bool) : U :=
  u.setSel ord cid (u.lg cid 0x144 4 % 16) (u.member cid) (u.grant cid) b

/-- A 32-bit ledger counter advanced, saturating. -/
def U.lgInc (u : U) (cid off : Nat) : U := u.lgw cid off 4 (satInc 32 (u.lg cid off 4) 1)

/-- The first byte of the ledger span and the first after it (R601). -/
def U.ledgerSpan (u : U) : Nat × Nat :=
  match u.topo.cells with
  | [] => (0, 0)
  | c :: _ => (u.lgr c.cid 0, u.lgr (u.topo.cells.getLastD c).cid 0 + 0x400)

/-- The hidden state of an arm engine at reset. -/
def ArmHid.zero : ArmHid :=
  { en := false, queue := [], ring := [], fbSel := false, noCur := false, vp := [], ipDn := 0,
    cfg := ⟨false, false, false, 205, 20, 16, 4, 10, 120, 150, 2, 400, 0⟩, nref := 0, planDn := 0, open_ := false,
    trim := none, carry := 0, none_ := false, late := [], rotate := false, pre := [] }

/-- The hidden state of an arm engine. -/
def U.arm (u : U) (a : Nat) : ArmHid := u.arms.get a ArmHid.zero

/-- The hidden state of an arm engine replaced. -/
def U.setArm (u : U) (a : Nat) (f : ArmHid → ArmHid) : U := { u with arms := u.arms.set a (f (u.arm a)) }

/-- MEMBER changed by the selection for a DN: LAST_CHG and CHG_CNT with it (R87, R110). -/
def U.chgMember (u : U) (e : Nat × CellCfg) (dn : Nat) (b : Bool) : U :=
  if u.member e.2.cid = b then u
  else ((u.setMember e.1 e.2.cid b).lgw e.2.cid 0x140 4 dn).lgInc e.2.cid 0x158

/-- MEMBER of every cell of an arm cleared (R86). -/
def U.clearMembers (u : U) (a dn : Nat) : U := (u.armCells a).foldl (fun u e => u.chgMember e dn false) u

/-- One cell taken back to the start of the interval of `b` and advanced over it as BLOCK (R54, R55): `p` holds W and K at its start. -/
def U.advanceBlock (u : U) (b : Nat) (c : CellCfg) (p : Int × Nat) : U :=
  let w := satS 48 (p.1 - rshift (p.1 * u.lg c.cid 0x10 3) 40)
  let u := u.lgw c.cid (0xC0 + (b + 1) % 32 * 4) 4 (enc 32 (u.qc c.cid b))
  (u.setRec c w).setHist c.cid (b + 1) (rshift w 16)

/-- An avalanche that leaves in the interval of `b` (R54, R86): where an arm engine has advanced its cells over that interval, each of
them counts as BLOCK in it, its projection with it, and a selection engine that runs clears every MEMBER. -/
def U.armAvalanche (u : U) (b a : Nat) : U :=
  let h := u.arm a
  let u := match h.ring with
    | r :: l =>
      if r.dn == b && !r.av && h.en then
        let cells := u.topo.armCells a
        let u := u.setArm a (fun h => { h with ring := { r with av := true } :: l })
        let u := (cells.zip h.pre).foldl (fun u e => u.advanceBlock b e.1 e.2) u
        u.setArm a (fun h => { h with vp := cells.map (fun c => satS 32 (rshift (u.wOf c.cid) 16)) })
      else u
    | [] => u
  if h.cfg.en then u.clearMembers a h.planDn else u

/-- BLOCK for every cell, no grant and no trim pulse. -/
def OrderSet.block (held avl avClr : Bool) : OrderSet := ⟨[], [], [], none, held, avl, avClr⟩

/-- The key of an arm's set for a DN on the platform. -/
def setKey (a dn : Nat) : Nat := a * 2 ^ 32 + dn % 2 ^ 32

/-- The set of an arm for a DN on the platform (R117). -/
def U.orderSet (u : U) (a dn : Nat) : Option OrderSet := u.dep.sets.find? (setKey a dn)

/-- The code a set orders for a cell: 0 BLOCK, 1 INS_POS, 2 INS_NEG, 3 BYP_LOW, 4 BYP_HIGH, 5 TRIM, 15 RETIRE (R151). -/
def OrderSet.code (o : OrderSet) (cid : Nat) : Nat := o.states.get cid 0

/-- The code ordered for a cell of an arm at a DN: BLOCK where the platform holds no set. -/
def U.codeAt (u : U) (a dn cid : Nat) : Nat :=
  match u.orderSet a dn with
  | some o => o.code cid
  | none => 0

end Sys2Proof.Machine
end

