-- ==== Sys2Proof/Machine/Records.lean ====
section
/-! DEFINITION. The fault record of the central unit's blocks: raising a cause, its class and escalation, the first-trip and
last-fault records, glacier mode, the avalanche and the trip that a class-3 fault leads to, acknowledging
(R441 to R450, R474, R139, R140, R471, R504). -/
namespace Sys2Proof.Machine

/-- A block's fault record: where STATUS and ENABLE lie. FIRST, its stamp, COUNT and ACK follow ENABLE (R441). -/
structure Blk where
  st : Nat
  en : Nat
  deriving DecidableEq, Repr

/-- A cause of a block: its bit, its default class (`none` for Info, R50), its event source, whether it lasts by a
condition of its chapter rather than until ACK (R448), and the reset value of its ENABLE bit. -/
structure Cause where
  blk     : Blk
  bit     : Nat
  cls     : Option Nat
  src     : Nat
  lasting : Bool := false
  enRst   : Nat := 1
  deriving DecidableEq, Repr

/-- The STATUS bit of a cause. -/
def Blk.status (b : Blk) (bit : Nat) : Fld := ⟨b.st, bit, 1, .w1c, 0⟩
/-- The ENABLE bit of a cause. -/
def Cause.enable (c : Cause) : Fld := ⟨c.blk.en, c.bit, 1, .rw, c.enRst⟩
/-- CAUSE of FIRST. -/
def Blk.firstCause (b : Blk) : Fld := ⟨b.en + 4, 0, 4, .ro, 0⟩
/-- CLASS of FIRST. -/
def Blk.firstClass (b : Blk) : Fld := ⟨b.en + 4, 4, 4, .ro, 0⟩
/-- A detail field of FIRST. -/
def Blk.firstDetail (b : Blk) (lo w : Nat) : Fld := ⟨b.en + 4, lo, w, .ro, 0⟩
/-- VALID of FIRST. -/
def Blk.firstValid (b : Blk) : Fld := ⟨b.en + 4, 31, 1, .ro, 0⟩
/-- The low word of the first fault's TS64. -/
def Blk.firstTsl (b : Blk) : Fld := ⟨b.en + 8, 0, 32, .ro, 0⟩
/-- The high word of the first fault's TS64. -/
def Blk.firstTsh (b : Blk) : Fld := ⟨b.en + 12, 0, 32, .ro, 0⟩
/-- EVENTS of COUNT. -/
def Blk.events (b : Blk) : Fld := ⟨b.en + 16, 0, 16, .ro, 0⟩
/-- The address of ACK. -/
def Blk.ackAddr (b : Blk) : Nat := b.en + 20

/-- The block whose STATUS to ACK lie in a row from an address. -/
def Blk.at (a : Nat) : Blk := ⟨a, a + 4⟩

namespace B
def SYS : Blk := Blk.at 0x400000070
def MEM : Blk := Blk.at 0x400000810
def TIM : Blk := ⟨0x400010048, 0x400010060⟩
def SNP : Blk := Blk.at 0x400020030
def FRN (a : Nat) : Blk := Blk.at (0x400100014 + a * 0x10000)
def MSH (a : Nat) : Blk := Blk.at (0x40020001C + a * 0x10000)
def DEP : Blk := Blk.at 0x400300004
def LPE : Blk := Blk.at 0x400310004
def SNS : Blk := Blk.at 0x400320000
def PBX : Blk := Blk.at 0x400330004
def LNS (n : Nat) : Blk := Blk.at (0x400400040 + n * 0x1000)
def MLK : Blk := Blk.at 0x400500004
def SDL : Blk := Blk.at 0x400510020
def CAP : Blk := Blk.at 0x400520050
def SCH : Blk := Blk.at 0x400530120
def SBX : Blk := Blk.at 0x400540020
def SEC : Blk := Blk.at 0x400550040
end B

/-- No class recorded, nothing active (R445). -/
def Rec.zero : Rec := ⟨0, false, false⟩

/-- A block's record beside its registers. -/
def U.recOf (u : U) (b : Blk) : Rec := u.recs.get b.st Rec.zero

/-- The class of a fault of a base class (R445): one more when the base class is already recorded. -/
def escalate (r : Rec) (base : Nat) : Nat := if bitAt r.classes base then min 3 (base + 1) else base

/-- Whether a fault comes before the first-trip record (R450). -/
def tripBefore (ts cls src bit ts' cls' src' bit' : Nat) : Bool :=
  if ts % 2 ^ 64 ≠ ts' % 2 ^ 64 then tsDiff ts ts' < 0
  else if cls ≠ cls' then cls > cls'
  else if src ≠ src' then src < src'
  else bit < bit'

/-- Reset and boot beside their registers replaced. -/
def U.withSys (u : U) (f : Sys → Sys) : U := { u with sys := f u.sys }

/-- An entry of the cause history as BAK holds it: sources, reach, whether it is held, TS64 (R521, log entry 171). -/
def bakHist : Option (Nat × Nat × Nat) → List Nat
  | some e => toBytes 2 e.1 ++ [e.2.1, 1] ++ toBytes 8 e.2.2
  | none => List.replicate 12 0

/-- An entry of the last-fault record as BAK holds it: TS64, source, cause bit, class and whether it is held (R521, R522, log entry 171). -/
def bakFault : Option LfEntry → List Nat
  | some e => toBytes 8 e.ts ++ toBytes 2 e.src ++ [e.bit, e.cls + 128]
  | none => List.replicate 12 0

/-- BAK without its check word, 292 bytes: the reset counter, the cause history, newest first, the last-fault record, oldest first (R521,
log entry 171). -/
def U.bakOctets (u : U) : List Nat :=
  toBytes 4 u.sys.count ++ (List.range 8).flatMap (fun i => bakHist u.sys.hist[i]?) ++ (List.range 16).flatMap (fun i => bakFault u.lf[i]?)

/-- The CRC-32C over BAK brought up to date (R521). -/
def U.sealBak (u : U) : U := u.withSys (fun s => { s with bakCrc := crc32c u.bakOctets })

/-- A fault of class 2 or 3 offered to the signal box (R450) and written into the last-fault record (R522). -/
def U.offer (u : U) (ts cls src bit : Nat) : U :=
  let take := u.sbx.supply && (u.rd R.SBX_FT_VALID = 0 ||
    tripBefore ts cls src bit (u.rd R.SBX_FT_TSL_TS_LO + 2 ^ 32 * u.rd R.SBX_FT_TSH_TS_HI)
      (u.rd R.SBX_FT_CLASS) (u.rd R.SBX_FT_SOURCE) (u.rd R.SBX_FT_CAUSE))
  let u := if take then
      ((((((u.wr R.SBX_FT_CAUSE bit).wr R.SBX_FT_CLASS cls).wr R.SBX_FT_SOURCE src).wr R.SBX_FT_VALID 1).wr
        R.SBX_FT_TSL_TS_LO ts).wr R.SBX_FT_TSH_TS_HI (ts / 2 ^ 32))
    else u
  { u with lf := (u.lf ++ [LfEntry.mk ts src bit cls]).drop (u.lf.length + 1 - 16) }.sealBak

/-- The STATUS bit of a cause set, and its event when enabled (R442). -/
def U.markCause (u : U) (c : Cause) : U :=
  let u := u.wr (c.blk.status c.bit) 1
  if u.on c.enable then { u with evq := u.evq ++ [c.src] } else u

/-- The class of a fault recorded, the causes that stay active, EVENTS (R445, R448): a cause with a lasting condition is active for as long as
the condition lasts, at class 3 too (R470). -/
def U.markClass (u : U) (c : Cause) (cls : Nat) : U :=
  let r := u.recOf c.blk
  let r' := Rec.mk (setBit r.classes cls) (r.act2 || (cls == 2 && !c.lasting)) (r.open3 || cls == 3)
  let u := { u with recs := u.recs.set c.blk.st r' }
  let u := if cls ≥ 2 && c.lasting && !u.act.contains (c.blk.st, c.bit)
    then { u with act := u.act ++ [(c.blk.st, c.bit)] } else u
  u.inc c.blk.events

/-- FIRST and its stamp, unless they hold a fault (R443). -/
def U.markFirst (u : U) (ts : Nat) (c : Cause) (cls : Nat) (detail : List (Nat × Nat × Nat)) : U :=
  if u.on c.blk.firstValid then u else
  let u := ((((u.wr c.blk.firstCause (c.bit + 1)).wr c.blk.firstClass cls).wr c.blk.firstValid 1).wr
    c.blk.firstTsl ts).wr c.blk.firstTsh (ts / 2 ^ 32)
  detail.foldl (fun u d => u.wr (c.blk.firstDetail d.1 d.2.1) d.2.2) u

/-- A cause raised and recorded, without the action of its class (R442, R443, R445): the STATUS bit, and for a fault the
class, EVENTS, FIRST and the offer; the event when enabled. Answers the final class, 0 for Info. `base` is the fault's
base class after its chapter's own rules. -/
def U.record (u : U) (ts : Nat) (c : Cause) (base : Option Nat) (detail : List (Nat × Nat × Nat)) : Nat × U :=
  let u := u.markCause c
  match base with
  | none => (0, u)
  | some b =>
    let cls := escalate (u.recOf c.blk) b
    let u := (u.markClass c cls).markFirst ts c cls detail
    (cls, if cls ≥ 2 then u.offer ts cls c.src c.bit else u)

/-- Whether a block holds an unacknowledged class-3 fault (R451, R483). -/
def U.anyOpen3 (u : U) : Bool := u.recs.any (fun e => e.2.open3)

/-- Whether a class-2 cause of the unit is active (R448, R474). -/
def U.ownClass2 (u : U) : Bool := u.recs.any (fun e => e.2.act2) || !u.act.isEmpty

namespace SBX
def TRIP_LINE : Cause := ⟨B.SBX, 0, some 3, 216, false, 1⟩
def HB_LOST : Cause := ⟨B.SBX, 1, some 3, 217, false, 1⟩
def GL_EXPIRE : Cause := ⟨B.SBX, 2, some 3, 218, false, 1⟩
def RB_FAULT : Cause := ⟨B.SBX, 3, some 3, 219, false, 1⟩
def LINE_DEGRADE : Cause := ⟨B.SBX, 4, some 2, 220, true, 1⟩
def LINE_ALARM : Cause := ⟨B.SBX, 5, some 1, 221, false, 1⟩
def CFG_BAD : Cause := ⟨B.SBX, 6, some 1, 222, false, 1⟩
def OSC_DEV : Cause := ⟨B.SBX, 7, some 3, 223, false, 1⟩
def CLR_REJ : Cause := ⟨B.SBX, 8, some 0, 224, false, 1⟩
def GL_ENTER : Cause := ⟨B.SBX, 9, none, 225, false, 1⟩
def GL_EXIT : Cause := ⟨B.SBX, 10, none, 225, false, 1⟩
def PEER_GLACIER : Cause := ⟨B.SBX, 11, none, 225, false, 1⟩
end SBX

namespace DEP
def OVERRUN : Cause := ⟨B.DEP, 0, some 0, 252, false, 1⟩
def OVR_FAULT : Cause := ⟨B.DEP, 1, some 2, 252, false, 1⟩
def AVALANCHE : Cause := ⟨B.DEP, 2, some 3, 253, false, 1⟩
def FORCE_LATE : Cause := ⟨B.DEP, 3, some 0, 254, false, 1⟩
def CONV_REJ : Cause := ⟨B.DEP, 4, some 0, 254, false, 1⟩
def CLR_REJ : Cause := ⟨B.DEP, 5, some 0, 254, false, 1⟩
end DEP

/-- Whether the signal box configuration is LOCKED (R481). -/
def U.sbxLocked (u : U) : Bool := u.rd R.SBX_STATE_CFG = 2

/-- Glacier mode brought up to date (R474, R608): GL_OWN, GL_ACTIVE and the Info causes of their changes; the change from
which entry 250 moves (R475). Without its supply the signal box is in reset (R466). -/
def U.glacier (u : U) (t : TimeBase) : U :=
  if !u.sbx.supply then u else
  let own := u.ownClass2
  let peer := u.sbxLocked && u.on R.SBX_STATE_PEER_OK && u.on R.SBX_STATE_PEER_GL
  let was := u.on R.SBX_STATE_GL_ACTIVE
  let wasOwn := u.on R.SBX_STATE_GL_OWN
  let now := own || peer
  let u := (u.put R.SBX_STATE_GL_OWN own).put R.SBX_STATE_GL_ACTIVE now
  let u := if now = was then u else
    let u := { u with sbx := { u.sbx with rampAt := none, rampFrom := u.sbx.frac250 } }
    (u.record t.ts64 (if now then SBX.GL_ENTER else SBX.GL_EXIT) none []).2
  if now && !own && (!was || wasOwn) then (u.record t.ts64 SBX.PEER_GLACIER none []).2 else u

/-- The permit outputs brought up to date (R464, R465, R467), a test pulse ended on a channel that is not granted any more (R478), and
CONV_EN cleared when the run permit falls (R120). -/
def U.permits (u : U) : U :=
  let hb := u.rd R.SBX_STATE_HB = 1
  let trip := u.on R.SBX_STATE_TRIPPED
  let ks := List.range 8
  let role := fun k => u.rd (R.SBX_CH_ROLE k)
  let ls := fun k => u.sbxLocked && u.sbx.supply && u.sbx.osc && role k != 0 && (!trip || u.rd (R.SBX_CH_TRIP k) = 0) &&
    hb && !bitAt u.sbx.rbFault k
  let hs := u.rd R.SBX_HS_HS
  let mask := fun (p : Nat → Bool) => ks.foldl (fun m k => if p k then m + 2 ^ k else m) 0
  let lsm := mask ls
  let gr := fun k => ls k && bitAt hs k
  let granted := fun r => ks.any (fun k => role k == r) && ks.all (fun k => role k != r || gr k)
  let was := u.on R.SBX_STATE_RUN_OK
  let run := granted 1
  let u := ((((u.wr R.SBX_PERM_LS lsm).wr R.SBX_PERM_HS_OUT hs).wr R.SBX_PERM_GRANTED (mask gr)).put
    R.SBX_STATE_RUN_OK run).put R.SBX_STATE_PRE_OK (granted 2)
  let u := { u with sbx := { u.sbx with pulse := u.sbx.pulse.filter (fun p => gr p.1) } }
  if was && !run then u.wr R.DEP_CTL_CONV_EN 0 else u

/-- A word of the signal box configuration held (R480). -/
def U.sbxWord (u : U) (n : Nat) : Nat := u.sbx.cfg.getD n 0

/-- The action of a line (R470, R608): IGNORE until the configuration is LOCKED. -/
def U.lineAction (u : U) (n : Nat) : Nat :=
  if u.sbxLocked then bits (u.sbxWord (10 + n / 16)) (2 * (n % 16)) 2 else 0

/-- Whether a line is asserted as last sampled (R468). -/
def U.line (u : U) (n : Nat) : Bool := bitAt (u.rd (R.SBX_LINES_LINE (n / 32))) (n % 32)

/-- The lowest asserted line with action TRIP (R471). -/
def U.tripLine (u : U) : Option Nat :=
  (List.range 149).find? (fun n => u.line n && u.lineAction n == 3)

/-- A trip of the signal box (R471): TRIPPED, the avalanche output, the tripping low sides, `SBX_HS`. A box in reset trips on nothing
(R466). -/
def U.tripCore (u : U) : U :=
  if !u.sbx.supply then u else
  let u := ((u.wr R.SBX_STATE_TRIPPED 1).wr R.SBX_STATE_AV_OUT 1).wr R.SBX_HS_HS 0
  let u := if u.on R.SBX_TRIP_LINE_VALID then u else
    match u.tripLine with
    | some n => (u.wr R.SBX_TRIP_LINE_LINE n).wr R.SBX_TRIP_LINE_VALID 1
    | none => u
  ({ u with sbx := { u.sbx with pulse := none } }).permits

/-- A further source while an avalanche is latched (R607). -/
def U.avAdd (u : U) (bit : Nat) : U := u.wr R.DEP_AV_SRC_SRC (setBit (u.rd R.DEP_AV_SRC_SRC) bit)

/-- A fault of a class, or an avalanche, as the capture and snapshot units see it (R387, R398): a capture trigger that falls due on the
next row, and a snapshot of this handshake. -/
def U.faultSeen (u : U) (cls : Nat) : U :=
  if cls < u.rd R.CAP_CTL_FAULT_CLASS then u else
  let st := u.rd R.CAP_STATE_STATE
  let u := if u.on R.CAP_CTL_TRIG_FAULT && (st == 1 || st == 2 || st == 4)
    then { u with cap := { u.cap with due := setBit u.cap.due 1 } } else u
  if u.on R.SNP_CTL_ON_FAULT then { u with snp := { u.snp with fired := setBit u.snp.fired 2 } } else u

/-- The blocks begun of the MIRROR frame being sent: control blocks of Siding pre-empt it at the next block boundary, and it ends there
(R140, R488). -/
def U.cutSiding (u : U) : U :=
  match u.sdl.cur with
  | none => u
  | some f =>
    let u := { u with sdl := { u.sdl with cur := none, free := none } }
    if f.done = 0 then u else u.emit (.siding f.lanes ((sendBlocks f.bytes).take (1 + (f.done - 7) / 8)))

/-- Control blocks sent on Siding, where it is UP (R488, R526). -/
def U.sidingControl (u : U) (b : Block) : U :=
  if u.sidingUp = 0 || u.blockHeld 81 then u else u.cutSiding.emit (.siding u.sidingLanes (List.replicate 4 b))

/-- The avalanche control blocks on every enabled Mainline lane and, but for an avalanche from the peer, on every enabled Siding lane, whose
frame they pre-empt
(R140, R141, R327): a lane that is not enabled has its transmitter squelched (R289). -/
def U.avalancheSend (u : U) (siding : Bool) : U :=
  ((List.range (if siding then 100 else 96)).filter (fun n => u.on (R.LNS_CTL_EN (laneBase n)))).foldl
    (fun (u : U) n => u.emit (.mainline n avalancheBlocks)) (if siding then u.cutSiding else u)

/-- An avalanche reaching the departure unit (R140, R607): the control block on every lane, CONV_EN cleared, AV_LATCHED
every cell BLOCK from this interval on (R54, R86), the record of the source, AVALANCHE raised at class 3, which trips the signal box
(R471). A further source sets its bit and does nothing else (R607). From the peer it is not
sent back on Siding (R141). -/
def U.avalanche (u : U) (t : TimeBase) (bit detail : Nat) : U :=
  if u.on R.DEP_STATUS_AV_LATCHED && !u.on R.DEP_STATUS_CLR_SENDING then u.avAdd bit
  else
    let u := (u.avalancheSend (bit != 4)).wr R.DEP_CTL_CONV_EN 0
    let u := (u.wr R.DEP_STATUS_AV_LATCHED 1).wr R.DEP_STATUS_CLR_SENDING 0
    let u := { u with dep := { u.dep with clrLeft := 0, clrAt := none } }
    let u := ((List.range 12).filter u.topo.armOn).foldl (fun (u : U) a => u.armAvalanche t.dn a) u
    let u := ((u.wr R.DEP_AV_SRC_SRC (2 ^ bit)).wr R.DEP_AV_SRC_FIRST_SRC (bit + 1)).wr R.DEP_AV_SRC_DETAIL detail
    let u := (u.wr R.DEP_AV_TSL_TS_LO t.ts64).wr R.DEP_AV_TSH_TS_HI (t.ts64 / 2 ^ 32)
    let u := ((u.record t.ts64 DEP.AVALANCHE (some 3) []).2).faultSeen 3
    let out := u.on R.SBX_STATE_AV_OUT
    let u := u.tripCore
    if out then u else u.avAdd 0

/-- The action of a fault's final class on the BQ7100 (R447): glacier mode at class 2; an avalanche and a trip at
class 3 (R139, R471). -/
def U.classAct (u : U) (t : TimeBase) (cls src : Nat) : U :=
  if cls = 2 then u.glacier t
  else if cls = 3 then
    let u := u.avalanche t 5 src
    let out := u.on R.SBX_STATE_AV_OUT
    let u := u.tripCore
    if out then u else u.avAdd 0
  else u

/-- A cause raised at a base class, with the action of its final class; an Info cause has none (R442). -/
def U.raiseAt (u : U) (t : TimeBase) (c : Cause) (base : Option Nat) (detail : List (Nat × Nat × Nat)) : U :=
  let r := u.record t.ts64 c base detail
  if base.isNone then r.2 else (r.2.faultSeen r.1).classAct t r.1 c.src

/-- A cause raised at its default class (R442). -/
def U.raise (u : U) (t : TimeBase) (c : Cause) (detail : List (Nat × Nat × Nat)) : U := u.raiseAt t c c.cls detail

/-- A lasting class-2 cause whose condition has ended (R448). -/
def U.endLasting (u : U) (t : TimeBase) (c : Cause) : U :=
  if u.act.contains (c.blk.st, c.bit) then
    ({ u with act := u.act.filter (fun e => e != (c.blk.st, c.bit)) }).glacier t
  else u

namespace SDL
def ROLE_CHG : Cause := ⟨B.SDL, 0, none, 177, false, 1⟩
def PREFER_BAD : Cause := ⟨B.SDL, 1, some 0, 177, false, 1⟩
def MIR_LATE : Cause := ⟨B.SDL, 2, some 0, 178, false, 1⟩
def MIR_SKIP : Cause := ⟨B.SDL, 3, some 0, 178, false, 1⟩
def SYNC_LOST : Cause := ⟨B.SDL, 4, some 1, 179, false, 1⟩
def RELINQUISH : Cause := ⟨B.SDL, 5, some 1, 180, false, 1⟩
def RLQ_BLOCKED : Cause := ⟨B.SDL, 6, some 1, 180, false, 1⟩
def PEER_LOST : Cause := ⟨B.SDL, 7, some 1, 181, false, 1⟩
def TAKE_UNSYNC : Cause := ⟨B.SDL, 8, some 1, 181, false, 1⟩
def DUAL_ACT : Cause := ⟨B.SDL, 9, some 1, 182, false, 1⟩
def SWAP_FAIL : Cause := ⟨B.SDL, 10, some 0, 182, false, 1⟩
def SWAP_REJ : Cause := ⟨B.SDL, 11, some 0, 182, false, 1⟩
def IMG_DIFF : Cause := ⟨B.SDL, 12, some 1, 183, false, 1⟩
def WR_REJ : Cause := ⟨B.SDL, 13, some 0, 183, false, 1⟩
end SDL

/-- This unit relinquishes (R504): RELINQUISH on Siding, RLQ in every later CTRL, RELINQUISHED from its next boundary; a write of RELQ is
done with. -/
def U.relinquish (u : U) (t : TimeBase) : U :=
  let u := (u.sidingControl relinquishBlock).raise t SDL.RELINQUISH []
  { u with sdl := { u.sdl with rlq := true, rlqHeld := false, next := some 4, rlqBy := u.sdl.rlqBy.filter (· != 0) } }

/-- A relinquish cause of a block raised (R504): an ACTIVE unit whose peer is STANDBY relinquishes; with the peer in
another role it raises RLQ_BLOCKED and holds the relinquish back. `blk` is the block's STATUS address, 0 for RELQ. -/
def U.relinquishCause (u : U) (t : TimeBase) (blk : Nat) : U :=
  let active := u.rd R.SDL_ROLE_ROLE = 3 && !u.sdl.rlq
  let u := if blk = 0 && !active then u
    else { u with sdl := { u.sdl with rlqBy := u.sdl.rlqBy.filter (· != blk) ++ [blk] } }
  if !active then u
  else if u.on R.SDL_ROLE_PEER_VALID && u.rd R.SDL_ROLE_PEER_ROLE = 2 then u.relinquish t
  else
    let u := u.raise t SDL.RLQ_BLOCKED []
    { u with sdl := { u.sdl with rlqHeld := true } }

/-- A fault that is a relinquish cause when bit `m` of RLQ_MASK is 1 (R504). -/
def U.raiseRlq (u : U) (t : TimeBase) (c : Cause) (m : Nat) (detail : List (Nat × Nat × Nat)) : U :=
  let u := u.raise t c detail
  if bitAt (u.rd R.SDL_CTL_RLQ_MASK) m then u.relinquishCause t c.blk.st else u

/-- The memory of the unit run through a function, its causes raised (R457); UNCORR is a relinquish cause by RLQ_MASK (R504). -/
def U.onMem (u : U) (t : TimeBase) (f : MemIO → MemIO) : U :=
  let io := f ⟨u.regs, u.memh, [], 0⟩
  let cause := fun (bit : Nat) => Cause.mk B.MEM bit (some ([2, 0, 1, 0].getD bit 0)) 232 false 1
  io.raised.foldl (fun (u : U) e =>
    if e.1 = 0 then u.raiseRlq t (cause 0) 10 [(8, 8, e.2)] else u.raise t (cause e.1) [(8, 8, e.2)])
    { u with regs := io.regs, memh := io.hid, mem := MemIO.lost u.mem u.memh io.hid }

/-- An uncorrectable error beside the SRAM (R454). -/
def U.uncorrected (u : U) (t : TimeBase) : U := u.onMem t (fun io => io.tableError 0x400000000 2)

/-- The words of spans of SRAM whose check finds an error: those poisoned, and the one that an injection names (R453, R455). -/
def U.badWords (u : U) (spans : List (Nat × Nat)) : List Nat :=
  let inj := if u.rd (R.SYS_INJ_TARGET 0x400000000) = 0 &&
      (u.on (R.SYS_INJ_ONCE 0x400000000) || u.on (R.SYS_INJ_CONT 0x400000000)) then [u.rd (R.SYS_INJ_ADDR_ADDR 0x400000000) * 16] else []
  (u.memh.poison ++ inj).eraseDups.filter (fun w => spans.any (fun e => decide (w < e.1 + e.2) && decide (e.1 < w + 16)))

/-- Work of a hardware block that reads spans of SRAM (R452 to R454): each word in error is checked first, and a word that is
uncorrectable reads as 0. One that keeps its data, since the error was injected and no spare row is left, has it again afterwards, unless
the work has written it. -/
def U.reading (u : U) (t : TimeBase) (spans : List (Nat × Nat)) (f : U → U) : U :=
  if u.badWords spans = [] then f u else
  let zero := List.replicate 16 0
  let r := (u.badWords spans).foldl (fun (r : List (Nat × List Nat) × U) w =>
    let bad := (MemIO.read ⟨r.2.regs, r.2.memh, [], 0⟩ 0x400000000 w 0 false).1
    let held := r.2.mem.readBytes w 16
    let u := r.2.onMem t (fun io => (io.read 0x400000000 w 0 false).2)
    if bad && !u.memh.poison.contains w then (r.1 ++ [(w, held)], { u with mem := u.mem.writeBytes w zero }) else (r.1, u)) ([], u)
  r.1.foldl (fun (u : U) e => if u.mem.readBytes e.1 16 = zero then { u with mem := u.mem.writeBytes e.1 e.2 } else u) (f r.2)

/-- SDL beside its registers replaced. -/
def U.withSdl (u : U) (f : Sdl → Sdl) : U := { u with sdl := f u.sdl }

/-- A write of 1 to ACK (R444): FIRST and EVENTS cleared, escalation ended, the causes that last until acknowledged
ended. -/
def U.ack (u : U) (t : TimeBase) (b : Blk) : U :=
  let u := { u with regs := Regs.resetRange u.regs (b.en + 4) (b.en + 16), recs := Tbl.erase u.recs b.st }
  let u := { u with sdl := { u.sdl with rlqBy := u.sdl.rlqBy.filter (· != b.st) } }
  (u.wr b.events 0).glacier t

end Sys2Proof.Machine
end

