-- ==== Sys2Proof/Machine/Firn.lean ====
section
/-! DEFINITION. Charge tracking (Firn): the arm current, the interval update, corrections from reports, seeding,
adaptation, suspect cells, commands (R53 to R78, R496, R604). -/
namespace Sys2Proof.Machine

namespace FRN
def SUSPECT (a : Nat) : Cause := ⟨B.FRN a, 0, some 0, 4 * a, false, 1⟩
def AGEING (a : Nat) : Cause := ⟨B.FRN a, 1, some 0, 4 * a + 1, false, 1⟩
def KCLAMP (a : Nat) : Cause := ⟨B.FRN a, 2, some 0, 4 * a + 1, false, 1⟩
def QOVF (a : Nat) : Cause := ⟨B.FRN a, 3, some 0, 4 * a + 1, false, 1⟩
def FALLBACK (a : Nat) : Cause := ⟨B.FRN a, 4, some 2, 4 * a + 2, true, 1⟩
def NOCUR (a : Nat) : Cause := ⟨B.FRN a, 5, some 3, 4 * a + 2, false, 1⟩
/-- CELL of FRN_FIRST. -/
def det (cid : Nat) : List (Nat × Nat × Nat) := [(16, 11, cid % 2048)]
end FRN

/-- A direct sensor port that has received nothing. -/
def Port.zero : Port := ⟨0, 0, none, none, 0x40000000, 0, 0, 0, []⟩

/-- The hidden state of a sensor port. -/
def U.port (u : U) (p : Nat) : Port := u.ports.get p Port.zero

/-- The straight line through the two latest valid samples before an instant, newest first (R58). `far` says whether a
distance in 1/16 ns exceeds four nominal sample periods. Two samples of one stamp give the later one, which R58 leaves open (log
entry 122). -/
def lineAt (l : List (Nat × Int)) (b : Nat) (far : Int → Bool) : Option Int :=
  match l.filter (fun s => decide (tsDiff s.1 b < 0)) with
  | [] => none
  | [(_, i)] => some i
  | (t2, i2) :: (t1, i1) :: _ =>
    let dt := tsDiff t2 t1
    if far (tsDiff b t2) || dt = 0 then some i2
    else some (satS 32 (rdivI (i2 * dt + (i2 - i1) * tsDiff b t2) dt))

/-- The rates of sampled-value subscriptions in Hz. -/
def svRate (n : Nat) : Nat :=
  match n with
  | 0 => 4000
  | 1 => 4800
  | 2 => 12800
  | 3 => 14400
  | _ => 96000

/-- The current of an arm from its bound port (R58). -/
def U.portCurrent (u : U) (a b : Nat) : Option Int :=
  let p := u.rd (R.FRN_SRC_PORT a)
  lineAt (u.port p).line b (fun d => d > 4 * 16 * u.rd (R.SNS_PERIOD_NOM_PERIOD p))

/-- The current of an arm from its sampled-value channel (R59, R62): `none` where it cannot deliver. -/
def U.svCurrent (u : U) (a b : Nat) : Option Int :=
  let k := u.rd (R.FRN_SRC_SV_STREAM a)
  let ch := u.rd (R.FRN_SRC_SV_CHAN a)
  if u.on (R.FRN_SRC_SV_EN a) && u.rd (R.SV_STAT_STATE k) = 2 && !bitAt (u.rd (R.SV_STAT_QBAD k)) ch then
    lineAt ((u.pbx.line.get (16 * k + ch) []).map (fun s => (s.1, satS 32 (rdiv (s.2 * 256) 1000)))) b
      (fun d => d * svRate (u.rd (R.SV_CFG_RATE k)) > 4 * 16000000000)
  else none

/-- The source registers of an arm: CUR_SV, CUR_NONE and CUR_SRC. -/
def U.curSrc (u : U) (a : Nat) (sv none_ : Bool) : U :=
  ((u.put (R.FRN_STATUS_CUR_SV a) sv).put (R.FRN_STATUS_CUR_NONE a) none_).wr (R.FRN_SRC_CUR_SRC a)
    (if none_ then 2 else b2n sv)

/-- A boundary at which an arm finds no source (R62). -/
def U.noSource (u : U) (t : TimeBase) (a : Nat) : Int × U :=
  let u := u.curSrc a false true
  if (u.arm a).noCur then (0, u)
  else (0, (u.setArm a (fun h => { h with noCur := true })).raise t (FRN.NOCUR a) [])

/-- The arm current at a boundary and the choice of its source (R58 to R62). -/
def U.armCurrent (u : U) (t : TimeBase) (a b : Nat) : Int × U :=
  let p := u.rd (R.FRN_SRC_PORT a)
  let st := u.rd (R.SNS_PSTAT_STATE p)
  let was := (u.arm a).fbSel
  let need := st = 3 || st = 4 || u.on (R.FRN_CTL_FORCE_SV a)
  let fb := need || (was && (decide ((u.port p).valid < 1000) || st != 2))
  let u := u.setArm a (fun h => { h with fbSel := fb })
  let u := if fb && !was then u.raise t (FRN.FALLBACK a) []
    else if was && !fb then u.endLasting t (FRN.FALLBACK a) else u
  let found := fun (u : U) (sv : Bool) => (u.curSrc a sv false).setArm a (fun h => { h with noCur := false })
  if fb then
    match u.svCurrent a b with
    | some i => (i, found u true)
    | none => u.noSource t a
  else if st = 1 then (0, u.curSrc a false true)
  else match u.portCurrent a b with
    | some i => (i, found u false)
    | none => u.noSource t a

/-- The charge term of an interval (R54): code, trim polarity and duty, current and gain. -/
def chargeTerm (code : Nat) (trim : Option Trim) (i : Int) (k : Nat) : Int :=
  let q := rshift (i * k) 16
  match code with
  | 1 => q
  | 2 => -q
  | 5 => match trim with
    | some d => if d.neg then -(rshift (q * d.duty) 16) else rshift (q * d.duty) 16
    | none => 0
  | _ => 0

/-- s × qi of R55: the signed charge of an interval in LSB 2^-8 A·µs. -/
def chargeQ (code : Nat) (trim : Option Trim) (i : Int) : Int :=
  match code with
  | 1 => i
  | 2 => -i
  | 5 => match trim with
    | some d => if d.neg then -(rshift (i * d.duty) 16) else rshift (i * d.duty) 16
    | none => 0
  | _ => 0

/-- One cell advanced over the interval that a boundary opens (R55, R56). -/
def U.advance (u : U) (o : OrderSet) (ib : Int) (b : Nat) (c : CellCfg) (k : Nat) : U :=
  let w := u.wOf c.cid
  let bleed := rshift (w * u.lg c.cid 0x10 3) 40
  let w' := satS 48 (w + chargeTerm (o.code c.cid) o.trim ib k - bleed)
  let u := u.lgw c.cid (0xC0 + (b + 1) % 32 * 4) 4 (enc 32 (u.qc c.cid b + chargeQ (o.code c.cid) o.trim ib))
  (u.setRec c w').setHist c.cid (b + 1) (rshift w' 16)

/-- The clamp of K (R70). -/
def clampK (k0 : Nat) (k : Int) : Int := clamp (((k0 + 1) / 2 : Nat) : Int) (min (2 * k0) (2 ^ 32 - 1) : Nat) k

/-- K of a cell set under its clamp, which the configured K0 gives (R70, R77; log entry 122). -/
def U.setK (u : U) (c : CellCfg) (k : Int) : U :=
  u.lgw c.cid 8 4 (clampK c.k0 k).toNat

/-- KCLAMP where the clamp changes K (R70, R76; log entry 122). -/
def U.clampCheck (u : U) (t : TimeBase) (a : Nat) (c : CellCfg) (k : Int) : U :=
  if clampK c.k0 k = k then u else (u.setFlag c .kclamp true).raise t (FRN.KCLAMP a) (FRN.det c.cid)

/-- The ageing check (R71). -/
def U.ageCheck (u : U) (t : TimeBase) (a : Nat) (c : CellCfg) : U :=
  let x := u.rd (R.FRN_AGE_AGE_LIM a)
  let k := u.kOf c.cid
  if x != 0 && (decide (k * (1000 - x) > c.k0 * 1000) || decide (k * (1000 + x) < c.k0 * 1000)) &&
      !u.flag c.cid .aged
  then (u.setFlag c .aged true).raise t (FRN.AGEING a) (FRN.det c.cid) else u

/-- The suspect check (R72, R73). -/
def U.suspectCheck (u : U) (t : TimeBase) (a : Nat) (c : CellCfg) (e : Int) : U :=
  if e.natAbs ≤ u.rd (R.FRN_SUS_SUS_LIM a) * 256 then u.setSusRun c 0
  else
    let u := u.setSusRun c (min 255 (u.susRun c.cid + 1))
    if u.susRun c.cid ≥ u.rd (R.FRN_SUS_SUS_N a) && !u.flag c.cid .suspect
    then (u.setFlag c .suspect true).raise t (FRN.SUSPECT a) (FRN.det c.cid) else u

/-- The adaptation of K (R69, R70); its causes in ascending order of cause bit (R446). -/
def U.adapt (u : U) (t : TimeBase) (a b : Nat) (c : CellCfg) (d : Nat) (e : Int) : U :=
  let last := u.lg c.cid 0x18 4
  let floor_ := u.rd (R.FRN_FLOOR_I_FLOOR a) * 256
  let at_ := (u.arm a).ring.find? (fun r => r.dn == d)
  let ok := match at_ with
    | some r => decide (r.i.natAbs ≥ floor_) && !r.av && u.codeAt a d c.cid != 0
    | none => false
  if u.on (R.FRN_CTL_ADAPT_EN a) && ok && decide (e.natAbs ≤ u.rd (R.FRN_SUS_SUS_LIM a) * 256) &&
      decide (0 ≤ dnDiff b last) && decide (dnDiff b last ≤ 31) && decide (dnDiff d last > 0) then
    let q := sx 32 (enc 32 (u.qc c.cid d - u.qc c.cid last))
    let dk := rdivI (e * q * 2 ^ (32 - u.rd (R.FRN_CTL_ADAPT_SH a))) (q * q + (floor_ : Int) * floor_)
    let k := u.kOf c.cid + dk
    ((u.setK c k).ageCheck t a c).clampCheck t a c k
  else u

/-- Seeding (R67). -/
def U.seed (u : U) (b : Nat) (c : CellCfg) (d age : Nat) (vm : Int) : U :=
  let k : Int := u.kOf c.cid
  let dq := fun (u : U) (j : Nat) => sx 32 (enc 32 (u.qc c.cid j - u.qc c.cid d))
  let u := u.each (List.range 32) (fun u n =>
    let j := dnAdd b (-(n : Int))
    u.setHist c.cid j (if n ≤ age then vm + rshift (k * dq u j) 32 else vm))
  (u.setW c.cid (vm * 2 ^ 16 + rshift (k * dq u b) 16)).setFlag c .unseeded false

/-- REQ set by a report (R102): a new request, which has not been late (R105). -/
def U.reportReq (u : U) (e : Nat × CellCfg) (d flags : Nat) : U :=
  if bitAt flags 0 && !u.req e.2.cid then
    ((u.lgw e.2.cid 0x14C 4 d).setReq e.1 e.2.cid true).setArm (cidArm e.2.cid)
      (fun h => { h with late := h.late.filter (· != e.2.cid) })
  else u

/-- One report taken (R66, R102, R111). A report that shows that the cell's watchdog acted makes it unseeded before it is used (R137;
log entry 123). -/
def U.takeReport (u : U) (t : TimeBase) (a b : Nat) (cid : Nat) (r : List Nat) : U :=
  match u.cellOf cid with
  | none => u
  | some e =>
    let c := e.2
    let d := ofBytes (r.take 4)
    let flags := ofBytes ((r.drop 12).take 2)
    let age := dnDiff b d
    if age < 0 then u.inc (R.FRN_DISCARD_FUTURE a)
    else if age > 31 then u.inc (R.FRN_DISCARD_STALE a)
    else if d = u.lg cid 0x18 4 then u
    else
      let u := u.memPut (u.lgr cid 0x20) (r.take 16)
      let u := u.reportReq e d flags
      let u := if bits flags 4 2 = 3 then u.setFlag c .retired true else u
      let u := if bitAt flags 2 then u.setFlag c .unseeded true else u
      if bits flags 6 4 ≠ 0 || bits flags 4 2 ≥ 2 then u.inc (R.FRN_SKIP_SKIP a)
      else
        let vm : Int := ofBytes ((r.drop 4).take 3) * 16
        if u.flag cid .unseeded then (u.seed b c d age.toNat vm).lgw cid 0x18 4 d
        else
          let err := satS 32 (vm - u.hist cid d)
          let blocked := u.codeAt a d cid = 0 || (u.arm a).ring.any (fun s => s.dn == d && s.av)
          let g := if blocked then 0 else u.rd (R.FRN_CTL_GAIN_SH a)
          let u := u.setRec c (u.wOf cid + err * 2 ^ (16 - g))
          let u := u.each (List.range (age.toNat + 1)) (fun u n =>
            let j := dnAdd d n
            u.setHist cid j (u.hist cid j + rshift err g))
          let u := (u.suspectCheck t a c err).adapt t a b c d err
          let u := if dnDiff d (u.lg cid 0x18 4) > 0 then u.lgw cid 0x18 4 d else u
          u.lgInc cid 0x1C

/-- Whether the report queue of an arm is full (R64). -/
def U.queueFull (u : U) (a : Nat) : Bool := decide ((u.arm a).queue.length ≥ 2048)

/-- A report queued to its arm engine (R64). -/
def U.queueReport (u : U) (t : TimeBase) (cid : Nat) (r : List Nat) : U :=
  let a := cidArm cid
  if u.queueFull a then (u.inc (R.FRN_SKIP_QOVF_CNT a)).raise t (FRN.QOVF a) []
  else u.setArm a (fun h => { h with queue := h.queue ++ [(cid, r)] })

/-- The projection of a cell to the departure being planned (R63). -/
def U.project (u : U) (a b lead : Nat) (ib iprev : Int) (c : CellCfg) (k : Nat) (av : Bool) : Int :=
  let pred : Int := u.rd (R.FRN_CTL_PRED a)
  let sum := (List.range lead).foldl (fun (acc : Int) (n : Nat) =>
    let j : Nat := n + 1
    let ip := satS 32 (ib + pred * j * (ib - iprev))
    match u.orderSet a (dnAdd b j) with
    | some o => if av then acc else acc + chargeTerm (o.code c.cid) o.trim ip k
    | none => acc) 0
  satS 32 (rshift (u.wOf c.cid + sum) 16)

/-- SUSPECTS of an arm (R77). -/
def U.countSuspects (u : U) (a : Nat) : U :=
  u.wr (R.FRN_COUNT_SUSPECTS a) ((u.topo.armCells a).filter (fun c => u.flag c.cid .suspect)).length

/-- A pending FRN_CMD applied at a boundary (R604). -/
def U.frnCmdApply (u : U) (a : Nat) : U :=
  if !u.on (R.FRN_CMD_GO a) then u else
  let u := match u.cellOf (a * 2048 + u.rd (R.FRN_CMD_CELL a)) with
    | none => u
    | some e =>
      let c := e.2
      let data := u.rd (R.FRN_CMD_DATA_DATA a)
      match u.rd (R.FRN_CMD_OP a) with
      | 1 => (u.setFlag c .suspect false).setSusRun c 0
      | 2 => u.setFlag c .unseeded true
      | 3 => (u.setK c data).recWrite c
      | 4 => (u.lgw c.cid 0x10 4 (data % 2 ^ 24)).recWrite c
      | 5 => (u.setFlag c .aged false).setFlag c .kclamp false
      | _ => u
  ((u.wr (R.FRN_CMD_GO a) 0).wr (R.FRN_CMD_STAT_DONE a) 1).countSuspects a

/-- A write of FRN_CMD with GO (R77, R604, R606): pending until the next boundary, or refused; with OP 0 it issues nothing. -/
def U.frnCmdWrite (u : U) (a cell op : Nat) : U :=
  if op = 0 then (if u.on (R.FRN_CMD_GO a) then u else (u.wr (R.FRN_CMD_CELL a) cell).wr (R.FRN_CMD_OP a) 0)
  else if u.on (R.FRN_CMD_GO a) || op > 5 || !u.topo.valid (a * 2048 + cell % 2048) then
    u.wr (R.FRN_CMD_STAT_REJ a) 1
  else ((u.wr (R.FRN_CMD_CELL a) cell).wr (R.FRN_CMD_OP a) op).wr (R.FRN_CMD_GO a) 1

/-- The entries of an FRN section applied at step 0 of the interval opened by `b` (R496); `bk` is the boundary of the
section's cycle, `lat` the W that this unit latched there. -/
def U.frnMirrorApply (u : U) (a slice b bk : Nat) (es : List FrnMirror) (lat : Tbl FrnMirror) : U :=
  (((u.armCells a).filter (fun e => e.1 % 32 == slice)).zip es).foldl (fun u p =>
    let c := p.1.2
    let m := p.2
    match lat.find? c.cid with
    | none => u
    | some ws =>
      if u.flag c.cid .unseeded || m.unseeded then u else
      let dw := m.w - ws.w
      let u := u.setRec c (u.wOf c.cid + dw)
      let u := u.each (List.range ((dnDiff b bk).toNat + 1)) (fun u n =>
        let j := dnAdd bk n
        u.setHist c.cid j (u.hist c.cid j + rshift dw 16))
      let u := u.lgw c.cid 8 4 m.k
      (((u.setFlag c .suspect m.suspect).setFlag c .aged m.aged).setFlag c .kclamp m.kclamp).setSusRun c m.susRun) u

/-- The change of EN to 1 (R68). -/
def U.seedAnew (u : U) (a : Nat) : U :=
  (u.topo.armCells a).foldl (fun u c => u.setFlag c .unseeded true) u

/-- The work of an enabled arm engine in the interval opened by the boundary of `dn` (R55, R65); `ts` is the TS64 of
the boundary, `work` the time taken in ns (R57). -/
def U.firnRun (u : U) (t : TimeBase) (a dn ts work : Nat) : U :=
  let iprev := sx 32 (u.rd (R.FRN_CUR_I a))
  let r := u.armCurrent t a ts
  let ib := r.1
  let u := r.2
  let av := u.on R.DEP_STATUS_AV_LATCHED
  let u := (u.wr (R.FRN_CUR_I a) (enc 32 ib)).wr (R.FRN_CUR_DN_DN a) dn
  let u := u.setArm a (fun h => { h with ring := (ArmAt.mk dn ib av :: h.ring).take 32 })
  let u := u.frnCmdApply a
  let cells := u.topo.armCells a
  let ks := cells.map (fun c => u.kOf c.cid)
  let q := (u.arm a).queue
  let u := u.setArm a (fun h => { h with queue := h.queue.drop 1024 })
  let u := (q.take 1024).foldl (fun u r => u.takeReport t a dn r.1 r.2) u
  let o := if av then OrderSet.block false true false else (u.orderSet a dn).getD (OrderSet.block false false false)
  let u := u.setArm a (fun h => { h with pre := (cells.map (fun c => u.wOf c.cid)).zip ks })
  let u := (cells.zip ks).foldl (fun u e => u.advance o ib dn e.1 e.2) u
  let lead := u.rd R.DEP_CTL_LEAD
  let vp := (cells.zip ks).map (fun e => u.project a dn lead ib iprev e.1 e.2 av)
  let ip := satS 32 (ib + (u.rd (R.FRN_CTL_PRED a) : Int) * (lead + 1) * (ib - iprev))
  let u := u.setArm a (fun h => { h with vp := vp, ipDn := ip })
  let u := (u.wr (R.FRN_TIME_LAST a) work).wr (R.FRN_TIME_MAX a) (max (u.rd (R.FRN_TIME_MAX a)) work)
  u.countSuspects a

/-- Firn of one arm at a boundary (R55, R68, R78, R604). The work time is at most 260 ns (R57) and else free. -/
def U.firn (u : U) (t : TimeBase) (a dn ts : Nat) : U :=
  let en := u.on (R.FRN_CTL_EN a)
  let u := if en && !(u.arm a).en then u.seedAnew a else u
  let u := u.setArm a (fun h => { h with en := en })
  if en && u.topo.armOn a then
    let r := u.draw
    let spans := r.2.firnSpans a dn (((r.2.arm a).queue.take 1024).map (fun q => q.1))
    r.2.reading t spans (fun u => u.firnRun t a dn ts (r.1 % 261))
  else u.frnCmdApply a

/-- A write of EN of FRN_CTL (R78). -/
def U.frnEnWrite (u : U) (a : Nat) (en : Bool) : U :=
  if !en && u.on R.DEP_CTL_CONV_EN then u else u.put (R.FRN_CTL_EN a) en

/-- Whether bytes of SRAM belong to a configured ledger record whose arm has EN at 1 in its register (R75, R601; log entry 122). -/
def U.ledgerHolds (u : U) (addr size : Nat) : Bool :=
  u.topo.cells.any (fun c => decide (addr < u.lgr c.cid 0x400) && decide (u.lgr c.cid 0 < addr + size) &&
    u.on (R.FRN_CTL_EN (cidArm c.cid)))

end Sys2Proof.Machine
end

