-- ==== Sys2Proof/Machine/Marshalling.lean ====
section
/-! DEFINITION. Cell selection (Marshalling Yard): eligibility, ranking, the integer selection, the trim cell, refresh
grants, orders, commands and the mirrored selection state (R79 to R115, R497). -/
namespace Sys2Proof.Machine

namespace MSH
def LEVEL_SAT (a : Nat) : Cause := ⟨B.MSH a, 0, some 1, 4 * a + 3, false, 1⟩
def DWELL_BRK (a : Nat) : Cause := ⟨B.MSH a, 1, some 0, 4 * a + 3, false, 1⟩
def REFRESH_LATE (a : Nat) : Cause := ⟨B.MSH a, 2, some 0, 4 * a + 3, false, 1⟩
def TRIM_NONE (a : Nat) : Cause := ⟨B.MSH a, 3, some 1, 4 * a + 3, false, 1⟩
def AVAIL_LOW (a : Nat) : Cause := ⟨B.MSH a, 4, some 2, 4 * a + 3, true, 1⟩
end MSH

/-- The settings of a selection engine as its registers hold them (R113). -/
def U.mshCfg (u : U) (a : Nat) : MshCfg :=
  { en := u.on (R.MSH_CTL_EN a), fbByp := u.on (R.MSH_CTL_FB_BYP a), trimPool := u.on (R.MSH_CTL_TRIM_POOL a),
    band := u.rd (R.MSH_BAND_BAND a), iDir := u.rd (R.MSH_BAND_I_DIR a), swapMax := u.rd (R.MSH_SWAP_SWAP_MAX a),
    dwell := u.rd (R.MSH_SWAP_DWELL_MIN a), trimRot := u.rd (R.MSH_TRIM_TRIM_ROT a), tmin := u.rd (R.MSH_TRIM_TMIN a),
    dead := u.rd (R.MSH_DEAD_DEAD a), refreshMax := u.rd (R.MSH_REFRESH_REFRESH_MAX a),
    refLate := u.rd (R.MSH_REFRESH_REF_LATE a), minAvail := u.rd (R.MSH_AVAIL_MIN_AVAIL a) }

/-- The state in force of a force-table entry at a DN (R605). -/
def ForceEntry.stateAt (e : ForceEntry) (dn : Nat) : Option Nat :=
  match e.chg with
  | some c => if dnDiff dn c.eff ≥ 0 then c.code else e.cur
  | none => e.cur

/-- The forced state of a cell at a DN. -/
def U.forced (u : U) (dn cid : Nat) : Option Nat :=
  match u.dep.force.find? (fun e => e.cid == cid) with
  | some e => e.stateAt dn
  | none => none

/-- Available (R84). -/
def U.available (u : U) (dn cid : Nat) : Bool :=
  !u.flag cid .retired && !u.flag cid .suspect && !u.flag cid .unseeded && (u.forced dn cid).isNone

/-- Dwell-locked (R87). -/
def U.dwellLocked (u : U) (dwell dn cid : Nat) : Bool :=
  dwell != 0 && decide (dnDiff dn (u.lastChg cid) < (dwell : Int))

/-- Meets R96. -/
def U.meetsTrim (u : U) (g : MshCfg) (neg : Bool) (dn : Nat) (c : CellCfg) : Bool :=
  u.available dn c.cid && (!(g.trimPool || neg) || c.fb)

/-- A pending MSH_CMD applied (R111, R115). -/
def U.mshCmdApply (u : U) (a : Nat) : U :=
  if !u.on (R.MSH_CMD_GO a) then u else
  let op := u.rd (R.MSH_CMD_OP a)
  let u := if op = 3 then u.setArm a (fun h => { h with rotate := true }) else
    match u.cellOf (a * 2048 + u.rd (R.MSH_CMD_CELL a)) with
    | none => u
    | some e => match op with
      | 1 => u.setFlag e.2 .retired true
      | 2 => (u.setFlag e.2 .retired false).setFlag e.2 .unseeded true
      | 4 => u.setReq e.1 e.2.cid false
      | _ => u
  (u.wr (R.MSH_CMD_GO a) 0).wr (R.MSH_CMD_STAT_DONE a) 1

/-- A write of MSH_CMD with GO (R113, R606): pending, or refused; with OP 0 it issues nothing. -/
def U.mshCmdWrite (u : U) (a cell op : Nat) : U :=
  if op = 0 then (if u.on (R.MSH_CMD_GO a) then u else (u.wr (R.MSH_CMD_CELL a) cell).wr (R.MSH_CMD_OP a) 0)
  else if u.on (R.MSH_CMD_GO a) || op > 4 || (op = 2 && u.on R.DEP_CTL_CONV_EN) ||
      (op != 3 && !u.topo.valid (a * 2048 + cell % 2048)) then u.wr (R.MSH_CMD_STAT_REJ a) 1
  else ((u.wr (R.MSH_CMD_CELL a) cell).wr (R.MSH_CMD_OP a) op).wr (R.MSH_CMD_GO a) 1

/-- A cell leaving the trim role (R87, R97). -/
def U.leaveTrim (u : U) (e : Nat × CellCfg) (dn : Nat) : U :=
  ((u.setFlag e.2 .trim false).chgMember e dn false).lgw e.2.cid 0x140 4 dn

/-- A cell taking the trim role (R97). -/
def U.takeTrim (u : U) (a : Nat) (e : Nat × CellCfg) (dn : Nat) : U :=
  (((u.chgMember e dn false).setFlag e.2 .trim true).lgInc e.2.cid 0x15C).setArm a
    (fun h => { h with trim := some (e.1, dn), none_ := false })

/-- The arm without a trim cell (R98). -/
def U.noTrim (u : U) (a : Nat) : U := u.setArm a (fun h => { h with trim := none, carry := 0, none_ := true })

/-- The trim rotation of a selection (R96 to R98). -/
def U.trimRotation (u : U) (a dn : Nat) (g : MshCfg) (neg : Bool) : U :=
  let cells := u.armCells a
  let can := fun (e : Nat × CellCfg) => u.meetsTrim g neg dn e.2 && !u.dwellLocked g.dwell dn e.2.cid
  let rotate := (u.arm a).rotate
  let u := u.setArm a (fun h => { h with rotate := false })
  match (u.arm a).trim with
  | none => match cells.find? can with
    | some e => u.takeTrim a e dn
    | none => u.noTrim a
  | some (o, since) =>
    match cells.find? (fun e => e.1 == o) with
    | none => u.noTrim a
    | some cur =>
      let meets := u.meetsTrim g neg dn cur.2
      let late := u.req cur.2.cid && decide (dnDiff dn (u.reqDn cur.2.cid) > (g.refLate : Int))
      let due := decide (dnDiff dn since ≥ ((g.trimRot * 100 : Nat) : Int)) || rotate
      if meets && !late && !due then u
      else match (cells.drop (o + 1) ++ cells.take o).find? can with
        | some e => (u.leaveTrim cur dn).takeTrim a e dn
        | none =>
          if meets && !late then u.setArm a (fun h => { h with trim := some (o, dn) })
          else (u.leaveTrim cur dn).noTrim a

/-- One cell in the ranking of a selection. -/
structure Rank where
  ord    : Nat
  cid    : Nat
  key    : Nat
  vp     : Int
  locked : Bool
  member : Bool
  deriving DecidableEq, Repr

/-- The rank key of a projected estimate (R81). -/
def rankKey (vp : Int) : Nat := (clamp 0 65535 (rshift vp 8)).toNat

/-- Whether a cell precedes another (R89). -/
def Rank.precedes (charging : Bool) (s n : Nat) (x y : Rank) : Bool :=
  if x.key ≠ y.key then (if charging then decide (x.key < y.key) else decide (y.key < x.key))
  else decide ((x.ord + n - s % n) % n < (y.ord + n - s % n) % n)

/-- Insertion in ranking order. -/
def rankInsert (lt : Rank → Rank → Bool) (x : Rank) : List Rank → List Rank
  | [] => [x]
  | y :: l => if lt x y then x :: y :: l else y :: rankInsert lt x l

/-- The ranking, best first. -/
def rankSort (lt : Rank → Rank → Bool) (l : List Rank) : List Rank := l.foldl (fun acc x => rankInsert lt x acc) []

/-- MEMBER of one ranked cell changed; it is dwell-locked from then on unless DWELL_MIN is 0. -/
def rankFlip (dwell : Nat) (ord : Nat) (l : List Rank) : List Rank :=
  l.map (fun r => if r.ord == ord then { r with member := !r.member, locked := dwell != 0 } else r)

/-- The level adjustment (R91): the ranking after it and the number of locked cells taken. -/
def levelAdjust (dwell : Nat) (l : List Rank) (d : Int) : List Rank × Nat :=
  let pool := if d > 0 then l.filter (fun r => !r.member) else (l.filter (fun r => r.member)).reverse
  let free := (pool.filter (fun r => !r.locked)).take d.natAbs
  let lock := (pool.filter (fun r => r.locked)).take (d.natAbs - free.length)
  ((free ++ lock).foldl (fun l r => rankFlip dwell r.ord l) l, lock.length)

/-- The exchange that the swap loop would make next (R91, R93). -/
def nextSwap (lt : Rank → Rank → Bool) (charging : Bool) (band : Nat) (l : List Rank) : Option (Rank × Rank) :=
  match l.find? (fun r => !r.member && !r.locked), l.reverse.find? (fun r => r.member && !r.locked) with
  | some o, some w =>
    let gain := if charging then w.vp - o.vp else o.vp - w.vp
    if lt o w && decide (gain > (band : Int)) then some (o, w) else none
  | _, _ => none

/-- The swap loop (R91): the ranking after it and the number of swaps. -/
def swapLoop (lt : Rank → Rank → Bool) (charging : Bool) (band dwell : Nat) : Nat → List Rank → List Rank × Nat
  | 0, l => (l, 0)
  | n + 1, l =>
    match nextSwap lt charging band l with
    | none => (l, 0)
    | some (o, w) =>
      let r := swapLoop lt charging band dwell n (rankFlip dwell w.ord (rankFlip dwell o.ord l))
      (r.1, r.2 + 1)

/-- The trim duty and the new residue carry (R99). -/
def trimDuty (minPulse x : Int) : Int × Int :=
  let f := if 2 * x < minPulse then 0 else if x < minPulse then minPulse
    else if 2 * x > 2 * 65536 - minPulse then 65536 else if x > 65536 - minPulse then 65536 - minPulse else x
  (f, x - f)

/-- The requests that have outlived REF_LATE, counted (R105). -/
def U.lateRequests (u : U) (a dn refLate : Nat) : U :=
  (u.armCells a).foldl (fun u e =>
    let cid := e.2.cid
    if !u.req cid then u.setArm a (fun h => { h with late := h.late.filter (· != cid) })
    else if decide (dnDiff dn (u.reqDn cid) > (refLate : Int)) && !(u.arm a).late.contains cid then
      (u.setArm a (fun h => { h with late := h.late ++ [cid] })).inc (R.MSH_CNT_A_REF_LATE_CNT a)
    else u) u

/-- Insertion of a refresh request: the oldest first, ties by ordinal (R103). -/
def reqInsert (x : Int × (Nat × CellCfg)) : List (Int × (Nat × CellCfg)) → List (Int × (Nat × CellCfg))
  | [] => [x]
  | y :: l => if x.1 > y.1 then x :: y :: l else y :: reqInsert x l

/-- The cells granted a refresh (R103). -/
def U.grants (u : U) (a dn : Nat) (g : MshCfg) : List Nat :=
  if !u.on R.DEP_CTL_CONV_EN then [] else
  let want := (u.armCells a).filter (fun e => u.req e.2.cid && u.member e.2.cid && u.available dn e.2.cid)
  let sorted := want.foldl (fun l e => reqInsert (dnDiff dn (u.reqDn e.2.cid), e) l) []
  (sorted.take g.refreshMax).map (fun e => e.2.2.cid)

/-- The bypass order of a cell (R95). -/
def bypass (g : MshCfg) (fb : Bool) : Nat := if fb && g.fbByp then 4 else 3

/-- One cell's order, with its ledger fields (R95, R100, R102, R110, R111). Answers the code without a forced state. -/
def U.orderCell (u : U) (dn : Nat) (g : MshCfg) (neg : Bool) (gr : List Nat) (trim : Option (Nat × Int))
    (e : Nat × CellCfg) (vp : Int) : Nat × U :=
  let cid := e.2.cid
  let ins := if neg then 2 else 1
  let isTrim := match trim with
    | some (o, _) => o == e.1
    | none => false
  let granted := gr.contains cid
  let plain :=
    if !u.on R.DEP_CTL_CONV_EN then 0
    else if u.flag cid .retired then 15
    else match trim with
      | some (o, f) =>
        if o = e.1 then (if f = 0 then bypass g e.2.fb else if f = 65536 then ins else 5)
        else if granted then 3 else if u.member cid then ins else bypass g e.2.fb
      | none => if granted then 3 else if u.member cid then ins else bypass g e.2.fb
  let code := if plain = 0 || plain = 15 then plain else (u.forced dn cid).getD plain
  let reqOff := u.req cid && decide (dnDiff dn (u.reqDn cid) > 0) && (code == 3 || granted)
  let u := u.setSel e.1 cid code (u.member cid) granted (u.req cid && !reqOff)
  let u := ((u.lgw cid 0x148 4 dn).lgw cid 0x150 4 (rankKey vp)).setFlag e.2 .refreshing granted
  let u := u.setFlag e.2 .trim isTrim
  let u := if granted then u.lgInc cid 0x160 else u
  (plain, if code = 1 || code = 2 || code = 5 then u.lgInc cid 0x154 else u)

/-- AVAIL, and whether it is short (R106). -/
def U.availCheck (u : U) (t : TimeBase) (a avail minAvail : Nat) : U :=
  let u := u.wr (R.MSH_SET_AVAIL a) avail
  if avail < minAvail then u.wr (R.MSH_STATUS_AVAIL_SHORT a) 1
  else (u.wr (R.MSH_STATUS_AVAIL_SHORT a) 0).endLasting t (MSH.AVAIL_LOW a)

/-- The registers that show a selection's trim cell (R113). -/
def U.showTrim (u : U) (a : Nat) (cid : Option Nat) (neg : Bool) (f r : Int) : U :=
  let u := (u.put (R.MSH_STATUS_TRIM_VALID a) cid.isSome).wr (R.MSH_TRIM_CUR_CELL a) (cid.getD 0 % 2048)
  let u := (u.put (R.MSH_TRIM_CUR_POL a) (neg && cid.isSome)).put (R.MSH_TRIM_CUR_FULL a) (f == 65536)
  u.wr (R.MSH_TRIM_CARRY_CARRY a) ((f % 65536).toNat + 65536 * enc 16 (rshift r 1))

/-- The integer selection and the swaps on the eligible set (R91), with their counts and ledger changes. Answers
whether the level saturated and whether locked cells were moved. -/
def U.integerSelect (u : U) (a dn n : Nat) (g : MshCfg) (charging : Bool) (elig : List Rank) : (Bool × Bool) × U :=
  let cells := u.armCells a
  let lt := Rank.precedes charging (u.rd (R.MSH_START_S a)) (max 1 cells.length)
  let l := rankSort lt elig
  let sat := decide (n > l.length)
  let d : Int := (min n l.length : Nat) - ((l.filter (fun r => r.member)).length : Int)
  let adj := levelAdjust g.dwell l d
  let u := u.incBy (R.MSH_CNT_A_DWELL_BRK_CNT a) adj.2
  let sw := swapLoop lt charging g.band g.dwell g.swapMax adj.1
  let budget := decide (sw.2 = g.swapMax) && (nextSwap lt charging g.band sw.1).isSome
  let u := if budget then u.inc (R.MSH_CNT_B_BUDGET_CNT a) else u
  let u := ((u.wr (R.MSH_SWAPS_SWAPS a) sw.2).put (R.MSH_SWAPS_BUDGET a) budget).wr (R.MSH_SWAPS_LEVEL_CHG a) d.natAbs
  ((sat, adj.2 != 0), sw.1.foldl (fun u r =>
    match cells.find? (fun e => e.1 == r.ord) with
    | some e => u.chgMember e dn r.member
    | none => u) u)

/-- The orders of a selection written as the set planned for its DN (R95, R110). -/
def U.planSet (u : U) (a dn : Nat) (g : MshCfg) (neg : Bool) (gr : List Nat) (trim : Option (Nat × Int)) : U :=
  let cells := u.armCells a
  let vp := (u.arm a).vp
  let r := cells.foldl (fun (acc : Tbl Nat × U) e =>
    let x := acc.2.orderCell dn g neg gr trim e (vp.getD e.1 0)
    (acc.1.put 0 e.2.cid x.1, x.2)) ([], u)
  let desc := match trim with
    | some (o, f) => if f = 0 || f = 65536 then none
        else (cells.find? (fun e => e.1 == o)).map (fun e => Trim.mk e.2.cid neg f.toNat)
    | none => none
  let desc := if u.on R.DEP_CTL_CONV_EN then desc else none
  { r.2 with dep := { r.2.dep with planned := r.2.dep.planned.set a (dn, OrderSet.mk r.1 gr [] desc false false false) } }

/-- The causes of a selection, which it raises in one handshake and so in ascending order of cause bit (R446); `was` is the unit before it,
`sel` whether the level saturated and whether locked cells were moved. DWELL_BRK is raised once for the selection, with no cell (log
entry 166). -/
def U.selectCauses (u : U) (t : TimeBase) (a : Nat) (was : U) (sel : Bool × Bool) : U :=
  let u := if sel.1 then u.raise t (MSH.LEVEL_SAT a) [] else u
  let u := if sel.2 then u.raise t (MSH.DWELL_BRK a) [] else u
  let late := (u.arm a).late.filter (fun cid => !(was.arm a).late.contains cid)
  let u := u.each late (fun u cid => u.raise t (MSH.REFRESH_LATE a) (FRN.det cid))
  let u := if (u.arm a).none_ && !(was.arm a).none_ then u.raise t (MSH.TRIM_NONE a) [] else u
  if u.on (R.MSH_STATUS_AVAIL_SHORT a) && !was.on (R.MSH_STATUS_AVAIL_SHORT a) then u.raise t (MSH.AVAIL_LOW a) [] else u

/-- The selection of an arm for the departure being planned (R80 to R107); `work` is the time taken and `margin` the
time to the freeze, in ns. -/
def U.select (u : U) (t : TimeBase) (a work margin : Nat) : U :=
  let was := u
  let u := u.mshCmdApply a
  let h := u.arm a
  let g := h.cfg
  let dn := h.planDn
  let neg := decide (h.nref < 0)
  let m := min h.nref.natAbs (2 ^ 32 - 1)
  let n := m / 65536
  let u := if h.ipDn > (g.iDir * 256 : Nat) then u.wr (R.MSH_STATUS_DIR a) 0
    else if h.ipDn < -((g.iDir * 256 : Nat) : Int) then u.wr (R.MSH_STATUS_DIR a) 1 else u
  let charging := u.on (R.MSH_STATUS_DIR a) == neg
  let turned := u.on (R.MSH_STATUS_POL a) != neg
  let u := if turned then (u.clearMembers a dn).setArm a (fun h => { h with carry := 0 }) else u
  let u := u.put (R.MSH_STATUS_POL a) neg
  let u := (u.lateRequests a dn g.refLate).trimRotation a dn g neg
  let trimOrd := (u.arm a).trim.map (fun x => x.1)
  let gr := u.grants a dn g
  let u := u.incBy (R.MSH_CNT_B_GRANTS a) gr.length
  let eligible := fun (u : U) (e : Nat × CellCfg) =>
    u.available dn e.2.cid && trimOrd != some e.1 && !gr.contains e.2.cid &&
      !(u.req e.2.cid && !u.member e.2.cid) && (!neg || e.2.fb)
  let elig := (u.armCells a).filter (fun e => eligible u e)
  let u := (u.armCells a).foldl (fun u' e =>
    if !eligible u e && !gr.contains e.2.cid then u'.chgMember e dn false else u') u
  let ranks := elig.map (fun e =>
    Rank.mk e.1 e.2.cid (rankKey (h.vp.getD e.1 0)) (h.vp.getD e.1 0) (u.dwellLocked g.dwell dn e.2.cid)
      (u.member e.2.cid))
  let sel := u.integerSelect a dn n g charging ranks
  let u := sel.2
  let minPulse := rdiv (((g.tmin + g.dead) * 65536 : Nat) : Int) 1000
  let fr := if trimOrd.isNone then ((0 : Int), (0 : Int)) else if sel.1.1 then (65536, 0)
    else trimDuty minPulse ((m % 65536 : Nat) + (u.arm a).carry)
  let u := u.setArm a (fun h => { h with carry := fr.2, open_ := false })
  let u := u.planSet a dn g neg gr (trimOrd.map (fun o => (o, fr.1)))
  let cells := u.armCells a
  let trimCid := trimOrd.bind (fun o => (cells.find? (fun e => e.1 == o)).map (fun e => e.2.cid))
  let u := u.showTrim a trimCid neg fr.1 fr.2
  let u := ((u.wr (R.MSH_LEVEL_NREF a) (enc 32 h.nref)).wr (R.MSH_LEVEL_DN_DN a) dn).wr (R.MSH_SET_INSERTED a)
    (cells.filter (fun e => u.member e.2.cid)).length
  let u := u.availCheck t a (cells.filter (fun e => u.available dn e.2.cid)).length g.minAvail
  let u := u.wr (R.MSH_START_S a) ((u.rd (R.MSH_START_S a) + 37) % max 1 cells.length)
  let u := (u.wr (R.MSH_TIME_LAST a) work).wr (R.MSH_TIME_MAX a) (max (u.rd (R.MSH_TIME_MAX a)) work)
  let u := (u.wr (R.MSH_MARGIN_LAST a) margin).wr (R.MSH_MARGIN_MIN a) (min (u.rd (R.MSH_MARGIN_MIN a)) margin)
  u.selectCauses t a was sel.1

/-- SELECTION: made once in an interval, while it is open (R91, R108). One that is not complete before the freeze, or that meets it in one
handshake, is abandoned and leaves everything as it was (R109, R122). The work time is at most 520 ns and else free. -/
def U.selection (u : U) (t : TimeBase) (a : Nat) : U :=
  let h := u.arm a
  if h.open_ && h.cfg.en && u.topo.armOn a && !t.due then
    let r := u.draw
    r.2.reading t (r.2.selectSpans a) (fun u => u.select t a (r.1 % 521) (min 65535 ((t.lastUs + 1) * 1000 - t.tns)))
  else u

/-- The change of selection EN to 1 (R82, R86, R90). -/
def U.mshStart (u : U) (a dn : Nat) : U := ((u.clearMembers a dn).wr (R.MSH_START_S a) 0).wr (R.MSH_STATUS_DIR a) 0

/-- The selection engine at the boundary of `b`: settings and N_ref latched, the selection of DN = b + L + 1 opened
(R79, R113), N_ref from the board as latched at the boundary (R221); MEMBER cleared while an avalanche is latched (R86). -/
def U.mshBoundary (u : U) (a b : Nat) (board : Nat → Int) : U :=
  let was := (u.arm a).cfg.en
  let g := u.mshCfg a
  let dn := (b + u.rd R.DEP_CTL_LEAD + 1) % 2 ^ 32
  let u := if g.en && !was then u.mshStart a dn else u
  let u := if !g.en then u.mshCmdApply a else u
  let u := if g.en && u.on R.DEP_STATUS_AV_LATCHED then u.clearMembers a dn else u
  let nref := board (u.rd (R.MSH_CTL_NREF_IDX a))
  u.setArm a (fun h => { h with cfg := g, nref := nref, planDn := dn, open_ := g.en })

/-- A write of EN of MSH_CTL (R114). -/
def U.mshEnWrite (u : U) (a : Nat) (en : Bool) : U :=
  if !en && u.on R.DEP_CTL_CONV_EN then u
  else if en && !u.on (R.FRN_CTL_EN a) then u
  else u.put (R.MSH_CTL_EN a) en

/-- The ARM payload of this unit's selection state (R497). -/
def U.armPayload (u : U) (a : Nat) : ArmMirror :=
  let h := u.arm a
  { dn := h.planDn, s := u.rd (R.MSH_START_S a), dir := u.on (R.MSH_STATUS_DIR a), pol := u.on (R.MSH_STATUS_POL a),
    trimValid := h.trim.isSome, trimOrd := (h.trim.getD (0, 0)).1, trimSince := (h.trim.getD (0, 0)).2,
    carry := h.carry, member := ((u.armCells a).filter (fun e => u.member e.2.cid)).map (fun e => e.1) }

/-- One cell under the active unit's selection state (R497): MEMBER with LAST_CHG and CHG_CNT, which counts neither a swap nor a level
change; LAST_CHG of a cell that leaves the trim role (R87). -/
def U.mirrorCell (u : U) (b : Nat) (p : ArmMirror) (e : Nat × CellCfg) : U :=
  let u := u.chgMember e b (p.member.contains e.1)
  let trim := p.trimValid && p.trimOrd == e.1
  let had := u.flag e.2.cid .trim
  let u := u.setFlag e.2 .trim trim
  if had && !trim then u.lgw e.2.cid 0x140 4 b
  else if trim && !had then u.lgInc e.2.cid 0x15C
  else u

/-- An ARM section applied at the boundary of `b` (R497): the active unit's selection state taken where it differs from
this unit's latch of the cycle. -/
def U.armMirrorApply (u : U) (a b : Nat) (p own : ArmMirror) : U :=
  if p = own then u else
  let n := max 1 (u.armCells a).length
  let u := (u.armCells a).foldl (fun u e => u.mirrorCell b p e) u
  let u := (u.put (R.MSH_STATUS_DIR a) p.dir).put (R.MSH_STATUS_POL a) p.pol
  let u := u.wr (R.MSH_START_S a) ((p.s + u.rd (R.MSH_START_S a) + n - own.s % n) % n)
  (u.setArm a (fun h => { h with
    trim := if p.trimValid then some (p.trimOrd, p.trimSince) else none, carry := p.carry, none_ := h.none_ && !p.trimValid })).inc
    R.SDL_CNT_B_MSH_REPL

end Sys2Proof.Machine
end

