-- ==== Sys2Proof/Machine/Departures.lean ====
section
/-! DEFINITION. Orders, platforms and the avalanche: converter functions, the freeze, overruns, forced states, clearing
(R116 to R148, R501, R605, R607). -/
namespace Sys2Proof.Machine

/-- The departure unit's state beside its registers replaced. -/
def U.withDep (u : U) (f : Dep → Dep) : U := { u with dep := f u.dep }

/-- Whether the role sends ORDER frames (R501). -/
def U.sending (u : U) : Bool :=
  let valid := u.on R.SDL_ROLE_PEER_VALID
  let peer := u.rd R.SDL_ROLE_PEER_ROLE
  match u.rd R.SDL_ROLE_ROLE with
  | 0 => (valid && peer == 0) || (u.on R.SDL_CTL_SOLO && !(valid && peer == 3))
  | 2 => true
  | 3 => true
  | _ => false

/-- Whether the lead check of every configured hub has passed (R28). -/
def U.leadOk (u : U) : Bool :=
  u.topo.hubs.all (fun h => match u.leads.find? h with
    | some m => decide (0 ≤ m)
    | none => false)

/-- The conditions of a write of 1 to CONV_EN (R119, R507). -/
def U.convOk (u : U) : Bool :=
  let arms := (List.range 12).filter u.topo.armOn
  decide (u.rd R.TIM_DEP_CTL_STATE = 2) && !u.on R.SYS_CFG_CFG_DEFAULT && u.leadOk &&
    !u.on R.DEP_STATUS_AV_LATCHED && !u.on R.DEP_STATUS_CLR_SENDING && u.on R.SBX_STATE_RUN_OK &&
    arms.all (fun a => u.on (R.FRN_CTL_EN a) && u.on (R.MSH_CTL_EN a)) &&
    arms.all (fun a => !u.on (R.MSH_STATUS_AVAIL_SHORT a)) &&
    arms.all (fun a => !u.on (R.FRN_STATUS_CUR_NONE a)) &&
    decide (u.rd R.SDL_ROLE_ROLE ≠ 0) && decide (u.rd R.SDL_ROLE_ROLE ≠ 4)

/-- A write of CONV_EN (R119, R120). -/
def U.convEnWrite (u : U) (t : TimeBase) (en : Bool) : U :=
  if !en then u.wr R.DEP_CTL_CONV_EN 0
  else if u.on R.DEP_CTL_CONV_EN then u
  else if u.convOk then
    { u.wr R.DEP_CTL_CONV_EN 1 with cap := { u.cap with conv := u.rd R.CAP_STATE_STATE == 4 && u.on R.CAP_CTL_SINK } }
  else u.raise t DEP.CONV_REJ []

/-- A write of LEAD (R118). -/
def U.leadWrite (u : U) (v : Nat) : U :=
  if u.rd R.TIM_DEP_CTL_STATE = 0 && decide (2 ≤ v) && decide (v ≤ 8) then u.wr R.DEP_CTL_LEAD v else u

/-- ACTIVE of DEP_FORCE_STAT: the entries in the table. -/
def U.syncForce (u : U) : U := u.wr R.DEP_FORCE_STAT_ACTIVE u.dep.force.length

/-- A pending change taken into an entry at a DN; `none` once a release has taken effect (R605). -/
def ForceEntry.settle (e : ForceEntry) (dn : Nat) : Option ForceEntry :=
  match e.chg with
  | none => some e
  | some c =>
    if dnDiff dn c.eff ≥ 0 then
      match c.code with
      | some k => some ⟨e.cid, some k, none⟩
      | none => none
    else some e

/-- The pending changes that take effect at a DN (R605). -/
def U.forceSettle (u : U) (dn : Nat) : U :=
  (u.withDep (fun d => { d with force := d.force.filterMap (fun e => e.settle dn) })).syncForce

/-- The first departure whose order set is not yet frozen (R128); in the handshake of a freeze, the one after it (R129). -/
def U.firstOpen (u : U) (t : TimeBase) : Nat := (t.cur + u.rd R.DEP_CTL_LEAD + 1) % 2 ^ 32

/-- The effective DN of a force command, LATE and FORCE_LATE (R128). -/
def U.forceEff (u : U) (t : TimeBase) : Nat × U :=
  let tgt := u.rd R.DEP_FORCE_DN_DN
  let first := u.firstOpen t
  let late := decide (dnDiff tgt first < 0)
  let eff := if late then first else tgt
  let u := (u.wr R.DEP_FORCE_EFF_DN eff).wr R.DEP_FORCE_STAT_DONE 1
  (eff, if late then (u.wr R.DEP_FORCE_STAT_LATE 1).raise t DEP.FORCE_LATE [] else u)

/-- A force command refused (R127): the register stays as it was (R603). -/
def U.forceRej (u : U) : U := (u.wr R.DEP_FORCE_STAT_REJ 1).wr R.DEP_FORCE_CTL_GO 0

/-- The command fields of DEP_FORCE_CTL. -/
def U.forceFields (u : U) (cid code op : Nat) : U :=
  ((u.wr R.DEP_FORCE_CTL_CID cid).wr R.DEP_FORCE_CTL_CODE code).wr R.DEP_FORCE_CTL_OP op

/-- SET (R127, R605). -/
def U.forceSet (u : U) (t : TimeBase) (cid code : Nat) : U :=
  let inTable := u.dep.force.any (fun e => e.cid == cid)
  let fb := match u.cellOf cid with
    | some e => e.2.fb
    | none => false
  if code > 4 || ((code = 2 || code = 4) && !fb) || !u.topo.valid cid || (!inTable && u.dep.force.length ≥ 64)
  then u.forceRej
  else
    let r := (u.forceFields cid code 1).forceEff t
    let chg := some (ForceChange.mk (some code) r.1)
    let set := fun (e : ForceEntry) => if e.cid == cid then { e with chg := chg } else e
    (r.2.withDep (fun d => { d with force := if inTable then d.force.map set else d.force ++ [⟨cid, none, chg⟩] })).syncForce

/-- RELEASE (R128, R605). -/
def U.forceRelease (u : U) (t : TimeBase) (cid : Nat) : U :=
  if !u.dep.force.any (fun e => e.cid == cid) then u.forceRej
  else
    let r := (u.forceFields cid (u.rd R.DEP_FORCE_CTL_CODE) 2).forceEff t
    let rel := fun (e : ForceEntry) => if e.cid == cid then { e with chg := some ⟨none, r.1⟩ } else e
    r.2.withDep (fun d => { d with force := d.force.map rel })

/-- RELEASE_ALL (R605). -/
def U.forceReleaseAll (u : U) (t : TimeBase) : U :=
  let u := u.wr R.DEP_FORCE_CTL_OP 3
  let r := u.forceEff t
  r.2.withDep (fun d => { d with force := d.force.map (fun e => { e with chg := some ⟨none, r.1⟩ }) })

/-- Forced states applied to a set that is being frozen (R124, R130). -/
def U.applyForced (u : U) (a dn : Nat) (o : OrderSet) : OrderSet :=
  (u.topo.armCells a).foldl (fun o c =>
    match u.forced dn c.cid with
    | none => o
    | some code =>
      if o.code c.cid = 15 then o else
      let trim := match o.trim with
        | some d => if d.cid = c.cid then none else some d
        | none => none
      { o with
        states := o.states.put 0 c.cid code, forced := o.forced ++ [c.cid], grants := o.grants.filter (· != c.cid),
        trim := trim }) { o with forced := [] }

/-- The overrun counters and causes of an arm whose set is held, or their return (R124, R125). -/
def U.heldCount (u : U) (t : TimeBase) (a : Nat) (held : Bool) : U :=
  let h := u.rd R.DEP_OVR_HELD
  if !held then (u.wr R.DEP_OVR_HELD (clrBit h a)).wr (R.DEP_OVR_CNT_RUN a) 0
  else
    let u := (u.wr R.DEP_OVR_HELD (setBit h a)).wr R.DEP_OVR_OVR (setBit (u.rd R.DEP_OVR_OVR) a)
    let u := (u.inc (R.DEP_OVR_CNT_COUNT a)).inc (R.DEP_OVR_CNT_RUN a)
    let u := (u.wr (R.MSH_MARGIN_LAST a) 0).wr (R.MSH_MARGIN_MIN a) 0
    let u := u.raise t DEP.OVERRUN [(8, 4, a)]
    if u.rd (R.DEP_OVR_CNT_RUN a) = 2 then u.raiseRlq t DEP.OVR_FAULT 2 [(8, 4, a)] else u

/-- The timed command in an arm's ORDER frames: CMD and TCMD_DN while it is pending (R399). -/
def U.tcmd (u : U) (a : Nat) : Nat × Nat :=
  if u.on R.SNP_TCMD_GO && bitAt (u.rd R.SNP_TCMD_ARMS) a then (u.rd R.SNP_TCMD_CMD, u.rd R.SNP_TCMD_DN_DN) else (0, 0)

/-- The freeze of one arm's set for a DN (R95, R121 to R125, R130, R140, R145). -/
def U.freezeArm (u : U) (t : TimeBase) (a dn : Nat) : U :=
  let en := (u.arm a).cfg.en
  let clr := decide (u.dep.clrLeft > 0)
  let avl := u.on R.DEP_STATUS_AV_LATCHED && !clr
  let planned := match u.dep.planned.find? a with
    | some (d, o) => if d = dn then some o else none
    | none => none
  let fresh := u.dep.fresh.contains a
  let o := match en, planned with
    | false, _ => OrderSet.block false false false
    | true, some o => o
    | true, none =>
      if fresh then OrderSet.block true false false
      else match u.orderSet a (dn + 2 ^ 32 - 1) with
        | some p => { p with held := true }
        | none => OrderSet.block true false false
  let o := if !u.on R.DEP_CTL_CONV_EN || avl || clr then OrderSet.block o.held avl clr
    else { (u.applyForced a dn o) with avl := false, avClr := false }
  let u := u.setArm a (fun h => { h with open_ := false })
  let u := u.withDep (fun d => { d with
    sets := d.sets.set (setKey a dn) o, planned := d.planned.erase a,
    fresh := if en then d.fresh.filter (· != a) else d.fresh })
  if en then u.heldCount t a o.held else u

/-- The first ORDER frames after a reset sent in role STANDBY rule out the run of R146. -/
def U.firstFrames (u : U) : U :=
  if !u.sending || u.dep.sent || !(List.range 12).any u.topo.armOn then u
  else u.withDep (fun d => { d with sent := true, resetRun := d.resetRun || u.rd R.SDL_ROLE_ROLE == 2 })

/-- The freeze at a boundary `b` of the sets for b + L (R121), the sets older than the platform's window dropped
(R117), the clearing departures counted (R145). -/
def U.freeze (u : U) (t : TimeBase) (b : Nat) : U :=
  let dn := (b + u.rd R.DEP_CTL_LEAD) % 2 ^ 32
  let u := u.forceSettle dn
  if u.rd R.TIM_DEP_CTL_STATE ≠ 2 then u else
  let u := if (u.dep.clrAt.map (fun c => decide (dnDiff b c ≥ 0))).getD false then
      (u.withDep (fun d => { d with clrLeft := 16, clrAt := none })).wr R.DEP_STATUS_CLR_SENDING 1 else u
  let u := u.firstFrames
  let u := ((List.range 12).filter u.topo.armOn).foldl (fun u a => u.freezeArm t a dn) u
  let u := u.withDep (fun d => { d with
    sets := d.sets.filter (fun e => decide (dnDiff b (e.1 % 2 ^ 32) ≤ 31))
    clrLeft := d.clrLeft - 1 })
  (u.wr R.DEP_FREEZE_DN dn).put R.DEP_STATUS_HELD_ANY (u.rd R.DEP_OVR_HELD != 0)

/-- The arms whose selection EN changes to 1 at this boundary have no earlier set at their first freeze (R124). -/
def U.markFresh (u : U) (a : Nat) : U :=
  if u.on (R.MSH_CTL_EN a) && !(u.arm a).cfg.en then
    u.withDep (fun d => { d with fresh := d.fresh.filter (· != a) ++ [a] }) else u

/-- The end of a clearing run (R145). -/
def U.clearRunEnd (u : U) : U :=
  if u.on R.DEP_STATUS_CLR_SENDING && u.dep.clrLeft = 0 then
    let u := (u.wr R.DEP_STATUS_CLR_SENDING 0).wr R.DEP_STATUS_AV_LATCHED 0
    { u with regs := Regs.resetRange u.regs 0x400300024 0x400300030 }
  else u

/-- The run of clearing frames after a reset (R146). -/
def U.resetClearRun (u : U) : U :=
  let role := u.rd R.SDL_ROLE_ROLE
  if !u.dep.resetRun && u.dep.ranSince && u.sending && (role = 0 || role = 3) && !u.on R.DEP_STATUS_AV_LATCHED then
    (u.withDep (fun d => { d with clrLeft := 16, resetRun := true })).wr R.DEP_STATUS_CLR_SENDING 1
  else u

/-- Whether an avalanche source is still asserted on this unit (R144, R266, R281). -/
def U.avSource (u : U) : Bool :=
  (List.range 32).any (fun p =>
    (u.on (R.SNS_THR_CFG_AV_EN p 0) && u.on (R.SNS_PSTAT_TRIP0 p)) ||
    (u.on (R.SNS_THR_CFG_AV_EN p 1) && u.on (R.SNS_PSTAT_TRIP1 p))) ||
  (List.range 32).any (fun c => u.on (R.GO_CFG_AV_EN c) && u.on (R.GO_STAT_TRIP c)) ||
  u.on R.SBX_STATE_AV_OUT || u.anyOpen3

/-- The conditions of R144 on this unit. -/
def U.clearOk (u : U) : Bool := !u.on R.DEP_CTL_CONV_EN && !u.avSource

/-- The next 10 µs boundary (R34), as a DN. -/
def TimeBase.nextTen (t : TimeBase) : Nat := (t.lastUs / 10 + 1) * 10 % 2 ^ 32

/-- A write of CLEAR to DEP_AV (R144, R146, R508): refused on this unit, a valid peer is told in the next CTRL (log entry 25). -/
def U.avClear (u : U) (t : TimeBase) : U :=
  if u.on R.SDL_ROLE_CLR_PEND then u
  else if !u.clearOk then
    (if u.on R.SDL_ROLE_PEER_VALID then u.withSdl (fun s => { s with clrAns := some false }) else u).raise t DEP.CLR_REJ []
  else if u.on R.SDL_ROLE_PEER_VALID then
    (u.wr R.SDL_ROLE_CLR_PEND 1).withSdl (fun s => { s with clrWait := some 0 })
  else u.withDep (fun d => { d with clrAt := some ((t.nextTen + 20) % 2 ^ 32) })

/-- DEP_PEEK_DATA loaded for a CID and DN (R148). -/
def U.depPeek (u : U) (t : TimeBase) (dn : Nat) : U :=
  let u := u.wr R.DEP_PEEK_DN_DN dn
  let u := { u with regs := Regs.resetRange u.regs 0x400300098 0x40030009C }
  let cid := u.rd R.DEP_PEEK_CID_CID
  let diff := dnDiff dn t.cur
  if !u.topo.valid cid || decide (diff < -31) || decide (diff > (u.rd R.DEP_CTL_LEAD : Int)) then u else
  let u := u.wr R.DEP_PEEK_DATA_VALID 1
  match u.orderSet (cidArm cid) dn with
  | none => u
  | some o =>
    let u := (u.wr R.DEP_PEEK_DATA_CODE (o.code cid)).put R.DEP_PEEK_DATA_GRANT (o.grants.contains cid)
    let u := (u.put R.DEP_PEEK_DATA_HELD o.held).put R.DEP_PEEK_DATA_FORCED (o.forced.contains cid)
    let u := u.put R.DEP_PEEK_DATA_AVL o.avl
    match o.trim with
    | some d => if d.cid = cid then (u.wr R.DEP_PEEK_DATA_TRIM 1).wr R.DEP_PEEK_DATA_DUTY d.duty else u
    | none => u

end Sys2Proof.Machine
end

