-- ==== Sys2Proof/Machine/Sched.lean ====
section
/-! DEFINITION. The hardware scheduler: ready lists, dispatch, items and their release, the timetable, commands and
core retirement (R413 to R439). -/
namespace Sys2Proof.Machine

namespace SCH
def CORE_RET (c : Nat) : Cause := ⟨B.SCH, 0, some 1, 200 + c / 2, false, 1⟩
def LONG_RUN (c : Nat) : Cause := ⟨B.SCH, 1, some 1, 200 + c / 2, false, 1⟩
def SLOW (c : Nat) : Cause := ⟨B.SCH, 2, some 0, 200 + c / 2, false, 1⟩
def THREAD_FAULT : Cause := ⟨B.SCH, 3, some 1, 208, false, 1⟩
def AFF_EMPTY : Cause := ⟨B.SCH, 4, some 1, 208, false, 1⟩
def CMD_REJ : Cause := ⟨B.SCH, 5, some 0, 208, false, 1⟩
def QHIGH : Cause := ⟨B.SCH, 6, some 0, 209, false, 1⟩
def STALL : Cause := ⟨B.SCH, 7, some 0, 209, false, 1⟩
def POOL_LOW : Cause := ⟨B.SCH, 8, some 0, 210, false, 1⟩
/-- The details of SCH_FIRST: core and thread. -/
def det (core thread : Nat) : List (Nat × Nat × Nat) := [(8, 4, core), (16, 8, thread)]
end SCH

/-- State of a thread: 0 FREE, 1 WAITING, 2 READY, 3 RUNNING, 4 FAULTED (R413). -/
def U.thr (u : U) (th : Nat) : Nat := u.rd (R.SCH_THR_STAT_STATE th)

/-- Whether a thread's affinity permits a core. -/
def U.permitted (u : U) (th core : Nat) : Bool := bitAt (u.rd (R.SCH_THR_CFG_AFFINITY th)) core

/-- A thread's priority. -/
def U.prio (u : U) (th : Nat) : Nat := u.rd (R.SCH_THR_CFG_PRIO th)

/-- Whether a core is in service: neither retired nor powered down (R437). -/
def U.coreUp (u : U) (core : Nat) : Bool := u.rd (R.SCH_CORE_STAT_STATE core) < 2

/-- The scheduler's state beside its registers replaced. -/
def U.withSch (u : U) (f : Sched → Sched) : U := { u with sch := f u.sch }

/-- The first thread of the most urgent ready list whose affinity permits a core (R418). -/
def U.bestReady (u : U) (core : Nat) : Option Nat :=
  u.sch.ready.foldl (fun best th =>
    if u.permitted th core then
      match best with
      | none => some th
      | some b => if u.prio th < u.prio b then some th else best
    else best) none

/-- The number of items of a flow in a state. -/
def U.countItems (u : U) (flow : Nat) (st : ItemState) : Nat :=
  (u.sch.items.filter (fun i => i.flow == flow && i.state == st)).length

/-- Whether the flow of an item has room for it in service (R428, R430). -/
def U.flowRoom (u : U) (it : Item) : Bool :=
  if u.rd (R.SCH_FLOW_CFG_MODE it.flow) = 1 then
    u.countItems it.flow .inService == 0 &&
      (match u.sch.items.find? (fun i => i.flow == it.flow) with
       | some o => o.seq == it.seq
       | none => false)
  else u.countItems it.flow .inService < u.rd (R.SCH_FLOW_CFG_PAR it.flow)

/-- The deliverable item of a thread that is WAITING or READY (R430). -/
def U.deliverable (u : U) (th : Nat) : Option Item :=
  u.sch.items.find? (fun i => i.thread == th && i.state == .queued && u.flowRoom i)

/-- The counts of a flow and of the pool shown in the registers, held at what a field can show (R6, R434, R435). -/
def U.syncFlow (u : U) (flow : Nat) : U :=
  let hold := fun (u : U) (f : Fld) (n : Nat) => u.wr f (min n (2 ^ f.width - 1))
  (hold (hold (hold u (R.SCH_FLOW_STAT_QUEUED flow) (u.countItems flow .queued)) (R.SCH_FLOW_STAT_IN_SVC flow)
    (u.countItems flow .inService)) (R.SCH_FLOW_STAT_HELD flow) (u.countItems flow .held)).wr
    R.SCH_POOL_FREE (1024 - u.sch.items.length)

/-- DEPTH of every core (R434). -/
def U.syncDepth (u : U) : U :=
  u.each (List.range 16) (fun u c =>
    u.wr (R.SCH_CORE_STAT_DEPTH c) (u.sch.ready.filter (fun th => u.permitted th c)).length)

/-- The READY threads that stand on their ready lists for an item alone, and whose item can no longer be delivered since its flow has
no room left, back to WAITING (R413, R430). -/
def U.unreadyIdle (u : U) : U :=
  u.sch.ready.foldl (fun u th =>
    if (u.sch.plain.find? th).isSome || (u.deliverable th).isSome then u
    else (u.withSch (fun s => { s with ready := s.ready.filter (· != th) })).wr (R.SCH_THR_STAT_STATE th) 1) u

/-- A thread dispatched to a core (R416, R418): its deliverable item with reason ITEM, or its plain READY. -/
def U.dispatch (u : U) (t : TimeBase) (core th : Nat) : U :=
  let it := u.deliverable th
  let u := u.withSch (fun s => { s with
    ready := s.ready.filter (· != th), waiting := s.waiting.erase core,
    runs := s.runs.set core ⟨th, it.map (fun i => (i.flow, i.seq)), t.t16, false⟩,
    winRuns := s.winRuns.set core (s.winRuns.get core 0 + 1) })
  let u := (((u.wr (R.SCH_THR_STAT_STATE th) 3).wr (R.SCH_THR_STAT_CORE th) core).wr
    (R.SCH_CORE_STAT_STATE core) 1).wr (R.SCH_CORE_STAT_THREAD core) th
  let u := u.wr (R.SCH_WAIT_THREAD core) th
  let u := match it with
    | some i =>
      let w := (satU 16 (rdiv ((t.t16 : Int) - i.qTs) 128)).toNat
      let mean : Int := u.rd (R.SCH_FLOW_WAIT_MEAN i.flow)
      let start := fun (j : Item) => if j.flow == i.flow && j.seq == i.seq then { j with state := .inService } else j
      let u := u.withSch (fun s => { s with items := s.items.map start })
      let u := if i.event then u.wr (R.SCH_SRC_PEND i.src) 0 else u
      let u := (u.wr (R.SCH_FLOW_WAIT_MAX i.flow) (max (u.rd (R.SCH_FLOW_WAIT_MAX i.flow)) w)).wr
        (R.SCH_FLOW_WAIT_MEAN i.flow) (rdiv (15 * mean + w) 16).toNat
      let u := if u.countItems i.flow .queued = 0
        then u.withSch (fun s => { s with qhigh := s.qhigh.filter (· != i.flow) }) else u
      let u := ((u.wr (R.SCH_WAIT_FLOW core) i.flow).wr (R.SCH_WAIT_REASON core) 1).wr (R.SCH_WAIT_SEQ core) i.seq
      ((((u.wr (R.SCH_ITEM_SRC_SRC core) i.src).wr (R.SCH_ITEM_DATA_DATA core) i.data).wr
        (R.SCH_THR_STAT_FLOW th) i.flow).syncFlow i.flow).unreadyIdle
    | none =>
      let reason := u.sch.plain.get th 0
      let u := u.withSch (fun s => { s with plain := s.plain.erase th })
      let u := ((u.wr (R.SCH_WAIT_FLOW core) 0).wr (R.SCH_WAIT_REASON core) reason).wr (R.SCH_WAIT_SEQ core) 0
      ((u.wr (R.SCH_ITEM_SRC_SRC core) 0).wr (R.SCH_ITEM_DATA_DATA core) 0).wr (R.SCH_THR_STAT_FLOW th) 0
  (u.emit (.readData core 0x400530000 (th + 2 ^ 8 * u.rd (R.SCH_WAIT_FLOW core) +
    2 ^ 14 * u.rd (R.SCH_WAIT_REASON core) + 2 ^ 16 * u.rd (R.SCH_WAIT_SEQ core)))).syncDepth

/-- The core whose run a thread that found no waiting core preempts (R419): the largest priority number, then the
lowest core. -/
def U.preemptTarget (u : U) (th : Nat) : Option Nat :=
  (List.range 16).foldl (fun best c =>
    match u.sch.runs.find? c with
    | some r =>
      if u.permitted th c && u.prio th < u.prio r.thread then
        match best with
        | none => some c
        | some b => match u.sch.runs.find? b with
          | some rb => if u.prio rb.thread < u.prio r.thread then some c else best
          | none => some c
      else best
    | none => best) none

/-- PREEMPT and MEIP of a core. -/
def U.setPreempt (u : U) (core : Nat) : U :=
  (u.wr (R.SCH_CORE_STAT_PREEMPT core) 1).withSch (fun s => { s with meip := setBit s.meip core })

/-- The core that a thread's affinity permits and that has waited longest, the lowest of those that began to wait at one time (R418). -/
def U.longestWait (u : U) (th : Nat) : Option Nat :=
  (u.sch.waiting.foldl (fun (best : Option (Nat × Nat)) e =>
    if !u.permitted th e.1 then best else
    match best with
    | none => some e
    | some b => if e.2 < b.2 || (e.2 == b.2 && decide (e.1 < b.1)) then some e else best) none).map (fun b => b.1)

/-- A thread made READY (R418, R419, R438): at the tail of its ready list, dispatched to the permitted core that has
waited longest, else asking a less urgent run to yield. -/
def U.makeReady (u : U) (t : TimeBase) (th : Nat) : U :=
  let u := (u.wr (R.SCH_THR_STAT_STATE th) 2).wr (R.SCH_THR_STAT_DL_VALID th) 0
  let u := (u.withSch (fun s => { s with ready := s.ready ++ [th] })).syncDepth
  let u := if (List.range 16).any (fun c => u.permitted th c && u.coreUp c) then u
    else u.raise t SCH.AFF_EMPTY (SCH.det 0 th)
  match u.longestWait th with
  | some c => u.dispatch t c th
  | none => match u.preemptTarget th with
    | some c => u.setPreempt c
    | none => u

/-- Every WAITING thread with a deliverable item made READY, in order of queueing (R430). -/
def U.settle (u : U) (t : TimeBase) : U :=
  u.sch.items.foldl (fun u i =>
    if u.thr i.thread = 1 && i.thread != 0 && (u.deliverable i.thread).isSome then u.makeReady t i.thread else u) u

/-- An item queued on a flow (R427, R428, R433); `none` when the pool is full. -/
def U.queueItem (u : U) (t : TimeBase) (flow th src data : Nat) (event : Bool) : Option Nat × U :=
  if u.sch.items.length ≥ 1024 then (none, u) else
  let seq := u.rd (R.SCH_FLOW_SEQ_NEXT_SEQ flow)
  let u := u.withSch (fun s => { s with items := s.items ++ [⟨flow, seq, src, data, th, .queued, t.t16, 0, event⟩] })
  let u := (u.wr (R.SCH_FLOW_SEQ_NEXT_SEQ flow) (seq + 1)).syncFlow flow
  let u := if u.countItems flow .queued ≥ u.rd (R.SCH_FLOW_CFG_QWARN flow) && !u.sch.qhigh.contains flow
    then (u.withSch (fun s => { s with qhigh := s.qhigh ++ [flow] })).raise t SCH.QHIGH [] else u
  let low := decide (1024 - u.sch.items.length < 64)
  let u := if low && !u.sch.poolLow then u.raise t SCH.POOL_LOW [] else u
  let u := u.withSch (fun s => { s with poolLow := low })
  (some seq, u.settle t)

/-- An event of a source delivered to the scheduler (R426, R427). -/
def U.deliverEvent (u : U) (t : TimeBase) (src : Nat) : U :=
  let flow := u.rd (R.SCH_SRC_FLOW src)
  let th := u.rd (R.SCH_SRC_THREAD src)
  if flow = 0 || th = 0 then u
  else if u.on (R.SCH_SRC_PEND src) then u.inc R.SCH_POOL_COAL_CNT
  else match u.queueItem t flow th src 0 true with
    | (some _, u') => u'.wr (R.SCH_SRC_PEND src)
        (b2n (u'.sch.items.any (fun i => i.event && i.src == src && i.state == .queued)))
    | (none, u') => u'

/-- The events in flight delivered in order; afterwards none is in flight. -/
def U.drain : Nat → U → TimeBase → U
  | 0, u, _ => { u with evq := [] }
  | n + 1, u, t =>
    match u.evq with
    | [] => u
    | s :: rest => U.drain n (({ u with evq := rest }).deliverEvent t s) t

/-- Whether the release ring has room, or is not used (R431, R432). -/
def U.ringRoom (u : U) (flow : Nat) : Bool :=
  u.rd (R.SCH_FLOW_CFG_RING flow) = 0 || u.rd R.SCH_RR_SIZE_SIZE = 0 ||
    (u.rd R.SCH_RR_PROD_PROD + 1) % u.rd R.SCH_RR_SIZE_SIZE != u.rd R.SCH_RR_CONS_CONS

/-- One item released (R431): its ring entry and the item of the NEXT flow. -/
def U.releaseItem (u : U) (t : TimeBase) (i : Item) : U :=
  let u := u.withSch (fun s => { s with items := s.items.filter (fun j => !(j.flow == i.flow && j.seq == i.seq)) })
  let u := (u.wr (R.SCH_FLOW_SEQ_REL_SEQ i.flow) (i.seq + 1)).syncFlow i.flow
  let u := if u.on (R.SCH_FLOW_CFG_RING i.flow) && u.on R.SCH_RR_SIZE_SIZE then
      let p := u.rd R.SCH_RR_PROD_PROD
      let a := u.rd R.SCH_RR_BASE_BASE * 16 + p * 16
      let e := i.flow + 2 ^ 16 * i.seq + 2 ^ 32 * i.src + 2 ^ 64 * i.res + 2 ^ 96 * t.dn
      (u.memWrite a 16 e).wr R.SCH_RR_PROD_PROD ((p + 1) % u.rd R.SCH_RR_SIZE_SIZE)
    else u
  let next := u.rd (R.SCH_FLOW_CFG_NEXT i.flow)
  let th := u.rd (R.SCH_FLOW_CFG_DEF_THREAD next)
  if next = 0 || th = 0 then u else (u.queueItem t next th i.src i.res false).2

/-- The completed items of a flow released in sequence order as far as they can be (R431, R432). -/
def U.release : Nat → U → TimeBase → Nat → U
  | 0, u, _, _ => u
  | n + 1, u, t, flow =>
    match u.sch.items.find? (fun i => i.flow == flow && i.state == .held &&
        i.seq == u.rd (R.SCH_FLOW_SEQ_REL_SEQ flow)) with
    | none => u
    | some i =>
      if u.ringRoom flow && (u.rd (R.SCH_FLOW_CFG_NEXT flow) = 0 || u.sch.items.length < 1024) then
        U.release n ((u.releaseItem t i).withSch (fun s => { s with stalled := s.stalled.filter (· != flow) })) t flow
      else if u.sch.stalled.contains flow then u
      else (u.withSch (fun s => { s with stalled := s.stalled ++ [flow] })).raise t SCH.STALL []

/-- A release that waited takes place, and what it makes deliverable is made READY (R430, R432). -/
def U.resume (u : U) (t : TimeBase) (flow : Nat) : U := (U.release 1024 u t flow).settle t

/-- A core without its run, whose time counts as busy (R434). -/
def U.endBusy (u : U) (t : TimeBase) (core : Nat) (r : Run) : U :=
  u.withSch (fun s => { s with
    runs := s.runs.erase core,
    winBusy := s.winBusy.set core (s.winBusy.get core 0 + (t.t16 - max r.start u.sch.winStart)) })

/-- The run of a core ended (R420, R431): the core free of its thread, its item completed and released as far as it can be. The thread
itself changes its state after that (log entry 131). -/
def U.closeRun (u : U) (t : TimeBase) (core : Nat) (r : Run) : U :=
  let u := (u.endBusy t core r).withSch (fun s => { s with meip := clrBit s.meip core })
  let u := ((u.wr (R.SCH_CORE_STAT_STATE core) 0).wr (R.SCH_CORE_STAT_THREAD core) 0).wr
    (R.SCH_CORE_STAT_PREEMPT core) 0
  let u := u.wr (R.SCH_THR_STAT_FLOW r.thread) 0
  match r.item with
  | none => u
  | some (flow, seq) =>
    let res := u.rd (R.SCH_END_RES_RES core)
    let finish := fun (j : Item) => if j.flow == flow && j.seq == seq then { j with state := .held, res := res } else j
    let u := u.withSch (fun s => { s with items := s.items.map finish })
    U.release 1025 (u.syncFlow flow) t flow

/-- The end of a run with a disposition: 0 WAIT, 1 WAIT_UNTIL, 2 YIELD, 3 EXIT (R414, R420, R424). -/
def U.endRun (u : U) (t : TimeBase) (core disp : Nat) : U :=
  match u.sch.runs.find? core with
  | none => u.raise t SCH.CMD_REJ (SCH.det core 0)
  | some r =>
    let th := r.thread
    let u := (u.closeRun t core r).wr (R.SCH_THR_STAT_STATE th) 1
    let plain := fun (u : U) (k : Nat) => u.withSch (fun s => { s with plain := s.plain.set th (s.plain.get th k) })
    let u :=
      if disp = 3 then
        ((u.wr (R.SCH_THR_STAT_STATE th) 0).wr (R.SCH_THR_STAT_WAKE th) 0).withSch
          (fun s => { s with plain := s.plain.erase th })
      else if disp = 2 then (plain u 0).makeReady t th
      else if u.on (R.SCH_THR_STAT_WAKE th) then (plain (u.wr (R.SCH_THR_STAT_WAKE th) 0) 0).makeReady t th
      else if (u.sch.plain.find? th).isSome then u.makeReady t th
      else if disp = 1 then
        let dl := u.rd (R.SCH_END_DN_DN core)
        if dnDiff dl t.dn ≤ 0 then (plain u 2).makeReady t th
        else (u.wr (R.SCH_THR_STAT_DL_VALID th) 1).wr (R.SCH_THR_DL_DN th) dl
      else u
    u.settle t

/-- A read of SCH_WAIT (R416, R417): an open run ends as WAIT; the core waits, and takes a ready thread at once. -/
def U.waitRead (u : U) (t : TimeBase) (core : Nat) : U :=
  if !u.coreUp core || (u.sch.waiting.find? core).isSome then u else
  let u := match u.sch.runs.find? core with
    | some _ => (u.endRun t core 0).inc (R.SCH_CORE_CNT_IMPLICIT_CNT core)
    | none => u
  let u := (u.wr (R.SCH_CORE_STAT_PREEMPT core) 0).withSch (fun s => { s with meip := clrBit s.meip core })
  match u.bestReady core with
  | some th => u.dispatch t core th
  | none => u.withSch (fun s => { s with waiting := s.waiting.set core t.ref })

/-- The outcome of a command in SCH_CMD_RES (R422); a core blocked on it receives it at once. -/
def U.cmdResult (u : U) (core status seq : Nat) : U :=
  let u := (u.wr (R.SCH_CMD_RES_STATUS core) status).wr (R.SCH_CMD_RES_SEQ core) seq
  if u.sch.blocked.contains core then
    (u.emit (.readData core 0x400530028 (status + 2 ^ 16 * seq))).withSch
      (fun s => { s with blocked := s.blocked.filter (· != core) })
  else u.withSch (fun s => { s with resReady := s.resReady.filter (· != core) ++ [core] })

/-- Whether a thread number names a thread context (R413, R422). -/
def thrOk (th : Nat) : Bool := decide (0 < th) && decide (th < 256)

/-- A thread taken off its ready list. -/
def U.unready (u : U) (th : Nat) : U :=
  (u.withSch (fun s => { s with ready := s.ready.filter (· != th), plain := s.plain.erase th })).syncDepth

/-- CREATE (R422); an item that waits for the thread makes it READY (R430). -/
def U.cmdCreate (u : U) (t : TimeBase) (core th : Nat) : U :=
  if !thrOk th then u.cmdResult core 2 0
  else if u.thr th ≠ 0 then u.cmdResult core 3 0
  else ((u.wr (R.SCH_THR_STAT_STATE th) 1).settle t).cmdResult core 0 0

/-- DESTROY (R422). -/
def U.cmdDestroy (u : U) (core th : Nat) : U :=
  if !thrOk th then u.cmdResult core 2 0
  else if u.thr th = 1 || u.thr th = 2 then
    (((u.unready th).wr (R.SCH_THR_STAT_STATE th) 0).wr (R.SCH_THR_STAT_DL_VALID th) 0).cmdResult core 0 0
  else if u.thr th = 0 then u.cmdResult core 0 0
  else u.cmdResult core 3 0

/-- READY (R414, R422). -/
def U.cmdReady (u : U) (t : TimeBase) (core th : Nat) : U :=
  if !thrOk th then u.cmdResult core 2 0
  else match u.thr th with
    | 1 => ((u.withSch (fun s => { s with plain := s.plain.set th 0 })).makeReady t th).cmdResult core 0 0
    | 2 => u.cmdResult core 0 0
    | 3 => (u.wr (R.SCH_THR_STAT_WAKE th) 1).cmdResult core 0 0
    | 0 => u.cmdResult core 2 0
    | _ => u.cmdResult core 3 0

/-- CANCEL (R422, R423). -/
def U.cmdCancel (u : U) (t : TimeBase) (core th : Nat) : U :=
  if !thrOk th then u.cmdResult core 2 0
  else match u.thr th with
    | 2 => (((u.unready th).wr (R.SCH_THR_STAT_STATE th) 1).settle t).cmdResult core 0 0
    | 3 => u.cmdResult core 1 0
    | 1 => (u.wr (R.SCH_THR_STAT_DL_VALID th) 0).cmdResult core 0 0
    | 0 => u.cmdResult core 2 0
    | _ => u.cmdResult core 3 0

/-- READY of one core and CANCEL of another in the same handshake (R423): the READY served first, the CANCEL after it, and a thread that
was WAITING is not dispatched between them. -/
def U.cmdReadyCancel (u : U) (t : TimeBase) (core th other : Nat) : U :=
  if thrOk th && u.thr th == 1 then ((u.wr (R.SCH_THR_STAT_DL_VALID th) 0).cmdResult core 0 0).cmdResult other 0 0
  else (u.cmdReady t core th).cmdCancel t other th

/-- RESTART (R422). -/
def U.cmdRestart (u : U) (t : TimeBase) (core th : Nat) : U :=
  if !thrOk th then u.cmdResult core 2 0
  else if u.thr th = 4 then ((u.wr (R.SCH_THR_STAT_STATE th) 1).settle t).cmdResult core 0 0
  else u.cmdResult core 3 0

/-- POST (R433). -/
def U.cmdPost (u : U) (t : TimeBase) (core flow : Nat) : U :=
  if flow = 0 || flow ≥ 64 then u.cmdResult core 2 0
  else
    let th := u.rd (R.SCH_FLOW_CFG_DEF_THREAD flow)
    if th = 0 then u.cmdResult core 4 0
    else match u.queueItem t flow th 0x100 (u.rd (R.SCH_CMD_DATA_DATA core)) false with
      | (some seq, u') => u'.cmdResult core 0 seq
      | (none, u') => u'.cmdResult core 4 0

/-- A core held in block reset in a state: 2 RETIRED, 3 OFF (R437). -/
def U.stopCore (u : U) (core st : Nat) : U :=
  let u := u.withSch (fun s => { s with
    waiting := s.waiting.erase core,
    blocked := s.blocked.filter (· != core), resReady := s.resReady.filter (· != core),
    msip := clrBit s.msip core, meip := clrBit s.meip core })
  ((u.wr (R.SCH_CORE_STAT_STATE core) st).wr (R.SCH_CORE_STAT_THREAD core) 0).wr (R.SCH_CORE_STAT_PREEMPT core) 0

/-- A core retired (R436, R437): held in block reset, its thread FAULTED with its item still in service (log entry 131), CORE_RET
raised. -/
def U.retireCore (u : U) (t : TimeBase) (core : Nat) : U :=
  let u := match u.sch.runs.find? core with
    | some r =>
      let u := (u.endBusy t core r).wr (R.SCH_THR_STAT_STATE r.thread) 4
      u.raise t SCH.THREAD_FAULT (SCH.det core r.thread)
    | none => u
  let u := u.stopCore core 2
  u.raiseRlq t (SCH.CORE_RET core) 4 (SCH.det core 0)

/-- An error in a core's L1 or register file (R436, R452, R454): `kind` 0 uncorrectable in a dirty L1-D line or the register file, which
retires the core; 1 uncorrectable in L1-I or a clean L1-D line, which is fetched again; 2 corrected. A core that is retired or off has
none. -/
def U.coreError (u : U) (t : TimeBase) (core kind : Nat) : U :=
  if !u.coreUp core then u
  else if kind = 0 then (u.retireCore t core).uncorrected t
  else if kind = 1 then (u.inc (R.SCH_CORE_CNT_REFETCH_CNT core)).uncorrected t
  else (u.inc (R.SCH_CORE_CNT_SCRUB_CNT core)).onMem t (fun io => io.tableError 0x400000000 1)

/-- RETIRE_CORE (R422, R437). -/
def U.cmdRetire (u : U) (t : TimeBase) (core target : Nat) : U :=
  if target ≥ 16 then u.cmdResult core 2 0
  else if (u.sch.runs.find? target).isSome then u.cmdResult core 3 0
  else if !u.coreUp target then u.cmdResult core 0 0
  else (u.retireCore t target).cmdResult core 0 0

/-- RESTORE_CORE (R422, R437): the core starts at the secondary-core entry. -/
def U.cmdRestore (u : U) (core target : Nat) : U :=
  if target ≥ 16 then u.cmdResult core 2 0
  else if u.rd (R.SCH_CORE_STAT_STATE target) ≠ 2 then u.cmdResult core 3 0
  else
    let entry := u.rd R.SYS_CORE_ENTRY_L_ENTRY_LO * 4 + 2 ^ 32 * u.rd R.SYS_CORE_ENTRY_H_ENTRY_HI
    ((u.wr (R.SCH_CORE_STAT_STATE target) 0).emit (.coreStart target entry)).cmdResult core 0 0

/-- Insertion of an expired thread in order of deadline, then thread ID (R425). -/
def insertExpired (e : Int × Nat) : List (Int × Nat) → List (Int × Nat)
  | [] => [e]
  | x :: l => if e.1 > x.1 || (e.1 = x.1 && e.2 < x.2) then e :: x :: l else x :: insertExpired e l

/-- The timetable at the boundary of `dn` (R424, R425). -/
def U.timetable (u : U) (t : TimeBase) (dn : Nat) : U :=
  let due := (List.range 256).foldl (fun l th =>
    if th != 0 && u.on (R.SCH_THR_STAT_DL_VALID th) && dnDiff dn (u.rd (R.SCH_THR_DL_DN th)) ≥ 0
    then insertExpired (dnDiff dn (u.rd (R.SCH_THR_DL_DN th)), th) l else l) []
  due.foldl (fun u e =>
    ((u.wr (R.SCH_THR_STAT_DL_VALID e.2) 0).withSch (fun s => { s with plain := s.plain.set e.2 2 })).makeReady t
      e.2) u

/-- A run longer than RUN_MAX (R421). -/
def U.longRun (u : U) (t : TimeBase) (core : Nat) : U :=
  match u.sch.runs.find? core with
  | none => u
  | some r =>
    if u.rd R.SCH_CTL_RUN_MAX = 0 || r.long || t.t16 - r.start ≤ u.rd R.SCH_CTL_RUN_MAX * 16000 then u
    else
      let u := u.withSch (fun s => { s with runs := s.runs.set core { r with long := true } })
      (u.raise t (SCH.LONG_RUN core) (SCH.det core r.thread)).setPreempt core

/-- The pace of a core over the latest complete µs (R412). -/
def U.paceCheck (u : U) (t : TimeBase) (core pace : Nat) : U :=
  let u := u.wr (R.SCH_CORE_PACE_LAST core) (min pace 2047)
  match u.sch.runs.find? core with
  | none => u
  | some r =>
    let u := u.wr (R.SCH_CORE_PACE_MIN core) (min (u.rd (R.SCH_CORE_PACE_MIN core)) (min pace 2047))
    if pace < u.rd R.SCH_CTL_PACE_LIM then u.raise t (SCH.SLOW core) (SCH.det core r.thread) else u

/-- The end of a 1 ms window: LOAD and RUNS of each core (R434). -/
def U.loadWindow (u : U) (t : TimeBase) : U :=
  let u := u.each (List.range 16) (fun u c =>
    let open_ := match u.sch.runs.find? c with
      | some r => t.t16 - max r.start u.sch.winStart
      | none => 0
    let busy := u.sch.winBusy.get c 0 + open_
    (u.wr (R.SCH_CORE_LOAD_LOAD c) (satU 16 (rdiv (busy * 65536) 16000000)).toNat).wr (R.SCH_CORE_LOAD_RUNS c)
      (min 65535 (u.sch.winRuns.get c 0)))
  u.withSch (fun s => { s with winStart := t.t16, winBusy := [], winRuns := [] })

/-- A write of SCH_IPI (R411, R577). -/
def U.ipiWrite (u : U) (core v : Nat) : U :=
  u.withSch (fun s =>
    let m := s.msip ||| (v % 65536)
    { s with msip := if bitAt v 16 then clrBit m core else m })

/-- A write to a source binding (R427, R603). -/
def U.srcWrite (u : U) (t : TimeBase) (src v : Nat) : U :=
  let same := u.rd (R.SCH_SRC_FLOW src) = bits v 0 6 && u.rd (R.SCH_SRC_THREAD src) = bits v 8 8
  if same then u
  else if u.on (R.SCH_SRC_PEND src) then u.raise t SCH.CMD_REJ []
  else (u.wr (R.SCH_SRC_FLOW src) (bits v 0 6)).wr (R.SCH_SRC_THREAD src) (bits v 8 8)

/-- A read of SCH_CMD_RES (R422). -/
def U.cmdResRead (u : U) (core : Nat) : U :=
  if u.sch.resReady.contains core then
    (u.emit (.readData core 0x400530028 (u.rd (R.SCH_CMD_RES_STATUS core) + 2 ^ 16 * u.rd (R.SCH_CMD_RES_SEQ core)))).withSch
      (fun s => { s with resReady := s.resReady.filter (· != core) })
  else u.withSch (fun s => { s with blocked := s.blocked.filter (· != core) ++ [core] })

end Sys2Proof.Machine
end

