-- ==== Sys2Proof/Machine/Time.lean ====
section
/-! DEFINITION. Station time, the departure generator, offset steps, the PTP stamps (R31 to R52). -/
namespace Sys2Proof.Machine

namespace TIM
def START_LATE : Cause := ⟨B.TIM, 0, some 0, 113, false, 1⟩
def STEP_REJ : Cause := ⟨B.TIM, 1, some 0, 115, false, 1⟩
def INC_REJ : Cause := ⟨B.TIM, 2, some 0, 116, false, 1⟩
def SET_REJ : Cause := ⟨B.TIM, 3, some 0, 117, false, 1⟩
def STOP_REJ : Cause := ⟨B.TIM, 4, some 0, 118, false, 1⟩
def PEER_OVER : Cause := ⟨B.TIM, 5, some 1, 124, false, 1⟩
def TB_ERR : Cause := ⟨B.TIM, 6, some 2, 126, false, 1⟩
def TXQ_OVF (p : Nat) : Cause := ⟨B.TIM, 10 + p, some 0, 120 + p, false, 1⟩
def DEP_RUN : Cause := ⟨B.TIM, 16, none, 112, false, 1⟩
def STEP_DONE : Cause := ⟨B.TIM, 17, none, 114, false, 1⟩
def TIME_STATE : Cause := ⟨B.TIM, 18, none, 119, false, 1⟩
def ERA : Cause := ⟨B.TIM, 19, none, 125, false, 1⟩
end TIM

/-- The nominal TIM_INC of a CLK_MODE strap in UQ32.32 ns (table before R35). -/
def nominalInc (mode : Nat) : Nat :=
  match mode with
  | 0 => 0x666666666
  | 1 => 40 * 2 ^ 32
  | _ => 10 * 2 ^ 32

/-- The nominal reference period of a CLK_MODE strap in 1/80 ns. -/
def nominal80 (mode : Nat) : Nat :=
  match mode with
  | 0 => 512
  | 1 => 3200
  | _ => 800

/-- Whether an increment lies within ±1,000 ppm of nominal (R37). -/
def incOk (mode inc : Nat) : Bool :=
  decide (((inc : Int) - nominalInc mode).natAbs * 1000 ≤ nominalInc mode)

/-- Station time at a count of 2^-32 ns since the epoch, at a tick. -/
def TimeBase.place (t : TimeBase) (x : Nat) : TimeBase :=
  { t with
    sec := x / 2 ^ 32 / 1000000000 % 2 ^ 48, ns := x / 2 ^ 32 % 1000000000, frac := x % 2 ^ 32, elapsed := 0 }

/-- The count of 2^-32 ns at the last tick. -/
def TimeBase.raw (t : TimeBase) : Nat := (t.sec * 1000000000 + t.ns) * 2 ^ 32 + t.frac

/-- One reference tick (R36): the committed increment taken up and added. -/
def TimeBase.tick (t : TimeBase) (mode : Nat) : TimeBase :=
  let inc := t.incNext.getD t.inc
  { (t.place (t.raw + inc)) with inc := inc, incNext := none, ref80 := t.ref80 + nominal80 mode, since := 0 }

/-- The event of an advanced era (R31). -/
def U.eraEvent (u : U) (old new : TimeBase) : U :=
  if new.t16 / 2 ^ 64 > old.t16 / 2 ^ 64 then u.raise new TIM.ERA [] else u

/-- TIM beside its registers replaced. -/
def U.withTim (u : U) (f : TimHid → TimHid) : U := { u with tim := f u.tim }

/-- The comparison of TIM_DEP_START with the current DN that START and a new value make (R38): a late start stands until STOP, whatever
TIM_DEP_START then holds. -/
def U.depCompare (u : U) (t : TimeBase) : U :=
  let u := (u.wr R.TIM_DEP_CTL_STATE 1).wr R.TIM_DEP_CTL_START 1
  if dnDiff (u.rd R.TIM_DEP_START_DN_START) t.dn ≤ 0 then
    (u.withTim (fun h => { h with runNext := true })).raise t TIM.START_LATE []
  else u

/-- STOP written to TIM_DEP_CTL (R38). -/
def U.depStop (u : U) (t : TimeBase) : U :=
  let st := u.rd R.TIM_DEP_CTL_STATE
  if st = 1 || (st = 2 && u.rd R.DEP_CTL_CONV_EN = 0) then
    ((u.wr R.TIM_DEP_CTL_STATE 0).wr R.TIM_DEP_CTL_START 0).withTim (fun h => { h with runNext := false })
  else if st = 2 then u.raise t TIM.STOP_REJ []
  else u

/-- START written to TIM_DEP_CTL (R38); with STOP in the same write it acts as STOP alone. -/
def U.depStart (u : U) (t : TimeBase) (stop : Bool) : U :=
  if stop then u.depStop t
  else if u.rd R.TIM_DEP_CTL_STATE = 2 then u
  else u.depCompare t

/-- A write of TIM_DEP_START (R38). -/
def U.depStartWrite (u : U) (t : TimeBase) (v : Nat) : U :=
  let u := u.wr R.TIM_DEP_START_DN_START v
  if u.rd R.TIM_DEP_CTL_STATE = 1 then u.depCompare t else u

/-- The generator at the boundary of `dn` (R38): RUNNING from it when the start DN is reached or the start is late. -/
def U.depGenerator (u : U) (t : TimeBase) (dn : Nat) : U :=
  if u.rd R.TIM_DEP_CTL_STATE = 1 && (u.tim.runNext || u.rd R.TIM_DEP_START_DN_START = dn) then
    let u := (u.wr R.TIM_DEP_CTL_STATE 2).wr R.TIM_DEP_CTL_START 0
    let u := u.withTim (fun h => { h with runNext := false })
    let u := { u with dep := { u.dep with ranSince := true, fresh := List.range 12 } }
    u.raise t TIM.DEP_RUN []
  else u

/-- A write to TIM_INC_INT (R36, R37). -/
def incIntWrite (t : TimeBase) (u : U) (v : Nat) : TimeBase × U :=
  let inc := v % 2 ^ 32 * 2 ^ 32 + u.rd R.TIM_INC_FRAC_FRAC
  if incOk (u.rd R.SYS_STRAP_CLK_MODE) inc then
    ({ t with incNext := some inc }, u.wr R.TIM_INC_INT_INT v)
  else (t, u.raise t TIM.INC_REJ [])

/-- A write to TIM_STEP (R40, R41). -/
def U.stepWrite (u : U) (v : Nat) : U :=
  (u.wr R.TIM_STATUS_STEP_PEND 1).withTim (fun h => { h with step := some (sx 32 v), stepBnd := false })

/-- Whether a pending step of `d` sixteenths of a ns is refused at its tick (R40, R41): the limits of R41 are tested there too, and not
at the write (log entry 121). -/
def U.stepRefused (u : U) (t : TimeBase) (d : Int) : Bool :=
  decide ((t.raw : Int) + d * 2 ^ 28 < 0) ||
    (u.rd R.TIM_DEP_CTL_STATE = 2 &&
      (decide (d.natAbs > u.rd R.TIM_STEP_LIM_STEP_MAX * 16) ||
        (match u.tim.lastStep with
         | some n => decide (n < u.rd R.TIM_STEP_LIM_STEP_GAP)
         | none => false)))

/-- A pending step at its tick (R39, R40, R41). While departures run it waits for the boundary after the write. -/
def stepApply (t : TimeBase) (u : U) : TimeBase × U :=
  match u.tim.step with
  | none => (t, u)
  | some d =>
    let running := u.rd R.TIM_DEP_CTL_STATE = 2
    if running && !u.tim.stepBnd then (t, u) else
    let u := (u.wr R.TIM_STATUS_STEP_PEND 0).withTim (fun h => { h with step := none, stepBnd := false })
    if u.stepRefused t d then (t, u.raise t TIM.STEP_REJ []) else
    let t' := { t.place ((t.raw : Int) + d * 2 ^ 28).toNat with elapsed := t.elapsed }
    let t' := if running then t' else { t' with lastUs := t'.us }
    let u := u.withTim (fun h => { h with lastStep := some 0 })
    let u := (u.raise t' TIM.STEP_DONE []).eraEvent t t'
    let start := u.rd R.TIM_DEP_START_DN_START
    let passed := u.rd R.TIM_DEP_CTL_STATE = 1 && !u.tim.runNext && dnDiff start (t.lastUs % 2 ^ 32) > 0 && dnDiff start (t'.lastUs % 2 ^ 32) ≤ 0
    (t', if passed then (u.withTim (fun h => { h with runNext := true })).raise t' TIM.START_LATE [] else u)

/-- A write of TIM_SET_NS with LOAD (R42). -/
def setLoad (t : TimeBase) (u : U) (v : Nat) : TimeBase × U :=
  let ns := bits v 0 30
  if u.rd R.TIM_DEP_CTL_STATE ≠ 0 || ns ≥ 1000000000 then (t, u.raise t TIM.SET_REJ [])
  else
    let sec := u.rd R.TIM_SET_SECL_SEC_LO + 2 ^ 32 * u.rd R.TIM_SET_SECH_SEC_HI
    let t' := { t with sec := sec, ns := ns, frac := 0, elapsed := 0 }
    ({ t' with lastUs := t'.us }, u.wr R.TIM_SET_NS_NS ns)

/-- A read of TIM_NOW_TSL by a core (R51): its six registers latch, and the read returns the low word. -/
def U.nowLatch (u : U) (t : TimeBase) (core : Nat) : U :=
  let u := (u.wr (R.TIM_NOW_TSL_TS_LO core) t.ts64).wr (R.TIM_NOW_TSH_TS_HI core) (t.ts64 / 2 ^ 32)
  let u := (u.wr (R.TIM_NOW_SECH_SEC_HI core) (t.tns / 1000000000 / 2 ^ 32)).wr (R.TIM_NOW_SECH_ERA core) t.era
  let u := (u.wr (R.TIM_NOW_SECL_SEC_LO core) (t.tns / 1000000000)).wr (R.TIM_NOW_NS_NS core) (t.tns % 1000000000)
  (u.wr (R.TIM_NOW_DN_DN core) t.dn).emit (.readData core 0x400010020 (t.ts64 % 2 ^ 32))

/-- A write of TIM_CTL (R50, R51): a new TIME_STATE raises its Info cause; the codes 0b11 leave their fields. -/
def U.timCtlWrite (u : U) (t : TimeBase) (v : Nat) : U :=
  let u := if bits v 0 2 = 3 then u else u.wr R.TIM_CTL_PTP_PAIR (bits v 0 2)
  let u := u.wr R.TIM_CTL_PTP_DOMAIN (bits v 8 8)
  let st := bits v 4 2
  if st = 3 || st = u.rd R.TIM_CTL_TIME_STATE then u
  else (u.wr R.TIM_CTL_TIME_STATE st).raise t TIM.TIME_STATE []

/-- The queue of a port. -/
def U.txq (u : U) (p : Nat) : List TxEntry := u.tim.txq.get p []

/-- A transmit time-stamp queue replaced, with the registers that show its count and head (R44). -/
def U.setTxq (u : U) (p : Nat) (q : List TxEntry) : U :=
  let u := u.withTim (fun h => { h with txq := Tbl.put [] h.txq p q })
  let u := u.wr (R.TIM_TXQ_STAT_COUNT p) q.length
  match q with
  | [] => ((((u.wr (R.TIM_TXQ_HEAD_PORT p) 0).wr (R.TIM_TXQ_HEAD_MSG_TYPE p) 0).wr (R.TIM_TXQ_HEAD_SEQ_ID p) 0).wr
      (R.TIM_TXQ_TSL_TS_LO p) 0).wr (R.TIM_TXQ_TSH_TS_HI p) 0
  | e :: _ => ((((u.wr (R.TIM_TXQ_HEAD_PORT p) p).wr (R.TIM_TXQ_HEAD_MSG_TYPE p) e.msgType).wr
      (R.TIM_TXQ_HEAD_SEQ_ID p) e.seqId).wr (R.TIM_TXQ_TSL_TS_LO p) e.ts).wr (R.TIM_TXQ_TSH_TS_HI p) (e.ts / 2 ^ 32)

/-- A transmitted PTP event message stamped and queued (R44, R45). -/
def U.ptpTx (u : U) (t : TimeBase) (p msgType seqId raw : Nat) : U :=
  let ts := (raw + u.rd (R.TIM_PORT_LAT_EGRESS p)) % 2 ^ 64
  if (u.txq p).length ≥ 16 then
    ((u.inc (R.TIM_TXQ_STAT_DROP p)).wr (R.TIM_TXQ_STAT_OVF p) 1).raise t (TIM.TXQ_OVF p) [(8, 2, p)]
  else u.setTxq p (u.txq p ++ [⟨msgType % 16, seqId % 65536, ts⟩])

/-- The head entry of a queue removed; ignored when the queue is empty (R51). -/
def U.txqPop (u : U) (p : Nat) : U :=
  match u.txq p with
  | [] => u
  | _ :: q => u.setTxq p q

/-- A Sync forwarded between the HSR ring ports while PTP runs on them (R43): the residence time in 2^-16 ns added to the correctionField.
While it does not, a Sync is forwarded as any frame is (R272). -/
def U.hsrForward (u : U) (p seqId : Nat) (oneStep : Bool) (correction rx tx : Nat) : U :=
  if !u.on R.PBX_CTL_HSR_EN || u.rd R.TIM_CTL_PTP_PAIR ≠ 1 then u else
  let res : Int := tsDiff tx rx * 2 ^ 12
  u.emit (.hsrForward (if p = 2 then 3 else 2) seqId (enc 64 ((correction : Int) + res)) oneStep)

end Sys2Proof.Machine
end

