-- ==== Sys2Proof/Machine/Sensors.lean ====
section
/-! DEFINITION. Direct sensor ports and sequence monitors (R253 to R270, R283, R284, R602). -/
namespace Sys2Proof.Machine

namespace SNS
def TIMEOUT (p : Nat) : Cause := ⟨B.SNS, 0, some 1, 64 + p / 2, false, 1⟩
def PORT_RET (p : Nat) : Cause := ⟨B.SNS, 1, some 1, 64 + p / 2, false, 1⟩
def THR (p : Nat) : Cause := ⟨B.SNS, 2, none, 64 + p / 2, false, 1⟩
def REVERSAL (m : Nat) : Cause := ⟨B.SNS, 3, some 1, 80 + m, false, 1⟩
def FREQ_BAD (m : Nat) : Cause := ⟨B.SNS, 4, some 1, 80 + m, false, 1⟩
def INPUT_LOST (m : Nat) : Cause := ⟨B.SNS, 5, some 1, 80 + m, false, 1⟩
def WR_REJ : Cause := ⟨B.SNS, 6, some 0, 83, false, 1⟩
/-- UNIT of SNS_FIRST. -/
def det (n : Nat) : List (Nat × Nat × Nat) := [(8, 5, n)]
end SNS

/-- The hidden state of a port replaced. -/
def U.setPort (u : U) (p : Nat) (f : Port → Port) : U := { u with ports := u.ports.set p (f (u.port p)) }

/-- A board entry written, as a signed 32-bit value (R216). -/
def U.setBoard (u : U) (n : Nat) (v : Int) : U := u.wr (R.LPE_BOARD_VALUE n) (enc 32 (satS 32 v))

/-- The output of a comparator. -/
def tripFld (p k : Nat) : Fld := if k = 0 then R.SNS_PSTAT_TRIP0 p else R.SNS_PSTAT_TRIP1 p

/-- The output of a comparator changed (R266): THR and, with AV_EN, an avalanche on a change to tripped. -/
def U.setTrip (u : U) (t : TimeBase) (p k : Nat) (b : Bool) : U :=
  let was := u.on (tripFld p k)
  let u := u.put (tripFld p k) b
  if b && !was then
    let u := u.raise t (SNS.THR p) (SNS.det p)
    if u.on (R.SNS_THR_CFG_AV_EN p k) then u.avalanche t 2 p else u
  else u

/-- Both comparators to FAILTRIP (R265). -/
def U.failTrip (u : U) (t : TimeBase) (p : Nat) : U :=
  let u := u.setTrip t p 0 (u.on (R.SNS_THR_CFG_FAILTRIP p 0))
  u.setTrip t p 1 (u.on (R.SNS_THR_CFG_FAILTRIP p 1))

/-- The deadline of a port from a time: (TIMEOUT + 0.5) × NOM_PERIOD later (R262), in 1/80 ns. -/
def U.portDeadline (u : U) (p at_ : Nat) : Nat :=
  at_ + (2 * u.rd (R.SNS_PERIOD_TIMEOUT p) + 1) * 40 * u.rd (R.SNS_PERIOD_NOM_PERIOD p)

/-- Whether a port is in use: the odd port of a pair is not (R257). -/
def U.portUsed (u : U) (p : Nat) : Bool := p % 2 == 0 || !u.on (R.SNS_PCFG_PAIR (p - 1))

/-- A port retired (R263). -/
def U.portRetire (u : U) (t : TimeBase) (p : Nat) : U :=
  let u := (u.wr (R.SNS_PSTAT_STATE p) 4).setPort p (fun h => { h with dead := none })
  (u.raise t (SNS.PORT_RET p) (SNS.det p)).failTrip t p

/-- An error of a port that is on, in its error window (R262, R263). In RETIRED the window goes on counting. -/
def U.portError (u : U) (t : TimeBase) (p : Nat) : U :=
  if u.rd (R.SNS_PSTAT_STATE p) = 0 then u else
  let inside := match (u.port p).win with
    | some e => decide (t.ref < e)
    | none => false
  let n := if inside then u.rd (R.SNS_PSTAT_ERRS p) + 1 else 1
  let end_ := t.ref + u.rd (R.SNS_ERR_ERR_WIN p) * 80000
  let u := u.setPort p (fun h => { h with valid := 0, win := if inside then h.win else some end_ })
  let u := u.wr (R.SNS_PSTAT_ERRS p) (min 255 n)
  if u.rd (R.SNS_PSTAT_STATE p) ≠ 4 ∧ n > u.rd (R.SNS_ERR_ERR_MAX p) then u.portRetire t p else u

/-- One comparator against an accepted sample (R265). -/
def U.compare (u : U) (t : TimeBase) (p k : Nat) (x : Int) : U :=
  let lvl := u.rdS (R.SNS_THR_LVL_LVL p k)
  let hyst : Int := u.rd (R.SNS_THR_CFG_HYST p k)
  let was := u.on (tripFld p k)
  let now := if u.on (R.SNS_THR_CFG_DIR p k) then (decide (x < lvl) || (was && decide (x < lvl + hyst)))
    else (decide (x > lvl) || (was && decide (x > lvl - hyst)))
  u.setTrip t p k now

/-- A word accepted (R259, R262, R265). -/
def U.portAccept (u : U) (t : TimeBase) (p seq : Nat) (sample : Int) : U :=
  let ts := enc 64 ((t.ts64 : Int) - u.rd (R.SNS_LAT_LAT p))
  let h := u.port p
  let num := sample * sx 32 h.gm
  let y := satS 32 (rshift (num * 2 ^ 16 + h.ofs * 2 ^ (31 + h.gsh)) (31 + h.gsh))
  let i := satS 32 (rshift (num * 2 ^ 16 + h.ofs * 2 ^ (31 + h.gsh)) (39 + h.gsh))
  let u := (u.wr (R.SNS_LAST_SAMPLE p) (enc 32 sample)).wr (R.SNS_PSTAT_SEQ p) seq
  let u := (u.wr (R.SNS_LAST_TSL_TS_LO p) ts).wr (R.SNS_LAST_TSH_TS_HI p) (ts / 2 ^ 32)
  let u := (u.setBoard p y).wr (R.SNS_PSTAT_STATE p) 2
  let u := u.setPort p (fun h => { h with
    dead := some (u.portDeadline p t.ref), valid := min 1000 (h.valid + 1), line := ((ts, i) :: h.line).take 4 })
  (u.compare t p 0 sample).compare t p 1 sample

/-- The CRC of a sensor word over bits [63:8] (R255). -/
def sensorCrc (w : Nat) : Nat := crc8 0x2F 0xFF ((List.range 7).map (fun i => bits w (56 - 8 * i) 8))

/-- The port that takes the words of an input (R257). -/
def U.portOf (u : U) (input : Nat) : Nat :=
  if input % 2 = 1 && u.on (R.SNS_PCFG_PAIR (input - 1)) then input - 1 else input

/-- A completed sensor word (R258, R262). -/
def U.sensorWord (u : U) (t : TimeBase) (input w : Nat) : U :=
  let p := u.portOf input
  let st := u.rd (R.SNS_PSTAT_STATE p)
  if input ≥ 32 || st = 0 then u else
  let inj := u.injected 8 input
  let u := inj.2
  let well := (bits w 0 8 ^^^ (if inj.1 then 255 else 0)) = sensorCrc w && bits w 60 4 = 10 && bits w 56 4 = u.rd (R.SNS_PCFG_TYPE p)
  if !well then (u.inc (R.SNS_CNT_A_CHK_CNT p)).portError t p else
  let seq := bits w 48 8
  let h := u.port p
  let u := u.wr (R.SNS_PSTAT_SSTAT p) (bits w 8 7)
  let n := rdiv ((t.ref : Int) - h.tRef) (80 * u.rd (R.SNS_PERIOD_NOM_PERIOD p))
  let gap := st != 1 && (seq : Int) != (h.sRef + n) % 256
  let u := u.setPort p (fun h => { h with sRef := seq, tRef := t.ref })
  if gap then (u.inc (R.SNS_CNT_A_SEQ_CNT p)).portError t p
  else if bitAt w 15 then (u.inc (R.SNS_CNT_B_SERR_CNT p)).portError t p
  else if st = 4 then u
  else u.portAccept t p seq (sx 32 (bits w 16 32))

/-- A deadline reached without an accepted word (R262). -/
def U.sensorTimeout (u : U) (t : TimeBase) (p : Nat) : U :=
  let st := u.rd (R.SNS_PSTAT_STATE p)
  if (st = 1 || st = 2) && decide (p < 32) && u.portUsed p then
    let u := ((u.wr (R.SNS_PSTAT_STATE p) 3).inc (R.SNS_CNT_B_TMO_CNT p)).setPort p (fun h => { h with dead := none })
    (u.raise t (SNS.TIMEOUT p) (SNS.det p)).portError t p
  else u

/-- The close of an error window (R263). -/
def U.errWindowClose (u : U) (p : Nat) : U :=
  if (u.port p).win.isSome then (u.wr (R.SNS_PSTAT_ERRS p) 0).setPort p (fun h => { h with win := none }) else u

/-- Whether a port is bound to a configured arm (R26). -/
def U.bound (u : U) (p : Nat) : Bool := (List.range 12).any (fun a => u.topo.armOn a && u.rd (R.FRN_SRC_PORT a) == p)

/-- A port put into SYNC: reference cleared, deadline from now (R262). -/
def U.portSync (u : U) (t : TimeBase) (p : Nat) : U :=
  (u.wr (R.SNS_PSTAT_STATE p) 1).setPort p (fun h => { h with
    sRef := 0, tRef := t.ref, dead := some (u.portDeadline p t.ref), valid := 0 })

/-- A write of EN of a port (R261, R262). -/
def U.portEnWrite (u : U) (t : TimeBase) (p : Nat) (en : Bool) : U :=
  if p ≥ 32 || u.on (R.SNS_PCFG_EN p) = en then u
  else if en then (u.wr (R.SNS_PCFG_EN p) 1).portSync t p
  else if u.bound p && u.on R.DEP_CTL_CONV_EN then u.raise t SNS.WR_REJ (SNS.det p)
  else
    let u := ((u.wr (R.SNS_PCFG_EN p) 0).wr (R.SNS_PSTAT_STATE p) 0).setPort p
      (fun h => { h with dead := none, valid := 0 })
    u.failTrip t p

/-- RESTORE (R262): ignored in other states than RETIRED. -/
def U.portRestore (u : U) (t : TimeBase) (p : Nat) : U :=
  if u.rd (R.SNS_PSTAT_STATE p) = 4 then
    ((u.wr (R.SNS_PSTAT_ERRS p) 0).setPort p (fun h => { h with win := none })).portSync t p
  else u

/-- A write of SNS_OFS (R260). -/
def U.ofsCommit (u : U) (p v : Nat) : U :=
  (u.wr (R.SNS_OFS_OFS p) v).setPort p (fun h => { h with
    gm := u.rd (R.SNS_GAIN_M_GAIN_M p), gsh := u.rd (R.SNS_PCFG_GAIN_SH p), ofs := sx 32 v })

/-- A write of SNS_THR_CFG (R266, R603). In OFF and RETIRED the output follows FAILTRIP (R265). -/
def U.thrCfgWrite (u : U) (t : TimeBase) (p k v : Nat) : U :=
  if p ≥ 32 || k ≥ 2 then u
  else if u.on R.DEP_CTL_CONV_EN && ((u.on (R.SNS_THR_CFG_SB_EN p k) && !bitAt v 25) ||
      (u.on (R.SNS_THR_CFG_AV_EN p k) && !bitAt v 26)) then u.raise t SNS.WR_REJ (SNS.det p)
  else
    let u := (u.wr (R.SNS_THR_CFG_HYST p k) (bits v 0 24)).wr (R.SNS_THR_CFG_DIR p k) (bits v 24 1)
    let u := (u.wr (R.SNS_THR_CFG_SB_EN p k) (bits v 25 1)).wr (R.SNS_THR_CFG_AV_EN p k) (bits v 26 1)
    let u := u.wr (R.SNS_THR_CFG_FAILTRIP p k) (bits v 27 1)
    if u.rd (R.SNS_PSTAT_STATE p) = 0 || u.rd (R.SNS_PSTAT_STATE p) = 4 then u.setTrip t p k (bitAt v 27) else u

/-- A sequence monitor that has seen no edge. -/
def SeqMon.zero : SeqMon := ⟨[], false, none, 0, false, false⟩

/-- The hidden state of a monitor. -/
def U.mon (u : U) (m : Nat) : SeqMon := u.mons.get m SeqMon.zero

/-- The hidden state of a monitor replaced. -/
def U.setMon (u : U) (m : Nat) (f : SeqMon → SeqMon) : U := { u with mons := u.mons.set m (f (u.mon m)) }

/-- REVERSAL of a monitor (R269). -/
def U.reversal (u : U) (t : TimeBase) (m : Nat) : U :=
  if !u.on (R.SNS_SEQ_STAT_ORDER_VALID m) then u
  else if u.rd (R.SNS_SEQ_STAT_ORDER m) = u.rd (R.SNS_SEQ_CFG_EXP_ORDER m) then
    u.setMon m (fun h => { h with rev := false })
  else if (u.mon m).rev then u
  else (u.setMon m (fun h => { h with rev := true })).raise t (SNS.REVERSAL m) (SNS.det m)

/-- An order observed (R268). -/
def U.observe (u : U) (t : TimeBase) (m o : Nat) : U :=
  let agree := (u.mon m).noted = some o
  let u := u.setMon m (fun h => { h with await := false, noted := some o })
  if agree then ((u.wr (R.SNS_SEQ_STAT_ORDER m) o).wr (R.SNS_SEQ_STAT_ORDER_VALID m) 1).reversal t m else u

/-- A rising edge of an input, 0 SQA, 1 SQB, 2 SQC (R267, R268). -/
def U.risingEdge (u : U) (t : TimeBase) (m input : Nat) : U :=
  if m ≥ 3 || input ≥ 3 || !u.on (R.SNS_SEQ_CFG_EN m) then u else
  let early := match (u.mon m).last.find? input with
    | some e => decide (t.t16 < e + u.rd (R.SNS_SEQ_CFG_DEGLITCH m) * 16000)
    | none => false
  if early then u else
  let u := u.setMon m (fun h => { h with last := h.last.set input t.t16, edges := h.edges + 1 })
  let u := u.wr (R.SNS_SEQ_STAT_IN_OK m) (setBit (u.rd (R.SNS_SEQ_STAT_IN_OK m)) input)
  if input = 0 then u.setMon m (fun h => { h with await := true })
  else if (u.mon m).await then u.observe t m (input - 1) else u

/-- The end of a frequency window (R270). -/
def U.freqWindow (u : U) (t : TimeBase) (m : Nat) : U :=
  if m ≥ 3 || !u.on (R.SNS_SEQ_CFG_EN m) then u else
  let e := (u.mon m).edges
  let f := (satU 16 (rdiv (e * 100000 : Nat) (3 * u.rd (R.SNS_SEQ_CFG_FWIN m)))).toNat
  let bad := decide (f < u.rd (R.SNS_SEQ_LIM_FMIN m)) || decide (f > u.rd (R.SNS_SEQ_LIM_FMAX m))
  let was := (u.mon m).bad
  let u := (u.wr (R.SNS_SEQ_STAT_EDGES m) (min 65535 e)).wr (R.SNS_SEQ_FREQ_FREQ m) f
  let u := u.setMon m (fun h => { h with edges := 0, bad := bad })
  if bad && !was then u.raise t (SNS.FREQ_BAD m) (SNS.det m) else u

/-- An input with no accepted edge for LOST_MS (R268, R270). -/
def U.inputLost (u : U) (t : TimeBase) (m input : Nat) : U :=
  if m ≥ 3 || input ≥ 3 || !u.on (R.SNS_SEQ_CFG_EN m) then u else
  let u := u.wr (R.SNS_SEQ_STAT_IN_OK m) (clrBit (u.rd (R.SNS_SEQ_STAT_IN_OK m)) input)
  let u := (u.wr (R.SNS_SEQ_STAT_ORDER_VALID m) 0).setMon m (fun h => { h with noted := none, await := false })
  u.raise t (SNS.INPUT_LOST m) (SNS.det m)

/-- A change of a monitor's EN to 1 (R268). -/
def U.seqStart (u : U) (m : Nat) : U :=
  ((u.wr (R.SNS_SEQ_STAT_ORDER_VALID m) 0).wr (R.SNS_SEQ_STAT_IN_OK m) 0).setMon m (fun _ => SeqMon.zero)

end Sys2Proof.Machine
end

