-- ==== Sys2Proof/Machine/ProcessBus.lean ====
section
/-! DEFINITION. The process bus: filtering and duplicate discard, the firmware rings, sampled values, GOOSE, the links,
and received PTP event messages (R44, R271 to R283, R285). -/
namespace Sys2Proof.Machine

namespace PBX
def SV_TMO : Cause := ⟨B.PBX, 0, some 1, 96, false, 1⟩
def SV_QBAD : Cause := ⟨B.PBX, 1, some 0, 97, false, 1⟩
def SV_LATE : Cause := ⟨B.PBX, 2, some 0, 98, false, 1⟩
def GO_TRIP : Cause := ⟨B.PBX, 3, none, 99, false, 1⟩
def GO_TMO : Cause := ⟨B.PBX, 4, some 1, 100, false, 1⟩
def RED_LOSS : Cause := ⟨B.PBX, 5, some 1, 101, false, 1⟩
def RX_OVF : Cause := ⟨B.PBX, 6, some 0, 102, false, 1⟩
def WR_REJ : Cause := ⟨B.PBX, 7, some 0, 103, false, 1⟩
/-- UNIT of PBX_FIRST. -/
def det (n : Nat) : List (Nat × Nat × Nat) := [(8, 6, n)]
end PBX

/-- The process bus beside its registers replaced. -/
def U.withPbx (u : U) (f : Pbx → Pbx) : U := { u with pbx := f u.pbx }

/-- A frame placed in the receive ring of a pair (R273). A ring of SIZE 0 takes no frame. -/
def U.ringPut (u : U) (t : TimeBase) (port ts flags : Nat) (octets : List Nat) : U :=
  let r := 2 * (port / 2)
  let size := u.rd (R.PBX_RING_SIZE_SIZE r)
  if size = 0 then u else
  let prod := u.rd (R.PBX_RING_PROD_PROD r)
  let next := (prod + 1) % size
  if next = u.rd (R.PBX_RING_CONS_CONS r) % size then (u.inc (R.PBX_RING_SIZE_DROP r)).raise t PBX.RX_OVF (PBX.det port)
  else
    let a := u.rd (R.PBX_RING_BASE_BASE r) * 2048 + prod * 2048
    let hdr := toBytes 8 ts ++ toBytes 2 octets.length ++ [port, flags, 0, 0, 0, 0]
    (u.memPut a (hdr ++ octets.take 2032)).wr (R.PBX_RING_PROD_PROD r) next

/-- The receive stamp of a port: the PCS stamp less the ingress latency (R44). -/
def U.ingress (u : U) (port raw : Nat) : Nat :=
  enc 64 ((raw : Int) - u.rd (R.TIM_PORT_LAT_INGRESS port))

/-- Whether PTP runs on a pair (PTP_PAIR). -/
def U.ptpOn (u : U) (q : Nat) : Bool := u.rd R.TIM_CTL_PTP_PAIR = q

/-- A received PTP event message: delivered with its TS64, dropped when it is of another domain (R43, R44). -/
def U.ptpRx (u : U) (t : TimeBase) (port domain raw : Nat) (octets : List Nat) : U :=
  if u.ptpOn (port / 2) then
    if domain = u.rd R.TIM_CTL_PTP_DOMAIN then u.ringPut t port (u.ingress port raw) 1 octets else u
  else u.ringPut t port (u.ingress port raw) 0 octets

/-- Whether a channel's quality is good (R276). -/
def U.goodQuality (u : U) (k q smpSynch : Nat) : Bool :=
  bits q 0 2 = 0 && !bitAt q 12 && (!bitAt q 11 || u.on R.PBX_CTL_TEST_OK) &&
    (smpSynch != 0 || !u.on (R.SV_CFG_SYNC_REQ k))

/-- Whether subscription k accepts an ASDU (R274). -/
def U.svMatch (u : U) (k appid : Nat) (vid : Option Nat) (a : Asdu) : Bool :=
  let len := u.rd (R.SV_CFG_ID_LEN k)
  let id := ((List.range 16).flatMap (fun n => toBytes 4 (u.rd (R.SV_ID_OCTETS k n)))).take len
  appid = u.rd (R.SV_APPID_APPID k) &&
    (!u.on (R.SV_APPID_VID_EN k) || vid == some (u.rd (R.SV_APPID_VID k))) &&
    a.svId == id && a.confRev == u.rd (R.SV_CONFREV_CONFREV k) &&
    decide (a.smpCnt < svRate (u.rd (R.SV_CFG_RATE k))) && decide (a.data.length ≥ u.rd (R.SV_CFG_CHANS k))

/-- The mapped entries of an accepted channel (R277). -/
def U.svMap (u : U) (t : TimeBase) (k ch : Nat) (raw : Int) (inst : Nat) : U :=
  u.each (List.range 128) (fun u j =>
    if u.on (R.MAP_CFG_EN j) && u.rd (R.MAP_CFG_STREAM j) = k && u.rd (R.MAP_CFG_CHAN j) = ch then
      let v := rshift (raw * sx 32 (u.rd (R.MAP_M_M j)) * 2 ^ 16) (31 + u.rd (R.MAP_CFG_SH j))
      let due := inst + u.rd (R.SV_ALIGN_ALIGN_DLY k)
      if u.on (R.SV_CFG_ALIGN k) && t.t16 < due then u.withPbx (fun p => { p with align := p.align ++ [(due, j, v)] })
      else u.setBoard (32 + j) v
    else u)

/-- One channel of an accepted ASDU (R276). A sample whose quality is not good stays one of the line (R59; log entry 159). -/
def U.svChannel (u : U) (t : TimeBase) (k ch inst smpSynch : Nat) (d : Nat × Nat) : U :=
  let raw := sx 32 d.1
  let good := u.goodQuality k d.2 smpSynch
  let q := u.rd (R.SV_STAT_QBAD k)
  let ts := inst % 2 ^ 64
  let key := 16 * k + ch
  let u := u.withPbx (fun p => { p with line := p.line.set key (((ts, raw) :: p.line.get key []).take 4) })
  if good then (u.wr (R.SV_STAT_QBAD k) (clrBit q ch)).svMap t k ch raw inst
  else
    let u := u.wr (R.SV_STAT_QBAD k) (setBit q ch)
    if bitAt q ch then u else u.raise t PBX.SV_QBAD (PBX.det k)

/-- An ASDU that subscription k matches (R275). -/
def U.svAccept (u : U) (t : TimeBase) (k arr : Nat) (a : Asdu) : U :=
  let f := svRate (u.rd (R.SV_CFG_RATE k))
  let d : Int := match u.pbx.smp.find? k with
    | none => 1
    | some l =>
      let x := ((a.smpCnt : Int) - l) % f
      if 2 * x > f then x - f else x
  if d ≤ 0 then u.inc (R.SV_CNT_A_REPEAT k) else
  let u := if d > 1 then u.inc (R.SV_CNT_A_GAP k) else u
  let full := ((t.t16 : Int) - tsDiff t.ts64 arr).toNat
  let off := (rdiv (a.smpCnt * 16000000000 : Nat) f).toNat
  let inst := (full - off) / 16000000000 * 16000000000 + off
  let u := if full > inst + u.rd (R.SV_AGE_MAX_AGE k) then
    (u.inc (R.SV_CNT_B_LATE k)).raise t PBX.SV_LATE (PBX.det k) else u
  let u := (u.wr (R.SV_STAT_STATE k) 2).wr (R.SV_SMP_SMP_CNT k) a.smpCnt
  let u := u.withPbx (fun p => { p with smp := p.smp.set k a.smpCnt, arr := p.arr.set k full })
  ((a.data.take (u.rd (R.SV_CFG_CHANS k))).zipIdx).foldl (fun u e => u.svChannel t k e.2 inst a.smpSynch e.1) u

/-- A sampled-value frame of a port, its raw stamp and octets (R274, R275). Answers whether any subscription matched. -/
def U.svFrame (u : U) (t : TimeBase) (port raw : Nat) (o : List Nat) (asdus : List Asdu) : Bool × U :=
  let arr := u.ingress port raw
  asdus.foldl (fun (acc : Bool × U) a =>
    (List.range 64).foldl (fun (acc : Bool × U) k =>
      if acc.2.on (R.SV_CFG_EN k) && acc.2.rd (R.SV_CFG_PAIR k) = port / 2 then
        if acc.2.svMatch k (Eth.at16 o (Eth.base o + 2)) (Eth.vid o) a then (true, acc.2.svAccept t k arr a)
        else (acc.1, acc.2.inc (R.SV_CNT_B_MISMATCH k))
      else acc) acc) (false, u)

/-- The trip output of a GOOSE block changed (R281). -/
def U.setGoTrip (u : U) (t : TimeBase) (c : Nat) (b : Bool) : U :=
  let was := u.on (R.GO_STAT_TRIP c)
  let u := u.put (R.GO_STAT_TRIP c) b
  if b && !was then
    let u := u.raise t PBX.GO_TRIP (PBX.det c)
    if u.on (R.GO_CFG_AV_EN c) then u.avalanche t 3 c else u
  else u

/-- An IEEE 754 single as Q16.16, rounded and saturated; `none` for a NaN, whose value the spec does not state. -/
def float32Q (w : Nat) : Option Int :=
  let neg := bitAt w 31
  let e := bits w 23 8
  let m := bits w 0 23
  if e = 255 && m ≠ 0 then none else
  let mag : Int := if e = 255 then 2 ^ 40 else
    let sig := if e = 0 then m else m + 2 ^ 23
    let p := (if e = 0 then 1 else e)
    if p ≥ 134 then (sig * 2 ^ (p - 134) : Nat) else rdiv (sig : Nat) (2 ^ (134 - p))
  some (satS 32 (if neg then -mag else mag))

/-- The analogue member of a GOOSE frame as Q16.16 (R280): `none` where its form is wrong. -/
def U.goAnalogue (u : U) (m : Member) : Option (Int × U) :=
  match m with
  | .integer n v => if n ≤ 4 then some (satS 32 (v * 65536), u) else none
  | .float32 w => match float32Q w with
    | some v => some (v, u)
    | none =>
      let r := u.draw
      some (sx 32 r.1, r.2)
  | _ => none

/-- Whether GOOSE block c matches a frame of a port: APPID, VID and the simulation bit from its octets (R279). -/
def U.goMatch (u : U) (c port : Nat) (o : List Nat) (ref : List Nat) (confRev : Nat) (nds test : Bool) : Bool :=
  let id := ((List.range 16).flatMap (fun n => toBytes 4 (u.rd (R.GO_REF_OCTETS c n)))).take (u.rd (R.GO_CFG_REF_LEN c))
  u.on (R.GO_CFG_EN c) && u.rd (R.GO_CFG_PAIR c) = port / 2 && Eth.at16 o (Eth.base o + 2) = u.rd (R.GO_APPID_APPID c) &&
    (!u.on (R.GO_APPID_VID_EN c) || Eth.vid o == some (u.rd (R.GO_APPID_VID c))) && ref == id &&
    confRev == u.rd (R.GO_CONFREV_CONFREV c) && !nds && (!test || u.on R.PBX_CTL_TEST_OK) &&
    (!bitAt (Eth.at16 o (Eth.base o + 6)) 15 || u.on R.PBX_CTL_SIM_OK)

/-- A frame that block c matches (R279 to R281). Answers whether it counts as matched. -/
def U.goAccept (u : U) (t : TimeBase) (c st sq ttl : Nat) (members : List Member) : Bool × U :=
  let newer := decide (dnDiff st (u.rd (R.GO_STNUM_STNUM c)) > 0) ||
    (decide (st = u.rd (R.GO_STNUM_STNUM c)) && decide (dnDiff sq (u.rd (R.GO_SQNUM_SQNUM c)) > 0))
  if !newer then (true, u) else
  let ana := if u.on (R.GO_CFG_ANA_EN c) then
      match u.goAnalogue (members.getD (u.rd (R.GO_CFG_ANA_IDX c)) .other) with
      | some (v, u') => some (u'.setBoard (160 + c) v)
      | none => none
    else some u
  match members.getD (u.rd (R.GO_CFG_TRIP_IDX c)) .other, ana with
  | .boolean b, some u =>
    let u := ((u.wr (R.GO_STNUM_STNUM c) st).wr (R.GO_SQNUM_SQNUM c) sq).wr (R.GO_STAT_SEEN c) 1
    let u := (u.wr (R.GO_STAT_TIMEOUT c) 0).withPbx (fun p => { p with go := p.go.set c (t.tns + ttl * 1000000) })
    (true, u.setGoTrip t c b)
  | _, _ => (false, u.inc (R.GO_CNT_FMT_CNT c))

/-- A GOOSE frame offered to every block: whether any block took it as matched, and whether one of those has COPY set (R271, R279). -/
def U.gooseFrame (u : U) (t : TimeBase) (port : Nat) (o ref : List Nat) (confRev : Nat) (nds test : Bool) (st sq ttl : Nat)
    (members : List Member) : (Bool × Bool) × U :=
  (List.range 32).foldl (fun (acc : (Bool × Bool) × U) c =>
    if !acc.2.goMatch c port o ref confRev nds test then acc else
    let r := acc.2.goAccept t c st sq ttl members
    ((acc.1.1 || r.1, acc.1.2 || (r.1 && r.2.on (R.GO_CFG_COPY c))), r.2)) ((false, false), u)

/-- What a frame carries, by its EtherType, in the order of R271; `o` are its octets without trailer or tag. -/
def U.classify (u : U) (t : TimeBase) (f : EthFrame) (o : List Nat) : U :=
  let ring := fun (u : U) (flags : Nat) => u.ringPut t f.port (u.ingress f.port f.raw) flags o
  if Eth.etherType o = 0x88F7 then
    if Eth.ptpEvent o then u.ptpRx t f.port (Eth.ptpDomain o) f.raw o
    else if u.ptpOn (f.port / 2) && Eth.ptpDomain o != u.rd R.TIM_CTL_PTP_DOMAIN then u else ring u 0
  else match f.payload with
    | .sv asdus =>
      if Eth.etherType o ≠ 0x88BA then ring u 0 else
      let r := u.svFrame t f.port f.raw o asdus
      if r.1 then r.2 else ring r.2 0
    | .goose ref confRev nds test st sq ttl members =>
      if Eth.etherType o ≠ 0x88B8 then ring u 0 else
      let r := u.gooseFrame t f.port o ref confRev nds test st sq ttl members
      if !r.1.1 then ring r.2 0 else if r.1.2 then ring r.2 2 else r.2
    | .other => ring u 0

/-- Whether an address is one of this node's on a pair (R271, R272). -/
def ownAddress (q a : Nat) : Bool := a == Config.portAddress (2 * q) % 2 ^ 48 || a == Config.portAddress (2 * q + 1) % 2 ^ 48

/-- Whether a frame on the HSR ring is a PTP message that the ring ports forward with its correction (R43), and not as it came. -/
def U.ptpForwarded (u : U) (o : List Nat) : Bool :=
  u.ptpOn 1 && Eth.etherType o == 0x88F7 && (Eth.ptpEvent o || Eth.ptpType o == 8)

/-- A received Ethernet frame (R271, R272). -/
def U.frameRx (u : U) (t : TimeBase) (f : EthFrame) : U :=
  if f.port ≥ 4 then u else
  let q := f.port / 2
  let hsr := q = 1 && u.on R.PBX_CTL_HSR_EN
  let prp := q = 0 && u.on R.PBX_CTL_PRP_EN
  let red := if hsr then Eth.hsrTag f.octets else if prp then Eth.rct f.octets else none
  let o := if red.isNone then f.octets else if hsr then Eth.hsrStrip f.octets else Eth.rctStrip f.octets
  let src := Eth.mac o 6
  let mine := ownAddress q (Eth.mac o 0)
  if hsr && ownAddress q src then u.inc (R.PBX_RED_CNT_OTHER 1) else
  let u := if hsr && !mine && !u.ptpForwarded o then u.emit (.ethFrame (5 - f.port) (f.octets ++ Eth.fcs f.octets)) else u
  let wrongLan := match red with
    | some r => prp && r.1 != 10 + f.port
    | none => false
  let u := if wrongLan then u.inc (R.PBX_RED_CNT_OTHER 0) else u
  if !mine && !Eth.toGroup o then u else
  let age := u.rd R.PBX_DD_DD_AGE * 1000000
  let live := (u.pbx.dup.get q []).filter (fun e => decide (t.tns < e.2.2 + age))
  match red with
  | some (_, s) =>
    if live.any (fun e => e.1 == src && e.2.1 == s) then u.inc (R.PBX_RED_CNT_DUP q)
    else
      let made := (live ++ [(src, s, t.tns)]).drop (live.length + 1 - 1024)
      (u.withPbx (fun p => { p with dup := p.dup.set q made })).classify t f o
  | none => u.classify t f o

/-- An aligned board write that falls due (R277). -/
def U.alignedWrite (u : U) (j : Nat) : U :=
  match u.pbx.align.find? (fun e => e.2.1 == j) with
  | none => u
  | some e => (u.setBoard (32 + j) e.2.2).withPbx (fun p => { p with align := p.align.erase e })

/-- TMO sample periods without an accepted ASDU (R278). -/
def U.svTimeout (u : U) (t : TimeBase) (k : Nat) : U :=
  if k < 64 && u.rd (R.SV_STAT_STATE k) = 2 then (u.wr (R.SV_STAT_STATE k) 3).raise t PBX.SV_TMO (PBX.det k) else u

/-- A passed timeAllowedToLive (R281). -/
def U.gooseTimeout (u : U) (t : TimeBase) (c : Nat) : U :=
  if c < 32 && u.on (R.GO_CFG_EN c) && u.on (R.GO_STAT_SEEN c) && !u.on (R.GO_STAT_TIMEOUT c) then
    let u := ((u.wr (R.GO_STAT_TIMEOUT c) 1).inc (R.GO_CNT_TMO_CNT c)).raise t PBX.GO_TMO (PBX.det c)
    u.setGoTrip t c (u.on (R.GO_CFG_FAIL_VAL c))
  else u

/-- A frame as it leaves a port: the PRP trailer or HSR tag of its pair with a sequence number, then the FCS (R273). -/
def U.wire (u : U) (port seq : Nat) (o : List Nat) : List Nat :=
  let o := if port < 2 && u.on R.PBX_CTL_PRP_EN then Eth.rctAdd (10 + port) seq o
    else if 2 ≤ port && u.on R.PBX_CTL_HSR_EN then Eth.hsrAdd (port % 2) seq o else o
  o ++ Eth.fcs o

/-- A frame sent on both ports of a pair under one sequence number; the octets may differ in the source address (R273, R395). -/
def U.ethSend (u : U) (q : Nat) (a b : List Nat) : U :=
  let s := u.pbx.seq.get q 0
  ((u.emit (.ethFrame (2 * q) (u.wire (2 * q) s a))).emit (.ethFrame (2 * q + 1) (u.wire (2 * q + 1) s b))).withPbx
    (fun p => { p with seq := p.seq.set q ((s + 1) % 65536) })

/-- The frame of a slot of a transmit ring sent on both ports of the pair (R273). -/
def U.txFrame (u : U) (t : TimeBase) (q a : Nat) : U :=
  let o := u.mem.readBytes (a + 16) (min 2032 (u.mem.read (a + 8) 2))
  let stamp := bitAt (u.mem.read (a + 11) 1) 0
  let u := u.ethSend q o o
  if stamp then (u.ptpTx t (2 * q) (Eth.ptpType o) (Eth.ptpSeq o) t.ts64).ptpTx t (2 * q + 1) (Eth.ptpType o) (Eth.ptpSeq o) t.ts64
  else u

/-- The frames of a transmit ring sent on both ports of the pair, up to PROD modulo SIZE (R273). -/
def U.txSend : Nat → U → TimeBase → Nat → U
  | 0, u, _, _ => u
  | n + 1, u, t, q =>
    let r := 2 * q + 1
    let cons := u.rd (R.PBX_RING_CONS_CONS r)
    let size := u.rd (R.PBX_RING_SIZE_SIZE r)
    if size = 0 || cons % size = u.rd (R.PBX_RING_PROD_PROD r) % size then u else
    let a := u.rd (R.PBX_RING_BASE_BASE r) * 2048 + cons % size * 2048
    let u := u.reading t [(a, 16 + min 2032 (u.mem.read (a + 8) 2))] (fun u => u.txFrame t q a)
    U.txSend n (u.wr (R.PBX_RING_CONS_CONS r) ((cons % size + 1) % size)) t q

/-- A write of PROD of a transmit ring (R273). -/
def U.txProd (u : U) (t : TimeBase) (q v : Nat) : U :=
  if q < 2 then U.txSend 1024 (u.wr (R.PBX_RING_PROD_PROD (2 * q + 1)) v) t q else u

/-- The link of a port down (R283). -/
def U.linkDown (u : U) (t : TimeBase) (port : Nat) : U :=
  if !bitAt (u.rd R.PBX_LINK_UP) port || port ≥ 4 then u else
  let u := u.wr R.PBX_LINK_UP (clrBit (u.rd R.PBX_LINK_UP) port)
  if u.on (if port < 2 then R.PBX_CTL_PRP_EN else R.PBX_CTL_HSR_EN) then u.raise t PBX.RED_LOSS (PBX.det port) else u

/-- The link of a port up (R285). -/
def U.linkUp (u : U) (port : Nat) : U :=
  if port < 4 then u.wr R.PBX_LINK_UP (setBit (u.rd R.PBX_LINK_UP) port) else u

/-- A write of RATE (R285): the link of each port whose rate changes restarts. -/
def U.rateWrite (u : U) (t : TimeBase) (v : Nat) : U :=
  let old := u.rd R.PBX_CTL_RATE
  let u := u.wr R.PBX_CTL_RATE v
  u.each (List.range 4) (fun u p => if bitAt old p == bitAt v p then u else u.linkDown t p)

end Sys2Proof.Machine
end

