-- ==== Sys2Proof/Machine/Trig.lean ====
section
/-! DEFINITION. Sine, cosine, 1/√3 and the angle of a vector in integer arithmetic (R238, R239). -/
namespace Sys2Proof.Machine

/-- π/2 × 2^60. -/
def halfPi60 : Nat := 1811004864519280711

/-- The terms of a power series: `x2` is x² × 2^60, `k` the next factorial factor. -/
def seriesFrom (x2 : Int) : Nat → Nat → Int → Int
  | 0, _, _ => 0
  | n + 1, k, term => term + seriesFrom x2 n (k + 2) (-(term * x2 / 2 ^ 60 / ((k * (k + 1) : Nat) : Int)))

/-- sin x × 2^60 for x × 2^60 in the first quarter. -/
def sinQuarter (x : Int) : Int := seriesFrom (x * x / 2 ^ 60) 14 2 x

/-- cos x × 2^60 for x × 2^60 in the first quarter. -/
def cosQuarter (x : Int) : Int := seriesFrom (x * x / 2 ^ 60) 14 1 (2 ^ 60)

/-- sin and cos of an angle in 2^-`k` turns, × 2^60. -/
def sinCos (k th : Nat) : Int × Int :=
  let quarter := 2 ^ (k - 2)
  let q := th % 2 ^ k / quarter
  let x : Int := ((th % quarter * halfPi60 : Nat) : Int) / (quarter : Int)
  let s := sinQuarter x
  let c := cosQuarter x
  match q with
  | 0 => (s, c)
  | 1 => (c, -s)
  | 2 => (-s, -c)
  | _ => (-c, s)

/-- The engine's sine and cosine of a UQ0.32 angle, × 2^30: accurate to 2^-22, within that open (R238). -/
def engineTrig (th : Nat) : Int × Int :=
  let e := fun (n : Nat) => ((Config.trigError n th % 505 : Nat) : Int) - 252
  let sc := sinCos 32 th
  (rshift sc.1 30 + e 0, rshift sc.2 30 + e 1)

/-- 1/√3 × 2^192: fine enough that no sum of products of board values and coefficients comes nearer to a rounding boundary than what
it leaves out (R227, R238). -/
def invSqrt3 : Int := 3624086376656167173492122364241615543210138021218198886365

/-- x/√3 rounded to the nearest integer. -/
def divSqrt3 (x : Int) : Int := rshift (x * invSqrt3) 192

/-- The largest angle below `lo + 2^n` at which the vector lies counterclockwise of it or on it, by halving; angles in
2^-33 turns. -/
def angleSearch (a b : Int) : Nat → Nat → Nat
  | 0, lo => lo
  | n + 1, lo =>
    let m := lo + 2 ^ n
    let sc := sinCos 33 m
    angleSearch a b n (if b * sc.2 - a * sc.1 ≥ 0 then m else lo)

/-- The angle of (α, β) as UQ0.32, rounded once: the search finds between which halves of the last place it lies (R227, R239). -/
def angleOf (a b : Int) : Nat :=
  if a = 0 ∧ b = 0 then Config.zeroAngle % 2 ^ 32
  else
    let base : Nat := if a > 0 ∧ b ≥ 0 then 0 else if a ≤ 0 ∧ b > 0 then 1 else if a < 0 then 2 else 3
    (angleSearch a b 31 (base * 2 ^ 31) + 1) / 2 % 2 ^ 32

end Sys2Proof.Machine
end

