-- ==== Sys2Proof/Machine/Loops.lean ====
section
/-! DEFINITION. The control loop engine: the signal board, runs and their commit, the slot types, slot configuration
(R215 to R252). -/
namespace Sys2Proof.Machine

namespace LPE
def OVERRUN (g : Nat) : Cause := ⟨B.LPE, 0, some 0, 48 + g, false, 1⟩
def OVR_FAULT (g : Nat) : Cause := ⟨B.LPE, 1, some 2, 48 + g, false, 1⟩
def SAT : Cause := ⟨B.LPE, 2, some 0, 51, false, 0⟩
def FOLLOW : Cause := ⟨B.LPE, 3, some 1, 52, false, 1⟩
def PLL_UNLOCK : Cause := ⟨B.LPE, 4, some 1, 53, false, 1⟩
def WR_REJ : Cause := ⟨B.LPE, 5, some 0, 54, false, 1⟩
def MEM_ERR : Cause := ⟨B.LPE, 6, some 2, 55, false, 1⟩
/-- SLOT of LPE_FIRST. -/
def det (s : Nat) : List (Nat × Nat × Nat) := [(16, 7, s)]
end LPE

/-- The loop engine beside its registers replaced. -/
def U.withLpe (u : U) (f : Lpe → Lpe) : U := { u with lpe := f u.lpe }

/-- A board entry as any reader finds it: reserved entries and entry 255 read 0, entry 248 shows CONV_EN (R215). -/
def U.board (u : U) (n : Nat) : Int :=
  if n = 248 then (if u.on R.DEP_CTL_CONV_EN then 65536 else 0)
  else if (216 ≤ n && n < 248) || (251 ≤ n && n < 256) || n ≥ 1024 then 0
  else sx 32 (u.rd (R.LPE_BOARD_VALUE n))

/-- A refused write: WR_REJ and its count (R216). -/
def U.lpeRej (u : U) (t : TimeBase) (detail : List (Nat × Nat × Nat)) : U :=
  (u.inc R.LPE_CNT_A_WR_REJ_CNT).raise t LPE.WR_REJ detail

/-- An output index of a slot. -/
def U.slotOut (u : U) (s n : Nat) : Nat :=
  u.rd (match n with
    | 0 => R.SLOT_OUT_OUT0 s
    | 1 => R.SLOT_OUT_OUT1 s
    | _ => R.SLOT_OUT_OUT2 s)

/-- Whether an enabled slot writes an entry (R216). -/
def U.slotWrites (u : U) (e : Nat) : Bool :=
  (List.range 96).any (fun s => u.on (R.SLOT_CTL_EN s) && (List.range 3).any (fun n => u.slotOut s n == e))

/-- A core store to a board entry (R216); one that keeps its value is no write of it (R603). -/
def U.boardStore (u : U) (t : TimeBase) (e v : Nat) : U :=
  if enc 32 (u.board e) = v then u
  else if e < 256 || e ≥ 1024 || u.slotWrites e then u.lpeRej t [] else u.wr (R.LPE_BOARD_VALUE e) v

/-- clamp of R227: lo where x < lo and where lo > hi. -/
def clampL (x lo hi : Int) : Int := if x < lo || hi < lo then lo else min x hi

/-- A result rounded from 2^-`k` finer and saturated to `w` bits, with whether it meets the limit of its format. -/
def outSat (w k : Nat) (x : Int) : Int × Bool :=
  let r := rshift x k
  let lim : Int := 2 ^ (w - 1)
  (satS w r, decide (r ≥ lim - 1) || decide (r ≤ -lim))

/-- A signed coefficient. -/
def U.coef (u : U) (s n : Nat) : Int := sx 32 (u.rd (R.SLOT_COEF_COEF s n))
/-- An unsigned coefficient. -/
def U.coefU (u : U) (s n : Nat) : Int := (u.rd (R.SLOT_COEF_COEF s n) : Int)

/-- Two state words as a signed 64-bit number, low word first. -/
def pair64 (st : List Nat) (n : Nat) : Int := sx 64 (st.getD n 0 + 2 ^ 32 * st.getD (n + 1) 0)

/-- A signed 64-bit number written into two state words. -/
def setPair64 (st : List Nat) (n : Nat) (v : Int) : List Nat :=
  (st.set n (enc 64 v % 2 ^ 32)).set (n + 1) (enc 64 v / 2 ^ 32)

/-- What a slot computes with: its inputs, whether this is its entry run, whether EN has changed to 1 since its last
run in service, its state words, the current value of its output entry OUT0. -/
structure SlotIn where
  x      : List Int
  entry  : Bool
  enNew  : Bool
  st     : List Nat
  out0   : Int
  deriving Repr

/-- An input of a slot. -/
def SlotIn.inp (i : SlotIn) (n : Nat) : Int := i.x.getD n 0

/-- What a computation answers: state words, outputs in Q16.16 by output number, SAT, LIM. -/
structure SlotOut where
  st   : List Nat
  outs : List Int
  sat  : Bool
  lim  : Bool
  deriving Repr

/-- PI with ramp (R235). -/
def U.slotPi (u : U) (s : Nat) (i : SlotIn) : SlotOut :=
  let m := i.inp 0
  let tgt := if u.on (R.SLOT_CTL_TGT_CONST s) then u.coef s 7 else i.inp 1
  let ff := if u.on (R.SLOT_CTL_FF_EN s) then i.inp 2 else 0
  let ramp := u.coefU s 2
  let umax := u.coef s 3
  let umin := u.coef s 4
  let w0 := sx 32 (i.st.getD 0 0)
  let i0 := pair64 i.st 1
  let seed := i.entry && i.enNew
  let i0 := if seed then clampL (i.out0 - ff) umin umax * 65536 else i0
  let step := clampL (tgt - w0) (-ramp) ramp
  let w := outSat 32 0 (if i.entry then m else if ramp = 0 then tgt else w0 + step)
  let rampLim := !i.entry && ramp != 0 && step != tgt - w0
  let e := w.1 - m
  let p := outSat 32 16 (u.coef s 0 * e)
  let di := outSat 48 8 (u.coef s 1 * e)
  let sum := (p.1 + ff) * 65536 + i0 + di.1
  let wind := (decide (sum > umax * 65536) && decide (di.1 > 0)) || (decide (sum < umin * 65536) && decide (di.1 < 0))
  let d := if wind then 0 else di.1
  let i1 := clampL (i0 + d) (umin * 65536) (umax * 65536)
  let iSat := (outSat 48 0 i1).2
  let raw := (p.1 + ff) * 65536 + i1
  let o := clampL raw (umin * 65536) (umax * 65536)
  let out := outSat 32 16 o
  let lim := rampLim || wind || i1 != i0 + d || o != raw || (seed && i0 != (i.out0 - ff) * 65536)
  ⟨setPair64 (i.st.set 0 (enc 32 w.1)) 1 i1, [out.1, w.1], w.2 || p.2 || di.2 || iSat || out.2, lim⟩

/-- Biquad section (R237). -/
def U.slotBiquad (u : U) (s : Nat) (i : SlotIn) : SlotOut :=
  let b := fun n => u.coef s n
  let x := i.inp 0
  let den : Int := 2 ^ 30 + b 3 + b 4
  let num := x * (b 0 + b 1 + b 2)
  let s10 := if !i.entry then (pair64 i.st 0, false) else if den = 0 then (0, false)
    else outSat 48 0 (rdivI (num * 2 ^ 30 - b 0 * x * den) (den * 2 ^ 14))
  let s20 := if !i.entry then (pair64 i.st 2, false) else if den = 0 then (0, false)
    else outSat 48 0 (rdivI (b 2 * x * den - b 4 * num) (den * 2 ^ 14))
  let y := outSat 32 30 (b 0 * x + s10.1 * 2 ^ 14)
  let s1 := outSat 48 14 (b 1 * x - b 3 * y.1 + s20.1 * 2 ^ 14)
  let s2 := outSat 48 14 (b 2 * x - b 4 * y.1)
  ⟨setPair64 (setPair64 i.st 0 s1.1) 2 s2.1, [y.1], s10.2 || s20.2 || y.2 || s1.2 || s2.2, false⟩

/-- Results that need only their saturation to Q16.16. -/
def plainOuts (st : List Nat) (xs : List Int) (k : Nat) : SlotOut :=
  let r := xs.map (outSat 32 k)
  ⟨st, r.map (fun v => v.1), r.any (fun v => v.2), false⟩

/-- α and β of three phase quantities × 2^192 (R238). -/
def clarke (a b c : Int) : Int × Int := (rdiv ((2 * a - b - c) * 2 ^ 192) 3, (b - c) * invSqrt3)

/-- Clarke and Park transforms (R238). -/
def U.slotClarke (u : U) (s : Nat) (i : SlotIn) : SlotOut :=
  let a := i.inp 0
  let b := i.inp 1
  let c := i.inp 2
  let sc := engineTrig ((i.inp 3 % 65536).toNat * 65536)
  let z := rdiv (a + b + c) 3
  let ab := clarke a b c
  match u.rd (R.SLOT_CTL_MODE s) with
  | 0 => plainOuts i.st [rdiv (2 * a - b - c) 3, divSqrt3 (b - c), z] 0
  | 1 => plainOuts i.st [rshift (ab.1 * sc.2 + ab.2 * sc.1) 222, rshift (-(ab.1 * sc.1) + ab.2 * sc.2) 222, z] 0
  | _ =>
    let al := a * sc.2 - b * sc.1
    let be := a * sc.1 + b * sc.2
    let h3 := 3 * invSqrt3
    plainOuts i.st [rshift (al + c * 2 ^ 30) 30, rshift (-(al * 2 ^ 192) + be * h3 + c * 2 ^ 223) 223,
      rshift (-(al * 2 ^ 192) - be * h3 + c * 2 ^ 223) 223] 0

/-- The period of a rate group in µs (R218). -/
def groupUs (g : Nat) : Nat :=
  match g with
  | 0 => 1
  | 1 => 10
  | _ => 100

/-- Phase-locked loop (R239, R240). Answers with it LOCKED and whether lock was lost: an entry run ends with LOCKED 0. -/
def U.slotPll (u : U) (s g : Nat) (locked0 : Bool) (i : SlotIn) : SlotOut × Bool × Bool :=
  let ab := clarke (i.inp 0) (i.inp 1) (i.inp 2)
  let th := if i.entry then angleOf ab.1 ab.2 else i.st.getD 0 0
  let i0 := if i.entry then 0 else pair64 i.st 1
  let cnt0 := if i.entry then 0 else i.st.getD 3 0 % 65536
  let locked := locked0 && !i.entry
  let sc := engineTrig th
  let d := outSat 32 222 (ab.1 * sc.2 + ab.2 * sc.1)
  let q := outSat 32 222 (-(ab.1 * sc.1) + ab.2 * sc.2)
  let den := max (d.1.natAbs : Int) (u.coefU s 4)
  let en := if den = 0 then (sx 32 (Config.divByZero q.1), false) else outSat 32 0 (rdivI (q.1 * 65536) den)
  let fl := u.coefU s 3 * 65536
  let sum := i0 * 256 + u.coef s 1 * en.1
  let i1 := outSat 48 8 (clampL sum (-(fl * 256)) (fl * 256))
  let dev := u.coef s 0 * en.1 + i1.1
  let f := outSat 32 16 (u.coef s 2 * 65536 + clampL dev (-fl) fl)
  let th' := ((th + rdiv (f.1 * 65536 * groupUs g) 1000000) % 2 ^ 32).toNat
  let low := decide ((en.1.natAbs : Int) < u.coefU s 5)
  let cnt := if low != locked then cnt0 + 1 else 0
  let turn := !i.entry && decide (cnt ≥ u.rd (R.SLOT_COEF_COEF s 6) % 65536) && decide (cnt > 0)
  let locked' := if turn then !locked else locked
  let cnt := if turn then 0 else min cnt 65535
  let st := (setPair64 (i.st.set 0 th') 1 i1.1).set 3 cnt
  (⟨st, [rshift th' 16 % 65536, f.1, d.1], d.2 || q.2 || en.2 || i1.2 || f.2,
    clampL sum (-(fl * 256)) (fl * 256) != sum || clampL dev (-fl) fl != dev⟩, locked', (turn && locked) || (i.entry && locked0))

/-- The least or greatest of the first inputs and its index; on equal values the lower index (R241). -/
def pick (less : Int → Int → Bool) (x : List Int) : Int × Nat :=
  (x.zipIdx).foldl (fun (b : Int × Nat) e => if less e.1 b.1 then e else b) (x.headD 0, 0)

/-- Limiter and selector (R241). -/
def U.slotLimsel (u : U) (s : Nat) (i : SlotIn) : SlotOut :=
  let x := i.inp 0
  let src := u.on (R.SLOT_CTL_IN_SRC s)
  let k := u.rd (R.SLOT_COEF_COEF s 2) % 4
  match u.rd (R.SLOT_CTL_MODE s) with
  | 0 =>
    let y := clampL x (if src then i.inp 1 else u.coef s 1) (if src then i.inp 2 else u.coef s 0)
    ⟨i.st, [y, 0], (outSat 32 0 y).2, y != x⟩
  | 1 =>
    let r := pick (fun a b => decide (a < b)) (i.x.take (k + 1))
    ⟨i.st, [r.1, r.2 * 65536], (outSat 32 0 r.1).2, false⟩
  | 2 =>
    let r := pick (fun a b => decide (b < a)) (i.x.take (k + 1))
    ⟨i.st, [r.1, r.2 * 65536], (outSat 32 0 r.1).2, false⟩
  | 3 =>
    let n := if src then (clamp 0 2 (i.inp 3 / 65536)).toNat else k
    ⟨i.st, [i.inp n, n * 65536], (outSat 32 0 (i.inp n)).2, false⟩
  | _ =>
    let y0 := sx 32 (i.st.getD 0 0)
    let y := outSat 32 0 (if i.entry then x else y0 + clampL (x - y0) (-(u.coef s 1)) (u.coef s 0))
    ⟨i.st.set 0 (enc 32 y.1), [y.1, 0], y.2, y.1 != x⟩

/-- Sum and gain (R242). -/
def U.slotSum (u : U) (s : Nat) (i : SlotIn) : SlotOut :=
  let g := fun n => u.coef s n
  let ofs := u.coef s 4
  match u.rd (R.SLOT_CTL_MODE s) with
  | 0 =>
    let sum := g 0 * i.inp 0 + g 1 * i.inp 1 + g 2 * i.inp 2 + g 3 * i.inp 3 + ofs * 65536
    if u.on (R.SLOT_CTL_WRAP s) then ⟨i.st, [rshift sum 16 % 65536], false, false⟩ else plainOuts i.st [sum] 16
  | 1 => plainOuts i.st [g 0 * i.inp 0 * i.inp 1 + ofs * 2 ^ 32] 32
  | _ =>
    let n := g 0 * i.inp 0
    if i.inp 1 ≠ 0 then plainOuts i.st [rdivI (n + ofs * i.inp 1) (i.inp 1)] 0
    else ⟨i.st, [if n = 0 then ofs else if n > 0 then 2 ^ 31 - 1 else -(2 ^ 31)], true, false⟩

/-- Whether a slot is in service (R232). -/
def U.inService (u : U) (s : Nat) : Bool :=
  u.on (R.SLOT_CTL_EN s) && !u.on (R.SLOT_CTL_HOLD s) && (!u.on (R.SLOT_CTL_BLK_HOLD s) || u.on R.DEP_CTL_CONV_EN)

/-- The state words of a slot. -/
def U.slotState (u : U) (s : Nat) : List Nat := (List.range 8).map (fun n => u.rd (R.SLOT_STATE_STATE s n))

/-- The following-error test of a PI slot (R236): FE_CNT, ARMED, whether FOLLOW is raised. -/
def U.followTest (u : U) (s : Nat) (err : Int) : Nat × Bool × Bool :=
  let time := u.rd (R.SLOT_COEF_COEF s 6) % 65536
  if time != 0 && decide ((err.natAbs : Int) > u.coefU s 5) then
    let cnt := min 65535 (u.rd (R.SLOT_STAT_FE_CNT s) + 1)
    let armed := u.on (R.SLOT_STAT_ARMED s)
    if armed && decide (cnt > time) then (cnt, false, true) else (cnt, armed, false)
  else (0, true, false)

/-- One slot in service computed in a run (R220, R232 to R242): `seen` are the outputs of lower slots of the run, `fresh` the slots
newly enabled. -/
def U.computeSlot (u : U) (g s : Nat) (fresh : List Nat) (seen : Tbl Int) : SlotRes :=
    let st := u.slotState s
    let locked := u.on (R.SLOT_STAT_LOCKED s)
    let armed := u.on (R.SLOT_STAT_ARMED s)
    let read := fun e => seen.get e (u.board e)
    let idx := [u.rd (R.SLOT_IN_A_IN0 s), u.rd (R.SLOT_IN_A_IN1 s), u.rd (R.SLOT_IN_B_IN2 s), u.rd (R.SLOT_IN_B_IN3 s)]
    let o0 := u.slotOut s 0
    let i : SlotIn := ⟨idx.map read, !u.on (R.SLOT_STAT_IN_SERVICE s), fresh.contains s, st,
      if o0 < 256 then 0 else read o0⟩
    let place := fun (o : List Int) =>
      (o.zipIdx).filterMap (fun e => let n := u.slotOut s e.2; if n < 256 then none else some (n, e.1))
    let done := fun (o : SlotOut) (lk ar : Bool) (fe : Nat) (fo un : Bool) =>
      SlotRes.mk s o.st lk ar fe o.sat o.lim fo un (place o.outs)
    match u.rd (R.SLOT_CTL_TYPE s) with
    | 1 =>
      let o := u.slotPi s i
      let f := u.followTest s (o.outs.getD 1 0 - i.inp 0)
      done o locked f.2.1 f.1 f.2.2 false
    | 2 => done (u.slotBiquad s i) locked armed 0 false false
    | 3 => done (u.slotClarke s i) locked armed 0 false false
    | 4 =>
      let o := u.slotPll s g locked i
      done o.1 o.2.1 armed 0 false o.2.2
    | 5 => done (u.slotLimsel s i) locked armed 0 false false
    | _ => done (u.slotSum s i) locked armed 0 false false

/-- What a run that starts at a boundary sees of the registers (R220, R221, R231, R232): the board, the slots' control and CONV_EN, as
the boundary found them. -/
def lpeView (latch : Regs) : Regs :=
  latch.filter (fun e => (decide (0x400310000 * 32 ≤ e.1) && decide (e.1 < 0x400320000 * 32)) || e.1 == R.DEP_CTL_CONV_EN.key)

/-- The unit as the handshake of the boundary that is due found it (R221, R231). -/
def U.latched (u : U) : U := { u with regs := u.lpe.edge.getD u.regs }

/-- The registers that the handshake of a boundary finds, held from the event with which station time reaches it (R221, R231). -/
def U.markEdge (u : U) (t : TimeBase) : U :=
  u.withLpe (fun l => { l with edge := if t.due then some (l.edge.getD u.regs) else none })

/-- The status, coefficients and state words of a slot, which its computation reads as they then stand (R243). -/
def ownWord (s k : Nat) : Bool := decide ((0x400311010 + s * 0x80) * 32 ≤ k) && decide (k < (0x400311060 + s * 0x80) * 32)

/-- The next slot of a run computed (R219, R220, R243). -/
def U.computeNext (u : U) (g : Nat) (r : LpeRun) : LpeRun :=
  match r.left with
  | [] => r
  | s :: rest =>
    let w := { u with regs := r.view.filter (fun (e : Nat × Nat) => !ownWord s e.1) ++ u.regs.filter (fun (e : Nat × Nat) => ownWord s e.1) }
    let seen := r.res.foldl (fun (t : Tbl Int) x => x.outs.foldl (fun t o => t.set o.1 o.2) t) []
    { r with left := rest, res := r.res ++ [w.computeSlot g s r.fresh seen] }

/-- As many slots of a run computed, in ascending slot number (R219). -/
def U.computeSome (u : U) (g : Nat) : Nat → LpeRun → LpeRun
  | 0, r => r
  | n + 1, r => U.computeSome u g n (u.computeNext g r)

/-- A run of a group started at a boundary with a latch of the unit (R219, R220, R231, R232): the slots in service, which are computed
in ascending number, and those that have left service. -/
def U.startRun (u latch : U) (t : TimeBase) (us g : Nat) : LpeRun :=
  let view := lpeView latch.regs
  let w := { u with regs := view }
  let mine := (List.range 96).filter (fun s => w.rd (R.SLOT_CTL_GROUP s) == g)
  ⟨us, t.ref, false, mine.filter w.inService, mine.filter (fun s => !w.inService s && u.on (R.SLOT_STAT_IN_SERVICE s)), view, u.lpe.enNew, []⟩

/-- Whether a faster group has its run open, during which this group computes no slot (R219). -/
def U.fasterOpen (u : U) (g : Nat) : Bool := u.lpe.runs.any (fun e => decide (e.1 < g) && !e.2.tie)

/-- A free number of the slots left of a group's run computed by now: which slots a store comes before is open (R243, log entry 33). While
a faster group's run is open, none is computed (R219). -/
def U.advanceRun (u : U) (g : Nat) : U :=
  match u.lpe.runs.find? g with
  | none => u
  | some r =>
    if u.fasterOpen g then u else
    let d := u.draw
    d.2.withLpe (fun l => { l with runs := l.runs.set g (d.2.computeSome g (d.1 % (r.left.length + 1)) r) })

/-- Whether a slot is in service now: in a run that is open, or in the next one (R232, R233). -/
def U.serving (u : U) (s : Nat) : Bool :=
  u.inService s || u.lpe.runs.any (fun e => e.2.left.contains s || e.2.res.any (fun r => r.slot == s))

/-- A sticky flag of a slot. -/
def stickyFld (f : Nat → Fld) (s : Nat) : Fld := f (s / 32)

/-- A slot's flag of LPE_SAT, LPE_LIM or LPE_FOLLOW set. -/
def U.setSticky (u : U) (f : Fld) (s : Nat) : U := u.wr f (setBit (u.rd f) (s % 32))

/-- The results of a slot committed, but for the flags that raise a cause (R220, R228, R232, R236, R240). -/
def U.commitSlot (u : U) (r : SlotRes) : U :=
  let s := r.slot
  let u := (r.state.zipIdx).foldl (fun u e => u.wr (R.SLOT_STATE_STATE s e.2) e.1) u
  let u := (u.wr (R.SLOT_STAT_IN_SERVICE s) 1).put (R.SLOT_STAT_LOCKED s) r.locked
  let u := (u.put (R.SLOT_STAT_ARMED s) r.armed).wr (R.SLOT_STAT_FE_CNT s) r.feCnt
  let u := r.outs.foldl (fun u o => u.setBoard o.1 o.2) u
  let u := u.withLpe (fun l => { l with enNew := l.enNew.filter (· != s) })
  if r.lim then u.setSticky (R.LPE_LIM_FLAGS (s / 32)) s else u

/-- The flags and causes of a commit (R228, R236, R240): one handshake, so in ascending order of cause bit (R446), and the slots of one
cause in ascending number. -/
def U.commitCauses (u : U) (t : TimeBase) (rs : List SlotRes) : U :=
  let u := rs.foldl (fun (u : U) r =>
    if r.sat && !bitAt (u.rd (R.LPE_SAT_FLAGS (r.slot / 32))) (r.slot % 32) then
      (u.setSticky (R.LPE_SAT_FLAGS (r.slot / 32)) r.slot).raise t LPE.SAT (LPE.det r.slot)
    else u) u
  let u := rs.foldl (fun (u : U) r =>
    if r.followed then (u.setSticky (R.LPE_FOLLOW_FLAGS (r.slot / 32)) r.slot).raise t LPE.FOLLOW (LPE.det r.slot) else u) u
  rs.foldl (fun (u : U) r => if r.unlocked then u.raise t LPE.PLL_UNLOCK (LPE.det r.slot) else u) u

/-- A run with every slot computed committed, but for its causes (R220, R222, R232); `tie` in the handshake of the boundary that starts the
next one. -/
def U.commitRun (u : U) (t : TimeBase) (g : Nat) (r : LpeRun) (tie : Bool) : U :=
  let u := u.withLpe (fun l => { l with runs := l.runs.erase g })
  let u := r.off.foldl (fun (u : U) s => (u.wr (R.SLOT_STAT_IN_SERVICE s) 0).wr (R.SLOT_STAT_FE_CNT s) 0) u
  let u := r.res.foldl (fun u x => u.commitSlot x) u
  let took := min 65535 ((t.ref - r.ref) / 160)
  let next := (t.us / groupUs g + 1) * groupUs g * 1000
  let left := if tie then 0 else min 65535 ((next - t.tns) / 2)
  let u := (u.wr (R.LPE_GRP_TIME_LAST g) took).wr (R.LPE_GRP_TIME_MAX g) (max (u.rd (R.LPE_GRP_TIME_MAX g)) took)
  let u := (u.wr (R.LPE_GRP_MARGIN_LAST g) left).wr (R.LPE_GRP_MARGIN_MIN g) (min (u.rd (R.LPE_GRP_MARGIN_MIN g)) left)
  (u.wr (R.LPE_GRP_OVR_RUN g) 0).wr (R.LPE_GRP_DN_DN g) r.start

/-- Whether a group that goes first still has its run open, one that started no later than this run or that found it with slots left
and so has it paused (R219). -/
def U.waits (u : U) (g : Nat) (r : LpeRun) : Bool :=
  u.lpe.runs.any (fun e => decide (e.1 < g) && !e.2.tie && (decide (e.2.start ≤ r.start) || !r.left.isEmpty))

/-- The commit of a group's run, its last slots computed (R219, R222): in the handshake of the next start boundary it is held to that
boundary. -/
def U.runCommit (u : U) (t : TimeBase) (g : Nat) : U :=
  match u.lpe.runs.find? g with
  | none => u
  | some r =>
    if u.waits g r || r.tie then u else
    let r := u.computeSome g r.left.length r
    if t.due && t.us % groupUs g == 0 then u.withLpe (fun l => { l with runs := l.runs.set g { r with tie := true } })
    else (u.commitRun t g r false).commitCauses t r.res

/-- The end of a group's open run at the boundary that starts its next, but for its causes (R222, R224). -/
def U.closeRunAt (u : U) (t : TimeBase) (g : Nat) : U :=
  match u.lpe.runs.find? g with
  | none => u
  | some r =>
    if r.tie then (u.commitRun t g r true).inc R.LPE_CNT_A_TIE_CNT
    else
      let u := u.withLpe (fun l => { l with runs := l.runs.erase g })
      let u := (u.inc (R.LPE_GRP_OVR_COUNT g)).inc (R.LPE_GRP_OVR_RUN g)
      (u.wr (R.LPE_GRP_MARGIN_LAST g) 0).wr (R.LPE_GRP_MARGIN_MIN g) 0

/-- The causes of the open runs that end at a boundary, `runs` as they stood (R224, R225, R446): those of the groups abandoned, then
those of the ties. -/
def U.closeCauses (u : U) (t : TimeBase) (gs : List Nat) (runs : Tbl LpeRun) : U :=
  let lost := gs.filter (fun g => match runs.find? g with
    | some r => !r.tie
    | none => false)
  let u := u.each lost (fun u g => u.raise t (LPE.OVERRUN g) [(8, 2, g)])
  let u := u.each lost (fun u g => if u.rd (R.LPE_GRP_OVR_RUN g) = 2 then u.raiseRlq t (LPE.OVR_FAULT g) 3 [(8, 2, g)] else u)
  u.commitCauses t (gs.flatMap (fun g => match runs.find? g with
    | some r => if r.tie then r.res else []
    | none => []))

/-- The groups whose runs start at a boundary of full time (R218). -/
def groupsAt (us : Nat) : List Nat := (List.range 3).filter (fun g => us % groupUs g == 0)

/-- The loop engine at a boundary (R218 to R225): `latch` is the unit as it stood at the boundary, whose board every
run that starts there reads. The slower runs in progress pause where they have come to by then (R219). -/
def U.lpeBoundary (u : U) (t : TimeBase) (us : Nat) (latch : U) : U :=
  let gs := groupsAt us
  let u := u.each ((List.range 3).filter (fun g => !gs.contains g)) U.advanceRun
  let runs := u.lpe.runs
  let u := (u.each gs (fun u g => u.closeRunAt t g)).closeCauses t gs runs
  if !u.on R.LPE_CTL_EN then u else
  u.each gs (fun u g => u.withLpe (fun l => { l with runs := l.runs.set g (u.startRun latch t us g) }))

/-- Whether MODE is defined for a type (R230, R238, R241, R242). -/
def modeOk (ty mode : Nat) : Bool :=
  match ty with
  | 3 => decide (mode < 3)
  | 5 => decide (mode < 5)
  | 6 => decide (mode < 3)
  | _ => decide (mode = 0)

/-- The check of a write of 1 to EN (R230). -/
def U.slotOk (u : U) (s : Nat) : Bool :=
  let ty := u.rd (R.SLOT_CTL_TYPE s)
  let outs := ((List.range 3).map (u.slotOut s)).filter (fun n => decide (n ≥ 256))
  ty != 0 && ty != 7 && u.rd (R.SLOT_CTL_GROUP s) != 3 && modeOk ty (u.rd (R.SLOT_CTL_MODE s)) &&
    outs.eraseDups.length == outs.length &&
    !(List.range 96).any (fun k => k != s && u.on (R.SLOT_CTL_EN k) &&
      (List.range 3).any (fun n => outs.contains (u.slotOut k n)))

/-- A slot enabled (R230, R235). -/
def U.slotOn (u : U) (s : Nat) : U :=
  (u.wr (R.SLOT_CTL_EN s) 1).withLpe (fun l => { l with enNew := l.enNew.filter (· != s) ++ [s] })

/-- A write of 1 to EN of a slot (R230). -/
def U.slotEnable (u : U) (t : TimeBase) (s : Nat) : U :=
  if s ≥ 96 || u.on (R.SLOT_CTL_EN s) then u else if u.slotOk s then u.slotOn s else u.lpeRej t (LPE.det s)

/-- The fields of SLOT_CTL that R229 guards. -/
def slotCfgFlds (s : Nat) : List Fld :=
  [R.SLOT_CTL_TYPE s, R.SLOT_CTL_GROUP s, R.SLOT_CTL_MODE s, R.SLOT_CTL_TGT_CONST s, R.SLOT_CTL_FF_EN s,
    R.SLOT_CTL_WRAP s, R.SLOT_CTL_IN_SRC s]

/-- The fields of a store: those given, from the store's data. -/
def U.storeFlds (u : U) (fs : List Fld) (v : Nat) : U := fs.foldl (fun u f => u.wr f (bits v f.lo f.width)) u

/-- Whether a store would change any of the fields given (R603). -/
def U.changes (u : U) (fs : List Fld) (v : Nat) : Bool := fs.any (fun f => u.rd f != bits v f.lo f.width)

/-- A write of a slot's control or index registers, `reg` 0 SLOT_CTL, 1 SLOT_IN_A, 2 SLOT_IN_B, 3 SLOT_OUT
(R229 to R231). -/
def U.slotWrite (u : U) (t : TimeBase) (s reg v : Nat) : U :=
  if s ≥ 96 || reg > 3 then u else
  let fs := match reg with
    | 0 => slotCfgFlds s
    | 1 => [R.SLOT_IN_A_IN0 s, R.SLOT_IN_A_IN1 s]
    | 2 => [R.SLOT_IN_B_IN2 s, R.SLOT_IN_B_IN3 s]
    | _ => [R.SLOT_OUT_OUT0 s, R.SLOT_OUT_OUT1 s, R.SLOT_OUT_OUT2 s]
  if u.on (R.SLOT_CTL_EN s) && u.changes fs v then u.lpeRej t (LPE.det s) else
  let w := u.storeFlds fs v
  if reg ≠ 0 then w else
  let w := w.storeFlds [R.SLOT_CTL_HOLD s, R.SLOT_CTL_BLK_HOLD s] v
  if !bitAt v 6 then w.wr (R.SLOT_CTL_EN s) 0
  else if w.on (R.SLOT_CTL_EN s) then w
  else if w.slotOk s then w.slotOn s
  else u.lpeRej t (LPE.det s)

/-- A core store to a state word (R233); one that keeps its value is no write of it (R603). -/
def U.slotStateStore (u : U) (t : TimeBase) (s n v : Nat) : U :=
  if s ≥ 96 || n ≥ 8 || u.rd (R.SLOT_STATE_STATE s n) = v then u
  else if u.serving s then u.lpeRej t (LPE.det s) else u.wr (R.SLOT_STATE_STATE s n) v

/-- A core store to a coefficient word (R243): the slots of its group's run that come before it in time are computed. -/
def U.slotCoefStore (u : U) (s n v : Nat) : U :=
  if s ≥ 96 || n ≥ 8 then u else (u.advanceRun (u.rd (R.SLOT_CTL_GROUP s))).wr (R.SLOT_COEF_COEF s n) v

/-- An error in a slot record or a board entry, corrected or not (R249, R452, R454, R504). -/
def U.lpeMemError (u : U) (t : TimeBase) (entry : Bool) (n : Nat) (corrected : Bool) : U :=
  if corrected then (u.inc R.LPE_CNT_B_SCRUB_CNT).onMem t (fun io => io.tableError 0x400000000 1)
  else if entry then ((u.wr (R.LPE_BOARD_VALUE n) 0).raiseRlq t LPE.MEM_ERR 0 []).uncorrected t
  else (((u.wr (R.SLOT_CTL_HOLD n) 1).wr (R.SLOT_STAT_MEM n) 1).raiseRlq t LPE.MEM_ERR 0 (LPE.det n)).uncorrected t

/-- A write of EN of LPE_CTL (R252). -/
def U.lpeEnWrite (u : U) (en : Bool) : U :=
  if !en && u.on R.DEP_CTL_CONV_EN then u else u.put R.LPE_CTL_EN en

/-- The mirrored slot state taken by a standby (R248). -/
def U.loopApply (u : U) (slots : List SlotMirror) : U :=
  let u := (List.range 3).foldl (fun (u : U) g => u.advanceRun g) u
  slots.foldl (fun u m =>
    let u := (m.state.take 8).zipIdx.foldl (fun u e => u.wr (R.SLOT_STATE_STATE m.slot e.2) e.1) u
    (u.put (R.SLOT_STAT_LOCKED m.slot) m.locked).wr (R.SLOT_STAT_FE_CNT m.slot) m.feCnt) u

/-- The slot states of this unit (R490, R494). -/
def U.loopLatch (u : U) : List SlotMirror :=
  (List.range 96).map (fun s => ⟨s, u.on (R.SLOT_STAT_LOCKED s), u.rd (R.SLOT_STAT_FE_CNT s), u.slotState s⟩)

end Sys2Proof.Machine
end

