-- ==== Sys2Proof/Machine/MapUnit.lean ====
section
/-! DEFINITION. The register map of the BQ7100 (R574, R576): every field of every register table, with its place, its access code,
its reset value and the values a write may give it. -/
namespace Sys2Proof.Machine

/-- Fields TIM_CTL.PTP_PAIR to TIM_FIRST_TSL.TS_LO. -/
def unitMap0 : List RegRow := [
  ⟨1, 0x0, 1, 0x0, false, ⟨0x400010000, 0, 2, .rw, 0⟩, [(0, 2)]⟩,
  ⟨1, 0x0, 1, 0x0, false, ⟨0x400010000, 4, 2, .rw, 0⟩, [(0, 2)]⟩,
  ⟨1, 0x0, 1, 0x0, false, ⟨0x400010000, 8, 8, .rw, 0⟩, []⟩,
  ⟨1, 0x0, 1, 0x0, false, ⟨0x400010004, 0, 32, .rw, 0⟩, []⟩,
  ⟨1, 0x0, 1, 0x0, false, ⟨0x400010008, 0, 32, .rw, 0⟩, []⟩,
  ⟨1, 0x0, 1, 0x0, false, ⟨0x40001000C, 0, 32, .wo, 0⟩, []⟩,
  ⟨1, 0x0, 1, 0x0, false, ⟨0x400010010, 0, 8, .rw, 100⟩, []⟩,
  ⟨1, 0x0, 1, 0x0, false, ⟨0x400010010, 16, 16, .rw, 1000⟩, []⟩,
  ⟨1, 0x0, 1, 0x0, false, ⟨0x400010014, 0, 16, .rw, 0⟩, []⟩,
  ⟨1, 0x0, 1, 0x0, false, ⟨0x400010018, 0, 32, .rw, 0⟩, []⟩,
  ⟨1, 0x0, 1, 0x0, false, ⟨0x40001001C, 0, 30, .rw, 0⟩, []⟩,
  ⟨1, 0x0, 1, 0x0, false, ⟨0x40001001C, 31, 1, .wo, 0⟩, []⟩,
  ⟨1, 0x0, 1, 0x0, true, ⟨0x400010020, 0, 32, .ro, 0⟩, []⟩,
  ⟨1, 0x0, 1, 0x0, true, ⟨0x400010024, 0, 32, .ro, 0⟩, []⟩,
  ⟨1, 0x0, 1, 0x0, true, ⟨0x400010028, 0, 16, .ro, 0⟩, []⟩,
  ⟨1, 0x0, 1, 0x0, true, ⟨0x400010028, 16, 16, .ro, 0⟩, []⟩,
  ⟨1, 0x0, 1, 0x0, true, ⟨0x40001002C, 0, 32, .ro, 0⟩, []⟩,
  ⟨1, 0x0, 1, 0x0, true, ⟨0x400010030, 0, 30, .ro, 0⟩, []⟩,
  ⟨1, 0x0, 1, 0x0, true, ⟨0x400010034, 0, 32, .ro, 0⟩, []⟩,
  ⟨1, 0x0, 1, 0x0, false, ⟨0x400010040, 0, 1, .w1s, 0⟩, []⟩,
  ⟨1, 0x0, 1, 0x0, false, ⟨0x400010040, 1, 1, .w1s, 0⟩, []⟩,
  ⟨1, 0x0, 1, 0x0, false, ⟨0x400010040, 4, 2, .ro, 0⟩, []⟩,
  ⟨1, 0x0, 1, 0x0, false, ⟨0x400010044, 0, 32, .rw, 0⟩, []⟩,
  ⟨1, 0x0, 1, 0x0, false, ⟨0x400010048, 0, 1, .w1c, 0⟩, []⟩,
  ⟨1, 0x0, 1, 0x0, false, ⟨0x400010048, 1, 1, .w1c, 0⟩, []⟩,
  ⟨1, 0x0, 1, 0x0, false, ⟨0x400010048, 2, 1, .w1c, 0⟩, []⟩,
  ⟨1, 0x0, 1, 0x0, false, ⟨0x400010048, 3, 1, .w1c, 0⟩, []⟩,
  ⟨1, 0x0, 1, 0x0, false, ⟨0x400010048, 4, 1, .w1c, 0⟩, []⟩,
  ⟨1, 0x0, 1, 0x0, false, ⟨0x400010048, 5, 1, .w1c, 0⟩, []⟩,
  ⟨1, 0x0, 1, 0x0, false, ⟨0x400010048, 6, 1, .w1c, 0⟩, []⟩,
  ⟨1, 0x0, 1, 0x0, false, ⟨0x400010048, 8, 1, .ro, 0⟩, []⟩,
  ⟨1, 0x0, 1, 0x0, false, ⟨0x400010048, 9, 1, .ro, 0⟩, []⟩,
  ⟨1, 0x0, 1, 0x0, false, ⟨0x400010048, 10, 1, .w1c, 0⟩, []⟩,
  ⟨1, 0x0, 1, 0x0, false, ⟨0x400010048, 11, 1, .w1c, 0⟩, []⟩,
  ⟨1, 0x0, 1, 0x0, false, ⟨0x400010048, 12, 1, .w1c, 0⟩, []⟩,
  ⟨1, 0x0, 1, 0x0, false, ⟨0x400010048, 13, 1, .w1c, 0⟩, []⟩,
  ⟨1, 0x0, 1, 0x0, false, ⟨0x400010048, 16, 1, .w1c, 0⟩, []⟩,
  ⟨1, 0x0, 1, 0x0, false, ⟨0x400010048, 17, 1, .w1c, 0⟩, []⟩,
  ⟨1, 0x0, 1, 0x0, false, ⟨0x400010048, 18, 1, .w1c, 0⟩, []⟩,
  ⟨1, 0x0, 1, 0x0, false, ⟨0x400010048, 19, 1, .w1c, 0⟩, []⟩,
  ⟨1, 0x0, 1, 0x0, false, ⟨0x400010060, 0, 1, .rw, 1⟩, []⟩,
  ⟨1, 0x0, 1, 0x0, false, ⟨0x400010060, 1, 1, .rw, 1⟩, []⟩,
  ⟨1, 0x0, 1, 0x0, false, ⟨0x400010060, 2, 1, .rw, 1⟩, []⟩,
  ⟨1, 0x0, 1, 0x0, false, ⟨0x400010060, 3, 1, .rw, 1⟩, []⟩,
  ⟨1, 0x0, 1, 0x0, false, ⟨0x400010060, 4, 1, .rw, 1⟩, []⟩,
  ⟨1, 0x0, 1, 0x0, false, ⟨0x400010060, 5, 1, .rw, 1⟩, []⟩,
  ⟨1, 0x0, 1, 0x0, false, ⟨0x400010060, 6, 1, .ro, 1⟩, []⟩,
  ⟨1, 0x0, 1, 0x0, false, ⟨0x400010060, 10, 1, .rw, 1⟩, []⟩,
  ⟨1, 0x0, 1, 0x0, false, ⟨0x400010060, 11, 1, .rw, 1⟩, []⟩,
  ⟨1, 0x0, 1, 0x0, false, ⟨0x400010060, 12, 1, .rw, 1⟩, []⟩,
  ⟨1, 0x0, 1, 0x0, false, ⟨0x400010060, 13, 1, .rw, 1⟩, []⟩,
  ⟨1, 0x0, 1, 0x0, false, ⟨0x400010060, 16, 1, .rw, 1⟩, []⟩,
  ⟨1, 0x0, 1, 0x0, false, ⟨0x400010060, 17, 1, .rw, 1⟩, []⟩,
  ⟨1, 0x0, 1, 0x0, false, ⟨0x400010060, 18, 1, .rw, 1⟩, []⟩,
  ⟨1, 0x0, 1, 0x0, false, ⟨0x400010060, 19, 1, .rw, 1⟩, []⟩,
  ⟨1, 0x0, 1, 0x0, false, ⟨0x400010064, 0, 4, .ro, 0⟩, []⟩,
  ⟨1, 0x0, 1, 0x0, false, ⟨0x400010064, 4, 4, .ro, 0⟩, []⟩,
  ⟨1, 0x0, 1, 0x0, false, ⟨0x400010064, 8, 2, .ro, 0⟩, []⟩,
  ⟨1, 0x0, 1, 0x0, false, ⟨0x400010064, 31, 1, .ro, 0⟩, []⟩,
  ⟨1, 0x0, 1, 0x0, false, ⟨0x400010068, 0, 32, .ro, 0⟩, []⟩]

/-- Fields TIM_FIRST_TSH.TS_HI to FRN_DISCARD.FUTURE. -/
def unitMap1 : List RegRow := [
  ⟨1, 0x0, 1, 0x0, false, ⟨0x40001006C, 0, 32, .ro, 0⟩, []⟩,
  ⟨1, 0x0, 1, 0x0, false, ⟨0x400010070, 0, 16, .ro, 0⟩, []⟩,
  ⟨1, 0x0, 1, 0x0, false, ⟨0x400010074, 0, 1, .wo, 0⟩, []⟩,
  ⟨1, 0x0, 1, 0x0, false, ⟨0x40001004C, 0, 32, .ro, 0⟩, []⟩,
  ⟨1, 0x0, 1, 0x0, false, ⟨0x400010050, 0, 16, .rw, 160⟩, []⟩,
  ⟨4, 0x4, 1, 0x0, false, ⟨0x400010080, 0, 16, .rw, 0⟩, []⟩,
  ⟨4, 0x4, 1, 0x0, false, ⟨0x400010080, 16, 16, .rw, 0⟩, []⟩,
  ⟨4, 0x10, 1, 0x0, false, ⟨0x400010100, 0, 5, .ro, 0⟩, []⟩,
  ⟨4, 0x10, 1, 0x0, false, ⟨0x400010100, 8, 1, .w1c, 0⟩, []⟩,
  ⟨4, 0x10, 1, 0x0, false, ⟨0x400010100, 12, 1, .wo, 0⟩, []⟩,
  ⟨4, 0x10, 1, 0x0, false, ⟨0x400010100, 16, 16, .ro, 0⟩, []⟩,
  ⟨4, 0x10, 1, 0x0, false, ⟨0x400010104, 0, 2, .ro, 0⟩, []⟩,
  ⟨4, 0x10, 1, 0x0, false, ⟨0x400010104, 4, 4, .ro, 0⟩, []⟩,
  ⟨4, 0x10, 1, 0x0, false, ⟨0x400010104, 16, 16, .ro, 0⟩, []⟩,
  ⟨4, 0x10, 1, 0x0, false, ⟨0x400010108, 0, 32, .ro, 0⟩, []⟩,
  ⟨4, 0x10, 1, 0x0, false, ⟨0x40001010C, 0, 32, .ro, 0⟩, []⟩,
  ⟨12, 0x10000, 1, 0x0, false, ⟨0x400100000, 0, 1, .rw, 0⟩, []⟩,
  ⟨12, 0x10000, 1, 0x0, false, ⟨0x400100000, 1, 1, .rw, 1⟩, []⟩,
  ⟨12, 0x10000, 1, 0x0, false, ⟨0x400100000, 2, 1, .rw, 1⟩, []⟩,
  ⟨12, 0x10000, 1, 0x0, false, ⟨0x400100000, 4, 4, .rw, 3⟩, [(1, 8)]⟩,
  ⟨12, 0x10000, 1, 0x0, false, ⟨0x400100000, 8, 5, .rw, 10⟩, [(4, 16)]⟩,
  ⟨12, 0x10000, 1, 0x0, false, ⟨0x400100000, 16, 1, .rw, 0⟩, []⟩,
  ⟨12, 0x10000, 1, 0x0, false, ⟨0x400100004, 0, 5, .ro, 0⟩, []⟩,
  ⟨12, 0x10000, 1, 0x0, false, ⟨0x400100004, 8, 6, .rw, 0⟩, []⟩,
  ⟨12, 0x10000, 1, 0x0, false, ⟨0x400100004, 16, 4, .rw, 0⟩, []⟩,
  ⟨12, 0x10000, 1, 0x0, false, ⟨0x400100004, 24, 1, .rw, 0⟩, []⟩,
  ⟨12, 0x10000, 1, 0x0, false, ⟨0x400100004, 30, 2, .ro, 0⟩, []⟩,
  ⟨12, 0x10000, 1, 0x0, false, ⟨0x400100008, 0, 16, .rw, 64⟩, []⟩,
  ⟨12, 0x10000, 1, 0x0, false, ⟨0x400100008, 16, 8, .rw, 3⟩, [(1, 255)]⟩,
  ⟨12, 0x10000, 1, 0x0, false, ⟨0x40010000C, 0, 16, .rw, 200⟩, []⟩,
  ⟨12, 0x10000, 1, 0x0, false, ⟨0x400100010, 0, 10, .rw, 50⟩, [(0, 500)]⟩,
  ⟨12, 0x10000, 1, 0x0, false, ⟨0x400100014, 0, 1, .w1c, 0⟩, []⟩,
  ⟨12, 0x10000, 1, 0x0, false, ⟨0x400100014, 1, 1, .w1c, 0⟩, []⟩,
  ⟨12, 0x10000, 1, 0x0, false, ⟨0x400100014, 2, 1, .w1c, 0⟩, []⟩,
  ⟨12, 0x10000, 1, 0x0, false, ⟨0x400100014, 3, 1, .w1c, 0⟩, []⟩,
  ⟨12, 0x10000, 1, 0x0, false, ⟨0x400100014, 4, 1, .w1c, 0⟩, []⟩,
  ⟨12, 0x10000, 1, 0x0, false, ⟨0x400100014, 5, 1, .w1c, 0⟩, []⟩,
  ⟨12, 0x10000, 1, 0x0, false, ⟨0x400100014, 16, 1, .ro, 0⟩, []⟩,
  ⟨12, 0x10000, 1, 0x0, false, ⟨0x400100014, 17, 1, .ro, 0⟩, []⟩,
  ⟨12, 0x10000, 1, 0x0, false, ⟨0x400100018, 0, 1, .rw, 1⟩, []⟩,
  ⟨12, 0x10000, 1, 0x0, false, ⟨0x400100018, 1, 1, .rw, 1⟩, []⟩,
  ⟨12, 0x10000, 1, 0x0, false, ⟨0x400100018, 2, 1, .rw, 1⟩, []⟩,
  ⟨12, 0x10000, 1, 0x0, false, ⟨0x400100018, 3, 1, .rw, 1⟩, []⟩,
  ⟨12, 0x10000, 1, 0x0, false, ⟨0x400100018, 4, 1, .ro, 1⟩, []⟩,
  ⟨12, 0x10000, 1, 0x0, false, ⟨0x400100018, 5, 1, .ro, 1⟩, []⟩,
  ⟨12, 0x10000, 1, 0x0, false, ⟨0x40010001C, 0, 4, .ro, 0⟩, []⟩,
  ⟨12, 0x10000, 1, 0x0, false, ⟨0x40010001C, 4, 4, .ro, 0⟩, []⟩,
  ⟨12, 0x10000, 1, 0x0, false, ⟨0x40010001C, 16, 11, .ro, 0⟩, []⟩,
  ⟨12, 0x10000, 1, 0x0, false, ⟨0x40010001C, 31, 1, .ro, 0⟩, []⟩,
  ⟨12, 0x10000, 1, 0x0, false, ⟨0x400100020, 0, 32, .ro, 0⟩, []⟩,
  ⟨12, 0x10000, 1, 0x0, false, ⟨0x400100024, 0, 32, .ro, 0⟩, []⟩,
  ⟨12, 0x10000, 1, 0x0, false, ⟨0x400100028, 0, 16, .ro, 0⟩, []⟩,
  ⟨12, 0x10000, 1, 0x0, false, ⟨0x400100028, 16, 16, .ro, 0⟩, []⟩,
  ⟨12, 0x10000, 1, 0x0, false, ⟨0x40010002C, 0, 1, .wo, 0⟩, []⟩,
  ⟨12, 0x10000, 1, 0x0, false, ⟨0x400100030, 0, 32, .ro, 0⟩, []⟩,
  ⟨12, 0x10000, 1, 0x0, false, ⟨0x400100034, 0, 32, .ro, 0⟩, []⟩,
  ⟨12, 0x10000, 1, 0x0, false, ⟨0x400100038, 0, 16, .ro, 0⟩, []⟩,
  ⟨12, 0x10000, 1, 0x0, false, ⟨0x400100038, 16, 16, .rc, 0⟩, []⟩,
  ⟨12, 0x10000, 1, 0x0, false, ⟨0x40010003C, 0, 16, .rc, 0⟩, []⟩,
  ⟨12, 0x10000, 1, 0x0, false, ⟨0x40010003C, 16, 16, .rc, 0⟩, []⟩]

/-- Fields FRN_SKIP.SKIP to MSH_CNT_A.DWELL_BRK_CNT. -/
def unitMap2 : List RegRow := [
  ⟨12, 0x10000, 1, 0x0, false, ⟨0x400100040, 0, 16, .rc, 0⟩, []⟩,
  ⟨12, 0x10000, 1, 0x0, false, ⟨0x400100040, 16, 16, .rc, 0⟩, []⟩,
  ⟨12, 0x10000, 1, 0x0, false, ⟨0x400100044, 0, 11, .rw, 0⟩, []⟩,
  ⟨12, 0x10000, 1, 0x0, false, ⟨0x400100044, 16, 3, .rw, 0⟩, []⟩,
  ⟨12, 0x10000, 1, 0x0, false, ⟨0x400100044, 31, 1, .w1s, 0⟩, []⟩,
  ⟨12, 0x10000, 1, 0x0, false, ⟨0x400100048, 0, 32, .rw, 0⟩, []⟩,
  ⟨12, 0x10000, 1, 0x0, false, ⟨0x40010004C, 0, 1, .w1c, 0⟩, []⟩,
  ⟨12, 0x10000, 1, 0x0, false, ⟨0x40010004C, 1, 1, .w1c, 0⟩, []⟩,
  ⟨12, 0x10000, 1, 0x0, false, ⟨0x400200000, 0, 1, .rw, 0⟩, []⟩,
  ⟨12, 0x10000, 1, 0x0, false, ⟨0x400200000, 1, 1, .rw, 0⟩, []⟩,
  ⟨12, 0x10000, 1, 0x0, false, ⟨0x400200000, 2, 1, .rw, 0⟩, []⟩,
  ⟨12, 0x10000, 1, 0x0, false, ⟨0x400200000, 4, 10, .rw, 0⟩, []⟩,
  ⟨12, 0x10000, 1, 0x0, false, ⟨0x400200004, 0, 16, .rw, 205⟩, []⟩,
  ⟨12, 0x10000, 1, 0x0, false, ⟨0x400200004, 16, 16, .rw, 20⟩, []⟩,
  ⟨12, 0x10000, 1, 0x0, false, ⟨0x400200008, 0, 7, .rw, 16⟩, [(1, 64)]⟩,
  ⟨12, 0x10000, 1, 0x0, false, ⟨0x400200008, 8, 8, .rw, 4⟩, []⟩,
  ⟨12, 0x10000, 1, 0x0, false, ⟨0x40020000C, 0, 10, .rw, 10⟩, [(1, 1000)]⟩,
  ⟨12, 0x10000, 1, 0x0, false, ⟨0x40020000C, 16, 10, .rw, 120⟩, [(0, 500)]⟩,
  ⟨12, 0x10000, 1, 0x0, false, ⟨0x400200010, 0, 10, .rw, 150⟩, [(0, 500)]⟩,
  ⟨12, 0x10000, 1, 0x0, false, ⟨0x400200014, 0, 3, .rw, 2⟩, []⟩,
  ⟨12, 0x10000, 1, 0x0, false, ⟨0x400200014, 16, 16, .rw, 400⟩, [(1, 65535)]⟩,
  ⟨12, 0x10000, 1, 0x0, false, ⟨0x400200018, 0, 12, .rw, 0⟩, [(0, 2048)]⟩,
  ⟨12, 0x10000, 1, 0x0, false, ⟨0x40020001C, 0, 1, .w1c, 0⟩, []⟩,
  ⟨12, 0x10000, 1, 0x0, false, ⟨0x40020001C, 1, 1, .w1c, 0⟩, []⟩,
  ⟨12, 0x10000, 1, 0x0, false, ⟨0x40020001C, 2, 1, .w1c, 0⟩, []⟩,
  ⟨12, 0x10000, 1, 0x0, false, ⟨0x40020001C, 3, 1, .w1c, 0⟩, []⟩,
  ⟨12, 0x10000, 1, 0x0, false, ⟨0x40020001C, 4, 1, .w1c, 0⟩, []⟩,
  ⟨12, 0x10000, 1, 0x0, false, ⟨0x40020001C, 16, 1, .ro, 0⟩, []⟩,
  ⟨12, 0x10000, 1, 0x0, false, ⟨0x40020001C, 17, 1, .ro, 0⟩, []⟩,
  ⟨12, 0x10000, 1, 0x0, false, ⟨0x40020001C, 18, 1, .ro, 0⟩, []⟩,
  ⟨12, 0x10000, 1, 0x0, false, ⟨0x40020001C, 19, 1, .ro, 0⟩, []⟩,
  ⟨12, 0x10000, 1, 0x0, false, ⟨0x400200020, 0, 1, .rw, 1⟩, []⟩,
  ⟨12, 0x10000, 1, 0x0, false, ⟨0x400200020, 1, 1, .rw, 1⟩, []⟩,
  ⟨12, 0x10000, 1, 0x0, false, ⟨0x400200020, 2, 1, .rw, 1⟩, []⟩,
  ⟨12, 0x10000, 1, 0x0, false, ⟨0x400200020, 3, 1, .rw, 1⟩, []⟩,
  ⟨12, 0x10000, 1, 0x0, false, ⟨0x400200020, 4, 1, .ro, 1⟩, []⟩,
  ⟨12, 0x10000, 1, 0x0, false, ⟨0x400200024, 0, 4, .ro, 0⟩, []⟩,
  ⟨12, 0x10000, 1, 0x0, false, ⟨0x400200024, 4, 4, .ro, 0⟩, []⟩,
  ⟨12, 0x10000, 1, 0x0, false, ⟨0x400200024, 16, 11, .ro, 0⟩, []⟩,
  ⟨12, 0x10000, 1, 0x0, false, ⟨0x400200024, 31, 1, .ro, 0⟩, []⟩,
  ⟨12, 0x10000, 1, 0x0, false, ⟨0x400200028, 0, 32, .ro, 0⟩, []⟩,
  ⟨12, 0x10000, 1, 0x0, false, ⟨0x40020002C, 0, 32, .ro, 0⟩, []⟩,
  ⟨12, 0x10000, 1, 0x0, false, ⟨0x400200030, 0, 16, .ro, 0⟩, []⟩,
  ⟨12, 0x10000, 1, 0x0, false, ⟨0x400200034, 0, 1, .wo, 0⟩, []⟩,
  ⟨12, 0x10000, 1, 0x0, false, ⟨0x400200038, 0, 16, .ro, 0⟩, []⟩,
  ⟨12, 0x10000, 1, 0x0, false, ⟨0x400200038, 16, 16, .rc, 65535⟩, []⟩,
  ⟨12, 0x10000, 1, 0x0, false, ⟨0x40020003C, 0, 16, .ro, 0⟩, []⟩,
  ⟨12, 0x10000, 1, 0x0, false, ⟨0x40020003C, 16, 16, .rc, 0⟩, []⟩,
  ⟨12, 0x10000, 1, 0x0, false, ⟨0x400200040, 0, 32, .ro, 0⟩, []⟩,
  ⟨12, 0x10000, 1, 0x0, false, ⟨0x400200044, 0, 32, .ro, 0⟩, []⟩,
  ⟨12, 0x10000, 1, 0x0, false, ⟨0x400200048, 0, 12, .ro, 0⟩, []⟩,
  ⟨12, 0x10000, 1, 0x0, false, ⟨0x400200048, 16, 12, .ro, 0⟩, []⟩,
  ⟨12, 0x10000, 1, 0x0, false, ⟨0x40020004C, 0, 11, .ro, 0⟩, []⟩,
  ⟨12, 0x10000, 1, 0x0, false, ⟨0x40020004C, 16, 1, .ro, 0⟩, []⟩,
  ⟨12, 0x10000, 1, 0x0, false, ⟨0x40020004C, 18, 1, .ro, 0⟩, []⟩,
  ⟨12, 0x10000, 1, 0x0, false, ⟨0x400200050, 0, 32, .ro, 0⟩, []⟩,
  ⟨12, 0x10000, 1, 0x0, false, ⟨0x400200054, 0, 7, .ro, 0⟩, []⟩,
  ⟨12, 0x10000, 1, 0x0, false, ⟨0x400200054, 7, 1, .ro, 0⟩, []⟩,
  ⟨12, 0x10000, 1, 0x0, false, ⟨0x400200054, 8, 12, .ro, 0⟩, []⟩,
  ⟨12, 0x10000, 1, 0x0, false, ⟨0x400200058, 0, 16, .rc, 0⟩, []⟩]

/-- Fields MSH_CNT_A.REF_LATE_CNT to DEP_PEEK_DATA.GRANT. -/
def unitMap3 : List RegRow := [
  ⟨12, 0x10000, 1, 0x0, false, ⟨0x400200058, 16, 16, .rc, 0⟩, []⟩,
  ⟨12, 0x10000, 1, 0x0, false, ⟨0x40020005C, 0, 16, .rc, 0⟩, []⟩,
  ⟨12, 0x10000, 1, 0x0, false, ⟨0x40020005C, 16, 16, .rc, 0⟩, []⟩,
  ⟨12, 0x10000, 1, 0x0, false, ⟨0x400200060, 0, 11, .ro, 0⟩, []⟩,
  ⟨12, 0x10000, 1, 0x0, false, ⟨0x400200064, 0, 11, .rw, 0⟩, []⟩,
  ⟨12, 0x10000, 1, 0x0, false, ⟨0x400200064, 16, 3, .rw, 0⟩, []⟩,
  ⟨12, 0x10000, 1, 0x0, false, ⟨0x400200064, 31, 1, .w1s, 0⟩, []⟩,
  ⟨12, 0x10000, 1, 0x0, false, ⟨0x400200068, 0, 1, .w1c, 0⟩, []⟩,
  ⟨12, 0x10000, 1, 0x0, false, ⟨0x400200068, 1, 1, .w1c, 0⟩, []⟩,
  ⟨1, 0x0, 1, 0x0, false, ⟨0x400300000, 0, 1, .rw, 0⟩, []⟩,
  ⟨1, 0x0, 1, 0x0, false, ⟨0x400300000, 4, 4, .rw, 0⟩, [(2, 8)]⟩,
  ⟨1, 0x0, 1, 0x0, false, ⟨0x400300004, 0, 1, .w1c, 0⟩, []⟩,
  ⟨1, 0x0, 1, 0x0, false, ⟨0x400300004, 1, 1, .w1c, 0⟩, []⟩,
  ⟨1, 0x0, 1, 0x0, false, ⟨0x400300004, 2, 1, .w1c, 0⟩, []⟩,
  ⟨1, 0x0, 1, 0x0, false, ⟨0x400300004, 3, 1, .w1c, 0⟩, []⟩,
  ⟨1, 0x0, 1, 0x0, false, ⟨0x400300004, 4, 1, .w1c, 0⟩, []⟩,
  ⟨1, 0x0, 1, 0x0, false, ⟨0x400300004, 5, 1, .w1c, 0⟩, []⟩,
  ⟨1, 0x0, 1, 0x0, false, ⟨0x400300004, 16, 1, .ro, 0⟩, []⟩,
  ⟨1, 0x0, 1, 0x0, false, ⟨0x400300004, 17, 1, .ro, 0⟩, []⟩,
  ⟨1, 0x0, 1, 0x0, false, ⟨0x400300004, 18, 1, .ro, 0⟩, []⟩,
  ⟨1, 0x0, 1, 0x0, false, ⟨0x400300008, 0, 1, .rw, 1⟩, []⟩,
  ⟨1, 0x0, 1, 0x0, false, ⟨0x400300008, 1, 1, .ro, 1⟩, []⟩,
  ⟨1, 0x0, 1, 0x0, false, ⟨0x400300008, 2, 1, .ro, 1⟩, []⟩,
  ⟨1, 0x0, 1, 0x0, false, ⟨0x400300008, 3, 1, .rw, 1⟩, []⟩,
  ⟨1, 0x0, 1, 0x0, false, ⟨0x400300008, 4, 1, .rw, 1⟩, []⟩,
  ⟨1, 0x0, 1, 0x0, false, ⟨0x400300008, 5, 1, .rw, 1⟩, []⟩,
  ⟨1, 0x0, 1, 0x0, false, ⟨0x40030000C, 0, 4, .ro, 0⟩, []⟩,
  ⟨1, 0x0, 1, 0x0, false, ⟨0x40030000C, 4, 4, .ro, 0⟩, []⟩,
  ⟨1, 0x0, 1, 0x0, false, ⟨0x40030000C, 8, 4, .ro, 0⟩, []⟩,
  ⟨1, 0x0, 1, 0x0, false, ⟨0x40030000C, 31, 1, .ro, 0⟩, []⟩,
  ⟨1, 0x0, 1, 0x0, false, ⟨0x400300010, 0, 32, .ro, 0⟩, []⟩,
  ⟨1, 0x0, 1, 0x0, false, ⟨0x400300014, 0, 32, .ro, 0⟩, []⟩,
  ⟨1, 0x0, 1, 0x0, false, ⟨0x400300018, 0, 16, .ro, 0⟩, []⟩,
  ⟨1, 0x0, 1, 0x0, false, ⟨0x40030001C, 0, 1, .wo, 0⟩, []⟩,
  ⟨1, 0x0, 1, 0x0, false, ⟨0x400300020, 0, 1, .wo, 0⟩, []⟩,
  ⟨1, 0x0, 1, 0x0, false, ⟨0x400300020, 1, 1, .wo, 0⟩, []⟩,
  ⟨1, 0x0, 1, 0x0, false, ⟨0x400300024, 0, 6, .ro, 0⟩, []⟩,
  ⟨1, 0x0, 1, 0x0, false, ⟨0x400300024, 8, 3, .ro, 0⟩, []⟩,
  ⟨1, 0x0, 1, 0x0, false, ⟨0x400300024, 16, 8, .ro, 0⟩, []⟩,
  ⟨1, 0x0, 1, 0x0, false, ⟨0x400300028, 0, 32, .ro, 0⟩, []⟩,
  ⟨1, 0x0, 1, 0x0, false, ⟨0x40030002C, 0, 32, .ro, 0⟩, []⟩,
  ⟨1, 0x0, 1, 0x0, false, ⟨0x400300030, 0, 32, .ro, 0⟩, []⟩,
  ⟨1, 0x0, 1, 0x0, false, ⟨0x400300034, 0, 12, .w1c, 0⟩, []⟩,
  ⟨1, 0x0, 1, 0x0, false, ⟨0x400300034, 16, 12, .ro, 0⟩, []⟩,
  ⟨12, 0x4, 1, 0x0, false, ⟨0x400300040, 0, 16, .rc, 0⟩, []⟩,
  ⟨12, 0x4, 1, 0x0, false, ⟨0x400300040, 16, 8, .ro, 0⟩, []⟩,
  ⟨1, 0x0, 1, 0x0, false, ⟨0x400300080, 0, 15, .rw, 0⟩, []⟩,
  ⟨1, 0x0, 1, 0x0, false, ⟨0x400300080, 16, 4, .rw, 0⟩, []⟩,
  ⟨1, 0x0, 1, 0x0, false, ⟨0x400300080, 20, 2, .rw, 0⟩, []⟩,
  ⟨1, 0x0, 1, 0x0, false, ⟨0x400300080, 31, 1, .w1s, 0⟩, []⟩,
  ⟨1, 0x0, 1, 0x0, false, ⟨0x400300084, 0, 32, .rw, 0⟩, []⟩,
  ⟨1, 0x0, 1, 0x0, false, ⟨0x400300088, 0, 1, .w1c, 0⟩, []⟩,
  ⟨1, 0x0, 1, 0x0, false, ⟨0x400300088, 1, 1, .w1c, 0⟩, []⟩,
  ⟨1, 0x0, 1, 0x0, false, ⟨0x400300088, 2, 1, .w1c, 0⟩, []⟩,
  ⟨1, 0x0, 1, 0x0, false, ⟨0x400300088, 8, 7, .ro, 0⟩, []⟩,
  ⟨1, 0x0, 1, 0x0, false, ⟨0x40030008C, 0, 32, .ro, 0⟩, []⟩,
  ⟨1, 0x0, 1, 0x0, false, ⟨0x400300090, 0, 15, .rw, 0⟩, []⟩,
  ⟨1, 0x0, 1, 0x0, false, ⟨0x400300094, 0, 32, .rw, 0⟩, []⟩,
  ⟨1, 0x0, 1, 0x0, false, ⟨0x400300098, 0, 4, .ro, 0⟩, []⟩,
  ⟨1, 0x0, 1, 0x0, false, ⟨0x400300098, 4, 1, .ro, 0⟩, []⟩]

/-- Fields DEP_PEEK_DATA.TRIM to SLOT_OUT.OUT2. -/
def unitMap4 : List RegRow := [
  ⟨1, 0x0, 1, 0x0, false, ⟨0x400300098, 5, 1, .ro, 0⟩, []⟩,
  ⟨1, 0x0, 1, 0x0, false, ⟨0x400300098, 6, 1, .ro, 0⟩, []⟩,
  ⟨1, 0x0, 1, 0x0, false, ⟨0x400300098, 7, 1, .ro, 0⟩, []⟩,
  ⟨1, 0x0, 1, 0x0, false, ⟨0x400300098, 8, 1, .ro, 0⟩, []⟩,
  ⟨1, 0x0, 1, 0x0, false, ⟨0x400300098, 9, 1, .ro, 0⟩, []⟩,
  ⟨1, 0x0, 1, 0x0, false, ⟨0x400300098, 16, 16, .ro, 0⟩, []⟩,
  ⟨1, 0x0, 1, 0x0, false, ⟨0x400310000, 0, 1, .rw, 0⟩, []⟩,
  ⟨1, 0x0, 1, 0x0, false, ⟨0x400310004, 0, 1, .w1c, 0⟩, []⟩,
  ⟨1, 0x0, 1, 0x0, false, ⟨0x400310004, 1, 1, .w1c, 0⟩, []⟩,
  ⟨1, 0x0, 1, 0x0, false, ⟨0x400310004, 2, 1, .w1c, 0⟩, []⟩,
  ⟨1, 0x0, 1, 0x0, false, ⟨0x400310004, 3, 1, .w1c, 0⟩, []⟩,
  ⟨1, 0x0, 1, 0x0, false, ⟨0x400310004, 4, 1, .w1c, 0⟩, []⟩,
  ⟨1, 0x0, 1, 0x0, false, ⟨0x400310004, 5, 1, .w1c, 0⟩, []⟩,
  ⟨1, 0x0, 1, 0x0, false, ⟨0x400310004, 6, 1, .w1c, 0⟩, []⟩,
  ⟨1, 0x0, 1, 0x0, false, ⟨0x400310008, 0, 1, .rw, 1⟩, []⟩,
  ⟨1, 0x0, 1, 0x0, false, ⟨0x400310008, 1, 1, .ro, 1⟩, []⟩,
  ⟨1, 0x0, 1, 0x0, false, ⟨0x400310008, 2, 1, .rw, 0⟩, []⟩,
  ⟨1, 0x0, 1, 0x0, false, ⟨0x400310008, 3, 1, .rw, 1⟩, []⟩,
  ⟨1, 0x0, 1, 0x0, false, ⟨0x400310008, 4, 1, .rw, 1⟩, []⟩,
  ⟨1, 0x0, 1, 0x0, false, ⟨0x400310008, 5, 1, .rw, 1⟩, []⟩,
  ⟨1, 0x0, 1, 0x0, false, ⟨0x400310008, 6, 1, .ro, 1⟩, []⟩,
  ⟨1, 0x0, 1, 0x0, false, ⟨0x40031000C, 0, 4, .ro, 0⟩, []⟩,
  ⟨1, 0x0, 1, 0x0, false, ⟨0x40031000C, 4, 4, .ro, 0⟩, []⟩,
  ⟨1, 0x0, 1, 0x0, false, ⟨0x40031000C, 8, 2, .ro, 0⟩, []⟩,
  ⟨1, 0x0, 1, 0x0, false, ⟨0x40031000C, 16, 7, .ro, 0⟩, []⟩,
  ⟨1, 0x0, 1, 0x0, false, ⟨0x40031000C, 31, 1, .ro, 0⟩, []⟩,
  ⟨1, 0x0, 1, 0x0, false, ⟨0x400310010, 0, 32, .ro, 0⟩, []⟩,
  ⟨1, 0x0, 1, 0x0, false, ⟨0x400310014, 0, 32, .ro, 0⟩, []⟩,
  ⟨1, 0x0, 1, 0x0, false, ⟨0x400310018, 0, 16, .ro, 0⟩, []⟩,
  ⟨1, 0x0, 1, 0x0, false, ⟨0x40031001C, 0, 1, .wo, 0⟩, []⟩,
  ⟨1, 0x0, 1, 0x0, false, ⟨0x400310020, 0, 16, .rc, 0⟩, []⟩,
  ⟨1, 0x0, 1, 0x0, false, ⟨0x400310020, 16, 16, .rc, 0⟩, []⟩,
  ⟨1, 0x0, 1, 0x0, false, ⟨0x400310024, 0, 16, .rc, 0⟩, []⟩,
  ⟨3, 0x10, 1, 0x0, false, ⟨0x400310040, 0, 16, .ro, 0⟩, []⟩,
  ⟨3, 0x10, 1, 0x0, false, ⟨0x400310040, 16, 16, .rc, 0⟩, []⟩,
  ⟨3, 0x10, 1, 0x0, false, ⟨0x400310044, 0, 16, .ro, 0⟩, []⟩,
  ⟨3, 0x10, 1, 0x0, false, ⟨0x400310044, 16, 16, .rc, 65535⟩, []⟩,
  ⟨3, 0x10, 1, 0x0, false, ⟨0x400310048, 0, 16, .rc, 0⟩, []⟩,
  ⟨3, 0x10, 1, 0x0, false, ⟨0x400310048, 16, 8, .ro, 0⟩, []⟩,
  ⟨3, 0x10, 1, 0x0, false, ⟨0x40031004C, 0, 32, .ro, 0⟩, []⟩,
  ⟨3, 0x4, 1, 0x0, false, ⟨0x400310080, 0, 32, .w1c, 0⟩, []⟩,
  ⟨3, 0x4, 1, 0x0, false, ⟨0x400310090, 0, 32, .w1c, 0⟩, []⟩,
  ⟨3, 0x4, 1, 0x0, false, ⟨0x4003100A0, 0, 32, .w1c, 0⟩, []⟩,
  ⟨96, 0x80, 1, 0x0, false, ⟨0x400311000, 0, 3, .rw, 0⟩, []⟩,
  ⟨96, 0x80, 1, 0x0, false, ⟨0x400311000, 4, 2, .rw, 0⟩, []⟩,
  ⟨96, 0x80, 1, 0x0, false, ⟨0x400311000, 6, 1, .rw, 0⟩, []⟩,
  ⟨96, 0x80, 1, 0x0, false, ⟨0x400311000, 7, 1, .rw, 0⟩, []⟩,
  ⟨96, 0x80, 1, 0x0, false, ⟨0x400311000, 8, 1, .rw, 0⟩, []⟩,
  ⟨96, 0x80, 1, 0x0, false, ⟨0x400311000, 9, 3, .rw, 0⟩, []⟩,
  ⟨96, 0x80, 1, 0x0, false, ⟨0x400311000, 12, 1, .rw, 0⟩, []⟩,
  ⟨96, 0x80, 1, 0x0, false, ⟨0x400311000, 13, 1, .rw, 0⟩, []⟩,
  ⟨96, 0x80, 1, 0x0, false, ⟨0x400311000, 14, 1, .rw, 0⟩, []⟩,
  ⟨96, 0x80, 1, 0x0, false, ⟨0x400311000, 15, 1, .rw, 0⟩, []⟩,
  ⟨96, 0x80, 1, 0x0, false, ⟨0x400311004, 0, 10, .rw, 255⟩, []⟩,
  ⟨96, 0x80, 1, 0x0, false, ⟨0x400311008, 0, 10, .rw, 255⟩, []⟩,
  ⟨96, 0x80, 1, 0x0, false, ⟨0x400311004, 16, 10, .rw, 255⟩, []⟩,
  ⟨96, 0x80, 1, 0x0, false, ⟨0x400311008, 16, 10, .rw, 255⟩, []⟩,
  ⟨96, 0x80, 1, 0x0, false, ⟨0x40031100C, 0, 10, .rw, 0⟩, []⟩,
  ⟨96, 0x80, 1, 0x0, false, ⟨0x40031100C, 10, 10, .rw, 0⟩, []⟩,
  ⟨96, 0x80, 1, 0x0, false, ⟨0x40031100C, 20, 10, .rw, 0⟩, []⟩]

/-- Fields SLOT_STAT.IN_SERVICE to SNS_THR_CFG.AV_EN. -/
def unitMap5 : List RegRow := [
  ⟨96, 0x80, 1, 0x0, false, ⟨0x400311010, 0, 1, .ro, 0⟩, []⟩,
  ⟨96, 0x80, 1, 0x0, false, ⟨0x400311010, 1, 1, .ro, 0⟩, []⟩,
  ⟨96, 0x80, 1, 0x0, false, ⟨0x400311010, 2, 1, .ro, 1⟩, []⟩,
  ⟨96, 0x80, 1, 0x0, false, ⟨0x400311010, 3, 1, .ro, 0⟩, []⟩,
  ⟨96, 0x80, 1, 0x0, false, ⟨0x400311010, 16, 16, .ro, 0⟩, []⟩,
  ⟨96, 0x80, 8, 0x4, false, ⟨0x400311020, 0, 32, .rw, 0⟩, []⟩,
  ⟨96, 0x80, 8, 0x4, false, ⟨0x400311040, 0, 32, .rw, 0⟩, []⟩,
  ⟨1024, 0x4, 1, 0x0, false, ⟨0x400318000, 0, 32, .rw, 0⟩, []⟩,
  ⟨1, 0x0, 1, 0x0, false, ⟨0x400320000, 0, 1, .w1c, 0⟩, []⟩,
  ⟨1, 0x0, 1, 0x0, false, ⟨0x400320000, 1, 1, .w1c, 0⟩, []⟩,
  ⟨1, 0x0, 1, 0x0, false, ⟨0x400320000, 2, 1, .w1c, 0⟩, []⟩,
  ⟨1, 0x0, 1, 0x0, false, ⟨0x400320000, 3, 1, .w1c, 0⟩, []⟩,
  ⟨1, 0x0, 1, 0x0, false, ⟨0x400320000, 4, 1, .w1c, 0⟩, []⟩,
  ⟨1, 0x0, 1, 0x0, false, ⟨0x400320000, 5, 1, .w1c, 0⟩, []⟩,
  ⟨1, 0x0, 1, 0x0, false, ⟨0x400320000, 6, 1, .w1c, 0⟩, []⟩,
  ⟨1, 0x0, 1, 0x0, false, ⟨0x400320004, 0, 1, .rw, 1⟩, []⟩,
  ⟨1, 0x0, 1, 0x0, false, ⟨0x400320004, 1, 1, .ro, 1⟩, []⟩,
  ⟨1, 0x0, 1, 0x0, false, ⟨0x400320004, 2, 1, .rw, 1⟩, []⟩,
  ⟨1, 0x0, 1, 0x0, false, ⟨0x400320004, 3, 1, .rw, 1⟩, []⟩,
  ⟨1, 0x0, 1, 0x0, false, ⟨0x400320004, 4, 1, .rw, 1⟩, []⟩,
  ⟨1, 0x0, 1, 0x0, false, ⟨0x400320004, 5, 1, .rw, 1⟩, []⟩,
  ⟨1, 0x0, 1, 0x0, false, ⟨0x400320004, 6, 1, .rw, 1⟩, []⟩,
  ⟨1, 0x0, 1, 0x0, false, ⟨0x400320008, 0, 4, .ro, 0⟩, []⟩,
  ⟨1, 0x0, 1, 0x0, false, ⟨0x400320008, 4, 4, .ro, 0⟩, []⟩,
  ⟨1, 0x0, 1, 0x0, false, ⟨0x400320008, 8, 5, .ro, 0⟩, []⟩,
  ⟨1, 0x0, 1, 0x0, false, ⟨0x400320008, 31, 1, .ro, 0⟩, []⟩,
  ⟨1, 0x0, 1, 0x0, false, ⟨0x40032000C, 0, 32, .ro, 0⟩, []⟩,
  ⟨1, 0x0, 1, 0x0, false, ⟨0x400320010, 0, 32, .ro, 0⟩, []⟩,
  ⟨1, 0x0, 1, 0x0, false, ⟨0x400320014, 0, 16, .ro, 0⟩, []⟩,
  ⟨1, 0x0, 1, 0x0, false, ⟨0x400320018, 0, 1, .wo, 0⟩, []⟩,
  ⟨32, 0x80, 1, 0x0, false, ⟨0x400320100, 0, 1, .rw, 0⟩, []⟩,
  ⟨32, 0x80, 1, 0x0, false, ⟨0x400320100, 1, 1, .rw, 0⟩, []⟩,
  ⟨32, 0x80, 1, 0x0, false, ⟨0x400320100, 2, 4, .rw, 0⟩, [(0, 2)]⟩,
  ⟨32, 0x80, 1, 0x0, false, ⟨0x400320100, 6, 5, .rw, 0⟩, []⟩,
  ⟨32, 0x80, 1, 0x0, false, ⟨0x400320104, 0, 16, .rw, 1000⟩, [(500, 65535)]⟩,
  ⟨32, 0x80, 1, 0x0, false, ⟨0x400320104, 16, 8, .rw, 4⟩, [(1, 255)]⟩,
  ⟨32, 0x80, 1, 0x0, false, ⟨0x400320108, 0, 8, .rw, 8⟩, [(1, 255)]⟩,
  ⟨32, 0x80, 1, 0x0, false, ⟨0x400320108, 8, 20, .rw, 1000⟩, [(1, 1000000)]⟩,
  ⟨32, 0x80, 1, 0x0, false, ⟨0x40032010C, 0, 24, .rw, 0⟩, []⟩,
  ⟨32, 0x80, 1, 0x0, false, ⟨0x400320110, 0, 32, .rw, 1073741824⟩, []⟩,
  ⟨32, 0x80, 1, 0x0, false, ⟨0x400320114, 0, 32, .rw, 0⟩, []⟩,
  ⟨32, 0x80, 1, 0x0, false, ⟨0x400320118, 0, 3, .ro, 0⟩, []⟩,
  ⟨32, 0x80, 1, 0x0, false, ⟨0x400320118, 3, 1, .ro, 0⟩, []⟩,
  ⟨32, 0x80, 1, 0x0, false, ⟨0x400320118, 4, 1, .ro, 0⟩, []⟩,
  ⟨32, 0x80, 1, 0x0, false, ⟨0x400320118, 8, 8, .ro, 0⟩, []⟩,
  ⟨32, 0x80, 1, 0x0, false, ⟨0x400320118, 16, 7, .ro, 0⟩, []⟩,
  ⟨32, 0x80, 1, 0x0, false, ⟨0x400320118, 24, 8, .ro, 0⟩, []⟩,
  ⟨32, 0x80, 1, 0x0, false, ⟨0x40032011C, 0, 32, .ro, 0⟩, []⟩,
  ⟨32, 0x80, 1, 0x0, false, ⟨0x400320120, 0, 32, .ro, 0⟩, []⟩,
  ⟨32, 0x80, 1, 0x0, false, ⟨0x400320124, 0, 32, .ro, 0⟩, []⟩,
  ⟨32, 0x80, 1, 0x0, false, ⟨0x400320128, 0, 16, .rc, 0⟩, []⟩,
  ⟨32, 0x80, 1, 0x0, false, ⟨0x400320128, 16, 16, .rc, 0⟩, []⟩,
  ⟨32, 0x80, 1, 0x0, false, ⟨0x40032012C, 0, 16, .rc, 0⟩, []⟩,
  ⟨32, 0x80, 1, 0x0, false, ⟨0x40032012C, 16, 16, .rc, 0⟩, []⟩,
  ⟨32, 0x80, 1, 0x0, false, ⟨0x400320130, 0, 1, .wo, 0⟩, []⟩,
  ⟨32, 0x80, 2, 0x8, false, ⟨0x400320140, 0, 32, .rw, 2147483647⟩, []⟩,
  ⟨32, 0x80, 2, 0x8, false, ⟨0x400320144, 0, 24, .rw, 0⟩, []⟩,
  ⟨32, 0x80, 2, 0x8, false, ⟨0x400320144, 24, 1, .rw, 0⟩, []⟩,
  ⟨32, 0x80, 2, 0x8, false, ⟨0x400320144, 25, 1, .rw, 0⟩, []⟩,
  ⟨32, 0x80, 2, 0x8, false, ⟨0x400320144, 26, 1, .rw, 0⟩, []⟩]

/-- Fields SNS_THR_CFG.FAILTRIP to SV_APPID.APPID. -/
def unitMap6 : List RegRow := [
  ⟨32, 0x80, 2, 0x8, false, ⟨0x400320144, 27, 1, .rw, 1⟩, []⟩,
  ⟨3, 0x10, 1, 0x0, false, ⟨0x500321000, 0, 1, .rw, 0⟩, []⟩,
  ⟨3, 0x10, 1, 0x0, false, ⟨0x500321000, 1, 1, .rw, 0⟩, []⟩,
  ⟨3, 0x10, 1, 0x0, false, ⟨0x500321000, 2, 11, .rw, 200⟩, [(20, 2000)]⟩,
  ⟨3, 0x10, 1, 0x0, false, ⟨0x500321000, 13, 10, .rw, 100⟩, [(5, 1000)]⟩,
  ⟨3, 0x10, 1, 0x0, false, ⟨0x500321000, 23, 8, .rw, 2⟩, []⟩,
  ⟨3, 0x10, 1, 0x0, false, ⟨0x500321004, 0, 16, .rw, 4500⟩, []⟩,
  ⟨3, 0x10, 1, 0x0, false, ⟨0x500321004, 16, 16, .rw, 6500⟩, []⟩,
  ⟨3, 0x10, 1, 0x0, false, ⟨0x500321008, 0, 1, .ro, 0⟩, []⟩,
  ⟨3, 0x10, 1, 0x0, false, ⟨0x500321008, 1, 1, .ro, 0⟩, []⟩,
  ⟨3, 0x10, 1, 0x0, false, ⟨0x500321008, 2, 3, .ro, 0⟩, []⟩,
  ⟨3, 0x10, 1, 0x0, false, ⟨0x500321008, 16, 16, .ro, 0⟩, []⟩,
  ⟨3, 0x10, 1, 0x0, false, ⟨0x50032100C, 0, 16, .ro, 0⟩, []⟩,
  ⟨1, 0x0, 1, 0x0, false, ⟨0x400330000, 0, 4, .rw, 0⟩, []⟩,
  ⟨1, 0x0, 1, 0x0, false, ⟨0x400330000, 4, 1, .rw, 0⟩, []⟩,
  ⟨1, 0x0, 1, 0x0, false, ⟨0x400330000, 5, 1, .rw, 0⟩, []⟩,
  ⟨1, 0x0, 1, 0x0, false, ⟨0x400330000, 6, 1, .rw, 0⟩, []⟩,
  ⟨1, 0x0, 1, 0x0, false, ⟨0x400330000, 7, 1, .rw, 0⟩, []⟩,
  ⟨1, 0x0, 1, 0x0, false, ⟨0x400330004, 0, 1, .w1c, 0⟩, []⟩,
  ⟨1, 0x0, 1, 0x0, false, ⟨0x400330004, 1, 1, .w1c, 0⟩, []⟩,
  ⟨1, 0x0, 1, 0x0, false, ⟨0x400330004, 2, 1, .w1c, 0⟩, []⟩,
  ⟨1, 0x0, 1, 0x0, false, ⟨0x400330004, 3, 1, .w1c, 0⟩, []⟩,
  ⟨1, 0x0, 1, 0x0, false, ⟨0x400330004, 4, 1, .w1c, 0⟩, []⟩,
  ⟨1, 0x0, 1, 0x0, false, ⟨0x400330004, 5, 1, .w1c, 0⟩, []⟩,
  ⟨1, 0x0, 1, 0x0, false, ⟨0x400330004, 6, 1, .w1c, 0⟩, []⟩,
  ⟨1, 0x0, 1, 0x0, false, ⟨0x400330004, 7, 1, .w1c, 0⟩, []⟩,
  ⟨1, 0x0, 1, 0x0, false, ⟨0x400330008, 0, 1, .rw, 1⟩, []⟩,
  ⟨1, 0x0, 1, 0x0, false, ⟨0x400330008, 1, 1, .rw, 1⟩, []⟩,
  ⟨1, 0x0, 1, 0x0, false, ⟨0x400330008, 2, 1, .rw, 1⟩, []⟩,
  ⟨1, 0x0, 1, 0x0, false, ⟨0x400330008, 3, 1, .rw, 1⟩, []⟩,
  ⟨1, 0x0, 1, 0x0, false, ⟨0x400330008, 4, 1, .rw, 1⟩, []⟩,
  ⟨1, 0x0, 1, 0x0, false, ⟨0x400330008, 5, 1, .rw, 1⟩, []⟩,
  ⟨1, 0x0, 1, 0x0, false, ⟨0x400330008, 6, 1, .rw, 1⟩, []⟩,
  ⟨1, 0x0, 1, 0x0, false, ⟨0x400330008, 7, 1, .rw, 1⟩, []⟩,
  ⟨1, 0x0, 1, 0x0, false, ⟨0x40033000C, 0, 4, .ro, 0⟩, []⟩,
  ⟨1, 0x0, 1, 0x0, false, ⟨0x40033000C, 4, 4, .ro, 0⟩, []⟩,
  ⟨1, 0x0, 1, 0x0, false, ⟨0x40033000C, 8, 6, .ro, 0⟩, []⟩,
  ⟨1, 0x0, 1, 0x0, false, ⟨0x40033000C, 31, 1, .ro, 0⟩, []⟩,
  ⟨1, 0x0, 1, 0x0, false, ⟨0x400330010, 0, 32, .ro, 0⟩, []⟩,
  ⟨1, 0x0, 1, 0x0, false, ⟨0x400330014, 0, 32, .ro, 0⟩, []⟩,
  ⟨1, 0x0, 1, 0x0, false, ⟨0x400330018, 0, 16, .ro, 0⟩, []⟩,
  ⟨1, 0x0, 1, 0x0, false, ⟨0x40033001C, 0, 1, .wo, 0⟩, []⟩,
  ⟨1, 0x0, 1, 0x0, false, ⟨0x400330020, 0, 4, .ro, 0⟩, []⟩,
  ⟨1, 0x0, 1, 0x0, false, ⟨0x400330024, 0, 10, .rw, 400⟩, [(10, 1000)]⟩,
  ⟨2, 0x4, 1, 0x0, false, ⟨0x400330028, 0, 16, .rc, 0⟩, []⟩,
  ⟨2, 0x4, 1, 0x0, false, ⟨0x400330028, 16, 16, .rc, 0⟩, []⟩,
  ⟨4, 0x10, 1, 0x0, false, ⟨0x400330040, 11, 21, .rw, 0⟩, []⟩,
  ⟨4, 0x10, 1, 0x0, false, ⟨0x400330044, 0, 10, .rw, 0⟩, [(0, 0), (2, 1023)]⟩,
  ⟨4, 0x10, 1, 0x0, false, ⟨0x400330044, 16, 16, .rc, 0⟩, []⟩,
  ⟨4, 0x10, 1, 0x0, false, ⟨0x400330048, 0, 10, .rw, 0⟩, []⟩,
  ⟨4, 0x10, 1, 0x0, false, ⟨0x40033004C, 0, 10, .rw, 0⟩, []⟩,
  ⟨64, 0x80, 1, 0x0, false, ⟨0x400331000, 0, 1, .rw, 0⟩, []⟩,
  ⟨64, 0x80, 1, 0x0, false, ⟨0x400331000, 1, 1, .rw, 0⟩, []⟩,
  ⟨64, 0x80, 1, 0x0, false, ⟨0x400331000, 2, 3, .rw, 0⟩, [(0, 4)]⟩,
  ⟨64, 0x80, 1, 0x0, false, ⟨0x400331000, 5, 1, .rw, 0⟩, []⟩,
  ⟨64, 0x80, 1, 0x0, false, ⟨0x400331000, 6, 1, .rw, 1⟩, []⟩,
  ⟨64, 0x80, 1, 0x0, false, ⟨0x400331000, 7, 5, .rw, 1⟩, [(1, 16)]⟩,
  ⟨64, 0x80, 1, 0x0, false, ⟨0x400331000, 12, 7, .rw, 1⟩, [(1, 64)]⟩,
  ⟨64, 0x80, 1, 0x0, false, ⟨0x400331000, 19, 8, .rw, 8⟩, [(1, 255)]⟩,
  ⟨64, 0x80, 1, 0x0, false, ⟨0x400331004, 0, 16, .rw, 16384⟩, []⟩]

/-- Fields SV_APPID.VID to LNS_DFE.TAPS. -/
def unitMap7 : List RegRow := [
  ⟨64, 0x80, 1, 0x0, false, ⟨0x400331004, 16, 12, .rw, 0⟩, []⟩,
  ⟨64, 0x80, 1, 0x0, false, ⟨0x400331004, 28, 1, .rw, 0⟩, []⟩,
  ⟨64, 0x80, 1, 0x0, false, ⟨0x400331008, 0, 32, .rw, 1⟩, []⟩,
  ⟨64, 0x80, 1, 0x0, false, ⟨0x40033100C, 0, 24, .rw, 0⟩, []⟩,
  ⟨64, 0x80, 1, 0x0, false, ⟨0x400331010, 0, 24, .rw, 16777215⟩, []⟩,
  ⟨64, 0x80, 1, 0x0, false, ⟨0x400331014, 0, 2, .ro, 0⟩, []⟩,
  ⟨64, 0x80, 1, 0x0, false, ⟨0x400331014, 16, 16, .ro, 0⟩, []⟩,
  ⟨64, 0x80, 1, 0x0, false, ⟨0x400331018, 0, 17, .ro, 0⟩, []⟩,
  ⟨64, 0x80, 1, 0x0, false, ⟨0x40033101C, 0, 16, .rc, 0⟩, []⟩,
  ⟨64, 0x80, 1, 0x0, false, ⟨0x40033101C, 16, 16, .rc, 0⟩, []⟩,
  ⟨64, 0x80, 1, 0x0, false, ⟨0x400331020, 0, 16, .rc, 0⟩, []⟩,
  ⟨64, 0x80, 1, 0x0, false, ⟨0x400331020, 16, 16, .rc, 0⟩, []⟩,
  ⟨64, 0x80, 16, 0x4, false, ⟨0x400331040, 0, 32, .rw, 0⟩, []⟩,
  ⟨128, 0x8, 1, 0x0, false, ⟨0x400335000, 0, 1, .rw, 0⟩, []⟩,
  ⟨128, 0x8, 1, 0x0, false, ⟨0x400335000, 1, 6, .rw, 0⟩, []⟩,
  ⟨128, 0x8, 1, 0x0, false, ⟨0x400335000, 7, 4, .rw, 0⟩, []⟩,
  ⟨128, 0x8, 1, 0x0, false, ⟨0x400335000, 11, 5, .rw, 0⟩, []⟩,
  ⟨128, 0x8, 1, 0x0, false, ⟨0x400335004, 0, 32, .rw, 0⟩, []⟩,
  ⟨32, 0x80, 1, 0x0, false, ⟨0x400336000, 0, 1, .rw, 0⟩, []⟩,
  ⟨32, 0x80, 1, 0x0, false, ⟨0x400336000, 1, 1, .rw, 0⟩, []⟩,
  ⟨32, 0x80, 1, 0x0, false, ⟨0x400336000, 2, 6, .rw, 0⟩, []⟩,
  ⟨32, 0x80, 1, 0x0, false, ⟨0x400336000, 8, 6, .rw, 0⟩, []⟩,
  ⟨32, 0x80, 1, 0x0, false, ⟨0x400336000, 14, 1, .rw, 0⟩, []⟩,
  ⟨32, 0x80, 1, 0x0, false, ⟨0x400336000, 15, 1, .rw, 1⟩, []⟩,
  ⟨32, 0x80, 1, 0x0, false, ⟨0x400336000, 16, 1, .rw, 0⟩, []⟩,
  ⟨32, 0x80, 1, 0x0, false, ⟨0x400336000, 17, 1, .rw, 0⟩, []⟩,
  ⟨32, 0x80, 1, 0x0, false, ⟨0x400336000, 18, 1, .rw, 0⟩, []⟩,
  ⟨32, 0x80, 1, 0x0, false, ⟨0x400336000, 19, 7, .rw, 1⟩, [(1, 64)]⟩,
  ⟨32, 0x80, 1, 0x0, false, ⟨0x400336004, 0, 16, .rw, 0⟩, []⟩,
  ⟨32, 0x80, 1, 0x0, false, ⟨0x400336004, 16, 12, .rw, 0⟩, []⟩,
  ⟨32, 0x80, 1, 0x0, false, ⟨0x400336004, 28, 1, .rw, 0⟩, []⟩,
  ⟨32, 0x80, 1, 0x0, false, ⟨0x400336008, 0, 32, .rw, 1⟩, []⟩,
  ⟨32, 0x80, 1, 0x0, false, ⟨0x40033600C, 0, 1, .ro, 0⟩, []⟩,
  ⟨32, 0x80, 1, 0x0, false, ⟨0x40033600C, 1, 1, .ro, 0⟩, []⟩,
  ⟨32, 0x80, 1, 0x0, false, ⟨0x40033600C, 2, 1, .ro, 0⟩, []⟩,
  ⟨32, 0x80, 1, 0x0, false, ⟨0x400336010, 0, 32, .ro, 0⟩, []⟩,
  ⟨32, 0x80, 1, 0x0, false, ⟨0x400336014, 0, 32, .ro, 0⟩, []⟩,
  ⟨32, 0x80, 1, 0x0, false, ⟨0x400336018, 0, 16, .rc, 0⟩, []⟩,
  ⟨32, 0x80, 1, 0x0, false, ⟨0x400336018, 16, 16, .rc, 0⟩, []⟩,
  ⟨32, 0x80, 16, 0x4, false, ⟨0x400336040, 0, 32, .rw, 0⟩, []⟩,
  ⟨100, 0x1000, 1, 0x0, false, ⟨0x400400000, 0, 1, .rw, 0⟩, []⟩,
  ⟨100, 0x1000, 1, 0x0, false, ⟨0x400400000, 1, 1, .rw, 1⟩, []⟩,
  ⟨100, 0x1000, 1, 0x0, false, ⟨0x400400000, 2, 1, .rw, 0⟩, []⟩,
  ⟨100, 0x1000, 1, 0x0, false, ⟨0x400400000, 3, 1, .rw, 0⟩, []⟩,
  ⟨100, 0x1000, 1, 0x0, false, ⟨0x400400000, 4, 3, .rw, 0⟩, [(0, 3)]⟩,
  ⟨100, 0x1000, 1, 0x0, false, ⟨0x400400000, 7, 1, .rw, 0⟩, []⟩,
  ⟨100, 0x1000, 1, 0x0, false, ⟨0x400400000, 8, 1, .w1s, 0⟩, []⟩,
  ⟨100, 0x1000, 1, 0x0, false, ⟨0x400400000, 9, 1, .rw, 0⟩, []⟩,
  ⟨100, 0x1000, 1, 0x0, false, ⟨0x400400004, 0, 4, .ro, 0⟩, []⟩,
  ⟨100, 0x1000, 1, 0x0, false, ⟨0x400400004, 4, 1, .ro, 0⟩, []⟩,
  ⟨100, 0x1000, 1, 0x0, false, ⟨0x400400004, 5, 1, .ro, 0⟩, []⟩,
  ⟨100, 0x1000, 1, 0x0, false, ⟨0x400400004, 6, 2, .ro, 0⟩, []⟩,
  ⟨100, 0x1000, 1, 0x0, false, ⟨0x400400004, 8, 4, .ro, 0⟩, []⟩,
  ⟨100, 0x1000, 1, 0x0, false, ⟨0x400400004, 16, 8, .ro, 0⟩, []⟩,
  ⟨100, 0x1000, 1, 0x0, false, ⟨0x400400004, 24, 8, .ro, 0⟩, []⟩,
  ⟨100, 0x1000, 1, 0x0, false, ⟨0x400400008, 0, 1, .rw, 1⟩, []⟩,
  ⟨100, 0x1000, 1, 0x0, false, ⟨0x400400008, 1, 4, .rw, 8⟩, []⟩,
  ⟨100, 0x1000, 1, 0x0, false, ⟨0x400400008, 5, 1, .rw, 1⟩, []⟩,
  ⟨100, 0x1000, 1, 0x0, false, ⟨0x400400008, 6, 1, .rw, 0⟩, []⟩,
  ⟨100, 0x1000, 1, 0x0, false, ⟨0x40040000C, 0, 30, .rw, 0⟩, []⟩]

/-- Fields LNS_TXEQ.PRE to MLK_ACK.ACK. -/
def unitMap8 : List RegRow := [
  ⟨100, 0x1000, 1, 0x0, false, ⟨0x400400010, 0, 4, .rw, 0⟩, []⟩,
  ⟨100, 0x1000, 1, 0x0, false, ⟨0x400400010, 4, 6, .rw, 48⟩, []⟩,
  ⟨100, 0x1000, 1, 0x0, false, ⟨0x400400010, 10, 5, .rw, 6⟩, []⟩,
  ⟨100, 0x1000, 1, 0x0, false, ⟨0x400400020, 0, 3, .rw, 0⟩, [(0, 4)]⟩,
  ⟨100, 0x1000, 1, 0x0, false, ⟨0x400400020, 3, 1, .rw, 0⟩, []⟩,
  ⟨100, 0x1000, 1, 0x0, false, ⟨0x400400020, 4, 3, .rw, 0⟩, [(0, 4)]⟩,
  ⟨100, 0x1000, 1, 0x0, false, ⟨0x400400020, 7, 1, .rw, 0⟩, []⟩,
  ⟨100, 0x1000, 1, 0x0, false, ⟨0x400400020, 8, 1, .ro, 0⟩, []⟩,
  ⟨100, 0x1000, 1, 0x0, false, ⟨0x400400024, 0, 32, .rc, 0⟩, []⟩,
  ⟨100, 0x1000, 1, 0x0, false, ⟨0x400400028, 0, 32, .rc, 0⟩, []⟩,
  ⟨100, 0x1000, 1, 0x0, false, ⟨0x400400030, 0, 8, .rw, 16⟩, [(1, 255)]⟩,
  ⟨100, 0x1000, 1, 0x0, false, ⟨0x400400030, 8, 8, .rw, 1⟩, [(1, 255)]⟩,
  ⟨100, 0x1000, 1, 0x0, false, ⟨0x400400030, 16, 10, .rw, 10⟩, [(1, 1000)]⟩,
  ⟨100, 0x1000, 1, 0x0, false, ⟨0x400400030, 26, 6, .rw, 1⟩, [(1, 63)]⟩,
  ⟨100, 0x1000, 1, 0x0, false, ⟨0x400400034, 0, 16, .rc, 0⟩, []⟩,
  ⟨100, 0x1000, 1, 0x0, false, ⟨0x400400034, 16, 16, .rc, 0⟩, []⟩,
  ⟨100, 0x1000, 1, 0x0, false, ⟨0x400400038, 0, 32, .rc, 0⟩, []⟩,
  ⟨100, 0x1000, 1, 0x0, false, ⟨0x40040003C, 0, 1, .wo, 0⟩, []⟩,
  ⟨100, 0x1000, 1, 0x0, false, ⟨0x40040003C, 1, 1, .wo, 0⟩, []⟩,
  ⟨100, 0x1000, 1, 0x0, false, ⟨0x400400040, 0, 1, .w1c, 0⟩, []⟩,
  ⟨100, 0x1000, 1, 0x0, false, ⟨0x400400040, 1, 1, .w1c, 0⟩, []⟩,
  ⟨100, 0x1000, 1, 0x0, false, ⟨0x400400040, 2, 1, .w1c, 0⟩, []⟩,
  ⟨100, 0x1000, 1, 0x0, false, ⟨0x400400040, 3, 1, .w1c, 0⟩, []⟩,
  ⟨100, 0x1000, 1, 0x0, false, ⟨0x400400040, 4, 1, .w1c, 0⟩, []⟩,
  ⟨100, 0x1000, 1, 0x0, false, ⟨0x400400044, 0, 1, .ro, 1⟩, []⟩,
  ⟨100, 0x1000, 1, 0x0, false, ⟨0x400400044, 1, 1, .rw, 1⟩, []⟩,
  ⟨100, 0x1000, 1, 0x0, false, ⟨0x400400044, 2, 1, .rw, 1⟩, []⟩,
  ⟨100, 0x1000, 1, 0x0, false, ⟨0x400400044, 3, 1, .rw, 1⟩, []⟩,
  ⟨100, 0x1000, 1, 0x0, false, ⟨0x400400044, 4, 1, .rw, 1⟩, []⟩,
  ⟨100, 0x1000, 1, 0x0, false, ⟨0x400400048, 0, 4, .ro, 0⟩, []⟩,
  ⟨100, 0x1000, 1, 0x0, false, ⟨0x400400048, 4, 4, .ro, 0⟩, []⟩,
  ⟨100, 0x1000, 1, 0x0, false, ⟨0x400400048, 31, 1, .ro, 0⟩, []⟩,
  ⟨100, 0x1000, 1, 0x0, false, ⟨0x40040004C, 0, 32, .ro, 0⟩, []⟩,
  ⟨100, 0x1000, 1, 0x0, false, ⟨0x400400050, 0, 32, .ro, 0⟩, []⟩,
  ⟨100, 0x1000, 1, 0x0, false, ⟨0x400400054, 0, 16, .ro, 0⟩, []⟩,
  ⟨100, 0x1000, 1, 0x0, false, ⟨0x400400058, 0, 1, .wo, 0⟩, []⟩,
  ⟨1, 0x0, 1, 0x0, false, ⟨0x400500000, 0, 1, .rw, 0⟩, []⟩,
  ⟨1, 0x0, 1, 0x0, false, ⟨0x400500000, 1, 2, .rw, 3⟩, []⟩,
  ⟨1, 0x0, 1, 0x0, false, ⟨0x400500000, 8, 8, .rw, 32⟩, [(4, 255)]⟩,
  ⟨1, 0x0, 1, 0x0, false, ⟨0x400500004, 0, 1, .w1c, 0⟩, []⟩,
  ⟨1, 0x0, 1, 0x0, false, ⟨0x400500004, 1, 1, .w1c, 0⟩, []⟩,
  ⟨1, 0x0, 1, 0x0, false, ⟨0x400500004, 2, 1, .w1c, 0⟩, []⟩,
  ⟨1, 0x0, 1, 0x0, false, ⟨0x400500004, 3, 1, .w1c, 0⟩, []⟩,
  ⟨1, 0x0, 1, 0x0, false, ⟨0x400500004, 4, 1, .w1c, 0⟩, []⟩,
  ⟨1, 0x0, 1, 0x0, false, ⟨0x400500004, 5, 1, .w1c, 0⟩, []⟩,
  ⟨1, 0x0, 1, 0x0, false, ⟨0x400500008, 0, 1, .rw, 1⟩, []⟩,
  ⟨1, 0x0, 1, 0x0, false, ⟨0x400500008, 1, 1, .rw, 1⟩, []⟩,
  ⟨1, 0x0, 1, 0x0, false, ⟨0x400500008, 2, 1, .rw, 1⟩, []⟩,
  ⟨1, 0x0, 1, 0x0, false, ⟨0x400500008, 3, 1, .rw, 1⟩, []⟩,
  ⟨1, 0x0, 1, 0x0, false, ⟨0x400500008, 4, 1, .rw, 1⟩, []⟩,
  ⟨1, 0x0, 1, 0x0, false, ⟨0x400500008, 5, 1, .ro, 1⟩, []⟩,
  ⟨1, 0x0, 1, 0x0, false, ⟨0x40050000C, 0, 4, .ro, 0⟩, []⟩,
  ⟨1, 0x0, 1, 0x0, false, ⟨0x40050000C, 4, 4, .ro, 0⟩, []⟩,
  ⟨1, 0x0, 1, 0x0, false, ⟨0x40050000C, 8, 6, .ro, 0⟩, []⟩,
  ⟨1, 0x0, 1, 0x0, false, ⟨0x40050000C, 16, 15, .ro, 0⟩, []⟩,
  ⟨1, 0x0, 1, 0x0, false, ⟨0x40050000C, 31, 1, .ro, 0⟩, []⟩,
  ⟨1, 0x0, 1, 0x0, false, ⟨0x400500010, 0, 32, .ro, 0⟩, []⟩,
  ⟨1, 0x0, 1, 0x0, false, ⟨0x400500014, 0, 32, .ro, 0⟩, []⟩,
  ⟨1, 0x0, 1, 0x0, false, ⟨0x400500018, 0, 16, .ro, 0⟩, []⟩,
  ⟨1, 0x0, 1, 0x0, false, ⟨0x40050001C, 0, 1, .wo, 0⟩, []⟩]

/-- Fields MLK_NOTICE.CID to CAP_ENABLE.EN. -/
def unitMap9 : List RegRow := [
  ⟨1, 0x0, 1, 0x0, false, ⟨0x400500020, 0, 15, .ro, 0⟩, []⟩,
  ⟨1, 0x0, 1, 0x0, false, ⟨0x400500020, 16, 2, .ro, 0⟩, []⟩,
  ⟨48, 0x10, 1, 0x0, false, ⟨0x400500100, 0, 32, .rc, 0⟩, []⟩,
  ⟨48, 0x10, 1, 0x0, false, ⟨0x400500104, 0, 16, .rc, 0⟩, []⟩,
  ⟨48, 0x10, 1, 0x0, false, ⟨0x400500104, 16, 16, .rc, 0⟩, []⟩,
  ⟨48, 0x10, 1, 0x0, false, ⟨0x400500108, 0, 16, .rc, 0⟩, []⟩,
  ⟨48, 0x10, 1, 0x0, false, ⟨0x400500108, 16, 16, .rc, 0⟩, []⟩,
  ⟨48, 0x10, 1, 0x0, false, ⟨0x40050010C, 0, 7, .ro, 0⟩, []⟩,
  ⟨48, 0x4, 1, 0x0, false, ⟨0x400500400, 0, 16, .ro, 0⟩, []⟩,
  ⟨48, 0x4, 1, 0x0, false, ⟨0x400500400, 16, 1, .ro, 0⟩, []⟩,
  ⟨48, 0x4, 1, 0x0, false, ⟨0x400500400, 17, 1, .ro, 0⟩, []⟩,
  ⟨1, 0x0, 1, 0x0, false, ⟨0x400520000, 0, 1, .w1s, 0⟩, []⟩,
  ⟨1, 0x0, 1, 0x0, false, ⟨0x400520000, 1, 1, .w1s, 0⟩, []⟩,
  ⟨1, 0x0, 1, 0x0, false, ⟨0x400520000, 2, 1, .w1s, 0⟩, []⟩,
  ⟨1, 0x0, 1, 0x0, false, ⟨0x400520000, 3, 1, .rw, 0⟩, []⟩,
  ⟨1, 0x0, 1, 0x0, false, ⟨0x400520000, 4, 1, .rw, 0⟩, []⟩,
  ⟨1, 0x0, 1, 0x0, false, ⟨0x400520000, 5, 1, .rw, 0⟩, []⟩,
  ⟨1, 0x0, 1, 0x0, false, ⟨0x400520000, 6, 1, .rw, 0⟩, []⟩,
  ⟨1, 0x0, 1, 0x0, false, ⟨0x400520000, 7, 1, .rw, 0⟩, []⟩,
  ⟨1, 0x0, 1, 0x0, false, ⟨0x400520000, 8, 1, .rw, 0⟩, []⟩,
  ⟨1, 0x0, 1, 0x0, false, ⟨0x400520000, 9, 1, .rw, 0⟩, []⟩,
  ⟨1, 0x0, 1, 0x0, false, ⟨0x400520000, 10, 2, .rw, 3⟩, [(1, 3)]⟩,
  ⟨1, 0x0, 1, 0x0, false, ⟨0x400520004, 0, 10, .rw, 0⟩, [(0, 767)]⟩,
  ⟨1, 0x0, 1, 0x0, false, ⟨0x400520004, 16, 8, .rw, 128⟩, [(1, 128)]⟩,
  ⟨1, 0x0, 1, 0x0, false, ⟨0x400520008, 0, 16, .rw, 1⟩, [(1, 65535)]⟩,
  ⟨1, 0x0, 1, 0x0, false, ⟨0x400520008, 16, 7, .rw, 1⟩, [(1, 64)]⟩,
  ⟨1, 0x0, 1, 0x0, false, ⟨0x40052000C, 0, 24, .rw, 1⟩, [(1, 16777215)]⟩,
  ⟨1, 0x0, 1, 0x0, false, ⟨0x400520010, 0, 6, .rw, 0⟩, []⟩,
  ⟨1, 0x0, 1, 0x0, false, ⟨0x400520010, 6, 2, .rw, 0⟩, [(0, 2)]⟩,
  ⟨1, 0x0, 1, 0x0, false, ⟨0x400520014, 0, 32, .rw, 0⟩, []⟩,
  ⟨1, 0x0, 1, 0x0, false, ⟨0x400520018, 0, 32, .rw, 0⟩, []⟩,
  ⟨1, 0x0, 1, 0x0, false, ⟨0x40052001C, 0, 3, .ro, 0⟩, []⟩,
  ⟨1, 0x0, 1, 0x0, false, ⟨0x40052001C, 8, 4, .ro, 0⟩, []⟩,
  ⟨1, 0x0, 1, 0x0, false, ⟨0x400520020, 0, 32, .ro, 0⟩, []⟩,
  ⟨1, 0x0, 1, 0x0, false, ⟨0x400520024, 0, 24, .ro, 0⟩, []⟩,
  ⟨1, 0x0, 1, 0x0, false, ⟨0x400520028, 0, 24, .ro, 0⟩, []⟩,
  ⟨1, 0x0, 1, 0x0, false, ⟨0x40052002C, 0, 24, .ro, 0⟩, []⟩,
  ⟨1, 0x0, 1, 0x0, false, ⟨0x40052002C, 24, 5, .ro, 0⟩, []⟩,
  ⟨1, 0x0, 1, 0x0, false, ⟨0x400520030, 0, 24, .ro, 0⟩, []⟩,
  ⟨1, 0x0, 1, 0x0, false, ⟨0x400520034, 0, 24, .ro, 0⟩, []⟩,
  ⟨1, 0x0, 1, 0x0, false, ⟨0x400520038, 16, 16, .rw, 0⟩, []⟩,
  ⟨1, 0x0, 1, 0x0, false, ⟨0x40052003C, 0, 16, .rw, 0⟩, []⟩,
  ⟨1, 0x0, 1, 0x0, false, ⟨0x400520040, 0, 32, .rw, 0⟩, []⟩,
  ⟨1, 0x0, 1, 0x0, false, ⟨0x400520044, 0, 16, .rw, 0⟩, []⟩,
  ⟨1, 0x0, 1, 0x0, false, ⟨0x400520044, 16, 12, .rw, 0⟩, []⟩,
  ⟨1, 0x0, 1, 0x0, false, ⟨0x400520044, 28, 3, .rw, 0⟩, []⟩,
  ⟨1, 0x0, 1, 0x0, false, ⟨0x400520044, 31, 1, .rw, 0⟩, []⟩,
  ⟨1, 0x0, 1, 0x0, false, ⟨0x400520048, 0, 16, .rc, 0⟩, []⟩,
  ⟨1, 0x0, 1, 0x0, false, ⟨0x400520048, 16, 16, .rc, 0⟩, []⟩,
  ⟨1, 0x0, 1, 0x0, false, ⟨0x400520050, 0, 1, .w1c, 0⟩, []⟩,
  ⟨1, 0x0, 1, 0x0, false, ⟨0x400520050, 1, 1, .w1c, 0⟩, []⟩,
  ⟨1, 0x0, 1, 0x0, false, ⟨0x400520050, 2, 1, .w1c, 0⟩, []⟩,
  ⟨1, 0x0, 1, 0x0, false, ⟨0x400520050, 3, 1, .w1c, 0⟩, []⟩,
  ⟨1, 0x0, 1, 0x0, false, ⟨0x400520050, 4, 1, .w1c, 0⟩, []⟩,
  ⟨1, 0x0, 1, 0x0, false, ⟨0x400520050, 5, 1, .w1c, 0⟩, []⟩,
  ⟨1, 0x0, 1, 0x0, false, ⟨0x400520050, 6, 1, .w1c, 0⟩, []⟩,
  ⟨1, 0x0, 1, 0x0, false, ⟨0x400520054, 0, 1, .rw, 1⟩, []⟩,
  ⟨1, 0x0, 1, 0x0, false, ⟨0x400520054, 1, 1, .rw, 1⟩, []⟩,
  ⟨1, 0x0, 1, 0x0, false, ⟨0x400520054, 2, 1, .rw, 1⟩, []⟩,
  ⟨1, 0x0, 1, 0x0, false, ⟨0x400520054, 3, 1, .rw, 1⟩, []⟩]

/-- Fields CAP_ENABLE.EN to SCH_FIRST_TSL.TS_LO. -/
def unitMap10 : List RegRow := [
  ⟨1, 0x0, 1, 0x0, false, ⟨0x400520054, 4, 1, .rw, 1⟩, []⟩,
  ⟨1, 0x0, 1, 0x0, false, ⟨0x400520054, 5, 1, .rw, 1⟩, []⟩,
  ⟨1, 0x0, 1, 0x0, false, ⟨0x400520054, 6, 1, .rw, 1⟩, []⟩,
  ⟨1, 0x0, 1, 0x0, false, ⟨0x400520058, 0, 4, .ro, 0⟩, []⟩,
  ⟨1, 0x0, 1, 0x0, false, ⟨0x400520058, 4, 4, .ro, 0⟩, []⟩,
  ⟨1, 0x0, 1, 0x0, false, ⟨0x400520058, 31, 1, .ro, 0⟩, []⟩,
  ⟨1, 0x0, 1, 0x0, false, ⟨0x40052005C, 0, 32, .ro, 0⟩, []⟩,
  ⟨1, 0x0, 1, 0x0, false, ⟨0x400520060, 0, 32, .ro, 0⟩, []⟩,
  ⟨1, 0x0, 1, 0x0, false, ⟨0x400520064, 0, 16, .ro, 0⟩, []⟩,
  ⟨1, 0x0, 1, 0x0, false, ⟨0x400520068, 0, 1, .wo, 0⟩, []⟩,
  ⟨64, 0x4, 1, 0x0, false, ⟨0x400520100, 0, 10, .rw, 255⟩, []⟩,
  ⟨64, 0x4, 1, 0x0, false, ⟨0x400520100, 10, 1, .rw, 0⟩, []⟩,
  ⟨1, 0x0, 1, 0x0, true, ⟨0x400530000, 0, 8, .rb, 0⟩, []⟩,
  ⟨1, 0x0, 1, 0x0, true, ⟨0x400530000, 8, 6, .rb, 0⟩, []⟩,
  ⟨1, 0x0, 1, 0x0, true, ⟨0x400530000, 14, 2, .rb, 0⟩, []⟩,
  ⟨1, 0x0, 1, 0x0, true, ⟨0x400530000, 16, 16, .rb, 0⟩, []⟩,
  ⟨1, 0x0, 1, 0x0, true, ⟨0x400530004, 0, 9, .ro, 0⟩, []⟩,
  ⟨1, 0x0, 1, 0x0, true, ⟨0x400530008, 0, 32, .ro, 0⟩, []⟩,
  ⟨1, 0x0, 1, 0x0, true, ⟨0x400530010, 0, 2, .wo, 0⟩, []⟩,
  ⟨1, 0x0, 1, 0x0, true, ⟨0x400530014, 0, 32, .rw, 0⟩, []⟩,
  ⟨1, 0x0, 1, 0x0, true, ⟨0x400530018, 0, 32, .rw, 0⟩, []⟩,
  ⟨1, 0x0, 1, 0x0, true, ⟨0x400530020, 0, 4, .wo, 0⟩, []⟩,
  ⟨1, 0x0, 1, 0x0, true, ⟨0x400530020, 8, 8, .wo, 0⟩, []⟩,
  ⟨1, 0x0, 1, 0x0, true, ⟨0x400530024, 0, 32, .rw, 0⟩, []⟩,
  ⟨1, 0x0, 1, 0x0, true, ⟨0x400530028, 0, 3, .rb, 0⟩, []⟩,
  ⟨1, 0x0, 1, 0x0, true, ⟨0x400530028, 16, 16, .rb, 0⟩, []⟩,
  ⟨1, 0x0, 1, 0x0, true, ⟨0x40053002C, 0, 16, .wo, 0⟩, []⟩,
  ⟨1, 0x0, 1, 0x0, true, ⟨0x40053002C, 16, 1, .wo, 0⟩, []⟩,
  ⟨1, 0x0, 1, 0x0, false, ⟨0x400530100, 0, 16, .rw, 0⟩, []⟩,
  ⟨1, 0x0, 1, 0x0, false, ⟨0x400530100, 16, 11, .rw, 0⟩, []⟩,
  ⟨1, 0x0, 1, 0x0, false, ⟨0x400530104, 0, 11, .ro, 1024⟩, []⟩,
  ⟨1, 0x0, 1, 0x0, false, ⟨0x400530104, 16, 16, .rc, 0⟩, []⟩,
  ⟨1, 0x0, 1, 0x0, false, ⟨0x400530110, 4, 28, .rw, 0⟩, []⟩,
  ⟨1, 0x0, 1, 0x0, false, ⟨0x400530114, 0, 12, .rw, 0⟩, [(0, 0), (2, 4095)]⟩,
  ⟨1, 0x0, 1, 0x0, false, ⟨0x400530118, 0, 12, .ro, 0⟩, []⟩,
  ⟨1, 0x0, 1, 0x0, false, ⟨0x40053011C, 0, 12, .rw, 0⟩, []⟩,
  ⟨1, 0x0, 1, 0x0, false, ⟨0x400530120, 0, 1, .w1c, 0⟩, []⟩,
  ⟨1, 0x0, 1, 0x0, false, ⟨0x400530120, 1, 1, .w1c, 0⟩, []⟩,
  ⟨1, 0x0, 1, 0x0, false, ⟨0x400530120, 2, 1, .w1c, 0⟩, []⟩,
  ⟨1, 0x0, 1, 0x0, false, ⟨0x400530120, 3, 1, .w1c, 0⟩, []⟩,
  ⟨1, 0x0, 1, 0x0, false, ⟨0x400530120, 4, 1, .w1c, 0⟩, []⟩,
  ⟨1, 0x0, 1, 0x0, false, ⟨0x400530120, 5, 1, .w1c, 0⟩, []⟩,
  ⟨1, 0x0, 1, 0x0, false, ⟨0x400530120, 6, 1, .w1c, 0⟩, []⟩,
  ⟨1, 0x0, 1, 0x0, false, ⟨0x400530120, 7, 1, .w1c, 0⟩, []⟩,
  ⟨1, 0x0, 1, 0x0, false, ⟨0x400530120, 8, 1, .w1c, 0⟩, []⟩,
  ⟨1, 0x0, 1, 0x0, false, ⟨0x400530124, 0, 1, .ro, 1⟩, []⟩,
  ⟨1, 0x0, 1, 0x0, false, ⟨0x400530124, 1, 1, .rw, 1⟩, []⟩,
  ⟨1, 0x0, 1, 0x0, false, ⟨0x400530124, 2, 1, .rw, 1⟩, []⟩,
  ⟨1, 0x0, 1, 0x0, false, ⟨0x400530124, 3, 1, .rw, 1⟩, []⟩,
  ⟨1, 0x0, 1, 0x0, false, ⟨0x400530124, 4, 1, .rw, 1⟩, []⟩,
  ⟨1, 0x0, 1, 0x0, false, ⟨0x400530124, 5, 1, .rw, 1⟩, []⟩,
  ⟨1, 0x0, 1, 0x0, false, ⟨0x400530124, 6, 1, .rw, 1⟩, []⟩,
  ⟨1, 0x0, 1, 0x0, false, ⟨0x400530124, 7, 1, .rw, 1⟩, []⟩,
  ⟨1, 0x0, 1, 0x0, false, ⟨0x400530124, 8, 1, .rw, 1⟩, []⟩,
  ⟨1, 0x0, 1, 0x0, false, ⟨0x400530128, 0, 4, .ro, 0⟩, []⟩,
  ⟨1, 0x0, 1, 0x0, false, ⟨0x400530128, 4, 4, .ro, 0⟩, []⟩,
  ⟨1, 0x0, 1, 0x0, false, ⟨0x400530128, 8, 4, .ro, 0⟩, []⟩,
  ⟨1, 0x0, 1, 0x0, false, ⟨0x400530128, 16, 8, .ro, 0⟩, []⟩,
  ⟨1, 0x0, 1, 0x0, false, ⟨0x400530128, 31, 1, .ro, 0⟩, []⟩,
  ⟨1, 0x0, 1, 0x0, false, ⟨0x40053012C, 0, 32, .ro, 0⟩, []⟩]

/-- Fields SCH_FIRST_TSH.TS_HI to SBX_STATE.PEER_GL. -/
def unitMap11 : List RegRow := [
  ⟨1, 0x0, 1, 0x0, false, ⟨0x400530130, 0, 32, .ro, 0⟩, []⟩,
  ⟨1, 0x0, 1, 0x0, false, ⟨0x400530134, 0, 16, .ro, 0⟩, []⟩,
  ⟨1, 0x0, 1, 0x0, false, ⟨0x400530138, 0, 1, .wo, 0⟩, []⟩,
  ⟨16, 0x20, 1, 0x0, false, ⟨0x400532000, 0, 2, .ro, 0⟩, []⟩,
  ⟨16, 0x20, 1, 0x0, false, ⟨0x400532000, 2, 1, .ro, 0⟩, []⟩,
  ⟨16, 0x20, 1, 0x0, false, ⟨0x400532000, 8, 8, .ro, 0⟩, []⟩,
  ⟨16, 0x20, 1, 0x0, false, ⟨0x400532000, 16, 8, .ro, 0⟩, []⟩,
  ⟨16, 0x20, 1, 0x0, false, ⟨0x400532004, 0, 16, .ro, 0⟩, []⟩,
  ⟨16, 0x20, 1, 0x0, false, ⟨0x400532004, 16, 16, .ro, 0⟩, []⟩,
  ⟨16, 0x20, 1, 0x0, false, ⟨0x400532008, 0, 11, .ro, 0⟩, []⟩,
  ⟨16, 0x20, 1, 0x0, false, ⟨0x400532008, 16, 11, .rc, 2047⟩, []⟩,
  ⟨16, 0x20, 1, 0x0, false, ⟨0x40053200C, 0, 8, .rc, 0⟩, []⟩,
  ⟨16, 0x20, 1, 0x0, false, ⟨0x40053200C, 8, 8, .rc, 0⟩, []⟩,
  ⟨16, 0x20, 1, 0x0, false, ⟨0x40053200C, 16, 8, .rc, 0⟩, []⟩,
  ⟨255, 0x10, 1, 0x0, false, ⟨0x400534010, 0, 5, .rw, 31⟩, []⟩,
  ⟨255, 0x10, 1, 0x0, false, ⟨0x400534010, 16, 16, .rw, 65535⟩, []⟩,
  ⟨255, 0x10, 1, 0x0, false, ⟨0x400534014, 0, 3, .ro, 0⟩, []⟩,
  ⟨255, 0x10, 1, 0x0, false, ⟨0x400534014, 3, 1, .ro, 0⟩, []⟩,
  ⟨255, 0x10, 1, 0x0, false, ⟨0x400534014, 4, 1, .ro, 0⟩, []⟩,
  ⟨255, 0x10, 1, 0x0, false, ⟨0x400534014, 8, 4, .ro, 0⟩, []⟩,
  ⟨255, 0x10, 1, 0x0, false, ⟨0x400534014, 16, 6, .ro, 0⟩, []⟩,
  ⟨255, 0x10, 1, 0x0, false, ⟨0x400534018, 0, 32, .ro, 0⟩, []⟩,
  ⟨12, 0x20, 1, 0x0, false, ⟨0x400538020, 0, 1, .rw, 0⟩, []⟩,
  ⟨51, 0x20, 1, 0x0, false, ⟨0x4005381A0, 0, 1, .rw, 1⟩, []⟩,
  ⟨63, 0x20, 1, 0x0, false, ⟨0x400538020, 1, 1, .rw, 0⟩, []⟩,
  ⟨63, 0x20, 1, 0x0, false, ⟨0x400538020, 2, 5, .rw, 16⟩, [(1, 16)]⟩,
  ⟨63, 0x20, 1, 0x0, false, ⟨0x400538020, 8, 6, .rw, 0⟩, []⟩,
  ⟨63, 0x20, 1, 0x0, false, ⟨0x400538020, 16, 8, .rw, 0⟩, []⟩,
  ⟨63, 0x20, 1, 0x0, false, ⟨0x400538020, 24, 8, .rw, 255⟩, [(1, 255)]⟩,
  ⟨63, 0x20, 1, 0x0, false, ⟨0x400538024, 0, 11, .ro, 0⟩, []⟩,
  ⟨63, 0x20, 1, 0x0, false, ⟨0x400538024, 16, 5, .ro, 0⟩, []⟩,
  ⟨63, 0x20, 1, 0x0, false, ⟨0x400538024, 24, 7, .ro, 0⟩, []⟩,
  ⟨63, 0x20, 1, 0x0, false, ⟨0x400538028, 0, 16, .rc, 0⟩, []⟩,
  ⟨63, 0x20, 1, 0x0, false, ⟨0x400538028, 16, 16, .ro, 0⟩, []⟩,
  ⟨63, 0x20, 1, 0x0, false, ⟨0x40053802C, 0, 16, .ro, 0⟩, []⟩,
  ⟨63, 0x20, 1, 0x0, false, ⟨0x40053802C, 16, 16, .ro, 0⟩, []⟩,
  ⟨256, 0x4, 1, 0x0, false, ⟨0x40053C000, 0, 6, .rw, 0⟩, []⟩,
  ⟨256, 0x4, 1, 0x0, false, ⟨0x40053C000, 8, 8, .rw, 0⟩, []⟩,
  ⟨256, 0x4, 1, 0x0, false, ⟨0x40053C000, 16, 1, .ro, 0⟩, []⟩,
  ⟨1, 0x0, 1, 0x0, false, ⟨0x400000800, 0, 8, .rw, 4⟩, [(1, 255)]⟩,
  ⟨1, 0x0, 1, 0x0, false, ⟨0x400000804, 0, 4, .rw, 0⟩, []⟩,
  ⟨1, 0x0, 1, 0x0, false, ⟨0x400000804, 4, 5, .rw, 0⟩, []⟩,
  ⟨1, 0x0, 1, 0x0, false, ⟨0x400000804, 9, 2, .rw, 1⟩, [(1, 2)]⟩,
  ⟨1, 0x0, 1, 0x0, false, ⟨0x400000804, 11, 1, .w1s, 0⟩, []⟩,
  ⟨1, 0x0, 1, 0x0, false, ⟨0x400000804, 12, 1, .rw, 0⟩, []⟩,
  ⟨1, 0x0, 1, 0x0, false, ⟨0x400000808, 4, 28, .rw, 0⟩, []⟩,
  ⟨1, 0x0, 1, 0x0, false, ⟨0x40000082C, 0, 16, .rc, 0⟩, []⟩,
  ⟨1, 0x0, 1, 0x0, false, ⟨0x40000082C, 16, 16, .rc, 0⟩, []⟩,
  ⟨1, 0x0, 1, 0x0, false, ⟨0x400000830, 0, 6, .rw, 0⟩, [(0, 47)]⟩,
  ⟨1, 0x0, 1, 0x0, false, ⟨0x400000834, 0, 5, .ro, 0⟩, []⟩,
  ⟨1, 0x0, 1, 0x0, false, ⟨0x400000834, 16, 13, .ro, 0⟩, []⟩,
  ⟨1, 0x0, 1, 0x0, false, ⟨0x400540000, 0, 3, .wo, 0⟩, []⟩,
  ⟨1, 0x0, 1, 0x0, false, ⟨0x400540000, 16, 16, .wo, 0⟩, []⟩,
  ⟨1, 0x0, 1, 0x0, false, ⟨0x400540004, 0, 2, .ro, 0⟩, []⟩,
  ⟨1, 0x0, 1, 0x0, false, ⟨0x400540004, 2, 2, .ro, 0⟩, []⟩,
  ⟨1, 0x0, 1, 0x0, false, ⟨0x400540004, 4, 1, .ro, 0⟩, []⟩,
  ⟨1, 0x0, 1, 0x0, false, ⟨0x400540004, 5, 1, .ro, 0⟩, []⟩,
  ⟨1, 0x0, 1, 0x0, false, ⟨0x400540004, 6, 1, .ro, 0⟩, []⟩,
  ⟨1, 0x0, 1, 0x0, false, ⟨0x400540004, 7, 1, .ro, 0⟩, []⟩,
  ⟨1, 0x0, 1, 0x0, false, ⟨0x400540004, 8, 1, .ro, 0⟩, []⟩,
  ⟨1, 0x0, 1, 0x0, false, ⟨0x400540004, 9, 1, .ro, 0⟩, []⟩]

/-- Fields SBX_STATE.PEER_TRIP to SDL_REG_USED.FRAME. -/
def unitMap12 : List RegRow := [
  ⟨1, 0x0, 1, 0x0, false, ⟨0x400540004, 10, 1, .ro, 0⟩, []⟩,
  ⟨1, 0x0, 1, 0x0, false, ⟨0x400540004, 11, 1, .ro, 0⟩, []⟩,
  ⟨1, 0x0, 1, 0x0, false, ⟨0x400540004, 12, 1, .ro, 0⟩, []⟩,
  ⟨1, 0x0, 1, 0x0, false, ⟨0x400540008, 0, 16, .ro, 0⟩, []⟩,
  ⟨1, 0x0, 1, 0x0, false, ⟨0x40054000C, 0, 8, .rw, 0⟩, []⟩,
  ⟨1, 0x0, 1, 0x0, false, ⟨0x400540010, 0, 8, .wo, 0⟩, []⟩,
  ⟨1, 0x0, 1, 0x0, false, ⟨0x400540014, 0, 8, .ro, 0⟩, []⟩,
  ⟨1, 0x0, 1, 0x0, false, ⟨0x400540014, 8, 8, .ro, 0⟩, []⟩,
  ⟨1, 0x0, 1, 0x0, false, ⟨0x400540014, 16, 8, .ro, 0⟩, []⟩,
  ⟨1, 0x0, 1, 0x0, false, ⟨0x400540014, 24, 8, .ro, 0⟩, []⟩,
  ⟨1, 0x0, 1, 0x0, false, ⟨0x400540018, 0, 32, .wo, 0⟩, []⟩,
  ⟨1, 0x0, 1, 0x0, false, ⟨0x40054001C, 0, 1, .w1s, 0⟩, []⟩,
  ⟨1, 0x0, 1, 0x0, false, ⟨0x40054001C, 1, 1, .w1s, 0⟩, []⟩,
  ⟨1, 0x0, 1, 0x0, false, ⟨0x40054001C, 16, 7, .ro, 0⟩, []⟩,
  ⟨1, 0x0, 1, 0x0, false, ⟨0x400540040, 0, 4, .ro, 0⟩, []⟩,
  ⟨1, 0x0, 1, 0x0, false, ⟨0x400540040, 4, 4, .ro, 0⟩, []⟩,
  ⟨1, 0x0, 1, 0x0, false, ⟨0x400540040, 8, 8, .ro, 0⟩, []⟩,
  ⟨1, 0x0, 1, 0x0, false, ⟨0x400540040, 31, 1, .ro, 0⟩, []⟩,
  ⟨1, 0x0, 1, 0x0, false, ⟨0x400540044, 0, 32, .ro, 0⟩, []⟩,
  ⟨1, 0x0, 1, 0x0, false, ⟨0x400540048, 0, 32, .ro, 0⟩, []⟩,
  ⟨1, 0x0, 1, 0x0, false, ⟨0x40054004C, 0, 8, .ro, 0⟩, []⟩,
  ⟨1, 0x0, 1, 0x0, false, ⟨0x40054004C, 8, 1, .ro, 0⟩, []⟩,
  ⟨1, 0x0, 1, 0x0, false, ⟨0x400540050, 0, 16, .rc, 0⟩, []⟩,
  ⟨1, 0x0, 1, 0x0, false, ⟨0x400540050, 16, 16, .rc, 0⟩, []⟩,
  ⟨5, 0x4, 1, 0x0, false, ⟨0x400540080, 0, 32, .ro, 0⟩, []⟩,
  ⟨8, 0x4, 1, 0x0, false, ⟨0x400540100, 0, 2, .ro, 0⟩, []⟩,
  ⟨8, 0x4, 1, 0x0, false, ⟨0x400540100, 2, 1, .ro, 0⟩, []⟩,
  ⟨8, 0x4, 1, 0x0, false, ⟨0x400540100, 3, 1, .ro, 0⟩, []⟩,
  ⟨1, 0x0, 1, 0x0, false, ⟨0x400510000, 0, 1, .w1s, 0⟩, []⟩,
  ⟨1, 0x0, 1, 0x0, false, ⟨0x400510000, 1, 1, .rw, 0⟩, []⟩,
  ⟨1, 0x0, 1, 0x0, false, ⟨0x400510000, 2, 1, .w1s, 0⟩, []⟩,
  ⟨1, 0x0, 1, 0x0, false, ⟨0x400510000, 3, 1, .w1s, 0⟩, []⟩,
  ⟨1, 0x0, 1, 0x0, false, ⟨0x400510000, 4, 1, .w1s, 0⟩, []⟩,
  ⟨1, 0x0, 1, 0x0, false, ⟨0x400510000, 5, 1, .rw, 0⟩, []⟩,
  ⟨1, 0x0, 1, 0x0, false, ⟨0x400510000, 6, 1, .rw, 0⟩, []⟩,
  ⟨1, 0x0, 1, 0x0, false, ⟨0x400510000, 8, 1, .ro, 1⟩, []⟩,
  ⟨1, 0x0, 1, 0x0, false, ⟨0x400510000, 9, 5, .rw, 0⟩, []⟩,
  ⟨1, 0x0, 1, 0x0, false, ⟨0x400510000, 14, 5, .rw, 0⟩, [(0, 16)]⟩,
  ⟨1, 0x0, 1, 0x0, false, ⟨0x400510004, 0, 8, .rw, 4⟩, [(1, 255)]⟩,
  ⟨1, 0x0, 1, 0x0, false, ⟨0x400510004, 8, 8, .rw, 4⟩, [(1, 255)]⟩,
  ⟨1, 0x0, 1, 0x0, false, ⟨0x400510004, 16, 10, .rw, 200⟩, [(32, 1023)]⟩,
  ⟨1, 0x0, 1, 0x0, false, ⟨0x400510008, 0, 16, .rw, 1000⟩, []⟩,
  ⟨1, 0x0, 1, 0x0, false, ⟨0x400510008, 16, 16, .rw, 100⟩, [(1, 65535)]⟩,
  ⟨1, 0x0, 1, 0x0, false, ⟨0x40051000C, 0, 3, .ro, 0⟩, []⟩,
  ⟨1, 0x0, 1, 0x0, false, ⟨0x40051000C, 3, 1, .ro, 0⟩, []⟩,
  ⟨1, 0x0, 1, 0x0, false, ⟨0x40051000C, 4, 1, .ro, 0⟩, []⟩,
  ⟨1, 0x0, 1, 0x0, false, ⟨0x40051000C, 5, 3, .ro, 0⟩, []⟩,
  ⟨1, 0x0, 1, 0x0, false, ⟨0x40051000C, 8, 1, .ro, 0⟩, []⟩,
  ⟨1, 0x0, 1, 0x0, false, ⟨0x40051000C, 9, 1, .ro, 0⟩, []⟩,
  ⟨1, 0x0, 1, 0x0, false, ⟨0x40051000C, 10, 1, .ro, 0⟩, []⟩,
  ⟨1, 0x0, 1, 0x0, false, ⟨0x40051000C, 11, 1, .ro, 0⟩, []⟩,
  ⟨1, 0x0, 1, 0x0, false, ⟨0x40051000C, 12, 10, .ro, 0⟩, []⟩,
  ⟨1, 0x0, 1, 0x0, false, ⟨0x400510010, 0, 32, .ro, 0⟩, []⟩,
  ⟨1, 0x0, 1, 0x0, false, ⟨0x400510040, 0, 32, .ro, 0⟩, []⟩,
  ⟨1, 0x0, 1, 0x0, false, ⟨0x400510044, 0, 32, .ro, 0⟩, []⟩,
  ⟨1, 0x0, 1, 0x0, false, ⟨0x400510048, 0, 32, .ro, 0⟩, []⟩,
  ⟨1, 0x0, 1, 0x0, false, ⟨0x40051004C, 0, 32, .ro, 0⟩, []⟩,
  ⟨1, 0x0, 1, 0x0, false, ⟨0x400510050, 0, 32, .ro, 0⟩, []⟩,
  ⟨1, 0x0, 1, 0x0, false, ⟨0x400510054, 0, 17, .ro, 0⟩, []⟩,
  ⟨1, 0x0, 1, 0x0, false, ⟨0x400510058, 0, 17, .ro, 0⟩, []⟩]

/-- Fields SDL_CNT_A.LATE_CNT to SYS_HIST_TSH.TS_HI. -/
def unitMap13 : List RegRow := [
  ⟨1, 0x0, 1, 0x0, false, ⟨0x400510060, 0, 16, .rc, 0⟩, []⟩,
  ⟨1, 0x0, 1, 0x0, false, ⟨0x400510060, 16, 16, .rc, 0⟩, []⟩,
  ⟨1, 0x0, 1, 0x0, false, ⟨0x400510064, 0, 16, .rc, 0⟩, []⟩,
  ⟨1, 0x0, 1, 0x0, false, ⟨0x400510064, 16, 16, .rc, 0⟩, []⟩,
  ⟨16, 0x10, 1, 0x0, false, ⟨0x400510100, 4, 28, .rw, 0⟩, []⟩,
  ⟨16, 0x10, 1, 0x0, false, ⟨0x400510104, 0, 17, .rw, 0⟩, []⟩,
  ⟨16, 0x10, 1, 0x0, false, ⟨0x400510108, 0, 32, .ro, 0⟩, []⟩,
  ⟨1, 0x0, 1, 0x0, false, ⟨0x400000000, 0, 16, .ro, 28928⟩, []⟩,
  ⟨1, 0x0, 1, 0x0, false, ⟨0x400000000, 16, 8, .ro, 192⟩, []⟩,
  ⟨1, 0x0, 1, 0x0, false, ⟨0x400000004, 0, 2, .ro, 0⟩, []⟩,
  ⟨1, 0x0, 1, 0x0, false, ⟨0x400000004, 2, 2, .ro, 0⟩, []⟩,
  ⟨1, 0x0, 1, 0x0, false, ⟨0x400000004, 4, 1, .ro, 0⟩, []⟩,
  ⟨1, 0x0, 1, 0x0, false, ⟨0x400000004, 5, 1, .ro, 0⟩, []⟩,
  ⟨1, 0x0, 1, 0x0, false, ⟨0x400000008, 0, 2, .ro, 0⟩, []⟩,
  ⟨1, 0x0, 1, 0x0, false, ⟨0x400000008, 2, 2, .ro, 0⟩, []⟩,
  ⟨1, 0x0, 1, 0x0, false, ⟨0x400000008, 4, 1, .ro, 0⟩, []⟩,
  ⟨1, 0x0, 1, 0x0, false, ⟨0x400000008, 5, 1, .ro, 1⟩, []⟩,
  ⟨1, 0x0, 1, 0x0, false, ⟨0x40000000C, 0, 11, .ro, 0⟩, []⟩,
  ⟨1, 0x0, 1, 0x0, false, ⟨0x40000000C, 12, 3, .ro, 0⟩, []⟩,
  ⟨1, 0x0, 1, 0x0, false, ⟨0x400000010, 0, 32, .ro, 0⟩, []⟩,
  ⟨1, 0x0, 1, 0x0, false, ⟨0x400000014, 0, 2, .wo, 0⟩, []⟩,
  ⟨1, 0x0, 1, 0x0, false, ⟨0x400000014, 2, 1, .wo, 0⟩, []⟩,
  ⟨1, 0x0, 1, 0x0, false, ⟨0x400000014, 4, 7, .wo, 0⟩, []⟩,
  ⟨1, 0x0, 1, 0x0, false, ⟨0x400000014, 16, 16, .wo, 0⟩, []⟩,
  ⟨1, 0x0, 1, 0x0, false, ⟨0x400000018, 0, 1, .rw, 0⟩, []⟩,
  ⟨1, 0x0, 1, 0x0, false, ⟨0x40000001C, 0, 10, .rw, 100⟩, [(1, 1000)]⟩,
  ⟨1, 0x0, 1, 0x0, false, ⟨0x40000001C, 10, 1, .w1s, 0⟩, []⟩,
  ⟨1, 0x0, 1, 0x0, false, ⟨0x400000020, 0, 16, .wo, 0⟩, []⟩,
  ⟨1, 0x0, 1, 0x0, false, ⟨0x400000024, 0, 8, .rw, 110⟩, [(60, 124)]⟩,
  ⟨1, 0x0, 1, 0x0, false, ⟨0x400000024, 8, 8, .ro, 0⟩, []⟩,
  ⟨1, 0x0, 1, 0x0, false, ⟨0x400000024, 16, 8, .ro, 0⟩, []⟩,
  ⟨1, 0x0, 1, 0x0, false, ⟨0x400000028, 0, 1, .rw, 0⟩, []⟩,
  ⟨1, 0x0, 1, 0x0, false, ⟨0x400000028, 1, 1, .rw, 0⟩, []⟩,
  ⟨1, 0x0, 1, 0x0, false, ⟨0x400000028, 2, 1, .rw, 0⟩, []⟩,
  ⟨1, 0x0, 1, 0x0, false, ⟨0x400000028, 3, 1, .rw, 0⟩, []⟩,
  ⟨1, 0x0, 1, 0x0, false, ⟨0x400000028, 4, 1, .rw, 0⟩, []⟩,
  ⟨1, 0x0, 1, 0x0, false, ⟨0x40000002C, 0, 12, .ro, 4095⟩, []⟩,
  ⟨1, 0x0, 1, 0x0, false, ⟨0x40000002C, 16, 1, .ro, 0⟩, []⟩,
  ⟨1, 0x0, 1, 0x0, false, ⟨0x400000030, 0, 1, .ro, 1⟩, []⟩,
  ⟨1, 0x0, 1, 0x0, false, ⟨0x400000030, 1, 3, .ro, 0⟩, []⟩,
  ⟨1, 0x0, 1, 0x0, false, ⟨0x400000030, 4, 1, .ro, 0⟩, []⟩,
  ⟨1, 0x0, 1, 0x0, false, ⟨0x400000034, 0, 8, .ro, 0⟩, []⟩,
  ⟨1, 0x0, 1, 0x0, false, ⟨0x400000034, 8, 24, .ro, 0⟩, []⟩,
  ⟨1, 0x0, 1, 0x0, false, ⟨0x400000038, 0, 32, .ro, 0⟩, []⟩,
  ⟨1, 0x0, 1, 0x0, false, ⟨0x40000003C, 0, 1, .ro, 0⟩, []⟩,
  ⟨1, 0x0, 1, 0x0, false, ⟨0x40000003C, 1, 1, .ro, 0⟩, []⟩,
  ⟨1, 0x0, 1, 0x0, false, ⟨0x40000003C, 2, 1, .ro, 0⟩, []⟩,
  ⟨1, 0x0, 1, 0x0, false, ⟨0x400000040, 2, 30, .rw, 0⟩, []⟩,
  ⟨1, 0x0, 1, 0x0, false, ⟨0x400000044, 0, 8, .rw, 0⟩, []⟩,
  ⟨1, 0x0, 1, 0x0, false, ⟨0x400000048, 0, 16, .w1s, 1⟩, []⟩,
  ⟨1, 0x0, 1, 0x0, false, ⟨0x40000004C, 0, 1, .wo, 0⟩, []⟩,
  ⟨1, 0x0, 1, 0x0, false, ⟨0x40000004C, 1, 1, .wo, 0⟩, []⟩,
  ⟨1, 0x0, 1, 0x0, false, ⟨0x40000004C, 2, 1, .wo, 0⟩, []⟩,
  ⟨1, 0x0, 1, 0x0, false, ⟨0x40000004C, 16, 16, .wo, 0⟩, []⟩,
  ⟨1, 0x0, 1, 0x0, false, ⟨0x400000050, 0, 3, .rw, 0⟩, []⟩,
  ⟨1, 0x0, 1, 0x0, false, ⟨0x400000054, 0, 11, .ro, 0⟩, []⟩,
  ⟨1, 0x0, 1, 0x0, false, ⟨0x400000054, 12, 3, .ro, 0⟩, []⟩,
  ⟨1, 0x0, 1, 0x0, false, ⟨0x400000054, 15, 1, .ro, 0⟩, []⟩,
  ⟨1, 0x0, 1, 0x0, false, ⟨0x400000058, 0, 32, .ro, 0⟩, []⟩,
  ⟨1, 0x0, 1, 0x0, false, ⟨0x40000005C, 0, 32, .ro, 0⟩, []⟩]

/-- Fields SYS_LF_SEL.ENTRY to SBX_ENABLE.EN. -/
def unitMap14 : List RegRow := [
  ⟨1, 0x0, 1, 0x0, false, ⟨0x400000060, 0, 4, .rw, 0⟩, []⟩,
  ⟨1, 0x0, 1, 0x0, false, ⟨0x400000064, 0, 4, .ro, 0⟩, []⟩,
  ⟨1, 0x0, 1, 0x0, false, ⟨0x400000064, 4, 4, .ro, 0⟩, []⟩,
  ⟨1, 0x0, 1, 0x0, false, ⟨0x400000064, 8, 8, .ro, 0⟩, []⟩,
  ⟨1, 0x0, 1, 0x0, false, ⟨0x400000064, 31, 1, .ro, 0⟩, []⟩,
  ⟨1, 0x0, 1, 0x0, false, ⟨0x400000068, 0, 32, .ro, 0⟩, []⟩,
  ⟨1, 0x0, 1, 0x0, false, ⟨0x40000006C, 0, 32, .ro, 0⟩, []⟩,
  ⟨1, 0x0, 1, 0x0, false, ⟨0x400550000, 0, 32, .ro, 0⟩, []⟩,
  ⟨1, 0x0, 1, 0x0, false, ⟨0x400550004, 0, 32, .ro, 0⟩, []⟩,
  ⟨1, 0x0, 1, 0x0, false, ⟨0x400550008, 0, 1, .ro, 0⟩, []⟩,
  ⟨1, 0x0, 1, 0x0, false, ⟨0x400550008, 1, 1, .ro, 0⟩, []⟩,
  ⟨1, 0x0, 1, 0x0, false, ⟨0x400550008, 2, 2, .ro, 0⟩, []⟩,
  ⟨1, 0x0, 1, 0x0, false, ⟨0x400550008, 4, 1, .ro, 0⟩, []⟩,
  ⟨1, 0x0, 1, 0x0, false, ⟨0x400550008, 5, 1, .ro, 0⟩, []⟩,
  ⟨1, 0x0, 1, 0x0, false, ⟨0x400550008, 8, 8, .ro, 0⟩, []⟩,
  ⟨1, 0x0, 1, 0x0, false, ⟨0x400550008, 16, 1, .ro, 0⟩, []⟩,
  ⟨1, 0x0, 1, 0x0, false, ⟨0x400550008, 17, 1, .ro, 0⟩, []⟩,
  ⟨1, 0x0, 1, 0x0, false, ⟨0x40055000C, 0, 32, .ro, 0⟩, []⟩,
  ⟨1, 0x0, 1, 0x0, false, ⟨0x400550010, 0, 4, .wo, 0⟩, []⟩,
  ⟨1, 0x0, 1, 0x0, false, ⟨0x400550010, 4, 1, .wo, 0⟩, []⟩,
  ⟨1, 0x0, 1, 0x0, false, ⟨0x400550010, 16, 16, .wo, 0⟩, []⟩,
  ⟨1, 0x0, 1, 0x0, false, ⟨0x400550014, 0, 32, .rw, 0⟩, []⟩,
  ⟨1, 0x0, 1, 0x0, false, ⟨0x400550018, 0, 1, .w1c, 0⟩, []⟩,
  ⟨1, 0x0, 1, 0x0, false, ⟨0x400550018, 1, 1, .w1c, 0⟩, []⟩,
  ⟨1, 0x0, 1, 0x0, false, ⟨0x400550018, 2, 1, .ro, 0⟩, []⟩,
  ⟨1, 0x0, 1, 0x0, false, ⟨0x400550018, 8, 4, .ro, 0⟩, []⟩,
  ⟨1, 0x0, 1, 0x0, false, ⟨0x400550020, 10, 22, .rw, 0⟩, []⟩,
  ⟨1, 0x0, 1, 0x0, false, ⟨0x400550024, 0, 1, .ro, 0⟩, []⟩,
  ⟨1, 0x0, 1, 0x0, false, ⟨0x400550028, 0, 16, .ro, 0⟩, []⟩,
  ⟨1, 0x0, 1, 0x0, false, ⟨0x400550028, 16, 16, .ro, 0⟩, []⟩,
  ⟨1, 0x0, 1, 0x0, false, ⟨0x40055002C, 0, 16, .rw, 500⟩, [(100, 5000)]⟩,
  ⟨1, 0x0, 1, 0x0, false, ⟨0x400550030, 0, 16, .rw, 256⟩, [(256, 65534)]⟩,
  ⟨1, 0x0, 1, 0x0, false, ⟨0x400550030, 16, 12, .rw, 0⟩, [(0, 4056)]⟩,
  ⟨1332, 0x4, 1, 0x0, false, ⟨0x400551000, 0, 32, .ro, 0⟩, []⟩,
  ⟨1, 0x0, 1, 0x0, false, ⟨0x400020030, 0, 1, .w1c, 0⟩, []⟩,
  ⟨1, 0x0, 1, 0x0, false, ⟨0x400020030, 1, 1, .w1c, 0⟩, []⟩,
  ⟨1, 0x0, 1, 0x0, false, ⟨0x400020034, 0, 1, .rw, 1⟩, []⟩,
  ⟨1, 0x0, 1, 0x0, false, ⟨0x400020034, 1, 1, .rw, 1⟩, []⟩,
  ⟨1, 0x0, 1, 0x0, false, ⟨0x400020038, 0, 4, .ro, 0⟩, []⟩,
  ⟨1, 0x0, 1, 0x0, false, ⟨0x400020038, 4, 4, .ro, 0⟩, []⟩,
  ⟨1, 0x0, 1, 0x0, false, ⟨0x400020038, 31, 1, .ro, 0⟩, []⟩,
  ⟨1, 0x0, 1, 0x0, false, ⟨0x40002003C, 0, 32, .ro, 0⟩, []⟩,
  ⟨1, 0x0, 1, 0x0, false, ⟨0x400020040, 0, 32, .ro, 0⟩, []⟩,
  ⟨1, 0x0, 1, 0x0, false, ⟨0x400020044, 0, 16, .ro, 0⟩, []⟩,
  ⟨1, 0x0, 1, 0x0, false, ⟨0x400020048, 0, 1, .wo, 0⟩, []⟩,
  ⟨1, 0x0, 1, 0x0, false, ⟨0x400540020, 0, 1, .w1c, 0⟩, []⟩,
  ⟨1, 0x0, 1, 0x0, false, ⟨0x400540020, 1, 1, .w1c, 0⟩, []⟩,
  ⟨1, 0x0, 1, 0x0, false, ⟨0x400540020, 2, 1, .w1c, 0⟩, []⟩,
  ⟨1, 0x0, 1, 0x0, false, ⟨0x400540020, 3, 1, .w1c, 0⟩, []⟩,
  ⟨1, 0x0, 1, 0x0, false, ⟨0x400540020, 4, 1, .w1c, 0⟩, []⟩,
  ⟨1, 0x0, 1, 0x0, false, ⟨0x400540020, 5, 1, .w1c, 0⟩, []⟩,
  ⟨1, 0x0, 1, 0x0, false, ⟨0x400540020, 6, 1, .w1c, 0⟩, []⟩,
  ⟨1, 0x0, 1, 0x0, false, ⟨0x400540020, 7, 1, .w1c, 0⟩, []⟩,
  ⟨1, 0x0, 1, 0x0, false, ⟨0x400540020, 8, 1, .w1c, 0⟩, []⟩,
  ⟨1, 0x0, 1, 0x0, false, ⟨0x400540020, 9, 1, .w1c, 0⟩, []⟩,
  ⟨1, 0x0, 1, 0x0, false, ⟨0x400540020, 10, 1, .w1c, 0⟩, []⟩,
  ⟨1, 0x0, 1, 0x0, false, ⟨0x400540020, 11, 1, .w1c, 0⟩, []⟩,
  ⟨1, 0x0, 1, 0x0, false, ⟨0x400540024, 0, 1, .ro, 1⟩, []⟩,
  ⟨1, 0x0, 1, 0x0, false, ⟨0x400540024, 1, 1, .ro, 1⟩, []⟩,
  ⟨1, 0x0, 1, 0x0, false, ⟨0x400540024, 2, 1, .ro, 1⟩, []⟩]

/-- Fields SBX_ENABLE.EN to SYS_ENABLE.EN. -/
def unitMap15 : List RegRow := [
  ⟨1, 0x0, 1, 0x0, false, ⟨0x400540024, 3, 1, .ro, 1⟩, []⟩,
  ⟨1, 0x0, 1, 0x0, false, ⟨0x400540024, 4, 1, .ro, 1⟩, []⟩,
  ⟨1, 0x0, 1, 0x0, false, ⟨0x400540024, 5, 1, .rw, 1⟩, []⟩,
  ⟨1, 0x0, 1, 0x0, false, ⟨0x400540024, 6, 1, .rw, 1⟩, []⟩,
  ⟨1, 0x0, 1, 0x0, false, ⟨0x400540024, 7, 1, .ro, 1⟩, []⟩,
  ⟨1, 0x0, 1, 0x0, false, ⟨0x400540024, 8, 1, .rw, 1⟩, []⟩,
  ⟨1, 0x0, 1, 0x0, false, ⟨0x400540024, 9, 1, .rw, 1⟩, []⟩,
  ⟨1, 0x0, 1, 0x0, false, ⟨0x400540024, 10, 1, .rw, 1⟩, []⟩,
  ⟨1, 0x0, 1, 0x0, false, ⟨0x400540024, 11, 1, .rw, 1⟩, []⟩,
  ⟨1, 0x0, 1, 0x0, false, ⟨0x400540028, 0, 4, .ro, 0⟩, []⟩,
  ⟨1, 0x0, 1, 0x0, false, ⟨0x400540028, 4, 4, .ro, 0⟩, []⟩,
  ⟨1, 0x0, 1, 0x0, false, ⟨0x400540028, 31, 1, .ro, 0⟩, []⟩,
  ⟨1, 0x0, 1, 0x0, false, ⟨0x40054002C, 0, 32, .ro, 0⟩, []⟩,
  ⟨1, 0x0, 1, 0x0, false, ⟨0x400540030, 0, 32, .ro, 0⟩, []⟩,
  ⟨1, 0x0, 1, 0x0, false, ⟨0x400540034, 0, 16, .ro, 0⟩, []⟩,
  ⟨1, 0x0, 1, 0x0, false, ⟨0x400540038, 0, 1, .wo, 0⟩, []⟩,
  ⟨1, 0x0, 1, 0x0, false, ⟨0x400510020, 0, 1, .w1c, 0⟩, []⟩,
  ⟨1, 0x0, 1, 0x0, false, ⟨0x400510020, 1, 1, .w1c, 0⟩, []⟩,
  ⟨1, 0x0, 1, 0x0, false, ⟨0x400510020, 2, 1, .w1c, 0⟩, []⟩,
  ⟨1, 0x0, 1, 0x0, false, ⟨0x400510020, 3, 1, .w1c, 0⟩, []⟩,
  ⟨1, 0x0, 1, 0x0, false, ⟨0x400510020, 4, 1, .w1c, 0⟩, []⟩,
  ⟨1, 0x0, 1, 0x0, false, ⟨0x400510020, 5, 1, .w1c, 0⟩, []⟩,
  ⟨1, 0x0, 1, 0x0, false, ⟨0x400510020, 6, 1, .w1c, 0⟩, []⟩,
  ⟨1, 0x0, 1, 0x0, false, ⟨0x400510020, 7, 1, .w1c, 0⟩, []⟩,
  ⟨1, 0x0, 1, 0x0, false, ⟨0x400510020, 8, 1, .w1c, 0⟩, []⟩,
  ⟨1, 0x0, 1, 0x0, false, ⟨0x400510020, 9, 1, .w1c, 0⟩, []⟩,
  ⟨1, 0x0, 1, 0x0, false, ⟨0x400510020, 10, 1, .w1c, 0⟩, []⟩,
  ⟨1, 0x0, 1, 0x0, false, ⟨0x400510020, 11, 1, .w1c, 0⟩, []⟩,
  ⟨1, 0x0, 1, 0x0, false, ⟨0x400510020, 12, 1, .w1c, 0⟩, []⟩,
  ⟨1, 0x0, 1, 0x0, false, ⟨0x400510020, 13, 1, .w1c, 0⟩, []⟩,
  ⟨1, 0x0, 1, 0x0, false, ⟨0x400510024, 0, 1, .rw, 1⟩, []⟩,
  ⟨1, 0x0, 1, 0x0, false, ⟨0x400510024, 1, 1, .rw, 1⟩, []⟩,
  ⟨1, 0x0, 1, 0x0, false, ⟨0x400510024, 2, 1, .rw, 1⟩, []⟩,
  ⟨1, 0x0, 1, 0x0, false, ⟨0x400510024, 3, 1, .rw, 1⟩, []⟩,
  ⟨1, 0x0, 1, 0x0, false, ⟨0x400510024, 4, 1, .rw, 1⟩, []⟩,
  ⟨1, 0x0, 1, 0x0, false, ⟨0x400510024, 5, 1, .rw, 1⟩, []⟩,
  ⟨1, 0x0, 1, 0x0, false, ⟨0x400510024, 6, 1, .rw, 1⟩, []⟩,
  ⟨1, 0x0, 1, 0x0, false, ⟨0x400510024, 7, 1, .rw, 1⟩, []⟩,
  ⟨1, 0x0, 1, 0x0, false, ⟨0x400510024, 8, 1, .rw, 1⟩, []⟩,
  ⟨1, 0x0, 1, 0x0, false, ⟨0x400510024, 9, 1, .rw, 1⟩, []⟩,
  ⟨1, 0x0, 1, 0x0, false, ⟨0x400510024, 10, 1, .rw, 1⟩, []⟩,
  ⟨1, 0x0, 1, 0x0, false, ⟨0x400510024, 11, 1, .rw, 1⟩, []⟩,
  ⟨1, 0x0, 1, 0x0, false, ⟨0x400510024, 12, 1, .rw, 1⟩, []⟩,
  ⟨1, 0x0, 1, 0x0, false, ⟨0x400510024, 13, 1, .rw, 1⟩, []⟩,
  ⟨1, 0x0, 1, 0x0, false, ⟨0x400510028, 0, 4, .ro, 0⟩, []⟩,
  ⟨1, 0x0, 1, 0x0, false, ⟨0x400510028, 4, 4, .ro, 0⟩, []⟩,
  ⟨1, 0x0, 1, 0x0, false, ⟨0x400510028, 31, 1, .ro, 0⟩, []⟩,
  ⟨1, 0x0, 1, 0x0, false, ⟨0x40051002C, 0, 32, .ro, 0⟩, []⟩,
  ⟨1, 0x0, 1, 0x0, false, ⟨0x400510030, 0, 32, .ro, 0⟩, []⟩,
  ⟨1, 0x0, 1, 0x0, false, ⟨0x400510034, 0, 16, .ro, 0⟩, []⟩,
  ⟨1, 0x0, 1, 0x0, false, ⟨0x400510038, 0, 1, .wo, 0⟩, []⟩,
  ⟨1, 0x0, 1, 0x0, false, ⟨0x400000070, 0, 1, .w1c, 0⟩, []⟩,
  ⟨1, 0x0, 1, 0x0, false, ⟨0x400000070, 1, 1, .w1c, 0⟩, []⟩,
  ⟨1, 0x0, 1, 0x0, false, ⟨0x400000070, 2, 1, .w1c, 0⟩, []⟩,
  ⟨1, 0x0, 1, 0x0, false, ⟨0x400000070, 3, 1, .w1c, 0⟩, []⟩,
  ⟨1, 0x0, 1, 0x0, false, ⟨0x400000070, 4, 1, .w1c, 0⟩, []⟩,
  ⟨1, 0x0, 1, 0x0, false, ⟨0x400000070, 5, 1, .w1c, 0⟩, []⟩,
  ⟨1, 0x0, 1, 0x0, false, ⟨0x400000070, 6, 1, .w1c, 0⟩, []⟩,
  ⟨1, 0x0, 1, 0x0, false, ⟨0x400000070, 7, 1, .w1c, 0⟩, []⟩,
  ⟨1, 0x0, 1, 0x0, false, ⟨0x400000074, 0, 1, .ro, 1⟩, []⟩]

/-- Fields SYS_ENABLE.EN to SNP_TCMD.ARMS. -/
def unitMap16 : List RegRow := [
  ⟨1, 0x0, 1, 0x0, false, ⟨0x400000074, 1, 1, .rw, 1⟩, []⟩,
  ⟨1, 0x0, 1, 0x0, false, ⟨0x400000074, 2, 1, .rw, 1⟩, []⟩,
  ⟨1, 0x0, 1, 0x0, false, ⟨0x400000074, 3, 1, .rw, 1⟩, []⟩,
  ⟨1, 0x0, 1, 0x0, false, ⟨0x400000074, 4, 1, .rw, 1⟩, []⟩,
  ⟨1, 0x0, 1, 0x0, false, ⟨0x400000074, 5, 1, .rw, 1⟩, []⟩,
  ⟨1, 0x0, 1, 0x0, false, ⟨0x400000074, 6, 1, .rw, 1⟩, []⟩,
  ⟨1, 0x0, 1, 0x0, false, ⟨0x400000074, 7, 1, .rw, 1⟩, []⟩,
  ⟨1, 0x0, 1, 0x0, false, ⟨0x400000078, 0, 4, .ro, 0⟩, []⟩,
  ⟨1, 0x0, 1, 0x0, false, ⟨0x400000078, 4, 4, .ro, 0⟩, []⟩,
  ⟨1, 0x0, 1, 0x0, false, ⟨0x400000078, 31, 1, .ro, 0⟩, []⟩,
  ⟨1, 0x0, 1, 0x0, false, ⟨0x40000007C, 0, 32, .ro, 0⟩, []⟩,
  ⟨1, 0x0, 1, 0x0, false, ⟨0x400000080, 0, 32, .ro, 0⟩, []⟩,
  ⟨1, 0x0, 1, 0x0, false, ⟨0x400000084, 0, 16, .ro, 0⟩, []⟩,
  ⟨1, 0x0, 1, 0x0, false, ⟨0x400000088, 0, 1, .wo, 0⟩, []⟩,
  ⟨1, 0x0, 1, 0x0, false, ⟨0x400000810, 0, 1, .w1c, 0⟩, []⟩,
  ⟨1, 0x0, 1, 0x0, false, ⟨0x400000810, 1, 1, .w1c, 0⟩, []⟩,
  ⟨1, 0x0, 1, 0x0, false, ⟨0x400000810, 2, 1, .w1c, 0⟩, []⟩,
  ⟨1, 0x0, 1, 0x0, false, ⟨0x400000810, 3, 1, .w1c, 0⟩, []⟩,
  ⟨1, 0x0, 1, 0x0, false, ⟨0x400000814, 0, 1, .ro, 1⟩, []⟩,
  ⟨1, 0x0, 1, 0x0, false, ⟨0x400000814, 1, 1, .rw, 1⟩, []⟩,
  ⟨1, 0x0, 1, 0x0, false, ⟨0x400000814, 2, 1, .rw, 1⟩, []⟩,
  ⟨1, 0x0, 1, 0x0, false, ⟨0x400000814, 3, 1, .rw, 1⟩, []⟩,
  ⟨1, 0x0, 1, 0x0, false, ⟨0x400000818, 0, 4, .ro, 0⟩, []⟩,
  ⟨1, 0x0, 1, 0x0, false, ⟨0x400000818, 4, 4, .ro, 0⟩, []⟩,
  ⟨1, 0x0, 1, 0x0, false, ⟨0x400000818, 8, 8, .ro, 0⟩, []⟩,
  ⟨1, 0x0, 1, 0x0, false, ⟨0x400000818, 31, 1, .ro, 0⟩, []⟩,
  ⟨1, 0x0, 1, 0x0, false, ⟨0x40000081C, 0, 32, .ro, 0⟩, []⟩,
  ⟨1, 0x0, 1, 0x0, false, ⟨0x400000820, 0, 32, .ro, 0⟩, []⟩,
  ⟨1, 0x0, 1, 0x0, false, ⟨0x400000824, 0, 16, .ro, 0⟩, []⟩,
  ⟨1, 0x0, 1, 0x0, false, ⟨0x400000828, 0, 1, .wo, 0⟩, []⟩,
  ⟨1, 0x0, 1, 0x0, false, ⟨0x400550040, 0, 1, .w1c, 0⟩, []⟩,
  ⟨1, 0x0, 1, 0x0, false, ⟨0x400550040, 1, 1, .w1c, 0⟩, []⟩,
  ⟨1, 0x0, 1, 0x0, false, ⟨0x400550040, 2, 1, .w1c, 0⟩, []⟩,
  ⟨1, 0x0, 1, 0x0, false, ⟨0x400550040, 3, 1, .w1c, 0⟩, []⟩,
  ⟨1, 0x0, 1, 0x0, false, ⟨0x400550040, 4, 1, .w1c, 0⟩, []⟩,
  ⟨1, 0x0, 1, 0x0, false, ⟨0x400550040, 5, 1, .w1c, 0⟩, []⟩,
  ⟨1, 0x0, 1, 0x0, false, ⟨0x400550044, 0, 1, .rw, 1⟩, []⟩,
  ⟨1, 0x0, 1, 0x0, false, ⟨0x400550044, 1, 1, .rw, 1⟩, []⟩,
  ⟨1, 0x0, 1, 0x0, false, ⟨0x400550044, 2, 1, .rw, 1⟩, []⟩,
  ⟨1, 0x0, 1, 0x0, false, ⟨0x400550044, 3, 1, .rw, 1⟩, []⟩,
  ⟨1, 0x0, 1, 0x0, false, ⟨0x400550044, 4, 1, .rw, 1⟩, []⟩,
  ⟨1, 0x0, 1, 0x0, false, ⟨0x400550044, 5, 1, .rw, 1⟩, []⟩,
  ⟨1, 0x0, 1, 0x0, false, ⟨0x400550048, 0, 4, .ro, 0⟩, []⟩,
  ⟨1, 0x0, 1, 0x0, false, ⟨0x400550048, 4, 4, .ro, 0⟩, []⟩,
  ⟨1, 0x0, 1, 0x0, false, ⟨0x400550048, 31, 1, .ro, 0⟩, []⟩,
  ⟨1, 0x0, 1, 0x0, false, ⟨0x40055004C, 0, 32, .ro, 0⟩, []⟩,
  ⟨1, 0x0, 1, 0x0, false, ⟨0x400550050, 0, 32, .ro, 0⟩, []⟩,
  ⟨1, 0x0, 1, 0x0, false, ⟨0x400550054, 0, 16, .ro, 0⟩, []⟩,
  ⟨1, 0x0, 1, 0x0, false, ⟨0x400550058, 0, 1, .wo, 0⟩, []⟩,
  ⟨1, 0x0, 1, 0x0, false, ⟨0x400020000, 0, 1, .w1s, 0⟩, []⟩,
  ⟨1, 0x0, 1, 0x0, false, ⟨0x400020000, 1, 1, .rw, 0⟩, []⟩,
  ⟨1, 0x0, 1, 0x0, false, ⟨0x400020000, 2, 1, .rw, 0⟩, []⟩,
  ⟨1, 0x0, 1, 0x0, false, ⟨0x400020000, 3, 1, .rw, 0⟩, []⟩,
  ⟨1, 0x0, 1, 0x0, false, ⟨0x400020004, 0, 32, .rw, 0⟩, []⟩,
  ⟨1, 0x0, 1, 0x0, false, ⟨0x400020008, 13, 13, .rw, 0⟩, []⟩,
  ⟨1, 0x0, 1, 0x0, false, ⟨0x40002000C, 0, 16, .ro, 0⟩, []⟩,
  ⟨1, 0x0, 1, 0x0, false, ⟨0x40002000C, 16, 4, .ro, 0⟩, []⟩,
  ⟨1, 0x0, 1, 0x0, false, ⟨0x40002000C, 24, 8, .rc, 0⟩, []⟩,
  ⟨1, 0x0, 1, 0x0, false, ⟨0x400020020, 0, 2, .rw, 0⟩, []⟩,
  ⟨1, 0x0, 1, 0x0, false, ⟨0x400020020, 16, 12, .rw, 0⟩, []⟩]

/-- Fields SNP_TCMD.GO to MLK_PC_CONS.CONS. -/
def unitMap17 : List RegRow := [
  ⟨1, 0x0, 1, 0x0, false, ⟨0x400020020, 31, 1, .w1s, 0⟩, []⟩,
  ⟨1, 0x0, 1, 0x0, false, ⟨0x400020024, 0, 32, .rw, 0⟩, []⟩,
  ⟨1, 0x0, 1, 0x0, false, ⟨0x400020028, 0, 1, .w1c, 0⟩, []⟩,
  ⟨1, 0x0, 1, 0x0, false, ⟨0x400020028, 1, 1, .w1c, 0⟩, []⟩,
  ⟨1, 0x0, 1, 0x0, false, ⟨0x400500040, 7, 25, .rw, 0⟩, []⟩,
  ⟨1, 0x0, 1, 0x0, false, ⟨0x400500050, 7, 25, .rw, 0⟩, []⟩,
  ⟨1, 0x0, 1, 0x0, false, ⟨0x400500044, 0, 12, .rw, 0⟩, [(0, 0), (2, 4095)]⟩,
  ⟨1, 0x0, 1, 0x0, false, ⟨0x400500054, 0, 12, .rw, 0⟩, [(0, 0), (2, 4095)]⟩,
  ⟨1, 0x0, 1, 0x0, false, ⟨0x400500048, 0, 12, .rw, 0⟩, []⟩,
  ⟨1, 0x0, 1, 0x0, false, ⟨0x400500058, 0, 12, .ro, 0⟩, []⟩,
  ⟨1, 0x0, 1, 0x0, false, ⟨0x40050004C, 0, 12, .ro, 0⟩, []⟩,
  ⟨1, 0x0, 1, 0x0, false, ⟨0x40050005C, 0, 12, .rw, 0⟩, []⟩]

/-- The register map of the BQ7100 (R574, R576). -/
def unitMap : List RegRow := unitMap0 ++ unitMap1 ++ unitMap2 ++ unitMap3 ++ unitMap4 ++ unitMap5 ++ unitMap6 ++ unitMap7 ++ unitMap8 ++ unitMap9 ++ unitMap10 ++ unitMap11 ++ unitMap12 ++ unitMap13 ++ unitMap14 ++ unitMap15 ++ unitMap16 ++ unitMap17

end Sys2Proof.Machine
end

