-- ==== Sys2Proof/Machine/Capture.lean ====
section
/-! DEFINITION. Capture and snapshots on the central unit (R383 to R400). -/
namespace Sys2Proof.Machine

namespace CAP
def TRIGGERED : Cause := ⟨B.CAP, 0, none, 184, false, 1⟩
def DONE : Cause := ⟨B.CAP, 1, none, 184, false, 1⟩
def OVF : Cause := ⟨B.CAP, 2, some 1, 184, false, 1⟩
def POST_CLAMP : Cause := ⟨B.CAP, 3, some 0, 184, false, 1⟩
def FLASH_END : Cause := ⟨B.CAP, 4, some 0, 184, false, 1⟩
def STOP_CONV : Cause := ⟨B.CAP, 5, some 0, 184, false, 1⟩
def WR_REJ : Cause := ⟨B.CAP, 6, some 0, 184, false, 1⟩
end CAP

namespace SNP
def SNP_BUSY : Cause := ⟨B.SNP, 0, some 0, 185, false, 1⟩
def TCMD_REJ : Cause := ⟨B.SNP, 1, some 0, 185, false, 1⟩
end SNP

/-- The capture unit beside its registers replaced. -/
def U.withCap (u : U) (f : Cap → Cap) : U := { u with cap := f u.cap }

/-- The state of the capture unit: 0 IDLE, 1 FILL, 2 POST, 3 DONE, 4 STREAM (R390). -/
def U.capState (u : U) : Nat := u.rd R.CAP_STATE_STATE

/-- Whether rows are being taken (R386, R390). -/
def U.capRuns (u : U) : Bool := u.capState == 1 || u.capState == 2 || u.capState == 4

/-- The row size in bytes (R385). -/
def U.capRowSize (u : U) : Nat := (8 + 4 * u.rd R.CAP_RATE_NCH + 15) / 16 * 16

/-- Where the region starts and how long it is (R386). -/
def U.capRegion (u : U) : Nat × Nat := (u.rd R.CAP_REGION_BASE * 65536, u.rd R.CAP_REGION_SIZE * 65536)

/-- Whether a store meets the region of a running capture (R386). -/
def U.capHolds (u : U) (addr n : Nat) : Bool :=
  u.capRuns && decide (addr < u.capRegion.1 + u.capRegion.2) && decide (u.capRegion.1 < addr + n)

/-- Whether ARM is refused: the region runs past the end of SRAM, or a flash stream would run under converter functions (R386, R396). -/
def U.capArmBad (u : U) : Bool :=
  !u.capRuns && (decide (u.capRegion.1 + u.capRegion.2 > 768 * 65536) || (u.on R.CAP_CTL_SINK && u.on R.DEP_CTL_CONV_EN))

/-- ARM taken (R386, R390, R392, R394); while the unit runs it does nothing. POST_CLAMP, a fault of this handshake, is no trigger (R391). -/
def U.capStart (u : U) (t : TimeBase) : U :=
  if u.capRuns then u else
  let r := u.capRegion
  let size := u.capRowSize
  let d := r.2 / size
  let u := (u.wr R.CAP_GEOM_DEPTH d).wr R.CAP_GEOM_ROW16 (size / 16)
  if u.on R.CAP_CTL_MODE then
    let u := ((u.wr R.CAP_STATE_STATE 4).wr R.CAP_SPROD_PROD 0).wr R.CAP_SCONS_CONS 0
    u.withCap (fun _ => Cap.zero)
  else
    let post := u.rd R.CAP_POST_POST
    let u := if post > d then u.raise t CAP.POST_CLAMP [] else u
    let u := ((u.wr R.CAP_STATE_STATE 1).wr R.CAP_CNT_TRIG_IGN 0).wr R.CAP_CNT_FRAMES 0
    u.withCap (fun _ => { Cap.zero with post := min post d })

/-- ARM (R386, R390, R396, R603): refused or taken. -/
def U.capArm (u : U) (t : TimeBase) : U := if u.capArmBad then u.raise t CAP.WR_REJ [] else u.capStart t

/-- A capture ends (R390). -/
def U.capDone (u : U) (t : TimeBase) : U :=
  ((u.wr R.CAP_STATE_STATE 3).withCap (fun c => { c with due := 0 })).raise t CAP.DONE []

/-- STOP (R390, R391). -/
def U.capStop (u : U) (t : TimeBase) : U := if u.capRuns then u.capDone t else u

/-- A trigger that falls due on the next row (R389): 0 edge, 1 fault, 2 snapshot, 3 software. -/
def U.capTrigger (u : U) (bit : Nat) : U :=
  if u.capRuns then u.withCap (fun c => { c with due := setBit c.due bit }) else u

/-- SWTRIG (R387). -/
def U.capSwtrig (u : U) : U := u.capTrigger 3

/-- The word of a channel: a board entry under the latch rule, or a port's raw sample (R383, R384). -/
def U.chanWord (u : U) (latch : U) (c : Nat) : Nat :=
  let src := u.rd (R.CAP_CH_SRC c)
  if u.on (R.CAP_CH_KIND c) then u.rd (R.SNS_LAST_SAMPLE (src % 32)) else enc 32 (latch.board src)

/-- The edge detector on a row: whether it fires, and how it is armed afterwards (R388): an edge that fires uses its arming up (log
entry 63). -/
def U.capEdge (u : U) (latch : U) : Bool × Nat :=
  let v := sx 32 (u.chanWord latch (u.rd R.CAP_TRIG_CHAN))
  let lvl := sx 32 (u.rd R.CAP_LEVEL_LEVEL)
  let hyst := (u.rd R.CAP_HYST_HYST : Int)
  let mode := u.rd R.CAP_TRIG_EDGE
  let up := mode == 0 || mode == 2
  let down := mode == 1 || mode == 2
  let armed := u.cap.armed
  let rise := up && bitAt armed 0 && decide (v > lvl)
  let fall := down && bitAt armed 1 && decide (v < lvl)
  let fire := rise || fall
  let a := if rise then clrBit armed 0 else armed
  let a := if fall then clrBit a 1 else a
  let a := if up && decide (v ≤ lvl - hyst) then setBit a 0 else a
  let a := if down && decide (v ≥ lvl + hyst) then setBit a 1 else a
  (fire && u.on R.CAP_CTL_TRIG_EDGE, a)

/-- A row written at the next index, modulo D (R385, R390, R394): an overflow mark holds zero channels. -/
def U.rowPut (u : U) (latch : U) (dn : Nat) (trig mark : Bool) : U :=
  let size := u.rd R.CAP_GEOM_ROW16 * 16
  let nch := u.rd R.CAP_RATE_NCH
  let ch := (List.range nch).flatMap (fun c => toBytes 4 (if mark then 0 else u.chanWord latch c))
  let row := toBytes 4 dn ++ [b2n trig + 2 * b2n mark, nch, 0, 0] ++ ch
  let u := u.memPut (u.capRegion.1 + u.cap.next * size) (row ++ List.replicate (size - row.length) 0)
  u.withCap (fun c => { c with next := (c.next + 1) % max 1 (u.rd R.CAP_GEOM_DEPTH), total := c.total + 1 })

/-- A trigger accepted on the row at an index (R389, R398). -/
def U.capTook (u : U) (dn idx cause : Nat) : U :=
  let u := ((u.wr R.CAP_STATE_TRIG_CAUSE cause).wr R.CAP_TRIG_DN_DN dn).wr R.CAP_TRIG_ROW_ROW idx
  if u.on R.SNP_CTL_ON_CAP && cause != 4 then { u with snp := { u.snp with fired := setBit u.snp.fired 1 } } else u

/-- A row of the stream (R390, R394, R396). -/
def U.streamRow (u : U) (t : TimeBase) (latch : U) (dn cause : Nat) : U :=
  if u.cap.conv then (u.raise t CAP.STOP_CONV []).capDone t
  else
    let idx := u.cap.next
    let full := decide (u.rd R.CAP_GEOM_DEPTH < u.cap.total + 2)
    let u := u.rowPut latch dn (cause != 0 && !full) full
    let u := u.wr R.CAP_SPROD_PROD u.cap.next
    if full then (u.raise t CAP.OVF []).capDone t
    else if cause = 0 then u else u.capTook dn idx cause

/-- A row of a buffer capture (R389, R390, R392, R393). -/
def U.bufferRow (u : U) (t : TimeBase) (latch : U) (dn cause : Nat) : U :=
  let d := u.rd R.CAP_GEOM_DEPTH
  let pre := min (d - u.cap.post) u.cap.total
  let idx := u.cap.next
  if u.capState = 1 then
    if cause = 0 then u.rowPut latch dn false false
    else if u.on R.CAP_CTL_PREFILL && decide (u.cap.total < d - u.cap.post) then
      (u.rowPut latch dn false false).inc R.CAP_CNT_TRIG_IGN
    else
      let u := ((u.rowPut latch dn true false).wr R.CAP_STATE_STATE 2).wr R.CAP_PRE_PRE pre
      let u := ((u.withCap (fun c => { c with left := c.post - 1 })).capTook dn idx cause).raise t CAP.TRIGGERED []
      if u.cap.left = 0 then u.capDone t else u
  else
    let u := u.rowPut latch dn false false
    let u := if cause = 0 then u else u.inc R.CAP_CNT_TRIG_IGN
    let u := u.withCap (fun c => { c with left := c.left - 1 })
    if u.cap.left = 0 then u.capDone t else u

/-- The row of a boundary (R384): the triggers due and the edge form one trigger (R389). -/
def U.capRow (u : U) (t : TimeBase) (us : Nat) (latch : U) : U :=
  if !u.capRuns || us % u.rd R.CAP_RATE_DEC ≠ 0 then u else
  let e := u.capEdge latch
  let cause := if e.1 then setBit u.cap.due 0 else u.cap.due
  let u := u.withCap (fun c => { c with due := 0, armed := e.2 })
  if u.capState = 4 then u.streamRow t latch (us % 2 ^ 32) cause else u.bufferRow t latch (us % 2 ^ 32) cause

/-- The bytes of a stream row. -/
def U.streamRowBytes (u : U) (idx : Nat) : List Nat :=
  let size := u.rd R.CAP_GEOM_ROW16 * 16
  u.mem.readBytes (u.capRegion.1 + idx * size) size

/-- The span of as many rows of the ring as the stream engine takes next, by row. -/
def U.streamSpans (u : U) (n : Nat) : List (Nat × Nat) :=
  let size := u.rd R.CAP_GEOM_ROW16 * 16
  (List.range n).map (fun i => (u.capRegion.1 + (u.rd R.CAP_SCONS_CONS + i) % max 1 (u.rd R.CAP_GEOM_DEPTH) * size, size))

/-- Rows taken from the ring by the stream engine. -/
def U.streamTake (u : U) (n : Nat) : U :=
  (u.wr R.CAP_SCONS_CONS ((u.rd R.CAP_SCONS_CONS + n) % max 1 (u.rd R.CAP_GEOM_DEPTH))).withCap (fun c => { c with total := c.total - n })

/-- Whether the ring of a stream holds rows for a sink (R394). -/
def U.streamHas (u : U) (sink : Bool) : Bool :=
  u.on R.CAP_CTL_SINK == sink && (u.capState == 4 || u.capState == 3) && u.cap.post == 0 && u.cap.total != 0

/-- The rows of a full frame (R395). -/
def U.streamMost (u : U) : Nat := max 1 (1456 / max 1 (u.rd R.CAP_GEOM_ROW16 * 16))

/-- A frame of so many rows sent on both ports of the pair (R395). -/
def U.streamOut (u : U) (n : Nat) : U :=
  let size := u.rd R.CAP_GEOM_ROW16 * 16
  let last := u.capState == 3 && u.cap.total == n
  let dest := (toBytes 2 (u.rd R.CAP_MAC_H_MAC_HI)).reverse ++ (toBytes 4 (u.rd R.CAP_MAC_L_MAC_LO)).reverse
  let tci := u.rd R.CAP_MAC_H_PCP * 8192 + u.rd R.CAP_MAC_H_VID
  let tag := if u.on R.CAP_MAC_H_TAG then [0x81, 0, tci / 256, tci % 256] else []
  let cons := u.rd R.CAP_SCONS_CONS
  let rows := (List.range n).flatMap (fun i => u.streamRowBytes ((cons + i) % max 1 (u.rd R.CAP_GEOM_DEPTH)))
  let body := tag ++ [0x88, 0xB5, 1, u.rd R.SYS_STRAP_UNIT_ID + 2 * b2n last] ++ toBytes 2 u.cap.seq ++ toBytes 2 size ++ toBytes 2 n ++
    List.replicate 8 0 ++ rows
  let own := fun p => (toBytes 6 (Config.portAddress p)).reverse
  let q := u.rd R.CAP_CTL_SINK_PAIR
  let u := u.ethSend q (dest ++ own (2 * q) ++ body) (dest ++ own (2 * q + 1) ++ body)
  ((u.streamTake n).withCap (fun c => { c with seq := (c.seq + 1) % 65536 })).inc R.CAP_CNT_FRAMES

/-- The stream engine sends a frame (R395): a full one, or at DONE what remains. -/
def U.streamFrame (u : U) (t : TimeBase) : U :=
  if !u.streamHas false || (u.capState = 4 && u.cap.total < u.streamMost) then u else
  let n := min u.streamMost u.cap.total
  u.reading t (u.streamSpans n) (fun u => u.streamOut n)

/-- A flash stream ends (R396). -/
def U.streamEnd (u : U) (t : TimeBase) : U :=
  let u := (u.withCap (fun c => { c with total := 0 })).raise t CAP.FLASH_END []
  if u.capState = 4 then u.capDone t else u

/-- A row of the stream written into flash, each sector erased before its first write (R396). -/
def U.streamStore (u : U) : U :=
  let size := u.rd R.CAP_GEOM_ROW16 * 16
  let at_ := u.cap.flash * size
  let base := u.rd R.CAP_FLASH_ADDR_ADDR * 65536
  let row := u.streamRowBytes (u.rd R.CAP_SCONS_CONS)
  let sectors := (List.range 2).map (fun k => (at_ + 65535) / 65536 + k)
  let flash := sectors.foldl (fun (f : Flash) s => if s * 65536 < at_ + size then f.erase (base + s * 65536) 65536 else f) u.flash
  ({ u with flash := Flash.program flash (base + at_) row }.streamTake 1).withCap (fun c => { c with flash := c.flash + 1 })

/-- Whether FLASH_LEN has no room for another row (R396). -/
def U.flashFull (u : U) : Bool :=
  decide ((u.cap.flash + 1) * (u.rd R.CAP_GEOM_ROW16 * 16) > u.rd R.CAP_FLASH_LEN_LEN * 65536)

/-- The stream engine writes a row into flash; the stream ends when FLASH_LEN is used up (R396). -/
def U.streamFlash (u : U) (t : TimeBase) : U :=
  if !u.streamHas true then u
  else if u.flashFull then u.streamEnd t
  else
    let u := u.reading t (u.streamSpans 1) U.streamStore
    if u.flashFull then u.streamEnd t else u

/-- A word of the unit's registers (R397). -/
def U.word (u : U) (addr : Nat) : Nat := u.regs.word (fieldsAt unitMap 0 addr)

/-- The image of a snapshot, as words by offset (R397). -/
def U.snpImage (u : U) (t : TimeBase) (latch : U) (seq src : Nat) : List (Nat × Nat) :=
  let head := [(0, t.ts64 % 2 ^ 32), (4, t.ts64 / 2 ^ 32), (8, t.dn), (12, seq), (16, src)]
  let arm := fun (a : Nat) => (List.range 8).map (fun k =>
    let reg := [0x400100030 + a * 0x10000, 0x400100034 + a * 0x10000, 0x400200040 + a * 0x10000, 0x400200044 + a * 0x10000,
      0x400200048 + a * 0x10000, 0x40020004C + a * 0x10000, 0x400200050 + a * 0x10000, 0x400300040 + a * 4].getD k 0
    (0x40 + a * 0x20 + 4 * k, u.word reg))
  let stat := [R.DEP_STATUS_AV_LATCHED.addr, R.DEP_FREEZE_DN.addr, R.TIM_DEP_CTL_STATE.addr,
    (R.LPE_GRP_DN_DN 0).addr, (R.LPE_GRP_DN_DN 1).addr, (R.LPE_GRP_DN_DN 2).addr]
  head ++ (List.range 12).flatMap arm ++ (List.range 32).map (fun p => (0x200 + 4 * p, u.rd (R.SNS_LAST_SAMPLE p))) ++
    (List.range 6).map (fun k => (0x280 + 4 * k, u.word (stat.getD k 0))) ++
    (List.range 1024).map (fun e => (0x1000 + 4 * e, enc 32 (latch.board e)))

/-- The snapshot sources of a handshake: a latch, or a refusal while a copy runs (R397, R398). -/
def U.snapshot (u : U) (t : TimeBase) (latch : U) : U :=
  let src := u.snp.fired
  if src = 0 then u else
  let u := { u with snp := { u.snp with fired := 0 } }
  if u.blockHeld 2 then u
  else if u.snp.image.isSome then
    let u := (u.inc R.SNP_LAST_BUSY_CNT).raise t SNP.SNP_BUSY []
    { u with snp := { u.snp with fired := 0 } }
  else
    let seq := (u.rd R.SNP_LAST_SEQ + 1) % 65536
    let u := (u.wr R.SNP_LAST_SEQ seq).wr R.SNP_LAST_SRC src
    let u := { u with snp := { u.snp with image := some (u.snpImage t latch seq src) } }
    if u.on R.CAP_CTL_TRIG_SNP then u.capTrigger 2 else u

/-- The sources of a snapshot that a boundary's row adds, in the one handshake: they join the snapshot already taken in it, `seen` whether
a source had fired by then and `took` whether the image was latched (R397, R398). A capture trigger that causes the snapshot is of the
same row as the trigger that the snapshot makes (R389). -/
def U.snapJoin (u : U) (t : TimeBase) (latch : U) (seen took : Bool) : U :=
  let late := u.snp.fired
  if late = 0 then u
  else if seen then
    let u := { u with snp := { u.snp with fired := 0 } }
    if !took then u else
    let src := u.rd R.SNP_LAST_SRC ||| late
    { u.wr R.SNP_LAST_SRC src with
      snp := { u.snp with image := u.snp.image.map (fun ws => ws.map (fun w => if w.1 = 16 then (16, src) else w)) } }
  else
    let free := u.snp.image.isNone
    let u := u.snapshot t latch
    if free && bitAt late 1 && u.on R.CAP_CTL_TRIG_SNP then
      (u.wr R.CAP_STATE_TRIG_CAUSE (setBit (u.rd R.CAP_STATE_TRIG_CAUSE) 2)).withCap (fun c => { c with due := clrBit c.due 2 })
    else u

/-- The snapshot and the row of a boundary, the last of its handshake: a trigger of the handshake is one of that row (R384, R389). -/
def U.snapAndRow (u : U) (t : TimeBase) (us : Nat) (latch : U) : U :=
  let seen := u.snp.fired != 0
  let took := seen && u.snp.image.isNone
  ((u.snapshot t latch).awake 82 (fun u => u.capRow t us latch)).snapJoin t latch seen took

/-- FIRE (R398). -/
def U.snpFire (u : U) : U := { u with snp := { u.snp with fired := setBit u.snp.fired 0 } }

/-- The timed snapshot at a boundary (R398). -/
def U.snpTimed (u : U) (dn : Nat) : U :=
  if u.on R.SNP_CTL_ON_DN && u.rd R.SNP_DN_DN = dn then
    { u.wr R.SNP_CTL_ON_DN 0 with snp := { u.snp with fired := setBit u.snp.fired 3 } }
  else u

/-- The image copied to SRAM (R397). -/
def U.snpCopied (u : U) : U :=
  match u.snp.image with
  | none => u
  | some ws =>
    let u := ws.foldl (fun (u : U) w => u.memPut (u.rd R.SNP_BASE_BASE * 8192 + w.1) (toBytes 4 w.2)) u
    { u with snp := { u.snp with image := none } }

/-- Whether GO of SNP_TCMD is taken (R399). An arm of ARMS that is not configured refuses nothing: it has no frames (log entry 125). -/
def U.tcmdOk (u : U) (t : TimeBase) : Bool :=
  let d := dnDiff (u.rd R.SNP_TCMD_DN_DN) t.dn
  let cmd := u.rd R.SNP_TCMD_CMD
  decide ((u.rd R.DEP_CTL_LEAD + 4 : Nat) ≤ d) && decide (d ≤ 65535) && !u.on R.SNP_TCMD_GO && (cmd == 1 || cmd == 2)

/-- GO of SNP_TCMD taken (R399). -/
def U.tcmdGo (u : U) : U := (u.wr R.SNP_TCMD_GO 1).wr R.SNP_TCMD_STAT_DONE 1

/-- GO of SNP_TCMD refused (R399). -/
def U.tcmdRej (u : U) (t : TimeBase) : U := (u.wr R.SNP_TCMD_STAT_REJ 1).raise t SNP.TCMD_REJ []

/-- The timed command stops being pending once the frames of TCMD_DN − 1 are frozen (R399). -/
def U.tcmdFrozen (u : U) (dn : Nat) : U :=
  if u.on R.SNP_TCMD_GO && (dn + 1) % 2 ^ 32 = u.rd R.SNP_TCMD_DN_DN then u.wr R.SNP_TCMD_GO 0 else u

end Sys2Proof.Machine
end

