-- ==== Sys2Proof/Machine/UnitLanes.lean ====
section
/-! DEFINITION. The hundred lanes of a central unit: Mainline to the hubs and Siding to the peer (R286 to R304). -/
namespace Sys2Proof.Machine

/-- What a lane is (R286, R287, R291). -/
def U.laneKind (u : U) (n : Nat) : LaneKind :=
  let id := u.rd R.SYS_STRAP_UNIT_ID
  if n < 96 then
    let h := n / 2
    ⟨laneBase n, true, [laneBase (2 * h), laneBase (2 * h + 1)], n % 2,
      fun w => w.role == 2 && w.group == id && (w.link == h || w.link == 255) && w.lanes == 2, ⟨id, 0, h, n % 2, 2⟩⟩
  else
    ⟨laneBase n, true, [96, 97, 98, 99].map laneBase, n - 96, fun w => w.role == 1 - id && w.lanes == 4, ⟨id, 0, 255, n - 96, 4⟩⟩

/-- A lane's cause (R303). -/
def lnsCause (n bit : Nat) : Cause := ⟨B.LNS n, bit, some (if bit < 2 then 1 else 0), if n < 96 then 128 + n / 2 else 176, false, 1⟩

/-- The lanes as the lane functions find them. -/
def U.laneIO (u : U) : LaneIO := ⟨u.regs, u.lanes, []⟩

/-- What the lanes of a link send after an event, where it has changed (R289). -/
def U.showLanes (u : U) (before : U) (n : Nat) : U :=
  (u.laneKind n).link.foldl (fun (u : U) b =>
    let m := (b - 0x400400000) / 0x1000
    let l := u.laneIO.line (u.laneKind m)
    if before.laneIO.line (before.laneKind m) = l then u else u.emit (.lane m l.1 l.2)) u

/-- A lane function run on lane `n`, its causes raised. -/
def U.onLane (u : U) (t : TimeBase) (n : Nat) (f : LaneIO → LaneIO) : U :=
  let io := f u.laneIO
  (io.raised.foldl (fun (u : U) e => u.raise t (lnsCause ((e.1 - 0x400400000) / 0x1000) e.2) [])
    { u with regs := io.regs, lanes := io.lanes }).showLanes u n

/-- Whether a received frame's check is spoiled by an injection on its lane (R304), which then counts as a check error. -/
def U.spoiled (u : U) (t : TimeBase) (n : Nat) : Bool × U :=
  let r := u.laneIO.injected (laneBase n)
  if r.1 then (true, u.onLane t n (fun io => (io.injected (laneBase n)).2.checkError (laneBase n) t.tns))
  else (false, u)

/-- A frame check on Siding, which its four lanes carry together: an injection on any of them spoils it (R286, R304). -/
def U.sidingSpoiled (u : U) (t : TimeBase) : Bool × U :=
  [96, 97, 98, 99].foldl (fun (r : Bool × U) n => let s := r.2.spoiled t n; (r.1 || s.1, s.2)) (false, u)

/-- A lane of a hub's link that is UP (R332). -/
def U.hubUp (u : U) (h : Nat) : Bool := u.laneUp (2 * h) || u.laneUp (2 * h + 1)

/-- What the unit's outputs put on its lines (R286 to R288). -/
def U.putLines (u : U) : U :=
  let items := u.serial.waiting u.out
  if items.isEmpty then { u with serial := { u.serial with seen := u.out.length } } else
  let s := u.draw
  let was := u.serial.tseq
  let v := items.foldl (fun (v : U) i =>
    let d := v.draw
    { d.2 with serial := d.2.serial.put u.laneIO u.laneKind was s.1 d.1 i }) s.2
  { v with serial := { v.serial with seen := u.out.length } }

/-- One µs of every locked checker (R297). -/
def U.prbsTime (u : U) : U :=
  { u with regs := ((List.range 100).foldl (fun (io : LaneIO) n => io.prbsTime (laneBase n)) u.laneIO).regs }

end Sys2Proof.Machine
end

