-- ==== Sys2Proof/Machine/LinkEngine.lean ====
section
/-! DEFINITION. The Mainline link engine: reports, hub messages, the point service and the configuration of cells (R28, R325, R333,
R329 to R331, R343 to R347, R352 to R356, R541, R564, R567). -/
namespace Sys2Proof.Machine

namespace MLK
def REC_BAD (h : Nat) : Cause := ⟨B.MLK, 0, some 0, 128 + h, false, 1⟩
def UNREACH (h : Nat) : Cause := ⟨B.MLK, 1, some 1, 128 + h, false, 1⟩
def REJOIN (h : Nat) : Cause := ⟨B.MLK, 2, none, 128 + h, false, 1⟩
def PTS_FAIL (h : Nat) : Cause := ⟨B.MLK, 3, some 0, 128 + h, false, 1⟩
def LEAD_FAIL (h : Nat) : Cause := ⟨B.MLK, 4, some 1, 128 + h, false, 1⟩
def LEAD_NEG (h : Nat) : Cause := ⟨B.MLK, 5, some 2, 128 + h, true, 1⟩
/-- The detail of an MLK record: the hub, and the cell where one is concerned. -/
def det (h cid : Nat) : List (Nat × Nat × Nat) := [(8, 6, h), (16, 15, cid)]
end MLK

/-- The link engine beside its registers replaced. -/
def U.withMlk (u : U) (f : Mlk → Mlk) : U := { u with mlk := f u.mlk }
/-- The link to a hub. -/
def U.link (u : U) (h : Nat) : HubLink := u.mlk.hubs.get h HubLink.zero
/-- The link to a hub replaced. -/
def U.onLink (u : U) (h : Nat) (f : HubLink → HubLink) : U := u.withMlk (fun m => { m with hubs := m.hubs.set h (f (u.link h)) })
/-- UNIT of this unit. -/
def U.unitB (u : U) : Nat := u.rd R.SYS_STRAP_UNIT_ID

/-- A hub-to-unit frame or a report discarded (R333). -/
def U.recBad (u : U) (t : TimeBase) (h : Nat) : U := (u.inc (R.MLK_HUB_ERR_REC_BAD h)).raise t (MLK.REC_BAD h) (MLK.det h 0)

/-- An entry for the ORDER frames to a hub (R329): a mailbox for a loop, or for the hub's management core. -/
def U.post (u : U) (h : Nat) (hubMgt : Bool) (loop : Nat) (o : List Nat) : U :=
  u.withMlk (fun m => { m with out := m.out.set h (m.out.get h [] ++ [(loop % 64 + 64 * b2n hubMgt, mailbox o)]) })

/-- What stands on a lane's blocks is received: its invalid sync headers counted (R289, R301). A lane in a near-end loopback receives
nothing but what it sent itself (R298). -/
def U.hears (u : U) (t : TimeBase) (n : Nat) (blocks : List Block) : Bool × U :=
  if u.laneIO.looped (laneBase n) && !u.out.contains (.mainline n blocks) then (false, u)
  else
    let u := u.onLane t n (fun io => io.headerErrors (laneBase n) (blocks.map (fun b => b.1)))
    (u.laneUp n, u)

/-- A hub-to-unit frame received on a Mainline lane that is UP: its bytes where its check passes; otherwise it is discarded with REC_BAD,
and the failed check counts on its lane (R300, R304, R326, R333). -/
def U.hubFrame (u : U) (t : TimeBase) (lane : Nat) (blocks : List Block) : Option (List Nat) × U :=
  if lane ≥ 96 then (none, u) else
  let r := u.hears t lane blocks
  let u := r.2
  if !r.1 then (none, u) else
  let sp := u.spoiled t lane
  match sp.1, readBlocks blocks with
  | false, some b => (some b, sp.2)
  | true, _ => (none, sp.2.recBad t (lane / 2))
  | false, none => (none, (sp.2.onLane t lane (fun io => io.checkError (laneBase lane) t.tns)).recBad t (lane / 2))

/-- A report of a hub's loop at a position, queued to its arm engine or discarded (R333); REPORTS counts those that find room (R64, R347). -/
def U.reportRx (u : U) (t : TimeBase) (h l : Nat) (e : Nat × List Nat) : U :=
  let r := e.2
  let cid := mkCid h (l % 64) (e.1 % 8)
  if r.length ≠ 16 || r.getD 15 0 ≠ crc8 0x2F 0xFF (r.take 15) || !u.topo.valid cid then u.recBad t h
  else (if u.queueFull (cidArm cid) then u else u.inc (R.MLK_HUB_RPT_REPORTS h)).queueReport t cid r

/-- A LOOP frame received (R331, R333). -/
def U.loopFrame (u : U) (t : TimeBase) (lane : Nat) (blocks : List Block) : U :=
  match u.hubFrame t lane blocks with
  | (some b, u) => if isMsg b 2 then (readLoop b).foldl (fun (u : U) e => u.reportRx t (lane / 2) (octet b 1) e) u else u
  | (none, u) => u

/-- The lead margin of a hub in 1/16 ns (R28, R356). -/
def U.margin16 (u : U) (df dl : Nat) : Int := (u.rd R.DEP_CTL_LEAD * 16000 : Nat) - (16000 + df + 1600 + dl + 1600 : Nat)

/-- A PATH received (R28, R355, R356). Margins are kept in 1/16 ns until a reset of this unit or of MLK (log entry 124). -/
def U.pathRx (u : U) (t : TimeBase) (h dlyA dlyB dlMax : Nat) : U :=
  let valid := [dlyA, dlyB].filter (fun d => d != 0xFFFFFFFF)
  if h ≥ 48 || valid.isEmpty then u else
  let d := valid.foldl max 0
  let u := u.onLink h (fun k => { k with tw := (d + 1600 + 63) / 64 })
  let m := u.margin16 d dlMax
  let before := Tbl.find? u.leads h
  let neg := decide (m < 0)
  let falls := neg && (match before with
    | some b => decide (0 ≤ b)
    | none => true)
  let u := { u with leads := u.leads.set h m }
  let u := ((u.wr (R.MLK_HUB_LEAD_MARGIN h) (enc 16 (satS 16 (rdiv m 16)))).wr (R.MLK_HUB_LEAD_VALID h) 1).put (R.MLK_HUB_LEAD_NEG h) neg
  let u := if !falls then u
    else if u.on R.DEP_CTL_CONV_EN then (u.raise t (MLK.LEAD_NEG h) (MLK.det h 0)).onLink h (fun k => { k with neg := true })
    else u.raise t (MLK.LEAD_FAIL h) (MLK.det h 0)
  if neg then u else
  let u := u.onLink h (fun k => { k with neg := false })
  if u.mlk.hubs.any (fun e => e.2.neg) then u else u.endLasting t (MLK.LEAD_NEG h)

/-- The flags of the frames to a hub, for its arm (R309, R329). -/
def U.orderFlags (u : U) (o : OrderSet) : OrderFlags := ⟨o.avl, o.avClr, o.held, u.rd R.SDL_ROLE_ROLE == 3, u.unitB == 1⟩

/-- The ORDER frame of a hub for an order set (R329). -/
def U.orderFrame (u : U) (h dn resid : Nat) (o : OrderSet) (entries : List OrderEntry) : OrderFrame :=
  let tc := u.tcmd (h / 4)
  let pos := List.range 8
  { flags := u.orderFlags o, dn := dn, residM := resid, hub := h,
    trimCid := (o.trim.map (fun d => d.cid + b2n d.neg * 32768)).getD 0, trimDuty := (o.trim.map (fun d => d.duty)).getD 0,
    tcmd := tc.1, tcmdDn := tc.2,
    states := (List.range 64).map (fun l => pos.foldl (fun w p => w + o.code (mkCid h l p) * 16 ^ p) 0),
    grants := (List.range 64).map (fun l => pos.foldl (fun w p => w + b2n (o.grants.contains (mkCid h l p)) * 2 ^ p) 0),
    entries := entries }

/-- The set frozen for a hub's arm and a departure. -/
def U.frozenFor (u : U) (h dn : Nat) : OrderSet := (u.orderSet (h / 4) dn).getD (OrderSet.block false false false)

/-- A frame sent on both lanes of a hub, where they are UP (R330). -/
def U.sendHub (u : U) (h : Nat) (f : List Nat) : U :=
  [2 * h, 2 * h + 1].foldl (fun (u : U) n => if u.laneUp n then u.emit (.mainline n (sendBlocks f)) else u) u

/-- The HUB_SET that the ORDER frame for `dn` carries to a hub: after the link has come UP, and when a value has changed (R355). -/
def U.hubSet (u : U) (dn h : Nat) : List (Nat × List Nat) × U :=
  let k := u.link h
  let lead := u.rd R.DEP_CTL_LEAD
  let sizes := u.topo.loops.get h []
  if k.sent = some (lead, k.tw, sizes) then ([], u)
  else ([(64, (HubSet.bytes ⟨k.seq, (dn + 2) % 2 ^ 32, lead, k.tw, sizes⟩))],
    u.onLink h (fun k => { k with sent := some (lead, k.tw, sizes), seq := (k.seq + 1) % 256 }))

/-- The DLY_ECHO of a ping, in the first ORDER frame whose START block, at `t3`, leaves at least 500 ns after the ping's arrived (R352). -/
def U.delayEcho (u : U) (t3 h : Nat) : List (Nat × List Nat) × U :=
  match (u.link h).echo with
  | none => ([], u)
  | some (seq, t1, t2) =>
    if tsDiff t3 t2 < 8000 then ([], u)
    else ([(64, mailbox ([0x87, seq] ++ zeros 6 ++ toBytes 8 t1 ++ toBytes 8 t2 ++ toBytes 8 t3))],
      u.onLink h (fun k => { k with echo := none }))

/-- The ORDER frame of a boundary to one hub (R329, R330): the START block leaves at the first block boundary, RESID_M after the departure
boundary `b`, in full µs; up to 8 entries go with it, the engine's own first. While the link is down nothing is sent, and the entries
wait. -/
def U.orderHub (u : U) (b h : Nat) : U :=
  if !u.hubUp h then u.onLink h (fun k => { k with up := false, sent := none }) else
  let u := u.onLink h (fun k => { k with up := true })
  let dn := (b + u.rd R.DEP_CTL_LEAD) % 2 ^ 32
  let d := u.draw
  let resid := d.1 % 41
  let s := d.2.hubSet dn h
  let e := s.2.delayEcho ((b * 16000 + resid) % 2 ^ 64) h
  let own := s.1 ++ e.1
  let wait := e.2.mlk.out.get h []
  let now := own ++ wait.take (8 - own.length)
  let rest := wait.drop (8 - own.length)
  let u := e.2.withMlk (fun m => { m with out := if rest.isEmpty then Tbl.erase m.out h else m.out.set h rest })
  u.sendHub h (u.orderFrame h dn resid (u.frozenFor h dn) (now.map (fun x => ⟨bitAt x.1 6, x.1 % 64, x.2⟩))).bytes

/-- The ORDER frames of a boundary, hub by hub (R330). A link that is not UP is to get a HUB_SET when it has come UP, also where the unit
sends nothing meanwhile (R355). -/
def U.mlkBoundary (u : U) (b : Nat) : U :=
  let sends := u.sending && u.rd R.TIM_DEP_CTL_STATE == 2
  u.topo.hubs.foldl (fun (u : U) h =>
    if sends then u.orderHub b h
    else if u.hubUp h then u else u.onLink h (fun k => { k with up := false, sent := none })) u

/-- The TIME frames of the ACTIVE unit, behind the ORDER frames of the boundary (R46, R331). -/
def U.timeFrame (u : U) (us : Nat) : U :=
  if u.rd R.SDL_ROLE_ROLE = 3 && u.rd R.TIM_DEP_CTL_STATE = 2 && us % 2 ^ 32 % 1024 = 0 then
    u.topo.hubs.foldl (fun (u : U) h =>
      u.sendHub h (timeBytes (u.orderFlags (u.frozenFor h ((us + u.rd R.DEP_CTL_LEAD) % 2 ^ 32))) (us % 2 ^ 32)
        (u.rd R.TIM_CTL_TIME_STATE) (us * 16000 % 2 ^ 64) (us * 16000 / 2 ^ 64 % 65536))) u
  else u

/-- Room in the completion ring (R344). -/
def U.roomPc (u : U) : Bool :=
  let n := u.rd R.MLK_PC_SIZE_SIZE
  decide (n ≥ 2) && (u.rd R.MLK_PC_PROD_PROD + 1) % n != u.rd R.MLK_PC_CONS_CONS

/-- A request completed: it waits for its place in the completion ring (R344). -/
def U.complete (u : U) (t : TimeBase) (octets : List Nat) (idx : Nat) : U :=
  u.withMlk (fun m => { m with ready := m.ready ++ [(octets.take 64, idx, t.dn)] })

/-- A completion written (R344). -/
def U.completionWrite (u : U) : U :=
  match u.mlk.ready with
  | [] => u
  | (o, idx, dn) :: rest =>
    if !u.roomPc then u else
    let p := u.rd R.MLK_PC_PROD_PROD
    let a := u.rd R.MLK_PC_BASE_BASE * 128 + p * 128
    let e := mailbox o ++ toBytes 4 idx ++ toBytes 4 dn ++ List.replicate 56 0
    ((u.memPut a e).withMlk (fun m => { m with ready := rest })).wr R.MLK_PC_PROD_PROD
      ((p + 1) % u.rd R.MLK_PC_SIZE_SIZE)

/-- STATUS set in a mailbox of a request (R337, R344, R565): byte 4 [3:0], or byte 5 of an update request. -/
def withStatus (o : List Nat) (st : Nat) : List Nat :=
  if o.headD 0 = 0x20 then o.set 5 st else o.set 4 (o.getD 4 0 / 16 * 16 + st)

/-- A request of the ring sent with its TAG, UNIT and ATT (R343, R345). -/
def U.sendRequest (u : U) (t : TimeBase) (key : Nat) (q : PtReq) : U :=
  let o := ((q.octets.set 1 q.tag).set 3 (q.octets.getD 3 0 % 128 + 128 * u.unitB)).set 4 (q.octets.getD 4 0 % 16 + 16 * q.att)
  (u.withMlk (fun m => { m with reqs := m.reqs.set key { q with octets := o, dn := t.dn } })).post (key / 64) false (key % 64) o

/-- CONS advanced over the entries taken (R343). -/
def U.advancePq (u : U) : Nat → U
  | 0 => u
  | n + 1 =>
    let c := u.rd R.MLK_PQ_CONS_CONS
    if !u.mlk.taken.contains c then u else
    U.advancePq ((u.withMlk (fun m => { m with taken := m.taken.filter (· != c) })).wr R.MLK_PQ_CONS_CONS
      ((c + 1) % u.rd R.MLK_PQ_SIZE_SIZE)) n

/-- The entries of the request ring that have not been taken, in ring order. -/
def U.pqEntries (u : U) : List Nat :=
  let n := u.rd R.MLK_PQ_SIZE_SIZE
  let c := u.rd R.MLK_PQ_CONS_CONS
  let p := u.rd R.MLK_PQ_PROD_PROD
  if n < 2 then [] else
  ((List.range ((p + n - c) % n)).map (fun i => (c + i) % n)).filter (fun i => !u.mlk.taken.contains i)

/-- The octets of a request entry. -/
def U.pqOctets (u : U) (i : Nat) : List Nat := u.mem.readBytes (u.rd R.MLK_PQ_BASE_BASE * 128 + i * 64) 64

/-- The CID of a mailbox addressed to a cell. -/
def mailCid (o : List Nat) : Nat := ofBytes ((o.drop 2).take 2) % 32768
/-- The key of a CID's loop. -/
def loopKey (cid : Nat) : Nat := cidHub cid * 64 + cidLoop cid

/-- Whether an entry can go now: refused at once, or its loop has nothing outstanding. -/
def U.pqReady (u : U) (i : Nat) : Bool :=
  let o := u.pqOctets i
  !u.topo.valid (mailCid o) || !(o.headD 0 == 2 || o.headD 0 == 0x20) || (Tbl.find? u.mlk.reqs (loopKey (mailCid o))).isNone

/-- PENDING of a hub follows the requests outstanding. -/
def U.showPending (u : U) (h : Nat) : U :=
  u.wr (R.MLK_HUB_PEND_PENDING h) (u.mlk.reqs.filter (fun e => e.1 / 64 == h)).length

/-- The first entry of the request ring that can go now taken (R343, R344). -/
def U.requestTake (u : U) (t : TimeBase) : U :=
  match u.pqEntries.find? u.pqReady with
  | none => u
  | some i =>
    let o := u.pqOctets i
    let cid := mailCid o
    let key := loopKey cid
    let u := (u.withMlk (fun m => { m with taken := m.taken ++ [i] })).advancePq 4096
    if !u.topo.valid cid || !(o.headD 0 == 2 || o.headD 0 == 0x20) then u.complete t (withStatus o 6) i
    else
      let tag := u.mlk.tags.get key 0
      let u := u.withMlk (fun m => { m with tags := m.tags.set key ((tag + 1) % 256) })
      (u.sendRequest t key ⟨i, o, tag, 0, t.dn⟩).showPending (key / 64)

/-- MLK takes the next request of the ring (R343, R344). -/
def U.requestSend (u : U) (t : TimeBase) : U :=
  if !u.on R.MLK_CTL_PTS_EN || (!u.mlk.ready.isEmpty && !u.roomPc) then u
  else u.reading t (u.pqEntries.map (fun i => (u.rd R.MLK_PQ_BASE_BASE * 128 + i * 64, 64))) (fun u => u.requestTake t)

/-- PTS_TMO departures without a response on a loop (R345). -/
def U.retryTimeout (u : U) (t : TimeBase) (h l : Nat) : U :=
  let key := h * 64 + l % 64
  match Tbl.find? u.mlk.reqs key with
  | none => u
  | some q =>
    if dnDiff t.dn q.dn < (u.rd R.MLK_CTL_PTS_TMO : Int) then u
    else if q.att < u.rd R.MLK_CTL_RETRY then
      (u.inc (R.MLK_HUB_PTS_RETRIES h)).sendRequest t key { q with att := q.att + 1 }
    else
      let u := u.withMlk (fun m => { m with reqs := Tbl.erase m.reqs key })
      let u := ((u.showPending h).inc (R.MLK_HUB_PTS_FAILS h)).complete t (withStatus q.octets 5) q.idx
      u.raise t (MLK.PTS_FAIL h) (MLK.det h (mailCid q.octets))

/-- A response received (R344, R345). -/
def U.pointResponse (u : U) (t : TimeBase) (h : Nat) (o : List Nat) : U :=
  let cid := mailCid o
  let key := loopKey cid
  let mine := o.getD 3 0 / 128 == u.unitB
  match Tbl.find? u.mlk.reqs key with
  | some q =>
    if mine && q.tag = o.getD 1 0 && mailCid q.octets = cid && o.headD 0 = q.octets.headD 0 + 1 then
      ((u.withMlk (fun m => { m with reqs := Tbl.erase m.reqs key })).showPending (key / 64)).complete t o q.idx
    else u.inc (R.MLK_HUB_ERR_STRAY h)
  | none => u.inc (R.MLK_HUB_ERR_STRAY h)

/-- The blocks of a cell's configuration set (R541). -/
def cfgBlocks (unitB tag cid : Nat) (s : List (Nat × Nat)) : List (List Nat) :=
  let n := (s.length + 8) / 9
  let head := fun (k : Nat) => [0x10, tag] ++ toBytes 2 (cid + 32768 * unitB) ++ [k, n + 1, 0, 0]
  (List.range n).map (fun k => mailbox (head k ++ setBytes ((s.drop (9 * k)).take 9))) ++
    [mailbox (head n ++ toBytes 32 (Config.shake256 (setBytes s)))]

/-- A cell's whole configuration set sent with a new TAG (R541). -/
def U.sendConfig (u : U) (t : TimeBase) (cid tries : Nat) : U :=
  match u.cellOf cid with
  | none => u
  | some e =>
    let tag := u.mlk.tag
    let u := u.withMlk (fun m => { m with tag := (tag + 1) % 256, cfg := m.cfg.set cid ⟨tag, tries, t.dn⟩ })
    (cfgBlocks u.unitB tag cid e.2.set).foldl (fun (u : U) o => u.post (cidHub cid) false (cidLoop cid) o) u

/-- The acknowledge of a configuration set (R541). -/
def U.configAnswer (u : U) (o : List Nat) : U :=
  let cid := mailCid o
  match Tbl.find? u.mlk.cfg cid with
  | some c =>
    if o.getD 3 0 / 128 = u.unitB && c.tag = o.getD 1 0 && o.getD 4 0 = 0 then
      u.withMlk (fun m => { m with cfg := Tbl.erase m.cfg cid, ok := m.ok.filter (· != cid) ++ [cid] })
    else u
  | none => u

/-- No OK answer within 64 departures (R541). -/
def U.configResend (u : U) (t : TimeBase) (cid : Nat) : U :=
  match Tbl.find? u.mlk.cfg cid with
  | some c =>
    if dnDiff t.dn c.dn < 64 then u
    else if c.tries < 3 then u.sendConfig t cid (c.tries + 1)
    else u.withMlk (fun m => { m with cfg := Tbl.erase m.cfg cid })
  | none => u

/-- A DLY_PING received (R352). -/
def U.pingRx (u : U) (h arr : Nat) (o : List Nat) : U :=
  u.onLink h (fun k => { k with echo := some (o.getD 1 0, ofBytes ((o.drop 8).take 8), arr) })

/-- A MAIL frame received (R331, R333): the messages that have a command of their own act with it. -/
def U.mailRx (u : U) (t : TimeBase) (lane arr : Nat) (blocks : List Block) : U :=
  match u.hubFrame t lane blocks with
  | (none, u) => u
  | (some b, u) =>
    let h := lane / 2
    let o := (b.drop 7).take 64
    if !isMsg b 5 then u
    else if bitAt (octet b 1) 6 then
      (if isMsg o 0x86 then u.pingRx h arr o else if isMsg o 0x8B then u.emit (.toFirmware h o) else u)
    else if isMsg o 0x11 then u.configAnswer o
    else u

end Sys2Proof.Machine
end

