-- ==== Sys2Proof/Machine/SignalBox.lean ====
section
/-! DEFINITION. The signal box: lines, heartbeat, configuration, glacier timer and board entries, readback and test
pulses, clearing (R459 to R486, R608, R609). -/
namespace Sys2Proof.Machine

/-- The signal box's state beside its registers replaced. -/
def U.withSbx (u : U) (f : Sbx → Sbx) : U := { u with sbx := f u.sbx }

/-- Word `20 + j` of the configuration: hard-wired input j (R480), in level mode and active high until the lock (R608). -/
def U.hwCfg (u : U) (j : Nat) : Nat := if u.sbxLocked then u.sbxWord (20 + j) else 0

/-- HB_MIN and HB_MAX in ticks of 25 ns (R472, R480). -/
def U.hbWindow (u : U) : Nat × Nat := (bits (u.sbxWord 36) 0 16 * 40, bits (u.sbxWord 36) 16 16 * 40)

/-- The state of a line at its source now (R468, R469, R608): a line whose block is in reset reads asserted. -/
def U.lineNow (u : U) (n : Nat) : Bool :=
  if n < 16 then
    if bitAt (u.hwCfg n) 1 then bitAt u.sbx.alvOut n else bitAt u.sbx.hw n != bitAt (u.hwCfg n) 0
  else if n < 147 && u.blockHeld (if n < 115 then 50 else 51) then true
  else if n < 80 then
    let p := (n - 16) / 2
    let k := (n - 16) % 2
    u.on (R.SNS_THR_CFG_SB_EN p k) && (if k = 0 then u.on (R.SNS_PSTAT_TRIP0 p) else u.on (R.SNS_PSTAT_TRIP1 p))
  else if n < 112 then u.rd (R.SNS_PSTAT_STATE (n - 80)) = 4
  else if n < 115 then
    let m := n - 112
    u.on (R.SNS_SEQ_CFG_EN m) && u.on (R.SNS_SEQ_STAT_ORDER_VALID m) &&
      u.rd (R.SNS_SEQ_STAT_ORDER m) != u.rd (R.SNS_SEQ_CFG_EXP_ORDER m)
  else if n < 147 then u.on (R.GO_CFG_SB_EN (n - 115)) && u.on (R.GO_STAT_TRIP (n - 115))
  else if n = 147 then u.sbxLocked && decide (u.sbx.peerMiss ≥ bits (u.sbxWord 38) 18 8)
  else if n = 148 then u.sbxLocked && u.on R.SBX_STATE_PEER_TRIP
  else false

/-- A line sampled as deasserted or asserted. -/
def U.setLine (u : U) (n : Nat) (a : Bool) : U :=
  let w := u.rd (R.SBX_LINES_LINE (n / 32))
  u.wr (R.SBX_LINES_LINE (n / 32)) (if a then setBit w (n % 32) else clrBit w (n % 32))

/-- What an assertion of a line does (R470). -/
def U.lineActs (u : U) (t : TimeBase) (n : Nat) : U :=
  match u.lineAction n with
  | 1 => u.raise t SBX.LINE_ALARM []
  | 2 => u.raise t SBX.LINE_DEGRADE []
  | 3 => u.raise t SBX.TRIP_LINE []
  | _ => u

/-- A line sampled at a tick (R468, R470), unless the box is in reset (R466). -/
def U.sampleLine (u : U) (t : TimeBase) (n : Nat) : U :=
  let a := u.lineNow n
  if a = u.line n || !u.sbx.supply then u else
  let u := u.setLine n a
  if a then u.lineActs t n
  else if (List.range 149).any (fun m => u.line m && u.lineAction m == 2) then u
  else u.endLasting t SBX.LINE_DEGRADE

/-- The signal box at work: in reset it does nothing (R466, R593). -/
def U.box (u : U) (f : U → U) : U := if u.sbx.supply then f u else u

/-- A line changing (R468, R469): of a box in reset the filter alone follows. For a hard-wired input `level` is its filtered level; a change of level takes an
alive-mode input back to deasserted. -/
def U.lineChange (u : U) (t : TimeBase) (n : Nat) (level : Bool) : U :=
  let u := if n < 16 && bitAt u.sbx.hw n != level then
      u.withSbx (fun s => { s with
        hw := if level then setBit s.hw n else clrBit s.hw n
        alvOut := clrBit s.alvOut n })
    else u
  if n < 149 then u.sampleLine t n else u

/-- An alive-mode input without a change for ALV_MAX (R469). -/
def U.aliveTimeout (u : U) (t : TimeBase) (j : Nat) : U :=
  if j < 16 && u.sbxLocked && bitAt (u.hwCfg j) 1 then
    (u.withSbx (fun s => { s with alvOut := setBit s.alvOut j })).sampleLine t j
  else u

/-- The heartbeat lost (R464, R472). -/
def U.hbLost (u : U) (t : TimeBase) : U :=
  let u := (u.wr R.SBX_STATE_HB 2).wr R.SBX_HS_HS 0
  ((u.withSbx (fun s => { s with hbPair := none })).permits).raise t SBX.HB_LOST []

/-- The heartbeat back to OK with a write at a tick. -/
def U.hbOk (u : U) (tick next : Nat) : U :=
  ((u.wr R.SBX_STATE_HB 1).withSbx (fun s => { s with hbLast := tick, hbToken := next, hbPair := none })).permits

/-- A write of SBX_HEART at a tick of the signal box's clock (R472, R608). -/
def U.heart (u : U) (t : TimeBase) (token tick : Nat) : U :=
  if !u.sbxLocked then u else
  let w := u.hbWindow
  match u.rd R.SBX_STATE_HB with
  | 0 => if token = 0x5A then u.hbOk tick 0xA5 else u
  | 1 =>
    if token = u.sbx.hbToken && decide (u.sbx.hbLast + w.1 ≤ tick) && decide (tick < u.sbx.hbLast + w.2)
    then u.hbOk tick (if token = 0x5A then 0xA5 else 0x5A) else u.hbLost t
  | _ =>
    match u.sbx.hbPair with
    | none => if token = 0x5A then u.withSbx (fun s => { s with hbPair := some tick }) else u
    | some t1 =>
      if token = 0xA5 && decide (t1 + w.1 ≤ tick) && decide (tick < t1 + w.2) then u.hbOk tick 0x5A
      else u.withSbx (fun s => { s with hbPair := none })

/-- The end of the heartbeat window without a write (R472). -/
def U.heartEnd (u : U) (t : TimeBase) : U :=
  if !u.sbxLocked then u
  else if u.rd R.SBX_STATE_HB = 1 then u.hbLost t
  else u.withSbx (fun s => { s with hbPair := none })

/-- A write of SBX_HS (R464). -/
def U.hsWrite (u : U) (v : Nat) : U := (u.wr R.SBX_HS_HS v).permits

/-- A word written to SBX_CFG_LOAD (R481). -/
def U.cfgLoad (u : U) (v : Nat) : U :=
  if u.rd R.SBX_STATE_CFG < 2 then
    let n := u.rd R.SBX_CFG_CTL_WORDS
    let u := (u.wr R.SBX_STATE_CFG 1).wr R.SBX_CFG_CTL_WORDS (min 127 (n + 1))
    if n < 64 then u.withSbx (fun s => { s with cfg := s.cfg ++ [v % 2 ^ 32] }) else u
  else u

/-- START (R481): the words discarded. -/
def U.cfgStart (u : U) : U :=
  if u.sbxLocked then u
  else ((u.wr R.SBX_STATE_CFG 0).wr R.SBX_CFG_CTL_WORDS 0).withSbx (fun s => { s with cfg := [] })

/-- The check of LOCK (R480, R482). -/
def sbxCfgOk (count : Nat) (c : List Nat) : Bool :=
  let w := fun n => c.getD n 0
  let within := fun (x lo hi : Nat) => decide (lo ≤ x) && decide (x ≤ hi)
  decide (count = 64) && decide (w 0 = 0x5B0C0001) && decide (w 1 = 64) &&
  (List.range 8).all (fun k => decide (w (2 + k) < 16)) &&
  (List.range 11).all (fun i => decide (bits (w 19) (2 * (i + 5)) 2 = 0)) &&
  (List.range 16).all (fun j => decide (bits (w (20 + j)) 26 6 = 0) &&
    (!bitAt (w (20 + j)) 1 || within (bits (w (20 + j)) 10 16) 600 65535)) &&
  within (bits (w 36) 0 16) 0 65534 && within (bits (w 36) 16 16) 10 65535 &&
  decide (bits (w 36) 0 16 < bits (w 36) 16 16) &&
  within (bits (w 37) 16 10) 1 1000 && within (bits (w 37) 26 6) 1 60 &&
  within (bits (w 38) 0 9) 50 500 && within (bits (w 38) 9 9) 10 400 && decide (bits (w 38) 9 9 < bits (w 38) 0 9) &&
  within (bits (w 38) 18 8) 1 255 && decide (bits (w 38) 26 6 = 0) &&
  (List.range 24).all (fun i => decide (w (39 + i) = 0)) &&
  decide (w 63 = crc32c ((c.take 63).flatMap (toBytes 4)))

/-- The configuration locked (R480, R608, R609): the channel settings taken, every asserted line acting as though
asserted now, their causes in ascending cause bit (R446): trips, DEGRADE, ALARM. -/
def U.cfgLocked (u : U) (t : TimeBase) : U :=
  let u := (u.wr R.SBX_STATE_CFG 2).wr R.SBX_CFG_CTL_LOCK 1
  let u := u.each (List.range 8) (fun u k =>
    let w := u.sbxWord (2 + k)
    ((u.wr (R.SBX_CH_ROLE k) (bits w 0 2)).wr (R.SBX_CH_TRIP k) (bits w 2 1)).wr (R.SBX_CH_TEST k) (bits w 3 1))
  let u := (u.wr R.SBX_STATE_HB 0).wr R.SBX_GLACIER_GL_TIME 0
  let u := u.withSbx (fun s => { s with
    peerMiss := 0, glUs := 0, glExp := false, rampAt := none, rampFrom := 65536, frac250 := 65536, alvOut := 0 })
  let u := u.permits
  let u := u.each (List.range 149) (fun u n => u.setLine n (u.lineNow n))
  let u := u.each [3, 2, 1] (fun u a => u.each (List.range 149) (fun u n => if u.line n && u.lineAction n == a then u.lineActs t n else u))
  u.glacier t

/-- LOCK (R481, R482). -/
def U.cfgLock (u : U) (t : TimeBase) : U :=
  match u.rd R.SBX_STATE_CFG with
  | 2 => u
  | 1 => if sbxCfgOk (u.rd R.SBX_CFG_CTL_WORDS) u.sbx.cfg then u.cfgLocked t
      else (u.wr R.SBX_STATE_CFG 3).raise t SBX.CFG_BAD []
  | _ => (u.wr R.SBX_STATE_CFG 3).raise t SBX.CFG_BAD []

/-- CLEAR (R483). -/
def U.sbxClear (u : U) (t : TimeBase) (key : Nat) : U :=
  if key = 0xC1EA && u.rd R.DEP_CTL_CONV_EN = 0 && u.tripLine.isNone && u.rd R.SBX_STATE_HB = 1 &&
      u.rd R.SBX_STATE_GL_ACTIVE = 0 && !u.anyOpen3 then
    (((u.wr R.SBX_STATE_TRIPPED 0).wr R.SBX_STATE_AV_OUT 0).withSbx
      (fun s => { s with rbFault := 0, rbCnt := [] })).permits
  else u.raise t SBX.CLR_REJ []

/-- FT_CLR (R484). -/
def U.ftClear (u : U) (t : TimeBase) (key : Nat) : U :=
  if key = 0xC1EA && u.rd R.SBX_STATE_TRIPPED = 0 && u.rd R.SBX_STATE_GL_ACTIVE = 0 then
    { u with regs := Regs.resetRange u.regs 0x400540040 0x400540050 }
  else u.raise t SBX.CLR_REJ []

/-- GLACIER_MAX in ms (R476, R480). -/
def U.glacierMax (u : U) : Nat := bits (u.sbxWord 37) 26 6 * 1000

/-- The glacier timer reaching its limit (R476): nothing before the last µs of it. -/
def U.glacierExpire (u : U) (t : TimeBase) : U :=
  if u.sbxLocked && u.on R.SBX_STATE_GL_ACTIVE && !u.sbx.glExp && decide (u.sbx.glUs + 1 ≥ u.glacierMax * 1000) then
    let u := (u.wr R.SBX_GLACIER_GL_TIME u.glacierMax).withSbx (fun s => { s with glExp := true })
    u.raise t SBX.GL_EXPIRE []
  else u

/-- The glacier timer back to 0 (R476). -/
def U.glacierReset (u : U) : U :=
  if u.on R.SBX_STATE_GL_ACTIVE then u
  else (u.wr R.SBX_GLACIER_GL_TIME 0).withSbx (fun s => { s with glUs := 0, glExp := false })

/-- The glacier timer over one µs of nominal clock (R476; log entry 14); the one that takes it to its limit raises GL_EXPIRE. -/
def U.glacierCount (u : U) (t : TimeBase) : U :=
  if u.sbxLocked && u.on R.SBX_STATE_GL_ACTIVE && !u.sbx.glExp then
    if u.sbx.glUs + 1 ≥ u.glacierMax * 1000 then u.glacierExpire t
    else (u.withSbx (fun s => { s with glUs := s.glUs + 1 })).wr R.SBX_GLACIER_GL_TIME ((u.sbx.glUs + 1) / 1000)
  else u

/-- Board entries 249 and 250 at the 10 µs boundary at `us` (R475, R608): a box in reset writes neither (R466). -/
def U.glacierBoard (u : U) (us : Nat) : U :=
  if !u.sbx.supply then u else
  let u := u.wr (R.LPE_BOARD_VALUE 249) (if u.on R.SBX_STATE_GL_ACTIVE then 65536 else 0)
  if !u.sbxLocked then u.wr (R.LPE_BOARD_VALUE 250) 65536 else
  let at_ := u.sbx.rampAt.getD us
  let frac := bits (u.sbxWord 37) 0 16
  let ramp := bits (u.sbxWord 37) 16 10 * 1000
  let moved : Int := ((65536 - frac) * min (us - at_) ramp : Nat)
  let from_ : Int := (u.sbx.rampFrom * ramp : Nat)
  let v := if u.on R.SBX_STATE_GL_ACTIVE
    then max (frac : Int) (rdiv (from_ - moved) ramp)
    else min 65536 (rdiv (from_ + moved) ramp)
  (u.withSbx (fun s => { s with rampAt := some at_, frac250 := v.toNat })).wr (R.LPE_BOARD_VALUE 250) v.toNat

/-- A readback fault of a channel (R477, R478). -/
def U.rbFaultOf (u : U) (t : TimeBase) (k : Nat) : U :=
  let u := (u.withSbx (fun s => { s with rbFault := setBit s.rbFault k, rbCnt := s.rbCnt.erase k })).permits
  u.raise t SBX.RB_FAULT []

/-- The readback inputs sampled (R477); the count of a mismatch that has been raised starts again (log entry 132). -/
def U.readback (u : U) (t : TimeBase) (pr : Nat) : U :=
  let u := u.wr R.SBX_PERM_RB pr
  if !u.sbxLocked then u else
  let lat := bits (u.sbxWord 38) 9 9
  let gr := u.rd R.SBX_PERM_GRANTED
  let u := u.each (List.range 8) (fun u k =>
    let age := if bitAt gr k = bitAt u.sbx.cmdWas k then u.sbx.cmdAge.get k 0 + 1 else 0
    let u := u.withSbx (fun s => { s with cmdAge := s.cmdAge.set k age })
    let testing := match u.sbx.pulse with
      | some (j, _) => j == k
      | none => false
    if testing then u
    else if decide (age ≥ lat) && bitAt pr k != bitAt gr k then
      let n := u.sbx.rbCnt.get k 0 + 1
      if n ≥ lat then (u.inc R.SBX_CNT_RB_ERR).rbFaultOf t k
      else u.withSbx (fun s => { s with rbCnt := s.rbCnt.set k n })
    else u.withSbx (fun s => { s with rbCnt := s.rbCnt.erase k }))
  u.withSbx (fun s => { s with cmdWas := gr })

/-- The start of a test pulse on the high or low side of a channel (R478). -/
def U.pulseStart (u : U) (k : Nat) (low : Bool) : U :=
  if k < 8 && u.sbxLocked && bitAt (u.rd R.SBX_PERM_GRANTED) k && u.on (R.SBX_CH_TEST k) && u.sbx.pulse.isNone then
    (u.inc R.SBX_CNT_TP_CNT).withSbx (fun s => { s with pulse := some (k, low) })
  else u

/-- The end of a test pulse: whether PRk read de-energised at its last sample and energised RB_LAT after the switch
reclosed (R478). -/
def U.pulseEnd (u : U) (t : TimeBase) (offAtEnd onAfter : Bool) : U :=
  match u.sbx.pulse with
  | none => u
  | some (k, _) =>
    let u := u.withSbx (fun s => { s with pulse := none })
    if offAtEnd && onAfter then u else u.rbFaultOf t k

/-- The tick count of a millisecond of station time (R479). -/
def U.oscWindow (u : U) (t : TimeBase) (count : Nat) : U :=
  if u.rd R.TIM_DEP_CTL_STATE = 2 && (decide (count < 38400) || decide (count > 41600)) then u.raise t SBX.OSC_DEV []
  else u

/-- PEER_TMO mirror cycles without a valid peer status (R473). -/
def U.peerTimeout (u : U) (t : TimeBase) : U :=
  if u.sbxLocked then
    let u := (u.wr R.SBX_STATE_PEER_OK 0).withSbx (fun s => { s with peerMiss := bits (u.sbxWord 38) 18 8 })
    (u.sampleLine t 147).glacier t
  else u

/-- A valid peer status byte (R473, R474); before the lock it plays no part (R608). -/
def U.peerStatus (u : U) (t : TimeBase) (b : Nat) : U :=
  if !u.sbxLocked then u else
  let u := ((u.put R.SBX_STATE_PEER_OK true).wr R.SBX_STATE_PEER_TRIP (bits b 0 1)).wr R.SBX_STATE_PEER_GL (bits b 1 1)
  let u := u.withSbx (fun s => { s with peerMiss := 0 })
  ((u.sampleLine t 147).sampleLine t 148).glacier t

/-- The status byte this unit sends (R473). -/
def U.statusByte (u : U) : Nat :=
  u.rd R.SBX_STATE_TRIPPED + 2 * u.rd R.SBX_STATE_GL_OWN + 4 * b2n (u.rd R.SBX_STATE_HB == 1) + 8 * b2n u.sbxLocked

/-- The signal box beside its registers after its reset. -/
def Sbx.zero : Sbx :=
  ⟨[], 0, 0, 0, 0x5A, none, [], 0, 0, [], none, 0, false, none, 65536, 65536, 0, true, true⟩

/-- A reset of the signal box alone (R466, R481, R486): configuration EMPTY, every low side open, the records empty; SBX_HS stays (R464). -/
def U.sbxReset (u : U) : U :=
  let hs := u.rd R.SBX_HS_HS
  let u := { u with regs := Regs.resetRange u.regs 0x400540000 0x400550000, recs := Tbl.erase u.recs B.SBX.st }
  let u := { u with act := u.act.filter (fun e => e.1 != B.SBX.st) }
  let s := { Sbx.zero with hw := u.sbx.hw, supply := u.sbx.supply, osc := u.sbx.osc }
  let u := ({ u with sbx := s }).wr R.SBX_HS_HS hs
  ((u.wr R.SBX_STATE_GL_OWN 0).permits).wr R.DEP_CTL_CONV_EN 0

/-- VSBX below 2.90 V (R593): the signal box in reset, every low side open. -/
def U.vsbxLow (u : U) : U := ((u.sbxReset).withSbx (fun s => { s with supply := false })).permits

/-- 100 µs after VSBX is again above 3.00 V (R593): the signal box leaves reset with its configuration EMPTY and samples its lines. -/
def U.vsbxRelease (u : U) (t : TimeBase) : U :=
  if u.sbx.supply then u else
  let u := (u.withSbx (fun s => { s with supply := true })).permits
  (u.each (List.range 149) (fun u n => u.setLine n (u.lineNow n))).glacier t

/-- The signal box oscillator stopped (R466): every low side opens. -/
def U.oscStop (u : U) : U := (u.withSbx (fun s => { s with osc := false })).permits

end Sys2Proof.Machine
end

