-- ==== Sys2Proof/Machine/Pair.lean ====
section
/-! DEFINITION. The redundant pair: roles, the mirror cycle, handover, the clear handshake (R487 to R510). -/
namespace Sys2Proof.Machine

/-- SDL beside its registers after a reset. -/
def Sdl.zero : Sdl :=
  { next := none, peer := none, peerTs := 0, txTs := [], miss := 0, gap := 0, takeRx := false, takeTx := false,
    hoReq := false, rev := false, clrWait := none, clrAns := none, clrDn := 0, rlqHeld := false, rlq := false,
    rlqBy := [], prefBad := false, convWas := false, convOff := false, ofsOver := false, cycDn := 0, recv := [],
    armLatch := [], wLatch := [], slotLatch := [], dig := [], regions := [], hoFail := false, hoPeer := false, tx := [], cur := none,
    free := none, winEnd := 0 }

/-- A check error of the time base (R50): TB_ERR is always a relinquish cause (R504). -/
def U.timeBaseError (u : U) (t : TimeBase) : U := (u.raise t TIM.TB_ERR []).relinquishCause t B.TIM.st

/-- The role (R501): 0 OFFLINE, 1 SYNCING, 2 STANDBY, 3 ACTIVE, 4 RELINQUISHED. -/
def U.role (u : U) : Nat := u.rd R.SDL_ROLE_ROLE

/-- Whether a valid peer CTRL shows a role. -/
def U.peerIs (u : U) (r : Nat) : Bool := u.on R.SDL_ROLE_PEER_VALID && u.rd R.SDL_ROLE_PEER_ROLE == r

/-- SENDING brought up to date (R501). -/
def U.syncSending (u : U) : U := u.put R.SDL_ROLE_SENDING u.sending

/-- A role change decided: in force from the next departure boundary (R502). -/
def U.decideRole (u : U) (r : Nat) : U := u.withSdl (fun s => { s with next := some r })

/-- A role taken (R502): JOIN ends outside OFFLINE, REV and TAKE end outside STANDBY, RLQ ends with RELINQUISHED, a handover that is
pending ends with the role that it would change, the count of complete cycles starts at SYNCING. -/
def U.setRole (u : U) (t : TimeBase) (r : Nat) : U :=
  let was := u.role
  let u := u.withSdl (fun s => { s with next := none })
  if was = r then u else
  let u := (((u.wr R.SDL_ROLE_ROLE r).inc R.SDL_CNT_B_ROLE_CNT).wr R.SDL_CTL_JOIN 0).wr R.SDL_ROLE_HO_PEND 0
  let u := if r = 1 then u.wr R.SDL_ROLE_SYNC_CNT 0 else u
  let u := u.withSdl (fun s => { s with
    rev := false, takeTx := false, takeRx := false, hoReq := false, gap := 0, rlq := s.rlq && r == 4, rlqHeld := s.rlqHeld && r == 3,
    rlqBy := s.rlqBy.filter (· != 0) })
  (u.syncSending).raise t SDL.ROLE_CHG []

/-- The role changes at the boundary of `b`: CONV_EN of a standby that has fallen (R502), the role decided, a handover
at HO_DN, then R507. -/
def U.roleBoundary (u : U) (t : TimeBase) (b : Nat) : U :=
  let fell := u.role == 2 && u.sdl.convWas && !u.on R.DEP_CTL_CONV_EN && u.sdl.next.isNone
  let u := if fell then (u.raise t SDL.SYNC_LOST []).decideRole 1 else u
  let u := match u.sdl.next with
    | some r => u.setRole t r
    | none => u
  let due := u.on R.SDL_ROLE_HO_PEND && !u.sdl.hoReq && u.rd R.SDL_HO_DN_DN == b
  let u := if !due then u else
    let u := u.wr R.SDL_ROLE_HO_PEND 0
    let took := u.sdl.takeRx
    let sent := u.sdl.takeTx
    let u := u.withSdl (fun s => { s with takeRx := false })
    if u.role = 3 then (if took then u.setRole t 2 else (u.raise t SDL.SWAP_FAIL []).withSdl (fun s => { s with hoFail := true }))
    else if u.role = 2 && sent then u.setRole t 3
    else u
  let conv := u.on R.DEP_CTL_CONV_EN
  let u := if u.sdl.convOff && u.role = 2 then u.wr R.DEP_CTL_CONV_EN 0 else u
  u.withSdl (fun s => { s with convWas := conv, convOff := false })

/-- JOIN pending (R502): SYNCING with an ACTIVE peer of the same images, ACTIVE on the preferred unit when the peer is
OFFLINE or silent, IMG_DIFF with a peer of other images. -/
def U.joinCheck (u : U) (t : TimeBase) : U :=
  if u.role ≠ 0 || !u.on R.SDL_CTL_JOIN || u.sdl.next.isSome then u else
  match u.on R.SDL_ROLE_PEER_VALID, u.sdl.peer with
  | true, some c =>
    if c.cfgId ≠ u.topo.cfgId || c.fwId ≠ u.fwId then (u.raise t SDL.IMG_DIFF []).wr R.SDL_CTL_JOIN 0
    else if c.role = 3 then u.decideRole 1
    else if c.role = 0 && u.on R.SDL_ROLE_PREFER then u.decideRole 3
    else u
  | _, _ => if u.on R.SDL_ROLE_PREFER then u.decideRole 3 else u

/-- A write of JOIN (R502). -/
def U.join (u : U) (t : TimeBase) : U := if u.role = 0 then (u.wr R.SDL_CTL_JOIN 1).joinCheck t else u

/-- JOIN pending for JOIN_TMO without an ACTIVE peer (R502). -/
def U.joinTimeout (u : U) : U :=
  if u.role = 0 && u.on R.SDL_CTL_JOIN && !u.peerIs 3 then u.decideRole 3 else u

/-- A handover asked for by the ACTIVE unit (R506): HO_REQ in its next CTRL. -/
def U.startHandover (u : U) : U :=
  (u.wr R.SDL_ROLE_HO_PEND 1).withSdl (fun s => { s with hoReq := true, takeRx := false })

/-- Whether SWAP is taken (R506). -/
def U.swapOk (u : U) : Bool := u.role == 3 && u.peerIs 2 && !u.on R.SDL_ROLE_HO_PEND

/-- A write of SWAP (R506). -/
def U.swap (u : U) (t : TimeBase) : U := if u.swapOk then u.startHandover else u.raise t SDL.SWAP_REJ []

/-- A write of REJOIN (R502): no relinquish cause stands unacknowledged. -/
def U.rejoin (u : U) : U := if u.role = 4 && u.sdl.rlqBy.isEmpty then u.decideRole 1 else u

/-- The peer relinquishes (R488, R502). -/
def U.peerRelinquished (u : U) : U := if u.role = 2 then u.decideRole 3 else u
/-- A control block received on Siding: RELINQUISH acts (R488). -/
def U.relinquishRx (u : U) (b : Block) : U := if u.sidingUp ≠ 0 && b == relinquishBlock then u.peerRelinquished else u
/-- A control block received on Siding: AVALANCHE acts with PEER as its source (R141, R327). -/
def U.peerAvalanche (u : U) (t : TimeBase) (b : Block) : U :=
  if u.sidingUp ≠ 0 && b == avalancheBlock then u.avalanche t 4 0 else u

/-- Whether the peer is lost (R505). -/
def U.peerGone (u : U) : Bool :=
  let hw := u.rd R.SDL_CTL_TAKE_HW
  !u.on R.SDL_ROLE_PEER_VALID && (hw == 0 || (decide (hw ≤ 16) && bitAt (u.hwCfg (hw - 1)) 1 && u.line (hw - 1)))

/-- The peer lost (R502, R505). -/
def U.peerLost (u : U) (t : TimeBase) : U :=
  if (u.role = 1 || u.role = 2) && u.peerGone then
    let u := u.raise t SDL.PEER_LOST []
    let u := if u.role = 1 then u.raise t SDL.TAKE_UNSYNC [] else u
    u.decideRole 3
  else u

/-- REV_HOLD passed in STANDBY on the preferred unit (R506). -/
def U.revHold (u : U) : U :=
  if u.role = 2 && u.on R.SDL_ROLE_PREFER && u.rd R.SDL_TMO2_REV_HOLD ≠ 0 then u.withSdl (fun s => { s with rev := true })
  else u

/-- The clear handshake given up (R508). -/
def U.clearRefused (u : U) (t : TimeBase) : U :=
  ((u.wr R.SDL_ROLE_CLR_PEND 0).withSdl (fun s => { s with clrWait := none })).raise t DEP.CLR_REJ []

/-- No answer to CLR_REQ within 3 cycles (R508). -/
def U.clearTimeout (u : U) (t : TimeBase) : U :=
  match u.sdl.clrWait with
  | some n => if n ≥ 3 then u.clearRefused t else u
  | none => u

/-- The frame bytes of the declared regions and the sum of their lengths, with region `r` of length `len` (R493). -/
def U.regionSums (u : U) (r len : Nat) : Nat × Nat :=
  (List.range 16).foldl (fun s k =>
    let n := if k = r then len else u.rd (R.SDL_REG_LEN_LEN k)
    if n = 0 then s else (s.1 + 15 + n, s.2 + n)) (0, 0)

/-- A write of a region's base or length (R493, R510): a length that is refused raises WR_REJ. -/
def U.regionWrite (u : U) (t : TimeBase) (r : Nat) (len : Bool) (v : Nat) : U :=
  if r ≥ 16 then u
  else if !len then u.wr (R.SDL_REG_BASE_BASE r) (v / 16)
  else
    let n := v % 2 ^ 17
    let s := u.regionSums r n
    if n % 16 ≠ 0 || s.2 > 96000 || s.1 + u.rd R.SDL_BUDGET_HW > 100000 then u.raise t SDL.WR_REJ []
    else (u.wr (R.SDL_REG_LEN_LEN r) n).wr R.SDL_REG_USED_FRAME s.1

/-- The ORD digest over bytes 8 to 343 of the ORDER frames frozen at the boundary of `b` (R499). -/
def U.ordDigest (u : U) (b : Nat) : Nat :=
  if u.rd R.TIM_DEP_CTL_STATE ≠ 2 then crc32c [] else
  let dn := (b + u.rd R.DEP_CTL_LEAD) % 2 ^ 32
  crc32c (u.topo.hubs.flatMap (fun h => ((u.orderFrame h dn 0 (u.frozenFor h dn) []).bytes.drop 8).take 336))

/-- The BRD digest over the board as latched (R499). -/
def U.brdDigest (latch : U) : Nat :=
  crc32c ((List.range 768).flatMap (fun n => toBytes 4 (enc 32 (latch.board (256 + n)))))

/-- The slice of the cycle that starts at a boundary (R490). -/
def sliceOf (us : Nat) : Nat := us / 10 % 32

/-- The frame bytes of an FRN section of an arm (R490). -/
def U.frnBytes (u : U) (a : Nat) : Nat := 31 + 16 * (((u.topo.armCells a).length + 31) / 32)

/-- One mirror entry of a cell (R490). -/
def U.frnEntry (u : U) (cid : Nat) : FrnMirror :=
  ⟨u.wOf cid, u.kOf cid, u.flag cid .suspect, u.flag cid .aged, u.flag cid .kclamp, u.flag cid .unseeded, u.susRun cid⟩

/-- The configured arms, ascending. -/
def U.armsOn (u : U) : List Nat := (List.range 12).filter u.topo.armOn

/-- What this unit latches for the cycle that starts at a boundary (R494), before Firn and the selection engines take it further: W as the
estimate at the boundary, the selection state that planned the departure now frozen. -/
def U.cycleLatch (u : U) (us : Nat) : U :=
  let j := sliceOf us
  let ws := u.armsOn.foldl (fun (acc : Tbl FrnMirror) a =>
    ((u.armCells a).filter (fun e => e.1 % 32 == j)).foldl (fun acc e => Tbl.set acc e.2.cid (u.frnEntry e.2.cid)) acc) []
  let arms := u.armsOn.foldl (fun (acc : Tbl ArmMirror) a => Tbl.set acc a (u.armPayload a)) []
  u.withSdl (fun s => { s with cycDn := us % 2 ^ 32, recv := [], armLatch := arms, wLatch := ws, slotLatch := u.loopLatch })

/-- The sections of a cycle in the order sent (R490, R492): CTRL of each unit, the others of the ACTIVE unit. -/
def U.cycleSections (u : U) (us : Nat) (ctrl : List Nat) : List SideItem :=
  .ctrl ctrl :: (if u.role ≠ 3 then [] else
    [.loop] ++ u.armsOn.map (fun a => .arm a) ++ u.armsOn.map (fun a => .frn a (sliceOf us)) ++ u.sdl.regions.map (fun e => .region e.1))

/-- The frame bytes of a section (R490). -/
def U.sideLen (u : U) : SideItem → Nat
  | .ctrl _ => 71
  | .loop => 3855
  | .arm _ => 303
  | .frn a _ => u.frnBytes a
  | .region r => 15 + ((u.sdl.regions.find? r).getD (0, 0)).2

/-- The bytes of a section's frame as it starts (R489, R490, R494): a region's follow from the SRAM as they are sent (R498). -/
def U.sideBytes (u : U) : SideItem → List Nat
  | .ctrl b => b
  | .loop => sectionBytes u.sdl.cycDn 0 (.loop u.sdl.slotLatch)
  | .arm a => match u.sdl.armLatch.find? a with
    | some p => sectionBytes u.sdl.cycDn 0 (.arm a p)
    | none => []
  | .frn a j => sectionBytes u.sdl.cycDn (((u.topo.armCells a).length + 31) / 32)
      (.frn a j ((u.armCells a).filterMap (fun e => if e.1 % 32 = j then u.sdl.wLatch.find? e.2.cid else none)))
  | .region r => (mirrorBytes 4 u.sdl.cycDn r (zeros ((u.sdl.regions.find? r).getD (0, 0)).2)).take 15

/-- Where the payload of a section is read as it is sent (R498). -/
def U.sideSrc (u : U) : SideItem → Option Nat
  | .region r => (u.sdl.regions.find? r).map (fun e => e.1)
  | _ => none

/-- A section that cannot end in the sending window (R492): the sections of the ACTIVE unit are counted, and a region raises MIR_SKIP. -/
def U.sideSkip (u : U) (t : TimeBase) (i : SideItem) : U :=
  match i with
  | .ctrl _ => u
  | .region _ => (u.inc R.SDL_CNT_A_SKIP_CNT).raise t SDL.MIR_SKIP []
  | _ => u.inc R.SDL_CNT_A_SKIP_CNT

/-- The bytes of a frame that stand in blocks begun once `p` of them have gone (R326). -/
def begun (len p : Nat) : Nat := if p = 0 then 0 else min len (7 + 8 * (p / 8))

/-- A frame's bytes up to `n` sent: those of a region are read now (R498). -/
def U.sideRead (u : U) (t : TimeBase) (f : SideFrame) (n : Nat) : U :=
  match f.src with
  | none => u.withSdl (fun s => { s with cur := some { f with done := n } })
  | some a =>
    let k := n - f.bytes.length
    u.reading t [(a, k)] (fun u => u.withSdl (fun s => { s with
      cur := some { f with
        bytes := f.bytes ++ u.mem.readBytes a k, src := some (a + k), done := n } }))

/-- Siding up to the present time, as far as `n` frames go (R487, R492): the frame being sent goes on, one that has ended leaves whole, and
the next section starts on the lanes that are UP if it can end in the window; a byte takes 96/300 ns of one lane. -/
def U.sideRun (t : TimeBase) : Nat → U → U
  | 0, u => u
  | n + 1, u =>
    match u.sdl.cur, u.sdl.tx with
    | some f, _ =>
      let p := min f.len ((t.tns * 300 - f.start) * f.lanes.length / 96)
      let u := u.sideRead t f (begun f.len p)
      if p < f.len then u
      else
        let bytes := (u.sdl.cur.getD f).bytes
        U.sideRun t n ((u.withSdl (fun s => { s with
          cur := none, free := some (f.start + f.len * (96 / f.lanes.length)) })).emit (.siding f.lanes (sendBlocks bytes)))
    | none, [] => u
    | none, i :: rest =>
      let u := u.withSdl (fun s => { s with tx := rest })
      let lanes := u.sidingLanes
      let len := u.sideLen i
      let start := u.sdl.free.getD (t.tns * 300 + 32 * (96 / lanes.length))
      U.sideRun t n (if lanes.isEmpty || start + len * (96 / lanes.length) > u.sdl.winEnd then u.sideSkip t i
        else u.withSdl (fun s => { s with cur := some ⟨lanes, start, len, u.sideBytes i, u.sideSrc i, 0⟩ }))

/-- Siding up to the present time. -/
def U.sideAdvance (u : U) (t : TimeBase) : U :=
  if u.sdl.cur.isNone && u.sdl.tx.isEmpty then u else U.sideRun t (2 * u.sdl.tx.length + 2) u

/-- The CTRL of the cycle that starts at a boundary (R491, R492, R506, R508). Its START block leaves at the first block boundary, a free
instant within the 2.56 ns of a block. -/
def U.makeCtrl (u : U) (us : Nat) (ord brd : Nat) : Ctrl × U :=
  let cyc := us % 2 ^ 32
  let hoDn := if u.role = 3 && u.sdl.hoReq then dnAdd cyc 20 else u.rd R.SDL_HO_DN_DN
  let ask := u.role == 3 && u.sdl.hoReq
  let take := u.role == 2 && u.sdl.hoReq
  let u := if ask then u.wr R.SDL_HO_DN_DN hoDn else u
  let clrReq := u.sdl.clrWait == some 0
  let acc := u.sdl.clrAns == some true
  let clrDn := if acc then dnAdd cyc 20 else u.sdl.clrDn
  let d := u.draw
  let tx := (us * 16000 + d.1 % 41) % 2 ^ 64
  let u := d.2
  let c : Ctrl :=
    { cycDn := cyc, status := u.statusByte, role := u.role, prefer := u.on R.SYS_STRAP_PREFER,
      unitB := u.on R.SDL_ROLE_UNIT, hoDn := hoDn, hoReq := ask, take := take, rev := u.sdl.rev, clrReq := clrReq,
      clrAcc := acc, clrRef := u.sdl.clrAns == some false, convEn := u.on R.DEP_CTL_CONV_EN, rlq := u.sdl.rlq,
      tTx := tx, tRx := u.sdl.peerTs, rxCyc := (u.sdl.peer.map (·.cycDn)).getD 0, ord := ord, brd := brd,
      cfgId := u.topo.cfgId, fwId := u.fwId, clrDn := clrDn }
  let u := u.withSdl (fun s => { s with
    hoReq := false, takeTx := s.takeTx || take, clrAns := none, clrDn := clrDn
    txTs := Tbl.set (s.txTs.filter (fun e => decide (dnDiff cyc e.1 ≤ 2550))) cyc tx
    dig := Tbl.set (s.dig.filter (fun e => decide (dnDiff cyc e.1 ≤ 100))) cyc (ord, brd) })
  (c, if acc then u.withDep (fun p => { p with clrAt := some clrDn }) else u)

/-- Whether every hardware section of the cycle has arrived (R495). -/
def U.cycleComplete (u : U) : Bool :=
  u.sdl.recv.any (fun s => match s with
    | .loop _ => true
    | _ => false) &&
  u.armsOn.all (fun a =>
    u.sdl.recv.any (fun s => match s with
      | .arm b _ => b == a
      | _ => false) &&
    u.sdl.recv.any (fun s => match s with
      | .frn b _ _ => b == a
      | _ => false))

/-- The count of complete cycles and the role changes that follow from it (R502). -/
def U.countCycle (u : U) (t : TimeBase) (full : Bool) : U :=
  let u := if full then u.inc R.SDL_ROLE_SYNC_CNT else u.wr R.SDL_ROLE_SYNC_CNT 0
  let conv := match u.sdl.peer with
    | some c => c.convEn == u.on R.DEP_CTL_CONV_EN
    | none => false
  if u.role = 1 then
    if full && conv && u.sdl.next.isNone && decide (u.rd R.SDL_ROLE_SYNC_CNT ≥ u.rd R.SDL_TMO_SYNC_N) then u.decideRole 2
    else u
  else
    let gap := if full then 0 else u.sdl.gap + 1
    let u := u.withSdl (fun s => { s with gap := gap })
    if gap ≥ u.rd R.SDL_TMO_MIR_GAP && u.sdl.next.isNone then (u.raise t SDL.SYNC_LOST []).decideRole 1 else u

/-- The sections of the cycle before a 10 µs boundary applied, in the order LOOP, ARM, FRN (R248, R495 to R497). -/
def U.mirrorApply (u : U) (t : TimeBase) (us : Nat) : U :=
  if u.role = 1 || u.role = 2 then
    let b := us % 2 ^ 32
    let full := u.cycleComplete
    let lat := u.sdl
    let u := lat.recv.foldl (fun u s => match s with
      | .loop slots => u.loopApply slots
      | .arm a p => match lat.armLatch.find? a with
        | some own => u.armMirrorApply a b p own
        | none => u
      | .frn a j es => u.frnMirrorApply a j b lat.cycDn es lat.wLatch
      | .region _ _ => u) u
    (u.withSdl (fun s => { s with recv := [] })).countCycle t full
  else u.withSdl (fun s => { s with recv := [] })

/-- The peer's silence counted at the start of a cycle (R505, R510, R52). PREFER returns to the strap of this unit once no CTRL has come
for the TAKE_TMO cycles after which PEER_VALID falls (R30; log entry 126). -/
def U.countSilence (u : U) : U :=
  let u := u.put R.TIM_STATUS_PEER_VALID (u.sdl.miss == 0 && u.sdl.peer.isSome && u.on R.TIM_STATUS_PEER_VALID)
  let u := u.withSdl (fun s => { s with miss := s.miss + 1 })
  if u.sdl.miss > u.rd R.SDL_TMO_TAKE_TMO then
    (u.wr R.SDL_ROLE_PEER_VALID 0).wr R.SDL_ROLE_PREFER (u.rd R.SYS_STRAP_PREFER) else u

/-- A request for the peer's acceptance that waits while PEER_VALID has fallen (R508): this unit goes by its own conditions, and CLR_DN counts
from the boundary of its request. -/
def U.clearAlone (u : U) (t : TimeBase) (us : Nat) : U :=
  match u.sdl.clrWait, u.on R.SDL_ROLE_PEER_VALID with
  | some n, false =>
    if u.clearOk then
      ((u.wr R.SDL_ROLE_CLR_PEND 0).withSdl (fun s => { s with clrWait := none })).withDep
        (fun d => { d with clrAt := some (dnAdd (us % 2 ^ 32) (20 - 10 * (n : Int))) })
    else u.clearRefused t
  | _, _ => u

/-- The start of a mirror cycle at a 10 µs boundary, after the freeze (R492, R494). -/
def U.cycleStart (u : U) (t : TimeBase) (us : Nat) (latch : U) (ord : Nat) : U :=
  let u := (((u.sideAdvance t).countSilence).joinCheck t).clearAlone t us
  let u := if u.sdl.rlqHeld && u.role = 3 then
      (if u.sdl.rlqBy.isEmpty then u.withSdl (fun s => { s with rlqHeld := false })
       else if u.peerIs 2 then u.relinquish t else u) else u
  let u := u.withSdl (fun s => { s with
    regions := (List.range 16).foldl (fun (acc : Tbl (Nat × Nat)) r =>
      let n := u.rd (R.SDL_REG_LEN_LEN r)
      if n = 0 then acc else Tbl.set acc r (u.rd (R.SDL_REG_BASE_BASE r) * 16, n)) [] })
  let c := u.makeCtrl us ord latch.brdDigest
  let u := c.2
  let u := u.withSdl (fun s => { s with
    tx := u.cycleSections us (ctrlBytes c.1), cur := none, free := some (us * 300000), winEnd := (us * 1000 + 9000) * 300 })
  let u := match u.sdl.clrWait with
    | some n => u.withSdl (fun s => { s with clrWait := some (n + 1) })
    | none => u
  u.syncSending

/-- The peer offset (R46, R500). -/
def U.peerOffset (u : U) (t : TimeBase) (c : Ctrl) : U :=
  match u.sdl.txTs.find? c.rxCyc with
  | none => u
  | some t1 =>
    let ofs := rdiv (tsDiff t.ts64 c.tTx - tsDiff c.tRx t1) 2
    let beyond := decide (satS 32 ofs > (u.rd R.TIM_PEER_LIM_LIM : Int)) || decide (satS 32 ofs < -(u.rd R.TIM_PEER_LIM_LIM : Int))
    let was := u.sdl.ofsOver
    let u := ((u.wrS R.TIM_PEER_OFS_OFS (satS 32 ofs)).wr R.TIM_STATUS_PEER_VALID 1).withSdl
      (fun s => { s with ofsOver := beyond })
    if beyond && !was then u.raise t TIM.PEER_OVER [] else u

/-- The digests of a cycle latched together (R499). -/
def U.latchDigests (u : U) (c : Ctrl) : U :=
  match u.sdl.dig.find? c.cycDn with
  | none => u
  | some d =>
    ((((u.wr R.SDL_DIG_DN_DN c.cycDn).wr R.SDL_ORD_OWN_CRC d.1).wr R.SDL_ORD_PEER_CRC c.ord).wr
      R.SDL_BRD_OWN_CRC d.2).wr R.SDL_BRD_PEER_CRC c.brd

/-- The effective preference judged on a valid peer CTRL (R30). -/
def U.preferCheck (u : U) (t : TimeBase) (c : Ctrl) : U :=
  if c.prefer != u.on R.SYS_STRAP_PREFER then u.wr R.SDL_ROLE_PREFER (u.rd R.SYS_STRAP_PREFER)
  else
    let u := u.put R.SDL_ROLE_PREFER (!u.on R.SDL_ROLE_UNIT)
    if u.sdl.prefBad then u else (u.withSdl (fun s => { s with prefBad := true })).raise t SDL.PREFER_BAD []

/-- Both units ACTIVE (R503): a unit whose handover did not get TAKE yields, also once HO_DN has passed; with no such handover on
either side, the one that is not preferred. The memory of a handover ends once the peer shows another role. -/
def U.dualActive (u : U) (t : TimeBase) (c : Ctrl) : U :=
  let mine := (u.on R.SDL_ROLE_HO_PEND && !u.sdl.takeRx) || u.sdl.hoFail
  let peers := u.sdl.hoPeer || c.hoReq
  if u.role = 3 && c.role = 3 then
    if u.sdl.next.isNone && (mine || (!peers && !u.on R.SDL_ROLE_PREFER)) then
      (((u.raise t SDL.DUAL_ACT []).wr R.SDL_ROLE_HO_PEND 0).withSdl (fun s => { s with hoFail := false })).decideRole 1
    else u
  else u.withSdl (fun s => { s with hoFail := false, hoPeer := s.hoPeer && c.role == 3 })

/-- The handover fields of a peer CTRL (R506). -/
def U.handoverRx (u : U) (c : Ctrl) : U :=
  if u.role = 2 && c.hoReq then
    ((u.wr R.SDL_ROLE_HO_PEND 1).wr R.SDL_HO_DN_DN c.hoDn).withSdl (fun s => { s with hoReq := true, takeTx := false, hoPeer := true })
  else if u.role = 3 && c.take && u.on R.SDL_ROLE_HO_PEND && c.hoDn = u.rd R.SDL_HO_DN_DN then
    u.withSdl (fun s => { s with takeRx := true })
  else if u.role = 3 && c.rev && !u.on R.SDL_CTL_NO_REV && c.role = 2 && !u.on R.SDL_ROLE_HO_PEND then u.startHandover
  else u

/-- The clear fields of a peer CTRL (R508): a unit that refuses raises CLR_REJ as the requester does, and so does one that is told that
the peer refused its own CLEAR (R144; log entry 25). -/
def U.clearRx (u : U) (t : TimeBase) (c : Ctrl) : U :=
  let u := if !c.clrReq then u
    else if u.clearOk then u.withSdl (fun s => { s with clrAns := some true })
    else (u.withSdl (fun s => { s with clrAns := some false })).raise t DEP.CLR_REJ []
  if u.sdl.clrWait.isNone then (if c.clrRef then u.raise t DEP.CLR_REJ [] else u)
  else if c.clrAcc then
    ((u.wr R.SDL_ROLE_CLR_PEND 0).withSdl (fun s => { s with clrWait := none })).withDep
      (fun p => { p with clrAt := some (c.clrDn % 2 ^ 32) })
  else if c.clrRef then u.clearRefused t
  else u

/-- A valid peer CTRL (R491). -/
def U.peerCtrl (u : U) (t : TimeBase) (c : Ctrl) : U :=
  let u := u.withSdl (fun s => { s with peer := some c, peerTs := t.ts64, miss := 0 })
  let u := (u.wr R.SDL_ROLE_PEER_VALID 1).wr R.SDL_ROLE_PEER_ROLE c.role
  let u := ((u.preferCheck t c).peerOffset t c).latchDigests c
  let u := u.peerStatus t c.status
  let u := (u.dualActive t c).handoverRx c
  let u := u.clearRx t c
  let u := if u.role = 2 && c.role = 3 && !c.convEn then u.withSdl (fun s => { s with convOff := true }) else u
  let u := if c.rlq then u.peerRelinquished else u
  (u.joinCheck t).syncSending

/-- A region written on the standby (R498): SEQ advances before the first byte and after the last. -/
def U.regionRx (u : U) (r : Nat) (bytes : List Nat) : U :=
  match u.sdl.regions.find? r with
  | none => u
  | some e =>
    let seq := R.SDL_REG_SEQ_SEQ r
    let u := u.wr seq (u.rd seq + 1)
    let u := u.memPut e.1 (bytes.take e.2)
    u.wr seq (u.rd seq + 1)

/-- Blocks taken from lanes in turn (R487). -/
def takeTurns : Nat → List (List Block) → List Block
  | 0, _ => []
  | n + 1, ls => ls.filterMap (fun l => l.head?) ++ takeTurns n (ls.map (fun l => l.drop 1))

/-- The blocks of a Siding frame, put in order again: each lane that is UP gives what it received, in logical lane order (R292, R487). A lane
in a near-end loopback receives nothing from the peer (R298). -/
def U.sidingBlocks (u : U) (parts : List (Nat × List Block)) : List Block :=
  let got := fun (p : Nat) => parts.find? (fun e => u.laneUp e.1 && !u.laneIO.looped (laneBase e.1) && u.laneIO.place (u.laneKind e.1) == p)
  takeTurns (parts.foldl (fun m e => max m e.2.length) 0) ((List.range 4).filterMap (fun p => (got p).map (fun e => e.2)))

/-- A frame received on Siding: its bytes where its check passes. Invalid sync headers count on their lanes (R289, R301). A failed check
counts on every Siding lane that is UP, since they carry the frame together (R286, R300, R304, R487). -/
def U.sidingFrame (u : U) (t : TimeBase) (parts : List (Nat × List Block)) : Option (List Nat) × U :=
  let blocks := u.sidingBlocks parts
  let u := parts.foldl (fun (u : U) e => u.onLane t e.1 (fun io => io.headerErrors (laneBase e.1) (e.2.map (fun b => b.1)))) u
  if u.sidingUp = 0 then (none, u) else
  let sp := u.sidingSpoiled t
  match sp.1, readBlocks blocks with
  | false, some b => (some b, sp.2)
  | true, _ => (none, sp.2)
  | false, none => (none, [96, 97, 98, 99].foldl (fun (u : U) n => u.onLane t n (fun io => io.checkError (laneBase n) t.tns)) sp.2)

/-- A CTRL frame received (R489, R491). -/
def U.ctrlRx (u : U) (t : TimeBase) (parts : List (Nat × List Block)) : U :=
  match u.sidingFrame t parts with
  | (some b, u) => if isMsg b 4 && octet b 1 == 0 then u.peerCtrl t (readCtrl b) else u
  | (none, u) => u

/-- A hardware section that is discarded (R495). -/
def U.mirrorLate (u : U) (t : TimeBase) : U := (u.inc R.SDL_CNT_A_LATE_CNT).raise t SDL.MIR_LATE []

/-- A mirror section received (R489, R495, R498): regions are written at once; a hardware section that fails its check or belongs to
another cycle is discarded. -/
def U.sectionRx (u : U) (t : TimeBase) (parts : List (Nat × List Block)) : U :=
  let sync := u.role = 1 || u.role = 2
  let head := u.sidingBlocks parts
  if u.sidingUp = 0 then u else
  match u.sidingFrame t parts with
  | (some b, u) =>
    if !isMsg b 4 then u else
    match readSection b with
    | none => u
    | some (.region r bytes) => if sync then u.regionRx r bytes else u
    | some sec => if le b 2 4 = u.sdl.cycDn then u.withSdl (fun s => { s with recv := s.recv ++ [sec] }) else u.mirrorLate t
  | (none, u) =>
    let b := frameHead head
    if isMsg b 4 && decide (1 ≤ octet b 1) && decide (octet b 1 ≤ 3) then u.mirrorLate t else u

end Sys2Proof.Machine
end

