-- ==== Sys2Proof/Machine/Reset.lean ====
section
/-! DEFINITION. Resets of the central unit: what each reach resets and keeps, episodes, the watchdog, the die temperature, power
control, the backup domain (R511 to R529, R547, R593). -/
namespace Sys2Proof.Machine

namespace SYS
def OT_WARN : Cause := ⟨B.SYS, 0, some 2, 248, true, 1⟩
def WDOG_WARN : Cause := ⟨B.SYS, 1, some 1, 248, false, 1⟩
def CFG_FAIL : Cause := ⟨B.SYS, 2, some 1, 249, false, 1⟩
def FUSE_RETRY : Cause := ⟨B.SYS, 3, some 0, 249, false, 1⟩
def STRAP_BAD : Cause := ⟨B.SYS, 4, some 0, 249, false, 1⟩
def BAK_LOST : Cause := ⟨B.SYS, 5, some 0, 249, false, 1⟩
def RST_REJ : Cause := ⟨B.SYS, 6, some 0, 249, false, 1⟩
def PWR_REJ : Cause := ⟨B.SYS, 7, some 0, 249, false, 1⟩
end SYS

/-- TIM beside its registers after its reset. -/
def TimHid.zero : TimHid := ⟨none, false, none, false, []⟩
/-- The scheduler beside its registers after its reset. -/
def Sched.zero : Sched := ⟨[], [], [], [], [], [], [], 0, 0, [], [], false, 0, [], []⟩
/-- The departure unit beside its registers after its reset. -/
def Dep.zero : Dep := ⟨[], [], [], [], 0, none, false, false, false⟩
/-- The process bus beside its registers after its reset. -/
def Pbx.zero : Pbx := ⟨[], [], [], [], [], [], []⟩

/-- The time base at the release of its domain (R35). -/
def TimeBase.start (mode : Nat) : TimeBase := ⟨0, 0, 0, 0, nominalInc mode, none, 0, 0, 0⟩

/-- A central unit with every register at its reset value, an empty flash and nothing in flight; straps and fuses read 0
(log entry 5). -/
def U.zero : U :=
  { regs := [], mem := [], flash := [], recs := [], act := [], evq := [], tim := .zero, sch := .zero, dep := .zero, sbx := .zero,
    sdl := .zero, lf := [], topo := .zero, arms := [], ports := [], mons := [], pbx := .zero, lpe := ⟨[], [], none⟩, leads := [], fwId := 0,
    lanes := [], serial := .zero, mlk := .zero, cap := .zero, snp := .zero, sys := .zero, sec := .zero, memh := .zero, out := [], free := 0 }

/-- The fields of SDL whose reset value is the strap (R509, R511). -/
def U.strapSdl (u : U) : U :=
  (u.wr R.SDL_ROLE_PREFER (u.rd R.SYS_STRAP_PREFER)).wr R.SDL_ROLE_UNIT (u.rd R.SYS_STRAP_UNIT_ID)

/-- The fields whose reset value is the strap (R51, R509, R511). -/
def U.strapFields (u : U) : U :=
  let inc := nominalInc (u.rd R.SYS_STRAP_CLK_MODE)
  ((u.wr R.TIM_INC_FRAC_FRAC inc).wr R.TIM_INC_INT_INT (inc / 2 ^ 32)).strapSdl

/-- The state of a configurable ball, numbered as in `Output.balls`, that its block does not drive (R524): its fuse code once a load has
passed. -/
def U.fuseBall (u : U) (i : Nat) : Ball :=
  if u.sys.stretch || !u.sys.shadow then .hiZ else Ball.ofCode (u.sys.fuse.ball.getD i 0 % 8)

/-- The state of a configurable ball (R524). -/
def U.ball (u : U) (i : Nat) : Ball := if u.sys.owned.contains i then .driven else u.fuseBall i

/-- The states of all the configurable balls. -/
def U.balls (u : U) : List Ball := (List.range 23).map u.ball

/-- The balls put out where their states have changed. -/
def U.showBalls (u before : U) : U := if u.balls = before.balls then u else u.emit (.balls u.balls)

/-- The balls as stage HOLD leaves them (R515, R524): no block drives one. -/
def U.holdBalls (u before : U) : U := (u.withSys (fun s => { s with owned := [] })).showBalls before

/-- Balls that their block drives from now on (R524). -/
def U.drive (u : U) (l : List Nat) : U :=
  (u.withSys (fun s => { s with owned := s.owned ++ l.filter (fun i => !s.owned.contains i) })).showBalls u

/-- The fields whose reset value is a fuse (R523, R548, R572); the Ethernet ports are 0 to 3 (R51). -/
def U.fuseFields (u : U) : U :=
  let f := u.sys.fuse
  let u := (u.wr R.SEC_UNIT_L_UNIT_LO f.unitId).wr R.SEC_UNIT_H_UNIT_HI (f.unitId / 2 ^ 32)
  let u := ((u.wr R.SEC_BOOT_ARB f.arb).put R.SEC_BOOT_OWNER_SET (f.owner != 0)).put R.SEC_BOOT_OWNER_LOCK f.lock
  let u := (u.wr R.SYS_OT_OT_RST f.otRst).withSys (fun s => { s with alive := (u.fuseBall 22).high })
  let ports := f.lat.filter (fun e => decide (e.1 < 4))
  ports.foldl (fun (u : U) e => (u.wr (R.TIM_PORT_LAT_INGRESS e.1) e.2.1).wr (R.TIM_PORT_LAT_EGRESS e.1) e.2.2) u

/-- The certificate store shown (R551, R572). -/
def U.certFields (u : U) : U :=
  (List.range 1332).foldl (fun (u : U) n =>
    let w := ofBytes ((u.sys.fuse.cert.drop (4 * n)).take 4)
    if w = 0 then u else u.wr (R.SEC_CERT_BYTES n) w) u

/-- The field of an arm's Firn engine that a reset returns to the image (R604). -/
def U.imageFirn (u : U) (a : Nat) : U :=
  match Tbl.find? u.topo.armImg a with
  | some e => u.wr (R.FRN_SRC_PORT a) e.1
  | none => u

/-- The fields of an arm's selection engine that a reset returns to the image (R113). -/
def U.imageYard (u : U) (a : Nat) : U :=
  match Tbl.find? u.topo.armImg a with
  | some e => (u.wr (R.MSH_AVAIL_MIN_AVAIL a) e.2.1).wr (R.MSH_CTL_NREF_IDX a) e.2.2
  | none => u

/-- The fields of the loaded topology that a reset of the arm engines returns to the image (R113, R604). -/
def U.imageFields (u : U) : U := u.each (List.range 12) (fun u a => (u.imageFirn a).imageYard a)

/-- The transmitters that an event has squelched, or changed otherwise, put out (R289, R524). -/
def U.showAllLanes (u before : U) : U := ((List.range 48).map (2 * ·) ++ [96]).foldl (fun (u : U) n => u.showLanes before n) u

/-- Whether the episode that runs has Cold reach. -/
def U.coldRuns (u : U) : Bool :=
  match u.sys.ep with
  | some e => e.reach == 0
  | none => false

/-- PD1 to PD11 reset (R514): a Cold reset keeps the straps, BAK and FUSE_FAIL (R523), a System reset keeps fuses and trims as well. FAILS
counts the failed loads of the episode, and so stays while a Cold episode runs. -/
def U.resetAll (u : U) (cold : Bool) : U :=
  let kept := u.regs.filter (fun e => decide (0x400000004 * 32 ≤ e.1) && decide (e.1 < 0x400000008 * 32))
  let n := { U.zero with
    regs := kept, flash := u.flash, lf := u.lf, out := u.out, free := u.free,
    sbx := { Sbx.zero with hw := u.sbx.hw, supply := u.sbx.supply, osc := u.sbx.osc },
    sys := { Sys.zero with
      ep := u.sys.ep, count := u.sys.count, hist := u.sys.hist, bakCrc := u.sys.bakCrc, bakLost := u.sys.bakLost, fuse := u.sys.fuse,
      words := if cold then [] else u.sys.words, shadow := u.sys.shadow && !cold, owned := u.sys.owned, stretch := u.sys.stretch } }
  let n := (n.strapFields.certFields).wr R.SYS_FUSE_FUSE_FAIL (u.rd R.SYS_FUSE_FUSE_FAIL)
  let n := if u.coldRuns then n.wr R.SYS_FUSE_FAILS (u.rd R.SYS_FUSE_FAILS) else n
  let n := if cold then n else
    let n := (n.wr R.SYS_FUSE_STATE (u.rd R.SYS_FUSE_STATE)).wr R.SYS_FUSE_DEF_TRIM (u.rd R.SYS_FUSE_DEF_TRIM)
    if n.sys.shadow then n.fuseFields else n
  n.showAllLanes u

/-- The registers, records and causes of the blocks from an address below another reset (R445, R514). -/
def U.wipe (u : U) (t : TimeBase) (lo hi : Nat) : U :=
  let out := fun (a : Nat) => decide (a < lo) || decide (hi ≤ a)
  ({ u with
    regs := Regs.resetRange u.regs lo hi, recs := u.recs.filter (fun e => out e.1), act := u.act.filter (fun e => out e.1),
    sdl := { u.sdl with rlqBy := u.sdl.rlqBy.filter (fun a => a == 0 || out a) } }).glacier t

/-- An Engine reset (R514): the arm engines and the loop engine; SRAM and the ledger stay. -/
def U.resetEngine (u : U) (t : TimeBase) : U :=
  let u := { u with arms := [], lpe := ⟨[], [], none⟩, dep := { u.dep with planned := [] } }
  (((u.wipe t 0x400100000 0x4001C0000).wipe t 0x400200000 0x4002C0000).wipe t 0x400310000 0x400320000).imageFields

/-- Whether a 64 KiB index names a block (R576). -/
def blockAt (i : Nat) : Bool :=
  decide (i ≤ 2) || (decide (16 ≤ i) && decide (i ≤ 27)) || (decide (32 ≤ i) && decide (i ≤ 43)) || (decide (48 ≤ i) && decide (i ≤ 51)) ||
    (decide (64 ≤ i) && decide (i ≤ 70)) || (decide (80 ≤ i) && decide (i ≤ 85))

/-- A Block reset (R514, R526). -/
def U.resetBlock (u : U) (t : TimeBase) (i : Nat) : U :=
  let lo := 0x400000000 + i * 0x10000
  let was := u
  let u := u.wipe t lo (lo + 0x10000)
  let z := ArmHid.zero
  if i = 2 then { u with snp := .zero }
  else if 16 ≤ i && i ≤ 27 then
    (u.setArm (i - 16) (fun h => { h with
      en := false, queue := [], ring := [], fbSel := false, noCur := false, vp := [], ipDn := 0 })).imageFirn (i - 16)
  else if 32 ≤ i && i ≤ 43 then
    let u := u.withDep (fun d => { d with planned := d.planned.erase (i - 32) })
    (u.setArm (i - 32) (fun h => { z with
      en := h.en, queue := h.queue, ring := h.ring, fbSel := h.fbSel, noCur := h.noCur, vp := h.vp, ipDn := h.ipDn })).imageYard (i - 32)
  else if i = 49 then { u with lpe := ⟨[], [], none⟩ }
  else if i = 50 then { u with regs := Regs.resetRange u.regs 0x500321000 0x500321030, ports := [], mons := [] }
  else if i = 51 then { u with pbx := .zero }
  else if 64 ≤ i && i ≤ 70 then
    { u with lanes := u.lanes.filter (fun e => decide (e.1 < lo) || decide (lo + 0x10000 ≤ e.1)) }.showAllLanes was
  else if i = 80 then { u with mlk := .zero, leads := [] }
  else if i = 81 then ({ u with sdl := .zero }.strapSdl).syncSending
  else if i = 82 then { u with cap := .zero }
  else u

/-- The reach of a source (R513); `reach` is what the write of `SYS_RST_SW` asks for. -/
def reachOf (src reach : Nat) : Nat :=
  if src = 5 then reach else if src = 3 || src = 4 || src = 6 || src = 7 || src = 8 then 1 else 0

/-- What a reach resets (R514). -/
def resetReach (t : TimeBase) (u : U) (reach block : Nat) : TimeBase × U :=
  match reach with
  | 0 => (TimeBase.start (u.rd R.SYS_STRAP_CLK_MODE), (u.resetAll true).holdBalls u)
  | 1 => (TimeBase.start (u.rd R.SYS_STRAP_CLK_MODE), (u.resetAll false).holdBalls u)
  | 2 => (t, u.resetEngine t)
  | _ => (t, u.resetBlock t block)

/-- Whether the central unit is held in reset as a whole (R516, R519). -/
def U.held (u : U) : Bool :=
  u.sys.stretch || (match u.sys.ep with
    | some e => decide (e.reach ≤ 1)
    | none => false)

/-- Whether RESET_OUT_N is low (R515, R519, R520): stages 1 to 5 of a Cold or System episode, and while the stretcher acts. -/
def U.resetLow (u : U) : Bool :=
  u.sys.stretch || (match u.sys.ep with
    | some e => decide (e.reach ≤ 1) && decide (e.stage ≤ 5)
    | none => false)

/-- RESET_OUT_N put out where it has gone low (R520). -/
def U.showReset (u before : U) : U := if u.resetLow && !before.resetLow then u.emit (.resetOut true) else u

/-- A source asserts (R513, R516, R523), CRIT and CRIT_FUSE as uncorrectable errors, which raise UNCORR first (R454): an episode begins, or the exit restarts with the widest reach. While the stretcher acts the
reset controller's oscillator has stopped, and no source is sampled (R518, R519). -/
def resetAssert (t : TimeBase) (u : U) (src reach block : Nat) : TimeBase × U :=
  if src > 10 || u.sys.stretch then (t, u) else
  let u := if (src = 8 || src = 9) && !u.held then u.uncorrected t else u
  let reach := reachOf src reach
  let r := resetReach t u reach block
  let u' := r.2.withSys (fun s => { s with
    ep := some (Episode.join u.sys.ep src reach block t.ts64),
    shadow := s.shadow && !u.sys.ep.any (fun e => e.stage == 3) })
  (r.1, u'.showReset u)

/-- A source is released (R513, R516). -/
def U.resetRelease (u : U) (src : Nat) : U :=
  u.withSys (fun s => { s with ep := s.ep.map (fun e => { e with now := clrBit e.now src }) })

/-- The stage that follows (R515). -/
def Episode.next (e : Episode) : Nat :=
  match e.stage with
  | 1 => if e.reach = 0 then (if bitAt e.srcs 0 then 2 else 3) else 4
  | n => n + 1

/-- A stage entered. -/
def U.enterStage (u : U) (e : Episode) (n : Nat) : U := u.withSys (fun s => { s with ep := some { e with stage := n } })

/-- The straps captured (R512): bits 1:0 BOOT_SRC, 3:2 CLK_MODE, 4 UNIT_ID, 5 PREFER; reserved CLK_MODE and the blown manufacturing
lock give STRAP_BAD. -/
def U.strapCapture (u : U) (t : TimeBase) (s : Nat) : U :=
  let src := if bits s 0 2 = 3 then 0 else bits s 0 2
  let clk := if bits s 2 2 = 3 then 0 else bits s 2 2
  let u := (((u.wr R.SYS_STRAP_BOOT_SRC src).wr R.SYS_STRAP_CLK_MODE clk).wr R.SYS_STRAP_UNIT_ID (bits s 4 1)).wr
    R.SYS_STRAP_PREFER (bits s 5 1)
  let u := u.strapFields
  if bits s 0 2 = 3 || bits s 2 2 = 3 then u.raise t SYS.STRAP_BAD [] else u

/-- A fuse load ends (R523): it has read these words into the shadow. The map's places are not given, so the fields stand beside the
words (log entry 172). -/
def U.fuseDone (u : U) (t : TimeBase) (ws : List Nat) : U :=
  match u.sys.ep with
  | none => u
  | some e =>
    if e.stage ≠ 3 || e.now ≠ 0 then u
    else if fusePass ws then
      let n := ((u.wr R.SYS_FUSE_STATE 1).wr R.SYS_FUSE_DEF_TRIM 0).wr R.SYS_FUSE_FUSE_FAIL 0
      (((n.withSys (fun s => { s with words := ws, shadow := true })).fuseFields).showBalls u).enterStage e 4
    else
      let n := (u.inc R.SYS_FUSE_FAILS).withSys (fun s => { s with words := ws })
      let n := n.raise t SYS.FUSE_RETRY []
      if n.rd R.SYS_FUSE_FAILS < 3 then n
      else ((n.wr R.SYS_FUSE_FUSE_FAIL 1).wr R.SYS_FUSE_STATE 2).enterStage e 4

/-- The blocks and engines that an Engine or Block episode holds, as they leave it (R516). -/
def U.heldReset (u : U) (t : TimeBase) (e : Episode) : U :=
  let u := if e.reach = 2 then u.resetEngine t else u
  e.blocks.foldl (fun (u : U) i => u.resetBlock t i) u

/-- The end of an episode (R516, R521): the counter, the history. -/
def U.endEpisode (u : U) (e : Episode) : U :=
  u.withSys (fun s => { s with
    ep := none, count := min (2 ^ 32 - 1) (s.count + 1), hist := ((e.srcs, e.reach, e.ts) :: s.hist).take 8 }) |>.sealBak

/-- The reset controller's oscillator has stopped (R519). -/
def oscStopDetect (_t : TimeBase) (u : U) : TimeBase × U :=
  if u.sys.stretch then (_t, u) else
  let n := ((u.withSys (fun s => { s with ep := none })).resetAll true).withSys (fun s => { s with stretch := true })
  (TimeBase.start (u.rd R.SYS_STRAP_CLK_MODE), (n.holdBalls u).showReset u)

/-- The stretcher releases (R519): a Cold episode with STRETCH as its source. -/
def stretchRelease (t : TimeBase) (u : U) : TimeBase × U :=
  if !u.sys.stretch then (t, u) else
  let u := u.withSys (fun s => { s with stretch := false, ep := some ⟨2 ^ 10, 0, 0, [], 1, 0⟩ })
  (t, u)

/-- A request refused (R526). -/
def U.rstRej (u : U) (t : TimeBase) : U := u.raise t SYS.RST_REJ []

/-- A System reset requested (R526). -/
def rstSystem (t : TimeBase) (u : U) (key : Nat) : TimeBase × U :=
  if key = 0x5E7A then resetAssert t u 5 1 0 else (t, u.rstRej t)

/-- An Engine reset requested (R526). -/
def rstEngine (t : TimeBase) (u : U) (key : Nat) : TimeBase × U :=
  if key = 0x5E7A && !u.on R.DEP_CTL_CONV_EN then resetAssert t u 5 2 0 else (t, u.rstRej t)

/-- A Block reset requested (R526). -/
def rstBlock (t : TimeBase) (u : U) (key i : Nat) : TimeBase × U :=
  let eng := (decide (16 ≤ i) && decide (i ≤ 43)) || i == 49
  let fixed := i == 0 || i == 1 || i == 48 || i == 83 || i == 84 || i == 85
  if key = 0x5E7A && blockAt i && !fixed && !(eng && u.on R.DEP_CTL_CONV_EN) then resetAssert t u 5 3 i else (t, u.rstRej t)

/-- PEER_RESET asked for (R526). -/
def U.rstPeer (u : U) (t : TimeBase) (key : Nat) : U := if key = 0x5E7A then u.sidingControl peerResetBlock else u.rstRej t

/-- A control block received on Siding: PEER_RESET acts (R526). -/
def peerResetRx (t : TimeBase) (u : U) (b : Block) : TimeBase × U :=
  if u.sidingUp = 0 || b != peerResetBlock then (t, u) else
  if u.on R.SYS_RST_CTL_PEER_RST_EN && u.role != 3 then resetAssert t u 4 1 0 else (t, u.rstRej t)

/-- 1 ms after relinquishing with RLQ_RST set (R504, R513). -/
def rlqReset (t : TimeBase) (u : U) : TimeBase × U :=
  if u.role = 4 && u.on R.SDL_CTL_RLQ_RST then resetAssert t u 6 1 0 else (t, u)

/-- EN of the watchdog written 1 (R527). -/
def U.wdogEnable (u : U) : U := if u.on R.SYS_WDOG_EN then u else (u.wr R.SYS_WDOG_EN 1).withSys (fun s => { s with missed := 0 })

/-- A write of `SYS_WDOG_KICK` (R527). -/
def U.wdogKick (u : U) (key : Nat) : U := if key = 0xD0C5 then u.withSys (fun s => { s with missed := 0 }) else u

/-- A watchdog period ends without a kick (R527). -/
def wdogPeriodEnd (t : TimeBase) (u : U) : TimeBase × U :=
  if !u.on R.SYS_WDOG_EN then (t, u) else
  let u := (u.raise t SYS.WDOG_WARN []).withSys (fun s => { s with missed := s.missed + 1 })
  if u.sys.missed ≥ 2 then resetAssert t u 3 0 0 else (t, u)

/-- OT_WARN brought up to date (R528). -/
def U.otCheck (u : U) (t : TimeBase) : U :=
  let temp := u.rdS R.SYS_OT_TEMP
  let lim := (u.rd R.SYS_OT_OT_WARN : Int)
  let set := fun (u : U) b => u.withSys (fun s => { s with hot := b })
  if decide (temp ≥ lim) && !u.sys.hot then (set u true).raise t SYS.OT_WARN []
  else if decide (temp < lim - 5) && u.sys.hot then (set u false).endLasting t SYS.OT_WARN
  else u

/-- The die temperature (R528). -/
def U.dieTemp (u : U) (t : TimeBase) (temp : Int) : U := (u.wrS R.SYS_OT_TEMP (satS 8 temp)).otCheck t

/-- A change of the die temperature (R513, R528): OT asserts above OT_RST and is released below OT_RST − 10 °C. -/
def dieTempChange (t : TimeBase) (u : U) (temp : Int) : TimeBase × U :=
  let lim := (u.sys.fuse.otRst : Int)
  let on := match u.sys.ep with
    | some e => bitAt e.now 2
    | none => false
  if decide (temp > lim) && !on then resetAssert t u 2 0 0
  else if on then (t, if temp < lim - 10 then u.resetRelease 2 else u)
  else if u.held then (t, u)
  else (t, u.dieTemp t temp)

/-- Whether anything that R529 lists lies at or above 24 MiB. -/
def U.usesMeb (u : U) : Bool :=
  let m := 0x1800000
  decide (u.ledgerSpan.2 > m) || decide (u.capRegion.1 + u.capRegion.2 > m) || decide (u.rd R.SNP_BASE_BASE * 8192 + 8192 > m) ||
    (List.range 4).any (fun r => u.rd (R.PBX_RING_SIZE_SIZE r) != 0 &&
      decide (u.rd (R.PBX_RING_BASE_BASE r) * 2048 + u.rd (R.PBX_RING_SIZE_SIZE r) * 2048 > m)) ||
    (u.rd R.MLK_PQ_SIZE_SIZE != 0 && decide (u.rd R.MLK_PQ_BASE_BASE * 128 + u.rd R.MLK_PQ_SIZE_SIZE * 64 > m)) ||
    (u.rd R.MLK_PC_SIZE_SIZE != 0 && decide (u.rd R.MLK_PC_BASE_BASE * 128 + u.rd R.MLK_PC_SIZE_SIZE * 128 > m)) ||
    (u.rd R.SCH_RR_SIZE_SIZE != 0 && decide (u.rd R.SCH_RR_BASE_BASE * 16 + u.rd R.SCH_RR_SIZE_SIZE * 16 > m)) ||
    (List.range 16).any (fun r => u.rd (R.SDL_REG_LEN_LEN r) != 0 &&
      decide (u.rd (R.SDL_REG_BASE_BASE r) * 16 + u.rd (R.SDL_REG_LEN_LEN r) > m))

/-- Whether a write of `SYS_PWR` that powers down the domains of a mask is refused (R529): bit 0 CPB, 1 ENB, 2 MEB, 3 Q2, 4 Q3. -/
def U.pwrRefused (u : U) (down : Nat) : Bool :=
  let lanesOn := fun (a : Nat) => (List.range 24).any (fun i => u.on (R.LNS_CTL_EN (laneBase (a + i))))
  down != 0 && (u.on R.SYS_CFG_TWIN ||
    (bitAt down 0 && ((List.range 256).any (fun th => u.thr th != 0 && u.rd (R.SCH_THR_CFG_AFFINITY th) / 256 % 256 != 0) ||
      (List.range 8).any (fun c => u.sch.runs.any (fun e => e.1 == 8 + c)))) ||
    (bitAt down 1 && (List.range 6).any (fun a => u.on (R.FRN_CTL_EN (6 + a)) || u.on (R.MSH_CTL_EN (6 + a)))) ||
    (bitAt down 2 && u.usesMeb) || (bitAt down 3 && lanesOn 48) || (bitAt down 4 && lanesOn 72))

/-- The switches of `SYS_PWR` as a mask. -/
def U.pwrMask (u : U) : Nat := u.regs.word (fieldsAt unitMap 0 0x400000028)

/-- What a domain loses when it is powered down or comes up again (R514, R515, R529). -/
def U.domainReset (u : U) (t : TimeBase) (k : Nat) : U :=
  match k with
  | 0 => u.wr R.SYS_CORE_REL_REL (u.rd R.SYS_CORE_REL_REL % 256)
  | 1 => (List.range 6).foldl (fun (u : U) a => (u.resetBlock t (22 + a)).resetBlock t (38 + a)) u
  | 2 => { u with
      mem := u.mem.filter (fun e => decide (e.1 < 0x1800000))
      memh := { u.memh with
        poison := u.memh.poison.filter (fun a => decide (a < 0x1800000)), spare := u.memh.spare.filter (fun e => decide (e.1 < 24)) } }
  | _ =>
    let lo := laneBase (24 * (k - 1))
    { u.wipe t lo (lo + 0x18000) with lanes := u.lanes.filter (fun e => decide (e.1 < lo) || decide (lo + 0x18000 ≤ e.1)) }

/-- ON of `SYS_PWR_STAT` of the domain that a switch powers; a lane quarter has no bit. The cores of CPB read OFF while it is down and
are handled as retired (R437). -/
def U.showDomain (u : U) (k : Nat) (on : Bool) : U :=
  let u := if k = 0 then (List.range 8).foldl (fun (u : U) c => u.stopCore (8 + c) (if on then 0 else 3)) u else u
  let d := [4, 6, 9].getD k 12
  let v := u.rd R.SYS_PWR_STAT_ON
  u.wr R.SYS_PWR_STAT_ON (if on then setBit v d else clrBit v d)

/-- A write of `SYS_PWR` (R529): all of its changes or none. -/
def U.pwrWrite (u : U) (t : TimeBase) (v : Nat) : U :=
  let old := u.pwrMask
  let ks := List.range 5
  let down := ks.foldl (fun (m : Nat) k => if bitAt v k && !bitAt old k then m + 2 ^ k else m) 0
  let up := ks.filter (fun k => bitAt old k && !bitAt v k)
  if u.pwrRefused down then u.raise t SYS.PWR_REJ [] else
  let u := { u with regs := u.regs.store (fieldsAt unitMap 0 0x400000028) v }
  let u := (ks.filter (bitAt down)).foldl (fun (u : U) k => ((u.domainReset t k).showDomain k false).withSys
    (fun s => { s with rising := s.rising.filter (· != k) })) u
  let u := u.withSys (fun s => { s with rising := s.rising ++ up })
  u.put R.SYS_PWR_STAT_BUSY (!u.sys.rising.isEmpty)

/-- The domains powered up again have passed stages 4 and 5 (R529). -/
def U.powerUpDone (u : U) (t : TimeBase) : U :=
  let u := u.sys.rising.foldl (fun (u : U) k => (u.domainReset t k).showDomain k true) u
  (u.withSys (fun s => { s with rising := [] })).wr R.SYS_PWR_STAT_BUSY 0

/-- Whether the switch of a domain is off, or the domain still comes up (R529). -/
def U.domainOff (u : U) (k : Nat) : Bool := bitAt u.pwrMask k || u.sys.rising.contains k

/-- Whether the block at an index can be accessed (R576). -/
def U.blockOn (u : U) (addr : Nat) : Bool :=
  let i := (addr - 0x400000000) / 0x10000
  let n := (addr - 0x400400000) / 0x1000
  blockAt i && !u.blockHeld i &&
    !(((decide (22 ≤ i) && decide (i ≤ 27)) || (decide (38 ≤ i) && decide (i ≤ 43))) && u.domainOff 1) &&
    !(decide (67 ≤ i) && decide (i ≤ 69) && u.domainOff (if n < 72 then 3 else 4))

/-- A write of `SYS_CORE_REL` (R532). -/
def U.coreRelease (u : U) (v : Nat) : U :=
  let entry := u.rd R.SYS_CORE_ENTRY_L_ENTRY_LO * 4 + u.rd R.SYS_CORE_ENTRY_H_ENTRY_HI * 2 ^ 32
  (List.range 16).foldl (fun (u : U) c =>
    let rel := u.rd R.SYS_CORE_REL_REL
    if bitAt v c && !bitAt rel c && !(c ≥ 8 && u.domainOff 0) then (u.wr R.SYS_CORE_REL_REL (setBit rel c)).emit (.coreStart c entry)
    else u) u

/-- A command to BAK (R548): the reset counter, the history or the last-fault record emptied. -/
def U.bakClear (u : U) (key : Nat) (cnt hist lf : Bool) : U :=
  if key ≠ 0xBA4C then u else
  let u := u.withSys (fun s => { s with count := if cnt then 0 else s.count, hist := if hist then [] else s.hist })
  (if lf then { u with lf := [] } else u).sealBak

/-- The entries of `n` slots of 12 octets whose mark of an entry held satisfies `held` (R521, log entry 171). -/
def bakSlots (o : List Nat) (n : Nat) (held : List Nat → Bool) : List (List Nat) :=
  ((List.range n).map (fun i => (o.drop (12 * i)).take 12)).filter held

/-- VBAK has risen and finds these 296 octets in BAK, the check word last (R521): they stand when the CRC passes; otherwise BAK is
cleared. -/
def U.vbakRise (u : U) (o : List Nat) : U :=
  if le o 292 4 = crc32c (o.take 292) then
    { u.withSys (fun s => { s with
        count := le o 0 4, bakCrc := le o 292 4,
        hist := (bakSlots (o.drop 4) 8 (fun b => octet b 3 == 1)).map (fun b => (le b 0 2, octet b 2, le b 4 8)) }) with
      lf := (bakSlots (o.drop 100) 16 (fun b => decide (octet b 11 ≥ 128))).map
        (fun b => ⟨le b 0 8, le b 8 2, octet b 10, octet b 11 % 128⟩) }
  else
    { u.withSys (fun s => { s with count := 0, hist := [], bakLost := true, bakCrc := bakEmpty }) with lf := [] }

/-- The registers that show BAK (R548). -/
def U.syncBak (u : U) : U :=
  let s := u.sys
  let h := s.hist[u.rd R.SYS_HIST_SEL_ENTRY]?
  let c := s.hist.headD (0, 0, 0)
  let l := u.lf.reverse[u.rd R.SYS_LF_SEL_ENTRY]?
  let u := ((u.wr R.SYS_RST_CAUSE_SOURCES c.1).wr R.SYS_RST_CAUSE_REACH c.2.1).wr R.SYS_RST_CNT_COUNT s.count
  let e := h.getD (0, 0, 0)
  let u := ((u.wr R.SYS_HIST_SOURCES e.1).wr R.SYS_HIST_REACH e.2.1).put R.SYS_HIST_VALID h.isSome
  let u := (u.wr R.SYS_HIST_TSL_TS_LO e.2.2).wr R.SYS_HIST_TSH_TS_HI (e.2.2 / 2 ^ 32)
  let f := l.getD ⟨0, 0, 0, 0⟩
  let u := (((u.wr R.SYS_LF_CAUSE f.bit).wr R.SYS_LF_CLASS f.cls).wr R.SYS_LF_SOURCE f.src).put R.SYS_LF_VALID l.isSome
  (u.wr R.SYS_LF_TSL_TS_LO f.ts).wr R.SYS_LF_TSH_TS_HI (f.ts / 2 ^ 32)

/-- The ALIVE output (R451): it changes level each 500 µs of station time unless it is stopped, and not before the signal box first
sees the heartbeat. -/
def U.aliveToggle (u : U) (us : Nat) : U :=
  if us % 500 ≠ 0 || u.anyOpen3 || u.on R.DEP_STATUS_AV_LATCHED || u.rd R.SBX_STATE_HB ≠ 1 then u
  else ((u.drive [22]).emit (.alive (!u.sys.alive))).withSys (fun s => { s with alive := !s.alive })

/-- The start timeout (step 10 of "Starting", R541): the cells still missing are marked retired and counted. -/
def U.startTimeout (u : U) : U :=
  let gone := u.topo.cells.filter (fun c => !u.mlk.ok.contains c.cid && !u.flag c.cid .retired)
  (gone.foldl (fun (u : U) c => u.setFlag c .retired true) u).withSys (fun s => { s with missing := s.missing + gone.length })

end Sys2Proof.Machine
end

