-- ==== Sys2Proof/Machine/Journal.lean ====
section
/-! DEFINITION. The flash of the central unit: directory, partitions, its journal, the xSPI window
(R530, R545, R554, R555, R575). -/
namespace Sys2Proof.Machine

/-- Whether the directory holds its mark and its check word (R530). -/
def dirOk (f : Flash) : Bool := Flash.num f 240 4 == 0x44495142 && Flash.num f 252 4 == crc32c (Flash.bytes f 0 252)

/-- A partition of a type: offset and length (R530). -/
def partition (f : Flash) (ty : Nat) : Option (Nat × Nat) :=
  if !dirOk f then none else
  ((List.range 15).find? (fun i => Flash.num f (16 * i) 4 == ty)).map (fun i => (Flash.num f (16 * i + 4) 4, Flash.num f (16 * i + 8) 4))

/-- A record written to the journal of the unit, or false when it has no journal partition (R545). -/
def U.jrnAppend (u : U) (ty : Nat) (payload : List Nat) : Bool × U :=
  match partition u.flash 4 with
  | none => (false, u)
  | some (base, len) =>
    if len < 4096 then (false, u) else (true, { u with flash := journalAppend u.flash base len false ty payload })

/-- The slot records of the unit's journal, oldest first (R555). -/
def U.slotRecs (u : U) : List SlotRec :=
  match partition u.flash 4 with
  | none => []
  | some (base, len) => journalSlots u.flash base len

/-- A slot record written (R555). -/
def U.slotRecord (u : U) (r : SlotRec) : Bool × U := u.jrnAppend 2 r.bytes

/-- The partition of a firmware slot (R530, R553). -/
def U.slotPart (u : U) (s : Nat) : Nat × Nat := (partition u.flash (1 + s)).getD (0, 0)

/-- What the unit checks images against (R550, R553). -/
def U.verifier (u : U) : Verifier :=
  let f := u.sys.fuse
  ⟨0x7100, f.unitId, f.vendor, f.lock, f.owner, f.arb, true⟩

/-- The checks of an image in a slot of the unit (R553); without a partition it is no image. -/
def U.slotCheck (u : U) (s : Nat) : Nat :=
  let p := u.slotPart s
  if p.2 = 0 then 2 else imageCheck u.verifier u.flash p.1 p.2

/-- Whether a span meets a partition. -/
def meets (p : Option (Nat × Nat)) (a n : Nat) : Bool :=
  match p with
  | some (b, l) => decide (a < b + l) && decide (b < a + n)
  | none => false

/-- Whether program and erase of a span are refused (R554): the partition of the running slot, and the journal. -/
def U.flashShut (u : U) (a n : Nat) : Bool :=
  meets (partition u.flash 4) a n || (!u.on R.SYS_BOOT_RECOVERY && meets (partition u.flash (1 + u.rd R.SEC_BOOT_SLOT)) a n)

/-- A flash operation carried out (R575); a slot it changes has to pass VERIFY again. -/
def U.flashRun (u : U) (op : FlashOp) : U :=
  let span : Nat × Nat := match op with
    | .program a bs => (a, bs.length)
    | .erase a => (a, 65536)
  let good := u.sec.good.filter (fun s => !meets (partition u.flash (1 + s)) span.1 span.2)
  let flash := match op with
    | .program a bs => Flash.program u.flash a bs
    | .erase a => Flash.erase u.flash a 65536
  { u with flash := flash, sec := { u.sec with good := good, busy := true } }

/-- A flash operation asked for through the window or the alias (R554, R575): it waits while the flash is busy. -/
def U.flashAsk (u : U) (addr : Nat) (op : FlashOp) (a n : Nat) : U :=
  if u.flashShut a n then u.emit (.storeFault addr)
  else if u.sec.busy then { u with sec := { u.sec with wait := u.sec.wait ++ [op] } }
  else u.flashRun op

/-- A store through the xSPI window (R575). -/
def U.xspiProgram (u : U) (a : Nat) (bs : List Nat) : U :=
  if a + bs.length > 0x10000000 || bs.isEmpty then u else u.flashAsk (0x200000000 + a) (.program a bs) a bs.length

/-- A store to the erase alias (R575): only the first word of a sector erases it. -/
def U.xspiErase (u : U) (a : Nat) : U :=
  if a % 65536 ≠ 0 || a ≥ 0x10000000 then u else u.flashAsk (0x210000000 + a) (.erase a) a 65536

/-- The flash operation in progress has ended; the next that waits begins (R575). -/
def U.xspiDone (u : U) : U :=
  let u := { u with sec := { u.sec with busy := false } }
  match u.sec.wait with
  | [] => u
  | op :: rest => { u with sec := { u.sec with wait := rest } }.flashRun op

end Sys2Proof.Machine
end

