-- ==== Sys2Proof/Machine/Security.lean ====
section
/-! DEFINITION. The security block: slot commands, attestation of hubs and cells, the hub image service, the notices that lead to it
(R325, R549 to R564, R567, R572). -/
namespace Sys2Proof.Machine

namespace SEC
def ATT_FAIL : Cause := ⟨B.SEC, 0, some 1, 250, false, 1⟩
def ATT_DONE : Cause := ⟨B.SEC, 1, none, 250, false, 1⟩
def BOOT_FALLBACK : Cause := ⟨B.SEC, 2, some 1, 251, false, 1⟩
def VERIFY_FAIL : Cause := ⟨B.SEC, 3, some 0, 251, false, 1⟩
def CMD_REJ : Cause := ⟨B.SEC, 4, some 0, 251, false, 1⟩
def JRN_FAIL : Cause := ⟨B.SEC, 5, some 1, 255, false, 1⟩
end SEC

/-- The security block beside its registers replaced. -/
def U.withSec (u : U) (f : Sec → Sec) : U := { u with sec := f u.sec }

/-- The running slot (R572). -/
def U.slot (u : U) : Nat := u.rd R.SEC_BOOT_SLOT

/-- A number of the running image's header (R552). -/
def U.header (u : U) (o w : Nat) : Nat := Flash.num u.flash ((u.slotPart u.slot).1 + o) w

/-- A command refused (R557). -/
def U.secRej (u : U) (t : TimeBase) : U := (u.wr R.SEC_CMD_STAT_REJ 1).raise t SEC.CMD_REJ []

/-- A command started (R557, R572). -/
def U.secBegin (u : U) (op slot : Nat) : U := (u.wr R.SEC_CMD_STAT_BUSY 1).withSec (fun s => { s with run := some (op, slot) })

/-- Whether a command of an OP is refused (R557, R572). -/
def U.secRefused (u : U) (op slot key : Nat) : Bool :=
  let pend := u.on R.SEC_BOOT_PENDING
  let conv := u.on R.DEP_CTL_CONV_EN
  let bad := key != 0x5EC1 || conv
  u.on R.SEC_CMD_STAT_BUSY ||
  (match op with
   | 1 => slot == u.slot
   | 2 => slot == u.slot || pend || !u.sec.good.contains slot
   | 3 => false
   | 4 => pend || decide (u.header 20 1 ≤ u.sys.fuse.arb) || bad
   | 5 => u.sys.fuse.owner != 0 || bad
   | 6 => u.sys.fuse.owner == 0 || bad
   | 8 => false
   | _ => true)

/-- A slot command or journal write (R557, R572). -/
def U.secCommand (u : U) (t : TimeBase) (op slot key : Nat) : U :=
  if u.secRefused op slot key then u.secRej t else u.secBegin op slot

/-- The outcome of a journal write (R545, R571): a write that fails changes nothing. -/
def U.jrnResult (u : U) (t : TimeBase) (r : Bool × U) (fail : Bool) : U :=
  if fail || !r.1 then u.raise t SEC.JRN_FAIL [] else r.2

/-- The running image is no longer pending (R557). -/
def U.healthy (u : U) : U := (u.wr R.SEC_BOOT_PENDING 0).wr R.SEC_BOOT_TRIES 0

/-- The fuses blown (R550, R557). -/
def U.blow (u : U) (f : Fuses → Fuses) : U := u.withSys (fun s => { s with fuse := f s.fuse })

/-- The SRAM that a command reads: the owner key, the record of the journal (R557). -/
def U.secSpans (u : U) (op : Nat) : List (Nat × Nat) :=
  if op = 5 then [(u.rd R.SEC_CMD_ARG_ARG, 1952)] else if op = 8 then [(u.rd R.SEC_CMD_ARG_ARG, u.rd R.SEC_JRN_LEN)] else []

/-- The effect of a command that completes (R557); `fail` tells that its flash write failed. -/
def U.secEffect (u : U) (t : TimeBase) (fail : Bool) (op slot : Nat) : U :=
  let u := ((u.withSec (fun s => { s with run := none })).wr R.SEC_CMD_STAT_BUSY 0).wr R.SEC_CMD_STAT_DONE 1
  match op with
  | 1 =>
    let st := u.slotCheck slot
    let u := u.wr R.SEC_CMD_STAT_RESULT st
    if st = 0 then u.withSec (fun s => { s with good := s.good.filter (· != slot) ++ [slot] }) else u.raise t SEC.VERIFY_FAIL []
  | 2 => u.jrnResult t (u.slotRecord ⟨u.slot, some slot, 0, false⟩) fail
  | 3 => if u.on R.SEC_BOOT_PENDING then u.jrnResult t (u.healthy.slotRecord ⟨u.slot, none, 0, false⟩) fail else u
  | 4 => (u.wr R.SEC_BOOT_ARB (u.header 20 1)).blow (fun f => { f with arb := u.header 20 1 })
  | 5 =>
    let key := u.mem.readBytes (u.rd R.SEC_CMD_ARG_ARG) 1952
    (u.wr R.SEC_BOOT_OWNER_SET 1).blow (fun f => { f with owner := Config.shake256 key })
  | 6 => (u.wr R.SEC_BOOT_OWNER_LOCK 1).blow (fun f => { f with lock := true })
  | _ =>
    let data := u.mem.readBytes (u.rd R.SEC_CMD_ARG_ARG) (u.rd R.SEC_JRN_LEN)
    let r := u.jrnAppend (u.rd R.SEC_JRN_TYPE) data
    (u.wr R.SEC_CMD_STAT_RESULT (if fail || !r.1 then 7 else 0)).jrnResult t (r.1, r.2.wr R.SEC_CMD_STAT_RESULT 0) fail

/-- The command that runs completes (R557). -/
def U.secDone (u : U) (t : TimeBase) (fail : Bool) : U :=
  match u.sec.run with
  | none => u
  | some (op, slot) => u.reading t (u.secSpans op) (fun u => u.secEffect t fail op slot)

/-! ## Attestation -/

/-- Where the result of a target lies: hub `id`, or cell `id - 64` (R563). -/
def U.attEntry (u : U) (id : Nat) : Nat :=
  u.rd R.SEC_ATT_BASE_BASE * 1024 + (if id < 64 then id * 16 else 0x400 + (id - 64) * 16)

/-- The loop of a target cell, as hub × 64 + loop. -/
def attLoop (id : Nat) : Nat := cidHub (id - 64) * 64 + cidLoop (id - 64)

/-- A challenge sent with a fresh TAG and NONCE (R560, R562). -/
def U.attChallenge (u : U) (id : Nat) (second : Bool) : U :=
  let d := u.draw
  let nonce := d.1 % 2 ^ 256
  let u := d.2
  let tag := u.sec.tag
  let u := u.withSec (fun s => { s with tag := (tag + 1) % 256, chal := s.chal.set id ⟨tag, nonce, second⟩ })
  let cid := if id < 64 then 0 else id - 64
  let o := mailbox ([0x18, tag] ++ toBytes 2 (cid + 32768 * u.unitB) ++ [0, 0, 0, 0] ++ toBytes 32 nonce)
  if id < 64 then u.post id true 0 o else u.post (cidHub cid) false (cidLoop cid) o

/-- The next position of a loop challenged when none is outstanding (R562). -/
def U.attNext (u : U) (l : Nat) : U :=
  if u.sec.chal.any (fun e => decide (e.1 ≥ 64) && attLoop e.1 == l) then u else
  match (Tbl.get (α := List Nat) u.sec.todo l []) with
  | [] => u
  | id :: rest =>
    (u.withSec (fun s => { s with todo := if rest.isEmpty then Tbl.erase s.todo l else s.todo.set l rest })).attChallenge id false

/-- Whether this unit's entry of a cell reads PASS (R564). -/
def U.attPassed (u : U) (cid : Nat) : Bool := u.mem.read (u.attEntry (64 + cid) + 8) 1 == 1

/-- Attestation is complete when every entry has its result (R563); MLK then configures the cells that passed (R564). -/
def U.attFinish (u : U) (t : TimeBase) : U :=
  if !u.on R.SEC_ATT_STAT_RUNNING || !u.sec.chal.isEmpty || !u.sec.todo.isEmpty then u else
  let u := (u.wr R.SEC_ATT_STAT_RUNNING 0).raise t SEC.ATT_DONE []
  u.reading t (u.topo.cells.map (fun c => (u.attEntry (64 + c.cid), 16))) (fun u =>
    u.topo.cells.foldl (fun (u : U) c => if u.attPassed c.cid && !u.mlk.ok.contains c.cid then u.sendConfig t c.cid 1 else u) u)

/-- Whether the result table runs past SRAM (R572). -/
def U.attTooFar (u : U) : Bool := decide (u.rd R.SEC_ATT_BASE_BASE * 1024 + 0x400 + 24576 * 16 > 0x3000000)

/-- ATT_START (R562, R572). -/
def U.attStart (u : U) (t : TimeBase) : U :=
  if u.on R.SEC_CMD_STAT_BUSY || u.on R.SEC_ATT_STAT_RUNNING || u.attTooFar then u.secRej t else
  let hubs := u.topo.hubs
  let loops := hubs.flatMap (fun h => (List.range 64).filterMap (fun l =>
    let n := u.topo.loopSize h l
    if n = 0 then none else some (h * 64 + l, (List.range n).map (fun p => 64 + mkCid h l p))))
  let u := (((u.wr R.SEC_ATT_STAT_RUNNING 1).wr R.SEC_ATT_CNT_PASS 0).wr R.SEC_ATT_CNT_FAIL 0).wr R.SEC_CMD_STAT_DONE 1
  let ids := hubs ++ loops.flatMap (fun e => e.2)
  let u := ids.foldl (fun (u : U) id => u.memPut (u.attEntry id) (List.replicate 16 0)) u
  let u := u.withSec (fun s => { s with chal := [], todo := loops })
  let u := hubs.foldl (fun (u : U) h => u.attChallenge h false) u
  (loops.foldl (fun (u : U) e => u.attNext e.1) u).attFinish t

/-- A result written (R563). -/
def U.attResult (u : U) (t : TimeBase) (id code : Nat) (a : List Nat) : U :=
  let g := fun (o n : Nat) => (a.drop o).take n
  let entry := if a.isEmpty then List.replicate 8 0 ++ [code] ++ List.replicate 7 0
    else g 4 8 ++ [code, a.getD 3 0, a.getD 144 0, 0] ++ g 140 4
  let u := u.memPut (u.attEntry id) entry
  let u := u.withSec (fun s => { s with chal := Tbl.erase s.chal id })
  let run := u.on R.SEC_ATT_STAT_RUNNING
  let u := if run then u.inc (if code = 1 then R.SEC_ATT_CNT_PASS else R.SEC_ATT_CNT_FAIL) else u
  let u := if code = 1 then u else u.raise t SEC.ATT_FAIL []
  let u := if id < 64 then u else u.attNext (attLoop id)
  let u := if !run && id ≥ 64 && code = 1 then u.sendConfig t (id - 64) 1 else u
  u.attFinish t

/-- A certificate of an answer is valid under the issuing key this unit holds (R551). -/
def certOk (issuer : Nat) (c : List Nat) : Bool :=
  let n := fun (o w : Nat) => ofBytes ((c.drop o).take w)
  n 0 4 == 0x54435142 && n 4 2 == 1 && n 32 32 == issuer && Config.mlDsaVerify (issuer + 2 ^ 256) (n 0 2016) (n 2016 3309)

/-- The check of a complete answer (R563): its RESULT. -/
def U.attCheck (u : U) (id : Nat) (c : Chal) (a : List Nat) : Nat :=
  let n := fun (o w : Nat) => ofBytes ((a.drop o).take w)
  let cert := (a.drop 3457).take 5328
  let m := fun (o w : Nat) => ofBytes ((cert.drop o).take w)
  let hw := if id < 64 then 0x7300 else 0x7020
  let img := (partition u.flash (if id < 64 then 6 else 7)).map (fun p => Flash.num u.flash (p.1 + 64) 32)
  let cfg := n 108 32
  if a.length ≠ 8785 || n 0 2 ≠ hw || n 12 32 ≠ c.nonce || n 145 1 ≠ u.unitB then 7
  else if !certOk u.sys.fuse.issuer cert || m 8 8 ≠ n 4 8 || m 6 2 ≠ hw then 3
  else if !Config.mlDsaVerify (m 64 1952 + 2 ^ 512) (n 0 148) (n 148 3309) then 4
  else if img ≠ some (n 76 32) || n 44 32 ≠ measurement (n 76 32) cfg then 5
  else if cfg ≠ 0 && (id < 64 || cfg ≠ u.lg (id - 64) 0x210 32) then 6
  else 1

/-- The SRAM that the check of an answer reads: the check word in the ledger record of the cell (R539, R563). -/
def U.attSpans (u : U) (id : Nat) : List (Nat × Nat) := if id < 64 then [] else [(u.lgr (id - 64) 0x210, 32)]

/-- The complete answer of a hub or a cell (R562, R563): an answer to the peer, or one that no challenge asks for, is ignored. -/
def U.attAnswer (u : U) (t : TimeBase) (id : Nat) (unitB : Bool) (tag : Nat) (a : List Nat) : U :=
  match Tbl.find? u.sec.chal id with
  | some c => if b2n unitB = u.unitB && c.tag = tag then
      u.reading t (u.attSpans id) (fun u => u.attResult t id (u.attCheck id c a) a) else u
  | none => u

/-- No complete answer within ATT_TMO (R562). -/
def U.attTimeout (u : U) (t : TimeBase) (id : Nat) : U :=
  match Tbl.find? u.sec.chal id with
  | some c => if c.second then u.attResult t id 2 [] else u.attChallenge id true
  | none => u

/-- A cell that has rejoined is attested alone (R325, R544). -/
def U.reattest (u : U) (cid : Nat) : U :=
  let id := 64 + cid
  let u := u.memPut (u.attEntry id) (List.replicate 16 0)
  let u := u.withSec (fun s => { s with chal := Tbl.erase s.chal id })
  let u := u.withMlk (fun m => { m with ok := m.ok.filter (· != cid), cfg := Tbl.erase m.cfg cid })
  let l := attLoop id
  let wait : List Nat := (Tbl.get (α := List Nat) u.sec.todo l []).filter (· != id) ++ [id]
  (u.withSec (fun s => { s with todo := s.todo.set l wait })).attNext l

/-- A NOTICE of a hub (R325, R332, R333): UNREACH 1 retires the cell, REJOIN 2 sets UNSEEDED and attests it anew. -/
def U.notice (u : U) (t : TimeBase) (h kind cid : Nat) : U :=
  if cidHub cid ≠ h then u else
  match u.cellOf cid with
  | none => u
  | some e =>
    let u := (u.wr R.MLK_NOTICE_CID cid).wr R.MLK_NOTICE_KIND kind
    if kind = 1 then (u.setFlag e.2 .retired true).raise t (MLK.UNREACH h) (MLK.det h cid)
    else if kind = 2 then ((u.setFlag e.2 .unseeded true).raise t (MLK.REJOIN h) (MLK.det h cid)).reattest cid
    else u

/-- A NOTICE frame received (R331, R333). -/
def U.noticeRx (u : U) (t : TimeBase) (lane : Nat) (blocks : List Block) : U :=
  match u.hubFrame t lane blocks with
  | (some b, u) => if isMsg b 6 then u.notice t (lane / 2) (octet b 1) (le b 7 2 % 32768) else u
  | (none, u) => u

/-- A READ of a hub's ROM (R565, R567): the bytes of partition TYPE 6, without firmware. -/
def U.imageRead (u : U) (h : Nat) (o : List Nat) : U :=
  let q := readUpd o
  let offset := q.offset
  if !isUpd o 5 then u else
  let p := partition u.flash 6
  let st := if p.isNone then 8 else 0
  let data := match p with
    | some (b, _) => Flash.bytes u.flash (b + offset) 52
    | none => List.replicate 52 0
  u.post h true 0 ([0x21, q.tag] ++ toBytes 2 (32768 * u.unitB) ++ [5, st, 0, 0] ++ toBytes 4 (offset + 52) ++ data)

/-- A core access to the key store (R549). -/
def keyStoreViolation (t : TimeBase) (u : U) : TimeBase × U := resetAssert t u 7 0 0

end Sys2Proof.Machine
end

