-- ==== Sys2Proof/Machine/UnitStore.lean ====
section
/-! DEFINITION. Core stores to and loads from the registers and the SRAM of the central unit: the access codes, and the rule of each
register that has one of its own (R7 to R10, R75, R386, R574 to R577, R603). -/
namespace Sys2Proof.Machine

/-- The fields of a register; a private register is the core's own copy (R577). The map places the registers of the sequence monitors
at the addresses of the record of port 30 (R284): they answer there, and the state holds them 4 GiB higher (log entry 41). -/
def unitFields (core addr : Nat) : List (Fld × List (Nat × Nat)) :=
  if 0x400321000 ≤ addr && addr < 0x400321030 then fieldsAt unitMap core (addr + 0x100000000) else fieldsAt unitMap core addr

/-- A store by access code to the fields of a register that a predicate keeps. -/
def U.plain (u : U) (core addr v : Nat) (keep : Fld → Bool) : U :=
  { u with regs := u.regs.store ((unitFields core addr).filter (fun e => keep e.1)) v }

/-- A store by access code to a whole register. -/
def U.plainAll (u : U) (core addr v : Nat) : U := u.plain core addr v (fun _ => true)

/-- Whether a store would change a field that a predicate names (R603). -/
def U.wouldChange (u : U) (core addr v : Nat) (p : Fld → Bool) : Bool := (u.regs.changed (unitFields core addr) v).any p

/-- Whether a store gives a field a value outside its range. -/
def storeOutside (core addr v : Nat) : Bool :=
  (unitFields core addr).any (fun e => e.1.acc == .rw && !inRange e.2 (bits v e.1.lo e.1.width))

/-- A store to a register of TIM that leaves the time base as it is (R36 to R52): clearing TXQ_OVF clears DROP with it. -/
def U.storeTim (u : U) (t : TimeBase) (core addr v : Nat) : U :=
  let o := addr % 0x10000
  if o = 0 then u.timCtlWrite t v
  else if o = 0x0C then u.stepWrite v
  else if o = 0x40 then (if bitAt v 0 then u.depStart t (bitAt v 1) else if bitAt v 1 then u.depStop t else u)
  else if o = 0x44 then u.depStartWrite t v
  else
    let u := u.plainAll core addr v
    if 0x100 ≤ o && o < 0x140 && o % 16 = 0 then
      let p := (o - 0x100) / 16
      let u := if bitAt v 8 then u.wr (R.TIM_TXQ_STAT_DROP p) 0 else u
      if bitAt v 12 then u.txqPop p else u
    else u

/-- A store to a register of SNP (R398, R399): one whose GO is refused leaves the register unchanged (R603). -/
def U.storeSnp (u : U) (t : TimeBase) (core addr v : Nat) : U :=
  let o := addr % 0x10000
  let go := o == 0x20 && bitAt v 31
  let w := u.plain core addr v (fun f => f.acc != .w1s)
  if go then (if w.tcmdOk t then w.tcmdGo else u.tcmdRej t) else if o = 0 && bitAt v 0 then w.snpFire else w

/-- A store to a register of Firn of an arm (R78, R604): a store that would clear EN under converter functions is refused whole (R603). -/
def U.storeFrn (u : U) (a core addr v : Nat) : U :=
  let o := addr % 0x10000
  if o = 0 then
    (if !bitAt v 0 && u.on (R.FRN_CTL_EN a) && u.on R.DEP_CTL_CONV_EN then u
     else (u.plain core addr v (fun f => f.lo != 0)).frnEnWrite a (bitAt v 0))
  else if o = 0x44 then
    (if bitAt v 31 then u.frnCmdWrite a (bits v 0 11) (bits v 16 3) else u.plain core addr v (fun f => f.acc != .w1s))
  else u.plainAll core addr v

/-- A store to a register of the selection engine of an arm (R101, R113, R114): a refused change of EN refuses the store whole (R603);
TMIN and DEAD keep a sum of at most 500 ns. -/
def U.storeMsh (u : U) (a core addr v : Nat) : U :=
  let o := addr % 0x10000
  let en := u.on (R.MSH_CTL_EN a)
  let tm := if o = 0xC then bits v 16 10 else u.rd (R.MSH_TRIM_TMIN a)
  let dd := if o = 0x10 then bits v 0 10 else u.rd (R.MSH_DEAD_DEAD a)
  if o = 0 then
    (if (en && !bitAt v 0 && u.on R.DEP_CTL_CONV_EN) || (!en && bitAt v 0 && !u.on (R.FRN_CTL_EN a)) then u
     else (u.plain core addr v (fun f => f.lo != 0)).mshEnWrite a (bitAt v 0))
  else if o = 0xC || o = 0x10 then
    u.plain core addr v (fun f =>
      (f.key != (R.MSH_TRIM_TMIN a).key && f.key != (R.MSH_DEAD_DEAD a).key) || decide (tm + dd ≤ 500))
  else if o = 0x64 then
    (if bitAt v 31 then u.mshCmdWrite a (bits v 0 11) (bits v 16 3) else u.plain core addr v (fun f => f.acc != .w1s))
  else u.plainAll core addr v

/-- The firmware's avalanche (R139). -/
def U.avFire (u : U) (t : TimeBase) : U := u.avalanche t 1 0

/-- A store to a register of DEP (R118 to R120, R127, R144, R148, R605, R606). A store that would change LEAD when it may not be written,
or set CONV_EN against R119, is refused whole (R603); a write of 0 to CONV_EN is accepted even then (R120; log entry 127). -/
def U.storeDep (u : U) (t : TimeBase) (core addr v : Nat) : U :=
  let o := addr % 0x10000
  if o = 0 then
    let lead := bits v 4 4
    let bad := lead != u.rd R.DEP_CTL_LEAD && decide (2 ≤ lead) && decide (lead ≤ 8) && u.rd R.TIM_DEP_CTL_STATE != 0
    let on := bitAt v 0 && !u.on R.DEP_CTL_CONV_EN
    if on && !u.convOk then u.convEnWrite t true
    else if bad then (if bitAt v 0 then u else u.wr R.DEP_CTL_CONV_EN 0)
    else (u.leadWrite lead).convEnWrite t (bitAt v 0)
  else if o = 0x20 then
    let u := if bitAt v 0 then u.avFire t else u
    if bitAt v 1 then u.avClear t else u
  else if o = 0x80 && bitAt v 31 then
    match bits v 20 2 with
    | 1 => u.forceSet t (bits v 0 15) (bits v 16 4)
    | 2 =>
      let r := u.forceRelease t (bits v 0 15)
      if u.dep.force.any (fun e => e.cid == bits v 0 15) then r.wr R.DEP_FORCE_CTL_CODE (bits v 16 4) else r
    | 3 => ((u.forceReleaseAll t).wr R.DEP_FORCE_CTL_CID (bits v 0 15)).wr R.DEP_FORCE_CTL_CODE (bits v 16 4)
    | _ => u.plain core addr v (fun f => f.acc != .w1s)
  else if o = 0x94 then u.depPeek t v
  else u.plain core addr v (fun f => f.acc != .w1s)

/-- A store to a register of the loop engine (R216, R229 to R233, R243, R252). -/
def U.storeLpe (u : U) (t : TimeBase) (core addr v : Nat) : U :=
  let o := addr % 0x10000
  let s := (o - 0x1000) / 0x80
  let w := o % 0x80
  if o = 0 then u.lpeEnWrite (bitAt v 0)
  else if 0x8000 ≤ o && o < 0x9000 then u.boardStore t ((o - 0x8000) / 4) v
  else if 0x1000 ≤ o && o < 0x4000 then
    if w < 0x10 then u.slotWrite t s (w / 4) v
    else if 0x20 ≤ w && w < 0x40 then u.slotCoefStore s ((w - 0x20) / 4) v
    else if 0x40 ≤ w && w < 0x60 then u.slotStateStore t s ((w - 0x40) / 4) v
    else u
  else u.plainAll core addr v

/-- A store to a register of a direct sensor port or a sequence monitor (R258 to R270, R284). -/
def U.storeSns (u : U) (t : TimeBase) (core addr v : Nat) : U :=
  let o := addr % 0x10000
  let p := (o - 0x100) / 0x80
  let w := o % 0x80
  let rej := u.raise t SNS.WR_REJ (SNS.det p)
  if 0x100 ≤ o && p < 32 && !(decide (0x1000 ≤ o) && decide (o < 0x1030)) then
    let en := u.on (R.SNS_PCFG_EN p)
    if w = 0 then
      let pair := p % 2 == 0
      if (en && u.wouldChange core addr v (fun f => (pair && f.lo == 1) || f.lo == 2)) ||
          (en && !bitAt v 0 && u.bound p && u.on R.DEP_CTL_CONV_EN) then rej
      else
        let u := u.plain core addr v (fun f => f.lo != 0 && (pair || f.lo != 1))
        let u := if u.on (R.SNS_PCFG_PAIR p) then u.wr (R.LPE_BOARD_VALUE (p + 1)) 0 else u
        u.portEnWrite t p (bitAt v 0)
    else if w = 4 || w = 8 || w = 0xC then
      if en && u.wouldChange core addr v (fun _ => true) then rej
      else u.plain core addr v (fun f => !(w == 4 && f.lo == 0 && !u.on (R.SNS_PCFG_PAIR p) && decide (bits v 0 16 < 800)))
    else if w = 0x14 then u.ofsCommit p v
    else if w = 0x30 then (if bitAt v 0 then u.portRestore t p else u)
    else if w = 0x44 || w = 0x4C then u.thrCfgWrite t p ((w - 0x44) / 8) v
    else u.plainAll core addr v
  else if 0x1000 ≤ o && o < 0x1030 && o % 16 = 0 then
    let m := (o - 0x1000) / 16
    let was := u.on (R.SNS_SEQ_CFG_EN m)
    let u := u.plainAll core addr v
    if bitAt v 0 && !was then u.seqStart m else u.reversal t m
  else u.plainAll core addr v

/-- The subscriptions at 96 kHz that are enabled, apart from one (R274). -/
def U.fastSubs (u : U) (k : Nat) : Nat :=
  ((List.range 64).filter (fun j => j != k && u.on (R.SV_CFG_EN j) && u.rd (R.SV_CFG_RATE j) == 4)).length

/-- A store to a register of the process bus (R266, R273, R274, R282, R285). -/
def U.storePbx (u : U) (t : TimeBase) (core addr v : Nat) : U :=
  let o := addr % 0x10000
  let rej := fun (n : Nat) => u.raise t PBX.WR_REJ (PBX.det n)
  if o = 0 then (u.plain core addr v (fun f => f.lo != 0)).rateWrite t (bits v 0 4)
  else if 0x40 ≤ o && o < 0x80 then
    let r := (o - 0x40) / 16
    if o % 16 = 8 then (if r % 2 = 1 then u.txProd t (r / 2) (bits v 0 10) else u)
    else if o % 16 = 12 then (if r % 2 = 0 then u.plainAll core addr v else u)
    else u.plainAll core addr v
  else if 0x1000 ≤ o && o < 0x3000 then
    let k := (o - 0x1000) / 0x80
    let en := u.on (R.SV_CFG_EN k)
    let rate := if bits v 2 3 ≤ 4 then bits v 2 3 else u.rd (R.SV_CFG_RATE k)
    if en && u.wouldChange core addr v (fun f => !(f.addr == (R.SV_CFG_EN k).addr && f.lo == 0)) then rej k
    else if o % 0x80 = 0 && bitAt v 0 && !en && rate = 4 && u.fastSubs k ≥ 8 then rej k
    else
      let u := u.plainAll core addr v
      if o % 0x80 ≠ 0 || bitAt v 0 = en then u
      else
        let u := u.wr (R.SV_STAT_STATE k) (if bitAt v 0 then 1 else 0)
        u.withPbx (fun p => { p with smp := Tbl.erase p.smp k, arr := Tbl.erase p.arr k })
  else if 0x5000 ≤ o && o < 0x5400 then
    let j := (o - 0x5000) / 8
    if u.on (R.MAP_CFG_EN j) && u.wouldChange core addr v (fun f => !(f.addr == (R.MAP_CFG_EN j).addr && f.lo == 0)) then rej j
    else u.plainAll core addr v
  else if 0x6000 ≤ o && o < 0x7000 then
    let c := (o - 0x6000) / 0x80
    let en := u.on (R.GO_CFG_EN c)
    let cfg := fun (f : Fld) => f.addr == (R.GO_CFG_EN c).addr
    let clears := o % 0x80 == 0 && ((u.on (R.GO_CFG_SB_EN c) && !bitAt v 16) || (u.on (R.GO_CFG_AV_EN c) && !bitAt v 17))
    if en && u.wouldChange core addr v (fun f => !(cfg f && (f.lo == 0 || f.lo == 16 || f.lo == 17))) then rej c
    else if clears && u.on R.DEP_CTL_CONV_EN then rej c
    else
      let u := u.plainAll core addr v
      if o % 0x80 ≠ 0 || bitAt v 0 = en then u
      else (u.wr (R.GO_STAT_SEEN c) 0).withPbx (fun p => { p with go := Tbl.erase p.go c })
  else u.plainAll core addr v

/-- A store to a lane record (R289, R294, R295, R298, R299, R301, R304). -/
def U.storeLane (u : U) (t : TimeBase) (core addr v : Nat) : U :=
  let n := (addr - 0x400400000) / 0x1000
  let b := laneBase n
  let o := addr % 0x1000
  if n ≥ 100 then u
  else if o = 0 then u.onLane t n (fun io => io.ctlWrite b v)
  else if o = 0x08 then u.onLane t n (fun io => io.eqWrite (u.laneKind n) v)
  else if o = 0x0C then u.onLane t n (fun io => io.dfeWrite (u.laneKind n) v)
  else if o = 0x10 then u.onLane t n (fun io => io.txeqWrite (u.laneKind n) v)
  else if o = 0x20 then u.onLane t n (fun io => io.prbsWrite b v)
  else if o = 0x3C then
    let u := if bitAt v 0 then u.onLane t n (fun io => io.restore b) else u
    if bitAt v 1 then u.onLane t n (fun io => io.retrainCmd b) else u
  else u.plainAll core addr v

/-- A store to a register of MLK (R343, R347). -/
def U.storeMlk (u : U) (core addr v : Nat) : U := u.plainAll core addr v

/-- A store to a register of SDL (R493, R502, R504, R506, R509, R510): a refused SWAP leaves the register unchanged (R603), and a field
written outside its range stays as it is and raises WR_REJ. -/
def U.storeSdl (u : U) (t : TimeBase) (core addr v : Nat) : U :=
  let o := addr % 0x10000
  if o = 0 then
    if bitAt v 2 && !u.swapOk then u.swap t else
    let bad := storeOutside core addr v
    let u := u.plain core addr v (fun f => f.acc != .w1s)
    let u := if bad then u.raise t SDL.WR_REJ [] else u
    let u := if bitAt v 0 then u.join t else u
    let u := if bitAt v 2 then u.swap t else u
    let u := if bitAt v 3 then u.relinquishCause t 0 else u
    if bitAt v 4 then u.rejoin else u
  else if 0x100 ≤ o && o < 0x200 then
    if o % 16 = 0 then u.regionWrite t ((o - 0x100) / 16) false v
    else if o % 16 = 4 then u.regionWrite t ((o - 0x100) / 16) true v
    else u
  else
    let w := u.plainAll core addr v
    if storeOutside core addr v then w.raise t SDL.WR_REJ [] else w

/-- A store to a register of CAP (R390, R391, R406, R603). -/
def U.storeCap (u : U) (t : TimeBase) (core addr v : Nat) : U :=
  let o := addr % 0x10000
  let cfg := decide (o < 0x1C) || (decide (0x38 ≤ o) && decide (o < 0x48)) || decide (0x100 ≤ o)
  if cfg && u.capRuns && u.wouldChange core addr v (fun f => f.acc == .rw) then u.raise t CAP.WR_REJ [] else
  let w := u.plain core addr v (fun f => f.acc != .w1s &&
    !(f.key == R.CAP_TRIG_CHAN.key && decide (bits v 0 6 ≥ u.rd R.CAP_RATE_NCH)))
  if o ≠ 0 then w else if bitAt v 0 && w.capArmBad then u.raise t CAP.WR_REJ [] else
  let u := if bitAt v 0 then w.capStart t else w
  let u := if bitAt v 2 && (!bitAt v 0 || w.capRuns) then u.capSwtrig else u
  if bitAt v 1 then u.capStop t else u

/-- A scheduler command by its OP (R422). -/
def U.schCommand (u : U) (t : TimeBase) (core op arg : Nat) : U :=
  match op with
  | 1 => u.cmdCreate t core arg
  | 2 => u.cmdDestroy core arg
  | 3 => u.cmdReady t core arg
  | 4 => u.cmdCancel t core arg
  | 5 => u.cmdRestart t core arg
  | 6 => u.cmdPost t core arg
  | 7 => u.cmdRetire t core arg
  | 8 => u.cmdRestore core arg
  | _ => u.cmdResult core 2 0

/-- A store to a register of SCH (R415, R420, R422, R427, R429, R438, R440). -/
def U.storeSch (u : U) (t : TimeBase) (core addr v : Nat) : U :=
  let o := addr % 0x10000
  if o = 0x10 then u.endRun t core (v % 4)
  else if o = 0x20 then u.schCommand t core (v % 16) (bits v 8 8)
  else if o = 0x2C then u.ipiWrite core v
  else if 0x4000 ≤ o && o < 0x5000 && o % 16 = 0 then
    let th := (o - 0x4000) / 16
    let ch := u.wouldChange core addr v (fun _ => true)
    let aff := u.wouldChange core addr v (fun f => f.lo == 16)
    if ch && u.thr th > 1 then u.raise t SCH.CMD_REJ (SCH.det 0 th) else
    let u := u.plainAll core addr v
    if aff && !(List.range 16).any (fun c => u.permitted th c && u.coreUp c) then u.raise t SCH.AFF_EMPTY (SCH.det 0 th) else u
  else if 0x8000 ≤ o && o < 0x8800 && o % 32 = 0 then
    let f := (o - 0x8000) / 32
    if u.sch.items.any (fun i => i.flow == f) && u.wouldChange core addr v (fun x => x.lo != 1 && x.lo != 24)
    then u.raise t SCH.CMD_REJ [] else u.plainAll core addr v
  else if 0xC000 ≤ o && o < 0xC400 then u.srcWrite t ((o - 0xC000) / 4) v
  else u.plainAll core addr v

/-- A store to a register of the signal box (R464, R472, R481, R483, R484): the tick of a heartbeat written through this path is the
count of 25 ns of station time (log entry 40). -/
def U.storeSbx (u : U) (t : TimeBase) (core addr v : Nat) : U :=
  let o := addr % 0x10000
  if o = 0 then
    match v % 8 with
    | 0 => if bits v 16 16 = 0xC1EA then u else u.raise t SBX.CLR_REJ []
    | 1 => u.sbxClear t (bits v 16 16)
    | 2 => u.ftClear t (bits v 16 16)
    | _ => u.raise t SBX.CLR_REJ []
  else if o = 0x0C then u.hsWrite (v % 256)
  else if o = 0x10 then u.heart t (v % 256) (t.tns / 25)
  else if o = 0x18 then u.cfgLoad v
  else if o = 0x1C then
    if bitAt v 0 then u.cfgStart else if bitAt v 1 then u.cfgLock t else u
  else u.plainAll core addr v

/-- A store to a register of SEC (R557, R572). -/
def U.storeSec (u : U) (t : TimeBase) (core addr v : Nat) : U :=
  if addr % 0x10000 = 0x10 then
    (if v % 16 = 7 then u.attStart t else u.secCommand t (v % 16) (bits v 4 1) (bits v 16 16))
  else u.plainAll core addr v

/-- A store to a register of SYS that asks for no reset (R456, R527 to R529, R532, R548). -/
def U.storeSys (u : U) (t : TimeBase) (core addr v : Nat) : U :=
  let o := addr % 0x10000
  if o = 0x1C then
    let u := if u.on R.SYS_WDOG_EN then u else u.plain core addr v (fun f => f.lo == 0)
    if bitAt v 10 then u.wdogEnable else u
  else if o = 0x20 then u.wdogKick (v % 65536)
  else if o = 0x24 then (u.plainAll core addr v).otCheck t
  else if o = 0x28 then u.pwrWrite t v
  else if o = 0x48 then u.coreRelease v
  else if o = 0x4C then u.bakClear (bits v 16 16) (bitAt v 0) (bitAt v 1) (bitAt v 2)
  else if o = 0x804 || o = 0x808 then u.onMem t (fun io => io.injWrite 0x400000000 (o == 0x808) 8 (u.on R.DEP_CTL_CONV_EN) v)
  else u.plainAll core addr v

/-- The blocks with a fault record (R441). -/
def unitBlks : List Blk :=
  [B.SYS, B.MEM, B.TIM, B.SNP, B.DEP, B.LPE, B.SNS, B.PBX, B.MLK, B.SDL, B.CAP, B.SCH, B.SBX, B.SEC] ++
    (List.range 12).map B.FRN ++ (List.range 12).map B.MSH ++ (List.range 100).map B.LNS

/-- A 32-bit store to a register that leaves the time base as it is. -/
def U.storeReg (u : U) (t : TimeBase) (core addr v : Nat) : U :=
  match unitBlks.find? (fun b => b.ackAddr == addr) with
  | some b => if bitAt v 0 then u.ack t b else u
  | none =>
    let i := (addr - 0x400000000) / 0x10000
    if i = 0 then u.storeSys t core addr v
    else if i = 1 then u.storeTim t core addr v
    else if i = 2 then u.storeSnp t core addr v
    else if 16 ≤ i && i < 28 then u.storeFrn (i - 16) core addr v
    else if 32 ≤ i && i < 44 then u.storeMsh (i - 32) core addr v
    else if i = 48 then u.storeDep t core addr v
    else if i = 49 then u.storeLpe t core addr v
    else if i = 50 then u.storeSns t core addr v
    else if i = 51 then u.storePbx t core addr v
    else if 64 ≤ i && i < 71 then u.storeLane t core addr v
    else if i = 80 then u.storeMlk core addr v
    else if i = 81 then u.storeSdl t core addr v
    else if i = 82 then u.storeCap t core addr v
    else if i = 83 then u.storeSch t core addr v
    else if i = 84 then u.storeSbx t core addr v
    else if i = 85 then u.storeSec t core addr v
    else u

/-- A write of `SYS_RST_SW` (R526). -/
def rstSwWrite (t : TimeBase) (u : U) (v : Nat) : TimeBase × U :=
  let key := bits v 16 16
  if bitAt v 2 then (t, u.rstPeer t key)
  else match v % 4 with
    | 1 => rstSystem t u key
    | 2 => rstEngine t u key
    | 3 => rstBlock t u key (bits v 4 7)
    | _ => (t, u.rstRej t)

/-- A 32-bit store to a register (R10). -/
def storeReg (t : TimeBase) (u : U) (core addr v : Nat) : TimeBase × U :=
  if addr = 0x400010008 then incIntWrite t u v
  else if addr = 0x40001001C && bitAt v 31 then setLoad t u v
  else if addr = 0x400000014 then rstSwWrite t u v
  else (t, u.storeReg t core addr v)

/-- A core store into SRAM (R75, R386, R601): refused whole in a running capture region or an enabled arm's record. -/
def U.sramStore (u : U) (addr size v : Nat) : U :=
  if u.capHolds addr size || u.ledgerHolds addr size then u.emit (.storeFault addr)
  else u.memWrite addr size v

/-- Whether SRAM holds the bytes of an access and its domain is on (R574, R576). -/
def U.sramAt (u : U) (addr size : Nat) : Bool :=
  decide (addr + size ≤ 0x3000000) && !(decide (addr + size > 0x1800000) && u.domainOff 2)

/-- A core store to an address (R8, R574 to R576): registers take 32-bit naturally aligned stores alone; SRAM and the flash window take
the bytes that the store names, aligned or not (log entry 128). -/
def store (t : TimeBase) (u : U) (core addr size v : Nat) : TimeBase × U :=
  if u.sramAt addr size then (t, u.sramStore addr size v)
  else if 0x200000000 ≤ addr && addr + size ≤ 0x210000000 then (t, u.xspiProgram (addr - 0x200000000) (toBytes size v))
  else if 0x210000000 ≤ addr && addr + size ≤ 0x220000000 then
    (t, if size = 4 && addr % 4 = 0 then u.xspiErase (addr - 0x210000000) else u)
  else if 0x400000000 ≤ addr && addr < 0x401000000 && size = 4 && addr % 4 = 0 && u.blockOn addr then storeReg t u core addr v
  else (t, u.emit (.busError core addr))

/-- The value of a register without side effect (R10, R215, R458). -/
def U.readWord (u : U) (core addr : Nat) : Nat :=
  if 0x400318000 ≤ addr && addr < 0x400319000 then enc 32 (u.board ((addr - 0x400318000) / 4))
  else if addr = 0x400000834 then (MemIO.mk u.regs u.memh [] 0).spareWord 0x400000000
  else u.regs.word (unitFields core addr)

/-- A core load of a size in bytes (R8, R10, R51, R416, R422, R453, R454, R574, R575): its value, with the side effect that a register
gives a read; a register answers 32-bit aligned loads alone. The boot ROM is not given, and what it reads is free. -/
def U.loadReg (u : U) (t : TimeBase) (core addr size : Nat) : U :=
  if u.sramAt addr size then
    let bad := (MemIO.access ⟨u.regs, u.memh, [], 0⟩ 0x400000000 addr size).1
    let u := u.onMem t (fun io => (io.access 0x400000000 addr size).2)
    if bad then u.emit (.loadFault addr) else u.emit (.readData core addr (u.mem.read addr size))
  else if 0x100000000 ≤ addr && addr + size ≤ 0x100040000 then
    let d := u.draw
    d.2.emit (.readData core addr (d.1 % 2 ^ (8 * size)))
  else if 0x200000000 ≤ addr && addr + size ≤ 0x210000000 then
    u.emit (.readData core addr (Flash.num u.flash (addr - 0x200000000) size))
  else if addr % 4 ≠ 0 || size ≠ 4 || addr < 0x400000000 || addr ≥ 0x401000000 || !u.blockOn addr then u.emit (.busError core addr)
  else if addr = 0x400010020 then u.nowLatch t core
  else if addr = 0x400530000 then u.waitRead t core
  else if addr = 0x400530028 then u.cmdResRead core
  else
    let v := u.readWord core addr
    { u with regs := u.regs.readClear (unitFields core addr) }.emit (.readData core addr v)

/-- A core load in whose handshake hardware updates an RC field of the register (R12): the value before the update is returned, and
the update is applied after the clear. -/
def U.loadTie (u : U) (t : TimeBase) (core addr size : Nat) (x : Tie) : U :=
  let u := u.loadReg t core addr size
  { u with regs := u.regs.tie (unitFields core addr) x }

end Sys2Proof.Machine
end

