-- ==== Sys2Proof/Machine/ConfigLoad.lean ====
section
/-! DEFINITION. The configuration image: its checks, its load, factory defaults (R533 to R540). -/
namespace Sys2Proof.Machine

/-- A section of the image: TYPE, place in flash, length, entries (R533). -/
structure Sect where
  ty    : Nat
  at_   : Nat
  len   : Nat
  count : Nat
  deriving DecidableEq, Repr

/-- A failure of the load: step, section, entry (R539). -/
structure CfgFail where
  step  : Nat
  sect  : Nat
  entry : Nat
  deriving DecidableEq, Repr

/-- The sections of the image at a place of flash. -/
def cfgSects (f : Flash) (base : Nat) : List Sect :=
  (List.range (Flash.num f (base + 16) 4 % 256)).map (fun i =>
    let d := base + 64 + 16 * i
    Sect.mk (Flash.num f d 2) (base + Flash.num f (d + 4) 4) (Flash.num f (d + 8) 4) (Flash.num f (d + 12) 4))

/-- Whether a section has the size and count of its type (R535 to R538). -/
def Sect.shaped (s : Sect) : Bool :=
  match s.ty with
  | 1 => s.len == 1744
  | 2 => decide (s.count ≤ 16)
  | 3 => s.len == 16 * s.count
  | 4 => s.len == 8 * s.count
  | 5 => s.len == 8 * s.count
  | 6 => s.len == 256
  | _ => false

/-- Step 1 (R533, R539): header and directory well-formed; the first section that is not, or 255 for the header. -/
def cfgForm (f : Flash) (base part : Nat) : Option Nat :=
  let len := Flash.num f (base + 12) 4
  let n := Flash.num f (base + 16) 4
  let ss := cfgSects f base
  let times := fun (ty : Nat) => (ss.filter (fun s => s.ty == ty)).length
  if Flash.num f base 4 ≠ 0x46435142 || Flash.num f (base + 4) 2 ≠ 1 || Flash.num f (base + 6) 2 ≠ 0x7100 || len > part ||
      n = 0 || n > 255 || len < 64 + 16 * n + 3312 || times 1 ≠ 1 || times 3 ≠ 1 || times 6 ≠ 1 || times 2 > 1 || times 4 > 1 then some 255
  else (List.range n).find? (fun i =>
    let s := ss.getD i ⟨0, 0, 0, 0⟩
    !(s.shaped && Flash.num f (base + 64 + 16 * i + 2) 2 == 1 && (s.at_ - base) % 16 == 0 && decide (base + 64 + 16 * n ≤ s.at_) &&
      decide (s.at_ + s.len ≤ base + len - 3312)))

/-- Step 2 (R534): the check word and the signature by the key that KEY_SEL names, which its fused hash identifies (R550). -/
def cfgSigned (f : Flash) (base : Nat) (fuse : Fuses) : Bool :=
  let len := Flash.num f (base + 12) 4
  let sel := Flash.num f (base + 20) 1
  Flash.num f (base + 32) 32 == Config.shake256 (Flash.bytes f base 32 ++ Flash.bytes f (base + 64) (len - 3312 - 64)) &&
    (sel == 0 || (sel == 1 && fuse.owner != 0)) &&
    Config.mlDsaVerify (if sel = 0 then fuse.vendor else fuse.owner) (Flash.num f base 64) (Flash.num f (base + len - 3312) 3309)

/-- NSEG of an arm of the TOPOLOGY section (R536). -/
def topoSeg (f : Flash) (s a : Nat) : Nat := Flash.num f (s + 16 + 16 * a) 1

/-- The topology of the section at a place of flash, without its cells (R536). -/
def topoRead (f : Flash) (s check : Nat) : Topo :=
  let arms := (List.range 12).filter (fun a => topoSeg f s a != 0)
  let hubs := arms.flatMap (fun a => (List.range (topoSeg f s a)).map (fun k => 4 * a + k))
  let size := fun (h l : Nat) => bits (Flash.num f (s + 208 + 32 * h + l / 2) 1) (4 * (l % 2)) 4
  let b := fun (a o n : Nat) => Flash.num f (s + 16 + 16 * a + o) n
  { nseg := arms.map (fun a => (a, topoSeg f s a)), loops := hubs.map (fun h => (h, (List.range 64).map (size h))), cells := [],
    startTmo := Flash.num f (s + 2) 2, cfgId := check % 2 ^ 64, check := check,
    armImg := arms.map (fun a => (a, (b a 1 1, b a 2 2, b a 4 2))) }

/-- Step 3 (R4, R15, R26, R536, R539). A PORT of 32 or more binds no port, and the image is refused (log entry 125). -/
def topoOk (f : Flash) (s : Nat) (p : Topo) : Bool :=
  let cfg := Flash.num f s 1
  let lead := Flash.num f (s + 1) 1
  let ports := p.armImg.map (fun e => e.2.1)
  decide (cfg ≤ 1) && decide (2 ≤ lead) && decide (lead ≤ 8) && p.nseg.all (fun e => decide (e.2 ≤ 4) && (cfg == 1 || decide (e.1 < 6))) &&
    p.loops.all (fun e => e.2.all (fun n => decide (n ≤ 8))) && ports.all (fun n => decide (n < 32)) &&
    ports.eraseDups.length == ports.length && decide (1 ≤ p.startTmo) && decide (p.startTmo ≤ 600) &&
    Flash.num f (s + 4) 4 % 0x100000 == 0 &&
    p.armImg.all (fun e => decide (e.2.2.1 ≤ 2048) && decide (e.2.2.2 < 1024))

/-- The CIDs of a topology in ascending order (R18, R19). -/
def Topo.cids (p : Topo) : List Nat :=
  p.loops.flatMap (fun e => (List.range 64).flatMap (fun l => (List.range (e.2.getD l 0)).map (fun k => mkCid e.1 l k)))

/-- The entries of a class in the CLASS section, if the class exists (R537). -/
def classEntries (f : Flash) (cls : Nat) : Nat → Nat → Option (List (Nat × Nat))
  | _, 0 => none
  | a, n + 1 =>
    let count := Flash.num f (a + 2) 2
    if Flash.num f a 1 = cls then
      some ((List.range count).map (fun i => (Flash.num f (a + 4 + 8 * i) 2, Flash.num f (a + 8 + 8 * i) 4)))
    else classEntries f cls (a + 4 + 8 * count) n

/-- Whether an entry of a class or an override names a point of a configuration set (R537, R539). -/
def pointIn (f : Flash) (a : Nat) : Bool := decide (192 ≤ Flash.num f a 2) && decide (Flash.num f a 2 ≤ 575)

/-- The first class of the CLASS section that holds an entry of another point, by its place in the section (R539). -/
def classBad (f : Flash) (i : Nat) : Nat → Nat → Option Nat
  | _, 0 => none
  | a, n + 1 =>
    let count := Flash.num f (a + 2) 2
    if (List.range count).all (fun k => pointIn f (a + 4 + 8 * k)) then classBad f (i + 1) (a + 4 + 8 * count) n else some i

/-- A cell of the CELL section with its configuration set, if step 5 accepts it (R16, R537, R539): the CID is bits [14:0]. -/
def cellRead (f : Flash) (cell : Sect) (cls ovr : Option Sect) (i : Nat) : Option CellCfg :=
  let a := cell.at_ + 16 * i
  let b2 := Flash.num f (a + 2) 1
  let first := Flash.num f (a + 12) 2
  let count := Flash.num f (a + 14) 2
  let own := match cls with
    | some c => classEntries f (bits b2 1 4) c.at_ c.count
    | none => none
  let override := match ovr with
    | some o => if first + count ≤ o.count then
        some ((List.range count).map (fun k =>
          (Flash.num f (o.at_ + 8 * (first + k)) 2, Flash.num f (o.at_ + 8 * (first + k) + 4) 4))) else none
    | none => if count = 0 then some [] else none
  match own, override with
  | some x, some y =>
    let set := x ++ y
    if set.length ≤ 384 then
      some ⟨Flash.num f a 2 % 2 ^ 15, bitAt b2 0, Flash.num f (a + 4) 4, Flash.num f (a + 8) 4 % 2 ^ 24, set⟩
    else none
  | _, _ => none

/-- Step 5 (R18, R537, R539): the cells, or the entry that fails: where the list is not that of the topology, the first entry with another
CID than the topology's list, or the place of the first cell without an entry. -/
def cellsRead (f : Flash) (p : Topo) (cell : Sect) (cls ovr : Option Sect) : Nat ⊕ List CellCfg :=
  let cs := (List.range cell.count).map (cellRead f cell cls ovr)
  let ids := p.cids
  match (List.range cell.count).find? (fun i => (cs.getD i none).map (fun c => c.cid) != ids[i]? || (cs.getD i none).isNone) with
  | some i => .inl i
  | none => if cell.count < ids.length then .inl cell.count else .inr (cs.filterMap id)

/-- The ledger record of a cell as the load writes it (R74, R539). -/
def U.ledgerInit (u : U) (f : Flash) (cell : Sect) (ord : Nat) (c : CellCfg) : U :=
  let a := u.lgr c.cid 0
  let u := { u with mem := u.mem.filter (fun e => decide (e.1 < a) || decide (a + 0x400 ≤ e.1)), memh := MemIO.written u.memh a 0x400 }
  let i := (u.topo.cells.findIdx (fun d => d.cid == c.cid))
  let u := (((u.lgw c.cid 8 4 c.k0).lgw c.cid 0xC 4 c.k0).lgw c.cid 0x10 4 c.b).lgw c.cid 0x14 4 (b2n c.fb + 128)
  let u := u.setSel ord c.cid 0 false false false
  u.memPut (a + 0x200) (Flash.bytes f (cell.at_ + 16 * i) 16 ++ toBytes 32 (Config.shake256 (setBytes c.set)))

/-- EN of the Siding lanes and of the lanes of every configured hub (R304). -/
def U.cfgLanes (u : U) (t : TimeBase) : U :=
  ([96, 97, 98, 99] ++ u.topo.hubs.flatMap (fun h => [2 * h, 2 * h + 1])).foldl (fun (u : U) n =>
    if u.on (R.LNS_CTL_EN (laneBase n)) then u else u.onLane t n (fun io => io.enWrite (laneBase n) true)) u

/-- Step 6 (R304, R429, R493, R539): Image fields, lanes, ledger records, the mirror budget. -/
def U.cfgImage (u : U) (t : TimeBase) (f : Flash) (topo cell : Sect) (p : Topo) : U :=
  let twin := Flash.num f topo.at_ 1
  let u := { u with topo := p }
  let u := ((u.wr R.SYS_CFG_TWIN twin).wr R.SYS_LGR_BASE_BASE (Flash.num f (topo.at_ + 4) 4)).wr R.DEP_CTL_LEAD (Flash.num f (topo.at_ + 1) 1)
  let u := (List.range 12).foldl (fun (u : U) k => u.wr (R.SCH_FLOW_CFG_MODE (k + 1)) twin) u.imageFields
  let u := (List.range 12).foldl (fun (u : U) a => (u.armCells a).foldl (fun (u : U) e => u.ledgerInit f cell e.1 e.2) u) u
  (u.cfgLanes t).wr R.SDL_BUDGET_HW ((u.armsOn.foldl (fun (n : Nat) a => n + 303 + u.frnBytes a) 3926))

/-- Whether a REGS entry may name an offset (R538). -/
def regsMay (o : Nat) : Bool :=
  let i := o / 0x10000
  o == 0x10000 || o == 0x10010 || o == 0x10050 || i == 2 || (decide (16 ≤ i) && decide (i ≤ 27)) ||
    (decide (32 ≤ i) && decide (i ≤ 43)) || (decide (49 ≤ i) && decide (i ≤ 51)) || (decide (64 ≤ i) && decide (i ≤ 70)) ||
    (decide (80 ≤ i) && decide (i ≤ 83))

/-- The refusal causes of the blocks that REGS entries reach (R538, R539): those of TIM, LPE, SNS, PBX, SDL, CAP, SNP, SCH and the
lanes, and the refused commands of FRN and MSH. -/
def U.refusals (u : U) : List Bool :=
  [(B.TIM, 1), (B.TIM, 2), (B.TIM, 3), (B.TIM, 4), (B.LPE, 5), (B.SNS, 6), (B.PBX, 7), (B.SDL, 11), (B.SDL, 13), (B.CAP, 6), (B.SNP, 1),
      (B.SCH, 5)].map (fun e => u.on (e.1.status e.2)) ++
    (List.range 100).map (fun n => u.on ((B.LNS n).status 4)) ++
    (List.range 12).flatMap (fun a => [u.on (R.FRN_CMD_STAT_REJ a), u.on (R.MSH_CMD_STAT_REJ a)])

/-- One REGS entry (R538, R539): the store, or none when it fails. -/
def U.cfgReg (u : U) (t : TimeBase) (o v : Nat) : Option U :=
  let addr := 0x400000000 + o
  if !regsMay o || o % 4 ≠ 0 then none else
  let n := u.storeReg t 0 addr v
  if n.refusals ≠ u.refusals then none
  else if (unitFields 0 addr).any (fun e => e.1.acc == .rw && n.rd e.1 != bits v e.1.lo e.1.width) then none
  else some n

/-- The entries of a REGS section from one on (R539): the unit, or the entry that fails. -/
def U.cfgRegs (t : TimeBase) (f : Flash) (s : Sect) : Nat → Nat → U → Nat ⊕ U
  | _, 0, u => .inr u
  | i, n + 1, u =>
    match u.cfgReg t (Flash.num f (s.at_ + 8 * i) 4) (Flash.num f (s.at_ + 8 * i + 4) 4) with
    | none => .inl i
    | some u => U.cfgRegs t f s (i + 1) n u

/-- The REGS sections in directory order (R539). -/
def U.cfgRegSects (t : TimeBase) (f : Flash) : List (Nat × Sect) → U → CfgFail ⊕ U
  | [], u => .inr u
  | (k, s) :: rest, u =>
    if s.ty ≠ 5 then U.cfgRegSects t f rest u else
    match U.cfgRegs t f s 0 s.count u with
    | .inl i => .inl ⟨7, k, i⟩
    | .inr u => U.cfgRegSects t f rest u

/-- Step 8 (R482, R539): the signal box configuration written and locked. -/
def U.cfgSbx (u : U) (t : TimeBase) (f : Flash) (s : Sect) : U :=
  u.box (fun u => ((List.range 64).foldl (fun (u : U) n => u.cfgLoad (Flash.num f (s.at_ + 4 * n) 4)) u).cfgLock t)

/-- The load of the image in a partition (R539): the unit configured, or the failure. -/
def U.cfgRun (u : U) (t : TimeBase) (base part : Nat) : CfgFail ⊕ U :=
  let f := u.flash
  match cfgForm f base part with
  | some k => .inl ⟨1, if k = 255 then 0 else k, 0⟩
  | none =>
    if !cfgSigned f base u.sys.fuse then .inl ⟨2, 0, 0⟩ else
    let ss := cfgSects f base
    let nth := fun (ty : Nat) => ss.findIdx (fun s => s.ty == ty)
    let sect := fun (ty : Nat) => ss.find? (fun s => s.ty == ty)
    match sect 1, sect 3, sect 6 with
    | some topo, some cell, some sbx =>
      let p := topoRead f topo.at_ (Flash.num f (base + 32) 32)
      if !topoOk f topo.at_ p then .inl ⟨3, nth 1, 0⟩
      else if Flash.num f (topo.at_ + 4) 4 + ((p.cids.getLast?.map (fun c => (c + 1) * 0x400)).getD 0) > 0x3000000 then .inl ⟨4, nth 1, 0⟩
      else match (sect 2).bind (fun c => classBad f 0 c.at_ c.count),
          (sect 4).bind (fun o => (List.range o.count).find? (fun i => !pointIn f (o.at_ + 8 * i))),
          cellsRead f p cell (sect 2) (sect 4) with
        | some i, _, _ => .inl ⟨5, nth 2, i⟩
        | none, some i, _ => .inl ⟨5, nth 4, i⟩
        | none, none, .inl i => .inl ⟨5, nth 3, i⟩
        | none, none, .inr cells =>
          let u := u.cfgImage t f topo cell { p with cells := cells }
          match U.cfgRegSects t f ((List.range ss.length).zip ss) u with
          | .inl e => .inl e
          | .inr u =>
            let u := u.cfgSbx t f sbx
            if u.rd R.SBX_STATE_CFG = 2 then .inr (u.wr R.SYS_CFG_CFG_DEFAULT 0) else .inl ⟨8, nth 6, 0⟩
    | _, _, _ => .inl ⟨1, 0, 0⟩

/-- Factory defaults after a failed load (R539, R540): every block stands at its reset values, with the failure shown. -/
def cfgFail (t : TimeBase) (u : U) (e : CfgFail) : TimeBase × U :=
  let t := TimeBase.start (u.rd R.SYS_STRAP_CLK_MODE)
  let u := ((u.resetAll false).wr R.SYS_CFG_CFG_ERR (e.step - 1)).wr R.SYS_CFG_DET_SECT e.sect
  (t, (u.wr R.SYS_CFG_DET_ENTRY e.entry).raise t SYS.CFG_FAIL [])

/-- The configuration load of a boot (R531, R539, R540): without a configuration partition it fails at step 1. -/
def cfgLoad (t : TimeBase) (u : U) : TimeBase × U :=
  match partition u.flash 3 with
  | none => cfgFail t u ⟨1, 0, 0⟩
  | some (base, part) =>
    match u.cfgRun t base part with
    | .inr u => (t, u)
    | .inl e => cfgFail t u e

end Sys2Proof.Machine
end

