-- ==== Sys2Proof/Machine/Boot.lean ====
section
/-! DEFINITION. The boot ROM of the central unit, the stages of a reset and the recovery protocol (R515, R531, R556, R568 to R570). -/
namespace Sys2Proof.Machine

/-- Recovery entered (R531, R540): factory defaults stand. -/
def U.enterRecovery (u : U) (noImage : Bool) : U := (u.wr R.SYS_BOOT_RECOVERY 1).put R.SYS_BOOT_NO_IMAGE noImage

/-- The balls that the ROM drives (R524, R531, R568, log entry 173): the xSPI unless FUSE_FAIL leaves the flash alone, TXD and RXD for
recovery over the UART. -/
def U.romBalls (u : U) : U :=
  u.drive ((if u.on R.SYS_FUSE_FUSE_FAIL then [] else List.range 13) ++ (if u.rd R.SYS_STRAP_BOOT_SRC = 2 then [13, 14] else []))

/-- The domains of a reach released, in order (R514, R515). A Block reset holds no domain. -/
def U.releaseDomains (u : U) (reach : Nat) : U :=
  (if reach ≤ 1 then Domain.all else if reach = 2 then [.ena, .enb] else []).foldl (fun (u : U) d => u.emit (.released d)) u

/-- Firmware entered from a slot (R491, R531, R552, R572). -/
def U.enterFirmware (u : U) (t : TimeBase) (b : BootChoice) (s : Nat) : U :=
  let last := latestSlot b.recs
  let u := (((u.wr R.SYS_BOOT_SLOT s).wr R.SEC_BOOT_SLOT s).put R.SEC_BOOT_PENDING b.pending).wr R.SEC_BOOT_TRIES
    (if b.pending then last.tries else 0)
  let u := (u.put R.SEC_BOOT_FALLBACK b.fell).wr R.SEC_BOOT_KEY (u.header 21 1)
  let u := { u.wr R.SEC_VERSION_VERSION (u.header 16 4) with fwId := u.header 64 8 }
  let load := u.header 28 4
  let body := Flash.bytes u.flash ((u.slotPart s).1 + 4096) (u.header 24 4)
  let u := if load + body.length ≤ 0x3000000 then u.memPut load body else u
  let u := u.emit (.enter 0 (load + u.header 32 4))
  if b.fell then u.raise t SEC.BOOT_FALLBACK [] else u

/-- The boot ROM from stage BOOT (R531, R556). -/
def boot (t : TimeBase) (u : U) : TimeBase × U :=
  let u := (u.emit (.coreStart 0 0x100000000)).romBalls
  let u := if u.sys.bakLost then (u.withSys (fun s => { s with bakLost := false })).raise t SYS.BAK_LOST [] else u
  let src := u.rd R.SYS_STRAP_BOOT_SRC
  if u.on R.SYS_FUSE_FUSE_FAIL || src = 1 || src = 2 then (t, u.enterRecovery false)
  else if !dirOk u.flash then (t, u.enterRecovery true)
  else
    let old := u.slotRecs
    let b := bootChoice old (fun s => u.slotCheck s == 0)
    let u := (b.recs.drop old.length).foldl (fun (u : U) r => (u.slotRecord r).2) u
    match b.slot with
    | none => (t, u.enterRecovery true)
    | some s =>
      let r := cfgLoad t u
      (r.1, r.2.enterFirmware r.1 b s)

/-- A stage completes (R515, R516): not while a source is asserted; stage FUSE ends with its load. `straps` are the straps as they
stand. -/
def stageComplete (t : TimeBase) (u : U) (straps : Nat) : TimeBase × U :=
  match u.sys.ep with
  | none => (t, u)
  | some e =>
    if e.now ≠ 0 || u.sys.stretch then (t, u) else
    match e.stage with
    | 1 => (t, u.enterStage e e.next)
    | 2 => (TimeBase.start (if bits straps 2 2 = 3 then 0 else bits straps 2 2), (u.strapCapture t straps).enterStage e 3)
    | 3 => (t, u)
    | 4 => (t, u.enterStage e 5)
    | 5 =>
      let u := u.releaseDomains e.reach
      if e.reach ≤ 1 then (t, (u.emit (.resetOut false)).enterStage e 6) else (t, (u.heldReset t e).endEpisode e)
    | _ => boot t (u.endEpisode e)

/-- A recovery request (R569). -/
structure RecReq where
  seq    : Nat
  target : Nat
  offset : Nat
  len    : Nat
  data   : List Nat
  deriving DecidableEq, Repr

/-- The message of a recovery request: bytes 16-17 hold LEN, DATA follows from byte 20 (R569). -/
def readRec (m : List Nat) : RecReq := ⟨le m 4 4, octet m 8, le m 12 4, le m 16 2, (m.drop 20).take (le m 16 2)⟩

/-- A reply of the recovery protocol (R569). -/
def recReply (op status : Nat) (q : RecReq) (offset : Nat) (data : List Nat) : List Nat :=
  [0x52, 0x42, op, status] ++ toBytes 4 q.seq ++ [q.target % 256, 0, 0, 0] ++ toBytes 4 offset ++ toBytes 2 data.length ++ [0, 0] ++ data

/-- The MAC address of the ROM: 0x02, then UNIT_ID [39:0] (R568). -/
def U.romMac (u : U) : Nat := 2 * 2 ^ 40 + u.sys.fuse.unitId % 2 ^ 40

/-- Whether recovery uses the UART: BOOT_SRC 0b10; Ethernet port 0 otherwise (R531, R568). -/
def U.recUart (u : U) : Bool := u.rd R.SYS_STRAP_BOOT_SRC == 2

/-- The recovery message that octets of a transport carry, where the ROM serves that transport (R568). -/
def U.recMessage (u : U) (uart : Bool) (o : List Nat) : Option (List Nat) :=
  if !u.on R.SYS_BOOT_RECOVERY || uart != u.recUart then none
  else if uart then Eth.slipMessage o else Eth.udpData u.romMac 23377 o

/-- A reply sent on the transport of its request (R568); what a datagram's header leaves open is free (log entry 133). -/
def U.recSend (u : U) (uart : Bool) (o r : List Nat) : U :=
  if uart then u.emit (.recovery (Eth.slipSend (r ++ toBytes 4 (crc32c r))))
  else
    let x := u.draw
    x.2.emit (.ethFrame 0 (Eth.udpReply u.romMac o x.1 r))

/-- Whether octets of a transport are a recovery request of operation `op` (R568, R569). -/
def U.recIs (u : U) (op : Nat) (uart : Bool) (o : List Nat) : Option RecReq :=
  match u.recMessage uart o with
  | some m => if 20 ≤ m.length && le m 0 2 == 0x4252 && octet m 2 == op then some (readRec m) else none
  | none => none

/-- Whether a request repeats the SEQ of the previous one, and the reply to that (R569). -/
def U.recAgain (u : U) (seq : Nat) : Option (List Nat) :=
  match u.sec.prev with
  | some (s, r) => if s = seq then some r else none
  | none => none

/-- A request of the recovery protocol (R569, R570, R523): a repeated SEQ is answered with the previous reply; a request of another length
than its LEN, or of LEN above 1,024, is answered BAD_MSG; `run` gives the status, the OFFSET, the data and the unit. -/
def U.recover (u : U) (op : Nat) (uart : Bool) (o : List Nat) (run : RecReq → U → (Nat × Nat × List Nat) × U) : U :=
  match u.recIs op uart o with
  | none => u
  | some q =>
    match u.recAgain q.seq with
    | some r => u.recSend uart o r
    | none =>
      let x :=
        if u.on R.SYS_FUSE_FUSE_FAIL && op != 1 then ((8, 0, []), u)
        else if q.len > 1024 || (op == 4 && q.data.length != q.len) then ((1, q.offset, []), u)
        else run q u
      let r := recReply op x.1.1 q x.1.2.1 x.1.2.2
      (x.2.withSec (fun s => { s with prev := some (q.seq, r) })).recSend uart o r

/-- IDENT (R566, R570). -/
def U.recIdent (u : U) (uart : Bool) (o : List Nat) : U :=
  u.recover 1 uart o (fun _ u =>
    let f := u.sys.fuse
    let flags := u.rd R.SYS_FUSE_FUSE_FAIL + 2 * u.rd R.SYS_BOOT_NO_IMAGE + 4 * b2n (f.owner != 0) + 8 * b2n f.lock
    ((0, 0, toBytes 2 0x7100 ++ [0xC0, u.rd R.SEC_BOOT_SLOT + 2 * u.rd R.SEC_BOOT_PENDING] ++ toBytes 8 f.unitId ++
      toBytes 4 (u.rd R.SEC_VERSION_VERSION) ++ [f.arb, flags]), u))

/-- CERT_READ (R570). -/
def U.recCert (u : U) (uart : Bool) (o : List Nat) : U :=
  u.recover 2 uart o (fun q u =>
    if q.offset + q.len > 5328 then ((1, q.offset, []), u) else
    ((0, q.offset, ((u.sys.fuse.cert ++ List.replicate 5328 0).drop q.offset).take q.len), u))

/-- The slot that a recovery of firmware writes (R570). -/
def U.recSlot (u : U) : Nat :=
  let a := (latestSlot u.slotRecs).active
  if u.slotCheck a = 0 then 1 - a else 0

/-- The span of a TARGET (R569, R570). -/
def U.recSpan (u : U) (target : Nat) : Option (Nat × Nat) :=
  match target with
  | 0 => partition u.flash (1 + u.recSlot)
  | 1 => partition u.flash 3
  | 2 => partition u.flash 6
  | 3 => partition u.flash 7
  | 4 => some (0, 256)
  | _ => none

/-- BEGIN (R569, R570): any open session closes; the TARGET partition is erased. -/
def U.recBegin (u : U) (uart : Bool) (o : List Nat) (fail : Bool) : U :=
  u.recover 3 uart o (fun q u =>
    let target := q.target
    let u := u.withSec (fun s => { s with sess := none })
    if target > 4 then ((1, 0, []), u) else
    match u.recSpan target with
    | none => ((8, 0, []), u)
    | some (base, size) =>
      if fail then ((7, 0, []), u) else
      let u := { u with flash := Flash.erase u.flash base size }
      ((0, 0, []), u.withSec (fun s => { s with sess := some ⟨target, base, size, 0⟩ })))

/-- DATA (R566, R570): at the next OFFSET, or repeating an earlier one. -/
def U.recData (u : U) (uart : Bool) (o : List Nat) (fail : Bool) : U :=
  u.recover 4 uart o (fun q u =>
    let offset := q.offset
    let data := q.data
    match u.sec.sess with
    | none => ((8, 0, []), u)
    | some s =>
      if s.target ≠ q.target then ((8, s.next, []), u)
      else if offset > s.next || offset + data.length > s.size then ((6, s.next, []), u)
      else if offset < s.next then ((0, s.next, []), u)
      else if fail then ((7, s.next, []), u)
      else
        let n := offset + data.length
        let u := { u with flash := Flash.program u.flash (s.base + offset) data }
        ((0, n, []), u.withSec (fun x => { x with sess := some { s with next := n } })))

/-- The check of END for a TARGET (R570). -/
def U.recCheck (u : U) (s : RecSess) : Nat :=
  match s.target with
  | 0 => imageCheck u.verifier u.flash s.base s.size
  | 1 =>
    if (cfgForm u.flash s.base s.size).isSome then 2
    else if cfgSigned u.flash s.base u.sys.fuse then 0
    else
      let len := Flash.num u.flash (s.base + 12) 4
      if Flash.num u.flash (s.base + 32) 32 ≠ Config.shake256 (Flash.bytes u.flash s.base 32 ++
        Flash.bytes u.flash (s.base + 64) (len - 3312 - 64)) then 5 else 3
  | 2 => imageCheck ⟨0x7300, 0, u.sys.fuse.vendor, false, 0, 0, false⟩ u.flash s.base s.size
  | 3 => imageCheck ⟨0x7020, 0, u.sys.fuse.vendor, false, 0, 0, false⟩ u.flash s.base s.size
  | _ => if dirOk u.flash then 0 else 5

/-- END (R570): firmware that passes becomes the active slot. -/
def U.recEnd (u : U) (uart : Bool) (o : List Nat) (fail : Bool) : U :=
  u.recover 5 uart o (fun q u =>
    match u.sec.sess with
    | none => ((8, 0, []), u)
    | some s =>
      if s.target ≠ q.target then ((8, s.next, []), u) else
      let st := u.recCheck s
      let u := u.withSec (fun x => { x with sess := none })
      if st ≠ 0 || s.target ≠ 0 then ((st, s.next, []), u) else
      let slot := if partition u.flash 1 = some (s.base, s.size) then 0 else 1
      let r := u.slotRecord ⟨slot, none, 0, false⟩
      if fail || !r.1 then ((7, s.next, []), u) else ((0, s.next, []), r.2))

/-- BOOT (R570): a System reset after the reply. -/
def recBoot (t : TimeBase) (u : U) (uart : Bool) (o : List Nat) : TimeBase × U :=
  let acts := !u.on R.SYS_FUSE_FUSE_FAIL &&
    (match u.recIs 6 uart o with
     | some q => decide (q.len ≤ 1024) && (u.recAgain q.seq).isNone
     | none => false)
  let u := u.recover 6 uart o (fun _ u => ((0, 0, []), u))
  if acts then resetAssert t u 5 1 0 else (t, u)

end Sys2Proof.Machine
end

