-- ==== Sys2Proof/Machine/Injection.lean ====
section
/-! DEFINITION. What an injection of SYS_INJ makes the checkers of the unit find at a boundary, when they next read their words; SRAM words
and sensor words are injected where they are read (R455, R456). -/
namespace Sys2Proof.Machine

/-- The next check of an injection target, taken: how many symbols it sees inverted. -/
def U.inject (u : U) (target : Nat) : Option Nat × U :=
  let r := MemIO.inject ⟨u.regs, u.memh, [], 0⟩ 0x400000000 target
  (r.1, { u with regs := r.2.regs })

/-- TARGET 1, the block tables beside those of the other targets: which word it is stays open, so no more than the error is seen
(R452, R454). -/
def U.injectTables (u : U) (t : TimeBase) : U :=
  match u.inject 1 with
  | (some n, u) => u.onMem t (fun io => io.tableError 0x400000000 n)
  | (none, u) => u

/-- TARGET 4, the board and the slot records (R249): with CONT every entry that the runs latch and every slot record; with ONCE one of
them, a free choice. -/
def U.injectLoops (u : U) (t : TimeBase) : U :=
  if !u.on R.LPE_CTL_EN then u else
  let cont := u.on (R.SYS_INJ_CONT 0x400000000)
  match u.inject 4 with
  | (none, u) => u
  | (some n, u) =>
    let d := u.draw
    let hit := if cont then List.range 1120 else [d.1 % 1120]
    d.2.each hit (fun u k => if k < 1024 then u.lpeMemError t true k (decide (n < 2)) else u.lpeMemError t false (k - 1024) (decide (n < 2)))

/-- TARGET 7, the L1 of a core (R436): whether an uncorrectable error falls into a dirty line is a free choice. -/
def U.injectCore (u : U) (t : TimeBase) : U :=
  let core := u.rd (R.SYS_INJ_UNIT 0x400000000)
  if core ≥ 16 || !u.coreUp core then u else
  match u.inject 7 with
  | (none, u) => u
  | (some n, u) =>
    let d := u.draw
    d.2.coreError t core (if n < 2 then 2 else d.1 % 2)

/-- TARGET 2, 3, 5 and 6, critical state (R117, R436, R482, R525): the scheduler tables and the platform by symbol code, the locked signal
box configuration by parity, the fuse shadow by symbol code (log entry 167). An uncorrectable error is a reset source, 8 CRIT or
9 CRIT_FUSE. -/
def injectCritical (t : TimeBase) (u : U) : TimeBase × U :=
  let target := u.rd (R.SYS_INJ_TARGET 0x400000000)
  if !(target == 2 || target == 3 || target == 6 || (target == 5 && u.sbxLocked)) then (t, u) else
  match u.inject target with
  | (none, u) => (t, u)
  | (some n, u) =>
    if n < 2 && target != 5 then (t, u.onMem t (fun io => io.tableError 0x400000000 1))
    else resetAssert t u (if target = 6 then 9 else 8) 0 0

/-- The checks of a boundary. -/
def injectChecks (t : TimeBase) (u : U) : TimeBase × U := injectCritical t (((u.injectTables t).injectLoops t).injectCore t)

end Sys2Proof.Machine
end

