-- ==== Sys2Proof/Machine/Boundary.lean ====
section
/-! DEFINITION. A departure boundary of the central unit, in the order in which its blocks act, and the reference tick
(R34, R36, R38, R39, R46, R79, R121, R215, R217, R221, R384, R399, R424, R475, R492). -/
namespace Sys2Proof.Machine

/-- The mean of V̂ at `b` over the cells available for the departure planned there, as a board value (the table of board entries before
R216, R84): 0 when none is available. -/
def U.armMean (u : U) (a b : Nat) : Int :=
  let dn := (b + u.rd R.DEP_CTL_LEAD + 1) % 2 ^ 32
  let vs := ((u.topo.armCells a).filter (fun c => u.available dn c.cid)).map (fun c => u.hist c.cid b)
  if vs = [] then 0 else rdiv (vs.foldl (fun (s : Int) v => s + v) 0 * 16) vs.length

/-- The two board entries of an arm engine written at a boundary (R217). -/
def U.armFeed (u : U) (a b : Nat) : U :=
  (u.setBoard (192 + 2 * a) (sx 32 (u.rd (R.FRN_CUR_I a)) * 256)).setBoard (193 + 2 * a) (u.armMean a b)

/-- One arm at the boundary at `us`: Firn, its board entries, the selection engine's latches. -/
def U.armBoundary (u : U) (t : TimeBase) (us : Nat) (latch : U) (a : Nat) : U :=
  let b := us % 2 ^ 32
  let u := u.awake (16 + a) (fun u =>
    let u := u.firn t a b (us * 16000 % 2 ^ 64)
    if u.on (R.FRN_CTL_EN a) then u.armFeed a b else u)
  u.awake (32 + a) (fun u => u.mshBoundary a b latch.board)

/-- The SRAM of the ledger records of a mirror slice that the pair reads, `n` bytes of each (R452, R490). -/
def U.sliceSpans (u : U) (us n : Nat) : List (Nat × Nat) :=
  u.armsOn.flatMap (fun a => ((u.armCells a).filter (fun e => e.1 % 32 == sliceOf us)).map (fun e => (u.lgr e.2.cid 0, n)))

/-- What the pair does first at a boundary that starts a cycle (R492, R494 to R497): the sections of the last cycle applied, then the
latches of this one, before the interval's own work. -/
def U.cycleFirst (u : U) (t : TimeBase) (us : Nat) : U :=
  let u := u.reading t (if u.sdl.recv.isEmpty then [] else u.sliceSpans (us - 10) 0x140) (fun u => u.mirrorApply t us)
  u.reading t (u.sliceSpans us 0x20) (fun u => u.cycleLatch us)

/-- The boundary of the central unit at `us`, a count of full station time in µs; `latch` is the unit as the handshake found it. The ORD
digest is of the frames as frozen (R499); the row of the capture comes last, with every trigger of the handshake (R389). A block that a
reset episode holds does nothing (R516). -/
def U.boundary (u : U) (t : TimeBase) (us : Nat) (latch : U) : U :=
  let b := us % 2 ^ 32
  let ten := us % 10 = 0
  let u := u.withLpe (fun l => { l with edge := none })
  let u := ((u.awake 2 (fun u => u.snpTimed b)).depGenerator t b).awake 81 (fun u => u.roleBoundary t b)
  let u := if ten then u.awake 81 (fun u => u.cycleFirst t us) else u
  let u := (u.armsOn.foldl (fun (u : U) a => u.markFresh a) u).freeze t b
  let ord := u.ordDigest b
  let u := (u.awake 80 (fun u => (u.mlkBoundary us).timeFrame us)).tcmdFrozen ((b + u.rd R.DEP_CTL_LEAD) % 2 ^ 32)
  let u := u.each (List.range 12) (fun u a => u.armBoundary t us latch a)
  let u := ((u.awake 49 (fun u => u.lpeBoundary t us latch)).glacierCount t).prbsTime
  let u := if ten then (u.glacierBoard us).awake 81 (fun u => u.cycleStart t us latch ord) else u
  let u := u.snapAndRow t us latch
  u.withTim (fun h => { h with stepBnd := h.step.isSome, lastStep := h.lastStep.map (fun n => min 65535 (n + 1)) })

end Sys2Proof.Machine
end

