-- ==== Sys2Proof/Machine/RegsCell.lean ====
section
/-! DEFINITION. The register fields of the BQ7020, each with address, place, access code and reset value
as the register tables give them. A field whose reset value is a strap, fuse, image or BAK value stands at 0 until that
load (log entry 5). STATUS, ENABLE, FIRST, COUNT and ACK of the fault records are in Machine/Records.lean (R441). -/
namespace Sys2Proof.Machine.R

-- GTE_CTL (R181, 06_cell_switching.md)
abbrev GTE_CTL_TYPE : Fld := ⟨0x40010000, 0, 1, .rw, 0⟩
abbrev GTE_CTL_BYP_SEL : Fld := ⟨0x40010000, 1, 1, .rw, 0⟩
abbrev GTE_CTL_SAFE : Fld := ⟨0x40010000, 2, 1, .rw, 0⟩
abbrev GTE_CTL_LOCK : Fld := ⟨0x40010000, 3, 1, .w1s, 0⟩
abbrev GTE_CTL_TEST_EN : Fld := ⟨0x40010000, 4, 1, .rw, 0⟩
-- GTE_DEAD (R181, 06_cell_switching.md)
abbrev GTE_DEAD_DEAD_X : Fld := ⟨0x40010004, 0, 14, .rw, 2400⟩
abbrev GTE_DEAD_DEAD_Y : Fld := ⟨0x40010004, 16, 14, .rw, 2400⟩
-- GTE_WDOG (R181, 06_cell_switching.md)
abbrev GTE_WDOG_WDOG : Fld := ⟨0x40010008, 0, 8, .rw, 8⟩
abbrev GTE_WDOG_RUN : Fld := ⟨0x40010008, 8, 8, .ro, 0⟩
-- GTE_OUT (R181, 06_cell_switching.md)
abbrev GTE_OUT_OUT_ADV : Fld := ⟨0x4001000C, 0, 8, .rw, 0⟩
-- GTE_BOOT (R181, 06_cell_switching.md)
abbrev GTE_BOOT_ON_MAX : Fld := ⟨0x40010010, 0, 16, .rw, 5000⟩
abbrev GTE_BOOT_ADV : Fld := ⟨0x40010010, 16, 16, .rw, 500⟩
-- GTE_BOOT_PULSE (R181, 06_cell_switching.md)
abbrev GTE_BOOT_PULSE_T_REF : Fld := ⟨0x40010014, 0, 10, .rw, 400⟩
abbrev GTE_BOOT_PULSE_BOOT_LEGS : Fld := ⟨0x40010014, 16, 2, .rw, 0⟩
-- GTE_STATE (R181, 06_cell_switching.md)
abbrev GTE_STATE_CODE : Fld := ⟨0x40010020, 0, 4, .ro, 0⟩
abbrev GTE_STATE_OUTS : Fld := ⟨0x40010020, 4, 4, .ro, 0⟩
abbrev GTE_STATE_ROW : Fld := ⟨0x40010020, 8, 3, .ro, 0⟩
abbrev GTE_STATE_BLOCK_LATCH : Fld := ⟨0x40010020, 11, 1, .ro, 0⟩
abbrev GTE_STATE_RETIRE_LATCH : Fld := ⟨0x40010020, 12, 1, .ro, 0⟩
abbrev GTE_STATE_REQ_X : Fld := ⟨0x40010020, 13, 1, .ro, 0⟩
abbrev GTE_STATE_REQ_Y : Fld := ⟨0x40010020, 14, 1, .ro, 0⟩
-- GTE_EXEC_DN (R181, 06_cell_switching.md)
abbrev GTE_EXEC_DN_DN : Fld := ⟨0x40010024, 0, 32, .ro, 0⟩
-- GTE_TRIM (R181, 06_cell_switching.md)
abbrev GTE_TRIM_WIDTH : Fld := ⟨0x40010028, 0, 14, .ro, 0⟩
abbrev GTE_TRIM_ALIGN : Fld := ⟨0x40010028, 14, 1, .ro, 0⟩
abbrev GTE_TRIM_POL : Fld := ⟨0x40010028, 15, 1, .ro, 0⟩
abbrev GTE_TRIM_DUTY : Fld := ⟨0x40010028, 16, 16, .ro, 0⟩
-- GTE_CAL (R181, 06_cell_switching.md)
abbrev GTE_CAL_P_A : Fld := ⟨0x4001002C, 0, 7, .ro, 64⟩
abbrev GTE_CAL_OUT_A : Fld := ⟨0x4001002C, 7, 1, .ro, 0⟩
abbrev GTE_CAL_P_B : Fld := ⟨0x4001002C, 8, 7, .ro, 64⟩
abbrev GTE_CAL_OUT_B : Fld := ⟨0x4001002C, 15, 1, .ro, 0⟩
abbrev GTE_CAL_SERVING : Fld := ⟨0x4001002C, 16, 1, .ro, 0⟩
-- GTE_CNT_A (R181, 06_cell_switching.md)
abbrev GTE_CNT_A_DN_BAD : Fld := ⟨0x40010048, 0, 16, .rc, 0⟩
abbrev GTE_CNT_A_LATE : Fld := ⟨0x40010048, 16, 16, .rc, 0⟩
-- GTE_CNT_B (R181, 06_cell_switching.md)
abbrev GTE_CNT_B_MISSED_CNT : Fld := ⟨0x4001004C, 0, 16, .rc, 0⟩
abbrev GTE_CNT_B_ILLEGAL_CNT : Fld := ⟨0x4001004C, 16, 16, .rc, 0⟩
-- GTE_CNT_C (R181, 06_cell_switching.md)
abbrev GTE_CNT_C_EDGE_PUSH_CNT : Fld := ⟨0x40010050, 0, 8, .rc, 0⟩
abbrev GTE_CNT_C_CAL_BAD_CNT : Fld := ⟨0x40010050, 8, 8, .rc, 0⟩
abbrev GTE_CNT_C_AUTO_REF_CNT : Fld := ⟨0x40010050, 16, 8, .rc, 0⟩
abbrev GTE_CNT_C_PAT_REJ_CNT : Fld := ⟨0x40010050, 24, 4, .rc, 0⟩
abbrev GTE_CNT_C_GRANT_CNT : Fld := ⟨0x40010050, 28, 4, .rc, 0⟩
-- GTE_PAT (R181, 06_cell_switching.md)
abbrev GTE_PAT_PAT (i : Nat) : Fld := ⟨0x40010060 + i * 0x4, 0, 4, .rw, if i = 1 then 9 else if i = 2 then 6 else if i = 3 then 10 else if i = 4 then 5 else 0⟩
-- GTE_TEST (R181, 06_cell_switching.md)
abbrev GTE_TEST_OUTS : Fld := ⟨0x40010080, 0, 4, .rw, 0⟩
abbrev GTE_TEST_MODE_X : Fld := ⟨0x40010080, 4, 1, .rw, 0⟩
abbrev GTE_TEST_MODE_Y : Fld := ⟨0x40010080, 5, 1, .rw, 0⟩
-- GTE_PWM_CTL (R181, 06_cell_switching.md)
abbrev GTE_PWM_CTL_RUN : Fld := ⟨0x40010084, 0, 1, .rw, 0⟩
abbrev GTE_PWM_CTL_LOAD : Fld := ⟨0x40010084, 1, 1, .w1s, 0⟩
abbrev GTE_PWM_CTL_INV_Y : Fld := ⟨0x40010084, 2, 1, .rw, 0⟩
-- GTE_PWM_PERIOD (R181, 06_cell_switching.md)
abbrev GTE_PWM_PERIOD_PERIOD : Fld := ⟨0x40010088, 0, 24, .rw, 16000⟩
-- GTE_PWM_DUTY (R181, 06_cell_switching.md)
abbrev GTE_PWM_DUTY_DUTY : Fld := ⟨0x4001008C, 0, 16, .rw, 32768⟩
-- PRT_CTL (R214, 07_cell_protection.md)
abbrev PRT_CTL_BYP_AUTO : Fld := ⟨0x40020000, 0, 1, .rw, 1⟩
abbrev PRT_CTL_DUMP_FIT : Fld := ⟨0x40020000, 1, 1, .rw, 0⟩
abbrev PRT_CTL_LOCK : Fld := ⟨0x40020000, 2, 1, .w1s, 0⟩
-- PRT_BLANK (R214, 07_cell_protection.md)
abbrev PRT_BLANK_BLANK_X : Fld := ⟨0x40020004, 0, 11, .rw, 250⟩
abbrev PRT_BLANK_BLANK_Y : Fld := ⟨0x40020004, 16, 11, .rw, 250⟩
-- PRT_SOFT (R214, 07_cell_protection.md)
abbrev PRT_SOFT_T_SOFT : Fld := ⟨0x40020008, 0, 12, .rw, 2000⟩
abbrev PRT_SOFT_GM_SETTLE : Fld := ⟨0x40020008, 16, 11, .rw, 400⟩
-- PRT_THR (R214, 07_cell_protection.md)
abbrev PRT_THR_L1 (s : Nat) : Fld := ⟨0x40020010 + s * 0x4, 0, 8, .rw, 254⟩
abbrev PRT_THR_L2 (s : Nat) : Fld := ⟨0x40020010 + s * 0x4, 8, 8, .rw, 255⟩
-- PRT_OVA (R214, 07_cell_protection.md)
abbrev PRT_OVA_DMP_ON : Fld := ⟨0x40020020, 0, 16, .rw, 65535⟩
abbrev PRT_OVA_DMP_OFF : Fld := ⟨0x40020020, 16, 16, .rw, 65520⟩
-- PRT_OVB (R214, 07_cell_protection.md)
abbrev PRT_OVB_OV2 : Fld := ⟨0x40020024, 0, 10, .rw, 1023⟩
abbrev PRT_OVB_OV_WARN : Fld := ⟨0x40020024, 16, 16, .rw, 65535⟩
-- PRT_DUMP (R214, 07_cell_protection.md)
abbrev PRT_DUMP_DMP_TMAX : Fld := ⟨0x40020028, 0, 16, .rw, 1000⟩
-- PRT_BYP (R214, 07_cell_protection.md)
abbrev PRT_BYP_BYP_WAIT : Fld := ⟨0x4002002C, 0, 8, .rw, 20⟩
abbrev PRT_BYP_BYC_DLY : Fld := ⟨0x4002002C, 8, 10, .rw, 0⟩
-- PRT_BYP_T (R214, 07_cell_protection.md)
abbrev PRT_BYP_T_BYF_T : Fld := ⟨0x40020030, 0, 8, .rw, 20⟩
abbrev PRT_BYP_T_BYC_PULSE : Fld := ⟨0x40020030, 8, 8, .rw, 20⟩
abbrev PRT_BYP_T_BYC_TMO : Fld := ⟨0x40020030, 16, 8, .rw, 10⟩
-- PRT_STATE (R214, 07_cell_protection.md)
abbrev PRT_STATE_HOLD_X : Fld := ⟨0x40020040, 0, 1, .ro, 0⟩
abbrev PRT_STATE_HOLD_Y : Fld := ⟨0x40020040, 1, 1, .ro, 0⟩
abbrev PRT_STATE_SOFT_X : Fld := ⟨0x40020040, 2, 1, .ro, 0⟩
abbrev PRT_STATE_SOFT_Y : Fld := ⟨0x40020040, 3, 1, .ro, 0⟩
abbrev PRT_STATE_BYP_REQ : Fld := ⟨0x40020040, 4, 1, .ro, 0⟩
abbrev PRT_STATE_SEQ : Fld := ⟨0x40020040, 5, 3, .ro, 0⟩
abbrev PRT_STATE_BYF : Fld := ⟨0x40020040, 8, 1, .ro, 0⟩
abbrev PRT_STATE_BYC : Fld := ⟨0x40020040, 9, 1, .ro, 0⟩
abbrev PRT_STATE_BYC_FB : Fld := ⟨0x40020040, 10, 1, .ro, 0⟩
abbrev PRT_STATE_DMP : Fld := ⟨0x40020040, 11, 1, .ro, 0⟩
abbrev PRT_STATE_UVLO : Fld := ⟨0x40020040, 12, 1, .rc, 0⟩
abbrev PRT_STATE_JRN_RET : Fld := ⟨0x40020040, 13, 1, .ro, 0⟩
-- PRT_TRIP (R214, 07_cell_protection.md)
abbrev PRT_TRIP_L1_SW : Fld := ⟨0x40020044, 0, 4, .ro, 0⟩
abbrev PRT_TRIP_L2_SW : Fld := ⟨0x40020044, 4, 4, .ro, 0⟩
abbrev PRT_TRIP_OV2 : Fld := ⟨0x40020044, 8, 1, .ro, 0⟩
abbrev PRT_TRIP_GM : Fld := ⟨0x40020044, 9, 1, .ro, 0⟩
abbrev PRT_TRIP_OFS : Fld := ⟨0x40020044, 16, 14, .ro, 0⟩
abbrev PRT_TRIP_VALID : Fld := ⟨0x40020044, 31, 1, .ro, 0⟩
-- PRT_TRIP_DN (R214, 07_cell_protection.md)
abbrev PRT_TRIP_DN_DN : Fld := ⟨0x40020048, 0, 32, .ro, 0⟩
-- PRT_CNT_A (R214, 07_cell_protection.md)
abbrev PRT_CNT_A_TRIP_CNT : Fld := ⟨0x40020068, 0, 16, .rc, 0⟩
abbrev PRT_CNT_A_DUMP_CNT : Fld := ⟨0x40020068, 16, 16, .rc, 0⟩
-- PRT_CNT_B (R214, 07_cell_protection.md)
abbrev PRT_CNT_B_GM_CNT : Fld := ⟨0x4002006C, 0, 16, .rc, 0⟩
abbrev PRT_CNT_B_UVLO_CNT : Fld := ⟨0x4002006C, 16, 16, .rc, 0⟩
-- PRT_CMD (R214, 07_cell_protection.md)
abbrev PRT_CMD_MASK : Fld := ⟨0x40020070, 0, 10, .rw, 1023⟩
abbrev PRT_CMD_OP : Fld := ⟨0x40020070, 16, 3, .rw, 0⟩
abbrev PRT_CMD_GO : Fld := ⟨0x40020070, 31, 1, .w1s, 0⟩
-- PRT_CMD_STAT (R214, 07_cell_protection.md)
abbrev PRT_CMD_STAT_DONE : Fld := ⟨0x40020074, 0, 1, .w1c, 0⟩
abbrev PRT_CMD_STAT_REJ : Fld := ⟨0x40020074, 1, 1, .w1c, 0⟩
abbrev PRT_CMD_STAT_BUSY : Fld := ⟨0x40020074, 2, 1, .ro, 0⟩
-- PRT_ST_RES (R214, 07_cell_protection.md)
abbrev PRT_ST_RES_PASS : Fld := ⟨0x40020078, 0, 10, .ro, 0⟩
abbrev PRT_ST_RES_FAIL : Fld := ⟨0x40020078, 16, 10, .ro, 0⟩
-- CLK_CTL (R348, 11_trackway.md)
abbrev CLK_CTL_RPT_P : Fld := ⟨0x40050000, 0, 5, .rw, 5⟩
abbrev CLK_CTL_LOCK : Fld := ⟨0x40050000, 5, 1, .w1s, 0⟩
-- CLK_ID (R348, 11_trackway.md)
abbrev CLK_ID_POS : Fld := ⟨0x40050004, 0, 3, .ro, 0⟩
abbrev CLK_ID_POS_VALID : Fld := ⟨0x40050004, 3, 1, .ro, 0⟩
abbrev CLK_ID_SIZE_M1 : Fld := ⟨0x40050004, 4, 3, .ro, 0⟩
abbrev CLK_ID_FROM_D : Fld := ⟨0x40050004, 7, 1, .ro, 0⟩
abbrev CLK_ID_CID : Fld := ⟨0x40050004, 8, 15, .ro, 0⟩
-- CLK_CNT_A (R348, 11_trackway.md)
abbrev CLK_CNT_A_HELD_U : Fld := ⟨0x40050020, 0, 16, .rc, 0⟩
abbrev CLK_CNT_A_HELD_D : Fld := ⟨0x40050020, 16, 16, .rc, 0⟩
-- CLK_CNT_B (R348, 11_trackway.md)
abbrev CLK_CNT_B_STOMP : Fld := ⟨0x40050024, 0, 16, .rc, 0⟩
abbrev CLK_CNT_B_RPT_CNT : Fld := ⟨0x40050024, 16, 16, .rc, 0⟩
-- CLK_CNT_C (R348, 11_trackway.md)
abbrev CLK_CNT_C_REQ_EXEC : Fld := ⟨0x40050028, 0, 16, .rc, 0⟩
abbrev CLK_CNT_C_REQ_CACHE : Fld := ⟨0x40050028, 16, 16, .rc, 0⟩
-- CLK_TOFS (R348, 11_trackway.md)
abbrev CLK_TOFS_TOFS : Fld := ⟨0x4005002C, 0, 24, .ro, 0⟩
-- ADC_CTL (R382, 13_cell_adc.md)
abbrev ADC_CTL_CAL_SH : Fld := ⟨0x40030000, 0, 5, .rw, 12⟩
abbrev ADC_CTL_CAL_FREEZE : Fld := ⟨0x40030000, 5, 1, .rw, 0⟩
abbrev ADC_CTL_LOCK : Fld := ⟨0x40030000, 6, 1, .w1s, 0⟩
abbrev ADC_CTL_PWR : Fld := ⟨0x40030000, 8, 4, .ro, 0⟩
-- ADC_CNT (R382, 13_cell_adc.md)
abbrev ADC_CNT_CLIP_CNT : Fld := ⟨0x40030028, 0, 16, .rc, 0⟩
abbrev ADC_CNT_SKIP_CNT : Fld := ⟨0x40030028, 16, 16, .rc, 0⟩
-- ADC_COR_SEL (R382, 13_cell_adc.md)
abbrev ADC_COR_SEL_ENTRY : Fld := ⟨0x40030030, 0, 4, .rw, 0⟩
abbrev ADC_COR_SEL_SLICE : Fld := ⟨0x40030030, 4, 2, .rw, 0⟩
-- ADC_COR_OFS (R382, 13_cell_adc.md)
abbrev ADC_COR_OFS_OFS : Fld := ⟨0x40030034, 0, 16, .ro, 0⟩
-- ADC_COR_GAIN (R382, 13_cell_adc.md)
abbrev ADC_COR_GAIN_GAIN : Fld := ⟨0x40030038, 0, 16, .ro, 32768⟩
-- ADC_COR_SKEW (R382, 13_cell_adc.md)
abbrev ADC_COR_SKEW_SKEW : Fld := ⟨0x4003003C, 0, 16, .ro, 0⟩
-- ADC_ENT_CFG (R382, 13_cell_adc.md)
abbrev ADC_ENT_CFG_EN (n : Nat) : Fld := ⟨0x40030100 + n * 0x20, 0, 1, .rw, 0⟩
abbrev ADC_ENT_CFG_INPUT (n : Nat) : Fld := ⟨0x40030100 + n * 0x20, 1, 4, .rw, 0⟩
abbrev ADC_ENT_CFG_GAIN (n : Nat) : Fld := ⟨0x40030100 + n * 0x20, 5, 2, .rw, 0⟩
abbrev ADC_ENT_CFG_MODE (n : Nat) : Fld := ⟨0x40030100 + n * 0x20, 7, 1, .rw, 0⟩
abbrev ADC_ENT_CFG_PDN (n : Nat) : Fld := ⟨0x40030100 + n * 0x20, 8, 1, .rw, 0⟩
abbrev ADC_ENT_CFG_ORDER (n : Nat) : Fld := ⟨0x40030100 + n * 0x20, 9, 2, .rw, 0⟩
abbrev ADC_ENT_CFG_ROLE (n : Nat) : Fld := ⟨0x40030100 + n * 0x20, 12, 4, .rw, 0⟩
abbrev ADC_ENT_CFG_SLOT (n : Nat) : Fld := ⟨0x40030100 + n * 0x20, 16, 5, .rw, 0⟩
abbrev ADC_ENT_CFG_STEP (n : Nat) : Fld := ⟨0x40030100 + n * 0x20, 21, 5, .rw, 1⟩
-- ADC_ENT_TIME (R382, 13_cell_adc.md)
abbrev ADC_ENT_TIME_SMP (n : Nat) : Fld := ⟨0x40030104 + n * 0x20, 0, 8, .rw, 40⟩
abbrev ADC_ENT_TIME_DIV (n : Nat) : Fld := ⟨0x40030104 + n * 0x20, 8, 8, .rw, 1⟩
abbrev ADC_ENT_TIME_PHASE (n : Nat) : Fld := ⟨0x40030104 + n * 0x20, 16, 8, .rw, 0⟩
-- ADC_ENT_DEC (R382, 13_cell_adc.md)
abbrev ADC_ENT_DEC_M (n : Nat) : Fld := ⟨0x40030108 + n * 0x20, 0, 10, .rw, 1⟩
-- ADC_ENT_SCALE (R382, 13_cell_adc.md)
abbrev ADC_ENT_SCALE_SCALE (n : Nat) : Fld := ⟨0x4003010C + n * 0x20, 0, 32, .rw, 1⟩
-- ADC_ENT_OFS (R382, 13_cell_adc.md)
abbrev ADC_ENT_OFS_OFFSET (n : Nat) : Fld := ⟨0x40030110 + n * 0x20, 0, 24, .rw, 0⟩
abbrev ADC_ENT_OFS_SHIFT (n : Nat) : Fld := ⟨0x40030110 + n * 0x20, 24, 5, .rw, 0⟩
-- ADC_ENT_RES (R382, 13_cell_adc.md)
abbrev ADC_ENT_RES_RES (n : Nat) : Fld := ⟨0x40030114 + n * 0x20, 0, 32, .ro, 0⟩
-- ADC_ENT_RES_DN (R382, 13_cell_adc.md)
abbrev ADC_ENT_RES_DN_DN (n : Nat) : Fld := ⟨0x40030118 + n * 0x20, 0, 32, .ro, 0⟩
-- CSY_RST (R544, 19_reset_boot.md)
abbrev CSY_RST_KEY : Fld := ⟨0x40000840, 16, 16, .wo, 0⟩
-- CSE_CMD (R573, 20_identity_update.md)
abbrev CSE_CMD_OP : Fld := ⟨0x40060010, 0, 4, .wo, 0⟩
abbrev CSE_CMD_KEY : Fld := ⟨0x40060010, 16, 16, .wo, 0⟩
-- CSE_CMD_STAT (R573, 20_identity_update.md)
abbrev CSE_CMD_STAT_DONE : Fld := ⟨0x40060018, 0, 1, .w1c, 0⟩
abbrev CSE_CMD_STAT_REJ : Fld := ⟨0x40060018, 1, 1, .w1c, 0⟩
abbrev CSE_CMD_STAT_BUSY : Fld := ⟨0x40060018, 2, 1, .ro, 0⟩
-- CCP_CTL (R408, 14_capture.md)
abbrev CCP_CTL_ARM : Fld := ⟨0x40040000, 0, 1, .w1s, 0⟩
abbrev CCP_CTL_STOP : Fld := ⟨0x40040000, 1, 1, .w1s, 0⟩
abbrev CCP_CTL_SWTRIG : Fld := ⟨0x40040000, 2, 1, .w1s, 0⟩
abbrev CCP_CTL_TRIG_EDGE : Fld := ⟨0x40040000, 3, 1, .rw, 0⟩
abbrev CCP_CTL_TRIG_FAULT : Fld := ⟨0x40040000, 4, 1, .rw, 0⟩
abbrev CCP_CTL_TRIG_TCMD : Fld := ⟨0x40040000, 5, 1, .rw, 0⟩
abbrev CCP_CTL_PREFILL : Fld := ⟨0x40040000, 6, 1, .rw, 0⟩
abbrev CCP_CTL_FAULT_CLASS : Fld := ⟨0x40040000, 8, 2, .rw, 3⟩
-- CCP_RATE (R408, 14_capture.md)
abbrev CCP_RATE_MASTER : Fld := ⟨0x40040004, 0, 4, .rw, 0⟩
abbrev CCP_RATE_DEC : Fld := ⟨0x40040004, 8, 8, .rw, 1⟩
abbrev CCP_RATE_NCH : Fld := ⟨0x40040004, 16, 4, .rw, 1⟩
-- CCP_POST (R408, 14_capture.md)
abbrev CCP_POST_POST : Fld := ⟨0x40040028, 0, 18, .rw, 1⟩
-- CCP_TRIG (R408, 14_capture.md)
abbrev CCP_TRIG_CHAN : Fld := ⟨0x4004002C, 0, 3, .rw, 0⟩
abbrev CCP_TRIG_EDGE : Fld := ⟨0x4004002C, 4, 2, .rw, 0⟩
-- CCP_LEVEL (R408, 14_capture.md)
abbrev CCP_LEVEL_LEVEL : Fld := ⟨0x40040030, 0, 32, .rw, 0⟩
-- CCP_HYST (R408, 14_capture.md)
abbrev CCP_HYST_HYST : Fld := ⟨0x40040034, 0, 32, .rw, 0⟩
-- CCP_STATE (R408, 14_capture.md)
abbrev CCP_STATE_STATE : Fld := ⟨0x40040038, 0, 3, .ro, 0⟩
abbrev CCP_STATE_TRIG_CAUSE : Fld := ⟨0x40040038, 4, 4, .ro, 0⟩
abbrev CCP_STATE_TRIG_ROW : Fld := ⟨0x40040038, 8, 18, .ro, 0⟩
-- CCP_WIN (R408, 14_capture.md)
abbrev CCP_WIN_WIN : Fld := ⟨0x4004003C, 0, 12, .rw, 0⟩
-- CCP_CH (R408, 14_capture.md)
abbrev CCP_CH_ENTRY (c : Nat) : Fld := ⟨0x40040008 + c * 0x4, 0, 4, .rw, 0⟩
abbrev CCP_CH_KIND (c : Nat) : Fld := ⟨0x40040008 + c * 0x4, 4, 1, .rw, 0⟩
-- CSE_UNIT_L (R573, 20_identity_update.md)
abbrev CSE_UNIT_L_UNIT_LO : Fld := ⟨0x40060000, 0, 32, .ro, 0⟩
-- CSE_UNIT_H (R573, 20_identity_update.md)
abbrev CSE_UNIT_H_UNIT_HI : Fld := ⟨0x40060004, 0, 32, .ro, 0⟩
-- CSE_BOOT (R573, 20_identity_update.md)
abbrev CSE_BOOT_SLOT : Fld := ⟨0x40060008, 0, 1, .ro, 0⟩
abbrev CSE_BOOT_PENDING : Fld := ⟨0x40060008, 1, 1, .ro, 0⟩
abbrev CSE_BOOT_TRIES : Fld := ⟨0x40060008, 2, 2, .ro, 0⟩
abbrev CSE_BOOT_FALLBACK : Fld := ⟨0x40060008, 4, 1, .ro, 0⟩
abbrev CSE_BOOT_KEY : Fld := ⟨0x40060008, 5, 1, .ro, 0⟩
abbrev CSE_BOOT_ARB : Fld := ⟨0x40060008, 8, 8, .ro, 0⟩
-- CSE_VERSION (R573, 20_identity_update.md)
abbrev CSE_VERSION_VERSION : Fld := ⟨0x4006000C, 0, 32, .ro, 0⟩
-- CSE_CERT (R573, 20_identity_update.md)
abbrev CSE_CERT_BYTES (n : Nat) : Fld := ⟨0x40061000 + n * 0x4, 0, 32, .ro, 0⟩

end Sys2Proof.Machine.R
end

