-- ==== Sys2Proof/Machine/StateCell.lean ====
section
/-! DEFINITION. The state of a cell controller BQ7020 beside its registers: what the chapters name that no register shows. -/
namespace Sys2Proof.Machine

/-- An order held for a DN (R132): the state code, the grant, the trim descriptor. -/
structure Held where
  code  : Nat
  grant : Bool
  cid   : Nat
  neg   : Bool
  duty  : Nat
  deriving DecidableEq, Repr

/-- A pending edge: its offset from the current local boundary in 1/16 ns, the switch (R149), whether it turns on, whether line B served
when it was scheduled (R169). -/
structure Edge where
  at_ : Nat
  sw  : Nat
  on  : Bool
  line : Bool
  deriving DecidableEq, Repr

/-- The refresh state of a leg (R171 to R174): µs since its latest refresh interval, how long its low switch has been on
without a break in 1/16 ns and from which offset, whether an autonomous pulse is due. -/
structure Refresh where
  us   : Nat
  low  : Nat
  from_ : Nat
  due  : Bool
  deriving DecidableEq, Repr

/-- The switching block beside its registers: held orders by DN, whether the first order has been held (R136), whether
the watchdog safe state stands (R135), the pending edges, the offset reached in the current departure, the DEAD_X, DEAD_Y
and OUT_ADV in force, the consecutive invalid calibrations of lines A and B, whether the lines swap at the next boundary,
the refresh state of legs X and Y, the stamps of the latest two illegal commands (R162), the PWM period and duty in use
(R179), the calibration of the idle line (R169: 0 none, 1 waiting for its last edge, 2 running), the legs whose hold has been cleared
in test mode since the last boundary (R189), the changes that the PWM generator owes (leg, offset, pattern: R178), the pattern that
it has for each leg now, two bits a leg, the latest of rows 3 to 8 of R159 in force (R181). -/
structure Gte where
  held   : Tbl Held
  first  : Bool
  safe   : Bool
  edges  : List Edge
  ofs    : Nat
  deadX  : Nat
  deadY  : Nat
  adv    : Nat
  calBad : Nat × Nat
  swap   : Bool
  refX   : Refresh
  refY   : Refresh
  ill    : List Nat
  pwm    : Nat × Nat
  cal    : Nat
  retake : Nat
  gen    : List (Nat × Nat × Nat)
  level  : Nat
  row    : Nat
  deriving DecidableEq, Repr

/-- A trip whose soft turn-off runs (R187, R190): its legs, the switches over level 1 and over level 2, and whether the
gate monitor made it. -/
structure Soft where
  legs : Nat
  l1   : Nat
  l2   : Nat
  gm   : Bool
  deriving DecidableEq, Repr

/-- The protection block beside its registers (R182 to R211): the switches whose blanking window is open, the trips whose
soft turn-off runs, oldest first, the boundaries counted since the first bypass request (R192), the lock-out, whether BYC has been
pulsed, whether BYF pulses, whether the retirement record's write runs, DMP forced off (R196), OV_WARN armed (R198), the self-test
(comparators left, departures since its acceptance), the comparator masked in this departure (R209), BLANK_X and BLANK_Y in force
(R213), the offset of each switch's latest edge from the current local boundary in 1/16 ns (kept no longer than 62.5 µs), the switches
whose latest change was a protection turn-off (R184, R207). -/
structure Prt where
  blank  : Nat
  soft   : List Soft
  wait   : Option Nat
  uvlo   : Bool
  bycUp  : Bool
  pulsing : Bool
  jrnRun : Bool
  dmpOff : Bool
  ovArm  : Bool
  test   : Option (Nat × Nat)
  masked : Option Nat
  blankX : Nat
  blankY : Nat
  last   : Tbl Int
  cut    : Nat
  deriving DecidableEq, Repr

/-- A report waiting to be placed (R323): its sample DN, SEQ and flags, VCAP and ICELL converted at that DN once they are ready (R319,
R377), its bytes once a port has carried it, whether port U and port D have carried it. -/
structure Report where
  dn    : Nat
  seq   : Nat
  flags : Nat
  vcap  : Option Int
  icell : Option Int
  bytes : List Nat
  doneU : Bool
  doneD : Bool
  deriving DecidableEq, Repr

/-- A response waiting for a free mailbox (R339): its octets, the departures waited, whether a reset of the cell waits for it
(R544, R566). -/
structure Resp where
  octets : List Nat
  age    : Nat
  reset  : Bool
  deriving DecidableEq, Repr

/-- A point request kept for a UNIT (R338). -/
structure Kept where
  tag  : Nat
  att  : Nat
  resp : List Nat
  deriving DecidableEq, Repr

/-- A configuration set being assembled for a UNIT (R541): TAG, the next block, the blocks, the entries in order. -/
structure Assembly where
  tag  : Nat
  next : Nat
  nblk : Nat
  set  : List (Nat × Nat)
  deriving DecidableEq, Repr

/-- A set to be applied at a local boundary (R541): its check word, its entries, the UNIT and TAG to answer. -/
structure Apply where
  check : Nat
  set   : List (Nat × Nat)
  unitB : Bool
  tag   : Nat
  deriving DecidableEq, Repr

/-- The cell link beside its registers (R309 to R345): whether a local DN is held, the local time elapsed at the latest boundary and
the length of the departure in progress as the timing port gives it (R48, R311, R362), in 1/16 ns, the report flags that wait for a report and SC,
the SEQ of the next report, the reports waiting, whether R191 asks for a report, the consecutive frames failing the DN window (R312),
the positions that the usable routes gave last, the departures in which they differed, the ENUM_BAD conditions that stand (R318: bit 0
position, bit 1 loop, bit 2 routes), the responses waiting, the request kept for each UNIT, TOFS_U and TOFS_D with the pairs waiting for
their EFF_DN in order of arrival (R362), the SEQ of the latest TIME_SET and SKEW_REQ, the latest 64 measurements of Δ, PASS_UD and PASS_DU, newest first (R358), the
latest first-pass frame of each port (DN, reference instant, pass time), the departures since port U received one (R357), the pending
timed commands by kind (R401), the event records by index and how many have been written (R341), the timed-snapshot points (R404),
the sets being assembled by UNIT, the check word applied and the sets to be applied (R541). -/
structure Clk where
  dnOk    : Bool
  t       : Int
  len     : Int
  flags   : Nat
  seq     : Nat
  rpts    : List Report
  force   : Bool
  jump    : Nat
  posU    : Option Int
  posD    : Option Int
  differ  : Nat
  badPos  : Nat
  resps   : List Resp
  kept    : Tbl Kept
  tofs    : Nat × Nat
  tofsNew : List (Nat × Nat × Nat)
  setSeq  : Option Nat
  skewSeq : Option Nat
  skew    : List (Int × Nat × Nat)
  refU    : Option (Nat × Int × Nat)
  refD    : Option (Nat × Int × Nat)
  quietU  : Nat
  timed   : Tbl Nat
  events  : Tbl (List Nat)
  written : Nat
  snap    : List Nat
  asm     : Tbl Assembly
  applied : Option Nat
  apply   : List Apply
  deriving DecidableEq, Repr

/-- One sequencer entry beside its registers (R373 to R379): whether its enable is in force, the samples entered since, the
corrected samples newest first in 2^-23 codes with a mark for a clipped code, the previous raw sample, the estimates o (Q8.8),
g (UQ1.15) and τ (1/1,024 ns) by slice, the SCALE, SHIFT and OFFSET in force, the latest result with the DN and offset of its last
sample, whether there is one since the enable, the output for the report (R377), the latest output of the filter before scaling (R376). -/
structure AdcEnt where
  live  : Bool
  n     : Nat
  hist  : List (Int × Bool)
  prev  : Option Int
  est   : Tbl (Int × Nat × Int)
  scale : Int
  shift : Nat
  off   : Int
  res   : Int
  dn    : Nat
  ofs   : Nat
  got   : Bool
  rep   : Int
  last  : Int
  deriving DecidableEq, Repr

/-- The capture unit of the cell beside its registers (R403): D and the row size, the rows held in the buffer by index, the
next index, the rows written since ARM, whether the edge detector is armed (bit 0 rising, bit 1 falling), the triggers that fall due
on the next row, the rows left to write, the samples since the last row, POST in use, PRE, the trigger row's DN and offset, whether
POST was clamped. -/
structure Ccp where
  depth  : Nat
  size   : Nat
  next   : Nat
  total  : Nat
  armed  : Nat
  due    : Nat
  left   : Nat
  dec    : Nat
  post   : Nat
  pre    : Nat
  trigDn : Nat
  trigOfs : Nat
  clamp  : Bool
  deriving DecidableEq, Repr

/-- Firmware and identity of the cell beside its registers (R545, R549 to R566): the embedded flash with its slots and the journal flash,
each by its own address (an unlisted byte is erased, 0xFF), the waiting challenges and the one being signed by
UNIT (TAG, NONCE), the answers completed by UNIT (TAG and octets), the answers being placed (UNIT, TAG, next block), the update in
progress (next OFFSET, whether END passed), the command that runs (its OP), whether no slot was acceptable and the cell stays in its
ROM (R566), the vendor key hash of its fuses (R534). -/
structure Cse where
  flash  : Flash
  jrn    : Flash
  wait   : Tbl (Nat × Nat)
  run    : Option (Nat × Nat × Nat)
  done   : Tbl (Nat × List Nat)
  place  : List (Nat × Nat × Nat)
  upd    : Option (Nat × Bool)
  cmd    : Option Nat
  rom    : Bool
  vendor : Nat
  deriving DecidableEq, Repr

/-- A cell controller: its registers, fault records, lanes and their lines, what its blocks hold beside registers, the departures a commanded
reset still waits (R544), what it has sent and driven, oldest first, and how many free values it has drawn (log entry 2). -/
structure C where
  regs  : Regs
  recs  : Tbl Rec
  lanes : Tbl Lane
  serial : LineHid
  gte   : Gte
  prt   : Prt
  clk   : Clk
  adc   : Tbl AdcEnt
  ccp   : Ccp
  cse   : Cse
  memh  : MemHid
  mem   : Mem
  rst   : Option Nat
  out   : List Output
  free  : Nat
  deriving DecidableEq, Repr

/-- The refresh state after reset. -/
def Refresh.zero : Refresh := ⟨0, 0, 0, false⟩
/-- The switching block beside its registers after reset. -/
def Gte.zero : Gte :=
  { held := [], first := false, safe := false, edges := [], ofs := 0, deadX := 2400, deadY := 2400, adv := 0, calBad := (0, 0),
    swap := false, refX := .zero, refY := .zero, ill := [], pwm := (16000, 32768),
    cal := 0, retake := 0, gen := [], level := 0, row := 8 }
/-- The protection block beside its registers after reset. -/
def Prt.zero : Prt :=
  { blank := 0, soft := [], wait := none, uvlo := false, bycUp := false, pulsing := false, jrnRun := false, dmpOff := false,
    ovArm := true, test := none, masked := none, blankX := 250, blankY := 250, last := [], cut := 0 }
/-- The cell link beside its registers after reset. -/
def Clk.zero : Clk :=
  { dnOk := false, t := 0, len := 16000, flags := 0, seq := 0, rpts := [], force := false, jump := 0, posU := none, posD := none, differ := 0, badPos := 0,
    resps := [], kept := [], tofs := (0, 0), tofsNew := [], setSeq := none, skewSeq := none, skew := [], refU := none, refD := none,
    quietU := 2, timed := [], events := [], written := 0, snap := [], asm := [], applied := none, apply := [] }
/-- A sequencer entry beside its registers after reset. -/
def AdcEnt.zero : AdcEnt :=
  { live := false, n := 0, hist := [], prev := none, est := [], scale := 1, shift := 0, off := 0, res := 0, dn := 0, ofs := 0,
    got := false, rep := 0, last := 0 }
/-- The capture unit beside its registers after reset. -/
def Ccp.zero : Ccp :=
  { depth := 0, size := 0, next := 0, total := 0, armed := 0, due := 0, left := 0, dec := 0, post := 0, pre := 0,
    trigDn := 0, trigOfs := 0, clamp := false }
/-- Firmware and identity of a cell whose journal is empty. -/
def Cse.zero : Cse :=
  { flash := [], jrn := [], wait := [], run := none, done := [], place := [], upd := none, cmd := none, rom := false, vendor := 0 }
/-- A cell after its power-on reset (R202, R543): the lock-out stands until VAUX meets its release threshold. -/
def C.reset : C :=
  { regs := [], recs := [], lanes := [], serial := .zero, gte := .zero, prt := { Prt.zero with uvlo := true }, clk := .zero, adc := [],
    ccp := .zero, cse := .zero, memh := .zero, mem := [], rst := none, out := [], free := 0 }

end Sys2Proof.Machine
end

