-- ==== Sys2Proof/Machine/CellOps.lean ====
section
/-! DEFINITION. The named operations over a cell controller: registers, free values, its fault records and event history
(R342, R441 to R447), live measurements and report flags (R320). -/
namespace Sys2Proof.Machine

/-- A register field of the cell. -/
def C.rd (c : C) (f : Fld) : Nat := c.regs.get f
/-- A register field as a flag. -/
def C.on (c : C) (f : Fld) : Bool := c.rd f != 0
/-- A register field written by hardware. -/
def C.wr (c : C) (f : Fld) (v : Nat) : C := { c with regs := c.regs.set f v }
/-- A one-bit field written by hardware. -/
def C.put (c : C) (f : Fld) (b : Bool) : C := c.wr f (b2n b)
/-- A counter field advanced, saturating (R6). -/
def C.inc (c : C) (f : Fld) : C := c.wr f (satInc f.width (c.rd f) 1)
/-- Something the cell sends or drives. -/
def C.emit (c : C) (o : Output) : C := { c with out := c.out ++ [o] }
/-- The switching block beside its registers replaced. -/
def C.withGte (c : C) (f : Gte → Gte) : C := { c with gte := f c.gte }
/-- The protection block beside its registers replaced. -/
def C.withPrt (c : C) (f : Prt → Prt) : C := { c with prt := f c.prt }
/-- The link block beside its registers replaced. -/
def C.withClk (c : C) (f : Clk → Clk) : C := { c with clk := f c.clk }
/-- The capture unit beside its registers replaced. -/
def C.withCcp (c : C) (f : Ccp → Ccp) : C := { c with ccp := f c.ccp }
/-- Firmware and identity replaced. -/
def C.withCse (c : C) (f : Cse → Cse) : C := { c with cse := f c.cse }

/-- The local departure. -/
def C.dn (c : C) : Nat := c.rd R.GTE_EXEC_DN_DN
/-- The cell's CID (R317). -/
def C.cid (c : C) : Nat := c.rd R.CLK_ID_CID
/-- The base of the free values of the cell with a CID (log entry 2). -/
def cellChip (cid : Nat) : Nat := 0x10000 + cid
/-- The next free value. -/
def C.draw (c : C) (cid : Nat) : Nat × C := (Config.freeValue (cellChip cid) c.free, { c with free := c.free + 1 })

namespace CB
def CSY : Blk := Blk.at 0x40000810
def GTE : Blk := Blk.at 0x40010030
def PRT : Blk := Blk.at 0x40020050
def ADC : Blk := Blk.at 0x40030010
def CCP : Blk := Blk.at 0x40040040
def CLK : Blk := Blk.at 0x40050008
def CSE : Blk := Blk.at 0x40060040
end CB

/-- OFS of FIRST in a cell (R48). -/
def Blk.firstOfs (b : Blk) : Fld := ⟨b.en + 4, 16, 14, .ro, 0⟩
/-- FIRST_DN in a cell. -/
def Blk.firstDn (b : Blk) : Fld := ⟨b.en + 8, 0, 32, .ro, 0⟩
/-- EVENTS in a cell: FIRST_DN takes the place of the two stamp words; in CSY the layout keeps the gap (R458). -/
def Blk.cellEvents (b : Blk) : Fld := ⟨if b.st = 0x40000810 then b.en + 16 else b.en + 12, 0, 16, .ro, 0⟩

/-- The seven blocks of a cell by number (R449). -/
def cellBlocks : List Blk := [CB.CSY, CB.GTE, CB.PRT, CB.ADC, CB.CCP, CB.CLK, CB.CSE]

namespace CC
def ILLEGAL : Cause := ⟨CB.GTE, 0, some 1, 8, false, 1⟩
def PAT_REJ : Cause := ⟨CB.GTE, 1, some 0, 8, false, 1⟩
def WDOG : Cause := ⟨CB.GTE, 2, some 1, 9, false, 1⟩
def TEST_ABORT : Cause := ⟨CB.GTE, 3, some 0, 9, false, 1⟩
def CAL_FAIL : Cause := ⟨CB.GTE, 4, some 1, 10, false, 1⟩
def AUTO_REF : Cause := ⟨CB.GTE, 5, some 0, 11, false, 1⟩
def OC : Cause := ⟨CB.PRT, 0, some 3, 12, false, 1⟩
def SC : Cause := ⟨CB.PRT, 1, some 3, 12, false, 1⟩
def OV2 : Cause := ⟨CB.PRT, 2, some 3, 13, false, 1⟩
def OV_WARN : Cause := ⟨CB.PRT, 3, some 1, 13, false, 1⟩
def DUMP_LONG : Cause := ⟨CB.PRT, 4, some 2, 13, false, 1⟩
def GATE_MISMATCH : Cause := ⟨CB.PRT, 5, some 3, 14, false, 1⟩
def BYC_FAIL : Cause := ⟨CB.PRT, 6, some 3, 14, false, 1⟩
def RETIRING : Cause := ⟨CB.PRT, 7, none, 15, false, 1⟩
def UVLO_SEEN : Cause := ⟨CB.PRT, 8, some 1, 15, false, 1⟩
def SELFTEST_FAIL : Cause := ⟨CB.PRT, 9, some 3, 16, false, 1⟩
def ST_ABORT : Cause := ⟨CB.PRT, 10, some 0, 16, false, 1⟩
def THR_REJ : Cause := ⟨CB.PRT, 11, some 0, 16, false, 1⟩
def CLIP : Cause := ⟨CB.ADC, 0, some 1, 17, false, 1⟩
def CAL_LIM : Cause := ⟨CB.ADC, 1, some 1, 17, false, 1⟩
def ADC_WR_REJ : Cause := ⟨CB.ADC, 2, some 0, 17, false, 1⟩
def TRIGGERED : Cause := ⟨CB.CCP, 0, none, 18, false, 1⟩
def DONE : Cause := ⟨CB.CCP, 1, none, 18, false, 1⟩
def POST_CLAMP : Cause := ⟨CB.CCP, 2, some 0, 18, false, 1⟩
def CCP_WR_REJ : Cause := ⟨CB.CCP, 3, some 0, 18, false, 1⟩
def TCMD_LATE : Cause := ⟨CB.CCP, 4, some 0, 18, false, 1⟩
def ENUM_BAD : Cause := ⟨CB.CLK, 0, some 1, 6, false, 1⟩
def DN_JUMP : Cause := ⟨CB.CLK, 1, some 0, 6, false, 1⟩
def RSP_DROP : Cause := ⟨CB.CLK, 2, some 0, 6, false, 1⟩
def RPT_MISS : Cause := ⟨CB.CLK, 3, some 0, 6, false, 1⟩
def BOOT_FALLBACK : Cause := ⟨CB.CSE, 0, some 1, 20, false, 1⟩
def CMD_REJ : Cause := ⟨CB.CSE, 1, some 0, 20, false, 1⟩
def UNCORR : Cause := ⟨CB.CSY, 0, some 2, 19, false, 1⟩
def SPARED : Cause := ⟨CB.CSY, 1, some 0, 19, false, 1⟩
def SPARE_OUT : Cause := ⟨CB.CSY, 2, some 1, 19, false, 1⟩
def INJ_REJ : Cause := ⟨CB.CSY, 3, some 0, 19, false, 1⟩
end CC

/-- The sequencer entry beside its registers. -/
def C.ent (c : C) (n : Nat) : AdcEnt := c.adc.get n AdcEnt.zero

/-- The enabled entry that holds a role (R374). -/
def C.roleEnt (c : C) (role : Nat) : Option Nat :=
  (List.range 16).find? (fun n => c.on (R.ADC_ENT_CFG_EN n) && c.rd (R.ADC_ENT_CFG_ROLE n) == role)

/-- The latest result of a role, 0 until it has one (R380). -/
def C.roleRes (c : C) (role : Nat) : Int :=
  match c.roleEnt role with
  | some n => if (c.ent n).got then (c.ent n).res else 0
  | none => 0

/-- The value of a role for the report of a departure (R377). -/
def C.roleRep (c : C) (role : Nat) : Int :=
  match c.roleEnt role with
  | some n => if (c.ent n).got then (c.ent n).rep else 0
  | none => 0

/-- The highest class raised and not acknowledged in any block (R320). -/
def C.cls (c : C) : Nat :=
  let has := fun k => c.recs.any (fun e => bitAt e.2.classes k)
  if has 3 then 3 else if has 2 then 2 else if has 1 then 1 else 0

/-- The report flags now (R320). `Clk.flags` holds the bits that wait for a report and SC. -/
def C.reportFlags (c : C) : Nat :=
  let cls := if c.on R.GTE_STATE_RETIRE_LATCH then 3 else c.cls
  b2n (c.on R.GTE_STATE_REQ_X || c.on R.GTE_STATE_REQ_Y) + cls * 16 + b2n (c.on R.GTE_STATE_BLOCK_LATCH) * 1024 +
    b2n (c.on R.GTE_STATE_RETIRE_LATCH || c.on R.PRT_STATE_JRN_RET) * 2048 + b2n (c.on R.PRT_STATE_BYC_FB) * 4096 +
    b2n (c.on R.PRT_STATE_DMP) * 8192 + c.clk.flags

/-- A bit of the report flags that waits for a report. -/
def C.flag (c : C) (n : Nat) : C := c.withClk (fun k => { k with flags := setBit k.flags n })

/-- One event record (R342). -/
def C.eventRecord (c : C) (ofs src bit cls : Nat) : List Nat :=
  [c.dn, ofs + src * 2 ^ 16 + bit * 2 ^ 24 + cls * 2 ^ 28 + 2 ^ 31, enc 32 (c.roleRep 1), enc 32 (c.roleRep 2)] ++
    (List.range 4).map (fun k => enc 32 (c.roleRes (3 + k))) ++
    [c.rd R.GTE_STATE_CODE + c.rd R.GTE_STATE_OUTS * 16, c.reportFlags]

/-- An event record written in turn (R341). -/
def C.writeEvent (c : C) (ofs src bit cls : Nat) : C :=
  let r := c.eventRecord ofs src bit cls
  c.withClk (fun k => { k with events := k.events.set (k.written % 64) r, written := k.written + 1 })

/-- A trigger of the cell's capture that falls due on its next row (R387, R389, R403): 1 fault, 2 timed, 3 software. -/
def C.ccpTrigger (c : C) (bit : Nat) : C :=
  let st := c.rd R.CCP_STATE_STATE
  if st = 1 || st = 2 then c.withCcp (fun p => { p with due := setBit p.due bit }) else c

/-- A cause raised at a base class at an offset in the local departure (R442, R443, R445, R447). -/
def C.raiseAt (c : C) (ofs : Nat) (k : Cause) (base : Option Nat) (detail : List (Nat × Nat × Nat)) : C :=
  let c := c.wr (k.blk.status k.bit) 1
  let ev := c.on k.enable
  match base with
  | none => if ev then c.writeEvent ofs k.src k.bit 0 else c
  | some b =>
    let r := c.recs.get k.blk.st Rec.zero
    let cls := escalate r b
    let c := { c with recs := c.recs.set k.blk.st (Rec.mk (setBit r.classes cls) false (r.open3 || cls == 3)) }
    let c := c.inc k.blk.cellEvents
    let c := if c.on k.blk.firstValid then c else
      let c := ((((c.wr k.blk.firstCause (k.bit + 1)).wr k.blk.firstClass cls).wr k.blk.firstValid 1).wr
        k.blk.firstOfs ofs).wr k.blk.firstDn c.dn
      detail.foldl (fun c d => c.wr (k.blk.firstDetail d.1 d.2.1) d.2.2) c
    let c := if ev then c.writeEvent ofs k.src k.bit cls else c
    let c := if cls ≥ 3 then c.withClk (fun l => { l with force := true }) else c
    if c.on R.CCP_CTL_TRIG_FAULT && decide (cls ≥ c.rd R.CCP_CTL_FAULT_CLASS) then c.ccpTrigger 1 else c

/-- A cause raised at its default class. -/
def C.raise (c : C) (ofs : Nat) (k : Cause) (detail : List (Nat × Nat × Nat)) : C := c.raiseAt ofs k k.cls detail

/-- A lane cause of port U (0) or D (1): recorded with the link block's class, count and FIRST; the block has no STATUS bit for it, and
CAUSE of FIRST reads 0 (log entry 60). -/
def C.laneCause (c : C) (ofs u bit : Nat) : C :=
  let base := if bit < 2 then 1 else 0
  let r := c.recs.get CB.CLK.st Rec.zero
  let cls := escalate r base
  let c := { c with recs := c.recs.set CB.CLK.st (Rec.mk (setBit r.classes cls) false (r.open3 || cls == 3)) }
  let c := c.inc CB.CLK.cellEvents
  let c := if c.on CB.CLK.firstValid then c else
    (((c.wr CB.CLK.firstClass cls).wr CB.CLK.firstValid 1).wr CB.CLK.firstOfs ofs).wr CB.CLK.firstDn c.dn
  let c := c.writeEvent ofs (4 + u) bit cls
  let c := if cls ≥ 3 then c.withClk (fun l => { l with force := true }) else c
  if c.on R.CCP_CTL_TRIG_FAULT && decide (cls ≥ c.rd R.CCP_CTL_FAULT_CLASS) then c.ccpTrigger 1 else c

/-- A block acknowledged (R444, R449); PRT also clears the trip record and SC (R213, R320). -/
def C.ack (c : C) (b : Blk) : C :=
  let c := { c with recs := Tbl.erase c.recs b.st, regs := Regs.resetRange c.regs (b.en + 4) (b.en + 12) }
  let c := c.wr b.cellEvents 0
  if b.st = CB.PRT.st then
    let c := { c with regs := Regs.resetRange c.regs 0x40020044 0x4002004C }
    c.withClk (fun k => { k with flags := k.flags % 64 + k.flags / 1024 * 1024 })
  else c

end Sys2Proof.Machine
end

