-- ==== Sys2Proof/Machine/CellCapture.lean ====
section
/-! DEFINITION. The capture unit of a cell (R387 to R393, R403, R408). -/
namespace Sys2Proof.Machine

/-- The bytes of a channel (R403). -/
def C.chanBytes (c : C) (ch : Nat) : Nat := if c.on (R.CCP_CH_KIND ch) then 4 else 2

/-- The row size: the channels padded to a multiple of 4 bytes (R403). -/
def C.rowBytes (c : C) : Nat :=
  let n := (List.range (c.rd R.CCP_RATE_NCH)).foldl (fun (s : Nat) ch => s + c.chanBytes ch) 0
  (n + 3) / 4 * 4

/-- The value of a channel in its own units: the latest corrected sample rounded to 16 bits, or the latest result (R403). -/
def C.chanValue (c : C) (ch : Nat) : Int :=
  let e := c.ent (c.rd (R.CCP_CH_ENTRY ch))
  if c.on (R.CCP_CH_KIND ch) then e.res
  else match e.hist with
    | (y, _) :: _ => satS 16 (rshift y 8)
    | [] => 0

/-- A row as it stands (R403). -/
def C.rowData (c : C) : List Nat :=
  let b := (List.range (c.rd R.CCP_RATE_NCH)).flatMap (fun ch =>
    let n := c.chanBytes ch
    toBytes n (enc (8 * n) (c.chanValue ch)))
  b ++ List.replicate (c.rowBytes - b.length) 0

/-- ARM (R390 to R392): the state changes last, so that POST_CLAMP of this handshake is no trigger (R391). -/
def C.ccpArm (c : C) (ofs : Nat) : C :=
  let st := c.rd R.CCP_STATE_STATE
  if st = 1 || st = 2 then c else
  let size := c.rowBytes
  let d := 524288 / size
  let post := c.rd R.CCP_POST_POST
  let beyond := decide (d < post)
  let c := if beyond then c.raise ofs CC.POST_CLAMP [] else c
  (((c.wr R.CCP_STATE_STATE 1).wr R.CCP_STATE_TRIG_CAUSE 0).wr R.CCP_STATE_TRIG_ROW 0).withCcp (fun _ =>
    { Ccp.zero with depth := d, size := size, post := min post d, clamp := beyond })

/-- The capture ends (R390). -/
def C.ccpDone (c : C) (ofs : Nat) : C := (c.wr R.CCP_STATE_STATE 3).raise ofs CC.DONE []

/-- STOP (R390, R391). -/
def C.ccpStop (c : C) (ofs : Nat) : C :=
  let st := c.rd R.CCP_STATE_STATE
  if st = 1 || st = 2 then (c.withCcp (fun p => { p with due := 0 })).ccpDone ofs else c

/-- The edge detector on a row: whether it fires, and how it is armed afterwards (R388): an edge that fires uses its arming up (log
entry 63). -/
def C.ccpEdge (c : C) : Bool × Nat :=
  let v := c.chanValue (c.rd R.CCP_TRIG_CHAN)
  let lvl := sx 32 (c.rd R.CCP_LEVEL_LEVEL)
  let hyst := (c.rd R.CCP_HYST_HYST : Int)
  let mode := c.rd R.CCP_TRIG_EDGE
  let up := mode == 0 || mode == 2
  let down := mode == 1 || mode == 2
  let rise := up && bitAt c.ccp.armed 0 && decide (v > lvl)
  let fall := down && bitAt c.ccp.armed 1 && decide (v < lvl)
  let fire := rise || fall
  let a := if rise then clrBit c.ccp.armed 0 else c.ccp.armed
  let a := if fall then clrBit a 1 else a
  let a := if up && decide (v ≤ lvl - hyst) then setBit a 0 else a
  let a := if down && decide (v ≥ lvl + hyst) then setBit a 1 else a
  (fire && c.on R.CCP_CTL_TRIG_EDGE, a)

/-- A row of the capture (R389, R390, R392, R393): the local DN and offset of the master sample. -/
def C.ccpRow (c : C) (ofs dn at_ : Nat) : C :=
  let st := c.rd R.CCP_STATE_STATE
  let p := c.ccp
  let e := c.ccpEdge
  let cause := p.due + b2n e.1
  let idx := p.next
  let c := { c with mem := c.mem.writeBytes (0x80000 + idx * p.size) c.rowData, memh := MemIO.written c.memh (0x80000 + idx * p.size) p.size }.withCcp (fun p => { p with
    next := (idx + 1) % max 1 p.depth, total := p.total + 1, due := 0, armed := e.2 })
  if st = 1 then
    let held := min p.total p.depth
    if cause = 0 || (c.on R.CCP_CTL_PREFILL && decide (held < p.depth - p.post)) then c else
    let c := c.withCcp (fun q => { q with left := p.post - 1, pre := min (p.depth - p.post) p.total, trigDn := dn, trigOfs := at_ })
    let c := ((c.wr R.CCP_STATE_STATE 2).wr R.CCP_STATE_TRIG_CAUSE cause).wr R.CCP_STATE_TRIG_ROW idx
    let c := c.raise ofs CC.TRIGGERED []
    if p.post ≤ 1 then c.ccpDone ofs else c
  else
    let c := c.withCcp (fun q => { q with left := p.left - 1 })
    if p.left ≤ 1 then c.ccpDone ofs else c

/-- A sample of the master entry (R403). -/
def C.ccpSample (c : C) (ofs dn at_ : Nat) : C :=
  let st := c.rd R.CCP_STATE_STATE
  if st ≠ 1 && st ≠ 2 then c else
  let n := c.ccp.dec + 1
  if n < c.rd R.CCP_RATE_DEC then c.withCcp (fun p => { p with dec := n })
  else (c.withCcp (fun p => { p with dec := 0 })).ccpRow ofs dn at_

/-- A word of the capture buffer in its SRAM (R404, R579). -/
def C.bufferWord (c : C) (a : Nat) : Nat := c.mem.read (0x80000 + a % 0x80000) 4

end Sys2Proof.Machine
end

