-- ==== Sys2Proof/Machine/CellLane.lean ====
section
/-! DEFINITION. The two Trackway ports of a cell as lanes (R286, R291, R348). -/
namespace Sys2Proof.Machine

/-- The base of the record of port U (0) or D (1). -/
def portBase (u : Nat) : Nat := 0x40050100 + u * 0x40

/-- What a port is (R286, R288, R291): it accepts a hub, or the facing port of the next cell. -/
def portKind (u : Nat) : LaneKind :=
  ⟨portBase u, false, [portBase u], 0, fun w => w.role == 2 || w.role == (if u = 0 then 4 else 3), ⟨3 + u, 0, 0, 0, 1⟩⟩

/-- The ports as the lane functions find them. -/
def C.laneIO (c : C) : LaneIO := ⟨c.regs, c.lanes, []⟩

/-- What a port sends after an event, where it has changed (R289). -/
def C.showLane (c : C) (before : C) (u : Nat) : C :=
  let l := c.laneIO.line (portKind u)
  if before.laneIO.line (portKind u) = l then c else c.emit (.lane u l.1 l.2)

/-- A lane function run on port `u`, its causes raised (R303, R346). -/
def C.onLane (c : C) (ofs u : Nat) (f : LaneIO → LaneIO) : C :=
  let io := f c.laneIO
  (io.raised.foldl (fun (c : C) e => c.laneCause ofs ((e.1 - 0x40050100) / 0x40) e.2)
    { c with regs := io.regs, lanes := io.lanes }).showLane c u

/-- What the cell's outputs put on its lines (R286 to R288). -/
def C.putLines (c : C) (cid : Nat) : C :=
  let items := c.serial.waiting c.out
  if items.isEmpty then { c with serial := { c.serial with seen := c.out.length } } else
  let s := c.draw cid
  let was := c.serial.tseq
  let v := items.foldl (fun (v : C) i =>
    let d := v.draw cid
    { d.2 with serial := d.2.serial.put c.laneIO portKind was s.1 d.1 i }) s.2
  { v with serial := { v.serial with seen := c.out.length } }

/-- One µs of every locked checker (R297). -/
def C.prbsTime (c : C) : C := { c with regs := ((c.laneIO.prbsTime (portBase 0)).prbsTime (portBase 1)).regs }

/-- Whether a port is UP. -/
def C.portUp (c : C) (u : Nat) : Bool := c.rd (R.LNS_STATE_STATE (portBase u)) == 7

/-- Whether port U is the timing port (R357). -/
def C.timesOnU (c : C) : Bool := c.portUp 0 && decide (c.clk.quietU < 2)

/-- TOFS in use (R311, R357). -/
def C.tofs (c : C) : Nat := if c.timesOnU then c.clk.tofs.1 else c.clk.tofs.2

/-- The time of an offset of the local departure in ns. -/
def C.ns (c : C) (ofs : Nat) : Nat := c.dn * 1000 + ofs / 16

/-- Whether a received frame's check is spoiled by an injection on its port (R304), which then counts as a check error. -/
def C.spoiled (c : C) (ofs u : Nat) : Bool × C :=
  let r := c.laneIO.injected (portBase u)
  if r.1 then (true, c.onLane ofs u (fun io => (io.injected (portBase u)).2.checkError (portBase u) (c.ns ofs)))
  else (false, c)

end Sys2Proof.Machine
end

