-- ==== Sys2Proof/Machine/Gate.lean ====
section
/-! DEFINITION. The switching block of a cell: edges and dead time, patterns, refresh, calibration, test mode and the PWM
generator (R149 to R181). -/
namespace Sys2Proof.Machine

/-- The bridge outputs as driven now (R181). -/
def C.outs (c : C) : Nat := c.rd R.GTE_STATE_OUTS

/-- The refresh state of a leg (0 X, 1 Y). -/
def C.refresh (c : C) (leg : Nat) : Refresh := if leg = 0 then c.gte.refX else c.gte.refY
/-- The refresh state of a leg replaced. -/
def C.setRefresh (c : C) (leg : Nat) (r : Refresh) : C :=
  c.withGte (fun g => if leg = 0 then { g with refX := r } else { g with refY := r })
/-- REQ of a leg (R172). -/
def reqFld (leg : Nat) : Fld := if leg = 0 then R.GTE_STATE_REQ_X else R.GTE_STATE_REQ_Y

/-- A low switch turned on or off at an offset (R171): an interval of at least T_REF ends as a refresh interval. -/
def C.lowEdge (c : C) (leg ofs : Nat) (on : Bool) : C :=
  let r := c.refresh leg
  if on then c.setRefresh leg { r with low := 0, from_ := ofs }
  else
    let len := r.low + (ofs - r.from_)
    if len ≥ c.rd R.GTE_BOOT_PULSE_T_REF * 16 then
      (c.setRefresh leg { r with us := 0, low := 0, from_ := 0, due := false }).put (reqFld leg) false
    else c.setRefresh leg { r with low := 0, from_ := 0 }

/-- The tap of a delay line at which it places a fine step (R168). -/
def C.tap (c : C) (lineB : Bool) (k : Nat) : Nat :=
  (rdiv ((k * c.rd (if lineB then R.GTE_CAL_P_B else R.GTE_CAL_P_A) : Nat) : Int) 64).toNat

/-- DEAD of a leg in force. -/
def C.dead (c : C) (leg : Nat) : Nat := if leg = 0 then c.gte.deadX else c.gte.deadY

/-- Where an edge at an offset comes at its ball (R157, R158): OUT_ADV earlier, but a turn-on no less than DEAD after the turn-off of the
other switch of its leg. -/
def C.ballAt (c : C) (sw ofs : Nat) (on : Bool) (adv : Nat) : Int :=
  let at_ := (ofs : Int) - adv
  match c.prt.last.find? (if sw % 2 = 0 then sw + 1 else sw - 1) with
  | some off => if on then max at_ (off + c.dead (sw / 2)) else at_
  | none => at_

/-- An output set at an offset: the edge at the ball, by a tap of the delay line that served when it was scheduled, or at once; its
blanking window, the refresh interval (R156, R158, R168, R169, R184). -/
def C.setOut (c : C) (sw ofs : Nat) (on : Bool) (adv : Nat) (line : Option Bool) : C :=
  if bitAt c.outs sw = on then c else
  let c := c.wr R.GTE_STATE_OUTS (if on then setBit c.outs sw else clrBit c.outs sw)
  let ball := c.ballAt sw ofs on adv
  let via := line.map (fun l => (l, c.tap l (ball % 64).toNat))
  let c := (c.emit (.edge sw ball on via)).withPrt (fun p =>
    { p with blank := setBit p.blank sw, cut := clrBit p.cut sw, last := p.last.set sw ball })
  if sw % 2 = 1 then c.lowEdge (sw / 2) ofs on else c

/-- An edge inserted in order of time, after those of the same instant. -/
def insertEdge (e : Edge) : List Edge → List Edge
  | [] => [e]
  | x :: t => if x.at_ ≤ e.at_ then x :: insertEdge e t else e :: x :: t

/-- What a leg drives once its pending edges are placed: high in bit 0, low in bit 1. -/
def C.legTarget (c : C) (leg : Nat) : Nat :=
  let f := fun sw => (c.gte.edges.foldl (fun (b : Bool) e => if e.sw = sw then e.on else b) (bitAt c.outs sw))
  b2n (f (2 * leg)) + 2 * b2n (f (2 * leg + 1))

/-- A leg changed to a pattern at an instant (R150, R156, R157). -/
def C.changeLeg (c : C) (leg at_ want : Nat) : C :=
  let want := if leg = 1 && !c.on R.GTE_CTL_TYPE then 0 else want
  let tgt := c.legTarget leg
  if want = tgt then c else
  let pend := c.gte.edges.foldl (fun (m : Nat) e => if e.sw / 2 = leg && e.on then max m e.at_ else m) 0
  let start := max at_ pend
  let c := if pend > at_ then c.inc R.GTE_CNT_C_EDGE_PUSH_CNT else c
  let line := c.on R.GTE_CAL_SERVING
  let edge := fun (c : C) (k : Nat) =>
    let sw := 2 * leg + k
    if bitAt want k = bitAt tgt k then c
    else if bitAt want k then c.withGte (fun g => { g with edges := insertEdge ⟨start + c.dead leg, sw, true, line⟩ g.edges })
    else c.withGte (fun g => { g with edges := insertEdge ⟨start, sw, false, line⟩ g.edges })
  edge (edge c 0) 1

/-- The edges due up to an offset placed in order of time, each by the delay line that served when it was scheduled; a calibration that
waits for the last edge of its line then starts (R157, R169). -/
def C.placeDue (c : C) (upto : Nat) : C :=
  let now := c.gte.edges.filter (fun e => decide (e.at_ ≤ upto))
  let c := c.withGte (fun g => { g with edges := g.edges.filter (fun e => decide (upto < e.at_)) })
  let c := now.foldl (fun c e => c.setOut e.sw e.at_ e.on c.gte.adv (some e.line)) c
  if c.gte.cal = 1 && !c.gte.edges.any (fun e => e.line != c.on R.GTE_CAL_SERVING) then c.withGte (fun g => { g with cal := 2 }) else c

/-- Whether a leg is kept at 0 by row 1 or 2 of R159. -/
def C.legHeld (c : C) (leg : Nat) : Bool := c.prt.uvlo || c.on (if leg = 0 then R.PRT_STATE_HOLD_X else R.PRT_STATE_HOLD_Y)

/-- A change of a leg by the PWM generator at an instant (R178): it drives the leg unless row 1 or 2 holds it. -/
def C.genChange (c : C) (leg at_ want : Nat) : C :=
  let c := c.withGte (fun g => { g with level := g.level - bits g.level (2 * leg) 2 * 4 ^ leg + want * 4 ^ leg })
  if c.legHeld leg then c else c.changeLeg leg at_ want

/-- The work of the timing unit up to an offset: the changes of the PWM generator that fall due, then every edge due (R157, R178). -/
def C.placeEdges (c : C) (upto : Nat) : C :=
  let due := c.gte.gen.filter (fun e => decide (e.2.1 ≤ upto))
  let c := c.withGte (fun g => { g with gen := g.gen.filter (fun e => decide (upto < e.2.1)) })
  (due.foldl (fun (c : C) e => (c.placeDue e.2.1).genChange e.1 e.2.1 e.2.2) c).placeDue upto

/-- The offset of this handshake in the local departure: free, and not before the one before it (log entry 2). -/
def C.now (c : C) (cid : Nat) : Nat × C :=
  let d := c.draw cid
  let o := d.2.gte.ofs + d.1 % (16000 - min 15999 d.2.gte.ofs)
  (o, (d.2.withGte (fun g => { g with ofs := o })).placeEdges o)

/-- The PWM generator withdrawn from some legs: the changes it still owes them dropped (R178). -/
def C.dropGen (c : C) (p : Nat → Bool) : C := c.withGte (fun g => { g with
  gen := g.gen.filter (fun e => !p e.1),
  level := (List.range 2).foldl (fun (m : Nat) l => if p l then m - bits m (2 * l) 2 * 4 ^ l else m) g.level })

/-- The pending edges of a leg cancelled. -/
def C.cancelEdges (c : C) (leg : Nat) : C := c.withGte (fun g => { g with edges := g.edges.filter (fun e => e.sw / 2 != leg) })

/-- A leg turned off at once, its pending edges cancelled (R158, R187). -/
def C.legOff (c : C) (leg ofs : Nat) : C :=
  ((c.cancelEdges leg).setOut (2 * leg) ofs false 0 none).setOut (2 * leg + 1) ofs false 0 none

/-- A leg turned off by edges of the grid, its pending edges cancelled (R150, R158). -/
def C.legDrop (c : C) (leg ofs : Nat) : C :=
  let line := some (c.on R.GTE_CAL_SERVING)
  ((c.cancelEdges leg).setOut (2 * leg) ofs false c.gte.adv line).setOut (2 * leg + 1) ofs false c.gte.adv line

/-- Both legs changed to all off by edges of the grid (R156 to R158). -/
def C.gridOff (c : C) (ofs : Nat) : C := ((c.changeLeg 0 ofs 0).changeLeg 1 ofs 0).placeEdges ofs

/-- Both legs turned off at once. -/
def C.allOff (c : C) (ofs : Nat) : C := (c.legOff 0 ofs).legOff 1 ofs

/-- The bypass state (R155). -/
def C.bypass (c : C) : Nat := if c.on R.GTE_CTL_TYPE && c.on R.GTE_CTL_BYP_SEL then 4 else 3

/-- The safe state (R135). -/
def C.safeCode (c : C) : Nat := if c.on R.GTE_CTL_SAFE then 0 else 3

/-- The pattern of a code of the pattern table (R152); all off for any other code. -/
def C.pattern (c : C) (code : Nat) : Nat := if code ≤ 4 then c.rd (R.GTE_PAT_PAT code) else 0

/-- Whether an order is an illegal command (R151, R161). -/
def C.illegalOrder (c : C) (h : Held) : Bool :=
  let fb := c.on R.GTE_CTL_TYPE
  if h.code = 5 then h.cid != c.cid || h.duty == 0 || (h.neg && !fb)
  else !((h.code ≤ 4 && (fb || (h.code != 2 && h.code != 4))) || h.code == 15)

/-- The absolute instant of an offset of the local departure in 1/16 ns, modulo the span of the DN. -/
def C.stamp (c : C) (ofs : Nat) : Nat := c.dn * 16000 + ofs

/-- ILLEGAL raised (R161, R162). -/
def C.illegal (c : C) (ofs : Nat) : C :=
  let s := c.stamp ofs
  let third := match c.gte.ill with
    | [_, a] => decide ((s + 16000 * 2 ^ 32 - a) % (16000 * 2 ^ 32) < 16000000)
    | _ => false
  let c := (c.withGte (fun g => { g with ill := (s :: g.ill).take 2 })).inc R.GTE_CNT_B_ILLEGAL_CNT
  (c.flag 3).raiseAt ofs CC.ILLEGAL (some (if third then 2 else 1)) []

/-- The smallest-numbered row in force, as ROW shows it: the lock-out, a held leg, or the latest of rows 3 to 8 (R181). -/
def C.rowNow (c : C) : Nat :=
  if c.prt.uvlo then 0
  else if c.on R.PRT_STATE_HOLD_X || c.on R.PRT_STATE_HOLD_Y then 1
  else c.gte.row - 1

/-- ROW kept as the rows in force now give it (R181). -/
def C.reshow (c : C) : C := c.wr R.GTE_STATE_ROW c.rowNow

/-- One of rows 3 to 8 of R159 in force from now, with its state code (R181). -/
def C.showRow (c : C) (row code : Nat) : C := ((c.withGte (fun g => { g with row := row })).wr R.GTE_STATE_CODE code).reshow

/-- The row that stands for the order: an order held, or none yet (R159). -/
def C.orderRow (c : C) : Nat := if c.gte.first then 7 else 8

/-- The end of direct test mode (R158, R176): every bridge output at 0 by edges of the grid, and R159 as before the test mode. -/
def C.endTest (c : C) (ofs : Nat) : C :=
  if c.on R.GTE_CTL_TEST_EN then (((c.wr R.GTE_CTL_TEST_EN 0).dropGen (fun _ => true)).gridOff ofs).showRow c.orderRow 0 else c

/-- Direct test mode in force: no row above it applies to the whole bridge (R159, R176). -/
def C.testing (c : C) : Bool :=
  c.on R.GTE_CTL_TEST_EN && !c.on R.GTE_STATE_BLOCK_LATCH && !c.on R.GTE_STATE_RETIRE_LATCH && !c.gte.safe

/-- The BLOCK latch set (R143, R181): every gate off at once. -/
def C.latchBlock (c : C) (ofs : Nat) : C := (((c.allOff ofs).endTest ofs).wr R.GTE_STATE_BLOCK_LATCH 1).showRow 3 0

/-- The watchdog safe state entered (R135, R176). -/
def C.enterSafe (c : C) (ofs : Nat) : C :=
  let c := (c.endTest ofs).withGte (fun g => { g with safe := true })
  (c.flag 2).raise ofs CC.WDOG []

/-- WDOG departures have passed without an order (R135, R136). -/
def C.watchdogDue (c : C) : Bool :=
  c.gte.first && !c.gte.safe && decide (c.rd R.GTE_WDOG_RUN ≥ c.rd R.GTE_WDOG_WDOG)

/-- Whether a leg's high side is bootstrap-fed (R171). -/
def C.marked (c : C) (leg : Nat) : Bool := bitAt (c.rd R.GTE_BOOT_PULSE_BOOT_LEGS) leg && (leg == 0 || c.on R.GTE_CTL_TYPE)

/-- The refresh request of a leg (R172). -/
def C.requestCheck (c : C) (leg : Nat) : C :=
  let onMax := c.rd R.GTE_BOOT_ON_MAX
  let adv := c.rd R.GTE_BOOT_ADV
  if c.marked leg && decide ((c.refresh leg).us ≥ onMax - adv) then c.put (reqFld leg) true else c

/-- The limit of a leg (R174). -/
def C.autoCheck (c : C) (leg : Nat) : C :=
  if c.marked leg && decide ((c.refresh leg).us ≥ c.rd R.GTE_BOOT_ON_MAX) then
    c.setRefresh leg { c.refresh leg with due := true } else c

/-- One departure counted towards a leg's refresh (R171, R172, R174). -/
def C.countRefresh (c : C) (leg : Nat) : C :=
  if !c.marked leg then c else
  let r := c.refresh leg
  let low := if bitAt c.outs (2 * leg + 1) then r.low + (16000 - r.from_) else 0
  let us := if low ≥ c.rd R.GTE_BOOT_PULSE_T_REF * 16 then 0 else satInc 16 r.us 1
  ((c.setRefresh leg { r with us := us, low := low, from_ := 0 }).requestCheck leg).autoCheck leg

/-- The changes of a leg in a departure, with an autonomous refresh pulse put before them when one is due and none of them
turns the low switch on (R174). -/
def C.withPulse (c : C) (leg : Nat) (plan : List (Nat × Nat)) : List (Nat × Nat) × C :=
  let r := c.refresh leg
  if !c.marked leg || !r.due then (plan, c)
  else if plan.any (fun e => bitAt e.2 1) then (plan, c.setRefresh leg { r with due := false }) else
  let tref := c.rd R.GTE_BOOT_PULSE_T_REF * 16
  let c := ((c.setRefresh leg { r with due := false }).inc R.GTE_CNT_C_AUTO_REF_CNT)
  let c := (c.flag 1).raise 0 CC.AUTO_REF []
  if c.legTarget leg = 0 && plan.all (fun e => e.2 == 0) then
    let sw := 2 * leg + 1
    let line := c.on R.GTE_CAL_SERVING
    (plan, c.withGte (fun g => { g with edges := insertEdge ⟨tref, sw, false, line⟩ (insertEdge ⟨0, sw, true, line⟩ g.edges) }))
  else
    let back := c.dead leg + tref
    ((0, 2) :: plan.map (fun e => (max e.1 back, e.2)), c)

/-- Two bits of a bridge pattern: the leg's. -/
def legOf (pat leg : Nat) : Nat := bits pat (2 * leg) 2

/-- The changes that a TRIM order makes (R165, R166), and `GTE_TRIM`. -/
def C.trimPlan (c : C) (h : Held) : List (Nat × Nat) × C :=
  let w := (rdiv ((h.duty * 125 : Nat) : Int) 512).toNat
  let on := c.pattern (if h.neg then 2 else 1)
  let off := c.pattern c.bypass
  let left := c.legTarget 0 == legOf on 0 && (!c.on R.GTE_CTL_TYPE || c.legTarget 1 == legOf on 1)
  let c := (((c.wr R.GTE_TRIM_WIDTH w).put R.GTE_TRIM_ALIGN (!left)).put R.GTE_TRIM_POL h.neg).wr R.GTE_TRIM_DUTY h.duty
  (if left then [(0, on), (w, off)] else [(0, off), (16000 - w, on)], c)

/-- The plan of a departure applied to a leg: row 2 keeps a held leg at 0 (R159, R189). -/
def C.driveLeg (c : C) (leg : Nat) (plan : List (Nat × Nat)) (pulse : Bool) : C :=
  if c.legHeld leg then c.legOff leg 0 else
  let p := plan.map (fun e => (e.1, legOf e.2 leg))
  let r := if pulse then c.withPulse leg p else (p, c)
  r.1.foldl (fun c e => c.changeLeg leg e.1 e.2) r.2

/-- The BLOCK latch cleared by an order (R145): row 4 or 5, where it stands, acts at once, and an order from the next boundary (R159);
ROW and CODE follow (R181). -/
def C.clearBlock (c : C) (ofs : Nat) : C :=
  if !c.on R.GTE_STATE_BLOCK_LATCH then c else
  let c := c.wr R.GTE_STATE_BLOCK_LATCH 0
  let take := fun (c : C) (pat : Nat) => ((c.driveLeg 0 [(ofs, pat)] false).driveLeg 1 [(ofs, pat)] false).placeEdges ofs
  if c.on R.GTE_STATE_RETIRE_LATCH then (take c 0).showRow 4 15
  else if c.gte.safe then (take c (c.pattern c.safeCode)).showRow 5 c.safeCode
  else c.showRow c.orderRow 0

/-- The resolved departure (R134, R135, R159 to R164): the row, the code executed, the changes of the bridge, and
whether RETIRE is to start the sequence. -/
def C.resolve (c : C) (order : Option Held) : Nat × Nat × List (Nat × Nat) × C :=
  let legal := match order with
    | some h => !c.illegalOrder h
    | none => false
  let c := if order.isSome && !legal then c.illegal 0 else c
  let c := if legal then (c.wr R.GTE_WDOG_RUN 0).withGte (fun g => { g with first := true, safe := false })
    else if c.gte.first then
      let c := if c.watchdogDue then c.enterSafe 0 else c
      c.inc R.GTE_WDOG_RUN
    else c
  if c.on R.GTE_STATE_BLOCK_LATCH then (3, 0, [(0, c.pattern 0)], c)
  else if c.on R.GTE_STATE_RETIRE_LATCH then (4, 15, [(0, 0)], c)
  else if c.gte.safe then (5, c.safeCode, [(0, c.pattern c.safeCode)], c)
  else if c.on R.GTE_CTL_TEST_EN then (6, 0, [], c)
  else
    match legal, order with
    | true, some h =>
      if h.code = 15 then (4, 15, [(0, 0)], c.wr R.GTE_STATE_RETIRE_LATCH 1)
      else if h.code = 5 then
        let t := c.trimPlan h
        (7, 5, t.1, t.2)
      else
        let c := if h.code = 3 && h.grant then c.inc R.GTE_CNT_C_GRANT_CNT else c
        (7, h.code, [(0, c.pattern h.code)], c)
    | _, _ =>
      let was := c.rd R.GTE_STATE_CODE
      let code := if !c.gte.first then 0 else if was = 5 then c.bypass else was
      let c := if c.gte.first || c.clk.dnOk then c.inc R.GTE_CNT_B_MISSED_CNT else c
      (8, code, [(0, c.pattern code)], c)

/-- What a leg does at a boundary in direct test mode: it keeps its outputs, or takes the pattern of `GTE_TEST` or of the PWM generator when
a hold of it or the lock-out has ended since the boundary before (R159, R177, R178, R189). -/
def C.testPlan (c : C) (leg : Nat) : List (Nat × Nat) :=
  let pwm := c.on (if leg = 0 then R.GTE_TEST_MODE_X else R.GTE_TEST_MODE_Y)
  let v := legOf (if pwm then c.gte.level else c.rd R.GTE_TEST_OUTS) leg
  [(0, (if bitAt c.gte.retake leg && v != 3 then v else c.legTarget leg) * 4 ^ leg)]

/-- TOFS_U and TOFS_D in use at a local boundary of a DN: the pairs whose EFF_DN has come taken in order, 0x800000 keeping an offset (R358,
R362). -/
def C.tofsAt (c : C) (dn : Nat) : Nat × Nat :=
  let keep := fun (new old : Nat) => if new = 0x800000 then old else new
  c.clk.tofsNew.foldl (fun (o : Nat × Nat) e => if dnDiff e.2.2 dn ≤ 0 then (keep e.1 o.1, keep e.2.1 o.2) else o) c.clk.tofs

/-- The length of the departure that ends in 1/16 ns: as the frames of the timing port gave it, and by the change of TOFS where it ends at
EFF_DN (R311, R362). -/
def C.departed (c : C) : Int :=
  let new := c.tofsAt ((c.dn + 1) % 2 ^ 32)
  c.clk.len + (if c.timesOnU then sx 24 new.1 - sx 24 c.clk.tofs.1 else sx 24 new.2 - sx 24 c.clk.tofs.2)

/-- The local departure ended: its edges placed, and the later ones moved to the next one. -/
def C.endDeparture (c : C) : C :=
  let n := c.departed
  let c := c.placeEdges (max 15999 (n - 1).toNat)
  let c := ((c.countRefresh 0).countRefresh 1).withPrt (fun p => { p with last := p.last.map (fun e => (e.1, max (e.2 - n) (-1000000))) })
  let c := c.withClk (fun l => { l with t := l.t + n, len := 16000 })
  c.withGte (fun g => { g with
    edges := g.edges.map (fun e => { e with at_ := ((e.at_ : Int) - n).toNat }), gen := g.gen.map (fun e => (e.1, ((e.2.1 : Int) - n).toNat, e.2.2)),
    ofs := 0, deadX := c.rd R.GTE_DEAD_DEAD_X, deadY := c.rd R.GTE_DEAD_DEAD_Y, adv := c.rd R.GTE_OUT_OUT_ADV })

/-- The lines swapped after a valid calibration (R169). -/
def C.swapLines (c : C) : C :=
  if c.gte.swap then (c.withGte (fun g => { g with swap := false })).wr R.GTE_CAL_SERVING (1 - c.rd R.GTE_CAL_SERVING) else c

/-- A calibration of the idle line started at a departure whose DN is a multiple of 100, once the last edge that it scheduled has been
placed; with a line out of service none starts (R169, R170). -/
def C.startCal (c : C) : C :=
  if c.clk.dnOk && c.dn % 100 = 0 && c.gte.cal = 0 && !c.on R.GTE_CAL_OUT_A && !c.on R.GTE_CAL_OUT_B then
    c.withGte (fun g => { g with cal := if g.edges.any (fun e => e.line != c.on R.GTE_CAL_SERVING) then 1 else 2 })
  else c

/-- The calibration in progress completes with two successive tap counts of the idle line (R168, R169, R170). -/
def C.calibrated (c : C) (ofs p q : Nat) : C :=
  if c.gte.cal ≠ 2 then c else
  let c := c.withGte (fun g => { g with cal := 0 })
  let idleB := !c.on R.GTE_CAL_SERVING
  let outF := if idleB then R.GTE_CAL_OUT_B else R.GTE_CAL_OUT_A
  let ok := decide (50 ≤ q) && decide (q ≤ 64) && decide (p ≤ q + 1) && decide (q ≤ p + 1)
  let bad := if idleB then c.gte.calBad.2 else c.gte.calBad.1
  let setBad := fun (c : C) (n : Nat) => c.withGte (fun g =>
    { g with calBad := if idleB then (g.calBad.1, n) else (n, g.calBad.2) })
  if ok then
    ((setBad c 0).wr (if idleB then R.GTE_CAL_P_B else R.GTE_CAL_P_A) q).withGte (fun g => { g with swap := true })
  else
    let c := setBad (c.inc R.GTE_CNT_C_CAL_BAD_CNT) (bad + 1)
    if bad + 1 ≥ 3 then (c.wr outF 1).raise ofs CC.CAL_FAIL [] else c

/-- A write of a pattern-table entry (R153, R154). -/
def C.patWrite (c : C) (ofs code v : Nat) : C :=
  if c.on R.GTE_CTL_LOCK || code > 4 then c
  else if (bitAt v 0 && bitAt v 1) || (bitAt v 2 && bitAt v 3) then
    (c.inc R.GTE_CNT_C_PAT_REJ_CNT).raise ofs CC.PAT_REJ []
  else c.wr (R.GTE_PAT_PAT code) v

/-- A write of TYPE, BYP_SEL, SAFE and LOCK (R154): leg Y goes to 0 with TYPE (R150). -/
def C.gteCtlWrite (c : C) (ofs v : Nat) : C :=
  let c := if c.on R.GTE_CTL_LOCK then c
    else
      let c := ((c.wr R.GTE_CTL_TYPE (bits v 0 1)).wr R.GTE_CTL_BYP_SEL (bits v 1 1)).wr R.GTE_CTL_SAFE (bits v 2 1)
      if bitAt v 0 then c else c.legDrop 1 ofs
  if bitAt v 3 then c.wr R.GTE_CTL_LOCK 1 else c

/-- Whether the cell executes BLOCK under row 7, or has held no order (R175). -/
def C.blockByOrder (c : C) : Bool :=
  !c.gte.first || (c.rd R.GTE_STATE_CODE == 0 && c.rd R.GTE_STATE_ROW == 6)

/-- Whether direct test mode may begin (R159, R175). -/
def C.testOk (c : C) : Bool :=
  c.blockByOrder && !c.on R.GTE_STATE_BLOCK_LATCH && !c.on R.GTE_STATE_RETIRE_LATCH && !c.gte.safe

/-- A write of TEST_EN (R175, R176): an order for another code that is already held ends the test mode at once. -/
def C.testEnWrite (c : C) (ofs : Nat) (en : Bool) : C :=
  if !en then c.endTest ofs
  else if c.on R.GTE_CTL_TEST_EN || !c.testOk then c
  else
    let c := ((c.gridOff ofs).wr R.GTE_CTL_TEST_EN 1).showRow 6 0
    if c.gte.held.any (fun e => e.2.code != 0) then (c.endTest ofs).raise ofs CC.TEST_ABORT [] else c

/-- A store to `GTE_CTL` (R154, R175, R603): refused whole where it would change a locked field or begin a test mode that may not begin. -/
def C.gteCtlStore (c : C) (ofs v : Nat) : C :=
  let locked := c.on R.GTE_CTL_LOCK && (bits v 0 1 != c.rd R.GTE_CTL_TYPE || bits v 1 1 != c.rd R.GTE_CTL_BYP_SEL || bits v 2 1 != c.rd R.GTE_CTL_SAFE)
  if locked || (bitAt v 4 && !c.on R.GTE_CTL_TEST_EN && !c.testOk) then c else
  let c := c.gteCtlWrite ofs v
  if bitAt v 4 = c.on R.GTE_CTL_TEST_EN then c else c.testEnWrite ofs (bitAt v 4)

/-- A write of GTE_TEST (R177). -/
def C.testWrite (c : C) (ofs v : Nat) : C :=
  let c := ((c.wr R.GTE_TEST_MODE_X (bits v 4 1)).wr R.GTE_TEST_MODE_Y (bits v 5 1)).dropGen (fun leg => !bitAt v (4 + leg))
  if !c.testing then c.wr R.GTE_TEST_OUTS v else
  let legs := [0, 1]
  let short := fun leg => legOf v leg == 3
  let outs := legs.foldl (fun (o : Nat) leg =>
    o + (if short leg then legOf (c.rd R.GTE_TEST_OUTS) leg else legOf v leg) * 4 ^ leg) 0
  let c := c.wr R.GTE_TEST_OUTS outs
  let c := legs.foldl (fun (c : C) leg =>
    let pwm := c.on (if leg = 0 then R.GTE_TEST_MODE_X else R.GTE_TEST_MODE_Y)
    if pwm || c.legHeld leg || short leg then c else c.changeLeg leg ((ofs / 64 + 1) * 64) (legOf v leg)) c
  if short 0 || short 1 then c.illegal ofs else c

/-- The PWM pair taken from the shadows (R179). -/
def C.takePwm (c : C) : C :=
  c.withGte (fun g => { g with pwm := (c.rd R.GTE_PWM_PERIOD_PERIOD, c.rd R.GTE_PWM_DUTY_DUTY) })

/-- A write of RUN (R178, R179). -/
def C.pwmRun (c : C) (run : Bool) : C :=
  if run && !c.on R.GTE_PWM_CTL_RUN then (c.wr R.GTE_PWM_CTL_RUN 1).takePwm
  else if run then c else (c.wr R.GTE_PWM_CTL_RUN 0).dropGen (fun _ => true)

/-- A change that the PWM generator owes, in order of time. -/
def insertGen (e : Nat × Nat × Nat) : List (Nat × Nat × Nat) → List (Nat × Nat × Nat)
  | [] => [e]
  | x :: t => if x.2.1 ≤ e.2.1 then x :: insertGen e t else e :: x :: t

/-- A PWM period start (R178, R179). -/
def C.pwmPeriod (c : C) (ofs : Nat) : C :=
  if !c.on R.GTE_PWM_CTL_RUN then c else
  let c := if c.on R.GTE_PWM_CTL_LOAD then (c.takePwm).wr R.GTE_PWM_CTL_LOAD 0 else c
  if !c.testing then c else
  let per := c.gte.pwm.1
  let leg := fun (c : C) (l : Nat) =>
    if !c.on (if l = 0 then R.GTE_TEST_MODE_X else R.GTE_TEST_MODE_Y) then c
    else
      let duty := if l = 1 && c.on R.GTE_PWM_CTL_INV_Y then 65536 - c.gte.pwm.2 else c.gte.pwm.2
      let on := (rdiv ((duty * per : Nat) : Int) 65536).toNat
      let c := c.genChange l ofs (if on < c.dead l then 0 else 1)
      c.withGte (fun g => { g with gen := insertGen (l, ofs + on, if per - on < c.dead l then 0 else 2) g.gen })
  (leg (leg c 0) 1).placeEdges ofs

end Sys2Proof.Machine
end

