-- ==== Sys2Proof/Machine/Protect.lean ====
section
/-! DEFINITION. The protection block of a cell: comparators and trips, overvoltage and dump, the lock-out, retirement, the gate
monitor and the self-test (R182 to R214). -/
namespace Sys2Proof.Machine

/-- HOLD of a leg (R189). -/
def holdFld (leg : Nat) : Fld := if leg = 0 then R.PRT_STATE_HOLD_X else R.PRT_STATE_HOLD_Y
/-- SOX or SOY (R187). -/
def softFld (leg : Nat) : Fld := if leg = 0 then R.PRT_STATE_SOFT_X else R.PRT_STATE_SOFT_Y
/-- Whether a leg is held. -/
def C.held (c : C) (leg : Nat) : Bool := c.on (holdFld leg)

/-- A soft-off output, BYF, BYC or DMP driven (R187, R195, R204); 0 under the lock-out (R200). -/
def C.drive (c : C) (f : Fld) (pin : Nat) (level : Bool) : C :=
  let b := level && !c.prt.uvlo
  if c.on f = b then c else (c.put f b).emit (.pin pin b)

/-- SOX or SOY driven. -/
def C.softOut (c : C) (leg : Nat) (level : Bool) : C := c.drive (softFld leg) leg level
/-- BYF driven. -/
def C.byf (c : C) (level : Bool) : C := c.drive R.PRT_STATE_BYF 2 level
/-- BYC driven. -/
def C.byc (c : C) (level : Bool) : C := c.drive R.PRT_STATE_BYC 3 level
/-- DMP driven. -/
def C.dmp (c : C) (level : Bool) : C := c.drive R.PRT_STATE_DMP 4 level

/-- The legs of a mask. -/
def legsOf (m : Nat) : List Nat := (List.range 2).filter (bitAt m)
/-- The legs of the switches of a mask (R149). -/
def switchLegs (m : Nat) : Nat := b2n (decide (m % 4 ≠ 0)) + 2 * b2n (decide (m / 4 % 4 ≠ 0))

/-- The retirement sequence running or ended (R203). -/
def C.retiring (c : C) : Bool := c.on R.PRT_STATE_SEQ

/-- The comparators that work: those of leg Y are powered down in a half-bridge cell (R183). -/
def C.powered (c : C) (m : Nat) : Nat := if c.on R.GTE_CTL_TYPE then m % 16 else m % 4

/-- The retirement sequence started (R203, R204 steps 1 and 2). -/
def C.startRetire (c : C) (ofs : Nat) (restart : Bool) : C :=
  if c.prt.uvlo || (c.retiring && !restart) then c else
  let c := ((c.allOff ofs).endTest ofs).wr R.GTE_STATE_RETIRE_LATCH 1
  let c := ((c.wr R.PRT_STATE_SEQ 1).withPrt (fun p => { p with bycUp := false, pulsing := false, jrnRun := true })).byf true
  let c := if c.on R.GTE_STATE_BLOCK_LATCH then c else c.showRow 4 15
  c.raise ofs CC.RETIRING []

/-- `PRT_TRIP` and TRIP_CNT (R190). -/
def C.tripRecord (c : C) (ofs l1 l2 : Nat) (ov2 gm : Bool) : C :=
  let c := c.inc R.PRT_CNT_A_TRIP_CNT
  let c := (List.range 4).foldl (fun c s => if bitAt l1 s || bitAt l2 s then c.flag (6 + s) else c) c
  if c.on R.PRT_TRIP_VALID then c else
  let c := ((c.wr R.PRT_TRIP_L1_SW l1).wr R.PRT_TRIP_L2_SW l2).put R.PRT_TRIP_OV2 ov2
  (((c.put R.PRT_TRIP_GM gm).wr R.PRT_TRIP_OFS ofs).wr R.PRT_TRIP_VALID 1).wr R.PRT_TRIP_DN_DN c.dn

/-- The legs of a trip turned off with their soft-off outputs at 1 (R187). -/
def C.turnOff (c : C) (ofs : Nat) (t : Soft) : C :=
  let c := (legsOf t.legs).foldl (fun (c : C) leg => (c.legOff leg ofs).softOut leg true) c
  c.withPrt (fun p => { p with soft := p.soft ++ [t], cut := ((p.cut.lor ((t.legs % 2) * 3)).lor ((t.legs / 2 % 2) * 12)) })

/-- The causes of crossings raised (R191, R193, R199). -/
def C.tripCauses (c : C) (ofs l1 l2 : Nat) (ov2 : Bool) : C :=
  let c := if l1 ≠ 0 then c.raise ofs CC.OC [] else c
  let c := if l2 ≠ 0 then c.raise ofs CC.SC [] else c
  if ov2 then c.raise ofs CC.OV2 [] else c

/-- A step that asks for no report of its own (R193). -/
def C.unreported (c : C) (f : C → C) : C := (f c).withClk (fun k => { k with force := c.clk.force })

/-- A trip of the crossings of one 4 ns cycle, or of the gate monitor (R187 to R193, R199, R207): level 2 and OV2 turn off both legs,
level 1 the leg of its switch; OV2 starts the retirement. -/
def C.trip (c : C) (ofs l1 l2 : Nat) (ov2 gm : Bool) : C :=
  let c := c.tripRecord ofs l1 l2 ov2 gm
  if c.retiring then (if gm then c else c.unreported (fun c => c.tripCauses ofs l1 l2 ov2)) else
  let legs := if l2 ≠ 0 then 3 else switchLegs l1
  let c := c.turnOff ofs ⟨if ov2 then 3 else legs, l1, l2, gm⟩
  let c := ((legsOf legs).foldl (fun (c : C) leg => c.wr (holdFld leg) 1) c).reshow
  if ov2 then (c.raise ofs CC.OV2 []).startRetire ofs false else c

/-- BLANK of the leg of a switch in force, in 1/16 ns (R184). -/
def C.blankTime (c : C) (sw : Nat) : Int := 64 * (if sw < 2 then c.prt.blankX else c.prt.blankY : Nat)

/-- How long an output has been unchanged at an offset, in 1/16 ns, up to 62.5 µs (R184, R207). -/
def C.unchanged (c : C) (sw ofs : Nat) : Int := (ofs : Int) - c.prt.last.get sw (-1000000)

/-- Whether the blanking window of a switch is open: it has not closed, and BLANK has not passed since the latest edge (R184). -/
def C.blanked (c : C) (sw ofs : Nat) : Bool := bitAt c.prt.blank sw && decide (c.unchanged sw ofs < c.blankTime sw)

/-- The level-1 crossings that act: outside their blanking windows and of legs not held (R184). -/
def C.level1 (c : C) (ofs m : Nat) : Nat :=
  (List.range 4).foldl (fun (o : Nat) s =>
    if bitAt m s && !c.blanked s ofs && !c.held (s / 2) then setBit o s else o) 0

/-- Whether a comparator is masked now, within the step that tests it (R209). -/
def C.maskedNow (c : C) (ofs k : Nat) : Bool := c.prt.masked == some k && decide (800 ≤ ofs) && decide (ofs < 13600)

/-- The comparators of a level that see their inputs: powered, and not under test (R183, R209). -/
def C.unmasked (c : C) (ofs level m : Nat) : Nat :=
  (List.range 4).foldl (fun (m : Nat) s => if c.maskedNow ofs (2 * s + level) then clrBit m s else m) (c.powered m)

/-- Crossings of one 4 ns cycle (R182 to R193, R199). -/
def C.comparators (c : C) (ofs l1 l2 : Nat) (ov2 : Bool) : C :=
  if c.prt.uvlo then c else
  let a := c.level1 ofs (c.unmasked ofs 0 l1)
  let b := c.unmasked ofs 1 l2
  let v := ov2 && !c.maskedNow ofs 8
  if a = 0 && b = 0 && !v then c else c.trip ofs a b v false

/-- Whether a comparator of a code trips on an input given in 1/256 of the LSB of the code: above the level it does, below it does not,
and within one LSB of it the answer is free (R182, R199). -/
def exceeds (v code free : Nat) : Bool :=
  if v ≤ 256 * code + 256 && 256 * code ≤ v + 256 then free % 2 == 1 else decide (256 * code < v)

/-- The comparators above their levels for the inputs sensed, by input: 0 to 3 those of XH, XL, YH and YL, 4 the capacitor voltage;
level 1, level 2, OV2 (R182, R199). -/
def C.sense (c : C) (cid : Nat) (ins : List (Nat × Nat)) : (Nat × Nat × Bool) × C :=
  let d := c.draw cid
  let beyond := fun (i code k : Nat) => match Tbl.find? ins i with
    | some v => exceeds v code (d.1 / 2 ^ k)
    | none => false
  let level := fun (f : Nat → Fld) (k : Nat) =>
    (List.range 4).foldl (fun (m : Nat) s => if beyond s (c.rd (f s)) (k + s) then setBit m s else m) 0
  ((level R.PRT_THR_L1 0, level R.PRT_THR_L2 4, beyond 4 (c.rd R.PRT_OVB_OV2) 8), d.2)

/-- Inputs that cross in one 4 ns cycle (R182 to R193, R199). -/
def C.crossing (c : C) (cid ofs : Nat) (ins : List (Nat × Nat)) : C :=
  let r := c.sense cid ins
  r.2.comparators ofs r.1.1 r.1.2.1 r.1.2.2

/-- The blanking windows of a mask of switches close in one 4 ns cycle, with the inputs of those switches (R184, R190). -/
def C.blankClose (c : C) (cid ofs sws : Nat) (ins : List (Nat × Nat)) : C :=
  let open_ := (List.range 4).foldl (fun (m : Nat) s => if bitAt sws s && bitAt c.prt.blank s then setBit m s else m) 0
  let c := c.withPrt (fun p => { p with blank := (List.range 4).foldl (fun (m : Nat) s => if bitAt open_ s then clrBit m s else m) p.blank })
  let r := c.sense cid ins
  r.2.comparators ofs (r.1.1.land open_) 0 false

/-- T_SOFT ends for the oldest trip: the soft-off outputs and the bypass request (R187, R191, R192). -/
def C.softEnd (c : C) (ofs : Nat) : C :=
  match c.prt.soft with
  | [] => c
  | t :: rest =>
    let c := c.withPrt (fun p => { p with soft := rest })
    let c := (legsOf t.legs).foldl (fun (c : C) leg =>
      if rest.any (fun r => bitAt r.legs leg) then c else c.softOut leg false) c
    if t.l1 = 0 && t.l2 = 0 then c else
    let c := (c.wr R.PRT_STATE_BYP_REQ 1).withPrt (fun p => { p with wait := some (p.wait.getD 0) })
    (if t.gm then c else c.tripCauses ofs t.l1 t.l2 false).withClk (fun k => { k with force := true })

/-- The count of R192 has expired. -/
def C.bypassDue (c : C) : Bool :=
  match c.prt.wait with
  | some n => c.on R.PRT_CTL_BYP_AUTO && !c.retiring && decide (n ≥ c.rd R.PRT_BYP_BYP_WAIT)
  | none => false

/-- A boundary counted since the first bypass request (R192). -/
def C.countBypass (c : C) : C :=
  let c := c.withPrt (fun p => { p with wait := p.wait.map (fun n => min 255 (n + 1)) })
  if c.bypassDue then c.startRetire 0 false else c

/-- A capacitor-voltage result in UQ12.4 V (R194 to R198): under the lock-out the dump control does not act (R200). -/
def C.capVoltage (c : C) (ofs : Nat) (v : Int) : C :=
  let off := decide (v ≤ (c.rd R.PRT_OVA_DMP_OFF : Int))
  let c := if off then c.withPrt (fun p => { p with dmpOff := false }) else c
  let c := if !c.on R.PRT_CTL_DUMP_FIT || c.prt.uvlo then c
    else if off then c.dmp false
    else if decide (v ≥ (c.rd R.PRT_OVA_DMP_ON : Int)) && !c.prt.dmpOff && !c.on R.PRT_STATE_DMP then
      (c.dmp true).inc R.PRT_CNT_A_DUMP_CNT
    else c
  let warn := (c.rd R.PRT_OVB_OV_WARN : Int)
  if decide (v ≥ warn) && c.prt.ovArm then
    (c.withPrt (fun p => { p with ovArm := false })).raise ofs CC.OV_WARN []
  else if v ≤ warn - 256 then c.withPrt (fun p => { p with ovArm := true })
  else c

/-- DMP has been 1 for DMP_TMAX (R196). -/
def C.dumpLimit (c : C) (ofs : Nat) : C :=
  if !c.on R.PRT_STATE_DMP then c else
  ((c.dmp false).withPrt (fun p => { p with dmpOff := true })).raise ofs CC.DUMP_LONG []

/-- The lock-out becomes active (R200). -/
def C.uvloEnter (c : C) (ofs : Nat) : C :=
  if c.prt.uvlo || c.maskedNow ofs 9 then c else
  let c := c.allOff ofs
  let c := ((((c.softOut 0 false).softOut 1 false).byf false).byc false).dmp false
  let c := c.withPrt (fun p => { p with uvlo := true, pulsing := false, jrnRun := false })
  (c.wr R.PRT_STATE_UVLO 1).reshow

/-- The lock-out releases, with the inputs of the comparators at that instant (R193, R200, R202, R213); UVLO_SEEN follows the causes of
lower bits (R446). -/
def C.uvloRelease (c : C) (cid ofs : Nat) (ins : List (Nat × Nat)) : C :=
  if !c.prt.uvlo then c else
  let c := ((c.withPrt (fun p => { p with uvlo := false })).inc R.PRT_CNT_B_UVLO_CNT).wr R.PRT_STATE_UVLO 1
  let c := (c.withGte (fun g => { g with retake := if c.testing then 3 else g.retake })).reshow
  let c := if c.on R.GTE_STATE_RETIRE_LATCH || c.on R.PRT_STATE_JRN_RET then c.startRetire ofs true else c
  ((c.crossing cid ofs ins).flag 14).raise ofs CC.UVLO_SEEN []

/-- A record written to the journal flash: 16 pages, the next always erased (R545). -/
def C.journal (c : C) (ty : Nat) (payload : List Nat) : C :=
  c.withCse (fun s => { s with jrn := journalAppend s.jrn 0 0x10000 true ty payload })

/-- The retirement record stands in the journal flash (R204 step 2). -/
def C.recordDone (c : C) : C :=
  if !c.prt.jrnRun then c else
  ((c.withPrt (fun p => { p with jrnRun := false })).journal 1 []).wr R.PRT_STATE_JRN_RET 1

/-- BYC_DLY after the start (R204 step 3). -/
def C.bycStart (c : C) : C :=
  if c.prt.uvlo || c.rd R.PRT_STATE_SEQ ≠ 1 || c.prt.bycUp then c else
  (c.withPrt (fun p => { p with bycUp := true })).byc true

/-- BYC_PULSE ends (R204). -/
def C.bycEnd (c : C) : C := c.byc false

/-- BYCS confirmed (R204 step 4). -/
def C.bycConfirm (c : C) : C :=
  if c.prt.uvlo || c.rd R.PRT_STATE_SEQ ≠ 1 || !c.prt.bycUp then c else
  (c.wr R.PRT_STATE_SEQ 2).wr R.PRT_STATE_BYC_FB 1

/-- BYC_TMO passed (R204 step 5). -/
def C.bycTimeout (c : C) (ofs : Nat) : C :=
  if c.prt.uvlo || c.rd R.PRT_STATE_SEQ ≠ 1 || !c.prt.bycUp then c else
  (c.wr R.PRT_STATE_SEQ 3).raise ofs CC.BYC_FAIL []

/-- 1 ms after the confirmation (R204). -/
def C.byfRelease (c : C) : C :=
  if c.rd R.PRT_STATE_SEQ ≠ 2 then c else (c.withPrt (fun p => { p with pulsing := false })).byf false

/-- An edge of the pulses on BYF (R204 step 6). -/
def C.byfPulse (c : C) (level : Bool) : C :=
  let seq := c.rd R.PRT_STATE_SEQ
  if c.prt.uvlo || !(seq == 1 || seq == 3 || (seq == 2 && c.prt.pulsing)) then c else
  (c.withPrt (fun p => { p with pulsing := true })).byf level

/-- How long an output must be unchanged before its feedback is compared, in 1/16 ns (R207). -/
def C.settle (c : C) (sw : Nat) : Nat :=
  16 * (c.rd R.PRT_SOFT_GM_SETTLE + if bitAt c.prt.cut sw then c.rd R.PRT_SOFT_T_SOFT else 0)

/-- The feedback of a switch has stood at a level for three cycles (R207): a mismatch once the comparison runs is a fault. -/
def C.gateMismatch (c : C) (ofs sw : Nat) (high : Bool) : C :=
  if c.prt.uvlo || sw ≥ 4 || c.powered (2 ^ sw) = 0 || bitAt c.outs sw == high || c.unchanged sw ofs < c.settle sw then c else
  let raise := fun (c : C) => c.raise ofs CC.GATE_MISMATCH []
  let c := c.inc R.PRT_CNT_B_GM_CNT
  let c := if c.retiring then c.unreported raise else raise c
  if c.held (sw / 2) && !c.retiring then c else c.trip ofs (2 ^ sw) 0 false true

/-- A command of `PRT_CMD` answered (R213). -/
def C.prtCmd (c : C) (op : Nat) (ok : Bool) : C :=
  let c := (c.wr R.PRT_CMD_OP op).wr R.PRT_CMD_GO 0
  if ok then c.wr R.PRT_CMD_STAT_DONE 1 else c.wr R.PRT_CMD_STAT_REJ 1

/-- CLR_HOLD, with the comparators above level 1 (R189). -/
def C.clrHold (c : C) (above : Nat) : C :=
  let hot := switchLegs (c.powered above)
  let clash := (List.range 2).any (fun leg => c.held leg && bitAt hot leg)
  let any := c.held 0 || c.held 1
  let ok := !any || (!c.on R.PRT_CTL_BYP_AUTO && !c.retiring && !clash)
  let c := c.prtCmd 2 ok
  if !ok || !any then c else
  let legs := b2n (c.held 0) + 2 * b2n (c.held 1)
  let c := (c.wr R.PRT_STATE_HOLD_X 0).wr R.PRT_STATE_HOLD_Y 0
  (c.withGte (fun g => { g with retake := if c.testing then g.retake.lor legs else g.retake })).reshow

/-- CLR_HOLD with the inputs sensed now (R189). -/
def C.clrHoldNow (c : C) (cid : Nat) (ins : List (Nat × Nat)) : C :=
  let r := c.sense cid ins
  r.2.clrHold r.1.1

/-- CLR_JOURNAL (R206). -/
def C.clrJournal (c : C) : C :=
  let ok := c.on R.GTE_STATE_RETIRE_LATCH && c.rd R.PRT_STATE_SEQ ≥ 2
  let c := c.prtCmd 3 ok
  if ok then (c.withCse (fun s => { s with jrn := journalDrop s.jrn 0 0x10000 true 1 })).wr R.PRT_STATE_JRN_RET 0 else c

/-- The self-test ends. -/
def C.testOver (c : C) : C := (c.withPrt (fun p => { p with test := none })).wr R.PRT_CMD_STAT_BUSY 0

/-- The comparators of a mask that are tested: those of leg Y are skipped in a half-bridge cell (R210). -/
def C.testable (c : C) (m : Nat) : Nat := if c.on R.GTE_CTL_TYPE then m else m % 16 + m / 256 * 256

/-- The lowest comparator left. -/
def lowest (m : Nat) : Option Nat := (List.range 10).find? (bitAt m)

/-- SELFTEST (R208). -/
def C.selftest (c : C) (mask : Nat) : C :=
  let mask := mask % 1024
  let ok := c.prt.test.isNone && !c.retiring
  let c := (c.wr R.PRT_CMD_MASK mask).prtCmd 1 ok
  if !ok then c else
  let c := (c.wr R.PRT_ST_RES_PASS 0).wr R.PRT_ST_RES_FAIL 0
  if c.testable mask = 0 then c else
  (c.withPrt (fun p => { p with test := some (mask, 0) })).wr R.PRT_CMD_STAT_BUSY 1

/-- The self-test is stopped after 1,024 departures (R210). -/
def C.testTimeout (c : C) (ofs : Nat) : C :=
  match c.prt.test with
  | some (_, n) => if n ≥ 1024 then c.testOver.raise ofs CC.ST_ABORT [] else c
  | none => c

/-- A departure begins with the self-test running: one step where R209 allows it, with its outcome (R209 to R211). -/
def C.testStep (c : C) (pass : Bool) : C :=
  let c := c.withPrt (fun p => { p with masked := none })
  match c.prt.test with
  | none => c
  | some (m, n) =>
    if c.testable m = 0 then c.testOver else
    let row := c.rd R.GTE_STATE_ROW
    let fits := !c.gte.first || (c.rd R.GTE_STATE_CODE == 0 && (row == 2 || row == 6))
    let c := c.withPrt (fun p => { p with test := some (m, n + 1) })
    let c := match (if fits && !c.prt.uvlo then lowest (c.testable m) else none) with
      | none => c
      | some k =>
        let left := clrBit m k
        let c := c.withPrt (fun p => { p with masked := some k, test := some (left, n + 1) })
        let c := if pass then c.wr R.PRT_ST_RES_PASS (setBit (c.rd R.PRT_ST_RES_PASS) k)
          else (c.wr R.PRT_ST_RES_FAIL (setBit (c.rd R.PRT_ST_RES_FAIL) k)).raise 13600 CC.SELFTEST_FAIL []
        if c.testable left = 0 then c.testOver else c
    c.testTimeout 0

/-- A write of `PRT_THR` (R183, R214). -/
def C.thrWrite (c : C) (ofs s v : Nat) : C :=
  if c.on R.PRT_CTL_LOCK || s ≥ 4 then c
  else if bits v 8 8 ≤ bits v 0 8 then c.raise ofs CC.THR_REJ []
  else (c.wr (R.PRT_THR_L1 s) v).wr (R.PRT_THR_L2 s) (v / 256)

/-- A write of `PRT_OVA` (R195, R214). -/
def C.ovaWrite (c : C) (v : Nat) : C :=
  if c.on R.PRT_CTL_LOCK || bits v 16 16 ≥ bits v 0 16 then c
  else (c.wr R.PRT_OVA_DMP_ON v).wr R.PRT_OVA_DMP_OFF (v / 65536)

end Sys2Proof.Machine
end

