-- ==== Sys2Proof/Machine/Adc.lean ====
section
/-! DEFINITION. The measurement block of a cell: conversion slots, mismatch correction, sinc filters, scaling and delivery
(R371 to R382). -/
namespace Sys2Proof.Machine

/-- The beside-registers state of an entry replaced. -/
def C.setEnt (c : C) (n : Nat) (f : AdcEnt → AdcEnt) : C := { c with adc := c.adc.set n (f (c.ent n)) }

/-- STEP of an entry; 1 where the field holds a value outside its list. -/
def C.step (c : C) (n : Nat) : Nat :=
  let s := c.rd (R.ADC_ENT_CFG_STEP n)
  if s == 1 || s == 2 || s == 4 || s == 5 || s == 10 || s == 20 then s else 1

/-- Whether an entry owns a slot (R373). -/
def C.owns (c : C) (n k : Nat) : Bool := k % c.step n == c.rd (R.ADC_ENT_CFG_SLOT n) % c.step n

/-- Whether an entry samples in a departure (R373). -/
def C.sampling (c : C) (n dn : Nat) : Bool := (dn + c.rd (R.ADC_ENT_TIME_PHASE n)) % max 1 (c.rd (R.ADC_ENT_TIME_DIV n)) == 0

/-- The slices of an entry (R371, R373). -/
def C.slices (c : C) (n : Nat) : List Nat :=
  (List.range 4).filter (fun (s : Nat) => (List.range 5).any (fun (j : Nat) => c.owns n (s + 4 * j)))

/-- The sample interval in ns (R373). -/
def C.ts (c : C) (n : Nat) : Nat :=
  if c.rd (R.ADC_ENT_TIME_DIV n) = 1 then 50 * c.step n else 1000 * c.rd (R.ADC_ENT_TIME_DIV n)

/-- ORDER of an entry. -/
def C.order (c : C) (n : Nat) : Nat := c.rd (R.ADC_ENT_CFG_ORDER n) + 1
/-- M of an entry. -/
def C.dec (c : C) (n : Nat) : Nat := c.rd (R.ADC_ENT_DEC_M n)
/-- Whether an entry's mode is interleaved (R373, R378). -/
def C.interleaved (c : C) (n : Nat) : Bool := !c.on (R.ADC_ENT_CFG_MODE n)
/-- Whether 20 / STEP is a multiple of M (R374, R376). -/
def C.aligned (c : C) (n : Nat) : Bool := c.rd (R.ADC_ENT_TIME_DIV n) == 1 && 20 / c.step n % max 1 (c.dec n) == 0

/-- Two entries sample in a common departure (R374). -/
def C.meet (c : C) (m n : Nat) : Bool :=
  let dm := max 1 (c.rd (R.ADC_ENT_TIME_DIV m))
  let dn := max 1 (c.rd (R.ADC_ENT_TIME_DIV n))
  let g := Nat.gcd dm dn
  c.rd (R.ADC_ENT_TIME_PHASE m) % g == c.rd (R.ADC_ENT_TIME_PHASE n) % g

/-- Whether an EN of an entry is refused (R374). -/
def C.adcRefused (c : C) (n : Nat) : Bool :=
  let on := fun m => m != n && c.on (R.ADC_ENT_CFG_EN m)
  let others := (List.range 16).filter on
  let step := c.rd (R.ADC_ENT_CFG_STEP n)
  let single := step == 4 || step == 20
  let inter := step == 1 || step == 2 || step == 5 || step == 10
  let div := c.rd (R.ADC_ENT_TIME_DIV n)
  let role := c.rd (R.ADC_ENT_CFG_ROLE n)
  let pdn := c.on (R.ADC_ENT_CFG_PDN n)
  let settle := c.order n * c.dec n * c.ts n
  !((single && !c.interleaved n) || (inter && c.interleaved n)) ||
  others.any (fun m => c.meet m n && (List.range 20).any (fun k => c.owns m k && c.owns n k)) ||
  (decide (div > 1) && step != 20) || decide (div ≤ c.rd (R.ADC_ENT_TIME_PHASE n)) ||
  (pdn && (c.interleaved n || others.any (fun m => !c.on (R.ADC_ENT_CFG_PDN m) && (c.slices n).any (fun s => (c.slices m).contains s)))) ||
  decide (role > 10) || (role != 0 && others.any (fun m => c.rd (R.ADC_ENT_CFG_ROLE m) == role)) ||
  ((role == 1 || role == 2) && (div != 1 || pdn || !c.aligned n || decide (1000 < settle))) ||
  (role == 1 && (c.rd (R.ADC_ENT_CFG_INPUT n) != 0 || c.rd (R.ADC_ENT_CFG_GAIN n) != 0))

/-- The enabled entries that use a slice. -/
def C.sliceUsers (c : C) (s : Nat) : List Nat := (List.range 16).filter (fun n => c.on (R.ADC_ENT_CFG_EN n) && (c.slices n).contains s)

/-- PWR after a change of the enables (R371): a slice that comes into use is powered, one that no entry uses any more is not, and one that
R375 has powered down stays so while all its entries have PDN set. -/
def C.power (c : C) (before : C) : C :=
  let p := c.rd R.ADC_CTL_PWR
  let up := fun (s : Nat) =>
    let users := c.sliceUsers s
    !users.isEmpty && (bitAt p s || (before.sliceUsers s).isEmpty || users.any (fun n => !c.on (R.ADC_ENT_CFG_PDN n)))
  c.wr R.ADC_CTL_PWR ((List.range 4).foldl (fun (m : Nat) s => m + b2n (up s) * 2 ^ s) 0)

/-- An entry whose enable comes into force (R376, R378, R380): its filter and estimates start anew, and with a role what it feeds reads 0
until its first output; without one its latest result stands. -/
def C.startEnt (c : C) (n : Nat) : C :=
  let e := c.ent n
  let new := { AdcEnt.zero with live := true, scale := e.scale, shift := e.shift, off := e.off }
  if c.on (R.ADC_ENT_CFG_ROLE n) then (c.setEnt n (fun _ => new)).wr (R.ADC_ENT_RES_RES n) 0
  else c.setEnt n (fun e => { new with res := e.res, dn := e.dn, ofs := e.ofs, got := e.got })

/-- An entry's enable in force from the local boundary (R374, R376, R378, R380). -/
def C.adcBoundary (c : C) : C :=
  (List.range 16).foldl (fun (c : C) n =>
    let en := c.on (R.ADC_ENT_CFG_EN n)
    let e := c.ent n
    if en && !e.live then c.startEnt n
    else if !en && e.live then c.setEnt n (fun e => { e with live := false })
    else c) c

/-- The estimates of a slice: offset in 1/256 code, gain in 2^-15, skew in 1/1,024 ns (R378). -/
def AdcEnt.estimate (e : AdcEnt) (s : Nat) : Int × Nat × Int := e.est.get s (0, 32768, 0)

/-- A corrected sample in 2^-23 of full scale (R376, R378). -/
def C.correct (c : C) (n slice : Nat) (x : Int) : Int :=
  let e := c.ent n
  if !c.interleaved n then x * 256 else
  let k := e.estimate slice
  let ts := (c.ts n : Int)
  let a := (x * 256 - k.1) * (k.2.1 : Int)
  let b := k.2.2 * (x - e.prev.getD x)
  rdiv (a * 4 * ts - b * 32768) (131072 * c.ts n)

/-- Values around 0 in the order of the slices, each moved to the nearest that its clamp and the mean 0 of all of them allow, `sum` being
that of the values before (R378). -/
def centred (lim : Int) : Int → List Int → List Int
  | _, [] => []
  | sum, x :: t =>
    let rest := lim * t.length
    let y := clamp (max (-lim) (-rest - sum)) (min lim (rest - sum)) x
    y :: centred lim (sum + y) t

/-- As many free errors up to a span as there are slices, each taken with weight 2^−`sh` (R378). -/
def drawSteps (cid sh : Nat) (span : Nat) : Nat → C → List Int × C
  | 0, c => ([], c)
  | n + 1, c =>
    let d := c.draw cid
    let r := drawSteps cid sh span n d.2
    (rdiv (((d.1 % (2 * span + 1) : Nat) : Int) - (span : Int)) (2 ^ sh) :: r.1, r.2)

/-- The estimates of an interleaved entry updated after a sample (R378): each moves by 2^−CAL_SH of its error, which the spec does not give
and which is free up to full scale (log entry 2), the means then held and the clamps applied. -/
def C.adapt (c : C) (cid ofs n : Nat) : C :=
  if !c.interleaved n || c.on R.ADC_CTL_CAL_FREEZE then c else
  let sl := c.slices n
  let sh := c.rd R.ADC_CTL_CAL_SH
  let old := sl.map (c.ent n).estimate
  let o := drawSteps cid sh 16777216 sl.length c
  let g := drawSteps cid sh 32768 sl.length o.2
  let t := drawSteps cid sh 1048576 sl.length g.2
  let moved := fun (lim : Int) (old steps : List Int) => centred lim 0 (List.zipWith (fun a b => a + b) old steps)
  let os := moved 16384 (old.map (fun e => e.1)) o.1
  let gs := moved 512 (old.map (fun e => (e.2.1 : Int) - 32768)) g.1
  let ks := moved 1024 (old.map (fun e => e.2.2)) t.1
  let c := t.2.setEnt n (fun e => { e with est := (List.range sl.length).map (fun (i : Nat) =>
    (sl.getD i 0, os.getD i 0, (32768 + gs.getD i 0).toNat, ks.getD i 0)) })
  let met := os.any (fun x => decide (16384 ≤ x.natAbs)) || gs.any (fun x => decide (512 ≤ x.natAbs)) ||
    ks.any (fun x => decide (1024 ≤ x.natAbs))
  if met then c.raise ofs CC.CAL_LIM [(8, 4, n)] else c

/-- The convolution of two weight lists. -/
def convolve (a b : List Nat) : List Nat :=
  (List.range (a.length + b.length - 1)).map (fun (i : Nat) =>
    (List.range a.length).foldl (fun (s : Nat) j => if j ≤ i then s + a.getD j 0 * b.getD (i - j) 0 else s) 0)

/-- The weights of a sinc filter of an order over M samples (R376). -/
def sincWeights (m : Nat) : Nat → List Nat
  | 0 => [1]
  | o + 1 => convolve (List.replicate m 1) (sincWeights m o)

/-- The normalised response to the latest samples (R376). -/
def sinc (order m : Nat) (hist : List Int) : Int :=
  let w := sincWeights m order
  rdiv ((List.range w.length).foldl (fun (s : Int) i => s + (w.getD i 0 : Int) * hist.getD i 0) 0) (m ^ order)

/-- A result saturated to the format of its role (R379, R380). -/
def roleSat (role : Nat) (x : Int) : Int :=
  if role = 1 then satU 24 x else if role = 2 then satS 24 x
  else if 3 ≤ role && role ≤ 6 then satS 16 x
  else if 7 ≤ role && role ≤ 10 then satU 16 x else satS 32 x

/-- The slot of the sample on which an output of every departure falls: the last at or before boundary + 50 ns (R376). -/
def C.refSlot (c : C) (n : Nat) : Nat :=
  if c.owns n 1 then 1 else if c.owns n 0 then 0
  else (List.range 20).foldl (fun (m : Nat) k => if c.owns n k then k else m) 0

/-- Whether an output falls on this sample (R376). -/
def C.outputDue (c : C) (n k : Nat) : Bool :=
  let e := c.ent n
  decide (e.n ≥ c.order n * c.dec n) &&
    (if c.aligned n then (k + 20 - c.refSlot n) % 20 / c.step n % max 1 (c.dec n) == 0 else e.n % max 1 (c.dec n) == 0)

/-- VCAP or ICELL of a departure taken into the reports of that departure (R319, R377); an output that falls on a slot after the second
belongs to the departure that follows, whose report is not made yet (`C.repReady`). -/
def C.fixReport (c : C) (role dn : Nat) (v : Int) : C :=
  c.withClk (fun l => { l with rpts := l.rpts.map (fun r =>
    if r.dn ≠ dn then r else if role = 1 then { r with vcap := some v } else if role = 2 then { r with icell := some v } else r) })

/-- A filter output saturated to 24 bits (R5, R376), scaled and delivered (R379, R380, R194). -/
def C.deliver (c : C) (ofs n k dn at_ : Nat) : C :=
  let e := c.ent n
  let len := c.order n * c.dec n
  let win := e.hist.take len
  let f := satS 24 (sinc (c.order n) (c.dec n) (win.map (fun s => s.1)))
  let role := c.rd (R.ADC_ENT_CFG_ROLE n)
  let r := roleSat role (rshift (f * e.scale) e.shift + e.off)
  let rep := if k = c.refSlot n then r else e.rep
  let c := c.setEnt n (fun e => { e with res := r, dn := dn, ofs := at_, got := true, rep := rep, last := f })
  let c := if k = c.refSlot n && k < 2 then c.fixReport role dn r else c
  let c := c.wr (R.ADC_ENT_RES_RES n) (enc 32 r)
  let c := if win.any (fun s => s.2) then (c.inc R.ADC_CNT_CLIP_CNT).raise ofs CC.CLIP [(8, 4, n)] else c
  if role = 1 then c.capVoltage ofs (satU 16 (rshift r 4)) else c

/-- How long after the instant of a slot of a departure a slice next converts, in ns (R375). -/
def C.nextDue (c : C) (slice k dn : Nat) : Nat :=
  (List.range 16).foldl (fun (best : Nat) n =>
    if !c.on (R.ADC_ENT_CFG_EN n) || !(c.slices n).contains slice then best else
    let div := max 1 (c.rd (R.ADC_ENT_TIME_DIV n))
    let here := if c.sampling n dn then
        (List.range 20).foldl (fun (b : Nat) j => if c.owns n j && j % 4 == slice && decide (k < j) then min b (50 * (j - k)) else b) 1000000
      else 1000000
    let wait := (div - (dn + 1 + c.rd (R.ADC_ENT_TIME_PHASE n)) % div) % div
    let first := (List.range 20).foldl (fun (b : Nat) j => if c.owns n j && j % 4 == slice then min b j else b) 20
    min best (min here ((wait + 1) * 1000 + 50 * first - 50 * k))) 1000000

/-- A slice powered up or down after its conversion, `moved` ns after the instant of its slot (R375). -/
def C.slicePower (c : C) (slice k dn moved : Nat) : C :=
  let down := (c.sliceUsers slice).all (fun n => c.on (R.ADC_ENT_CFG_PDN n)) && decide (4000 + moved ≤ c.nextDue slice k dn)
  let p := c.rd R.ADC_CTL_PWR
  c.wr R.ADC_CTL_PWR (if down then clrBit p slice else setBit p slice)

/-- A conversion slot: the raw sample of the slice in two's complement (R371 to R380, R403). -/
def C.convert (c : C) (cid k raw : Nat) : C :=
  if k ≥ 20 then c else
  let dn := c.dn
  let due := (List.range 16).filter (fun n => (c.ent n).live && c.owns n k && c.sampling n dn)
  match due with
  | [] => c
  | n :: skipped =>
    let ofs := max c.gte.ofs (800 * k)
    let c := (c.withGte (fun g => { g with ofs := ofs })).placeEdges ofs
    let c := skipped.foldl (fun (c : C) _ => c.inc R.ADC_CNT_SKIP_CNT) c
    let slice := k % 4
    let late := !bitAt (c.rd R.ADC_CTL_PWR) slice
    let sdn := if late then (dn + 2) % 2 ^ 32 else dn
    let x := sx 16 raw
    let y := c.correct n slice x
    let clip := decide (x = -32768) || decide (x = 32767)
    let keep := c.order n * c.dec n
    let c := c.setEnt n (fun e => { e with n := e.n + 1, hist := ((y, clip) :: e.hist).take keep, prev := some x })
    let c := if c.outputDue n k then c.deliver ofs n k sdn (800 * k) else c
    let c := c.adapt cid ofs n
    let c := c.slicePower slice k dn (if late then 2000 else 0)
    if n = c.rd R.CCP_RATE_MASTER then c.ccpSample ofs sdn (800 * k) else c

/-- A store to `ADC_ENT_CFG` (R374, R382, R603). -/
def C.adcCfgWrite (c : C) (ofs n v : Nat) : C :=
  if n ≥ 16 then c else
  let cur := c.on (R.ADC_ENT_CFG_EN n)
  let fs := [R.ADC_ENT_CFG_INPUT n, R.ADC_ENT_CFG_GAIN n, R.ADC_ENT_CFG_MODE n, R.ADC_ENT_CFG_PDN n, R.ADC_ENT_CFG_ORDER n,
    R.ADC_ENT_CFG_ROLE n, R.ADC_ENT_CFG_SLOT n, R.ADC_ENT_CFG_STEP n]
  let ok := fun (f : Fld) (x : Nat) =>
    if f.lo = 16 then decide (x < 20)
    else if f.lo = 21 then x == 1 || x == 2 || x == 4 || x == 5 || x == 10 || x == 20 else true
  let new := fs.map (fun f => (f, if ok f (bits v f.lo f.width) then bits v f.lo f.width else c.rd f))
  let changed := new.any (fun e => e.2 != c.rd e.1)
  let en := bitAt v 0
  if c.on R.ADC_CTL_LOCK then (if changed || en != cur then c.raise ofs CC.ADC_WR_REJ [(8, 4, n)] else c)
  else if cur then
    if changed then c.raise ofs CC.ADC_WR_REJ [(8, 4, n)]
    else if en then c
    else ((c.wr (R.ADC_ENT_CFG_EN n) 0).setEnt n (fun e => { e with live := false })).power c
  else
    let w := new.foldl (fun (c : C) e => c.wr e.1 e.2) c
    if !en then w
    else if w.adcRefused n then c.raise ofs CC.ADC_WR_REJ [(8, 4, n)]
    else (w.wr (R.ADC_ENT_CFG_EN n) 1).power w

/-- A store to `ADC_ENT_OFS` (R379, R382, R603). -/
def C.adcOfsWrite (c : C) (ofs n v : Nat) : C :=
  let same := bits v 0 24 == c.rd (R.ADC_ENT_OFS_OFFSET n) && bits v 24 5 == c.rd (R.ADC_ENT_OFS_SHIFT n)
  if n ≥ 16 then c
  else if c.on R.ADC_CTL_LOCK then (if same then c else c.raise ofs CC.ADC_WR_REJ [(8, 4, n)])
  else
    let c := (c.wr (R.ADC_ENT_OFS_OFFSET n) v).wr (R.ADC_ENT_OFS_SHIFT n) (v / 2 ^ 24)
    c.setEnt n (fun e => { e with
      scale := sx 32 (c.rd (R.ADC_ENT_SCALE_SCALE n)), shift := bits v 24 5, off := sx 24 v })

/-- `ADC_ENT_RES_DN` latched for the result that a read returns (R380). -/
def C.latchResDn (c : C) (n : Nat) : C := c.wr (R.ADC_ENT_RES_DN_DN n) (c.ent n).dn

/-- A core read of `ADC_ENT_RES` (R380). -/
def C.adcResRead (c : C) (n : Nat) : C :=
  if n ≥ 16 then c else
  (c.latchResDn n).emit (.readData 0 (R.ADC_ENT_RES_RES n).addr (c.rd (R.ADC_ENT_RES_RES n)))

/-- The estimates shown at the read window (R378, R382). -/
def C.corWindow (c : C) : Nat × Nat × Nat :=
  let n := c.rd R.ADC_COR_SEL_ENTRY
  let s := c.rd R.ADC_COR_SEL_SLICE
  if !(c.slices n).contains s then (0, 0, 0) else
  let k := (c.ent n).estimate s
  (enc 16 k.1, k.2.1, enc 16 k.2.2)

end Sys2Proof.Machine
end

