-- ==== Sys2Proof/Machine/CellSecure.lean ====
section
/-! DEFINITION. Firmware, identity and the reset of a cell (R202, R541 to R544, R549 to R566, R573). -/
namespace Sys2Proof.Machine

/-- The base of a firmware slot in the embedded flash (R553, R579). -/
def slotBase (s : Nat) : Nat := s * 0x80000

/-- UNIT_ID of the cell. -/
def C.unitId (c : C) : Nat := c.rd R.CSE_UNIT_L_UNIT_LO + 2 ^ 32 * c.rd R.CSE_UNIT_H_UNIT_HI

/-- What the cell checks images against (R550, R553). -/
def C.verifier (c : C) : Verifier := ⟨0x7020, c.unitId, c.cse.vendor, false, 0, c.rd R.CSE_BOOT_ARB, true⟩

/-- The running slot. -/
def C.slot (c : C) : Nat := c.rd R.CSE_BOOT_SLOT
/-- Byte 3 of the attestation answer (R559). -/
def C.slotByte (c : C) : Nat := c.slot + 2 * c.rd R.CSE_BOOT_PENDING
/-- The certificate (R551, R573). -/
def C.cert (c : C) : List Nat := (List.range 1332).flatMap (fun n => toBytes 4 (c.rd (R.CSE_CERT_BYTES n)))
/-- A number of the running image's header. -/
def C.header (c : C) (o w : Nat) : Nat := Flash.num c.cse.flash (slotBase c.slot + o) w

/-- The slot records of the journal flash, oldest first (R545, R555). -/
def C.slotRecs (c : C) : List SlotRec := journalSlots c.cse.jrn 0 0x10000
/-- A slot record written (R555). -/
def C.slotRecord (c : C) (r : SlotRec) : C := c.journal 2 r.bytes

/-- Firmware started from a slot, or the cell left in its ROM with the slot 0 (R543, R556, R566). -/
def C.boot (c : C) : C :=
  let old := c.slotRecs
  let b := bootChoice old (fun s => imageCheck c.verifier c.cse.flash (slotBase s) 0x80000 == 0)
  let c := ((b.recs.drop old.length).foldl (fun (c : C) r => c.slotRecord r) c).withCse (fun s => { s with rom := b.slot.isNone })
  let s := b.slot.getD 0
  let last := latestSlot b.recs
  let c := ((((c.wr R.CSE_BOOT_SLOT s).put R.CSE_BOOT_PENDING b.pending).wr R.CSE_BOOT_TRIES (if b.pending then last.tries else 0)).put
    R.CSE_BOOT_FALLBACK b.fell)
  let c := if b.slot.isSome then (c.wr R.CSE_BOOT_KEY (c.header 21 1)).wr R.CSE_VERSION_VERSION (c.header 16 4) else c
  if b.fell then c.raise 0 CC.BOOT_FALLBACK [] else c

/-- The fuses and the certificate store kept through a reset (R550, R551): their fields are the only ones. -/
def cellFuses (r : Regs) : Regs :=
  r.filter (fun e => e.1 == R.CSE_UNIT_L_UNIT_LO.key || e.1 == R.CSE_UNIT_H_UNIT_HI.key || e.1 == R.CSE_BOOT_ARB.key ||
    (decide (0x40061000 * 32 ≤ e.1) && decide (e.1 < 0x400624D0 * 32)))

/-- The reset of every block of a cell (R202, R544): the journal, the flash and the fuses stay; `uvlo` tells whether the lock-out
stands. -/
def C.powerReset (c : C) (uvlo : Bool) : C :=
  let n := { C.reset with
    regs := cellFuses c.regs, prt := { Prt.zero with uvlo := uvlo },
    cse := { Cse.zero with flash := c.cse.flash, jrn := c.cse.jrn, vendor := c.cse.vendor }, out := c.out, free := c.free }
  let n := (n.put R.PRT_STATE_JRN_RET ((journalRecs c.cse.jrn 0 0x10000).any (fun r => r.ty == 1))).reshow
  let n := (([0, 1, 2, 3] : List Nat).foldl (fun (n : C) sw => if bitAt c.outs sw then n.emit (.edge sw 0 false none) else n) n)
  let off := fun (n : C) (f : Fld) (pin : Nat) => if c.on f then n.emit (.pin pin false) else n
  off (off (off (off (off n R.PRT_STATE_SOFT_X 0) R.PRT_STATE_SOFT_Y 1) R.PRT_STATE_BYF 2) R.PRT_STATE_BYC 3) R.PRT_STATE_DMP 4

/-- VAUX has fallen below 2.5 V (R202, R543): the cell starts anew when it has risen, under the lock-out. -/
def C.powerOn (c : C) : C := (c.powerReset true).boot

/-- A commanded reset performed (R544): a retirement record restarts the sequence, under the lock-out at its release (R202). -/
def C.selfReset (c : C) : C :=
  if c.rst ≠ some 0 then c else
  let n := (c.powerReset c.prt.uvlo).boot
  if n.on R.PRT_STATE_JRN_RET && !n.prt.uvlo then n.startRetire 0 true else n

/-- A commanded reset asked for (R544). -/
def C.askReset (c : C) : C := if c.rst.isSome then c else { c with rst := some 64 }

/-- A store to `CSE_CMD` (R557, R573). -/
def C.cseCmd (c : C) (ofs v : Nat) : C :=
  let op := bits v 0 4
  let ok := !c.on R.CSE_CMD_STAT_BUSY && (op == 3 || (op == 4 && bits v 16 16 == 0x5EC1 && !c.on R.CSE_BOOT_PENDING &&
    decide (c.header 20 1 > c.rd R.CSE_BOOT_ARB) && c.rd R.GTE_STATE_CODE == 0))
  if ok then (c.withCse (fun s => { s with cmd := some op })).wr R.CSE_CMD_STAT_BUSY 1
  else (c.wr R.CSE_CMD_STAT_REJ 1).raise ofs CC.CMD_REJ []

/-- A CSE command completes (R557, R573). -/
def C.cseDone (c : C) : C :=
  match c.cse.cmd with
  | none => c
  | some op =>
    let c := ((c.withCse (fun s => { s with cmd := none })).wr R.CSE_CMD_STAT_BUSY 0).wr R.CSE_CMD_STAT_DONE 1
    if op = 3 then
      if c.on R.CSE_BOOT_PENDING then
        ((c.slotRecord ⟨c.slot, none, 0, false⟩).wr R.CSE_BOOT_PENDING 0).wr R.CSE_BOOT_TRIES 0
      else c
    else c.wr R.CSE_BOOT_ARB (c.header 20 1)

/-- The next answer block made ready when none waits (R339, R561). -/
def C.feed (c : C) : C :=
  if c.clk.resps.any (fun r => r.octets.headD 0 == 0x19) then c else
  match c.cse.place with
  | [] => c
  | (u, tag, k) :: rest =>
    match Tbl.find? c.cse.done u with
    | some (t, a) =>
      if t ≠ tag then c.withCse (fun s => { s with place := rest }) else
      let c := c.withClk (fun l => { l with resps := l.resps ++ [Resp.mk (answerBlock tag (c.cid + u * 32768) k a) 0 false] })
      c.withCse (fun s => { s with place := if k + 1 < 157 then (u, tag, k + 1) :: rest else rest })
    | none => c.withCse (fun s => { s with place := rest })

/-- A challenge to this cell (R560, R561). -/
def C.challenge (c : C) (unitB : Bool) (tag nonce : Nat) : C :=
  let u := b2n unitB
  let again := match Tbl.find? c.cse.done u with
    | some (t, _) => t == tag
    | none => false
  let running := match c.cse.run with
    | some (v, t, _) => v == u && t == tag
    | none => false
  if running then c
  else if again then
    (if c.cse.place.any (fun p => p.1 == u && p.2.1 == tag) then c
     else c.withCse (fun s => { s with place := s.place ++ [(u, tag, 0)] })).feed
  else if c.cse.run.isNone then c.withCse (fun s => { s with run := some (u, tag, nonce) })
  else c.withCse (fun s => { s with wait := s.wait.set u (tag, nonce) })

/-- The statement being signed completes (R558, R559, R561). -/
def C.statementDone (c : C) (cid : Nat) : C :=
  match c.cse.run with
  | none => c
  | some (u, tag, nonce) =>
    let fwd := c.header 64 32
    let cfg := c.clk.applied.getD 0
    let a := attestation (cellChip cid) 0x7020 c.slotByte c.unitId nonce (measurement fwd cfg) fwd cfg (c.rd R.CSE_VERSION_VERSION)
      (c.rd R.CSE_BOOT_ARB) u c.cert
    let next : Option (Nat × Nat × Nat) := match c.cse.wait with
      | (w, t, n) :: _ => some (w, t, n)
      | [] => none
    (c.withCse (fun s => { s with
      done := s.done.set u (tag, a), place := s.place.filter (fun p => p.1 != u) ++ [(u, tag, 0)],
      run := next, wait := s.wait.drop 1 })).feed

end Sys2Proof.Machine
end

