-- ==== Sys2Proof/Machine/MapCell.lean ====
section
/-! DEFINITION. The register map of the BQ7020 (R579): every field of every register table, with its place, its access code,
its reset value and the values a write may give it. -/
namespace Sys2Proof.Machine

/-- Fields GTE_CTL.TYPE to GTE_PAT.PAT. -/
def cellMap0 : List RegRow := [
  ⟨1, 0x0, 1, 0x0, false, ⟨0x40010000, 0, 1, .rw, 0⟩, []⟩,
  ⟨1, 0x0, 1, 0x0, false, ⟨0x40010000, 1, 1, .rw, 0⟩, []⟩,
  ⟨1, 0x0, 1, 0x0, false, ⟨0x40010000, 2, 1, .rw, 0⟩, []⟩,
  ⟨1, 0x0, 1, 0x0, false, ⟨0x40010000, 3, 1, .w1s, 0⟩, []⟩,
  ⟨1, 0x0, 1, 0x0, false, ⟨0x40010000, 4, 1, .rw, 0⟩, []⟩,
  ⟨1, 0x0, 1, 0x0, false, ⟨0x40010004, 0, 14, .rw, 2400⟩, [(320, 16000)]⟩,
  ⟨1, 0x0, 1, 0x0, false, ⟨0x40010004, 16, 14, .rw, 2400⟩, [(320, 16000)]⟩,
  ⟨1, 0x0, 1, 0x0, false, ⟨0x40010008, 0, 8, .rw, 8⟩, [(2, 255)]⟩,
  ⟨1, 0x0, 1, 0x0, false, ⟨0x40010008, 8, 8, .ro, 0⟩, []⟩,
  ⟨1, 0x0, 1, 0x0, false, ⟨0x4001000C, 0, 8, .rw, 0⟩, []⟩,
  ⟨1, 0x0, 1, 0x0, false, ⟨0x40010010, 0, 16, .rw, 5000⟩, [(1, 65535)]⟩,
  ⟨1, 0x0, 1, 0x0, false, ⟨0x40010010, 16, 16, .rw, 500⟩, [(500, 65535)]⟩,
  ⟨1, 0x0, 1, 0x0, false, ⟨0x40010014, 0, 10, .rw, 400⟩, [(100, 800)]⟩,
  ⟨1, 0x0, 1, 0x0, false, ⟨0x40010014, 16, 2, .rw, 0⟩, []⟩,
  ⟨1, 0x0, 1, 0x0, false, ⟨0x40010020, 0, 4, .ro, 0⟩, []⟩,
  ⟨1, 0x0, 1, 0x0, false, ⟨0x40010020, 4, 4, .ro, 0⟩, []⟩,
  ⟨1, 0x0, 1, 0x0, false, ⟨0x40010020, 8, 3, .ro, 0⟩, []⟩,
  ⟨1, 0x0, 1, 0x0, false, ⟨0x40010020, 11, 1, .ro, 0⟩, []⟩,
  ⟨1, 0x0, 1, 0x0, false, ⟨0x40010020, 12, 1, .ro, 0⟩, []⟩,
  ⟨1, 0x0, 1, 0x0, false, ⟨0x40010020, 13, 1, .ro, 0⟩, []⟩,
  ⟨1, 0x0, 1, 0x0, false, ⟨0x40010020, 14, 1, .ro, 0⟩, []⟩,
  ⟨1, 0x0, 1, 0x0, false, ⟨0x40010024, 0, 32, .ro, 0⟩, []⟩,
  ⟨1, 0x0, 1, 0x0, false, ⟨0x40010028, 0, 14, .ro, 0⟩, []⟩,
  ⟨1, 0x0, 1, 0x0, false, ⟨0x40010028, 14, 1, .ro, 0⟩, []⟩,
  ⟨1, 0x0, 1, 0x0, false, ⟨0x40010028, 15, 1, .ro, 0⟩, []⟩,
  ⟨1, 0x0, 1, 0x0, false, ⟨0x40010028, 16, 16, .ro, 0⟩, []⟩,
  ⟨1, 0x0, 1, 0x0, false, ⟨0x4001002C, 0, 7, .ro, 64⟩, []⟩,
  ⟨1, 0x0, 1, 0x0, false, ⟨0x4001002C, 7, 1, .ro, 0⟩, []⟩,
  ⟨1, 0x0, 1, 0x0, false, ⟨0x4001002C, 8, 7, .ro, 64⟩, []⟩,
  ⟨1, 0x0, 1, 0x0, false, ⟨0x4001002C, 15, 1, .ro, 0⟩, []⟩,
  ⟨1, 0x0, 1, 0x0, false, ⟨0x4001002C, 16, 1, .ro, 0⟩, []⟩,
  ⟨1, 0x0, 1, 0x0, false, ⟨0x40010030, 0, 1, .w1c, 0⟩, []⟩,
  ⟨1, 0x0, 1, 0x0, false, ⟨0x40010030, 1, 1, .w1c, 0⟩, []⟩,
  ⟨1, 0x0, 1, 0x0, false, ⟨0x40010030, 2, 1, .w1c, 0⟩, []⟩,
  ⟨1, 0x0, 1, 0x0, false, ⟨0x40010030, 3, 1, .w1c, 0⟩, []⟩,
  ⟨1, 0x0, 1, 0x0, false, ⟨0x40010030, 4, 1, .w1c, 0⟩, []⟩,
  ⟨1, 0x0, 1, 0x0, false, ⟨0x40010030, 5, 1, .w1c, 0⟩, []⟩,
  ⟨1, 0x0, 1, 0x0, false, ⟨0x40010034, 0, 1, .rw, 1⟩, []⟩,
  ⟨1, 0x0, 1, 0x0, false, ⟨0x40010034, 1, 1, .rw, 1⟩, []⟩,
  ⟨1, 0x0, 1, 0x0, false, ⟨0x40010034, 2, 1, .rw, 1⟩, []⟩,
  ⟨1, 0x0, 1, 0x0, false, ⟨0x40010034, 3, 1, .rw, 1⟩, []⟩,
  ⟨1, 0x0, 1, 0x0, false, ⟨0x40010034, 4, 1, .rw, 1⟩, []⟩,
  ⟨1, 0x0, 1, 0x0, false, ⟨0x40010034, 5, 1, .rw, 1⟩, []⟩,
  ⟨1, 0x0, 1, 0x0, false, ⟨0x40010038, 0, 4, .ro, 0⟩, []⟩,
  ⟨1, 0x0, 1, 0x0, false, ⟨0x40010038, 4, 4, .ro, 0⟩, []⟩,
  ⟨1, 0x0, 1, 0x0, false, ⟨0x40010038, 16, 14, .ro, 0⟩, []⟩,
  ⟨1, 0x0, 1, 0x0, false, ⟨0x40010038, 31, 1, .ro, 0⟩, []⟩,
  ⟨1, 0x0, 1, 0x0, false, ⟨0x4001003C, 0, 32, .ro, 0⟩, []⟩,
  ⟨1, 0x0, 1, 0x0, false, ⟨0x40010040, 0, 16, .ro, 0⟩, []⟩,
  ⟨1, 0x0, 1, 0x0, false, ⟨0x40010044, 0, 1, .wo, 0⟩, []⟩,
  ⟨1, 0x0, 1, 0x0, false, ⟨0x40010048, 0, 16, .rc, 0⟩, []⟩,
  ⟨1, 0x0, 1, 0x0, false, ⟨0x40010048, 16, 16, .rc, 0⟩, []⟩,
  ⟨1, 0x0, 1, 0x0, false, ⟨0x4001004C, 0, 16, .rc, 0⟩, []⟩,
  ⟨1, 0x0, 1, 0x0, false, ⟨0x4001004C, 16, 16, .rc, 0⟩, []⟩,
  ⟨1, 0x0, 1, 0x0, false, ⟨0x40010050, 0, 8, .rc, 0⟩, []⟩,
  ⟨1, 0x0, 1, 0x0, false, ⟨0x40010050, 8, 8, .rc, 0⟩, []⟩,
  ⟨1, 0x0, 1, 0x0, false, ⟨0x40010050, 16, 8, .rc, 0⟩, []⟩,
  ⟨1, 0x0, 1, 0x0, false, ⟨0x40010050, 24, 4, .rc, 0⟩, []⟩,
  ⟨1, 0x0, 1, 0x0, false, ⟨0x40010050, 28, 4, .rc, 0⟩, []⟩,
  ⟨1, 0x0, 1, 0x0, false, ⟨0x40010060, 0, 4, .rw, 0⟩, []⟩]

/-- Fields GTE_PAT.PAT to PRT_STATUS.CAUSE. -/
def cellMap1 : List RegRow := [
  ⟨1, 0x0, 1, 0x0, false, ⟨0x40010064, 0, 4, .rw, 9⟩, []⟩,
  ⟨1, 0x0, 1, 0x0, false, ⟨0x40010068, 0, 4, .rw, 6⟩, []⟩,
  ⟨1, 0x0, 1, 0x0, false, ⟨0x4001006C, 0, 4, .rw, 10⟩, []⟩,
  ⟨1, 0x0, 1, 0x0, false, ⟨0x40010070, 0, 4, .rw, 5⟩, []⟩,
  ⟨1, 0x0, 1, 0x0, false, ⟨0x40010080, 0, 4, .rw, 0⟩, []⟩,
  ⟨1, 0x0, 1, 0x0, false, ⟨0x40010080, 4, 1, .rw, 0⟩, []⟩,
  ⟨1, 0x0, 1, 0x0, false, ⟨0x40010080, 5, 1, .rw, 0⟩, []⟩,
  ⟨1, 0x0, 1, 0x0, false, ⟨0x40010084, 0, 1, .rw, 0⟩, []⟩,
  ⟨1, 0x0, 1, 0x0, false, ⟨0x40010084, 1, 1, .w1s, 0⟩, []⟩,
  ⟨1, 0x0, 1, 0x0, false, ⟨0x40010084, 2, 1, .rw, 0⟩, []⟩,
  ⟨1, 0x0, 1, 0x0, false, ⟨0x40010088, 0, 24, .rw, 16000⟩, [(1600, 16000000)]⟩,
  ⟨1, 0x0, 1, 0x0, false, ⟨0x4001008C, 0, 16, .rw, 32768⟩, []⟩,
  ⟨1, 0x0, 1, 0x0, false, ⟨0x40020000, 0, 1, .rw, 1⟩, []⟩,
  ⟨1, 0x0, 1, 0x0, false, ⟨0x40020000, 1, 1, .rw, 0⟩, []⟩,
  ⟨1, 0x0, 1, 0x0, false, ⟨0x40020000, 2, 1, .w1s, 0⟩, []⟩,
  ⟨1, 0x0, 1, 0x0, false, ⟨0x40020004, 0, 11, .rw, 250⟩, [(25, 1250)]⟩,
  ⟨1, 0x0, 1, 0x0, false, ⟨0x40020004, 16, 11, .rw, 250⟩, [(25, 1250)]⟩,
  ⟨1, 0x0, 1, 0x0, false, ⟨0x40020008, 0, 12, .rw, 2000⟩, [(200, 4000)]⟩,
  ⟨1, 0x0, 1, 0x0, false, ⟨0x40020008, 16, 11, .rw, 400⟩, [(50, 2000)]⟩,
  ⟨4, 0x4, 1, 0x0, false, ⟨0x40020010, 0, 8, .rw, 254⟩, []⟩,
  ⟨4, 0x4, 1, 0x0, false, ⟨0x40020010, 8, 8, .rw, 255⟩, []⟩,
  ⟨1, 0x0, 1, 0x0, false, ⟨0x40020020, 0, 16, .rw, 65535⟩, []⟩,
  ⟨1, 0x0, 1, 0x0, false, ⟨0x40020020, 16, 16, .rw, 65520⟩, []⟩,
  ⟨1, 0x0, 1, 0x0, false, ⟨0x40020024, 0, 10, .rw, 1023⟩, []⟩,
  ⟨1, 0x0, 1, 0x0, false, ⟨0x40020024, 16, 16, .rw, 65535⟩, []⟩,
  ⟨1, 0x0, 1, 0x0, false, ⟨0x40020028, 0, 16, .rw, 1000⟩, [(1, 65535)]⟩,
  ⟨1, 0x0, 1, 0x0, false, ⟨0x4002002C, 0, 8, .rw, 20⟩, [(1, 255)]⟩,
  ⟨1, 0x0, 1, 0x0, false, ⟨0x4002002C, 8, 10, .rw, 0⟩, [(0, 1000)]⟩,
  ⟨1, 0x0, 1, 0x0, false, ⟨0x40020030, 0, 8, .rw, 20⟩, [(1, 50)]⟩,
  ⟨1, 0x0, 1, 0x0, false, ⟨0x40020030, 8, 8, .rw, 20⟩, [(1, 100)]⟩,
  ⟨1, 0x0, 1, 0x0, false, ⟨0x40020030, 16, 8, .rw, 10⟩, [(1, 100)]⟩,
  ⟨1, 0x0, 1, 0x0, false, ⟨0x40020040, 0, 1, .ro, 0⟩, []⟩,
  ⟨1, 0x0, 1, 0x0, false, ⟨0x40020040, 1, 1, .ro, 0⟩, []⟩,
  ⟨1, 0x0, 1, 0x0, false, ⟨0x40020040, 2, 1, .ro, 0⟩, []⟩,
  ⟨1, 0x0, 1, 0x0, false, ⟨0x40020040, 3, 1, .ro, 0⟩, []⟩,
  ⟨1, 0x0, 1, 0x0, false, ⟨0x40020040, 4, 1, .ro, 0⟩, []⟩,
  ⟨1, 0x0, 1, 0x0, false, ⟨0x40020040, 5, 3, .ro, 0⟩, []⟩,
  ⟨1, 0x0, 1, 0x0, false, ⟨0x40020040, 8, 1, .ro, 0⟩, []⟩,
  ⟨1, 0x0, 1, 0x0, false, ⟨0x40020040, 9, 1, .ro, 0⟩, []⟩,
  ⟨1, 0x0, 1, 0x0, false, ⟨0x40020040, 10, 1, .ro, 0⟩, []⟩,
  ⟨1, 0x0, 1, 0x0, false, ⟨0x40020040, 11, 1, .ro, 0⟩, []⟩,
  ⟨1, 0x0, 1, 0x0, false, ⟨0x40020040, 12, 1, .rc, 0⟩, []⟩,
  ⟨1, 0x0, 1, 0x0, false, ⟨0x40020040, 13, 1, .ro, 0⟩, []⟩,
  ⟨1, 0x0, 1, 0x0, false, ⟨0x40020044, 0, 4, .ro, 0⟩, []⟩,
  ⟨1, 0x0, 1, 0x0, false, ⟨0x40020044, 4, 4, .ro, 0⟩, []⟩,
  ⟨1, 0x0, 1, 0x0, false, ⟨0x40020044, 8, 1, .ro, 0⟩, []⟩,
  ⟨1, 0x0, 1, 0x0, false, ⟨0x40020044, 9, 1, .ro, 0⟩, []⟩,
  ⟨1, 0x0, 1, 0x0, false, ⟨0x40020044, 16, 14, .ro, 0⟩, []⟩,
  ⟨1, 0x0, 1, 0x0, false, ⟨0x40020044, 31, 1, .ro, 0⟩, []⟩,
  ⟨1, 0x0, 1, 0x0, false, ⟨0x40020048, 0, 32, .ro, 0⟩, []⟩,
  ⟨1, 0x0, 1, 0x0, false, ⟨0x40020050, 0, 1, .w1c, 0⟩, []⟩,
  ⟨1, 0x0, 1, 0x0, false, ⟨0x40020050, 1, 1, .w1c, 0⟩, []⟩,
  ⟨1, 0x0, 1, 0x0, false, ⟨0x40020050, 2, 1, .w1c, 0⟩, []⟩,
  ⟨1, 0x0, 1, 0x0, false, ⟨0x40020050, 3, 1, .w1c, 0⟩, []⟩,
  ⟨1, 0x0, 1, 0x0, false, ⟨0x40020050, 4, 1, .w1c, 0⟩, []⟩,
  ⟨1, 0x0, 1, 0x0, false, ⟨0x40020050, 5, 1, .w1c, 0⟩, []⟩,
  ⟨1, 0x0, 1, 0x0, false, ⟨0x40020050, 6, 1, .w1c, 0⟩, []⟩,
  ⟨1, 0x0, 1, 0x0, false, ⟨0x40020050, 7, 1, .w1c, 0⟩, []⟩,
  ⟨1, 0x0, 1, 0x0, false, ⟨0x40020050, 8, 1, .w1c, 0⟩, []⟩,
  ⟨1, 0x0, 1, 0x0, false, ⟨0x40020050, 9, 1, .w1c, 0⟩, []⟩]

/-- Fields PRT_STATUS.CAUSE to LNS_CNT_A.RETRAIN_CNT. -/
def cellMap2 : List RegRow := [
  ⟨1, 0x0, 1, 0x0, false, ⟨0x40020050, 10, 1, .w1c, 0⟩, []⟩,
  ⟨1, 0x0, 1, 0x0, false, ⟨0x40020050, 11, 1, .w1c, 0⟩, []⟩,
  ⟨1, 0x0, 1, 0x0, false, ⟨0x40020054, 0, 1, .ro, 1⟩, []⟩,
  ⟨1, 0x0, 1, 0x0, false, ⟨0x40020054, 1, 1, .ro, 1⟩, []⟩,
  ⟨1, 0x0, 1, 0x0, false, ⟨0x40020054, 2, 1, .ro, 1⟩, []⟩,
  ⟨1, 0x0, 1, 0x0, false, ⟨0x40020054, 3, 1, .rw, 1⟩, []⟩,
  ⟨1, 0x0, 1, 0x0, false, ⟨0x40020054, 4, 1, .ro, 1⟩, []⟩,
  ⟨1, 0x0, 1, 0x0, false, ⟨0x40020054, 5, 1, .ro, 1⟩, []⟩,
  ⟨1, 0x0, 1, 0x0, false, ⟨0x40020054, 6, 1, .ro, 1⟩, []⟩,
  ⟨1, 0x0, 1, 0x0, false, ⟨0x40020054, 7, 1, .rw, 1⟩, []⟩,
  ⟨1, 0x0, 1, 0x0, false, ⟨0x40020054, 8, 1, .rw, 1⟩, []⟩,
  ⟨1, 0x0, 1, 0x0, false, ⟨0x40020054, 9, 1, .ro, 1⟩, []⟩,
  ⟨1, 0x0, 1, 0x0, false, ⟨0x40020054, 10, 1, .rw, 1⟩, []⟩,
  ⟨1, 0x0, 1, 0x0, false, ⟨0x40020054, 11, 1, .rw, 1⟩, []⟩,
  ⟨1, 0x0, 1, 0x0, false, ⟨0x40020058, 0, 4, .ro, 0⟩, []⟩,
  ⟨1, 0x0, 1, 0x0, false, ⟨0x40020058, 4, 4, .ro, 0⟩, []⟩,
  ⟨1, 0x0, 1, 0x0, false, ⟨0x40020058, 16, 14, .ro, 0⟩, []⟩,
  ⟨1, 0x0, 1, 0x0, false, ⟨0x40020058, 31, 1, .ro, 0⟩, []⟩,
  ⟨1, 0x0, 1, 0x0, false, ⟨0x4002005C, 0, 32, .ro, 0⟩, []⟩,
  ⟨1, 0x0, 1, 0x0, false, ⟨0x40020060, 0, 16, .ro, 0⟩, []⟩,
  ⟨1, 0x0, 1, 0x0, false, ⟨0x40020064, 0, 1, .wo, 0⟩, []⟩,
  ⟨1, 0x0, 1, 0x0, false, ⟨0x40020068, 0, 16, .rc, 0⟩, []⟩,
  ⟨1, 0x0, 1, 0x0, false, ⟨0x40020068, 16, 16, .rc, 0⟩, []⟩,
  ⟨1, 0x0, 1, 0x0, false, ⟨0x4002006C, 0, 16, .rc, 0⟩, []⟩,
  ⟨1, 0x0, 1, 0x0, false, ⟨0x4002006C, 16, 16, .rc, 0⟩, []⟩,
  ⟨1, 0x0, 1, 0x0, false, ⟨0x40020070, 0, 10, .rw, 1023⟩, []⟩,
  ⟨1, 0x0, 1, 0x0, false, ⟨0x40020070, 16, 3, .rw, 0⟩, []⟩,
  ⟨1, 0x0, 1, 0x0, false, ⟨0x40020070, 31, 1, .w1s, 0⟩, []⟩,
  ⟨1, 0x0, 1, 0x0, false, ⟨0x40020074, 0, 1, .w1c, 0⟩, []⟩,
  ⟨1, 0x0, 1, 0x0, false, ⟨0x40020074, 1, 1, .w1c, 0⟩, []⟩,
  ⟨1, 0x0, 1, 0x0, false, ⟨0x40020074, 2, 1, .ro, 0⟩, []⟩,
  ⟨1, 0x0, 1, 0x0, false, ⟨0x40020078, 0, 10, .ro, 0⟩, []⟩,
  ⟨1, 0x0, 1, 0x0, false, ⟨0x40020078, 16, 10, .ro, 0⟩, []⟩,
  ⟨2, 0x40, 1, 0x0, false, ⟨0x40050100, 0, 1, .rw, 1⟩, []⟩,
  ⟨2, 0x40, 1, 0x0, false, ⟨0x40050100, 1, 1, .rw, 1⟩, []⟩,
  ⟨2, 0x40, 1, 0x0, false, ⟨0x40050100, 2, 1, .rw, 0⟩, []⟩,
  ⟨2, 0x40, 1, 0x0, false, ⟨0x40050100, 3, 1, .rw, 0⟩, []⟩,
  ⟨2, 0x40, 1, 0x0, false, ⟨0x40050100, 4, 3, .rw, 0⟩, [(0, 3)]⟩,
  ⟨2, 0x40, 1, 0x0, false, ⟨0x40050100, 7, 1, .rw, 0⟩, []⟩,
  ⟨2, 0x40, 1, 0x0, false, ⟨0x40050100, 8, 1, .w1s, 0⟩, []⟩,
  ⟨2, 0x40, 1, 0x0, false, ⟨0x40050100, 9, 1, .rw, 0⟩, []⟩,
  ⟨2, 0x40, 1, 0x0, false, ⟨0x40050104, 0, 4, .ro, 1⟩, []⟩,
  ⟨2, 0x40, 1, 0x0, false, ⟨0x40050104, 4, 1, .ro, 0⟩, []⟩,
  ⟨2, 0x40, 1, 0x0, false, ⟨0x40050104, 6, 2, .ro, 0⟩, []⟩,
  ⟨2, 0x40, 1, 0x0, false, ⟨0x40050108, 0, 1, .rw, 1⟩, []⟩,
  ⟨2, 0x40, 1, 0x0, false, ⟨0x40050108, 1, 2, .rw, 0⟩, []⟩,
  ⟨2, 0x40, 1, 0x0, false, ⟨0x40050108, 6, 1, .rw, 0⟩, []⟩,
  ⟨2, 0x40, 1, 0x0, false, ⟨0x40050120, 0, 3, .rw, 0⟩, [(0, 4)]⟩,
  ⟨2, 0x40, 1, 0x0, false, ⟨0x40050120, 3, 1, .rw, 0⟩, []⟩,
  ⟨2, 0x40, 1, 0x0, false, ⟨0x40050120, 4, 3, .rw, 0⟩, [(0, 4)]⟩,
  ⟨2, 0x40, 1, 0x0, false, ⟨0x40050120, 7, 1, .rw, 0⟩, []⟩,
  ⟨2, 0x40, 1, 0x0, false, ⟨0x40050120, 8, 1, .ro, 0⟩, []⟩,
  ⟨2, 0x40, 1, 0x0, false, ⟨0x40050124, 0, 32, .rc, 0⟩, []⟩,
  ⟨2, 0x40, 1, 0x0, false, ⟨0x40050128, 0, 32, .rc, 0⟩, []⟩,
  ⟨2, 0x40, 1, 0x0, false, ⟨0x40050130, 0, 8, .rw, 16⟩, [(1, 255)]⟩,
  ⟨2, 0x40, 1, 0x0, false, ⟨0x40050130, 8, 8, .rw, 1⟩, [(1, 255)]⟩,
  ⟨2, 0x40, 1, 0x0, false, ⟨0x40050130, 16, 10, .rw, 10⟩, [(1, 1000)]⟩,
  ⟨2, 0x40, 1, 0x0, false, ⟨0x40050130, 26, 6, .rw, 1⟩, [(1, 63)]⟩,
  ⟨2, 0x40, 1, 0x0, false, ⟨0x40050134, 0, 16, .rc, 0⟩, []⟩,
  ⟨2, 0x40, 1, 0x0, false, ⟨0x40050134, 16, 16, .rc, 0⟩, []⟩]

/-- Fields LNS_CNT_B.CODE_CNT to ADC_ENT_CFG.GAIN. -/
def cellMap3 : List RegRow := [
  ⟨2, 0x40, 1, 0x0, false, ⟨0x40050138, 0, 32, .rc, 0⟩, []⟩,
  ⟨2, 0x40, 1, 0x0, false, ⟨0x4005013C, 0, 1, .wo, 0⟩, []⟩,
  ⟨2, 0x40, 1, 0x0, false, ⟨0x4005013C, 1, 1, .wo, 0⟩, []⟩,
  ⟨1, 0x0, 1, 0x0, false, ⟨0x40050000, 0, 5, .rw, 5⟩, [(2, 20)]⟩,
  ⟨1, 0x0, 1, 0x0, false, ⟨0x40050000, 5, 1, .w1s, 0⟩, []⟩,
  ⟨1, 0x0, 1, 0x0, false, ⟨0x40050004, 0, 3, .ro, 0⟩, []⟩,
  ⟨1, 0x0, 1, 0x0, false, ⟨0x40050004, 3, 1, .ro, 0⟩, []⟩,
  ⟨1, 0x0, 1, 0x0, false, ⟨0x40050004, 4, 3, .ro, 0⟩, []⟩,
  ⟨1, 0x0, 1, 0x0, false, ⟨0x40050004, 7, 1, .ro, 0⟩, []⟩,
  ⟨1, 0x0, 1, 0x0, false, ⟨0x40050004, 8, 15, .ro, 0⟩, []⟩,
  ⟨1, 0x0, 1, 0x0, false, ⟨0x40050008, 0, 1, .w1c, 0⟩, []⟩,
  ⟨1, 0x0, 1, 0x0, false, ⟨0x40050008, 1, 1, .w1c, 0⟩, []⟩,
  ⟨1, 0x0, 1, 0x0, false, ⟨0x40050008, 2, 1, .w1c, 0⟩, []⟩,
  ⟨1, 0x0, 1, 0x0, false, ⟨0x40050008, 3, 1, .w1c, 0⟩, []⟩,
  ⟨1, 0x0, 1, 0x0, false, ⟨0x4005000C, 0, 1, .rw, 1⟩, []⟩,
  ⟨1, 0x0, 1, 0x0, false, ⟨0x4005000C, 1, 1, .rw, 1⟩, []⟩,
  ⟨1, 0x0, 1, 0x0, false, ⟨0x4005000C, 2, 1, .rw, 1⟩, []⟩,
  ⟨1, 0x0, 1, 0x0, false, ⟨0x4005000C, 3, 1, .rw, 1⟩, []⟩,
  ⟨1, 0x0, 1, 0x0, false, ⟨0x40050010, 0, 4, .ro, 0⟩, []⟩,
  ⟨1, 0x0, 1, 0x0, false, ⟨0x40050010, 4, 4, .ro, 0⟩, []⟩,
  ⟨1, 0x0, 1, 0x0, false, ⟨0x40050010, 16, 14, .ro, 0⟩, []⟩,
  ⟨1, 0x0, 1, 0x0, false, ⟨0x40050010, 31, 1, .ro, 0⟩, []⟩,
  ⟨1, 0x0, 1, 0x0, false, ⟨0x40050014, 0, 32, .ro, 0⟩, []⟩,
  ⟨1, 0x0, 1, 0x0, false, ⟨0x40050018, 0, 16, .ro, 0⟩, []⟩,
  ⟨1, 0x0, 1, 0x0, false, ⟨0x4005001C, 0, 1, .wo, 0⟩, []⟩,
  ⟨1, 0x0, 1, 0x0, false, ⟨0x40050020, 0, 16, .rc, 0⟩, []⟩,
  ⟨1, 0x0, 1, 0x0, false, ⟨0x40050020, 16, 16, .rc, 0⟩, []⟩,
  ⟨1, 0x0, 1, 0x0, false, ⟨0x40050024, 0, 16, .rc, 0⟩, []⟩,
  ⟨1, 0x0, 1, 0x0, false, ⟨0x40050024, 16, 16, .rc, 0⟩, []⟩,
  ⟨1, 0x0, 1, 0x0, false, ⟨0x40050028, 0, 16, .rc, 0⟩, []⟩,
  ⟨1, 0x0, 1, 0x0, false, ⟨0x40050028, 16, 16, .rc, 0⟩, []⟩,
  ⟨1, 0x0, 1, 0x0, false, ⟨0x4005002C, 0, 24, .ro, 0⟩, []⟩,
  ⟨1, 0x0, 1, 0x0, false, ⟨0x40030000, 0, 5, .rw, 12⟩, [(8, 20)]⟩,
  ⟨1, 0x0, 1, 0x0, false, ⟨0x40030000, 5, 1, .rw, 0⟩, []⟩,
  ⟨1, 0x0, 1, 0x0, false, ⟨0x40030000, 6, 1, .w1s, 0⟩, []⟩,
  ⟨1, 0x0, 1, 0x0, false, ⟨0x40030000, 8, 4, .ro, 0⟩, []⟩,
  ⟨1, 0x0, 1, 0x0, false, ⟨0x40030010, 0, 1, .w1c, 0⟩, []⟩,
  ⟨1, 0x0, 1, 0x0, false, ⟨0x40030010, 1, 1, .w1c, 0⟩, []⟩,
  ⟨1, 0x0, 1, 0x0, false, ⟨0x40030010, 2, 1, .w1c, 0⟩, []⟩,
  ⟨1, 0x0, 1, 0x0, false, ⟨0x40030014, 0, 1, .rw, 1⟩, []⟩,
  ⟨1, 0x0, 1, 0x0, false, ⟨0x40030014, 1, 1, .rw, 1⟩, []⟩,
  ⟨1, 0x0, 1, 0x0, false, ⟨0x40030014, 2, 1, .rw, 1⟩, []⟩,
  ⟨1, 0x0, 1, 0x0, false, ⟨0x40030018, 0, 4, .ro, 0⟩, []⟩,
  ⟨1, 0x0, 1, 0x0, false, ⟨0x40030018, 4, 4, .ro, 0⟩, []⟩,
  ⟨1, 0x0, 1, 0x0, false, ⟨0x40030018, 8, 4, .ro, 0⟩, []⟩,
  ⟨1, 0x0, 1, 0x0, false, ⟨0x40030018, 16, 14, .ro, 0⟩, []⟩,
  ⟨1, 0x0, 1, 0x0, false, ⟨0x40030018, 31, 1, .ro, 0⟩, []⟩,
  ⟨1, 0x0, 1, 0x0, false, ⟨0x4003001C, 0, 32, .ro, 0⟩, []⟩,
  ⟨1, 0x0, 1, 0x0, false, ⟨0x40030020, 0, 16, .ro, 0⟩, []⟩,
  ⟨1, 0x0, 1, 0x0, false, ⟨0x40030024, 0, 1, .wo, 0⟩, []⟩,
  ⟨1, 0x0, 1, 0x0, false, ⟨0x40030028, 0, 16, .rc, 0⟩, []⟩,
  ⟨1, 0x0, 1, 0x0, false, ⟨0x40030028, 16, 16, .rc, 0⟩, []⟩,
  ⟨1, 0x0, 1, 0x0, false, ⟨0x40030030, 0, 4, .rw, 0⟩, []⟩,
  ⟨1, 0x0, 1, 0x0, false, ⟨0x40030030, 4, 2, .rw, 0⟩, []⟩,
  ⟨1, 0x0, 1, 0x0, false, ⟨0x40030034, 0, 16, .ro, 0⟩, []⟩,
  ⟨1, 0x0, 1, 0x0, false, ⟨0x40030038, 0, 16, .ro, 32768⟩, []⟩,
  ⟨1, 0x0, 1, 0x0, false, ⟨0x4003003C, 0, 16, .ro, 0⟩, []⟩,
  ⟨16, 0x20, 1, 0x0, false, ⟨0x40030100, 0, 1, .rw, 0⟩, []⟩,
  ⟨16, 0x20, 1, 0x0, false, ⟨0x40030100, 1, 4, .rw, 0⟩, []⟩,
  ⟨16, 0x20, 1, 0x0, false, ⟨0x40030100, 5, 2, .rw, 0⟩, []⟩]

/-- Fields ADC_ENT_CFG.MODE to CCP_FIRST.CLASS. -/
def cellMap4 : List RegRow := [
  ⟨16, 0x20, 1, 0x0, false, ⟨0x40030100, 7, 1, .rw, 0⟩, []⟩,
  ⟨16, 0x20, 1, 0x0, false, ⟨0x40030100, 8, 1, .rw, 0⟩, []⟩,
  ⟨16, 0x20, 1, 0x0, false, ⟨0x40030100, 9, 2, .rw, 0⟩, []⟩,
  ⟨16, 0x20, 1, 0x0, false, ⟨0x40030100, 12, 4, .rw, 0⟩, []⟩,
  ⟨16, 0x20, 1, 0x0, false, ⟨0x40030100, 16, 5, .rw, 0⟩, [(0, 19)]⟩,
  ⟨16, 0x20, 1, 0x0, false, ⟨0x40030100, 21, 5, .rw, 1⟩, [(1, 2), (4, 5), (10, 10), (20, 20)]⟩,
  ⟨16, 0x20, 1, 0x0, false, ⟨0x40030104, 0, 8, .rw, 40⟩, [(10, 140)]⟩,
  ⟨16, 0x20, 1, 0x0, false, ⟨0x40030104, 8, 8, .rw, 1⟩, [(1, 255)]⟩,
  ⟨16, 0x20, 1, 0x0, false, ⟨0x40030104, 16, 8, .rw, 0⟩, []⟩,
  ⟨16, 0x20, 1, 0x0, false, ⟨0x40030108, 0, 10, .rw, 1⟩, [(1, 1000)]⟩,
  ⟨16, 0x20, 1, 0x0, false, ⟨0x4003010C, 0, 32, .rw, 1⟩, []⟩,
  ⟨16, 0x20, 1, 0x0, false, ⟨0x40030110, 0, 24, .rw, 0⟩, []⟩,
  ⟨16, 0x20, 1, 0x0, false, ⟨0x40030110, 24, 5, .rw, 0⟩, []⟩,
  ⟨16, 0x20, 1, 0x0, false, ⟨0x40030114, 0, 32, .ro, 0⟩, []⟩,
  ⟨16, 0x20, 1, 0x0, false, ⟨0x40030118, 0, 32, .ro, 0⟩, []⟩,
  ⟨1, 0x0, 1, 0x0, false, ⟨0x40000800, 0, 8, .rw, 4⟩, [(1, 255)]⟩,
  ⟨1, 0x0, 1, 0x0, false, ⟨0x40000804, 0, 4, .rw, 0⟩, []⟩,
  ⟨1, 0x0, 1, 0x0, false, ⟨0x40000804, 4, 5, .rw, 0⟩, []⟩,
  ⟨1, 0x0, 1, 0x0, false, ⟨0x40000804, 9, 2, .rw, 1⟩, [(1, 2)]⟩,
  ⟨1, 0x0, 1, 0x0, false, ⟨0x40000804, 11, 1, .w1s, 0⟩, []⟩,
  ⟨1, 0x0, 1, 0x0, false, ⟨0x40000804, 12, 1, .rw, 0⟩, []⟩,
  ⟨1, 0x0, 1, 0x0, false, ⟨0x40000808, 4, 28, .rw, 0⟩, []⟩,
  ⟨1, 0x0, 1, 0x0, false, ⟨0x4000082C, 0, 16, .rc, 0⟩, []⟩,
  ⟨1, 0x0, 1, 0x0, false, ⟨0x4000082C, 16, 16, .rc, 0⟩, []⟩,
  ⟨1, 0x0, 1, 0x0, false, ⟨0x40000830, 0, 6, .rw, 0⟩, [(0, 47)]⟩,
  ⟨1, 0x0, 1, 0x0, false, ⟨0x40000834, 0, 5, .ro, 0⟩, []⟩,
  ⟨1, 0x0, 1, 0x0, false, ⟨0x40000834, 16, 13, .ro, 0⟩, []⟩,
  ⟨1, 0x0, 1, 0x0, false, ⟨0x40000840, 16, 16, .wo, 0⟩, []⟩,
  ⟨1, 0x0, 1, 0x0, false, ⟨0x40060010, 0, 4, .wo, 0⟩, []⟩,
  ⟨1, 0x0, 1, 0x0, false, ⟨0x40060010, 16, 16, .wo, 0⟩, []⟩,
  ⟨1, 0x0, 1, 0x0, false, ⟨0x40060018, 0, 1, .w1c, 0⟩, []⟩,
  ⟨1, 0x0, 1, 0x0, false, ⟨0x40060018, 1, 1, .w1c, 0⟩, []⟩,
  ⟨1, 0x0, 1, 0x0, false, ⟨0x40060018, 2, 1, .ro, 0⟩, []⟩,
  ⟨1, 0x0, 1, 0x0, false, ⟨0x40000810, 0, 1, .w1c, 0⟩, []⟩,
  ⟨1, 0x0, 1, 0x0, false, ⟨0x40000810, 1, 1, .w1c, 0⟩, []⟩,
  ⟨1, 0x0, 1, 0x0, false, ⟨0x40000810, 2, 1, .w1c, 0⟩, []⟩,
  ⟨1, 0x0, 1, 0x0, false, ⟨0x40000810, 3, 1, .w1c, 0⟩, []⟩,
  ⟨1, 0x0, 1, 0x0, false, ⟨0x40000814, 0, 1, .ro, 1⟩, []⟩,
  ⟨1, 0x0, 1, 0x0, false, ⟨0x40000814, 1, 1, .rw, 1⟩, []⟩,
  ⟨1, 0x0, 1, 0x0, false, ⟨0x40000814, 2, 1, .rw, 1⟩, []⟩,
  ⟨1, 0x0, 1, 0x0, false, ⟨0x40000814, 3, 1, .rw, 1⟩, []⟩,
  ⟨1, 0x0, 1, 0x0, false, ⟨0x40000818, 0, 4, .ro, 0⟩, []⟩,
  ⟨1, 0x0, 1, 0x0, false, ⟨0x40000818, 4, 4, .ro, 0⟩, []⟩,
  ⟨1, 0x0, 1, 0x0, false, ⟨0x40000818, 8, 8, .ro, 0⟩, []⟩,
  ⟨1, 0x0, 1, 0x0, false, ⟨0x40000818, 16, 14, .ro, 0⟩, []⟩,
  ⟨1, 0x0, 1, 0x0, false, ⟨0x40000818, 31, 1, .ro, 0⟩, []⟩,
  ⟨1, 0x0, 1, 0x0, false, ⟨0x4000081C, 0, 32, .ro, 0⟩, []⟩,
  ⟨1, 0x0, 1, 0x0, false, ⟨0x40000824, 0, 16, .ro, 0⟩, []⟩,
  ⟨1, 0x0, 1, 0x0, false, ⟨0x40000828, 0, 1, .wo, 0⟩, []⟩,
  ⟨1, 0x0, 1, 0x0, false, ⟨0x40040040, 0, 1, .w1c, 0⟩, []⟩,
  ⟨1, 0x0, 1, 0x0, false, ⟨0x40040040, 1, 1, .w1c, 0⟩, []⟩,
  ⟨1, 0x0, 1, 0x0, false, ⟨0x40040040, 2, 1, .w1c, 0⟩, []⟩,
  ⟨1, 0x0, 1, 0x0, false, ⟨0x40040040, 3, 1, .w1c, 0⟩, []⟩,
  ⟨1, 0x0, 1, 0x0, false, ⟨0x40040040, 4, 1, .w1c, 0⟩, []⟩,
  ⟨1, 0x0, 1, 0x0, false, ⟨0x40040044, 0, 1, .rw, 1⟩, []⟩,
  ⟨1, 0x0, 1, 0x0, false, ⟨0x40040044, 1, 1, .rw, 1⟩, []⟩,
  ⟨1, 0x0, 1, 0x0, false, ⟨0x40040044, 2, 1, .rw, 1⟩, []⟩,
  ⟨1, 0x0, 1, 0x0, false, ⟨0x40040044, 3, 1, .rw, 1⟩, []⟩,
  ⟨1, 0x0, 1, 0x0, false, ⟨0x40040044, 4, 1, .rw, 1⟩, []⟩,
  ⟨1, 0x0, 1, 0x0, false, ⟨0x40040048, 0, 4, .ro, 0⟩, []⟩,
  ⟨1, 0x0, 1, 0x0, false, ⟨0x40040048, 4, 4, .ro, 0⟩, []⟩]

/-- Fields CCP_FIRST.VALID to CSE_CERT.BYTES. -/
def cellMap5 : List RegRow := [
  ⟨1, 0x0, 1, 0x0, false, ⟨0x40040048, 31, 1, .ro, 0⟩, []⟩,
  ⟨1, 0x0, 1, 0x0, false, ⟨0x40040048, 16, 14, .ro, 0⟩, []⟩,
  ⟨1, 0x0, 1, 0x0, false, ⟨0x4004004C, 0, 32, .ro, 0⟩, []⟩,
  ⟨1, 0x0, 1, 0x0, false, ⟨0x40040050, 0, 16, .ro, 0⟩, []⟩,
  ⟨1, 0x0, 1, 0x0, false, ⟨0x40040054, 0, 1, .wo, 0⟩, []⟩,
  ⟨1, 0x0, 1, 0x0, false, ⟨0x40060040, 0, 1, .w1c, 0⟩, []⟩,
  ⟨1, 0x0, 1, 0x0, false, ⟨0x40060040, 1, 1, .w1c, 0⟩, []⟩,
  ⟨1, 0x0, 1, 0x0, false, ⟨0x40060044, 0, 1, .rw, 1⟩, []⟩,
  ⟨1, 0x0, 1, 0x0, false, ⟨0x40060044, 1, 1, .rw, 1⟩, []⟩,
  ⟨1, 0x0, 1, 0x0, false, ⟨0x40060048, 0, 4, .ro, 0⟩, []⟩,
  ⟨1, 0x0, 1, 0x0, false, ⟨0x40060048, 4, 4, .ro, 0⟩, []⟩,
  ⟨1, 0x0, 1, 0x0, false, ⟨0x40060048, 31, 1, .ro, 0⟩, []⟩,
  ⟨1, 0x0, 1, 0x0, false, ⟨0x40060048, 16, 14, .ro, 0⟩, []⟩,
  ⟨1, 0x0, 1, 0x0, false, ⟨0x4006004C, 0, 32, .ro, 0⟩, []⟩,
  ⟨1, 0x0, 1, 0x0, false, ⟨0x40060050, 0, 16, .ro, 0⟩, []⟩,
  ⟨1, 0x0, 1, 0x0, false, ⟨0x40060054, 0, 1, .wo, 0⟩, []⟩,
  ⟨1, 0x0, 1, 0x0, false, ⟨0x40040000, 0, 1, .w1s, 0⟩, []⟩,
  ⟨1, 0x0, 1, 0x0, false, ⟨0x40040000, 1, 1, .w1s, 0⟩, []⟩,
  ⟨1, 0x0, 1, 0x0, false, ⟨0x40040000, 2, 1, .w1s, 0⟩, []⟩,
  ⟨1, 0x0, 1, 0x0, false, ⟨0x40040000, 3, 1, .rw, 0⟩, []⟩,
  ⟨1, 0x0, 1, 0x0, false, ⟨0x40040000, 4, 1, .rw, 0⟩, []⟩,
  ⟨1, 0x0, 1, 0x0, false, ⟨0x40040000, 5, 1, .rw, 0⟩, []⟩,
  ⟨1, 0x0, 1, 0x0, false, ⟨0x40040000, 6, 1, .rw, 0⟩, []⟩,
  ⟨1, 0x0, 1, 0x0, false, ⟨0x40040000, 8, 2, .rw, 3⟩, [(1, 3)]⟩,
  ⟨1, 0x0, 1, 0x0, false, ⟨0x40040004, 0, 4, .rw, 0⟩, []⟩,
  ⟨1, 0x0, 1, 0x0, false, ⟨0x40040004, 8, 8, .rw, 1⟩, [(1, 255)]⟩,
  ⟨1, 0x0, 1, 0x0, false, ⟨0x40040004, 16, 4, .rw, 1⟩, [(1, 8)]⟩,
  ⟨1, 0x0, 1, 0x0, false, ⟨0x40040028, 0, 18, .rw, 1⟩, [(1, 262143)]⟩,
  ⟨1, 0x0, 1, 0x0, false, ⟨0x4004002C, 0, 3, .rw, 0⟩, []⟩,
  ⟨1, 0x0, 1, 0x0, false, ⟨0x4004002C, 4, 2, .rw, 0⟩, [(0, 2)]⟩,
  ⟨1, 0x0, 1, 0x0, false, ⟨0x40040030, 0, 32, .rw, 0⟩, []⟩,
  ⟨1, 0x0, 1, 0x0, false, ⟨0x40040034, 0, 32, .rw, 0⟩, []⟩,
  ⟨1, 0x0, 1, 0x0, false, ⟨0x40040038, 0, 3, .ro, 0⟩, []⟩,
  ⟨1, 0x0, 1, 0x0, false, ⟨0x40040038, 4, 4, .ro, 0⟩, []⟩,
  ⟨1, 0x0, 1, 0x0, false, ⟨0x40040038, 8, 18, .ro, 0⟩, []⟩,
  ⟨1, 0x0, 1, 0x0, false, ⟨0x4004003C, 0, 12, .rw, 0⟩, []⟩,
  ⟨8, 0x4, 1, 0x0, false, ⟨0x40040008, 0, 4, .rw, 0⟩, []⟩,
  ⟨8, 0x4, 1, 0x0, false, ⟨0x40040008, 4, 1, .rw, 0⟩, []⟩,
  ⟨1, 0x0, 1, 0x0, false, ⟨0x40060000, 0, 32, .ro, 0⟩, []⟩,
  ⟨1, 0x0, 1, 0x0, false, ⟨0x40060004, 0, 32, .ro, 0⟩, []⟩,
  ⟨1, 0x0, 1, 0x0, false, ⟨0x40060008, 0, 1, .ro, 0⟩, []⟩,
  ⟨1, 0x0, 1, 0x0, false, ⟨0x40060008, 1, 1, .ro, 0⟩, []⟩,
  ⟨1, 0x0, 1, 0x0, false, ⟨0x40060008, 2, 2, .ro, 0⟩, []⟩,
  ⟨1, 0x0, 1, 0x0, false, ⟨0x40060008, 4, 1, .ro, 0⟩, []⟩,
  ⟨1, 0x0, 1, 0x0, false, ⟨0x40060008, 5, 1, .ro, 0⟩, []⟩,
  ⟨1, 0x0, 1, 0x0, false, ⟨0x40060008, 8, 8, .ro, 0⟩, []⟩,
  ⟨1, 0x0, 1, 0x0, false, ⟨0x4006000C, 0, 32, .ro, 0⟩, []⟩,
  ⟨1332, 0x4, 1, 0x0, false, ⟨0x40061000, 0, 32, .ro, 0⟩, []⟩]

/-- The register map of the BQ7020 (R579). -/
def cellMap : List RegRow := cellMap0 ++ cellMap1 ++ cellMap2 ++ cellMap3 ++ cellMap4 ++ cellMap5

end Sys2Proof.Machine
end

