-- ==== Sys2Proof/Machine/CellRegs.lean ====
section
/-! DEFINITION. Register accesses of a cell and its point table (R7 to R10, R341, R449, R580, R581). -/
namespace Sys2Proof.Machine

/-- The memory registers' base on a hub or a cell (R458). -/
def localBase : Nat := 0x40000000

/-- The memory of a cell run through a function, its causes raised (R457). -/
def C.onMem (c : C) (ofs : Nat) (f : MemIO → MemIO) : C :=
  let io := f ⟨c.regs, c.memh, [], 0⟩
  let cause := fun (bit : Nat) => if bit = 0 then CC.UNCORR else if bit = 1 then CC.SPARED else if bit = 2 then CC.SPARE_OUT else CC.INJ_REJ
  io.raised.foldl (fun (c : C) e => c.raise ofs (cause e.1) [(8, 8, e.2)]) { c with regs := io.regs, memh := io.hid, mem := MemIO.lost c.mem c.memh io.hid }

/-- The check of the block tables that a boundary reads, as an injection makes it find them (R455, R458). -/
def C.tableCheck (c : C) (ofs : Nat) : C :=
  c.onMem ofs (fun io => match io.inject localBase 1 with
    | (some n, io) => io.tableError localBase n
    | (none, io) => io)

/-- The fields of a register of the cell. -/
def cellFields (addr : Nat) : List (Fld × List (Nat × Nat)) := fieldsAt cellMap 0 addr

/-- A register of the cell without read side effect (R581). -/
def C.word (c : C) (addr : Nat) : Nat :=
  let w := c.regs.word (cellFields addr)
  if addr = 0x40020040 then (if c.prt.uvlo then setBit w 12 else w)
  else if addr = 0x40030034 then c.corWindow.1
  else if addr = 0x40030038 then c.corWindow.2.1
  else if addr = 0x4003003C then c.corWindow.2.2
  else if addr = 0x40000834 then MemIO.spareWord ⟨c.regs, c.memh, [], 0⟩ localBase
  else w

/-- Whether an address lies in a peripheral block of the cell (R579). -/
def cellBlockAt (addr : Nat) : Bool := decide (0x40000000 ≤ addr) && decide (addr < 0x40070000)

/-- A load of a size in bytes by the cell's core, with its read side effects (R8, R10, R453, R454, R576, R579): the ROM is not given, and
what it reads is free. -/
def C.load (c : C) (cid ofs core addr size : Nat) : C :=
  if addr + size ≤ 0x100000 then
    let bad := (MemIO.access ⟨c.regs, c.memh, [], 0⟩ localBase addr size).1
    let c := c.onMem ofs (fun io => (io.access localBase addr size).2)
    if bad then c.emit (.loadFault addr) else c.emit (.readData core addr (c.mem.read addr size))
  else if 0x20000000 ≤ addr && addr + size ≤ 0x20100000 then c.emit (.readData core addr (Flash.num c.cse.flash (addr - 0x20000000) size))
  else if 0x20100000 ≤ addr && addr + size ≤ 0x20110000 then c.emit (.readData core addr (Flash.num c.cse.jrn (addr - 0x20100000) size))
  else if 0x10000000 ≤ addr && addr + size ≤ 0x10010000 then
    let d := c.draw cid
    d.2.emit (.readData core addr (d.1 % 2 ^ (8 * size)))
  else if cellBlockAt addr && size == 4 && addr % 4 == 0 then
    let v := c.word addr
    let c := { c with regs := c.regs.readClear (cellFields addr) }
    let c := match (List.range 16).find? (fun n => addr == (R.ADC_ENT_RES_RES n).addr) with
      | some n => c.latchResDn n
      | none => c
    c.emit (.readData core addr v)
  else c.emit (.busError core addr)

/-- A load in whose handshake hardware updates an RC field of the register (R12). -/
def C.loadTie (c : C) (cid ofs core addr size : Nat) (y : Tie) : C :=
  let c := c.load cid ofs core addr size
  { c with regs := c.regs.tie (cellFields addr) y }

/-- The fields of a register that a lock or a state protects now: locks of R154, R214, R382 and `CLK_CTL`. -/
def C.locked (c : C) (f : Fld) : Bool :=
  let a := f.addr
  (c.on R.GTE_CTL_LOCK && ((a == 0x40010000 && decide (f.lo < 3)) || (decide (0x40010060 ≤ a) && decide (a ≤ 0x40010070)))) ||
  (c.on R.PRT_CTL_LOCK && ((a == 0x40020000 && decide (f.lo < 2)) || (decide (0x40020004 ≤ a) && decide (a ≤ 0x40020030)))) ||
  (c.on R.ADC_CTL_LOCK && ((a == 0x40030000 && decide (f.lo < 6)) || (decide (0x40030100 ≤ a) && decide (a < 0x40030300)))) ||
  (c.on R.CLK_CTL_LOCK && a == 0x40050000 && f.lo == 0)

/-- Whether a store to a register would change a field that a lock protects (R603). -/
def C.lockedStore (c : C) (addr data : Nat) : Bool :=
  (c.regs.changed (cellFields addr) data).any c.locked

/-- A store to the fields of a register by their access codes, leaving out those that a lock protects (R10, R154, R214). -/
def C.plainStore (c : C) (addr data : Nat) : C :=
  { c with regs := c.regs.store ((cellFields addr).filter (fun e => !c.locked e.1)) data }

/-- A store to `CCP_CTL` to `CCP_WIN` (R390, R391, R403, R408): a refused one does nothing else (R603). -/
def C.ccpStore (c : C) (ofs addr data : Nat) : C :=
  let busy := c.rd R.CCP_STATE_STATE == 1 || c.rd R.CCP_STATE_STATE == 2
  let cfg := (cellFields addr).filter (fun e => e.1.acc == .rw && e.1.addr != R.CCP_WIN_WIN.addr)
  if busy && !(c.regs.changed cfg data).isEmpty then c.raise ofs CC.CCP_WR_REJ [] else
  let c := { c with regs := c.regs.store ((cellFields addr).filter (fun e => e.1.acc == .rw)) data }
  if addr ≠ 0x40040000 then c else
  let c := if bitAt data 1 then c.ccpStop ofs else if bitAt data 0 then c.ccpArm ofs else c
  if bitAt data 2 && !bitAt data 0 && !bitAt data 1 then c.ccpTrigger 3 else c

/-- A store to an entry register of the ADC other than `ADC_ENT_CFG` and `ADC_ENT_OFS` (R374, R379, R382, R603). -/
def C.adcStore (c : C) (ofs addr data : Nat) : C :=
  let n := (addr - 0x40030100) / 0x20
  let o := (addr - 0x40030100) % 0x20
  if o = 0 then c.adcCfgWrite ofs n data
  else if o = 0x10 then c.adcOfsWrite ofs n data
  else
    let fs := cellFields addr
    let ch := c.regs.changed fs data
    let badPhase := o == 4 && decide (bits data 16 8 ≥ (if bits data 8 8 = 0 then c.rd (R.ADC_ENT_TIME_DIV n) else bits data 8 8))
    if ch.isEmpty then c
    else if c.on R.ADC_CTL_LOCK || (c.on (R.ADC_ENT_CFG_EN n) && o != 0xC) then c.raise ofs CC.ADC_WR_REJ [(8, 4, n)]
    else { c with regs := c.regs.store (if badPhase then fs.filter (fun e => e.1.lo != 16) else fs) data }

/-- A store to a port record (R289, R294, R298 to R301, R304, R348). -/
def C.portStore (c : C) (ofs addr data : Nat) : C :=
  let u := (addr - 0x40050100) / 0x40
  let b := portBase u
  let o := (addr - 0x40050100) % 0x40
  if u ≥ 2 then c
  else if o = 0 then c.onLane ofs u (fun io => io.ctlWrite b data)
  else if o = 0x08 then c.onLane ofs u (fun io => io.eqWrite (portKind u) data)
  else if o = 0x0C then c.onLane ofs u (fun io => io.dfeWrite (portKind u) data)
  else if o = 0x20 then c.onLane ofs u (fun io => io.prbsWrite b data)
  else if o = 0x3C then
    let c := if bitAt data 0 then c.onLane ofs u (fun io => io.restore b) else c
    if bitAt data 1 then c.onLane ofs u (fun io => io.retrainCmd b) else c
  else c.plainStore addr data

/-- A store to `PRT_CMD` (R189, R206, R208, R606): which comparators are above level 1 is free (log entry 2). -/
def C.prtStore (c : C) (cid data : Nat) : C :=
  let op := bits data 16 3
  let c := (c.wr R.PRT_CMD_MASK data).wr R.PRT_CMD_OP op
  if !bitAt data 31 || op = 0 then c
  else if op = 1 then c.selftest (bits data 0 10)
  else if op = 2 then
    let d := c.draw cid
    d.2.clrHold (d.1 % 16)
  else if op = 3 then c.clrJournal
  else c.prtCmd op false

/-- A 32-bit store to a register of the cell (R8 to R10, R576). -/
def C.storeReg (c : C) (cid ofs addr data : Nat) : C :=
  if addr = 0x40010000 then
    c.gteCtlStore ofs data
  else if 0x40010060 ≤ addr && addr ≤ 0x40010070 then c.patWrite ofs ((addr - 0x40010060) / 4) (bits data 0 4)
  else if addr = 0x40010080 then c.testWrite ofs data
  else if addr = 0x40010084 then
    let c := (c.wr R.GTE_PWM_CTL_INV_Y (bits data 2 1)).pwmRun (bitAt data 0)
    if bitAt data 1 then c.wr R.GTE_PWM_CTL_LOAD 1 else c
  else if addr = 0x40020000 then
    let was := c.on R.PRT_CTL_DUMP_FIT
    let c := c.plainStore addr data
    if was && !c.on R.PRT_CTL_DUMP_FIT then c.dmp false else c
  else if 0x40020010 ≤ addr && addr ≤ 0x4002001C then c.thrWrite ofs ((addr - 0x40020010) / 4) data
  else if addr = 0x40020020 then c.ovaWrite data
  else if addr = 0x40020070 then c.prtStore cid data
  else if addr = 0x40030000 then
    let c := if c.lockedStore addr data then c.raise ofs CC.ADC_WR_REJ [] else c
    c.plainStore addr data
  else if 0x40030100 ≤ addr && addr < 0x40030300 then c.adcStore ofs addr data
  else if 0x40040000 ≤ addr && addr < 0x40040040 then c.ccpStore ofs addr data
  else if 0x40050100 ≤ addr && addr < 0x40050180 then c.portStore ofs addr data
  else if addr = 0x40060010 then c.cseCmd ofs data
  else if addr = 0x40000840 then (if bits data 16 16 = 0x5E7A then c.askReset else c)
  else if addr = 0x40000804 || addr = 0x40000808 then c.onMem ofs (fun io => io.injWrite localBase (addr == 0x40000808) 1 false data)
  else
    match cellBlocks.find? (fun b => addr == b.en + (if b.st = 0x40000810 then 20 else 16)) with
    | some b => if bitAt data 0 then c.ack b else c
    | none => c.plainStore addr data

/-- A store by the cell's core, its size in bytes, alignment and place checked (R8, R386, R453, R574, R579): the capture buffer refuses
stores while a capture runs, and the embedded flash always. -/
def C.store (c : C) (cid ofs core addr size data : Nat) : C :=
  let st := c.rd R.CCP_STATE_STATE
  if cellBlockAt addr && size == 4 && addr % 4 == 0 then c.storeReg cid ofs addr data
  else if addr + size ≤ 0x100000 then
    if 0x80000 < addr + size && (st = 1 || st = 2) then c.emit (.storeFault addr)
    else { c with mem := c.mem.write addr size data, memh := MemIO.written c.memh addr size }
  else if 0x20000000 ≤ addr && addr < 0x20110000 then c.emit (.storeFault addr)
  else c.emit (.busError core addr)

/-- The register that a point is the image of (R580). -/
def pointReg (p : Nat) : Option Nat :=
  if 96 ≤ p && p ≤ 105 then
    some ([0x40010048, 0x4001004C, 0x40010050, 0x40020068, 0x4002006C, 0x40030028, 0x40050020, 0x40050024, 0x40050028,
      0x4000082C].getD (p - 96) 0)
  else if 161 ≤ p && p ≤ 167 then some ((cellBlocks.getD (p - 161) CB.CSY).st)
  else if 168 ≤ p && p ≤ 175 then
    some ([0x40010020, 0x40010024, 0x40020040, 0x40050004, 0x4005002C, 0x4001002C, 0x40060008, 0x4006000C].getD (p - 168) 0)
  else if 192 ≤ p && p < 256 then some (0x40010000 + 4 * (p - 192))
  else if 256 ≤ p && p < 320 then some (0x40020000 + 4 * (p - 256))
  else if 320 ≤ p && p < 336 then some (0x40030000 + 4 * (p - 320))
  else if 336 ≤ p && p < 464 then some (0x40030100 + 4 * (p - 336))
  else if 464 ≤ p && p < 480 then some (0x40040000 + 4 * (p - 464))
  else if 480 ≤ p && p < 496 then some (0x40050000 + 4 * (p - 480))
  else if 496 ≤ p && p < 528 then some (0x40050100 + 4 * (p - 496))
  else if 528 ≤ p && p < 560 then some (0x40000800 + 4 * (p - 528))
  else none

/-- A live measurement point (R380). -/
def C.livePoint (c : C) (p : Nat) : Nat :=
  if p ≤ 9 then enc 32 (c.roleRes (p + 1))
  else if 16 ≤ p && p < 32 then enc 32 (c.ent (p - 16)).res
  else if 32 ≤ p && p < 48 then (c.ent (p - 32)).dn
  else if 48 ≤ p && p < 64 then (c.ent (p - 48)).ofs
  else 0

/-- A capture metadata point (R404). -/
def C.capturePoint (c : C) (p : Nat) : Nat :=
  let q := c.ccp
  let m := c.rd R.CCP_RATE_MASTER
  let st := c.rd R.CCP_STATE_STATE
  match p with
  | 576 => st + c.rd R.CCP_STATE_TRIG_CAUSE * 16 + b2n q.clamp * 256
  | 577 => q.trigDn
  | 578 => q.trigOfs
  | 579 => c.rd R.CCP_STATE_TRIG_ROW
  | 580 => q.pre
  | 581 => q.post
  | 582 => q.depth
  | 583 => q.size
  | 584 => c.rd R.CCP_RATE_DEC * c.ts m * 16
  | 585 => m + c.rd R.CCP_RATE_NCH * 16 +
      (List.range 8).foldl (fun (s : Nat) ch => s + c.rd (R.CCP_CH_KIND ch) * 2 ^ (8 + ch)) 0
  | _ =>
    if 592 ≤ p && p < 608 then c.clk.snap.getD (p - 592) 0
    else if 608 ≤ p && p < 640 && st ≠ 1 && st ≠ 2 then
      c.bufferWord (c.rd R.CCP_WIN_WIN * 128 + 4 * (p - 608))
    else 0

/-- The check of the word of the capture buffer that a point shows (R404, R452 to R454). -/
def C.pointMem (c : C) (ofs p : Nat) : C :=
  let st := c.rd R.CCP_STATE_STATE
  if 608 ≤ p && p < 640 && st != 1 && st != 2 then
    c.onMem ofs (fun io => (io.access localBase (0x80000 + (c.rd R.CCP_WIN_WIN * 128 + 4 * (p - 608)) % 0x80000) 4).2)
  else c

/-- A point read (R341, R581). -/
def C.pointRead (c : C) (p : Nat) : Nat :=
  if p < 96 then c.livePoint p
  else if p = 160 then (if c.clk.written = 0 then 0 else (c.clk.written - 1) % 64) + min 65535 c.clk.written * 2 ^ 16
  else if 576 ≤ p && p < 640 then c.capturePoint p
  else if 640 ≤ p && p < 1280 then (c.clk.events.get ((p - 640) / 10) []).getD ((p - 640) % 10) 0
  else match pointReg p with
    | some a => c.word a
    | none => 0

/-- Whether a point may be written with a value: 0, or the status READ_ONLY (2) or LOCKED (3) (R337, R341, R449, R581). -/
def C.pointCheck (c : C) (p v : Nat) : Nat :=
  if 96 ≤ p && p ≤ 105 then (if v = 0 then 0 else 2)
  else if 560 ≤ p && p ≤ 566 then 0
  else if 567 ≤ p && p ≤ 575 then (if v = 0 then 0 else 2)
  else if 192 ≤ p && p < 560 then
    match pointReg p with
    | some a => if !storable (cellFields a) then 2 else if c.lockedStore a v then 3 else 0
    | none => 2
  else 2

/-- A point write that has been accepted (R341, R449, R581). -/
def C.pointWrite (c : C) (cid ofs p v : Nat) : C :=
  if 96 ≤ p && p ≤ 105 then
    match pointReg p with
    | some a => { c with regs := c.regs.readClear (cellFields a) }
    | none => c
  else if 560 ≤ p && p ≤ 566 then
    if bitAt v 0 then c.ack (cellBlocks.getD (p - 560) CB.CSY) else c
  else if 192 ≤ p && p < 560 then
    match pointReg p with
    | some a => c.storeReg cid ofs a v
    | none => c
  else c

/-- A run of point writes checked: the status of the first that is refused and its index, or 0. -/
def C.pointsCheck (c : C) : List (Nat × Nat) → Nat → Nat × Nat
  | [], _ => (0, 0)
  | (p, v) :: t, i => if c.pointCheck p v ≠ 0 then (c.pointCheck p v, i) else C.pointsCheck c t (i + 1)

/-- When a point of a run is stored: the enables of ADC entries after the other fields, the registers with a LOCK bit last, so that every
store is judged by the state before the run (R338). -/
def pointRank (p : Nat) : Nat :=
  if p = 192 || p = 256 || p = 320 || p = 480 then 2 else if 336 ≤ p && p < 464 && (p - 336) % 8 == 0 then 1 else 0

/-- A run of point writes applied in one handshake (R338). -/
def C.pointsWrite (c : C) (cid ofs : Nat) (l : List (Nat × Nat)) : C :=
  (List.range 3).foldl (fun (c : C) k => (l.filter (fun e => pointRank e.1 == k)).foldl (fun (c : C) e => c.pointWrite cid ofs e.1 e.2) c) c

end Sys2Proof.Machine
end

