-- ==== Sys2Proof/Machine/CellLink.lean ====
section
/-! DEFINITION. The link of a cell: frames, orders, enumeration, reports, requests, configuration and update (R132, R143, R145,
R307 to R324, R335 to R342, R357, R358, R362, R401, R541, R565, R566). -/
namespace Sys2Proof.Machine

/-- Whether the cell has adopted a position inside its loop (R317, R318). -/
def C.placed (c : C) : Bool := c.on R.CLK_ID_POS_VALID && decide (c.rd R.CLK_ID_POS ≤ c.rd R.CLK_ID_SIZE_M1)

/-- Whether a message names this cell. -/
def C.named (c : C) (cid : Nat) : Bool := c.placed && cid % 32768 == c.cid

/-- Bits [15:0] of a reply: CID and UNIT (R336). -/
def C.addr16 (c : C) (unitB : Bool) : Nat := c.cid + b2n unitB * 32768

/-- A response made ready (R339). -/
def C.respond (c : C) (octets : List Nat) (reset : Bool) : C :=
  c.withClk (fun l => { l with resps := l.resps ++ [Resp.mk (octets ++ List.replicate (64 - octets.length) 0) 0 reset] })

/-- The bytes of a report (R319, R321). -/
def C.reportBytes (c : C) (r : Report) : List Nat :=
  let b := toBytes 4 r.dn ++ toBytes 3 (enc 24 (r.vcap.getD (c.roleRep 1))) ++ toBytes 3 (enc 24 (r.icell.getD (c.roleRep 2))) ++
    toBytes 2 (enc 16 (c.roleRes (3 + r.seq % 8))) ++ toBytes 2 r.flags ++ [r.seq]
  b ++ [crc8 0x2F 0xFF b]

/-- VCAP (1) or ICELL (2) for the departure that begins, where its sample fell in the departure before (R377). -/
def C.repReady (c : C) (role : Nat) : Option Int :=
  match c.roleEnt role with
  | some n => if c.refSlot n ≥ 2 then some (c.roleRep role) else none
  | none => none

/-- A report made for the departure that begins (R319, R320, R322, R191). -/
def C.makeReport (c : C) : C :=
  if !c.placed || !c.clk.dnOk then c else
  let due := (c.dn + c.cid % 512) % max 1 (c.rd R.CLK_CTL_RPT_P) == 0
  if !(due || c.clk.force) then c else
  let r := Report.mk c.dn c.clk.seq c.reportFlags (c.repReady 1) (c.repReady 2) [] false false
  (c.inc R.CLK_CNT_B_RPT_CNT).withClk (fun l => { l with
    rpts := l.rpts ++ [r], seq := (l.seq + 1) % 256, force := false, flags := l.flags / 64 % 16 * 64 })

/-- Whether a report's frame is the one whose slot begins in its window on a port (R323). -/
def C.slotFits (c : C) (port ofs pos : Nat) (r : Report) : Bool :=
  let s : Int := (ofs : Int) - 16000 + ((98 + 16 * pos) * 64 : Nat) + dnDiff c.dn r.dn * 16000
  !(if port = 0 then r.doneU else r.doneD) && decide (1920 ≤ s) && decide (s < 17920)

/-- The first report that a frame takes, with its bytes fixed and its port marked (R323). -/
def C.placeReport (c : C) (port ofs : Nat) : Option (List Nat) × C :=
  match c.clk.rpts.find? (c.slotFits port ofs (c.rd R.CLK_ID_POS)) with
  | none => (none, c)
  | some r =>
    let b := if r.bytes = [] then c.reportBytes r else r.bytes
    let r' := { r with bytes := b, doneU := r.doneU || port == 0, doneD := r.doneD || port == 1 }
    (some b, c.withClk (fun l => { l with
      rpts := (l.rpts.map (fun x => if x.seq = r.seq && x.dn = r.dn then r' else x)).filter (fun x => !(x.doneU && x.doneD)) }))

/-- A report that found no frame in time (R323). -/
def C.reportMiss (c : C) (ofs : Nat) : C :=
  let late := fun (r : Report) => decide (dnDiff c.dn r.dn ≥ 2) || (c.dn == (r.dn + 1) % 2 ^ 32 && decide (ofs > 1920))
  let lost := c.clk.rpts.any (fun r => late r && !r.doneU && !r.doneD)
  let c := c.withClk (fun l => { l with rpts := l.rpts.filter (fun r => !late r) })
  if lost then c.raise ofs CC.RPT_MISS [] else c

/-- CSTAT of the cell (R315). -/
def C.cstat (c : C) (rpt : Bool) : Nat :=
  1 + 2 * b2n rpt + 4 * b2n (c.portUp 0) + 8 * b2n (c.portUp 1) + 16 * bits c.reportFlags 4 2 +
    64 * c.rd R.GTE_STATE_BLOCK_LATCH + 128 * c.rd R.GTE_STATE_RETIRE_LATCH

/-- A frame as the cell forwards it, but for its CRC (R313, R315, R323, R339). -/
def C.passFrame (c : C) (port ofs : Nat) (ch : List Nat) : List Nat × C :=
  let hop := octet ch 1
  let ch := putAt ch 1 [hop / 16 * 16 + min 15 (hop % 16 + 1)]
  if !c.placed then (ch, c) else
  let pos := c.rd R.CLK_ID_POS
  let own := octet ch (16 + pos) == 0
  let r := if own then c.placeReport port ofs else (none, c)
  let c := r.2
  let ch := if own then putAt ch (16 + pos) [c.cstat r.1.isSome] else ch
  let ch := match r.1 with
    | some b => putAt ch (98 + 16 * pos) b
    | none => ch
  match decide (octet ch 24 = 0), c.clk.resps.find? (fun r => decide (r.age < 64)) with
  | true, some m =>
    let c := c.withClk (fun l => { l with resps := l.resps.erase m })
    let c := if m.reset && c.rst.isSome then { c with rst := some 0 } else c
    (putAt ch 24 m.octets, c.feed)
  | _, _ => (ch, c)

/-- Whether a frame arrives by a usable route: END 0 on port U or END 1 on port D (R317, R357). -/
def firstPass (port : Nat) (f : TwFrame) : Bool := if port = 0 then !f.endB else f.endB

/-- A frame forwarded with its CRC or the complement of it, wrapped or lost (R310, R313). -/
def C.forward (c : C) (port ofs : Nat) (stomped : Bool) (ch : List Nat) : C :=
  let out := 1 - port
  let r := c.passFrame port ofs ch
  if c.portUp out then r.2.emit (.trackway out (sealTw r.1 stomped))
  else if firstPass port (readTw ch) then r.2.emit (.trackway port (sealTw r.1 stomped))
  else c

/-- An ENUM_BAD condition that starts raises the cause, and one that ends is forgotten (R318). -/
def C.enumBad (c : C) (ofs bit : Nat) (bad : Bool) : C :=
  if bad = bitAt c.clk.badPos bit then c else
  let c := c.withClk (fun l => { l with badPos := if bad then setBit l.badPos bit else clrBit l.badPos bit })
  if bad then c.raise ofs CC.ENUM_BAD [] else c

/-- The position that a usable frame gives (R317). -/
def framePos (f : TwFrame) : Int := if f.endB then (f.loopCid % 8 : Int) - f.hop else f.hop

/-- Enumeration by a good frame (R317, R318). -/
def C.enumerate (c : C) (port ofs : Nat) (f : TwFrame) : C :=
  let usable := firstPass port f
  let p := framePos f
  let outside := decide (p < 0) || decide (p > (f.loopCid % 8 : Int))
  let c := if usable then c.enumBad ofs 0 outside else c
  let c := if usable && !c.on R.CLK_ID_POS_VALID && decide (0 ≤ p) && decide (p < 8) then
      (((((c.wr R.CLK_ID_POS p.toNat).wr R.CLK_ID_POS_VALID 1).wr R.CLK_ID_SIZE_M1 (f.loopCid % 8)).put R.CLK_ID_FROM_D (port == 1)).wr
        R.CLK_ID_CID (f.loopCid / 8 % 4096 * 8 + p.toNat))
    else c
  let c := if c.on R.CLK_ID_POS_VALID then
      c.enumBad ofs 1 (f.loopCid / 8 % 4096 != c.cid / 8 || f.loopCid % 8 != c.rd R.CLK_ID_SIZE_M1)
    else c
  if usable then c.withClk (fun l => if port = 0 then { l with posU := some p } else { l with posD := some p }) else c

/-- The consecutive departures in which the two usable routes gave different positions (R318). -/
def C.enumBoundary (c : C) : C :=
  let diff := match c.clk.posU, c.clk.posD with
    | some a, some b => a != b
    | _, _ => false
  let n := if diff then min 16 (c.clk.differ + 1) else 0
  (c.withClk (fun l => { l with differ := n, posU := none, posD := none })).enumBad 0 2 (decide (n ≥ 16))

/-- Where the boundary that a frame completed at an offset gives falls, from the latest local boundary (R48, R311): the arrival of its
K28.5, a frame's length before, at the reference instant, plus RESID and TOFS. -/
def C.frameBoundary (c : C) (ofs pass : Nat) (f : TwFrame) : Int :=
  (ofs : Int) - 16000 + pass + f.resid + sx 24 c.tofs

/-- The end of the departure in progress as a frame of the timing port gives it (R311): the boundary of DN − AHEAD, counted on. -/
def C.timeBy (c : C) (ofs pass : Nat) (f : TwFrame) : C :=
  let n := c.frameBoundary ofs pass f - 16000 * (dnDiff (f.dn + 2 ^ 32 - f.ahead) c.dn - 1)
  c.withClk (fun l => { l with len := n })

/-- The local DN taken from a frame (R311, R312): the departure that its boundary opens has begun, and the offset counts from there. -/
def C.takeDn (c : C) (ofs pass : Nat) (f : TwFrame) : C :=
  let b := c.frameBoundary ofs pass f
  let c := (c.wr R.GTE_EXEC_DN_DN ((f.dn + 2 ^ 32 - f.ahead) % 2 ^ 32)).withClk (fun l => { l with
    dnOk := true, jump := 0, t := l.t + b, len := 16000 })
  let c := c.withGte (fun g => { g with
    ofs := min 15999 ((ofs : Int) - b).toNat, edges := g.edges.map (fun e => { e with at_ := ((e.at_ : Int) - b).toNat }),
    gen := g.gen.map (fun e => (e.1, ((e.2.1 : Int) - b).toNat, e.2.2)) })
  let c := c.withPrt (fun p => { p with last := p.last.map (fun e => (e.1, max (e.2 - b) (-1000000))) })
  c.withGte (fun g => { g with held := g.held.filter (fun e =>
    decide (0 < dnDiff e.1 (f.dn + 2 ^ 32 - f.ahead)) && decide (dnDiff e.1 (f.dn + 2 ^ 32 - f.ahead) ≤ 8)) })

/-- The order of a frame for the cell at a position. -/
def frameOrder (f : TwFrame) (pos : Nat) : Held :=
  ⟨bits f.states (4 * pos) 4, bitAt f.grants pos, f.trimCid % 32768, bitAt f.trimCid 15, f.trimDuty⟩

/-- The order of a good frame held, or the frame discarded (R132, R145, R160, R176, R311, R312, R357: log entry 77). -/
def C.holdOrder (c : C) (port ofs pass : Nat) (f : TwFrame) : C :=
  let d := dnDiff f.dn c.dn
  let times := firstPass port f && (port == 0) == c.timesOnU
  if d ≤ 0 || d > 8 then
    let c := (c.inc R.GTE_CNT_A_DN_BAD).withClk (fun l => { l with jump := l.jump + 1 })
    if c.clk.jump ≥ 16 && times then (c.takeDn ofs pass f).raise ofs CC.DN_JUMP [] else c
  else
    let c := c.withClk (fun l => { l with jump := 0 })
    let c := if times then c.timeBy ofs pass f else c
    if d = 1 && decide (c.clk.len - 320 < ofs) then c.inc R.GTE_CNT_A_LATE
    else
      let c := if f.avClr && !f.avl then c.clearBlock ofs else c
      if (Tbl.find? c.gte.held f.dn).isSome || !c.placed then c else
      let h := frameOrder f (c.rd R.CLK_ID_POS)
      let c := c.withGte (fun g => { g with held := g.held.set f.dn h })
      let c := c.inc (if port = 0 then R.CLK_CNT_A_HELD_U else R.CLK_CNT_A_HELD_D)
      if h.code ≠ 0 && c.on R.GTE_CTL_TEST_EN then (c.endTest ofs).raise ofs CC.TEST_ABORT [] else c

/-- The timed command of a good frame (R401). -/
def C.timedCommand (c : C) (ofs : Nat) (f : TwFrame) : C :=
  let kind := f.tcmd % 16
  if kind ≠ 1 && kind ≠ 2 then c else
  let d := dnDiff f.tcmdDn c.dn
  if Tbl.find? c.clk.timed kind = some (f.tcmdDn % 2 ^ 32) then c
  else if d ≤ 0 then c.raise ofs CC.TCMD_LATE []
  else if d ≤ 65535 then c.withClk (fun l => { l with timed := l.timed.set kind (f.tcmdDn % 2 ^ 32) })
  else c

/-- The measurement of Δ and of the pass times by first-pass frames (R358), at the reference instant of the frame (R357). -/
def C.measure (c : C) (port ofs pass : Nat) (f : TwFrame) : C :=
  if !firstPass port f then c else
  let here := (f.dn, c.clk.t + ofs + pass, pass)
  let c := c.withClk (fun l => if port = 0 then { l with refU := some here, quietU := 0 } else { l with refD := some here })
  match c.clk.refU, c.clk.refD with
  | some u, some w =>
    if u.1 = w.1 then
      c.withClk (fun l => { l with skew := ((w.2.1 - u.2.1, u.2.2, w.2.2) :: l.skew).take 64, refU := none, refD := none })
    else c
  | _, _ => c

/-- The mean of measured values (R358). -/
def meanOf (l : List Int) : Int := if l = [] then 0 else rdiv (l.foldl (fun (s : Int) x => s + x) 0) l.length

/-- `CLK_TOFS` follows the timing port (R357). -/
def C.showTofs (c : C) : C := c.wr R.CLK_TOFS_TOFS c.tofs

/-- A TIME_SET (R354, R358, R362). -/
def C.timeSet (c : C) (o : List Nat) : C :=
  if c.clk.setSeq = some (octet o 1) || !c.placed then c else
  let p := c.rd R.CLK_ID_POS
  c.withClk (fun l => { l with
    setSeq := some (octet o 1),
    tofsNew := l.tofsNew ++ [(le o (8 + 6 * p) 3, le o (11 + 6 * p) 3, le o 2 4)] })

/-- A SKEW_REQ answered (R354, R358). -/
def C.skewReq (c : C) (o : List Nat) : C :=
  if c.clk.skewSeq = some (octet o 1) || !c.placed then c else
  let k := c.clk.skew
  let mean := fun (g : Int × Nat × Nat → Int) => meanOf (k.map g)
  let delta := if k = [] then 0x8000 else enc 16 (satS 16 (mean (fun e => e.1)))
  (c.withClk (fun l => { l with skewSeq := some (octet o 1) })).respond ([0x83, octet o 1] ++ toBytes 2 c.cid ++ toBytes 2 delta ++
    toBytes 2 (satU 16 (mean (fun e => (e.2.1 : Int)))).toNat ++ toBytes 2 (satU 16 (mean (fun e => (e.2.2 : Int)))).toNat ++ [b2n (!c.timesOnU)]) false

/-- A hub message in the mailbox of a good frame (R353, R358, R362); the other types have commands of their own. -/
def C.hubMessage (c : C) (o : List Nat) : C :=
  if isMsg o 0x80 then c.timeSet o else if isMsg o 0x82 then c.skewReq o else c

/-- The check of a received frame with what it counts on the port (R300, R304, R307, R310, R314): its code errors, a check error where it
fails without a stomp, and the stomped frames. -/
def C.checkFrame (c : C) (port ofs : Nat) (ch : List Nat) : Check × C :=
  let c := c.onLane ofs port (fun io => io.frameErrors (portBase port) c.dn (twErrors ch))
  let k := twCheck ch
  if k = .cut then (k, c.inc R.CLK_CNT_B_STOMP) else
  let sp := c.spoiled ofs port
  if sp.1 then (.bad, sp.2)
  else match k with
    | .bad => (k, c.onLane ofs port (fun io => io.checkError (portBase port) (c.ns ofs)))
    | .stomped => (k, c.inc R.CLK_CNT_B_STOMP)
    | _ => (k, c)

/-- What a good frame does in the cell (R132, R143, R309 to R312, R317, R318, R357, R358, R401). -/
def C.goodFrame (c : C) (port ofs pass : Nat) (f : TwFrame) : C :=
  let c := if f.avl then c.latchBlock ofs else c
  let c := ((c.enumerate port ofs f).measure port ofs pass f).hubMessage f.mbx
  if c.clk.dnOk then (c.timedCommand ofs f).holdOrder port ofs pass f
  else if firstPass port f && (port == 0) == c.timesOnU then
    let c := c.takeDn ofs pass f
    (c.timedCommand c.gte.ofs f).holdOrder port c.gte.ofs pass f
  else c

/-- A Trackway frame received whole at an offset of the local departure (R132, R143, R309 to R318, R323, R339, R357, R358, R401): forwarded
as it passes, acted on once its check has passed. A port that is not UP counts its code errors (R301), and one in a near-end loopback
receives what it sent only (R298). The time from the balls to the reference instant, at most 30 ns, is free. -/
def C.frameRx (c : C) (cid port ofs : Nat) (ch : List Nat) : C :=
  if port ≥ 2 || (c.laneIO.looped (portBase port) && !c.out.contains (.trackway port ch)) then c else
  let ofs := max c.gte.ofs (min ofs 15999)
  let c := (c.withGte (fun g => { g with ofs := ofs })).placeEdges ofs
  if !c.portUp port then c.onLane ofs port (fun io => io.frameErrors (portBase port) c.dn (twErrors ch)) else
  let r := c.checkFrame port ofs ch
  let c := r.2.forward port ofs (r.1 != .good) ch
  if r.1 ≠ .good then c else
  let d := c.draw cid
  d.2.goodFrame port ofs (d.1 % 481) (readTw ch)

/-- A Trackway frame received whole, with another that the other port completes in the same handshake: port U's is taken first (R334). -/
def C.frameRx2 (c : C) (cid port ofs : Nat) (ch : List Nat) (same : Option (List Nat)) : C :=
  match same with
  | none => c.frameRx cid port ofs ch
  | some other => if port = 0 then (c.frameRx cid 0 ofs ch).frameRx cid 1 ofs other else (c.frameRx cid 0 ofs other).frameRx cid port ofs ch

/-- K28.7 received (R143): a port in a near-end loopback receives its own only (R298). -/
def C.k287Rx (c : C) (ofs port : Nat) : C :=
  if c.laneIO.looped (portBase port) && !c.out.contains (.k28_7 port) then c else (c.emit (.k28_7 (1 - port))).latchBlock ofs

/-- A request acted on once for its TAG and ATT (R338): `run` answers the octets of the response and whether a reset waits for it. -/
def C.once (c : C) (unitB : Bool) (tag att : Nat) (point : Bool) (run : C → (List Nat × Bool) × C) : C :=
  let withAtt := fun (o : List Nat) => o.set 4 (o.getD 4 0 % 16 + att % 4 * 16)
  let fresh := fun (c : C) =>
    let r := run (if point then c.inc R.CLK_CNT_C_REQ_EXEC else c)
    let o := withAtt r.1.1
    (r.2.withClk (fun l => { l with kept := l.kept.set (b2n unitB) (Kept.mk tag att o) })).respond o r.1.2
  match Tbl.find? c.clk.kept (b2n unitB) with
  | some k =>
    if k.tag ≠ tag then fresh c
    else if k.att = att then c
    else ((c.inc R.CLK_CNT_C_REQ_CACHE).withClk (fun l => { l with kept := l.kept.set (b2n unitB) { k with att := att } })).respond
      (withAtt k.resp) false
  | none => fresh c

/-- The points and values of a WRITE. -/
def pointPairs (m : PointReq) : List (Nat × Nat) :=
  (List.range m.count).map (fun i => (m.first + i, m.values.getD i 0 % 2 ^ 32))

/-- A point request executed: STATUS, the values answered, whether it asked for a reset, and the cell (R336 to R338). -/
def C.pointExec (c : C) (cid ofs : Nat) (m : PointReq) : (List Nat × Bool) × C :=
  let status := if m.op > 1 then 4
    else if m.count = 0 || m.count > 14 || m.first + m.count > 1280 then 1
    else if m.op = 1 then (c.pointsCheck (pointPairs m) 0).1 else 0
  let had := c.rst.isSome
  let c := if status = 0 && m.op = 1 then c.pointsWrite cid ofs (pointPairs m) else c
  let c := if status = 0 then (List.range m.count).foldl (fun (c : C) i => c.pointMem ofs (m.first + i)) c else c
  let vals := if status = 0 then (List.range m.count).flatMap (fun i => toBytes 4 (c.pointRead (m.first + i))) else []
  (([3, m.tag] ++ toBytes 2 (c.addr16 m.unitB) ++ [status, m.count] ++ toBytes 2 m.first ++ vals, c.rst.isSome && !had), c)

/-- A point request received (R338). -/
def C.pointRequest (c : C) (cid ofs : Nat) (o : List Nat) : C :=
  let m := readPoint o
  if !c.named m.cid || !isMsg o 2 then c else c.once m.unitB m.tag m.att true (fun c => c.pointExec cid ofs m)

/-- A point request received, with a copy that port D completes in the same handshake after port U's (R334). -/
def C.pointRequest2 (c : C) (cid ofs : Nat) (o : List Nat) (same : Option (List Nat)) : C :=
  match same with
  | none => c.pointRequest cid ofs o
  | some p => (c.pointRequest cid ofs o).pointRequest cid ofs p

/-- Responses that have waited 64 departures are dropped (R339). -/
def C.dropResponses (c : C) (ofs : Nat) : C :=
  let old := c.clk.resps.any (fun r => decide (r.age ≥ 64))
  let c := c.withClk (fun l => { l with resps := l.resps.filter (fun r => decide (r.age < 64)) })
  if old then (c.feed).raise ofs CC.RSP_DROP [] else c

/-- The entries of a set with their LOCK bits taken as 0 (R541). -/
def unlocked (s : List (Nat × Nat)) : List (Nat × Nat) :=
  s.map (fun e =>
    let b := if e.1 = 192 then some 3 else if e.1 = 256 then some 2 else if e.1 = 320 then some 6 else if e.1 = 480 then some 5 else none
    match b with
    | some b => (e.1, clrBit e.2 b)
    | none => e)

/-- The acknowledge of a configuration set (R541). -/
def C.cfgAnswer (c : C) (unitB : Bool) (tag status index check : Nat) : C :=
  c.respond ([0x11, tag] ++ toBytes 2 (c.addr16 unitB) ++ [status, 0] ++ toBytes 2 index ++ toBytes 32 check) false

/-- A complete set checked (R541): answered, or left to be applied at a local boundary; a set that waits does not hold up another. -/
def C.cfgComplete (c : C) (b : CfgBlock) (set : List (Nat × Nat)) : C :=
  let answer := fun (status index : Nat) => c.cfgAnswer b.unitB b.tag status index b.check
  if b.check ≠ Config.shake256 (setBytes set) then answer 1 0
  else if c.clk.applied = some b.check then answer 0 0
  else if c.clk.applied.isSome then answer 2 0
  else
    let r := c.pointsCheck (unlocked set) 0
    if r.1 ≠ 0 then answer 3 r.2
    else c.withClk (fun l => { l with apply := l.apply ++ [Apply.mk b.check set b.unitB b.tag] })

/-- A configuration block received (R541; no entry is for point 0, log entry 165): one that follows the blocks held is taken, a copy of one of them discarded (R334), and any
other discards the assembly; a last block without its assembly is answered SEQUENCE. -/
def C.cfgBlock (c : C) (o : List Nat) : C :=
  let b := readCfgBlock o
  if !c.named b.cid || !isMsg o 0x10 then c else
  let u := b2n b.unitB
  let held := match Tbl.find? c.clk.asm u with
    | some a => if a.tag = b.tag && a.nblk = b.nblk then some a else none
    | none => none
  let cur := held.getD ⟨b.tag, 0, b.nblk, []⟩
  let last := b.blk + 1 == b.nblk
  if b.blk < cur.next then c
  else if b.blk ≠ cur.next then
    let c := c.withClk (fun l => { l with asm := Tbl.erase l.asm u })
    if last then c.cfgAnswer b.unitB b.tag 4 0 b.check else c
  else
    let set := if last then cur.set else cur.set ++ b.entries.takeWhile (fun e => e.1 != 0)
    let c := c.withClk (fun l => { l with asm := l.asm.set u ⟨b.tag, cur.next + 1, b.nblk, set⟩ })
    if last then c.cfgComplete b set else c

/-- A checked set at a local boundary (R541): the first is applied and every LOCK set; an identical one is answered OK, another LOCKED. -/
def C.applySet (c : C) (cid : Nat) (a : Apply) : C :=
  let answer := fun (c : C) (status : Nat) => c.cfgAnswer a.unitB a.tag status 0 a.check
  match c.clk.applied with
  | some k => answer c (if k = a.check then 0 else 2)
  | none =>
    let c := c.pointsWrite cid 0 (unlocked a.set)
    let c := (((c.wr R.GTE_CTL_LOCK 1).wr R.PRT_CTL_LOCK 1).wr R.ADC_CTL_LOCK 1).wr R.CLK_CTL_LOCK 1
    answer (c.withClk (fun l => { l with applied := some a.check })) 0

/-- The checked sets taken at a local boundary at which the cell executes BLOCK (R541). -/
def C.cfgApply (c : C) (cid : Nat) : C :=
  if c.rd R.GTE_STATE_CODE ≠ 0 then c else
  c.clk.apply.foldl (fun (c : C) a => c.applySet cid a) (c.withClk (fun l => { l with apply := [] }))

/-- The response of an update operation (R565). -/
def C.updAnswer (c : C) (q : UpdReq) (op status next : Nat) (data : List Nat) : List Nat :=
  [0x21, q.tag] ++ toBytes 2 (c.addr16 q.unitB) ++ [op, status, 0, 0] ++ toBytes 4 next ++ data

/-- The slot that is not running; slot 0 from the ROM (R566). -/
def C.otherSlot (c : C) : Nat := if c.cse.rom then 0 else 1 - c.slot

/-- An update request of operation `op` for this cell, acted on once (R338, R565). -/
def C.update (c : C) (op : Nat) (o : List Nat) (run : UpdReq → C → (List Nat × Bool) × C) : C :=
  let q := readUpd o
  if !c.named q.cid || !isUpd o op then c else c.once q.unitB q.tag q.att false (run q)

/-- IDENT (R566). -/
def C.updIdent (c : C) (o : List Nat) : C :=
  c.update 0 o (fun q c => ((c.updAnswer q 0 0 ((c.cse.upd.map (fun p => p.1)).getD 0)
    (toBytes 2 0x7020 ++ [0xC0, c.slotByte] ++ toBytes 8 c.unitId ++ toBytes 4 (c.rd R.CSE_VERSION_VERSION) ++
      [c.rd R.CSE_BOOT_ARB]), false), c))

/-- BEGIN (R566). -/
def C.updBegin (c : C) (o : List Nat) (fail : Bool) : C :=
  c.update 1 o (fun q c =>
    if fail then ((c.updAnswer q 1 7 0 [], false), c) else
    let c := c.withCse (fun s => { s with flash := Flash.erase s.flash (slotBase c.otherSlot) 0x80000, upd := some (0, false) })
    ((c.updAnswer q 1 0 0 [], false), c))

/-- DATA (R566): at the next OFFSET, or repeating an earlier one. -/
def C.updData (c : C) (o : List Nat) (fail : Bool) : C :=
  c.update 2 o (fun q c =>
    match c.cse.upd with
    | none => ((c.updAnswer q 2 8 0 [], false), c)
    | some (next, _) =>
      let data := q.data.take 52
      let offset := q.offset
      if offset > next || offset + data.length > 0x80000 then ((c.updAnswer q 2 6 next [], false), c)
      else if offset < next then ((c.updAnswer q 2 0 next [], false), c)
      else if fail then ((c.updAnswer q 2 7 next [], false), c)
      else
        let n := offset + data.length
        let c := c.withCse (fun s => { s with flash := Flash.program s.flash (slotBase c.otherSlot + offset) data, upd := some (n, false) })
        ((c.updAnswer q 2 0 n [], false), c))

/-- END (R566). -/
def C.updEnd (c : C) (o : List Nat) : C :=
  c.update 3 o (fun q c =>
    match c.cse.upd with
    | none => ((c.updAnswer q 3 8 0 [], false), c)
    | some (next, _) =>
      let st := imageCheck c.verifier c.cse.flash (slotBase c.otherSlot) 0x80000
      let c := c.withCse (fun s => { s with upd := some (next, st == 0) })
      ((c.updAnswer q 3 st next [], false), c))

/-- ACTIVATE (R566, R544): the slot pending, then a reset of the cell. -/
def C.updActivate (c : C) (o : List Nat) : C :=
  c.update 4 o (fun q c =>
    let idle := c.rd R.GTE_STATE_CODE == 0 || !c.gte.first
    match c.cse.upd with
    | some (next, true) =>
      if !idle || c.on R.CSE_BOOT_PENDING then ((c.updAnswer q 4 8 next [], false), c) else
      ((c.updAnswer q 4 0 next [], true), (c.slotRecord ⟨c.slot, some c.otherSlot, 0, false⟩).askReset)
    | some (next, false) => ((c.updAnswer q 4 8 next [], false), c)
    | none => ((c.updAnswer q 4 8 0 [], false), c))

/-- A challenge in the mailbox of a frame that has passed its check (R560, R561). -/
def C.challengeRx (c : C) (o : List Nat) : C :=
  let q := readChallenge o
  if c.named q.cid && isMsg o 0x18 then c.challenge q.unitB q.tag q.nonce else c

end Sys2Proof.Machine
end

