-- ==== Sys2Proof/Machine/CellBoundary.lean ====
section
/-! DEFINITION. The local boundary of a cell, in the order of its blocks (R131 to R136, R157, R159 to R165, R168 to R174, R181, R192,
R209, R210, R311, R318, R320, R322, R339, R357, R362, R376, R401, R402, R541, R544). -/
namespace Sys2Proof.Machine

/-- The departure count advanced, once the cell holds a local DN (R131, R311); without one it cannot hold an order (R136). -/
def C.advanceDn (c : C) : C :=
  if c.clk.dnOk then c.wr R.GTE_EXEC_DN_DN ((c.dn + 1) % 2 ^ 32) else c

/-- TOFS pairs come into use at their EFF_DN (R357, R362). -/
def C.takeTofs (c : C) : C :=
  let c := c.withClk (fun l => { l with quietU := min 255 (l.quietU + 1) })
  (c.withClk (fun l => { l with tofs := c.tofsAt c.dn, tofsNew := l.tofsNew.filter (fun e => decide (0 < dnDiff e.2.2 c.dn)) })).showTofs

/-- The order held for this departure is taken, and those of the past forgotten (R133). -/
def C.takeOrder (c : C) : Option Held × C :=
  let h := if c.clk.dnOk then Tbl.find? c.gte.held c.dn else none
  (h, c.withGte (fun g => { g with held := g.held.filter (fun e => decide (0 < dnDiff e.1 c.dn)) }))

/-- The departure resolved, shown and driven (R134, R135, R159 to R166, R181, R203). -/
def C.execute (c : C) : C :=
  let o := c.takeOrder
  let had := o.2.on R.GTE_STATE_RETIRE_LATCH
  let r := o.2.resolve o.1
  let c := r.2.2.2.showRow r.1 r.2.1
  let c := if c.on R.GTE_STATE_RETIRE_LATCH && !had then c.startRetire 0 false else c
  let plan := fun (c : C) leg => if r.1 = 6 then c.testPlan leg else r.2.2.1
  let drive := fun (c : C) leg => c.driveLeg leg (plan c leg) (decide (6 ≤ r.1))
  ((drive (drive c 0) 1).withGte (fun g => { g with retake := 0 })).placeEdges 0

/-- The snapshot record of a cell (R342, R402, R404). -/
def C.snapRecord (c : C) : List Nat :=
  [c.dn, enc 32 (c.roleRep 1), enc 32 (c.roleRep 2)] ++ (List.range 4).map (fun k => enc 32 (c.roleRes (3 + k))) ++
    [c.rd R.GTE_STATE_CODE + c.rd R.GTE_STATE_OUTS * 16, c.reportFlags, c.word 0x40020040]

/-- The timed commands of this departure (R401, R402). -/
def C.timedNow (c : C) : C :=
  let due := fun (k : Nat) => c.clk.dnOk && Tbl.find? c.clk.timed k == some c.dn
  let snap := due 1
  let trig := due 2
  let c := c.withClk (fun l => { l with timed := l.timed.filter (fun e => e.2 != c.dn) })
  let c := if snap then (c.withClk (fun l => { l with snap := c.snapRecord })).flag 15 else c
  if trig && c.on R.CCP_CTL_TRIG_TCMD then c.ccpTrigger 2 else c

/-- A departure waited by the responses (R339) and by a commanded reset (R544). -/
def C.waitOne (c : C) : C :=
  let c := c.withClk (fun l => { l with resps := l.resps.map (fun r => { r with age := min 255 (r.age + 1) }) })
  { c with rst := c.rst.map (fun n => n - 1) }

/-- BLANK_X and BLANK_Y taken into force (R213). -/
def C.takeBlank (c : C) : C :=
  c.withPrt (fun p => { p with blankX := c.rd R.PRT_BLANK_BLANK_X, blankY := c.rd R.PRT_BLANK_BLANK_Y })

/-- The local boundary of a cell; `pass` is the outcome of the self-test step that this departure holds, if it holds one (R211). -/
def C.boundary (c : C) (cid : Nat) (pass : Bool) : C :=
  let c := ((c.endDeparture.advanceDn.swapLines.startCal.takeBlank.adcBoundary).takeTofs).enumBoundary
  let c := c.execute
  let c := (c.countBypass).testStep pass
  let c := (c.timedNow).cfgApply cid
  let c := (c.makeReport).reportMiss 0
  (c.waitOne.prbsTime).tableCheck 0

end Sys2Proof.Machine
end

