-- ==== Sys2Proof/Machine/MapHub.lean ====
section
/-! DEFINITION. The register map of the BQ7300 (R578): every field of every register table, with its place, its access code,
its reset value and the values a write may give it. -/
namespace Sys2Proof.Machine

/-- Fields LNS_CTL.EN to LNS_RET.RETRAIN_TMO. -/
def hubMap0 : List RegRow := [
  ⟨4, 0x40, 1, 0x0, false, ⟨0x40013000, 0, 1, .rw, 1⟩, []⟩,
  ⟨128, 0x40, 1, 0x0, false, ⟨0x40011000, 0, 1, .rw, 1⟩, []⟩,
  ⟨4, 0x40, 1, 0x0, false, ⟨0x40013000, 1, 1, .rw, 1⟩, []⟩,
  ⟨128, 0x40, 1, 0x0, false, ⟨0x40011000, 1, 1, .rw, 1⟩, []⟩,
  ⟨4, 0x40, 1, 0x0, false, ⟨0x40013000, 2, 1, .rw, 0⟩, []⟩,
  ⟨128, 0x40, 1, 0x0, false, ⟨0x40011000, 2, 1, .rw, 0⟩, []⟩,
  ⟨4, 0x40, 1, 0x0, false, ⟨0x40013000, 3, 1, .rw, 0⟩, []⟩,
  ⟨128, 0x40, 1, 0x0, false, ⟨0x40011000, 3, 1, .rw, 0⟩, []⟩,
  ⟨4, 0x40, 1, 0x0, false, ⟨0x40013000, 4, 3, .rw, 0⟩, [(0, 3)]⟩,
  ⟨128, 0x40, 1, 0x0, false, ⟨0x40011000, 4, 3, .rw, 0⟩, [(0, 3)]⟩,
  ⟨4, 0x40, 1, 0x0, false, ⟨0x40013000, 7, 1, .rw, 0⟩, []⟩,
  ⟨128, 0x40, 1, 0x0, false, ⟨0x40011000, 7, 1, .rw, 0⟩, []⟩,
  ⟨4, 0x40, 1, 0x0, false, ⟨0x40013000, 8, 1, .w1s, 0⟩, []⟩,
  ⟨128, 0x40, 1, 0x0, false, ⟨0x40011000, 8, 1, .w1s, 0⟩, []⟩,
  ⟨4, 0x40, 1, 0x0, false, ⟨0x40013000, 9, 1, .rw, 0⟩, []⟩,
  ⟨128, 0x40, 1, 0x0, false, ⟨0x40011000, 9, 1, .rw, 0⟩, []⟩,
  ⟨4, 0x40, 1, 0x0, false, ⟨0x40013004, 0, 4, .ro, 1⟩, []⟩,
  ⟨128, 0x40, 1, 0x0, false, ⟨0x40011004, 0, 4, .ro, 1⟩, []⟩,
  ⟨4, 0x40, 1, 0x0, false, ⟨0x40013004, 4, 1, .ro, 0⟩, []⟩,
  ⟨128, 0x40, 1, 0x0, false, ⟨0x40011004, 4, 1, .ro, 0⟩, []⟩,
  ⟨4, 0x40, 1, 0x0, false, ⟨0x40013004, 5, 1, .ro, 0⟩, []⟩,
  ⟨128, 0x40, 1, 0x0, false, ⟨0x40011004, 5, 1, .ro, 0⟩, []⟩,
  ⟨4, 0x40, 1, 0x0, false, ⟨0x40013004, 6, 2, .ro, 0⟩, []⟩,
  ⟨128, 0x40, 1, 0x0, false, ⟨0x40011004, 6, 2, .ro, 0⟩, []⟩,
  ⟨4, 0x40, 1, 0x0, false, ⟨0x40013004, 8, 4, .ro, 0⟩, []⟩,
  ⟨128, 0x40, 1, 0x0, false, ⟨0x40011004, 8, 4, .ro, 0⟩, []⟩,
  ⟨4, 0x40, 1, 0x0, false, ⟨0x40013004, 16, 8, .ro, 0⟩, []⟩,
  ⟨128, 0x40, 1, 0x0, false, ⟨0x40011004, 16, 8, .ro, 0⟩, []⟩,
  ⟨4, 0x40, 1, 0x0, false, ⟨0x40013004, 24, 8, .ro, 0⟩, []⟩,
  ⟨4, 0x40, 1, 0x0, false, ⟨0x40013008, 0, 1, .rw, 1⟩, []⟩,
  ⟨128, 0x40, 1, 0x0, false, ⟨0x40011008, 0, 1, .rw, 1⟩, []⟩,
  ⟨4, 0x40, 1, 0x0, false, ⟨0x40013008, 1, 4, .rw, 8⟩, []⟩,
  ⟨128, 0x40, 1, 0x0, false, ⟨0x40011008, 1, 2, .rw, 0⟩, []⟩,
  ⟨4, 0x40, 1, 0x0, false, ⟨0x40013008, 5, 1, .rw, 1⟩, []⟩,
  ⟨4, 0x40, 1, 0x0, false, ⟨0x40013008, 6, 1, .rw, 0⟩, []⟩,
  ⟨128, 0x40, 1, 0x0, false, ⟨0x40011008, 6, 1, .rw, 0⟩, []⟩,
  ⟨4, 0x40, 1, 0x0, false, ⟨0x4001300C, 0, 30, .rw, 0⟩, []⟩,
  ⟨4, 0x40, 1, 0x0, false, ⟨0x40013010, 0, 4, .rw, 0⟩, []⟩,
  ⟨4, 0x40, 1, 0x0, false, ⟨0x40013010, 4, 6, .rw, 48⟩, []⟩,
  ⟨4, 0x40, 1, 0x0, false, ⟨0x40013010, 10, 5, .rw, 6⟩, []⟩,
  ⟨4, 0x40, 1, 0x0, false, ⟨0x40013020, 0, 3, .rw, 0⟩, [(0, 4)]⟩,
  ⟨128, 0x40, 1, 0x0, false, ⟨0x40011020, 0, 3, .rw, 0⟩, [(0, 4)]⟩,
  ⟨4, 0x40, 1, 0x0, false, ⟨0x40013020, 3, 1, .rw, 0⟩, []⟩,
  ⟨128, 0x40, 1, 0x0, false, ⟨0x40011020, 3, 1, .rw, 0⟩, []⟩,
  ⟨4, 0x40, 1, 0x0, false, ⟨0x40013020, 4, 3, .rw, 0⟩, [(0, 4)]⟩,
  ⟨128, 0x40, 1, 0x0, false, ⟨0x40011020, 4, 3, .rw, 0⟩, [(0, 4)]⟩,
  ⟨4, 0x40, 1, 0x0, false, ⟨0x40013020, 7, 1, .rw, 0⟩, []⟩,
  ⟨128, 0x40, 1, 0x0, false, ⟨0x40011020, 7, 1, .rw, 0⟩, []⟩,
  ⟨4, 0x40, 1, 0x0, false, ⟨0x40013020, 8, 1, .ro, 0⟩, []⟩,
  ⟨128, 0x40, 1, 0x0, false, ⟨0x40011020, 8, 1, .ro, 0⟩, []⟩,
  ⟨4, 0x40, 1, 0x0, false, ⟨0x40013024, 0, 32, .rc, 0⟩, []⟩,
  ⟨128, 0x40, 1, 0x0, false, ⟨0x40011024, 0, 32, .rc, 0⟩, []⟩,
  ⟨4, 0x40, 1, 0x0, false, ⟨0x40013028, 0, 32, .rc, 0⟩, []⟩,
  ⟨128, 0x40, 1, 0x0, false, ⟨0x40011028, 0, 32, .rc, 0⟩, []⟩,
  ⟨4, 0x40, 1, 0x0, false, ⟨0x40013030, 0, 8, .rw, 16⟩, [(1, 255)]⟩,
  ⟨128, 0x40, 1, 0x0, false, ⟨0x40011030, 0, 8, .rw, 16⟩, [(1, 255)]⟩,
  ⟨4, 0x40, 1, 0x0, false, ⟨0x40013030, 8, 8, .rw, 1⟩, [(1, 255)]⟩,
  ⟨128, 0x40, 1, 0x0, false, ⟨0x40011030, 8, 8, .rw, 1⟩, [(1, 255)]⟩,
  ⟨4, 0x40, 1, 0x0, false, ⟨0x40013030, 16, 10, .rw, 10⟩, [(1, 1000)]⟩,
  ⟨128, 0x40, 1, 0x0, false, ⟨0x40011030, 16, 10, .rw, 10⟩, [(1, 1000)]⟩]

/-- Fields LNS_RET.DSK_TMO to HDP_TOFS_U.VALID. -/
def hubMap1 : List RegRow := [
  ⟨4, 0x40, 1, 0x0, false, ⟨0x40013030, 26, 6, .rw, 1⟩, [(1, 63)]⟩,
  ⟨128, 0x40, 1, 0x0, false, ⟨0x40011030, 26, 6, .rw, 1⟩, [(1, 63)]⟩,
  ⟨4, 0x40, 1, 0x0, false, ⟨0x40013034, 0, 16, .rc, 0⟩, []⟩,
  ⟨128, 0x40, 1, 0x0, false, ⟨0x40011034, 0, 16, .rc, 0⟩, []⟩,
  ⟨4, 0x40, 1, 0x0, false, ⟨0x40013034, 16, 16, .rc, 0⟩, []⟩,
  ⟨128, 0x40, 1, 0x0, false, ⟨0x40011034, 16, 16, .rc, 0⟩, []⟩,
  ⟨4, 0x40, 1, 0x0, false, ⟨0x40013038, 0, 32, .rc, 0⟩, []⟩,
  ⟨128, 0x40, 1, 0x0, false, ⟨0x40011038, 0, 32, .rc, 0⟩, []⟩,
  ⟨4, 0x40, 1, 0x0, false, ⟨0x4001303C, 0, 1, .wo, 0⟩, []⟩,
  ⟨128, 0x40, 1, 0x0, false, ⟨0x4001103C, 0, 1, .wo, 0⟩, []⟩,
  ⟨4, 0x40, 1, 0x0, false, ⟨0x4001303C, 1, 1, .wo, 0⟩, []⟩,
  ⟨128, 0x40, 1, 0x0, false, ⟨0x4001103C, 1, 1, .wo, 0⟩, []⟩,
  ⟨1, 0x0, 1, 0x0, false, ⟨0x40000000, 0, 16, .ro, 29440⟩, []⟩,
  ⟨1, 0x0, 1, 0x0, false, ⟨0x40000000, 16, 8, .ro, 192⟩, []⟩,
  ⟨1, 0x0, 1, 0x0, false, ⟨0x40000000, 24, 6, .ro, 0⟩, []⟩,
  ⟨1, 0x0, 1, 0x0, false, ⟨0x40000000, 30, 1, .ro, 0⟩, []⟩,
  ⟨1, 0x0, 1, 0x0, false, ⟨0x40000004, 0, 8, .rw, 10⟩, [(1, 255)]⟩,
  ⟨1, 0x0, 1, 0x0, false, ⟨0x40000004, 8, 1, .ro, 0⟩, []⟩,
  ⟨1, 0x0, 1, 0x0, false, ⟨0x40000004, 9, 1, .ro, 0⟩, []⟩,
  ⟨1, 0x0, 1, 0x0, false, ⟨0x40000008, 0, 1, .wo, 0⟩, []⟩,
  ⟨1, 0x0, 1, 0x0, false, ⟨0x4000002C, 0, 16, .rc, 0⟩, []⟩,
  ⟨1, 0x0, 1, 0x0, false, ⟨0x4000002C, 16, 16, .rc, 0⟩, []⟩,
  ⟨1, 0x0, 1, 0x0, false, ⟨0x40000030, 0, 8, .ro, 0⟩, []⟩,
  ⟨1, 0x0, 1, 0x0, false, ⟨0x40000030, 8, 8, .rc, 128⟩, []⟩,
  ⟨1, 0x0, 1, 0x0, false, ⟨0x40020000, 0, 4, .ro, 0⟩, []⟩,
  ⟨1, 0x0, 1, 0x0, false, ⟨0x40020000, 4, 12, .ro, 0⟩, []⟩,
  ⟨1, 0x0, 1, 0x0, false, ⟨0x40020000, 16, 8, .ro, 0⟩, []⟩,
  ⟨1, 0x0, 1, 0x0, false, ⟨0x40020000, 24, 1, .ro, 0⟩, []⟩,
  ⟨1, 0x0, 1, 0x0, false, ⟨0x40020004, 0, 32, .ro, 0⟩, []⟩,
  ⟨1, 0x0, 1, 0x0, false, ⟨0x40020008, 0, 1, .ro, 0⟩, []⟩,
  ⟨1, 0x0, 1, 0x0, false, ⟨0x40020008, 1, 1, .ro, 0⟩, []⟩,
  ⟨1, 0x0, 1, 0x0, false, ⟨0x40020008, 2, 1, .ro, 0⟩, []⟩,
  ⟨1, 0x0, 1, 0x0, false, ⟨0x40020008, 3, 3, .ro, 0⟩, []⟩,
  ⟨1, 0x0, 1, 0x0, false, ⟨0x40020030, 0, 16, .rc, 0⟩, []⟩,
  ⟨1, 0x0, 1, 0x0, false, ⟨0x40020030, 16, 16, .rc, 0⟩, []⟩,
  ⟨1, 0x0, 1, 0x0, false, ⟨0x40020034, 0, 16, .rc, 0⟩, []⟩,
  ⟨1, 0x0, 1, 0x0, false, ⟨0x40020034, 16, 16, .rc, 0⟩, []⟩,
  ⟨1, 0x0, 1, 0x0, false, ⟨0x40020038, 0, 16, .rc, 0⟩, []⟩,
  ⟨1, 0x0, 1, 0x0, false, ⟨0x40020038, 16, 16, .rc, 0⟩, []⟩,
  ⟨64, 0x4, 1, 0x0, false, ⟨0x40020100, 0, 4, .ro, 0⟩, []⟩,
  ⟨64, 0x4, 1, 0x0, false, ⟨0x40020100, 4, 1, .ro, 0⟩, []⟩,
  ⟨64, 0x4, 1, 0x0, false, ⟨0x40020100, 5, 1, .ro, 0⟩, []⟩,
  ⟨64, 0x4, 1, 0x0, false, ⟨0x40020100, 6, 1, .ro, 0⟩, []⟩,
  ⟨64, 0x4, 1, 0x0, false, ⟨0x40020100, 8, 8, .ro, 0⟩, []⟩,
  ⟨64, 0x4, 1, 0x0, false, ⟨0x40020100, 16, 8, .ro, 0⟩, []⟩,
  ⟨1, 0x0, 1, 0x0, false, ⟨0x40030000, 0, 1, .rw, 1⟩, []⟩,
  ⟨1, 0x0, 1, 0x0, false, ⟨0x40030000, 8, 8, .rw, 100⟩, [(1, 255)]⟩,
  ⟨1, 0x0, 1, 0x0, false, ⟨0x40030000, 16, 8, .rw, 255⟩, [(16, 255)]⟩,
  ⟨1, 0x0, 1, 0x0, false, ⟨0x40030004, 0, 2, .ro, 0⟩, []⟩,
  ⟨1, 0x0, 1, 0x0, false, ⟨0x40030004, 16, 16, .ro, 0⟩, []⟩,
  ⟨1, 0x0, 1, 0x0, false, ⟨0x40030008, 0, 24, .ro, 0⟩, []⟩,
  ⟨1, 0x0, 1, 0x0, false, ⟨0x4003000C, 0, 24, .ro, 0⟩, []⟩,
  ⟨1, 0x0, 1, 0x0, false, ⟨0x40030008, 31, 1, .ro, 0⟩, []⟩,
  ⟨1, 0x0, 1, 0x0, false, ⟨0x4003000C, 31, 1, .ro, 0⟩, []⟩,
  ⟨1, 0x0, 1, 0x0, false, ⟨0x40030030, 0, 16, .ro, 0⟩, []⟩,
  ⟨1, 0x0, 1, 0x0, false, ⟨0x40030030, 16, 6, .ro, 0⟩, []⟩,
  ⟨1, 0x0, 1, 0x0, false, ⟨0x40030034, 0, 9, .rw, 0⟩, []⟩,
  ⟨1, 0x0, 1, 0x0, false, ⟨0x40030038, 0, 24, .ro, 0⟩, []⟩,
  ⟨1, 0x0, 1, 0x0, false, ⟨0x4003003C, 0, 24, .ro, 0⟩, []⟩,
  ⟨1, 0x0, 1, 0x0, false, ⟨0x40030038, 24, 1, .ro, 0⟩, []⟩]

/-- Fields HDP_TOFS_D.VALID to HTW_ENABLE.EN. -/
def hubMap2 : List RegRow := [
  ⟨1, 0x0, 1, 0x0, false, ⟨0x4003003C, 24, 1, .ro, 0⟩, []⟩,
  ⟨1, 0x0, 1, 0x0, false, ⟨0x40030038, 25, 1, .ro, 0⟩, []⟩,
  ⟨1, 0x0, 1, 0x0, false, ⟨0x4003003C, 25, 1, .ro, 0⟩, []⟩,
  ⟨1, 0x0, 1, 0x0, false, ⟨0x40030040, 0, 16, .ro, 0⟩, []⟩,
  ⟨1, 0x0, 1, 0x0, false, ⟨0x40030040, 16, 16, .ro, 0⟩, []⟩,
  ⟨64, 0x8, 1, 0x0, false, ⟨0x40030400, 0, 16, .ro, 0⟩, []⟩,
  ⟨64, 0x8, 1, 0x0, false, ⟨0x40030400, 16, 16, .ro, 0⟩, []⟩,
  ⟨64, 0x8, 1, 0x0, false, ⟨0x40030404, 0, 16, .ro, 0⟩, []⟩,
  ⟨64, 0x8, 1, 0x0, false, ⟨0x40030404, 16, 1, .ro, 0⟩, []⟩,
  ⟨1, 0x0, 1, 0x0, false, ⟨0x40000800, 0, 8, .rw, 4⟩, [(1, 255)]⟩,
  ⟨1, 0x0, 1, 0x0, false, ⟨0x40000804, 0, 4, .rw, 0⟩, []⟩,
  ⟨1, 0x0, 1, 0x0, false, ⟨0x40000804, 4, 5, .rw, 0⟩, []⟩,
  ⟨1, 0x0, 1, 0x0, false, ⟨0x40000804, 9, 2, .rw, 1⟩, [(1, 2)]⟩,
  ⟨1, 0x0, 1, 0x0, false, ⟨0x40000804, 11, 1, .w1s, 0⟩, []⟩,
  ⟨1, 0x0, 1, 0x0, false, ⟨0x40000804, 12, 1, .rw, 0⟩, []⟩,
  ⟨1, 0x0, 1, 0x0, false, ⟨0x40000808, 4, 28, .rw, 0⟩, []⟩,
  ⟨1, 0x0, 1, 0x0, false, ⟨0x4000082C, 0, 16, .rc, 0⟩, []⟩,
  ⟨1, 0x0, 1, 0x0, false, ⟨0x4000082C, 16, 16, .rc, 0⟩, []⟩,
  ⟨1, 0x0, 1, 0x0, false, ⟨0x40000830, 0, 6, .rw, 0⟩, [(0, 47)]⟩,
  ⟨1, 0x0, 1, 0x0, false, ⟨0x40000834, 0, 5, .ro, 0⟩, []⟩,
  ⟨1, 0x0, 1, 0x0, false, ⟨0x40000834, 16, 13, .ro, 0⟩, []⟩,
  ⟨1, 0x0, 1, 0x0, false, ⟨0x40000810, 0, 1, .w1c, 0⟩, []⟩,
  ⟨1, 0x0, 1, 0x0, false, ⟨0x40000810, 1, 1, .w1c, 0⟩, []⟩,
  ⟨1, 0x0, 1, 0x0, false, ⟨0x40000810, 2, 1, .w1c, 0⟩, []⟩,
  ⟨1, 0x0, 1, 0x0, false, ⟨0x40000810, 3, 1, .w1c, 0⟩, []⟩,
  ⟨1, 0x0, 1, 0x0, false, ⟨0x40000814, 0, 1, .ro, 1⟩, []⟩,
  ⟨1, 0x0, 1, 0x0, false, ⟨0x40000814, 1, 1, .rw, 1⟩, []⟩,
  ⟨1, 0x0, 1, 0x0, false, ⟨0x40000814, 2, 1, .rw, 1⟩, []⟩,
  ⟨1, 0x0, 1, 0x0, false, ⟨0x40000814, 3, 1, .rw, 1⟩, []⟩,
  ⟨1, 0x0, 1, 0x0, false, ⟨0x40000818, 0, 4, .ro, 0⟩, []⟩,
  ⟨1, 0x0, 1, 0x0, false, ⟨0x40000818, 4, 4, .ro, 0⟩, []⟩,
  ⟨1, 0x0, 1, 0x0, false, ⟨0x40000818, 8, 8, .ro, 0⟩, []⟩,
  ⟨1, 0x0, 1, 0x0, false, ⟨0x40000818, 31, 1, .ro, 0⟩, []⟩,
  ⟨1, 0x0, 1, 0x0, false, ⟨0x4000081C, 0, 32, .ro, 0⟩, []⟩,
  ⟨1, 0x0, 1, 0x0, false, ⟨0x40000820, 0, 32, .ro, 0⟩, []⟩,
  ⟨1, 0x0, 1, 0x0, false, ⟨0x40000824, 0, 16, .ro, 0⟩, []⟩,
  ⟨1, 0x0, 1, 0x0, false, ⟨0x40000828, 0, 1, .wo, 0⟩, []⟩,
  ⟨1, 0x0, 1, 0x0, false, ⟨0x40000010, 0, 1, .w1c, 0⟩, []⟩,
  ⟨1, 0x0, 1, 0x0, false, ⟨0x40000010, 1, 1, .w1c, 0⟩, []⟩,
  ⟨1, 0x0, 1, 0x0, false, ⟨0x40000014, 0, 1, .rw, 1⟩, []⟩,
  ⟨1, 0x0, 1, 0x0, false, ⟨0x40000014, 1, 1, .ro, 1⟩, []⟩,
  ⟨1, 0x0, 1, 0x0, false, ⟨0x40000018, 0, 4, .ro, 0⟩, []⟩,
  ⟨1, 0x0, 1, 0x0, false, ⟨0x40000018, 4, 4, .ro, 0⟩, []⟩,
  ⟨1, 0x0, 1, 0x0, false, ⟨0x40000018, 8, 6, .ro, 0⟩, []⟩,
  ⟨1, 0x0, 1, 0x0, false, ⟨0x40000018, 31, 1, .ro, 0⟩, []⟩,
  ⟨1, 0x0, 1, 0x0, false, ⟨0x4000001C, 0, 32, .ro, 0⟩, []⟩,
  ⟨1, 0x0, 1, 0x0, false, ⟨0x40000020, 0, 32, .ro, 0⟩, []⟩,
  ⟨1, 0x0, 1, 0x0, false, ⟨0x40000024, 0, 16, .ro, 0⟩, []⟩,
  ⟨1, 0x0, 1, 0x0, false, ⟨0x40000028, 0, 1, .wo, 0⟩, []⟩,
  ⟨1, 0x0, 1, 0x0, false, ⟨0x40020010, 0, 1, .w1c, 0⟩, []⟩,
  ⟨1, 0x0, 1, 0x0, false, ⟨0x40020010, 1, 1, .w1c, 0⟩, []⟩,
  ⟨1, 0x0, 1, 0x0, false, ⟨0x40020010, 2, 1, .w1c, 0⟩, []⟩,
  ⟨1, 0x0, 1, 0x0, false, ⟨0x40020010, 3, 1, .w1c, 0⟩, []⟩,
  ⟨1, 0x0, 1, 0x0, false, ⟨0x40020010, 4, 1, .w1c, 0⟩, []⟩,
  ⟨1, 0x0, 1, 0x0, false, ⟨0x40020010, 5, 1, .w1c, 0⟩, []⟩,
  ⟨1, 0x0, 1, 0x0, false, ⟨0x40020010, 6, 1, .w1c, 0⟩, []⟩,
  ⟨1, 0x0, 1, 0x0, false, ⟨0x40020014, 0, 1, .rw, 1⟩, []⟩,
  ⟨1, 0x0, 1, 0x0, false, ⟨0x40020014, 1, 1, .rw, 1⟩, []⟩,
  ⟨1, 0x0, 1, 0x0, false, ⟨0x40020014, 2, 1, .ro, 1⟩, []⟩,
  ⟨1, 0x0, 1, 0x0, false, ⟨0x40020014, 3, 1, .rw, 1⟩, []⟩]

/-- Fields HTW_ENABLE.EN to HSY_CERT.BYTES. -/
def hubMap3 : List RegRow := [
  ⟨1, 0x0, 1, 0x0, false, ⟨0x40020014, 4, 1, .rw, 1⟩, []⟩,
  ⟨1, 0x0, 1, 0x0, false, ⟨0x40020014, 5, 1, .rw, 1⟩, []⟩,
  ⟨1, 0x0, 1, 0x0, false, ⟨0x40020014, 6, 1, .rw, 1⟩, []⟩,
  ⟨1, 0x0, 1, 0x0, false, ⟨0x40020018, 0, 4, .ro, 0⟩, []⟩,
  ⟨1, 0x0, 1, 0x0, false, ⟨0x40020018, 4, 4, .ro, 0⟩, []⟩,
  ⟨1, 0x0, 1, 0x0, false, ⟨0x40020018, 8, 6, .ro, 0⟩, []⟩,
  ⟨1, 0x0, 1, 0x0, false, ⟨0x40020018, 31, 1, .ro, 0⟩, []⟩,
  ⟨1, 0x0, 1, 0x0, false, ⟨0x4002001C, 0, 32, .ro, 0⟩, []⟩,
  ⟨1, 0x0, 1, 0x0, false, ⟨0x40020020, 0, 32, .ro, 0⟩, []⟩,
  ⟨1, 0x0, 1, 0x0, false, ⟨0x40020024, 0, 16, .ro, 0⟩, []⟩,
  ⟨1, 0x0, 1, 0x0, false, ⟨0x40020028, 0, 1, .wo, 0⟩, []⟩,
  ⟨1, 0x0, 1, 0x0, false, ⟨0x40030010, 0, 1, .w1c, 0⟩, []⟩,
  ⟨1, 0x0, 1, 0x0, false, ⟨0x40030010, 1, 1, .w1c, 0⟩, []⟩,
  ⟨1, 0x0, 1, 0x0, false, ⟨0x40030010, 2, 1, .w1c, 0⟩, []⟩,
  ⟨1, 0x0, 1, 0x0, false, ⟨0x40030014, 0, 1, .rw, 1⟩, []⟩,
  ⟨1, 0x0, 1, 0x0, false, ⟨0x40030014, 1, 1, .rw, 1⟩, []⟩,
  ⟨1, 0x0, 1, 0x0, false, ⟨0x40030014, 2, 1, .rw, 1⟩, []⟩,
  ⟨1, 0x0, 1, 0x0, false, ⟨0x40030018, 0, 4, .ro, 0⟩, []⟩,
  ⟨1, 0x0, 1, 0x0, false, ⟨0x40030018, 4, 4, .ro, 0⟩, []⟩,
  ⟨1, 0x0, 1, 0x0, false, ⟨0x40030018, 8, 6, .ro, 0⟩, []⟩,
  ⟨1, 0x0, 1, 0x0, false, ⟨0x40030018, 31, 1, .ro, 0⟩, []⟩,
  ⟨1, 0x0, 1, 0x0, false, ⟨0x4003001C, 0, 32, .ro, 0⟩, []⟩,
  ⟨1, 0x0, 1, 0x0, false, ⟨0x40030020, 0, 32, .ro, 0⟩, []⟩,
  ⟨1, 0x0, 1, 0x0, false, ⟨0x40030024, 0, 16, .ro, 0⟩, []⟩,
  ⟨1, 0x0, 1, 0x0, false, ⟨0x40030028, 0, 1, .wo, 0⟩, []⟩,
  ⟨1, 0x0, 1, 0x0, false, ⟨0x40010000, 0, 1, .w1c, 0⟩, []⟩,
  ⟨1, 0x0, 1, 0x0, false, ⟨0x40010000, 1, 1, .w1c, 0⟩, []⟩,
  ⟨1, 0x0, 1, 0x0, false, ⟨0x40010000, 2, 1, .w1c, 0⟩, []⟩,
  ⟨1, 0x0, 1, 0x0, false, ⟨0x40010000, 3, 1, .w1c, 0⟩, []⟩,
  ⟨1, 0x0, 1, 0x0, false, ⟨0x40010000, 4, 1, .w1c, 0⟩, []⟩,
  ⟨1, 0x0, 1, 0x0, false, ⟨0x40010004, 0, 1, .ro, 1⟩, []⟩,
  ⟨1, 0x0, 1, 0x0, false, ⟨0x40010004, 1, 1, .rw, 1⟩, []⟩,
  ⟨1, 0x0, 1, 0x0, false, ⟨0x40010004, 2, 1, .rw, 1⟩, []⟩,
  ⟨1, 0x0, 1, 0x0, false, ⟨0x40010004, 3, 1, .rw, 1⟩, []⟩,
  ⟨1, 0x0, 1, 0x0, false, ⟨0x40010004, 4, 1, .rw, 1⟩, []⟩,
  ⟨1, 0x0, 1, 0x0, false, ⟨0x40010008, 0, 4, .ro, 0⟩, []⟩,
  ⟨1, 0x0, 1, 0x0, false, ⟨0x40010008, 4, 4, .ro, 0⟩, []⟩,
  ⟨1, 0x0, 1, 0x0, false, ⟨0x40010008, 8, 8, .ro, 0⟩, []⟩,
  ⟨1, 0x0, 1, 0x0, false, ⟨0x40010008, 31, 1, .ro, 0⟩, []⟩,
  ⟨1, 0x0, 1, 0x0, false, ⟨0x4001000C, 0, 32, .ro, 0⟩, []⟩,
  ⟨1, 0x0, 1, 0x0, false, ⟨0x40010010, 0, 32, .ro, 0⟩, []⟩,
  ⟨1, 0x0, 1, 0x0, false, ⟨0x40010014, 0, 16, .ro, 0⟩, []⟩,
  ⟨1, 0x0, 1, 0x0, false, ⟨0x40010018, 0, 1, .wo, 0⟩, []⟩,
  ⟨1, 0x0, 1, 0x0, false, ⟨0x40000100, 0, 32, .ro, 0⟩, []⟩,
  ⟨1, 0x0, 1, 0x0, false, ⟨0x40000104, 0, 32, .ro, 0⟩, []⟩,
  ⟨1, 0x0, 1, 0x0, false, ⟨0x40000108, 0, 32, .ro, 0⟩, []⟩,
  ⟨1, 0x0, 1, 0x0, false, ⟨0x4000010C, 0, 8, .ro, 0⟩, []⟩,
  ⟨1332, 0x4, 1, 0x0, false, ⟨0x40001000, 0, 32, .ro, 0⟩, []⟩]

/-- The register map of the BQ7300 (R578). -/
def hubMap : List RegRow := hubMap0 ++ hubMap1 ++ hubMap2 ++ hubMap3

end Sys2Proof.Machine
end

