-- ==== Sys2Proof/Machine/RegsHub.lean ====
section
/-! DEFINITION. The register fields of the BQ7300, each with address, place, access code and reset value
as the register tables give them. A field whose reset value is a strap, fuse, image or BAK value stands at 0 until that
load (log entry 5). STATUS, ENABLE, FIRST, COUNT and ACK of the fault records are in Machine/Records.lean (R441). -/
namespace Sys2Proof.Machine.R

-- HSY_ID (R370, 12_junction.md)
abbrev HSY_ID_TYPE : Fld := ⟨0x40000000, 0, 16, .ro, 29440⟩
abbrev HSY_ID_REV : Fld := ⟨0x40000000, 16, 8, .ro, 192⟩
abbrev HSY_ID_HUB : Fld := ⟨0x40000000, 24, 6, .ro, 0⟩
abbrev HSY_ID_HUB_VALID : Fld := ⟨0x40000000, 30, 1, .ro, 0⟩
-- HSY_CTL (R370, 12_junction.md)
abbrev HSY_CTL_HB_MAX : Fld := ⟨0x40000004, 0, 8, .rw, 10⟩
abbrev HSY_CTL_ALIVE : Fld := ⟨0x40000004, 8, 1, .ro, 0⟩
abbrev HSY_CTL_ALIVE_RUN : Fld := ⟨0x40000004, 9, 1, .ro, 0⟩
-- HSY_HEART (R370, 12_junction.md)
abbrev HSY_HEART_BEAT : Fld := ⟨0x40000008, 0, 1, .wo, 0⟩
-- HSY_SCRUB (R370, 12_junction.md)
abbrev HSY_SCRUB_SCRUB_CNT : Fld := ⟨0x4000002C, 0, 16, .rc, 0⟩
abbrev HSY_SCRUB_CORE_RST : Fld := ⟨0x4000002C, 16, 16, .rc, 0⟩
-- HSY_TEMP (R370, 12_junction.md)
abbrev HSY_TEMP_TEMP : Fld := ⟨0x40000030, 0, 8, .ro, 0⟩
abbrev HSY_TEMP_MAX : Fld := ⟨0x40000030, 8, 8, .rc, 128⟩
-- HTW_SET (R370, 12_junction.md)
abbrev HTW_SET_LEAD : Fld := ⟨0x40020000, 0, 4, .ro, 0⟩
abbrev HTW_SET_TW_OFS : Fld := ⟨0x40020000, 4, 12, .ro, 0⟩
abbrev HTW_SET_SEQ : Fld := ⟨0x40020000, 16, 8, .ro, 0⟩
abbrev HTW_SET_VALID : Fld := ⟨0x40020000, 24, 1, .ro, 0⟩
-- HTW_SET_DN (R370, 12_junction.md)
abbrev HTW_SET_DN_EFF_DN : Fld := ⟨0x40020004, 0, 32, .ro, 0⟩
-- HTW_STATE (R370, 12_junction.md)
abbrev HTW_STATE_REF : Fld := ⟨0x40020008, 0, 1, .ro, 0⟩
abbrev HTW_STATE_AVL : Fld := ⟨0x40020008, 1, 1, .ro, 0⟩
abbrev HTW_STATE_AVL_OWN : Fld := ⟨0x40020008, 2, 1, .ro, 0⟩
abbrev HTW_STATE_LOSS : Fld := ⟨0x40020008, 3, 3, .ro, 0⟩
-- HTW_CNT_A (R370, 12_junction.md)
abbrev HTW_CNT_A_USED_A : Fld := ⟨0x40020030, 0, 16, .rc, 0⟩
abbrev HTW_CNT_A_USED_B : Fld := ⟨0x40020030, 16, 16, .rc, 0⟩
-- HTW_CNT_B (R370, 12_junction.md)
abbrev HTW_CNT_B_DUP : Fld := ⟨0x40020034, 0, 16, .rc, 0⟩
abbrev HTW_CNT_B_STOMP_CNT : Fld := ⟨0x40020034, 16, 16, .rc, 0⟩
-- HTW_CNT_C (R370, 12_junction.md)
abbrev HTW_CNT_C_QDROP_CNT : Fld := ⟨0x40020038, 0, 16, .rc, 0⟩
abbrev HTW_CNT_C_FDROP_CNT : Fld := ⟨0x40020038, 16, 16, .rc, 0⟩
-- HTW_LOOP (R370, 12_junction.md)
abbrev HTW_LOOP_SIZE (l : Nat) : Fld := ⟨0x40020100 + l * 0x4, 0, 4, .ro, 0⟩
abbrev HTW_LOOP_END_A (l : Nat) : Fld := ⟨0x40020100 + l * 0x4, 4, 1, .ro, 0⟩
abbrev HTW_LOOP_END_B (l : Nat) : Fld := ⟨0x40020100 + l * 0x4, 5, 1, .ro, 0⟩
abbrev HTW_LOOP_RET (l : Nat) : Fld := ⟨0x40020100 + l * 0x4, 6, 1, .ro, 0⟩
abbrev HTW_LOOP_SEEN (l : Nat) : Fld := ⟨0x40020100 + l * 0x4, 8, 8, .ro, 0⟩
abbrev HTW_LOOP_UNREACH (l : Nat) : Fld := ⟨0x40020100 + l * 0x4, 16, 8, .ro, 0⟩
-- HDP_CTL (R370, 12_junction.md)
abbrev HDP_CTL_MEAS_EN : Fld := ⟨0x40030000, 0, 1, .rw, 1⟩
abbrev HDP_CTL_PD_PER : Fld := ⟨0x40030000, 8, 8, .rw, 100⟩
abbrev HDP_CTL_GRID_STEP : Fld := ⟨0x40030000, 16, 8, .rw, 255⟩
-- HDP_GRID (R370, 12_junction.md)
abbrev HDP_GRID_STATE : Fld := ⟨0x40030004, 0, 2, .ro, 0⟩
abbrev HDP_GRID_ERR : Fld := ⟨0x40030004, 16, 16, .ro, 0⟩
-- HDP_DLY_A (R370, 12_junction.md)
abbrev HDP_DLY_A_DLY : Fld := ⟨0x40030008, 0, 24, .ro, 0⟩
-- HDP_DLY_B (R370, 12_junction.md)
abbrev HDP_DLY_B_DLY : Fld := ⟨0x4003000C, 0, 24, .ro, 0⟩
-- HDP_DLY_A (R370, 12_junction.md)
abbrev HDP_DLY_A_VALID : Fld := ⟨0x40030008, 31, 1, .ro, 0⟩
-- HDP_DLY_B (R370, 12_junction.md)
abbrev HDP_DLY_B_VALID : Fld := ⟨0x4003000C, 31, 1, .ro, 0⟩
-- HDP_DLMAX (R370, 12_junction.md)
abbrev HDP_DLMAX_DL_MAX : Fld := ⟨0x40030030, 0, 16, .ro, 0⟩
abbrev HDP_DLMAX_LOOP : Fld := ⟨0x40030030, 16, 6, .ro, 0⟩
-- HDP_SEL (R370, 12_junction.md)
abbrev HDP_SEL_CELL : Fld := ⟨0x40030034, 0, 9, .rw, 0⟩
-- HDP_TOFS_U (R370, 12_junction.md)
abbrev HDP_TOFS_U_TOFS : Fld := ⟨0x40030038, 0, 24, .ro, 0⟩
-- HDP_TOFS_D (R370, 12_junction.md)
abbrev HDP_TOFS_D_TOFS : Fld := ⟨0x4003003C, 0, 24, .ro, 0⟩
-- HDP_TOFS_U (R370, 12_junction.md)
abbrev HDP_TOFS_U_VALID : Fld := ⟨0x40030038, 24, 1, .ro, 0⟩
-- HDP_TOFS_D (R370, 12_junction.md)
abbrev HDP_TOFS_D_VALID : Fld := ⟨0x4003003C, 24, 1, .ro, 0⟩
-- HDP_TOFS_U (R370, 12_junction.md)
abbrev HDP_TOFS_U_NOMINAL : Fld := ⟨0x40030038, 25, 1, .ro, 0⟩
-- HDP_TOFS_D (R370, 12_junction.md)
abbrev HDP_TOFS_D_NOMINAL : Fld := ⟨0x4003003C, 25, 1, .ro, 0⟩
-- HDP_SKEW (R370, 12_junction.md)
abbrev HDP_SKEW_DELTA : Fld := ⟨0x40030040, 0, 16, .ro, 0⟩
abbrev HDP_SKEW_PASS_DU : Fld := ⟨0x40030040, 16, 16, .ro, 0⟩
-- HDP_LOOP_T (R370, 12_junction.md)
abbrev HDP_LOOP_T_T_AB (l : Nat) : Fld := ⟨0x40030400 + l * 0x8, 0, 16, .ro, 0⟩
abbrev HDP_LOOP_T_T_BA (l : Nat) : Fld := ⟨0x40030400 + l * 0x8, 16, 16, .ro, 0⟩
-- HDP_LOOP_DL (R370, 12_junction.md)
abbrev HDP_LOOP_DL_DL (l : Nat) : Fld := ⟨0x40030404 + l * 0x8, 0, 16, .ro, 0⟩
abbrev HDP_LOOP_DL_PATH_BAD (l : Nat) : Fld := ⟨0x40030404 + l * 0x8, 16, 1, .ro, 0⟩
-- HSY_UNIT_L (R572, 20_identity_update.md)
abbrev HSY_UNIT_L_UNIT_LO : Fld := ⟨0x40000100, 0, 32, .ro, 0⟩
-- HSY_UNIT_H (R572, 20_identity_update.md)
abbrev HSY_UNIT_H_UNIT_HI : Fld := ⟨0x40000104, 0, 32, .ro, 0⟩
-- HSY_VERSION (R572, 20_identity_update.md)
abbrev HSY_VERSION_VERSION : Fld := ⟨0x40000108, 0, 32, .ro, 0⟩
-- HSY_ARB (R572, 20_identity_update.md)
abbrev HSY_ARB_ARB : Fld := ⟨0x4000010C, 0, 8, .ro, 0⟩
-- HSY_CERT (R572, 20_identity_update.md)
abbrev HSY_CERT_BYTES (n : Nat) : Fld := ⟨0x40001000 + n * 0x4, 0, 32, .ro, 0⟩

end Sys2Proof.Machine.R
end

