-- ==== Sys2Proof/Machine/StateHub.lean ====
section
/-! DEFINITION. The state of a hub BQ7300 beside its registers: what the chapters name that no register shows. -/
namespace Sys2Proof.Machine

/-- An ORDER frame kept for its DN (R330): the hub time at which its check passed, the hub lane it came on. -/
structure HeldOrder where
  done : Nat
  lane : Nat
  f    : OrderFrame
  deriving DecidableEq, Repr

/-- One loop at the hub: its mailbox queue and the management entries that wait for room (R340, R361), the latest CSTAT of each
position seen, the departures each has been unseen, the positions seen since reset (R325), the sample DN last forwarded of each
position (R324), whether its ends were UP at the latest boundary, whether a measurement is due (R361). -/
structure HubLoop where
  queue  : List (List Nat)
  wait   : List (List Nat)
  cstat  : Tbl Nat
  unseen : Tbl Nat
  ever   : Nat
  sample : Tbl Nat
  up     : Nat
  due    : Bool
  deriving DecidableEq, Repr

/-- The offsets of a cell (R359, R360): TOFS_U and TOFS_D last sent, whether they are nominal, and those of its latest two-ended
measurement. -/
structure CellOfs where
  u    : Option Int
  d    : Option Int
  nom  : Bool
  two  : Option (Int × Int)
  deriving DecidableEq, Repr

/-- A measurement in progress (R361): its SEQ, the hub DN at its start, the answers by position: Δ, PASS_UD, PASS_DU. -/
structure Meas where
  seq  : Nat
  dn   : Nat
  resp : Tbl (Int × Nat × Nat)
  deriving DecidableEq, Repr

/-- The paths of a loop (R359, R360): the latest 64 transits to lane 64 + l, to lane l, and round trips at each live end, newest
first, the cells up to the wrap of those, at each end the wrap and the round trip of the first one-ended measurement with that wrap
since a two-ended one, the measurement in progress. -/
structure Paths where
  ab   : List Nat
  ba   : List Nat
  eeA  : List Nat
  eeB  : List Nat
  wA   : Nat
  wB   : Nat
  ee0A : Option (Nat × Int)
  ee0B : Option (Nat × Int)
  meas : Option Meas
  deriving DecidableEq, Repr

/-- The Mainline delay of a unit (R352): the latest 8 values of d, newest first, the pings without an echo, the SEQ of the next
ping. -/
structure Delay where
  d    : List Int
  pend : Nat
  seq  : Nat
  deriving DecidableEq, Repr

/-- Attestation at the hub's management core (R560, R561): the waiting challenges and the one being signed by UNIT (TAG, NONCE), the
answers completed, by UNIT. -/
structure HubAtt where
  wait : Tbl (Nat × Nat)
  run  : Option (Nat × Nat × Nat)
  done : Tbl (Nat × List Nat)
  deriving DecidableEq, Repr

/-- Reset of a hub beside its registers (R523, R542): the episode that runs, the failed fuse loads in it, the fuses, the words of the fuse
shadow and whether it is valid, the configurable balls that their blocks drive, in the order of R584: JTAG and UART 0 to 6, transceiver
control 7 to 10, ALIVE 11. -/
structure HubSys where
  ep     : Option Episode
  fails  : Nat
  fuse   : Fuses
  words  : List Nat
  shadow : Bool
  owned  : List Nat
  deriving DecidableEq, Repr

/-- A hub out of reset; ALIVE holds its fuse state (R542). -/
def HubSys.zero : HubSys := { ep := none, fails := 0, fuse := .zero, words := [], shadow := false, owned := [] }

/-- A hub: its registers, fault records, lanes and their lines; the local departure and the hub time of its boundary in 1/16 ns; whether the grid has
had an estimate, whether it had one with D_u of the reference unit valid, the latest error, whether the grid slews
after a change of reference unit, the step waiting (its DN, its time) (R350); whether an ORDER frame has passed its check, whether one with ACT has (R349), whether one has passed in this interval, the
consecutive intervals without one (R138); the DN and TS64 of the latest TIME frame (R46, R47); the DNs of which each unit's mailbox entries have been taken (R330); the HUB_SETs waiting
for their EFF_DN, oldest first (R355); the ORDER frames kept by DN, the DN launched last, whether a stop of R138 stands (frames as under a loss), whether
AVL is set in every frame forwarded (R142), whether the loss of this run of silent intervals has been raised;
the loops; the cells' offsets by loop and position; the delays of units A and B; the DN of the latest periodic measurement and the
SEQ of the next message; reset and fuses; whether HB_LOST stands (R367), whether HSY_HEART has been
written since the reset of the core (R542); the requests that wait for the management core; the image in its SRAM,
the OFFSET being fetched (none once the image has been entered) and the departures until it is asked for again (R567); attestation;
memory errors, the SRAM; what it has sent, oldest first; how many free values it has drawn. -/
structure H where
  regs   : Regs
  recs   : Tbl Rec
  lanes  : Tbl Lane
  serial : LineHid
  dn     : Nat
  t      : Nat
  had    : Bool
  hadDu  : Bool
  err    : Int
  slew   : Bool
  step   : Option (Nat × Nat)
  any    : Bool
  act    : Bool
  got    : Bool
  loss   : Nat
  time   : Option (Nat × Nat)
  taken  : Tbl (List Nat)
  set    : List HubSet
  orders : Tbl HeldOrder
  last   : Option Nat
  lost   : Bool
  avl    : Bool
  told   : Bool
  loops  : Tbl HubLoop
  ofs    : Tbl CellOfs
  paths  : Tbl Paths
  skews  : Tbl (Int × Nat × Nat)
  dly    : Delay × Delay
  period : Nat
  seq    : Nat
  sys    : HubSys
  hbLost : Bool
  beat   : Bool
  mgmt   : List (Bool × RegReq)
  img    : Flash
  fetch  : Option Nat
  again  : Nat
  att    : HubAtt
  memh   : MemHid
  mem    : Mem
  out    : List Output
  free   : Nat
  deriving DecidableEq, Repr

/-- A loop after reset. -/
def HubLoop.zero : HubLoop :=
  { queue := [], wait := [], cstat := [], unseen := [], ever := 0, sample := [], up := 0, due := false }
/-- The paths of a loop after reset. -/
def Paths.zero : Paths := { ab := [], ba := [], eeA := [], eeB := [], wA := 0, wB := 0, ee0A := none, ee0B := none, meas := none }
/-- A cell whose offsets have not been sent. -/
def CellOfs.zero : CellOfs := ⟨none, none, false, none⟩
/-- A Mainline delay after reset. -/
def Delay.zero : Delay := ⟨[], 0, 0⟩

/-- A hub after reset (R305, R351, R355). -/
def H.reset : H :=
  { regs := [], recs := [], lanes := [], serial := .zero, dn := 0, t := 0, had := false, hadDu := false, err := 0, slew := false, step := none, any := false,
    act := false, got := false, loss := 0, time := none, taken := [], set := [], orders := [], last := none, lost := false, avl := false, told := false, loops := [], ofs := [],
    paths := [], skews := [], dly := (Delay.zero, Delay.zero), period := 0, seq := 0, sys := .zero, hbLost := false, beat := false, mgmt := [], img := [], fetch := some 0, again := 0, att := ⟨[], none, []⟩,
    memh := MemHid.zero, mem := [], out := [], free := 0 }

end Sys2Proof.Machine
end

