-- ==== Sys2Proof/Machine/HubOps.lean ====
section
/-! DEFINITION. The named operations over a hub: registers, free values, fault records, lanes, its own avalanche (R138, R142, R286,
R291, R303, R305, R349, R364, R365, R368, R369, R441 to R447). -/
namespace Sys2Proof.Machine

/-- Which hub of the arm set an event concerns: its number. -/
structure HubAt where
  k  : Nat
  deriving DecidableEq, Repr

/-- A register field of the hub. -/
def H.rd (h : H) (f : Fld) : Nat := h.regs.get f
/-- A register field as a flag. -/
def H.on (h : H) (f : Fld) : Bool := h.rd f != 0
/-- A register field written by hardware. -/
def H.wr (h : H) (f : Fld) (v : Nat) : H := { h with regs := h.regs.set f v }
/-- A one-bit field written by hardware. -/
def H.put (h : H) (f : Fld) (b : Bool) : H := h.wr f (b2n b)
/-- A counter field advanced, saturating (R6). -/
def H.inc (h : H) (f : Fld) : H := h.wr f (satInc f.width (h.rd f) 1)
/-- Something the hub sends. -/
def H.emit (h : H) (o : Output) : H := { h with out := h.out ++ [o] }
/-- A loop. -/
def H.loop (h : H) (l : Nat) : HubLoop := h.loops.get l HubLoop.zero
/-- A loop replaced. -/
def H.onLoop (h : H) (l : Nat) (f : HubLoop → HubLoop) : H := { h with loops := h.loops.set l (f (h.loop l)) }
/-- The paths of a loop. -/
def H.path (h : H) (l : Nat) : Paths := h.paths.get l Paths.zero
/-- The paths of a loop replaced. -/
def H.onPath (h : H) (l : Nat) (f : Paths → Paths) : H := { h with paths := h.paths.set l (f (h.path l)) }
/-- The offsets of a cell. -/
def H.cellOfs (h : H) (l p : Nat) : CellOfs := h.ofs.get (l * 8 + p) CellOfs.zero

/-- The base of the free values of a hub (log entry 2). -/
def hubChip (k : Nat) : Nat := 1 + k
/-- The next free value. -/
def H.draw (h : H) (x : HubAt) : Nat × H := (Config.freeValue (hubChip x.k) h.free, { h with free := h.free + 1 })

/-- The TS64 of an offset of the local departure, counted from the latest TIME frame; before one the hub's own count (R46, R47). -/
def H.stamp (h : H) (ofs : Nat) : Nat :=
  match h.time with
  | some (dn, ts) => enc 64 ((ts : Int) + dnDiff h.dn dn * 16000 + ofs)
  | none => enc 64 ((h.dn : Int) * 16000 + ofs)

namespace HB
def HSY : Blk := Blk.at 0x40000010
def MEM : Blk := Blk.at 0x40000810
def HLN : Blk := Blk.at 0x40010000
def HTW : Blk := Blk.at 0x40020010
def HDP : Blk := Blk.at 0x40030010
end HB

namespace HC
def HB_LOST : Cause := ⟨HB.HSY, 0, some 1, 6, false, 1⟩
def MEM_UNC : Cause := ⟨HB.HSY, 1, some 3, 6, false, 1⟩
def END_RET : Cause := ⟨HB.HTW, 0, some 1, 3, false, 1⟩
def LOOP_RET : Cause := ⟨HB.HTW, 1, some 1, 3, false, 1⟩
def BOTH_LOSS : Cause := ⟨HB.HTW, 2, some 3, 4, false, 1⟩
def STOMP : Cause := ⟨HB.HTW, 3, some 0, 3, false, 1⟩
def QDROP : Cause := ⟨HB.HTW, 4, some 0, 3, false, 1⟩
def FDROP : Cause := ⟨HB.HTW, 5, some 0, 3, false, 1⟩
def SET_BAD : Cause := ⟨HB.HTW, 6, some 1, 4, false, 1⟩
def GRID_STEP : Cause := ⟨HB.HDP, 0, some 0, 5, false, 1⟩
def PATH_BAD : Cause := ⟨HB.HDP, 1, some 1, 5, false, 1⟩
def DLY_TMO : Cause := ⟨HB.HDP, 2, some 1, 5, false, 1⟩
def UNCORR : Cause := ⟨HB.MEM, 0, some 2, 7, false, 1⟩
def SPARED : Cause := ⟨HB.MEM, 1, some 0, 7, false, 1⟩
def SPARE_OUT : Cause := ⟨HB.MEM, 2, some 1, 7, false, 1⟩
def INJ_REJ : Cause := ⟨HB.MEM, 3, some 0, 7, false, 1⟩
end HC

/-- Whether a lane is UP, as a lane's record shows it. -/
def H.up (h : H) (n : Nat) : Bool := h.rd (R.LNS_STATE_STATE (0x40011000 + n * 0x40)) == 7

/-- A frame to unit A (0) or B (1) on hub lane 0 or 1 of that unit, or on its other lane when that one is not UP (R332): with neither UP
it is not started, and HUB_FRAME_DROP is its end. -/
def H.toUnit (h : H) (unit pref : Nat) (f : List Nat) : H :=
  let n := 128 + 2 * unit + pref
  let m := 128 + 2 * unit + (1 - pref)
  if h.up n then h.emit (.mainline n (sendBlocks f)) else if h.up m then h.emit (.mainline m (sendBlocks f)) else h

/-- A frame to both units (R332). -/
def H.toUnits (h : H) (pref : Nat) (f : List Nat) : H := (h.toUnit 0 pref f).toUnit 1 pref f

/-- A management message to a unit in a MAIL frame (R332, R353). -/
def H.manageUnit (h : H) (unit : Nat) (o : List Nat) : H := h.toUnit unit 0 (mailBytes 0 true false h.dn o)

/-- The record base of a hub lane (R305). -/
def hubLaneBase (n : Nat) : Nat := 0x40011000 + n * 0x40
/-- Whether a hub lane is UP. -/
def H.laneUp (h : H) (n : Nat) : Bool := h.rd (R.LNS_STATE_STATE (hubLaneBase n)) == 7
/-- Whether a hub lane is enabled. -/
def H.laneEn (h : H) (n : Nat) : Bool := h.on (R.LNS_CTL_EN (hubLaneBase n))

/-- K28.7 on every enabled Trackway lane (R142, R364). -/
def H.blockAll (h : H) : H :=
  ((List.range 128).filter h.laneEn).foldl (fun (h : H) n => h.emit (.k28_7 n)) h

/-- The hub's own avalanche, from R138 or one of its class-3 causes (R364). -/
def H.ownAvalanche (h : H) : H := ({ h.blockAll with avl := true }.wr R.HTW_STATE_AVL 1).wr R.HTW_STATE_AVL_OWN 1

/-- Whether the hub is held in reset as a whole: a Cold episode runs (R516, R542). -/
def H.held (h : H) : Bool :=
  match h.sys.ep with
  | some e => e.reach == 0
  | none => false

/-- Whether a Block episode holds a block: HSY 0, HLN 1, HTW 2, HDP 3 (R516, R542, R578). -/
def H.blockHeld (h : H) (i : Nat) : Bool :=
  match h.sys.ep with
  | some e => e.blocks.contains i
  | none => false

/-- Reset beside its registers replaced. -/
def H.withSys (h : H) (f : HubSys → HubSys) : H := { h with sys := f h.sys }

/-- The state of a configurable ball of a hub (R524, R542, R584). -/
def H.ball (h : H) (i : Nat) : Ball :=
  if h.sys.owned.contains i then .driven else if h.sys.shadow then Ball.ofCode (h.sys.fuse.ball.getD i 0 % 8) else .hiZ

/-- The states of all the configurable balls of a hub. -/
def H.balls (h : H) : List Ball := (List.range 12).map h.ball

/-- The balls put out where their states have changed. -/
def H.showBalls (h before : H) : H := if h.balls = before.balls then h else h.emit (.balls h.balls)

/-- What keeps ALIVE at its level (R368). -/
def H.aliveStopped (h : H) : Bool := !h.sys.owned.contains 11 || h.hbLost || h.recs.any (fun e => e.2.open3)

/-- ALIVE stops at once (R368). -/
def H.showAlive (h : H) : H := if h.aliveStopped then h.wr R.HSY_CTL_ALIVE_RUN 0 else h

/-- A cause of a block recorded, its event put out (log entry 161), and its class-3 action (R364, R368, R441 to R447). -/
def H.raise (h : H) (x : HubAt) (k : Cause) (detail : List (Nat × Nat × Nat)) : H :=
  let h := h.wr (k.blk.status k.bit) 1
  match k.cls with
  | none => h
  | some base =>
    let d := h.draw x
    let ts := d.2.stamp (d.1 % 16000)
    let h := d.2
    let r := h.recs.get k.blk.st Rec.zero
    let cls := escalate r base
    let h := { h with recs := h.recs.set k.blk.st (Rec.mk (setBit r.classes cls) false (r.open3 || cls == 3)) }
    let h := h.inc k.blk.events
    let h := if h.on k.blk.firstValid then h else
      let h := ((((h.wr k.blk.firstCause (k.bit + 1)).wr k.blk.firstClass cls).wr k.blk.firstValid 1).wr
        k.blk.firstTsl (ts % 2 ^ 32)).wr k.blk.firstTsh (ts / 2 ^ 32)
      detail.foldl (fun h e => h.wr (k.blk.firstDetail e.1 e.2.1) e.2.2) h
    let h := if h.on k.enable then h.emit (.event k.src k.bit) else h
    if cls ≥ 3 then (h.ownAvalanche).showAlive else h

/-- A cause of HTW or HDP that concerns a loop (R370). -/
def H.raiseLoop (h : H) (x : HubAt) (k : Cause) (l : Nat) : H := h.raise x k [(8, 6, l)]

/-- A block acknowledged (R444). -/
def H.ack (h : H) (b : Blk) : H :=
  let h := { h with recs := Tbl.erase h.recs b.st, regs := Regs.resetRange h.regs (b.en + 4) (b.en + 16) }
  h.wr b.events 0

/-- What a hub lane is (R286 to R288, R291): lanes 0 to 127 Trackway, 128 to 131 Mainline. -/
def H.laneKind (h : H) (n : Nat) : LaneKind :=
  let track : Sender := ⟨2, 0, 0, 0, 1⟩
  if n < 64 then ⟨hubLaneBase n, false, [hubLaneBase n], 0, fun w => w.role == 3, track⟩
  else if n < 128 then ⟨hubLaneBase n, false, [hubLaneBase n], 0, fun w => w.role == 4, track⟩
  else
    let side := (n - 128) / 2
    let first := 128 + side * 2
    let adopted := h.on R.HSY_ID_HUB_VALID
    let hub := h.rd R.HSY_ID_HUB
    ⟨hubLaneBase n, true, [hubLaneBase first, hubLaneBase (first + 1)], n % 2,
      fun w => w.role == side && (!adopted || w.link == hub), ⟨2, side, if adopted then hub else 255, n % 2, 2⟩⟩

/-- The cause of a lane in the one record of HLN (R303, R305). -/
def laneCauseOf (n bit : Nat) : Cause :=
  ⟨HB.HLN, bit, some (if bit < 2 then 1 else 0), if n < 64 then 0 else if n < 128 then 1 else 2, false, 1⟩

/-- A lane's causes raised: the retirement of a loop end raises END_RET, and LOOP_RET when both ends are retired (R303, R305, R365). -/
def H.laneCause (h : H) (x : HubAt) (n bit : Nat) : H :=
  let h := h.raise x (laneCauseOf n bit) [(8, 8, n)]
  if bit ≠ 0 || n ≥ 128 then h else
  let l := n % 64
  let retired := fun (n : Nat) => h.rd (R.LNS_STATE_STATE (hubLaneBase n)) == 8
  let both := retired l && retired (64 + l)
  let h := h.raiseLoop x HC.END_RET l
  if both then (h.raiseLoop x HC.LOOP_RET l).wr (R.HTW_LOOP_RET l) 1 else h

/-- The ends of a loop as they are UP, and RET (R365, R370). -/
def H.showEnds (h : H) (l : Nat) : H :=
  let retired := fun (n : Nat) => h.rd (R.LNS_STATE_STATE (hubLaneBase n)) == 8
  (((h.put (R.HTW_LOOP_END_A l) (h.laneUp l)).put (R.HTW_LOOP_END_B l) (h.laneUp (64 + l))).put (R.HTW_LOOP_RET l)
    (retired l && retired (64 + l)))

/-- The lanes of the hub as the lane functions find them. -/
def H.laneIO (h : H) : LaneIO := ⟨h.regs, h.lanes, []⟩

/-- The hub number adopted from the first training that passes the identity check of a Mainline lane (R291). -/
def H.adopt (h : H) (n : Nat) (tr : Training) : H :=
  let b := hubLaneBase n
  if n < 128 || h.on R.HSY_ID_HUB_VALID || h.laneIO.st b ≠ 4 || h.laneIO.rd (R.LNS_CTL_LOOP b) ≠ 0 then h else
  match readTraining tr with
  | some t =>
    if t.compl == h.laneIO.on (R.LNS_STATE_RX_INV b) && (h.laneKind n).accept t.who && decide (t.who.link < 48) then
      (h.wr R.HSY_ID_HUB t.who.link).wr R.HSY_ID_HUB_VALID 1
    else h
  | none => h

/-- What lanes send after an event, where it has changed (R289). -/
def H.showLanes (h : H) (before : H) (ns : List Nat) : H :=
  ns.foldl (fun (h : H) n =>
    let l := h.laneIO.line (h.laneKind n)
    if before.laneIO.line (before.laneKind n) = l then h else h.emit (.lane n l.1 l.2)) h

/-- A lane function run on a hub lane, its causes raised. -/
def H.onLane (h : H) (x : HubAt) (n : Nat) (f : LaneIO → LaneIO) : H :=
  let io := f h.laneIO
  let w := io.raised.foldl (fun (h : H) e => h.laneCause x ((e.1 - 0x40011000) / 0x40) e.2) { h with regs := io.regs, lanes := io.lanes }
  let w := w.showLanes h (if n < 128 then [n] else [128, 129, 130, 131])
  if n < 128 then w.showEnds (n % 64) else w

/-- Training received on a hub lane (R289, R291): the hub number is adopted in the same handshake, and the lanes send it. -/
def H.trainingRx (h : H) (x : HubAt) (n : Nat) (tr : Training) : H :=
  ((h.adopt n tr).onLane x n (fun io => io.training (h.laneKind n) tr)).showLanes h
    (if h.on R.HSY_ID_HUB_VALID then [] else [128, 129, 130, 131].filter (fun m => m != n))

/-- What the hub's outputs put on its lines (R286 to R288). -/
def H.putLines (h : H) (x : HubAt) : H :=
  let items := h.serial.waiting h.out
  if items.isEmpty then { h with serial := { h.serial with seen := h.out.length } } else
  let s := h.draw x
  let was := h.serial.tseq
  let v := items.foldl (fun (v : H) i =>
    let d := v.draw x
    { d.2 with serial := d.2.serial.put h.laneIO h.laneKind was s.1 d.1 i }) s.2
  { v with serial := { v.serial with seen := h.out.length } }

/-- The time of an offset of the local departure in ns. -/
def H.ns (h : H) (ofs : Nat) : Nat := h.dn * 1000 + ofs / 16

/-- Whether a received frame's check is spoiled by an injection on its lane (R304). -/
def H.spoiled (h : H) (x : HubAt) (n : Nat) : Bool × H :=
  let r := h.laneIO.injected (hubLaneBase n)
  if r.1 then
    let d := h.draw x
    (true, d.2.onLane x n (fun io => (io.injected (hubLaneBase n)).2.checkError (hubLaneBase n) (h.ns (d.1 % 16000))))
  else (false, h)

end Sys2Proof.Machine
end

