-- ==== Sys2Proof/Machine/HubTrack.lean ====
section
/-! DEFINITION. Orders down and reports up through a hub: the grid, the launch, loss and avalanche, notices (R138, R142, R145, R308,
R309, R310, R314, R316, R324, R325, R329 to R335, R340, R349 to R352, R355, R361, R363 to R365). -/
namespace Sys2Proof.Machine

/-- The mean of measured values, rounded half to even. -/
def meanInt (l : List Int) : Int := if l = [] then 0 else rdiv (l.foldl (fun (s : Int) x => s + x) 0) l.length

/-- L and TW_OFS for a DN (R355): those of the latest waiting HUB_SET whose EFF_DN it has reached, else those in force. -/
def H.lead (h : H) (dn : Nat) : Option (Nat × Nat) :=
  match (h.set.filter (fun s => decide (dnDiff dn s.effDn ≥ 0))).getLast? with
  | some s => some (s.lead, s.twOfs)
  | none => if h.on R.HTW_SET_VALID then some (h.rd R.HTW_SET_LEAD, h.rd R.HTW_SET_TW_OFS) else none

/-- The hub time of a boundary of the grid. -/
def H.timeOf (h : H) (dn : Nat) : Nat := enc 64 ((h.t : Int) + dnDiff dn h.dn * 16000)

/-- D_u of a unit and whether it is valid. -/
def H.du (h : H) (unitB : Bool) : Option Nat :=
  if unitB then (if h.on R.HDP_DLY_B_VALID then some (h.rd R.HDP_DLY_B_DLY) else none)
  else (if h.on R.HDP_DLY_A_VALID then some (h.rd R.HDP_DLY_A_DLY) else none)

/-- The reference unit after an ORDER frame that has passed its check (R349). -/
def H.refer (h : H) (f : OrderFrame) : H :=
  let now := b2n f.flags.unitB
  if f.flags.act then
    let moved := h.any && h.rd R.HTW_STATE_REF != now
    { h.wr R.HTW_STATE_REF now with any := true, act := true, slew := h.slew || moved }
  else if h.any then h
  else { h.wr R.HTW_STATE_REF now with any := true }

/-- The estimate that an ORDER frame of the reference unit gives (R350, R351): the first one with D_u valid is a step also where the
reference unit has just changed (log entry 163). -/
def H.estimate (h : H) (arr : Nat) (f : OrderFrame) : H :=
  if b2n f.flags.unitB ≠ h.rd R.HTW_STATE_REF then h else
  match h.lead f.dn with
  | none => h
  | some (lead, _) =>
    let du := h.du f.flags.unitB
    let b := enc 64 ((arr : Int) - (du.getD 0 : Nat) - f.residM)
    let bd := dnAdd f.dn (-(lead : Int))
    let h := h.wr R.HDP_GRID_STATE 1
    if !h.had then
      let k := (tsDiff arr b / 16000).toNat
      { h with dn := dnAdd bd k, t := (b + 16000 * k) % 2 ^ 64, had := true, hadDu := du.isSome, err := 0, step := none }.wr
        R.HDP_GRID_ERR 0
    else
      let e := tsDiff b (h.timeOf bd)
      let h := { h with err := e, slew := h.slew && !(decide (-1 ≤ e) && decide (e ≤ 1)) }.wr R.HDP_GRID_ERR (enc 16 (satS 16 e))
      if du.isSome && !h.hadDu then { h with t := enc 64 ((h.t : Int) + e), err := 0, hadDu := true, step := none }
      else if !h.slew && e.natAbs > h.rd R.HDP_CTL_GRID_STEP && h.step.isNone then
        { h with step := some (dnAdd bd 1, (b + 16000) % 2 ^ 64) }
      else h

/-- An entry put into a loop's queue, or dropped (R340). -/
def H.enqueue (h : H) (x : HubAt) (l : Nat) (m : List Nat) : H :=
  if l ≥ 64 then h
  else if (h.loop l).queue.length ≥ 4 then (h.inc R.HTW_CNT_C_QDROP_CNT).raiseLoop x HC.QDROP l
  else h.onLoop l (fun p => { p with queue := p.queue ++ [m] })

/-- A management entry waits for room and is never dropped (R361). -/
def H.manage (h : H) (l : Nat) (m : List Nat) : H :=
  h.onLoop l (fun p => if p.queue.length < 4 && p.wait == [] then { p with queue := p.queue ++ [m] } else { p with wait := p.wait ++ [m] })

/-- A HUB_SET received (R355). -/
def H.hubSet (h : H) (x : HubAt) (unitB : Bool) (s : HubSet) : H :=
  if b2n unitB ≠ h.rd R.HTW_STATE_REF then h
  else if 2 ≤ s.lead && s.lead ≤ 8 && 1 ≤ s.twOfs && s.twOfs ≤ 4095 && s.sizes.all (fun n => decide (n ≤ 8)) then { h with set := h.set ++ [s] }
  else h.raise x HC.SET_BAD []

/-- A DLY_ECHO received: D_u (R352). -/
def H.echo (h : H) (unitB : Bool) (t1 t2 t3 t4 : Nat) : H :=
  let d := rdiv (tsDiff t4 t1 - tsDiff t3 t2) 2
  let old := if unitB then h.dly.2 else h.dly.1
  let new := { old with d := (d :: old.d).take 8, pend := 0 }
  let h := { h with dly := if unitB then (h.dly.1, new) else (new, h.dly.2) }
  let m := (satU 24 (meanInt new.d)).toNat
  if unitB then (h.wr R.HDP_DLY_B_DLY m).wr R.HDP_DLY_B_VALID 1 else (h.wr R.HDP_DLY_A_DLY m).wr R.HDP_DLY_A_VALID 1

/-- What the hub checks its image against (R550, R553). -/
def H.verifier (h : H) : Verifier :=
  ⟨0x7300, h.rd R.HSY_UNIT_L_UNIT_LO + 2 ^ 32 * h.rd R.HSY_UNIT_H_UNIT_HI, h.sys.fuse.vendor, false, 0, h.rd R.HSY_ARB_ARB, true⟩

/-- A part of the image received by the ROM (R567): a whole image that passes R553 is loaded and entered (R552,
R578), and one that fails is fetched anew. -/
def H.fetched (h : H) (o : List Nat) : H :=
  match h.fetch with
  | none => h
  | some at_ =>
    if o.headD 0 ≠ 0x21 || o.getD 4 0 ≠ 5 || o.getD 5 0 ≠ 0 || ofBytes ((o.drop 8).take 4) ≠ at_ + 52 then h else
    let img := Flash.program h.img at_ ((o.drop 12).take 52)
    let next := at_ + 52
    let size := if next < 4096 then 4096 else min 200704 (4096 + Flash.num img 24 4)
    if next < size then { h with img := img, fetch := some next, again := 0 }
    else if imageCheck h.verifier img 0 200704 = 0 then
      let load := Flash.num img 28 4
      let body := Flash.bytes img 4096 (Flash.num img 24 4)
      let h := if load + body.length ≤ 0x40000
        then { h with mem := h.mem.writeBytes load body, memh := MemIO.written h.memh load body.length } else h
      ({ h with img := img, fetch := none, again := 0 }.wr R.HSY_VERSION_VERSION (Flash.num img 16 4)).emit
        (.enter 0 (load + Flash.num img 32 4))
    else { h with img := [], fetch := some 0, again := 0 }

/-- The ROM's next request for its image to the reference unit, asked again after 8 departures (R567, log entry 62). -/
def H.fetchNext (h : H) : H :=
  match h.fetch with
  | none => h
  | some at_ =>
    if !h.any then h
    else if h.again > 0 then { h with again := h.again - 1 }
    else
      let u := h.rd R.HTW_STATE_REF
      let o := [0x20, at_ / 52 % 256] ++ toBytes 2 (u * 32768) ++ [5, 52, 0, 0] ++ toBytes 4 at_
      { h with again := 8 }.manageUnit u o

/-- A mailbox entry for the management core (R353, R366, R560, R567): a reserved MTYPE is ignored, and a challenge acts with its own
command. -/
def H.manageRx (h : H) (x : HubAt) (arr : Nat) (unitB : Bool) (o : List Nat) : H :=
  if isMsg o 0x84 then h.hubSet x unitB (readHubSet o)
  else if isMsg o 0x87 then h.echo unitB (le o 8 8) (le o 16 8) (le o 24 8) arr
  else if isMsg o 0x8A then { h with mgmt := h.mgmt ++ [(unitB, readRegReq o)] }
  else if isMsg o 0x21 then h.fetched o
  else h

/-- The mailbox entries of an ORDER frame, taken once per unit and DN (R330, R340, R353). -/
def H.entries (h : H) (x : HubAt) (arr : Nat) (f : OrderFrame) : H :=
  let u := b2n f.flags.unitB
  let seen := Tbl.get (α := List Nat) h.taken u []
  if seen.contains f.dn then h else
  let h := { h with taken := h.taken.set u ((f.dn :: seen).take 16) }
  f.entries.foldl (fun (h : H) e => if e.hubMgt then h.manageRx x arr f.flags.unitB e.mbx else h.enqueue x e.loop e.mbx) h

/-- A TIME frame of the reference unit (R46, R47, R331). -/
def H.timeRx (h : H) (b : List Nat) : H :=
  if h.any && b2n (readFlags (octet b 1)).unitB == h.rd R.HTW_STATE_REF then { h with time := some (le b 2 4, le b 7 8) } else h

/-- A frame check of a Mainline lane that fails is a check error (R300). -/
def H.checkFails (h : H) (x : HubAt) (n : Nat) : H :=
  let d := h.draw x
  d.2.onLane x n (fun io => io.checkError (hubLaneBase n) (h.ns (d.1 % 16000)))

/-- What stands on a Mainline lane's blocks is received: its invalid sync headers counted (R289, R301). A lane in a near-end loopback
receives nothing but what it sent itself (R298). -/
def H.hears (h : H) (x : HubAt) (n : Nat) (blocks : List Block) : Bool × H :=
  if h.laneIO.looped (hubLaneBase n) && !h.out.contains (.mainline n blocks) then (false, h)
  else
    let h := h.onLane x n (fun io => io.headerErrors (hubLaneBase n) (blocks.map (fun b => b.1)))
    (h.laneUp n, h)

/-- Whether a frame for a DN wins over the one kept: only in the same handshake, ACT set first, then the lower hub lane (R330, R334). -/
def HeldOrder.yields (old : HeldOrder) (done lane : Nat) (f : OrderFrame) : Bool :=
  old.done == done &&
    (if old.f.flags.unitB != f.flags.unitB && old.f.flags.act != f.flags.act then f.flags.act else decide (lane < old.lane))

/-- An ORDER frame (R330, R350): START arrived at `arr` and the check completed at `done`, in hub time. -/
def H.order (h : H) (x : HubAt) (lane arr done : Nat) (f : OrderFrame) : H :=
  let h := (({ h with got := true }).refer f).estimate arr f
  let h := h.entries x arr f
  let past := match h.last with
    | some d => decide (dnDiff f.dn d ≤ 0)
    | none => false
  let keep := { h with orders := h.orders.set f.dn ⟨done, lane, f⟩ }
  if past then h.inc R.HTW_CNT_B_DUP
  else match Tbl.find? h.orders f.dn with
    | some old => (if old.yields done lane f then keep else h).inc R.HTW_CNT_B_DUP
    | none => keep

/-- The blocks of a Mainline frame received (R326, R328): byte 0 of a frame that passes its check says what it is. -/
def H.orderRx (h : H) (x : HubAt) (lane arr done : Nat) (blocks : List Block) : H :=
  if lane < 128 || lane ≥ 132 then h else
  let r := h.hears x lane blocks
  let h := r.2
  if !r.1 then h else
  let sp := h.spoiled x lane
  match sp.1, readBlocks blocks with
  | true, _ => sp.2
  | false, none => sp.2.checkFails x lane
  | false, some b =>
    if isMsg b 1 then sp.2.order x lane arr done (readOrder b) else if isMsg b 3 then sp.2.timeRx b else sp.2

/-- A HUB_SET comes into force (R355): the lanes of a loop without cells are switched off. -/
def H.applySet (h : H) (x : HubAt) (s : HubSet) : H :=
  let h := ((((h.wr R.HTW_SET_LEAD s.lead).wr R.HTW_SET_TW_OFS s.twOfs).wr R.HTW_SET_SEQ s.seq).wr
    R.HTW_SET_VALID 1).wr R.HTW_SET_DN_EFF_DN s.effDn
  (List.range 64).foldl (fun (h : H) l =>
    let n := s.sizes.getD l 0
    let h := h.wr (R.HTW_LOOP_SIZE l) n
    if n ≠ 0 then h else
    let off := fun (h : H) (n : Nat) => if h.laneEn n then h.onLane x n (fun io => io.enWrite (hubLaneBase n) false) else h
    off (off h l) (64 + l)) h

/-- The HUB_SETs whose EFF_DN a DN has reached come into force, in the order they came (R355). -/
def H.promote (h : H) (x : HubAt) (dn : Nat) : H :=
  (h.set.filter (fun s => decide (dnDiff dn s.effDn ≥ 0))).foldl (fun (h : H) s => h.applySet x s)
    { h with set := h.set.filter (fun s => decide (dnDiff dn s.effDn < 0)) }

/-- The next mailbox of a loop's frames, FREE when none waits, and the loop without it (R335, R340). -/
def HubLoop.pop (p : HubLoop) : List Nat × HubLoop :=
  match p.queue with
  | [] => (zeros 64, p)
  | m :: rest => (m, { p with queue := rest ++ p.wait.take 1, wait := p.wait.drop 1 })

/-- The order fields of a stomped frame: no ORDER frame gives them, and every receiver discards the frame (R138, R316). -/
def noOrder (h : H) : OrderFrame :=
  ⟨⟨false, false, false, false, h.on R.HTW_STATE_REF⟩, 0, 0, 0, 0, 0, 0, 0, [], [], []⟩

/-- The frame launched at an end of a loop for a DN (R309, R316, R329). -/
def H.frame (h : H) (l dn lead tw : Nat) (endB : Bool) (mbx : List Nat) (o : Option OrderFrame) : TwFrame :=
  let q := tw * 64 / 16000
  let f := o.getD (noOrder h)
  { hop := 0, endB := endB, dn := dn, resid := 16000 - tw * 64 % 16000, ahead := (lead + 255 - q) % 256,
    loopCid := (h.rd R.HSY_ID_HUB * 64 + l) * 8 + (h.rd (R.HTW_LOOP_SIZE l) - 1),
    tcmd := f.tcmd, tcmdDn := f.tcmdDn, cstat := zeros 8, mbx := mbx,
    avl := h.avl || f.flags.avl, avClr := f.flags.avClr, held := f.flags.held, act := f.flags.act, unitB := f.flags.unitB,
    states := f.states.getD l 0, grants := f.grants.getD l 0, trimCid := f.trimCid, trimDuty := f.trimDuty, rpts := [] }

/-- The frames of a DN launched at every end in service; whether they are stomped (R138, R142, R145, R316, R340, R365). -/
def H.launch (h : H) (x : HubAt) (dn lead tw : Nat) : Bool × H :=
  let h := h.promote x dn
  let due := (h.timeOf (dnAdd dn (-(lead : Int))) + tw * 64 + 88 * 64 - 320) % 2 ^ 64
  let o := match Tbl.find? h.orders dn with
    | some k => if tsDiff k.done due ≤ 0 then some k.f else none
    | none => none
  let stomp := o.isNone && !h.lost
  let h := match o with
    | some f => h.inc (if f.flags.unitB then R.HTW_CNT_A_USED_B else R.HTW_CNT_A_USED_A)
    | none => h
  let clears := match o with
    | some f => f.flags.avClr && !f.flags.avl
    | none => false
  let h := if clears then { h.wr R.HTW_STATE_AVL_OWN 0 with lost := false, avl := false } else h
  let h := h.put R.HTW_STATE_AVL (h.avl || (match o with
    | some f => f.flags.avl
    | none => false))
  let h := (List.range 64).foldl (fun (h : H) l =>
    let up := [l, 64 + l].filter h.laneUp
    if h.rd (R.HTW_LOOP_SIZE l) = 0 || up.isEmpty then h else
    let m := (h.loop l).pop
    let h := h.onLoop l (fun _ => m.2)
    up.foldl (fun (h : H) n => h.emit (.trackway n (sealTw (sendTw (h.frame l dn lead tw (decide (64 ≤ n)) m.1 o)) stomp))) h) h
  let h := if stomp then (h.inc R.HTW_CNT_B_STOMP_CNT).raise x HC.STOMP [] else h
  (stomp, { h with last := some dn, orders := h.orders.filter (fun e => decide (dnDiff e.1 dn > 0)) })

/-- The DN to launch next, when its character 88 has left in the interval that ends. -/
def H.nextLaunch (h : H) : Option (Nat × Nat × Nat) :=
  let fits := fun (dn : Nat) => match h.lead dn with
    | some (lead, tw) =>
      if dnDiff (dnAdd dn (((tw * 64 + 88 * 64) / 16000 : Nat) - (lead : Int))) h.dn ≤ 0 then some (dn, lead, tw) else none
    | none => none
  match h.last with
  | some d => fits ((d + 1) % 2 ^ 32)
  | none =>
    if !h.had then none else
    match h.set with
    | s :: _ =>
      let d := dnAdd h.dn ((s.lead : Int) - ((s.twOfs * 64 + 88 * 64) / 16000 : Nat))
      if dnDiff d s.effDn ≥ 0 then fits d else none
    | [] => none

/-- The launches of an interval; whether one of them was stomped. -/
def H.launches (h : H) (x : HubAt) : Nat → Bool × H
  | 0 => (false, h)
  | n + 1 =>
    match h.nextLaunch with
    | none => (false, h)
    | some (dn, lead, tw) =>
      let r := h.launch x dn lead tw
      let s := H.launches r.2 x n
      (r.1 || s.1, s.2)

/-- The loss of both units (R138, R363), raised once in a run of silent intervals. -/
def H.orderLoss (h : H) (x : HubAt) : H :=
  if h.loss < 4 || h.told then h else { h with lost := true, told := true }.raise x HC.BOTH_LOSS []

/-- A control block received on a Mainline lane (R142, R327): AVALANCHE with every byte 0x3C. -/
def H.avalancheRx (h : H) (lane : Nat) (b : Block) : H :=
  if h.laneUp lane && !h.laneIO.looped (hubLaneBase lane) && b == avalancheBlock then { h.blockAll with avl := true }.wr R.HTW_STATE_AVL 1 else h

/-- A position not seen for 16 departures becomes unreachable (R325): the boundary that ends the departure of its latest sighting is the
first one counted since. -/
def H.unreach (h : H) (l p : Nat) : H :=
  if p ≥ 8 || p ≥ h.rd (R.HTW_LOOP_SIZE l) || !bitAt (h.loop l).ever p || (h.loop l).unseen.get p 0 < 17 ||
    bitAt (h.rd (R.HTW_LOOP_UNREACH l)) p then h
  else
    (h.wr (R.HTW_LOOP_UNREACH l) (setBit (h.rd (R.HTW_LOOP_UNREACH l)) p)).toUnits 0
      (noticeBytes 1 h.dn ((h.rd R.HSY_ID_HUB * 64 + l) * 8 + p))

/-- A departure counted towards the sighting of a loop's positions (R325, R370). -/
def H.countUnseen (h : H) (l : Nat) : H :=
  (List.range (h.rd (R.HTW_LOOP_SIZE l))).foldl (fun (h : H) p =>
    if !bitAt (h.loop l).ever p then h else
    let n := min 255 ((h.loop l).unseen.get p 0 + 1)
    let h := h.onLoop l (fun q => { q with unseen := q.unseen.set p n })
    if n < 17 then h
    else (h.wr (R.HTW_LOOP_SEEN l) (clrBit (h.rd (R.HTW_LOOP_SEEN l)) p)).unreach l p) h

/-- A DLY_PING to a unit (R352). -/
def H.ping (h : H) (x : HubAt) (unitB : Bool) : H :=
  let old := if unitB then h.dly.2 else h.dly.1
  let late := decide (old.pend ≥ 4)
  let new := { old with pend := (if late then 0 else old.pend) + 1, seq := (old.seq + 1) % 256 }
  let h := { h with dly := if unitB then (h.dly.1, new) else (new, h.dly.2) }
  let h := if late then h.raise x HC.DLY_TMO [] else h
  let d := h.draw x
  let t1 := (d.2.t + d.1 % 16000) % 2 ^ 64
  d.2.manageUnit (b2n unitB) ([0x86, old.seq, 0, 0, 0, 0, 0, 0] ++ toBytes 8 t1)

/-- The loops that have cells. -/
def H.configured (h : H) : List Nat := (List.range 64).filter (fun l => h.rd (R.HTW_LOOP_SIZE l) != 0)

/-- A PATH sent to both units (R354, R356). -/
def H.sendPath (h : H) : H :=
  let dl := fun (b : Bool) => (h.du b).getD 0xFFFFFFFF
  let measured := fun (l : Nat) => h.rd (R.HDP_LOOP_T_T_AB l) != 0 || h.rd (R.HDP_LOOP_T_T_BA l) != 0
  let nominal := h.configured.any (fun l => (List.range 8).any (fun p => (h.cellOfs l p).nom))
  let o := [0x85, h.seq] ++ toBytes 4 h.dn ++ [0, 0] ++ toBytes 4 (dl false) ++ toBytes 4 (dl true) ++
    toBytes 2 (h.rd R.HDP_DLMAX_DL_MAX) ++ [h.rd R.HDP_DLMAX_LOOP, b2n (h.configured.all measured) + 2 * b2n nominal]
  ({ h with seq := (h.seq + 1) % 256 }.manageUnit 0 o).manageUnit 1 o

/-- The ends of the loops compared with those of the boundary before: a change asks for a measurement and sends a PATH (R356, R361). -/
def H.service (h : H) : H :=
  let now := fun (h : H) l => b2n (h.laneUp l) + 2 * b2n (h.laneUp (64 + l))
  let moved := (List.range 64).filter (fun l => now h l != (h.loop l).up)
  let h := moved.foldl (fun (h : H) l => h.onLoop l (fun p => { p with up := now h l, due := true })) h
  if moved.isEmpty then h else h.sendPath

/-- The periodic measurement (R361). -/
def H.periodic (h : H) : H :=
  if !h.on R.HDP_CTL_MEAS_EN || dnDiff h.dn h.period < ((h.rd R.HDP_CTL_PD_PER * 1000 : Nat) : Int) then h else
  h.configured.foldl (fun (h : H) l => h.onLoop l (fun p => { p with due := true })) { h with period := h.dn }

/-- The grid moved to its next boundary, by at most 1/16 ns towards the estimates, or stepped (R350). -/
def H.advance (h : H) (x : HubAt) : H :=
  let c := clamp (-1) 1 h.err
  let next := { h with dn := (h.dn + 1) % 2 ^ 32, t := enc 64 ((h.t : Int) + 16000 + c), err := h.err - c }
  match h.step with
  | some (d, at_) =>
    if dnDiff next.dn d ≥ 0 then
      { next with t := enc 64 ((at_ : Int) + 16000 * dnDiff next.dn d), err := 0, step := none }.raise x HC.GRID_STEP []
    else next
  | none => next

/-- An error in an HTW or HDP table, by its symbols (R367, R370, R452, R454): a corrected one is scrubbed, an uncorrectable one raises
MEM_UNC and UNCORR. -/
def H.tableError (h : H) (x : HubAt) (symbols : Nat) : H :=
  let h := { h with regs := (MemIO.tableError ⟨h.regs, h.memh, [], 0⟩ 0x40000000 symbols).regs }
  if symbols ≥ 2 then (h.raise x HC.MEM_UNC []).raise x HC.UNCORR [(8, 8, 0)] else h.inc R.HSY_SCRUB_SCRUB_CNT

/-- The check of the tables that a boundary reads, as an injection makes it find them (R455). -/
def H.tableCheck (h : H) (x : HubAt) : H :=
  let r := MemIO.inject ⟨h.regs, h.memh, [], 0⟩ 0x40000000 1
  match r.1 with
  | some n => { h with regs := r.2.regs }.tableError x n
  | none => h

/-- A boundary of the hub's grid (R138, R316, R325, R350, R351, R352, R356, R361). -/
def H.boundary (h : H) (x : HubAt) : H :=
  let r := if h.blockHeld 2 then (false, h) else h.launches x 8
  let h := r.2
  let loss := if !h.any then 0 else if h.got && !r.1 then 0 else min 7 (h.loss + 1)
  let h := ({ h with loss := loss, got := false, told := h.told && decide (loss > 0) }).wr R.HTW_STATE_LOSS loss
  let h : H := if loss ≥ 4 && h.rd R.HDP_GRID_STATE = 1 then { h.wr R.HDP_GRID_STATE 2 with err := 0, step := none } else h
  let h := (h.orderLoss x).advance x
  let h := h.configured.foldl (fun (h : H) l => h.countUnseen l) h
  let h := if h.dn % 1024 = 512 then (h.ping x false).ping x true else h
  let h := (h.service).periodic
  let h := if h.blockHeld 0 then h else h.fetchNext
  { h with regs := ((List.range 132).foldl (fun (io : LaneIO) n => io.prbsTime (hubLaneBase n)) h.laneIO).regs }.tableCheck x

/-- A position seen in a good frame (R315, R325, R361). -/
def H.sight (h : H) (l p cs : Nat) : H :=
  if !bitAt cs 0 || p ≥ h.rd (R.HTW_LOOP_SIZE l) then h else
  let q := h.loop l
  let due := !bitAt q.ever p || q.cstat.get p 0 / 4 % 4 != cs / 4 % 4
  let h := h.onLoop l (fun q => { q with
    ever := setBit q.ever p, unseen := q.unseen.set p 0, cstat := q.cstat.set p cs, due := q.due || due })
  let h := h.wr (R.HTW_LOOP_SEEN l) (setBit (h.rd (R.HTW_LOOP_SEEN l)) p)
  if !bitAt (h.rd (R.HTW_LOOP_UNREACH l)) p then h else
  (h.wr (R.HTW_LOOP_UNREACH l) (clrBit (h.rd (R.HTW_LOOP_UNREACH l)) p)).toUnits 0 (noticeBytes 2 h.dn ((h.rd R.HSY_ID_HUB * 64 + l) * 8 + p))

/-- The reports that a good frame yields (R324). -/
def H.reports (h : H) (l : Nat) (f : TwFrame) : List (Nat × List Nat) :=
  (List.range 8).filterMap (fun p =>
    match f.rpts.find? (fun e => e.1 == p) with
    | some (_, b) =>
      if bitAt (f.cstat.getD p 0) 1 && Tbl.find? (h.loop l).sample p != some (le b 0 4) then some (p, b) else none
    | none => none)

/-- A mailbox that arrives at an end (R332, R335, R354, R361): a request that comes back is dropped. -/
def H.mailUp (h : H) (l : Nat) (laneB : Bool) (f : TwFrame) : H :=
  let o := f.mbx
  let m := octet o 0
  if m % 2 = 1 && m < 0x80 then h.toUnits (l % 2) (mailBytes l false laneB f.dn o)
  else if m = 0x83 then
    H.onPath { h with skews := h.skews.set (l * 8 + octet o 2 % 8) (sx 16 (le o 4 2), le o 6 2, le o 8 2) } l (fun p => { p with meas := p.meas.map (fun m =>
      if m.seq = octet o 1 then { m with resp := m.resp.set (octet o 2 % 8) (sx 16 (le o 4 2), le o 6 2, le o 8 2) } else m) })
  else h

/-- The transit of a frame that has arrived whole, in 1/16 ns from its launch (R359, R360): round trips are kept of one wrapping cell. -/
def H.transit (h : H) (l : Nat) (laneB : Bool) (f : TwFrame) (t : Nat) : H :=
  h.onPath l (fun p =>
    let w := (f.hop + 1) / 2
    let more := fun (old : List Nat) (wOld : Nat) => if w = wOld then (t :: old).take 64 else [t]
    if f.endB != laneB then
      (if laneB then { p with ab := (t :: p.ab).take 64 } else { p with ba := (t :: p.ba).take 64 })
    else if laneB then { p with eeB := more p.eeB p.wB, wB := w }
    else { p with eeA := more p.eeA p.wA, wA := w })

/-- A good Trackway frame at a loop end (R324, R325, R332, R359, R361). -/
def H.trackwayGood (h : H) (lane transit : Nat) (f : TwFrame) : H :=
  let l := lane % 64
  let laneB := decide (64 ≤ lane)
  let h := (List.range 8).foldl (fun (h : H) p => h.sight l p (f.cstat.getD p 0)) h
  let rs := h.reports l f
  let h := h.onLoop l (fun q => { q with sample := rs.foldl (fun (t : Tbl Nat) e => t.set e.1 (le e.2 0 4)) q.sample })
  let h := if rs.isEmpty then h else h.toUnits (l % 2) (loopBytes l laneB f.dn rs)
  (h.mailUp l laneB f).transit l laneB f transit

/-- A Trackway frame that arrives at a loop end (R300, R307, R310, R314): its code errors and, where its check fails without a stomp, its
check error count on the lane. A lane that is not UP counts its code errors (R301), and one in a near-end loopback receives its own frames
only (R298). -/
def H.trackwayRx (h : H) (x : HubAt) (lane transit : Nat) (chars : List Nat) : H :=
  if lane ≥ 128 || (h.laneIO.looped (hubLaneBase lane) && !h.out.contains (.trackway lane chars)) then h else
  let h := h.onLane x lane (fun io => io.frameErrors (hubLaneBase lane) h.dn (twErrors chars))
  if !h.laneUp lane then h else
  let k := twCheck chars
  if k = .cut then h else
  let sp := h.spoiled x lane
  match sp.1, k with
  | true, _ => sp.2
  | false, .good => sp.2.trackwayGood lane transit (readTw chars)
  | false, .bad => sp.2.checkFails x lane
  | false, _ => sp.2

/-- Trackway frames whose checks complete in one hub handshake, at an end of a loop and, where given, at its other end: that of the lower
lane comes first (R324, R334). -/
def H.trackwayRx2 (h : H) (x : HubAt) (lane transit : Nat) (chars : List Nat) (same : Option (Nat × List Nat)) : H :=
  match same with
  | none => h.trackwayRx x lane transit chars
  | some (tr, cs) =>
    if lane < 64 then (h.trackwayRx x lane transit chars).trackwayRx x (lane + 64) tr cs
    else (h.trackwayRx x (lane - 64) tr cs).trackwayRx x lane transit chars

/-- A hub-to-unit frame not started in time (R332). -/
def H.frameDrop (h : H) (x : HubAt) (l : Nat) : H := (h.inc R.HTW_CNT_C_FDROP_CNT).raiseLoop x HC.FDROP l

end Sys2Proof.Machine
end

