-- ==== Sys2Proof/Machine/HubPath.lean ====
section
/-! DEFINITION. The path measurement of a hub (R358 to R362). -/
namespace Sys2Proof.Machine

/-- The mean of transits, 0 without one. -/
def meanNat (l : List Nat) : Nat := (meanInt (l.map (fun (n : Nat) => (n : Int)))).toNat

/-- A measurement started (R361). -/
def H.measure (h : H) (l : Nat) : H :=
  if l ≥ 64 || h.rd (R.HTW_LOOP_SIZE l) = 0 || !(h.loop l).due || (h.path l).meas.isSome then h else
  let s := h.seq
  let h := { h with seq := (h.seq + 1) % 256 }.onLoop l (fun p => { p with due := false })
  (h.onPath l (fun p => { p with meas := some (Meas.mk s h.dn []) })).manage l (mailbox [0x82, s])

/-- Whether the transits of both directions have been measured: 64 frames each (R359). -/
def Paths.full (p : Paths) : Bool := decide (p.ab.length = 64) && decide (p.ba.length = 64)

/-- Whether a measurement has all its answers, and its transits where both ends are UP, or 64 departures have passed (R359, R361). -/
def H.measured (h : H) (l : Nat) (m : Meas) : Bool :=
  decide (dnDiff h.dn m.dn ≥ 64) || ((!(h.laneUp l && h.laneUp (64 + l)) || (h.path l).full) &&
    (List.range 8).all (fun p => !bitAt (h.rd (R.HTW_LOOP_SEEN l)) p || (Tbl.find? m.resp p).isSome))

/-- The answer of a position that has measured Δ. -/
def Meas.answer (m : Meas) (p : Nat) : Option (Int × Nat × Nat) :=
  match Tbl.find? m.resp p with
  | some r => if r.1 = -32768 then none else some r
  | none => none

/-- TOFS_U and TOFS_D of a position with both ends in service (R359), from four times a and b. -/
def twoEnded (tab tba : Nat) (r : Int × Nat × Nat) : Int × Int :=
  let a4 : Int := (tab : Int) + r.2.2 + tba + r.2.1 - 2 * r.1
  (-(rdiv a4 4), -(rdiv (a4 + 4 * r.1) 4))

/-- Whether a position's two passes disagree by more than 2 ns (R359). -/
def inconsistent (tab tba : Nat) (r : Int × Nat × Nat) : Bool :=
  decide ((((tab : Int) + r.2.2) - ((tba : Int) + r.2.1)).natAbs > 32)

/-- A loop measured (R359): the offsets of the positions answered; none without 64 transits of each direction (log entry 164). -/
def H.offsets2 (h : H) (x : HubAt) (l : Nat) (m : Meas) : Option (List (Option Int × Option Int)) × H :=
  let n := h.rd (R.HTW_LOOP_SIZE l)
  if !(h.path l).full then (some (List.replicate n (none, none)), h) else
  let tab := meanNat (h.path l).ab
  let tba := meanNat (h.path l).ba
  let h := (h.wr (R.HDP_LOOP_T_T_AB l) (min 65535 tab)).wr (R.HDP_LOOP_T_T_BA l) (min 65535 tba)
  if (List.range n).any (fun p => match m.answer p with
      | some r => inconsistent tab tba r
      | none => false) then
    (none, (h.wr (R.HDP_LOOP_DL_PATH_BAD l) 1).raiseLoop x HC.PATH_BAD l)
  else
    let h := (h.wr (R.HDP_LOOP_DL_PATH_BAD l) 0).onPath l (fun p => { p with ee0A := none, ee0B := none })
    let far := (m.answer (n - 1)).map (fun r => -(twoEnded tab tba r).1)
    let near := (m.answer 0).map (fun r => -(twoEnded tab tba r).2)
    let h := match far, near with
      | some a, some b => h.wr (R.HDP_LOOP_DL_DL l) (satU 16 (max a b)).toNat
      | _, _ => h
    let list := (List.range n).map (fun p => match m.answer p with
      | some r => (some (twoEnded tab tba r).1, some (twoEnded tab tba r).2)
      | none => (none, none))
    (some list, list.zipIdx.foldl (fun (h : H) e => match e.1 with
      | (some u, some d) => { h with ofs := h.ofs.set (l * 8 + e.2) ⟨some u, some d, false, some (u, d)⟩ }
      | _ => h) h)

/-- A loop served from one end (R360): A when `endB` is false. The change of T_EE is counted at each end for one wrapping cell (log entry 91),
and without a round trip no offset changes. -/
def H.offsets1 (h : H) (l : Nat) (m : Meas) (endB : Bool) : Option (List (Option Int × Option Int)) × H :=
  let n := h.rd (R.HTW_LOOP_SIZE l)
  let p := h.path l
  if (if endB then p.eeB else p.eeA).isEmpty then (some (List.replicate n (none, none)), h) else
  let tee := meanNat (if endB then p.eeB else p.eeA)
  let w := max 1 (if endB then p.wB else p.wA)
  let ee0 : Int := match if endB then p.ee0B else p.ee0A with
    | some (w0, e) => if w0 = w then e else tee
    | none => tee
  let h := (if endB then (h.wr (R.HDP_LOOP_T_T_BA l) (min 65535 tee)).wr (R.HDP_LOOP_T_T_AB l) 0
    else (h.wr (R.HDP_LOOP_T_T_AB l) (min 65535 tee)).wr (R.HDP_LOOP_T_T_BA l) 0).onPath l
      (fun p => if endB then { p with ee0B := some (w, ee0) } else { p with ee0A := some (w, ee0) })
  let change := rdiv ((tee : Int) - ee0) 2
  let list := (List.range n).map (fun (q : Nat) =>
    let hop := if endB then n - 1 - q else q
    if hop ≥ w || (Tbl.find? m.resp q).isNone then (none, false) else
    match (h.cellOfs l q).two with
    | some t => (some ((if endB then t.2 else t.1) - change), false)
    | none => (some (-(rdiv ((tee * (hop + 1) : Nat) : Int) (2 * w))), true))
  let h := list.zipIdx.foldl (fun (h : H) (e : (Option Int × Bool) × Nat) => match e.1.1 with
    | some v =>
      let c := h.cellOfs l e.2
      { h with ofs := h.ofs.set (l * 8 + e.2) (if endB then { c with d := some v, nom := e.1.2 } else { c with u := some v, nom := e.1.2 }) }
    | none => h) h
  (some (list.map (fun e => if endB then (none, e.1) else (e.1, none))), h)

/-- DL_MAX and its loop (R359). -/
def H.showMax (h : H) : H :=
  let best := h.configured.foldl (fun (b : Nat × Nat) l =>
    if h.rd (R.HDP_LOOP_DL_DL l) > b.1 then (h.rd (R.HDP_LOOP_DL_DL l), l) else b) (0, 0)
  (h.wr R.HDP_DLMAX_DL_MAX best.1).wr R.HDP_DLMAX_LOOP best.2

/-- A measurement complete: offsets, TIME_SET and PATH (R356, R359 to R361). -/
def H.measureDone (h : H) (x : HubAt) (l : Nat) : H :=
  match (h.path l).meas with
  | none => h
  | some m =>
    if !h.measured l m then h else
    let h := (h.onPath l (fun p => { p with meas := none }))
    let a := h.laneUp l
    let b := h.laneUp (64 + l)
    if !a && !b then h.sendPath else
    let r := if a && b then h.offsets2 x l m else h.offsets1 l m b
    match r.1 with
    | none => r.2.sendPath
    | some list =>
      let s := r.2.seq
      let h := { r.2 with seq := (r.2.seq + 1) % 256 }
      let wire := fun (o : Option Int) => match o with
        | some v => enc 24 (satS 24 v)
        | none => 0x800000
      let h := h.manage l (mailbox ([0x80, s] ++ toBytes 4 ((h.dn + 16) % 2 ^ 32) ++ [0, 0] ++
        (list ++ List.replicate (8 - list.length) (none, none)).flatMap (fun (e : Option Int × Option Int) => toBytes 3 (wire e.1) ++ toBytes 3 (wire e.2))))
      h.showMax.sendPath

end Sys2Proof.Machine
end

