-- ==== Sys2Proof/Machine/HubManage.lean ====
section
/-! DEFINITION. The management core of a hub and its registers (R305, R349, R366 to R370, R452 to R458, R558 to R561, R567, R578). -/
namespace Sys2Proof.Machine

/-- The management core reset (R367, R567): its SRAM, requests and attestation are lost and the image is fetched anew. -/
def H.coreReset (h : H) : H :=
  { h.inc R.HSY_SCRUB_CORE_RST with
    mem := [], memh := { h.memh with poison := [] }, mgmt := [], att := ⟨[], none, []⟩, img := [], fetch := some 0, again := 0, beat := false }

/-- Balls that their block drives from now on (R524). -/
def H.drive (h : H) (l : List Nat) : H :=
  (h.withSys (fun s => { s with owned := s.owned ++ l.filter (fun i => !s.owned.contains i) })).showBalls h

/-- A write of BEAT to `HSY_HEART` (R367): supervision begins with it, and ALIVE leaves its fuse state (R542, log entry 174). -/
def H.heartbeat (h : H) (v : Nat) : H := if bitAt v 0 then { h with hbLost := false, beat := true }.drive [11] else h

/-- HB_MAX ms have passed without a heartbeat (R367, R368), once one has been written since the reset of the core (R542). -/
def H.heartLost (h : H) (x : HubAt) : H :=
  if !h.beat then h else
  (({ h with hbLost := true }.raise x HC.HB_LOST []).coreReset).showAlive

/-- The die temperature of the hub and its highest value since it was read (R370). -/
def H.dieTemp (h : H) (temp : Int) : H :=
  let v := satS 8 temp
  let h := h.wr R.HSY_TEMP_TEMP (enc 8 v)
  if v > sx 8 (h.rd R.HSY_TEMP_MAX) then h.wr R.HSY_TEMP_MAX (enc 8 v) else h

/-- The ALIVE output's half period has passed (R368). -/
def H.aliveToggle (h : H) : H :=
  if h.aliveStopped then h.showAlive
  else (h.put R.HSY_CTL_ALIVE (!h.on R.HSY_CTL_ALIVE)).wr R.HSY_CTL_ALIVE_RUN 1

/-- The memory of a hub run through a function, its causes raised; an uncorrectable error of the core's SRAM resets the core
(R367, R457). -/
def H.onMem (h : H) (x : HubAt) (f : MemIO → MemIO) : H :=
  let io := f ⟨h.regs, h.memh, [], 0⟩
  let cause := fun (bit : Nat) => if bit = 0 then HC.UNCORR else if bit = 1 then HC.SPARED else if bit = 2 then HC.SPARE_OUT else HC.INJ_REJ
  let h := io.raised.foldl (fun (h : H) e => h.raise x (cause e.1) [(8, 8, e.2)]) { h with regs := io.regs, memh := io.hid, mem := MemIO.lost h.mem h.memh io.hid }
  let h := h.wr R.HSY_SCRUB_SCRUB_CNT (satInc 16 (h.rd R.HSY_SCRUB_SCRUB_CNT) io.fixed)
  if io.raised.any (fun e => e.1 == 0) then h.coreReset else h

/-- The fields of a register of the hub. -/
def hubFields (addr : Nat) : List (Fld × List (Nat × Nat)) := fieldsAt hubMap 0 addr

/-- A register of the hub without read side effect (R370, R581). -/
def H.word (h : H) (addr : Nat) : Nat :=
  let w := h.regs.word (hubFields addr)
  let sel := h.rd R.HDP_SEL_CELL
  let c := h.cellOfs (sel / 8) (sel % 8)
  let tofs := fun (o : Option Int) => match o with
    | some v => enc 24 (satS 24 v) + 2 ^ 24 + 2 ^ 25 * b2n c.nom
    | none => 0
  if addr = 0x40030038 then tofs c.u
  else if addr = 0x4003003C then tofs c.d
  else if addr = 0x40030040 then
    match Tbl.find? h.skews sel with
    | some r => enc 16 r.1 + r.2.2 % 2 ^ 16 * 2 ^ 16
    | none => 0
  else if addr = 0x40000834 then MemIO.spareWord ⟨h.regs, h.memh, [], 0⟩ 0x40000000
  else w

/-- Whether an address lies in a block of the hub (R578). -/
def hubBlockAt (addr : Nat) : Bool := decide (0x40000000 ≤ addr) && decide (addr < 0x40040000)

/-- Whether the block of the hub at an address can be accessed (R576, R578). -/
def H.blockOn (h : H) (addr : Nat) : Bool := hubBlockAt addr && !h.blockHeld ((addr - 0x40000000) / 0x10000)

/-- A load of a size in bytes by the hub's core, with its read side effects (R8, R10, R453, R454, R578): the ROM is not given, and what
it reads is free. -/
def H.load (h : H) (x : HubAt) (core addr size : Nat) : H :=
  if addr + size ≤ 0x40000 then
    let bad := (MemIO.access ⟨h.regs, h.memh, [], 0⟩ 0x40000000 addr size).1
    let h := h.onMem x (fun io => (io.access 0x40000000 addr size).2)
    if bad then h.emit (.loadFault addr) else h.emit (.readData core addr (h.mem.read addr size))
  else if 0x10000000 ≤ addr && addr + size ≤ 0x10010000 then
    let d := h.draw x
    d.2.emit (.readData core addr (d.1 % 2 ^ (8 * size)))
  else if h.blockOn addr && size == 4 && addr % 4 == 0 then
    let v := h.word addr
    { h with regs := h.regs.readClear (hubFields addr) }.emit (.readData core addr v)
  else h.emit (.busError core addr)

/-- A load in whose handshake hardware updates an RC field of the register (R12). -/
def H.loadTie (h : H) (x : HubAt) (core addr size : Nat) (y : Tie) : H :=
  let h := h.load x core addr size
  { h with regs := h.regs.tie (hubFields addr) y }

/-- A store to a lane record of the hub (R289, R294, R295, R298 to R301, R304, R305). -/
def H.laneStore (h : H) (x : HubAt) (addr data : Nat) : H :=
  let n := (addr - 0x40011000) / 0x40
  let b := hubLaneBase n
  let o := (addr - 0x40011000) % 0x40
  if n ≥ 132 then h
  else if o = 0 then h.onLane x n (fun io => io.ctlWrite b data)
  else if o = 0x08 then h.onLane x n (fun io => io.eqWrite (h.laneKind n) data)
  else if o = 0x0C then h.onLane x n (fun io => io.dfeWrite (h.laneKind n) data)
  else if o = 0x10 then h.onLane x n (fun io => io.txeqWrite (h.laneKind n) data)
  else if o = 0x20 then h.onLane x n (fun io => io.prbsWrite b data)
  else if o = 0x3C then
    let h := if bitAt data 0 then h.onLane x n (fun io => io.restore b) else h
    if bitAt data 1 then h.onLane x n (fun io => io.retrainCmd b) else h
  else { h with regs := h.regs.store (hubFields addr) data }

/-- The blocks of a hub. -/
def hubBlocks : List Blk := [HB.HSY, HB.MEM, HB.HLN, HB.HTW, HB.HDP]

/-- A 32-bit store to a register of the hub (R8 to R10, R370). -/
def H.storeReg (h : H) (x : HubAt) (addr data : Nat) : H :=
  if addr = 0x40000008 then h.heartbeat data
  else if addr = 0x40000804 || addr = 0x40000808 then
    h.onMem x (fun io => io.injWrite 0x40000000 (addr == 0x40000808) 1 false data)
  else if 0x40011000 ≤ addr && addr < 0x40013100 then h.laneStore x addr data
  else
    match hubBlocks.find? (fun b => addr == b.en + 20) with
    | some b => if bitAt data 0 then h.ack b else h
    | none => { h with regs := h.regs.store (hubFields addr) data }

/-- A store by the hub's core, its size, alignment and place checked (R8, R453, R574, R578). -/
def H.store (h : H) (x : HubAt) (core addr size data : Nat) : H :=
  if h.blockOn addr && size == 4 && addr % 4 == 0 then h.storeReg x addr data
  else if addr + size ≤ 0x40000 then { h with mem := h.mem.write addr size data, memh := MemIO.written h.memh addr size }
  else h.emit (.busError core addr)

/-- A register request executed: STATUS, the values after the operation, and the hub (R354, R366). -/
def H.regExec (h : H) (x : HubAt) (q : RegReq) : (Nat × List Nat) × H :=
  let last := q.addr + 4 * (q.count - 1)
  if q.op > 1 || q.count = 0 || q.count > 12 || q.addr % 4 ≠ 0 || q.addr / 0x10000 ≠ last / 0x10000 then ((1, []), h)
  else if !h.blockOn q.addr then ((2, []), h)
  else
    (List.range q.count).foldl (fun (s : (Nat × List Nat) × H) i =>
      let a := q.addr + 4 * i
      let h := if q.op = 1 then s.2.storeReg x a (q.values.getD i 0 % 2 ^ 32) else s.2
      let v := h.word a
      let h := if q.op = 0 then { h with regs := h.regs.readClear (hubFields a) } else h
      ((0, s.1.2 ++ [v]), h)) ((0, []), h)

/-- A register request served (R366): the answer goes to the requesting unit only. -/
def H.regReq (h : H) (x : HubAt) : H :=
  match h.mgmt with
  | [] => h
  | (u, q) :: rest =>
    let r := ({ h with mgmt := rest }).regExec x q
    let o := [0x8B, q.tag, r.1.1, q.count] ++ toBytes 4 q.addr ++ r.1.2.flatMap (toBytes 4)
    r.2.manageUnit (b2n u) o

/-- The certificate of a hub (R551, R572). -/
def H.cert (h : H) : List Nat := (List.range 1332).flatMap (fun n => toBytes 4 (h.rd (R.HSY_CERT_BYTES n)))

/-- The blocks of an answer sent to a unit (R560). -/
def H.sendAnswer (h : H) (u tag : Nat) (a : List Nat) : H :=
  (List.range 157).foldl (fun (h : H) k => h.manageUnit u (answerBlock tag (u * 32768) k a)) h

/-- A challenge to the hub (R560, R561). -/
def H.challenge (h : H) (c : Challenge) : H :=
  let tag := c.tag
  let nonce := c.nonce
  let u := b2n c.unitB
  let again := match Tbl.find? h.att.done u with
    | some (t, a) => if t = tag then some a else none
    | none => none
  let running := match h.att.run with
    | some (v, t, _) => v == u && t == tag
    | none => false
  if running then h else
  match again with
  | some a => h.sendAnswer u tag a
  | none =>
    if h.att.run.isNone then { h with att := { h.att with run := some (u, tag, nonce) } }
    else { h with att := { h.att with wait := h.att.wait.set u (tag, nonce) } }

/-- A challenge in an ORDER entry with HUBMGT (R353, R560). -/
def H.challengeRx (h : H) (o : List Nat) : H := if isMsg o 0x18 then h.challenge (readChallenge o) else h

/-- The statement being signed completes (R558, R559, R561). -/
def H.statementDone (h : H) (x : HubAt) : H :=
  match h.att.run with
  | none => h
  | some (u, tag, nonce) =>
    let fwd := Flash.num h.img 64 32
    let a := attestation (hubChip x.k) 0x7300 0 (h.rd R.HSY_UNIT_L_UNIT_LO + 2 ^ 32 * h.rd R.HSY_UNIT_H_UNIT_HI) nonce
      (measurement fwd 0) fwd 0 (h.rd R.HSY_VERSION_VERSION) (h.rd R.HSY_ARB_ARB) u h.cert
    let next : Option (Nat × Nat × Nat) := match h.att.wait with
      | (w, t, n) :: _ => some (w, t, n)
      | [] => none
    ({ h with att := { h.att with done := h.att.done.set u (tag, a), run := next, wait := h.att.wait.drop 1 } }).sendAnswer u tag a

/-- The fields of HSY whose reset value is a fuse (R523, R542, R572), and the level at which ALIVE holds its fuse state. -/
def H.fuseFields (h : H) : H :=
  let f := h.sys.fuse
  (((h.wr R.HSY_UNIT_L_UNIT_LO f.unitId).wr R.HSY_UNIT_H_UNIT_HI (f.unitId / 2 ^ 32)).wr R.HSY_ARB_ARB f.arb).put R.HSY_CTL_ALIVE
    (h.ball 11).high

/-- What an event has changed of the transmitters and the balls, put out (R289, R524). -/
def H.showPins (h before : H) : H := (h.showLanes before (List.range 132)).showBalls before

/-- The hub reset as a whole (R514, R542): the certificate and the fuses stay; the failed loads of a Cold episode stay while it runs. -/
def H.resetAll (h : H) : H :=
  { H.reset with
    regs := h.regs.filter (fun e => decide (0x40001000 * 32 ≤ e.1) && decide (e.1 < 0x400024D0 * 32)), out := h.out, free := h.free
    sys := { HubSys.zero with ep := h.sys.ep, fuse := h.sys.fuse, fails := if h.held then h.sys.fails else 0 } }.showPins h

/-- A Block reset of a hub (R514, R515, R542, R578): HSY 0 with the memory of its core, HLN 1, HTW 2, HDP 3. -/
def H.resetBlock (h : H) (i : Nat) : H :=
  let lo := 0x40000000 + i * 0x10000
  let hi := if i = 0 then lo + 0x1000 else lo + 0x10000
  let w := { h with
    regs := Regs.resetRange h.regs lo hi, recs := h.recs.filter (fun e => decide (e.1 < lo) || decide (lo + 0x10000 ≤ e.1)) }
  let z := H.reset
  match i with
  | 0 =>
    let w := { w with
      mem := [], memh := .zero, mgmt := [], att := z.att, img := [], fetch := z.fetch, again := 0, beat := false, hbLost := false
      sys := { w.sys with owned := [] } }
    ((if w.sys.shadow then w.fuseFields else w).showBalls h)
  | 1 => { w with lanes := [] }.showPins h
  | 2 => { w with
      any := false, act := false, got := false, loss := 0, taken := [], set := [], orders := [], last := none, lost := false, avl := false
      told := false, loops := [] }
  | 3 => { w with
      dn := 0, t := 0, had := false, hadDu := false, err := 0, slew := false, step := none, time := none, ofs := [], paths := [], skews := []
      dly := z.dly, period := 0, seq := 0 }
  | _ => h

/-- A reset source of a hub asserts (R516, R542): Cold with reach 0, Block with reach 3. -/
def H.resetAssert (h : H) (src reach block : Nat) : H :=
  let n := if reach = 0 then h.resetAll else h.resetBlock block
  n.withSys (fun s => { s with
    ep := some (Episode.join h.sys.ep src reach block 0), shadow := s.shadow && !h.sys.ep.any (fun e => e.stage == 3) })

/-- A reset source of a hub is released (R516). -/
def H.resetRelease (h : H) (src : Nat) : H := h.withSys (fun s => { s with ep := s.ep.map (fun e => { e with now := clrBit e.now src }) })

/-- A stage entered. -/
def H.enterStage (h : H) (e : Episode) (n : Nat) : H := h.withSys (fun s => { s with ep := some { e with stage := n } })

/-- A fuse load of a hub ends (R523, R542). -/
def H.fuseDone (h : H) (ws : List Nat) : H :=
  match h.sys.ep with
  | none => h
  | some e =>
    if e.stage ≠ 3 || e.now ≠ 0 then h
    else if fusePass ws then (((h.withSys (fun s => { s with words := ws, shadow := true })).fuseFields).showBalls h).enterStage e 4
    else
      let n := h.withSys (fun s => { s with words := ws, fails := s.fails + 1 })
      if n.sys.fails < 3 then n else n.enterStage e 4

/-- A stage of a hub's reset completes (R515, R516, R542): without STRAP; after BOOT the ROM fetches its firmware. -/
def H.stageComplete (h : H) : H :=
  match h.sys.ep with
  | none => h
  | some e =>
    if e.now ≠ 0 then h else
    match e.stage with
    | 1 => h.enterStage e (if e.reach = 0 then 3 else 4)
    | 3 => h
    | 4 => h.enterStage e 5
    | 5 =>
      if e.reach = 0 then h.enterStage e 6
      else (e.blocks.foldl (fun (h : H) i => h.resetBlock i) h).withSys (fun s => { s with ep := none })
    | _ => h.withSys (fun s => { s with ep := none })

end Sys2Proof.Machine
end

