-- ==== Sys2Proof/Machine/State.lean ====
section
/-! DEFINITION. The state of the chip set: a central unit BQ7100, its hubs BQ7300 and cells BQ7020, station time, and the queue of
waiting commands; the reasons a step can stop; the state after reset (R2, R514, R530). -/
namespace Sys2Proof.Machine

/-- Why a step stops with a fault. -/
inductive Fault where
  /-- Raised by no command: the spec stops the chip set nowhere, and a command whose operand names something no chip has (a hub above 47,
  an arm above 11) reaches no chip and changes nothing (log entry 9). Safe: it is never answered. -/
  | noSuchOperand
  deriving DecidableEq, Repr

/-- Why a command has no meaning. -/
inductive Refusal where
  /-- Raised by an arm of `exec` whose command has no meaning yet. Safe: nothing is concluded about it. -/
  | notModelled (mnemonic : String)
  deriving DecidableEq, Repr

/-- The chip set: station time of the unit (R31 to R38), the unit, the hubs by number and the cells by CID (one that is not listed is as
after its reset), and the commands that wait, first in, first out. -/
structure State where
  time    : TimeBase
  u       : U
  hubs    : Tbl H
  cells   : Tbl C
  pending : List Instr
  deriving DecidableEq, Repr

/-- The unit right after its reset, before its boot: the strap fields as the straps read (all 0, log entry 5) and the fused OT_RST of
125 °C (R528). -/
def U.afterReset : U := U.zero.strapFields.wr R.SYS_OT_OT_RST 125

/-- The machine right after reset: every register at its reset value, station time at the epoch, nothing in flight, no command. -/
def State.reset : State := ⟨TimeBase.start 0, U.afterReset, [], [], []⟩

end Sys2Proof.Machine
end

