-- ==== Sys2Proof/WellFormed.lean ====
section
/-! DEFINITION. The commands that a chip can receive: operands in the ranges that the spec's registers and frames give them. A command
outside them names something no chip has: it reaches no chip, and nothing happens (log entry 9). -/
namespace Sys2Proof

/-- A CID of the arms 0 to 11 (R16). -/
def cidOk (cid : Nat) : Bool := decide (cid < 24576)
/-- A byte of a frame. -/
def byteOk (b : Nat) : Bool := decide (b < 256)
/-- A 32-bit word. -/
def wordOk (w : Nat) : Bool := decide (w < 2 ^ 32)

/-- A chip of the set: hubs 0 to 47 (R17), cells by CID (R16). -/
def Chip.wf : Chip → Bool
  | .unit => true
  | .hub h => decide (h < 48)
  | .cell cid => cidOk cid

/-- A chip with a reset controller of R515: the unit and the hubs (R542). A cell starts as R543 and R544 say. -/
def Chip.resets : Chip → Bool
  | .unit => true
  | .hub h => decide (h < 48)
  | .cell _ => false

/-- A reach of a chip (R514, R542): a hub has Cold (0) and Block (3) alone. -/
def reachOk (chip : Chip) (reach : Nat) : Bool :=
  match chip with
  | .hub _ => reach == 0 || reach == 3
  | _ => decide (reach < 4)

/-- A lane of a chip: 100 of the unit (R304), 132 of a hub (R305), two ports of a cell (R348). -/
def LaneAt.wf : LaneAt → Bool
  | .unit n => decide (n < 100)
  | .hub h n => decide (h < 48) && decide (n < 132)
  | .cell cid u => cidOk cid && decide (u < 2)

/-- Training as it stands on a line: fields within their widths (R286 to R288). -/
def Training.wf : Training → Bool
  | .block prior header line arr =>
    decide (prior < 2 ^ 58) && decide (header < 4) && decide (line < 2 ^ 64) && decide (arr < 65536)
  | .set groups => decide (groups.length = 8) && groups.all (fun g => decide (g < 1024))

/-- A sensed input of a cell and its value: the inputs of the four switches to their full range, AIN0 to that of its DAC, in 1/256 of the
LSB of their codes (R182, R199). -/
def insOk (e : Nat × Nat) : Bool := if e.1 < 4 then decide (e.2 ≤ 65536) else e.1 == 4 && decide (e.2 ≤ 262144)

/-- A 64 KiB index of a block of the unit that a reset can name (R526). -/
def blockIndexOk (i : Nat) : Bool := decide (i < 128)

/-- A received Ethernet frame of one of the four ports, no longer than the bus supports (R271). -/
def EthFrame.wf (f : EthFrame) : Bool :=
  decide (f.port < 4) && decide (f.raw < 2 ^ 64) && decide (14 ≤ f.octets.length) && decide (f.octets.length ≤ 1528) && f.octets.all byteOk

/-- The 250 characters of a Trackway frame: K28.5 first, then data characters, control characters above 255, code errors 512 (R309). -/
def twOk (c : List Nat) : Bool := decide (c.length = 250) && c.headD 0 == 256 + 0xBC && c.all (fun v => decide (v ≤ 512))

/-- A 66-bit block descrambled: its sync header and its eight bytes (R326). -/
def blockOk (b : Nat × List Nat) : Bool := decide (b.1 < 4) && decide (b.2.length = 8) && b.2.all byteOk

/-- What each of some Siding lanes receives of a frame (R286, R487): the lanes 96 to 99, each at most once. -/
def sidingOk (parts : List (Nat × List (Nat × List Nat))) : Bool :=
  parts.all (fun e => decide (96 ≤ e.1) && decide (e.1 < 100) && e.2.all blockOk) && decide ((parts.map (fun e => e.1)).Nodup)

/-- The 64 octets of a mailbox (R335). -/
def mbxOk (o : List Nat) : Bool := decide (o.length = 64) && o.all byteOk

/-- A well-formed command. -/
def Instr.wf (i : Instr) : Bool :=
  match i with
  | .registerWrite chip core addr size data => chip.wf && decide (core < 16) && decide (addr < 2 ^ 40) && [1, 2, 4, 8].contains size && decide (data < 2 ^ 64)
  | .rcFieldRead chip core addr size _ => chip.wf && decide (core < 16) && decide (addr < 2 ^ 40) && [1, 2, 4, 8].contains size
  | .statusW1cWrite chip addr data same => chip.wf && decide (addr < 2 ^ 40) && wordOk data && wordOk same
  | .blockAck chip addr data => chip.wf && decide (addr < 2 ^ 40) && wordOk data
  | .referenceTick => true
  | .boundary => true
  | .timIncFracWrite v => wordOk v
  | .timIncIntWrite v => wordOk v
  | .timDepStartWrite v => wordOk v
  | .depStart _ => true
  | .depStop => true
  | .timStepWrite v => wordOk v
  | .stepApply => true
  | .timSetLoad v => wordOk v
  | .timNowLatch core => decide (core < 16)
  | .timeStateWrite v => wordOk v
  | .ptpEventRx port msgType domain seqId raw octets => decide (port < 4) && decide (msgType < 16) && decide (domain < 256) && decide (seqId < 65536) && decide (raw < 2 ^ 64) && octets.all byteOk
  | .ptpEventTx port msgType seqId raw => decide (port < 4) && decide (msgType < 16) && decide (seqId < 65536) && decide (raw < 2 ^ 64)
  | .txqPop port => decide (port < 4)
  | .hsrSyncForward port seqId _ correction rx tx => (port == 2 || port == 3) && decide (seqId < 65536) && decide (correction < 2 ^ 64) && decide (rx < 2 ^ 64) && decide (tx < 2 ^ 64)
  | .frnClrSuspect a cell => decide (a < 12) && decide (cell < 2048)
  | .frnReseed a cell => decide (a < 12) && decide (cell < 2048)
  | .frnSetK a cell k => decide (a < 12) && decide (cell < 2048) && wordOk k
  | .frnSetB a cell v => decide (a < 12) && decide (cell < 2048) && wordOk v
  | .frnClrAged a cell => decide (a < 12) && decide (cell < 2048)
  | .frnEnWrite a _ => decide (a < 12)
  | .ledgerStore addr size data => decide (addr + size ≤ 0x3000000) && decide (size ≤ 16) && decide (data < 2 ^ (8 * size))
  | .selection a => decide (a < 12)
  | .mshEnWrite a _ => decide (a < 12)
  | .mshRetire a cell => decide (a < 12) && decide (cell < 2048)
  | .mshRestore a cell => decide (a < 12) && decide (cell < 2048)
  | .mshRotate a => decide (a < 12)
  | .mshClrReq a cell => decide (a < 12) && decide (cell < 2048)
  | .convEnWrite _ => true
  | .forceSet cid code => decide (cid < 32768) && decide (code < 16)
  | .forceRelease cid => decide (cid < 32768)
  | .forceReleaseAll => true
  | .avFire => true
  | .peerAvalancheRx block => blockOk block
  | .avClear => true
  | .clearRunEnd => true
  | .resetClearRun => true
  | .hubOrderLoss h => decide (h < 48)
  | .hubAvalancheRx h lane block => decide (h < 48) && decide (128 ≤ lane) && decide (lane < 132) && blockOk block
  | .cellK287Rx cid port => cidOk cid && decide (port < 2)
  | .cellFrameRx cid port ofs chars same => cidOk cid && decide (port < 2) && decide (ofs < 16000) && twOk chars && same.all twOk
  | .cellBoundary cid _ => cidOk cid
  | .cellWatchdog cid => cidOk cid
  | .depPeek dn => wordOk dn
  | .gtePatWrite cid code v => cidOk cid && decide (code < 5) && wordOk v
  | .gteCtlWrite cid v => cidOk cid && wordOk v
  | .testEnWrite cid _ => cidOk cid
  | .gteTestWrite cid v => cidOk cid && wordOk v
  | .pwmRunWrite cid _ => cidOk cid
  | .pwmLoad cid => cidOk cid
  | .pwmPeriodStart cid => cidOk cid
  | .calibrationComplete cid _ _ => cidOk cid
  | .refreshRequest cid leg => cidOk cid && decide (leg < 2)
  | .autoRefresh cid leg => cidOk cid && decide (leg < 2)
  | .comparatorTrip cid ins => cidOk cid && ins.all insOk
  | .blankWindowClose cid sws ins => cidOk cid && decide (sws < 16) && ins.all insOk
  | .softOffEnd cid => cidOk cid
  | .bypWaitExpire cid => cidOk cid
  | .prtThrWrite cid sw v => cidOk cid && decide (sw < 4) && wordOk v
  | .prtOvaWrite cid v => cidOk cid && wordOk v
  | .clrHold cid ins => cidOk cid && ins.all insOk
  | .selftest cid mask => cidOk cid && decide (mask < 1024)
  | .selftestTimeout cid => cidOk cid
  | .clrJournal cid => cidOk cid
  | .dmpTmaxExpire cid => cidOk cid
  | .ov2Crossing cid ins => cidOk cid && ins.all insOk
  | .uvloEntry cid => cidOk cid
  | .uvloRelease cid ins => cidOk cid && ins.all insOk
  | .cellPor cid => cidOk cid
  | .retirementRecordDone cid => cidOk cid
  | .bycPulseStart cid => cidOk cid
  | .bycPulseEnd cid => cidOk cid
  | .bycConfirm cid => cidOk cid
  | .bycTimeout cid => cidOk cid
  | .byfRelease cid => cidOk cid
  | .byfPulse cid _ => cidOk cid
  | .gateMismatch cid sw _ => cidOk cid && decide (sw < 4)
  | .lpeRunCommit g => decide (g < 3)
  | .boardCoreStore e v => decide (e < 1024) && wordOk v
  | .slotCtlWrite sl reg v => decide (sl < 96) && decide (reg < 4) && wordOk v
  | .slotEnable sl => decide (sl < 96)
  | .slotStateStore sl n v => decide (sl < 96) && decide (n < 8) && wordOk v
  | .slotCoefStore sl n v => decide (sl < 96) && decide (n < 8) && wordOk v
  | .lpeMemError entry n _ => decide (n < if entry then 1024 else 96)
  | .lpeEnWrite _ => true
  | .sensorWord input w => decide (input < 32) && decide (w < 2 ^ 64)
  | .sensorTimeout p => decide (p < 32)
  | .snsErrWindowClose p => decide (p < 32)
  | .snsPortEnWrite p _ => decide (p < 32)
  | .snsRestore p => decide (p < 32)
  | .snsOfsCommit p v => decide (p < 32) && wordOk v
  | .snsThrCfgWrite p k v => decide (p < 32) && decide (k < 2) && wordOk v
  | .seqRisingEdge m input => decide (m < 3) && decide (input < 3)
  | .freqWindowEnd m => decide (m < 3)
  | .seqInputLost m input => decide (m < 3) && decide (input < 3)
  | .pbxFrameRx f => f.wf
  | .svAlignedWrite j => decide (j < 128)
  | .svTimeout k => decide (k < 64)
  | .gooseTimeout c => decide (c < 32)
  | .pbxTxProdWrite q v => decide (q < 2) && wordOk v
  | .pbxLinkDown port => decide (port < 4)
  | .pbxRateWrite v => wordOk v
  | .laneEnWrite l _ => l.wf
  | .laneSignalDetect l => l.wf
  | .laneCdrLock l => l.wf
  | .equalisationSettled l => l.wf
  | .trainingRx l tr => l.wf && tr.wf
  | .laneLinkLoss l => l.wf
  | .laneCodeErrors l _ => l.wf
  | .laneCheckError l => l.wf
  | .crcWindowClose l => l.wf
  | .laneRetrainTimeout l => l.wf
  | .deskewTimeout l => l.wf
  | .laneRestore l => l.wf
  | .laneRetrainCmd l => l.wf
  | .laneTestWrite l _ v => l.wf && wordOk v
  | .laneTxeqWrite l v => l.wf && wordOk v
  | .hubBoundary h => decide (h < 48)
  | .rptMiss cid => cidOk cid
  | .hubTrackwayRx h lane _ chars same => decide (h < 48) && decide (lane < 128) && twOk chars && same.all (fun e => twOk e.2)
  | .hubFrameDrop h loop => decide (h < 48) && decide (loop < 64)
  | .hubUnreach h loop pos => decide (h < 48) && decide (loop < 64) && decide (pos < 8)
  | .noticeRx lane blocks => decide (lane < 96) && blocks.all blockOk
  | .hubOrderRx h lane arr done blocks => decide (h < 48) && decide (128 ≤ lane) && decide (lane < 132) && decide (arr < 2 ^ 64) && decide (done < 2 ^ 64) && blocks.all blockOk
  | .loopFrameRx lane blocks => decide (lane < 96) && blocks.all blockOk
  | .mailRx lane arr blocks => decide (lane < 96) && decide (arr < 2 ^ 64) && blocks.all blockOk
  | .pointRequestRx cid octets same => cidOk cid && mbxOk octets && same.all mbxOk
  | .rspDrop cid => cidOk cid
  | .pointRequestSend => true
  | .pointRetryTimeout h loop => decide (h < 48) && decide (loop < 64)
  | .pointResponseRx h octets => decide (h < 48) && octets.all byteOk
  | .completionWrite => true
  | .loopMeasurement h loop => decide (h < 48) && decide (loop < 64)
  | .measurementComplete h loop => decide (h < 48) && decide (loop < 64)
  | .pathRx h dlyA dlyB dlMax => decide (h < 48) && wordOk dlyA && wordOk dlyB && wordOk dlMax
  | .hubHeartbeatWrite h v => decide (h < 48) && wordOk v
  | .hubHbLost h => decide (h < 48)
  | .hubMemUnc h => decide (h < 48)
  | .hubAliveToggle h => decide (h < 48)
  | .regReq h => decide (h < 48)
  | .adcConversion cid k raw => cidOk cid && decide (k < 20) && decide (raw < 65536)
  | .adcEntryEnable cid n v => cidOk cid && decide (n < 16) && wordOk v
  | .adcOfsCommit cid n v => cidOk cid && decide (n < 16) && wordOk v
  | .adcResRead cid n => cidOk cid && decide (n < 16)
  | .capArm => true
  | .capStop => true
  | .capSwtrig => true
  | .streamFrameSend => true
  | .streamFlashWrite => true
  | .snpFire => true
  | .snapshotCopyDone => true
  | .snpTcmdGo => true
  | .ccpArm cid => cidOk cid
  | .ccpStop cid => cidOk cid
  | .ccpSwtrig cid => cidOk cid
  | .schWaitRead core => decide (core < 16)
  | .endWait core => decide (core < 16)
  | .endWaitUntil core => decide (core < 16)
  | .endYield core => decide (core < 16)
  | .endExit core => decide (core < 16)
  | .releaseResume flow => decide (flow < 64)
  | .schCreate core th => decide (core < 16) && decide (th < 65536)
  | .schDestroy core th => decide (core < 16) && decide (th < 65536)
  | .schReady core th cancel => decide (core < 16) && decide (th < 65536) && cancel.all (fun o => decide (o < 16) && o != core)
  | .schCancel core th => decide (core < 16) && decide (th < 65536)
  | .schRestart core th => decide (core < 16) && decide (th < 65536)
  | .schPost core flow => decide (core < 16) && decide (flow < 65536)
  | .schRetireCore core target => decide (core < 16) && decide (target < 65536)
  | .schRestoreCore core target => decide (core < 16) && decide (target < 65536)
  | .schCmdResRead core => decide (core < 16)
  | .schIpiWrite core v => decide (core < 16) && wordOk v
  | .schSrcWrite src v => decide (src < 256) && wordOk v
  | .timetableExpiry => true
  | .longRun core => decide (core < 16)
  | .paceCheck core _ => decide (core < 16)
  | .loadWindowEnd => true
  | .coreUncorrError core kind => decide (core < 16) && decide (kind < 3)
  | .scrubRead chip _ _ => chip.wf
  | .memoryUncorrRead chip addr core => chip.wf && decide (addr < 2 ^ 40) && core.all (fun (n : Nat) => decide (n < 16))
  | .sysInjWrite chip _ v => chip.wf && wordOk v
  | .aliveToggle => true
  | .sbxLineChange line _ => decide (line < 149)
  | .hwAliveTimeout j => decide (j < 16)
  | .sbxHeartWrite token _ => decide (token < 256)
  | .heartbeatWindowEnd => true
  | .sbxHsWrite v => decide (v < 256)
  | .sbxCfgLoadWrite v => wordOk v
  | .sbxCfgStart => true
  | .sbxCfgLock => true
  | .sbxClear key => decide (key < 65536)
  | .sbxFtClr key => decide (key < 65536)
  | .glacierExpire => true
  | .readbackSample pr => decide (pr < 256)
  | .testPulseStart k _ => decide (k < 8)
  | .testPulseEnd _ _ => true
  | .oscWindowEnd _ => true
  | .peerStatusTimeout => true
  | .ctrlRx parts => sidingOk parts
  | .mirrorSectionRx parts => sidingOk parts
  | .relinquishRx block => blockOk block
  | .sdlJoin => true
  | .sdlSwap => true
  | .sdlRelq => true
  | .sdlRejoin => true
  | .sdlRegionWrite r _ v => decide (r < 16) && wordOk v
  | .joinTimeout => true
  | .peerLost => true
  | .clearAnswerTimeout => true
  | .revHoldExpire => true
  | .rlqReset => true
  | .resetAssert chip src reach block => chip.resets && decide (src < 11) && reachOk chip reach && blockIndexOk block
  | .resetStageComplete chip straps => chip.resets && decide (straps < 64)
  | .fuseLoadDone chip words => chip.resets && decide (words.length = 256) && words.all wordOk
  | .oscStopDetect => true
  | .stretchRelease => true
  | .sysRstSystem key => decide (key < 65536)
  | .sysRstEngine key => decide (key < 65536)
  | .sysRstBlock key block => decide (key < 65536) && decide (block < 128)
  | .sysRstPeer key => decide (key < 65536)
  | .peerResetRx block => blockOk block
  | .wdogEnable => true
  | .wdogKick key => decide (key < 65536)
  | .wdogPeriodEnd => true
  | .dieTempChange chip _ => chip.wf
  | .sysPwrWrite v => wordOk v
  | .coreRelease v => wordOk v
  | .bakClrCnt key => decide (key < 65536)
  | .bakClrHist key => decide (key < 65536)
  | .bakClrLf key => decide (key < 65536)
  | .vbakRise octets => decide (octets.length = 296) && octets.all byteOk
  | .vsbxUndervoltage => true
  | .configBlockRx cid octets => cidOk cid && mbxOk octets
  | .configResendTimeout cid => cidOk cid
  | .cellSelfReset cid => cidOk cid
  | .secVerify slot => decide (slot < 2)
  | .secSetPending slot => decide (slot < 2)
  | .secMarkHealthy => true
  | .secCommitArb key => decide (key < 65536)
  | .secOwnerSet key => decide (key < 65536)
  | .secOwnerLock key => decide (key < 65536)
  | .secJrnWrite => true
  | .keyStoreViolation => true
  | .attStart => true
  | .attChallengeRx chip octets => chip.wf && mbxOk octets
  | .attStatementDone chip => chip.wf
  | .attAnswerRx id _ tag answer => decide (id < 24640) && decide (tag < 256) && answer.all byteOk
  | .attTimeout id => decide (id < 24640)
  | .cellUpdIdent cid octets => cidOk cid && mbxOk octets
  | .cellUpdBegin cid octets _ => cidOk cid && mbxOk octets
  | .cellUpdData cid octets _ => cidOk cid && mbxOk octets
  | .cellUpdEnd cid octets => cidOk cid && mbxOk octets
  | .cellUpdActivate cid octets => cidOk cid && mbxOk octets
  | .hubImageRead h octets => decide (h < 48) && mbxOk octets
  | .recIdent _ octets => octets.all byteOk
  | .recCertRead _ octets => octets.all byteOk
  | .recBegin _ octets _ => octets.all byteOk
  | .recData _ octets _ => octets.all byteOk
  | .recEnd _ octets _ => octets.all byteOk
  | .recBoot _ octets => octets.all byteOk
  | .xspiProgram addr octets => decide (addr < 2 ^ 28) && octets.all byteOk
  | .xspiErase addr => decide (addr < 2 ^ 28)
  | .timeBaseCheckError => true
  | .glacierTimerReset => true
  | .vsbxRelease => true
  | .sbxOscillatorStop => true
  | .resetSourceRelease chip src => chip.resets && decide (src < 11)
  | .domainPowerUpDone => true
  | .startTimeout => true
  | .secCommandDone chip _ => chip.wf
  | .xspiOperationDone => true
  | .prbsLockChange l _ => l.wf
  | .pbxLinkUp port => decide (port < 4)

end Sys2Proof
end

