-- ==== Sys2Proof/Machine/Ops.lean ====
section
/-! DEFINITION. How a command acts on the machine: on the unit, with or without station time, on one hub, on one cell; what stands
after every command of the unit; the idle step (R397, R398, R426, R501, R516, R521, R548). -/
namespace Sys2Proof.Machine

/-- The block of a hub that a command of the hub acts in (R578). -/
def Instr.hubHome : Instr → Option Nat
  | .hubHeartbeatWrite _ _ | .hubHbLost _ | .hubAliveToggle _ | .regReq _ | .attStatementDone _ => some 0
  | .laneEnWrite _ _ | .laneSignalDetect _ | .laneCdrLock _ | .equalisationSettled _ | .trainingRx _ _ | .laneLinkLoss _ | .laneCodeErrors _ _
  | .laneCheckError _ | .crcWindowClose _ | .laneRetrainTimeout _ | .deskewTimeout _ | .laneRestore _ | .laneRetrainCmd _
  | .laneTestWrite _ _ _ | .laneTxeqWrite _ _ | .prbsLockChange _ _ => some 1
  | .hubOrderLoss _ | .hubAvalancheRx _ _ _ | .hubTrackwayRx _ _ _ _ _ | .hubFrameDrop _ _ | .hubUnreach _ _ _ | .hubOrderRx _ _ _ _ _ => some 2
  | .hubBoundary _ | .loopMeasurement _ _ | .measurementComplete _ _ => some 3
  | _ => none

/-- Whether a command of a hub finds it held in reset, as a whole or in the block that the command acts in (R516, R542). -/
def H.deaf (h : H) (c : Instr) : Bool := h.held || (Instr.hubHome c).any h.blockHeld

/-- The answer of a command. -/
abbrev Answer := Host.Outcome State Fault Refusal

/-- What a handshake of the unit ends with: the mirror frames up to the present time (R492), the snapshot that a source asked for, taken of `latch` (R397, R398), the events raised
delivered to the scheduler (R426), the fields that show the role and BAK (R501, R521, R548), what its outputs put on its
lines (R286 to R288), what a boundary that has fallen due will find (R221). -/
def U.finish (u : U) (t : TimeBase) (latch : U) : U :=
  let u := (u.sideAdvance t).snapshot t latch
  let u := U.drain (u.evq.length + 64) u t
  (((u.syncSending).syncBak).putLines).markEdge t

/-- The unit's handshake ended. -/
def State.setUnit (s : State) (t : TimeBase) (u latch : U) : State := { s with time := t, u := u.finish t latch }

/-- The address of the block that a command of the unit acts in, where that block can be reset or powered down alone (R514, R516, R526,
R529). -/
def Instr.home : Instr → Option Nat
  | .snpFire | .snapshotCopyDone | .snpTcmdGo => some 0x400020000
  | .frnClrSuspect a _ | .frnReseed a _ | .frnSetK a _ _ | .frnSetB a _ _ | .frnClrAged a _ | .frnEnWrite a _ => some (0x400100000 + a * 0x10000)
  | .selection a | .mshEnWrite a _ | .mshRetire a _ | .mshRestore a _ | .mshRotate a | .mshClrReq a _ => some (0x400200000 + a * 0x10000)
  | .lpeRunCommit _ | .boardCoreStore _ _ | .slotCtlWrite _ _ _ | .slotEnable _ | .slotStateStore _ _ _ | .slotCoefStore _ _ _
  | .lpeMemError _ _ _ | .lpeEnWrite _ => some 0x400310000
  | .sensorWord _ _ | .sensorTimeout _ | .snsErrWindowClose _ | .snsPortEnWrite _ _ | .snsRestore _ | .snsOfsCommit _ _ | .snsThrCfgWrite _ _ _
  | .seqRisingEdge _ _ | .freqWindowEnd _ | .seqInputLost _ _ => some 0x400320000
  | .pbxFrameRx _ | .svAlignedWrite _ | .svTimeout _ | .gooseTimeout _ | .pbxTxProdWrite _ _ | .pbxLinkDown _ | .pbxRateWrite _
  | .pbxLinkUp _ => some 0x400330000
  | .laneEnWrite (.unit n) _ | .laneSignalDetect (.unit n) | .laneCdrLock (.unit n) | .equalisationSettled (.unit n) | .trainingRx (.unit n) _
  | .laneLinkLoss (.unit n) | .laneCodeErrors (.unit n) _ | .laneCheckError (.unit n) | .crcWindowClose (.unit n) | .laneRetrainTimeout (.unit n)
  | .deskewTimeout (.unit n) | .laneRestore (.unit n) | .laneRetrainCmd (.unit n) | .laneTestWrite (.unit n) _ _ | .laneTxeqWrite (.unit n) _
  | .prbsLockChange (.unit n) _ => some (laneBase n)
  | .noticeRx _ _ | .loopFrameRx _ _ | .mailRx _ _ _ | .pointRequestSend | .pointRetryTimeout _ _ | .pointResponseRx _ _ | .pathRx _ _ _ _
  | .completionWrite | .configResendTimeout _ => some 0x400500000
  | .ctrlRx _ | .mirrorSectionRx _ | .sdlRegionWrite _ _ _ | .peerStatusTimeout | .sdlJoin | .sdlSwap | .sdlRelq | .sdlRejoin | .joinTimeout
  | .peerLost | .clearAnswerTimeout | .revHoldExpire | .relinquishRx _ | .rlqReset => some 0x400510000
  | .capArm | .capStop | .capSwtrig | .streamFrameSend | .streamFlashWrite => some 0x400520000
  | _ => none

/-- Whether a command of the unit finds it held in reset, as a whole or in the block that the command acts in, or that block powered down:
it then does nothing (R516, R529). -/
def U.deaf (u : U) (c : Instr) : Bool :=
  u.held || (match Instr.home c with
    | some a => !u.blockOn a
    | none => false)

/-- A command of the unit that leaves station time: held in reset, the unit does nothing (R516). A command whose operand names
something no chip has reaches no chip, and nothing happens (log entry 9): so for every lift below. -/
def State.onUnit (s : State) (c : Instr) (f : TimeBase → U → U) : Answer :=
  if !c.wf then .next s
  else if s.u.deaf c then .next s
  else
    let u := f s.time s.u
    .next (s.setUnit s.time u u)

/-- A command of the unit that may change station time. -/
def State.onTime (s : State) (c : Instr) (f : TimeBase → U → TimeBase × U) : Answer :=
  if !c.wf then .next s
  else if s.u.deaf c then .next s
  else
    let r := f s.time s.u
    .next (s.setUnit r.1 r.2 r.2)

/-- An event of the reset controller, which acts in reset as well (R512 to R529). -/
def State.onReset (s : State) (c : Instr) (f : TimeBase → U → TimeBase × U) : Answer :=
  if !c.wf then .next s
  else
    let r := f s.time s.u
    .next (s.setUnit r.1 r.2 r.2)

/-- A hub as it stands. -/
def State.hub (s : State) (h : Nat) : H := s.hubs.get h H.reset

/-- A hub as its events find it. -/
def State.hubAt (s : State) (h : Nat) : HubAt := ⟨h⟩

/-- A hub's handshake ended: what its outputs put on its lines (R286 to R288). -/
def State.setHub (s : State) (h : Nat) (k : H) : State := { s with hubs := s.hubs.set h (k.putLines (s.hubAt h)) }

/-- A command of a hub: held in reset, the hub does nothing (R516, R542). -/
def State.onHub (s : State) (c : Instr) (h : Nat) (f : HubAt → H → H) : Answer :=
  if !c.wf then .next s
  else if (s.hub h).deaf c then .next s
  else .next (s.setHub h (f (s.hubAt h) (s.hub h)))

/-- An event of a hub's reset controller, which acts in reset as well (R542). -/
def State.onHubReset (s : State) (c : Instr) (h : Nat) (f : HubAt → H → H) : Answer :=
  if !c.wf then .next s
  else .next (s.setHub h (f (s.hubAt h) (s.hub h)))

/-- An event of the reset controller of the chip that it names (R515, R542). -/
def State.onController (s : State) (c : Instr) (chip : Chip) (fu : TimeBase → U → TimeBase × U) (fh : H → H) : Answer :=
  match chip with
  | .hub h => s.onHubReset c h (fun _ => fh)
  | _ => s.onReset c fu

/-- A cell as it stands. -/
def State.cell (s : State) (cid : Nat) : C := s.cells.get cid C.reset

/-- A cell's handshake ended: what its outputs put on its lines (R286 to R288). -/
def State.setCell (s : State) (cid : Nat) (k : C) : State := { s with cells := s.cells.set cid (k.putLines cid) }

/-- A command of a cell. -/
def State.onCell (s : State) (c : Instr) (cid : Nat) (f : C → C) : Answer :=
  if !c.wf then .next s
  else .next (s.setCell cid (f (s.cell cid)))

/-- A command of a cell at an instant of its departure that the command does not give: `f` is given the offset (log entry 2). -/
def State.onCellNow (s : State) (c : Instr) (cid : Nat) (f : C → Nat → C) : Answer :=
  s.onCell c cid (fun k => let d := k.now cid; f d.2 d.1)

/-- A command of the chip that it names. -/
def State.onChip (s : State) (c : Instr) (chip : Chip) (fu : TimeBase → U → TimeBase × U) (fh : HubAt → H → H)
    (fc : Nat → C → Nat → C) :
    Answer :=
  match chip with
  | .unit => s.onTime c fu
  | .hub h => s.onHub c h fh
  | .cell cid => s.onCellNow c cid (fc cid)

/-- A command of the lane that it names: the lane function is given the lane as its chip knows it, the two free values that an
adaptation ends with, and the time in ns. -/
def State.onLane (s : State) (c : Instr) (l : LaneAt) (f : LaneKind → Nat × Nat → Nat → LaneIO → LaneIO) : Answer :=
  match l with
  | .unit n => s.onUnit c (fun t u =>
      let d := u.draw
      let e := d.2.draw
      e.2.onLane t n (f (e.2.laneKind n) (d.1, e.1) t.tns))
  | .hub h n => s.onHub c h (fun x k =>
      let d := k.draw x
      let e := d.2.draw x
      let o := e.2.draw x
      o.2.onLane x n (f (o.2.laneKind n) (d.1, e.1) (o.2.ns (o.1 % 16000))))
  | .cell cid p => s.onCellNow c cid (fun k ofs =>
      let d := k.draw cid
      let e := d.2.draw cid
      e.2.onLane ofs p (f (portKind p) (d.1, e.1) (e.2.ns ofs)))

/-- A sixteenth of a nanosecond of station time passes, unless the increment of the tick to come has been reached (log entry 1). -/
def TimeBase.pass (t : TimeBase) : TimeBase :=
  if (t.since + 1) * 2 ^ 28 ≤ t.incNext.getD t.inc then { t with elapsed := t.elapsed + 1, since := t.since + 1 } else t

/-- The unit when station time has passed from `old` to `new` between two ticks: an era that it enters is raised (R31, R50), and the
mirror frames go on (R492). -/
def U.pass (u : U) (old new : TimeBase) : U :=
  if new.t16 / 2 ^ 64 > old.t16 / 2 ^ 64 then (u.eraEvent old new).finish new (u.eraEvent old new)
  else if u.sdl.cur.isSome || !u.sdl.tx.isEmpty then u.finish new u
  else u

/-- What a step does when no command waits: station time passes between two ticks (R31); it stands while the unit is held in reset (log
entry 1). -/
def State.idle (s : State) : State :=
  if s.u.held then s else { s with time := s.time.pass, u := (s.u.pass s.time s.time.pass).markEdge s.time.pass }

end Sys2Proof.Machine
end

