-- ==== Sys2Proof/Machine/ExecArm.lean ====
section
/-! DEFINITION. The commands of charge tracking and cell selection of an arm (R53 to R115, R601, R604). -/
namespace Sys2Proof.Machine

/-- FRN_CLR_SUSPECT (R73): FRN_CMD CLR_SUSPECT clears SUSPECT and SUS_RUN of a cell at the next boundary. -/
def execFrnClrSuspect (a cell : Nat) (s : State) : Answer := s.onUnit (.frnClrSuspect a cell) (fun _ u => u.frnCmdWrite a cell 1)

/-- FRN_RESEED (R68): FRN_CMD RESEED sets UNSEEDED of a cell at the next boundary. -/
def execFrnReseed (a cell : Nat) (s : State) : Answer := s.onUnit (.frnReseed a cell) (fun _ u => u.frnCmdWrite a cell 2)

/-- FRN_SET_K (R70): FRN_CMD SET_K sets a cell's K, clamped, at the next boundary. -/
def execFrnSetK (a cell k : Nat) (s : State) : Answer :=
  s.onUnit (.frnSetK a cell k) (fun _ u => (u.wr (R.FRN_CMD_DATA_DATA a) k).frnCmdWrite a cell 3)

/-- FRN_SET_B (R604): FRN_CMD SET_B sets a cell's bleed at the next boundary. -/
def execFrnSetB (a cell v : Nat) (s : State) : Answer :=
  s.onUnit (.frnSetB a cell v) (fun _ u => (u.wr (R.FRN_CMD_DATA_DATA a) v).frnCmdWrite a cell 4)

/-- FRN_CLR_AGED (R71): FRN_CMD CLR_AGED clears AGED and KCLAMP of a cell at the next boundary. -/
def execFrnClrAged (a cell : Nat) (s : State) : Answer := s.onUnit (.frnClrAged a cell) (fun _ u => u.frnCmdWrite a cell 5)

/-- FRN_EN_WRITE (R78): A write of FRN_CTL EN starts or stops the engine, seeding anew on a change to 1, and is ignored as 0 while converter functions are enabled. -/
def execFrnEnWrite (a : Nat) (en : Bool) (s : State) : Answer := s.onUnit (.frnEnWrite a en) (fun _ u => u.frnEnWrite a en)

/-- LEDGER_STORE (R75): A core store to a ledger record of an enabled arm takes a store access fault and changes nothing. -/
def execLedgerStore (addr size data : Nat) (s : State) : Answer :=
  s.onUnit (.ledgerStore addr size data) (fun t u => (store t u 0 addr size data).2)

/-- SELECTION (R91): After the Firn work, the selection engine ranks cells and settles the level, swaps, trim and grants for the planned departure. -/
def execSelection (a : Nat) (s : State) : Answer := s.onUnit (.selection a) (fun t u => u.selection t a)

/-- MSH_EN_WRITE (R114): A write of MSH_CTL EN starts or stops selection, subject to converter functions and the Firn EN. -/
def execMshEnWrite (a : Nat) (en : Bool) (s : State) : Answer := s.onUnit (.mshEnWrite a en) (fun _ u => u.mshEnWrite a en)

/-- MSH_RETIRE (R111): MSH_CMD RETIRE sets RETIRED of a cell before the next selection. -/
def execMshRetire (a cell : Nat) (s : State) : Answer := s.onUnit (.mshRetire a cell) (fun _ u => u.mshCmdWrite a cell 1)

/-- MSH_RESTORE (R115): MSH_CMD RESTORE clears RETIRED and sets UNSEEDED, refused while converter functions are enabled. -/
def execMshRestore (a cell : Nat) (s : State) : Answer := s.onUnit (.mshRestore a cell) (fun _ u => u.mshCmdWrite a cell 2)

/-- MSH_ROTATE (R97): MSH_CMD ROTATE makes the trim cell due for replacement. -/
def execMshRotate (a : Nat) (s : State) : Answer := s.onUnit (.mshRotate a) (fun _ u => u.mshCmdWrite a 0 3)

/-- MSH_CLR_REQ (R104): MSH_CMD CLR_REQ clears REQ of a cell. -/
def execMshClrReq (a cell : Nat) (s : State) : Answer := s.onUnit (.mshClrReq a cell) (fun _ u => u.mshCmdWrite a cell 4)

end Sys2Proof.Machine
end

