-- ==== Sys2Proof/Machine/ExecBox.lean ====
section
/-! DEFINITION. The commands of the signal box (R459 to R486, R593). -/
namespace Sys2Proof.Machine

/-- SBX_LINE_CHANGE (R468): A signal-box line changes its sampled state and acts per its configured action. -/
def execSbxLineChange (line : Nat) (level : Bool) (s : State) : Answer :=
  s.onUnit (.sbxLineChange line level) (fun t u => u.lineChange t line level)

/-- HW_ALIVE_TIMEOUT (R469): An alive-mode input without a change for ALV_MAX is asserted. -/
def execHwAliveTimeout (j : Nat) (s : State) : Answer := s.onUnit (.hwAliveTimeout j) (fun t u => u.box (fun u => u.aliveTimeout t j))

/-- SBX_HEART_WRITE (R472): A heartbeat write is checked for window and token, moving HB among WAIT, OK and LOST. -/
def execSbxHeartWrite (token tick : Nat) (s : State) : Answer := s.onUnit (.sbxHeartWrite token tick) (fun t u => u.box (fun u => u.heart t token tick))

/-- HEARTBEAT_WINDOW_END (R472): The end of the heartbeat window without a write makes HB LOST. -/
def execHeartbeatWindowEnd (s : State) : Answer := s.onUnit .heartbeatWindowEnd (fun t u => u.box (fun u => u.heartEnd t))

/-- SBX_HS_WRITE (R464): A write of SBX_HS requests high-side switches closed. -/
def execSbxHsWrite (v : Nat) (s : State) : Answer := s.onUnit (.sbxHsWrite v) (fun _ u => u.box (fun u => u.hsWrite v))

/-- SBX_CFG_LOAD_WRITE (R481): A word written to SBX_CFG_LOAD is stored in the configuration being loaded. -/
def execSbxCfgLoadWrite (v : Nat) (s : State) : Answer := s.onUnit (.sbxCfgLoadWrite v) (fun _ u => u.box (fun u => u.cfgLoad v))

/-- SBX_CFG_START (R481): START discards the words held. -/
def execSbxCfgStart (s : State) : Answer := s.onUnit .sbxCfgStart (fun _ u => u.box (fun u => u.cfgStart))

/-- SBX_CFG_LOCK (R482): LOCK checks the configuration and locks it or raises CFG_BAD. -/
def execSbxCfgLock (s : State) : Answer := s.onUnit .sbxCfgLock (fun t u => u.box (fun u => u.cfgLock t))

/-- SBX_CLEAR (R483): Keyed CLEAR clears TRIPPED and the avalanche output when its conditions hold, else CLR_REJ. -/
def execSbxClear (key : Nat) (s : State) : Answer := s.onUnit (.sbxClear key) (fun t u => u.box (fun u => u.sbxClear t key))

/-- SBX_FT_CLR (R484): Keyed FT_CLR empties the first-trip record unless tripped or in glacier mode. -/
def execSbxFtClr (key : Nat) (s : State) : Answer := s.onUnit (.sbxFtClr key) (fun t u => u.box (fun u => u.ftClear t key))

/-- GLACIER_EXPIRE (R476): The glacier timer reaching GLACIER_MAX raises GL_EXPIRE at class 3 and trips. -/
def execGlacierExpire (s : State) : Answer := s.onUnit .glacierExpire (fun t u => u.box (fun u => u.glacierExpire t))

/-- READBACK_SAMPLE (R477): Each microsecond PRk is sampled and a lasting mismatch raises RB_FAULT. -/
def execReadbackSample (pr : Nat) (s : State) : Answer := s.onUnit (.readbackSample pr) (fun t u => u.box (fun u => u.readback t pr))

/-- TEST_PULSE_START (R478): At the start of its slot a test pulse opens the switch under test. -/
def execTestPulseStart (k : Nat) (low : Bool) (s : State) : Answer := s.onUnit (.testPulseStart k low) (fun _ u => u.box (fun u => u.pulseStart k low))

/-- TEST_PULSE_END (R478): At the end of TP_LEN the switch recloses and the readback checks decide the test. -/
def execTestPulseEnd (openedAtEnd energisedAfter : Bool) (s : State) : Answer :=
  s.onUnit (.testPulseEnd openedAtEnd energisedAfter) (fun t u => u.box (fun u => u.pulseEnd t openedAtEnd energisedAfter))

/-- OSC_WINDOW_END (R479): At the end of each millisecond the tick count outside its window raises OSC_DEV. -/
def execOscWindowEnd (count : Nat) (s : State) : Answer := s.onUnit (.oscWindowEnd count) (fun t u => u.box (fun u => u.oscWindow t count))

/-- PEER_STATUS_TIMEOUT (R473): PEER_TMO cycles without a valid peer status assert line 147 and clear PEER_OK. -/
def execPeerStatusTimeout (s : State) : Answer := s.onUnit .peerStatusTimeout (fun t u => u.box (fun u => u.peerTimeout t))

end Sys2Proof.Machine
end

