-- ==== Sys2Proof/Machine/ExecCapture.lean ====
section
/-! DEFINITION. The commands of the ADC of a cell, captures and snapshots (R371 to R408). -/
namespace Sys2Proof.Machine

/-- ADC_CONVERSION (R371): A conversion slot of a slice holds and converts a sample for its entry. -/
def execAdcConversion (cid k raw : Nat) (s : State) : Answer := s.onCell (.adcConversion cid k raw) cid (fun y => y.convert cid k raw)

/-- ADC_ENTRY_ENABLE (R374): A write of 1 to an entry's EN is checked and refused with WR_REJ when invalid. -/
def execAdcEntryEnable (cid n v : Nat) (s : State) : Answer :=
  s.onCellNow (.adcEntryEnable cid n v) cid (fun y ofs => y.adcCfgWrite ofs n v)

/-- ADC_OFS_COMMIT (R379): A write to ADC_ENT_OFS commits SHIFT, OFFSET and the shadowed SCALE. -/
def execAdcOfsCommit (cid n v : Nat) (s : State) : Answer := s.onCellNow (.adcOfsCommit cid n v) cid (fun y ofs => y.adcOfsWrite ofs n v)

/-- ADC_RES_READ (R380): A read of ADC_ENT_RES latches ADC_ENT_RES_DN for the result returned. -/
def execAdcResRead (cid n : Nat) (s : State) : Answer := s.onCell (.adcResRead cid n) cid (fun y => y.adcResRead n)

/-- CAP_ARM (R390): ARM starts a buffer capture in FILL or a stream in STREAM. -/
def execCapArm (s : State) : Answer := s.onUnit .capArm (fun t u => u.capArm t)

/-- CAP_STOP (R390): STOP ends a capture in DONE keeping its rows. -/
def execCapStop (s : State) : Answer := s.onUnit .capStop (fun t u => u.capStop t)

/-- CAP_SWTRIG (R387): SWTRIG is a software trigger of the capture unit. -/
def execCapSwtrig (s : State) : Answer := s.onUnit .capSwtrig (fun _ u => u.capSwtrig)

/-- STREAM_FRAME_SEND (R395): The stream engine sends a full frame of rows on Ethernet. -/
def execStreamFrameSend (s : State) : Answer := s.onUnit .streamFrameSend (fun t u => u.streamFrame t)

/-- STREAM_FLASH_WRITE (R396): The stream engine writes rows into flash, ending with FLASH_END or STOP_CONV. -/
def execStreamFlashWrite (s : State) : Answer := s.onUnit .streamFlashWrite (fun t u => u.streamFlash t)

/-- SNP_FIRE (R397): A snapshot source latches the image and starts its copy, or is refused with SNP_BUSY. -/
def execSnpFire (s : State) : Answer := s.onUnit .snpFire (fun _ u => u.snpFire)

/-- SNAPSHOT_COPY_DONE (R397): The snapshot image copy to SRAM completes. -/
def execSnapshotCopyDone (s : State) : Answer := s.onUnit .snapshotCopyDone (fun _ u => u.snpCopied)

/-- SNP_TCMD_GO (R399): GO of SNP_TCMD issues a timed command to cells, or refuses it with TCMD_REJ. -/
def execSnpTcmdGo (s : State) : Answer := s.onUnit .snpTcmdGo (fun t u => if u.tcmdOk t then u.tcmdGo else u.tcmdRej t)

/-- CCP_ARM (R403): CCP ARM starts the cell capture. -/
def execCcpArm (cid : Nat) (s : State) : Answer := s.onCellNow (.ccpArm cid) cid (fun y ofs => y.ccpArm ofs)

/-- CCP_STOP (R403): CCP STOP ends the cell capture. -/
def execCcpStop (cid : Nat) (s : State) : Answer := s.onCellNow (.ccpStop cid) cid (fun y ofs => y.ccpStop ofs)

/-- CCP_SWTRIG (R403): CCP SWTRIG triggers the cell capture. -/
def execCcpSwtrig (cid : Nat) (s : State) : Answer := s.onCell (.ccpSwtrig cid) cid (fun y => y.ccpTrigger 3)

end Sys2Proof.Machine
end

