-- ==== Sys2Proof/Machine/ExecDepart.lean ====
section
/-! DEFINITION. The commands of converter functions, forced states and the avalanche (R116 to R148, R605 to R607). -/
namespace Sys2Proof.Machine

/-- CONV_EN_WRITE (R119): A write of 1 to CONV_EN is accepted only when every condition of R119 holds, else CONV_REJ; a write of 0 is always accepted. -/
def execConvEnWrite (en : Bool) (s : State) : Answer := s.onUnit (.convEnWrite en) (fun t u => u.convEnWrite t en)

/-- FORCE_SET (R127): A SET force command enters or replaces a pending forced state for a CID, or is refused. -/
def execForceSet (cid code : Nat) (s : State) : Answer := s.onUnit (.forceSet cid code) (fun t u => u.forceSet t cid code)

/-- FORCE_RELEASE (R128): A RELEASE force command places a pending release on an entry from its effective DN. -/
def execForceRelease (cid : Nat) (s : State) : Answer := s.onUnit (.forceRelease cid) (fun t u => u.forceRelease t cid)

/-- FORCE_RELEASE_ALL (R605): RELEASE_ALL places a pending release on every force-table entry. -/
def execForceReleaseAll (s : State) : Answer := s.onUnit .forceReleaseAll (fun t u => u.forceReleaseAll t)

/-- AV_FIRE (R139): A write of FIRE to DEP_AV is a firmware avalanche source. -/
def execAvFire (s : State) : Answer := s.onUnit .avFire (fun t u => u.avFire t)

/-- PEER_AVALANCHE_RX (R141): An avalanche control block arriving over Siding is handled as an avalanche with PEER as source. -/
def execPeerAvalancheRx (block : Nat × List Nat) (s : State) : Answer :=
  s.onUnit (.peerAvalancheRx block) (fun t u => u.peerAvalanche t block)

/-- AV_CLEAR (R144): A write of CLEAR to DEP_AV asks the peer and, when accepted, starts 16 clearing departures, else CLR_REJ. -/
def execAvClear (s : State) : Answer := s.onUnit .avClear (fun t u => u.avClear t)

/-- CLEAR_RUN_END (R145): After 16 clearing departures AV_LATCHED and the sources are cleared. -/
def execClearRunEnd (s : State) : Answer := s.onUnit .clearRunEnd (fun _ u => u.clearRunEnd)

/-- RESET_CLEAR_RUN (R146): After a reset a unit sending as OFFLINE or ACTIVE makes one run of 16 clearing departures. -/
def execResetClearRun (s : State) : Answer := s.onUnit .resetClearRun (fun _ u => u.resetClearRun)

/-- HUB_ORDER_LOSS (R138): After 4 intervals without a valid ORDER frame the hub raises its loss event and avalanches its segment. -/
def execHubOrderLoss (h : Nat) (s : State) : Answer := s.onHub (.hubOrderLoss h) h (fun x w => w.orderLoss x)

/-- HUB_AVALANCHE_RX (R142): A hub receiving an avalanche control block sends K28.7 on every enabled Trackway lane and sets AVL. -/
def execHubAvalancheRx (h lane : Nat) (block : Nat × List Nat) (s : State) : Answer :=
  s.onHub (.hubAvalancheRx h lane block) h (fun _ w => w.avalancheRx lane block)

/-- CELL_K28_7_RX (R143): A cell receiving K28.7 turns all gates off, forwards K28.7 and latches BLOCK. -/
def execCellK287Rx (cid port : Nat) (s : State) : Answer := s.onCellNow (.cellK287Rx cid port) cid (fun y ofs => y.k287Rx ofs port)

/-- CELL_FRAME_RX (R132): A cell checks a downlink frame, holds its order and forwards it with its own changes. -/
def execCellFrameRx (cid port ofs : Nat) (chars : List Nat) (same : Option (List Nat)) (s : State) : Answer :=
  s.onCell (.cellFrameRx cid port ofs chars same) cid (fun y => y.frameRx2 cid port ofs chars same)

/-- CELL_BOUNDARY (R159): At its local boundary a cell drives the pattern resolved by the priority rows of R159. -/
def execCellBoundary (cid : Nat) (stPass : Bool) (s : State) : Answer :=
  s.onCell (.cellBoundary cid stPass) cid (fun y => y.boundary cid stPass)

/-- CELL_WATCHDOG (R135): After WDOG departures without an order the cell enters its safe state. -/
def execCellWatchdog (cid : Nat) (s : State) : Answer :=
  s.onCellNow (.cellWatchdog cid) cid (fun y ofs => if y.watchdogDue then y.enterSafe ofs else y)

/-- DEP_PEEK (R148): A write to DEP_PEEK_DN loads DEP_PEEK_DATA with the order of the selected CID and DN. -/
def execDepPeek (dn : Nat) (s : State) : Answer := s.onUnit (.depPeek dn) (fun t u => u.depPeek t dn)

end Sys2Proof.Machine
end

