-- ==== Sys2Proof/Machine/ExecFault.lean ====
section
/-! DEFINITION. The commands of memory errors and ALIVE (R441 to R458). -/
namespace Sys2Proof.Machine

/-- SCRUB_READ (R452): The background scrubber reads and corrects the next SRAM word. -/
def execScrubRead (chip : Chip) (symbols : Nat) (still : Bool) (s : State) : Answer :=
  s.onChip (.scrubRead chip symbols still) chip (fun t u => (t, u.onMem t (fun io => io.scrub 0x400000000 (if u.domainOff 2 then 0x1800000 else 0x3000000) symbols still)))
    (fun x w => w.onMem x (fun io => io.scrub 0x40000000 0x40000 symbols still))
    (fun _ y ofs => y.onMem ofs (fun io => io.scrub localBase 0x100000 symbols still))

/-- MEMORY_UNCORR_READ (R454): An uncorrectable word read faults the load or reads 0 and raises UNCORR. -/
def execMemoryUncorrRead (chip : Chip) (addr : Nat) (core : Option Nat) (s : State) : Answer :=
  s.onChip (.memoryUncorrRead chip addr core) chip (fun t u => (t, let v := u.onMem t (fun io => io.uncorr 0x400000000 addr false); if core.isSome then v.emit (.loadFault addr) else v))
    (fun x w => (let v := w.onMem x (fun io => io.uncorr 0x40000000 addr false); if core.isSome then v.emit (.loadFault addr) else v))
    (fun _ y ofs => (let v := y.onMem ofs (fun io => io.uncorr localBase addr false); if core.isSome then v.emit (.loadFault addr) else v))

/-- SYS_INJ_WRITE (R456): A write to SYS_INJ arms fault injection, refused with INJ_REJ for critical targets while CONV_EN is 1. -/
def execSysInjWrite (chip : Chip) (toAddr : Bool) (v : Nat) (s : State) : Answer :=
  s.onChip (.sysInjWrite chip toAddr v) chip (fun t u => (t, u.onMem t (fun io => io.injWrite 0x400000000 toAddr 8 (u.on R.DEP_CTL_CONV_EN) v)))
    (fun x w => w.onMem x (fun io => io.injWrite 0x40000000 toAddr 1 false v))
    (fun _ y ofs => y.onMem ofs (fun io => io.injWrite localBase toAddr 1 false v))

/-- ALIVE_TOGGLE (R451): The unit's ALIVE changes level every 500 µs unless stopped. -/
def execAliveToggle (s : State) : Answer := s.onUnit .aliveToggle (fun t u => u.aliveToggle t.lastUs)

end Sys2Proof.Machine
end

