-- ==== Sys2Proof/Machine/ExecGate.lean ====
section
/-! DEFINITION. The commands of the gate engine of a cell (R149 to R181). -/
namespace Sys2Proof.Machine

/-- GTE_PAT_WRITE (R153): A pattern-table write is checked and refused with PAT_REJ if it would short a leg. -/
def execGtePatWrite (cid code v : Nat) (s : State) : Answer :=
  s.onCellNow (.gtePatWrite cid code v) cid (fun y ofs => y.patWrite ofs code v)

/-- GTE_CTL_WRITE (R154): A write of TYPE, BYP_SEL, SAFE or LOCK in GTE_CTL, ignored for locked fields. -/
def execGteCtlWrite (cid v : Nat) (s : State) : Answer := 
  s.onCellNow (.gteCtlWrite cid v) cid (fun y ofs => y.gteCtlWrite ofs v)

/-- TEST_EN_WRITE (R175): A write of TEST_EN enters direct test mode only while the cell executes BLOCK, or leaves it. -/
def execTestEnWrite (cid : Nat) (en : Bool) (s : State) : Answer :=
  s.onCellNow (.testEnWrite cid en) cid (fun y ofs => y.testEnWrite ofs en)

/-- GTE_TEST_WRITE (R177): A write to GTE_TEST applies static leg outputs, discarding a leg that would short. -/
def execGteTestWrite (cid v : Nat) (s : State) : Answer := s.onCellNow (.gteTestWrite cid v) cid (fun y ofs => y.testWrite ofs v)

/-- PWM_RUN_WRITE (R179): A change of RUN to 1 takes both PWM shadows and starts the generator. -/
def execPwmRunWrite (cid : Nat) (run : Bool) (s : State) : Answer := s.onCell (.pwmRunWrite cid run) cid (fun y => y.pwmRun run)

/-- PWM_LOAD (R179): LOAD transfers the PWM shadows at the next period start. -/
def execPwmLoad (cid : Nat) (s : State) : Answer := s.onCell (.pwmLoad cid) cid (fun y => y.wr R.GTE_PWM_CTL_LOAD 1)

/-- PWM_PERIOD_START (R178): At each period start the PWM generator switches its legs and takes loaded shadows. -/
def execPwmPeriodStart (cid : Nat) (s : State) : Answer := s.onCellNow (.pwmPeriodStart cid) cid (fun y ofs => y.pwmPeriod ofs)

/-- CALIBRATION_COMPLETE (R170): A completed calibration swaps the lines if valid, or counts it and takes a line out after three failures. -/
def execCalibrationComplete (cid p q : Nat) (s : State) : Answer :=
  s.onCellNow (.calibrationComplete cid p q) cid (fun y ofs => y.calibrated ofs p q)

/-- REFRESH_REQUEST (R172): A leg's time without refresh reaching ON_MAX − ADV sets the refresh-request flag. -/
def execRefreshRequest (cid leg : Nat) (s : State) : Answer := s.onCell (.refreshRequest cid leg) cid (fun y => y.requestCheck leg)

/-- AUTO_REFRESH (R174): A leg reaching ON_MAX makes an autonomous refresh pulse and raises AUTO_REF. -/
def execAutoRefresh (cid leg : Nat) (s : State) : Answer := s.onCell (.autoRefresh cid leg) cid (fun y => y.autoCheck leg)

end Sys2Proof.Machine
end

