-- ==== Sys2Proof/Machine/ExecLane.lean ====
section
/-! DEFINITION. The commands of serial lanes (R286 to R304). -/
namespace Sys2Proof.Machine

/-- LANE_EN_WRITE (R289): A write of a lane's EN starts bring-up at SIG or squelches the lane to OFF. -/
def execLaneEnWrite (l : LaneAt) (en : Bool) (s : State) : Answer := s.onLane (.laneEnWrite l en) l (fun k _ _ io => io.enWrite k.base en)

/-- LANE_SIGNAL_DETECT (R289): Signal present for 10 µs starts CDR. -/
def execLaneSignalDetect (l : LaneAt) (s : State) : Answer := s.onLane (.laneSignalDetect l) l (fun k _ _ io => io.signal k.base)

/-- LANE_CDR_LOCK (R289): CDR and block or comma lock start equalisation adaptation. -/
def execLaneCdrLock (l : LaneAt) (s : State) : Answer := s.onLane (.laneCdrLock l) l (fun k _ _ io => io.cdrLock k.base)

/-- EQUALISATION_SETTLED (R294): Settled equalisation moves the lane to POL. -/
def execEqualisationSettled (l : LaneAt) (s : State) : Answer := s.onLane (.equalisationSettled l) l (fun k d _ io => io.settled k d.1 d.2)

/-- TRAINING_RX (R289): A received training block or set advances the lane through POL, ID, DESKEW and UP-WAIT. -/
def execTrainingRx (l : LaneAt) (tr : Training) (s : State) : Answer :=
  match l with
  | .hub h n => s.onHub (.trainingRx l tr) h (fun x w => w.trainingRx x n tr)
  | _ => s.onLane (.trainingRx l tr) l (fun k _ _ io => io.training k tr)

/-- LANE_LINK_LOSS (R289): Loss of signal, lock or peer RDY takes an UP lane back to SIG with RETRAIN. -/
def execLaneLinkLoss (l : LaneAt) (s : State) : Answer := s.onLane (.laneLinkLoss l) l (fun k _ _ io => io.linkLoss k.base)

/-- LANE_CODE_ERRORS (R289): Invalid sync headers or code errors beyond the limit take an UP lane back to SIG. -/
def execLaneCodeErrors (l : LaneAt) (n : Nat) (s : State) : Answer := s.onLane (.laneCodeErrors l n) l (fun k _ _ io => io.codeErrors k n)

/-- LANE_CHECK_ERROR (R300): A frame check error is counted in the error window. -/
def execLaneCheckError (l : LaneAt) (s : State) : Answer := s.onLane (.laneCheckError l) l (fun k _ now io => io.checkError k.base now)

/-- CRC_WINDOW_CLOSE (R300): The close of the check-error window returns ERRS to 0. -/
def execCrcWindowClose (l : LaneAt) (s : State) : Answer := s.onLane (.crcWindowClose l) l (fun k _ _ io => io.windowClose k.base)

/-- LANE_RETRAIN_TIMEOUT (R289): A lane not UP for RETRAIN_TMO since it left UP is retired. -/
def execLaneRetrainTimeout (l : LaneAt) (s : State) : Answer :=
  s.onLane (.laneRetrainTimeout l) l (fun k _ _ io => io.retrainTimeout k.base)

/-- DESKEW_TIMEOUT (R293): A lane whose partners have not reached DESKEW within DSK_TMO goes on alone. -/
def execDeskewTimeout (l : LaneAt) (s : State) : Answer := s.onLane (.deskewTimeout l) l (fun k _ _ io => io.deskewTimeout k)

/-- LANE_RESTORE (R301): LNS_CMD RESTORE returns a retired lane to SIG, refused while a test is set. -/
def execLaneRestore (l : LaneAt) (s : State) : Answer := s.onLane (.laneRestore l) l (fun k _ _ io => io.restore k.base)

/-- LANE_RETRAIN_CMD (R304): LNS_CMD RETRAIN restarts the lane at SIG. -/
def execLaneRetrainCmd (l : LaneAt) (s : State) : Answer := s.onLane (.laneRetrainCmd l) l (fun k _ _ io => io.retrainCmd k.base)

/-- LANE_TEST_WRITE (R299): Setting LOOP, GEN or CHK takes effect only while the lane is OFF or RETIRED. -/
def execLaneTestWrite (l : LaneAt) (prbs : Bool) (v : Nat) (s : State) : Answer :=
  s.onLane (.laneTestWrite l prbs v) l (fun k _ _ io => io.testWrite k.base prbs v)

/-- LANE_TXEQ_WRITE (R295): A transmitter equaliser write with taps summing above 63 is refused with WR_REJ. -/
def execLaneTxeqWrite (l : LaneAt) (v : Nat) (s : State) : Answer := s.onLane (.laneTxeqWrite l v) l (fun k _ _ io => io.txeqWrite k v)

end Sys2Proof.Machine
end

