-- ==== Sys2Proof/Machine/ExecLate.lean ====
section
/-! DEFINITION. The commands of the rows that stand last in the table: a check error of the time base, the glacier timer, the supplies and
oscillator of the signal box, releases and completions of reset, start, SEC and flash, the PRBS checker, an Ethernet link (R50, R285,
R297, R466, R476, R516, R529, R536, R557, R575, R593). -/
namespace Sys2Proof.Machine

/-- TIME_BASE_CHECK_ERROR (R50): A check error in the time base state or in TIM_INC raises TB_ERR at class 2, and on an active unit is a relinquish cause. -/
def execTimeBaseCheckError (s : State) : Answer := s.onUnit .timeBaseCheckError (fun t u => u.timeBaseError t)

/-- GLACIER_TIMER_RESET (R476): After GL_ACTIVE has been 0 without a break for GLACIER_MAX seconds the glacier timer returns to 0, so GL_EXPIRE may be raised again. -/
def execGlacierTimerReset (s : State) : Answer := s.onUnit .glacierTimerReset (fun _ u => u.box (fun u => u.glacierReset))

/-- VSBX_RELEASE (R593): 100 µs after VSBX is again above 3.00 V the signal box leaves reset with its configuration EMPTY. -/
def execVsbxRelease (s : State) : Answer := s.onUnit .vsbxRelease (fun t u => u.vsbxRelease t)

/-- SBX_OSCILLATOR_STOP (R466): When the signal box oscillator stops, the charge pumps stop and every low side opens within 50 µs. -/
def execSbxOscillatorStop (s : State) : Answer := s.onUnit .sbxOscillatorStop (fun _ u => u.oscStop)

/-- RESET_SOURCE_RELEASE (R516): A reset source is released, such as RESET_N going high or a supply rising above its POR threshold, and stage HOLD may end 10 µs after the last release. -/
def execResetSourceRelease (chip : Chip) (src : Nat) (s : State) : Answer :=
  s.onController (.resetSourceRelease chip src) chip (fun t u => (t, u.resetRelease src)) (fun h => h.resetRelease src)

/-- DOMAIN_POWER_UP_DONE (R529): A domain powered up again completes stages 4 and 5 for that domain alone, BUSY clears and the domain may be used. -/
def execDomainPowerUpDone (s : State) : Answer := s.onUnit .domainPowerUpDone (fun t u => u.powerUpDone t)

/-- START_TIMEOUT (R536): When START_TMO expires, the cells still missing are marked retired and counted. -/
def execStartTimeout (s : State) : Answer := s.onUnit .startTimeout (fun _ u => u.startTimeout)

/-- SEC_COMMAND_DONE (R557): A running SEC or CSE command (VERIFY, JRN_WRITE, COMMIT_ARB and the others) completes: BUSY clears, DONE or REJ and RESULT are set, and VERIFY_FAIL or JRN_FAIL may be raised. -/
def execSecCommandDone (chip : Chip) (fail : Bool) (s : State) : Answer :=
  s.onChip (.secCommandDone chip fail) chip (fun t u => (t, u.secDone t fail))
    (fun _ w => w)
    (fun _ y _ => y.cseDone)

/-- XSPI_OPERATION_DONE (R575): A flash program or erase ends, so a store that waited for the busy flash proceeds. -/
def execXspiOperationDone (s : State) : Answer := s.onUnit .xspiOperationDone (fun _ u => u.xspiDone)

/-- PRBS_LOCK_CHANGE (R297): The PRBS checker sets CHK_LOCK after 64 agreeing bits, or clears it after 64 errors in 1,024 bits and seeds again. -/
def execPrbsLockChange (l : LaneAt) (xs : List Bool) (s : State) : Answer :=
  s.onLane (.prbsLockChange l xs) l (fun k _ _ io => io.prbsRx k.base xs)

/-- PBX_LINK_UP (R285): The link of an Ethernet port comes up and its UP bit in PBX_LINK is set. -/
def execPbxLinkUp (port : Nat) (s : State) : Answer := s.onUnit (.pbxLinkUp port) (fun _ u => u.linkUp port)

end Sys2Proof.Machine
end

