-- ==== Sys2Proof/Machine/ExecLink.lean ====
section
/-! DEFINITION. The commands of Trackway, Mainline and the point service (R305 to R370). -/
namespace Sys2Proof.Machine

/-- HUB_BOUNDARY (R350): The hub's departure grid reaches a boundary. -/
def execHubBoundary (h : Nat) (s : State) : Answer := s.onHub (.hubBoundary h) h (fun x w => w.boundary x)

/-- RPT_MISS (R323): A report finding no frame within d + 1,120 ns is lost and raises RPT_MISS. -/
def execRptMiss (cid : Nat) (s : State) : Answer := s.onCellNow (.rptMiss cid) cid (fun y ofs => y.reportMiss ofs)

/-- HUB_TRACKWAY_RX (R324): A hub receives an uplink Trackway frame at a loop end and forwards its first copies of reports. -/
def execHubTrackwayRx (h lane transit : Nat) (chars : List Nat) (same : Option (Nat × List Nat)) (s : State) : Answer :=
  s.onHub (.hubTrackwayRx h lane transit chars same) h (fun x w => w.trackwayRx2 x lane transit chars same)

/-- HUB_FRAME_DROP (R332): A hub-to-unit frame not started within 1 µs is dropped and FDROP raised. -/
def execHubFrameDrop (h loop : Nat) (s : State) : Answer := s.onHub (.hubFrameDrop h loop) h (fun x w => w.frameDrop x loop)

/-- HUB_UNREACH (R325): A seen position unseen for 16 departures makes the hub send NOTICE UNREACH. -/
def execHubUnreach (h loop pos : Nat) (s : State) : Answer := s.onHub (.hubUnreach h loop pos) h (fun _ w => w.unreach loop pos)

/-- NOTICE_RX (R325): A central unit receiving UNREACH retires the cell, or on REJOIN sets UNSEEDED and re-attests it. -/
def execNoticeRx (lane : Nat) (blocks : List (Nat × List Nat)) (s : State) : Answer :=
  s.onUnit (.noticeRx lane blocks) (fun t u => u.noticeRx t lane blocks)

/-- HUB_ORDER_RX (R330): The hub checks an ORDER frame and keeps the first valid one per DN. -/
def execHubOrderRx (h lane arr done : Nat) (blocks : List (Nat × List Nat)) (s : State) : Answer :=
  s.onHub (.hubOrderRx h lane arr done blocks) h (fun x w => w.orderRx x lane arr done blocks)

/-- LOOP_FRAME_RX (R333): A central unit checks a LOOP frame and queues each valid report to its arm engine. -/
def execLoopFrameRx (lane : Nat) (blocks : List (Nat × List Nat)) (s : State) : Answer :=
  s.onUnit (.loopFrameRx lane blocks) (fun t u => u.loopFrame t lane blocks)

/-- MAIL_RX (R333): A central unit checks a MAIL frame and hands its mailbox to MLK, SEC or firmware. -/
def execMailRx (lane arr : Nat) (blocks : List (Nat × List Nat)) (s : State) : Answer :=
  s.onUnit (.mailRx lane arr blocks) (fun t u => u.mailRx t lane arr blocks)

/-- POINT_REQUEST_RX (R338): A cell executes, re-answers or ignores a point request addressed to it. -/
def execPointRequestRx (cid : Nat) (octets : List Nat) (same : Option (List Nat)) (s : State) : Answer :=
  s.onCellNow (.pointRequestRx cid octets same) cid (fun y ofs => y.pointRequest2 cid ofs octets same)

/-- RSP_DROP (R339): A response not placed within 64 departures is dropped and RSP_DROP raised. -/
def execRspDrop (cid : Nat) (s : State) : Answer := s.onCellNow (.rspDrop cid) cid (fun y ofs => y.dropResponses ofs)

/-- POINT_REQUEST_SEND (R343): MLK takes a request from the ring and sends it when its loop has none outstanding. -/
def execPointRequestSend (s : State) : Answer := s.onUnit .pointRequestSend (fun t u => u.requestSend t)

/-- POINT_RETRY_TIMEOUT (R345): No response within PTS_TMO resends the request, or completes it with TIMEOUT and PTS_FAIL. -/
def execPointRetryTimeout (h loop : Nat) (s : State) : Answer := s.onUnit (.pointRetryTimeout h loop) (fun t u => u.retryTimeout t h loop)

/-- POINT_RESPONSE_RX (R344): A matching response completes its request; an unmatched one is counted in STRAY. -/
def execPointResponseRx (h : Nat) (octets : List Nat) (s : State) : Answer :=
  s.onUnit (.pointResponseRx h octets) (fun t u => u.pointResponse t h octets)

/-- COMPLETION_WRITE (R344): A completion is written to the completion ring once there is room. -/
def execCompletionWrite (s : State) : Answer := s.onUnit .completionWrite (fun _ u => u.completionWrite)

/-- LOOP_MEASUREMENT (R361): The hub starts a loop measurement by sending SKEW_REQ. -/
def execLoopMeasurement (h loop : Nat) (s : State) : Answer := s.onHub (.loopMeasurement h loop) h (fun _ w => w.measure loop)

/-- MEASUREMENT_COMPLETE (R359): After collecting SKEW_RSP the hub computes offsets, sends TIME_SET and PATH. -/
def execMeasurementComplete (h loop : Nat) (s : State) : Answer := s.onHub (.measurementComplete h loop) h (fun x w => w.measureDone x loop)

/-- PATH_RX (R28): A central unit receiving a PATH runs the lead check of that hub. -/
def execPathRx (h dlyA dlyB dlMax : Nat) (s : State) : Answer :=
  s.onUnit (.pathRx h dlyA dlyB dlMax) (fun t u => u.pathRx t h dlyA dlyB dlMax)

/-- HUB_HEARTBEAT_WRITE (R367): A write of HSY_HEART restarts the hub's heartbeat supervision. -/
def execHubHeartbeatWrite (h v : Nat) (s : State) : Answer := s.onHub (.hubHeartbeatWrite h v) h (fun _ w => w.heartbeat v)

/-- HUB_HB_LOST (R367): No heartbeat for HB_MAX raises HB_LOST, stops ALIVE and resets the management core. -/
def execHubHbLost (h : Nat) (s : State) : Answer := s.onHub (.hubHbLost h) h (fun x w => w.heartLost x)

/-- HUB_MEM_UNC (R367): An uncorrectable error in an HTW or HDP table raises MEM_UNC. -/
def execHubMemUnc (h : Nat) (s : State) : Answer := s.onHub (.hubMemUnc h) h (fun x w => w.tableError x 2)

/-- HUB_ALIVE_TOGGLE (R368): The hub's ALIVE toggles at 1 kHz unless stopped. -/
def execHubAliveToggle (h : Nat) (s : State) : Answer := s.onHub (.hubAliveToggle h) h (fun _ w => w.aliveToggle)

/-- REG_REQ (R366): The management core serves a register request and answers the requesting unit. -/
def execRegReq (h : Nat) (s : State) : Answer := s.onHub (.regReq h) h (fun x w => w.regReq x)

end Sys2Proof.Machine
end

