-- ==== Sys2Proof/Machine/ExecLoop.lean ====
section
/-! DEFINITION. The commands of the control loop engine (R215 to R252). -/
namespace Sys2Proof.Machine

/-- LPE_RUN_COMMIT (R222): A run's outputs are committed to the board when its last slot completes. -/
def execLpeRunCommit (g : Nat) (s : State) : Answer := s.onUnit (.lpeRunCommit g) (fun t u => u.runCommit t g)

/-- BOARD_CORE_STORE (R216): A core store to a board entry is applied only to general entries no enabled slot writes, else WR_REJ. -/
def execBoardCoreStore (e v : Nat) (s : State) : Answer := s.onUnit (.boardCoreStore e v) (fun t u => u.boardStore t e v)

/-- SLOT_CTL_WRITE (R229): A write of slot configuration fields is refused with WR_REJ while EN is 1. -/
def execSlotCtlWrite (sl reg v : Nat) (s : State) : Answer := s.onUnit (.slotCtlWrite sl reg v) (fun t u => u.slotWrite t sl reg v)

/-- SLOT_ENABLE (R230): A write of 1 to a slot's EN is checked and refused with WR_REJ when invalid. -/
def execSlotEnable (sl : Nat) (s : State) : Answer := s.onUnit (.slotEnable sl) (fun t u => u.slotEnable t sl)

/-- SLOT_STATE_STORE (R233): A core store to a state word of a slot in service is refused with WR_REJ. -/
def execSlotStateStore (sl n v : Nat) (s : State) : Answer := s.onUnit (.slotStateStore sl n v) (fun t u => u.slotStateStore t sl n v)

/-- SLOT_COEF_STORE (R243): A core store to a coefficient word is atomic and used from the slot's next computation. -/
def execSlotCoefStore (sl n v : Nat) (s : State) : Answer := s.onUnit (.slotCoefStore sl n v) (fun _ u => u.slotCoefStore sl n v)

/-- LPE_MEM_ERROR (R249): An uncorrectable error in a slot record or board entry holds the slot or zeroes the entry and raises MEM_ERR. -/
def execLpeMemError (entry : Bool) (n : Nat) (corrected : Bool) (s : State) : Answer :=
  s.onUnit (.lpeMemError entry n corrected) (fun t u => u.lpeMemError t entry n corrected)

/-- LPE_EN_WRITE (R252): A write of LPE_CTL EN starts or stops runs, ignored as 0 while converter functions are enabled. -/
def execLpeEnWrite (en : Bool) (s : State) : Answer := s.onUnit (.lpeEnWrite en) (fun _ u => u.lpeEnWrite en)

end Sys2Proof.Machine
end

