-- ==== Sys2Proof/Machine/ExecPair.lean ====
section
/-! DEFINITION. The commands of the redundant pair (R487 to R511). -/
namespace Sys2Proof.Machine

/-- CTRL_RX (R491): A valid peer CTRL updates peer state, digests, offset and role decisions. -/
def execCtrlRx (parts : List (Nat × List (Nat × List Nat))) (s : State) : Answer := s.onUnit (.ctrlRx parts) (fun t u => u.ctrlRx t parts)

/-- MIRROR_SECTION_RX (R495): A received mirror section is checked and held for application or discarded as late. -/
def execMirrorSectionRx (parts : List (Nat × List (Nat × List Nat))) (s : State) : Answer :=
  s.onUnit (.mirrorSectionRx parts) (fun t u => u.sectionRx t parts)

/-- RELINQUISH_RX (R488): A STANDBY unit receiving RELINQUISH becomes ACTIVE. -/
def execRelinquishRx (block : Nat × List Nat) (s : State) : Answer :=
  s.onUnit (.relinquishRx block) (fun _ u => u.relinquishRx block)

/-- SDL_JOIN (R502): JOIN makes an OFFLINE unit join the pair as SYNCING or ACTIVE. -/
def execSdlJoin (s : State) : Answer := s.onUnit .sdlJoin (fun t u => u.join t)

/-- SDL_SWAP (R506): SWAP starts a handover on the ACTIVE unit, or is refused with SWAP_REJ. -/
def execSdlSwap (s : State) : Answer := s.onUnit .sdlSwap (fun t u => u.swap t)

/-- SDL_RELQ (R504): RELQ is a relinquish cause written by firmware. -/
def execSdlRelq (s : State) : Answer := s.onUnit .sdlRelq (fun t u => u.relinquishCause t 0)

/-- SDL_REJOIN (R502): REJOIN moves a RELINQUISHED unit to SYNCING. -/
def execSdlRejoin (s : State) : Answer := s.onUnit .sdlRejoin (fun _ u => u.rejoin)

/-- SDL_REGION_WRITE (R493): A region declaration breaking the mirror budget is refused with WR_REJ. -/
def execSdlRegionWrite (r : Nat) (len : Bool) (v : Nat) (s : State) : Answer :=
  s.onUnit (.sdlRegionWrite r len v) (fun t u => u.regionWrite t r len v)

/-- JOIN_TIMEOUT (R502): JOIN pending for JOIN_TMO without an ACTIVE peer makes the unit ACTIVE. -/
def execJoinTimeout (s : State) : Answer := s.onUnit .joinTimeout (fun _ u => u.joinTimeout)

/-- PEER_LOST (R505): No valid peer CTRL for TAKE_TMO cycles makes a SYNCING or STANDBY unit ACTIVE. -/
def execPeerLost (s : State) : Answer := s.onUnit .peerLost (fun t u => u.peerLost t)

/-- CLEAR_ANSWER_TIMEOUT (R508): No answer to a clear request within 3 cycles raises CLR_REJ. -/
def execClearAnswerTimeout (s : State) : Answer := s.onUnit .clearAnswerTimeout (fun t u => u.clearTimeout t)

/-- REV_HOLD_EXPIRE (R506): The preferred unit STANDBY for REV_HOLD sets REV to ask for the active role back. -/
def execRevHoldExpire (s : State) : Answer := s.onUnit .revHoldExpire (fun _ u => u.revHold)

/-- RLQ_RESET (R504): 1 ms after relinquishing with RLQ_RST the unit requests its own system reset. -/
def execRlqReset (s : State) : Answer := s.onTime .rlqReset (fun t u => rlqReset t u)

end Sys2Proof.Machine
end

