-- ==== Sys2Proof/Machine/ExecProtect.lean ====
section
/-! DEFINITION. The commands of protection and bypass of a cell (R182 to R214). -/
namespace Sys2Proof.Machine

/-- COMPARATOR_TRIP (R187): A level-1 or level-2 crossing turns off the affected legs within 15 ns and sets their holds. -/
def execComparatorTrip (cid : Nat) (ins : List (Nat × Nat)) (s : State) : Answer :=
  s.onCellNow (.comparatorTrip cid ins) cid (fun y ofs => y.crossing cid ofs ins)

/-- BLANK_WINDOW_CLOSE (R184): At the close of a blanking window a level-1 input still above threshold trips. -/
def execBlankWindowClose (cid sws : Nat) (ins : List (Nat × Nat)) (s : State) : Answer :=
  s.onCellNow (.blankWindowClose cid sws ins) cid (fun y ofs => y.blankClose cid ofs sws ins)

/-- SOFT_OFF_END (R191): When T_SOFT ends the cell makes a bypass request, raises the cause at class 3 and reports. -/
def execSoftOffEnd (cid : Nat) (s : State) : Answer := s.onCellNow (.softOffEnd cid) cid (fun y ofs => y.softEnd ofs)

/-- BYP_WAIT_EXPIRE (R192): BYP_WAIT boundaries after a bypass request with BYP_AUTO the cell starts retirement itself. -/
def execBypWaitExpire (cid : Nat) (s : State) : Answer :=
  s.onCellNow (.bypWaitExpire cid) cid (fun y ofs => if y.bypassDue then y.startRetire ofs false else y)

/-- PRT_THR_WRITE (R183): A threshold write leaving L2 at or below L1 is refused with THR_REJ. -/
def execPrtThrWrite (cid sw v : Nat) (s : State) : Answer := s.onCellNow (.prtThrWrite cid sw v) cid (fun y ofs => y.thrWrite ofs sw v)

/-- PRT_OVA_WRITE (R195): A dump-threshold write leaving DMP_OFF at or above DMP_ON is refused. -/
def execPrtOvaWrite (cid v : Nat) (s : State) : Answer := s.onCell (.prtOvaWrite cid v) cid (fun y => y.ovaWrite v)

/-- CLR_HOLD (R189): PRT_CMD CLR_HOLD clears every leg hold when its conditions hold, else is refused. -/
def execClrHold (cid : Nat) (ins : List (Nat × Nat)) (s : State) : Answer :=
  s.onCell (.clrHold cid ins) cid (fun y => y.clrHoldNow cid ins)

/-- SELFTEST (R208): PRT_CMD SELFTEST starts a comparator self-test of the masked comparators. -/
def execSelftest (cid mask : Nat) (s : State) : Answer := s.onCell (.selftest cid mask) cid (fun y => y.selftest mask)

/-- SELFTEST_TIMEOUT (R210): A self-test not complete within 1,024 departures ends with ST_ABORT. -/
def execSelftestTimeout (cid : Nat) (s : State) : Answer := s.onCellNow (.selftestTimeout cid) cid (fun y ofs => y.testTimeout ofs)

/-- CLR_JOURNAL (R206): PRT_CMD CLR_JOURNAL clears the retirement record once the sequence has ended. -/
def execClrJournal (cid : Nat) (s : State) : Answer := s.onCell (.clrJournal cid) cid (fun y => y.clrJournal)

/-- DMP_TMAX_EXPIRE (R196): DMP on for DMP_TMAX is forced off and DUMP_LONG raised. -/
def execDmpTmaxExpire (cid : Nat) (s : State) : Answer := s.onCellNow (.dmpTmaxExpire cid) cid (fun y ofs => y.dumpLimit ofs)

/-- OV2_CROSSING (R199): The analogue overvoltage comparator turns all outputs off, raises OV2 and starts retirement. -/
def execOv2Crossing (cid : Nat) (ins : List (Nat × Nat)) (s : State) : Answer :=
  s.onCellNow (.ov2Crossing cid ins) cid (fun y ofs => y.crossing cid ofs ins)

/-- UVLO_ENTRY (R200): VAUX or the core rail below threshold activates the lock-out and holds all outputs at 0. -/
def execUvloEntry (cid : Nat) (s : State) : Answer := s.onCellNow (.uvloEntry cid) cid (fun y ofs => y.uvloEnter ofs)

/-- UVLO_RELEASE (R200): After 10 µs of good supply the lock-out releases, advances UVLO_CNT and raises UVLO_SEEN. -/
def execUvloRelease (cid : Nat) (ins : List (Nat × Nat)) (s : State) : Answer :=
  s.onCellNow (.uvloRelease cid ins) cid (fun y ofs => y.uvloRelease cid ofs ins)

/-- CELL_POR (R202): VAUX below 2.5 V resets the cell and clears the RETIRE latch but keeps the journal record. -/
def execCellPor (cid : Nat) (s : State) : Answer := s.onCell (.cellPor cid) cid (fun y => y.powerOn)

/-- RETIREMENT_RECORD_DONE (R204): The retirement record completes in the journal flash. -/
def execRetirementRecordDone (cid : Nat) (s : State) : Answer := s.onCell (.retirementRecordDone cid) cid (fun y => y.recordDone)

/-- BYC_PULSE_START (R204): At BYC_DLY after the start BYC is driven to 1 for BYC_PULSE. -/
def execBycPulseStart (cid : Nat) (s : State) : Answer := s.onCell (.bycPulseStart cid) cid (fun y => y.bycStart)

/-- BYC_PULSE_END (R204): BYC returns to 0 at the end of its pulse. -/
def execBycPulseEnd (cid : Nat) (s : State) : Answer := s.onCell (.bycPulseEnd cid) cid (fun y => y.bycEnd)

/-- BYC_CONFIRM (R204): BYCS high for 100 µs confirms the bypass switch closed and schedules BYF off. -/
def execBycConfirm (cid : Nat) (s : State) : Answer := s.onCell (.bycConfirm cid) cid (fun y => y.bycConfirm)

/-- BYC_TIMEOUT (R204): No confirmation within BYC_TMO raises BYC_FAIL at class 3. -/
def execBycTimeout (cid : Nat) (s : State) : Answer := s.onCellNow (.bycTimeout cid) cid (fun y ofs => y.bycTimeout ofs)

/-- BYF_RELEASE (R204): BYF returns to 0 1 ms after the confirmation. -/
def execByfRelease (cid : Nat) (s : State) : Answer := s.onCell (.byfRelease cid) cid (fun y => y.byfRelease)

/-- BYF_PULSE (R204): From BYF_T without confirmation BYF pulses 10 µs in every 100 µs. -/
def execByfPulse (cid : Nat) (level : Bool) (s : State) : Answer := s.onCell (.byfPulse cid level) cid (fun y => y.byfPulse level)

/-- GATE_MISMATCH (R207): A gate feedback mismatch for three cycles raises GATE_MISMATCH and acts as a level-1 trip. -/
def execGateMismatch (cid sw : Nat) (high : Bool) (s : State) : Answer :=
  s.onCellNow (.gateMismatch cid sw high) cid (fun y ofs => y.gateMismatch ofs sw high)

end Sys2Proof.Machine
end

