-- ==== Sys2Proof/Machine/ExecReset.lean ====
section
/-! DEFINITION. The commands of reset, power and configuration (R512 to R544). -/
namespace Sys2Proof.Machine

/-- RESET_ASSERT (R516): A reset source asserts, beginning or widening a reset episode, of the unit or of a hub (R542). -/
def execResetAssert (chip : Chip) (src reach block : Nat) (s : State) : Answer :=
  s.onController (.resetAssert chip src reach block) chip (fun t u => resetAssert t u src reach block) (fun h => h.resetAssert src reach block)

/-- RESET_STAGE_COMPLETE (R515): A reset exit stage completes and the next stage of the episode reach begins. -/
def execResetStageComplete (chip : Chip) (straps : Nat) (s : State) : Answer :=
  s.onController (.resetStageComplete chip straps) chip (fun t u => stageComplete t u straps) (fun h => h.stageComplete)

/-- FUSE_LOAD_DONE (R523): A fuse load passes and applies trims, or fails and is retried up to three times; `words` is what it has read. -/
def execFuseLoadDone (chip : Chip) (words : List Nat) (s : State) : Answer :=
  s.onController (.fuseLoadDone chip words) chip (fun t u => (t, u.fuseDone t words)) (fun h => h.fuseDone words)

/-- OSC_STOP_DETECT (R519): No reset-oscillator edge for 1 µs engages the analogue stretcher. -/
def execOscStopDetect (s : State) : Answer := s.onReset .oscStopDetect (fun t u => oscStopDetect t u)

/-- STRETCH_RELEASE (R519): The stretcher releases and a Cold episode with source STRETCH runs. -/
def execStretchRelease (s : State) : Answer := s.onReset .stretchRelease (fun t u => stretchRelease t u)

/-- SYS_RST_SYSTEM (R526): A keyed SYS_RST_SW write requests a System reset. -/
def execSysRstSystem (key : Nat) (s : State) : Answer := s.onTime (.sysRstSystem key) (fun t u => rstSystem t u key)

/-- SYS_RST_ENGINE (R526): A keyed SYS_RST_SW write requests an Engine reset, refused while CONV_EN is 1. -/
def execSysRstEngine (key : Nat) (s : State) : Answer := s.onTime (.sysRstEngine key) (fun t u => rstEngine t u key)

/-- SYS_RST_BLOCK (R526): A keyed SYS_RST_SW write requests a Block reset of an allowed block. -/
def execSysRstBlock (key block : Nat) (s : State) : Answer := s.onTime (.sysRstBlock key block) (fun t u => rstBlock t u key block)

/-- SYS_RST_PEER (R526): A keyed write with PEER sends PEER_RESET on Siding. -/
def execSysRstPeer (key : Nat) (s : State) : Answer := s.onUnit (.sysRstPeer key) (fun t u => u.rstPeer t key)

/-- PEER_RESET_RX (R526): A received PEER_RESET asserts PEER when enabled and not ACTIVE, else RST_REJ. -/
def execPeerResetRx (block : Nat × List Nat) (s : State) : Answer := s.onTime (.peerResetRx block) (fun t u => peerResetRx t u block)

/-- WDOG_ENABLE (R527): A write of EN starts the system watchdog. -/
def execWdogEnable (s : State) : Answer := s.onUnit .wdogEnable (fun _ u => u.wdogEnable)

/-- WDOG_KICK (R527): A write of 0xD0C5 restarts the watchdog period. -/
def execWdogKick (key : Nat) (s : State) : Answer := s.onUnit (.wdogKick key) (fun _ u => u.wdogKick key)

/-- WDOG_PERIOD_END (R527): A period without a kick raises WDOG_WARN, and a second asserts WDOG. -/
def execWdogPeriodEnd (s : State) : Answer := s.onTime .wdogPeriodEnd (fun t u => wdogPeriodEnd t u)

/-- DIE_TEMP_CHANGE (R528): The die temperature crossing OT_WARN or OT_RST raises OT_WARN or the OT reset. -/
def execDieTempChange (chip : Chip) (temp : Int) (s : State) : Answer :=
  match chip with
  | .unit => s.onReset (.dieTempChange chip temp) (fun t u => dieTempChange t u temp)
  | .hub h => s.onHub (.dieTempChange chip temp) h (fun _ w => w.dieTemp temp)
  | .cell cid => s.onCell (.dieTempChange chip temp) cid (fun y => y)

/-- SYS_PWR_WRITE (R529): A write of SYS_PWR powers domains down or up, all or none, or is refused with PWR_REJ. -/
def execSysPwrWrite (v : Nat) (s : State) : Answer := s.onUnit (.sysPwrWrite v) (fun t u => u.pwrWrite t v)

/-- CORE_RELEASE (R532): A write of SYS_CORE_REL releases a core at SYS_CORE_ENTRY. -/
def execCoreRelease (v : Nat) (s : State) : Answer := s.onUnit (.coreRelease v) (fun _ u => u.coreRelease v)

/-- BAK_CLR_CNT (R521): Keyed BAK command CLR_CNT sets the reset counter to 0. -/
def execBakClrCnt (key : Nat) (s : State) : Answer := s.onUnit (.bakClrCnt key) (fun _ u => u.bakClear key true false false)

/-- BAK_CLR_HIST (R521): Keyed BAK command CLR_HIST empties the cause history. -/
def execBakClrHist (key : Nat) (s : State) : Answer := s.onUnit (.bakClrHist key) (fun _ u => u.bakClear key false true false)

/-- BAK_CLR_LF (R521): Keyed BAK command CLR_LF empties the last-fault record. -/
def execBakClrLf (key : Nat) (s : State) : Answer := s.onUnit (.bakClrLf key) (fun _ u => u.bakClear key false false true)

/-- VBAK_RISE (R521): VBAK rising with a failed BAK check clears BAK, raising BAK_LOST at the next boot; `octets` is what BAK holds then. -/
def execVbakRise (octets : List Nat) (s : State) : Answer := s.onReset (.vbakRise octets) (fun t u => (t, u.vbakRise octets))

/-- VSBX_UNDERVOLTAGE (R593): VSBX below 2.90 V resets the signal box and opens every low side. -/
def execVsbxUndervoltage (s : State) : Answer := s.onUnit .vsbxUndervoltage (fun _ u => u.vsbxLow)

/-- CONFIG_BLOCK_RX (R541): A cell assembles configuration blocks and on the last checks, applies and answers the set. -/
def execConfigBlockRx (cid : Nat) (octets : List Nat) (s : State) : Answer :=
  s.onCell (.configBlockRx cid octets) cid (fun y => y.cfgBlock octets)

/-- CONFIG_RESEND_TIMEOUT (R541): No OK answer within 64 departures makes MLK resend the set, up to 3 attempts. -/
def execConfigResendTimeout (cid : Nat) (s : State) : Answer := s.onUnit (.configResendTimeout cid) (fun t u => u.configResend t cid)

/-- CELL_SELF_RESET (R544): The cell performs its commanded reset with power-on reach. -/
def execCellSelfReset (cid : Nat) (s : State) : Answer := s.onCell (.cellSelfReset cid) cid (fun y => y.selfReset)

end Sys2Proof.Machine
end

