-- ==== Sys2Proof/Machine/ExecSched.lean ====
section
/-! DEFINITION. The commands of cores and the hardware scheduler (R409 to R440). -/
namespace Sys2Proof.Machine

/-- SCH_WAIT_READ (R416): A read of SCH_WAIT ends any open run and blocks until a thread is dispatched to the core. -/
def execSchWaitRead (core : Nat) (s : State) : Answer := s.onUnit (.schWaitRead core) (fun t u => u.waitRead t core)

/-- END_WAIT (R420): SCH_END WAIT ends the run, completing its item, and leaves the thread WAITING or READY. -/
def execEndWait (core : Nat) (s : State) : Answer := s.onUnit (.endWait core) (fun t u => u.endRun t core 0)

/-- END_WAIT_UNTIL (R424): SCH_END WAIT_UNTIL ends the run with a timetable deadline. -/
def execEndWaitUntil (core : Nat) (s : State) : Answer := s.onUnit (.endWaitUntil core) (fun t u => u.endRun t core 1)

/-- END_YIELD (R420): SCH_END YIELD ends the run and puts the thread at the tail of its ready list. -/
def execEndYield (core : Nat) (s : State) : Answer := s.onUnit (.endYield core) (fun t u => u.endRun t core 2)

/-- END_EXIT (R420): SCH_END EXIT ends the run and frees the thread. -/
def execEndExit (core : Nat) (s : State) : Answer := s.onUnit (.endExit core) (fun t u => u.endRun t core 3)

/-- RELEASE_RESUME (R432): A release waiting for ring room or pool entries proceeds when room appears. -/
def execReleaseResume (flow : Nat) (s : State) : Answer := s.onUnit (.releaseResume flow) (fun t u => u.resume t flow)

/-- SCH_CREATE (R422): CREATE moves a thread from FREE to WAITING. -/
def execSchCreate (core th : Nat) (s : State) : Answer := s.onUnit (.schCreate core th) (fun t u => u.schCommand t core 1 th)

/-- SCH_DESTROY (R422): DESTROY frees a waiting or ready thread. -/
def execSchDestroy (core th : Nat) (s : State) : Answer := s.onUnit (.schDestroy core th) (fun t u => u.schCommand t core 2 th)

/-- SCH_READY (R423): READY makes a waiting thread ready, or sets WAKE of a running one; `cancel` is the core whose CANCEL of the thread
comes in the same handshake. -/
def execSchReady (core th : Nat) (cancel : Option Nat) (s : State) : Answer :=
  s.onUnit (.schReady core th cancel) (fun t u => match cancel with
    | none => u.schCommand t core 3 th
    | some other => u.cmdReadyCancel t core th other)

/-- SCH_CANCEL (R423): CANCEL returns a ready thread to WAITING, or returns TOO_LATE. -/
def execSchCancel (core th : Nat) (s : State) : Answer := s.onUnit (.schCancel core th) (fun t u => u.schCommand t core 4 th)

/-- SCH_RESTART (R422): RESTART moves a faulted thread to WAITING. -/
def execSchRestart (core th : Nat) (s : State) : Answer := s.onUnit (.schRestart core th) (fun t u => u.schCommand t core 5 th)

/-- SCH_POST (R433): POST queues an item on a flow for its default thread. -/
def execSchPost (core flow : Nat) (s : State) : Answer := s.onUnit (.schPost core flow) (fun t u => u.schCommand t core 6 flow)

/-- SCH_RETIRE_CORE (R437): RETIRE_CORE retires a core not running a thread. -/
def execSchRetireCore (core target : Nat) (s : State) : Answer :=
  s.onUnit (.schRetireCore core target) (fun t u => u.schCommand t core 7 target)

/-- SCH_RESTORE_CORE (R437): RESTORE_CORE releases a retired core at the secondary entry. -/
def execSchRestoreCore (core target : Nat) (s : State) : Answer :=
  s.onUnit (.schRestoreCore core target) (fun t u => u.schCommand t core 8 target)

/-- SCH_CMD_RES_READ (R422): A read of SCH_CMD_RES blocks until the command has been served. -/
def execSchCmdResRead (core : Nat) (s : State) : Answer := s.onUnit (.schCmdResRead core) (fun _ u => u.cmdResRead core)

/-- SCH_IPI_WRITE (R411): A write of SCH_IPI sets MSIP of target cores or clears this core's. -/
def execSchIpiWrite (core v : Nat) (s : State) : Answer := s.onUnit (.schIpiWrite core v) (fun _ u => u.ipiWrite core v)

/-- SCH_SRC_WRITE (R427): A write to a source binding is refused with CMD_REJ while PEND is set. -/
def execSchSrcWrite (src v : Nat) (s : State) : Answer := s.onUnit (.schSrcWrite src v) (fun t u => u.srcWrite t src v)

/-- TIMETABLE_EXPIRY (R424): At a boundary every expired deadline makes its thread READY with reason TIMEOUT. -/
def execTimetableExpiry (s : State) : Answer := s.onUnit .timetableExpiry (fun t u => u.timetable t (t.lastUs % 2 ^ 32))

/-- LONG_RUN (R421): A run longer than RUN_MAX raises LONG_RUN and sets PREEMPT. -/
def execLongRun (core : Nat) (s : State) : Answer := s.onUnit (.longRun core) (fun t u => u.longRun t core)

/-- PACE_CHECK (R412): Each microsecond a core's pace is measured and SLOW raised below PACE_LIM. -/
def execPaceCheck (core pace : Nat) (s : State) : Answer := s.onUnit (.paceCheck core pace) (fun t u => u.paceCheck t core pace)

/-- LOAD_WINDOW_END (R434): At the end of each 1 ms window LOAD and RUNS of each core are updated. -/
def execLoadWindowEnd (s : State) : Answer := s.onUnit .loadWindowEnd (fun t u => u.loadWindow t)

/-- CORE_UNCORR_ERROR (R436): An uncorrectable error in a dirty L1-D line or register file retires the core; the errors of the other kinds
are fetched again or scrubbed. -/
def execCoreUncorrError (core kind : Nat) (s : State) : Answer :=
  s.onUnit (.coreUncorrError core kind) (fun t u => u.coreError t core kind)

end Sys2Proof.Machine
end

