-- ==== Sys2Proof/Machine/ExecSecure.lean ====
section
/-! DEFINITION. The commands of identity, attestation, update, recovery and flash (R545 to R575). -/
namespace Sys2Proof.Machine

/-- SEC_VERIFY (R557): VERIFY runs the image checks on a slot that is not running. -/
def execSecVerify (slot : Nat) (s : State) : Answer := s.onUnit (.secVerify slot) (fun t u => u.secCommand t 1 slot 0)

/-- SEC_SET_PENDING (R557): SET_PENDING writes a slot record making a verified slot start at the next reset. -/
def execSecSetPending (slot : Nat) (s : State) : Answer := s.onUnit (.secSetPending slot) (fun t u => u.secCommand t 2 slot 0)

/-- SEC_MARK_HEALTHY (R557): MARK_HEALTHY makes a pending running slot the active slot. -/
def execSecMarkHealthy (s : State) : Answer := s.onUnit .secMarkHealthy (fun t u => u.secCommand t 3 0 0)

/-- SEC_COMMIT_ARB (R557): COMMIT_ARB blows anti-rollback fuses up to the running image's ARB. -/
def execSecCommitArb (key : Nat) (s : State) : Answer := s.onUnit (.secCommitArb key) (fun t u => u.secCommand t 4 0 key)

/-- SEC_OWNER_SET (R550): OWNER_SET writes the owner key once and blows OWNER_HASH. -/
def execSecOwnerSet (key : Nat) (s : State) : Answer := s.onUnit (.secOwnerSet key) (fun t u => u.secCommand t 5 0 key)

/-- SEC_OWNER_LOCK (R557): OWNER_LOCK blows OWNER_LOCK so vendor-signed images are refused. -/
def execSecOwnerLock (key : Nat) (s : State) : Answer := s.onUnit (.secOwnerLock key) (fun t u => u.secCommand t 6 0 key)

/-- SEC_JRN_WRITE (R545): JRN_WRITE appends a firmware journal record through SEC. -/
def execSecJrnWrite (s : State) : Answer := s.onUnit .secJrnWrite (fun t u => u.secCommand t 8 0 0)

/-- KEY_STORE_VIOLATION (R549): A core access to the key store or a glitch asserts the SEC reset source. -/
def execKeyStoreViolation (s : State) : Answer := s.onTime .keyStoreViolation (fun t u => keyStoreViolation t u)

/-- ATT_START (R562): ATT_START makes SEC challenge every configured hub and cell. -/
def execAttStart (s : State) : Answer := s.onUnit .attStart (fun t u => u.attStart t)

/-- ATT_CHALLENGE_RX (R561): A cell or hub takes an attestation challenge and queues a statement. -/
def execAttChallengeRx (chip : Chip) (octets : List Nat) (s : State) : Answer :=
  s.onChip (.attChallengeRx chip octets) chip (fun t u => (t, u)) (fun _ w => w.challengeRx octets) (fun _ y _ => y.challengeRx octets)

/-- ATT_STATEMENT_DONE (R561): A signed statement completes and its answer blocks are placed. -/
def execAttStatementDone (chip : Chip) (s : State) : Answer :=
  s.onChip (.attStatementDone chip) chip (fun t u => (t, u))
    (fun x w => w.statementDone x)
    (fun cid y _ => y.statementDone cid)

/-- ATT_ANSWER_RX (R563): SEC checks a complete answer and writes its result, raising ATT_FAIL or ATT_DONE. -/
def execAttAnswerRx (id : Nat) (unitB : Bool) (tag : Nat) (answer : List Nat) (s : State) : Answer :=
  s.onUnit (.attAnswerRx id unitB tag answer) (fun t u => u.attAnswer t id unitB tag answer)

/-- ATT_TIMEOUT (R562): No answer within ATT_TMO resends the challenge once, then records NO_ANSWER. -/
def execAttTimeout (id : Nat) (s : State) : Answer := s.onUnit (.attTimeout id) (fun t u => u.attTimeout t id)

/-- CELL_UPD_IDENT (R566): Update OP IDENT returns the cell's identity and image data. -/
def execCellUpdIdent (cid : Nat) (octets : List Nat) (s : State) : Answer :=
  s.onCell (.cellUpdIdent cid octets) cid (fun y => y.updIdent octets)

/-- CELL_UPD_BEGIN (R566): Update OP BEGIN erases the slot that is not running. -/
def execCellUpdBegin (cid : Nat) (octets : List Nat) (fail : Bool) (s : State) : Answer :=
  s.onCell (.cellUpdBegin cid octets fail) cid (fun y => y.updBegin octets fail)

/-- CELL_UPD_DATA (R566): Update OP DATA writes bytes at the expected offset, else ORDER. -/
def execCellUpdData (cid : Nat) (octets : List Nat) (fail : Bool) (s : State) : Answer :=
  s.onCell (.cellUpdData cid octets fail) cid (fun y => y.updData octets fail)

/-- CELL_UPD_END (R566): Update OP END runs the image checks on the written slot. -/
def execCellUpdEnd (cid : Nat) (octets : List Nat) (s : State) : Answer :=
  s.onCell (.cellUpdEnd cid octets) cid (fun y => y.updEnd octets)

/-- CELL_UPD_ACTIVATE (R566): Update OP ACTIVATE sets the written slot pending and resets the cell. -/
def execCellUpdActivate (cid : Nat) (octets : List Nat) (s : State) : Answer :=
  s.onCell (.cellUpdActivate cid octets) cid (fun y => y.updActivate octets)

/-- HUB_IMAGE_READ (R567): MLK answers a hub ROM's READ with bytes of the hub firmware partition. -/
def execHubImageRead (h : Nat) (octets : List Nat) (s : State) : Answer :=
  s.onUnit (.hubImageRead h octets) (fun _ u => u.imageRead h octets)

/-- REC_IDENT (R570): Recovery IDENT returns identity and boot status. -/
def execRecIdent (uart : Bool) (octets : List Nat) (s : State) : Answer :=
  s.onUnit (.recIdent uart octets) (fun _ u => u.recIdent uart octets)

/-- REC_CERT_READ (R570): Recovery CERT_READ returns certificate bytes. -/
def execRecCertRead (uart : Bool) (octets : List Nat) (s : State) : Answer :=
  s.onUnit (.recCertRead uart octets) (fun _ u => u.recCert uart octets)

/-- REC_BEGIN (R570): Recovery BEGIN erases the target partition and opens a session. -/
def execRecBegin (uart : Bool) (octets : List Nat) (fail : Bool) (s : State) : Answer :=
  s.onUnit (.recBegin uart octets fail) (fun _ u => u.recBegin uart octets fail)

/-- REC_DATA (R570): Recovery DATA writes bytes at the expected offset. -/
def execRecData (uart : Bool) (octets : List Nat) (fail : Bool) (s : State) : Answer :=
  s.onUnit (.recData uart octets fail) (fun _ u => u.recData uart octets fail)

/-- REC_END (R570): Recovery END checks the written target and records a firmware slot. -/
def execRecEnd (uart : Bool) (octets : List Nat) (fail : Bool) (s : State) : Answer :=
  s.onUnit (.recEnd uart octets fail) (fun _ u => u.recEnd uart octets fail)

/-- REC_BOOT (R570): Recovery BOOT makes a system reset after the reply. -/
def execRecBoot (uart : Bool) (octets : List Nat) (s : State) : Answer :=
  s.onTime (.recBoot uart octets) (fun t u => recBoot t u uart octets)

/-- XSPI_PROGRAM (R575): A store through the xSPI window programs flash bytes, subject to R554. -/
def execXspiProgram (addr : Nat) (octets : List Nat) (s : State) : Answer :=
  s.onUnit (.xspiProgram addr octets) (fun _ u => u.xspiProgram addr octets)

/-- XSPI_ERASE (R575): A store to a sector's first word in the erase alias erases that sector. -/
def execXspiErase (addr : Nat) (s : State) : Answer := s.onUnit (.xspiErase addr) (fun _ u => u.xspiErase addr)

end Sys2Proof.Machine
end

