-- ==== Sys2Proof/Machine/ExecSensor.lean ====
section
/-! DEFINITION. The commands of direct sensor ports, sequence monitors and the process bus (R258 to R285). -/
namespace Sys2Proof.Machine

/-- SENSOR_WORD (R258): A completed sensor word is checked for form, sequence and sensor error and accepted or discarded. -/
def execSensorWord (input w : Nat) (s : State) : Answer := s.onUnit (.sensorWord input w) (fun t u => u.sensorWord t input w)

/-- SENSOR_TIMEOUT (R262): A port deadline reached without an accepted word enters TIMEOUT and counts an error. -/
def execSensorTimeout (p : Nat) (s : State) : Answer := s.onUnit (.sensorTimeout p) (fun t u => u.sensorTimeout t p)

/-- SNS_ERR_WINDOW_CLOSE (R263): The close of a port's error window returns ERRS to 0. -/
def execSnsErrWindowClose (p : Nat) (s : State) : Answer := s.onUnit (.snsErrWindowClose p) (fun _ u => u.errWindowClose p)

/-- SNS_PORT_EN_WRITE (R262): A write of a port's EN moves it between OFF and SYNC, subject to R261. -/
def execSnsPortEnWrite (p : Nat) (en : Bool) (s : State) : Answer := s.onUnit (.snsPortEnWrite p en) (fun t u => u.portEnWrite t p en)

/-- SNS_RESTORE (R262): SNS_PCMD RESTORE returns a retired port to SYNC. -/
def execSnsRestore (p : Nat) (s : State) : Answer := s.onUnit (.snsRestore p) (fun t u => u.portRestore t p)

/-- SNS_OFS_COMMIT (R260): A write to SNS_OFS commits OFS and the shadowed gain together. -/
def execSnsOfsCommit (p v : Nat) (s : State) : Answer := s.onUnit (.snsOfsCommit p v) (fun _ u => u.ofsCommit p v)

/-- SNS_THR_CFG_WRITE (R266): A comparator configuration write, with SB_EN or AV_EN cleared only while converter functions are disabled. -/
def execSnsThrCfgWrite (p k v : Nat) (s : State) : Answer := s.onUnit (.snsThrCfgWrite p k v) (fun t u => u.thrCfgWrite t p k v)

/-- SEQ_RISING_EDGE (R268): An accepted rising edge of a sequence monitor input is used for phase order and frequency. -/
def execSeqRisingEdge (m input : Nat) (s : State) : Answer := s.onUnit (.seqRisingEdge m input) (fun t u => u.risingEdge t m input)

/-- FREQ_WINDOW_END (R270): At the end of a frequency window FREQ is computed and checked, raising FREQ_BAD. -/
def execFreqWindowEnd (m : Nat) (s : State) : Answer := s.onUnit (.freqWindowEnd m) (fun t u => u.freqWindow t m)

/-- SEQ_INPUT_LOST (R270): An input with no accepted edge for LOST_MS raises INPUT_LOST. -/
def execSeqInputLost (m input : Nat) (s : State) : Answer := s.onUnit (.seqInputLost m input) (fun t u => u.inputLost t m input)

/-- PBX_FRAME_RX (R271): A received Ethernet frame is filtered, de-duplicated and classified to PTP, SV, GOOSE or the firmware ring. -/
def execPbxFrameRx (f : EthFrame) (s : State) : Answer := s.onUnit (.pbxFrameRx f) (fun t u => u.frameRx t f)

/-- SV_ALIGNED_WRITE (R277): An aligned map entry writes its board entry at the sample instant plus ALIGN_DLY. -/
def execSvAlignedWrite (j : Nat) (s : State) : Answer := s.onUnit (.svAlignedWrite j) (fun _ u => u.alignedWrite j)

/-- SV_TIMEOUT (R278): No accepted ASDU for TMO sample periods puts the subscription in timeout. -/
def execSvTimeout (k : Nat) (s : State) : Answer := s.onUnit (.svTimeout k) (fun t u => u.svTimeout t k)

/-- GOOSE_TIMEOUT (R281): A passed timeAllowedToLive raises GO_TMO and sets the output to FAIL_VAL. -/
def execGooseTimeout (c : Nat) (s : State) : Answer := s.onUnit (.gooseTimeout c) (fun t u => u.gooseTimeout t c)

/-- PBX_TX_PROD_WRITE (R273): Advancing the transmit ring PROD makes hardware send the frame on both ports of the pair. -/
def execPbxTxProdWrite (q v : Nat) (s : State) : Answer := s.onUnit (.pbxTxProdWrite q v) (fun t u => u.txProd t q v)

/-- PBX_LINK_DOWN (R283): A port link of an enabled pair going down raises RED_LOSS. -/
def execPbxLinkDown (port : Nat) (s : State) : Answer := s.onUnit (.pbxLinkDown port) (fun t u => u.linkDown t port)

/-- PBX_RATE_WRITE (R285): A change of RATE restarts the link of its port. -/
def execPbxRateWrite (v : Nat) (s : State) : Answer := s.onUnit (.pbxRateWrite v) (fun t u => u.rateWrite t v)

end Sys2Proof.Machine
end

