-- ==== Sys2Proof/Machine/ExecTime.lean ====
section
/-! DEFINITION. The commands of register accesses, station time, the departure generator and PTP stamps (R7 to R12, R31 to R52, R444). -/
namespace Sys2Proof.Machine

/-- REGISTER_WRITE (R10): A core store to a register field with no row of its own acts according to the field's access code. -/
def execRegisterWrite (chip : Chip) (core addr size data : Nat) (s : State) : Answer :=
  s.onChip (.registerWrite chip core addr size data) chip (fun t u => store t u core addr size data)
    (fun x w => w.store x core addr size data)
    (fun cid y ofs => y.store cid ofs core addr size data)

/-- RC_FIELD_READ (R12): A read of an RC field returns its value, then sets the field to its reset value; a hardware update in the same handshake is applied after the clear. -/
def execRcFieldRead (chip : Chip) (core addr size : Nat) (tie : Tie) (s : State) : Answer :=
  s.onChip (.rcFieldRead chip core addr size tie) chip (fun t u => (t, u.loadTie t core addr size tie))
    (fun x w => w.loadTie x core addr size tie)
    (fun cid y ofs => y.loadTie cid ofs core addr size tie)

/-- STATUS_W1C_WRITE (R444, R11): A write of 1 to a STATUS cause bit clears that bit and nothing else; a bit of `same`, whose cause was raised
in this handshake by the commands before it, stays set. -/
def execStatusW1cWrite (chip : Chip) (addr data same : Nat) (s : State) : Answer :=
  let ones := data - (data &&& same)
  s.onChip (.statusW1cWrite chip addr data same) chip (fun t u => store t u 0 addr 4 ones) (fun x w => w.store x 0 addr 4 ones)
    (fun cid y ofs => y.store cid ofs 0 addr 4 ones)

/-- BLOCK_ACK (R444): A write of 1 to ACK clears FIRST and EVENTS, ends escalation for the block and ends the block's causes that last until acknowledged. -/
def execBlockAck (chip : Chip) (addr data : Nat) (s : State) : Answer :=
  s.onChip (.blockAck chip addr data) chip (fun t u => store t u 0 addr 4 data)
    (fun x w => w.store x 0 addr 4 data)
    (fun cid y ofs => y.store cid ofs 0 addr 4 data)

/-- REFERENCE_TICK (R36): On each reference clock tick the time base adds TIM_INC to its nanosecond count and applies any committed increment. -/
def execReferenceTick (s : State) : Answer :=
  if s.u.held then .next s
  else
    let t := s.time.tick (s.u.rd R.SYS_STRAP_CLK_MODE)
    let u := s.u.eraEvent s.time t
    .next (s.setUnit t u u)

/-- BOUNDARY (R39): The time base emits the boundary pulse of the next DN, or the first boundary after a set or step. -/
def execBoundary (s : State) : Answer :=
  if s.u.held || !s.time.due then .next s
  else
    let t := { s.time with lastUs := s.time.lastUs + 1 }
    let r := injectChecks t (s.u.boundary t t.lastUs s.u.latched)
    .next (s.setUnit r.1 r.2 s.u.latched)

/-- TIM_INC_FRAC_WRITE (R36): A write to TIM_INC_FRAC goes to a shadow. -/
def execTimIncFracWrite (v : Nat) (s : State) : Answer := s.onUnit (.timIncFracWrite v) (fun _ u => u.wr R.TIM_INC_FRAC_FRAC v)

/-- TIM_INC_INT_WRITE (R36): A write to TIM_INC_INT combines with the shadowed fraction and commits the pair from the next reference tick. -/
def execTimIncIntWrite (v : Nat) (s : State) : Answer := s.onTime (.timIncIntWrite v) (fun t u => incIntWrite t u v)

/-- TIM_DEP_START_WRITE (R38): A write to TIM_DEP_START stores the value, and while ARMED compares it with the current DN. -/
def execTimDepStartWrite (v : Nat) (s : State) : Answer := s.onUnit (.timDepStartWrite v) (fun t u => u.depStartWrite t v)

/-- DEP_START (R38): START written to TIM_DEP_CTL arms the departure generator, or runs it from the next boundary with START_LATE when the start DN has passed. -/
def execDepStart (stop : Bool) (s : State) : Answer := s.onUnit (.depStart stop) (fun t u => u.depStart t stop)

/-- DEP_STOP (R38): STOP written to TIM_DEP_CTL stops the generator when armed or when converter functions are disabled, and is refused with STOP_REJ otherwise. -/
def execDepStop (s : State) : Answer := s.onUnit .depStop (fun t u => u.depStop t)

/-- TIM_STEP_WRITE (R40): A write to TIM_STEP makes a step pending, replacing any step already pending. -/
def execTimStepWrite (v : Nat) (s : State) : Answer := s.onUnit (.timStepWrite v) (fun _ u => u.stepWrite v)

/-- STEP_APPLY (R40): At its tick a pending step is added to station time, or refused with STEP_REJ under R40 and R41. -/
def execStepApply (s : State) : Answer := s.onTime .stepApply (fun t u => stepApply t u)

/-- TIM_SET_LOAD (R42): A write of TIM_SET_NS with LOAD loads station time, or is refused with SET_REJ unless the generator is STOPPED and the nanoseconds are valid. -/
def execTimSetLoad (v : Nat) (s : State) : Answer := s.onTime (.timSetLoad v) (fun t u => setLoad t u v)

/-- TIM_NOW_LATCH (R51): A read of TIM_NOW_TSL latches all six TIM_NOW registers of the core at one instant. -/
def execTimNowLatch (core : Nat) (s : State) : Answer := s.onUnit (.timNowLatch core) (fun t u => u.nowLatch t core)

/-- TIME_STATE_WRITE (R50): A write of a new TIME_STATE value raises the Info cause TIME_STATE. -/
def execTimeStateWrite (v : Nat) (s : State) : Answer := s.onUnit (.timeStateWrite v) (fun t u => u.timCtlWrite t v)

/-- PTP_EVENT_RX (R44): A received PTP event message is classified, stamped and delivered to firmware with its TS64. -/
def execPtpEventRx (port msgType domain seqId raw : Nat) (octets : List Nat) (s : State) : Answer :=
  s.onUnit (.ptpEventRx port msgType domain seqId raw octets) (fun t u => u.ptpRx t port domain raw octets)

/-- PTP_EVENT_TX (R44): A transmitted PTP event message is stamped and placed in its port's transmit time-stamp queue. -/
def execPtpEventTx (port msgType seqId raw : Nat) (s : State) : Answer :=
  s.onUnit (.ptpEventTx port msgType seqId raw) (fun t u => u.ptpTx t port msgType seqId raw)

/-- TXQ_POP (R45): A write of POP removes the head entry of a port's transmit time-stamp queue. -/
def execTxqPop (port : Nat) (s : State) : Answer := s.onUnit (.txqPop port) (fun _ u => u.txqPop port)

/-- HSR_SYNC_FORWARD (R43): A Sync forwarded between HSR ring ports has its residence time added to the Sync or its Follow_Up correctionField. -/
def execHsrSyncForward (port seqId : Nat) (oneStep : Bool) (correction rx tx : Nat) (s : State) : Answer :=
  s.onUnit (.hsrSyncForward port seqId oneStep correction rx tx) (fun _ u => u.hsrForward port seqId oneStep correction rx tx)

end Sys2Proof.Machine
end

