-- ==== Sys2Proof/Machine/Dispatch.lean ====
section
/-! DEFINITION. One arm per constructor: a direct call of the command's meaning, or a refusal by name. -/
namespace Sys2Proof.Machine

def exec (i : Instr) (s : State) : Host.Outcome State Fault Refusal :=
  match i with
  | .registerWrite chip core addr size data => Sys2Proof.Machine.execRegisterWrite chip core addr size data s
  | .rcFieldRead chip core addr size tie => Sys2Proof.Machine.execRcFieldRead chip core addr size tie s
  | .statusW1cWrite chip addr data same => Sys2Proof.Machine.execStatusW1cWrite chip addr data same s
  | .blockAck chip addr data => Sys2Proof.Machine.execBlockAck chip addr data s
  | .referenceTick => Sys2Proof.Machine.execReferenceTick s
  | .boundary => Sys2Proof.Machine.execBoundary s
  | .timIncFracWrite v => Sys2Proof.Machine.execTimIncFracWrite v s
  | .timIncIntWrite v => Sys2Proof.Machine.execTimIncIntWrite v s
  | .timDepStartWrite v => Sys2Proof.Machine.execTimDepStartWrite v s
  | .depStart stop => Sys2Proof.Machine.execDepStart stop s
  | .depStop => Sys2Proof.Machine.execDepStop s
  | .timStepWrite v => Sys2Proof.Machine.execTimStepWrite v s
  | .stepApply => Sys2Proof.Machine.execStepApply s
  | .timSetLoad v => Sys2Proof.Machine.execTimSetLoad v s
  | .timNowLatch core => Sys2Proof.Machine.execTimNowLatch core s
  | .timeStateWrite v => Sys2Proof.Machine.execTimeStateWrite v s
  | .ptpEventRx port msgType domain seqId raw octets => Sys2Proof.Machine.execPtpEventRx port msgType domain seqId raw octets s
  | .ptpEventTx port msgType seqId raw => Sys2Proof.Machine.execPtpEventTx port msgType seqId raw s
  | .txqPop port => Sys2Proof.Machine.execTxqPop port s
  | .hsrSyncForward port seqId oneStep correction rx tx => Sys2Proof.Machine.execHsrSyncForward port seqId oneStep correction rx tx s
  | .frnClrSuspect a cell => Sys2Proof.Machine.execFrnClrSuspect a cell s
  | .frnReseed a cell => Sys2Proof.Machine.execFrnReseed a cell s
  | .frnSetK a cell k => Sys2Proof.Machine.execFrnSetK a cell k s
  | .frnSetB a cell v => Sys2Proof.Machine.execFrnSetB a cell v s
  | .frnClrAged a cell => Sys2Proof.Machine.execFrnClrAged a cell s
  | .frnEnWrite a en => Sys2Proof.Machine.execFrnEnWrite a en s
  | .ledgerStore addr size data => Sys2Proof.Machine.execLedgerStore addr size data s
  | .selection a => Sys2Proof.Machine.execSelection a s
  | .mshEnWrite a en => Sys2Proof.Machine.execMshEnWrite a en s
  | .mshRetire a cell => Sys2Proof.Machine.execMshRetire a cell s
  | .mshRestore a cell => Sys2Proof.Machine.execMshRestore a cell s
  | .mshRotate a => Sys2Proof.Machine.execMshRotate a s
  | .mshClrReq a cell => Sys2Proof.Machine.execMshClrReq a cell s
  | .convEnWrite en => Sys2Proof.Machine.execConvEnWrite en s
  | .forceSet cid code => Sys2Proof.Machine.execForceSet cid code s
  | .forceRelease cid => Sys2Proof.Machine.execForceRelease cid s
  | .forceReleaseAll => Sys2Proof.Machine.execForceReleaseAll s
  | .avFire => Sys2Proof.Machine.execAvFire s
  | .peerAvalancheRx block => Sys2Proof.Machine.execPeerAvalancheRx block s
  | .avClear => Sys2Proof.Machine.execAvClear s
  | .clearRunEnd => Sys2Proof.Machine.execClearRunEnd s
  | .resetClearRun => Sys2Proof.Machine.execResetClearRun s
  | .hubOrderLoss h => Sys2Proof.Machine.execHubOrderLoss h s
  | .hubAvalancheRx h lane block => Sys2Proof.Machine.execHubAvalancheRx h lane block s
  | .cellK287Rx cid port => Sys2Proof.Machine.execCellK287Rx cid port s
  | .cellFrameRx cid port ofs chars same => Sys2Proof.Machine.execCellFrameRx cid port ofs chars same s
  | .cellBoundary cid stPass => Sys2Proof.Machine.execCellBoundary cid stPass s
  | .cellWatchdog cid => Sys2Proof.Machine.execCellWatchdog cid s
  | .depPeek dn => Sys2Proof.Machine.execDepPeek dn s
  | .gtePatWrite cid code v => Sys2Proof.Machine.execGtePatWrite cid code v s
  | .gteCtlWrite cid v => Sys2Proof.Machine.execGteCtlWrite cid v s
  | .testEnWrite cid en => Sys2Proof.Machine.execTestEnWrite cid en s
  | .gteTestWrite cid v => Sys2Proof.Machine.execGteTestWrite cid v s
  | .pwmRunWrite cid run => Sys2Proof.Machine.execPwmRunWrite cid run s
  | .pwmLoad cid => Sys2Proof.Machine.execPwmLoad cid s
  | .pwmPeriodStart cid => Sys2Proof.Machine.execPwmPeriodStart cid s
  | .calibrationComplete cid p q => Sys2Proof.Machine.execCalibrationComplete cid p q s
  | .refreshRequest cid leg => Sys2Proof.Machine.execRefreshRequest cid leg s
  | .autoRefresh cid leg => Sys2Proof.Machine.execAutoRefresh cid leg s
  | .comparatorTrip cid ins => Sys2Proof.Machine.execComparatorTrip cid ins s
  | .blankWindowClose cid sws ins => Sys2Proof.Machine.execBlankWindowClose cid sws ins s
  | .softOffEnd cid => Sys2Proof.Machine.execSoftOffEnd cid s
  | .bypWaitExpire cid => Sys2Proof.Machine.execBypWaitExpire cid s
  | .prtThrWrite cid sw v => Sys2Proof.Machine.execPrtThrWrite cid sw v s
  | .prtOvaWrite cid v => Sys2Proof.Machine.execPrtOvaWrite cid v s
  | .clrHold cid ins => Sys2Proof.Machine.execClrHold cid ins s
  | .selftest cid mask => Sys2Proof.Machine.execSelftest cid mask s
  | .selftestTimeout cid => Sys2Proof.Machine.execSelftestTimeout cid s
  | .clrJournal cid => Sys2Proof.Machine.execClrJournal cid s
  | .dmpTmaxExpire cid => Sys2Proof.Machine.execDmpTmaxExpire cid s
  | .ov2Crossing cid ins => Sys2Proof.Machine.execOv2Crossing cid ins s
  | .uvloEntry cid => Sys2Proof.Machine.execUvloEntry cid s
  | .uvloRelease cid ins => Sys2Proof.Machine.execUvloRelease cid ins s
  | .cellPor cid => Sys2Proof.Machine.execCellPor cid s
  | .retirementRecordDone cid => Sys2Proof.Machine.execRetirementRecordDone cid s
  | .bycPulseStart cid => Sys2Proof.Machine.execBycPulseStart cid s
  | .bycPulseEnd cid => Sys2Proof.Machine.execBycPulseEnd cid s
  | .bycConfirm cid => Sys2Proof.Machine.execBycConfirm cid s
  | .bycTimeout cid => Sys2Proof.Machine.execBycTimeout cid s
  | .byfRelease cid => Sys2Proof.Machine.execByfRelease cid s
  | .byfPulse cid level => Sys2Proof.Machine.execByfPulse cid level s
  | .gateMismatch cid sw high => Sys2Proof.Machine.execGateMismatch cid sw high s
  | .lpeRunCommit g => Sys2Proof.Machine.execLpeRunCommit g s
  | .boardCoreStore e v => Sys2Proof.Machine.execBoardCoreStore e v s
  | .slotCtlWrite sl reg v => Sys2Proof.Machine.execSlotCtlWrite sl reg v s
  | .slotEnable sl => Sys2Proof.Machine.execSlotEnable sl s
  | .slotStateStore sl n v => Sys2Proof.Machine.execSlotStateStore sl n v s
  | .slotCoefStore sl n v => Sys2Proof.Machine.execSlotCoefStore sl n v s
  | .lpeMemError entry n corrected => Sys2Proof.Machine.execLpeMemError entry n corrected s
  | .lpeEnWrite en => Sys2Proof.Machine.execLpeEnWrite en s
  | .sensorWord input w => Sys2Proof.Machine.execSensorWord input w s
  | .sensorTimeout p => Sys2Proof.Machine.execSensorTimeout p s
  | .snsErrWindowClose p => Sys2Proof.Machine.execSnsErrWindowClose p s
  | .snsPortEnWrite p en => Sys2Proof.Machine.execSnsPortEnWrite p en s
  | .snsRestore p => Sys2Proof.Machine.execSnsRestore p s
  | .snsOfsCommit p v => Sys2Proof.Machine.execSnsOfsCommit p v s
  | .snsThrCfgWrite p k v => Sys2Proof.Machine.execSnsThrCfgWrite p k v s
  | .seqRisingEdge m input => Sys2Proof.Machine.execSeqRisingEdge m input s
  | .freqWindowEnd m => Sys2Proof.Machine.execFreqWindowEnd m s
  | .seqInputLost m input => Sys2Proof.Machine.execSeqInputLost m input s
  | .pbxFrameRx f => Sys2Proof.Machine.execPbxFrameRx f s
  | .svAlignedWrite j => Sys2Proof.Machine.execSvAlignedWrite j s
  | .svTimeout k => Sys2Proof.Machine.execSvTimeout k s
  | .gooseTimeout c => Sys2Proof.Machine.execGooseTimeout c s
  | .pbxTxProdWrite q v => Sys2Proof.Machine.execPbxTxProdWrite q v s
  | .pbxLinkDown port => Sys2Proof.Machine.execPbxLinkDown port s
  | .pbxRateWrite v => Sys2Proof.Machine.execPbxRateWrite v s
  | .laneEnWrite l en => Sys2Proof.Machine.execLaneEnWrite l en s
  | .laneSignalDetect l => Sys2Proof.Machine.execLaneSignalDetect l s
  | .laneCdrLock l => Sys2Proof.Machine.execLaneCdrLock l s
  | .equalisationSettled l => Sys2Proof.Machine.execEqualisationSettled l s
  | .trainingRx l tr => Sys2Proof.Machine.execTrainingRx l tr s
  | .laneLinkLoss l => Sys2Proof.Machine.execLaneLinkLoss l s
  | .laneCodeErrors l n => Sys2Proof.Machine.execLaneCodeErrors l n s
  | .laneCheckError l => Sys2Proof.Machine.execLaneCheckError l s
  | .crcWindowClose l => Sys2Proof.Machine.execCrcWindowClose l s
  | .laneRetrainTimeout l => Sys2Proof.Machine.execLaneRetrainTimeout l s
  | .deskewTimeout l => Sys2Proof.Machine.execDeskewTimeout l s
  | .laneRestore l => Sys2Proof.Machine.execLaneRestore l s
  | .laneRetrainCmd l => Sys2Proof.Machine.execLaneRetrainCmd l s
  | .laneTestWrite l prbs v => Sys2Proof.Machine.execLaneTestWrite l prbs v s
  | .laneTxeqWrite l v => Sys2Proof.Machine.execLaneTxeqWrite l v s
  | .hubBoundary h => Sys2Proof.Machine.execHubBoundary h s
  | .rptMiss cid => Sys2Proof.Machine.execRptMiss cid s
  | .hubTrackwayRx h lane transit chars same => Sys2Proof.Machine.execHubTrackwayRx h lane transit chars same s
  | .hubFrameDrop h loop => Sys2Proof.Machine.execHubFrameDrop h loop s
  | .hubUnreach h loop pos => Sys2Proof.Machine.execHubUnreach h loop pos s
  | .noticeRx lane blocks => Sys2Proof.Machine.execNoticeRx lane blocks s
  | .hubOrderRx h lane arr done blocks => Sys2Proof.Machine.execHubOrderRx h lane arr done blocks s
  | .loopFrameRx lane blocks => Sys2Proof.Machine.execLoopFrameRx lane blocks s
  | .mailRx lane arr blocks => Sys2Proof.Machine.execMailRx lane arr blocks s
  | .pointRequestRx cid octets same => Sys2Proof.Machine.execPointRequestRx cid octets same s
  | .rspDrop cid => Sys2Proof.Machine.execRspDrop cid s
  | .pointRequestSend => Sys2Proof.Machine.execPointRequestSend s
  | .pointRetryTimeout h loop => Sys2Proof.Machine.execPointRetryTimeout h loop s
  | .pointResponseRx h octets => Sys2Proof.Machine.execPointResponseRx h octets s
  | .completionWrite => Sys2Proof.Machine.execCompletionWrite s
  | .loopMeasurement h loop => Sys2Proof.Machine.execLoopMeasurement h loop s
  | .measurementComplete h loop => Sys2Proof.Machine.execMeasurementComplete h loop s
  | .pathRx h dlyA dlyB dlMax => Sys2Proof.Machine.execPathRx h dlyA dlyB dlMax s
  | .hubHeartbeatWrite h v => Sys2Proof.Machine.execHubHeartbeatWrite h v s
  | .hubHbLost h => Sys2Proof.Machine.execHubHbLost h s
  | .hubMemUnc h => Sys2Proof.Machine.execHubMemUnc h s
  | .hubAliveToggle h => Sys2Proof.Machine.execHubAliveToggle h s
  | .regReq h => Sys2Proof.Machine.execRegReq h s
  | .adcConversion cid k raw => Sys2Proof.Machine.execAdcConversion cid k raw s
  | .adcEntryEnable cid n v => Sys2Proof.Machine.execAdcEntryEnable cid n v s
  | .adcOfsCommit cid n v => Sys2Proof.Machine.execAdcOfsCommit cid n v s
  | .adcResRead cid n => Sys2Proof.Machine.execAdcResRead cid n s
  | .capArm => Sys2Proof.Machine.execCapArm s
  | .capStop => Sys2Proof.Machine.execCapStop s
  | .capSwtrig => Sys2Proof.Machine.execCapSwtrig s
  | .streamFrameSend => Sys2Proof.Machine.execStreamFrameSend s
  | .streamFlashWrite => Sys2Proof.Machine.execStreamFlashWrite s
  | .snpFire => Sys2Proof.Machine.execSnpFire s
  | .snapshotCopyDone => Sys2Proof.Machine.execSnapshotCopyDone s
  | .snpTcmdGo => Sys2Proof.Machine.execSnpTcmdGo s
  | .ccpArm cid => Sys2Proof.Machine.execCcpArm cid s
  | .ccpStop cid => Sys2Proof.Machine.execCcpStop cid s
  | .ccpSwtrig cid => Sys2Proof.Machine.execCcpSwtrig cid s
  | .schWaitRead core => Sys2Proof.Machine.execSchWaitRead core s
  | .endWait core => Sys2Proof.Machine.execEndWait core s
  | .endWaitUntil core => Sys2Proof.Machine.execEndWaitUntil core s
  | .endYield core => Sys2Proof.Machine.execEndYield core s
  | .endExit core => Sys2Proof.Machine.execEndExit core s
  | .releaseResume flow => Sys2Proof.Machine.execReleaseResume flow s
  | .schCreate core th => Sys2Proof.Machine.execSchCreate core th s
  | .schDestroy core th => Sys2Proof.Machine.execSchDestroy core th s
  | .schReady core th cancel => Sys2Proof.Machine.execSchReady core th cancel s
  | .schCancel core th => Sys2Proof.Machine.execSchCancel core th s
  | .schRestart core th => Sys2Proof.Machine.execSchRestart core th s
  | .schPost core flow => Sys2Proof.Machine.execSchPost core flow s
  | .schRetireCore core target => Sys2Proof.Machine.execSchRetireCore core target s
  | .schRestoreCore core target => Sys2Proof.Machine.execSchRestoreCore core target s
  | .schCmdResRead core => Sys2Proof.Machine.execSchCmdResRead core s
  | .schIpiWrite core v => Sys2Proof.Machine.execSchIpiWrite core v s
  | .schSrcWrite src v => Sys2Proof.Machine.execSchSrcWrite src v s
  | .timetableExpiry => Sys2Proof.Machine.execTimetableExpiry s
  | .longRun core => Sys2Proof.Machine.execLongRun core s
  | .paceCheck core pace => Sys2Proof.Machine.execPaceCheck core pace s
  | .loadWindowEnd => Sys2Proof.Machine.execLoadWindowEnd s
  | .coreUncorrError core kind => Sys2Proof.Machine.execCoreUncorrError core kind s
  | .scrubRead chip symbols still => Sys2Proof.Machine.execScrubRead chip symbols still s
  | .memoryUncorrRead chip addr core => Sys2Proof.Machine.execMemoryUncorrRead chip addr core s
  | .sysInjWrite chip toAddr v => Sys2Proof.Machine.execSysInjWrite chip toAddr v s
  | .aliveToggle => Sys2Proof.Machine.execAliveToggle s
  | .sbxLineChange line level => Sys2Proof.Machine.execSbxLineChange line level s
  | .hwAliveTimeout j => Sys2Proof.Machine.execHwAliveTimeout j s
  | .sbxHeartWrite token tick => Sys2Proof.Machine.execSbxHeartWrite token tick s
  | .heartbeatWindowEnd => Sys2Proof.Machine.execHeartbeatWindowEnd s
  | .sbxHsWrite v => Sys2Proof.Machine.execSbxHsWrite v s
  | .sbxCfgLoadWrite v => Sys2Proof.Machine.execSbxCfgLoadWrite v s
  | .sbxCfgStart => Sys2Proof.Machine.execSbxCfgStart s
  | .sbxCfgLock => Sys2Proof.Machine.execSbxCfgLock s
  | .sbxClear key => Sys2Proof.Machine.execSbxClear key s
  | .sbxFtClr key => Sys2Proof.Machine.execSbxFtClr key s
  | .glacierExpire => Sys2Proof.Machine.execGlacierExpire s
  | .readbackSample pr => Sys2Proof.Machine.execReadbackSample pr s
  | .testPulseStart k low => Sys2Proof.Machine.execTestPulseStart k low s
  | .testPulseEnd openedAtEnd energisedAfter => Sys2Proof.Machine.execTestPulseEnd openedAtEnd energisedAfter s
  | .oscWindowEnd count => Sys2Proof.Machine.execOscWindowEnd count s
  | .peerStatusTimeout => Sys2Proof.Machine.execPeerStatusTimeout s
  | .ctrlRx parts => Sys2Proof.Machine.execCtrlRx parts s
  | .mirrorSectionRx parts => Sys2Proof.Machine.execMirrorSectionRx parts s
  | .relinquishRx block => Sys2Proof.Machine.execRelinquishRx block s
  | .sdlJoin => Sys2Proof.Machine.execSdlJoin s
  | .sdlSwap => Sys2Proof.Machine.execSdlSwap s
  | .sdlRelq => Sys2Proof.Machine.execSdlRelq s
  | .sdlRejoin => Sys2Proof.Machine.execSdlRejoin s
  | .sdlRegionWrite r len v => Sys2Proof.Machine.execSdlRegionWrite r len v s
  | .joinTimeout => Sys2Proof.Machine.execJoinTimeout s
  | .peerLost => Sys2Proof.Machine.execPeerLost s
  | .clearAnswerTimeout => Sys2Proof.Machine.execClearAnswerTimeout s
  | .revHoldExpire => Sys2Proof.Machine.execRevHoldExpire s
  | .rlqReset => Sys2Proof.Machine.execRlqReset s
  | .resetAssert chip src reach block => Sys2Proof.Machine.execResetAssert chip src reach block s
  | .resetStageComplete chip straps => Sys2Proof.Machine.execResetStageComplete chip straps s
  | .fuseLoadDone chip words => Sys2Proof.Machine.execFuseLoadDone chip words s
  | .oscStopDetect => Sys2Proof.Machine.execOscStopDetect s
  | .stretchRelease => Sys2Proof.Machine.execStretchRelease s
  | .sysRstSystem key => Sys2Proof.Machine.execSysRstSystem key s
  | .sysRstEngine key => Sys2Proof.Machine.execSysRstEngine key s
  | .sysRstBlock key block => Sys2Proof.Machine.execSysRstBlock key block s
  | .sysRstPeer key => Sys2Proof.Machine.execSysRstPeer key s
  | .peerResetRx block => Sys2Proof.Machine.execPeerResetRx block s
  | .wdogEnable => Sys2Proof.Machine.execWdogEnable s
  | .wdogKick key => Sys2Proof.Machine.execWdogKick key s
  | .wdogPeriodEnd => Sys2Proof.Machine.execWdogPeriodEnd s
  | .dieTempChange chip temp => Sys2Proof.Machine.execDieTempChange chip temp s
  | .sysPwrWrite v => Sys2Proof.Machine.execSysPwrWrite v s
  | .coreRelease v => Sys2Proof.Machine.execCoreRelease v s
  | .bakClrCnt key => Sys2Proof.Machine.execBakClrCnt key s
  | .bakClrHist key => Sys2Proof.Machine.execBakClrHist key s
  | .bakClrLf key => Sys2Proof.Machine.execBakClrLf key s
  | .vbakRise octets => Sys2Proof.Machine.execVbakRise octets s
  | .vsbxUndervoltage => Sys2Proof.Machine.execVsbxUndervoltage s
  | .configBlockRx cid octets => Sys2Proof.Machine.execConfigBlockRx cid octets s
  | .configResendTimeout cid => Sys2Proof.Machine.execConfigResendTimeout cid s
  | .cellSelfReset cid => Sys2Proof.Machine.execCellSelfReset cid s
  | .secVerify slot => Sys2Proof.Machine.execSecVerify slot s
  | .secSetPending slot => Sys2Proof.Machine.execSecSetPending slot s
  | .secMarkHealthy => Sys2Proof.Machine.execSecMarkHealthy s
  | .secCommitArb key => Sys2Proof.Machine.execSecCommitArb key s
  | .secOwnerSet key => Sys2Proof.Machine.execSecOwnerSet key s
  | .secOwnerLock key => Sys2Proof.Machine.execSecOwnerLock key s
  | .secJrnWrite => Sys2Proof.Machine.execSecJrnWrite s
  | .keyStoreViolation => Sys2Proof.Machine.execKeyStoreViolation s
  | .attStart => Sys2Proof.Machine.execAttStart s
  | .attChallengeRx chip octets => Sys2Proof.Machine.execAttChallengeRx chip octets s
  | .attStatementDone chip => Sys2Proof.Machine.execAttStatementDone chip s
  | .attAnswerRx id unitB tag answer => Sys2Proof.Machine.execAttAnswerRx id unitB tag answer s
  | .attTimeout id => Sys2Proof.Machine.execAttTimeout id s
  | .cellUpdIdent cid octets => Sys2Proof.Machine.execCellUpdIdent cid octets s
  | .cellUpdBegin cid octets fail => Sys2Proof.Machine.execCellUpdBegin cid octets fail s
  | .cellUpdData cid octets fail => Sys2Proof.Machine.execCellUpdData cid octets fail s
  | .cellUpdEnd cid octets => Sys2Proof.Machine.execCellUpdEnd cid octets s
  | .cellUpdActivate cid octets => Sys2Proof.Machine.execCellUpdActivate cid octets s
  | .hubImageRead h octets => Sys2Proof.Machine.execHubImageRead h octets s
  | .recIdent uart octets => Sys2Proof.Machine.execRecIdent uart octets s
  | .recCertRead uart octets => Sys2Proof.Machine.execRecCertRead uart octets s
  | .recBegin uart octets fail => Sys2Proof.Machine.execRecBegin uart octets fail s
  | .recData uart octets fail => Sys2Proof.Machine.execRecData uart octets fail s
  | .recEnd uart octets fail => Sys2Proof.Machine.execRecEnd uart octets fail s
  | .recBoot uart octets => Sys2Proof.Machine.execRecBoot uart octets s
  | .xspiProgram addr octets => Sys2Proof.Machine.execXspiProgram addr octets s
  | .xspiErase addr => Sys2Proof.Machine.execXspiErase addr s
  | .timeBaseCheckError => Sys2Proof.Machine.execTimeBaseCheckError s
  | .glacierTimerReset => Sys2Proof.Machine.execGlacierTimerReset s
  | .vsbxRelease => Sys2Proof.Machine.execVsbxRelease s
  | .sbxOscillatorStop => Sys2Proof.Machine.execSbxOscillatorStop s
  | .resetSourceRelease chip src => Sys2Proof.Machine.execResetSourceRelease chip src s
  | .domainPowerUpDone => Sys2Proof.Machine.execDomainPowerUpDone s
  | .startTimeout => Sys2Proof.Machine.execStartTimeout s
  | .secCommandDone chip fail => Sys2Proof.Machine.execSecCommandDone chip fail s
  | .xspiOperationDone => Sys2Proof.Machine.execXspiOperationDone s
  | .prbsLockChange l xs => Sys2Proof.Machine.execPrbsLockChange l xs s
  | .pbxLinkUp port => Sys2Proof.Machine.execPbxLinkUp port s

end Sys2Proof.Machine
end

