-- ==== Sys2Proof/Safety.lean ====
section
/-! DEFINITION. What every handshake of the machine leaves true, in the terms the claims use: station time within its formats (R31, R32),
no event in flight (R426), the role and BAK as their registers show them (R501, R521, R548). -/
namespace Sys2Proof.Machine

/-- Station time within its formats (R31): seconds of 48 bits, nanoseconds below a second, a fraction of 32 bits. -/
def TimeBase.Fits (t : TimeBase) : Prop := t.sec < 2 ^ 48 ∧ t.ns < 1000000000 ∧ t.frac < 2 ^ 32

/-- SENDING of SDL_ROLE shows what R501 gives. -/
def U.ShowsSending (u : U) : Prop := u.rd R.SDL_ROLE_SENDING = b2n u.sending

/-- The reset counter and the newest cause of BAK stand in their registers (R521, R548). -/
def U.ShowsBak (u : U) : Prop :=
  u.rd R.SYS_RST_CNT_COUNT = u.sys.count % 2 ^ 32 ∧
  u.rd R.SYS_RST_CAUSE_SOURCES = (u.sys.hist.headD (0, 0, 0)).1 % 2 ^ R.SYS_RST_CAUSE_SOURCES.width

/-- The state after a handshake that leaves the unit's blocks at `u` and station time as it was: the snapshot, the events and the
fields that show the role and BAK follow (R397, R426, R501, R548). -/
def State.after (s : State) (u : U) : State := s.setUnit s.time u u

/-- The state after a handshake that leaves station time at `t` and the unit's blocks at `u`. -/
def State.afterAt (s : State) (t : TimeBase) (u : U) : State := s.setUnit t u u

/-- A unit with no event in flight, no snapshot asked for and no mirror frame waiting or being sent. -/
structure U.Calm (u : U) : Prop where
  evq  : u.evq = []
  shot : u.snp.fired = 0
  cur  : u.sdl.cur = none
  tx   : u.sdl.tx = []

/-- The state with a hub replaced. -/
def State.withHub (s : State) (h : Nat) (w : H) : State := s.setHub h w

/-- The state with a cell replaced. -/
def State.withCell (s : State) (cid : Nat) (y : C) : State := s.setCell cid y

/-- Whether a lane's chip acts on a command: not while a reset holds it, or the block of its lanes (R516). -/
def State.laneRuns (s : State) : LaneAt → Prop
  | .unit n => s.u.held = false ∧ s.u.blockOn (laneBase n) = true
  | .hub h _ => (s.hub h).held = false ∧ (s.hub h).blockHeld 1 = false
  | .cell _ _ => True

/-- Whether the chip of a lane hears a command. -/
def State.hears (s : State) (c : Instr) : LaneAt → Prop
  | .unit _ => s.u.deaf c = false
  | .hub h _ => (s.hub h).deaf c = false
  | .cell _ _ => True

/-- The lanes of a lane's chip as a command of that lane finds them. -/
def State.laneIO (s : State) : LaneAt → LaneIO
  | .unit _ => s.u.laneIO
  | .hub h _ => ⟨(s.hub h).regs, (s.hub h).lanes, []⟩
  | .cell cid _ => ((s.cell cid).now cid).2.laneIO

/-- What a lane is, as its chip knows it. -/
def State.laneKind (s : State) : LaneAt → LaneKind
  | .unit n => s.u.laneKind n
  | .hub h n => (s.hub h).laneKind n
  | .cell _ p => portKind p

/-- The state after a command of a lane that leaves its chip's lanes at `io`, the two free values of an adaptation used up. -/
def State.withLane (s : State) (l : LaneAt) (io : LaneIO) : State :=
  match l with
  | .unit n => s.after (s.u.draw.2.draw.2.onLane s.time n (fun _ => io))
  | .hub h n => s.withHub h (((((s.hub h).draw (s.hubAt h)).2.draw (s.hubAt h)).2.draw (s.hubAt h)).2.onLane (s.hubAt h) n (fun _ => io))
  | .cell cid p =>
    let d := (s.cell cid).now cid
    s.withCell cid ((((d.2.draw cid).2.draw cid).2).onLane d.1 p (fun _ => io))

/-- What every step keeps. -/
def State.Settled (s : State) : Prop :=
  s.time.Fits ∧ s.u.evq = [] ∧ s.u.ShowsSending ∧ s.u.ShowsBak

/-- Where a command acts. -/
inductive Place where
  /-- the unit, station time left alone -/
  | unit
  /-- the unit with station time -/
  | timed
  /-- the unit's reset controller, which acts in reset as well (R512 to R529) -/
  | reset
  /-- one hub -/
  | hub (h : Nat)
  /-- one cell -/
  | cell (cid : Nat)
  deriving DecidableEq, Repr

/-- Where a command of a named chip acts; `u` for the unit. -/
def placeOf (u : Place) : Chip → Place
  | .unit => u
  | .hub h => .hub h
  | .cell cid => .cell cid

/-- Where a command of a lane acts. -/
def lanePlace : LaneAt → Place
  | .unit _ => .unit
  | .hub h _ => .hub h
  | .cell cid _ => .cell cid

/-- Where each command acts. -/
def placeAt : Instr → Place
  | .registerWrite chip _ _ _ _ => placeOf .timed chip
  | .rcFieldRead chip _ _ _ _ => placeOf .timed chip
  | .statusW1cWrite chip _ _ _ => placeOf .timed chip
  | .blockAck chip _ _ => placeOf .timed chip
  | .referenceTick => .timed
  | .boundary => .timed
  | .timIncFracWrite _ => .unit
  | .timIncIntWrite _ => .timed
  | .timDepStartWrite _ => .unit
  | .depStart _ => .unit
  | .depStop => .unit
  | .timStepWrite _ => .unit
  | .stepApply => .timed
  | .timSetLoad _ => .timed
  | .timNowLatch _ => .unit
  | .timeStateWrite _ => .unit
  | .ptpEventRx _ _ _ _ _ _ => .unit
  | .ptpEventTx _ _ _ _ => .unit
  | .txqPop _ => .unit
  | .hsrSyncForward _ _ _ _ _ _ => .unit
  | .frnClrSuspect _ _ => .unit
  | .frnReseed _ _ => .unit
  | .frnSetK _ _ _ => .unit
  | .frnSetB _ _ _ => .unit
  | .frnClrAged _ _ => .unit
  | .frnEnWrite _ _ => .unit
  | .ledgerStore _ _ _ => .unit
  | .selection _ => .unit
  | .mshEnWrite _ _ => .unit
  | .mshRetire _ _ => .unit
  | .mshRestore _ _ => .unit
  | .mshRotate _ => .unit
  | .mshClrReq _ _ => .unit
  | .convEnWrite _ => .unit
  | .forceSet _ _ => .unit
  | .forceRelease _ => .unit
  | .forceReleaseAll => .unit
  | .avFire => .unit
  | .peerAvalancheRx _ => .unit
  | .avClear => .unit
  | .clearRunEnd => .unit
  | .resetClearRun => .unit
  | .hubOrderLoss h => .hub h
  | .hubAvalancheRx h _ _ => .hub h
  | .cellK287Rx cid _ => .cell cid
  | .cellFrameRx cid _ _ _ _ => .cell cid
  | .cellBoundary cid _ => .cell cid
  | .cellWatchdog cid => .cell cid
  | .depPeek _ => .unit
  | .gtePatWrite cid _ _ => .cell cid
  | .gteCtlWrite cid _ => .cell cid
  | .testEnWrite cid _ => .cell cid
  | .gteTestWrite cid _ => .cell cid
  | .pwmRunWrite cid _ => .cell cid
  | .pwmLoad cid => .cell cid
  | .pwmPeriodStart cid => .cell cid
  | .calibrationComplete cid _ _ => .cell cid
  | .refreshRequest cid _ => .cell cid
  | .autoRefresh cid _ => .cell cid
  | .comparatorTrip cid _ => .cell cid
  | .blankWindowClose cid _ _ => .cell cid
  | .softOffEnd cid => .cell cid
  | .bypWaitExpire cid => .cell cid
  | .prtThrWrite cid _ _ => .cell cid
  | .prtOvaWrite cid _ => .cell cid
  | .clrHold cid _ => .cell cid
  | .selftest cid _ => .cell cid
  | .selftestTimeout cid => .cell cid
  | .clrJournal cid => .cell cid
  | .dmpTmaxExpire cid => .cell cid
  | .ov2Crossing cid _ => .cell cid
  | .uvloEntry cid => .cell cid
  | .uvloRelease cid _ => .cell cid
  | .cellPor cid => .cell cid
  | .retirementRecordDone cid => .cell cid
  | .bycPulseStart cid => .cell cid
  | .bycPulseEnd cid => .cell cid
  | .bycConfirm cid => .cell cid
  | .bycTimeout cid => .cell cid
  | .byfRelease cid => .cell cid
  | .byfPulse cid _ => .cell cid
  | .gateMismatch cid _ _ => .cell cid
  | .lpeRunCommit _ => .unit
  | .boardCoreStore _ _ => .unit
  | .slotCtlWrite _ _ _ => .unit
  | .slotEnable _ => .unit
  | .slotStateStore _ _ _ => .unit
  | .slotCoefStore _ _ _ => .unit
  | .lpeMemError _ _ _ => .unit
  | .lpeEnWrite _ => .unit
  | .sensorWord _ _ => .unit
  | .sensorTimeout _ => .unit
  | .snsErrWindowClose _ => .unit
  | .snsPortEnWrite _ _ => .unit
  | .snsRestore _ => .unit
  | .snsOfsCommit _ _ => .unit
  | .snsThrCfgWrite _ _ _ => .unit
  | .seqRisingEdge _ _ => .unit
  | .freqWindowEnd _ => .unit
  | .seqInputLost _ _ => .unit
  | .pbxFrameRx _ => .unit
  | .svAlignedWrite _ => .unit
  | .svTimeout _ => .unit
  | .gooseTimeout _ => .unit
  | .pbxTxProdWrite _ _ => .unit
  | .pbxLinkDown _ => .unit
  | .pbxRateWrite _ => .unit
  | .laneEnWrite l _ => lanePlace l
  | .laneSignalDetect l => lanePlace l
  | .laneCdrLock l => lanePlace l
  | .equalisationSettled l => lanePlace l
  | .trainingRx l _ => lanePlace l
  | .laneLinkLoss l => lanePlace l
  | .laneCodeErrors l _ => lanePlace l
  | .laneCheckError l => lanePlace l
  | .crcWindowClose l => lanePlace l
  | .laneRetrainTimeout l => lanePlace l
  | .deskewTimeout l => lanePlace l
  | .laneRestore l => lanePlace l
  | .laneRetrainCmd l => lanePlace l
  | .laneTestWrite l _ _ => lanePlace l
  | .laneTxeqWrite l _ => lanePlace l
  | .hubBoundary h => .hub h
  | .rptMiss cid => .cell cid
  | .hubTrackwayRx h _ _ _ _ => .hub h
  | .hubFrameDrop h _ => .hub h
  | .hubUnreach h _ _ => .hub h
  | .noticeRx _ _ => .unit
  | .hubOrderRx h _ _ _ _ => .hub h
  | .loopFrameRx _ _ => .unit
  | .mailRx _ _ _ => .unit
  | .pointRequestRx m _ _ => .cell m
  | .rspDrop cid => .cell cid
  | .pointRequestSend => .unit
  | .pointRetryTimeout _ _ => .unit
  | .pointResponseRx _ _ => .unit
  | .completionWrite => .unit
  | .loopMeasurement h _ => .hub h
  | .measurementComplete h _ => .hub h
  | .pathRx _ _ _ _ => .unit
  | .hubHeartbeatWrite h _ => .hub h
  | .hubHbLost h => .hub h
  | .hubMemUnc h => .hub h
  | .hubAliveToggle h => .hub h
  | .regReq h => .hub h
  | .adcConversion cid _ _ => .cell cid
  | .adcEntryEnable cid _ _ => .cell cid
  | .adcOfsCommit cid _ _ => .cell cid
  | .adcResRead cid _ => .cell cid
  | .capArm => .unit
  | .capStop => .unit
  | .capSwtrig => .unit
  | .streamFrameSend => .unit
  | .streamFlashWrite => .unit
  | .snpFire => .unit
  | .snapshotCopyDone => .unit
  | .snpTcmdGo => .unit
  | .ccpArm cid => .cell cid
  | .ccpStop cid => .cell cid
  | .ccpSwtrig cid => .cell cid
  | .schWaitRead _ => .unit
  | .endWait _ => .unit
  | .endWaitUntil _ => .unit
  | .endYield _ => .unit
  | .endExit _ => .unit
  | .releaseResume _ => .unit
  | .schCreate _ _ => .unit
  | .schDestroy _ _ => .unit
  | .schReady _ _ _ => .unit
  | .schCancel _ _ => .unit
  | .schRestart _ _ => .unit
  | .schPost _ _ => .unit
  | .schRetireCore _ _ => .unit
  | .schRestoreCore _ _ => .unit
  | .schCmdResRead _ => .unit
  | .schIpiWrite _ _ => .unit
  | .schSrcWrite _ _ => .unit
  | .timetableExpiry => .unit
  | .longRun _ => .unit
  | .paceCheck _ _ => .unit
  | .loadWindowEnd => .unit
  | .coreUncorrError _ _ => .unit
  | .scrubRead chip _ _ => placeOf .timed chip
  | .memoryUncorrRead chip _ _ => placeOf .timed chip
  | .sysInjWrite chip _ _ => placeOf .timed chip
  | .aliveToggle => .unit
  | .sbxLineChange _ _ => .unit
  | .hwAliveTimeout _ => .unit
  | .sbxHeartWrite _ _ => .unit
  | .heartbeatWindowEnd => .unit
  | .sbxHsWrite _ => .unit
  | .sbxCfgLoadWrite _ => .unit
  | .sbxCfgStart => .unit
  | .sbxCfgLock => .unit
  | .sbxClear _ => .unit
  | .sbxFtClr _ => .unit
  | .glacierExpire => .unit
  | .readbackSample _ => .unit
  | .testPulseStart _ _ => .unit
  | .testPulseEnd _ _ => .unit
  | .oscWindowEnd _ => .unit
  | .peerStatusTimeout => .unit
  | .ctrlRx _ => .unit
  | .mirrorSectionRx _ => .unit
  | .relinquishRx _ => .unit
  | .sdlJoin => .unit
  | .sdlSwap => .unit
  | .sdlRelq => .unit
  | .sdlRejoin => .unit
  | .sdlRegionWrite _ _ _ => .unit
  | .joinTimeout => .unit
  | .peerLost => .unit
  | .clearAnswerTimeout => .unit
  | .revHoldExpire => .unit
  | .rlqReset => .timed
  | .resetAssert chip _ _ _ => placeOf .reset chip
  | .resetStageComplete chip _ => placeOf .reset chip
  | .fuseLoadDone chip _ => placeOf .reset chip
  | .oscStopDetect => .reset
  | .stretchRelease => .reset
  | .sysRstSystem _ => .timed
  | .sysRstEngine _ => .timed
  | .sysRstBlock _ _ => .timed
  | .sysRstPeer _ => .unit
  | .peerResetRx _ => .timed
  | .wdogEnable => .unit
  | .wdogKick _ => .unit
  | .wdogPeriodEnd => .timed
  | .dieTempChange chip _ => placeOf .reset chip
  | .sysPwrWrite _ => .unit
  | .coreRelease _ => .unit
  | .bakClrCnt _ => .unit
  | .bakClrHist _ => .unit
  | .bakClrLf _ => .unit
  | .vbakRise _ => .reset
  | .vsbxUndervoltage => .unit
  | .configBlockRx b _ => .cell b
  | .configResendTimeout _ => .unit
  | .cellSelfReset cid => .cell cid
  | .secVerify _ => .unit
  | .secSetPending _ => .unit
  | .secMarkHealthy => .unit
  | .secCommitArb _ => .unit
  | .secOwnerSet _ => .unit
  | .secOwnerLock _ => .unit
  | .secJrnWrite => .unit
  | .keyStoreViolation => .timed
  | .attStart => .unit
  | .attChallengeRx chip _ => placeOf .timed chip
  | .attStatementDone chip => placeOf .timed chip
  | .attAnswerRx _ _ _ _ => .unit
  | .attTimeout _ => .unit
  | .cellUpdIdent q _ => .cell q
  | .cellUpdBegin q _ _ => .cell q
  | .cellUpdData q _ _ => .cell q
  | .cellUpdEnd q _ => .cell q
  | .cellUpdActivate q _ => .cell q
  | .hubImageRead _ _ => .unit
  | .recIdent _ _ => .unit
  | .recCertRead _ _ => .unit
  | .recBegin _ _ _ => .unit
  | .recData _ _ _ => .unit
  | .recEnd _ _ _ => .unit
  | .recBoot _ _ => .timed
  | .xspiProgram _ _ => .unit
  | .xspiErase _ => .unit
  | .timeBaseCheckError => .unit
  | .glacierTimerReset => .unit
  | .vsbxRelease => .unit
  | .sbxOscillatorStop => .unit
  | .resetSourceRelease chip _ => placeOf .reset chip
  | .domainPowerUpDone => .unit
  | .startTimeout => .unit
  | .secCommandDone chip _ => placeOf .timed chip
  | .xspiOperationDone => .unit
  | .prbsLockChange l _ => lanePlace l
  | .pbxLinkUp _ => .unit

end Sys2Proof.Machine
end

