-- ==== Sys2Proof/Certificates/Slice0/Obligations.lean ====
section
/-! DEFINITION. The statements for the provers. The statements whose names end in Complete say where a command completes and the whole
next state: `s.after u` is the state whose unit the command left at `u`, everything else as it was. -/
open Sys2Proof Sys2Proof.Machine

/-- R31, R36, R37, R39: a reference tick adds the committed increment; an accepted increment waits for the next tick, any other raises
INC_REJ; a boundary that is due is the next µs of station time, and one that is not due changes nothing. -/
def Obligations.TickAndIncrementComplete : Prop :=
  (∀ s, s.u.held = false → ∀ inc x, inc = s.time.incNext.getD s.time.inc → x = s.time.raw + inc →
    ∀ t, t = TimeBase.mk (x / 2 ^ 32 / 1000000000 % 2 ^ 48) (x / 2 ^ 32 % 1000000000) (x % 2 ^ 32) 0 inc none s.time.lastUs
        (s.time.ref80 + nominal80 (s.u.rd R.SYS_STRAP_CLK_MODE)) 0 →
    exec .referenceTick s = .next (s.afterAt t
      (if t.t16 / 2 ^ 64 > s.time.t16 / 2 ^ 64 then s.u.raise t TIM.ERA [] else s.u))) ∧
  (∀ s, s.u.held = false → s.time.due = true → ∀ t r, t = { s.time with lastUs := s.time.lastUs + 1 } →
    r = injectChecks t (s.u.boundary t (s.time.lastUs + 1) s.u.latched) → exec .boundary s = .next (s.setUnit r.1 r.2 s.u.latched)) ∧
  (∀ t (u : U), u.rd (R.SYS_INJ_ONCE 0x400000000) = 0 → u.rd (R.SYS_INJ_CONT 0x400000000) = 0 → injectChecks t u = (t, u)) ∧
  (∀ s, s.u.held = false → s.time.due = false → exec .boundary s = .next s) ∧
  (∀ s v, (Instr.timIncFracWrite v).wf = true → s.u.held = false →
    exec (.timIncFracWrite v) s = .next (s.after (s.u.wr R.TIM_INC_FRAC_FRAC v))) ∧
  (∀ s v, (Instr.timIncIntWrite v).wf = true → s.u.held = false →
    incOk (s.u.rd R.SYS_STRAP_CLK_MODE) (v * 2 ^ 32 + s.u.rd R.TIM_INC_FRAC_FRAC) = true →
    exec (.timIncIntWrite v) s =
      .next (s.afterAt { s.time with incNext := some (v * 2 ^ 32 + s.u.rd R.TIM_INC_FRAC_FRAC) } (s.u.wr R.TIM_INC_INT_INT v))) ∧
  (∀ s v, (Instr.timIncIntWrite v).wf = true → s.u.held = false →
    incOk (s.u.rd R.SYS_STRAP_CLK_MODE) (v * 2 ^ 32 + s.u.rd R.TIM_INC_FRAC_FRAC) = false →
    exec (.timIncIntWrite v) s = .next (s.after (s.u.raise s.time TIM.INC_REJ [])))

/-- R38: START arms the generator, or lets it run from the next boundary with START_LATE when the start DN has been reached; a new start
DN is compared while ARMED, and a late start stands whatever TIM_DEP_START then holds; STOP stops it when ARMED or with CONV_EN 0, raises
STOP_REJ with CONV_EN 1, and is ignored in STOPPED; the generator runs from the boundary of the start DN or of a late start. -/
def Obligations.DepartureGeneratorCommandsComplete : Prop :=
  (∀ s, s.u.held = false → s.u.rd R.TIM_DEP_CTL_STATE ≠ 2 → 0 < dnDiff (s.u.rd R.TIM_DEP_START_DN_START) s.time.dn →
    exec (.depStart false) s = .next (s.after ((s.u.wr R.TIM_DEP_CTL_STATE 1).wr R.TIM_DEP_CTL_START 1))) ∧
  (∀ s, s.u.held = false → s.u.rd R.TIM_DEP_CTL_STATE ≠ 2 → dnDiff (s.u.rd R.TIM_DEP_START_DN_START) s.time.dn ≤ 0 →
    exec (.depStart false) s = .next (s.after ((((s.u.wr R.TIM_DEP_CTL_STATE 1).wr R.TIM_DEP_CTL_START 1).withTim
      (fun h => { h with runNext := true })).raise s.time TIM.START_LATE []))) ∧
  (∀ s, s.u.held = false → s.u.rd R.TIM_DEP_CTL_STATE = 2 → exec (.depStart false) s = .next (s.after s.u)) ∧
  (∀ s v, (Instr.timDepStartWrite v).wf = true → s.u.held = false → s.u.rd R.TIM_DEP_CTL_STATE ≠ 1 →
    exec (.timDepStartWrite v) s = .next (s.after (s.u.wr R.TIM_DEP_START_DN_START v))) ∧
  (∀ s v, (Instr.timDepStartWrite v).wf = true → s.u.held = false → s.u.rd R.TIM_DEP_CTL_STATE = 1 → 0 < dnDiff v s.time.dn →
    exec (.timDepStartWrite v) s = .next (s.after (((s.u.wr R.TIM_DEP_START_DN_START v).wr R.TIM_DEP_CTL_STATE 1).wr
      R.TIM_DEP_CTL_START 1))) ∧
  (∀ s v, (Instr.timDepStartWrite v).wf = true → s.u.held = false → s.u.rd R.TIM_DEP_CTL_STATE = 1 → dnDiff v s.time.dn ≤ 0 →
    exec (.timDepStartWrite v) s = .next (s.after (((((s.u.wr R.TIM_DEP_START_DN_START v).wr R.TIM_DEP_CTL_STATE 1).wr
      R.TIM_DEP_CTL_START 1).withTim (fun h => { h with runNext := true })).raise s.time TIM.START_LATE []))) ∧
  (∀ s, s.u.held = false →
    s.u.rd R.TIM_DEP_CTL_STATE = 1 ∨ (s.u.rd R.TIM_DEP_CTL_STATE = 2 ∧ s.u.rd R.DEP_CTL_CONV_EN = 0) →
    ∀ c, c = Instr.depStop ∨ c = Instr.depStart true →
    exec c s = .next (s.after (((s.u.wr R.TIM_DEP_CTL_STATE 0).wr R.TIM_DEP_CTL_START 0).withTim
      (fun h => { h with runNext := false })))) ∧
  (∀ s, s.u.held = false → s.u.rd R.TIM_DEP_CTL_STATE = 2 → s.u.rd R.DEP_CTL_CONV_EN ≠ 0 →
    exec .depStop s = .next (s.after (s.u.raise s.time TIM.STOP_REJ []))) ∧
  (∀ s, s.u.held = false → s.u.rd R.TIM_DEP_CTL_STATE = 0 → exec .depStop s = .next (s.after s.u)) ∧
  (∀ (u : U) t dn, u.rd R.TIM_DEP_CTL_STATE = 1 → u.tim.runNext = true ∨ u.rd R.TIM_DEP_START_DN_START = dn →
    (u.depGenerator t dn).rd R.TIM_DEP_CTL_STATE = 2 ∧ (u.depGenerator t dn).rd R.TIM_DEP_CTL_START = 0) ∧
  (∀ (u : U) t dn, u.rd R.TIM_DEP_CTL_STATE ≠ 1 ∨ (u.tim.runNext = false ∧ u.rd R.TIM_DEP_START_DN_START ≠ dn) →
    u.depGenerator t dn = u)

/-- R40, R41, R42: a written step is pending; with the generator STOPPED it is added at its tick and STEP_DONE raised; a step that R40 or
R41 refuses raises STEP_REJ and leaves station time; a load sets station time in STOPPED and raises SET_REJ otherwise. -/
def Obligations.StepsAndLoadsComplete : Prop :=
  (∀ s v, (Instr.timStepWrite v).wf = true → s.u.held = false →
    exec (.timStepWrite v) s = .next (s.after ((s.u.wr R.TIM_STATUS_STEP_PEND 1).withTim
      (fun h => { h with step := some (sx 32 v), stepBnd := false })))) ∧
  (∀ s d, s.u.held = false → s.u.tim.step = some d → s.u.rd R.TIM_DEP_CTL_STATE = 0 → 0 ≤ (s.time.raw : Int) + d * 2 ^ 28 →
    ∀ x, x = ((s.time.raw : Int) + d * 2 ^ 28).toNat →
    ∃ t u, exec .stepApply s = .next t ∧ t.time.sec = x / 2 ^ 32 / 1000000000 % 2 ^ 48 ∧ t.time.ns = x / 2 ^ 32 % 1000000000 ∧
      t.time.frac = x % 2 ^ 32 ∧ t.time.elapsed = s.time.elapsed ∧ t.time.lastUs = t.time.us ∧
      u = (((s.u.wr R.TIM_STATUS_STEP_PEND 0).withTim (fun h => { h with step := none, stepBnd := false })).withTim
        (fun h => { h with lastStep := some 0 })).raise t.time TIM.STEP_DONE [] ∧
      t.u = (u.eraEvent s.time t.time).finish t.time (u.eraEvent s.time t.time) ∧
      t.hubs = s.hubs ∧ t.cells = s.cells ∧ t.pending = s.pending) ∧
  (∀ s d, s.u.held = false → s.u.tim.step = some d → s.u.rd R.TIM_DEP_CTL_STATE = 2 → s.u.tim.stepBnd = true →
    d.natAbs > s.u.rd R.TIM_STEP_LIM_STEP_MAX * 16 ∨ (∃ n, s.u.tim.lastStep = some n ∧ n < s.u.rd R.TIM_STEP_LIM_STEP_GAP) →
    exec .stepApply s = .next (s.after (((s.u.wr R.TIM_STATUS_STEP_PEND 0).withTim
      (fun h => { h with step := none, stepBnd := false })).raise s.time TIM.STEP_REJ []))) ∧
  (∀ s v, (Instr.timSetLoad v).wf = true → s.u.held = false → s.u.rd R.TIM_DEP_CTL_STATE = 0 → bits v 0 30 < 1000000000 →
    ∀ sec, sec = s.u.rd R.TIM_SET_SECL_SEC_LO + 2 ^ 32 * s.u.rd R.TIM_SET_SECH_SEC_HI →
    exec (.timSetLoad v) s = .next (s.afterAt
      { s.time with
        sec := sec, ns := bits v 0 30, frac := 0, elapsed := 0, lastUs := (sec * 1000000000 + bits v 0 30) / 1000 }
      (s.u.wr R.TIM_SET_NS_NS (bits v 0 30)))) ∧
  (∀ s v, (Instr.timSetLoad v).wf = true → s.u.held = false → s.u.rd R.TIM_DEP_CTL_STATE ≠ 0 ∨ 1000000000 ≤ bits v 0 30 →
    exec (.timSetLoad v) s = .next (s.after (s.u.raise s.time TIM.SET_REJ [])))

/-- R43, R44, R45, R50, R51: the latch of TIM_NOW, TIME_STATE, received and transmitted PTP events, POP and the forwarded Sync. -/
def Obligations.TimeReadingsAndStampsComplete : Prop :=
  (∀ s core, (Instr.timNowLatch core).wf = true → s.u.held = false → s.u.Calm →
    ∃ t, exec (.timNowLatch core) s = .next t ∧ t.time = s.time ∧
      t.u.rd (R.TIM_NOW_TSL_TS_LO core) = s.time.ts64 % 2 ^ 32 ∧ t.u.rd (R.TIM_NOW_TSH_TS_HI core) = s.time.ts64 / 2 ^ 32 % 2 ^ 32 ∧
      t.u.rd (R.TIM_NOW_SECL_SEC_LO core) = s.time.tns / 1000000000 % 2 ^ 32 ∧
      t.u.rd (R.TIM_NOW_SECH_SEC_HI core) = s.time.tns / 1000000000 / 2 ^ 32 % 2 ^ 16 ∧
      t.u.rd (R.TIM_NOW_SECH_ERA core) = s.time.era ∧ t.u.rd (R.TIM_NOW_NS_NS core) = s.time.tns % 1000000000 ∧
      t.u.rd (R.TIM_NOW_DN_DN core) = s.time.dn ∧
      t.u.out = s.u.out ++ [.readData core 0x400010020 (s.time.ts64 % 2 ^ 32)] ∧ t.u.mem = s.u.mem) ∧
  (∀ s v, (Instr.timeStateWrite v).wf = true → s.u.held = false → bits v 0 2 ≠ 3 → bits v 4 2 ≠ 3 →
    bits v 4 2 ≠ s.u.rd R.TIM_CTL_TIME_STATE →
    exec (.timeStateWrite v) s = .next (s.after ((((s.u.wr R.TIM_CTL_PTP_PAIR (bits v 0 2)).wr R.TIM_CTL_PTP_DOMAIN (bits v 8 8)).wr
      R.TIM_CTL_TIME_STATE (bits v 4 2)).raise s.time TIM.TIME_STATE []))) ∧
  (∀ s port m d q raw octets, (Instr.ptpEventRx port m d q raw octets).wf = true → s.u.held = false →
    s.u.ptpOn (port / 2) = true → d = s.u.rd R.TIM_CTL_PTP_DOMAIN →
    exec (.ptpEventRx port m d q raw octets) s = .next (s.after (s.u.ringPut s.time port (s.u.ingress port raw) 1 octets))) ∧
  (∀ s port m d q raw octets, (Instr.ptpEventRx port m d q raw octets).wf = true → s.u.held = false →
    s.u.ptpOn (port / 2) = true → d ≠ s.u.rd R.TIM_CTL_PTP_DOMAIN →
    exec (.ptpEventRx port m d q raw octets) s = .next (s.after s.u)) ∧
  (∀ s p m q raw, (Instr.ptpEventTx p m q raw).wf = true → s.u.held = false → (s.u.txq p).length < 16 →
    exec (.ptpEventTx p m q raw) s =
      .next (s.after (s.u.setTxq p (s.u.txq p ++ [⟨m, q, (raw + s.u.rd (R.TIM_PORT_LAT_EGRESS p)) % 2 ^ 64⟩])))) ∧
  (∀ s p m q raw, (Instr.ptpEventTx p m q raw).wf = true → s.u.held = false → 16 ≤ (s.u.txq p).length →
    exec (.ptpEventTx p m q raw) s =
      .next (s.after (((s.u.inc (R.TIM_TXQ_STAT_DROP p)).wr (R.TIM_TXQ_STAT_OVF p) 1).raise s.time (TIM.TXQ_OVF p) [(8, 2, p)]))) ∧
  (∀ s p e q, (Instr.txqPop p).wf = true → s.u.held = false → s.u.txq p = e :: q →
    exec (.txqPop p) s = .next (s.after (s.u.setTxq p q))) ∧
  (∀ s p q one corr rx tx, (Instr.hsrSyncForward p q one corr rx tx).wf = true → s.u.held = false →
    s.u.on R.PBX_CTL_HSR_EN = true → s.u.rd R.TIM_CTL_PTP_PAIR = 1 →
    exec (.hsrSyncForward p q one corr rx tx) s =
      .next (s.after (s.u.emit (.hsrForward (5 - p) q (enc 64 ((corr : Int) + tsDiff tx rx * 4096)) one))))

/-- R8, R10, R12, R75, R444, R574: a core's store to SRAM, to a register that is present and to an address that is not; a read of a
register; a store to STATUS and to ACK are stores. -/
def Obligations.RegisterAccessesComplete : Prop :=
  (∀ s core addr size v, (Instr.registerWrite .unit core addr size v).wf = true → s.u.held = false →
    s.u.sramAt addr size = true → s.u.capHolds addr size = false → s.u.ledgerHolds addr size = false →
    exec (.registerWrite .unit core addr size v) s = .next (s.after
      { s.u with mem := s.u.mem.write addr size v, memh := MemIO.written s.u.memh addr size })) ∧
  (∀ s core addr v, (Instr.registerWrite .unit core addr 4 v).wf = true → s.u.held = false →
    0x400000000 ≤ addr → addr < 0x401000000 → addr % 4 = 0 → s.u.blockOn addr = true →
    addr ≠ 0x400010008 → addr ≠ 0x40001001C → addr ≠ 0x400000014 →
    exec (.registerWrite .unit core addr 4 v) s = .next (s.after (s.u.storeReg s.time core addr v))) ∧
  (∀ s core addr size v, (Instr.registerWrite .unit core addr size v).wf = true → s.u.held = false → 0x401000000 ≤ addr →
    exec (.registerWrite .unit core addr size v) s = .next (s.after (s.u.emit (.busError core addr)))) ∧
  (∀ s core addr y, (Instr.rcFieldRead .unit core addr 4 y).wf = true → s.u.held = false →
    0x400000000 ≤ addr → addr < 0x401000000 → addr % 4 = 0 → s.u.blockOn addr = true →
    addr ≠ 0x400010020 → addr ≠ 0x400530000 → addr ≠ 0x400530028 →
    exec (.rcFieldRead .unit core addr 4 y) s = .next (s.after
      (U.emit { s.u with regs := (s.u.regs.readClear (unitFields core addr)).tie (unitFields core addr) y }
        (.readData core addr (s.u.readWord core addr))))) ∧
  (∀ s core addr size y, (Instr.rcFieldRead .unit core addr size y).wf = true → s.u.held = false →
    0x400000000 ≤ addr → addr < 0x401000000 → addr % 4 ≠ 0 ∨ size ≠ 4 → ∃ u, exec (.rcFieldRead .unit core addr size y) s = .next (s.after u) ∧
      u.out = s.u.out ++ [.busError core addr]) ∧
  (∀ s addr v k, (Instr.statusW1cWrite .unit addr v k).wf = true → s.u.held = false → s.u.blockOn addr = true →
    ∀ b, b ∈ unitBlks → addr = b.st →
    exec (.statusW1cWrite .unit addr v k) s = .next (s.after (s.u.storeReg s.time 0 addr (v - (v &&& k))))) ∧
  (∀ s v k, (Instr.statusW1cWrite .unit B.DEP.st v k).wf = true → s.u.held = false → s.u.Calm →
    s.u.blockOn B.DEP.st = true → ∃ t, exec (.statusW1cWrite .unit B.DEP.st v k) s = .next t ∧
      ∀ n, n < 6 → t.u.rd (B.DEP.status n) = (if bitAt v n && !bitAt k n then 0 else s.u.rd (B.DEP.status n))) ∧
  (∀ s addr v, (Instr.blockAck .unit addr v).wf = true → s.u.held = false → s.u.blockOn addr = true →
    ∀ b, b ∈ unitBlks → addr = b.ackAddr → unitBlks.find? (fun x => x.ackAddr == addr) = some b → bitAt v 0 = true →
    exec (.blockAck .unit addr v) s = .next (s.after (s.u.ack s.time b))) ∧
  (∀ s h core addr v, (Instr.registerWrite (.hub h) core addr 4 v).wf = true → (s.hub h).deaf (.registerWrite (.hub h) core addr 4 v) = false →
    exec (.registerWrite (.hub h) core addr 4 v) s = .next (s.withHub h ((s.hub h).store (s.hubAt h) core addr 4 v))) ∧
  (∀ s cid core addr v, (Instr.registerWrite (.cell cid) core addr 4 v).wf = true → ∀ d, d = (s.cell cid).now cid →
    exec (.registerWrite (.cell cid) core addr 4 v) s = .next (s.withCell cid (d.2.store cid d.1 core addr 4 v)))

/-- R68, R70, R71, R73, R75, R78, R604: a command of FRN_CMD for a configured cell is pending from the write, one that finds GO at 1 or no such
cell sets REJ; at the next boundary the pending one acts; EN of FRN_CTL; a core store into an enabled arm's record faults. -/
def Obligations.ChargeTrackingCommandsComplete : Prop :=
  (∀ s a cell op c, (op = 1 ∧ c = Instr.frnClrSuspect a cell) ∨ (op = 2 ∧ c = Instr.frnReseed a cell) ∨ (op = 5 ∧ c = Instr.frnClrAged a cell) →
    c.wf = true → s.u.deaf c = false → s.u.on (R.FRN_CMD_GO a) = false → s.u.topo.valid (a * 2048 + cell) = true →
    exec c s = .next (s.after (((s.u.wr (R.FRN_CMD_CELL a) cell).wr (R.FRN_CMD_OP a) op).wr (R.FRN_CMD_GO a) 1))) ∧
  (∀ s a cell v op c, (op = 3 ∧ c = Instr.frnSetK a cell v) ∨ (op = 4 ∧ c = Instr.frnSetB a cell v) →
    c.wf = true → s.u.deaf c = false → s.u.on (R.FRN_CMD_GO a) = false → s.u.topo.valid (a * 2048 + cell) = true →
    exec c s = .next (s.after ((((s.u.wr (R.FRN_CMD_DATA_DATA a) v).wr (R.FRN_CMD_CELL a) cell).wr (R.FRN_CMD_OP a) op).wr (R.FRN_CMD_GO a) 1))) ∧
  (∀ s a cell c, c = Instr.frnClrSuspect a cell ∨ c = Instr.frnReseed a cell ∨ c = Instr.frnClrAged a cell → c.wf = true → s.u.deaf c = false →
    s.u.on (R.FRN_CMD_GO a) = true ∨ s.u.topo.valid (a * 2048 + cell) = false →
    exec c s = .next (s.after (s.u.wr (R.FRN_CMD_STAT_REJ a) 1))) ∧
  (∀ (u : U) a e, u.on (R.FRN_CMD_GO a) = true → u.cellOf (a * 2048 + u.rd (R.FRN_CMD_CELL a)) = some e →
    ∀ v : U, (u.rd (R.FRN_CMD_OP a) = 1 ∧ v = (u.setFlag e.2 .suspect false).setSusRun e.2 0) ∨
      (u.rd (R.FRN_CMD_OP a) = 2 ∧ v = u.setFlag e.2 .unseeded true) ∨
      (u.rd (R.FRN_CMD_OP a) = 3 ∧ v = (u.setK e.2 (u.rd (R.FRN_CMD_DATA_DATA a))).recWrite e.2) ∨
      (u.rd (R.FRN_CMD_OP a) = 4 ∧ v = (u.lgw e.2.cid 0x10 4 (u.rd (R.FRN_CMD_DATA_DATA a) % 2 ^ 24)).recWrite e.2) ∨
      (u.rd (R.FRN_CMD_OP a) = 5 ∧ v = (u.setFlag e.2 .aged false).setFlag e.2 .kclamp false) →
    u.frnCmdApply a = ((v.wr (R.FRN_CMD_GO a) 0).wr (R.FRN_CMD_STAT_DONE a) 1).countSuspects a) ∧
  (∀ s a en, (Instr.frnEnWrite a en).wf = true → s.u.deaf (.frnEnWrite a en) = false → en = true ∨ s.u.on R.DEP_CTL_CONV_EN = false →
    exec (.frnEnWrite a en) s = .next (s.after (s.u.wr (R.FRN_CTL_EN a) (b2n en)))) ∧
  (∀ s a, (Instr.frnEnWrite a false).wf = true → s.u.deaf (.frnEnWrite a false) = false → s.u.on R.DEP_CTL_CONV_EN = true →
    exec (.frnEnWrite a false) s = .next (s.after s.u)) ∧
  (∀ s addr size v, (Instr.ledgerStore addr size v).wf = true → s.u.held = false → s.u.sramAt addr size = true → s.u.capHolds addr size = false →
    (∀ c ∈ s.u.topo.cells, addr < s.u.lgr c.cid 0x400 → s.u.lgr c.cid 0 < addr + size → s.u.on (R.FRN_CTL_EN (cidArm c.cid)) = false) →
    exec (.ledgerStore addr size v) s = .next (s.after
      { s.u with mem := s.u.mem.write addr size v, memh := MemIO.written s.u.memh addr size })) ∧
  (∀ s addr size v c, (Instr.ledgerStore addr size v).wf = true → s.u.held = false → s.u.sramAt addr size = true →
    c ∈ s.u.topo.cells → addr < s.u.lgr c.cid 0x400 → s.u.lgr c.cid 0 < addr + size → s.u.on (R.FRN_CTL_EN (cidArm c.cid)) = true →
    exec (.ledgerStore addr size v) s = .next (s.after (s.u.emit (.storeFault addr))))

/-- R91, R97, R104, R111, R113, R114, R115: the selection made in an open interval; a command of MSH_CMD is pending from the write or sets
REJ (RESTORE with CONV_EN 1 among them), and acts before the next selection; EN of MSH_CTL. -/
def Obligations.SelectionCommandsComplete : Prop :=
  (∀ s a, (Instr.selection a).wf = true → s.u.deaf (.selection a) = false → (s.u.arm a).open_ = true → (s.u.arm a).cfg.en = true → s.u.topo.armOn a = true →
    s.time.due = false → ∀ r, r = s.u.draw →
    exec (.selection a) s = .next (s.after (r.2.reading s.time (r.2.selectSpans a)
      (fun u => u.select s.time a (r.1 % 521) (min 65535 ((s.time.lastUs + 1) * 1000 - s.time.tns)))))) ∧
  (∀ s a, (Instr.selection a).wf = true → s.u.deaf (.selection a) = false → (s.u.arm a).open_ = false ∨ s.time.due = true →
    exec (.selection a) s = .next (s.after s.u)) ∧
  (∀ s a cell op c, (op = 1 ∧ c = Instr.mshRetire a cell) ∨ (op = 4 ∧ c = Instr.mshClrReq a cell) ∨
      (op = 2 ∧ c = Instr.mshRestore a cell ∧ s.u.on R.DEP_CTL_CONV_EN = false) →
    c.wf = true → s.u.deaf c = false → s.u.on (R.MSH_CMD_GO a) = false → s.u.topo.valid (a * 2048 + cell) = true →
    exec c s = .next (s.after (((s.u.wr (R.MSH_CMD_CELL a) cell).wr (R.MSH_CMD_OP a) op).wr (R.MSH_CMD_GO a) 1))) ∧
  (∀ s a, (Instr.mshRotate a).wf = true → s.u.deaf (.mshRotate a) = false → s.u.on (R.MSH_CMD_GO a) = false →
    exec (.mshRotate a) s = .next (s.after (((s.u.wr (R.MSH_CMD_CELL a) 0).wr (R.MSH_CMD_OP a) 3).wr (R.MSH_CMD_GO a) 1))) ∧
  (∀ s a cell, (Instr.mshRestore a cell).wf = true → s.u.deaf (.mshRestore a cell) = false → s.u.on R.DEP_CTL_CONV_EN = true →
    exec (.mshRestore a cell) s = .next (s.after (s.u.wr (R.MSH_CMD_STAT_REJ a) 1))) ∧
  (∀ (u : U) a, u.on (R.MSH_CMD_GO a) = true → ∀ v : U,
      (u.rd (R.MSH_CMD_OP a) = 3 ∧ v = u.setArm a (fun h => { h with rotate := true })) ∨
      (∃ e, u.cellOf (a * 2048 + u.rd (R.MSH_CMD_CELL a)) = some e ∧
        ((u.rd (R.MSH_CMD_OP a) = 1 ∧ v = u.setFlag e.2 .retired true) ∨
         (u.rd (R.MSH_CMD_OP a) = 2 ∧ v = (u.setFlag e.2 .retired false).setFlag e.2 .unseeded true) ∨
         (u.rd (R.MSH_CMD_OP a) = 4 ∧ v = u.setReq e.1 e.2.cid false))) →
    u.mshCmdApply a = (v.wr (R.MSH_CMD_GO a) 0).wr (R.MSH_CMD_STAT_DONE a) 1) ∧
  (∀ s a, (Instr.mshEnWrite a true).wf = true → s.u.deaf (.mshEnWrite a true) = false → s.u.on (R.FRN_CTL_EN a) = true →
    exec (.mshEnWrite a true) s = .next (s.after (s.u.wr (R.MSH_CTL_EN a) 1))) ∧
  (∀ s a, (Instr.mshEnWrite a false).wf = true → s.u.deaf (.mshEnWrite a false) = false → s.u.on R.DEP_CTL_CONV_EN = false →
    exec (.mshEnWrite a false) s = .next (s.after (s.u.wr (R.MSH_CTL_EN a) 0))) ∧
  (∀ s a en, (Instr.mshEnWrite a en).wf = true → s.u.deaf (.mshEnWrite a en) = false →
    (en = true ∧ s.u.on (R.FRN_CTL_EN a) = false) ∨ (en = false ∧ s.u.on R.DEP_CTL_CONV_EN = true) →
    exec (.mshEnWrite a en) s = .next (s.after s.u))

/-- R119, R120, R127, R128, R148, R605: CONV_EN with its conditions; the effective DN of a force command and LATE; SET, RELEASE and
RELEASE_ALL, and when SET and RELEASE are refused; DEP_PEEK_DN. -/
def Obligations.ConverterAndForceCommandsComplete : Prop :=
  (∀ s, s.u.held = false → exec (.convEnWrite false) s = .next (s.after (s.u.wr R.DEP_CTL_CONV_EN 0))) ∧
  (∀ s, s.u.held = false → s.u.on R.DEP_CTL_CONV_EN = false → s.u.convOk = true →
    exec (.convEnWrite true) s = .next (s.after (s.u.wr R.DEP_CTL_CONV_EN 1))) ∧
  (∀ s, s.u.held = false → s.u.on R.DEP_CTL_CONV_EN = false → s.u.convOk = false →
    exec (.convEnWrite true) s = .next (s.after (s.u.raise s.time DEP.CONV_REJ []))) ∧
  (∀ (u : U) t first, first = u.firstOpen t → 0 ≤ dnDiff (u.rd R.DEP_FORCE_DN_DN) first →
    u.forceEff t = (u.rd R.DEP_FORCE_DN_DN, (u.wr R.DEP_FORCE_EFF_DN (u.rd R.DEP_FORCE_DN_DN)).wr R.DEP_FORCE_STAT_DONE 1)) ∧
  (∀ (u : U) t first, first = u.firstOpen t → dnDiff (u.rd R.DEP_FORCE_DN_DN) first < 0 →
    u.forceEff t = (first,
      (((u.wr R.DEP_FORCE_EFF_DN first).wr R.DEP_FORCE_STAT_DONE 1).wr R.DEP_FORCE_STAT_LATE 1).raise t DEP.FORCE_LATE [])) ∧
  (∀ s cid code, (Instr.forceSet cid code).wf = true → s.u.held = false → code ≤ 4 →
    s.u.topo.valid cid = true → (code = 2 ∨ code = 4 → ∃ e, s.u.cellOf cid = some e ∧ e.2.fb = true) →
    ∀ old, old = s.u.dep.force.any (fun e => e.cid == cid) → old = true ∨ s.u.dep.force.length < 64 →
    ∀ r c l, r = (s.u.forceFields cid code 1).forceEff s.time → c = some (ForceChange.mk (some code) r.1) →
    (old = true ∧ l = r.2.dep.force.map (fun e => if e.cid == cid then { e with chg := c } else e)) ∨
      (old = false ∧ l = r.2.dep.force ++ [⟨cid, none, c⟩]) →
    exec (.forceSet cid code) s = .next (s.after ((r.2.withDep (fun d => { d with force := l })).wr R.DEP_FORCE_STAT_ACTIVE l.length))) ∧
  (∀ s cid code, (Instr.forceSet cid code).wf = true → s.u.held = false → 4 < code ∨ s.u.topo.valid cid = false ∨
      ((code = 2 ∨ code = 4) ∧ ∃ e, s.u.cellOf cid = some e ∧ e.2.fb = false) ∨
      (s.u.dep.force.any (fun e => e.cid == cid) = false ∧ 64 ≤ s.u.dep.force.length) →
    exec (.forceSet cid code) s = .next (s.after ((s.u.wr R.DEP_FORCE_STAT_REJ 1).wr R.DEP_FORCE_CTL_GO 0))) ∧
  (∀ s cid, (Instr.forceRelease cid).wf = true → s.u.held = false → s.u.dep.force.any (fun e => e.cid == cid) = true →
    ∀ r, r = (s.u.forceFields cid (s.u.rd R.DEP_FORCE_CTL_CODE) 2).forceEff s.time →
    exec (.forceRelease cid) s = .next (s.after (r.2.withDep (fun d => { d with
        force := d.force.map (fun e => if e.cid == cid then { e with chg := some ⟨none, r.1⟩ } else e) })))) ∧
  (∀ s cid, (Instr.forceRelease cid).wf = true → s.u.held = false → s.u.dep.force.any (fun e => e.cid == cid) = false →
    exec (.forceRelease cid) s = .next (s.after ((s.u.wr R.DEP_FORCE_STAT_REJ 1).wr R.DEP_FORCE_CTL_GO 0))) ∧
  (∀ s, s.u.held = false → ∀ r, r = (s.u.wr R.DEP_FORCE_CTL_OP 3).forceEff s.time →
    exec .forceReleaseAll s = .next (s.after (r.2.withDep (fun d => { d with
        force := d.force.map (fun e => { e with chg := some ⟨none, r.1⟩ }) })))) ∧
  (∀ s dn o, (Instr.depPeek dn).wf = true → s.u.held = false → s.u.Calm →
    s.u.topo.valid (s.u.rd R.DEP_PEEK_CID_CID) = true → -31 ≤ dnDiff dn s.time.cur → dnDiff dn s.time.cur ≤ (s.u.rd R.DEP_CTL_LEAD : Int) →
    s.u.orderSet (cidArm (s.u.rd R.DEP_PEEK_CID_CID)) dn = some o →
    ∃ t, exec (.depPeek dn) s = .next t ∧ t.u.rd R.DEP_PEEK_DN_DN = dn ∧ t.u.rd R.DEP_PEEK_DATA_VALID = 1 ∧
      t.u.rd R.DEP_PEEK_DATA_CODE = o.code (s.u.rd R.DEP_PEEK_CID_CID) % 16 ∧
      t.u.rd R.DEP_PEEK_DATA_HELD = b2n o.held ∧ t.u.rd R.DEP_PEEK_DATA_AVL = b2n o.avl)

/-- R139, R140, R141, R144, R145, R146, R607: an avalanche source reaching the departure unit, a source while one is latched, CLEAR, the end
of a clearing run, the run after a reset. -/
def Obligations.AvalancheCommandsComplete : Prop :=
  (∀ s bit c, (bit = 1 ∧ c = Instr.avFire) ∨ (bit = 4 ∧ c = Instr.peerAvalancheRx avalancheBlock ∧ s.u.sidingUp ≠ 0) → s.u.held = false →
    s.u.on R.DEP_STATUS_AV_LATCHED = false ∨ s.u.on R.DEP_STATUS_CLR_SENDING = true →
    ∃ u, exec c s = .next (s.after u) ∧ u.rd R.DEP_STATUS_AV_LATCHED = 1 ∧ u.rd R.DEP_CTL_CONV_EN = 0 ∧
      u.rd R.DEP_AV_SRC_FIRST_SRC = bit + 1 ∧ u.rd R.DEP_AV_TSL_TS_LO = s.time.ts64 % 2 ^ 32 ∧ u.rd (B.DEP.status 2) = 1 ∧
      (s.u.sbx.supply = true → u.rd R.SBX_STATE_TRIPPED = 1 ∧ u.rd R.SBX_STATE_AV_OUT = 1) ∧
      ∀ n, n < (if bit = 4 then 96 else 100) → s.u.on (R.LNS_CTL_EN (laneBase n)) = true → Output.mainline n avalancheBlocks ∈ u.out) ∧
  (∀ s bit c, (bit = 1 ∧ c = Instr.avFire) ∨ (bit = 4 ∧ c = Instr.peerAvalancheRx avalancheBlock ∧ s.u.sidingUp ≠ 0) → s.u.held = false →
    s.u.on R.DEP_STATUS_AV_LATCHED = true → s.u.on R.DEP_STATUS_CLR_SENDING = false →
    exec c s = .next (s.after (s.u.wr R.DEP_AV_SRC_SRC (setBit (s.u.rd R.DEP_AV_SRC_SRC) bit)))) ∧
  (∀ s b, (Instr.peerAvalancheRx b).wf = true → s.u.held = false → s.u.sidingUp = 0 ∨ b ≠ avalancheBlock →
    exec (.peerAvalancheRx b) s = .next (s.after s.u)) ∧
  (∀ s, s.u.held = false → s.u.on R.SDL_ROLE_CLR_PEND = false → s.u.clearOk = true → s.u.on R.SDL_ROLE_PEER_VALID = false →
    exec .avClear s = .next (s.after (s.u.withDep (fun d => { d with clrAt := some ((s.time.nextTen + 20) % 2 ^ 32) })))) ∧
  (∀ s, s.u.held = false → s.u.on R.SDL_ROLE_CLR_PEND = false → s.u.clearOk = true → s.u.on R.SDL_ROLE_PEER_VALID = true →
    exec .avClear s = .next (s.after ((s.u.wr R.SDL_ROLE_CLR_PEND 1).withSdl (fun x => { x with clrWait := some 0 })))) ∧
  (∀ s, s.u.held = false → s.u.on R.SDL_ROLE_CLR_PEND = false → s.u.clearOk = false → s.u.on R.SDL_ROLE_PEER_VALID = false →
    exec .avClear s = .next (s.after (s.u.raise s.time DEP.CLR_REJ []))) ∧
  (∀ s, s.u.held = false → s.u.on R.SDL_ROLE_CLR_PEND = false → s.u.clearOk = false → s.u.on R.SDL_ROLE_PEER_VALID = true →
    exec .avClear s = .next (s.after ((s.u.withSdl (fun x => { x with clrAns := some false })).raise s.time DEP.CLR_REJ []))) ∧
  (∀ s, s.u.held = false → s.u.on R.DEP_STATUS_CLR_SENDING = true → s.u.dep.clrLeft = 0 → s.u.Calm →
    ∃ t, exec .clearRunEnd s = .next t ∧ t.u.rd R.DEP_STATUS_CLR_SENDING = 0 ∧ t.u.rd R.DEP_STATUS_AV_LATCHED = 0 ∧
      t.u.rd R.DEP_AV_SRC_SRC = 0 ∧ t.u.rd R.DEP_AV_SRC_FIRST_SRC = 0 ∧ t.u.mem = s.u.mem) ∧
  (∀ s, s.u.held = false → s.u.dep.resetRun = false → s.u.dep.ranSince = true → s.u.sending = true →
    s.u.rd R.SDL_ROLE_ROLE = 0 ∨ s.u.rd R.SDL_ROLE_ROLE = 3 → s.u.on R.DEP_STATUS_AV_LATCHED = false →
    exec .resetClearRun s = .next (s.after ((s.u.withDep (fun d => { d with clrLeft := 16, resetRun := true })).wr R.DEP_STATUS_CLR_SENDING 1)))

/-- R132, R135, R138, R142, R143, R159: the loss of ORDER frames and an avalanche at a hub; K28.7, a frame, a boundary and the watchdog of a
cell. -/
def Obligations.HubAndCellDepartureCommandsComplete : Prop :=
  (∀ s h, (Instr.hubOrderLoss h).wf = true → (s.hub h).deaf (.hubOrderLoss h) = false → 4 ≤ (s.hub h).loss → (s.hub h).told = false →
    exec (.hubOrderLoss h) s = .next (s.withHub h (H.raise { s.hub h with lost := true, told := true } (s.hubAt h) HC.BOTH_LOSS []))) ∧
  (∀ s h, (Instr.hubOrderLoss h).wf = true → (s.hub h).deaf (.hubOrderLoss h) = false → (s.hub h).loss < 4 ∨ (s.hub h).told = true →
    exec (.hubOrderLoss h) s = .next (s.withHub h (s.hub h))) ∧
  (∀ s h lane, (Instr.hubAvalancheRx h lane avalancheBlock).wf = true → (s.hub h).deaf (.hubAvalancheRx h lane avalancheBlock) = false → (s.hub h).laneUp lane = true →
    (s.hub h).laneIO.looped (hubLaneBase lane) = false →
    exec (.hubAvalancheRx h lane avalancheBlock) s = .next (s.withHub h (H.wr { (s.hub h).blockAll with avl := true } R.HTW_STATE_AVL 1))) ∧
  (∀ s h lane b, (Instr.hubAvalancheRx h lane b).wf = true → (s.hub h).deaf (.hubAvalancheRx h lane b) = false → (s.hub h).laneUp lane = false ∨ (s.hub h).laneIO.looped (hubLaneBase lane) = true ∨ b ≠ avalancheBlock →
    exec (.hubAvalancheRx h lane b) s = .next (s.withHub h (s.hub h))) ∧
  (∀ s cid port ofs y, (Instr.cellK287Rx cid port).wf = true → (s.cell cid).now cid = (ofs, y) →
    y.laneIO.looped (portBase port) = false ∨ Output.k28_7 port ∈ y.out → exec (.cellK287Rx cid port) s = .next (s.withCell cid
      (((((y.emit (.k28_7 (1 - port))).allOff ofs).endTest ofs).wr R.GTE_STATE_BLOCK_LATCH 1).showRow 3 0))) ∧
  (∀ s cid port ofs y, (Instr.cellK287Rx cid port).wf = true → (s.cell cid).now cid = (ofs, y) →
    y.laneIO.looped (portBase port) = true → Output.k28_7 port ∉ y.out → exec (.cellK287Rx cid port) s = .next (s.withCell cid y)) ∧
  (∀ s cid port ofs f, (Instr.cellFrameRx cid port ofs f none).wf = true →
    exec (.cellFrameRx cid port ofs f none) s = .next (s.withCell cid ((s.cell cid).frameRx cid port ofs f))) ∧
  (∀ s cid ofs f g, (Instr.cellFrameRx cid 0 ofs f (some g)).wf = true → (Instr.cellFrameRx cid 1 ofs g (some f)).wf = true →
    ∀ t, t = s.withCell cid (((s.cell cid).frameRx cid 0 ofs f).frameRx cid 1 ofs g) →
    exec (.cellFrameRx cid 0 ofs f (some g)) s = .next t ∧ exec (.cellFrameRx cid 1 ofs g (some f)) s = .next t) ∧
  (∀ (y z : C) cid port ofs f o, port < 2 → ofs < 16000 →
    y.laneIO.looped (portBase port) = false ∨ Output.trackway port f ∈ y.out → o = max y.gte.ofs ofs →
    z = (y.withGte (fun g => { g with ofs := o })).placeEdges o →
    (z.portUp port = false → y.frameRx cid port ofs f = z.onLane o port (fun io => io.frameErrors (portBase port) z.dn (twErrors f))) ∧
    (∀ k v, z.portUp port = true → z.checkFrame port o f = (k, v) → k ≠ .good → y.frameRx cid port ofs f = v.forward port o true f) ∧
    (∀ v d w, z.portUp port = true → z.checkFrame port o f = (.good, v) → (v.forward port o false f).draw cid = (d, w) →
      y.frameRx cid port ofs f = w.goodFrame port o (d % 481) (readTw f))) ∧
  (∀ (f : List Nat) c, c = crc32c ((f.drop 1).take 245) → f.contains charK28_7 = false → (∀ v ∈ f.drop 1, v < 256) →
    (le f 246 4 = c → twCheck f = .good) ∧ (le f 246 4 = c ^^^ 0xFFFFFFFF → twCheck f = .stomped) ∧
    (le f 246 4 ≠ c → le f 246 4 ≠ c ^^^ 0xFFFFFFFF → twCheck f = .bad)) ∧
  (∀ (f : List Nat), f.contains charK28_7 = false → (∃ v ∈ f.drop 1, 256 ≤ v) → twCheck f = .bad) ∧
  (∀ (y : C) port ofs pass (f : TwFrame) v, f.avl = false → v = ((y.enumerate port ofs f).measure port ofs pass f).hubMessage f.mbx → v.clk.dnOk = true →
    y.goodFrame port ofs pass f = (v.timedCommand ofs f).holdOrder port ofs pass f) ∧
  (∀ (y : C) port ofs pass (f : TwFrame), 1 < dnDiff f.dn y.dn → dnDiff f.dn y.dn ≤ 8 → y.placed = true → y.on R.GTE_CTL_TEST_EN = false →
    Tbl.find? y.gte.held f.dn = none →
    Tbl.find? (y.holdOrder port ofs pass f).gte.held f.dn = some (frameOrder f (y.rd R.CLK_ID_POS))) ∧
  (∀ s cid pass, (Instr.cellBoundary cid pass).wf = true →
    exec (.cellBoundary cid pass) s = .next (s.withCell cid ((s.cell cid).boundary cid pass))) ∧
  (∀ (y : C) (h : Held), y.on R.GTE_STATE_BLOCK_LATCH = false → y.on R.GTE_STATE_RETIRE_LATCH = false → y.on R.GTE_CTL_TEST_EN = false →
    y.illegalOrder h = false → h.code ≤ 4 →
    (y.resolve (some h)).1 = 7 ∧ (y.resolve (some h)).2.1 = h.code ∧
    (y.resolve (some h)).2.2.1 = [(0, (y.resolve (some h)).2.2.2.pattern h.code)] ∧ (y.resolve (some h)).2.2.2.rd R.GTE_WDOG_RUN = 0) ∧
  (∀ s cid ofs y, (Instr.cellWatchdog cid).wf = true → (s.cell cid).now cid = (ofs, y) → y.watchdogDue = true →
    exec (.cellWatchdog cid) s = .next (s.withCell cid
      ((((y.endTest ofs).withGte (fun g => { g with safe := true })).flag 2).raise ofs CC.WDOG []))) ∧
  (∀ s cid ofs y, (Instr.cellWatchdog cid).wf = true → (s.cell cid).now cid = (ofs, y) → y.watchdogDue = false →
    exec (.cellWatchdog cid) s = .next (s.withCell cid y))

/-- R153, R154, R168, R170, R172, R174 to R179: the pattern table and GTE_CTL with their lock, direct test mode, the PWM generator, a
calibration, the refresh counts. -/
def Obligations.GateConfigurationCommandsComplete : Prop :=
  (∀ s cid code v ofs y, (Instr.gtePatWrite cid code v).wf = true → (s.cell cid).now cid = (ofs, y) → y.on R.GTE_CTL_LOCK = false →
    ¬ (bitAt v 0 = true ∧ bitAt v 1 = true) → ¬ (bitAt v 2 = true ∧ bitAt v 3 = true) →
    exec (.gtePatWrite cid code v) s = .next (s.withCell cid (y.wr (R.GTE_PAT_PAT code) v))) ∧
  (∀ s cid code v ofs y, (Instr.gtePatWrite cid code v).wf = true → (s.cell cid).now cid = (ofs, y) → y.on R.GTE_CTL_LOCK = false →
    (bitAt v 0 = true ∧ bitAt v 1 = true) ∨ (bitAt v 2 = true ∧ bitAt v 3 = true) →
    exec (.gtePatWrite cid code v) s = .next (s.withCell cid ((y.inc R.GTE_CNT_C_PAT_REJ_CNT).raise ofs CC.PAT_REJ []))) ∧
  (∀ s cid v ofs y, (Instr.gteCtlWrite cid v).wf = true → (s.cell cid).now cid = (ofs, y) → y.on R.GTE_CTL_LOCK = false →
    ∃ k, exec (.gteCtlWrite cid v) s = .next (s.withCell cid k) ∧ k.rd R.GTE_CTL_TYPE = bits v 0 1 ∧ k.rd R.GTE_CTL_BYP_SEL = bits v 1 1 ∧
      k.rd R.GTE_CTL_SAFE = bits v 2 1 ∧ k.rd R.GTE_CTL_LOCK = b2n (bitAt v 3) ∧ (bitAt v 0 = true → k.out = y.out ∧ k.gte = y.gte) ∧
      (bitAt v 0 = false → k.gte.edges = y.gte.edges.filter (fun e => e.sw / 2 != 1) ∧ bitAt k.outs 2 = false ∧ bitAt k.outs 3 = false)) ∧
  (∀ s cid v ofs y, (Instr.gteCtlWrite cid v).wf = true → (s.cell cid).now cid = (ofs, y) → y.on R.GTE_CTL_LOCK = true → bitAt v 3 = false →
    exec (.gteCtlWrite cid v) s = .next (s.withCell cid y)) ∧
  (∀ s cid ofs y, (Instr.testEnWrite cid true).wf = true → (s.cell cid).now cid = (ofs, y) → y.on R.GTE_CTL_TEST_EN = false →
    y.blockByOrder = true → y.on R.GTE_STATE_BLOCK_LATCH = false → y.on R.GTE_STATE_RETIRE_LATCH = false → y.gte.safe = false →
    ∀ z, z = ((y.gridOff ofs).wr R.GTE_CTL_TEST_EN 1).showRow 6 0 →
    (z.gte.held.any (fun e => e.2.code != 0) = false → exec (.testEnWrite cid true) s = .next (s.withCell cid z)) ∧
    (z.gte.held.any (fun e => e.2.code != 0) = true →
      exec (.testEnWrite cid true) s = .next (s.withCell cid ((z.endTest ofs).raise ofs CC.TEST_ABORT [])))) ∧
  (∀ s cid ofs y, (Instr.testEnWrite cid true).wf = true → (s.cell cid).now cid = (ofs, y) →
    y.blockByOrder = false ∨ y.on R.GTE_STATE_BLOCK_LATCH = true ∨ y.on R.GTE_STATE_RETIRE_LATCH = true ∨ y.gte.safe = true →
    exec (.testEnWrite cid true) s = .next (s.withCell cid y)) ∧
  (∀ s cid ofs y, (Instr.testEnWrite cid false).wf = true → (s.cell cid).now cid = (ofs, y) → y.on R.GTE_CTL_TEST_EN = true →
    exec (.testEnWrite cid false) s = .next (s.withCell cid
      ((((y.wr R.GTE_CTL_TEST_EN 0).dropGen (fun _ => true)).gridOff ofs).showRow y.orderRow 0))) ∧
  (∀ s cid ofs y, (Instr.testEnWrite cid false).wf = true → (s.cell cid).now cid = (ofs, y) → y.on R.GTE_CTL_TEST_EN = false →
    exec (.testEnWrite cid false) s = .next (s.withCell cid y)) ∧
  (∀ s cid v ofs y, (Instr.gteTestWrite cid v).wf = true → (s.cell cid).now cid = (ofs, y) → y.on R.GTE_CTL_TEST_EN = false →
    exec (.gteTestWrite cid v) s = .next (s.withCell cid
      ((((y.wr R.GTE_TEST_MODE_X (bits v 4 1)).wr R.GTE_TEST_MODE_Y (bits v 5 1)).dropGen (fun leg => !bitAt v (4 + leg))).wr
        R.GTE_TEST_OUTS v))) ∧
  (∀ s cid v ofs y, (Instr.gteTestWrite cid v).wf = true → (s.cell cid).now cid = (ofs, y) → y.testing = true →
    bits v 4 2 = 0 → legOf v 0 ≠ 3 → legOf v 1 ≠ 3 → y.on R.PRT_STATE_HOLD_X = false → y.on R.PRT_STATE_HOLD_Y = false → y.prt.uvlo = false →
    ∃ z, z = ((((y.wr R.GTE_TEST_MODE_X 0).wr R.GTE_TEST_MODE_Y 0).dropGen (fun leg => !bitAt v (4 + leg))).wr R.GTE_TEST_OUTS
        (legOf v 0 + legOf v 1 * 4)) ∧
      exec (.gteTestWrite cid v) s = .next (s.withCell cid
        ((z.changeLeg 0 ((ofs / 64 + 1) * 64) (legOf v 0)).changeLeg 1 ((ofs / 64 + 1) * 64) (legOf v 1)))) ∧
  (∀ s cid, (Instr.pwmRunWrite cid true).wf = true → (s.cell cid).on R.GTE_PWM_CTL_RUN = false →
    ∃ k, exec (.pwmRunWrite cid true) s = .next (s.withCell cid k) ∧ k.rd R.GTE_PWM_CTL_RUN = 1 ∧
      k.gte.pwm = ((s.cell cid).rd R.GTE_PWM_PERIOD_PERIOD, (s.cell cid).rd R.GTE_PWM_DUTY_DUTY)) ∧
  (∀ s cid, (Instr.pwmRunWrite cid false).wf = true →
    exec (.pwmRunWrite cid false) s = .next (s.withCell cid (((s.cell cid).wr R.GTE_PWM_CTL_RUN 0).dropGen (fun _ => true)))) ∧
  (∀ s cid, (Instr.pwmLoad cid).wf = true → exec (.pwmLoad cid) s = .next (s.withCell cid ((s.cell cid).wr R.GTE_PWM_CTL_LOAD 1))) ∧
  (∀ s cid ofs y, (Instr.pwmPeriodStart cid).wf = true → (s.cell cid).now cid = (ofs, y) → y.on R.GTE_PWM_CTL_RUN = true →
    y.on R.GTE_PWM_CTL_LOAD = true → y.on R.GTE_CTL_TEST_EN = false →
    exec (.pwmPeriodStart cid) s = .next (s.withCell cid ((y.withGte (fun g =>
      { g with pwm := (y.rd R.GTE_PWM_PERIOD_PERIOD, y.rd R.GTE_PWM_DUTY_DUTY) })).wr R.GTE_PWM_CTL_LOAD 0))) ∧
  (∀ s cid ofs y on, (Instr.pwmPeriodStart cid).wf = true → (s.cell cid).now cid = (ofs, y) → y.on R.GTE_PWM_CTL_RUN = true →
    y.on R.GTE_PWM_CTL_LOAD = false → y.testing = true → y.on R.GTE_TEST_MODE_X = true → y.prt.uvlo = false →
    y.on R.PRT_STATE_HOLD_X = false →
    on = (rdiv ((y.gte.pwm.2 * y.gte.pwm.1 : Nat) : Int) 65536).toNat → y.gte.deadX ≤ on → y.gte.deadX ≤ y.gte.pwm.1 - on →
    ∃ k z, exec (.pwmPeriodStart cid) s = .next (s.withCell cid k) ∧
      z = ((y.withGte (fun g => { g with level := g.level - bits g.level 0 2 + 1 })).changeLeg 0 ofs 1).withGte
        (fun g => { g with gen := insertGen (0, ofs + on, 2) g.gen }) ∧
      (z.on R.GTE_TEST_MODE_Y = false → k = z.placeEdges ofs)) ∧
  (∀ s cid p q ofs y, (Instr.calibrationComplete cid p q).wf = true → (s.cell cid).now cid = (ofs, y) → y.gte.cal = 2 →
    50 ≤ q → q ≤ 64 → p ≤ q + 1 → q ≤ p + 1 → y.on R.GTE_CAL_SERVING = false →
    exec (.calibrationComplete cid p q) s = .next (s.withCell cid
      ((((y.withGte (fun g => { g with cal := 0 })).withGte (fun g => { g with calBad := (g.calBad.1, 0) })).wr R.GTE_CAL_P_B q).withGte
        (fun g => { g with swap := true })))) ∧
  (∀ s cid p q ofs y, (Instr.calibrationComplete cid p q).wf = true → (s.cell cid).now cid = (ofs, y) → y.gte.cal = 2 →
    q < 50 ∨ 64 < q ∨ q + 1 < p ∨ p + 1 < q → y.on R.GTE_CAL_SERVING = false → y.gte.calBad.2 = 2 →
    exec (.calibrationComplete cid p q) s = .next (s.withCell cid
      (((((y.withGte (fun g => { g with cal := 0 })).inc R.GTE_CNT_C_CAL_BAD_CNT).withGte
        (fun g => { g with calBad := (g.calBad.1, 3) })).wr R.GTE_CAL_OUT_B 1).raise ofs CC.CAL_FAIL []))) ∧
  (∀ s cid p q ofs y, (Instr.calibrationComplete cid p q).wf = true → (s.cell cid).now cid = (ofs, y) → y.gte.cal ≠ 2 →
    exec (.calibrationComplete cid p q) s = .next (s.withCell cid y)) ∧
  (∀ s cid leg, (Instr.refreshRequest cid leg).wf = true → (s.cell cid).marked leg = true →
    (s.cell cid).rd R.GTE_BOOT_ON_MAX - (s.cell cid).rd R.GTE_BOOT_ADV ≤ ((s.cell cid).refresh leg).us →
    exec (.refreshRequest cid leg) s = .next (s.withCell cid ((s.cell cid).wr (reqFld leg) 1))) ∧
  (∀ s cid leg, (Instr.autoRefresh cid leg).wf = true → (s.cell cid).marked leg = true →
    (s.cell cid).rd R.GTE_BOOT_ON_MAX ≤ ((s.cell cid).refresh leg).us →
    exec (.autoRefresh cid leg) s = .next (s.withCell cid ((s.cell cid).setRefresh leg { (s.cell cid).refresh leg with due := true })))

/-- R182 to R193, R196, R199, R200, R202, R207: comparators, the close of a blanking window, the end of soft-off, the overvoltage comparator,
the gate monitor, CLR_HOLD, DMP_TMAX, the lock-out and the power-on reset of a cell. -/
def Obligations.ProtectionCommandsComplete : Prop :=
  (∀ s cid ins ofs y l1 l2 ov z a b c, c = Instr.comparatorTrip cid ins ∨ c = Instr.ov2Crossing cid ins → c.wf = true →
    (s.cell cid).now cid = (ofs, y) → y.sense cid ins = ((l1, l2, ov), z) → z.prt.uvlo = false → z.prt.masked = none →
    a = z.level1 ofs (z.powered l1) → b = z.powered l2 →
    (a ≠ 0 ∨ b ≠ 0 ∨ ov = true → exec c s = .next (s.withCell cid (z.trip ofs a b ov false))) ∧
    (a = 0 → b = 0 → ov = false → exec c s = .next (s.withCell cid z))) ∧
  (∀ v code free, (256 * code + 256 < v → exceeds v code free = true) ∧ (v + 256 < 256 * code → exceeds v code free = false)) ∧
  (∀ (y : C) ofs l1 l2 ov gm, l2 ≠ 0 → y.retiring = false → (y.trip ofs l1 l2 ov gm).outs = 0 ∧ (y.trip ofs l1 l2 ov gm).held 0 = true ∧
    (y.trip ofs l1 l2 ov gm).held 1 = true) ∧
  (∀ (y : C) ofs z, z = y.tripRecord ofs 0 0 true false → z.retiring = false →
    y.trip ofs 0 0 true false = (((z.turnOff ofs ⟨3, 0, 0, false⟩).reshow.raise ofs CC.OV2 []).startRetire ofs false)) ∧
  (∀ s cid sw ins ofs y l1 l2 ov z, sw < 4 → (Instr.blankWindowClose cid (2 ^ sw) ins).wf = true → (s.cell cid).now cid = (ofs, y) →
    bitAt y.prt.blank sw = true → (y.withPrt (fun p => { p with blank := clrBit p.blank sw })).sense cid ins = ((l1, l2, ov), z) →
    exec (.blankWindowClose cid (2 ^ sw) ins) s = .next (s.withCell cid (z.comparators ofs (l1.land (2 ^ sw)) 0 false))) ∧
  (∀ s cid ofs y l2, (Instr.softOffEnd cid).wf = true → (s.cell cid).now cid = (ofs, y) → l2 ≠ 0 →
    y.prt.soft = [⟨3, 0, l2, false⟩] →
    ∃ z, z = (((y.withPrt (fun p => { p with soft := [] })).softOut 0 false).softOut 1 false) ∧
      exec (.softOffEnd cid) s = .next (s.withCell cid (((((z.wr R.PRT_STATE_BYP_REQ 1).withPrt (fun p =>
        { p with wait := some (p.wait.getD 0) })).raise ofs CC.SC []).withClk (fun k => { k with force := true }))))) ∧
  (∀ s cid sw high ofs y, (Instr.gateMismatch cid sw high).wf = true → (s.cell cid).now cid = (ofs, y) → y.prt.uvlo = false →
    y.powered (2 ^ sw) ≠ 0 → bitAt y.outs sw = !high → (y.settle sw : Int) ≤ y.unchanged sw ofs → y.retiring = false →
    ∀ z, z = (y.inc R.PRT_CNT_B_GM_CNT).raise ofs CC.GATE_MISMATCH [] → z.held (sw / 2) = false →
    exec (.gateMismatch cid sw high) s = .next (s.withCell cid (z.trip ofs (2 ^ sw) 0 false true))) ∧
  (∀ s cid sw high ofs y, (Instr.gateMismatch cid sw high).wf = true → (s.cell cid).now cid = (ofs, y) →
    bitAt y.outs sw = high ∨ y.unchanged sw ofs < y.settle sw → exec (.gateMismatch cid sw high) s = .next (s.withCell cid y)) ∧
  (∀ s cid ins l1 l2 ov z, (Instr.clrHold cid ins).wf = true → (s.cell cid).sense cid ins = ((l1, l2, ov), z) →
    z.on R.PRT_CTL_BYP_AUTO = false → z.retiring = false → switchLegs (z.powered l1) = 0 →
    ∃ k, exec (.clrHold cid ins) s = .next (s.withCell cid k) ∧ k.held 0 = false ∧ k.held 1 = false ∧ k.rd R.PRT_CMD_STAT_DONE = 1 ∧
      k.rd R.PRT_CMD_GO = 0 ∧ k.prt = z.prt ∧ k.out = z.out) ∧
  (∀ s cid ins l1 l2 ov z, (Instr.clrHold cid ins).wf = true → (s.cell cid).sense cid ins = ((l1, l2, ov), z) → z.held 0 = true →
    z.on R.PRT_CTL_BYP_AUTO = true →
    exec (.clrHold cid ins) s = .next (s.withCell cid (((z.wr R.PRT_CMD_OP 2).wr R.PRT_CMD_GO 0).wr R.PRT_CMD_STAT_REJ 1))) ∧
  (∀ s cid ofs y, (Instr.dmpTmaxExpire cid).wf = true → (s.cell cid).now cid = (ofs, y) → y.on R.PRT_STATE_DMP = true →
    exec (.dmpTmaxExpire cid) s = .next (s.withCell cid
      (((y.dmp false).withPrt (fun p => { p with dmpOff := true })).raise ofs CC.DUMP_LONG []))) ∧
  (∀ s cid ofs y, (Instr.uvloEntry cid).wf = true → (s.cell cid).now cid = (ofs, y) → y.prt.uvlo = false → y.prt.masked = none →
    ∃ k, exec (.uvloEntry cid) s = .next (s.withCell cid k) ∧ k.prt.uvlo = true ∧ k.outs = 0 ∧ k.rd R.PRT_STATE_UVLO = 1 ∧
      k.on R.PRT_STATE_SOFT_X = false ∧ k.on R.PRT_STATE_SOFT_Y = false ∧ k.on R.PRT_STATE_BYF = false ∧ k.on R.PRT_STATE_BYC = false ∧
      k.on R.PRT_STATE_DMP = false) ∧
  (∀ s cid ofs y, (Instr.uvloRelease cid []).wf = true → (s.cell cid).now cid = (ofs, y) → y.prt.uvlo = true →
    y.on R.GTE_STATE_RETIRE_LATCH = false → y.on R.PRT_STATE_JRN_RET = false →
    ∃ k, exec (.uvloRelease cid []) s = .next (s.withCell cid k) ∧ k.prt.uvlo = false ∧ k.rd (CB.PRT.status 8) = 1 ∧
      bitAt k.clk.flags 14 = true) ∧
  (∀ s cid, (Instr.cellPor cid).wf = true → ∃ k, exec (.cellPor cid) s = .next (s.withCell cid k) ∧ k.prt.uvlo = true ∧ k.gte.held = [] ∧
    k.clk.dnOk = false ∧ k.lanes = [] ∧ k.adc = [] ∧ k.cse.flash = (s.cell cid).cse.flash ∧ k.free = (s.cell cid).free)

/-- R183, R192, R195, R203 to R206, R208 to R210, R214: the bypass wait, the retirement sequence step by step, CLR_JOURNAL, the thresholds, the
self-test. -/
def Obligations.RetirementAndTestCommandsComplete : Prop :=
  (∀ s cid ofs y, (Instr.bypWaitExpire cid).wf = true → (s.cell cid).now cid = (ofs, y) → y.bypassDue = true → y.prt.uvlo = false →
    ∃ k, exec (.bypWaitExpire cid) s = .next (s.withCell cid k) ∧ k.rd R.PRT_STATE_SEQ = 1 ∧ k.rd R.GTE_STATE_RETIRE_LATCH = 1 ∧
      k.rd R.PRT_STATE_BYF = 1 ∧ k.outs = 0 ∧ k.prt.jrnRun = true ∧
      (y.on R.GTE_STATE_BLOCK_LATCH = false → k.rd R.GTE_STATE_CODE = 15)) ∧
  (∀ s cid, (Instr.retirementRecordDone cid).wf = true → (s.cell cid).prt.jrnRun = true →
    ∃ k, exec (.retirementRecordDone cid) s = .next (s.withCell cid k) ∧ k.rd R.PRT_STATE_JRN_RET = 1 ∧
      k.cse.jrn = journalAppend (s.cell cid).cse.jrn 0 0x10000 true 1 []) ∧
  (∀ s cid, (Instr.bycPulseStart cid).wf = true → (s.cell cid).prt.uvlo = false → (s.cell cid).rd R.PRT_STATE_SEQ = 1 →
    (s.cell cid).prt.bycUp = false → ∃ k, exec (.bycPulseStart cid) s = .next (s.withCell cid k) ∧ k.rd R.PRT_STATE_BYC = 1 ∧ k.prt.bycUp = true) ∧
  (∀ s cid, (Instr.bycPulseEnd cid).wf = true →
    ∃ k, exec (.bycPulseEnd cid) s = .next (s.withCell cid k) ∧ k.on R.PRT_STATE_BYC = false ∧
      ((s.cell cid).on R.PRT_STATE_BYC = true → k.out = (s.cell cid).out ++ [.pin 3 false])) ∧
  (∀ s cid, (Instr.bycConfirm cid).wf = true → (s.cell cid).prt.uvlo = false → (s.cell cid).rd R.PRT_STATE_SEQ = 1 →
    (s.cell cid).prt.bycUp = true →
    exec (.bycConfirm cid) s = .next (s.withCell cid (((s.cell cid).wr R.PRT_STATE_SEQ 2).wr R.PRT_STATE_BYC_FB 1))) ∧
  (∀ s cid ofs y, (Instr.bycTimeout cid).wf = true → (s.cell cid).now cid = (ofs, y) → y.prt.uvlo = false → y.rd R.PRT_STATE_SEQ = 1 →
    y.prt.bycUp = true → exec (.bycTimeout cid) s = .next (s.withCell cid ((y.wr R.PRT_STATE_SEQ 3).raise ofs CC.BYC_FAIL []))) ∧
  (∀ s cid, (Instr.byfRelease cid).wf = true → (s.cell cid).rd R.PRT_STATE_SEQ = 2 →
    ∃ k, exec (.byfRelease cid) s = .next (s.withCell cid k) ∧ k.on R.PRT_STATE_BYF = false ∧ k.prt.pulsing = false) ∧
  (∀ s cid level, (Instr.byfPulse cid level).wf = true → (s.cell cid).prt.uvlo = false →
    (s.cell cid).rd R.PRT_STATE_SEQ = 1 ∨ (s.cell cid).rd R.PRT_STATE_SEQ = 3 →
    ∃ k, exec (.byfPulse cid level) s = .next (s.withCell cid k) ∧ k.on R.PRT_STATE_BYF = level ∧ k.prt.pulsing = true) ∧
  (∀ s cid, (Instr.clrJournal cid).wf = true → (s.cell cid).on R.GTE_STATE_RETIRE_LATCH = true → 2 ≤ (s.cell cid).rd R.PRT_STATE_SEQ →
    ∃ k, exec (.clrJournal cid) s = .next (s.withCell cid k) ∧ k.cse.jrn = journalDrop (s.cell cid).cse.jrn 0 0x10000 true 1 ∧ k.rd R.PRT_STATE_JRN_RET = 0 ∧
      k.rd R.PRT_CMD_STAT_DONE = 1) ∧
  (∀ s cid, (Instr.clrJournal cid).wf = true → (s.cell cid).on R.GTE_STATE_RETIRE_LATCH = false →
    exec (.clrJournal cid) s = .next (s.withCell cid ((((s.cell cid).wr R.PRT_CMD_OP 3).wr R.PRT_CMD_GO 0).wr R.PRT_CMD_STAT_REJ 1))) ∧
  (∀ s cid sw v ofs y, (Instr.prtThrWrite cid sw v).wf = true → (s.cell cid).now cid = (ofs, y) → y.on R.PRT_CTL_LOCK = false →
    bits v 0 8 < bits v 8 8 →
    exec (.prtThrWrite cid sw v) s = .next (s.withCell cid ((y.wr (R.PRT_THR_L1 sw) v).wr (R.PRT_THR_L2 sw) (v / 256)))) ∧
  (∀ s cid sw v ofs y, (Instr.prtThrWrite cid sw v).wf = true → (s.cell cid).now cid = (ofs, y) → y.on R.PRT_CTL_LOCK = false →
    bits v 8 8 ≤ bits v 0 8 → exec (.prtThrWrite cid sw v) s = .next (s.withCell cid (y.raise ofs CC.THR_REJ []))) ∧
  (∀ s cid v, (Instr.prtOvaWrite cid v).wf = true → (s.cell cid).on R.PRT_CTL_LOCK = false → bits v 16 16 < bits v 0 16 →
    exec (.prtOvaWrite cid v) s = .next (s.withCell cid (((s.cell cid).wr R.PRT_OVA_DMP_ON v).wr R.PRT_OVA_DMP_OFF (v / 65536)))) ∧
  (∀ s cid mask, (Instr.selftest cid mask).wf = true → (s.cell cid).prt.test = none → (s.cell cid).retiring = false →
    (s.cell cid).on R.GTE_CTL_TYPE = true → mask ≠ 0 →
    ∃ k, exec (.selftest cid mask) s = .next (s.withCell cid k) ∧ k.prt.test = some (mask, 0) ∧ k.rd R.PRT_CMD_STAT_BUSY = 1 ∧
      k.rd R.PRT_ST_RES_PASS = 0 ∧ k.rd R.PRT_ST_RES_FAIL = 0 ∧ k.rd R.PRT_CMD_STAT_DONE = 1) ∧
  (∀ s cid ofs y m n, (Instr.selftestTimeout cid).wf = true → (s.cell cid).now cid = (ofs, y) → y.prt.test = some (m, n) → 1024 ≤ n →
    exec (.selftestTimeout cid) s = .next (s.withCell cid
      (((y.withPrt (fun p => { p with test := none })).wr R.PRT_CMD_STAT_BUSY 0).raise ofs CC.ST_ABORT [])))

/-- R216, R219, R220, R222, R229 to R233, R243, R249, R252, R603: the commit of a run before its group's next start, in the handshake of it,
while a group that goes first has its run open, and with no run open; core stores to the board and to slots; a memory error; EN. -/
def Obligations.LoopEngineCommandsComplete : Prop :=
  (∀ s g r c, (Instr.lpeRunCommit g).wf = true → s.u.deaf (.lpeRunCommit g) = false → s.u.lpe.runs.find? g = some r → s.u.waits g r = false → r.tie = false →
    c = s.u.computeSome g r.left.length r → s.time.due = false ∨ s.time.us % groupUs g ≠ 0 →
    exec (.lpeRunCommit g) s = .next (s.after ((s.u.commitRun s.time g c false).commitCauses s.time c.res))) ∧
  (∀ (u : U) t g r tie, (u.commitRun t g r tie).rd (R.LPE_GRP_DN_DN g) = r.start % 2 ^ 32 ∧
    (u.commitRun t g r tie).rd (R.LPE_GRP_OVR_RUN g) = 0 ∧ (tie = true → (u.commitRun t g r tie).rd (R.LPE_GRP_MARGIN_LAST g) = 0)) ∧
  (∀ s g r c, (Instr.lpeRunCommit g).wf = true → s.u.deaf (.lpeRunCommit g) = false → s.u.lpe.runs.find? g = some r → s.u.waits g r = false → r.tie = false →
    c = s.u.computeSome g r.left.length r → s.time.due = true → s.time.us % groupUs g = 0 →
    exec (.lpeRunCommit g) s = .next (s.after (s.u.withLpe (fun l => { l with runs := l.runs.set g { c with tie := true } })))) ∧
  (∀ s g r, (Instr.lpeRunCommit g).wf = true → s.u.deaf (.lpeRunCommit g) = false → s.u.lpe.runs.find? g = some r → s.u.waits g r = true ∨ r.tie = true →
    exec (.lpeRunCommit g) s = .next (s.after s.u)) ∧
  (∀ s g, (Instr.lpeRunCommit g).wf = true → s.u.deaf (.lpeRunCommit g) = false → s.u.lpe.runs.find? g = none →
    exec (.lpeRunCommit g) s = .next (s.after s.u)) ∧
  (∀ s e v, (Instr.boardCoreStore e v).wf = true → s.u.deaf (.boardCoreStore e v) = false → enc 32 (s.u.board e) = v →
    exec (.boardCoreStore e v) s = .next (s.after s.u)) ∧
  (∀ s e v, (Instr.boardCoreStore e v).wf = true → s.u.deaf (.boardCoreStore e v) = false → enc 32 (s.u.board e) ≠ v → 256 ≤ e → s.u.slotWrites e = false →
    exec (.boardCoreStore e v) s = .next (s.after (s.u.wr (R.LPE_BOARD_VALUE e) v))) ∧
  (∀ s e v, (Instr.boardCoreStore e v).wf = true → s.u.deaf (.boardCoreStore e v) = false → enc 32 (s.u.board e) ≠ v → e < 256 ∨ s.u.slotWrites e = true →
    exec (.boardCoreStore e v) s = .next (s.after (s.u.lpeRej s.time []))) ∧
  (∀ s sl v, (Instr.slotCtlWrite sl 1 v).wf = true → s.u.deaf (.slotCtlWrite sl 1 v) = false → s.u.on (R.SLOT_CTL_EN sl) = false →
    exec (.slotCtlWrite sl 1 v) s = .next (s.after (s.u.storeFlds [R.SLOT_IN_A_IN0 sl, R.SLOT_IN_A_IN1 sl] v))) ∧
  (∀ s sl v, (Instr.slotCtlWrite sl 0 v).wf = true → s.u.deaf (.slotCtlWrite sl 0 v) = false → s.u.on (R.SLOT_CTL_EN sl) = false → bitAt v 6 = false →
    exec (.slotCtlWrite sl 0 v) s = .next (s.after (((s.u.storeFlds (slotCfgFlds sl) v).storeFlds
      [R.SLOT_CTL_HOLD sl, R.SLOT_CTL_BLK_HOLD sl] v).wr (R.SLOT_CTL_EN sl) 0))) ∧
  (∀ s sl v, (Instr.slotCtlWrite sl 0 v).wf = true → s.u.deaf (.slotCtlWrite sl 0 v) = false → s.u.on (R.SLOT_CTL_EN sl) = true →
    s.u.changes (slotCfgFlds sl) v = true → exec (.slotCtlWrite sl 0 v) s = .next (s.after (s.u.lpeRej s.time (LPE.det sl)))) ∧
  (∀ s sl, (Instr.slotEnable sl).wf = true → s.u.deaf (.slotEnable sl) = false → s.u.on (R.SLOT_CTL_EN sl) = false → s.u.slotOk sl = true →
    exec (.slotEnable sl) s = .next (s.after ((s.u.wr (R.SLOT_CTL_EN sl) 1).withLpe
      (fun l => { l with enNew := l.enNew.filter (· != sl) ++ [sl] })))) ∧
  (∀ s sl, (Instr.slotEnable sl).wf = true → s.u.deaf (.slotEnable sl) = false → s.u.on (R.SLOT_CTL_EN sl) = false → s.u.slotOk sl = false →
    exec (.slotEnable sl) s = .next (s.after (s.u.lpeRej s.time (LPE.det sl)))) ∧
  (∀ s sl n v, (Instr.slotStateStore sl n v).wf = true → s.u.deaf (.slotStateStore sl n v) = false → s.u.serving sl = false →
    s.u.rd (R.SLOT_STATE_STATE sl n) ≠ v →
    exec (.slotStateStore sl n v) s = .next (s.after (s.u.wr (R.SLOT_STATE_STATE sl n) v))) ∧
  (∀ s sl n v, (Instr.slotStateStore sl n v).wf = true → s.u.deaf (.slotStateStore sl n v) = false → s.u.serving sl = true →
    s.u.rd (R.SLOT_STATE_STATE sl n) ≠ v →
    exec (.slotStateStore sl n v) s = .next (s.after (s.u.lpeRej s.time (LPE.det sl)))) ∧
  (∀ s sl n v, (Instr.slotStateStore sl n v).wf = true → s.u.deaf (.slotStateStore sl n v) = false → s.u.rd (R.SLOT_STATE_STATE sl n) = v →
    exec (.slotStateStore sl n v) s = .next (s.after s.u)) ∧
  (∀ s sl n v, (Instr.slotCoefStore sl n v).wf = true → s.u.deaf (.slotCoefStore sl n v) = false →
    exec (.slotCoefStore sl n v) s = .next (s.after ((s.u.advanceRun (s.u.rd (R.SLOT_CTL_GROUP sl))).wr (R.SLOT_COEF_COEF sl n) v))) ∧
  (∀ s entry n, (Instr.lpeMemError entry n true).wf = true → s.u.deaf (.lpeMemError entry n true) = false →
    exec (.lpeMemError entry n true) s = .next (s.after ((s.u.inc R.LPE_CNT_B_SCRUB_CNT).onMem s.time (fun io => io.tableError 0x400000000 1)))) ∧
  (∀ s n, (Instr.lpeMemError true n false).wf = true → s.u.deaf (.lpeMemError true n false) = false →
    exec (.lpeMemError true n false) s = .next (s.after
      (((s.u.wr (R.LPE_BOARD_VALUE n) 0).raiseRlq s.time LPE.MEM_ERR 0 []).uncorrected s.time))) ∧
  (∀ s n, (Instr.lpeMemError false n false).wf = true → s.u.deaf (.lpeMemError false n false) = false →
    exec (.lpeMemError false n false) s = .next (s.after
      ((((s.u.wr (R.SLOT_CTL_HOLD n) 1).wr (R.SLOT_STAT_MEM n) 1).raiseRlq s.time LPE.MEM_ERR 0 (LPE.det n)).uncorrected s.time))) ∧
  (∀ s en, s.u.deaf (.lpeEnWrite en) = false → en = true ∨ s.u.on R.DEP_CTL_CONV_EN = false →
    exec (.lpeEnWrite en) s = .next (s.after (s.u.wr R.LPE_CTL_EN (b2n en)))) ∧
  (∀ s, s.u.deaf (.lpeEnWrite false) = false → s.u.on R.DEP_CTL_CONV_EN = true → exec (.lpeEnWrite false) s = .next (s.after s.u))

/-- R254, R257 to R266, R284, R603: a sensor word accepted and one that fails its form check, the timeout of a port, the close of its error
window, EN, RESTORE, the commit of OFS and gain, a comparator's configuration. -/
def Obligations.SensorPortCommandsComplete : Prop :=
  (∀ s input w p v, (Instr.sensorWord input w).wf = true → s.u.deaf (.sensorWord input w) = false → (s.u.injected 8 input).1 = false → p = s.u.portOf input →
    s.u.rd (R.SNS_PSTAT_STATE p) ≠ 0 → s.u.rd (R.SNS_PSTAT_STATE p) ≠ 4 →
    bits w 0 8 = sensorCrc w → bits w 60 4 = 10 → bits w 56 4 = s.u.rd (R.SNS_PCFG_TYPE p) → bitAt w 15 = false →
    s.u.rd (R.SNS_PSTAT_STATE p) = 1 ∨ (bits w 48 8 : Int) =
      ((s.u.port p).sRef + rdiv ((s.time.ref : Int) - (s.u.port p).tRef) (80 * s.u.rd (R.SNS_PERIOD_NOM_PERIOD p))) % 256 →
    v = (s.u.wr (R.SNS_PSTAT_SSTAT p) (bits w 8 7)).setPort p (fun h => { h with sRef := bits w 48 8, tRef := s.time.ref }) →
    exec (.sensorWord input w) s = .next (s.after (v.portAccept s.time p (bits w 48 8) (sx 32 (bits w 16 32))))) ∧
  (∀ s input w p, (Instr.sensorWord input w).wf = true → s.u.deaf (.sensorWord input w) = false → (s.u.injected 8 input).1 = false → p = s.u.portOf input →
    s.u.rd (R.SNS_PSTAT_STATE p) ≠ 0 →
    bits w 0 8 ≠ sensorCrc w ∨ bits w 60 4 ≠ 10 ∨ bits w 56 4 ≠ s.u.rd (R.SNS_PCFG_TYPE p) →
    exec (.sensorWord input w) s = .next (s.after ((s.u.inc (R.SNS_CNT_A_CHK_CNT p)).portError s.time p))) ∧
  (∀ s p, (Instr.sensorTimeout p).wf = true → s.u.deaf (.sensorTimeout p) = false → s.u.rd (R.SNS_PSTAT_STATE p) = 1 ∨ s.u.rd (R.SNS_PSTAT_STATE p) = 2 →
    s.u.portUsed p = true →
    exec (.sensorTimeout p) s = .next (s.after (((((s.u.wr (R.SNS_PSTAT_STATE p) 3).inc (R.SNS_CNT_B_TMO_CNT p)).setPort p
      (fun h => { h with dead := none })).raise s.time (SNS.TIMEOUT p) (SNS.det p)).portError s.time p))) ∧
  (∀ s p, (Instr.sensorTimeout p).wf = true → s.u.deaf (.sensorTimeout p) = false → s.u.rd (R.SNS_PSTAT_STATE p) ≠ 1 → s.u.rd (R.SNS_PSTAT_STATE p) ≠ 2 →
    exec (.sensorTimeout p) s = .next (s.after s.u)) ∧
  (∀ s p, (Instr.snsErrWindowClose p).wf = true → s.u.deaf (.snsErrWindowClose p) = false → (s.u.port p).win.isSome = true →
    exec (.snsErrWindowClose p) s = .next (s.after ((s.u.wr (R.SNS_PSTAT_ERRS p) 0).setPort p (fun h => { h with win := none })))) ∧
  (∀ s p, (Instr.snsPortEnWrite p true).wf = true → s.u.deaf (.snsPortEnWrite p true) = false → s.u.on (R.SNS_PCFG_EN p) = false →
    exec (.snsPortEnWrite p true) s = .next (s.after (((s.u.wr (R.SNS_PCFG_EN p) 1).wr (R.SNS_PSTAT_STATE p) 1).setPort p
      (fun h => { h with sRef := 0, tRef := s.time.ref, valid := 0, dead := some (s.time.ref +
        (2 * s.u.rd (R.SNS_PERIOD_TIMEOUT p) + 1) * 40 * s.u.rd (R.SNS_PERIOD_NOM_PERIOD p)) })))) ∧
  (∀ s p, (Instr.snsPortEnWrite p false).wf = true → s.u.deaf (.snsPortEnWrite p false) = false → s.u.on (R.SNS_PCFG_EN p) = true →
    s.u.bound p = false ∨ s.u.on R.DEP_CTL_CONV_EN = false →
    exec (.snsPortEnWrite p false) s = .next (s.after ((((s.u.wr (R.SNS_PCFG_EN p) 0).wr (R.SNS_PSTAT_STATE p) 0).setPort p
      (fun h => { h with dead := none, valid := 0 })).failTrip s.time p))) ∧
  (∀ s p, (Instr.snsPortEnWrite p false).wf = true → s.u.deaf (.snsPortEnWrite p false) = false → s.u.on (R.SNS_PCFG_EN p) = true →
    s.u.bound p = true → s.u.on R.DEP_CTL_CONV_EN = true →
    exec (.snsPortEnWrite p false) s = .next (s.after (s.u.raise s.time SNS.WR_REJ (SNS.det p)))) ∧
  (∀ s p, (Instr.snsRestore p).wf = true → s.u.deaf (.snsRestore p) = false → s.u.rd (R.SNS_PSTAT_STATE p) = 4 →
    exec (.snsRestore p) s = .next (s.after (((s.u.wr (R.SNS_PSTAT_ERRS p) 0).setPort p (fun h => { h with win := none })).portSync s.time p))) ∧
  (∀ s p, (Instr.snsRestore p).wf = true → s.u.deaf (.snsRestore p) = false → s.u.rd (R.SNS_PSTAT_STATE p) ≠ 4 →
    exec (.snsRestore p) s = .next (s.after s.u)) ∧
  (∀ s p v, (Instr.snsOfsCommit p v).wf = true → s.u.deaf (.snsOfsCommit p v) = false →
    exec (.snsOfsCommit p v) s = .next (s.after ((s.u.wr (R.SNS_OFS_OFS p) v).setPort p (fun h => { h with
      gm := s.u.rd (R.SNS_GAIN_M_GAIN_M p), gsh := s.u.rd (R.SNS_PCFG_GAIN_SH p), ofs := sx 32 v })))) ∧
  (∀ s p k v, (Instr.snsThrCfgWrite p k v).wf = true → s.u.deaf (.snsThrCfgWrite p k v) = false → s.u.on R.DEP_CTL_CONV_EN = false ∨
      ((s.u.on (R.SNS_THR_CFG_SB_EN p k) = true → bitAt v 25 = true) ∧ (s.u.on (R.SNS_THR_CFG_AV_EN p k) = true → bitAt v 26 = true)) →
    s.u.rd (R.SNS_PSTAT_STATE p) ≠ 0 → s.u.rd (R.SNS_PSTAT_STATE p) ≠ 4 →
    exec (.snsThrCfgWrite p k v) s = .next (s.after (((((s.u.wr (R.SNS_THR_CFG_HYST p k) (bits v 0 24)).wr (R.SNS_THR_CFG_DIR p k)
      (bits v 24 1)).wr (R.SNS_THR_CFG_SB_EN p k) (bits v 25 1)).wr (R.SNS_THR_CFG_AV_EN p k) (bits v 26 1)).wr
      (R.SNS_THR_CFG_FAILTRIP p k) (bits v 27 1)))) ∧
  (∀ s p k v, (Instr.snsThrCfgWrite p k v).wf = true → s.u.deaf (.snsThrCfgWrite p k v) = false → s.u.on R.DEP_CTL_CONV_EN = true →
    (s.u.on (R.SNS_THR_CFG_SB_EN p k) = true ∧ bitAt v 25 = false) ∨ (s.u.on (R.SNS_THR_CFG_AV_EN p k) = true ∧ bitAt v 26 = false) →
    exec (.snsThrCfgWrite p k v) s = .next (s.after (s.u.raise s.time SNS.WR_REJ (SNS.det p))))

/-- R267 to R270, R284: an edge of a sequence monitor that its deglitch time excludes, one of SQA and one that gives an order, the end of a
frequency window, an input lost. -/
def Obligations.SequenceMonitorCommandsComplete : Prop :=
  (∀ s m input e, (Instr.seqRisingEdge m input).wf = true → s.u.deaf (.seqRisingEdge m input) = false → s.u.on (R.SNS_SEQ_CFG_EN m) = true →
    (s.u.mon m).last.find? input = some e → s.time.t16 < e + s.u.rd (R.SNS_SEQ_CFG_DEGLITCH m) * 16000 →
    exec (.seqRisingEdge m input) s = .next (s.after s.u)) ∧
  (∀ s m input v, (Instr.seqRisingEdge m input).wf = true → s.u.deaf (.seqRisingEdge m input) = false → s.u.on (R.SNS_SEQ_CFG_EN m) = true →
    (∀ e, (s.u.mon m).last.find? input = some e → e + s.u.rd (R.SNS_SEQ_CFG_DEGLITCH m) * 16000 ≤ s.time.t16) →
    v = (s.u.setMon m (fun h => { h with last := h.last.set input s.time.t16, edges := h.edges + 1 })).wr (R.SNS_SEQ_STAT_IN_OK m)
      (setBit (s.u.rd (R.SNS_SEQ_STAT_IN_OK m)) input) →
    (input = 0 → exec (.seqRisingEdge m input) s = .next (s.after (v.setMon m (fun h => { h with await := true })))) ∧
    (input ≠ 0 → (v.mon m).await = true → exec (.seqRisingEdge m input) s = .next (s.after (v.observe s.time m (input - 1)))) ∧
    (input ≠ 0 → (v.mon m).await = false → exec (.seqRisingEdge m input) s = .next (s.after v))) ∧
  (∀ s m f v, (Instr.freqWindowEnd m).wf = true → s.u.deaf (.freqWindowEnd m) = false → s.u.on (R.SNS_SEQ_CFG_EN m) = true →
    f = (satU 16 (rdiv ((s.u.mon m).edges * 100000 : Nat) (3 * s.u.rd (R.SNS_SEQ_CFG_FWIN m)))).toNat →
    (v = fun b => ((s.u.wr (R.SNS_SEQ_STAT_EDGES m) (min 65535 (s.u.mon m).edges)).wr (R.SNS_SEQ_FREQ_FREQ m) f).setMon m
      (fun h => { h with edges := 0, bad := b })) →
    (s.u.rd (R.SNS_SEQ_LIM_FMIN m) ≤ f → f ≤ s.u.rd (R.SNS_SEQ_LIM_FMAX m) →
      exec (.freqWindowEnd m) s = .next (s.after (v false))) ∧
    (f < s.u.rd (R.SNS_SEQ_LIM_FMIN m) ∨ s.u.rd (R.SNS_SEQ_LIM_FMAX m) < f → (s.u.mon m).bad = true →
      exec (.freqWindowEnd m) s = .next (s.after (v true))) ∧
    (f < s.u.rd (R.SNS_SEQ_LIM_FMIN m) ∨ s.u.rd (R.SNS_SEQ_LIM_FMAX m) < f → (s.u.mon m).bad = false →
      exec (.freqWindowEnd m) s = .next (s.after ((v true).raise s.time (SNS.FREQ_BAD m) (SNS.det m))))) ∧
  (∀ s m input, (Instr.seqInputLost m input).wf = true → s.u.deaf (.seqInputLost m input) = false → s.u.on (R.SNS_SEQ_CFG_EN m) = true →
    exec (.seqInputLost m input) s = .next (s.after ((((s.u.wr (R.SNS_SEQ_STAT_IN_OK m) (clrBit (s.u.rd (R.SNS_SEQ_STAT_IN_OK m)) input)).wr
      (R.SNS_SEQ_STAT_ORDER_VALID m) 0).setMon m (fun h => { h with noted := none, await := false })).raise s.time (SNS.INPUT_LOST m)
      (SNS.det m)))) ∧
  (∀ s m input, (Instr.seqInputLost m input).wf = true → s.u.deaf (.seqInputLost m input) = false → s.u.on (R.SNS_SEQ_CFG_EN m) = false →
    exec (.seqInputLost m input) s = .next (s.after s.u))

/-- R271 to R285: a frame to the ring, one for another station and a duplicate; sampled values and GOOSE; a map entry's aligned write, the
timeouts of a subscription and of a GOOSE block, a transmit ring that is empty and one frame sent from it, links and RATE. -/
def Obligations.ProcessBusCommandsComplete : Prop :=
  (∀ s f, (Instr.pbxFrameRx f).wf = true → s.u.deaf (.pbxFrameRx f) = false → f.port < 2 → s.u.on R.PBX_CTL_PRP_EN = false →
    ownAddress 0 (Eth.mac f.octets 0) = true ∨ Eth.toGroup f.octets = true → Eth.etherType f.octets ≠ 0x88F7 → f.payload = .other →
    exec (.pbxFrameRx f) s = .next (s.after (s.u.ringPut s.time f.port (s.u.ingress f.port f.raw) 0 f.octets))) ∧
  (∀ s f, (Instr.pbxFrameRx f).wf = true → s.u.deaf (.pbxFrameRx f) = false → f.port < 2 → s.u.on R.PBX_CTL_PRP_EN = false →
    ownAddress 0 (Eth.mac f.octets 0) = false → Eth.toGroup f.octets = false →
    exec (.pbxFrameRx f) s = .next (s.after s.u)) ∧
  (∀ s f q, (Instr.pbxFrameRx f).wf = true → s.u.deaf (.pbxFrameRx f) = false → f.port < 2 → s.u.on R.PBX_CTL_PRP_EN = true →
    ownAddress 0 (Eth.mac f.octets 0) = true ∨ Eth.toGroup f.octets = true → Eth.rct f.octets = some (10 + f.port, q) →
    (∃ e ∈ s.u.pbx.dup.get 0 [], e.1 = Eth.mac f.octets 6 ∧ e.2.1 = q ∧ s.time.tns < e.2.2 + s.u.rd R.PBX_DD_DD_AGE * 1000000) →
    exec (.pbxFrameRx f) s = .next (s.after (s.u.inc (R.PBX_RED_CNT_DUP 0)))) ∧
  (∀ s f asdus r, (Instr.pbxFrameRx f).wf = true → s.u.deaf (.pbxFrameRx f) = false → f.port < 2 → s.u.on R.PBX_CTL_PRP_EN = false →
    Eth.toGroup f.octets = true → Eth.etherType f.octets = 0x88BA → f.payload = .sv asdus →
    r = s.u.svFrame s.time f.port f.raw f.octets asdus → r.1 = true → exec (.pbxFrameRx f) s = .next (s.after r.2)) ∧
  (∀ s f ref conf nds test st sq ttl ms r v, (Instr.pbxFrameRx f).wf = true → s.u.deaf (.pbxFrameRx f) = false → f.port < 2 →
    s.u.on R.PBX_CTL_PRP_EN = false → Eth.toGroup f.octets = true → Eth.etherType f.octets = 0x88B8 →
    f.payload = .goose ref conf nds test st sq ttl ms → r = s.u.gooseFrame s.time f.port f.octets ref conf nds test st sq ttl ms →
    (v = fun n => r.2.ringPut s.time f.port (r.2.ingress f.port f.raw) n f.octets) →
    (r.1.1 = false → exec (.pbxFrameRx f) s = .next (s.after (v 0))) ∧
    (r.1.1 = true → r.1.2 = true → exec (.pbxFrameRx f) s = .next (s.after (v 2))) ∧
    (r.1.1 = true → r.1.2 = false → exec (.pbxFrameRx f) s = .next (s.after r.2))) ∧
  (∀ (u : U) t c st sq ttl ms b, 0 < dnDiff st (u.rd (R.GO_STNUM_STNUM c)) →
    ms.getD (u.rd (R.GO_CFG_TRIP_IDX c)) .other = .boolean b → u.on (R.GO_CFG_ANA_EN c) = false →
    u.goAccept t c st sq ttl ms = (true, (((((u.wr (R.GO_STNUM_STNUM c) st).wr (R.GO_SQNUM_SQNUM c) sq).wr (R.GO_STAT_SEEN c) 1).wr
      (R.GO_STAT_TIMEOUT c) 0).withPbx (fun p => { p with go := p.go.set c (t.tns + ttl * 1000000) })).setGoTrip t c b)) ∧
  (∀ s j e, (Instr.svAlignedWrite j).wf = true → s.u.deaf (.svAlignedWrite j) = false → s.u.pbx.align.find? (fun e => e.2.1 == j) = some e →
    exec (.svAlignedWrite j) s = .next (s.after ((s.u.wr (R.LPE_BOARD_VALUE (32 + j)) (enc 32 (satS 32 e.2.2))).withPbx
      (fun p => { p with align := p.align.erase e })))) ∧
  (∀ s k, (Instr.svTimeout k).wf = true → s.u.deaf (.svTimeout k) = false → s.u.rd (R.SV_STAT_STATE k) = 2 →
    exec (.svTimeout k) s = .next (s.after ((s.u.wr (R.SV_STAT_STATE k) 3).raise s.time PBX.SV_TMO (PBX.det k)))) ∧
  (∀ s k, (Instr.svTimeout k).wf = true → s.u.deaf (.svTimeout k) = false → s.u.rd (R.SV_STAT_STATE k) ≠ 2 →
    exec (.svTimeout k) s = .next (s.after s.u)) ∧
  (∀ s c, (Instr.gooseTimeout c).wf = true → s.u.deaf (.gooseTimeout c) = false → s.u.on (R.GO_CFG_EN c) = true → s.u.on (R.GO_STAT_SEEN c) = true →
    s.u.on (R.GO_STAT_TIMEOUT c) = false → ∀ v,
    v = ((s.u.wr (R.GO_STAT_TIMEOUT c) 1).inc (R.GO_CNT_TMO_CNT c)).raise s.time PBX.GO_TMO (PBX.det c) →
    exec (.gooseTimeout c) s = .next (s.after (v.setGoTrip s.time c (v.on (R.GO_CFG_FAIL_VAL c))))) ∧
  (∀ s q v, (Instr.pbxTxProdWrite q v).wf = true → s.u.deaf (.pbxTxProdWrite q v) = false →
    exec (.pbxTxProdWrite q v) s = .next (s.after (U.txSend 1024 (s.u.wr (R.PBX_RING_PROD_PROD (2 * q + 1)) v) s.time q))) ∧
  (∀ (u : U) t q n size cons prod, size = u.rd (R.PBX_RING_SIZE_SIZE (2 * q + 1)) → cons = u.rd (R.PBX_RING_CONS_CONS (2 * q + 1)) →
    prod = u.rd (R.PBX_RING_PROD_PROD (2 * q + 1)) →
    (size = 0 ∨ cons % size = prod % size → U.txSend n u t q = u) ∧
    (∀ a, size ≠ 0 → cons % size ≠ prod % size → a = u.rd (R.PBX_RING_BASE_BASE (2 * q + 1)) * 2048 + cons % size * 2048 →
      U.txSend (n + 1) u t q = U.txSend n ((u.reading t [(a, 16 + min 2032 (u.mem.read (a + 8) 2))] (fun w => w.txFrame t q a)).wr
        (R.PBX_RING_CONS_CONS (2 * q + 1)) ((cons % size + 1) % size)) t q)) ∧
  (∀ (u : U) t q a o, o = u.mem.readBytes (a + 16) (min 2032 (u.mem.read (a + 8) 2)) →
    (bitAt (u.mem.read (a + 11) 1) 0 = false → u.txFrame t q a = u.ethSend q o o) ∧
    (bitAt (u.mem.read (a + 11) 1) 0 = true → u.txFrame t q a =
      ((u.ethSend q o o).ptpTx t (2 * q) (Eth.ptpType o) (Eth.ptpSeq o) t.ts64).ptpTx t (2 * q + 1) (Eth.ptpType o) (Eth.ptpSeq o) t.ts64)) ∧
  (∀ (u : U) q a b, (u.ethSend q a b).out = u.out ++ [.ethFrame (2 * q) (u.wire (2 * q) (u.pbx.seq.get q 0) a),
    .ethFrame (2 * q + 1) (u.wire (2 * q + 1) (u.pbx.seq.get q 0) b)]) ∧
  (∀ (u : U) port seq o, port < 2 → (u.on R.PBX_CTL_PRP_EN = false → u.wire port seq o = o ++ Eth.fcs o) ∧
    (u.on R.PBX_CTL_PRP_EN = true → u.wire port seq o = Eth.rctAdd (10 + port) seq o ++ Eth.fcs (Eth.rctAdd (10 + port) seq o))) ∧
  (∀ s p, (Instr.pbxLinkDown p).wf = true → s.u.deaf (.pbxLinkDown p) = false → bitAt (s.u.rd R.PBX_LINK_UP) p = true →
    ∀ v, v = s.u.wr R.PBX_LINK_UP (clrBit (s.u.rd R.PBX_LINK_UP) p) →
    (v.on (if p < 2 then R.PBX_CTL_PRP_EN else R.PBX_CTL_HSR_EN) = true →
      exec (.pbxLinkDown p) s = .next (s.after (v.raise s.time PBX.RED_LOSS (PBX.det p)))) ∧
    (v.on (if p < 2 then R.PBX_CTL_PRP_EN else R.PBX_CTL_HSR_EN) = false → exec (.pbxLinkDown p) s = .next (s.after v))) ∧
  (∀ s p, (Instr.pbxLinkUp p).wf = true → s.u.deaf (.pbxLinkUp p) = false →
    exec (.pbxLinkUp p) s = .next (s.after (s.u.wr R.PBX_LINK_UP (setBit (s.u.rd R.PBX_LINK_UP) p)))) ∧
  (∀ s v, (Instr.pbxRateWrite v).wf = true → s.u.deaf (.pbxRateWrite v) = false → (∀ p < 4, bitAt (s.u.rd R.PBX_CTL_RATE) p = bitAt v p) →
    exec (.pbxRateWrite v) s = .next (s.after (s.u.wr R.PBX_CTL_RATE v))) ∧
  (∀ s, s.u.deaf (.pbxRateWrite 1) = false → bitAt (s.u.rd R.PBX_CTL_RATE) 0 = false → (∀ p < 4, p ≠ 0 → bitAt (s.u.rd R.PBX_CTL_RATE) p = false) →
    exec (.pbxRateWrite 1) s = .next (s.after ((s.u.wr R.PBX_CTL_RATE 1).linkDown s.time 0)))

/-- R289, R290, R293 to R301, R304: what each command of a lane of any chip leaves, in the states of the lane in which the rules give it
an effect, and that it leaves the lane in the others. -/
def Obligations.LaneCommandsComplete : Prop :=
  (∀ s l io b, s.laneRuns l → l.wf = true → io = s.laneIO l → b = (s.laneKind l).base →
    (io.st b = 0 → exec (.laneEnWrite l true) s = .next (s.withLane l
      (((io.wr (R.LNS_CTL_EN b) 1).toSig b).upd b
        (fun x => { x with everUp := false, polSet := false, locked := false, idBad := false, disord := false })))) ∧
    (io.st b ≠ 0 → exec (.laneEnWrite l true) s = .next (s.withLane l (io.wr (R.LNS_CTL_EN b) 1))) ∧
    exec (.laneEnWrite l false) s = .next (s.withLane l
      (((io.wr (R.LNS_CTL_EN b) 0).goto b 0).upd b
        (fun x => { x with everUp := false, polSet := false, locked := false, idBad := false, disord := false }))) ∧
    (io.st b = 1 → exec (.laneSignalDetect l) s = .next (s.withLane l (io.goto b 2))) ∧
    (io.st b ≠ 1 → exec (.laneSignalDetect l) s = .next (s.withLane l io)) ∧
    (io.st b = 2 → exec (.laneCdrLock l) s = .next (s.withLane l (io.upd b (fun x => { x with locked := true })))) ∧
    (io.st b ≠ 2 → exec (.laneCdrLock l) s = .next (s.withLane l io)) ∧
    (io.st b = 7 → exec (.laneLinkLoss l) s = .next (s.withLane l (io.retrain b))) ∧
    (io.st b = 2 → exec (.laneLinkLoss l) s = .next (s.withLane l (io.upd b (fun x => { x with locked := false })))) ∧
    (io.st b ≠ 2 → io.st b ≠ 7 → exec (.laneLinkLoss l) s = .next (s.withLane l io)) ∧
    exec (.crcWindowClose l) s = .next (s.withLane l (io.upd b (fun x => { x with win := none, errs := 0 }))) ∧
    (1 ≤ io.st b → io.st b ≤ 6 → (io.hid b).everUp = true → exec (.laneRetrainTimeout l) s = .next (s.withLane l (io.retire b))) ∧
    (io.st b = 5 → (s.laneKind l).link.length ≤ 1 ∨ (io.hid b).skew = none →
      exec (.deskewTimeout l) s = .next (s.withLane l (io.goto b 6))) ∧
    (io.st b ≠ 5 → exec (.deskewTimeout l) s = .next (s.withLane l io)) ∧
    (io.testing b = true → exec (.laneRestore l) s = .next (s.withLane l (io.cause b 4))) ∧
    (io.testing b = false → io.st b = 8 → exec (.laneRestore l) s = .next (s.withLane l
      (((((io.wr (R.LNS_CNT_A_CRC_CNT b) 0).wr (R.LNS_CNT_A_RETRAIN_CNT b) 0).wr (R.LNS_CNT_B_CODE_CNT b) 0).toSig b).upd b
        (fun x => { x with win := none, errs := 0 })))) ∧
    (io.testing b = false → io.st b ≠ 8 → exec (.laneRestore l) s = .next (s.withLane l io)) ∧
    (io.st b = 7 → exec (.laneRetrainCmd l) s = .next (s.withLane l (io.retrain b))) ∧
    (1 ≤ io.st b → io.st b ≤ 6 → exec (.laneRetrainCmd l) s = .next (s.withLane l (io.toSig b))) ∧
    (io.st b = 0 ∨ io.st b = 8 → exec (.laneRetrainCmd l) s = .next (s.withLane l io))) ∧
  (∀ s l io b, s.laneRuns l → l.wf = true → io = s.laneIO l → b = (s.laneKind l).base → io.st b = 2 → (io.hid b).locked = true →
    io.on (R.LNS_EQ_FREEZE b) = true →
    (io.rd (R.LNS_CTL_LOOP b) ≠ 3 → exec (.equalisationSettled l) s = .next (s.withLane l (io.goto b 3))) ∧
    (io.rd (R.LNS_CTL_LOOP b) = 3 → exec (.equalisationSettled l) s = .next (s.withLane l io))) ∧
  (∀ s l io b, s.laneRuns l → l.wf = true → io = s.laneIO l → b = (s.laneKind l).base →
    io.st b = 7 ∨ (io.st b = 2 ∧ (io.hid b).locked = true ∧ io.rd (R.LNS_CTL_LOOP b) = 3) →
    ∃ ctle taps, exec (.equalisationSettled l) s = .next (s.withLane l (io.adapt (s.laneKind l) ctle taps))) ∧
  (∀ s l io b n, s.laneRuns l → l.wf = true → io = s.laneIO l → b = (s.laneKind l).base →
    io.st b = 7 → n < (if (s.laneKind l).fast then 16 else 4) →
    exec (.laneCodeErrors l n) s = .next (s.withLane l (io.incBy (R.LNS_CNT_B_CODE_CNT b) n))) ∧
  (∀ s l io b n, s.laneRuns l → l.wf = true → io = s.laneIO l → b = (s.laneKind l).base →
    io.st b = 7 → (if (s.laneKind l).fast then 16 else 4) ≤ n →
    exec (.laneCodeErrors l n) s = .next (s.withLane l ((io.incBy (R.LNS_CNT_B_CODE_CNT b) n).retrain b))) ∧
  (∀ s l io b, s.laneRuns l → l.wf = true → io = s.laneIO l → b = (s.laneKind l).base → io.st b = 7 → (io.hid b).win = none →
    io.rd (R.LNS_RET_CRC_MAX b) = 0 → ∃ io', exec (.laneCheckError l) s = .next (s.withLane l io') ∧ io'.st b = 8 ∧
      io'.rd (R.LNS_CNT_A_CRC_CNT b) = satInc 16 (io.rd (R.LNS_CNT_A_CRC_CNT b)) 1 ∧ (b, 0) ∈ io'.raised) ∧
  (∀ s l io b, s.laneRuns l → l.wf = true → io = s.laneIO l → b = (s.laneKind l).base → io.st b ≠ 7 →
    exec (.laneCheckError l) s = .next (s.withLane l io)) ∧
  (∀ s l io b v, s.laneRuns l → l.wf = true → v < 2 ^ 32 → io = s.laneIO l → b = (s.laneKind l).base → io.idle b = false →
    (bits v 0 3 ≠ 0 ∧ bits v 0 3 ≤ 4 ∧ bits v 0 3 ≠ io.rd (R.LNS_PRBS_GEN b)) ∨
      (bits v 4 3 ≠ 0 ∧ bits v 4 3 ≤ 4 ∧ bits v 4 3 ≠ io.rd (R.LNS_PRBS_CHK b)) →
    exec (.laneTestWrite l true v) s = .next (s.withLane l (io.cause b 4))) ∧
  (∀ s l io b v w, s.laneRuns l → l.wf = true → v < 2 ^ 32 → io = s.laneIO l → b = (s.laneKind l).base → bits v 0 3 ≤ 4 → bits v 4 3 ≤ 4 →
    io.idle b = true ∨ bits v 0 3 = 0 ∨ bits v 0 3 = io.rd (R.LNS_PRBS_GEN b) →
    io.idle b = true ∨ bits v 4 3 = 0 ∨ bits v 4 3 = io.rd (R.LNS_PRBS_CHK b) →
    (bits v 4 3 = io.rd (R.LNS_PRBS_CHK b) → w = io) →
    (bits v 4 3 ≠ io.rd (R.LNS_PRBS_CHK b) → w = ((io.wr (R.LNS_PRBS_CHK b) (bits v 4 3)).wr (R.LNS_PRBS_CHK_LOCK b) 0).upd b
      (fun x => { x with chk := .zero })) →
    (bits v 0 3 = io.rd (R.LNS_PRBS_GEN b) → exec (.laneTestWrite l true v) s = .next (s.withLane l
      ((w.wr (R.LNS_PRBS_GEN_INV b) (bits v 3 1)).wr (R.LNS_PRBS_CHK_INV b) (bits v 7 1)))) ∧
    (bits v 0 3 ≠ io.rd (R.LNS_PRBS_GEN b) → exec (.laneTestWrite l true v) s = .next (s.withLane l
      ((((w.wr (R.LNS_PRBS_GEN b) (bits v 0 3)).upd b (fun x => { x with gen := onesSeed })).wr (R.LNS_PRBS_GEN_INV b) (bits v 3 1)).wr
        (R.LNS_PRBS_CHK_INV b) (bits v 7 1))))) ∧
  (∀ s l io b v w z, s.laneRuns l → l.wf = true → v < 2 ^ 32 → io = s.laneIO l → b = (s.laneKind l).base → bits v 4 3 ≤ 3 →
    io.idle b = true ∨ bits v 4 3 = 0 ∨ bits v 4 3 = io.rd (R.LNS_CTL_LOOP b) → bitAt v 0 = io.on (R.LNS_CTL_EN b) → bitAt v 8 = false →
    w = ((io.wr (R.LNS_CTL_POL_AUTO b) (bits v 1 1)).wr (R.LNS_CTL_POL_FORCE b) (bits v 2 1)).wr (R.LNS_CTL_TX_INV b) (bits v 3 1) →
    z = (if bitAt v 1 then w else w.wr (R.LNS_STATE_RX_INV b) (bits v 2 1)) →
    exec (.laneTestWrite l false v) s = .next (s.withLane l
      (((z.wr (R.LNS_CTL_LOOP b) (bits v 4 3)).wr (R.LNS_CTL_TX_SQ b) (bits v 7 1)).wr (R.LNS_CTL_INJ_CONT b) (bits v 9 1)))) ∧
  (∀ s l io b v, s.laneRuns l → l.wf = true → v < 2 ^ 32 → io = s.laneIO l → b = (s.laneKind l).base →
    io.idle b = false → bits v 4 3 ≠ 0 → bits v 4 3 ≤ 3 → bits v 4 3 ≠ io.rd (R.LNS_CTL_LOOP b) →
    exec (.laneTestWrite l false v) s = .next (s.withLane l (io.cause b 4))) ∧
  (∀ s l io b v, s.laneRuns l → l.wf = true → v < 2 ^ 32 → io = s.laneIO l → b = (s.laneKind l).base → (s.laneKind l).fast = true →
    63 < bits v 0 4 + bits v 4 6 + bits v 10 5 → exec (.laneTxeqWrite l v) s = .next (s.withLane l (io.cause b 4))) ∧
  (∀ s l io b v, s.laneRuns l → l.wf = true → v < 2 ^ 32 → io = s.laneIO l → b = (s.laneKind l).base → (s.laneKind l).fast = true →
    bits v 0 4 + bits v 4 6 + bits v 10 5 ≤ 63 → exec (.laneTxeqWrite l v) s = .next (s.withLane l
      (((io.wr (R.LNS_TXEQ_PRE b) (bits v 0 4)).wr (R.LNS_TXEQ_MAIN b) (bits v 4 6)).wr (R.LNS_TXEQ_POST b) (bits v 10 5)))) ∧
  (∀ s l io b xs r, s.laneRuns l → l.wf = true → io = s.laneIO l → b = (s.laneKind l).base →
    io.looped b = true → io.on (R.LNS_PRBS_GEN b) = true → r = io.patternOut b xs.length (io.rd (R.LNS_CTL_LOOP b) == 1) →
    (io.on (R.LNS_PRBS_CHK b) = true → exec (.prbsLockChange l xs) s = .next (s.withLane l (r.1.foldl (fun io x => io.prbsBit b x) r.2))) ∧
    (io.on (R.LNS_PRBS_CHK b) = false → exec (.prbsLockChange l xs) s = .next (s.withLane l r.2))) ∧
  (∀ s l io b xs, s.laneRuns l → l.wf = true → io = s.laneIO l → b = (s.laneKind l).base →
    io.looped b = false ∨ io.on (R.LNS_PRBS_GEN b) = false →
    (io.on (R.LNS_PRBS_CHK b) = true → exec (.prbsLockChange l xs) s = .next (s.withLane l (xs.foldl (fun io x => io.prbsBit b x) io))) ∧
    (io.on (R.LNS_PRBS_CHK b) = false → exec (.prbsLockChange l xs) s = .next (s.withLane l io))) ∧
  (∀ (io : LaneIO) b x k, k = (io.hid b).chk → io.on (R.LNS_PRBS_CHK_LOCK b) = true →
    ((x != io.on (R.LNS_STATE_RX_INV b)) != io.on (R.LNS_PRBS_CHK_INV b)) ≠ prbsNext (io.rd (R.LNS_PRBS_CHK b)) k.reg →
    (k.errs.length < 63 → io.prbsBit b x = ((io.upd b (fun l => { l with chk := { k with
        reg := (k.reg * 2 + b2n (prbsNext (io.rd (R.LNS_PRBS_CHK b)) k.reg)) % 2 ^ 31
        seen := k.seen + 1
        errs := k.seen :: k.errs } })).wr (R.LNS_PRBS_CHK_LOCK b) 1).incBy (R.LNS_PRBS_ERR_ERR b) 1) ∧
    (63 ≤ k.errs.length → k.seen < k.errs.getD 62 0 + 1024 → io.prbsBit b x =
      ((io.upd b (fun l => { l with chk := .zero })).wr (R.LNS_PRBS_CHK_LOCK b) 0).incBy (R.LNS_PRBS_ERR_ERR b) 1)) ∧
  (∀ (io : LaneIO) b x k, k = (io.hid b).chk → io.on (R.LNS_PRBS_CHK_LOCK b) = false →
    (prbsTaps (io.rd (R.LNS_PRBS_CHK b))).1 ≤ k.held → k.reg % 2 ^ (prbsTaps (io.rd (R.LNS_PRBS_CHK b))).1 ≠ 0 →
    ((x != io.on (R.LNS_STATE_RX_INV b)) != io.on (R.LNS_PRBS_CHK_INV b)) = prbsNext (io.rd (R.LNS_PRBS_CHK b)) k.reg → k.agree = 63 →
    ∃ reg, io.prbsBit b x = (io.upd b (fun l => { l with chk := ⟨reg, 0, 0, 0, []⟩ })).wr (R.LNS_PRBS_CHK_LOCK b) 1)

/-- R289 to R293: training received by a lane in POL, ID, DESKEW, UP-WAIT and UP. -/
def Obligations.TrainingCompletes : Prop :=
  (∀ s l tr, s.laneRuns l → (Instr.trainingRx l tr).wf = true → (∀ h n, l ≠ .hub h n) →
    exec (.trainingRx l tr) s = .next (s.withLane l ((s.laneIO l).training (s.laneKind l) tr))) ∧
  (∀ s h n tr, (Instr.trainingRx (.hub h n) tr).wf = true → (s.hub h).deaf (.trainingRx (.hub h n) tr) = false →
    exec (.trainingRx (.hub h n) tr) s = .next (s.withHub h ((s.hub h).trainingRx (s.hubAt h) n tr))) ∧
  (∀ prior line arr, readTraining (.block prior 2 line arr) = readBlock false (toBytes 8 (descramble prior line)) ∧
    readTraining (.block prior 1 line arr) = readBlock true (toBytes 8 (2 ^ 64 - 1 - descramble prior line))) ∧
  (∀ (w : Sender) rdy tseq, w.role < 4 → w.group < 2 → w.link < 256 → w.lane < 16 → w.lanes < 16 → tseq < 2 ^ 16 →
    ∀ compl, readBlock compl (trainingBlock w rdy tseq) = some ⟨compl, w, rdy, tseq⟩) ∧
  (∀ (io : LaneIO) k tr, io.looped k.base = false ∨ (∃ t, readTraining tr = some t ∧ t.who = k.own) →
    (io.st k.base = 0 → io.training k tr = io.learn k tr) ∧ (io.st k.base ≠ 0 →
      io.training k tr = (io.incBy (R.LNS_CNT_B_CODE_CNT k.base) (io.trainingErrors k.base tr)).learn k tr)) ∧
  (∀ (io : LaneIO) k tr, io.looped k.base = true → (∀ t, readTraining tr = some t → t.who ≠ k.own) → io.training k tr = io) ∧
  (∀ (io : LaneIO) b prior h x arr, io.trainingErrors b (.block prior h x arr) = if h = 1 ∨ h = 2 then 0 else 1) ∧
  (∀ (io : LaneIO) k tr, io.st k.base = 3 ∨ io.st k.base = 6 ∨ io.st k.base = 7 → readTraining tr = none →
    io.learn k tr = io.upd k.base (fun l => { l with count := 0 })) ∧
  (∀ (io : LaneIO) k tr t, readTraining tr = some t → io.st k.base = 3 → io.polAccept k.base t = none →
    io.learn k tr = io.upd k.base (fun l => { l with count := 0 })) ∧
  (∀ (io : LaneIO) k tr t inv, readTraining tr = some t → io.st k.base = 3 → io.polAccept k.base t = some inv →
    7 ≤ (io.hid k.base).count →
    io.learn k tr = ((io.wr (R.LNS_STATE_RX_INV k.base) (b2n inv)).upd k.base (fun l => { l with polSet := true })).goto k.base 4) ∧
  (∀ (io : LaneIO) k tr t, readTraining tr = some t → io.st k.base = 4 → t.compl = io.on (R.LNS_STATE_RX_INV k.base) → k.fast = false →
    k.link.length ≤ 1 → io.rd (R.LNS_CTL_LOOP k.base) = 0 →
    (k.accept t.who = true → io.learn k tr = (io.wr (R.LNS_STATE_PEER_ROLE k.base) t.who.role).passId k.base) ∧
    (k.accept t.who = false → io.learn k tr = (io.wr (R.LNS_STATE_PEER_ROLE k.base) t.who.role).idBad k.base)) ∧
  (∀ (io : LaneIO) k tr t w, readTraining tr = some t → io.st k.base = 5 → t.compl = io.on (R.LNS_STATE_RX_INV k.base) →
    w = io.upd k.base (fun l => { l with skew := LaneIO.skewOf tr t }) →
    (k.link.length ≤ 1 → io.learn k tr = w.goto k.base 6) ∧
    (2 ≤ k.link.length → k.link.all (fun x => w.pastId x && (decide (6 ≤ w.st x) || (w.hid x).skew.isSome)) = true →
      ∀ a, (w.hid k.base).skew = some a → w.align k a = none → io.learn k tr =
        k.link.foldl (fun io x => if io.st x = 7 then io.retrain x else if 2 ≤ io.st x && io.st x ≤ 6 then io.toSig x else io)
          (w.cause k.base 3)) ∧
    (2 ≤ k.link.length → k.link.all (fun x => w.pastId x && (decide (6 ≤ w.st x) || (w.hid x).skew.isSome)) = true →
      ∀ a v, (w.hid k.base).skew = some a → w.align k a = some v → io.learn k tr = v.goto k.base 6)) ∧
  (∀ (io : LaneIO) k tr t, readTraining tr = some t → io.st k.base = 6 → t.compl = io.on (R.LNS_STATE_RX_INV k.base) → t.rdy = true →
    15 ≤ (io.hid k.base).count →
    io.learn k tr = (io.goto k.base 7).upd k.base (fun l => { l with everUp := true })) ∧
  (∀ (io : LaneIO) k tr t, readTraining tr = some t → io.st k.base = 7 → t.compl = io.on (R.LNS_STATE_RX_INV k.base) → t.rdy = false →
    3 ≤ (io.hid k.base).count → io.learn k tr = io.retrain k.base)

/-- R138, R325, R332, R333, R350, R359, R361, R366 to R368, R441: a boundary of a hub and its grid, a frame dropped, a position
unreachable, a measurement started and ended, the heartbeat of the core and its loss, a memory error, ALIVE, a register request. -/
def Obligations.HubCommandsComplete : Prop :=
  (∀ s h, (Instr.hubBoundary h).wf = true → (s.hub h).deaf (.hubBoundary h) = false →
    exec (.hubBoundary h) s = .next (s.withHub h ((s.hub h).boundary (s.hubAt h)))) ∧
  (∀ (w : H) x, w.step = none → (w.advance x).dn = (w.dn + 1) % 2 ^ 32 ∧
    (w.advance x).t = enc 64 ((w.t : Int) + 16000 + clamp (-1) 1 w.err) ∧ (w.advance x).err = w.err - clamp (-1) 1 w.err) ∧
  (∀ s h l, (Instr.hubFrameDrop h l).wf = true → (s.hub h).deaf (.hubFrameDrop h l) = false →
    exec (.hubFrameDrop h l) s = .next (s.withHub h (((s.hub h).inc R.HTW_CNT_C_FDROP_CNT).raiseLoop (s.hubAt h) HC.FDROP l))) ∧
  (∀ s h l p, (Instr.hubUnreach h l p).wf = true → (s.hub h).deaf (.hubUnreach h l p) = false → p < (s.hub h).rd (R.HTW_LOOP_SIZE l) → bitAt ((s.hub h).loop l).ever p = true →
    17 ≤ ((s.hub h).loop l).unseen.get p 0 → bitAt ((s.hub h).rd (R.HTW_LOOP_UNREACH l)) p = false →
    exec (.hubUnreach h l p) s = .next (s.withHub h (((s.hub h).wr (R.HTW_LOOP_UNREACH l)
      (setBit ((s.hub h).rd (R.HTW_LOOP_UNREACH l)) p)).toUnits 0
        (noticeBytes 1 (s.hub h).dn (((s.hub h).rd R.HSY_ID_HUB * 64 + l) * 8 + p))))) ∧
  (∀ s h l p, (Instr.hubUnreach h l p).wf = true → (s.hub h).deaf (.hubUnreach h l p) = false → ((s.hub h).loop l).unseen.get p 0 < 17 →
    exec (.hubUnreach h l p) s = .next (s.withHub h (s.hub h))) ∧
  (∀ s h l, (Instr.loopMeasurement h l).wf = true → (s.hub h).deaf (.loopMeasurement h l) = false → (s.hub h).rd (R.HTW_LOOP_SIZE l) ≠ 0 → ((s.hub h).loop l).due = true →
    ((s.hub h).path l).meas = none → ∀ w : H, w = ({ s.hub h with seq := ((s.hub h).seq + 1) % 256 } : H).onLoop l (fun p => { p with due := false }) →
    exec (.loopMeasurement h l) s = .next (s.withHub h ((w.onPath l (fun p => { p with
      meas := some (Meas.mk (s.hub h).seq (s.hub h).dn []) })).manage l (mailbox [0x82, (s.hub h).seq])))) ∧
  (∀ s h l, (Instr.loopMeasurement h l).wf = true → (s.hub h).deaf (.loopMeasurement h l) = false → ((s.hub h).loop l).due = false →
    exec (.loopMeasurement h l) s = .next (s.withHub h (s.hub h))) ∧
  (∀ s h l m w list, (Instr.measurementComplete h l).wf = true → (s.hub h).deaf (.measurementComplete h l) = false → ((s.hub h).path l).meas = some m → (s.hub h).measured l m = true →
    (s.hub h).laneUp l = true → (s.hub h).laneUp (64 + l) = true →
    w = (s.hub h).onPath l (fun p => { p with meas := none }) →
    (w.offsets2 (s.hubAt h) l m).1 = some list → ∀ v : H, v = (w.offsets2 (s.hubAt h) l m).2 →
    ∃ mbx, exec (.measurementComplete h l) s = .next (s.withHub h
      ((({ v with seq := (v.seq + 1) % 256 } : H).manage l mbx).showMax.sendPath)) ∧
      mbx.take 6 = [0x80, v.seq] ++ toBytes 4 ((v.dn + 16) % 2 ^ 32)) ∧
  (∀ s h l m, (Instr.measurementComplete h l).wf = true → (s.hub h).deaf (.measurementComplete h l) = false → ((s.hub h).path l).meas = some m → (s.hub h).measured l m = false →
    exec (.measurementComplete h l) s = .next (s.withHub h (s.hub h))) ∧
  (∀ s h v, (Instr.hubHeartbeatWrite h v).wf = true → (s.hub h).deaf (.hubHeartbeatWrite h v) = false →
    exec (.hubHeartbeatWrite h v) s = .next (s.withHub h
      (if bitAt v 0 then ({ s.hub h with hbLost := false, beat := true } : H).drive [11] else s.hub h))) ∧
  (∀ s h, (Instr.hubHbLost h).wf = true → (s.hub h).deaf (.hubHbLost h) = false → (s.hub h).beat = false →
    exec (.hubHbLost h) s = .next (s.withHub h (s.hub h))) ∧
  (∀ s h, (Instr.hubHbLost h).wf = true → (s.hub h).deaf (.hubHbLost h) = false → (s.hub h).beat = true → ∃ w, exec (.hubHbLost h) s = .next (s.withHub h w) ∧ w.hbLost = true ∧ w.beat = false ∧ w.mem = [] ∧
    w.mgmt = [] ∧ w.img = [] ∧ w.fetch = some 0 ∧ w.rd R.HSY_CTL_ALIVE_RUN = 0 ∧ w.rd (HB.HSY.status 0) = 1 ∧
    w.orders = (s.hub h).orders ∧ w.loops = (s.hub h).loops) ∧
  (∀ s h w, (Instr.hubMemUnc h).wf = true → (s.hub h).deaf (.hubMemUnc h) = false →
    w = ({ s.hub h with regs := (MemIO.tableError ⟨(s.hub h).regs, (s.hub h).memh, [], 0⟩ 0x40000000 2).regs } : H) →
    exec (.hubMemUnc h) s = .next (s.withHub h
      ((w.raise (s.hubAt h) HC.MEM_UNC []).raise (s.hubAt h) HC.UNCORR [(8, 8, 0)]))) ∧
  (∀ s h, (Instr.hubAliveToggle h).wf = true → (s.hub h).deaf (.hubAliveToggle h) = false → (s.hub h).aliveStopped = false →
    exec (.hubAliveToggle h) s = .next (s.withHub h
      (((s.hub h).wr R.HSY_CTL_ALIVE (1 - b2n ((s.hub h).on R.HSY_CTL_ALIVE))).wr R.HSY_CTL_ALIVE_RUN 1))) ∧
  (∀ s h, (Instr.hubAliveToggle h).wf = true → (s.hub h).deaf (.hubAliveToggle h) = false → (s.hub h).aliveStopped = true →
    exec (.hubAliveToggle h) s = .next (s.withHub h ((s.hub h).wr R.HSY_CTL_ALIVE_RUN 0))) ∧
  (∀ s h, (Instr.regReq h).wf = true → (s.hub h).deaf (.regReq h) = false → (s.hub h).mgmt = [] → exec (.regReq h) s = .next (s.withHub h (s.hub h))) ∧
  (∀ s h b q rest, (Instr.regReq h).wf = true → (s.hub h).deaf (.regReq h) = false → (s.hub h).mgmt = (b, q) :: rest → 1 < q.op ∨ q.count = 0 ∨ 12 < q.count →
    ∃ o, exec (.regReq h) s = .next (s.withHub h (({ s.hub h with mgmt := rest } : H).manageUnit (b2n b) o)) ∧
      o.take 4 = [0x8B, q.tag, 1, q.count]) ∧
  (∀ s h b q rest w r, (Instr.regReq h).wf = true → (s.hub h).deaf (.regReq h) = false → (s.hub h).mgmt = (b, q) :: rest →
    w = ({ s.hub h with mgmt := rest } : H) → r = w.regExec (s.hubAt h) q →
    exec (.regReq h) s = .next (s.withHub h (r.2.manageUnit (b2n b)
      ([0x8B, q.tag, r.1.1, q.count] ++ toBytes 4 q.addr ++ r.1.2.flatMap (toBytes 4))))) ∧
  (∀ (w : H) x q, q.count = 1 → q.addr % 4 = 0 → w.blockOn q.addr = true →
    (q.op = 0 → w.regExec x q = ((0, [w.word q.addr]), { w with regs := w.regs.readClear (hubFields q.addr) })) ∧
    (q.op = 1 → w.regExec x q = ((0, [(w.storeReg x q.addr (q.values.getD 0 0 % 2 ^ 32)).word q.addr]),
      w.storeReg x q.addr (q.values.getD 0 0 % 2 ^ 32)))) ∧
  (∀ (w : H) x q, q.op ≤ 1 → q.count ≠ 0 → q.count ≤ 12 → q.addr % 4 = 0 → q.addr / 0x10000 = (q.addr + 4 * (q.count - 1)) / 0x10000 →
    w.blockOn q.addr = false → w.regExec x q = ((2, []), w))

/-- R307, R310, R314, R324, R325, R326, R330 to R332, R340, R349, R350: Trackway frames and Mainline frames received by a hub, character
by character and block by block. -/
def Obligations.HubFramesComplete : Prop :=
  (∀ s h lane tr chars, (Instr.hubTrackwayRx h lane tr chars none).wf = true → (s.hub h).deaf (.hubTrackwayRx h lane tr chars none) = false →
    exec (.hubTrackwayRx h lane tr chars none) s = .next (s.withHub h ((s.hub h).trackwayRx (s.hubAt h) lane tr chars))) ∧
  (∀ s h lane tr chars tr' chars', lane < 64 → (Instr.hubTrackwayRx h lane tr chars (some (tr', chars'))).wf = true →
    (Instr.hubTrackwayRx h (lane + 64) tr' chars' (some (tr, chars))).wf = true →
    (s.hub h).deaf (.hubTrackwayRx h lane tr chars none) = false → ∀ t,
    t = s.withHub h (((s.hub h).trackwayRx (s.hubAt h) lane tr chars).trackwayRx (s.hubAt h) (lane + 64) tr' chars') →
    exec (.hubTrackwayRx h lane tr chars (some (tr', chars'))) s = .next t ∧
    exec (.hubTrackwayRx h (lane + 64) tr' chars' (some (tr, chars))) s = .next t) ∧
  (∀ (w v : H) x lane tr chars, lane < 128 → w.laneIO.looped (hubLaneBase lane) = false ∨ Output.trackway lane chars ∈ w.out →
    v = w.onLane x lane (fun io => io.frameErrors (hubLaneBase lane) w.dn (twErrors chars)) →
    (v.laneUp lane = false ∨ twCheck chars = .cut → w.trackwayRx x lane tr chars = v) ∧
    (∀ z, v.laneUp lane = true → v.spoiled x lane = (false, z) →
      (twCheck chars = .good → w.trackwayRx x lane tr chars = z.trackwayGood lane tr (readTw chars)) ∧
      (twCheck chars = .stomped → w.trackwayRx x lane tr chars = z) ∧
      (twCheck chars = .bad → w.trackwayRx x lane tr chars = z.checkFails x lane))) ∧
  (∀ (w : H) x lane tr chars, w.laneIO.looped (hubLaneBase lane) = true → Output.trackway lane chars ∉ w.out →
    w.trackwayRx x lane tr chars = w) ∧
  (∀ (w : H) lane tr f l v rs, l = lane % 64 →
    v = (List.range 8).foldl (fun (h : H) p => h.sight l p (f.cstat.getD p 0)) w → rs = v.reports l f →
    ∀ z : H, z = v.onLoop l (fun q => { q with
      sample := rs.foldl (fun (t : Tbl Nat) e => t.set e.1 (le e.2 0 4)) q.sample }) →
    w.trackwayGood lane tr f =
      (((if rs.isEmpty then z else z.toUnits (l % 2) (loopBytes l (decide (64 ≤ lane)) f.dn rs)).mailUp l (decide (64 ≤ lane)) f).transit l
        (decide (64 ≤ lane)) f tr)) ∧
  (∀ (w : H) l f p b, (p, b) ∈ w.reports l f ↔ p < 8 ∧ f.rpts.find? (fun e => e.1 == p) = some (p, b) ∧ bitAt (f.cstat.getD p 0) 1 = true ∧
    Tbl.find? (w.loop l).sample p ≠ some (le b 0 4)) ∧
  (∀ s h lane arr done blocks v, (Instr.hubOrderRx h lane arr done blocks).wf = true → (s.hub h).deaf (.hubOrderRx h lane arr done blocks) = false →
    (s.hub h).hears (s.hubAt h) lane blocks = (false, v) → exec (.hubOrderRx h lane arr done blocks) s = .next (s.withHub h v)) ∧
  (∀ s h lane arr done blocks v w, (Instr.hubOrderRx h lane arr done blocks).wf = true → (s.hub h).deaf (.hubOrderRx h lane arr done blocks) = false →
    (s.hub h).hears (s.hubAt h) lane blocks = (true, v) → v.spoiled (s.hubAt h) lane = (false, w) →
    (readBlocks blocks = none → exec (.hubOrderRx h lane arr done blocks) s = .next (s.withHub h (w.checkFails (s.hubAt h) lane))) ∧
    (∀ b, readBlocks blocks = some b → octet b 0 = 1 →
      exec (.hubOrderRx h lane arr done blocks) s = .next (s.withHub h (w.order (s.hubAt h) lane arr done (readOrder b)))) ∧
    (∀ b, readBlocks blocks = some b → octet b 0 = 3 →
      exec (.hubOrderRx h lane arr done blocks) s = .next (s.withHub h (w.timeRx b)))) ∧
  (∀ (w : H) x n blocks, (w.laneIO.looped (hubLaneBase n) = true → Output.mainline n blocks ∉ w.out → w.hears x n blocks = (false, w)) ∧
    (w.laneIO.looped (hubLaneBase n) = false ∨ Output.mainline n blocks ∈ w.out →
      ∀ v, v = w.onLane x n (fun io => io.headerErrors (hubLaneBase n) (blocks.map (fun b => b.1))) → w.hears x n blocks = (v.laneUp n, v))) ∧
  (∀ (w : H) x lane arr done f v, v = ((({ w with got := true } : H).refer f).estimate arr f).entries x arr f →
    (v.last = none → Tbl.find? v.orders f.dn = none →
      w.order x lane arr done f = { v with orders := v.orders.set f.dn ⟨done, lane, f⟩ }) ∧
    (∀ o, v.last = none → Tbl.find? v.orders f.dn = some o → o.yields done lane f = false →
      w.order x lane arr done f = v.inc R.HTW_CNT_B_DUP) ∧
    (∀ o, v.last = none → Tbl.find? v.orders f.dn = some o → o.yields done lane f = true →
      w.order x lane arr done f = ({ v with orders := v.orders.set f.dn ⟨done, lane, f⟩ } : H).inc R.HTW_CNT_B_DUP) ∧
    (∀ d, v.last = some d → dnDiff f.dn d ≤ 0 → w.order x lane arr done f = v.inc R.HTW_CNT_B_DUP)) ∧
  (∀ (w : H) x l m, l < 64 → (w.loop l).queue.length < 4 → w.enqueue x l m = w.onLoop l (fun p => { p with queue := p.queue ++ [m] })) ∧
  (∀ (w : H) x l m, l < 64 → 4 ≤ (w.loop l).queue.length → w.enqueue x l m = (w.inc R.HTW_CNT_C_QDROP_CNT).raiseLoop x HC.QDROP l)

/-- R28, R325, R333, R343 to R347, R352, R356, R541: notices, LOOP and MAIL frames received by the unit, a PATH, the point service. -/
def Obligations.LinkEngineCommandsComplete : Prop :=
  (∀ (u : U) t n blocks, (u.laneIO.looped (laneBase n) = true → Output.mainline n blocks ∉ u.out → u.hears t n blocks = (false, u)) ∧
    (u.laneIO.looped (laneBase n) = false ∨ Output.mainline n blocks ∈ u.out →
      ∀ v, v = u.onLane t n (fun io => io.headerErrors (laneBase n) (blocks.map (fun b => b.1))) → u.hears t n blocks = (v.laneUp n, v))) ∧
  (∀ (u w : U) t lane blocks, lane < 96 → u.hears t lane blocks = (true, w) → ∀ v, w.spoiled t lane = (false, v) →
    (∀ b, readBlocks blocks = some b → u.hubFrame t lane blocks = (some b, v)) ∧
    (readBlocks blocks = none → u.hubFrame t lane blocks =
      (none, (v.onLane t lane (fun io => io.checkError (laneBase lane) t.tns)).recBad t (lane / 2)))) ∧
  (∀ (u v : U) t lane blocks, lane < 96 → u.hears t lane blocks = (false, v) → u.hubFrame t lane blocks = (none, v)) ∧
  (∀ s lane blocks r, (Instr.noticeRx lane blocks).wf = true → s.u.deaf (.noticeRx lane blocks) = false → r = s.u.hubFrame s.time lane blocks →
    (r.1 = none → exec (.noticeRx lane blocks) s = .next (s.after r.2)) ∧
    (∀ b cid e u, r.1 = some b → octet b 0 = 6 → cid = le b 7 2 % 32768 → cidHub cid = lane / 2 → r.2.cellOf cid = some e →
      u = (r.2.wr R.MLK_NOTICE_CID cid).wr R.MLK_NOTICE_KIND (octet b 1) →
      (octet b 1 = 1 → exec (.noticeRx lane blocks) s = .next (s.after
        ((u.setFlag e.2 .retired true).raise s.time (MLK.UNREACH (lane / 2)) (MLK.det (lane / 2) cid)))) ∧
      (octet b 1 = 2 → exec (.noticeRx lane blocks) s = .next (s.after
        (((u.setFlag e.2 .unseeded true).raise s.time (MLK.REJOIN (lane / 2)) (MLK.det (lane / 2) cid)).reattest cid))))) ∧
  (∀ s lane blocks r, (Instr.loopFrameRx lane blocks).wf = true → s.u.deaf (.loopFrameRx lane blocks) = false → r = s.u.hubFrame s.time lane blocks →
    (r.1 = none → exec (.loopFrameRx lane blocks) s = .next (s.after r.2)) ∧
    (∀ b, r.1 = some b → octet b 0 = 2 → exec (.loopFrameRx lane blocks) s = .next (s.after
      ((readLoop b).foldl (fun (u : U) e => u.reportRx s.time (lane / 2) (octet b 1) e) r.2)))) ∧
  (∀ (u : U) t h l p rep cid, cid = mkCid h (l % 64) (p % 8) → rep.length = 16 → rep.getD 15 0 = crc8 0x2F 0xFF (rep.take 15) →
    (u.topo.valid cid = true → u.queueFull (cidArm cid) = false →
      u.reportRx t h l (p, rep) = (u.inc (R.MLK_HUB_RPT_REPORTS h)).queueReport t cid rep) ∧
    (u.topo.valid cid = true → u.queueFull (cidArm cid) = true → u.reportRx t h l (p, rep) = u.queueReport t cid rep) ∧
    (u.topo.valid cid = false → u.reportRx t h l (p, rep) = u.recBad t h)) ∧
  (∀ s lane arr blocks r, (Instr.mailRx lane arr blocks).wf = true → s.u.deaf (.mailRx lane arr blocks) = false → r = s.u.hubFrame s.time lane blocks →
    (r.1 = none → exec (.mailRx lane arr blocks) s = .next (s.after r.2)) ∧
    (∀ b o, r.1 = some b → octet b 0 = 5 → o = (b.drop 7).take 64 → bitAt (octet b 1) 6 = true →
      (octet o 0 = 0x86 → exec (.mailRx lane arr blocks) s = .next (s.after
        (r.2.onLink (lane / 2) (fun k => { k with echo := some (octet o 1, ofBytes ((o.drop 8).take 8), arr) })))) ∧
      (octet o 0 = 0x8B → exec (.mailRx lane arr blocks) s = .next (s.after (r.2.emit (.toFirmware (lane / 2) o))))) ∧
    (∀ b o c, r.1 = some b → octet b 0 = 5 → o = (b.drop 7).take 64 → bitAt (octet b 1) 6 = false → octet o 0 = 0x11 →
      Tbl.find? r.2.mlk.cfg (mailCid o) = some c → octet o 3 / 128 = r.2.unitB → c.tag = octet o 1 → octet o 4 = 0 →
      exec (.mailRx lane arr blocks) s = .next (s.after (r.2.withMlk (fun m => { m with
        cfg := Tbl.erase m.cfg (mailCid o), ok := m.ok.filter (· != mailCid o) ++ [mailCid o] }))))) ∧
  (∀ s, s.u.deaf .pointRequestSend = false → s.u.on R.MLK_CTL_PTS_EN = false → exec .pointRequestSend s = .next (s.after s.u)) ∧
  (∀ s, s.u.deaf .pointRequestSend = false → s.u.on R.MLK_CTL_PTS_EN = true → s.u.mlk.ready = [] ∨ s.u.roomPc = true →
    exec .pointRequestSend s = .next (s.after (s.u.reading s.time
      (s.u.pqEntries.map (fun i => (s.u.rd R.MLK_PQ_BASE_BASE * 128 + i * 64, 64))) (fun w => w.requestTake s.time)))) ∧
  (∀ s, s.u.deaf .pointRequestSend = false → s.u.mlk.ready ≠ [] → s.u.roomPc = false → exec .pointRequestSend s = .next (s.after s.u)) ∧
  (∀ (w : U) t, w.pqEntries.find? w.pqReady = none → w.requestTake t = w) ∧
  (∀ (w u : U) t i o cid key, w.pqEntries.find? w.pqReady = some i → o = w.pqOctets i → cid = mailCid o → key = loopKey cid →
    u = (w.withMlk (fun m => { m with taken := m.taken ++ [i] })).advancePq 4096 →
    (u.topo.valid cid = true → o.headD 0 = 2 ∨ o.headD 0 = 0x20 → w.requestTake t =
      ((u.withMlk (fun m => { m with tags := m.tags.set key ((u.mlk.tags.get key 0 + 1) % 256) })).sendRequest t key
        ⟨i, o, u.mlk.tags.get key 0, 0, t.dn⟩).showPending (key / 64)) ∧
    (u.topo.valid cid = false ∨ (o.headD 0 ≠ 2 ∧ o.headD 0 ≠ 0x20) → w.requestTake t = u.complete t (withStatus o 6) i)) ∧
  (∀ s h l q, (Instr.pointRetryTimeout h l).wf = true → s.u.deaf (.pointRetryTimeout h l) = false → Tbl.find? s.u.mlk.reqs (h * 64 + l % 64) = some q →
    (s.u.rd R.MLK_CTL_PTS_TMO : Int) ≤ dnDiff s.time.dn q.dn →
    (q.att < s.u.rd R.MLK_CTL_RETRY → exec (.pointRetryTimeout h l) s = .next (s.after
      ((s.u.inc (R.MLK_HUB_PTS_RETRIES h)).sendRequest s.time (h * 64 + l % 64) { q with att := q.att + 1 }))) ∧
    (s.u.rd R.MLK_CTL_RETRY ≤ q.att → exec (.pointRetryTimeout h l) s = .next (s.after
      ((((((s.u.withMlk (fun m => { m with reqs := Tbl.erase m.reqs (h * 64 + l % 64) })).showPending h).inc
        (R.MLK_HUB_PTS_FAILS h)).complete s.time (withStatus q.octets 5) q.idx).raise s.time (MLK.PTS_FAIL h)
        (MLK.det h (mailCid q.octets))))))) ∧
  (∀ s h o q, (Instr.pointResponseRx h o).wf = true → s.u.deaf (.pointResponseRx h o) = false → Tbl.find? s.u.mlk.reqs (loopKey (mailCid o)) = some q →
    o.getD 3 0 / 128 = s.u.unitB → q.tag = o.getD 1 0 → mailCid q.octets = mailCid o → o.headD 0 = q.octets.headD 0 + 1 →
    exec (.pointResponseRx h o) s = .next (s.after
      (((s.u.withMlk (fun m => { m with reqs := Tbl.erase m.reqs (loopKey (mailCid o)) })).showPending (loopKey (mailCid o) / 64)).complete
        s.time o q.idx))) ∧
  (∀ s h o, (Instr.pointResponseRx h o).wf = true → s.u.deaf (.pointResponseRx h o) = false → Tbl.find? s.u.mlk.reqs (loopKey (mailCid o)) = none →
    exec (.pointResponseRx h o) s = .next (s.after (s.u.inc (R.MLK_HUB_ERR_STRAY h)))) ∧
  (∀ s o i dn rest p, s.u.deaf .completionWrite = false → s.u.mlk.ready = (o, i, dn) :: rest → s.u.roomPc = true → p = s.u.rd R.MLK_PC_PROD_PROD →
    exec .completionWrite s = .next (s.after (((s.u.memPut (s.u.rd R.MLK_PC_BASE_BASE * 128 + p * 128)
      (mailbox o ++ toBytes 4 i ++ toBytes 4 dn ++ List.replicate 56 0)).withMlk (fun m => { m with ready := rest })).wr
      R.MLK_PC_PROD_PROD ((p + 1) % s.u.rd R.MLK_PC_SIZE_SIZE)))) ∧
  (∀ s, s.u.deaf .completionWrite = false → s.u.roomPc = false ∨ s.u.mlk.ready = [] → exec .completionWrite s = .next (s.after s.u)) ∧
  (∀ s h dl, (Instr.pathRx h 0xFFFFFFFF 0xFFFFFFFF dl).wf = true → s.u.deaf (.pathRx h 0xFFFFFFFF 0xFFFFFFFF dl) = false →
    exec (.pathRx h 0xFFFFFFFF 0xFFFFFFFF dl) s = .next (s.after s.u)) ∧
  (∀ s h a dl m u, (Instr.pathRx h a 0xFFFFFFFF dl).wf = true → s.u.deaf (.pathRx h a 0xFFFFFFFF dl) = false → a ≠ 0xFFFFFFFF →
    m = (((s.u.rd R.DEP_CTL_LEAD * 16000 : Nat) : Int) - (16000 + a + 1600 + dl + 1600 : Nat)) → m < 0 →
    Tbl.find? s.u.leads h = none ∨ (∃ b, Tbl.find? s.u.leads h = some b ∧ 0 ≤ b) →
    u = ((((({ s.u with leads := s.u.leads.set h m } : U).onLink h (fun k => { k with tw := (a + 1600 + 63) / 64 })).wr
      (R.MLK_HUB_LEAD_MARGIN h) (enc 16 (satS 16 (rdiv m 16)))).wr (R.MLK_HUB_LEAD_VALID h) 1).put (R.MLK_HUB_LEAD_NEG h) true) →
    (u.on R.DEP_CTL_CONV_EN = false → exec (.pathRx h a 0xFFFFFFFF dl) s = .next (s.after (u.raise s.time (MLK.LEAD_FAIL h) (MLK.det h 0)))) ∧
    (u.on R.DEP_CTL_CONV_EN = true → exec (.pathRx h a 0xFFFFFFFF dl) s = .next (s.after
      ((u.raise s.time (MLK.LEAD_NEG h) (MLK.det h 0)).onLink h (fun k => { k with neg := true })))))

/-- R323, R336 to R339: a report without a frame, a point request executed once, a READ of points, a response dropped. -/
def Obligations.CellLinkCommandsComplete : Prop :=
  (∀ s cid ofs y, (Instr.rptMiss cid).wf = true → (s.cell cid).now cid = (ofs, y) → y.clk.rpts = [] →
    exec (.rptMiss cid) s = .next (s.withCell cid (y.withClk (fun l => { l with rpts := [] })))) ∧
  (∀ s cid ofs y r, (Instr.rptMiss cid).wf = true → (s.cell cid).now cid = (ofs, y) → y.clk.rpts = [r] → 2 ≤ dnDiff y.dn r.dn →
    r.doneU = false → r.doneD = false →
    exec (.rptMiss cid) s = .next (s.withCell cid ((y.withClk (fun l => { l with rpts := [] })).raise ofs CC.RPT_MISS []))) ∧
  (∀ s cid o ofs y, (Instr.pointRequestRx cid o none).wf = true → (s.cell cid).now cid = (ofs, y) →
    y.named (le o 2 2 % 32768) = false ∨ octet o 0 ≠ 2 →
    exec (.pointRequestRx cid o none) s = .next (s.withCell cid y)) ∧
  (∀ s cid o p ofs y, (Instr.pointRequestRx cid o (some p)).wf = true → (s.cell cid).now cid = (ofs, y) →
    exec (.pointRequestRx cid o (some p)) s = .next (s.withCell cid ((y.pointRequest cid ofs o).pointRequest cid ofs p))) ∧
  (∀ s cid o ofs y k m, (Instr.pointRequestRx cid o none).wf = true → (s.cell cid).now cid = (ofs, y) → octet o 0 = 2 → m = readPoint o →
    y.named m.cid = true → Tbl.find? y.clk.kept (b2n m.unitB) = some k → k.tag = m.tag →
    (k.att = m.att → exec (.pointRequestRx cid o none) s = .next (s.withCell cid y)) ∧
    (k.att ≠ m.att → exec (.pointRequestRx cid o none) s = .next (s.withCell cid (((y.inc R.CLK_CNT_C_REQ_CACHE).withClk (fun l => { l with
      kept := l.kept.set (b2n m.unitB) { k with att := m.att } })).respond (k.resp.set 4 (k.resp.getD 4 0 % 16 + m.att % 4 * 16)) false)))) ∧
  (∀ s cid q ofs y m z o, (Instr.pointRequestRx cid q none).wf = true → (s.cell cid).now cid = (ofs, y) → octet q 0 = 2 → m = readPoint q →
    y.named m.cid = true → Tbl.find? y.clk.kept (b2n m.unitB) = none → m.op = 0 → 1 ≤ m.count → m.count ≤ 14 → m.first + m.count ≤ 1280 →
    z = (List.range m.count).foldl (fun (c : C) i => c.pointMem ofs (m.first + i)) (y.inc R.CLK_CNT_C_REQ_EXEC) → y.rst = none → z.rst = none →
    o = ([3, m.tag] ++ toBytes 2 (z.addr16 m.unitB) ++ [0, m.count] ++ toBytes 2 m.first ++
      (List.range m.count).flatMap (fun i => toBytes 4 (z.pointRead (m.first + i)))) →
    exec (.pointRequestRx cid q none) s = .next (s.withCell cid ((z.withClk (fun l => { l with
      kept := l.kept.set (b2n m.unitB) (Kept.mk m.tag m.att (o.set 4 (o.getD 4 0 % 16 + m.att % 4 * 16))) })).respond
      (o.set 4 (o.getD 4 0 % 16 + m.att % 4 * 16)) false))) ∧
  (∀ s cid ofs y, (Instr.rspDrop cid).wf = true → (s.cell cid).now cid = (ofs, y) → (∀ r ∈ y.clk.resps, r.age < 64) →
    exec (.rspDrop cid) s = .next (s.withCell cid (y.withClk (fun l => { l with resps := l.resps })))) ∧
  (∀ s cid ofs y r, (Instr.rspDrop cid).wf = true → (s.cell cid).now cid = (ofs, y) → y.clk.resps = [r] → 64 ≤ r.age →
    exec (.rspDrop cid) s = .next (s.withCell cid (((y.withClk (fun l => { l with resps := [] })).feed).raise ofs CC.RSP_DROP [])))

/-- R371 to R382: a conversion slot that no entry owns and one that takes a sample, a store to an entry's configuration, the commit of scale
and offset, a read of a result. -/
def Obligations.MeasurementCommandsComplete : Prop :=
  (∀ s cid k raw, (Instr.adcConversion cid k raw).wf = true → (∀ n < 16, ((s.cell cid).ent n).live = false) →
    exec (.adcConversion cid k raw) s = .next (s.withCell cid (s.cell cid))) ∧
  (∀ s cid k raw n, (Instr.adcConversion cid k raw).wf = true →
    (List.range 16).filter (fun n => ((s.cell cid).ent n).live && (s.cell cid).owns n k && (s.cell cid).sampling n (s.cell cid).dn) = [n] →
    ∀ o y x, o = max (s.cell cid).gte.ofs (800 * k) →
    y = ((s.cell cid).withGte (fun g => { g with ofs := o })).placeEdges o → x = sx 16 raw →
    ∀ z, z = y.setEnt n (fun e => { e with
      n := e.n + 1, hist := ((y.correct n (k % 4) x, decide (x = -32768) || decide (x = 32767)) :: e.hist).take (y.order n * y.dec n),
      prev := some x }) → z.outputDue n k = false → ∀ w late, late = (if bitAt (z.rd R.ADC_CTL_PWR) (k % 4) then 0 else 2000) →
    w = (z.adapt cid o n).slicePower (k % 4) k (s.cell cid).dn late → w.rd R.CCP_RATE_MASTER ≠ n →
    exec (.adcConversion cid k raw) s = .next (s.withCell cid w)) ∧
  (∀ s cid n v ofs y, (Instr.adcEntryEnable cid n v).wf = true → (s.cell cid).now cid = (ofs, y) → y.on R.ADC_CTL_LOCK = false →
    y.on (R.ADC_ENT_CFG_EN n) = false → bits v 16 5 < 20 → bits v 21 5 = 4 ∨ bits v 21 5 = 20 → bitAt v 0 = true → ∀ z : C,
    z = (((((((((y.wr (R.ADC_ENT_CFG_INPUT n) (bits v 1 4)).wr (R.ADC_ENT_CFG_GAIN n) (bits v 5 2)).wr (R.ADC_ENT_CFG_MODE n)
      (bits v 7 1)).wr (R.ADC_ENT_CFG_PDN n) (bits v 8 1)).wr (R.ADC_ENT_CFG_ORDER n) (bits v 9 2)).wr (R.ADC_ENT_CFG_ROLE n)
      (bits v 12 4)).wr (R.ADC_ENT_CFG_SLOT n) (bits v 16 5)).wr (R.ADC_ENT_CFG_STEP n) (bits v 21 5))) →
    (z.adcRefused n = false → exec (.adcEntryEnable cid n v) s = .next (s.withCell cid ((z.wr (R.ADC_ENT_CFG_EN n) 1).power z))) ∧
    (z.adcRefused n = true → exec (.adcEntryEnable cid n v) s = .next (s.withCell cid (y.raise ofs CC.ADC_WR_REJ [(8, 4, n)])))) ∧
  (∀ s cid n v ofs y, (Instr.adcOfsCommit cid n v).wf = true → (s.cell cid).now cid = (ofs, y) → y.on R.ADC_CTL_LOCK = false →
    ∃ k, exec (.adcOfsCommit cid n v) s = .next (s.withCell cid k) ∧ (k.ent n).off = sx 24 v ∧ (k.ent n).shift = bits v 24 5 ∧
      (k.ent n).scale = sx 32 (y.rd (R.ADC_ENT_SCALE_SCALE n)) ∧ k.rd (R.ADC_ENT_OFS_OFFSET n) = v % 2 ^ 24 ∧
      (∀ m, m ≠ n → k.ent m = y.ent m)) ∧
  (∀ s cid n v ofs y, (Instr.adcOfsCommit cid n v).wf = true → (s.cell cid).now cid = (ofs, y) → y.on R.ADC_CTL_LOCK = true →
    (bits v 0 24 ≠ y.rd (R.ADC_ENT_OFS_OFFSET n) ∨ bits v 24 5 ≠ y.rd (R.ADC_ENT_OFS_SHIFT n) →
      exec (.adcOfsCommit cid n v) s = .next (s.withCell cid (y.raise ofs CC.ADC_WR_REJ [(8, 4, n)]))) ∧
    (bits v 0 24 = y.rd (R.ADC_ENT_OFS_OFFSET n) → bits v 24 5 = y.rd (R.ADC_ENT_OFS_SHIFT n) →
      exec (.adcOfsCommit cid n v) s = .next (s.withCell cid y))) ∧
  (∀ s cid n, (Instr.adcResRead cid n).wf = true →
    exec (.adcResRead cid n) s = .next (s.withCell cid (((s.cell cid).wr (R.ADC_ENT_RES_DN_DN n) ((s.cell cid).ent n).dn).emit
      (.readData 0 (R.ADC_ENT_RES_RES n).addr ((s.cell cid).rd (R.ADC_ENT_RES_RES n))))))

/-- R386 to R400, R403: ARM, STOP and SWTRIG of the unit's and of a cell's capture, the stream to Ethernet and to flash, a snapshot, its
copy, a timed command. -/
def Obligations.CaptureCommandsComplete : Prop :=
  (∀ s d, s.u.deaf .capArm = false → s.u.capRuns = false → s.u.capRegion.1 + s.u.capRegion.2 ≤ 768 * 65536 → s.u.on R.CAP_CTL_SINK = false →
    d = s.u.capRegion.2 / s.u.capRowSize → ∀ v : U,
    v = (s.u.wr R.CAP_GEOM_DEPTH d).wr R.CAP_GEOM_ROW16 (s.u.capRowSize / 16) →
    (s.u.on R.CAP_CTL_MODE = true → exec .capArm s = .next (s.after
      ((((v.wr R.CAP_STATE_STATE 4).wr R.CAP_SPROD_PROD 0).wr R.CAP_SCONS_CONS 0).withCap (fun _ => Cap.zero)))) ∧
    (s.u.on R.CAP_CTL_MODE = false → s.u.rd R.CAP_POST_POST ≤ d → exec .capArm s = .next (s.after
      ((((v.wr R.CAP_STATE_STATE 1).wr R.CAP_CNT_TRIG_IGN 0).wr R.CAP_CNT_FRAMES 0).withCap
        (fun _ => { Cap.zero with post := s.u.rd R.CAP_POST_POST })))) ∧
    (s.u.on R.CAP_CTL_MODE = false → d < s.u.rd R.CAP_POST_POST → exec .capArm s = .next (s.after
      (((((v.raise s.time CAP.POST_CLAMP []).wr R.CAP_STATE_STATE 1).wr R.CAP_CNT_TRIG_IGN 0).wr R.CAP_CNT_FRAMES 0).withCap
        (fun _ => { Cap.zero with post := d }))))) ∧
  (∀ s, s.u.deaf .capArm = false → s.u.capRuns = true → exec .capArm s = .next (s.after s.u)) ∧
  (∀ s, s.u.deaf .capArm = false → s.u.capRuns = false → 768 * 65536 < s.u.capRegion.1 + s.u.capRegion.2 →
    exec .capArm s = .next (s.after (s.u.raise s.time CAP.WR_REJ []))) ∧
  (∀ s, s.u.deaf .capStop = false → s.u.capRuns = true → exec .capStop s = .next (s.after
    (((s.u.wr R.CAP_STATE_STATE 3).withCap (fun c => { c with due := 0 })).raise s.time CAP.DONE []))) ∧
  (∀ s, s.u.deaf .capStop = false → s.u.capRuns = false → exec .capStop s = .next (s.after s.u)) ∧
  (∀ s, s.u.deaf .capSwtrig = false → s.u.capRuns = true → exec .capSwtrig s = .next (s.after
    (s.u.withCap (fun c => { c with due := setBit c.due 3 })))) ∧
  (∀ s, s.u.deaf .capSwtrig = false → s.u.capRuns = false → exec .capSwtrig s = .next (s.after s.u)) ∧
  (∀ s, s.u.deaf .streamFrameSend = false → s.u.streamHas false = false → exec .streamFrameSend s = .next (s.after s.u)) ∧
  (∀ s n, s.u.deaf .streamFrameSend = false → s.u.streamHas false = true → n = min (max 1 (1456 / max 1 (s.u.rd R.CAP_GEOM_ROW16 * 16))) s.u.cap.total →
    s.u.capState = 3 ∨ max 1 (1456 / max 1 (s.u.rd R.CAP_GEOM_ROW16 * 16)) ≤ s.u.cap.total →
    exec .streamFrameSend s = .next (s.after (s.u.reading s.time (s.u.streamSpans n) (fun w => w.streamOut n)))) ∧
  (∀ (u : U) n, ∃ a b, u.streamOut n = (((u.ethSend (u.rd R.CAP_CTL_SINK_PAIR) a b).streamTake n).withCap
      (fun c => { c with seq := (c.seq + 1) % 65536 })).inc R.CAP_CNT_FRAMES ∧
      a.take 6 = (toBytes 2 (u.rd R.CAP_MAC_H_MAC_HI)).reverse ++ (toBytes 4 (u.rd R.CAP_MAC_L_MAC_LO)).reverse ∧
      a.drop 12 = b.drop 12) ∧
  (∀ s, s.u.deaf .streamFlashWrite = false → s.u.streamHas true = false → exec .streamFlashWrite s = .next (s.after s.u)) ∧
  (∀ s, s.u.deaf .streamFlashWrite = false → s.u.streamHas true = true →
    s.u.rd R.CAP_FLASH_LEN_LEN * 65536 < s.u.cap.flash * (s.u.rd R.CAP_GEOM_ROW16 * 16) + s.u.rd R.CAP_GEOM_ROW16 * 16 →
    exec .streamFlashWrite s = .next (s.after (s.u.streamEnd s.time))) ∧
  (∀ s w, s.u.deaf .streamFlashWrite = false → s.u.streamHas true = true →
    s.u.cap.flash * (s.u.rd R.CAP_GEOM_ROW16 * 16) + s.u.rd R.CAP_GEOM_ROW16 * 16 ≤ s.u.rd R.CAP_FLASH_LEN_LEN * 65536 →
    w = s.u.reading s.time (s.u.streamSpans 1) U.streamStore →
    (w.flashFull = false → exec .streamFlashWrite s = .next (s.after w)) ∧
    (w.flashFull = true → exec .streamFlashWrite s = .next (s.after (w.streamEnd s.time)))) ∧
  (∀ u : U, u.streamStore.cap = { u.cap with total := u.cap.total - 1, flash := u.cap.flash + 1 } ∧
    u.streamStore.rd R.CAP_SCONS_CONS = ((u.rd R.CAP_SCONS_CONS + 1) % max 1 (u.rd R.CAP_GEOM_DEPTH)) % 2 ^ R.CAP_SCONS_CONS.width ∧
    u.streamStore.mem = u.mem ∧ ∃ f, u.streamStore.flash = Flash.program f
      (u.rd R.CAP_FLASH_ADDR_ADDR * 65536 + u.cap.flash * (u.rd R.CAP_GEOM_ROW16 * 16)) (u.streamRowBytes (u.rd R.CAP_SCONS_CONS))) ∧
  (∀ s, s.u.deaf .snpFire = false → exec .snpFire s = .next (s.after { s.u with snp := { s.u.snp with fired := setBit s.u.snp.fired 0 } })) ∧
  (∀ (u : U) t latch, u.snp.fired ≠ 0 → u.blockHeld 2 = false → u.snp.image = none → u.on R.CAP_CTL_TRIG_SNP = false →
    (u.snapshot t latch).rd R.SNP_LAST_SEQ = (u.rd R.SNP_LAST_SEQ + 1) % 65536 ∧ (u.snapshot t latch).snp.fired = 0 ∧
    (u.snapshot t latch).snp.image.isSome = true ∧ (u.snapshot t latch).rd R.SNP_LAST_SRC = u.snp.fired % 2 ^ R.SNP_LAST_SRC.width) ∧
  (∀ s, s.u.deaf .snapshotCopyDone = false → s.u.snp.image = none → exec .snapshotCopyDone s = .next (s.after s.u)) ∧
  (∀ s ws, s.u.deaf .snapshotCopyDone = false → s.u.snp.image = some ws → ∀ v : U,
    v = ws.foldl (fun (u : U) w => u.memPut (u.rd R.SNP_BASE_BASE * 8192 + w.1) (toBytes 4 w.2)) s.u →
    exec .snapshotCopyDone s = .next (s.after { v with snp := { v.snp with image := none } })) ∧
  (∀ s, s.u.deaf .snpTcmdGo = false → s.u.rd R.SNP_TCMD_CMD = 1 ∨ s.u.rd R.SNP_TCMD_CMD = 2 → s.u.on R.SNP_TCMD_GO = false →
    (s.u.rd R.DEP_CTL_LEAD + 4 : Nat) ≤ dnDiff (s.u.rd R.SNP_TCMD_DN_DN) s.time.dn → dnDiff (s.u.rd R.SNP_TCMD_DN_DN) s.time.dn ≤ 65535 →
    exec .snpTcmdGo s = .next (s.after ((s.u.wr R.SNP_TCMD_GO 1).wr R.SNP_TCMD_STAT_DONE 1))) ∧
  (∀ s, s.u.deaf .snpTcmdGo = false → dnDiff (s.u.rd R.SNP_TCMD_DN_DN) s.time.dn < (s.u.rd R.DEP_CTL_LEAD + 4 : Nat) →
    exec .snpTcmdGo s = .next (s.after ((s.u.wr R.SNP_TCMD_STAT_REJ 1).raise s.time SNP.TCMD_REJ []))) ∧
  (∀ s cid ofs y d, (Instr.ccpArm cid).wf = true → (s.cell cid).now cid = (ofs, y) → y.rd R.CCP_STATE_STATE = 0 ∨ y.rd R.CCP_STATE_STATE = 3 →
    d = 524288 / y.rowBytes → y.rd R.CCP_POST_POST ≤ d →
    exec (.ccpArm cid) s = .next (s.withCell cid ((((y.wr R.CCP_STATE_STATE 1).wr R.CCP_STATE_TRIG_CAUSE 0).wr R.CCP_STATE_TRIG_ROW 0).withCcp
      (fun _ => { Ccp.zero with depth := d, size := y.rowBytes, post := y.rd R.CCP_POST_POST, clamp := false })))) ∧
  (∀ s cid ofs y, (Instr.ccpArm cid).wf = true → (s.cell cid).now cid = (ofs, y) → y.rd R.CCP_STATE_STATE = 1 ∨ y.rd R.CCP_STATE_STATE = 2 →
    exec (.ccpArm cid) s = .next (s.withCell cid y)) ∧
  (∀ s cid ofs y, (Instr.ccpStop cid).wf = true → (s.cell cid).now cid = (ofs, y) → y.rd R.CCP_STATE_STATE = 1 ∨ y.rd R.CCP_STATE_STATE = 2 →
    exec (.ccpStop cid) s = .next (s.withCell cid (((y.withCcp (fun p => { p with due := 0 })).wr R.CCP_STATE_STATE 3).raise ofs CC.DONE []))) ∧
  (∀ s cid ofs y, (Instr.ccpStop cid).wf = true → (s.cell cid).now cid = (ofs, y) → y.rd R.CCP_STATE_STATE = 0 ∨ y.rd R.CCP_STATE_STATE = 3 →
    exec (.ccpStop cid) s = .next (s.withCell cid y)) ∧
  (∀ s cid, (Instr.ccpSwtrig cid).wf = true → (s.cell cid).rd R.CCP_STATE_STATE = 1 ∨ (s.cell cid).rd R.CCP_STATE_STATE = 2 →
    exec (.ccpSwtrig cid) s = .next (s.withCell cid ((s.cell cid).withCcp (fun p => { p with due := setBit p.due 3 })))) ∧
  (∀ s cid, (Instr.ccpSwtrig cid).wf = true → (s.cell cid).rd R.CCP_STATE_STATE = 0 →
    exec (.ccpSwtrig cid) s = .next (s.withCell cid (s.cell cid)))

/-- R413 to R420, R424, R429 to R432: a core that waits, with a ready thread and without; the end of a run with each disposition; a release
that resumes. -/
def Obligations.RunCommandsComplete : Prop :=
  (∀ s core v, (Instr.schWaitRead core).wf = true → s.u.held = false → s.u.coreUp core = true → s.u.sch.waiting.find? core = none →
    s.u.sch.runs.find? core = none →
    v = (s.u.wr (R.SCH_CORE_STAT_PREEMPT core) 0).withSch (fun x => { x with meip := clrBit x.meip core }) →
    (∀ th, v.bestReady core = some th → exec (.schWaitRead core) s = .next (s.after (v.dispatch s.time core th))) ∧
    (v.bestReady core = none → exec (.schWaitRead core) s = .next (s.after (v.withSch (fun x => { x with waiting := x.waiting.set core s.time.ref }))))) ∧
  (∀ s core r v, (Instr.schWaitRead core).wf = true → s.u.held = false → s.u.coreUp core = true → s.u.sch.waiting.find? core = none →
    s.u.sch.runs.find? core = some r →
    v = (((s.u.endRun s.time core 0).inc (R.SCH_CORE_CNT_IMPLICIT_CNT core)).wr (R.SCH_CORE_STAT_PREEMPT core) 0).withSch
      (fun x => { x with meip := clrBit x.meip core }) → v.bestReady core = none →
    exec (.schWaitRead core) s = .next (s.after (v.withSch (fun x => { x with waiting := x.waiting.set core s.time.ref })))) ∧
  (∀ s core, (Instr.schWaitRead core).wf = true → s.u.held = false → s.u.coreUp core = false →
    exec (.schWaitRead core) s = .next (s.after s.u)) ∧
  (∀ (u : U) t core th, core < 16 → th < 256 → (∀ i, u.deliverable th = some i → i.flow < 64) → (u.dispatch t core th).rd (R.SCH_THR_STAT_STATE th) = 3 ∧
    (u.dispatch t core th).rd (R.SCH_CORE_STAT_STATE core) = 1 ∧ (u.dispatch t core th).rd (R.SCH_CORE_STAT_THREAD core) = th ∧
    th ∉ (u.dispatch t core th).sch.ready ∧ (u.dispatch t core th).sch.waiting.find? core = none ∧
    ∃ r, (u.dispatch t core th).sch.runs.find? core = some r ∧ r.thread = th ∧ r.start = t.t16) ∧
  (∀ s core c, (c = Instr.endWait core ∨ c = Instr.endWaitUntil core ∨ c = Instr.endYield core ∨ c = Instr.endExit core) →
    c.wf = true → s.u.held = false → s.u.sch.runs.find? core = none →
    exec c s = .next (s.after (s.u.raise s.time SCH.CMD_REJ (SCH.det core 0)))) ∧
  (∀ s core r v, (Instr.endWait core).wf = true → s.u.held = false → s.u.sch.runs.find? core = some r →
    v = (s.u.closeRun s.time core r).wr (R.SCH_THR_STAT_STATE r.thread) 1 →
    (v.on (R.SCH_THR_STAT_WAKE r.thread) = false → v.sch.plain.find? r.thread = none →
      exec (.endWait core) s = .next (s.after (v.settle s.time))) ∧
    (v.on (R.SCH_THR_STAT_WAKE r.thread) = true → exec (.endWait core) s = .next (s.after
      ((((v.wr (R.SCH_THR_STAT_WAKE r.thread) 0).withSch (fun x => { x with
        plain := x.plain.set r.thread (x.plain.get r.thread 0) })).makeReady s.time
        r.thread).settle s.time)))) ∧
  (∀ s core r v d, (Instr.endWaitUntil core).wf = true → s.u.held = false → s.u.sch.runs.find? core = some r →
    v = (s.u.closeRun s.time core r).wr (R.SCH_THR_STAT_STATE r.thread) 1 → v.on (R.SCH_THR_STAT_WAKE r.thread) = false → v.sch.plain.find? r.thread = none →
    d = v.rd (R.SCH_END_DN_DN core) →
    (0 < dnDiff d s.time.dn → exec (.endWaitUntil core) s = .next (s.after
      (((v.wr (R.SCH_THR_STAT_DL_VALID r.thread) 1).wr (R.SCH_THR_DL_DN r.thread) d).settle s.time))) ∧
    (dnDiff d s.time.dn ≤ 0 → exec (.endWaitUntil core) s = .next (s.after
      (((v.withSch (fun x => { x with plain := x.plain.set r.thread (x.plain.get r.thread 2) })).makeReady s.time r.thread).settle s.time)))) ∧
  (∀ s core r v, (Instr.endYield core).wf = true → s.u.held = false → s.u.sch.runs.find? core = some r →
    v = (s.u.closeRun s.time core r).wr (R.SCH_THR_STAT_STATE r.thread) 1 →
    exec (.endYield core) s = .next (s.after
      (((v.withSch (fun x => { x with plain := x.plain.set r.thread (x.plain.get r.thread 0) })).makeReady s.time r.thread).settle
        s.time))) ∧
  (∀ s core r v, (Instr.endExit core).wf = true → s.u.held = false → s.u.sch.runs.find? core = some r →
    v = (s.u.closeRun s.time core r).wr (R.SCH_THR_STAT_STATE r.thread) 1 →
    exec (.endExit core) s = .next (s.after ((((v.wr (R.SCH_THR_STAT_STATE r.thread) 0).wr (R.SCH_THR_STAT_WAKE r.thread) 0).withSch
      (fun x => { x with plain := x.plain.erase r.thread })).settle s.time))) ∧
  (∀ (u : U) t core r, r.item = none → core < 16 → r.thread < 256 → (u.closeRun t core r).sch.runs = u.sch.runs.erase core ∧
    (u.closeRun t core r).rd (R.SCH_CORE_STAT_STATE core) = 0 ∧ (u.closeRun t core r).rd (R.SCH_CORE_STAT_THREAD core) = 0) ∧
  (∀ s f i, (Instr.releaseResume f).wf = true → s.u.held = false → s.u.sch.items.find? (fun i => i.flow == f && i.state == .held &&
      i.seq == s.u.rd (R.SCH_FLOW_SEQ_REL_SEQ f)) = some i → s.u.ringRoom f = true → s.u.rd (R.SCH_FLOW_CFG_NEXT f) = 0 →
    exec (.releaseResume f) s = .next (s.after ((U.release 1023 ((s.u.releaseItem s.time i).withSch
      (fun x => { x with stalled := x.stalled.filter (· != f) })) s.time f).settle s.time))) ∧
  (∀ s f, (Instr.releaseResume f).wf = true → s.u.held = false → s.u.sch.items.find? (fun i => i.flow == f && i.state == .held &&
      i.seq == s.u.rd (R.SCH_FLOW_SEQ_REL_SEQ f)) = none → exec (.releaseResume f) s = .next (s.after (s.u.settle s.time)))

/-- R411 to R414, R421 to R427, R433 to R437: the commands of SCH_CMD with their results, SCH_IPI, a source binding, the timetable, a long
run, the pace and load of cores, an uncorrectable error of a core. -/
def Obligations.SchedulerCommandsComplete : Prop :=
  (∀ s core th c, (c = Instr.schCreate core th ∨ c = Instr.schDestroy core th ∨ c = Instr.schReady core th none ∨
      c = Instr.schCancel core th ∨ c = Instr.schRestart core th) → c.wf = true → s.u.held = false → th = 0 ∨ 256 ≤ th →
    exec c s = .next (s.after (s.u.cmdResult core 2 0))) ∧
  (∀ s core th, (Instr.schCreate core th).wf = true → s.u.held = false → 0 < th → th < 256 → s.u.thr th = 0 →
    exec (.schCreate core th) s = .next (s.after (((s.u.wr (R.SCH_THR_STAT_STATE th) 1).settle s.time).cmdResult core 0 0))) ∧
  (∀ s core th, (Instr.schDestroy core th).wf = true → s.u.held = false → 0 < th → th < 256 → s.u.thr th = 1 ∨ s.u.thr th = 2 →
    exec (.schDestroy core th) s = .next (s.after
      ((((s.u.unready th).wr (R.SCH_THR_STAT_STATE th) 0).wr (R.SCH_THR_STAT_DL_VALID th) 0).cmdResult core 0 0))) ∧
  (∀ s core th, (Instr.schReady core th none).wf = true → s.u.held = false → 0 < th → th < 256 →
    (s.u.thr th = 1 → exec (.schReady core th none) s = .next (s.after
      (((s.u.withSch (fun x => { x with plain := x.plain.set th 0 })).makeReady s.time th).cmdResult core 0 0))) ∧
    (s.u.thr th = 3 → exec (.schReady core th none) s = .next (s.after ((s.u.wr (R.SCH_THR_STAT_WAKE th) 1).cmdResult core 0 0)))) ∧
  (∀ s core th other, (Instr.schReady core th (some other)).wf = true → s.u.held = false → 0 < th → th < 256 → s.u.thr th = 1 →
    exec (.schReady core th (some other)) s = .next (s.after
      (((s.u.wr (R.SCH_THR_STAT_DL_VALID th) 0).cmdResult core 0 0).cmdResult other 0 0))) ∧
  (∀ s core th, (Instr.schCancel core th).wf = true → s.u.held = false → 0 < th → th < 256 →
    (s.u.thr th = 2 → exec (.schCancel core th) s = .next (s.after
      ((((s.u.unready th).wr (R.SCH_THR_STAT_STATE th) 1).settle s.time).cmdResult core 0 0))) ∧
    (s.u.thr th = 3 → exec (.schCancel core th) s = .next (s.after (s.u.cmdResult core 1 0)))) ∧
  (∀ s core th, (Instr.schRestart core th).wf = true → s.u.held = false → 0 < th → th < 256 →
    (s.u.thr th = 4 → exec (.schRestart core th) s = .next (s.after (((s.u.wr (R.SCH_THR_STAT_STATE th) 1).settle s.time).cmdResult core 0 0))) ∧
    (s.u.thr th ≠ 4 → exec (.schRestart core th) s = .next (s.after (s.u.cmdResult core 3 0)))) ∧
  (∀ s core f, (Instr.schPost core f).wf = true → s.u.held = false → f = 0 ∨ 64 ≤ f →
    exec (.schPost core f) s = .next (s.after (s.u.cmdResult core 2 0))) ∧
  (∀ s core f th q v, (Instr.schPost core f).wf = true → s.u.held = false → 0 < f → f < 64 →
    th = s.u.rd (R.SCH_FLOW_CFG_DEF_THREAD f) → th ≠ 0 → s.u.queueItem s.time f th 0x100 (s.u.rd (R.SCH_CMD_DATA_DATA core)) false = (some q, v) →
    exec (.schPost core f) s = .next (s.after (v.cmdResult core 0 q))) ∧
  (∀ s core f, (Instr.schPost core f).wf = true → s.u.held = false → 0 < f → f < 64 →
    s.u.rd (R.SCH_FLOW_CFG_DEF_THREAD f) = 0 ∨ 1024 ≤ s.u.sch.items.length →
    exec (.schPost core f) s = .next (s.after (s.u.cmdResult core 4 0))) ∧
  (∀ s core x, (Instr.schRetireCore core x).wf = true → s.u.held = false → x < 16 →
    (s.u.sch.runs.find? x = none → s.u.coreUp x = true →
      exec (.schRetireCore core x) s = .next (s.after ((s.u.retireCore s.time x).cmdResult core 0 0))) ∧
    ((s.u.sch.runs.find? x).isSome = true → exec (.schRetireCore core x) s = .next (s.after (s.u.cmdResult core 3 0)))) ∧
  (∀ s core x, (Instr.schRestoreCore core x).wf = true → s.u.held = false → x < 16 →
    (s.u.rd (R.SCH_CORE_STAT_STATE x) = 2 → exec (.schRestoreCore core x) s = .next (s.after (((s.u.wr (R.SCH_CORE_STAT_STATE x) 0).emit
      (.coreStart x (s.u.rd R.SYS_CORE_ENTRY_L_ENTRY_LO * 4 + 2 ^ 32 * s.u.rd R.SYS_CORE_ENTRY_H_ENTRY_HI))).cmdResult core 0 0))) ∧
    (s.u.rd (R.SCH_CORE_STAT_STATE x) ≠ 2 → exec (.schRestoreCore core x) s = .next (s.after (s.u.cmdResult core 3 0)))) ∧
  (∀ (u : U) core st q, core < 16 → (u.cmdResult core st q).rd (R.SCH_CMD_RES_STATUS core) = st % 2 ^ (R.SCH_CMD_RES_STATUS core).width ∧
    (u.cmdResult core st q).rd (R.SCH_CMD_RES_SEQ core) = q % 2 ^ (R.SCH_CMD_RES_SEQ core).width) ∧
  (∀ s core, (Instr.schCmdResRead core).wf = true → s.u.held = false → core ∉ s.u.sch.resReady →
    exec (.schCmdResRead core) s = .next (s.after (s.u.withSch (fun x => { x with blocked := x.blocked.filter (· != core) ++ [core] })))) ∧
  (∀ s core, (Instr.schCmdResRead core).wf = true → s.u.held = false → core ∈ s.u.sch.resReady →
    exec (.schCmdResRead core) s = .next (s.after ((s.u.emit (.readData core 0x400530028 (s.u.rd (R.SCH_CMD_RES_STATUS core) +
      2 ^ 16 * s.u.rd (R.SCH_CMD_RES_SEQ core)))).withSch (fun x => { x with resReady := x.resReady.filter (· != core) })))) ∧
  (∀ s core v, (Instr.schIpiWrite core v).wf = true → s.u.held = false → ∃ k, exec (.schIpiWrite core v) s = .next (s.after
    (s.u.withSch (fun x => { x with msip := k }))) ∧ ∀ j < 16, bitAt k j =
      ((bitAt s.u.sch.msip j || bitAt v j) && !(bitAt v 16 && decide (j = core)))) ∧
  (∀ s n v, (Instr.schSrcWrite n v).wf = true → s.u.held = false → s.u.rd (R.SCH_SRC_FLOW n) ≠ bits v 0 6 ∨
      s.u.rd (R.SCH_SRC_THREAD n) ≠ bits v 8 8 →
    (s.u.on (R.SCH_SRC_PEND n) = false → exec (.schSrcWrite n v) s = .next (s.after
      ((s.u.wr (R.SCH_SRC_FLOW n) (bits v 0 6)).wr (R.SCH_SRC_THREAD n) (bits v 8 8)))) ∧
    (s.u.on (R.SCH_SRC_PEND n) = true → exec (.schSrcWrite n v) s = .next (s.after (s.u.raise s.time SCH.CMD_REJ [])))) ∧
  (∀ s, s.u.held = false → (∀ th < 256, th ≠ 0 → s.u.on (R.SCH_THR_STAT_DL_VALID th) = true → dnDiff (s.time.lastUs % 2 ^ 32) (s.u.rd (R.SCH_THR_DL_DN th)) < 0) →
    exec .timetableExpiry s = .next (s.after s.u)) ∧
  (∀ s th, s.u.held = false → 0 < th → th < 256 → s.u.on (R.SCH_THR_STAT_DL_VALID th) = true →
    0 ≤ dnDiff (s.time.lastUs % 2 ^ 32) (s.u.rd (R.SCH_THR_DL_DN th)) →
    (∀ x < 256, x ≠ 0 → x ≠ th → s.u.on (R.SCH_THR_STAT_DL_VALID x) = true → dnDiff (s.time.lastUs % 2 ^ 32) (s.u.rd (R.SCH_THR_DL_DN x)) < 0) →
    exec .timetableExpiry s = .next (s.after (((s.u.wr (R.SCH_THR_STAT_DL_VALID th) 0).withSch
      (fun x => { x with plain := x.plain.set th 2 })).makeReady s.time th))) ∧
  (∀ s core r, (Instr.longRun core).wf = true → s.u.held = false → s.u.sch.runs.find? core = some r → s.u.rd R.SCH_CTL_RUN_MAX ≠ 0 →
    r.long = false → s.u.rd R.SCH_CTL_RUN_MAX * 16000 < s.time.t16 - r.start →
    exec (.longRun core) s = .next (s.after (((s.u.withSch (fun x => { x with runs := x.runs.set core { r with long := true } })).raise
      s.time (SCH.LONG_RUN core) (SCH.det core r.thread)).setPreempt core))) ∧
  (∀ s core, (Instr.longRun core).wf = true → s.u.held = false → s.u.sch.runs.find? core = none →
    exec (.longRun core) s = .next (s.after s.u)) ∧
  (∀ s core p, (Instr.paceCheck core p).wf = true → s.u.held = false → s.u.sch.runs.find? core = none →
    exec (.paceCheck core p) s = .next (s.after (s.u.wr (R.SCH_CORE_PACE_LAST core) (min p 2047)))) ∧
  (∀ s core p r v, (Instr.paceCheck core p).wf = true → s.u.held = false → s.u.sch.runs.find? core = some r →
    v = (s.u.wr (R.SCH_CORE_PACE_LAST core) (min p 2047)).wr (R.SCH_CORE_PACE_MIN core)
      (min (s.u.rd (R.SCH_CORE_PACE_MIN core)) (min p 2047)) →
    (p < s.u.rd R.SCH_CTL_PACE_LIM → exec (.paceCheck core p) s = .next (s.after (v.raise s.time (SCH.SLOW core) (SCH.det core r.thread)))) ∧
    (s.u.rd R.SCH_CTL_PACE_LIM ≤ p → exec (.paceCheck core p) s = .next (s.after v))) ∧
  (∀ s, s.u.held = false → s.u.Calm → ∃ t, exec .loadWindowEnd s = .next t ∧ t.u.sch.winStart = s.time.t16 ∧
    t.u.sch.winBusy = [] ∧ t.u.sch.winRuns = [] ∧ ∀ c < 16, s.u.sch.runs.find? c = none →
      t.u.rd (R.SCH_CORE_LOAD_LOAD c) = (satU 16 (rdiv (s.u.sch.winBusy.get c 0 * 65536 : Nat) 16000000)).toNat) ∧
  (∀ s core kind, (Instr.coreUncorrError core kind).wf = true → s.u.held = false →
    (s.u.coreUp core = false → exec (.coreUncorrError core kind) s = .next (s.after s.u)) ∧
    (s.u.coreUp core = true →
      (kind = 0 → exec (.coreUncorrError core kind) s = .next (s.after ((s.u.retireCore s.time core).uncorrected s.time))) ∧
      (kind = 1 → exec (.coreUncorrError core kind) s = .next (s.after ((s.u.inc (R.SCH_CORE_CNT_REFETCH_CNT core)).uncorrected s.time))) ∧
      (kind = 2 → exec (.coreUncorrError core kind) s = .next (s.after ((s.u.inc (R.SCH_CORE_CNT_SCRUB_CNT core)).onMem s.time
        (fun io => io.tableError 0x400000000 1))))))

/-- R451 to R456: a scrub step, an uncorrectable word read, a write of the injection registers on each chip; ALIVE. -/
def Obligations.MemoryErrorCommandsComplete : Prop :=
  (∀ s n still, s.u.held = false → exec (.scrubRead .unit n still) s = .next (s.after
    (s.u.onMem s.time (fun io => io.scrub 0x400000000 (if s.u.domainOff 2 then 0x1800000 else 0x3000000) n still)))) ∧
  (∀ s h n still, (Instr.scrubRead (.hub h) n still).wf = true → (s.hub h).deaf (.scrubRead (.hub h) n still) = false → exec (.scrubRead (.hub h) n still) s = .next (s.withHub h
    ((s.hub h).onMem (s.hubAt h) (fun io => io.scrub 0x40000000 0x40000 n still)))) ∧
  (∀ s cid n still ofs y, (Instr.scrubRead (.cell cid) n still).wf = true → (s.cell cid).now cid = (ofs, y) →
    exec (.scrubRead (.cell cid) n still) s = .next (s.withCell cid (y.onMem ofs (fun io => io.scrub localBase 0x100000 n still)))) ∧
  (∀ (io : MemIO) b size still, io.rd (R.SYS_INJ_ONCE b) ≠ 1 → io.rd (R.SYS_INJ_CONT b) ≠ 1 → io.hid.scrub / 16 * 16 ∉ io.hid.poison →
    io.scrub b size 0 still = { io with hid := { io.hid with scrub := if io.hid.scrub + 16 ≥ size then 0 else io.hid.scrub + 16 } } ∧
    (io.scrub b size 1 false).regs = (io.inc (R.SYS_MEM_CNT_CORR_CNT b)).regs ∧ (io.scrub b size 1 false).raised = io.raised ∧
    (io.scrub b size 1 true).raised = io.raised ++
      [(if (io.hid.spare.get (io.hid.scrub / 2 ^ 20) []).length < 16 then 1 else 2, io.hid.scrub / 2 ^ 20)] ∧
    (∀ n, 2 ≤ n → (io.scrub b size n still).raised = io.raised ++ [(0, io.hid.scrub / 2 ^ 20),
      (if (io.hid.spare.get (io.hid.scrub / 2 ^ 20) []).length < 16 then 1 else 2, io.hid.scrub / 2 ^ 20)])) ∧
  (∀ s addr, (Instr.memoryUncorrRead .unit addr none).wf = true → s.u.held = false →
    exec (.memoryUncorrRead .unit addr none) s = .next (s.after (s.u.onMem s.time (fun io => io.uncorr 0x400000000 addr false)))) ∧
  (∀ s addr c, (Instr.memoryUncorrRead .unit addr (some c)).wf = true → s.u.held = false →
    exec (.memoryUncorrRead .unit addr (some c)) s = .next (s.after
      ((s.u.onMem s.time (fun io => io.uncorr 0x400000000 addr false)).emit (.loadFault addr)))) ∧
  (∀ s h addr c, (Instr.memoryUncorrRead (.hub h) addr c).wf = true → (s.hub h).deaf (.memoryUncorrRead (.hub h) addr c) = false → ∃ w, w = (s.hub h).onMem (s.hubAt h) (fun io => io.uncorr 0x40000000 addr false) ∧
    exec (.memoryUncorrRead (.hub h) addr c) s = .next (s.withHub h (if c.isSome then w.emit (.loadFault addr) else w))) ∧
  (∀ s cid addr c ofs y, (Instr.memoryUncorrRead (.cell cid) addr c).wf = true → (s.cell cid).now cid = (ofs, y) →
    ∃ w, w = y.onMem ofs (fun io => io.uncorr localBase addr false) ∧
    exec (.memoryUncorrRead (.cell cid) addr c) s = .next (s.withCell cid (if c.isSome then w.emit (.loadFault addr) else w))) ∧
  (∀ s a v, (Instr.sysInjWrite .unit a v).wf = true → s.u.held = false → exec (.sysInjWrite .unit a v) s = .next (s.after
    (s.u.onMem s.time (fun io => io.injWrite 0x400000000 a 8 (s.u.on R.DEP_CTL_CONV_EN) v)))) ∧
  (∀ s h a v, (Instr.sysInjWrite (.hub h) a v).wf = true → (s.hub h).deaf (.sysInjWrite (.hub h) a v) = false → exec (.sysInjWrite (.hub h) a v) s = .next (s.withHub h
    ((s.hub h).onMem (s.hubAt h) (fun io => io.injWrite 0x40000000 a 1 false v)))) ∧
  (∀ s cid a v ofs y, (Instr.sysInjWrite (.cell cid) a v).wf = true → (s.cell cid).now cid = (ofs, y) →
    exec (.sysInjWrite (.cell cid) a v) s = .next (s.withCell cid (y.onMem ofs (fun io => io.injWrite localBase a 1 false v)))) ∧
  (∀ (io : MemIO) b v, io.rd (R.SYS_INJ_CONT b) ≠ 1 → bitAt v 12 = false → bitAt v 11 = true → io.rd (R.SYS_INJ_ONCE b) ≠ 1 →
    (bits v 0 4 = 2 ∨ bits v 0 4 = 3 ∨ bits v 0 4 = 5 ∨ bits v 0 4 = 6 → io.injWrite b false 8 true v = io.cause 3 0) ∧
    (bits v 0 4 ≤ 8 → 0 < bits v 9 2 → bits v 9 2 < 3 → (io.injWrite b false 8 false v).raised = io.raised ∧
      (io.injWrite b false 8 false v).rd (R.SYS_INJ_TARGET b) = bits v 0 4 ∧ (io.injWrite b false 8 false v).rd (R.SYS_INJ_ONCE b) = 1)) ∧
  (∀ s, s.u.held = false → s.time.lastUs % 500 = 0 → s.u.anyOpen3 = false → s.u.on R.DEP_STATUS_AV_LATCHED = false →
    s.u.rd R.SBX_STATE_HB = 1 → exec .aliveToggle s = .next (s.after (((s.u.drive [22]).emit (.alive (!s.u.sys.alive))).withSys
      (fun x => { x with alive := !x.alive })))) ∧
  (∀ s, s.u.held = false → s.u.anyOpen3 = true ∨ s.u.on R.DEP_STATUS_AV_LATCHED = true ∨ s.u.rd R.SBX_STATE_HB ≠ 1 →
    exec .aliveToggle s = .next (s.after s.u)) ∧
  (∀ (u : U) t spans f, u.badWords spans = [] → u.reading t spans f = f u)

/-- R464, R472, R481 to R484: the writes of the signal box. A heartbeat in its window and with its token keeps HB OK, any other loses it;
words are held until LOCK takes a good configuration; CLEAR and FT_CLR act under their conditions. -/
def Obligations.SignalBoxWritesComplete : Prop :=
  (∀ s k t, (Instr.sbxHeartWrite k t).wf = true → s.u.held = false → s.u.sbxLocked = false →
    exec (.sbxHeartWrite k t) s = .next (s.after s.u)) ∧
  (∀ s k t, (Instr.sbxHeartWrite k t).wf = true → s.u.held = false → s.u.sbx.supply = true → s.u.sbxLocked = true → s.u.rd R.SBX_STATE_HB = 0 →
    (k = 0x5A → exec (.sbxHeartWrite k t) s = .next (s.after (((s.u.wr R.SBX_STATE_HB 1).withSbx
      (fun x => { x with hbLast := t, hbToken := 0xA5, hbPair := none })).permits))) ∧
    (k ≠ 0x5A → exec (.sbxHeartWrite k t) s = .next (s.after s.u))) ∧
  (∀ s k t, (Instr.sbxHeartWrite k t).wf = true → s.u.held = false → s.u.sbx.supply = true → s.u.sbxLocked = true → s.u.rd R.SBX_STATE_HB = 1 →
    (k = s.u.sbx.hbToken → s.u.sbx.hbLast + s.u.hbWindow.1 ≤ t → t < s.u.sbx.hbLast + s.u.hbWindow.2 →
      exec (.sbxHeartWrite k t) s = .next (s.after (((s.u.wr R.SBX_STATE_HB 1).withSbx
        (fun x => { x with hbLast := t, hbToken := if k = 0x5A then 0xA5 else 0x5A, hbPair := none })).permits))) ∧
    (k ≠ s.u.sbx.hbToken ∨ t < s.u.sbx.hbLast + s.u.hbWindow.1 ∨ s.u.sbx.hbLast + s.u.hbWindow.2 ≤ t →
      exec (.sbxHeartWrite k t) s = .next (s.after (s.u.hbLost s.time)))) ∧
  (∀ s k t, (Instr.sbxHeartWrite k t).wf = true → s.u.held = false → s.u.sbx.supply = true → s.u.sbxLocked = true → s.u.rd R.SBX_STATE_HB = 2 →
    (s.u.sbx.hbPair = none → k = 0x5A → exec (.sbxHeartWrite k t) s = .next (s.after
      (s.u.withSbx (fun x => { x with hbPair := some t })))) ∧
    (∀ t1, s.u.sbx.hbPair = some t1 → k = 0xA5 → t1 + s.u.hbWindow.1 ≤ t → t < t1 + s.u.hbWindow.2 →
      exec (.sbxHeartWrite k t) s = .next (s.after (((s.u.wr R.SBX_STATE_HB 1).withSbx
        (fun x => { x with hbLast := t, hbToken := 0x5A, hbPair := none })).permits)))) ∧
  (∀ s, s.u.held = false → s.u.sbx.supply = true → s.u.sbxLocked = true →
    (s.u.rd R.SBX_STATE_HB = 1 → exec .heartbeatWindowEnd s = .next (s.after (s.u.hbLost s.time))) ∧
    (s.u.rd R.SBX_STATE_HB ≠ 1 → exec .heartbeatWindowEnd s = .next (s.after (s.u.withSbx (fun x => { x with hbPair := none }))))) ∧
  (∀ s, s.u.held = false → s.u.sbxLocked = false → exec .heartbeatWindowEnd s = .next (s.after s.u)) ∧
  (∀ (u : U) t, ∃ w : U, u.hbLost t = w.raise t SBX.HB_LOST [] ∧ w.rd R.SBX_STATE_HB = 2 ∧ w.rd R.SBX_HS_HS = 0 ∧ w.rd R.SBX_PERM_LS = 0) ∧
  (∀ s v, (Instr.sbxHsWrite v).wf = true → s.u.held = false → s.u.sbx.supply = true → exec (.sbxHsWrite v) s = .next (s.after (s.u.wr R.SBX_HS_HS v).permits)) ∧
  (∀ s v, (Instr.sbxCfgLoadWrite v).wf = true → s.u.held = false → s.u.sbx.supply = true →
    (s.u.rd R.SBX_STATE_CFG < 2 → s.u.rd R.SBX_CFG_CTL_WORDS < 64 → exec (.sbxCfgLoadWrite v) s = .next (s.after
      (((s.u.wr R.SBX_STATE_CFG 1).wr R.SBX_CFG_CTL_WORDS (s.u.rd R.SBX_CFG_CTL_WORDS + 1)).withSbx (fun x => { x with cfg := x.cfg ++ [v] })))) ∧
    (2 ≤ s.u.rd R.SBX_STATE_CFG → exec (.sbxCfgLoadWrite v) s = .next (s.after s.u))) ∧
  (∀ s, s.u.held = false → s.u.sbx.supply = true →
    (s.u.sbxLocked = false → exec .sbxCfgStart s = .next (s.after (((s.u.wr R.SBX_STATE_CFG 0).wr R.SBX_CFG_CTL_WORDS 0).withSbx
      (fun x => { x with cfg := [] })))) ∧
    (s.u.sbxLocked = true → exec .sbxCfgStart s = .next (s.after s.u))) ∧
  (∀ s, s.u.held = false → s.u.sbx.supply = true →
    (s.u.rd R.SBX_STATE_CFG = 2 → exec .sbxCfgLock s = .next (s.after s.u)) ∧
    (s.u.rd R.SBX_STATE_CFG = 1 → sbxCfgOk (s.u.rd R.SBX_CFG_CTL_WORDS) s.u.sbx.cfg = true →
      exec .sbxCfgLock s = .next (s.after (s.u.cfgLocked s.time))) ∧
    (s.u.rd R.SBX_STATE_CFG = 0 ∨ s.u.rd R.SBX_STATE_CFG = 3 ∨
      (s.u.rd R.SBX_STATE_CFG = 1 ∧ sbxCfgOk (s.u.rd R.SBX_CFG_CTL_WORDS) s.u.sbx.cfg = false) →
      exec .sbxCfgLock s = .next (s.after ((s.u.wr R.SBX_STATE_CFG 3).raise s.time SBX.CFG_BAD [])))) ∧
  (∀ s k, (Instr.sbxClear k).wf = true → s.u.held = false → s.u.sbx.supply = true →
    (k = 0xC1EA → s.u.rd R.DEP_CTL_CONV_EN = 0 → s.u.tripLine = none → s.u.rd R.SBX_STATE_HB = 1 → s.u.rd R.SBX_STATE_GL_ACTIVE = 0 →
      s.u.anyOpen3 = false → exec (.sbxClear k) s = .next (s.after ((((s.u.wr R.SBX_STATE_TRIPPED 0).wr R.SBX_STATE_AV_OUT 0).withSbx
        (fun x => { x with rbFault := 0, rbCnt := [] })).permits))) ∧
    (k ≠ 0xC1EA ∨ s.u.rd R.DEP_CTL_CONV_EN ≠ 0 ∨ s.u.tripLine.isSome = true ∨ s.u.rd R.SBX_STATE_HB ≠ 1 ∨
      s.u.rd R.SBX_STATE_GL_ACTIVE ≠ 0 ∨ s.u.anyOpen3 = true →
      exec (.sbxClear k) s = .next (s.after (s.u.raise s.time SBX.CLR_REJ [])))) ∧
  (∀ s k, (Instr.sbxFtClr k).wf = true → s.u.held = false → s.u.sbx.supply = true →
    (k = 0xC1EA → s.u.rd R.SBX_STATE_TRIPPED = 0 → s.u.rd R.SBX_STATE_GL_ACTIVE = 0 → exec (.sbxFtClr k) s = .next (s.after
      { s.u with regs := Regs.resetRange s.u.regs 0x400540040 0x400540050 })) ∧
    (k ≠ 0xC1EA ∨ s.u.rd R.SBX_STATE_TRIPPED ≠ 0 ∨ s.u.rd R.SBX_STATE_GL_ACTIVE ≠ 0 →
      exec (.sbxFtClr k) s = .next (s.after (s.u.raise s.time SBX.CLR_REJ [])))) ∧
  (∀ s c, s.u.deaf c = false → s.u.sbx.supply = false → c.wf = true → (∃ k t, c = Instr.sbxHeartWrite k t) ∨ c = .heartbeatWindowEnd ∨
      (∃ v, c = Instr.sbxHsWrite v) ∨ (∃ v, c = Instr.sbxCfgLoadWrite v) ∨ c = .sbxCfgStart ∨ c = .sbxCfgLock ∨
      (∃ k, c = Instr.sbxClear k) ∨ (∃ k, c = Instr.sbxFtClr k) →
    exec c s = .next (s.after s.u))

/-- R466 to R479, R593: what the signal box does at a change of a line, at its time limits, in its readback and pulse tests, and when its
supply or its oscillator fails. -/
def Obligations.SignalBoxEventsComplete : Prop :=
  (∀ s n v, (Instr.sbxLineChange n v).wf = true → s.u.held = false → (n < 16 → bitAt s.u.sbx.hw n = v) →
    (s.u.lineNow n = s.u.line n → exec (.sbxLineChange n v) s = .next (s.after s.u)) ∧
    (s.u.sbx.supply = true → s.u.lineNow n = true → s.u.line n = false → exec (.sbxLineChange n v) s = .next (s.after ((s.u.setLine n true).lineActs s.time n)))) ∧
  (∀ s n v, (Instr.sbxLineChange n v).wf = true → s.u.held = false → n < 16 → bitAt s.u.sbx.hw n ≠ v →
    exec (.sbxLineChange n v) s = .next (s.after ((s.u.withSbx (fun x => { x with
      hw := if v then setBit x.hw n else clrBit x.hw n
      alvOut := clrBit x.alvOut n })).sampleLine s.time n))) ∧
  (∀ (u : U) t n, n < 149 → u.sbx.supply = true → u.lineNow n = true → u.line n = false →
    (u.sbxLocked = false → u.sampleLine t n = u.setLine n true) ∧
    (u.sbxLocked = true → bits (u.sbxWord (10 + n / 16)) (2 * (n % 16)) 2 = 1 → u.sampleLine t n = (u.setLine n true).raise t SBX.LINE_ALARM []) ∧
    (u.sbxLocked = true → bits (u.sbxWord (10 + n / 16)) (2 * (n % 16)) 2 = 2 → u.sampleLine t n = (u.setLine n true).raise t SBX.LINE_DEGRADE []) ∧
    (u.sbxLocked = true → bits (u.sbxWord (10 + n / 16)) (2 * (n % 16)) 2 = 3 → u.sampleLine t n = (u.setLine n true).raise t SBX.TRIP_LINE [])) ∧
  (∀ (u : U) t n, n < 149 → u.sbx.supply = true → u.lineNow n = false → u.line n = true →
    (∀ m, m < 149 → m ≠ n → u.line m = true → u.lineAction m ≠ 2) →
    u.sampleLine t n = (u.setLine n false).endLasting t SBX.LINE_DEGRADE) ∧
  (∀ s j, (Instr.hwAliveTimeout j).wf = true → s.u.held = false →
    (s.u.sbx.supply = true → s.u.sbxLocked = true → bitAt (s.u.hwCfg j) 1 = true → exec (.hwAliveTimeout j) s = .next (s.after
      ((s.u.withSbx (fun x => { x with alvOut := setBit x.alvOut j })).sampleLine s.time j))) ∧
    (s.u.sbxLocked = false ∨ bitAt (s.u.hwCfg j) 1 = false → exec (.hwAliveTimeout j) s = .next (s.after s.u))) ∧
  (∀ s, s.u.held = false → s.u.sbx.supply = true → s.u.sbxLocked = true → s.u.on R.SBX_STATE_GL_ACTIVE = true → s.u.sbx.glExp = false →
    s.u.glacierMax * 1000 ≤ s.u.sbx.glUs + 1 → exec .glacierExpire s = .next (s.after (((s.u.wr R.SBX_GLACIER_GL_TIME s.u.glacierMax).withSbx
      (fun x => { x with glExp := true })).raise s.time SBX.GL_EXPIRE []))) ∧
  (∀ s, s.u.held = false → s.u.on R.SBX_STATE_GL_ACTIVE = false ∨ s.u.sbx.glExp = true ∨ s.u.sbx.glUs + 1 < s.u.glacierMax * 1000 →
    exec .glacierExpire s = .next (s.after s.u)) ∧
  (∀ s, s.u.held = false →
    (s.u.sbx.supply = true → s.u.on R.SBX_STATE_GL_ACTIVE = false → exec .glacierTimerReset s = .next (s.after ((s.u.wr R.SBX_GLACIER_GL_TIME 0).withSbx
      (fun x => { x with glUs := 0, glExp := false })))) ∧
    (s.u.on R.SBX_STATE_GL_ACTIVE = true → exec .glacierTimerReset s = .next (s.after s.u))) ∧
  (∀ s pr, (Instr.readbackSample pr).wf = true → s.u.held = false → s.u.sbx.supply = true → s.u.sbxLocked = false →
    exec (.readbackSample pr) s = .next (s.after (s.u.wr R.SBX_PERM_RB pr))) ∧
  (∀ s pr, (Instr.readbackSample pr).wf = true → s.u.held = false → s.u.sbx.supply = true → s.u.sbxLocked = true → s.u.Calm →
    pr = s.u.rd R.SBX_PERM_GRANTED → ∃ t, exec (.readbackSample pr) s = .next t ∧ t.u.rd R.SBX_PERM_RB = pr ∧ t.u.sbx.cmdWas = pr ∧
      t.u.sbx.rbFault = s.u.sbx.rbFault ∧ t.u.recs = s.u.recs) ∧
  (∀ s k low, (Instr.testPulseStart k low).wf = true → s.u.held = false →
    (s.u.sbx.supply = true → s.u.sbxLocked = true → bitAt (s.u.rd R.SBX_PERM_GRANTED) k = true → s.u.on (R.SBX_CH_TEST k) = true → s.u.sbx.pulse = none →
      exec (.testPulseStart k low) s = .next (s.after ((s.u.inc R.SBX_CNT_TP_CNT).withSbx (fun x => { x with pulse := some (k, low) })))) ∧
    (bitAt (s.u.rd R.SBX_PERM_GRANTED) k = false ∨ s.u.on (R.SBX_CH_TEST k) = false →
      exec (.testPulseStart k low) s = .next (s.after s.u))) ∧
  (∀ s a b, s.u.held = false →
    (s.u.sbx.pulse = none → exec (.testPulseEnd a b) s = .next (s.after s.u)) ∧
    (∀ k low, s.u.sbx.supply = true → s.u.sbx.pulse = some (k, low) →
      (a = true → b = true → exec (.testPulseEnd a b) s = .next (s.after (s.u.withSbx (fun x => { x with pulse := none })))) ∧
      (a = false ∨ b = false → exec (.testPulseEnd a b) s = .next (s.after
        (((s.u.withSbx (fun x => { x with pulse := none, rbFault := setBit x.rbFault k, rbCnt := x.rbCnt.erase k })).permits).raise
          s.time SBX.RB_FAULT []))))) ∧
  (∀ s n, (Instr.oscWindowEnd n).wf = true → s.u.held = false →
    (s.u.sbx.supply = true → s.u.rd R.TIM_DEP_CTL_STATE = 2 → n < 38400 ∨ 41600 < n → exec (.oscWindowEnd n) s = .next (s.after (s.u.raise s.time SBX.OSC_DEV []))) ∧
    (s.u.rd R.TIM_DEP_CTL_STATE ≠ 2 ∨ (38400 ≤ n ∧ n ≤ 41600) → exec (.oscWindowEnd n) s = .next (s.after s.u))) ∧
  (∀ s, s.u.deaf .peerStatusTimeout = false →
    (s.u.sbx.supply = true → s.u.sbxLocked = true → exec .peerStatusTimeout s = .next (s.after ((((s.u.wr R.SBX_STATE_PEER_OK 0).withSbx
      (fun x => { x with peerMiss := bits (s.u.sbxWord 38) 18 8 })).sampleLine s.time 147).glacier s.time))) ∧
    (s.u.sbxLocked = false → exec .peerStatusTimeout s = .next (s.after s.u))) ∧
  (∀ s, s.u.held = false → exec .vsbxUndervoltage s = .next (s.after ((s.u.sbxReset).withSbx (fun x => { x with supply := false })).permits)) ∧
  (∀ u : U, (u.sbxReset).rd R.SBX_STATE_CFG = 0 ∧ (u.sbxReset).rd R.SBX_PERM_LS = 0 ∧ (u.sbxReset).rd R.DEP_CTL_CONV_EN = 0 ∧
    (u.sbxReset).rd R.SBX_HS_HS = u.rd R.SBX_HS_HS ∧ (u.sbxReset).sbx.cfg = []) ∧
  (∀ s, s.u.held = false →
    (s.u.sbx.supply = false → ∀ w : U, w = (s.u.withSbx (fun x => { x with supply := true })).permits → exec .vsbxRelease s = .next (s.after
      (((List.range 149).foldl (fun (u : U) n => u.setLine n (u.lineNow n)) w).glacier s.time))) ∧
    (s.u.sbx.supply = true → exec .vsbxRelease s = .next (s.after s.u))) ∧
  (∀ s c, s.u.deaf c = false → s.u.sbx.supply = false → c.wf = true → (∃ j, c = Instr.hwAliveTimeout j) ∨ c = .glacierExpire ∨
      c = .glacierTimerReset ∨ (∃ pr, c = Instr.readbackSample pr) ∨ (∃ k low, c = Instr.testPulseStart k low) ∨
      (∃ a b, c = Instr.testPulseEnd a b) ∨ (∃ n, c = Instr.oscWindowEnd n) ∨ c = .peerStatusTimeout →
    exec c s = .next (s.after s.u)) ∧
  (∀ s, s.u.held = false → exec .sbxOscillatorStop s = .next (s.after (s.u.withSbx (fun x => { x with osc := false })).permits)) ∧
  (∀ u : U, u.sbx.osc = false → (u.permits).rd R.SBX_PERM_LS = 0 ∧ (u.permits).rd R.SBX_PERM_GRANTED = 0)

/-- R491, R493, R495, R498, R488, R503, R506: what arrives from the peer, and a write of a region. A valid CTRL is held as the peer's last,
shows its role and answers its handover; a region is written at once; a hardware section waits or is late. -/
def Obligations.PeerMessagesComplete : Prop :=
  (∀ (u w : U) t parts, w = parts.foldl (fun (u : U) e => u.onLane t e.1 (fun io => io.headerErrors (laneBase e.1) (e.2.map (fun b => b.1)))) u →
    w.sidingUp ≠ 0 → ∀ v, w.sidingSpoiled t = (false, v) → ∀ b, readBlocks (u.sidingBlocks parts) = some b →
    u.sidingFrame t parts = (some b, v)) ∧
  (∀ (u : U) n blocks, 96 ≤ n → n < 100 → u.laneUp n = true → u.laneIO.looped (laneBase n) = false →
    u.on (R.LNS_STATE_REVERSED (laneBase n)) = false → u.sidingBlocks [(n, blocks)] = blocks) ∧
  (∀ s parts r, (Instr.ctrlRx parts).wf = true → s.u.deaf (.ctrlRx parts) = false → r = s.u.sidingFrame s.time parts →
    (r.1 = none → exec (.ctrlRx parts) s = .next (s.after r.2)) ∧
    (∀ b, r.1 = some b → octet b 0 = 4 → octet b 1 = 0 → exec (.ctrlRx parts) s = .next (s.after (r.2.peerCtrl s.time (readCtrl b))))) ∧
  (∀ (u : U) t c, (u.peerCtrl t c).sdl.peer = some c ∧ (u.peerCtrl t c).sdl.peerTs = t.ts64 ∧ (u.peerCtrl t c).sdl.miss = 0 ∧
    (u.peerCtrl t c).rd R.SDL_ROLE_PEER_VALID = 1 ∧ (u.peerCtrl t c).rd R.SDL_ROLE_PEER_ROLE = c.role % 2 ^ R.SDL_ROLE_PEER_ROLE.width) ∧
  (∀ (u : U) c, u.role = 2 → c.hoReq = true → (u.handoverRx c).rd R.SDL_ROLE_HO_PEND = 1 ∧
    (u.handoverRx c).rd R.SDL_HO_DN_DN = c.hoDn % 2 ^ 32 ∧ (u.handoverRx c).sdl.hoReq = true) ∧
  (∀ (u : U) c, u.role = 3 → c.take = true → u.on R.SDL_ROLE_HO_PEND = true → c.hoDn = u.rd R.SDL_HO_DN_DN →
    u.handoverRx c = u.withSdl (fun x => { x with takeRx := true })) ∧
  (∀ (u : U) t c, u.role = 3 → c.role = 3 → u.sdl.next = none →
    (u.on R.SDL_ROLE_HO_PEND = true ∧ u.sdl.takeRx = false ∨ u.sdl.hoFail = true → (u.dualActive t c).sdl.next = some 1) ∧
    (u.on R.SDL_ROLE_HO_PEND = false → u.sdl.hoFail = false → u.sdl.hoPeer = false → c.hoReq = false →
      (u.on R.SDL_ROLE_PREFER = false → (u.dualActive t c).sdl.next = some 1) ∧ (u.on R.SDL_ROLE_PREFER = true → u.dualActive t c = u)) ∧
    (u.on R.SDL_ROLE_HO_PEND = false → u.sdl.hoFail = false → u.sdl.hoPeer = true ∨ c.hoReq = true → u.dualActive t c = u)) ∧
  (∀ s parts r, (Instr.mirrorSectionRx parts).wf = true → s.u.deaf (.mirrorSectionRx parts) = false → s.u.sidingUp ≠ 0 → r = s.u.sidingFrame s.time parts →
    (∀ b sec, r.1 = some b → octet b 0 = 4 → readSection b = some sec → (∀ k bs, sec ≠ .region k bs) →
      (le b 2 4 = r.2.sdl.cycDn → exec (.mirrorSectionRx parts) s = .next (s.after
        (r.2.withSdl (fun x => { x with recv := x.recv ++ [sec] })))) ∧
      (le b 2 4 ≠ r.2.sdl.cycDn → exec (.mirrorSectionRx parts) s = .next (s.after
        ((r.2.inc R.SDL_CNT_A_LATE_CNT).raise s.time SDL.MIR_LATE [])))) ∧
    (r.1 = none → octet (frameHead (s.u.sidingBlocks parts)) 0 = 4 → 1 ≤ octet (frameHead (s.u.sidingBlocks parts)) 1 → octet (frameHead (s.u.sidingBlocks parts)) 1 ≤ 3 →
      exec (.mirrorSectionRx parts) s = .next (s.after ((r.2.inc R.SDL_CNT_A_LATE_CNT).raise s.time SDL.MIR_LATE []))) ∧
    (∀ b k bs, r.1 = some b → octet b 0 = 4 → readSection b = some (.region k bs) →
      ((s.u.role ≠ 1 ∧ s.u.role ≠ 2) ∨ r.2.sdl.regions.find? k = none → exec (.mirrorSectionRx parts) s = .next (s.after r.2)) ∧
      (∀ e, s.u.role = 1 ∨ s.u.role = 2 → r.2.sdl.regions.find? k = some e →
        exec (.mirrorSectionRx parts) s = .next (s.after (((r.2.wr (R.SDL_REG_SEQ_SEQ k)
          (r.2.rd (R.SDL_REG_SEQ_SEQ k) + 1)).memPut e.1 (bs.take e.2)).wr (R.SDL_REG_SEQ_SEQ k)
            ((r.2.wr (R.SDL_REG_SEQ_SEQ k) (r.2.rd (R.SDL_REG_SEQ_SEQ k) + 1)).rd (R.SDL_REG_SEQ_SEQ k) + 1)))))) ∧
  (∀ s, s.u.deaf (.relinquishRx relinquishBlock) = false → s.u.sidingUp ≠ 0 →
    (s.u.role = 2 → exec (.relinquishRx relinquishBlock) s = .next (s.after (s.u.withSdl (fun x => { x with next := some 3 })))) ∧
    (s.u.role ≠ 2 → exec (.relinquishRx relinquishBlock) s = .next (s.after s.u))) ∧
  (∀ s b, (Instr.relinquishRx b).wf = true → s.u.deaf (.relinquishRx b) = false → s.u.sidingUp = 0 ∨ b ≠ relinquishBlock →
    exec (.relinquishRx b) s = .next (s.after s.u)) ∧
  (∀ s r v, (Instr.sdlRegionWrite r false v).wf = true → s.u.deaf (.sdlRegionWrite r false v) = false →
    exec (.sdlRegionWrite r false v) s = .next (s.after (s.u.wr (R.SDL_REG_BASE_BASE r) (v / 16)))) ∧
  (∀ s r v n, (Instr.sdlRegionWrite r true v).wf = true → s.u.deaf (.sdlRegionWrite r true v) = false → n = v % 2 ^ 17 →
    (n % 16 ≠ 0 ∨ 96000 < n → exec (.sdlRegionWrite r true v) s = .next (s.after (s.u.raise s.time SDL.WR_REJ []))) ∧
    (n % 16 = 0 → n ≤ 96000 → (s.u.regionSums r n).2 ≤ 96000 → (s.u.regionSums r n).1 + s.u.rd R.SDL_BUDGET_HW ≤ 100000 →
      exec (.sdlRegionWrite r true v) s = .next (s.after ((s.u.wr (R.SDL_REG_LEN_LEN r) n).wr R.SDL_REG_USED_FRAME (s.u.regionSums r n).1))) ∧
    (n % 16 = 0 → n ≤ 96000 → 96000 < (s.u.regionSums r n).2 ∨ 100000 < (s.u.regionSums r n).1 + s.u.rd R.SDL_BUDGET_HW →
      exec (.sdlRegionWrite r true v) s = .next (s.after (s.u.raise s.time SDL.WR_REJ []))))

/-- R502, R504 to R506, R508: the commands of the pair and its time limits, each with the role decided for the next departure boundary,
and what refuses them. -/
def Obligations.RoleCommandsComplete : Prop :=
  (∀ s, s.u.deaf .sdlJoin = false → s.u.role ≠ 0 → exec .sdlJoin s = .next (s.after s.u)) ∧
  (∀ s v, s.u.deaf .sdlJoin = false → s.u.role = 0 → v = s.u.wr R.SDL_CTL_JOIN 1 → s.u.sdl.next = none →
    (s.u.on R.SDL_ROLE_PEER_VALID = false → s.u.on R.SDL_ROLE_PREFER = true → exec .sdlJoin s = .next (s.after
      (v.withSdl (fun x => { x with next := some 3 })))) ∧
    (∀ c, s.u.on R.SDL_ROLE_PEER_VALID = true → s.u.sdl.peer = some c → c.cfgId = s.u.topo.cfgId → c.fwId = s.u.fwId → c.role = 3 →
      exec .sdlJoin s = .next (s.after (v.withSdl (fun x => { x with next := some 1 })))) ∧
    (∀ c, s.u.on R.SDL_ROLE_PEER_VALID = true → s.u.sdl.peer = some c → c.cfgId ≠ s.u.topo.cfgId →
      exec .sdlJoin s = .next (s.after ((v.raise s.time SDL.IMG_DIFF []).wr R.SDL_CTL_JOIN 0)))) ∧
  (∀ s, s.u.deaf .sdlSwap = false →
    (s.u.role = 3 → s.u.peerIs 2 = true → s.u.on R.SDL_ROLE_HO_PEND = false → exec .sdlSwap s = .next (s.after
      ((s.u.wr R.SDL_ROLE_HO_PEND 1).withSdl (fun x => { x with hoReq := true, takeRx := false })))) ∧
    (s.u.role ≠ 3 ∨ s.u.peerIs 2 = false ∨ s.u.on R.SDL_ROLE_HO_PEND = true → exec .sdlSwap s = .next (s.after
      (s.u.raise s.time SDL.SWAP_REJ [])))) ∧
  (∀ s, s.u.deaf .sdlRelq = false → s.u.role ≠ 3 → exec .sdlRelq s = .next (s.after s.u)) ∧
  (∀ s v, s.u.deaf .sdlRelq = false → s.u.role = 3 → s.u.sdl.rlq = false →
    v = s.u.withSdl (fun x => { x with rlqBy := x.rlqBy.filter (· != 0) ++ [0] }) →
    (s.u.peerIs 2 = true → exec .sdlRelq s = .next (s.after
      ((((v.sidingControl relinquishBlock).raise s.time SDL.RELINQUISH [])).withSdl
        (fun x => { x with rlq := true, rlqHeld := false, next := some 4, rlqBy := x.rlqBy.filter (· != 0) })))) ∧
    (s.u.peerIs 2 = false → exec .sdlRelq s = .next (s.after ((v.raise s.time SDL.RLQ_BLOCKED []).withSdl
      (fun x => { x with rlqHeld := true }))))) ∧
  (∀ (u : U) b, (u.sidingUp = 0 ∨ u.blockHeld 81 = true → u.sidingControl b = u) ∧ (u.sidingUp ≠ 0 → u.blockHeld 81 = false →
    (u.sidingControl b).out.getLast? = some (.siding u.sidingLanes (List.replicate 4 b)) ∧ (u.sidingControl b).sdl.cur = none ∧
    (u.sdl.cur = none → u.sidingControl b = u.emit (.siding u.sidingLanes (List.replicate 4 b))))) ∧
  (∀ s, s.u.deaf .sdlRejoin = false →
    (s.u.role = 4 → s.u.sdl.rlqBy = [] → exec .sdlRejoin s = .next (s.after (s.u.withSdl (fun x => { x with next := some 1 })))) ∧
    (s.u.role ≠ 4 ∨ s.u.sdl.rlqBy ≠ [] → exec .sdlRejoin s = .next (s.after s.u))) ∧
  (∀ s, s.u.deaf .joinTimeout = false →
    (s.u.role = 0 → s.u.on R.SDL_CTL_JOIN = true → s.u.peerIs 3 = false → exec .joinTimeout s = .next (s.after
      (s.u.withSdl (fun x => { x with next := some 3 })))) ∧
    (s.u.role ≠ 0 ∨ s.u.on R.SDL_CTL_JOIN = false ∨ s.u.peerIs 3 = true → exec .joinTimeout s = .next (s.after s.u))) ∧
  (∀ s, s.u.deaf .peerLost = false → s.u.on R.SDL_ROLE_PEER_VALID = false → s.u.rd R.SDL_CTL_TAKE_HW = 0 →
    (s.u.role = 2 → exec .peerLost s = .next (s.after ((s.u.raise s.time SDL.PEER_LOST []).withSdl (fun x => { x with next := some 3 })))) ∧
    (s.u.role = 1 → exec .peerLost s = .next (s.after (((s.u.raise s.time SDL.PEER_LOST []).raise s.time SDL.TAKE_UNSYNC []).withSdl
      (fun x => { x with next := some 3 }))))) ∧
  (∀ s, s.u.deaf .peerLost = false → (s.u.role ≠ 1 ∧ s.u.role ≠ 2) ∨ s.u.on R.SDL_ROLE_PEER_VALID = true →
    exec .peerLost s = .next (s.after s.u)) ∧
  (∀ s n, s.u.deaf .clearAnswerTimeout = false → s.u.sdl.clrWait = some n →
    (3 ≤ n → exec .clearAnswerTimeout s = .next (s.after (((s.u.wr R.SDL_ROLE_CLR_PEND 0).withSdl
      (fun x => { x with clrWait := none })).raise s.time DEP.CLR_REJ []))) ∧
    (n < 3 → exec .clearAnswerTimeout s = .next (s.after s.u))) ∧
  (∀ s, s.u.deaf .clearAnswerTimeout = false → s.u.sdl.clrWait = none → exec .clearAnswerTimeout s = .next (s.after s.u)) ∧
  (∀ s, s.u.deaf .revHoldExpire = false →
    (s.u.role = 2 → s.u.on R.SDL_ROLE_PREFER = true → s.u.rd R.SDL_TMO2_REV_HOLD ≠ 0 → exec .revHoldExpire s = .next (s.after
      (s.u.withSdl (fun x => { x with rev := true })))) ∧
    (s.u.role ≠ 2 ∨ s.u.on R.SDL_ROLE_PREFER = false ∨ s.u.rd R.SDL_TMO2_REV_HOLD = 0 → exec .revHoldExpire s = .next (s.after s.u))) ∧
  (∀ s, s.u.deaf .rlqReset = false →
    (s.u.role = 4 → s.u.on R.SDL_CTL_RLQ_RST = true → exec .rlqReset s = .next (s.afterAt (resetAssert s.time s.u 6 1 0).1
      (resetAssert s.time s.u 6 1 0).2)) ∧
    (s.u.role ≠ 4 ∨ s.u.on R.SDL_CTL_RLQ_RST = false → exec .rlqReset s = .next (s.after s.u))) ∧
  (∀ s, s.u.held = false → exec .timeBaseCheckError s = .next (s.after
    ((s.u.raise s.time TIM.TB_ERR []).relinquishCause s.time B.TIM.st))) ∧
  (∀ (u : U) t r, (u.setRole t r).sdl.next = none ∧ (u.role ≠ r → r < 8 → (u.setRole t r).role = r ∧ (u.setRole t r).rd R.SDL_CTL_JOIN = 0))

/-- R513 to R516, R519, R523, R526, R527, R532: a reset source begins an episode of its reach or widens it; the stages follow; a source
released; fuses; software, peer and watchdog resets; the release of cores. -/
def Obligations.ResetCommandsComplete : Prop :=
  (∀ s src reach b, (Instr.resetAssert .unit src reach b).wf = true → exec (.resetAssert .unit src reach b) s =
    .next (s.afterAt (resetAssert s.time s.u src reach b).1 (resetAssert s.time s.u src reach b).2)) ∧
  (∀ s h src reach b, (Instr.resetAssert (.hub h) src reach b).wf = true → exec (.resetAssert (.hub h) src reach b) s =
    .next (s.withHub h ((s.hub h).resetAssert src reach b))) ∧
  (∀ (w : H) src reach b, (w.sys.ep = none → (w.resetAssert src reach b).sys.ep =
      some ⟨setBit 0 src, setBit 0 src, reach, if reach = 3 then [b] else [], 1, 0⟩) ∧
    (∀ e, w.sys.ep = some e → (w.resetAssert src reach b).sys.ep = some ⟨setBit e.srcs src, setBit e.now src, min e.reach reach,
      if reach = 3 then e.blocks.filter (· != b) ++ [b] else e.blocks, 1, e.ts⟩) ∧
    (w.resetAssert src reach b).sys.fuse = w.sys.fuse ∧
    (reach = 0 → (w.resetAssert src 0 b).orders = [] ∧ (w.resetAssert src 0 b).loops = [] ∧ (w.resetAssert src 0 b).lanes = [] ∧
      (w.resetAssert src 0 b).sys.shadow = false ∧ (w.resetAssert src 0 b).sys.owned = []) ∧
    (reach = 3 → b ≠ 2 → (w.resetAssert src 3 b).orders = w.orders ∧ (w.resetAssert src 3 b).loops = w.loops) ∧
    (reach = 3 → b ≠ 3 → (w.resetAssert src 3 b).dn = w.dn ∧ (w.resetAssert src 3 b).t = w.t)) ∧
  (∀ t u src reach b, src < 11 → u.sys.stretch = false → u.sys.ep = none →
    (resetAssert t u src reach b).2.sys.ep = some ⟨setBit 0 src, setBit 0 src, reachOf src reach,
      if reachOf src reach = 3 then [b] else [], 1, t.ts64⟩) ∧
  (∀ t u src reach b e, src < 11 → u.sys.stretch = false → u.sys.ep = some e →
    (resetAssert t u src reach b).2.sys.ep = some ⟨setBit e.srcs src, setBit e.now src, min e.reach (reachOf src reach),
      if reachOf src reach = 3 then e.blocks.filter (· != b) ++ [b] else e.blocks, 1, e.ts⟩) ∧
  (∀ t u src reach b, u.sys.stretch = true → resetAssert t u src reach b = (t, u)) ∧
  (∀ t u src reach b, src < 11 → u.sys.stretch = false → reachOf src reach ≤ 1 → (resetAssert t u src reach b).2.rd R.DEP_CTL_CONV_EN = 0 ∧
    (resetAssert t u src reach b).2.rd R.SBX_PERM_LS = 0 ∧ (resetAssert t u src reach b).2.rd R.SDL_ROLE_ROLE = 0 ∧
    (resetAssert t u src reach b).2.flash = u.flash ∧ (resetAssert t u src reach b).2.sys.fuse = u.sys.fuse) ∧
  (∀ s src, (Instr.resetSourceRelease .unit src).wf = true → exec (.resetSourceRelease .unit src) s = .next (s.after
    (s.u.withSys (fun x => { x with ep := x.ep.map (fun e => { e with now := clrBit e.now src }) })))) ∧
  (∀ s h src, (Instr.resetSourceRelease (.hub h) src).wf = true → exec (.resetSourceRelease (.hub h) src) s = .next (s.withHub h
    ((s.hub h).withSys (fun x => { x with ep := x.ep.map (fun e => { e with now := clrBit e.now src }) })))) ∧
  (∀ s k, (Instr.resetStageComplete .unit k).wf = true → (s.u.sys.ep = none ∨ (∃ e, s.u.sys.ep = some e ∧ e.now ≠ 0)) →
    exec (.resetStageComplete .unit k) s = .next (s.after s.u)) ∧
  (∀ s h k, (Instr.resetStageComplete (.hub h) k).wf = true →
    ((s.hub h).sys.ep = none ∨ (∃ e, (s.hub h).sys.ep = some e ∧ (e.now ≠ 0 ∨ e.stage = 3)) →
      exec (.resetStageComplete (.hub h) k) s = .next (s.withHub h (s.hub h))) ∧
    (∀ e, (s.hub h).sys.ep = some e → e.now = 0 →
      (e.stage = 1 ∨ e.stage = 4 ∨ (e.stage = 5 ∧ e.reach = 0) → exec (.resetStageComplete (.hub h) k) s = .next (s.withHub h
        ((s.hub h).withSys (fun x => { x with
          ep := some { e with stage := if e.stage = 1 then (if e.reach = 0 then 3 else 4) else e.stage + 1 } })))) ∧
      (e.stage = 6 → exec (.resetStageComplete (.hub h) k) s = .next (s.withHub h ((s.hub h).withSys (fun x => { x with ep := none })))) ∧
      (e.stage = 5 → e.reach ≠ 0 → exec (.resetStageComplete (.hub h) k) s = .next (s.withHub h
        ((e.blocks.foldl (fun (w : H) i => w.resetBlock i) (s.hub h)).withSys (fun x => { x with ep := none })))))) ∧
  (∀ s k e, (Instr.resetStageComplete .unit k).wf = true → s.u.sys.ep = some e → e.now = 0 → s.u.sys.stretch = false →
    (e.stage = 1 → exec (.resetStageComplete .unit k) s = .next (s.after (s.u.withSys (fun x => { x with
      ep := some { e with stage := if e.reach = 0 then (if bitAt e.srcs 0 then 2 else 3) else 4 } })))) ∧
    (e.stage = 2 → exec (.resetStageComplete .unit k) s = .next (s.afterAt (TimeBase.start (if bits k 2 2 = 3 then 0 else bits k 2 2))
      ((s.u.strapCapture s.time k).enterStage e 3))) ∧
    (e.stage = 3 → exec (.resetStageComplete .unit k) s = .next (s.after s.u)) ∧
    (e.stage = 4 → exec (.resetStageComplete .unit k) s = .next (s.after (s.u.enterStage e 5))) ∧
    (e.stage = 5 → e.reach ≤ 1 → exec (.resetStageComplete .unit k) s = .next (s.after
      (((s.u.releaseDomains e.reach).emit (.resetOut false)).enterStage e 6))) ∧
    (e.stage = 5 → 1 < e.reach → exec (.resetStageComplete .unit k) s = .next (s.after
      (((s.u.releaseDomains e.reach).heldReset s.time e).endEpisode e))) ∧
    (e.stage = 6 → exec (.resetStageComplete .unit k) s = .next (s.afterAt (boot s.time (s.u.endEpisode e)).1 (boot s.time (s.u.endEpisode e)).2))) ∧
  (∀ (u : U), (u.releaseDomains 0).out = u.out ++ Domain.all.map (fun d => Output.released d)) ∧
  (∀ (u : U) e, (u.endEpisode e).sys.ep = none ∧ (u.endEpisode e).sys.count = min (2 ^ 32 - 1) (u.sys.count + 1) ∧
    (u.endEpisode e).sys.hist = ((e.srcs, e.reach, e.ts) :: u.sys.hist).take 8) ∧
  (∀ s ws, (Instr.fuseLoadDone .unit ws).wf = true → (s.u.sys.ep = none ∨ (∃ e, s.u.sys.ep = some e ∧ (e.stage ≠ 3 ∨ e.now ≠ 0))) →
    exec (.fuseLoadDone .unit ws) s = .next (s.after s.u)) ∧
  (∀ (ws : List Nat), fusePass ws = true ↔ ws.length = 256 ∧ ws.getD 255 0 = crc32c ((ws.take 255).flatMap (toBytes 4))) ∧
  (∀ s ws e v, (Instr.fuseLoadDone .unit ws).wf = true → s.u.sys.ep = some e → e.stage = 3 → e.now = 0 → fusePass ws = true →
    v = (((s.u.wr R.SYS_FUSE_STATE 1).wr R.SYS_FUSE_DEF_TRIM 0).wr R.SYS_FUSE_FUSE_FAIL 0).withSys
      (fun x => { x with words := ws, shadow := true }) →
    exec (.fuseLoadDone .unit ws) s = .next (s.after ((v.fuseFields.showBalls s.u).enterStage e 4))) ∧
  (∀ s ws e v, (Instr.fuseLoadDone .unit ws).wf = true → s.u.sys.ep = some e → e.stage = 3 → e.now = 0 → fusePass ws = false →
    v = ((s.u.inc R.SYS_FUSE_FAILS).withSys (fun x => { x with words := ws })).raise s.time SYS.FUSE_RETRY [] →
    (v.rd R.SYS_FUSE_FAILS < 3 → exec (.fuseLoadDone .unit ws) s = .next (s.after v)) ∧
    (3 ≤ v.rd R.SYS_FUSE_FAILS → exec (.fuseLoadDone .unit ws) s = .next (s.after
      (((v.wr R.SYS_FUSE_FUSE_FAIL 1).wr R.SYS_FUSE_STATE 2).enterStage e 4)))) ∧
  (∀ s h ws, (Instr.fuseLoadDone (.hub h) ws).wf = true → exec (.fuseLoadDone (.hub h) ws) s = .next (s.withHub h ((s.hub h).fuseDone ws))) ∧
  (∀ (w : H) ws e, w.sys.ep = some e → e.stage = 3 → e.now = 0 →
    (fusePass ws = true → (w.fuseDone ws).sys.shadow = true ∧ (w.fuseDone ws).sys.ep = some { e with stage := 4 } ∧
      (w.fuseDone ws).rd R.HSY_ARB_ARB = w.sys.fuse.arb % 2 ^ R.HSY_ARB_ARB.width) ∧
    (fusePass ws = false → (w.fuseDone ws).sys.fails = w.sys.fails + 1 ∧
      (w.fuseDone ws).sys.ep = some (if w.sys.fails < 2 then e else { e with stage := 4 }))) ∧
  (∀ s, s.u.sys.stretch = false → ∃ t, exec .oscStopDetect s = .next t ∧ t.u.sys.ep = none ∧ t.u.sys.stretch = true ∧ t.u.held = true ∧
    t.u.flash = s.u.flash ∧ t.hubs = s.hubs ∧ t.cells = s.cells ∧ t.pending = s.pending) ∧
  (∀ s, s.u.sys.stretch = true → exec .oscStopDetect s = .next (s.after s.u) ∧
    exec .stretchRelease s = .next (s.after (s.u.withSys (fun x => { x with stretch := false, ep := some ⟨2 ^ 10, 0, 0, [], 1, 0⟩ })))) ∧
  (∀ s, s.u.sys.stretch = false → exec .stretchRelease s = .next (s.after s.u)) ∧
  (∀ s key, (Instr.sysRstSystem key).wf = true → s.u.held = false →
    (key = 0x5E7A → exec (.sysRstSystem key) s = .next (s.afterAt (resetAssert s.time s.u 5 1 0).1 (resetAssert s.time s.u 5 1 0).2)) ∧
    (key ≠ 0x5E7A → exec (.sysRstSystem key) s = .next (s.after (s.u.raise s.time SYS.RST_REJ [])))) ∧
  (∀ s key, (Instr.sysRstEngine key).wf = true → s.u.held = false →
    (key = 0x5E7A → s.u.on R.DEP_CTL_CONV_EN = false → exec (.sysRstEngine key) s =
      .next (s.afterAt (resetAssert s.time s.u 5 2 0).1 (resetAssert s.time s.u 5 2 0).2)) ∧
    (key ≠ 0x5E7A ∨ s.u.on R.DEP_CTL_CONV_EN = true → exec (.sysRstEngine key) s = .next (s.after (s.u.raise s.time SYS.RST_REJ [])))) ∧
  (∀ s key i, (Instr.sysRstBlock key i).wf = true → s.u.held = false →
    (key = 0x5E7A → blockAt i = true → i ∉ [0, 1, 48, 83, 84, 85] →
      s.u.on R.DEP_CTL_CONV_EN = false ∨ (i < 16 ∨ 43 < i) ∧ i ≠ 49 → exec (.sysRstBlock key i) s =
      .next (s.afterAt (resetAssert s.time s.u 5 3 i).1 (resetAssert s.time s.u 5 3 i).2)) ∧
    (key ≠ 0x5E7A ∨ blockAt i = false ∨ i ∈ [0, 1, 48, 83, 84, 85] ∨
      (s.u.on R.DEP_CTL_CONV_EN = true ∧ ((16 ≤ i ∧ i ≤ 43) ∨ i = 49)) → exec (.sysRstBlock key i) s =
      .next (s.after (s.u.raise s.time SYS.RST_REJ [])))) ∧
  (∀ s key, (Instr.sysRstPeer key).wf = true → s.u.held = false →
    (key = 0x5E7A → exec (.sysRstPeer key) s = .next (s.after (s.u.sidingControl peerResetBlock))) ∧
    (key = 0x5E7A → s.u.sidingUp = 0 → exec (.sysRstPeer key) s = .next (s.after s.u)) ∧
    (key ≠ 0x5E7A → exec (.sysRstPeer key) s = .next (s.after (s.u.raise s.time SYS.RST_REJ [])))) ∧
  (∀ s b, (Instr.peerResetRx b).wf = true → s.u.held = false → s.u.sidingUp = 0 ∨ b ≠ peerResetBlock →
    exec (.peerResetRx b) s = .next (s.after s.u)) ∧
  (∀ s, s.u.held = false → s.u.sidingUp ≠ 0 →
    (s.u.on R.SYS_RST_CTL_PEER_RST_EN = true → s.u.role ≠ 3 → exec (.peerResetRx peerResetBlock) s =
      .next (s.afterAt (resetAssert s.time s.u 4 1 0).1 (resetAssert s.time s.u 4 1 0).2)) ∧
    (s.u.on R.SYS_RST_CTL_PEER_RST_EN = false ∨ s.u.role = 3 → exec (.peerResetRx peerResetBlock) s = .next (s.after (s.u.raise s.time SYS.RST_REJ [])))) ∧
  (∀ s, s.u.held = false →
    (s.u.on R.SYS_WDOG_EN = false → exec .wdogEnable s = .next (s.after ((s.u.wr R.SYS_WDOG_EN 1).withSys (fun x => { x with missed := 0 })))) ∧
    (s.u.on R.SYS_WDOG_EN = true → exec .wdogEnable s = .next (s.after s.u))) ∧
  (∀ s key, (Instr.wdogKick key).wf = true → s.u.held = false →
    (key = 0xD0C5 → exec (.wdogKick key) s = .next (s.after (s.u.withSys (fun x => { x with missed := 0 })))) ∧
    (key ≠ 0xD0C5 → exec (.wdogKick key) s = .next (s.after s.u))) ∧
  (∀ s v, s.u.held = false → v = (s.u.raise s.time SYS.WDOG_WARN []).withSys (fun x => { x with missed := x.missed + 1 }) →
    (s.u.on R.SYS_WDOG_EN = false → exec .wdogPeriodEnd s = .next (s.after s.u)) ∧
    (s.u.on R.SYS_WDOG_EN = true → v.sys.missed < 2 → exec .wdogPeriodEnd s = .next (s.after v)) ∧
    (s.u.on R.SYS_WDOG_EN = true → 2 ≤ v.sys.missed → exec .wdogPeriodEnd s =
      .next (s.afterAt (resetAssert s.time v 3 0 0).1 (resetAssert s.time v 3 0 0).2))) ∧
  (∀ s v, (Instr.coreRelease v).wf = true → s.u.held = false → s.u.Calm →
    ∃ t, exec (.coreRelease v) s = .next t ∧ ∀ c < 16, bitAt (t.u.rd R.SYS_CORE_REL_REL) c =
      (bitAt (s.u.rd R.SYS_CORE_REL_REL) c || (bitAt v c && !(decide (8 ≤ c) && s.u.domainOff 0)))) ∧
  (∀ s, s.u.held = false → exec .keyStoreViolation s =
    .next (s.afterAt (resetAssert s.time s.u 7 0 0).1 (resetAssert s.time s.u 7 0 0).2))

/-- R521, R528, R529, R536, R541, R544, R548: the die temperature on each chip, power control, BAK, the configuration of cells, a cell's
own reset, the start timeout. -/
def Obligations.PowerAndConfigurationCommandsComplete : Prop :=
  (∀ s x, (Instr.dieTempChange .unit x).wf = true → s.u.sys.ep = none → s.u.sys.stretch = false →
    ((s.u.sys.fuse.otRst : Int) < x → exec (.dieTempChange .unit x) s =
      .next (s.afterAt (resetAssert s.time s.u 2 0 0).1 (resetAssert s.time s.u 2 0 0).2)) ∧
    (x ≤ s.u.sys.fuse.otRst → exec (.dieTempChange .unit x) s = .next (s.after ((s.u.wrS R.SYS_OT_TEMP (satS 8 x)).otCheck s.time)))) ∧
  (∀ s x e, (Instr.dieTempChange .unit x).wf = true → s.u.sys.ep = some e → bitAt e.now 2 = true →
    (x < (s.u.sys.fuse.otRst : Int) - 10 → exec (.dieTempChange .unit x) s = .next (s.after (s.u.resetRelease 2))) ∧
    ((s.u.sys.fuse.otRst : Int) - 10 ≤ x → exec (.dieTempChange .unit x) s = .next (s.after s.u))) ∧
  (∀ (u : U) t, ((u.rd R.SYS_OT_OT_WARN : Int) ≤ u.rdS R.SYS_OT_TEMP → u.sys.hot = false →
      u.otCheck t = (u.withSys (fun x => { x with hot := true })).raise t SYS.OT_WARN []) ∧
    (u.rdS R.SYS_OT_TEMP < (u.rd R.SYS_OT_OT_WARN : Int) - 5 → u.sys.hot = true →
      u.otCheck t = (u.withSys (fun x => { x with hot := false })).endLasting t SYS.OT_WARN)) ∧
  (∀ s h x, (Instr.dieTempChange (.hub h) x).wf = true → (s.hub h).deaf (.dieTempChange (.hub h) x) = false → exec (.dieTempChange (.hub h) x) s = .next (s.withHub h
    (if sx 8 (((s.hub h).wr R.HSY_TEMP_TEMP (enc 8 (satS 8 x))).rd R.HSY_TEMP_MAX) < satS 8 x
      then ((s.hub h).wr R.HSY_TEMP_TEMP (enc 8 (satS 8 x))).wr R.HSY_TEMP_MAX (enc 8 (satS 8 x))
      else (s.hub h).wr R.HSY_TEMP_TEMP (enc 8 (satS 8 x))))) ∧
  (∀ s cid x, (Instr.dieTempChange (.cell cid) x).wf = true →
    exec (.dieTempChange (.cell cid) x) s = .next (s.withCell cid (s.cell cid))) ∧
  (∀ s v d, (Instr.sysPwrWrite v).wf = true → s.u.held = false → d < 32 →
    (∀ k < 5, bitAt d k = (bitAt v k && !bitAt s.u.pwrMask k)) →
    (s.u.pwrRefused d = true → exec (.sysPwrWrite v) s = .next (s.after (s.u.raise s.time SYS.PWR_REJ []))) ∧
    (s.u.pwrRefused d = false → exec (.sysPwrWrite v) s = .next (s.after (s.u.pwrWrite s.time v)) ∧
      (bitAt d 2 = true → (s.u.pwrWrite s.time v).mem = s.u.mem.filter (fun e => decide (e.1 < 0x1800000))) ∧
      (bitAt d 2 = false → (s.u.pwrWrite s.time v).mem = s.u.mem) ∧
      (∀ k < 5, k ∈ (s.u.pwrWrite s.time v).sys.rising ↔
        ((k ∈ s.u.sys.rising ∧ bitAt d k = false) ∨ (bitAt s.u.pwrMask k = true ∧ bitAt v k = false))))) ∧
  (∀ s, s.u.held = false → exec .domainPowerUpDone s = .next (s.after (s.u.powerUpDone s.time))) ∧
  (∀ (u : U) t, u.sys.rising = [] → u.powerUpDone t = (u.withSys (fun x => { x with rising := [] })).wr R.SYS_PWR_STAT_BUSY 0) ∧
  (∀ (u : U) t, (u.powerUpDone t).sys.rising = [] ∧ (u.powerUpDone t).rd R.SYS_PWR_STAT_BUSY = 0) ∧
  (∀ s, s.u.held = false → exec (.bakClrCnt 0xBA4C) s = .next (s.after (s.u.withSys (fun x => { x with count := 0 })).sealBak)) ∧
  (∀ s, s.u.held = false → exec (.bakClrHist 0xBA4C) s = .next (s.after (s.u.withSys (fun x => { x with hist := [] })).sealBak)) ∧
  (∀ s, s.u.held = false → exec (.bakClrLf 0xBA4C) s = .next (s.after ({ s.u with lf := [] } : U).sealBak)) ∧
  (∀ (u : U), u.sealBak = u.withSys (fun x => { x with bakCrc := crc32c u.bakOctets })) ∧
  (∀ s k c, (c = Instr.bakClrCnt k ∨ c = Instr.bakClrHist k ∨ c = Instr.bakClrLf k) → c.wf = true → s.u.held = false → k ≠ 0xBA4C →
    exec c s = .next (s.after s.u)) ∧
  (∀ s o, (Instr.vbakRise o).wf = true → exec (.vbakRise o) s = .next (s.after (s.u.vbakRise o))) ∧
  (∀ (u : U) o, (le o 292 4 ≠ crc32c (o.take 292) → (u.vbakRise o).sys.count = 0 ∧ (u.vbakRise o).sys.hist = [] ∧ (u.vbakRise o).lf = [] ∧
      (u.vbakRise o).sys.bakLost = true) ∧
    (le o 292 4 = crc32c (o.take 292) → (u.vbakRise o).sys.bakLost = u.sys.bakLost ∧ (u.vbakRise o).sys.count = le o 0 4)) ∧
  (∀ s cid o k, (Instr.configBlockRx cid o).wf = true → k = s.cell cid → k.named (readCfgBlock o).cid = false ∨ octet o 0 ≠ 0x10 →
    exec (.configBlockRx cid o) s = .next (s.withCell cid k)) ∧
  (∀ s cid o k b, (Instr.configBlockRx cid o).wf = true → k = s.cell cid → octet o 0 = 0x10 → b = readCfgBlock o → k.named b.cid = true →
    b.blk = 0 → 1 < b.nblk → k.clk.asm.find? (b2n b.unitB) = none →
    exec (.configBlockRx cid o) s = .next (s.withCell cid (k.withClk (fun l => { l with
      asm := l.asm.set (b2n b.unitB) ⟨b.tag, 1, b.nblk, b.entries.takeWhile (fun e => e.1 != 0)⟩ })))) ∧
  (∀ s cid o k b a, (Instr.configBlockRx cid o).wf = true → k = s.cell cid → octet o 0 = 0x10 → b = readCfgBlock o → k.named b.cid = true →
    k.clk.asm.find? (b2n b.unitB) = some a → a.tag = b.tag → a.nblk = b.nblk →
    (b.blk < a.next → exec (.configBlockRx cid o) s = .next (s.withCell cid k)) ∧
    (b.blk = a.next → b.blk + 1 ≠ b.nblk → exec (.configBlockRx cid o) s = .next (s.withCell cid (k.withClk (fun l => { l with
      asm := l.asm.set (b2n b.unitB) ⟨b.tag, a.next + 1, b.nblk, a.set ++ b.entries.takeWhile (fun e => e.1 != 0)⟩ })))) ∧
    (a.next < b.blk → b.blk + 1 ≠ b.nblk → exec (.configBlockRx cid o) s = .next (s.withCell cid (k.withClk (fun l => { l with
      asm := l.asm.erase (b2n b.unitB) })))) ∧
    (a.next < b.blk → b.blk + 1 = b.nblk → exec (.configBlockRx cid o) s = .next (s.withCell cid ((k.withClk (fun l => { l with
      asm := l.asm.erase (b2n b.unitB) })).cfgAnswer b.unitB b.tag 4 0 b.check)))) ∧
  (∀ s cid o k b a d, (Instr.configBlockRx cid o).wf = true → k = s.cell cid → octet o 0 = 0x10 → b = readCfgBlock o → k.named b.cid = true →
    k.clk.asm.find? (b2n b.unitB) = some a → a.tag = b.tag → a.next = b.blk → a.nblk = b.nblk → b.blk + 1 = b.nblk →
    d = k.withClk (fun l => { l with asm := l.asm.set (b2n b.unitB) ⟨b.tag, a.next + 1, b.nblk, a.set⟩ }) →
    (b.check ≠ Config.shake256 (setBytes a.set) →
      exec (.configBlockRx cid o) s = .next (s.withCell cid (d.cfgAnswer b.unitB b.tag 1 0 b.check))) ∧
    (b.check = Config.shake256 (setBytes a.set) → k.clk.applied = some b.check →
      exec (.configBlockRx cid o) s = .next (s.withCell cid (d.cfgAnswer b.unitB b.tag 0 0 b.check))) ∧
    (∀ w, b.check = Config.shake256 (setBytes a.set) → k.clk.applied = some w → w ≠ b.check →
      exec (.configBlockRx cid o) s = .next (s.withCell cid (d.cfgAnswer b.unitB b.tag 2 0 b.check))) ∧
    (b.check = Config.shake256 (setBytes a.set) → k.clk.applied = none →
      ((d.pointsCheck (unlocked a.set) 0).1 ≠ 0 → exec (.configBlockRx cid o) s = .next (s.withCell cid
        (d.cfgAnswer b.unitB b.tag 3 (d.pointsCheck (unlocked a.set) 0).2 b.check))) ∧
      ((d.pointsCheck (unlocked a.set) 0).1 = 0 → exec (.configBlockRx cid o) s = .next (s.withCell cid
        (d.withClk (fun l => { l with apply := l.apply ++ [⟨b.check, a.set, b.unitB, b.tag⟩] })))))) ∧
  (∀ s cid, (Instr.configResendTimeout cid).wf = true → s.u.deaf (.configResendTimeout cid) = false → s.u.mlk.cfg.find? cid = none →
    exec (.configResendTimeout cid) s = .next (s.after s.u)) ∧
  (∀ s cid c, (Instr.configResendTimeout cid).wf = true → s.u.deaf (.configResendTimeout cid) = false → s.u.mlk.cfg.find? cid = some c →
    (dnDiff s.time.dn c.dn < 64 → exec (.configResendTimeout cid) s = .next (s.after s.u)) ∧
    (64 ≤ dnDiff s.time.dn c.dn → c.tries < 3 → exec (.configResendTimeout cid) s = .next (s.after (s.u.sendConfig s.time cid (c.tries + 1)))) ∧
    (64 ≤ dnDiff s.time.dn c.dn → 3 ≤ c.tries → exec (.configResendTimeout cid) s = .next (s.after
      (s.u.withMlk (fun m => { m with cfg := m.cfg.erase cid }))))) ∧
  (∀ s cid k n, (Instr.cellSelfReset cid).wf = true → k = s.cell cid → n = (k.powerReset k.prt.uvlo).boot →
    (k.rst ≠ some 0 → exec (.cellSelfReset cid) s = .next (s.withCell cid k)) ∧
    (k.rst = some 0 → exec (.cellSelfReset cid) s = .next (s.withCell cid (if n.on R.PRT_STATE_JRN_RET && !n.prt.uvlo then n.startRetire 0 true else n)))) ∧
  (∀ s gone, s.u.held = false → gone = s.u.topo.cells.filter (fun c => !s.u.mlk.ok.contains c.cid && !s.u.flag c.cid .retired) →
    exec .startTimeout s = .next (s.after ((gone.foldl (fun (u : U) c => u.setFlag c .retired true) s.u).withSys
      (fun x => { x with missing := x.missing + gone.length }))))

/-- R545, R550, R557, R572: each slot command is refused under its own conditions and otherwise runs; what it does when it completes. -/
def Obligations.SecurityCommandsComplete : Prop :=
  (∀ s n, (Instr.secVerify n).wf = true → s.u.held = false →
    (s.u.on R.SEC_CMD_STAT_BUSY = true ∨ n = s.u.rd R.SEC_BOOT_SLOT → exec (.secVerify n) s = .next (s.after (s.u.secRej s.time))) ∧
    (s.u.on R.SEC_CMD_STAT_BUSY = false → n ≠ s.u.rd R.SEC_BOOT_SLOT → exec (.secVerify n) s = .next (s.after (s.u.secBegin 1 n)))) ∧
  (∀ s n, (Instr.secSetPending n).wf = true → s.u.held = false →
    (s.u.on R.SEC_CMD_STAT_BUSY = true ∨ n = s.u.rd R.SEC_BOOT_SLOT ∨ s.u.on R.SEC_BOOT_PENDING = true ∨ n ∉ s.u.sec.good →
      exec (.secSetPending n) s = .next (s.after (s.u.secRej s.time))) ∧
    (s.u.on R.SEC_CMD_STAT_BUSY = false → n ≠ s.u.rd R.SEC_BOOT_SLOT → s.u.on R.SEC_BOOT_PENDING = false → n ∈ s.u.sec.good →
      exec (.secSetPending n) s = .next (s.after (s.u.secBegin 2 n)))) ∧
  (∀ s, s.u.held = false → s.u.on R.SEC_CMD_STAT_BUSY = false →
    exec .secMarkHealthy s = .next (s.after (s.u.secBegin 3 0)) ∧ exec .secJrnWrite s = .next (s.after (s.u.secBegin 8 0))) ∧
  (∀ s c, (c = Instr.secMarkHealthy ∨ c = Instr.secJrnWrite) → s.u.held = false → s.u.on R.SEC_CMD_STAT_BUSY = true →
    exec c s = .next (s.after (s.u.secRej s.time))) ∧
  (∀ s k, (Instr.secCommitArb k).wf = true → s.u.held = false →
    (s.u.on R.SEC_CMD_STAT_BUSY = true ∨ s.u.on R.SEC_BOOT_PENDING = true ∨ s.u.header 20 1 ≤ s.u.sys.fuse.arb ∨ k ≠ 0x5EC1 ∨
      s.u.on R.DEP_CTL_CONV_EN = true → exec (.secCommitArb k) s = .next (s.after (s.u.secRej s.time))) ∧
    (s.u.on R.SEC_CMD_STAT_BUSY = false → s.u.on R.SEC_BOOT_PENDING = false → s.u.sys.fuse.arb < s.u.header 20 1 → k = 0x5EC1 →
      s.u.on R.DEP_CTL_CONV_EN = false → exec (.secCommitArb k) s = .next (s.after (s.u.secBegin 4 0)))) ∧
  (∀ s k, (Instr.secOwnerSet k).wf = true → s.u.held = false →
    (s.u.on R.SEC_CMD_STAT_BUSY = true ∨ s.u.sys.fuse.owner ≠ 0 ∨ k ≠ 0x5EC1 ∨ s.u.on R.DEP_CTL_CONV_EN = true →
      exec (.secOwnerSet k) s = .next (s.after (s.u.secRej s.time))) ∧
    (s.u.on R.SEC_CMD_STAT_BUSY = false → s.u.sys.fuse.owner = 0 → k = 0x5EC1 → s.u.on R.DEP_CTL_CONV_EN = false →
      exec (.secOwnerSet k) s = .next (s.after (s.u.secBegin 5 0)))) ∧
  (∀ s k, (Instr.secOwnerLock k).wf = true → s.u.held = false →
    (s.u.on R.SEC_CMD_STAT_BUSY = true ∨ s.u.sys.fuse.owner = 0 ∨ k ≠ 0x5EC1 ∨ s.u.on R.DEP_CTL_CONV_EN = true →
      exec (.secOwnerLock k) s = .next (s.after (s.u.secRej s.time))) ∧
    (s.u.on R.SEC_CMD_STAT_BUSY = false → s.u.sys.fuse.owner ≠ 0 → k = 0x5EC1 → s.u.on R.DEP_CTL_CONV_EN = false →
      exec (.secOwnerLock k) s = .next (s.after (s.u.secBegin 6 0)))) ∧
  (∀ (u : U) t op n, u.secRej t = (u.wr R.SEC_CMD_STAT_REJ 1).raise t SEC.CMD_REJ [] ∧
    (u.secBegin op n).rd R.SEC_CMD_STAT_BUSY = 1 ∧ (u.secBegin op n).sec.run = some (op, n)) ∧
  (∀ s f, s.u.held = false → s.u.sec.run = none → exec (.secCommandDone .unit f) s = .next (s.after s.u)) ∧
  (∀ s f op n, s.u.held = false → s.u.sec.run = some (op, n) → exec (.secCommandDone .unit f) s =
    .next (s.after (s.u.reading s.time (s.u.secSpans op) (fun w => w.secEffect s.time f op n)))) ∧
  (∀ (u v : U) t f n, v = ((u.withSec (fun x => { x with run := none })).wr R.SEC_CMD_STAT_BUSY 0).wr R.SEC_CMD_STAT_DONE 1 →
    u.secEffect t f 1 n = (if v.slotCheck n = 0 then
      (v.wr R.SEC_CMD_STAT_RESULT 0).withSec (fun x => { x with good := x.good.filter (· != n) ++ [n] })
      else (v.wr R.SEC_CMD_STAT_RESULT (v.slotCheck n)).raise t SEC.VERIFY_FAIL []) ∧
    (v.on R.SEC_BOOT_PENDING = false → u.secEffect t f 3 n = v) ∧
    u.secEffect t f 4 n = (v.wr R.SEC_BOOT_ARB (v.header 20 1)).blow (fun x => { x with arb := v.header 20 1 }) ∧
    u.secEffect t f 5 n = (v.wr R.SEC_BOOT_OWNER_SET 1).blow
      (fun x => { x with owner := Config.shake256 (v.mem.readBytes (v.rd R.SEC_CMD_ARG_ARG) 1952) }) ∧
    u.secEffect t f 6 n = (v.wr R.SEC_BOOT_OWNER_LOCK 1).blow (fun x => { x with lock := true }) ∧
    u.secEffect t true 2 n = v.raise t SEC.JRN_FAIL [] ∧
    u.secEffect t true 3 n = (if v.on R.SEC_BOOT_PENDING then v.raise t SEC.JRN_FAIL [] else v) ∧
    u.secEffect t true 8 n = (v.wr R.SEC_CMD_STAT_RESULT 7).raise t SEC.JRN_FAIL [] ∧
    ((v.jrnAppend (v.rd R.SEC_JRN_TYPE) (v.mem.readBytes (v.rd R.SEC_CMD_ARG_ARG) (v.rd R.SEC_JRN_LEN))).1 = true → u.secEffect t false 8 n =
      (v.jrnAppend (v.rd R.SEC_JRN_TYPE) (v.mem.readBytes (v.rd R.SEC_CMD_ARG_ARG) (v.rd R.SEC_JRN_LEN))).2.wr R.SEC_CMD_STAT_RESULT 0)) ∧
  (∀ s h f, (Instr.secCommandDone (.hub h) f).wf = true → (s.hub h).deaf (.secCommandDone (.hub h) f) = false → exec (.secCommandDone (.hub h) f) s = .next (s.withHub h (s.hub h))) ∧
  (∀ s cid f ofs y, (Instr.secCommandDone (.cell cid) f).wf = true → (s.cell cid).now cid = (ofs, y) →
    exec (.secCommandDone (.cell cid) f) s = .next (s.withCell cid y.cseDone)) ∧
  (∀ c : C, (c.cse.cmd = none → c.cseDone = c) ∧ (c.cse.cmd = some 4 → (c.cseDone).cse.cmd = none ∧
    (c.cseDone).rd R.CSE_BOOT_ARB = c.header 20 1 % 2 ^ R.CSE_BOOT_ARB.width))

/-- R560 to R564: attestation is started or refused; a challenge is taken by the chip it names; an answer is checked against the challenge
it answers; an unanswered challenge is sent once more and then fails. -/
def Obligations.AttestationCommandsComplete : Prop :=
  (∀ s, s.u.held = false → s.u.on R.SEC_CMD_STAT_BUSY = true ∨ s.u.on R.SEC_ATT_STAT_RUNNING = true ∨ s.u.attTooFar = true →
    exec .attStart s = .next (s.after (s.u.secRej s.time))) ∧
  (∀ s, s.u.held = false → s.u.on R.SEC_CMD_STAT_BUSY = false → s.u.on R.SEC_ATT_STAT_RUNNING = false → s.u.attTooFar = false →
    exec .attStart s = .next (s.after (s.u.attStart s.time)) ∧ ∀ h ∈ s.u.topo.hubs, ∃ c, (s.u.attStart s.time).sec.chal.find? h = some c ∧
      c.second = false) ∧
  (∀ s o, (Instr.attChallengeRx .unit o).wf = true → s.u.held = false → exec (.attChallengeRx .unit o) s = .next (s.after s.u)) ∧
  (∀ s h o d, (Instr.attChallengeRx (.hub h) o).wf = true → (s.hub h).deaf (.attChallengeRx (.hub h) o) = false → octet o 0 = 0x18 → d = readChallenge o → (s.hub h).att.run = none →
    (s.hub h).att.done.find? (b2n d.unitB) = none →
    exec (.attChallengeRx (.hub h) o) s = .next (s.withHub h
      { s.hub h with att := { (s.hub h).att with run := some (b2n d.unitB, d.tag, d.nonce) } })) ∧
  (∀ s cid o d ofs y, (Instr.attChallengeRx (.cell cid) o).wf = true → (s.cell cid).now cid = (ofs, y) → d = readChallenge o →
    (y.named d.cid = false ∨ octet o 0 ≠ 0x18 → exec (.attChallengeRx (.cell cid) o) s = .next (s.withCell cid y)) ∧
    (octet o 0 = 0x18 → y.named d.cid = true → y.cse.run = none → y.cse.done.find? (b2n d.unitB) = none →
      exec (.attChallengeRx (.cell cid) o) s = .next (s.withCell cid (y.withCse (fun x => { x with run := some (b2n d.unitB, d.tag, d.nonce) })))) ∧
    (octet o 0 = 0x18 → y.named d.cid = true → y.cse.run = some (b2n d.unitB, d.tag, d.nonce) →
      exec (.attChallengeRx (.cell cid) o) s = .next (s.withCell cid y))) ∧
  (∀ s, s.u.held = false → exec (.attStatementDone .unit) s = .next (s.after s.u)) ∧
  (∀ s h, (Instr.attStatementDone (.hub h)).wf = true → (s.hub h).deaf (.attStatementDone (.hub h)) = false → exec (.attStatementDone (.hub h)) s =
    .next (s.withHub h ((s.hub h).statementDone (s.hubAt h)))) ∧
  (∀ (w : H) x b g n, (w.att.run = none → w.statementDone x = w) ∧ (w.att.run = some (b, g, n) → w.att.wait = [] →
    (w.statementDone x).att.run = none ∧ ∃ a, (w.statementDone x).att.done = w.att.done.set b (g, a) ∧
      (w.up (128 + 2 * b) = true ∨ w.up (129 + 2 * b) = true → (w.statementDone x).out.length = w.out.length + 157))) ∧
  (∀ s cid ofs y, (Instr.attStatementDone (.cell cid)).wf = true → (s.cell cid).now cid = (ofs, y) →
    (y.cse.run = none → exec (.attStatementDone (.cell cid)) s = .next (s.withCell cid y)) ∧
    (∀ b g n, y.cse.run = some (b, g, n) → ∃ z, exec (.attStatementDone (.cell cid)) s = .next (s.withCell cid z) ∧
      ∃ a, z.cse.done = y.cse.done.set b (g, a) ∧ z.cse.wait = y.cse.wait.drop 1)) ∧
  (∀ s id b g a, (Instr.attAnswerRx id b g a).wf = true → s.u.held = false →
    (s.u.sec.chal.find? id = none → exec (.attAnswerRx id b g a) s = .next (s.after s.u)) ∧
    (∀ c, s.u.sec.chal.find? id = some c →
      (b2n b ≠ s.u.unitB ∨ c.tag ≠ g → exec (.attAnswerRx id b g a) s = .next (s.after s.u)) ∧
      (b2n b = s.u.unitB → c.tag = g → exec (.attAnswerRx id b g a) s =
        .next (s.after (s.u.reading s.time (s.u.attSpans id) (fun u => u.attResult s.time id (u.attCheck id c a) a)))))) ∧
  (∀ (u : U) id c a, (a.length ≠ 8785 → u.attCheck id c a = 7) ∧ (ofBytes ((a.drop 12).take 32) ≠ c.nonce → u.attCheck id c a = 7) ∧
    (u.attCheck id c a ≠ 1 ∨ ofBytes ((a.drop 12).take 32) = c.nonce ∧ certOk u.sys.fuse.issuer ((a.drop 3457).take 5328) = true ∧
      Config.mlDsaVerify (ofBytes ((((a.drop 3457).take 5328).drop 64).take 1952) + 2 ^ 512) (ofBytes (a.take 148))
        (ofBytes ((a.drop 148).take 3309)) = true)) ∧
  (∀ s id, (Instr.attTimeout id).wf = true → s.u.held = false →
    (s.u.sec.chal.find? id = none → exec (.attTimeout id) s = .next (s.after s.u)) ∧
    (∀ c, s.u.sec.chal.find? id = some c →
      (c.second = false → exec (.attTimeout id) s = .next (s.after (s.u.attChallenge id true))) ∧
      (c.second = true → exec (.attTimeout id) s = .next (s.after (s.u.attResult s.time id 2 []))))) ∧
  (∀ (u : U) id b, (u.attChallenge id b).sec.chal.find? id =
    some ⟨u.sec.tag, Config.freeValue 0 u.free % 2 ^ 256, b⟩ ∧ (u.attChallenge id b).sec.tag = (u.sec.tag + 1) % 256)

/-- R565, R566: the update operations of a cell. A request is acted on once; its operation changes the slot that is not running and its
records as the operation says. -/
def Obligations.CellUpdateCommandsComplete : Prop :=
  (∀ s cid o f,
    ((Instr.cellUpdIdent cid o).wf = true → exec (.cellUpdIdent cid o) s = .next (s.withCell cid ((s.cell cid).updIdent o))) ∧
    ((Instr.cellUpdBegin cid o f).wf = true → exec (.cellUpdBegin cid o f) s = .next (s.withCell cid ((s.cell cid).updBegin o f))) ∧
    ((Instr.cellUpdData cid o f).wf = true → exec (.cellUpdData cid o f) s = .next (s.withCell cid ((s.cell cid).updData o f))) ∧
    ((Instr.cellUpdEnd cid o).wf = true → exec (.cellUpdEnd cid o) s = .next (s.withCell cid ((s.cell cid).updEnd o))) ∧
    ((Instr.cellUpdActivate cid o).wf = true → exec (.cellUpdActivate cid o) s = .next (s.withCell cid ((s.cell cid).updActivate o)))) ∧
  (∀ (k : C) o q f, q = readUpd o →
    (octet o 0 ≠ 0x20 ∨ k.named q.cid = false ∨ ∃ x, k.clk.kept.find? (b2n q.unitB) = some x ∧ x.tag = q.tag ∧ x.att = q.att) →
    k.updIdent o = k ∧ k.updBegin o f = k ∧ k.updData o f = k ∧ k.updEnd o = k ∧ k.updActivate o = k) ∧
  (∀ (k : C) o q, q = readUpd o → octet o 0 = 0x20 → k.named q.cid = true → (∀ x, k.clk.kept.find? (b2n q.unitB) = some x → x.tag ≠ q.tag) →
    (q.op = 0 → (k.updIdent o).cse = k.cse ∧ (k.updIdent o).clk.resps.length = k.clk.resps.length + 1) ∧
    (q.op = 1 → (k.updBegin o true).cse = k.cse ∧
      (k.updBegin o false).cse = { k.cse with flash := Flash.erase k.cse.flash (slotBase k.otherSlot) 0x80000, upd := some (0, false) }) ∧
    (k.cse.upd = none → ∀ f, (k.updData o f).cse = k.cse ∧ (k.updEnd o).cse = k.cse ∧ (k.updActivate o).cse = k.cse) ∧
    (∀ n ok, q.op = 2 → k.cse.upd = some (n, ok) → q.offset = n → n + (q.data.take 52).length ≤ 0x80000 → (k.updData o false).cse =
      { k.cse with
        flash := Flash.program k.cse.flash (slotBase k.otherSlot + n) (q.data.take 52), upd := some (n + (q.data.take 52).length, false) }) ∧
    (∀ n ok f, k.cse.upd = some (n, ok) → q.offset ≠ n → (k.updData o f).cse = k.cse) ∧
    (∀ n ok, q.op = 3 → k.cse.upd = some (n, ok) → (k.updEnd o).cse = { k.cse with
      upd := some (n, imageCheck k.verifier k.cse.flash (slotBase k.otherSlot) 0x80000 == 0) }) ∧
    (∀ n, q.op = 4 → k.cse.upd = some (n, true) → k.rd R.GTE_STATE_CODE = 0 → k.on R.CSE_BOOT_PENDING = false → k.rst = none →
      (k.updActivate o).cse.jrn = journalAppend k.cse.jrn 0 0x10000 true 2 [k.slot, k.otherSlot, 0, 0, 0, 0, 0, 0] ∧ (k.updActivate o).rst = some 64) ∧
    (∀ n, k.cse.upd = some (n, false) → (k.updActivate o).cse = k.cse ∧ (k.updActivate o).rst = k.rst))

/-- R554, R567, R569, R570, R575: the hub image service, the recovery protocol, the flash window. A recovery request acts only in RECOVERY,
a repeated SEQ is answered with the reply kept; a store waits for a busy flash and is refused in a partition that R554 shuts. -/
def Obligations.RecoveryAndFlashCommandsComplete : Prop :=
  (∀ s h o q, (Instr.hubImageRead h o).wf = true → s.u.held = false → q = readUpd o → isUpd o 5 = true →
    (partition s.u.flash 6 = none → exec (.hubImageRead h o) s = .next (s.after (s.u.post h true 0
      ([0x21, q.tag] ++ toBytes 2 (32768 * s.u.unitB) ++ [5, 8, 0, 0] ++ toBytes 4 (q.offset + 52) ++ List.replicate 52 0)))) ∧
    (∀ b n, partition s.u.flash 6 = some (b, n) → exec (.hubImageRead h o) s = .next (s.after (s.u.post h true 0
      ([0x21, q.tag] ++ toBytes 2 (32768 * s.u.unitB) ++ [5, 0, 0, 0] ++ toBytes 4 (q.offset + 52) ++
        Flash.bytes s.u.flash (b + q.offset) 52))))) ∧
  (∀ s h o, (Instr.hubImageRead h o).wf = true → s.u.held = false → isUpd o 5 = false →
    exec (.hubImageRead h o) s = .next (s.after s.u)) ∧
  (∀ s c w o f n, (c = Instr.recIdent w o ∧ n = 1 ∨ c = Instr.recCertRead w o ∧ n = 2 ∨ c = Instr.recBegin w o f ∧ n = 3 ∨
      c = Instr.recData w o f ∧ n = 4 ∨ c = Instr.recEnd w o f ∧ n = 5 ∨ c = Instr.recBoot w o ∧ n = 6) → c.wf = true → s.u.held = false →
    (s.u.on R.SYS_BOOT_RECOVERY = false ∨ s.u.recIs n w o = none → exec c s = .next (s.after s.u)) ∧
    (∀ q r, s.u.recIs n w o = some q → s.u.sec.prev = some (q.seq, r) → exec c s = .next (s.after (s.u.recSend w o r)))) ∧
  (∀ (u : U) w o q, (∀ r, u.sec.prev ≠ some (q.seq, r)) → q.len ≤ 1024 →
    (u.recIs 1 w o = some q → ∃ y, (u.recIdent w o).sec.prev = some (q.seq, y) ∧ y.length = 38) ∧
    (u.recIs 2 w o = some q → u.on R.SYS_FUSE_FUSE_FAIL = false → (u.recCert w o).sec.prev =
      some (q.seq, if q.offset + q.len > 5328 then recReply 2 1 q q.offset []
        else recReply 2 0 q q.offset (((u.sys.fuse.cert ++ List.replicate 5328 0).drop q.offset).take q.len))) ∧
    (∀ f, u.recIs 3 w o = some q → u.on R.SYS_FUSE_FUSE_FAIL = true → (u.recBegin w o f).flash = u.flash ∧
      (u.recBegin w o f).sec.prev = some (q.seq, recReply 3 8 q 0 [])) ∧
    (∀ b n, u.recIs 3 w o = some q → u.on R.SYS_FUSE_FUSE_FAIL = false → q.target ≤ 4 → u.recSpan q.target = some (b, n) →
      (u.recBegin w o false).flash = Flash.erase u.flash b n ∧ (u.recBegin w o false).sec.sess = some ⟨q.target, b, n, 0⟩) ∧
    (∀ f, u.on R.SYS_FUSE_FUSE_FAIL = false → u.sec.sess = none →
      (u.recIs 4 w o = some q → q.data.length = q.len → (u.recData w o f).flash = u.flash ∧
        (u.recData w o f).sec.prev = some (q.seq, recReply 4 8 q 0 [])) ∧
      (u.recIs 5 w o = some q → (u.recEnd w o f).sec.prev = some (q.seq, recReply 5 8 q 0 []))) ∧
    (∀ e, u.recIs 4 w o = some q → q.data.length = q.len → u.on R.SYS_FUSE_FUSE_FAIL = false → u.sec.sess = some e → q.target = e.target →
      q.offset = e.next → q.offset + q.data.length ≤ e.size →
      (u.recData w o false).flash = Flash.program u.flash (e.base + q.offset) q.data ∧
      (u.recData w o false).sec.sess = some { e with next := q.offset + q.data.length }) ∧
    (∀ e f, u.recIs 5 w o = some q → u.on R.SYS_FUSE_FUSE_FAIL = false → u.sec.sess = some e → e.target ≠ 0 → q.target = e.target →
      (u.recEnd w o f).sec.sess = none ∧ (u.recEnd w o f).flash = u.flash)) ∧
  (∀ (u : U) o, u.recUart = true → u.on R.SYS_BOOT_RECOVERY = true →
    u.recMessage false o = none ∧ u.recMessage true o = Eth.slipMessage o) ∧
  (∀ s w f o, s.u.held = false → ((Instr.recIdent w o).wf = true → exec (.recIdent w o) s = .next (s.after (s.u.recIdent w o))) ∧
    ((Instr.recCertRead w o).wf = true → exec (.recCertRead w o) s = .next (s.after (s.u.recCert w o))) ∧
    ((Instr.recBegin w o f).wf = true → exec (.recBegin w o f) s = .next (s.after (s.u.recBegin w o f))) ∧
    ((Instr.recData w o f).wf = true → exec (.recData w o f) s = .next (s.after (s.u.recData w o f))) ∧
    ((Instr.recEnd w o f).wf = true → exec (.recEnd w o f) s = .next (s.after (s.u.recEnd w o f)))) ∧
  (∀ s w o q v, (Instr.recBoot w o).wf = true → s.u.held = false → s.u.recIs 6 w o = some q → (∀ r, s.u.sec.prev ≠ some (q.seq, r)) →
    q.len ≤ 1024 → s.u.on R.SYS_FUSE_FUSE_FAIL = false → v = (s.u.withSec (fun x => { x with
      prev := some (q.seq, recReply 6 0 q 0 []) })).recSend w o (recReply 6 0 q 0 []) →
    exec (.recBoot w o) s = .next (s.afterAt (resetAssert s.time v 5 1 0).1 (resetAssert s.time v 5 1 0).2)) ∧
  (∀ s a bs, (Instr.xspiProgram a bs).wf = true → s.u.held = false → bs ≠ [] → a + bs.length ≤ 0x10000000 →
    (s.u.flashShut a bs.length = true → exec (.xspiProgram a bs) s = .next (s.after (s.u.emit (.storeFault (0x200000000 + a))))) ∧
    (s.u.flashShut a bs.length = false → s.u.sec.busy = true → exec (.xspiProgram a bs) s = .next (s.after
      { s.u with sec := { s.u.sec with wait := s.u.sec.wait ++ [.program a bs] } })) ∧
    (s.u.flashShut a bs.length = false → s.u.sec.busy = false → exec (.xspiProgram a bs) s = .next (s.after
      { s.u with
        flash := Flash.program s.u.flash a bs
        sec := { s.u.sec with
          busy := true
          good := s.u.sec.good.filter (fun n => !meets (partition s.u.flash (1 + n)) a bs.length) } }))) ∧
  (∀ s a, (Instr.xspiErase a).wf = true → s.u.held = false →
    (a % 65536 ≠ 0 → exec (.xspiErase a) s = .next (s.after s.u)) ∧
    (a % 65536 = 0 → s.u.flashShut a 65536 = true → exec (.xspiErase a) s = .next (s.after (s.u.emit (.storeFault (0x210000000 + a))))) ∧
    (a % 65536 = 0 → s.u.flashShut a 65536 = false → s.u.sec.busy = true → exec (.xspiErase a) s = .next (s.after
      { s.u with sec := { s.u.sec with wait := s.u.sec.wait ++ [.erase a] } })) ∧
    (a % 65536 = 0 → s.u.flashShut a 65536 = false → s.u.sec.busy = false → exec (.xspiErase a) s = .next (s.after
      { s.u with
        flash := Flash.erase s.u.flash a 65536
        sec := { s.u.sec with
          busy := true
          good := s.u.sec.good.filter (fun n => !meets (partition s.u.flash (1 + n)) a 65536) } }))) ∧
  (∀ s, s.u.held = false →
    (s.u.sec.wait = [] → exec .xspiOperationDone s = .next (s.after { s.u with sec := { s.u.sec with busy := false } })) ∧
    (∀ op rest, s.u.sec.wait = op :: rest → exec .xspiOperationDone s = .next (s.after
      (U.flashRun { s.u with sec := { s.u.sec with busy := false, wait := rest } } op))))

/-- A step runs the command at the front of the queue on the rest of the queue. -/
def Obligations.StepRunsTheFrontCommand : Prop :=
  ∀ (s : State) (c : Instr) (rest : List Instr), step { s with pending := c :: rest } = exec c { s with pending := rest }

/-- The model's choice (log entry 1): on an empty queue a sixteenth of a nanosecond of station time passes, unless the next reference tick
has been reached or the unit is held in reset. Hubs and cells stay; the unit stays while Siding sends nothing, but that a boundary which
falls due finds the registers as they stand (R221), and that station time which enters another era (R31) sets ERA; a mirror frame goes
on with its time (R492). -/
def Obligations.EmptyQueuePassesTime : Prop :=
  (∀ s : State, s.pending = [] → ∃ t, step s = .next t ∧ t.hubs = s.hubs ∧ t.cells = s.cells ∧ t.pending = [] ∧
    (s.u.held = true → t = s) ∧
    (s.u.held = false → (s.time.since + 1) * 2 ^ 28 ≤ s.time.incNext.getD s.time.inc →
      t.time = { s.time with elapsed := s.time.elapsed + 1, since := s.time.since + 1 } ∧ t.time.t16 = s.time.t16 + 1 ∧
      ((s.time.t16 + 1) % 2 ^ 64 ≠ 0 → s.u.sdl.cur = none → s.u.sdl.tx = [] → t.u = s.u.markEdge t.time) ∧
      ((s.time.t16 + 1) % 2 ^ 64 ≠ 0 → s.u.sdl.cur ≠ none ∨ s.u.sdl.tx ≠ [] → t.u = (s.u.finish t.time s.u).markEdge t.time) ∧
      ((s.time.t16 + 1) % 2 ^ 64 = 0 → t.u.rd (B.TIM.status 19) = 1)) ∧
    (s.u.held = false → s.time.incNext.getD s.time.inc < (s.time.since + 1) * 2 ^ 28 → t.time = s.time ∧
      (s.u.sdl.cur = none → s.u.sdl.tx = [] → t.u = s.u.markEdge s.time))) ∧
  (∀ (u : U) (t : TimeBase), u.markEdge t = { u with lpe := { u.lpe with edge := if t.due then some (u.lpe.edge.getD u.regs) else none } })

/-- The table gives its rows no bits, so no word spells a command. -/
def Obligations.NoWordSpellsACommand : Prop :=
  ∀ nbits w s, decodeTableWord nbits w = none ∧ State.withFetchWord s nbits w = s

/-- What reset leaves, for values the register tables give: role OFFLINE, departures STOPPED, CONV_EN 0, nothing latched, the signal box
EMPTY with every low side open, the watchdog off, no arm enabled, no fault recorded; every hub and cell at its own reset, a cell executing
BLOCK with its outputs off; an empty queue. -/
def Obligations.ResetState : Prop :=
  State.reset.u.rd R.SDL_ROLE_ROLE = 0 ∧ State.reset.u.rd R.TIM_DEP_CTL_STATE = 0 ∧ State.reset.u.rd R.DEP_CTL_CONV_EN = 0 ∧
  State.reset.u.rd R.DEP_STATUS_AV_LATCHED = 0 ∧ State.reset.u.rd R.SBX_STATE_CFG = 0 ∧ State.reset.u.rd R.SBX_STATE_HB = 0 ∧
  State.reset.u.rd R.SBX_STATE_TRIPPED = 0 ∧ State.reset.u.rd R.SBX_PERM_LS = 0 ∧ State.reset.u.rd R.SYS_WDOG_EN = 0 ∧
  State.reset.u.rd R.SBX_FT_VALID = 0 ∧ State.reset.u.rd R.CAP_STATE_STATE = 0 ∧ State.reset.u.recs = [] ∧ State.reset.u.act = [] ∧
  State.reset.u.held = false ∧ State.reset.pending = [] ∧
  (∀ a, a < 12 → State.reset.u.rd (R.FRN_CTL_EN a) = 0 ∧ State.reset.u.rd (R.MSH_CTL_EN a) = 0) ∧
  (∀ h, (State.reset.hub h) = H.reset) ∧ (∀ cid, State.reset.cell cid = C.reset) ∧
  C.reset.rd R.GTE_STATE_CODE = 0 ∧ C.reset.rd R.GTE_STATE_OUTS = 0

/-- The state after reset is settled: station time within its formats, no event in flight, the role and BAK as their registers show
them. -/
def Obligations.ResetIsSettled : Prop := State.reset.Settled

/-- Every step keeps a settled state settled: station time stays within the formats of R31, no event stays in flight (R426), SENDING shows
what R501 gives and the reset registers show BAK (R548), whatever command runs. -/
def Obligations.EveryStepKeepsTheStateSettled : Prop :=
  ∀ s t : State, s.Settled → step s = .next t → t.Settled

/-- Every command completes, in every state; the model's choice (log entry 9): one whose operands its row does not admit, which no chip
can be given, changes nothing. -/
def Obligations.WellFormedCommandsComplete : Prop :=
  ∀ (c : Instr) (s : State), (∃ t, exec c s = .next t) ∧ (c.wf = false → exec c s = .next s)

/-- The model's choice: a unit held in reset as a whole (R516) leaves its state as it is under every command of the unit; the commands of
the reset controller act. -/
def Obligations.HeldUnitKeepsItsState : Prop :=
  ∀ (c : Instr) (s : State), c.wf = true → s.u.held = true → (placeAt c = .unit ∨ placeAt c = .timed) → exec c s = .next s

/-- A command acts on one chip: the queue stays, a command of the unit leaves every hub and cell, and station time unless its row moves
it, a command of a hub or a cell leaves the unit, station time and every other chip. -/
def Obligations.CommandsActOnOneChip : Prop :=
  ∀ (c : Instr) (s t : State), exec c s = .next t → t.pending = s.pending ∧
    (placeAt c = .unit → t.time = s.time ∧ t.hubs = s.hubs ∧ t.cells = s.cells) ∧
    (placeAt c = .timed ∨ placeAt c = .reset → t.hubs = s.hubs ∧ t.cells = s.cells) ∧
    (∀ h, placeAt c = .hub h → t.u = s.u ∧ t.time = s.time ∧ t.cells = s.cells ∧ ∀ k, k ≠ h → t.hub k = s.hub k) ∧
    (∀ cid, placeAt c = .cell cid → t.u = s.u ∧ t.time = s.time ∧ t.hubs = s.hubs ∧ ∀ k, k ≠ cid → t.cell k = s.cell k)

/-- R31, R36: station time never runs back at a reference tick, before it wraps. -/
def Obligations.StationTimeDoesNotRunBack : Prop :=
  ∀ s t : State, s.time.Fits → s.u.held = false → s.time.elapsed * 2 ^ 28 ≤ s.time.incNext.getD s.time.inc →
    s.time.raw + s.time.incNext.getD s.time.inc < 2 ^ 80 * 1000000000 → exec .referenceTick s = .next t → s.time.t16 ≤ t.time.t16

/-- R13, R32: DN and TS32 values, and TS64 values, are compared by signed difference: moved by an amount within range of either sign, a
value differs from the one it came from by that amount, across a wrap as well. -/
def Obligations.OrderIsBySignedDifference : Prop :=
  (∀ (a : Nat) (d : Int), -(2 ^ 31) ≤ d → d < 2 ^ 31 → dnDiff (dnAdd a d) a = d) ∧
  (∀ (a : Nat) (d : Int), -(2 ^ 63) ≤ d → d < 2 ^ 63 → tsDiff (enc 64 ((a : Int) + d)) a = d) ∧
  (∀ ts ts' c src bit c' src' bit', ts % 2 ^ 64 ≠ ts' % 2 ^ 64 →
    tripBefore ts c src bit ts' c' src' bit' = decide (tsDiff ts ts' < 0))

/-- R5: the rounding that every block shares gives a nearest integer, the even one at a tie, and saturation gives the nearest value that
the format holds. -/
def Obligations.RoundingIsToNearestEven : Prop :=
  (∀ (n : Int) (d : Nat), 0 < d → 2 * (n - rdiv n d * d).natAbs ≤ d ∧ (2 * (n - rdiv n d * d).natAbs = d → rdiv n d % 2 = 0)) ∧
  (∀ (w : Nat) (x : Int), 0 < w → -(2 ^ (w - 1)) ≤ satS w x ∧ satS w x < 2 ^ (w - 1) ∧
    (-(2 ^ (w - 1)) ≤ x → x < 2 ^ (w - 1) → satS w x = x) ∧ (2 ^ (w - 1) ≤ x → satS w x = 2 ^ (w - 1) - 1) ∧
    (x < -(2 ^ (w - 1)) → satS w x = -(2 ^ (w - 1)))) ∧
  (∀ (w : Nat) (x : Int), 0 ≤ satU w x ∧ satU w x < 2 ^ w ∧ (0 ≤ x → x < 2 ^ w → satU w x = x) ∧ (2 ^ w ≤ x → satU w x = 2 ^ w - 1))

/-- R10: a plain store to a register changes each of its fields by its access code, and no other field; a read that clears returns the RC
fields to their reset values. -/
def Obligations.AccessCodes : Prop :=
  (∀ (r : Regs) fs data (f : Fld) rng, (fs.map (fun e => e.1.key)).Nodup → (f, rng) ∈ fs →
    (f.acc = .rw → inRange rng (bits data f.lo f.width) = true → (r.store fs data).get f = bits data f.lo f.width) ∧
    (f.acc = .rw → inRange rng (bits data f.lo f.width) = false → (r.store fs data).get f = r.get f) ∧
    (f.acc = .w1c → f.width = 1 → (r.store fs data).get f = if bitAt data f.lo then 0 else r.get f) ∧
    (f.acc = .w1s → f.width = 1 → (r.store fs data).get f = if bitAt data f.lo then 1 else r.get f) ∧
    (f.acc = .ro ∨ f.acc = .wo ∨ f.acc = .rc ∨ f.acc = .rb → (r.store fs data).get f = r.get f) ∧
    (f.acc = .rc → (r.readClear fs).get f = f.reset % 2 ^ f.width) ∧ (f.acc ≠ .rc → (r.readClear fs).get f = r.get f)) ∧
  (∀ (r : Regs) fs data (f : Fld), f.key ∉ fs.map (fun e => e.1.key) →
    (r.store fs data).get f = r.get f ∧ (r.readClear fs).get f = r.get f)

/-- R445: on each chip the class of a fault is the cause's base class, one more, at most 3, when its block has recorded a fault at the base
class since its last ACK; the final class is marked as recorded, in its block only; ACK and every reset that reaches the block clear what
is recorded. -/
def Obligations.EscalationOfClasses : Prop :=
  (∀ (u : U) t c d, u.raise t c d = u.raiseAt t c c.cls d) ∧
  (∀ (u : U) ts c b d, (u.record ts c (some b) d).1 = (if bitAt (u.recOf c.blk).classes b then min 3 (b + 1) else b) ∧
    ((u.record ts c (some b) d).2.recOf c.blk).classes =
      setBit (u.recOf c.blk).classes (if bitAt (u.recOf c.blk).classes b then min 3 (b + 1) else b) ∧
    (∀ k : Blk, k.st ≠ c.blk.st → (u.record ts c (some b) d).2.recOf k = u.recOf k)) ∧
  (∀ (u : U) ts c d, (u.record ts c none d).2.recs = u.recs) ∧
  (∀ (w : H) x c b d, c.cls = some b → ((w.raise x c d).recs.get c.blk.st Rec.zero).classes = setBit (w.recs.get c.blk.st Rec.zero).classes
    (if bitAt (w.recs.get c.blk.st Rec.zero).classes b then min 3 (b + 1) else b)) ∧
  (∀ (y : C) o c b d, ((y.raiseAt o c (some b) d).recs.get c.blk.st Rec.zero).classes = setBit (y.recs.get c.blk.st Rec.zero).classes
    (if bitAt (y.recs.get c.blk.st Rec.zero).classes b then min 3 (b + 1) else b)) ∧
  (∀ (u : U) t b, ((u.ack t b).recOf b).classes = 0) ∧
  (∀ (w : H) b, ((w.ack b).recs.get b.st Rec.zero).classes = 0) ∧
  (∀ (y : C) b, ((y.ack b).recs.get b.st Rec.zero).classes = 0) ∧
  (∀ (u : U) cold, (u.resetAll cold).recs = []) ∧
  (∀ (u : U) t i (b : Blk), 0x400000000 + i * 0x10000 ≤ b.st → b.st < 0x400000000 + i * 0x10000 + 0x10000 →
    ((u.resetBlock t i).recOf b).classes = 0) ∧
  (∀ (y : C) v, (y.powerReset v).recs = [])

/-- R464, R465, R467: bit k of the low sides stands exactly when every condition of R465 holds and the signal box has its supply and its
oscillator; a channel is granted while its high side is requested as well; the run permit needs a channel of ROLE RUN and every such channel
granted, and CONV_EN falls with it (R120). -/
def Obligations.PermitsNeedEveryCondition : Prop :=
  (∀ (u : U) k, k < 8 → (bitAt (u.permits.rd R.SBX_PERM_LS) k = true ↔
    u.rd R.SBX_STATE_CFG = 2 ∧ u.sbx.supply = true ∧ u.sbx.osc = true ∧ u.rd (R.SBX_CH_ROLE k) ≠ 0 ∧
    (u.rd R.SBX_STATE_TRIPPED = 0 ∨ u.rd (R.SBX_CH_TRIP k) = 0) ∧ u.rd R.SBX_STATE_HB = 1 ∧ bitAt u.sbx.rbFault k = false)) ∧
  (∀ (u : U) k, k < 8 → bitAt (u.permits.rd R.SBX_PERM_GRANTED) k =
    (bitAt (u.permits.rd R.SBX_PERM_LS) k && bitAt (u.rd R.SBX_HS_HS) k)) ∧
  (∀ u : U, (u.permits.rd R.SBX_STATE_RUN_OK = 1 ↔ (∃ k < 8, u.rd (R.SBX_CH_ROLE k) = 1) ∧
    ∀ k < 8, u.rd (R.SBX_CH_ROLE k) = 1 → bitAt (u.permits.rd R.SBX_PERM_GRANTED) k = true)) ∧
  (∀ u : U, u.rd R.SBX_STATE_RUN_OK = 1 → u.permits.rd R.SBX_STATE_RUN_OK = 0 → u.permits.rd R.DEP_CTL_CONV_EN = 0) ∧
  (∀ u : U, u.permits.rd R.SBX_PERM_HS_OUT = u.rd R.SBX_HS_HS)

/-- R140, R447, R471: a fault recorded at final class 3 latches the avalanche and trips the signal box that has its supply (R466): TRIPPED and the avalanche output stand,
SBX_HS is cleared, the low side of every channel with TRIP 1 is open, and CONV_EN is cleared by an avalanche that was not latched. -/
def Obligations.ClassThreeTrips : Prop :=
  ∀ (u v w : U) t c b d, u.record t.ts64 c (some b) d = (3, w) → v = u.raiseAt t c (some b) d → u.sbx.supply = true →
    v.rd R.SBX_STATE_TRIPPED = 1 ∧ v.rd R.SBX_STATE_AV_OUT = 1 ∧ v.rd R.SBX_HS_HS = 0 ∧ v.rd R.DEP_STATUS_AV_LATCHED = 1 ∧
    (∀ k < 8, w.rd (R.SBX_CH_TRIP k) ≠ 0 → bitAt (v.rd R.SBX_PERM_LS) k = false) ∧
    (w.rd R.DEP_STATUS_AV_LATCHED = 0 → v.rd R.DEP_CTL_CONV_EN = 0 ∧ v.rd R.DEP_AV_SRC_FIRST_SRC = 6 ∧
      ∀ n < 100, w.on (R.LNS_CTL_EN (laneBase n)) = true → Output.mainline n avalancheBlocks ∈ v.out)

/-- R7, R386, R601: a store of 1, 2, 4 or 8 bytes to SRAM, aligned or not (log entry 128), reads back, little-endian, and every other byte of SRAM stands; a store into a
running capture region or an enabled arm's record changes no byte and faults. -/
def Obligations.SramStores : Prop :=
  (∀ s core addr size v, (Instr.registerWrite .unit core addr size v).wf = true → s.u.held = false → s.u.Calm →
    s.u.sramAt addr size = true →
    (s.u.capHolds addr size = false → s.u.ledgerHolds addr size = false →
      ∃ t, exec (.registerWrite .unit core addr size v) s = .next t ∧ t.u.mem.read addr size = v % 2 ^ (8 * size) ∧
        (∀ a, a < addr ∨ addr + size ≤ a → t.u.mem.byte a = s.u.mem.byte a) ∧ t.time = s.time ∧ t.u.flash = s.u.flash) ∧
    (s.u.capHolds addr size = true ∨ s.u.ledgerHolds addr size = true →
      ∃ t, exec (.registerWrite .unit core addr size v) s = .next t ∧ t.u.mem = s.u.mem ∧ t.u.out = s.u.out ++ [.storeFault addr]))

/-- R38, R46, R502: at the boundary of its start DN an ARMED generator runs; a decided role comes into force; the ACTIVE unit sends a TIME
frame at every 1,024th DN. -/
def Obligations.BoundaryStartsDeparturesAndTakesRoles : Prop :=
  (∀ (u : U) t dn, u.rd R.TIM_DEP_CTL_STATE = 1 →
    (u.tim.runNext = true ∨ u.rd R.TIM_DEP_START_DN_START = dn → (u.depGenerator t dn).rd R.TIM_DEP_CTL_STATE = 2 ∧
      (u.depGenerator t dn).rd R.TIM_DEP_CTL_START = 0) ∧
    (u.tim.runNext = false → u.rd R.TIM_DEP_START_DN_START ≠ dn → u.depGenerator t dn = u)) ∧
  (∀ (u : U) t dn, u.rd R.TIM_DEP_CTL_STATE ≠ 1 → u.depGenerator t dn = u) ∧
  (∀ (u : U) t b r, u.sdl.next = some r → r < 5 → u.on R.SDL_ROLE_HO_PEND = false →
    (u.roleBoundary t b).role = r ∧ (u.roleBoundary t b).sdl.next = none) ∧
  (∀ (u : U) us, u.role = 3 → u.rd R.TIM_DEP_CTL_STATE = 2 →
    (us % 2 ^ 32 % 1024 = 0 → ∀ h n, h ∈ u.topo.hubs → (n = 2 * h ∨ n = 2 * h + 1) → u.laneUp n = true → ∃ flags,
      Output.mainline n (sendBlocks (timeBytes flags (us % 2 ^ 32) (u.rd R.TIM_CTL_TIME_STATE) (us * 16000 % 2 ^ 64)
        (us * 16000 / 2 ^ 64 % 65536))) ∈ (u.timeFrame us).out ∧ flags.act = true ∧ flags.unitB = (u.unitB == 1)) ∧
    (us % 2 ^ 32 % 1024 ≠ 0 → u.timeFrame us = u))

/-- R37: a combined increment that differs from the nominal value by more than 1,000 ppm leaves TIM_INC and everything else of station
time, sets INC_REJ and raises its event; one that does not is taken. -/
def Obligations.IncrementOutOfLimitIsRejected : Prop :=
  (∀ s v x n, (Instr.timIncIntWrite v).wf = true → s.u.held = false → x = v * 2 ^ 32 + s.u.rd R.TIM_INC_FRAC_FRAC →
    n = nominalInc (s.u.rd R.SYS_STRAP_CLK_MODE) →
    (n < 1000 * ((x : Int) - n).natAbs → exec (.timIncIntWrite v) s = .next (s.after (s.u.raise s.time TIM.INC_REJ []))) ∧
    (1000 * ((x : Int) - n).natAbs ≤ n → exec (.timIncIntWrite v) s =
      .next (s.afterAt { s.time with incNext := some x } (s.u.wr R.TIM_INC_INT_INT v)))) ∧
  (∀ (u : U) t, (u.raise t TIM.INC_REJ []).rd (B.TIM.status 2) = 1 ∧
    (u.on TIM.INC_REJ.enable = true → (u.raise t TIM.INC_REJ []).evq = u.evq ++ [116]))

/-- R42: a write to TIM_SET_NS with bit 31 set loads station time with a fraction of 0; it is refused, and SET_REJ set, when the departure
generator is not STOPPED or bits [29:0] hold 1,000,000,000 or more. -/
def Obligations.TimeSetIsLoadedOrRefused : Prop :=
  (∀ s v, (Instr.timSetLoad v).wf = true → s.u.held = false →
    (s.u.rd R.TIM_DEP_CTL_STATE = 0 → bits v 0 30 < 1000000000 → ∃ t, exec (.timSetLoad v) s = .next t ∧
      t.time.sec = s.u.rd R.TIM_SET_SECL_SEC_LO + 2 ^ 32 * s.u.rd R.TIM_SET_SECH_SEC_HI ∧ t.time.ns = bits v 0 30 ∧ t.time.frac = 0) ∧
    (s.u.rd R.TIM_DEP_CTL_STATE ≠ 0 ∨ 1000000000 ≤ bits v 0 30 →
      exec (.timSetLoad v) s = .next (s.after (s.u.raise s.time TIM.SET_REJ [])))) ∧
  (∀ (u : U) t, (u.raise t TIM.SET_REJ []).rd (B.TIM.status 3) = 1) ∧
  (∀ s core v, (Instr.registerWrite .unit core 0x40001001C 4 v).wf = true → v < 2 ^ 32 → s.u.held = false →
    s.u.blockOn 0x40001001C = true → bitAt v 31 = true →
    exec (.registerWrite .unit core 0x40001001C 4 v) s = exec (.timSetLoad v) s)

/-- R484: FT_CLR with KEY 0xC1EA empties the first-trip record and SBX_TRIP_LINE; it is refused with CLR_REJ while TRIPPED is 1 or GL_ACTIVE
is 1. -/
def Obligations.FirstTripClears : Prop :=
  (∀ s, s.u.held = false → s.u.sbx.supply = true → s.u.rd R.SBX_STATE_TRIPPED = 0 → s.u.rd R.SBX_STATE_GL_ACTIVE = 0 →
    ∃ u, exec (.sbxFtClr 0xC1EA) s = .next (s.after u) ∧ u = { s.u with regs := u.regs } ∧
      (∀ f : Fld, f ∈ [R.SBX_FT_VALID, R.SBX_FT_CLASS, R.SBX_FT_SOURCE, R.SBX_FT_CAUSE, R.SBX_FT_TSL_TS_LO, R.SBX_FT_TSH_TS_HI,
        R.SBX_TRIP_LINE_VALID, R.SBX_TRIP_LINE_LINE] → u.rd f = 0) ∧
      (∀ f : Fld, f.addr < 0x400540040 ∨ 0x400540050 ≤ f.addr → f.lo < 32 → u.rd f = s.u.rd f)) ∧
  (∀ s, s.u.held = false → s.u.sbx.supply = true → s.u.rd R.SBX_STATE_TRIPPED ≠ 0 ∨ s.u.rd R.SBX_STATE_GL_ACTIVE ≠ 0 →
    exec (.sbxFtClr 0xC1EA) s = .next (s.after (s.u.raise s.time SBX.CLR_REJ [])) ∧
    (s.u.raise s.time SBX.CLR_REJ []).rd (B.SBX.status 8) = 1)
end

