-- ==== Sys2Proof/Laws/Exec.lean ====
section
/-! SUPPORT. The dispatch, command by command: what `exec` calls for each constructor. Later proofs cite these and never unfold `exec`. -/
namespace Sys2Proof.Machine

@[simp] theorem exec_registerWrite (s : State) chip core addr size data : exec (.registerWrite chip core addr size data) s = Sys2Proof.Machine.execRegisterWrite chip core addr size data s := rfl
@[simp] theorem exec_rcFieldRead (s : State) chip core addr size tie : exec (.rcFieldRead chip core addr size tie) s = Sys2Proof.Machine.execRcFieldRead chip core addr size tie s := rfl
@[simp] theorem exec_statusW1cWrite (s : State) chip addr data same : exec (.statusW1cWrite chip addr data same) s = Sys2Proof.Machine.execStatusW1cWrite chip addr data same s := rfl
@[simp] theorem exec_blockAck (s : State) chip addr data : exec (.blockAck chip addr data) s = Sys2Proof.Machine.execBlockAck chip addr data s := rfl
@[simp] theorem exec_referenceTick (s : State) : exec (.referenceTick) s = Sys2Proof.Machine.execReferenceTick s := rfl
@[simp] theorem exec_boundary (s : State) : exec (.boundary) s = Sys2Proof.Machine.execBoundary s := rfl
@[simp] theorem exec_timIncFracWrite (s : State) v : exec (.timIncFracWrite v) s = Sys2Proof.Machine.execTimIncFracWrite v s := rfl
@[simp] theorem exec_timIncIntWrite (s : State) v : exec (.timIncIntWrite v) s = Sys2Proof.Machine.execTimIncIntWrite v s := rfl
@[simp] theorem exec_timDepStartWrite (s : State) v : exec (.timDepStartWrite v) s = Sys2Proof.Machine.execTimDepStartWrite v s := rfl
@[simp] theorem exec_depStart (s : State) stop : exec (.depStart stop) s = Sys2Proof.Machine.execDepStart stop s := rfl
@[simp] theorem exec_depStop (s : State) : exec (.depStop) s = Sys2Proof.Machine.execDepStop s := rfl
@[simp] theorem exec_timStepWrite (s : State) v : exec (.timStepWrite v) s = Sys2Proof.Machine.execTimStepWrite v s := rfl
@[simp] theorem exec_stepApply (s : State) : exec (.stepApply) s = Sys2Proof.Machine.execStepApply s := rfl
@[simp] theorem exec_timSetLoad (s : State) v : exec (.timSetLoad v) s = Sys2Proof.Machine.execTimSetLoad v s := rfl
@[simp] theorem exec_timNowLatch (s : State) core : exec (.timNowLatch core) s = Sys2Proof.Machine.execTimNowLatch core s := rfl
@[simp] theorem exec_timeStateWrite (s : State) v : exec (.timeStateWrite v) s = Sys2Proof.Machine.execTimeStateWrite v s := rfl
@[simp] theorem exec_ptpEventRx (s : State) port msgType domain seqId raw octets : exec (.ptpEventRx port msgType domain seqId raw octets) s = Sys2Proof.Machine.execPtpEventRx port msgType domain seqId raw octets s := rfl
@[simp] theorem exec_ptpEventTx (s : State) port msgType seqId raw : exec (.ptpEventTx port msgType seqId raw) s = Sys2Proof.Machine.execPtpEventTx port msgType seqId raw s := rfl
@[simp] theorem exec_txqPop (s : State) port : exec (.txqPop port) s = Sys2Proof.Machine.execTxqPop port s := rfl
@[simp] theorem exec_hsrSyncForward (s : State) port seqId oneStep correction rx tx : exec (.hsrSyncForward port seqId oneStep correction rx tx) s = Sys2Proof.Machine.execHsrSyncForward port seqId oneStep correction rx tx s := rfl
@[simp] theorem exec_frnClrSuspect (s : State) a cell : exec (.frnClrSuspect a cell) s = Sys2Proof.Machine.execFrnClrSuspect a cell s := rfl
@[simp] theorem exec_frnReseed (s : State) a cell : exec (.frnReseed a cell) s = Sys2Proof.Machine.execFrnReseed a cell s := rfl
@[simp] theorem exec_frnSetK (s : State) a cell k : exec (.frnSetK a cell k) s = Sys2Proof.Machine.execFrnSetK a cell k s := rfl
@[simp] theorem exec_frnSetB (s : State) a cell v : exec (.frnSetB a cell v) s = Sys2Proof.Machine.execFrnSetB a cell v s := rfl
@[simp] theorem exec_frnClrAged (s : State) a cell : exec (.frnClrAged a cell) s = Sys2Proof.Machine.execFrnClrAged a cell s := rfl
@[simp] theorem exec_frnEnWrite (s : State) a en : exec (.frnEnWrite a en) s = Sys2Proof.Machine.execFrnEnWrite a en s := rfl
@[simp] theorem exec_ledgerStore (s : State) addr size data : exec (.ledgerStore addr size data) s = Sys2Proof.Machine.execLedgerStore addr size data s := rfl
@[simp] theorem exec_selection (s : State) a : exec (.selection a) s = Sys2Proof.Machine.execSelection a s := rfl
@[simp] theorem exec_mshEnWrite (s : State) a en : exec (.mshEnWrite a en) s = Sys2Proof.Machine.execMshEnWrite a en s := rfl
@[simp] theorem exec_mshRetire (s : State) a cell : exec (.mshRetire a cell) s = Sys2Proof.Machine.execMshRetire a cell s := rfl
@[simp] theorem exec_mshRestore (s : State) a cell : exec (.mshRestore a cell) s = Sys2Proof.Machine.execMshRestore a cell s := rfl
@[simp] theorem exec_mshRotate (s : State) a : exec (.mshRotate a) s = Sys2Proof.Machine.execMshRotate a s := rfl
@[simp] theorem exec_mshClrReq (s : State) a cell : exec (.mshClrReq a cell) s = Sys2Proof.Machine.execMshClrReq a cell s := rfl
@[simp] theorem exec_convEnWrite (s : State) en : exec (.convEnWrite en) s = Sys2Proof.Machine.execConvEnWrite en s := rfl
@[simp] theorem exec_forceSet (s : State) cid code : exec (.forceSet cid code) s = Sys2Proof.Machine.execForceSet cid code s := rfl
@[simp] theorem exec_forceRelease (s : State) cid : exec (.forceRelease cid) s = Sys2Proof.Machine.execForceRelease cid s := rfl
@[simp] theorem exec_forceReleaseAll (s : State) : exec (.forceReleaseAll) s = Sys2Proof.Machine.execForceReleaseAll s := rfl
@[simp] theorem exec_avFire (s : State) : exec (.avFire) s = Sys2Proof.Machine.execAvFire s := rfl
@[simp] theorem exec_peerAvalancheRx (s : State) block : exec (.peerAvalancheRx block) s = Sys2Proof.Machine.execPeerAvalancheRx block s := rfl
@[simp] theorem exec_avClear (s : State) : exec (.avClear) s = Sys2Proof.Machine.execAvClear s := rfl
@[simp] theorem exec_clearRunEnd (s : State) : exec (.clearRunEnd) s = Sys2Proof.Machine.execClearRunEnd s := rfl
@[simp] theorem exec_resetClearRun (s : State) : exec (.resetClearRun) s = Sys2Proof.Machine.execResetClearRun s := rfl
@[simp] theorem exec_hubOrderLoss (s : State) h : exec (.hubOrderLoss h) s = Sys2Proof.Machine.execHubOrderLoss h s := rfl
@[simp] theorem exec_hubAvalancheRx (s : State) h lane block : exec (.hubAvalancheRx h lane block) s = Sys2Proof.Machine.execHubAvalancheRx h lane block s := rfl
@[simp] theorem exec_cellK287Rx (s : State) cid port : exec (.cellK287Rx cid port) s = Sys2Proof.Machine.execCellK287Rx cid port s := rfl
@[simp] theorem exec_cellFrameRx (s : State) cid port ofs chars same : exec (.cellFrameRx cid port ofs chars same) s = Sys2Proof.Machine.execCellFrameRx cid port ofs chars same s := rfl
@[simp] theorem exec_cellBoundary (s : State) cid stPass : exec (.cellBoundary cid stPass) s = Sys2Proof.Machine.execCellBoundary cid stPass s := rfl
@[simp] theorem exec_cellWatchdog (s : State) cid : exec (.cellWatchdog cid) s = Sys2Proof.Machine.execCellWatchdog cid s := rfl
@[simp] theorem exec_depPeek (s : State) dn : exec (.depPeek dn) s = Sys2Proof.Machine.execDepPeek dn s := rfl
@[simp] theorem exec_gtePatWrite (s : State) cid code v : exec (.gtePatWrite cid code v) s = Sys2Proof.Machine.execGtePatWrite cid code v s := rfl
@[simp] theorem exec_gteCtlWrite (s : State) cid v : exec (.gteCtlWrite cid v) s = Sys2Proof.Machine.execGteCtlWrite cid v s := rfl
@[simp] theorem exec_testEnWrite (s : State) cid en : exec (.testEnWrite cid en) s = Sys2Proof.Machine.execTestEnWrite cid en s := rfl
@[simp] theorem exec_gteTestWrite (s : State) cid v : exec (.gteTestWrite cid v) s = Sys2Proof.Machine.execGteTestWrite cid v s := rfl
@[simp] theorem exec_pwmRunWrite (s : State) cid run : exec (.pwmRunWrite cid run) s = Sys2Proof.Machine.execPwmRunWrite cid run s := rfl
@[simp] theorem exec_pwmLoad (s : State) cid : exec (.pwmLoad cid) s = Sys2Proof.Machine.execPwmLoad cid s := rfl
@[simp] theorem exec_pwmPeriodStart (s : State) cid : exec (.pwmPeriodStart cid) s = Sys2Proof.Machine.execPwmPeriodStart cid s := rfl
@[simp] theorem exec_calibrationComplete (s : State) cid p q : exec (.calibrationComplete cid p q) s = Sys2Proof.Machine.execCalibrationComplete cid p q s := rfl
@[simp] theorem exec_refreshRequest (s : State) cid leg : exec (.refreshRequest cid leg) s = Sys2Proof.Machine.execRefreshRequest cid leg s := rfl
@[simp] theorem exec_autoRefresh (s : State) cid leg : exec (.autoRefresh cid leg) s = Sys2Proof.Machine.execAutoRefresh cid leg s := rfl
@[simp] theorem exec_comparatorTrip (s : State) cid ins : exec (.comparatorTrip cid ins) s = Sys2Proof.Machine.execComparatorTrip cid ins s := rfl
@[simp] theorem exec_blankWindowClose (s : State) cid sws ins : exec (.blankWindowClose cid sws ins) s = Sys2Proof.Machine.execBlankWindowClose cid sws ins s := rfl
@[simp] theorem exec_softOffEnd (s : State) cid : exec (.softOffEnd cid) s = Sys2Proof.Machine.execSoftOffEnd cid s := rfl
@[simp] theorem exec_bypWaitExpire (s : State) cid : exec (.bypWaitExpire cid) s = Sys2Proof.Machine.execBypWaitExpire cid s := rfl
@[simp] theorem exec_prtThrWrite (s : State) cid sw v : exec (.prtThrWrite cid sw v) s = Sys2Proof.Machine.execPrtThrWrite cid sw v s := rfl
@[simp] theorem exec_prtOvaWrite (s : State) cid v : exec (.prtOvaWrite cid v) s = Sys2Proof.Machine.execPrtOvaWrite cid v s := rfl
@[simp] theorem exec_clrHold (s : State) cid ins : exec (.clrHold cid ins) s = Sys2Proof.Machine.execClrHold cid ins s := rfl
@[simp] theorem exec_selftest (s : State) cid mask : exec (.selftest cid mask) s = Sys2Proof.Machine.execSelftest cid mask s := rfl
@[simp] theorem exec_selftestTimeout (s : State) cid : exec (.selftestTimeout cid) s = Sys2Proof.Machine.execSelftestTimeout cid s := rfl
@[simp] theorem exec_clrJournal (s : State) cid : exec (.clrJournal cid) s = Sys2Proof.Machine.execClrJournal cid s := rfl
@[simp] theorem exec_dmpTmaxExpire (s : State) cid : exec (.dmpTmaxExpire cid) s = Sys2Proof.Machine.execDmpTmaxExpire cid s := rfl
@[simp] theorem exec_ov2Crossing (s : State) cid ins : exec (.ov2Crossing cid ins) s = Sys2Proof.Machine.execOv2Crossing cid ins s := rfl
@[simp] theorem exec_uvloEntry (s : State) cid : exec (.uvloEntry cid) s = Sys2Proof.Machine.execUvloEntry cid s := rfl
@[simp] theorem exec_uvloRelease (s : State) cid ins : exec (.uvloRelease cid ins) s = Sys2Proof.Machine.execUvloRelease cid ins s := rfl
@[simp] theorem exec_cellPor (s : State) cid : exec (.cellPor cid) s = Sys2Proof.Machine.execCellPor cid s := rfl
@[simp] theorem exec_retirementRecordDone (s : State) cid : exec (.retirementRecordDone cid) s = Sys2Proof.Machine.execRetirementRecordDone cid s := rfl
@[simp] theorem exec_bycPulseStart (s : State) cid : exec (.bycPulseStart cid) s = Sys2Proof.Machine.execBycPulseStart cid s := rfl
@[simp] theorem exec_bycPulseEnd (s : State) cid : exec (.bycPulseEnd cid) s = Sys2Proof.Machine.execBycPulseEnd cid s := rfl
@[simp] theorem exec_bycConfirm (s : State) cid : exec (.bycConfirm cid) s = Sys2Proof.Machine.execBycConfirm cid s := rfl
@[simp] theorem exec_bycTimeout (s : State) cid : exec (.bycTimeout cid) s = Sys2Proof.Machine.execBycTimeout cid s := rfl
@[simp] theorem exec_byfRelease (s : State) cid : exec (.byfRelease cid) s = Sys2Proof.Machine.execByfRelease cid s := rfl
@[simp] theorem exec_byfPulse (s : State) cid level : exec (.byfPulse cid level) s = Sys2Proof.Machine.execByfPulse cid level s := rfl
@[simp] theorem exec_gateMismatch (s : State) cid sw high : exec (.gateMismatch cid sw high) s = Sys2Proof.Machine.execGateMismatch cid sw high s := rfl
@[simp] theorem exec_lpeRunCommit (s : State) g : exec (.lpeRunCommit g) s = Sys2Proof.Machine.execLpeRunCommit g s := rfl
@[simp] theorem exec_boardCoreStore (s : State) e v : exec (.boardCoreStore e v) s = Sys2Proof.Machine.execBoardCoreStore e v s := rfl
@[simp] theorem exec_slotCtlWrite (s : State) sl reg v : exec (.slotCtlWrite sl reg v) s = Sys2Proof.Machine.execSlotCtlWrite sl reg v s := rfl
@[simp] theorem exec_slotEnable (s : State) sl : exec (.slotEnable sl) s = Sys2Proof.Machine.execSlotEnable sl s := rfl
@[simp] theorem exec_slotStateStore (s : State) sl n v : exec (.slotStateStore sl n v) s = Sys2Proof.Machine.execSlotStateStore sl n v s := rfl
@[simp] theorem exec_slotCoefStore (s : State) sl n v : exec (.slotCoefStore sl n v) s = Sys2Proof.Machine.execSlotCoefStore sl n v s := rfl
@[simp] theorem exec_lpeMemError (s : State) entry n corrected : exec (.lpeMemError entry n corrected) s = Sys2Proof.Machine.execLpeMemError entry n corrected s := rfl
@[simp] theorem exec_lpeEnWrite (s : State) en : exec (.lpeEnWrite en) s = Sys2Proof.Machine.execLpeEnWrite en s := rfl
@[simp] theorem exec_sensorWord (s : State) input w : exec (.sensorWord input w) s = Sys2Proof.Machine.execSensorWord input w s := rfl
@[simp] theorem exec_sensorTimeout (s : State) p : exec (.sensorTimeout p) s = Sys2Proof.Machine.execSensorTimeout p s := rfl
@[simp] theorem exec_snsErrWindowClose (s : State) p : exec (.snsErrWindowClose p) s = Sys2Proof.Machine.execSnsErrWindowClose p s := rfl
@[simp] theorem exec_snsPortEnWrite (s : State) p en : exec (.snsPortEnWrite p en) s = Sys2Proof.Machine.execSnsPortEnWrite p en s := rfl
@[simp] theorem exec_snsRestore (s : State) p : exec (.snsRestore p) s = Sys2Proof.Machine.execSnsRestore p s := rfl
@[simp] theorem exec_snsOfsCommit (s : State) p v : exec (.snsOfsCommit p v) s = Sys2Proof.Machine.execSnsOfsCommit p v s := rfl
@[simp] theorem exec_snsThrCfgWrite (s : State) p k v : exec (.snsThrCfgWrite p k v) s = Sys2Proof.Machine.execSnsThrCfgWrite p k v s := rfl
@[simp] theorem exec_seqRisingEdge (s : State) m input : exec (.seqRisingEdge m input) s = Sys2Proof.Machine.execSeqRisingEdge m input s := rfl
@[simp] theorem exec_freqWindowEnd (s : State) m : exec (.freqWindowEnd m) s = Sys2Proof.Machine.execFreqWindowEnd m s := rfl
@[simp] theorem exec_seqInputLost (s : State) m input : exec (.seqInputLost m input) s = Sys2Proof.Machine.execSeqInputLost m input s := rfl
@[simp] theorem exec_pbxFrameRx (s : State) f : exec (.pbxFrameRx f) s = Sys2Proof.Machine.execPbxFrameRx f s := rfl
@[simp] theorem exec_svAlignedWrite (s : State) j : exec (.svAlignedWrite j) s = Sys2Proof.Machine.execSvAlignedWrite j s := rfl
@[simp] theorem exec_svTimeout (s : State) k : exec (.svTimeout k) s = Sys2Proof.Machine.execSvTimeout k s := rfl
@[simp] theorem exec_gooseTimeout (s : State) c : exec (.gooseTimeout c) s = Sys2Proof.Machine.execGooseTimeout c s := rfl
@[simp] theorem exec_pbxTxProdWrite (s : State) q v : exec (.pbxTxProdWrite q v) s = Sys2Proof.Machine.execPbxTxProdWrite q v s := rfl
@[simp] theorem exec_pbxLinkDown (s : State) port : exec (.pbxLinkDown port) s = Sys2Proof.Machine.execPbxLinkDown port s := rfl
@[simp] theorem exec_pbxRateWrite (s : State) v : exec (.pbxRateWrite v) s = Sys2Proof.Machine.execPbxRateWrite v s := rfl
@[simp] theorem exec_laneEnWrite (s : State) l en : exec (.laneEnWrite l en) s = Sys2Proof.Machine.execLaneEnWrite l en s := rfl
@[simp] theorem exec_laneSignalDetect (s : State) l : exec (.laneSignalDetect l) s = Sys2Proof.Machine.execLaneSignalDetect l s := rfl
@[simp] theorem exec_laneCdrLock (s : State) l : exec (.laneCdrLock l) s = Sys2Proof.Machine.execLaneCdrLock l s := rfl
@[simp] theorem exec_equalisationSettled (s : State) l : exec (.equalisationSettled l) s = Sys2Proof.Machine.execEqualisationSettled l s := rfl
@[simp] theorem exec_trainingRx (s : State) l tr : exec (.trainingRx l tr) s = Sys2Proof.Machine.execTrainingRx l tr s := rfl
@[simp] theorem exec_laneLinkLoss (s : State) l : exec (.laneLinkLoss l) s = Sys2Proof.Machine.execLaneLinkLoss l s := rfl
@[simp] theorem exec_laneCodeErrors (s : State) l n : exec (.laneCodeErrors l n) s = Sys2Proof.Machine.execLaneCodeErrors l n s := rfl
@[simp] theorem exec_laneCheckError (s : State) l : exec (.laneCheckError l) s = Sys2Proof.Machine.execLaneCheckError l s := rfl
@[simp] theorem exec_crcWindowClose (s : State) l : exec (.crcWindowClose l) s = Sys2Proof.Machine.execCrcWindowClose l s := rfl
@[simp] theorem exec_laneRetrainTimeout (s : State) l : exec (.laneRetrainTimeout l) s = Sys2Proof.Machine.execLaneRetrainTimeout l s := rfl
@[simp] theorem exec_deskewTimeout (s : State) l : exec (.deskewTimeout l) s = Sys2Proof.Machine.execDeskewTimeout l s := rfl
@[simp] theorem exec_laneRestore (s : State) l : exec (.laneRestore l) s = Sys2Proof.Machine.execLaneRestore l s := rfl
@[simp] theorem exec_laneRetrainCmd (s : State) l : exec (.laneRetrainCmd l) s = Sys2Proof.Machine.execLaneRetrainCmd l s := rfl
@[simp] theorem exec_laneTestWrite (s : State) l prbs v : exec (.laneTestWrite l prbs v) s = Sys2Proof.Machine.execLaneTestWrite l prbs v s := rfl
@[simp] theorem exec_laneTxeqWrite (s : State) l v : exec (.laneTxeqWrite l v) s = Sys2Proof.Machine.execLaneTxeqWrite l v s := rfl
@[simp] theorem exec_hubBoundary (s : State) h : exec (.hubBoundary h) s = Sys2Proof.Machine.execHubBoundary h s := rfl
@[simp] theorem exec_rptMiss (s : State) cid : exec (.rptMiss cid) s = Sys2Proof.Machine.execRptMiss cid s := rfl
@[simp] theorem exec_hubTrackwayRx (s : State) h lane transit chars same : exec (.hubTrackwayRx h lane transit chars same) s = Sys2Proof.Machine.execHubTrackwayRx h lane transit chars same s := rfl
@[simp] theorem exec_hubFrameDrop (s : State) h loop : exec (.hubFrameDrop h loop) s = Sys2Proof.Machine.execHubFrameDrop h loop s := rfl
@[simp] theorem exec_hubUnreach (s : State) h loop pos : exec (.hubUnreach h loop pos) s = Sys2Proof.Machine.execHubUnreach h loop pos s := rfl
@[simp] theorem exec_noticeRx (s : State) lane blocks : exec (.noticeRx lane blocks) s = Sys2Proof.Machine.execNoticeRx lane blocks s := rfl
@[simp] theorem exec_hubOrderRx (s : State) h lane arr done blocks : exec (.hubOrderRx h lane arr done blocks) s = Sys2Proof.Machine.execHubOrderRx h lane arr done blocks s := rfl
@[simp] theorem exec_loopFrameRx (s : State) lane blocks : exec (.loopFrameRx lane blocks) s = Sys2Proof.Machine.execLoopFrameRx lane blocks s := rfl
@[simp] theorem exec_mailRx (s : State) lane arr blocks : exec (.mailRx lane arr blocks) s = Sys2Proof.Machine.execMailRx lane arr blocks s := rfl
@[simp] theorem exec_pointRequestRx (s : State) cid octets same : exec (.pointRequestRx cid octets same) s = Sys2Proof.Machine.execPointRequestRx cid octets same s := rfl
@[simp] theorem exec_rspDrop (s : State) cid : exec (.rspDrop cid) s = Sys2Proof.Machine.execRspDrop cid s := rfl
@[simp] theorem exec_pointRequestSend (s : State) : exec (.pointRequestSend) s = Sys2Proof.Machine.execPointRequestSend s := rfl
@[simp] theorem exec_pointRetryTimeout (s : State) h loop : exec (.pointRetryTimeout h loop) s = Sys2Proof.Machine.execPointRetryTimeout h loop s := rfl
@[simp] theorem exec_pointResponseRx (s : State) h octets : exec (.pointResponseRx h octets) s = Sys2Proof.Machine.execPointResponseRx h octets s := rfl
@[simp] theorem exec_completionWrite (s : State) : exec (.completionWrite) s = Sys2Proof.Machine.execCompletionWrite s := rfl
@[simp] theorem exec_loopMeasurement (s : State) h loop : exec (.loopMeasurement h loop) s = Sys2Proof.Machine.execLoopMeasurement h loop s := rfl
@[simp] theorem exec_measurementComplete (s : State) h loop : exec (.measurementComplete h loop) s = Sys2Proof.Machine.execMeasurementComplete h loop s := rfl
@[simp] theorem exec_pathRx (s : State) h dlyA dlyB dlMax : exec (.pathRx h dlyA dlyB dlMax) s = Sys2Proof.Machine.execPathRx h dlyA dlyB dlMax s := rfl
@[simp] theorem exec_hubHeartbeatWrite (s : State) h v : exec (.hubHeartbeatWrite h v) s = Sys2Proof.Machine.execHubHeartbeatWrite h v s := rfl
@[simp] theorem exec_hubHbLost (s : State) h : exec (.hubHbLost h) s = Sys2Proof.Machine.execHubHbLost h s := rfl
@[simp] theorem exec_hubMemUnc (s : State) h : exec (.hubMemUnc h) s = Sys2Proof.Machine.execHubMemUnc h s := rfl
@[simp] theorem exec_hubAliveToggle (s : State) h : exec (.hubAliveToggle h) s = Sys2Proof.Machine.execHubAliveToggle h s := rfl
@[simp] theorem exec_regReq (s : State) h : exec (.regReq h) s = Sys2Proof.Machine.execRegReq h s := rfl
@[simp] theorem exec_adcConversion (s : State) cid k raw : exec (.adcConversion cid k raw) s = Sys2Proof.Machine.execAdcConversion cid k raw s := rfl
@[simp] theorem exec_adcEntryEnable (s : State) cid n v : exec (.adcEntryEnable cid n v) s = Sys2Proof.Machine.execAdcEntryEnable cid n v s := rfl
@[simp] theorem exec_adcOfsCommit (s : State) cid n v : exec (.adcOfsCommit cid n v) s = Sys2Proof.Machine.execAdcOfsCommit cid n v s := rfl
@[simp] theorem exec_adcResRead (s : State) cid n : exec (.adcResRead cid n) s = Sys2Proof.Machine.execAdcResRead cid n s := rfl
@[simp] theorem exec_capArm (s : State) : exec (.capArm) s = Sys2Proof.Machine.execCapArm s := rfl
@[simp] theorem exec_capStop (s : State) : exec (.capStop) s = Sys2Proof.Machine.execCapStop s := rfl
@[simp] theorem exec_capSwtrig (s : State) : exec (.capSwtrig) s = Sys2Proof.Machine.execCapSwtrig s := rfl
@[simp] theorem exec_streamFrameSend (s : State) : exec (.streamFrameSend) s = Sys2Proof.Machine.execStreamFrameSend s := rfl
@[simp] theorem exec_streamFlashWrite (s : State) : exec (.streamFlashWrite) s = Sys2Proof.Machine.execStreamFlashWrite s := rfl
@[simp] theorem exec_snpFire (s : State) : exec (.snpFire) s = Sys2Proof.Machine.execSnpFire s := rfl
@[simp] theorem exec_snapshotCopyDone (s : State) : exec (.snapshotCopyDone) s = Sys2Proof.Machine.execSnapshotCopyDone s := rfl
@[simp] theorem exec_snpTcmdGo (s : State) : exec (.snpTcmdGo) s = Sys2Proof.Machine.execSnpTcmdGo s := rfl
@[simp] theorem exec_ccpArm (s : State) cid : exec (.ccpArm cid) s = Sys2Proof.Machine.execCcpArm cid s := rfl
@[simp] theorem exec_ccpStop (s : State) cid : exec (.ccpStop cid) s = Sys2Proof.Machine.execCcpStop cid s := rfl
@[simp] theorem exec_ccpSwtrig (s : State) cid : exec (.ccpSwtrig cid) s = Sys2Proof.Machine.execCcpSwtrig cid s := rfl
@[simp] theorem exec_schWaitRead (s : State) core : exec (.schWaitRead core) s = Sys2Proof.Machine.execSchWaitRead core s := rfl
@[simp] theorem exec_endWait (s : State) core : exec (.endWait core) s = Sys2Proof.Machine.execEndWait core s := rfl
@[simp] theorem exec_endWaitUntil (s : State) core : exec (.endWaitUntil core) s = Sys2Proof.Machine.execEndWaitUntil core s := rfl
@[simp] theorem exec_endYield (s : State) core : exec (.endYield core) s = Sys2Proof.Machine.execEndYield core s := rfl
@[simp] theorem exec_endExit (s : State) core : exec (.endExit core) s = Sys2Proof.Machine.execEndExit core s := rfl
@[simp] theorem exec_releaseResume (s : State) flow : exec (.releaseResume flow) s = Sys2Proof.Machine.execReleaseResume flow s := rfl
@[simp] theorem exec_schCreate (s : State) core th : exec (.schCreate core th) s = Sys2Proof.Machine.execSchCreate core th s := rfl
@[simp] theorem exec_schDestroy (s : State) core th : exec (.schDestroy core th) s = Sys2Proof.Machine.execSchDestroy core th s := rfl
@[simp] theorem exec_schReady (s : State) core th cancel : exec (.schReady core th cancel) s = Sys2Proof.Machine.execSchReady core th cancel s := rfl
@[simp] theorem exec_schCancel (s : State) core th : exec (.schCancel core th) s = Sys2Proof.Machine.execSchCancel core th s := rfl
@[simp] theorem exec_schRestart (s : State) core th : exec (.schRestart core th) s = Sys2Proof.Machine.execSchRestart core th s := rfl
@[simp] theorem exec_schPost (s : State) core flow : exec (.schPost core flow) s = Sys2Proof.Machine.execSchPost core flow s := rfl
@[simp] theorem exec_schRetireCore (s : State) core target : exec (.schRetireCore core target) s = Sys2Proof.Machine.execSchRetireCore core target s := rfl
@[simp] theorem exec_schRestoreCore (s : State) core target : exec (.schRestoreCore core target) s = Sys2Proof.Machine.execSchRestoreCore core target s := rfl
@[simp] theorem exec_schCmdResRead (s : State) core : exec (.schCmdResRead core) s = Sys2Proof.Machine.execSchCmdResRead core s := rfl
@[simp] theorem exec_schIpiWrite (s : State) core v : exec (.schIpiWrite core v) s = Sys2Proof.Machine.execSchIpiWrite core v s := rfl
@[simp] theorem exec_schSrcWrite (s : State) src v : exec (.schSrcWrite src v) s = Sys2Proof.Machine.execSchSrcWrite src v s := rfl
@[simp] theorem exec_timetableExpiry (s : State) : exec (.timetableExpiry) s = Sys2Proof.Machine.execTimetableExpiry s := rfl
@[simp] theorem exec_longRun (s : State) core : exec (.longRun core) s = Sys2Proof.Machine.execLongRun core s := rfl
@[simp] theorem exec_paceCheck (s : State) core pace : exec (.paceCheck core pace) s = Sys2Proof.Machine.execPaceCheck core pace s := rfl
@[simp] theorem exec_loadWindowEnd (s : State) : exec (.loadWindowEnd) s = Sys2Proof.Machine.execLoadWindowEnd s := rfl
@[simp] theorem exec_coreUncorrError (s : State) core kind : exec (.coreUncorrError core kind) s = Sys2Proof.Machine.execCoreUncorrError core kind s := rfl
@[simp] theorem exec_scrubRead (s : State) chip symbols still : exec (.scrubRead chip symbols still) s = Sys2Proof.Machine.execScrubRead chip symbols still s := rfl
@[simp] theorem exec_memoryUncorrRead (s : State) chip addr core : exec (.memoryUncorrRead chip addr core) s = Sys2Proof.Machine.execMemoryUncorrRead chip addr core s := rfl
@[simp] theorem exec_sysInjWrite (s : State) chip toAddr v : exec (.sysInjWrite chip toAddr v) s = Sys2Proof.Machine.execSysInjWrite chip toAddr v s := rfl
@[simp] theorem exec_aliveToggle (s : State) : exec (.aliveToggle) s = Sys2Proof.Machine.execAliveToggle s := rfl
@[simp] theorem exec_sbxLineChange (s : State) line level : exec (.sbxLineChange line level) s = Sys2Proof.Machine.execSbxLineChange line level s := rfl
@[simp] theorem exec_hwAliveTimeout (s : State) j : exec (.hwAliveTimeout j) s = Sys2Proof.Machine.execHwAliveTimeout j s := rfl
@[simp] theorem exec_sbxHeartWrite (s : State) token tick : exec (.sbxHeartWrite token tick) s = Sys2Proof.Machine.execSbxHeartWrite token tick s := rfl
@[simp] theorem exec_heartbeatWindowEnd (s : State) : exec (.heartbeatWindowEnd) s = Sys2Proof.Machine.execHeartbeatWindowEnd s := rfl
@[simp] theorem exec_sbxHsWrite (s : State) v : exec (.sbxHsWrite v) s = Sys2Proof.Machine.execSbxHsWrite v s := rfl
@[simp] theorem exec_sbxCfgLoadWrite (s : State) v : exec (.sbxCfgLoadWrite v) s = Sys2Proof.Machine.execSbxCfgLoadWrite v s := rfl
@[simp] theorem exec_sbxCfgStart (s : State) : exec (.sbxCfgStart) s = Sys2Proof.Machine.execSbxCfgStart s := rfl
@[simp] theorem exec_sbxCfgLock (s : State) : exec (.sbxCfgLock) s = Sys2Proof.Machine.execSbxCfgLock s := rfl
@[simp] theorem exec_sbxClear (s : State) key : exec (.sbxClear key) s = Sys2Proof.Machine.execSbxClear key s := rfl
@[simp] theorem exec_sbxFtClr (s : State) key : exec (.sbxFtClr key) s = Sys2Proof.Machine.execSbxFtClr key s := rfl
@[simp] theorem exec_glacierExpire (s : State) : exec (.glacierExpire) s = Sys2Proof.Machine.execGlacierExpire s := rfl
@[simp] theorem exec_readbackSample (s : State) pr : exec (.readbackSample pr) s = Sys2Proof.Machine.execReadbackSample pr s := rfl
@[simp] theorem exec_testPulseStart (s : State) k low : exec (.testPulseStart k low) s = Sys2Proof.Machine.execTestPulseStart k low s := rfl
@[simp] theorem exec_testPulseEnd (s : State) openedAtEnd energisedAfter : exec (.testPulseEnd openedAtEnd energisedAfter) s = Sys2Proof.Machine.execTestPulseEnd openedAtEnd energisedAfter s := rfl
@[simp] theorem exec_oscWindowEnd (s : State) count : exec (.oscWindowEnd count) s = Sys2Proof.Machine.execOscWindowEnd count s := rfl
@[simp] theorem exec_peerStatusTimeout (s : State) : exec (.peerStatusTimeout) s = Sys2Proof.Machine.execPeerStatusTimeout s := rfl
@[simp] theorem exec_ctrlRx (s : State) parts : exec (.ctrlRx parts) s = Sys2Proof.Machine.execCtrlRx parts s := rfl
@[simp] theorem exec_mirrorSectionRx (s : State) parts : exec (.mirrorSectionRx parts) s = Sys2Proof.Machine.execMirrorSectionRx parts s := rfl
@[simp] theorem exec_relinquishRx (s : State) block : exec (.relinquishRx block) s = Sys2Proof.Machine.execRelinquishRx block s := rfl
@[simp] theorem exec_sdlJoin (s : State) : exec (.sdlJoin) s = Sys2Proof.Machine.execSdlJoin s := rfl
@[simp] theorem exec_sdlSwap (s : State) : exec (.sdlSwap) s = Sys2Proof.Machine.execSdlSwap s := rfl
@[simp] theorem exec_sdlRelq (s : State) : exec (.sdlRelq) s = Sys2Proof.Machine.execSdlRelq s := rfl
@[simp] theorem exec_sdlRejoin (s : State) : exec (.sdlRejoin) s = Sys2Proof.Machine.execSdlRejoin s := rfl
@[simp] theorem exec_sdlRegionWrite (s : State) r len v : exec (.sdlRegionWrite r len v) s = Sys2Proof.Machine.execSdlRegionWrite r len v s := rfl
@[simp] theorem exec_joinTimeout (s : State) : exec (.joinTimeout) s = Sys2Proof.Machine.execJoinTimeout s := rfl
@[simp] theorem exec_peerLost (s : State) : exec (.peerLost) s = Sys2Proof.Machine.execPeerLost s := rfl
@[simp] theorem exec_clearAnswerTimeout (s : State) : exec (.clearAnswerTimeout) s = Sys2Proof.Machine.execClearAnswerTimeout s := rfl
@[simp] theorem exec_revHoldExpire (s : State) : exec (.revHoldExpire) s = Sys2Proof.Machine.execRevHoldExpire s := rfl
@[simp] theorem exec_rlqReset (s : State) : exec (.rlqReset) s = Sys2Proof.Machine.execRlqReset s := rfl
@[simp] theorem exec_resetAssert (s : State) chip src reach block : exec (.resetAssert chip src reach block) s = Sys2Proof.Machine.execResetAssert chip src reach block s := rfl
@[simp] theorem exec_resetStageComplete (s : State) chip straps : exec (.resetStageComplete chip straps) s = Sys2Proof.Machine.execResetStageComplete chip straps s := rfl
@[simp] theorem exec_fuseLoadDone (s : State) chip words : exec (.fuseLoadDone chip words) s = Sys2Proof.Machine.execFuseLoadDone chip words s := rfl
@[simp] theorem exec_oscStopDetect (s : State) : exec (.oscStopDetect) s = Sys2Proof.Machine.execOscStopDetect s := rfl
@[simp] theorem exec_stretchRelease (s : State) : exec (.stretchRelease) s = Sys2Proof.Machine.execStretchRelease s := rfl
@[simp] theorem exec_sysRstSystem (s : State) key : exec (.sysRstSystem key) s = Sys2Proof.Machine.execSysRstSystem key s := rfl
@[simp] theorem exec_sysRstEngine (s : State) key : exec (.sysRstEngine key) s = Sys2Proof.Machine.execSysRstEngine key s := rfl
@[simp] theorem exec_sysRstBlock (s : State) key block : exec (.sysRstBlock key block) s = Sys2Proof.Machine.execSysRstBlock key block s := rfl
@[simp] theorem exec_sysRstPeer (s : State) key : exec (.sysRstPeer key) s = Sys2Proof.Machine.execSysRstPeer key s := rfl
@[simp] theorem exec_peerResetRx (s : State) block : exec (.peerResetRx block) s = Sys2Proof.Machine.execPeerResetRx block s := rfl
@[simp] theorem exec_wdogEnable (s : State) : exec (.wdogEnable) s = Sys2Proof.Machine.execWdogEnable s := rfl
@[simp] theorem exec_wdogKick (s : State) key : exec (.wdogKick key) s = Sys2Proof.Machine.execWdogKick key s := rfl
@[simp] theorem exec_wdogPeriodEnd (s : State) : exec (.wdogPeriodEnd) s = Sys2Proof.Machine.execWdogPeriodEnd s := rfl
@[simp] theorem exec_dieTempChange (s : State) chip temp : exec (.dieTempChange chip temp) s = Sys2Proof.Machine.execDieTempChange chip temp s := rfl
@[simp] theorem exec_sysPwrWrite (s : State) v : exec (.sysPwrWrite v) s = Sys2Proof.Machine.execSysPwrWrite v s := rfl
@[simp] theorem exec_coreRelease (s : State) v : exec (.coreRelease v) s = Sys2Proof.Machine.execCoreRelease v s := rfl
@[simp] theorem exec_bakClrCnt (s : State) key : exec (.bakClrCnt key) s = Sys2Proof.Machine.execBakClrCnt key s := rfl
@[simp] theorem exec_bakClrHist (s : State) key : exec (.bakClrHist key) s = Sys2Proof.Machine.execBakClrHist key s := rfl
@[simp] theorem exec_bakClrLf (s : State) key : exec (.bakClrLf key) s = Sys2Proof.Machine.execBakClrLf key s := rfl
@[simp] theorem exec_vbakRise (s : State) octets : exec (.vbakRise octets) s = Sys2Proof.Machine.execVbakRise octets s := rfl
@[simp] theorem exec_vsbxUndervoltage (s : State) : exec (.vsbxUndervoltage) s = Sys2Proof.Machine.execVsbxUndervoltage s := rfl
@[simp] theorem exec_configBlockRx (s : State) cid octets : exec (.configBlockRx cid octets) s = Sys2Proof.Machine.execConfigBlockRx cid octets s := rfl
@[simp] theorem exec_configResendTimeout (s : State) cid : exec (.configResendTimeout cid) s = Sys2Proof.Machine.execConfigResendTimeout cid s := rfl
@[simp] theorem exec_cellSelfReset (s : State) cid : exec (.cellSelfReset cid) s = Sys2Proof.Machine.execCellSelfReset cid s := rfl
@[simp] theorem exec_secVerify (s : State) slot : exec (.secVerify slot) s = Sys2Proof.Machine.execSecVerify slot s := rfl
@[simp] theorem exec_secSetPending (s : State) slot : exec (.secSetPending slot) s = Sys2Proof.Machine.execSecSetPending slot s := rfl
@[simp] theorem exec_secMarkHealthy (s : State) : exec (.secMarkHealthy) s = Sys2Proof.Machine.execSecMarkHealthy s := rfl
@[simp] theorem exec_secCommitArb (s : State) key : exec (.secCommitArb key) s = Sys2Proof.Machine.execSecCommitArb key s := rfl
@[simp] theorem exec_secOwnerSet (s : State) key : exec (.secOwnerSet key) s = Sys2Proof.Machine.execSecOwnerSet key s := rfl
@[simp] theorem exec_secOwnerLock (s : State) key : exec (.secOwnerLock key) s = Sys2Proof.Machine.execSecOwnerLock key s := rfl
@[simp] theorem exec_secJrnWrite (s : State) : exec (.secJrnWrite) s = Sys2Proof.Machine.execSecJrnWrite s := rfl
@[simp] theorem exec_keyStoreViolation (s : State) : exec (.keyStoreViolation) s = Sys2Proof.Machine.execKeyStoreViolation s := rfl
@[simp] theorem exec_attStart (s : State) : exec (.attStart) s = Sys2Proof.Machine.execAttStart s := rfl
@[simp] theorem exec_attChallengeRx (s : State) chip octets : exec (.attChallengeRx chip octets) s = Sys2Proof.Machine.execAttChallengeRx chip octets s := rfl
@[simp] theorem exec_attStatementDone (s : State) chip : exec (.attStatementDone chip) s = Sys2Proof.Machine.execAttStatementDone chip s := rfl
@[simp] theorem exec_attAnswerRx (s : State) id unitB tag answer : exec (.attAnswerRx id unitB tag answer) s = Sys2Proof.Machine.execAttAnswerRx id unitB tag answer s := rfl
@[simp] theorem exec_attTimeout (s : State) id : exec (.attTimeout id) s = Sys2Proof.Machine.execAttTimeout id s := rfl
@[simp] theorem exec_cellUpdIdent (s : State) cid octets : exec (.cellUpdIdent cid octets) s = Sys2Proof.Machine.execCellUpdIdent cid octets s := rfl
@[simp] theorem exec_cellUpdBegin (s : State) cid octets fail : exec (.cellUpdBegin cid octets fail) s = Sys2Proof.Machine.execCellUpdBegin cid octets fail s := rfl
@[simp] theorem exec_cellUpdData (s : State) cid octets fail : exec (.cellUpdData cid octets fail) s = Sys2Proof.Machine.execCellUpdData cid octets fail s := rfl
@[simp] theorem exec_cellUpdEnd (s : State) cid octets : exec (.cellUpdEnd cid octets) s = Sys2Proof.Machine.execCellUpdEnd cid octets s := rfl
@[simp] theorem exec_cellUpdActivate (s : State) cid octets : exec (.cellUpdActivate cid octets) s = Sys2Proof.Machine.execCellUpdActivate cid octets s := rfl
@[simp] theorem exec_hubImageRead (s : State) h octets : exec (.hubImageRead h octets) s = Sys2Proof.Machine.execHubImageRead h octets s := rfl
@[simp] theorem exec_recIdent (s : State) uart octets : exec (.recIdent uart octets) s = Sys2Proof.Machine.execRecIdent uart octets s := rfl
@[simp] theorem exec_recCertRead (s : State) uart octets : exec (.recCertRead uart octets) s = Sys2Proof.Machine.execRecCertRead uart octets s := rfl
@[simp] theorem exec_recBegin (s : State) uart octets fail : exec (.recBegin uart octets fail) s = Sys2Proof.Machine.execRecBegin uart octets fail s := rfl
@[simp] theorem exec_recData (s : State) uart octets fail : exec (.recData uart octets fail) s = Sys2Proof.Machine.execRecData uart octets fail s := rfl
@[simp] theorem exec_recEnd (s : State) uart octets fail : exec (.recEnd uart octets fail) s = Sys2Proof.Machine.execRecEnd uart octets fail s := rfl
@[simp] theorem exec_recBoot (s : State) uart octets : exec (.recBoot uart octets) s = Sys2Proof.Machine.execRecBoot uart octets s := rfl
@[simp] theorem exec_xspiProgram (s : State) addr octets : exec (.xspiProgram addr octets) s = Sys2Proof.Machine.execXspiProgram addr octets s := rfl
@[simp] theorem exec_xspiErase (s : State) addr : exec (.xspiErase addr) s = Sys2Proof.Machine.execXspiErase addr s := rfl
@[simp] theorem exec_timeBaseCheckError (s : State) : exec (.timeBaseCheckError) s = Sys2Proof.Machine.execTimeBaseCheckError s := rfl
@[simp] theorem exec_glacierTimerReset (s : State) : exec (.glacierTimerReset) s = Sys2Proof.Machine.execGlacierTimerReset s := rfl
@[simp] theorem exec_vsbxRelease (s : State) : exec (.vsbxRelease) s = Sys2Proof.Machine.execVsbxRelease s := rfl
@[simp] theorem exec_sbxOscillatorStop (s : State) : exec (.sbxOscillatorStop) s = Sys2Proof.Machine.execSbxOscillatorStop s := rfl
@[simp] theorem exec_resetSourceRelease (s : State) chip src : exec (.resetSourceRelease chip src) s = Sys2Proof.Machine.execResetSourceRelease chip src s := rfl
@[simp] theorem exec_domainPowerUpDone (s : State) : exec (.domainPowerUpDone) s = Sys2Proof.Machine.execDomainPowerUpDone s := rfl
@[simp] theorem exec_startTimeout (s : State) : exec (.startTimeout) s = Sys2Proof.Machine.execStartTimeout s := rfl
@[simp] theorem exec_secCommandDone (s : State) chip fail : exec (.secCommandDone chip fail) s = Sys2Proof.Machine.execSecCommandDone chip fail s := rfl
@[simp] theorem exec_xspiOperationDone (s : State) : exec (.xspiOperationDone) s = Sys2Proof.Machine.execXspiOperationDone s := rfl
@[simp] theorem exec_prbsLockChange (s : State) l xs : exec (.prbsLockChange l xs) s = Sys2Proof.Machine.execPrbsLockChange l xs s := rfl
@[simp] theorem exec_pbxLinkUp (s : State) port : exec (.pbxLinkUp port) s = Sys2Proof.Machine.execPbxLinkUp port s := rfl

end Sys2Proof.Machine
end

