-- ==== Sys2Proof/Laws/Tables.lean ====
section
/-! SUPPORT. The laws of keyed tables, of register fields and of byte memory: a read after a write, what a write leaves alone, and the
canonical form that every memory operation keeps. -/
namespace Sys2Proof.Machine

variable {α : Type}

@[simp] theorem Tbl.find?_nil (i : Nat) : Tbl.find? ([] : Tbl α) i = none := rfl

theorem Tbl.find?_set_same (t : Tbl α) (k : Nat) (v : α) : Tbl.find? (Tbl.set t k v) k = some v := by
  induction t with
  | nil => simp [Tbl.set, Tbl.find?]
  | cons e t ih =>
    obtain ⟨j, x⟩ := e
    simp only [Tbl.set]
    split
    · simp [Tbl.find?]
    · rename_i h
      split
      · simp [Tbl.find?]
      · simp [Tbl.find?, h, ih]

theorem Tbl.find?_set_ne (t : Tbl α) {k i : Nat} (v : α) (h : i ≠ k) : Tbl.find? (Tbl.set t k v) i = Tbl.find? t i := by
  induction t with
  | nil => simp [Tbl.set, Tbl.find?, Ne.symm h]
  | cons e t ih =>
    obtain ⟨j, x⟩ := e
    simp only [Tbl.set]
    split
    · subst_vars; simp [Tbl.find?, Ne.symm h]
    · split
      · simp [Tbl.find?, Ne.symm h]
      · simp [Tbl.find?, ih]

theorem Tbl.find?_erase_same (t : Tbl α) (k : Nat) : Tbl.find? (Tbl.erase t k) k = none := by
  induction t with
  | nil => rfl
  | cons e t ih =>
    obtain ⟨j, x⟩ := e
    simp only [Tbl.erase]
    split
    · exact ih
    · rename_i h; simp [Tbl.find?, h, ih]

theorem Tbl.find?_erase_ne (t : Tbl α) {k i : Nat} (h : i ≠ k) : Tbl.find? (Tbl.erase t k) i = Tbl.find? t i := by
  induction t with
  | nil => rfl
  | cons e t ih =>
    obtain ⟨j, x⟩ := e
    simp only [Tbl.erase]
    split
    · subst_vars; simp [Tbl.find?, Ne.symm h, ih]
    · simp [Tbl.find?, ih]

@[simp] theorem Tbl.get_set_same (t : Tbl α) (k : Nat) (v d : α) : Tbl.get (Tbl.set t k v) k d = v := by
  simp [Tbl.get, Tbl.find?_set_same]

theorem Tbl.get_set_ne (t : Tbl α) {k i : Nat} (v d : α) (h : i ≠ k) : Tbl.get (Tbl.set t k v) i d = Tbl.get t i d := by
  simp [Tbl.get, Tbl.find?_set_ne t v h]

theorem Tbl.get_put_same [DecidableEq α] (t : Tbl α) (k : Nat) (v d : α) : Tbl.get (Tbl.put d t k v) k d = v := by
  unfold Tbl.put
  split
  · simp_all [Tbl.get, Tbl.find?_erase_same]
  · simp

theorem Tbl.get_put_ne [DecidableEq α] (t : Tbl α) {k i : Nat} (v d : α) (h : i ≠ k) :
    Tbl.get (Tbl.put d t k v) i d = Tbl.get t i d := by
  unfold Tbl.put
  split
  · simp [Tbl.get, Tbl.find?_erase_ne t h]
  · exact Tbl.get_set_ne t v d h

/-- A field reads back what it was set to, kept to its width. -/
@[simp] theorem Regs.get_set_same (r : Regs) (f : Fld) (v : Nat) : (r.set f v).get f = v % 2 ^ f.width := by
  unfold Regs.set Regs.get
  simp only
  split
  · rename_i h; simp [Tbl.find?_erase_same, ← h]
  · simp [Tbl.find?_set_same]

/-- Setting a field leaves every field at another bit address alone. -/
theorem Regs.get_set_ne (r : Regs) {f g : Fld} (v : Nat) (h : g.key ≠ f.key) : (r.set f v).get g = r.get g := by
  unfold Regs.set Regs.get
  simp only
  split
  · rw [Tbl.find?_erase_ne _ h]
  · rw [Tbl.find?_set_ne _ _ h]

/-- Fields of one register at different places have different keys. -/
theorem Fld.key_ne_of_lo {f g : Fld} (ha : f.addr = g.addr) (hl : f.lo ≠ g.lo) : f.key ≠ g.key := by
  unfold Fld.key; rw [ha]; omega

/-- Fields of different registers have different keys. -/
theorem Fld.key_ne_of_addr {f g : Fld} (hf : f.lo < 32) (hg : g.lo < 32) (ha : f.addr ≠ g.addr) : f.key ≠ g.key := by
  unfold Fld.key; omega

theorem Tbl.find?_filter_key (t : Tbl α) (p : Nat → Bool) (i : Nat) :
    Tbl.find? (t.filter (fun e => p e.1)) i = if p i then Tbl.find? t i else none := by
  induction t with
  | nil => simp
  | cons e t ih =>
    obtain ⟨j, x⟩ := e
    by_cases hp : p j = true
    · simp only [List.filter_cons, hp, if_true, Tbl.find?]
      by_cases hj : j = i
      · subst hj; simp [hp]
      · simp only [hj, if_false]; exact ih
    · simp only [List.filter_cons, hp, Tbl.find?]
      by_cases hj : j = i
      · subst hj; simp only [hp]; simpa [hp] using ih
      · simp only [hj, if_false]; simpa using ih

/-- A field inside a range that is reset reads its reset value. -/
theorem Regs.get_resetRange_in (r : Regs) {a b : Nat} {f : Fld} (h1 : a * 32 ≤ f.key) (h2 : f.key < b * 32) :
    (r.resetRange a b).get f = f.reset % 2 ^ f.width := by
  unfold Regs.resetRange Regs.get
  rw [Tbl.find?_filter_key r (fun k => decide (k < a * 32) || decide (b * 32 ≤ k))]
  have e1 : ¬ f.key < a * 32 := by omega
  have e2 : ¬ b * 32 ≤ f.key := by omega
  simp [e1, e2]

/-- A field outside a range that is reset keeps its value. -/
theorem Regs.get_resetRange_out (r : Regs) {a b : Nat} {f : Fld} (h : f.key < a * 32 ∨ b * 32 ≤ f.key) :
    (r.resetRange a b).get f = r.get f := by
  unfold Regs.resetRange Regs.get
  rw [Tbl.find?_filter_key r (fun k => decide (k < a * 32) || decide (b * 32 ≤ k))]
  have : (decide (f.key < a * 32) || decide (b * 32 ≤ f.key)) = true := by simpa using h
  simp [this]

/-- A field reads within its width. -/
theorem Regs.get_lt (r : Regs) (f : Fld) : r.get f < 2 ^ f.width := Nat.mod_lt _ (Nat.two_pow_pos _)

@[simp] theorem Regs.get_nil (f : Fld) : Regs.get [] f = f.reset % 2 ^ f.width := rfl

/-! ### Byte memory -/

@[simp] theorem Mem.byte_setByte_same (m : Mem) (a : Nat) (v : Byte) : (m.setByte a v).byte a = v := Tbl.get_put_same ..

theorem Mem.byte_setByte_ne (m : Mem) {a b : Nat} (v : Byte) (h : b ≠ a) : (m.setByte a v).byte b = m.byte b :=
  Tbl.get_put_ne _ _ _ h

/-- A number written leaves every byte outside it alone. -/
theorem Mem.byte_write_outside (m : Mem) (a n v b : Nat) (h : b < a ∨ a + n ≤ b) : (m.write a n v).byte b = m.byte b := by
  induction n generalizing m a v with
  | zero => rfl
  | succ n ih =>
    simp only [Mem.write]
    rw [ih _ _ _ (by omega), Mem.byte_setByte_ne _ _ (by omega)]

/-- A run of bytes written leaves every byte outside it alone. -/
theorem Mem.byte_writeBytes_outside (m : Mem) (a b : Nat) (l : List Nat) (h : b < a ∨ a + l.length ≤ b) :
    (m.writeBytes a l).byte b = m.byte b := by
  induction l generalizing m a with
  | nil => rfl
  | cons x l ih =>
    simp only [Mem.writeBytes]
    simp only [List.length_cons] at h
    rw [ih _ _ (by omega), Mem.byte_setByte_ne _ _ (by omega)]

theorem Tbl.above_mono {t : Tbl α} {b c : Nat} (h : c ≤ b) (ht : Tbl.above t b = true) : Tbl.above t c = true := by
  cases t with
  | nil => rfl
  | cons e t => obtain ⟨k, x⟩ := e; simp only [Tbl.above, Bool.and_eq_true, decide_eq_true_eq] at *; exact ⟨by omega, ht.2⟩

theorem Tbl.wf_of_above {t : Tbl α} {b : Nat} (h : Tbl.above t b = true) : Tbl.wf t = true := by
  cases t with
  | nil => rfl
  | cons e t => obtain ⟨k, x⟩ := e; simp_all [Tbl.above, Tbl.wf]

theorem Tbl.above_set {t : Tbl α} {b k : Nat} (v : α) (hb : b < k) (h : Tbl.above t b = true) : Tbl.above (Tbl.set t k v) b = true := by
  induction t generalizing b with
  | nil => simp [Tbl.set, Tbl.above, hb]
  | cons e t ih =>
    obtain ⟨j, x⟩ := e
    simp only [Tbl.above, Bool.and_eq_true, decide_eq_true_eq] at h
    simp only [Tbl.set]
    split
    · subst_vars; simp [Tbl.above, h]
    · split
      · simp only [Tbl.above, Bool.and_eq_true, decide_eq_true_eq]; exact ⟨hb, by assumption, h.2⟩
      · simp only [Tbl.above, Bool.and_eq_true, decide_eq_true_eq]; exact ⟨h.1, ih (by omega) h.2⟩

theorem Tbl.above_erase {t : Tbl α} {b : Nat} (k : Nat) (h : Tbl.above t b = true) : Tbl.above (Tbl.erase t k) b = true := by
  induction t generalizing b with
  | nil => rfl
  | cons e t ih =>
    obtain ⟨j, x⟩ := e
    simp only [Tbl.above, Bool.and_eq_true, decide_eq_true_eq] at h
    simp only [Tbl.erase]
    split
    · exact Tbl.above_mono (Nat.le_of_lt h.1) (ih h.2)
    · simp only [Tbl.above, Bool.and_eq_true, decide_eq_true_eq]; exact ⟨h.1, ih h.2⟩

/-- A write keeps the keys strictly rising. -/
theorem Tbl.wf_set {t : Tbl α} (k : Nat) (v : α) (h : Tbl.wf t = true) : Tbl.wf (Tbl.set t k v) = true := by
  cases t with
  | nil => rfl
  | cons e t =>
    obtain ⟨j, x⟩ := e
    simp only [Tbl.wf] at h
    simp only [Tbl.set]
    split
    · subst_vars; exact h
    · split
      · simp only [Tbl.wf, Tbl.above, Bool.and_eq_true, decide_eq_true_eq]; exact ⟨by assumption, h⟩
      · exact Tbl.above_set v (by omega) h

theorem Tbl.wf_erase {t : Tbl α} (k : Nat) (h : Tbl.wf t = true) : Tbl.wf (Tbl.erase t k) = true := by
  cases t with
  | nil => rfl
  | cons e t =>
    obtain ⟨j, x⟩ := e
    simp only [Tbl.wf] at h
    simp only [Tbl.erase]
    split
    · exact Tbl.wf_of_above (Tbl.above_erase k h)
    · exact Tbl.above_erase k h

theorem Tbl.all_set {t : Tbl α} {p : Nat × α → Bool} (k : Nat) (v : α) (hv : p (k, v) = true) (h : t.all p = true) :
    (Tbl.set t k v).all p = true := by
  induction t with
  | nil => simp [Tbl.set, hv]
  | cons e t ih =>
    obtain ⟨j, x⟩ := e
    simp only [List.all_cons, Bool.and_eq_true] at h
    simp only [Tbl.set]
    split
    · simp [hv, h.2]
    · split
      · simp [hv, h.1, h.2]
      · simp [h.1, ih h.2]

theorem Tbl.all_erase {t : Tbl α} {p : Nat × α → Bool} (k : Nat) (h : t.all p = true) : (Tbl.erase t k).all p = true := by
  induction t with
  | nil => rfl
  | cons e t ih =>
    obtain ⟨j, x⟩ := e
    simp only [List.all_cons, Bool.and_eq_true] at h
    simp only [Tbl.erase]
    split
    · exact ih h.2
    · simp [h.1, ih h.2]

/-- A byte written keeps memory canonical. -/
theorem Mem.wf_setByte {m : Mem} (a : Nat) (v : Byte) (h : m.wf = true) : (m.setByte a v).wf = true := by
  simp only [Mem.wf, Bool.and_eq_true] at *
  unfold Mem.setByte Tbl.put
  split
  · exact ⟨Tbl.wf_erase a h.1, Tbl.all_erase a h.2⟩
  · exact ⟨Tbl.wf_set a v h.1, Tbl.all_set a v (by simpa using ‹_›) h.2⟩

/-- A number written keeps memory canonical. -/
theorem Mem.wf_write {m : Mem} (a n v : Nat) (h : m.wf = true) : (m.write a n v).wf = true := by
  induction n generalizing m a v with
  | zero => exact h
  | succ n ih => exact ih _ _ (Mem.wf_setByte a _ h)

/-- A run of bytes written keeps memory canonical. -/
theorem Mem.wf_writeBytes {m : Mem} (a : Nat) (l : List Nat) (h : m.wf = true) : (m.writeBytes a l).wf = true := by
  induction l generalizing m a with
  | nil => exact h
  | cons x l ih => exact ih _ (Mem.wf_setByte a _ h)

end Sys2Proof.Machine
end

