-- ==== Sys2Proof/Laws/State.lean ====
section
/-! SUPPORT. What each named update of the state leaves in each field: one lemma for each field and update, true by computation,
so that no later proof unfolds a record update. -/
namespace Sys2Proof.Machine

/-! ### U.wr -/
@[simp] theorem U.wr_regs (u : U) (f : Fld) (x : Nat) : (u.wr f x).regs = u.regs.set f x := rfl
@[simp] theorem U.wr_mem (u : U) (f : Fld) (x : Nat) : (u.wr f x).mem = u.mem := rfl
@[simp] theorem U.wr_flash (u : U) (f : Fld) (x : Nat) : (u.wr f x).flash = u.flash := rfl
@[simp] theorem U.wr_recs (u : U) (f : Fld) (x : Nat) : (u.wr f x).recs = u.recs := rfl
@[simp] theorem U.wr_act (u : U) (f : Fld) (x : Nat) : (u.wr f x).act = u.act := rfl
@[simp] theorem U.wr_evq (u : U) (f : Fld) (x : Nat) : (u.wr f x).evq = u.evq := rfl
@[simp] theorem U.wr_tim (u : U) (f : Fld) (x : Nat) : (u.wr f x).tim = u.tim := rfl
@[simp] theorem U.wr_sch (u : U) (f : Fld) (x : Nat) : (u.wr f x).sch = u.sch := rfl
@[simp] theorem U.wr_dep (u : U) (f : Fld) (x : Nat) : (u.wr f x).dep = u.dep := rfl
@[simp] theorem U.wr_sbx (u : U) (f : Fld) (x : Nat) : (u.wr f x).sbx = u.sbx := rfl
@[simp] theorem U.wr_sdl (u : U) (f : Fld) (x : Nat) : (u.wr f x).sdl = u.sdl := rfl
@[simp] theorem U.wr_lf (u : U) (f : Fld) (x : Nat) : (u.wr f x).lf = u.lf := rfl
@[simp] theorem U.wr_topo (u : U) (f : Fld) (x : Nat) : (u.wr f x).topo = u.topo := rfl
@[simp] theorem U.wr_arms (u : U) (f : Fld) (x : Nat) : (u.wr f x).arms = u.arms := rfl
@[simp] theorem U.wr_ports (u : U) (f : Fld) (x : Nat) : (u.wr f x).ports = u.ports := rfl
@[simp] theorem U.wr_mons (u : U) (f : Fld) (x : Nat) : (u.wr f x).mons = u.mons := rfl
@[simp] theorem U.wr_pbx (u : U) (f : Fld) (x : Nat) : (u.wr f x).pbx = u.pbx := rfl
@[simp] theorem U.wr_lpe (u : U) (f : Fld) (x : Nat) : (u.wr f x).lpe = u.lpe := rfl
@[simp] theorem U.wr_leads (u : U) (f : Fld) (x : Nat) : (u.wr f x).leads = u.leads := rfl
@[simp] theorem U.wr_fwId (u : U) (f : Fld) (x : Nat) : (u.wr f x).fwId = u.fwId := rfl
@[simp] theorem U.wr_lanes (u : U) (f : Fld) (x : Nat) : (u.wr f x).lanes = u.lanes := rfl
@[simp] theorem U.wr_serial (u : U) (f : Fld) (x : Nat) : (u.wr f x).serial = u.serial := rfl
@[simp] theorem U.wr_mlk (u : U) (f : Fld) (x : Nat) : (u.wr f x).mlk = u.mlk := rfl
@[simp] theorem U.wr_cap (u : U) (f : Fld) (x : Nat) : (u.wr f x).cap = u.cap := rfl
@[simp] theorem U.wr_snp (u : U) (f : Fld) (x : Nat) : (u.wr f x).snp = u.snp := rfl
@[simp] theorem U.wr_sys (u : U) (f : Fld) (x : Nat) : (u.wr f x).sys = u.sys := rfl
@[simp] theorem U.wr_sec (u : U) (f : Fld) (x : Nat) : (u.wr f x).sec = u.sec := rfl
@[simp] theorem U.wr_memh (u : U) (f : Fld) (x : Nat) : (u.wr f x).memh = u.memh := rfl
@[simp] theorem U.wr_out (u : U) (f : Fld) (x : Nat) : (u.wr f x).out = u.out := rfl
@[simp] theorem U.wr_free (u : U) (f : Fld) (x : Nat) : (u.wr f x).free = u.free := rfl

/-! ### U.emit -/
@[simp] theorem U.emit_regs (u : U) (o : Output) : (u.emit o).regs = u.regs := rfl
@[simp] theorem U.emit_mem (u : U) (o : Output) : (u.emit o).mem = u.mem := rfl
@[simp] theorem U.emit_flash (u : U) (o : Output) : (u.emit o).flash = u.flash := rfl
@[simp] theorem U.emit_recs (u : U) (o : Output) : (u.emit o).recs = u.recs := rfl
@[simp] theorem U.emit_act (u : U) (o : Output) : (u.emit o).act = u.act := rfl
@[simp] theorem U.emit_evq (u : U) (o : Output) : (u.emit o).evq = u.evq := rfl
@[simp] theorem U.emit_tim (u : U) (o : Output) : (u.emit o).tim = u.tim := rfl
@[simp] theorem U.emit_sch (u : U) (o : Output) : (u.emit o).sch = u.sch := rfl
@[simp] theorem U.emit_dep (u : U) (o : Output) : (u.emit o).dep = u.dep := rfl
@[simp] theorem U.emit_sbx (u : U) (o : Output) : (u.emit o).sbx = u.sbx := rfl
@[simp] theorem U.emit_sdl (u : U) (o : Output) : (u.emit o).sdl = u.sdl := rfl
@[simp] theorem U.emit_lf (u : U) (o : Output) : (u.emit o).lf = u.lf := rfl
@[simp] theorem U.emit_topo (u : U) (o : Output) : (u.emit o).topo = u.topo := rfl
@[simp] theorem U.emit_arms (u : U) (o : Output) : (u.emit o).arms = u.arms := rfl
@[simp] theorem U.emit_ports (u : U) (o : Output) : (u.emit o).ports = u.ports := rfl
@[simp] theorem U.emit_mons (u : U) (o : Output) : (u.emit o).mons = u.mons := rfl
@[simp] theorem U.emit_pbx (u : U) (o : Output) : (u.emit o).pbx = u.pbx := rfl
@[simp] theorem U.emit_lpe (u : U) (o : Output) : (u.emit o).lpe = u.lpe := rfl
@[simp] theorem U.emit_leads (u : U) (o : Output) : (u.emit o).leads = u.leads := rfl
@[simp] theorem U.emit_fwId (u : U) (o : Output) : (u.emit o).fwId = u.fwId := rfl
@[simp] theorem U.emit_lanes (u : U) (o : Output) : (u.emit o).lanes = u.lanes := rfl
@[simp] theorem U.emit_serial (u : U) (o : Output) : (u.emit o).serial = u.serial := rfl
@[simp] theorem U.emit_mlk (u : U) (o : Output) : (u.emit o).mlk = u.mlk := rfl
@[simp] theorem U.emit_cap (u : U) (o : Output) : (u.emit o).cap = u.cap := rfl
@[simp] theorem U.emit_snp (u : U) (o : Output) : (u.emit o).snp = u.snp := rfl
@[simp] theorem U.emit_sys (u : U) (o : Output) : (u.emit o).sys = u.sys := rfl
@[simp] theorem U.emit_sec (u : U) (o : Output) : (u.emit o).sec = u.sec := rfl
@[simp] theorem U.emit_memh (u : U) (o : Output) : (u.emit o).memh = u.memh := rfl
@[simp] theorem U.emit_out (u : U) (o : Output) : (u.emit o).out = u.out ++ [o] := rfl
@[simp] theorem U.emit_free (u : U) (o : Output) : (u.emit o).free = u.free := rfl

/-! ### U.withTim -/
@[simp] theorem U.withTim_regs (u : U) (f : TimHid → TimHid) : (u.withTim f).regs = u.regs := rfl
@[simp] theorem U.withTim_mem (u : U) (f : TimHid → TimHid) : (u.withTim f).mem = u.mem := rfl
@[simp] theorem U.withTim_flash (u : U) (f : TimHid → TimHid) : (u.withTim f).flash = u.flash := rfl
@[simp] theorem U.withTim_recs (u : U) (f : TimHid → TimHid) : (u.withTim f).recs = u.recs := rfl
@[simp] theorem U.withTim_act (u : U) (f : TimHid → TimHid) : (u.withTim f).act = u.act := rfl
@[simp] theorem U.withTim_evq (u : U) (f : TimHid → TimHid) : (u.withTim f).evq = u.evq := rfl
@[simp] theorem U.withTim_tim (u : U) (f : TimHid → TimHid) : (u.withTim f).tim = f u.tim := rfl
@[simp] theorem U.withTim_sch (u : U) (f : TimHid → TimHid) : (u.withTim f).sch = u.sch := rfl
@[simp] theorem U.withTim_dep (u : U) (f : TimHid → TimHid) : (u.withTim f).dep = u.dep := rfl
@[simp] theorem U.withTim_sbx (u : U) (f : TimHid → TimHid) : (u.withTim f).sbx = u.sbx := rfl
@[simp] theorem U.withTim_sdl (u : U) (f : TimHid → TimHid) : (u.withTim f).sdl = u.sdl := rfl
@[simp] theorem U.withTim_lf (u : U) (f : TimHid → TimHid) : (u.withTim f).lf = u.lf := rfl
@[simp] theorem U.withTim_topo (u : U) (f : TimHid → TimHid) : (u.withTim f).topo = u.topo := rfl
@[simp] theorem U.withTim_arms (u : U) (f : TimHid → TimHid) : (u.withTim f).arms = u.arms := rfl
@[simp] theorem U.withTim_ports (u : U) (f : TimHid → TimHid) : (u.withTim f).ports = u.ports := rfl
@[simp] theorem U.withTim_mons (u : U) (f : TimHid → TimHid) : (u.withTim f).mons = u.mons := rfl
@[simp] theorem U.withTim_pbx (u : U) (f : TimHid → TimHid) : (u.withTim f).pbx = u.pbx := rfl
@[simp] theorem U.withTim_lpe (u : U) (f : TimHid → TimHid) : (u.withTim f).lpe = u.lpe := rfl
@[simp] theorem U.withTim_leads (u : U) (f : TimHid → TimHid) : (u.withTim f).leads = u.leads := rfl
@[simp] theorem U.withTim_fwId (u : U) (f : TimHid → TimHid) : (u.withTim f).fwId = u.fwId := rfl
@[simp] theorem U.withTim_lanes (u : U) (f : TimHid → TimHid) : (u.withTim f).lanes = u.lanes := rfl
@[simp] theorem U.withTim_serial (u : U) (f : TimHid → TimHid) : (u.withTim f).serial = u.serial := rfl
@[simp] theorem U.withTim_mlk (u : U) (f : TimHid → TimHid) : (u.withTim f).mlk = u.mlk := rfl
@[simp] theorem U.withTim_cap (u : U) (f : TimHid → TimHid) : (u.withTim f).cap = u.cap := rfl
@[simp] theorem U.withTim_snp (u : U) (f : TimHid → TimHid) : (u.withTim f).snp = u.snp := rfl
@[simp] theorem U.withTim_sys (u : U) (f : TimHid → TimHid) : (u.withTim f).sys = u.sys := rfl
@[simp] theorem U.withTim_sec (u : U) (f : TimHid → TimHid) : (u.withTim f).sec = u.sec := rfl
@[simp] theorem U.withTim_memh (u : U) (f : TimHid → TimHid) : (u.withTim f).memh = u.memh := rfl
@[simp] theorem U.withTim_out (u : U) (f : TimHid → TimHid) : (u.withTim f).out = u.out := rfl
@[simp] theorem U.withTim_free (u : U) (f : TimHid → TimHid) : (u.withTim f).free = u.free := rfl

/-! ### U.withSch -/
@[simp] theorem U.withSch_regs (u : U) (f : Sched → Sched) : (u.withSch f).regs = u.regs := rfl
@[simp] theorem U.withSch_mem (u : U) (f : Sched → Sched) : (u.withSch f).mem = u.mem := rfl
@[simp] theorem U.withSch_flash (u : U) (f : Sched → Sched) : (u.withSch f).flash = u.flash := rfl
@[simp] theorem U.withSch_recs (u : U) (f : Sched → Sched) : (u.withSch f).recs = u.recs := rfl
@[simp] theorem U.withSch_act (u : U) (f : Sched → Sched) : (u.withSch f).act = u.act := rfl
@[simp] theorem U.withSch_evq (u : U) (f : Sched → Sched) : (u.withSch f).evq = u.evq := rfl
@[simp] theorem U.withSch_tim (u : U) (f : Sched → Sched) : (u.withSch f).tim = u.tim := rfl
@[simp] theorem U.withSch_sch (u : U) (f : Sched → Sched) : (u.withSch f).sch = f u.sch := rfl
@[simp] theorem U.withSch_dep (u : U) (f : Sched → Sched) : (u.withSch f).dep = u.dep := rfl
@[simp] theorem U.withSch_sbx (u : U) (f : Sched → Sched) : (u.withSch f).sbx = u.sbx := rfl
@[simp] theorem U.withSch_sdl (u : U) (f : Sched → Sched) : (u.withSch f).sdl = u.sdl := rfl
@[simp] theorem U.withSch_lf (u : U) (f : Sched → Sched) : (u.withSch f).lf = u.lf := rfl
@[simp] theorem U.withSch_topo (u : U) (f : Sched → Sched) : (u.withSch f).topo = u.topo := rfl
@[simp] theorem U.withSch_arms (u : U) (f : Sched → Sched) : (u.withSch f).arms = u.arms := rfl
@[simp] theorem U.withSch_ports (u : U) (f : Sched → Sched) : (u.withSch f).ports = u.ports := rfl
@[simp] theorem U.withSch_mons (u : U) (f : Sched → Sched) : (u.withSch f).mons = u.mons := rfl
@[simp] theorem U.withSch_pbx (u : U) (f : Sched → Sched) : (u.withSch f).pbx = u.pbx := rfl
@[simp] theorem U.withSch_lpe (u : U) (f : Sched → Sched) : (u.withSch f).lpe = u.lpe := rfl
@[simp] theorem U.withSch_leads (u : U) (f : Sched → Sched) : (u.withSch f).leads = u.leads := rfl
@[simp] theorem U.withSch_fwId (u : U) (f : Sched → Sched) : (u.withSch f).fwId = u.fwId := rfl
@[simp] theorem U.withSch_lanes (u : U) (f : Sched → Sched) : (u.withSch f).lanes = u.lanes := rfl
@[simp] theorem U.withSch_serial (u : U) (f : Sched → Sched) : (u.withSch f).serial = u.serial := rfl
@[simp] theorem U.withSch_mlk (u : U) (f : Sched → Sched) : (u.withSch f).mlk = u.mlk := rfl
@[simp] theorem U.withSch_cap (u : U) (f : Sched → Sched) : (u.withSch f).cap = u.cap := rfl
@[simp] theorem U.withSch_snp (u : U) (f : Sched → Sched) : (u.withSch f).snp = u.snp := rfl
@[simp] theorem U.withSch_sys (u : U) (f : Sched → Sched) : (u.withSch f).sys = u.sys := rfl
@[simp] theorem U.withSch_sec (u : U) (f : Sched → Sched) : (u.withSch f).sec = u.sec := rfl
@[simp] theorem U.withSch_memh (u : U) (f : Sched → Sched) : (u.withSch f).memh = u.memh := rfl
@[simp] theorem U.withSch_out (u : U) (f : Sched → Sched) : (u.withSch f).out = u.out := rfl
@[simp] theorem U.withSch_free (u : U) (f : Sched → Sched) : (u.withSch f).free = u.free := rfl

/-! ### U.withDep -/
@[simp] theorem U.withDep_regs (u : U) (f : Dep → Dep) : (u.withDep f).regs = u.regs := rfl
@[simp] theorem U.withDep_mem (u : U) (f : Dep → Dep) : (u.withDep f).mem = u.mem := rfl
@[simp] theorem U.withDep_flash (u : U) (f : Dep → Dep) : (u.withDep f).flash = u.flash := rfl
@[simp] theorem U.withDep_recs (u : U) (f : Dep → Dep) : (u.withDep f).recs = u.recs := rfl
@[simp] theorem U.withDep_act (u : U) (f : Dep → Dep) : (u.withDep f).act = u.act := rfl
@[simp] theorem U.withDep_evq (u : U) (f : Dep → Dep) : (u.withDep f).evq = u.evq := rfl
@[simp] theorem U.withDep_tim (u : U) (f : Dep → Dep) : (u.withDep f).tim = u.tim := rfl
@[simp] theorem U.withDep_sch (u : U) (f : Dep → Dep) : (u.withDep f).sch = u.sch := rfl
@[simp] theorem U.withDep_dep (u : U) (f : Dep → Dep) : (u.withDep f).dep = f u.dep := rfl
@[simp] theorem U.withDep_sbx (u : U) (f : Dep → Dep) : (u.withDep f).sbx = u.sbx := rfl
@[simp] theorem U.withDep_sdl (u : U) (f : Dep → Dep) : (u.withDep f).sdl = u.sdl := rfl
@[simp] theorem U.withDep_lf (u : U) (f : Dep → Dep) : (u.withDep f).lf = u.lf := rfl
@[simp] theorem U.withDep_topo (u : U) (f : Dep → Dep) : (u.withDep f).topo = u.topo := rfl
@[simp] theorem U.withDep_arms (u : U) (f : Dep → Dep) : (u.withDep f).arms = u.arms := rfl
@[simp] theorem U.withDep_ports (u : U) (f : Dep → Dep) : (u.withDep f).ports = u.ports := rfl
@[simp] theorem U.withDep_mons (u : U) (f : Dep → Dep) : (u.withDep f).mons = u.mons := rfl
@[simp] theorem U.withDep_pbx (u : U) (f : Dep → Dep) : (u.withDep f).pbx = u.pbx := rfl
@[simp] theorem U.withDep_lpe (u : U) (f : Dep → Dep) : (u.withDep f).lpe = u.lpe := rfl
@[simp] theorem U.withDep_leads (u : U) (f : Dep → Dep) : (u.withDep f).leads = u.leads := rfl
@[simp] theorem U.withDep_fwId (u : U) (f : Dep → Dep) : (u.withDep f).fwId = u.fwId := rfl
@[simp] theorem U.withDep_lanes (u : U) (f : Dep → Dep) : (u.withDep f).lanes = u.lanes := rfl
@[simp] theorem U.withDep_serial (u : U) (f : Dep → Dep) : (u.withDep f).serial = u.serial := rfl
@[simp] theorem U.withDep_mlk (u : U) (f : Dep → Dep) : (u.withDep f).mlk = u.mlk := rfl
@[simp] theorem U.withDep_cap (u : U) (f : Dep → Dep) : (u.withDep f).cap = u.cap := rfl
@[simp] theorem U.withDep_snp (u : U) (f : Dep → Dep) : (u.withDep f).snp = u.snp := rfl
@[simp] theorem U.withDep_sys (u : U) (f : Dep → Dep) : (u.withDep f).sys = u.sys := rfl
@[simp] theorem U.withDep_sec (u : U) (f : Dep → Dep) : (u.withDep f).sec = u.sec := rfl
@[simp] theorem U.withDep_memh (u : U) (f : Dep → Dep) : (u.withDep f).memh = u.memh := rfl
@[simp] theorem U.withDep_out (u : U) (f : Dep → Dep) : (u.withDep f).out = u.out := rfl
@[simp] theorem U.withDep_free (u : U) (f : Dep → Dep) : (u.withDep f).free = u.free := rfl

/-! ### U.withSbx -/
@[simp] theorem U.withSbx_regs (u : U) (f : Sbx → Sbx) : (u.withSbx f).regs = u.regs := rfl
@[simp] theorem U.withSbx_mem (u : U) (f : Sbx → Sbx) : (u.withSbx f).mem = u.mem := rfl
@[simp] theorem U.withSbx_flash (u : U) (f : Sbx → Sbx) : (u.withSbx f).flash = u.flash := rfl
@[simp] theorem U.withSbx_recs (u : U) (f : Sbx → Sbx) : (u.withSbx f).recs = u.recs := rfl
@[simp] theorem U.withSbx_act (u : U) (f : Sbx → Sbx) : (u.withSbx f).act = u.act := rfl
@[simp] theorem U.withSbx_evq (u : U) (f : Sbx → Sbx) : (u.withSbx f).evq = u.evq := rfl
@[simp] theorem U.withSbx_tim (u : U) (f : Sbx → Sbx) : (u.withSbx f).tim = u.tim := rfl
@[simp] theorem U.withSbx_sch (u : U) (f : Sbx → Sbx) : (u.withSbx f).sch = u.sch := rfl
@[simp] theorem U.withSbx_dep (u : U) (f : Sbx → Sbx) : (u.withSbx f).dep = u.dep := rfl
@[simp] theorem U.withSbx_sbx (u : U) (f : Sbx → Sbx) : (u.withSbx f).sbx = f u.sbx := rfl
@[simp] theorem U.withSbx_sdl (u : U) (f : Sbx → Sbx) : (u.withSbx f).sdl = u.sdl := rfl
@[simp] theorem U.withSbx_lf (u : U) (f : Sbx → Sbx) : (u.withSbx f).lf = u.lf := rfl
@[simp] theorem U.withSbx_topo (u : U) (f : Sbx → Sbx) : (u.withSbx f).topo = u.topo := rfl
@[simp] theorem U.withSbx_arms (u : U) (f : Sbx → Sbx) : (u.withSbx f).arms = u.arms := rfl
@[simp] theorem U.withSbx_ports (u : U) (f : Sbx → Sbx) : (u.withSbx f).ports = u.ports := rfl
@[simp] theorem U.withSbx_mons (u : U) (f : Sbx → Sbx) : (u.withSbx f).mons = u.mons := rfl
@[simp] theorem U.withSbx_pbx (u : U) (f : Sbx → Sbx) : (u.withSbx f).pbx = u.pbx := rfl
@[simp] theorem U.withSbx_lpe (u : U) (f : Sbx → Sbx) : (u.withSbx f).lpe = u.lpe := rfl
@[simp] theorem U.withSbx_leads (u : U) (f : Sbx → Sbx) : (u.withSbx f).leads = u.leads := rfl
@[simp] theorem U.withSbx_fwId (u : U) (f : Sbx → Sbx) : (u.withSbx f).fwId = u.fwId := rfl
@[simp] theorem U.withSbx_lanes (u : U) (f : Sbx → Sbx) : (u.withSbx f).lanes = u.lanes := rfl
@[simp] theorem U.withSbx_serial (u : U) (f : Sbx → Sbx) : (u.withSbx f).serial = u.serial := rfl
@[simp] theorem U.withSbx_mlk (u : U) (f : Sbx → Sbx) : (u.withSbx f).mlk = u.mlk := rfl
@[simp] theorem U.withSbx_cap (u : U) (f : Sbx → Sbx) : (u.withSbx f).cap = u.cap := rfl
@[simp] theorem U.withSbx_snp (u : U) (f : Sbx → Sbx) : (u.withSbx f).snp = u.snp := rfl
@[simp] theorem U.withSbx_sys (u : U) (f : Sbx → Sbx) : (u.withSbx f).sys = u.sys := rfl
@[simp] theorem U.withSbx_sec (u : U) (f : Sbx → Sbx) : (u.withSbx f).sec = u.sec := rfl
@[simp] theorem U.withSbx_memh (u : U) (f : Sbx → Sbx) : (u.withSbx f).memh = u.memh := rfl
@[simp] theorem U.withSbx_out (u : U) (f : Sbx → Sbx) : (u.withSbx f).out = u.out := rfl
@[simp] theorem U.withSbx_free (u : U) (f : Sbx → Sbx) : (u.withSbx f).free = u.free := rfl

/-! ### U.withSdl -/
@[simp] theorem U.withSdl_regs (u : U) (f : Sdl → Sdl) : (u.withSdl f).regs = u.regs := rfl
@[simp] theorem U.withSdl_mem (u : U) (f : Sdl → Sdl) : (u.withSdl f).mem = u.mem := rfl
@[simp] theorem U.withSdl_flash (u : U) (f : Sdl → Sdl) : (u.withSdl f).flash = u.flash := rfl
@[simp] theorem U.withSdl_recs (u : U) (f : Sdl → Sdl) : (u.withSdl f).recs = u.recs := rfl
@[simp] theorem U.withSdl_act (u : U) (f : Sdl → Sdl) : (u.withSdl f).act = u.act := rfl
@[simp] theorem U.withSdl_evq (u : U) (f : Sdl → Sdl) : (u.withSdl f).evq = u.evq := rfl
@[simp] theorem U.withSdl_tim (u : U) (f : Sdl → Sdl) : (u.withSdl f).tim = u.tim := rfl
@[simp] theorem U.withSdl_sch (u : U) (f : Sdl → Sdl) : (u.withSdl f).sch = u.sch := rfl
@[simp] theorem U.withSdl_dep (u : U) (f : Sdl → Sdl) : (u.withSdl f).dep = u.dep := rfl
@[simp] theorem U.withSdl_sbx (u : U) (f : Sdl → Sdl) : (u.withSdl f).sbx = u.sbx := rfl
@[simp] theorem U.withSdl_sdl (u : U) (f : Sdl → Sdl) : (u.withSdl f).sdl = f u.sdl := rfl
@[simp] theorem U.withSdl_lf (u : U) (f : Sdl → Sdl) : (u.withSdl f).lf = u.lf := rfl
@[simp] theorem U.withSdl_topo (u : U) (f : Sdl → Sdl) : (u.withSdl f).topo = u.topo := rfl
@[simp] theorem U.withSdl_arms (u : U) (f : Sdl → Sdl) : (u.withSdl f).arms = u.arms := rfl
@[simp] theorem U.withSdl_ports (u : U) (f : Sdl → Sdl) : (u.withSdl f).ports = u.ports := rfl
@[simp] theorem U.withSdl_mons (u : U) (f : Sdl → Sdl) : (u.withSdl f).mons = u.mons := rfl
@[simp] theorem U.withSdl_pbx (u : U) (f : Sdl → Sdl) : (u.withSdl f).pbx = u.pbx := rfl
@[simp] theorem U.withSdl_lpe (u : U) (f : Sdl → Sdl) : (u.withSdl f).lpe = u.lpe := rfl
@[simp] theorem U.withSdl_leads (u : U) (f : Sdl → Sdl) : (u.withSdl f).leads = u.leads := rfl
@[simp] theorem U.withSdl_fwId (u : U) (f : Sdl → Sdl) : (u.withSdl f).fwId = u.fwId := rfl
@[simp] theorem U.withSdl_lanes (u : U) (f : Sdl → Sdl) : (u.withSdl f).lanes = u.lanes := rfl
@[simp] theorem U.withSdl_serial (u : U) (f : Sdl → Sdl) : (u.withSdl f).serial = u.serial := rfl
@[simp] theorem U.withSdl_mlk (u : U) (f : Sdl → Sdl) : (u.withSdl f).mlk = u.mlk := rfl
@[simp] theorem U.withSdl_cap (u : U) (f : Sdl → Sdl) : (u.withSdl f).cap = u.cap := rfl
@[simp] theorem U.withSdl_snp (u : U) (f : Sdl → Sdl) : (u.withSdl f).snp = u.snp := rfl
@[simp] theorem U.withSdl_sys (u : U) (f : Sdl → Sdl) : (u.withSdl f).sys = u.sys := rfl
@[simp] theorem U.withSdl_sec (u : U) (f : Sdl → Sdl) : (u.withSdl f).sec = u.sec := rfl
@[simp] theorem U.withSdl_memh (u : U) (f : Sdl → Sdl) : (u.withSdl f).memh = u.memh := rfl
@[simp] theorem U.withSdl_out (u : U) (f : Sdl → Sdl) : (u.withSdl f).out = u.out := rfl
@[simp] theorem U.withSdl_free (u : U) (f : Sdl → Sdl) : (u.withSdl f).free = u.free := rfl

/-! ### U.withPbx -/
@[simp] theorem U.withPbx_regs (u : U) (f : Pbx → Pbx) : (u.withPbx f).regs = u.regs := rfl
@[simp] theorem U.withPbx_mem (u : U) (f : Pbx → Pbx) : (u.withPbx f).mem = u.mem := rfl
@[simp] theorem U.withPbx_flash (u : U) (f : Pbx → Pbx) : (u.withPbx f).flash = u.flash := rfl
@[simp] theorem U.withPbx_recs (u : U) (f : Pbx → Pbx) : (u.withPbx f).recs = u.recs := rfl
@[simp] theorem U.withPbx_act (u : U) (f : Pbx → Pbx) : (u.withPbx f).act = u.act := rfl
@[simp] theorem U.withPbx_evq (u : U) (f : Pbx → Pbx) : (u.withPbx f).evq = u.evq := rfl
@[simp] theorem U.withPbx_tim (u : U) (f : Pbx → Pbx) : (u.withPbx f).tim = u.tim := rfl
@[simp] theorem U.withPbx_sch (u : U) (f : Pbx → Pbx) : (u.withPbx f).sch = u.sch := rfl
@[simp] theorem U.withPbx_dep (u : U) (f : Pbx → Pbx) : (u.withPbx f).dep = u.dep := rfl
@[simp] theorem U.withPbx_sbx (u : U) (f : Pbx → Pbx) : (u.withPbx f).sbx = u.sbx := rfl
@[simp] theorem U.withPbx_sdl (u : U) (f : Pbx → Pbx) : (u.withPbx f).sdl = u.sdl := rfl
@[simp] theorem U.withPbx_lf (u : U) (f : Pbx → Pbx) : (u.withPbx f).lf = u.lf := rfl
@[simp] theorem U.withPbx_topo (u : U) (f : Pbx → Pbx) : (u.withPbx f).topo = u.topo := rfl
@[simp] theorem U.withPbx_arms (u : U) (f : Pbx → Pbx) : (u.withPbx f).arms = u.arms := rfl
@[simp] theorem U.withPbx_ports (u : U) (f : Pbx → Pbx) : (u.withPbx f).ports = u.ports := rfl
@[simp] theorem U.withPbx_mons (u : U) (f : Pbx → Pbx) : (u.withPbx f).mons = u.mons := rfl
@[simp] theorem U.withPbx_pbx (u : U) (f : Pbx → Pbx) : (u.withPbx f).pbx = f u.pbx := rfl
@[simp] theorem U.withPbx_lpe (u : U) (f : Pbx → Pbx) : (u.withPbx f).lpe = u.lpe := rfl
@[simp] theorem U.withPbx_leads (u : U) (f : Pbx → Pbx) : (u.withPbx f).leads = u.leads := rfl
@[simp] theorem U.withPbx_fwId (u : U) (f : Pbx → Pbx) : (u.withPbx f).fwId = u.fwId := rfl
@[simp] theorem U.withPbx_lanes (u : U) (f : Pbx → Pbx) : (u.withPbx f).lanes = u.lanes := rfl
@[simp] theorem U.withPbx_serial (u : U) (f : Pbx → Pbx) : (u.withPbx f).serial = u.serial := rfl
@[simp] theorem U.withPbx_mlk (u : U) (f : Pbx → Pbx) : (u.withPbx f).mlk = u.mlk := rfl
@[simp] theorem U.withPbx_cap (u : U) (f : Pbx → Pbx) : (u.withPbx f).cap = u.cap := rfl
@[simp] theorem U.withPbx_snp (u : U) (f : Pbx → Pbx) : (u.withPbx f).snp = u.snp := rfl
@[simp] theorem U.withPbx_sys (u : U) (f : Pbx → Pbx) : (u.withPbx f).sys = u.sys := rfl
@[simp] theorem U.withPbx_sec (u : U) (f : Pbx → Pbx) : (u.withPbx f).sec = u.sec := rfl
@[simp] theorem U.withPbx_memh (u : U) (f : Pbx → Pbx) : (u.withPbx f).memh = u.memh := rfl
@[simp] theorem U.withPbx_out (u : U) (f : Pbx → Pbx) : (u.withPbx f).out = u.out := rfl
@[simp] theorem U.withPbx_free (u : U) (f : Pbx → Pbx) : (u.withPbx f).free = u.free := rfl

/-! ### U.withLpe -/
@[simp] theorem U.withLpe_regs (u : U) (f : Lpe → Lpe) : (u.withLpe f).regs = u.regs := rfl
@[simp] theorem U.withLpe_mem (u : U) (f : Lpe → Lpe) : (u.withLpe f).mem = u.mem := rfl
@[simp] theorem U.withLpe_flash (u : U) (f : Lpe → Lpe) : (u.withLpe f).flash = u.flash := rfl
@[simp] theorem U.withLpe_recs (u : U) (f : Lpe → Lpe) : (u.withLpe f).recs = u.recs := rfl
@[simp] theorem U.withLpe_act (u : U) (f : Lpe → Lpe) : (u.withLpe f).act = u.act := rfl
@[simp] theorem U.withLpe_evq (u : U) (f : Lpe → Lpe) : (u.withLpe f).evq = u.evq := rfl
@[simp] theorem U.withLpe_tim (u : U) (f : Lpe → Lpe) : (u.withLpe f).tim = u.tim := rfl
@[simp] theorem U.withLpe_sch (u : U) (f : Lpe → Lpe) : (u.withLpe f).sch = u.sch := rfl
@[simp] theorem U.withLpe_dep (u : U) (f : Lpe → Lpe) : (u.withLpe f).dep = u.dep := rfl
@[simp] theorem U.withLpe_sbx (u : U) (f : Lpe → Lpe) : (u.withLpe f).sbx = u.sbx := rfl
@[simp] theorem U.withLpe_sdl (u : U) (f : Lpe → Lpe) : (u.withLpe f).sdl = u.sdl := rfl
@[simp] theorem U.withLpe_lf (u : U) (f : Lpe → Lpe) : (u.withLpe f).lf = u.lf := rfl
@[simp] theorem U.withLpe_topo (u : U) (f : Lpe → Lpe) : (u.withLpe f).topo = u.topo := rfl
@[simp] theorem U.withLpe_arms (u : U) (f : Lpe → Lpe) : (u.withLpe f).arms = u.arms := rfl
@[simp] theorem U.withLpe_ports (u : U) (f : Lpe → Lpe) : (u.withLpe f).ports = u.ports := rfl
@[simp] theorem U.withLpe_mons (u : U) (f : Lpe → Lpe) : (u.withLpe f).mons = u.mons := rfl
@[simp] theorem U.withLpe_pbx (u : U) (f : Lpe → Lpe) : (u.withLpe f).pbx = u.pbx := rfl
@[simp] theorem U.withLpe_lpe (u : U) (f : Lpe → Lpe) : (u.withLpe f).lpe = f u.lpe := rfl
@[simp] theorem U.withLpe_leads (u : U) (f : Lpe → Lpe) : (u.withLpe f).leads = u.leads := rfl
@[simp] theorem U.withLpe_fwId (u : U) (f : Lpe → Lpe) : (u.withLpe f).fwId = u.fwId := rfl
@[simp] theorem U.withLpe_lanes (u : U) (f : Lpe → Lpe) : (u.withLpe f).lanes = u.lanes := rfl
@[simp] theorem U.withLpe_serial (u : U) (f : Lpe → Lpe) : (u.withLpe f).serial = u.serial := rfl
@[simp] theorem U.withLpe_mlk (u : U) (f : Lpe → Lpe) : (u.withLpe f).mlk = u.mlk := rfl
@[simp] theorem U.withLpe_cap (u : U) (f : Lpe → Lpe) : (u.withLpe f).cap = u.cap := rfl
@[simp] theorem U.withLpe_snp (u : U) (f : Lpe → Lpe) : (u.withLpe f).snp = u.snp := rfl
@[simp] theorem U.withLpe_sys (u : U) (f : Lpe → Lpe) : (u.withLpe f).sys = u.sys := rfl
@[simp] theorem U.withLpe_sec (u : U) (f : Lpe → Lpe) : (u.withLpe f).sec = u.sec := rfl
@[simp] theorem U.withLpe_memh (u : U) (f : Lpe → Lpe) : (u.withLpe f).memh = u.memh := rfl
@[simp] theorem U.withLpe_out (u : U) (f : Lpe → Lpe) : (u.withLpe f).out = u.out := rfl
@[simp] theorem U.withLpe_free (u : U) (f : Lpe → Lpe) : (u.withLpe f).free = u.free := rfl

/-! ### U.withMlk -/
@[simp] theorem U.withMlk_regs (u : U) (f : Mlk → Mlk) : (u.withMlk f).regs = u.regs := rfl
@[simp] theorem U.withMlk_mem (u : U) (f : Mlk → Mlk) : (u.withMlk f).mem = u.mem := rfl
@[simp] theorem U.withMlk_flash (u : U) (f : Mlk → Mlk) : (u.withMlk f).flash = u.flash := rfl
@[simp] theorem U.withMlk_recs (u : U) (f : Mlk → Mlk) : (u.withMlk f).recs = u.recs := rfl
@[simp] theorem U.withMlk_act (u : U) (f : Mlk → Mlk) : (u.withMlk f).act = u.act := rfl
@[simp] theorem U.withMlk_evq (u : U) (f : Mlk → Mlk) : (u.withMlk f).evq = u.evq := rfl
@[simp] theorem U.withMlk_tim (u : U) (f : Mlk → Mlk) : (u.withMlk f).tim = u.tim := rfl
@[simp] theorem U.withMlk_sch (u : U) (f : Mlk → Mlk) : (u.withMlk f).sch = u.sch := rfl
@[simp] theorem U.withMlk_dep (u : U) (f : Mlk → Mlk) : (u.withMlk f).dep = u.dep := rfl
@[simp] theorem U.withMlk_sbx (u : U) (f : Mlk → Mlk) : (u.withMlk f).sbx = u.sbx := rfl
@[simp] theorem U.withMlk_sdl (u : U) (f : Mlk → Mlk) : (u.withMlk f).sdl = u.sdl := rfl
@[simp] theorem U.withMlk_lf (u : U) (f : Mlk → Mlk) : (u.withMlk f).lf = u.lf := rfl
@[simp] theorem U.withMlk_topo (u : U) (f : Mlk → Mlk) : (u.withMlk f).topo = u.topo := rfl
@[simp] theorem U.withMlk_arms (u : U) (f : Mlk → Mlk) : (u.withMlk f).arms = u.arms := rfl
@[simp] theorem U.withMlk_ports (u : U) (f : Mlk → Mlk) : (u.withMlk f).ports = u.ports := rfl
@[simp] theorem U.withMlk_mons (u : U) (f : Mlk → Mlk) : (u.withMlk f).mons = u.mons := rfl
@[simp] theorem U.withMlk_pbx (u : U) (f : Mlk → Mlk) : (u.withMlk f).pbx = u.pbx := rfl
@[simp] theorem U.withMlk_lpe (u : U) (f : Mlk → Mlk) : (u.withMlk f).lpe = u.lpe := rfl
@[simp] theorem U.withMlk_leads (u : U) (f : Mlk → Mlk) : (u.withMlk f).leads = u.leads := rfl
@[simp] theorem U.withMlk_fwId (u : U) (f : Mlk → Mlk) : (u.withMlk f).fwId = u.fwId := rfl
@[simp] theorem U.withMlk_lanes (u : U) (f : Mlk → Mlk) : (u.withMlk f).lanes = u.lanes := rfl
@[simp] theorem U.withMlk_serial (u : U) (f : Mlk → Mlk) : (u.withMlk f).serial = u.serial := rfl
@[simp] theorem U.withMlk_mlk (u : U) (f : Mlk → Mlk) : (u.withMlk f).mlk = f u.mlk := rfl
@[simp] theorem U.withMlk_cap (u : U) (f : Mlk → Mlk) : (u.withMlk f).cap = u.cap := rfl
@[simp] theorem U.withMlk_snp (u : U) (f : Mlk → Mlk) : (u.withMlk f).snp = u.snp := rfl
@[simp] theorem U.withMlk_sys (u : U) (f : Mlk → Mlk) : (u.withMlk f).sys = u.sys := rfl
@[simp] theorem U.withMlk_sec (u : U) (f : Mlk → Mlk) : (u.withMlk f).sec = u.sec := rfl
@[simp] theorem U.withMlk_memh (u : U) (f : Mlk → Mlk) : (u.withMlk f).memh = u.memh := rfl
@[simp] theorem U.withMlk_out (u : U) (f : Mlk → Mlk) : (u.withMlk f).out = u.out := rfl
@[simp] theorem U.withMlk_free (u : U) (f : Mlk → Mlk) : (u.withMlk f).free = u.free := rfl

/-! ### U.withCap -/
@[simp] theorem U.withCap_regs (u : U) (f : Cap → Cap) : (u.withCap f).regs = u.regs := rfl
@[simp] theorem U.withCap_mem (u : U) (f : Cap → Cap) : (u.withCap f).mem = u.mem := rfl
@[simp] theorem U.withCap_flash (u : U) (f : Cap → Cap) : (u.withCap f).flash = u.flash := rfl
@[simp] theorem U.withCap_recs (u : U) (f : Cap → Cap) : (u.withCap f).recs = u.recs := rfl
@[simp] theorem U.withCap_act (u : U) (f : Cap → Cap) : (u.withCap f).act = u.act := rfl
@[simp] theorem U.withCap_evq (u : U) (f : Cap → Cap) : (u.withCap f).evq = u.evq := rfl
@[simp] theorem U.withCap_tim (u : U) (f : Cap → Cap) : (u.withCap f).tim = u.tim := rfl
@[simp] theorem U.withCap_sch (u : U) (f : Cap → Cap) : (u.withCap f).sch = u.sch := rfl
@[simp] theorem U.withCap_dep (u : U) (f : Cap → Cap) : (u.withCap f).dep = u.dep := rfl
@[simp] theorem U.withCap_sbx (u : U) (f : Cap → Cap) : (u.withCap f).sbx = u.sbx := rfl
@[simp] theorem U.withCap_sdl (u : U) (f : Cap → Cap) : (u.withCap f).sdl = u.sdl := rfl
@[simp] theorem U.withCap_lf (u : U) (f : Cap → Cap) : (u.withCap f).lf = u.lf := rfl
@[simp] theorem U.withCap_topo (u : U) (f : Cap → Cap) : (u.withCap f).topo = u.topo := rfl
@[simp] theorem U.withCap_arms (u : U) (f : Cap → Cap) : (u.withCap f).arms = u.arms := rfl
@[simp] theorem U.withCap_ports (u : U) (f : Cap → Cap) : (u.withCap f).ports = u.ports := rfl
@[simp] theorem U.withCap_mons (u : U) (f : Cap → Cap) : (u.withCap f).mons = u.mons := rfl
@[simp] theorem U.withCap_pbx (u : U) (f : Cap → Cap) : (u.withCap f).pbx = u.pbx := rfl
@[simp] theorem U.withCap_lpe (u : U) (f : Cap → Cap) : (u.withCap f).lpe = u.lpe := rfl
@[simp] theorem U.withCap_leads (u : U) (f : Cap → Cap) : (u.withCap f).leads = u.leads := rfl
@[simp] theorem U.withCap_fwId (u : U) (f : Cap → Cap) : (u.withCap f).fwId = u.fwId := rfl
@[simp] theorem U.withCap_lanes (u : U) (f : Cap → Cap) : (u.withCap f).lanes = u.lanes := rfl
@[simp] theorem U.withCap_serial (u : U) (f : Cap → Cap) : (u.withCap f).serial = u.serial := rfl
@[simp] theorem U.withCap_mlk (u : U) (f : Cap → Cap) : (u.withCap f).mlk = u.mlk := rfl
@[simp] theorem U.withCap_cap (u : U) (f : Cap → Cap) : (u.withCap f).cap = f u.cap := rfl
@[simp] theorem U.withCap_snp (u : U) (f : Cap → Cap) : (u.withCap f).snp = u.snp := rfl
@[simp] theorem U.withCap_sys (u : U) (f : Cap → Cap) : (u.withCap f).sys = u.sys := rfl
@[simp] theorem U.withCap_sec (u : U) (f : Cap → Cap) : (u.withCap f).sec = u.sec := rfl
@[simp] theorem U.withCap_memh (u : U) (f : Cap → Cap) : (u.withCap f).memh = u.memh := rfl
@[simp] theorem U.withCap_out (u : U) (f : Cap → Cap) : (u.withCap f).out = u.out := rfl
@[simp] theorem U.withCap_free (u : U) (f : Cap → Cap) : (u.withCap f).free = u.free := rfl

/-! ### U.withSys -/
@[simp] theorem U.withSys_regs (u : U) (f : Sys → Sys) : (u.withSys f).regs = u.regs := rfl
@[simp] theorem U.withSys_mem (u : U) (f : Sys → Sys) : (u.withSys f).mem = u.mem := rfl
@[simp] theorem U.withSys_flash (u : U) (f : Sys → Sys) : (u.withSys f).flash = u.flash := rfl
@[simp] theorem U.withSys_recs (u : U) (f : Sys → Sys) : (u.withSys f).recs = u.recs := rfl
@[simp] theorem U.withSys_act (u : U) (f : Sys → Sys) : (u.withSys f).act = u.act := rfl
@[simp] theorem U.withSys_evq (u : U) (f : Sys → Sys) : (u.withSys f).evq = u.evq := rfl
@[simp] theorem U.withSys_tim (u : U) (f : Sys → Sys) : (u.withSys f).tim = u.tim := rfl
@[simp] theorem U.withSys_sch (u : U) (f : Sys → Sys) : (u.withSys f).sch = u.sch := rfl
@[simp] theorem U.withSys_dep (u : U) (f : Sys → Sys) : (u.withSys f).dep = u.dep := rfl
@[simp] theorem U.withSys_sbx (u : U) (f : Sys → Sys) : (u.withSys f).sbx = u.sbx := rfl
@[simp] theorem U.withSys_sdl (u : U) (f : Sys → Sys) : (u.withSys f).sdl = u.sdl := rfl
@[simp] theorem U.withSys_lf (u : U) (f : Sys → Sys) : (u.withSys f).lf = u.lf := rfl
@[simp] theorem U.withSys_topo (u : U) (f : Sys → Sys) : (u.withSys f).topo = u.topo := rfl
@[simp] theorem U.withSys_arms (u : U) (f : Sys → Sys) : (u.withSys f).arms = u.arms := rfl
@[simp] theorem U.withSys_ports (u : U) (f : Sys → Sys) : (u.withSys f).ports = u.ports := rfl
@[simp] theorem U.withSys_mons (u : U) (f : Sys → Sys) : (u.withSys f).mons = u.mons := rfl
@[simp] theorem U.withSys_pbx (u : U) (f : Sys → Sys) : (u.withSys f).pbx = u.pbx := rfl
@[simp] theorem U.withSys_lpe (u : U) (f : Sys → Sys) : (u.withSys f).lpe = u.lpe := rfl
@[simp] theorem U.withSys_leads (u : U) (f : Sys → Sys) : (u.withSys f).leads = u.leads := rfl
@[simp] theorem U.withSys_fwId (u : U) (f : Sys → Sys) : (u.withSys f).fwId = u.fwId := rfl
@[simp] theorem U.withSys_lanes (u : U) (f : Sys → Sys) : (u.withSys f).lanes = u.lanes := rfl
@[simp] theorem U.withSys_serial (u : U) (f : Sys → Sys) : (u.withSys f).serial = u.serial := rfl
@[simp] theorem U.withSys_mlk (u : U) (f : Sys → Sys) : (u.withSys f).mlk = u.mlk := rfl
@[simp] theorem U.withSys_cap (u : U) (f : Sys → Sys) : (u.withSys f).cap = u.cap := rfl
@[simp] theorem U.withSys_snp (u : U) (f : Sys → Sys) : (u.withSys f).snp = u.snp := rfl
@[simp] theorem U.withSys_sys (u : U) (f : Sys → Sys) : (u.withSys f).sys = f u.sys := rfl
@[simp] theorem U.withSys_sec (u : U) (f : Sys → Sys) : (u.withSys f).sec = u.sec := rfl
@[simp] theorem U.withSys_memh (u : U) (f : Sys → Sys) : (u.withSys f).memh = u.memh := rfl
@[simp] theorem U.withSys_out (u : U) (f : Sys → Sys) : (u.withSys f).out = u.out := rfl
@[simp] theorem U.withSys_free (u : U) (f : Sys → Sys) : (u.withSys f).free = u.free := rfl

/-! ### U.withSec -/
@[simp] theorem U.withSec_regs (u : U) (f : Sec → Sec) : (u.withSec f).regs = u.regs := rfl
@[simp] theorem U.withSec_mem (u : U) (f : Sec → Sec) : (u.withSec f).mem = u.mem := rfl
@[simp] theorem U.withSec_flash (u : U) (f : Sec → Sec) : (u.withSec f).flash = u.flash := rfl
@[simp] theorem U.withSec_recs (u : U) (f : Sec → Sec) : (u.withSec f).recs = u.recs := rfl
@[simp] theorem U.withSec_act (u : U) (f : Sec → Sec) : (u.withSec f).act = u.act := rfl
@[simp] theorem U.withSec_evq (u : U) (f : Sec → Sec) : (u.withSec f).evq = u.evq := rfl
@[simp] theorem U.withSec_tim (u : U) (f : Sec → Sec) : (u.withSec f).tim = u.tim := rfl
@[simp] theorem U.withSec_sch (u : U) (f : Sec → Sec) : (u.withSec f).sch = u.sch := rfl
@[simp] theorem U.withSec_dep (u : U) (f : Sec → Sec) : (u.withSec f).dep = u.dep := rfl
@[simp] theorem U.withSec_sbx (u : U) (f : Sec → Sec) : (u.withSec f).sbx = u.sbx := rfl
@[simp] theorem U.withSec_sdl (u : U) (f : Sec → Sec) : (u.withSec f).sdl = u.sdl := rfl
@[simp] theorem U.withSec_lf (u : U) (f : Sec → Sec) : (u.withSec f).lf = u.lf := rfl
@[simp] theorem U.withSec_topo (u : U) (f : Sec → Sec) : (u.withSec f).topo = u.topo := rfl
@[simp] theorem U.withSec_arms (u : U) (f : Sec → Sec) : (u.withSec f).arms = u.arms := rfl
@[simp] theorem U.withSec_ports (u : U) (f : Sec → Sec) : (u.withSec f).ports = u.ports := rfl
@[simp] theorem U.withSec_mons (u : U) (f : Sec → Sec) : (u.withSec f).mons = u.mons := rfl
@[simp] theorem U.withSec_pbx (u : U) (f : Sec → Sec) : (u.withSec f).pbx = u.pbx := rfl
@[simp] theorem U.withSec_lpe (u : U) (f : Sec → Sec) : (u.withSec f).lpe = u.lpe := rfl
@[simp] theorem U.withSec_leads (u : U) (f : Sec → Sec) : (u.withSec f).leads = u.leads := rfl
@[simp] theorem U.withSec_fwId (u : U) (f : Sec → Sec) : (u.withSec f).fwId = u.fwId := rfl
@[simp] theorem U.withSec_lanes (u : U) (f : Sec → Sec) : (u.withSec f).lanes = u.lanes := rfl
@[simp] theorem U.withSec_serial (u : U) (f : Sec → Sec) : (u.withSec f).serial = u.serial := rfl
@[simp] theorem U.withSec_mlk (u : U) (f : Sec → Sec) : (u.withSec f).mlk = u.mlk := rfl
@[simp] theorem U.withSec_cap (u : U) (f : Sec → Sec) : (u.withSec f).cap = u.cap := rfl
@[simp] theorem U.withSec_snp (u : U) (f : Sec → Sec) : (u.withSec f).snp = u.snp := rfl
@[simp] theorem U.withSec_sys (u : U) (f : Sec → Sec) : (u.withSec f).sys = u.sys := rfl
@[simp] theorem U.withSec_sec (u : U) (f : Sec → Sec) : (u.withSec f).sec = f u.sec := rfl
@[simp] theorem U.withSec_memh (u : U) (f : Sec → Sec) : (u.withSec f).memh = u.memh := rfl
@[simp] theorem U.withSec_out (u : U) (f : Sec → Sec) : (u.withSec f).out = u.out := rfl
@[simp] theorem U.withSec_free (u : U) (f : Sec → Sec) : (u.withSec f).free = u.free := rfl

/-! ### H.wr -/
@[simp] theorem H.wr_regs (w : H) (f : Fld) (x : Nat) : (w.wr f x).regs = w.regs.set f x := rfl
@[simp] theorem H.wr_recs (w : H) (f : Fld) (x : Nat) : (w.wr f x).recs = w.recs := rfl
@[simp] theorem H.wr_lanes (w : H) (f : Fld) (x : Nat) : (w.wr f x).lanes = w.lanes := rfl
@[simp] theorem H.wr_serial (w : H) (f : Fld) (x : Nat) : (w.wr f x).serial = w.serial := rfl
@[simp] theorem H.wr_dn (w : H) (f : Fld) (x : Nat) : (w.wr f x).dn = w.dn := rfl
@[simp] theorem H.wr_t (w : H) (f : Fld) (x : Nat) : (w.wr f x).t = w.t := rfl
@[simp] theorem H.wr_had (w : H) (f : Fld) (x : Nat) : (w.wr f x).had = w.had := rfl
@[simp] theorem H.wr_hadDu (w : H) (f : Fld) (x : Nat) : (w.wr f x).hadDu = w.hadDu := rfl
@[simp] theorem H.wr_err (w : H) (f : Fld) (x : Nat) : (w.wr f x).err = w.err := rfl
@[simp] theorem H.wr_slew (w : H) (f : Fld) (x : Nat) : (w.wr f x).slew = w.slew := rfl
@[simp] theorem H.wr_step (w : H) (f : Fld) (x : Nat) : (w.wr f x).step = w.step := rfl
@[simp] theorem H.wr_any (w : H) (f : Fld) (x : Nat) : (w.wr f x).any = w.any := rfl
@[simp] theorem H.wr_act (w : H) (f : Fld) (x : Nat) : (w.wr f x).act = w.act := rfl
@[simp] theorem H.wr_got (w : H) (f : Fld) (x : Nat) : (w.wr f x).got = w.got := rfl
@[simp] theorem H.wr_loss (w : H) (f : Fld) (x : Nat) : (w.wr f x).loss = w.loss := rfl
@[simp] theorem H.wr_time (w : H) (f : Fld) (x : Nat) : (w.wr f x).time = w.time := rfl
@[simp] theorem H.wr_taken (w : H) (f : Fld) (x : Nat) : (w.wr f x).taken = w.taken := rfl
@[simp] theorem H.wr_set (w : H) (f : Fld) (x : Nat) : (w.wr f x).set = w.set := rfl
@[simp] theorem H.wr_orders (w : H) (f : Fld) (x : Nat) : (w.wr f x).orders = w.orders := rfl
@[simp] theorem H.wr_last (w : H) (f : Fld) (x : Nat) : (w.wr f x).last = w.last := rfl
@[simp] theorem H.wr_lost (w : H) (f : Fld) (x : Nat) : (w.wr f x).lost = w.lost := rfl
@[simp] theorem H.wr_avl (w : H) (f : Fld) (x : Nat) : (w.wr f x).avl = w.avl := rfl
@[simp] theorem H.wr_told (w : H) (f : Fld) (x : Nat) : (w.wr f x).told = w.told := rfl
@[simp] theorem H.wr_loops (w : H) (f : Fld) (x : Nat) : (w.wr f x).loops = w.loops := rfl
@[simp] theorem H.wr_ofs (w : H) (f : Fld) (x : Nat) : (w.wr f x).ofs = w.ofs := rfl
@[simp] theorem H.wr_paths (w : H) (f : Fld) (x : Nat) : (w.wr f x).paths = w.paths := rfl
@[simp] theorem H.wr_skews (w : H) (f : Fld) (x : Nat) : (w.wr f x).skews = w.skews := rfl
@[simp] theorem H.wr_dly (w : H) (f : Fld) (x : Nat) : (w.wr f x).dly = w.dly := rfl
@[simp] theorem H.wr_period (w : H) (f : Fld) (x : Nat) : (w.wr f x).period = w.period := rfl
@[simp] theorem H.wr_seq (w : H) (f : Fld) (x : Nat) : (w.wr f x).seq = w.seq := rfl
@[simp] theorem H.wr_sys (w : H) (f : Fld) (x : Nat) : (w.wr f x).sys = w.sys := rfl
@[simp] theorem H.wr_hbLost (w : H) (f : Fld) (x : Nat) : (w.wr f x).hbLost = w.hbLost := rfl
@[simp] theorem H.wr_beat (w : H) (f : Fld) (x : Nat) : (w.wr f x).beat = w.beat := rfl
@[simp] theorem H.wr_mgmt (w : H) (f : Fld) (x : Nat) : (w.wr f x).mgmt = w.mgmt := rfl
@[simp] theorem H.wr_img (w : H) (f : Fld) (x : Nat) : (w.wr f x).img = w.img := rfl
@[simp] theorem H.wr_fetch (w : H) (f : Fld) (x : Nat) : (w.wr f x).fetch = w.fetch := rfl
@[simp] theorem H.wr_again (w : H) (f : Fld) (x : Nat) : (w.wr f x).again = w.again := rfl
@[simp] theorem H.wr_att (w : H) (f : Fld) (x : Nat) : (w.wr f x).att = w.att := rfl
@[simp] theorem H.wr_memh (w : H) (f : Fld) (x : Nat) : (w.wr f x).memh = w.memh := rfl
@[simp] theorem H.wr_mem (w : H) (f : Fld) (x : Nat) : (w.wr f x).mem = w.mem := rfl
@[simp] theorem H.wr_out (w : H) (f : Fld) (x : Nat) : (w.wr f x).out = w.out := rfl
@[simp] theorem H.wr_free (w : H) (f : Fld) (x : Nat) : (w.wr f x).free = w.free := rfl

/-! ### H.emit -/
@[simp] theorem H.emit_regs (w : H) (o : Output) : (w.emit o).regs = w.regs := rfl
@[simp] theorem H.emit_recs (w : H) (o : Output) : (w.emit o).recs = w.recs := rfl
@[simp] theorem H.emit_lanes (w : H) (o : Output) : (w.emit o).lanes = w.lanes := rfl
@[simp] theorem H.emit_serial (w : H) (o : Output) : (w.emit o).serial = w.serial := rfl
@[simp] theorem H.emit_dn (w : H) (o : Output) : (w.emit o).dn = w.dn := rfl
@[simp] theorem H.emit_t (w : H) (o : Output) : (w.emit o).t = w.t := rfl
@[simp] theorem H.emit_had (w : H) (o : Output) : (w.emit o).had = w.had := rfl
@[simp] theorem H.emit_hadDu (w : H) (o : Output) : (w.emit o).hadDu = w.hadDu := rfl
@[simp] theorem H.emit_err (w : H) (o : Output) : (w.emit o).err = w.err := rfl
@[simp] theorem H.emit_slew (w : H) (o : Output) : (w.emit o).slew = w.slew := rfl
@[simp] theorem H.emit_step (w : H) (o : Output) : (w.emit o).step = w.step := rfl
@[simp] theorem H.emit_any (w : H) (o : Output) : (w.emit o).any = w.any := rfl
@[simp] theorem H.emit_act (w : H) (o : Output) : (w.emit o).act = w.act := rfl
@[simp] theorem H.emit_got (w : H) (o : Output) : (w.emit o).got = w.got := rfl
@[simp] theorem H.emit_loss (w : H) (o : Output) : (w.emit o).loss = w.loss := rfl
@[simp] theorem H.emit_time (w : H) (o : Output) : (w.emit o).time = w.time := rfl
@[simp] theorem H.emit_taken (w : H) (o : Output) : (w.emit o).taken = w.taken := rfl
@[simp] theorem H.emit_set (w : H) (o : Output) : (w.emit o).set = w.set := rfl
@[simp] theorem H.emit_orders (w : H) (o : Output) : (w.emit o).orders = w.orders := rfl
@[simp] theorem H.emit_last (w : H) (o : Output) : (w.emit o).last = w.last := rfl
@[simp] theorem H.emit_lost (w : H) (o : Output) : (w.emit o).lost = w.lost := rfl
@[simp] theorem H.emit_avl (w : H) (o : Output) : (w.emit o).avl = w.avl := rfl
@[simp] theorem H.emit_told (w : H) (o : Output) : (w.emit o).told = w.told := rfl
@[simp] theorem H.emit_loops (w : H) (o : Output) : (w.emit o).loops = w.loops := rfl
@[simp] theorem H.emit_ofs (w : H) (o : Output) : (w.emit o).ofs = w.ofs := rfl
@[simp] theorem H.emit_paths (w : H) (o : Output) : (w.emit o).paths = w.paths := rfl
@[simp] theorem H.emit_skews (w : H) (o : Output) : (w.emit o).skews = w.skews := rfl
@[simp] theorem H.emit_dly (w : H) (o : Output) : (w.emit o).dly = w.dly := rfl
@[simp] theorem H.emit_period (w : H) (o : Output) : (w.emit o).period = w.period := rfl
@[simp] theorem H.emit_seq (w : H) (o : Output) : (w.emit o).seq = w.seq := rfl
@[simp] theorem H.emit_sys (w : H) (o : Output) : (w.emit o).sys = w.sys := rfl
@[simp] theorem H.emit_hbLost (w : H) (o : Output) : (w.emit o).hbLost = w.hbLost := rfl
@[simp] theorem H.emit_beat (w : H) (o : Output) : (w.emit o).beat = w.beat := rfl
@[simp] theorem H.emit_mgmt (w : H) (o : Output) : (w.emit o).mgmt = w.mgmt := rfl
@[simp] theorem H.emit_img (w : H) (o : Output) : (w.emit o).img = w.img := rfl
@[simp] theorem H.emit_fetch (w : H) (o : Output) : (w.emit o).fetch = w.fetch := rfl
@[simp] theorem H.emit_again (w : H) (o : Output) : (w.emit o).again = w.again := rfl
@[simp] theorem H.emit_att (w : H) (o : Output) : (w.emit o).att = w.att := rfl
@[simp] theorem H.emit_memh (w : H) (o : Output) : (w.emit o).memh = w.memh := rfl
@[simp] theorem H.emit_mem (w : H) (o : Output) : (w.emit o).mem = w.mem := rfl
@[simp] theorem H.emit_out (w : H) (o : Output) : (w.emit o).out = w.out ++ [o] := rfl
@[simp] theorem H.emit_free (w : H) (o : Output) : (w.emit o).free = w.free := rfl

/-! ### H.withSys -/
@[simp] theorem H.withSys_regs (w : H) (f : HubSys → HubSys) : (w.withSys f).regs = w.regs := rfl
@[simp] theorem H.withSys_recs (w : H) (f : HubSys → HubSys) : (w.withSys f).recs = w.recs := rfl
@[simp] theorem H.withSys_lanes (w : H) (f : HubSys → HubSys) : (w.withSys f).lanes = w.lanes := rfl
@[simp] theorem H.withSys_serial (w : H) (f : HubSys → HubSys) : (w.withSys f).serial = w.serial := rfl
@[simp] theorem H.withSys_dn (w : H) (f : HubSys → HubSys) : (w.withSys f).dn = w.dn := rfl
@[simp] theorem H.withSys_t (w : H) (f : HubSys → HubSys) : (w.withSys f).t = w.t := rfl
@[simp] theorem H.withSys_had (w : H) (f : HubSys → HubSys) : (w.withSys f).had = w.had := rfl
@[simp] theorem H.withSys_hadDu (w : H) (f : HubSys → HubSys) : (w.withSys f).hadDu = w.hadDu := rfl
@[simp] theorem H.withSys_err (w : H) (f : HubSys → HubSys) : (w.withSys f).err = w.err := rfl
@[simp] theorem H.withSys_slew (w : H) (f : HubSys → HubSys) : (w.withSys f).slew = w.slew := rfl
@[simp] theorem H.withSys_step (w : H) (f : HubSys → HubSys) : (w.withSys f).step = w.step := rfl
@[simp] theorem H.withSys_any (w : H) (f : HubSys → HubSys) : (w.withSys f).any = w.any := rfl
@[simp] theorem H.withSys_act (w : H) (f : HubSys → HubSys) : (w.withSys f).act = w.act := rfl
@[simp] theorem H.withSys_got (w : H) (f : HubSys → HubSys) : (w.withSys f).got = w.got := rfl
@[simp] theorem H.withSys_loss (w : H) (f : HubSys → HubSys) : (w.withSys f).loss = w.loss := rfl
@[simp] theorem H.withSys_time (w : H) (f : HubSys → HubSys) : (w.withSys f).time = w.time := rfl
@[simp] theorem H.withSys_taken (w : H) (f : HubSys → HubSys) : (w.withSys f).taken = w.taken := rfl
@[simp] theorem H.withSys_set (w : H) (f : HubSys → HubSys) : (w.withSys f).set = w.set := rfl
@[simp] theorem H.withSys_orders (w : H) (f : HubSys → HubSys) : (w.withSys f).orders = w.orders := rfl
@[simp] theorem H.withSys_last (w : H) (f : HubSys → HubSys) : (w.withSys f).last = w.last := rfl
@[simp] theorem H.withSys_lost (w : H) (f : HubSys → HubSys) : (w.withSys f).lost = w.lost := rfl
@[simp] theorem H.withSys_avl (w : H) (f : HubSys → HubSys) : (w.withSys f).avl = w.avl := rfl
@[simp] theorem H.withSys_told (w : H) (f : HubSys → HubSys) : (w.withSys f).told = w.told := rfl
@[simp] theorem H.withSys_loops (w : H) (f : HubSys → HubSys) : (w.withSys f).loops = w.loops := rfl
@[simp] theorem H.withSys_ofs (w : H) (f : HubSys → HubSys) : (w.withSys f).ofs = w.ofs := rfl
@[simp] theorem H.withSys_paths (w : H) (f : HubSys → HubSys) : (w.withSys f).paths = w.paths := rfl
@[simp] theorem H.withSys_skews (w : H) (f : HubSys → HubSys) : (w.withSys f).skews = w.skews := rfl
@[simp] theorem H.withSys_dly (w : H) (f : HubSys → HubSys) : (w.withSys f).dly = w.dly := rfl
@[simp] theorem H.withSys_period (w : H) (f : HubSys → HubSys) : (w.withSys f).period = w.period := rfl
@[simp] theorem H.withSys_seq (w : H) (f : HubSys → HubSys) : (w.withSys f).seq = w.seq := rfl
@[simp] theorem H.withSys_sys (w : H) (f : HubSys → HubSys) : (w.withSys f).sys = f w.sys := rfl
@[simp] theorem H.withSys_hbLost (w : H) (f : HubSys → HubSys) : (w.withSys f).hbLost = w.hbLost := rfl
@[simp] theorem H.withSys_beat (w : H) (f : HubSys → HubSys) : (w.withSys f).beat = w.beat := rfl
@[simp] theorem H.withSys_mgmt (w : H) (f : HubSys → HubSys) : (w.withSys f).mgmt = w.mgmt := rfl
@[simp] theorem H.withSys_img (w : H) (f : HubSys → HubSys) : (w.withSys f).img = w.img := rfl
@[simp] theorem H.withSys_fetch (w : H) (f : HubSys → HubSys) : (w.withSys f).fetch = w.fetch := rfl
@[simp] theorem H.withSys_again (w : H) (f : HubSys → HubSys) : (w.withSys f).again = w.again := rfl
@[simp] theorem H.withSys_att (w : H) (f : HubSys → HubSys) : (w.withSys f).att = w.att := rfl
@[simp] theorem H.withSys_memh (w : H) (f : HubSys → HubSys) : (w.withSys f).memh = w.memh := rfl
@[simp] theorem H.withSys_mem (w : H) (f : HubSys → HubSys) : (w.withSys f).mem = w.mem := rfl
@[simp] theorem H.withSys_out (w : H) (f : HubSys → HubSys) : (w.withSys f).out = w.out := rfl
@[simp] theorem H.withSys_free (w : H) (f : HubSys → HubSys) : (w.withSys f).free = w.free := rfl

/-! ### C.wr -/
@[simp] theorem C.wr_regs (y : C) (f : Fld) (x : Nat) : (y.wr f x).regs = y.regs.set f x := rfl
@[simp] theorem C.wr_recs (y : C) (f : Fld) (x : Nat) : (y.wr f x).recs = y.recs := rfl
@[simp] theorem C.wr_lanes (y : C) (f : Fld) (x : Nat) : (y.wr f x).lanes = y.lanes := rfl
@[simp] theorem C.wr_serial (y : C) (f : Fld) (x : Nat) : (y.wr f x).serial = y.serial := rfl
@[simp] theorem C.wr_gte (y : C) (f : Fld) (x : Nat) : (y.wr f x).gte = y.gte := rfl
@[simp] theorem C.wr_prt (y : C) (f : Fld) (x : Nat) : (y.wr f x).prt = y.prt := rfl
@[simp] theorem C.wr_clk (y : C) (f : Fld) (x : Nat) : (y.wr f x).clk = y.clk := rfl
@[simp] theorem C.wr_adc (y : C) (f : Fld) (x : Nat) : (y.wr f x).adc = y.adc := rfl
@[simp] theorem C.wr_ccp (y : C) (f : Fld) (x : Nat) : (y.wr f x).ccp = y.ccp := rfl
@[simp] theorem C.wr_cse (y : C) (f : Fld) (x : Nat) : (y.wr f x).cse = y.cse := rfl
@[simp] theorem C.wr_memh (y : C) (f : Fld) (x : Nat) : (y.wr f x).memh = y.memh := rfl
@[simp] theorem C.wr_mem (y : C) (f : Fld) (x : Nat) : (y.wr f x).mem = y.mem := rfl
@[simp] theorem C.wr_rst (y : C) (f : Fld) (x : Nat) : (y.wr f x).rst = y.rst := rfl
@[simp] theorem C.wr_out (y : C) (f : Fld) (x : Nat) : (y.wr f x).out = y.out := rfl
@[simp] theorem C.wr_free (y : C) (f : Fld) (x : Nat) : (y.wr f x).free = y.free := rfl

/-! ### C.emit -/
@[simp] theorem C.emit_regs (y : C) (o : Output) : (y.emit o).regs = y.regs := rfl
@[simp] theorem C.emit_recs (y : C) (o : Output) : (y.emit o).recs = y.recs := rfl
@[simp] theorem C.emit_lanes (y : C) (o : Output) : (y.emit o).lanes = y.lanes := rfl
@[simp] theorem C.emit_serial (y : C) (o : Output) : (y.emit o).serial = y.serial := rfl
@[simp] theorem C.emit_gte (y : C) (o : Output) : (y.emit o).gte = y.gte := rfl
@[simp] theorem C.emit_prt (y : C) (o : Output) : (y.emit o).prt = y.prt := rfl
@[simp] theorem C.emit_clk (y : C) (o : Output) : (y.emit o).clk = y.clk := rfl
@[simp] theorem C.emit_adc (y : C) (o : Output) : (y.emit o).adc = y.adc := rfl
@[simp] theorem C.emit_ccp (y : C) (o : Output) : (y.emit o).ccp = y.ccp := rfl
@[simp] theorem C.emit_cse (y : C) (o : Output) : (y.emit o).cse = y.cse := rfl
@[simp] theorem C.emit_memh (y : C) (o : Output) : (y.emit o).memh = y.memh := rfl
@[simp] theorem C.emit_mem (y : C) (o : Output) : (y.emit o).mem = y.mem := rfl
@[simp] theorem C.emit_rst (y : C) (o : Output) : (y.emit o).rst = y.rst := rfl
@[simp] theorem C.emit_out (y : C) (o : Output) : (y.emit o).out = y.out ++ [o] := rfl
@[simp] theorem C.emit_free (y : C) (o : Output) : (y.emit o).free = y.free := rfl

/-! ### C.withGte -/
@[simp] theorem C.withGte_regs (y : C) (f : Gte → Gte) : (y.withGte f).regs = y.regs := rfl
@[simp] theorem C.withGte_recs (y : C) (f : Gte → Gte) : (y.withGte f).recs = y.recs := rfl
@[simp] theorem C.withGte_lanes (y : C) (f : Gte → Gte) : (y.withGte f).lanes = y.lanes := rfl
@[simp] theorem C.withGte_serial (y : C) (f : Gte → Gte) : (y.withGte f).serial = y.serial := rfl
@[simp] theorem C.withGte_gte (y : C) (f : Gte → Gte) : (y.withGte f).gte = f y.gte := rfl
@[simp] theorem C.withGte_prt (y : C) (f : Gte → Gte) : (y.withGte f).prt = y.prt := rfl
@[simp] theorem C.withGte_clk (y : C) (f : Gte → Gte) : (y.withGte f).clk = y.clk := rfl
@[simp] theorem C.withGte_adc (y : C) (f : Gte → Gte) : (y.withGte f).adc = y.adc := rfl
@[simp] theorem C.withGte_ccp (y : C) (f : Gte → Gte) : (y.withGte f).ccp = y.ccp := rfl
@[simp] theorem C.withGte_cse (y : C) (f : Gte → Gte) : (y.withGte f).cse = y.cse := rfl
@[simp] theorem C.withGte_memh (y : C) (f : Gte → Gte) : (y.withGte f).memh = y.memh := rfl
@[simp] theorem C.withGte_mem (y : C) (f : Gte → Gte) : (y.withGte f).mem = y.mem := rfl
@[simp] theorem C.withGte_rst (y : C) (f : Gte → Gte) : (y.withGte f).rst = y.rst := rfl
@[simp] theorem C.withGte_out (y : C) (f : Gte → Gte) : (y.withGte f).out = y.out := rfl
@[simp] theorem C.withGte_free (y : C) (f : Gte → Gte) : (y.withGte f).free = y.free := rfl

/-! ### C.withPrt -/
@[simp] theorem C.withPrt_regs (y : C) (f : Prt → Prt) : (y.withPrt f).regs = y.regs := rfl
@[simp] theorem C.withPrt_recs (y : C) (f : Prt → Prt) : (y.withPrt f).recs = y.recs := rfl
@[simp] theorem C.withPrt_lanes (y : C) (f : Prt → Prt) : (y.withPrt f).lanes = y.lanes := rfl
@[simp] theorem C.withPrt_serial (y : C) (f : Prt → Prt) : (y.withPrt f).serial = y.serial := rfl
@[simp] theorem C.withPrt_gte (y : C) (f : Prt → Prt) : (y.withPrt f).gte = y.gte := rfl
@[simp] theorem C.withPrt_prt (y : C) (f : Prt → Prt) : (y.withPrt f).prt = f y.prt := rfl
@[simp] theorem C.withPrt_clk (y : C) (f : Prt → Prt) : (y.withPrt f).clk = y.clk := rfl
@[simp] theorem C.withPrt_adc (y : C) (f : Prt → Prt) : (y.withPrt f).adc = y.adc := rfl
@[simp] theorem C.withPrt_ccp (y : C) (f : Prt → Prt) : (y.withPrt f).ccp = y.ccp := rfl
@[simp] theorem C.withPrt_cse (y : C) (f : Prt → Prt) : (y.withPrt f).cse = y.cse := rfl
@[simp] theorem C.withPrt_memh (y : C) (f : Prt → Prt) : (y.withPrt f).memh = y.memh := rfl
@[simp] theorem C.withPrt_mem (y : C) (f : Prt → Prt) : (y.withPrt f).mem = y.mem := rfl
@[simp] theorem C.withPrt_rst (y : C) (f : Prt → Prt) : (y.withPrt f).rst = y.rst := rfl
@[simp] theorem C.withPrt_out (y : C) (f : Prt → Prt) : (y.withPrt f).out = y.out := rfl
@[simp] theorem C.withPrt_free (y : C) (f : Prt → Prt) : (y.withPrt f).free = y.free := rfl

/-! ### C.withClk -/
@[simp] theorem C.withClk_regs (y : C) (f : Clk → Clk) : (y.withClk f).regs = y.regs := rfl
@[simp] theorem C.withClk_recs (y : C) (f : Clk → Clk) : (y.withClk f).recs = y.recs := rfl
@[simp] theorem C.withClk_lanes (y : C) (f : Clk → Clk) : (y.withClk f).lanes = y.lanes := rfl
@[simp] theorem C.withClk_serial (y : C) (f : Clk → Clk) : (y.withClk f).serial = y.serial := rfl
@[simp] theorem C.withClk_gte (y : C) (f : Clk → Clk) : (y.withClk f).gte = y.gte := rfl
@[simp] theorem C.withClk_prt (y : C) (f : Clk → Clk) : (y.withClk f).prt = y.prt := rfl
@[simp] theorem C.withClk_clk (y : C) (f : Clk → Clk) : (y.withClk f).clk = f y.clk := rfl
@[simp] theorem C.withClk_adc (y : C) (f : Clk → Clk) : (y.withClk f).adc = y.adc := rfl
@[simp] theorem C.withClk_ccp (y : C) (f : Clk → Clk) : (y.withClk f).ccp = y.ccp := rfl
@[simp] theorem C.withClk_cse (y : C) (f : Clk → Clk) : (y.withClk f).cse = y.cse := rfl
@[simp] theorem C.withClk_memh (y : C) (f : Clk → Clk) : (y.withClk f).memh = y.memh := rfl
@[simp] theorem C.withClk_mem (y : C) (f : Clk → Clk) : (y.withClk f).mem = y.mem := rfl
@[simp] theorem C.withClk_rst (y : C) (f : Clk → Clk) : (y.withClk f).rst = y.rst := rfl
@[simp] theorem C.withClk_out (y : C) (f : Clk → Clk) : (y.withClk f).out = y.out := rfl
@[simp] theorem C.withClk_free (y : C) (f : Clk → Clk) : (y.withClk f).free = y.free := rfl

/-! ### C.withCcp -/
@[simp] theorem C.withCcp_regs (y : C) (f : Ccp → Ccp) : (y.withCcp f).regs = y.regs := rfl
@[simp] theorem C.withCcp_recs (y : C) (f : Ccp → Ccp) : (y.withCcp f).recs = y.recs := rfl
@[simp] theorem C.withCcp_lanes (y : C) (f : Ccp → Ccp) : (y.withCcp f).lanes = y.lanes := rfl
@[simp] theorem C.withCcp_serial (y : C) (f : Ccp → Ccp) : (y.withCcp f).serial = y.serial := rfl
@[simp] theorem C.withCcp_gte (y : C) (f : Ccp → Ccp) : (y.withCcp f).gte = y.gte := rfl
@[simp] theorem C.withCcp_prt (y : C) (f : Ccp → Ccp) : (y.withCcp f).prt = y.prt := rfl
@[simp] theorem C.withCcp_clk (y : C) (f : Ccp → Ccp) : (y.withCcp f).clk = y.clk := rfl
@[simp] theorem C.withCcp_adc (y : C) (f : Ccp → Ccp) : (y.withCcp f).adc = y.adc := rfl
@[simp] theorem C.withCcp_ccp (y : C) (f : Ccp → Ccp) : (y.withCcp f).ccp = f y.ccp := rfl
@[simp] theorem C.withCcp_cse (y : C) (f : Ccp → Ccp) : (y.withCcp f).cse = y.cse := rfl
@[simp] theorem C.withCcp_memh (y : C) (f : Ccp → Ccp) : (y.withCcp f).memh = y.memh := rfl
@[simp] theorem C.withCcp_mem (y : C) (f : Ccp → Ccp) : (y.withCcp f).mem = y.mem := rfl
@[simp] theorem C.withCcp_rst (y : C) (f : Ccp → Ccp) : (y.withCcp f).rst = y.rst := rfl
@[simp] theorem C.withCcp_out (y : C) (f : Ccp → Ccp) : (y.withCcp f).out = y.out := rfl
@[simp] theorem C.withCcp_free (y : C) (f : Ccp → Ccp) : (y.withCcp f).free = y.free := rfl

/-! ### C.withCse -/
@[simp] theorem C.withCse_regs (y : C) (f : Cse → Cse) : (y.withCse f).regs = y.regs := rfl
@[simp] theorem C.withCse_recs (y : C) (f : Cse → Cse) : (y.withCse f).recs = y.recs := rfl
@[simp] theorem C.withCse_lanes (y : C) (f : Cse → Cse) : (y.withCse f).lanes = y.lanes := rfl
@[simp] theorem C.withCse_serial (y : C) (f : Cse → Cse) : (y.withCse f).serial = y.serial := rfl
@[simp] theorem C.withCse_gte (y : C) (f : Cse → Cse) : (y.withCse f).gte = y.gte := rfl
@[simp] theorem C.withCse_prt (y : C) (f : Cse → Cse) : (y.withCse f).prt = y.prt := rfl
@[simp] theorem C.withCse_clk (y : C) (f : Cse → Cse) : (y.withCse f).clk = y.clk := rfl
@[simp] theorem C.withCse_adc (y : C) (f : Cse → Cse) : (y.withCse f).adc = y.adc := rfl
@[simp] theorem C.withCse_ccp (y : C) (f : Cse → Cse) : (y.withCse f).ccp = y.ccp := rfl
@[simp] theorem C.withCse_cse (y : C) (f : Cse → Cse) : (y.withCse f).cse = f y.cse := rfl
@[simp] theorem C.withCse_memh (y : C) (f : Cse → Cse) : (y.withCse f).memh = y.memh := rfl
@[simp] theorem C.withCse_mem (y : C) (f : Cse → Cse) : (y.withCse f).mem = y.mem := rfl
@[simp] theorem C.withCse_rst (y : C) (f : Cse → Cse) : (y.withCse f).rst = y.rst := rfl
@[simp] theorem C.withCse_out (y : C) (f : Cse → Cse) : (y.withCse f).out = y.out := rfl
@[simp] theorem C.withCse_free (y : C) (f : Cse → Cse) : (y.withCse f).free = y.free := rfl

/-! ### Register fields of U -/
@[simp] theorem U.rd_wr_same (u : U) (f : Fld) (x : Nat) : (u.wr f x).rd f = x % 2 ^ f.width := Regs.get_set_same _ _ _
theorem U.rd_wr_ne (u : U) {f g : Fld} (x : Nat) (h : g.key ≠ f.key) : (u.wr f x).rd g = u.rd g := Regs.get_set_ne _ _ h
theorem U.rd_lt (u : U) (f : Fld) : u.rd f < 2 ^ f.width := Regs.get_lt _ _
@[simp] theorem U.rd_emit (u : U) (o : Output) (f : Fld) : (u.emit o).rd f = u.rd f := rfl
@[simp] theorem U.on_emit (u : U) (o : Output) (f : Fld) : (u.emit o).on f = u.on f := rfl
theorem U.on_eq (u : U) (f : Fld) : u.on f = (u.rd f != 0) := rfl
theorem U.put_eq (u : U) (f : Fld) (b : Bool) : u.put f b = u.wr f (b2n b) := rfl
theorem U.inc_eq (u : U) (f : Fld) : u.inc f = u.wr f (satInc f.width (u.rd f) 1) := rfl

/-! ### Register fields of H -/
@[simp] theorem H.rd_wr_same (w : H) (f : Fld) (x : Nat) : (w.wr f x).rd f = x % 2 ^ f.width := Regs.get_set_same _ _ _
theorem H.rd_wr_ne (w : H) {f g : Fld} (x : Nat) (h : g.key ≠ f.key) : (w.wr f x).rd g = w.rd g := Regs.get_set_ne _ _ h
theorem H.rd_lt (w : H) (f : Fld) : w.rd f < 2 ^ f.width := Regs.get_lt _ _
@[simp] theorem H.rd_emit (w : H) (o : Output) (f : Fld) : (w.emit o).rd f = w.rd f := rfl
@[simp] theorem H.on_emit (w : H) (o : Output) (f : Fld) : (w.emit o).on f = w.on f := rfl
theorem H.on_eq (w : H) (f : Fld) : w.on f = (w.rd f != 0) := rfl
theorem H.put_eq (w : H) (f : Fld) (b : Bool) : w.put f b = w.wr f (b2n b) := rfl
theorem H.inc_eq (w : H) (f : Fld) : w.inc f = w.wr f (satInc f.width (w.rd f) 1) := rfl

/-! ### Register fields of C -/
@[simp] theorem C.rd_wr_same (y : C) (f : Fld) (x : Nat) : (y.wr f x).rd f = x % 2 ^ f.width := Regs.get_set_same _ _ _
theorem C.rd_wr_ne (y : C) {f g : Fld} (x : Nat) (h : g.key ≠ f.key) : (y.wr f x).rd g = y.rd g := Regs.get_set_ne _ _ h
theorem C.rd_lt (y : C) (f : Fld) : y.rd f < 2 ^ f.width := Regs.get_lt _ _
@[simp] theorem C.rd_emit (y : C) (o : Output) (f : Fld) : (y.emit o).rd f = y.rd f := rfl
@[simp] theorem C.on_emit (y : C) (o : Output) (f : Fld) : (y.emit o).on f = y.on f := rfl
theorem C.on_eq (y : C) (f : Fld) : y.on f = (y.rd f != 0) := rfl
theorem C.put_eq (y : C) (f : Fld) (b : Bool) : y.put f b = y.wr f (b2n b) := rfl
theorem C.inc_eq (y : C) (f : Fld) : y.inc f = y.wr f (satInc f.width (y.rd f) 1) := rfl

@[simp] theorem U.rd_withTim (u : U) (f : TimHid → TimHid) (g : Fld) : (u.withTim f).rd g = u.rd g := rfl
@[simp] theorem U.on_withTim (u : U) (f : TimHid → TimHid) (g : Fld) : (u.withTim f).on g = u.on g := rfl
@[simp] theorem U.rd_withSch (u : U) (f : Sched → Sched) (g : Fld) : (u.withSch f).rd g = u.rd g := rfl
@[simp] theorem U.on_withSch (u : U) (f : Sched → Sched) (g : Fld) : (u.withSch f).on g = u.on g := rfl
@[simp] theorem U.rd_withDep (u : U) (f : Dep → Dep) (g : Fld) : (u.withDep f).rd g = u.rd g := rfl
@[simp] theorem U.on_withDep (u : U) (f : Dep → Dep) (g : Fld) : (u.withDep f).on g = u.on g := rfl
@[simp] theorem U.rd_withSbx (u : U) (f : Sbx → Sbx) (g : Fld) : (u.withSbx f).rd g = u.rd g := rfl
@[simp] theorem U.on_withSbx (u : U) (f : Sbx → Sbx) (g : Fld) : (u.withSbx f).on g = u.on g := rfl
@[simp] theorem U.rd_withSdl (u : U) (f : Sdl → Sdl) (g : Fld) : (u.withSdl f).rd g = u.rd g := rfl
@[simp] theorem U.on_withSdl (u : U) (f : Sdl → Sdl) (g : Fld) : (u.withSdl f).on g = u.on g := rfl
@[simp] theorem U.rd_withPbx (u : U) (f : Pbx → Pbx) (g : Fld) : (u.withPbx f).rd g = u.rd g := rfl
@[simp] theorem U.on_withPbx (u : U) (f : Pbx → Pbx) (g : Fld) : (u.withPbx f).on g = u.on g := rfl
@[simp] theorem U.rd_withLpe (u : U) (f : Lpe → Lpe) (g : Fld) : (u.withLpe f).rd g = u.rd g := rfl
@[simp] theorem U.on_withLpe (u : U) (f : Lpe → Lpe) (g : Fld) : (u.withLpe f).on g = u.on g := rfl
@[simp] theorem U.rd_withMlk (u : U) (f : Mlk → Mlk) (g : Fld) : (u.withMlk f).rd g = u.rd g := rfl
@[simp] theorem U.on_withMlk (u : U) (f : Mlk → Mlk) (g : Fld) : (u.withMlk f).on g = u.on g := rfl
@[simp] theorem U.rd_withCap (u : U) (f : Cap → Cap) (g : Fld) : (u.withCap f).rd g = u.rd g := rfl
@[simp] theorem U.on_withCap (u : U) (f : Cap → Cap) (g : Fld) : (u.withCap f).on g = u.on g := rfl
@[simp] theorem U.rd_withSys (u : U) (f : Sys → Sys) (g : Fld) : (u.withSys f).rd g = u.rd g := rfl
@[simp] theorem U.on_withSys (u : U) (f : Sys → Sys) (g : Fld) : (u.withSys f).on g = u.on g := rfl
@[simp] theorem U.rd_withSec (u : U) (f : Sec → Sec) (g : Fld) : (u.withSec f).rd g = u.rd g := rfl
@[simp] theorem U.on_withSec (u : U) (f : Sec → Sec) (g : Fld) : (u.withSec f).on g = u.on g := rfl
@[simp] theorem C.rd_withGte (y : C) (f : Gte → Gte) (g : Fld) : (y.withGte f).rd g = y.rd g := rfl
@[simp] theorem C.on_withGte (y : C) (f : Gte → Gte) (g : Fld) : (y.withGte f).on g = y.on g := rfl
@[simp] theorem C.rd_withPrt (y : C) (f : Prt → Prt) (g : Fld) : (y.withPrt f).rd g = y.rd g := rfl
@[simp] theorem C.on_withPrt (y : C) (f : Prt → Prt) (g : Fld) : (y.withPrt f).on g = y.on g := rfl
@[simp] theorem C.rd_withClk (y : C) (f : Clk → Clk) (g : Fld) : (y.withClk f).rd g = y.rd g := rfl
@[simp] theorem C.on_withClk (y : C) (f : Clk → Clk) (g : Fld) : (y.withClk f).on g = y.on g := rfl
@[simp] theorem C.rd_withCcp (y : C) (f : Ccp → Ccp) (g : Fld) : (y.withCcp f).rd g = y.rd g := rfl
@[simp] theorem C.on_withCcp (y : C) (f : Ccp → Ccp) (g : Fld) : (y.withCcp f).on g = y.on g := rfl
@[simp] theorem C.rd_withCse (y : C) (f : Cse → Cse) (g : Fld) : (y.withCse f).rd g = y.rd g := rfl
@[simp] theorem C.on_withCse (y : C) (f : Cse → Cse) (g : Fld) : (y.withCse f).on g = y.on g := rfl

@[simp] theorem b2n_true : b2n true = 1 := rfl
@[simp] theorem b2n_false : b2n false = 0 := rfl
theorem b2n_lt (b : Bool) : b2n b < 2 := by cases b <;> decide
@[simp] theorem b2n_mod (b : Bool) : b2n b % 2 = b2n b := by cases b <;> rfl

/-! ### The whole state -/
@[simp] theorem State.setUnit_time (s : State) (t : TimeBase) (u v : U) : (s.setUnit t u v).time = t := rfl
@[simp] theorem State.setUnit_u (s : State) (t : TimeBase) (u v : U) : (s.setUnit t u v).u = u.finish t v := rfl
@[simp] theorem State.setUnit_hubs (s : State) (t : TimeBase) (u v : U) : (s.setUnit t u v).hubs = s.hubs := rfl
@[simp] theorem State.setUnit_cells (s : State) (t : TimeBase) (u v : U) : (s.setUnit t u v).cells = s.cells := rfl
@[simp] theorem State.setUnit_pending (s : State) (t : TimeBase) (u v : U) : (s.setUnit t u v).pending = s.pending := rfl
@[simp] theorem State.idle_hubs (s : State) : s.idle.hubs = s.hubs := by unfold State.idle; split <;> rfl
@[simp] theorem State.idle_cells (s : State) : s.idle.cells = s.cells := by unfold State.idle; split <;> rfl
@[simp] theorem State.idle_pending (s : State) : s.idle.pending = s.pending := by unfold State.idle; split <;> rfl
theorem State.idle_held {s : State} (h : s.u.held = true) : s.idle = s := by simp only [State.idle, h, if_true]
theorem State.idle_runs {s : State} (h : s.u.held = false) :
    s.idle = { s with time := s.time.pass, u := (s.u.pass s.time s.time.pass).markEdge s.time.pass } := by
  simp only [State.idle, h, Bool.false_eq_true, if_false]
theorem U.pass_same {u : U} {old new : TimeBase} (h : new.t16 / 2 ^ 64 ≤ old.t16 / 2 ^ 64) (hc : u.sdl.cur = none) (ht : u.sdl.tx = []) :
    u.pass old new = u := by
  unfold U.pass
  rw [if_neg (Nat.not_lt.mpr h)]
  simp [hc, ht]

@[simp] theorem TimeBase.pass_sec (t : TimeBase) : t.pass.sec = t.sec := by unfold TimeBase.pass; split <;> rfl
@[simp] theorem TimeBase.pass_ns (t : TimeBase) : t.pass.ns = t.ns := by unfold TimeBase.pass; split <;> rfl
@[simp] theorem TimeBase.pass_frac (t : TimeBase) : t.pass.frac = t.frac := by unfold TimeBase.pass; split <;> rfl
@[simp] theorem TimeBase.pass_inc (t : TimeBase) : t.pass.inc = t.inc := by unfold TimeBase.pass; split <;> rfl
@[simp] theorem TimeBase.pass_incNext (t : TimeBase) : t.pass.incNext = t.incNext := by unfold TimeBase.pass; split <;> rfl
@[simp] theorem TimeBase.pass_lastUs (t : TimeBase) : t.pass.lastUs = t.lastUs := by unfold TimeBase.pass; split <;> rfl
@[simp] theorem TimeBase.pass_ref80 (t : TimeBase) : t.pass.ref80 = t.ref80 := by unfold TimeBase.pass; split <;> rfl

theorem TimeBase.place_eq (t : TimeBase) (x : Nat) : t.place x =
    TimeBase.mk (x / 2 ^ 32 / 1000000000 % 2 ^ 48) (x / 2 ^ 32 % 1000000000) (x % 2 ^ 32) 0 t.inc t.incNext t.lastUs t.ref80 t.since := by
  unfold TimeBase.place
  with_reducible rfl

theorem TimeBase.tick_eq (t : TimeBase) (mode : Nat) : t.tick mode =
    TimeBase.mk ((t.raw + t.incNext.getD t.inc) / 2 ^ 32 / 1000000000 % 2 ^ 48) ((t.raw + t.incNext.getD t.inc) / 2 ^ 32 % 1000000000)
      ((t.raw + t.incNext.getD t.inc) % 2 ^ 32) 0 (t.incNext.getD t.inc) none t.lastUs (t.ref80 + nominal80 mode) 0 := by
  unfold TimeBase.tick TimeBase.place
  with_reducible rfl

theorem TimeBase.us_mk (a b c d e : Nat) (i : Option Nat) (f g k : Nat) :
    (TimeBase.mk a b c d e i f g k).us = ((a * 1000000000 + b) * 16 + c / 268435456 + d) / 16 / 1000 := by
  unfold TimeBase.us TimeBase.tns TimeBase.t16
  with_reducible rfl

@[simp] theorem TimeBase.place_sec (t : TimeBase) (x : Nat) : (t.place x).sec = x / 2 ^ 32 / 1000000000 % 2 ^ 48 := by
  rw [TimeBase.place_eq]
@[simp] theorem TimeBase.place_ns (t : TimeBase) (x : Nat) : (t.place x).ns = x / 2 ^ 32 % 1000000000 := by rw [TimeBase.place_eq]
@[simp] theorem TimeBase.place_frac (t : TimeBase) (x : Nat) : (t.place x).frac = x % 2 ^ 32 := by rw [TimeBase.place_eq]
@[simp] theorem TimeBase.place_elapsed (t : TimeBase) (x : Nat) : (t.place x).elapsed = 0 := by rw [TimeBase.place_eq]
@[simp] theorem TimeBase.place_inc (t : TimeBase) (x : Nat) : (t.place x).inc = t.inc := by rw [TimeBase.place_eq]
@[simp] theorem TimeBase.place_incNext (t : TimeBase) (x : Nat) : (t.place x).incNext = t.incNext := by rw [TimeBase.place_eq]
@[simp] theorem TimeBase.place_lastUs (t : TimeBase) (x : Nat) : (t.place x).lastUs = t.lastUs := by rw [TimeBase.place_eq]
@[simp] theorem TimeBase.place_since (t : TimeBase) (x : Nat) : (t.place x).since = t.since := by rw [TimeBase.place_eq]
@[simp] theorem TimeBase.place_ref80 (t : TimeBase) (x : Nat) : (t.place x).ref80 = t.ref80 := by rw [TimeBase.place_eq]


end Sys2Proof.Machine
end

