-- ==== Sys2Proof/Laws/Ops.lean ====
section
/-! SUPPORT. What each shared operation of the step can do: the lifts of a command to the unit, a hub or a cell, and the end of a
handshake of the unit. -/
namespace Sys2Proof.Machine

/-- After the events in flight are delivered none is in flight. -/
@[simp] theorem U.drain_evq (n : Nat) (u : U) (t : TimeBase) : (U.drain n u t).evq = [] := by
  induction n generalizing u with
  | zero => rfl
  | succ n ih =>
    simp only [U.drain]
    split
    · assumption
    · exact ih _

/-- With no event in flight there is nothing to deliver. -/
theorem U.drain_nil {u : U} (n : Nat) (t : TimeBase) (h : u.evq = []) : U.drain n u t = u := by
  cases n with
  | zero => cases u; simp_all [U.drain]
  | succ n => simp [U.drain, h]

theorem U.syncSending_eq (u : U) : u.syncSending = u.wr R.SDL_ROLE_SENDING (b2n u.sending) := rfl

@[simp] theorem U.syncSending_evq (u : U) : u.syncSending.evq = u.evq := rfl
@[simp] theorem U.syncBak_evq (u : U) : u.syncBak.evq = u.evq := rfl

theorem U.sideAdvance_calm {u : U} (t : TimeBase) (h : u.Calm) : u.sideAdvance t = u := by simp [U.sideAdvance, h.cur, h.tx]

/-- Outputs that stand on the lines already leave the lines. -/
theorem U.putLines_none {u : U} (h : (u.serial.waiting u.out).isEmpty = true) :
    u.putLines = { u with serial := { u.serial with seen := u.out.length } } := by simp [U.putLines, h]

/-- What putting outputs on the lines leaves: it draws free values and writes the lines alone. -/
theorem U.putLines_keeps (u : U) : ∃ l n, u.putLines = { u with serial := l, free := n } := by
  simp only [U.putLines]
  split
  · exact ⟨_, u.free, rfl⟩
  · have step : ∀ (is : List LineItem) (v : U), (∃ l n, v = { u with serial := l, free := n }) →
        ∃ l n, is.foldl (fun (v : U) i =>
          { v.draw.2 with serial := v.draw.2.serial.put u.laneIO u.laneKind u.serial.tseq u.draw.1 v.draw.1 i }) v =
            { u with serial := l, free := n } := by
      intro is
      induction is with
      | nil => intro v h; exact h
      | cons i is ih => rintro v ⟨l, n, rfl⟩; exact ih _ ⟨_, _, rfl⟩
    obtain ⟨l, n, h⟩ := step (u.serial.waiting u.out) u.draw.2 ⟨_, _, rfl⟩
    exact ⟨{ l with seen := u.out.length }, n, by rw [h]⟩

/-- A handshake in which no event was raised, no snapshot asked for and no mirror frame stands ends with the fields that show the role
and BAK, the lines and what a boundary will find. -/
theorem U.finish_calm {u : U} (t : TimeBase) (l : U) (h : u.Calm) : u.finish t l = (u.syncSending.syncBak.putLines).markEdge t := by
  simp [U.finish, U.sideAdvance_calm t h, U.snapshot, h.shot, U.drain_nil _ _ h.evq]

/-! `markEdge` writes one field of the loop engine. These lemmas go through any such write, so that no check compares station time by unfolding. -/
theorem U.withLpe_regs_any (u : U) (f : Lpe → Lpe) : (u.withLpe f).regs = u.regs ∧ True := ⟨rfl, trivial⟩
@[simp] theorem U.markEdge_regs (u : U) (t : TimeBase) : (u.markEdge t).regs = u.regs := (U.withLpe_regs_any u _).1
theorem U.withLpe_out_any (u : U) (f : Lpe → Lpe) : (u.withLpe f).out = u.out ∧ True := ⟨rfl, trivial⟩
@[simp] theorem U.markEdge_out (u : U) (t : TimeBase) : (u.markEdge t).out = u.out := (U.withLpe_out_any u _).1
theorem U.withLpe_mem_any (u : U) (f : Lpe → Lpe) : (u.withLpe f).mem = u.mem ∧ True := ⟨rfl, trivial⟩
@[simp] theorem U.markEdge_mem (u : U) (t : TimeBase) : (u.markEdge t).mem = u.mem := (U.withLpe_mem_any u _).1
theorem U.withLpe_evq_any (u : U) (f : Lpe → Lpe) : (u.withLpe f).evq = u.evq ∧ True := ⟨rfl, trivial⟩
@[simp] theorem U.markEdge_evq (u : U) (t : TimeBase) : (u.markEdge t).evq = u.evq := (U.withLpe_evq_any u _).1
@[simp] theorem U.putLines_regs (u : U) : u.putLines.regs = u.regs := by obtain ⟨l, n, h⟩ := u.putLines_keeps; rw [h]
@[simp] theorem U.putLines_out (u : U) : u.putLines.out = u.out := by obtain ⟨l, n, h⟩ := u.putLines_keeps; rw [h]
@[simp] theorem U.putLines_mem (u : U) : u.putLines.mem = u.mem := by obtain ⟨l, n, h⟩ := u.putLines_keeps; rw [h]
@[simp] theorem U.putLines_evq (u : U) : u.putLines.evq = u.evq := by obtain ⟨l, n, h⟩ := u.putLines_keeps; rw [h]

@[simp] theorem U.finish_evq (u l : U) (t : TimeBase) : (u.finish t l).evq = [] := by simp [U.finish]

/-- The fields that show the role and BAK, by key. -/
def shownKeys : List Nat :=
  [R.SDL_ROLE_SENDING.key, R.SYS_RST_CAUSE_SOURCES.key, R.SYS_RST_CAUSE_REACH.key, R.SYS_RST_CNT_COUNT.key, R.SYS_HIST_SOURCES.key,
   R.SYS_HIST_REACH.key, R.SYS_HIST_VALID.key, R.SYS_HIST_TSL_TS_LO.key, R.SYS_HIST_TSH_TS_HI.key, R.SYS_LF_CAUSE.key,
   R.SYS_LF_CLASS.key, R.SYS_LF_SOURCE.key, R.SYS_LF_VALID.key, R.SYS_LF_TSL_TS_LO.key, R.SYS_LF_TSH_TS_HI.key]

theorem U.syncBak_rd (u : U) {f : Fld} (h : f.key ∉ shownKeys) : u.syncBak.rd f = u.rd f := by
  simp only [shownKeys, List.mem_cons, List.not_mem_nil, or_false, not_or] at h
  obtain ⟨h1, h2, h3, h4, h5, h6, h7, h8, h9, h10, h11, h12, h13, h14, h15⟩ := h
  unfold U.syncBak
  simp only [U.put_eq]
  rw [U.rd_wr_ne _ _ h15, U.rd_wr_ne _ _ h14, U.rd_wr_ne _ _ h13, U.rd_wr_ne _ _ h12, U.rd_wr_ne _ _ h11, U.rd_wr_ne _ _ h10,
    U.rd_wr_ne _ _ h9, U.rd_wr_ne _ _ h8, U.rd_wr_ne _ _ h7, U.rd_wr_ne _ _ h6, U.rd_wr_ne _ _ h5, U.rd_wr_ne _ _ h4,
    U.rd_wr_ne _ _ h3, U.rd_wr_ne _ _ h2]

theorem U.syncSending_rd (u : U) {f : Fld} (h : f.key ∉ shownKeys) : u.syncSending.rd f = u.rd f :=
  U.rd_wr_ne _ _ (by simp only [shownKeys, List.mem_cons, not_or] at h; exact h.1)

/-- What a calm handshake's end leaves in every other register field. -/
theorem U.finish_rd {u : U} (t : TimeBase) (l : U) (hc : u.Calm) {f : Fld} (h : f.key ∉ shownKeys) : (u.finish t l).rd f = u.rd f := by
  have e : (u.finish t l).regs = u.syncSending.syncBak.regs := by rw [U.finish_calm t l hc]; simp
  have r : (u.finish t l).rd f = u.syncSending.syncBak.rd f := by unfold U.rd; rw [e]
  rw [r, U.syncBak_rd _ h, U.syncSending_rd _ h]

@[simp] theorem U.syncBak_out (u : U) : u.syncBak.out = u.out := rfl
@[simp] theorem U.syncBak_mem (u : U) : u.syncBak.mem = u.mem := rfl
@[simp] theorem U.syncSending_out (u : U) : u.syncSending.out = u.out := rfl
@[simp] theorem U.syncSending_mem (u : U) : u.syncSending.mem = u.mem := rfl

/-- A calm handshake's end sends nothing. -/
theorem U.finish_out {u : U} (t : TimeBase) (l : U) (h : u.Calm) : (u.finish t l).out = u.out := by
  rw [U.finish_calm t l h]; simp

/-- A calm handshake's end leaves SRAM. -/
theorem U.finish_mem {u : U} (t : TimeBase) (l : U) (h : u.Calm) : (u.finish t l).mem = u.mem := by
  rw [U.finish_calm t l h]; simp

/-- A command of no block of its own is heard by a unit that no reset holds as a whole. -/
theorem U.deaf_whole {u : U} {c : Instr} (hc : Instr.home c = none) : u.deaf c = u.held := by simp [U.deaf, hc]

/-- A command of a block is heard where the block can be accessed. -/
theorem U.deaf_block {u : U} {c : Instr} {a : Nat} (hc : Instr.home c = some a) : u.deaf c = (u.held || !u.blockOn a) := by
  simp [U.deaf, hc]

/-- A command of no block of its own is heard by a hub that no reset holds as a whole. -/
theorem H.deaf_whole {h : H} {c : Instr} (hc : Instr.hubHome c = none) : h.deaf c = h.held := by simp [H.deaf, hc]

/-- A hub in which no episode runs hears every command. -/
theorem H.deaf_idle {h : H} (c : Instr) (he : h.sys.ep = none) : h.deaf c = false := by
  have b : h.blockHeld = fun _ => false := by funext i; simp [H.blockHeld, he]
  cases hc : Instr.hubHome c <;> simp [H.deaf, H.held, he, hc, b]

/-- Every command of the unit that its operands admit answers a next state when the unit hears it. -/
theorem State.onUnit_next {s : State} {c : Instr} (f : TimeBase → U → U) (hw : c.wf = true) (hh : s.u.deaf c = false) :
    s.onUnit c f = .next (s.setUnit s.time (f s.time s.u) (f s.time s.u)) := by simp [State.onUnit, hw, hh]

/-- A unit held in reset keeps its state. -/
theorem State.onUnit_held {s : State} {c : Instr} (f : TimeBase → U → U) (hh : s.u.held = true) : s.onUnit c f = .next s := by
  cases hw : c.wf <;> simp [State.onUnit, U.deaf, hw, hh]

/-- A block held in reset keeps the unit's state (R516). -/
theorem State.onUnit_deaf {s : State} {c : Instr} (f : TimeBase → U → U) (hh : s.u.deaf c = true) : s.onUnit c f = .next s := by
  cases hw : c.wf <;> simp [State.onUnit, hw, hh]

/-- A command whose operands no chip has changes nothing. -/
theorem State.onUnit_bad {s : State} {c : Instr} (f : TimeBase → U → U) (hw : c.wf = false) :
    s.onUnit c f = .next s := by simp [State.onUnit, hw]

theorem State.onTime_next {s : State} {c : Instr} (f : TimeBase → U → TimeBase × U) (hw : c.wf = true) (hh : s.u.deaf c = false) :
    s.onTime c f = .next (s.setUnit (f s.time s.u).1 (f s.time s.u).2 (f s.time s.u).2) := by simp [State.onTime, hw, hh]

theorem State.onReset_next {s : State} {c : Instr} (f : TimeBase → U → TimeBase × U) (hw : c.wf = true) :
    s.onReset c f = .next (s.setUnit (f s.time s.u).1 (f s.time s.u).2 (f s.time s.u).2) := by simp [State.onReset, hw]

theorem State.onHub_next {s : State} {c : Instr} (h : Nat) (f : HubAt → H → H) (hw : c.wf = true) (hh : (s.hub h).deaf c = false) :
    s.onHub c h f = .next (s.setHub h (f (s.hubAt h) (s.hub h))) := by simp [State.onHub, hw, hh]

theorem State.onHubReset_next {s : State} {c : Instr} (h : Nat) (f : HubAt → H → H) (hw : c.wf = true) :
    s.onHubReset c h f = .next (s.setHub h (f (s.hubAt h) (s.hub h))) := by simp [State.onHubReset, hw]

theorem State.onCell_next {s : State} {c : Instr} (cid : Nat) (f : C → C) (hw : c.wf = true) :
    s.onCell c cid f = .next (s.setCell cid (f (s.cell cid))) := by simp [State.onCell, hw]

/-- All that a lift to the unit can answer. -/
theorem State.onUnit_cases {s : State} {c : Instr} {f : TimeBase → U → U} {r : Answer} (h : s.onUnit c f = r) :
    (c.wf = false ∧ r = .next s) ∨ (c.wf = true ∧ s.u.deaf c = true ∧ r = .next s) ∨
    (c.wf = true ∧ s.u.deaf c = false ∧ r = .next (s.setUnit s.time (f s.time s.u) (f s.time s.u))) := by
  subst h
  cases hw : c.wf <;> cases hh : s.u.deaf c <;> simp [State.onUnit, hw, hh]

theorem State.onTime_cases {s : State} {c : Instr} {f : TimeBase → U → TimeBase × U} {r : Answer} (h : s.onTime c f = r) :
    (c.wf = false ∧ r = .next s) ∨ (c.wf = true ∧ s.u.deaf c = true ∧ r = .next s) ∨
    (c.wf = true ∧ s.u.deaf c = false ∧ r = .next (s.setUnit (f s.time s.u).1 (f s.time s.u).2 (f s.time s.u).2)) := by
  subst h
  cases hw : c.wf <;> cases hh : s.u.deaf c <;> simp [State.onTime, hw, hh]

theorem State.onReset_cases {s : State} {c : Instr} {f : TimeBase → U → TimeBase × U} {r : Answer} (h : s.onReset c f = r) :
    (c.wf = false ∧ r = .next s) ∨
    (c.wf = true ∧ r = .next (s.setUnit (f s.time s.u).1 (f s.time s.u).2 (f s.time s.u).2)) := by
  subst h
  cases hw : c.wf <;> simp [State.onReset, hw]

theorem State.onHub_cases {s : State} {c : Instr} {h : Nat} {f : HubAt → H → H} {r : Answer} (e : s.onHub c h f = r) :
    (c.wf = false ∧ r = .next s) ∨ (c.wf = true ∧ (s.hub h).deaf c = true ∧ r = .next s) ∨
    (c.wf = true ∧ (s.hub h).deaf c = false ∧ r = .next (s.setHub h (f (s.hubAt h) (s.hub h)))) := by
  subst e
  cases hw : c.wf <;> cases hh : (s.hub h).deaf c <;> simp [State.onHub, hw, hh]

theorem State.onHubReset_cases {s : State} {c : Instr} {h : Nat} {f : HubAt → H → H} {r : Answer} (e : s.onHubReset c h f = r) :
    (c.wf = false ∧ r = .next s) ∨ (c.wf = true ∧ r = .next (s.setHub h (f (s.hubAt h) (s.hub h)))) := by
  subst e
  cases hw : c.wf <;> simp [State.onHubReset, hw]

theorem State.onCell_cases {s : State} {c : Instr} {cid : Nat} {f : C → C} {r : Answer} (e : s.onCell c cid f = r) :
    (c.wf = false ∧ r = .next s) ∨
    (c.wf = true ∧ r = .next (s.setCell cid (f (s.cell cid)))) := by
  subst e
  cases hw : c.wf <;> simp [State.onCell, hw]

/-! ### Every lift answers a next state -/
theorem State.onUnit_total (s : State) (c : Instr) (f : TimeBase → U → U) : ∃ t, s.onUnit c f = .next t := by
  rcases State.onUnit_cases rfl with ⟨_, h⟩ | ⟨_, _, h⟩ | ⟨_, _, h⟩ <;> exact ⟨_, h⟩
theorem State.onTime_total (s : State) (c : Instr) (f : TimeBase → U → TimeBase × U) : ∃ t, s.onTime c f = .next t := by
  rcases State.onTime_cases rfl with ⟨_, h⟩ | ⟨_, _, h⟩ | ⟨_, _, h⟩ <;> exact ⟨_, h⟩
theorem State.onReset_total (s : State) (c : Instr) (f : TimeBase → U → TimeBase × U) : ∃ t, s.onReset c f = .next t := by
  rcases State.onReset_cases rfl with ⟨_, h⟩ | ⟨_, h⟩ <;> exact ⟨_, h⟩
theorem State.onHub_total (s : State) (c : Instr) (h : Nat) (f : HubAt → H → H) : ∃ t, s.onHub c h f = .next t := by
  rcases State.onHub_cases rfl with ⟨_, h⟩ | ⟨_, _, h⟩ | ⟨_, _, h⟩ <;> exact ⟨_, h⟩
theorem State.onHubReset_total (s : State) (c : Instr) (h : Nat) (f : HubAt → H → H) : ∃ t, s.onHubReset c h f = .next t := by
  rcases State.onHubReset_cases rfl with ⟨_, h⟩ | ⟨_, h⟩ <;> exact ⟨_, h⟩
theorem State.onController_total (s : State) (c : Instr) (chip : Chip) (fu : TimeBase → U → TimeBase × U) (fh : H → H) :
    ∃ t, s.onController c chip fu fh = .next t := by
  cases chip <;> simp only [State.onController] <;> first | exact State.onHubReset_total _ _ _ _ | exact State.onReset_total _ _ _
theorem State.onCell_total (s : State) (c : Instr) (cid : Nat) (f : C → C) : ∃ t, s.onCell c cid f = .next t := by
  rcases State.onCell_cases rfl with ⟨_, h⟩ | ⟨_, h⟩ <;> exact ⟨_, h⟩

/-- A tick between two reference ticks keeps station time's formats. -/
theorem TimeBase.pass_fits {t : TimeBase} (h : t.Fits) : t.pass.Fits := by
  simpa [TimeBase.Fits] using h

end Sys2Proof.Machine
end

