-- ==== Sys2Proof/Laws/Lanes.lean ====
section
/-! SUPPORT. What a command of a lane answers, wherever its lane stands. -/
namespace Sys2Proof.Machine

theorem U.onLane_const (u : U) (t : TimeBase) (n : Nat) (f : LaneIO → LaneIO) : u.onLane t n f = u.onLane t n (fun _ => f u.laneIO) := rfl

theorem H.onLane_const (h : H) (x : HubAt) (n : Nat) (f : LaneIO → LaneIO) : h.onLane x n f = h.onLane x n (fun _ => f h.laneIO) := rfl

theorem C.onLane_const (c : C) (ofs n : Nat) (f : LaneIO → LaneIO) : c.onLane ofs n f = c.onLane ofs n (fun _ => f c.laneIO) := rfl

@[simp] theorem U.laneIO_draw (u : U) : u.draw.2.laneIO = u.laneIO := rfl
@[simp] theorem U.laneKind_draw (u : U) (n : Nat) : u.draw.2.laneKind n = u.laneKind n := rfl
@[simp] theorem H.laneIO_draw (h : H) (x : HubAt) : (h.draw x).2.laneIO = h.laneIO := rfl
@[simp] theorem H.laneKind_draw (h : H) (x : HubAt) (n : Nat) : (h.draw x).2.laneKind n = h.laneKind n := rfl
@[simp] theorem C.laneIO_draw (c : C) (cid : Nat) : (c.draw cid).2.laneIO = c.laneIO := rfl

/-- A command of a lane leaves its chip's lanes as its lane function does, whatever the free values and the time. -/
theorem State.onLane_next {s : State} {l : LaneAt} {c : Instr} {f : LaneKind → Nat × Nat → Nat → LaneIO → LaneIO} (hr : s.hears c l)
    (hw : c.wf = true) (io : LaneIO) (h : ∀ d now, f (s.laneKind l) d now (s.laneIO l) = io) :
    s.onLane c l f = .next (s.withLane l io) := by
  cases l with
  | unit n =>
    simp only [State.onLane]
    rw [State.onUnit_next _ hw hr]
    rw [U.onLane_const]
    simp only [U.laneIO_draw, U.laneKind_draw]
    rw [show f (s.u.laneKind n) (s.u.draw.1, s.u.draw.2.draw.1) s.time.tns s.u.laneIO = io from h _ _]
    rfl
  | hub k n =>
    simp only [State.onLane]
    rw [State.onHub_next _ _ hw hr]
    rw [H.onLane_const]
    simp only [H.laneIO_draw, H.laneKind_draw]
    simp only [State.laneKind, State.laneIO] at h
    rw [show ∀ d now, f ((s.hub k).laneKind n) d now (s.hub k).laneIO = io from h]
    rfl
  | cell cid p =>
    simp only [State.onLane, State.onCellNow]
    rw [State.onCell_next _ _ hw]
    rw [C.onLane_const]
    simp only [C.laneIO_draw]
    simp only [State.laneKind, State.laneIO] at h
    rw [h]
    rfl

end Sys2Proof.Machine
end

