-- ==== Sys2Proof/Laws/Lines.lean ====
section
/-! SUPPORT. The laws of what chips send each other: numbers as bytes, the blocks of a Mainline frame. -/
namespace Sys2Proof.Machine

@[simp] theorem toBytes_length (n v : Nat) : (toBytes n v).length = n := by
  induction n generalizing v with
  | zero => rfl
  | succ n ih => simp [toBytes, ih]

/-- Each byte of a number is one. -/
theorem toBytes_byte {n v x : Nat} (h : x ∈ toBytes n v) : x < 256 := by
  induction n generalizing v with
  | zero => cases h
  | succ n ih =>
    rcases List.mem_cons.mp h with rfl | h
    · exact Nat.mod_lt _ (by decide)
    · exact ih h

/-- A number as little-endian bytes is read back up to its width. -/
theorem ofBytes_toBytes (n v : Nat) : ofBytes (toBytes n v) = v % 256 ^ n := by
  induction n generalizing v with
  | zero => simp [toBytes, ofBytes, Nat.mod_one]
  | succ n ih => simp only [toBytes, ofBytes, ih, Nat.mod_mod, Nat.pow_succ', Nat.mod_mul]

/-- Bytes are read back from the number they spell. -/
theorem toBytes_ofBytes (l : List Nat) (h : ∀ b ∈ l, b < 256) : toBytes l.length (ofBytes l) = l := by
  induction l with
  | nil => rfl
  | cons b l ih =>
    have hb := h b (List.mem_cons_self ..)
    have h1 : (b % 256 + 256 * ofBytes l) % 256 = b := by omega
    have h2 : (b % 256 + 256 * ofBytes l) / 256 = ofBytes l := by omega
    simp only [List.length_cons, toBytes, ofBytes, h1, h2, ih (fun x hx => h x (List.mem_cons_of_mem _ hx))]

/-- A digest is read back from its 32 bytes. -/
theorem ofBytes_digest (l : List Nat) : ofBytes (toBytes 32 (Config.shake256 l)) = Config.shake256 l := by
  rw [ofBytes_toBytes]
  exact Nat.mod_eq_of_lt (BitVec.isLt _)

end Sys2Proof.Machine
end

