-- ==== Sys2Proof/Laws/Records.lean ====
section
/-! SUPPORT. What raising a cause, an avalanche and a trip can do to the unit: which of its parts each may change, and which register
fields (R139, R140, R442 to R447, R471). -/
namespace Sys2Proof.Machine

/-- The unit without the parts that raising a cause can change. -/
def U.unraised (u : U) : U := { u with regs := [], evq := [], recs := [], act := [], lf := [], sys := { u.sys with bakCrc := 0 } }

@[simp] theorem U.unraised_wr (u : U) (f : Fld) (x : Nat) : (u.wr f x).unraised = u.unraised := rfl
@[simp] theorem U.unraised_inc (u : U) (f : Fld) : (u.inc f).unraised = u.unraised := rfl
@[simp] theorem U.unraised_put (u : U) (f : Fld) (b : Bool) : (u.put f b).unraised = u.unraised := rfl
@[simp] theorem U.unraised_evq (u : U) (e : List Nat) : ({ u with evq := e } : U).unraised = u.unraised := rfl
@[simp] theorem U.unraised_recs (u : U) (r : Tbl Rec) : ({ u with recs := r } : U).unraised = u.unraised := rfl
@[simp] theorem U.unraised_act (u : U) (r : List (Nat × Nat)) : ({ u with act := r } : U).unraised = u.unraised := rfl
@[simp] theorem U.unraised_lf (u : U) (r : List LfEntry) : ({ u with lf := r } : U).unraised = u.unraised := rfl

@[simp] theorem U.unraised_sealBak (u : U) : u.sealBak.unraised = u.unraised := rfl
@[simp] theorem U.rd_sealBak (u : U) (f : Fld) : u.sealBak.rd f = u.rd f := rfl

theorem U.unraised_foldl_wr {α : Type} (l : List α) (f : α → Fld) (g : α → Nat) (u : U) :
    (l.foldl (fun (u : U) d => u.wr (f d) (g d)) u).unraised = u.unraised := by
  induction l generalizing u with
  | nil => rfl
  | cons d l ih => rw [List.foldl_cons, ih, U.unraised_wr]

theorem U.foldl_wr_rd {α : Type} (l : List α) (f : α → Fld) (g : α → Nat) (u : U) (x : Fld) (h : ∀ d ∈ l, x.key ≠ (f d).key) :
    (l.foldl (fun (u : U) d => u.wr (f d) (g d)) u).rd x = u.rd x := by
  induction l generalizing u with
  | nil => rfl
  | cons d l ih =>
    rw [List.foldl_cons, ih _ (fun e he => h e (List.mem_cons_of_mem _ he)), U.rd_wr_ne _ _ (h d List.mem_cons_self)]

@[simp] theorem U.unraised_offer (u : U) (ts cls src bit : Nat) : (u.offer ts cls src bit).unraised = u.unraised := by
  unfold U.offer
  simp only [U.unraised_sealBak, U.unraised_lf]
  split <;> simp

/-- The fields of the first-trip record. -/
def ftKeys : List Nat :=
  [R.SBX_FT_CAUSE.key, R.SBX_FT_CLASS.key, R.SBX_FT_SOURCE.key, R.SBX_FT_VALID.key, R.SBX_FT_TSL_TS_LO.key, R.SBX_FT_TSH_TS_HI.key]

/-- The offer to the signal box changes the first-trip record only. -/
theorem U.offer_rd (u : U) (ts cls src bit : Nat) {f : Fld} (h : f.key ∉ ftKeys) : (u.offer ts cls src bit).rd f = u.rd f := by
  simp only [ftKeys, List.mem_cons, List.not_mem_nil, or_false, not_or] at h
  obtain ⟨h1, h2, h3, h4, h5, h6⟩ := h
  unfold U.offer
  simp only
  split
  · show (((((((u.wr R.SBX_FT_CAUSE bit).wr R.SBX_FT_CLASS cls).wr R.SBX_FT_SOURCE src).wr R.SBX_FT_VALID 1).wr
        R.SBX_FT_TSL_TS_LO ts).wr R.SBX_FT_TSH_TS_HI (ts / 2 ^ 32)).rd f) = _
    rw [U.rd_wr_ne _ _ h6, U.rd_wr_ne _ _ h5, U.rd_wr_ne _ _ h4, U.rd_wr_ne _ _ h3, U.rd_wr_ne _ _ h2, U.rd_wr_ne _ _ h1]
  · rfl

@[simp] theorem U.unraised_markCause (u : U) (c : Cause) : (u.markCause c).unraised = u.unraised := by
  unfold U.markCause; simp only; split <;> rfl
@[simp] theorem U.unraised_markClass (u : U) (c : Cause) (cls : Nat) : (u.markClass c cls).unraised = u.unraised := by
  unfold U.markClass; simp only; split <;> rfl
@[simp] theorem U.unraised_markFirst (u : U) (ts : Nat) (c : Cause) (cls : Nat) (d : List (Nat × Nat × Nat)) :
    (u.markFirst ts c cls d).unraised = u.unraised := by
  unfold U.markFirst; split
  · rfl
  · simp only; rw [U.unraised_foldl_wr]; rfl

/-- A cause raised changes registers, the events in flight, the fault records and the last-fault record only. -/
@[simp] theorem U.unraised_record (u : U) (ts : Nat) (c : Cause) (base : Option Nat) (d : List (Nat × Nat × Nat)) :
    (u.record ts c base d).2.unraised = u.unraised := by
  unfold U.record
  cases base with
  | none => simp
  | some b => simp only; split <;> simp

theorem U.markCause_rd (u : U) (c : Cause) {f : Fld} (h : f.key ≠ (c.blk.status c.bit).key) : (u.markCause c).rd f = u.rd f := by
  have e : ∀ (v : U) (q : List Nat), ({ v with evq := q } : U).rd f = v.rd f := fun _ _ => rfl
  unfold U.markCause; simp only; split
  · rw [e, U.rd_wr_ne _ _ h]
  · rw [U.rd_wr_ne _ _ h]

theorem U.markCause_status (u : U) (c : Cause) : (u.markCause c).rd (c.blk.status c.bit) = 1 := by
  have e : ∀ (v : U) (q : List Nat) f, ({ v with evq := q } : U).rd f = v.rd f := fun _ _ _ => rfl
  unfold U.markCause; simp only; split
  · rw [e, U.rd_wr_same]; rfl
  · rw [U.rd_wr_same]; rfl

theorem U.markClass_rd (u : U) (c : Cause) (cls : Nat) {f : Fld} (h : f.key ≠ c.blk.events.key) : (u.markClass c cls).rd f = u.rd f := by
  unfold U.markClass; simp only; rw [U.inc_eq, U.rd_wr_ne _ _ h]; split <;> rfl

theorem U.markFirst_rd (u : U) (ts : Nat) (c : Cause) (cls : Nat) (d : List (Nat × Nat × Nat)) {f : Fld}
    (h3 : f.key ≠ c.blk.firstCause.key) (h4 : f.key ≠ c.blk.firstClass.key) (h5 : f.key ≠ c.blk.firstValid.key)
    (h6 : f.key ≠ c.blk.firstTsl.key) (h7 : f.key ≠ c.blk.firstTsh.key) (h8 : ∀ e ∈ d, f.key ≠ (c.blk.firstDetail e.1 e.2.1).key) :
    (u.markFirst ts c cls d).rd f = u.rd f := by
  unfold U.markFirst; split
  · rfl
  · simp only
    rw [U.foldl_wr_rd _ _ _ _ _ h8, U.rd_wr_ne _ _ h7, U.rd_wr_ne _ _ h6, U.rd_wr_ne _ _ h5, U.rd_wr_ne _ _ h4, U.rd_wr_ne _ _ h3]

/-- The register fields that recording a fault of a block can change beside the STATUS bit of its cause. -/
def Cause.touches (c : Cause) (d : List (Nat × Nat × Nat)) : List Nat :=
  [c.blk.events.key, c.blk.firstCause.key, c.blk.firstClass.key, c.blk.firstValid.key, c.blk.firstTsl.key, c.blk.firstTsh.key] ++
    d.map (fun e => (c.blk.firstDetail e.1 e.2.1).key) ++ ftKeys

/-- A field that no record holds keeps what the STATUS bit's setting left in it. -/
theorem U.record_rd_mark (u : U) (ts : Nat) (c : Cause) (base : Option Nat) (d : List (Nat × Nat × Nat)) {f : Fld}
    (h : f.key ∉ c.touches d) : (u.record ts c base d).2.rd f = (u.markCause c).rd f := by
  simp only [Cause.touches, List.mem_append, List.mem_cons, List.not_mem_nil, or_false, not_or, List.mem_map, not_exists, not_and] at h
  obtain ⟨⟨⟨h2, h3, h4, h5, h6, h7⟩, h8⟩, h9⟩ := h
  have h8' : ∀ e ∈ d, f.key ≠ (c.blk.firstDetail e.1 e.2.1).key := fun e he hk => h8 e he hk.symm
  unfold U.record
  cases base with
  | none => rfl
  | some b =>
    simp only
    split
    · rw [U.offer_rd _ _ _ _ _ h9, U.markFirst_rd _ _ _ _ _ h3 h4 h5 h6 h7 h8', U.markClass_rd _ _ _ h2]
    · rw [U.markFirst_rd _ _ _ _ _ h3 h4 h5 h6 h7 h8', U.markClass_rd _ _ _ h2]

/-- Raising a cause leaves every register field outside its STATUS bit, its block's record and the first trip. -/
theorem U.record_rd (u : U) (ts : Nat) (c : Cause) (base : Option Nat) (d : List (Nat × Nat × Nat)) {f : Fld}
    (h1 : f.key ≠ (c.blk.status c.bit).key) (h : f.key ∉ c.touches d) : (u.record ts c base d).2.rd f = u.rd f := by
  rw [U.record_rd_mark _ _ _ _ _ h, U.markCause_rd _ _ h1]

/-- The STATUS bit of a cause stands after it is raised. -/
theorem U.record_status (u : U) (ts : Nat) (c : Cause) (base : Option Nat) (d : List (Nat × Nat × Nat))
    (h : (c.blk.status c.bit).key ∉ c.touches d) : (u.record ts c base d).2.rd (c.blk.status c.bit) = 1 := by
  rw [U.record_rd_mark _ _ _ _ _ h, U.markCause_status]

/-- The unit without the parts that capture and snapshot triggers change. -/
def U.unseen (u : U) : U := { u with cap := .zero, snp := .zero }

@[simp] theorem U.faultSeen_unseen (u : U) (cls : Nat) : (u.faultSeen cls).unseen = u.unseen := by
  unfold U.faultSeen
  split
  · rfl
  · simp only
    split <;> split <;> rfl

@[simp] theorem U.faultSeen_rd (u : U) (cls : Nat) (f : Fld) : (u.faultSeen cls).rd f = u.rd f := by
  have := congrArg U.regs (U.faultSeen_unseen u cls)
  simp only [U.rd]
  exact congrArg (fun r => Regs.get r f) this

@[simp] theorem U.faultSeen_out (u : U) (cls : Nat) : (u.faultSeen cls).out = u.out := by
  have h := congrArg U.out (U.faultSeen_unseen u cls)
  exact h
@[simp] theorem U.record_out (u : U) (ts : Nat) (c : Cause) (base : Option Nat) (d : List (Nat × Nat × Nat)) :
    (u.record ts c base d).2.out = u.out := by
  have h := congrArg U.out (U.unraised_record u ts c base d)
  exact h
@[simp] theorem U.record_mem (u : U) (ts : Nat) (c : Cause) (base : Option Nat) (d : List (Nat × Nat × Nat)) :
    (u.record ts c base d).2.mem = u.mem := by
  have h := congrArg U.mem (U.unraised_record u ts c base d)
  exact h

/-- A cause of class 0 is recorded and seen by capture, and nothing else: at final class 0 or 1 no action follows (R447). -/
theorem U.raise_low (u : U) (t : TimeBase) (c : Cause) (d : List (Nat × Nat × Nat)) (hc : c.cls = some 0) :
    u.raise t c d = (u.record t.ts64 c (some 0) d).2.faultSeen (u.record t.ts64 c (some 0) d).1 := by
  simp only [U.raise, U.raiseAt, hc, Option.isNone_some, Bool.false_eq_true, if_false]
  have : (u.record t.ts64 c (some 0) d).1 < 2 := by
    simp only [U.record, escalate]; split <;> omega
  unfold U.classAct
  rw [if_neg (by omega), if_neg (by omega)]

/-- The STATUS bit of a cause of class 0 stands after it is raised. -/
theorem U.raise_status (u : U) (t : TimeBase) (c : Cause) (d : List (Nat × Nat × Nat)) (hc : c.cls = some 0)
    (h : (c.blk.status c.bit).key ∉ c.touches d) : (u.raise t c d).rd (c.blk.status c.bit) = 1 := by
  rw [U.raise_low _ _ _ _ hc, U.faultSeen_rd]
  exact U.record_status _ _ _ _ _ h

/-- The register fields that bringing the permits up to date can change. -/
def permitKeys : List Nat :=
  [R.SBX_PERM_LS.key, R.SBX_PERM_HS_OUT.key, R.SBX_PERM_GRANTED.key, R.SBX_STATE_RUN_OK.key, R.SBX_STATE_PRE_OK.key,
   R.DEP_CTL_CONV_EN.key]

theorem U.permits_rd (u : U) {f : Fld} (h : f.key ∉ permitKeys) : u.permits.rd f = u.rd f := by
  simp only [permitKeys, List.mem_cons, List.not_mem_nil, or_false, not_or] at h
  obtain ⟨h1, h2, h3, h4, h5, h6⟩ := h
  have e : ∀ (v : U) (b : Sbx), ({ v with sbx := b } : U).rd f = v.rd f := fun _ _ => rfl
  unfold U.permits
  simp only [U.put_eq]
  split
  · rw [U.rd_wr_ne _ _ h6, e, U.rd_wr_ne _ _ h5, U.rd_wr_ne _ _ h4, U.rd_wr_ne _ _ h3, U.rd_wr_ne _ _ h2, U.rd_wr_ne _ _ h1]
  · rw [e, U.rd_wr_ne _ _ h5, U.rd_wr_ne _ _ h4, U.rd_wr_ne _ _ h3, U.rd_wr_ne _ _ h2, U.rd_wr_ne _ _ h1]

/-- The register fields that a trip can change beside the permits. -/
def tripKeys : List Nat :=
  [R.SBX_STATE_TRIPPED.key, R.SBX_STATE_AV_OUT.key, R.SBX_HS_HS.key, R.SBX_TRIP_LINE_LINE.key, R.SBX_TRIP_LINE_VALID.key]

theorem U.tripCore_rd (u : U) {f : Fld} (hp : f.key ∉ permitKeys) (h : f.key ∉ tripKeys) : u.tripCore.rd f = u.rd f := by
  simp only [tripKeys, List.mem_cons, List.not_mem_nil, or_false, not_or] at h
  obtain ⟨h1, h2, h3, h4, h5⟩ := h
  have e : ∀ (v : U) (b : Sbx), ({ v with sbx := b } : U).rd f = v.rd f := fun _ _ => rfl
  unfold U.tripCore
  split
  · rfl
  simp only
  rw [U.permits_rd _ hp, e]
  split
  · rw [U.rd_wr_ne _ _ h3, U.rd_wr_ne _ _ h2, U.rd_wr_ne _ _ h1]
  · split
    · rw [U.rd_wr_ne _ _ h5, U.rd_wr_ne _ _ h4, U.rd_wr_ne _ _ h3, U.rd_wr_ne _ _ h2, U.rd_wr_ne _ _ h1]
    · rw [U.rd_wr_ne _ _ h3, U.rd_wr_ne _ _ h2, U.rd_wr_ne _ _ h1]

end Sys2Proof.Machine
end

