-- ==== Sys2Proof/Laws/WellFormed.lean ====
section
/-! SUPPORT. Which operands each command admits, command by command. -/
namespace Sys2Proof

theorem wf_registerWrite chip core addr size data : (Instr.registerWrite chip core addr size data).wf = (chip.wf && decide (core < 16) && decide (addr < 2 ^ 40) && [1, 2, 4, 8].contains size && decide (data < 2 ^ 64)) := rfl
theorem wf_rcFieldRead chip core addr size x0 : (Instr.rcFieldRead chip core addr size x0).wf = (chip.wf && decide (core < 16) && decide (addr < 2 ^ 40) && [1, 2, 4, 8].contains size) := rfl
theorem wf_statusW1cWrite chip addr data same : (Instr.statusW1cWrite chip addr data same).wf = (chip.wf && decide (addr < 2 ^ 40) && wordOk data && wordOk same) := rfl
theorem wf_blockAck chip addr data : (Instr.blockAck chip addr data).wf = (chip.wf && decide (addr < 2 ^ 40) && wordOk data) := rfl
theorem wf_referenceTick : (Instr.referenceTick).wf = (true) := rfl
theorem wf_boundary : (Instr.boundary).wf = (true) := rfl
theorem wf_timIncFracWrite v : (Instr.timIncFracWrite v).wf = (wordOk v) := rfl
theorem wf_timIncIntWrite v : (Instr.timIncIntWrite v).wf = (wordOk v) := rfl
theorem wf_timDepStartWrite v : (Instr.timDepStartWrite v).wf = (wordOk v) := rfl
theorem wf_depStart x0 : (Instr.depStart x0).wf = (true) := rfl
theorem wf_depStop : (Instr.depStop).wf = (true) := rfl
theorem wf_timStepWrite v : (Instr.timStepWrite v).wf = (wordOk v) := rfl
theorem wf_stepApply : (Instr.stepApply).wf = (true) := rfl
theorem wf_timSetLoad v : (Instr.timSetLoad v).wf = (wordOk v) := rfl
theorem wf_timNowLatch core : (Instr.timNowLatch core).wf = (decide (core < 16)) := rfl
theorem wf_timeStateWrite v : (Instr.timeStateWrite v).wf = (wordOk v) := rfl
theorem wf_ptpEventRx port msgType domain seqId raw octets : (Instr.ptpEventRx port msgType domain seqId raw octets).wf = (decide (port < 4) && decide (msgType < 16) && decide (domain < 256) && decide (seqId < 65536) && decide (raw < 2 ^ 64) && octets.all byteOk) := rfl
theorem wf_ptpEventTx port msgType seqId raw : (Instr.ptpEventTx port msgType seqId raw).wf = (decide (port < 4) && decide (msgType < 16) && decide (seqId < 65536) && decide (raw < 2 ^ 64)) := rfl
theorem wf_txqPop port : (Instr.txqPop port).wf = (decide (port < 4)) := rfl
theorem wf_hsrSyncForward port seqId x0 correction rx tx : (Instr.hsrSyncForward port seqId x0 correction rx tx).wf = ((port == 2 || port == 3) && decide (seqId < 65536) && decide (correction < 2 ^ 64) && decide (rx < 2 ^ 64) && decide (tx < 2 ^ 64)) := rfl
theorem wf_frnClrSuspect a cell : (Instr.frnClrSuspect a cell).wf = (decide (a < 12) && decide (cell < 2048)) := rfl
theorem wf_frnReseed a cell : (Instr.frnReseed a cell).wf = (decide (a < 12) && decide (cell < 2048)) := rfl
theorem wf_frnSetK a cell k : (Instr.frnSetK a cell k).wf = (decide (a < 12) && decide (cell < 2048) && wordOk k) := rfl
theorem wf_frnSetB a cell v : (Instr.frnSetB a cell v).wf = (decide (a < 12) && decide (cell < 2048) && wordOk v) := rfl
theorem wf_frnClrAged a cell : (Instr.frnClrAged a cell).wf = (decide (a < 12) && decide (cell < 2048)) := rfl
theorem wf_frnEnWrite a x0 : (Instr.frnEnWrite a x0).wf = (decide (a < 12)) := rfl
theorem wf_ledgerStore addr size data : (Instr.ledgerStore addr size data).wf = (decide (addr + size ≤ 0x3000000) && decide (size ≤ 16) && decide (data < 2 ^ (8 * size))) := rfl
theorem wf_selection a : (Instr.selection a).wf = (decide (a < 12)) := rfl
theorem wf_mshEnWrite a x0 : (Instr.mshEnWrite a x0).wf = (decide (a < 12)) := rfl
theorem wf_mshRetire a cell : (Instr.mshRetire a cell).wf = (decide (a < 12) && decide (cell < 2048)) := rfl
theorem wf_mshRestore a cell : (Instr.mshRestore a cell).wf = (decide (a < 12) && decide (cell < 2048)) := rfl
theorem wf_mshRotate a : (Instr.mshRotate a).wf = (decide (a < 12)) := rfl
theorem wf_mshClrReq a cell : (Instr.mshClrReq a cell).wf = (decide (a < 12) && decide (cell < 2048)) := rfl
theorem wf_convEnWrite x0 : (Instr.convEnWrite x0).wf = (true) := rfl
theorem wf_forceSet cid code : (Instr.forceSet cid code).wf = (decide (cid < 32768) && decide (code < 16)) := rfl
theorem wf_forceRelease cid : (Instr.forceRelease cid).wf = (decide (cid < 32768)) := rfl
theorem wf_forceReleaseAll : (Instr.forceReleaseAll).wf = (true) := rfl
theorem wf_avFire : (Instr.avFire).wf = (true) := rfl
theorem wf_peerAvalancheRx block : (Instr.peerAvalancheRx block).wf = (blockOk block) := rfl
theorem wf_avClear : (Instr.avClear).wf = (true) := rfl
theorem wf_clearRunEnd : (Instr.clearRunEnd).wf = (true) := rfl
theorem wf_resetClearRun : (Instr.resetClearRun).wf = (true) := rfl
theorem wf_hubOrderLoss h : (Instr.hubOrderLoss h).wf = (decide (h < 48)) := rfl
theorem wf_hubAvalancheRx h lane block : (Instr.hubAvalancheRx h lane block).wf = (decide (h < 48) && decide (128 ≤ lane) && decide (lane < 132) && blockOk block) := rfl
theorem wf_cellK287Rx cid port : (Instr.cellK287Rx cid port).wf = (cidOk cid && decide (port < 2)) := rfl
theorem wf_cellFrameRx cid port ofs chars same : (Instr.cellFrameRx cid port ofs chars same).wf = (cidOk cid && decide (port < 2) && decide (ofs < 16000) && twOk chars && same.all twOk) := rfl
theorem wf_cellBoundary cid x0 : (Instr.cellBoundary cid x0).wf = (cidOk cid) := rfl
theorem wf_cellWatchdog cid : (Instr.cellWatchdog cid).wf = (cidOk cid) := rfl
theorem wf_depPeek dn : (Instr.depPeek dn).wf = (wordOk dn) := rfl
theorem wf_gtePatWrite cid code v : (Instr.gtePatWrite cid code v).wf = (cidOk cid && decide (code < 5) && wordOk v) := rfl
theorem wf_gteCtlWrite cid v : (Instr.gteCtlWrite cid v).wf = (cidOk cid && wordOk v) := rfl
theorem wf_testEnWrite cid x0 : (Instr.testEnWrite cid x0).wf = (cidOk cid) := rfl
theorem wf_gteTestWrite cid v : (Instr.gteTestWrite cid v).wf = (cidOk cid && wordOk v) := rfl
theorem wf_pwmRunWrite cid x0 : (Instr.pwmRunWrite cid x0).wf = (cidOk cid) := rfl
theorem wf_pwmLoad cid : (Instr.pwmLoad cid).wf = (cidOk cid) := rfl
theorem wf_pwmPeriodStart cid : (Instr.pwmPeriodStart cid).wf = (cidOk cid) := rfl
theorem wf_calibrationComplete cid x0 x1 : (Instr.calibrationComplete cid x0 x1).wf = (cidOk cid) := rfl
theorem wf_refreshRequest cid leg : (Instr.refreshRequest cid leg).wf = (cidOk cid && decide (leg < 2)) := rfl
theorem wf_autoRefresh cid leg : (Instr.autoRefresh cid leg).wf = (cidOk cid && decide (leg < 2)) := rfl
theorem wf_comparatorTrip cid ins : (Instr.comparatorTrip cid ins).wf = (cidOk cid && ins.all insOk) := rfl
theorem wf_blankWindowClose cid sws ins : (Instr.blankWindowClose cid sws ins).wf = (cidOk cid && decide (sws < 16) && ins.all insOk) := rfl
theorem wf_softOffEnd cid : (Instr.softOffEnd cid).wf = (cidOk cid) := rfl
theorem wf_bypWaitExpire cid : (Instr.bypWaitExpire cid).wf = (cidOk cid) := rfl
theorem wf_prtThrWrite cid sw v : (Instr.prtThrWrite cid sw v).wf = (cidOk cid && decide (sw < 4) && wordOk v) := rfl
theorem wf_prtOvaWrite cid v : (Instr.prtOvaWrite cid v).wf = (cidOk cid && wordOk v) := rfl
theorem wf_clrHold cid ins : (Instr.clrHold cid ins).wf = (cidOk cid && ins.all insOk) := rfl
theorem wf_selftest cid mask : (Instr.selftest cid mask).wf = (cidOk cid && decide (mask < 1024)) := rfl
theorem wf_selftestTimeout cid : (Instr.selftestTimeout cid).wf = (cidOk cid) := rfl
theorem wf_clrJournal cid : (Instr.clrJournal cid).wf = (cidOk cid) := rfl
theorem wf_dmpTmaxExpire cid : (Instr.dmpTmaxExpire cid).wf = (cidOk cid) := rfl
theorem wf_ov2Crossing cid ins : (Instr.ov2Crossing cid ins).wf = (cidOk cid && ins.all insOk) := rfl
theorem wf_uvloEntry cid : (Instr.uvloEntry cid).wf = (cidOk cid) := rfl
theorem wf_uvloRelease cid ins : (Instr.uvloRelease cid ins).wf = (cidOk cid && ins.all insOk) := rfl
theorem wf_cellPor cid : (Instr.cellPor cid).wf = (cidOk cid) := rfl
theorem wf_retirementRecordDone cid : (Instr.retirementRecordDone cid).wf = (cidOk cid) := rfl
theorem wf_bycPulseStart cid : (Instr.bycPulseStart cid).wf = (cidOk cid) := rfl
theorem wf_bycPulseEnd cid : (Instr.bycPulseEnd cid).wf = (cidOk cid) := rfl
theorem wf_bycConfirm cid : (Instr.bycConfirm cid).wf = (cidOk cid) := rfl
theorem wf_bycTimeout cid : (Instr.bycTimeout cid).wf = (cidOk cid) := rfl
theorem wf_byfRelease cid : (Instr.byfRelease cid).wf = (cidOk cid) := rfl
theorem wf_byfPulse cid x0 : (Instr.byfPulse cid x0).wf = (cidOk cid) := rfl
theorem wf_gateMismatch cid sw x0 : (Instr.gateMismatch cid sw x0).wf = (cidOk cid && decide (sw < 4)) := rfl
theorem wf_lpeRunCommit g : (Instr.lpeRunCommit g).wf = (decide (g < 3)) := rfl
theorem wf_boardCoreStore e v : (Instr.boardCoreStore e v).wf = (decide (e < 1024) && wordOk v) := rfl
theorem wf_slotCtlWrite sl reg v : (Instr.slotCtlWrite sl reg v).wf = (decide (sl < 96) && decide (reg < 4) && wordOk v) := rfl
theorem wf_slotEnable sl : (Instr.slotEnable sl).wf = (decide (sl < 96)) := rfl
theorem wf_slotStateStore sl n v : (Instr.slotStateStore sl n v).wf = (decide (sl < 96) && decide (n < 8) && wordOk v) := rfl
theorem wf_slotCoefStore sl n v : (Instr.slotCoefStore sl n v).wf = (decide (sl < 96) && decide (n < 8) && wordOk v) := rfl
theorem wf_lpeMemError entry n x0 : (Instr.lpeMemError entry n x0).wf = (decide (n < if entry then 1024 else 96)) := rfl
theorem wf_lpeEnWrite x0 : (Instr.lpeEnWrite x0).wf = (true) := rfl
theorem wf_sensorWord input w : (Instr.sensorWord input w).wf = (decide (input < 32) && decide (w < 2 ^ 64)) := rfl
theorem wf_sensorTimeout p : (Instr.sensorTimeout p).wf = (decide (p < 32)) := rfl
theorem wf_snsErrWindowClose p : (Instr.snsErrWindowClose p).wf = (decide (p < 32)) := rfl
theorem wf_snsPortEnWrite p x0 : (Instr.snsPortEnWrite p x0).wf = (decide (p < 32)) := rfl
theorem wf_snsRestore p : (Instr.snsRestore p).wf = (decide (p < 32)) := rfl
theorem wf_snsOfsCommit p v : (Instr.snsOfsCommit p v).wf = (decide (p < 32) && wordOk v) := rfl
theorem wf_snsThrCfgWrite p k v : (Instr.snsThrCfgWrite p k v).wf = (decide (p < 32) && decide (k < 2) && wordOk v) := rfl
theorem wf_seqRisingEdge m input : (Instr.seqRisingEdge m input).wf = (decide (m < 3) && decide (input < 3)) := rfl
theorem wf_freqWindowEnd m : (Instr.freqWindowEnd m).wf = (decide (m < 3)) := rfl
theorem wf_seqInputLost m input : (Instr.seqInputLost m input).wf = (decide (m < 3) && decide (input < 3)) := rfl
theorem wf_pbxFrameRx f : (Instr.pbxFrameRx f).wf = (f.wf) := rfl
theorem wf_svAlignedWrite j : (Instr.svAlignedWrite j).wf = (decide (j < 128)) := rfl
theorem wf_svTimeout k : (Instr.svTimeout k).wf = (decide (k < 64)) := rfl
theorem wf_gooseTimeout c : (Instr.gooseTimeout c).wf = (decide (c < 32)) := rfl
theorem wf_pbxTxProdWrite q v : (Instr.pbxTxProdWrite q v).wf = (decide (q < 2) && wordOk v) := rfl
theorem wf_pbxLinkDown port : (Instr.pbxLinkDown port).wf = (decide (port < 4)) := rfl
theorem wf_pbxRateWrite v : (Instr.pbxRateWrite v).wf = (wordOk v) := rfl
theorem wf_laneEnWrite l x0 : (Instr.laneEnWrite l x0).wf = (l.wf) := rfl
theorem wf_laneSignalDetect l : (Instr.laneSignalDetect l).wf = (l.wf) := rfl
theorem wf_laneCdrLock l : (Instr.laneCdrLock l).wf = (l.wf) := rfl
theorem wf_equalisationSettled l : (Instr.equalisationSettled l).wf = (l.wf) := rfl
theorem wf_trainingRx l tr : (Instr.trainingRx l tr).wf = (l.wf && tr.wf) := rfl
theorem wf_laneLinkLoss l : (Instr.laneLinkLoss l).wf = (l.wf) := rfl
theorem wf_laneCodeErrors l x0 : (Instr.laneCodeErrors l x0).wf = (l.wf) := rfl
theorem wf_laneCheckError l : (Instr.laneCheckError l).wf = (l.wf) := rfl
theorem wf_crcWindowClose l : (Instr.crcWindowClose l).wf = (l.wf) := rfl
theorem wf_laneRetrainTimeout l : (Instr.laneRetrainTimeout l).wf = (l.wf) := rfl
theorem wf_deskewTimeout l : (Instr.deskewTimeout l).wf = (l.wf) := rfl
theorem wf_laneRestore l : (Instr.laneRestore l).wf = (l.wf) := rfl
theorem wf_laneRetrainCmd l : (Instr.laneRetrainCmd l).wf = (l.wf) := rfl
theorem wf_laneTestWrite l x0 v : (Instr.laneTestWrite l x0 v).wf = (l.wf && wordOk v) := rfl
theorem wf_laneTxeqWrite l v : (Instr.laneTxeqWrite l v).wf = (l.wf && wordOk v) := rfl
theorem wf_hubBoundary h : (Instr.hubBoundary h).wf = (decide (h < 48)) := rfl
theorem wf_rptMiss cid : (Instr.rptMiss cid).wf = (cidOk cid) := rfl
theorem wf_hubTrackwayRx h lane x0 chars same : (Instr.hubTrackwayRx h lane x0 chars same).wf = (decide (h < 48) && decide (lane < 128) && twOk chars && same.all (fun e => twOk e.2)) := rfl
theorem wf_hubFrameDrop h loop : (Instr.hubFrameDrop h loop).wf = (decide (h < 48) && decide (loop < 64)) := rfl
theorem wf_hubUnreach h loop pos : (Instr.hubUnreach h loop pos).wf = (decide (h < 48) && decide (loop < 64) && decide (pos < 8)) := rfl
theorem wf_noticeRx lane blocks : (Instr.noticeRx lane blocks).wf = (decide (lane < 96) && blocks.all blockOk) := rfl
theorem wf_hubOrderRx h lane arr done blocks : (Instr.hubOrderRx h lane arr done blocks).wf = (decide (h < 48) && decide (128 ≤ lane) && decide (lane < 132) && decide (arr < 2 ^ 64) && decide (done < 2 ^ 64) && blocks.all blockOk) := rfl
theorem wf_loopFrameRx lane blocks : (Instr.loopFrameRx lane blocks).wf = (decide (lane < 96) && blocks.all blockOk) := rfl
theorem wf_mailRx lane arr blocks : (Instr.mailRx lane arr blocks).wf = (decide (lane < 96) && decide (arr < 2 ^ 64) && blocks.all blockOk) := rfl
theorem wf_pointRequestRx cid octets same : (Instr.pointRequestRx cid octets same).wf = (cidOk cid && mbxOk octets && same.all mbxOk) := rfl
theorem wf_rspDrop cid : (Instr.rspDrop cid).wf = (cidOk cid) := rfl
theorem wf_pointRequestSend : (Instr.pointRequestSend).wf = (true) := rfl
theorem wf_pointRetryTimeout h loop : (Instr.pointRetryTimeout h loop).wf = (decide (h < 48) && decide (loop < 64)) := rfl
theorem wf_pointResponseRx h octets : (Instr.pointResponseRx h octets).wf = (decide (h < 48) && octets.all byteOk) := rfl
theorem wf_completionWrite : (Instr.completionWrite).wf = (true) := rfl
theorem wf_loopMeasurement h loop : (Instr.loopMeasurement h loop).wf = (decide (h < 48) && decide (loop < 64)) := rfl
theorem wf_measurementComplete h loop : (Instr.measurementComplete h loop).wf = (decide (h < 48) && decide (loop < 64)) := rfl
theorem wf_pathRx h dlyA dlyB dlMax : (Instr.pathRx h dlyA dlyB dlMax).wf = (decide (h < 48) && wordOk dlyA && wordOk dlyB && wordOk dlMax) := rfl
theorem wf_hubHeartbeatWrite h v : (Instr.hubHeartbeatWrite h v).wf = (decide (h < 48) && wordOk v) := rfl
theorem wf_hubHbLost h : (Instr.hubHbLost h).wf = (decide (h < 48)) := rfl
theorem wf_hubMemUnc h : (Instr.hubMemUnc h).wf = (decide (h < 48)) := rfl
theorem wf_hubAliveToggle h : (Instr.hubAliveToggle h).wf = (decide (h < 48)) := rfl
theorem wf_regReq h : (Instr.regReq h).wf = (decide (h < 48)) := rfl
theorem wf_adcConversion cid k raw : (Instr.adcConversion cid k raw).wf = (cidOk cid && decide (k < 20) && decide (raw < 65536)) := rfl
theorem wf_adcEntryEnable cid n v : (Instr.adcEntryEnable cid n v).wf = (cidOk cid && decide (n < 16) && wordOk v) := rfl
theorem wf_adcOfsCommit cid n v : (Instr.adcOfsCommit cid n v).wf = (cidOk cid && decide (n < 16) && wordOk v) := rfl
theorem wf_adcResRead cid n : (Instr.adcResRead cid n).wf = (cidOk cid && decide (n < 16)) := rfl
theorem wf_capArm : (Instr.capArm).wf = (true) := rfl
theorem wf_capStop : (Instr.capStop).wf = (true) := rfl
theorem wf_capSwtrig : (Instr.capSwtrig).wf = (true) := rfl
theorem wf_streamFrameSend : (Instr.streamFrameSend).wf = (true) := rfl
theorem wf_streamFlashWrite : (Instr.streamFlashWrite).wf = (true) := rfl
theorem wf_snpFire : (Instr.snpFire).wf = (true) := rfl
theorem wf_snapshotCopyDone : (Instr.snapshotCopyDone).wf = (true) := rfl
theorem wf_snpTcmdGo : (Instr.snpTcmdGo).wf = (true) := rfl
theorem wf_ccpArm cid : (Instr.ccpArm cid).wf = (cidOk cid) := rfl
theorem wf_ccpStop cid : (Instr.ccpStop cid).wf = (cidOk cid) := rfl
theorem wf_ccpSwtrig cid : (Instr.ccpSwtrig cid).wf = (cidOk cid) := rfl
theorem wf_schWaitRead core : (Instr.schWaitRead core).wf = (decide (core < 16)) := rfl
theorem wf_endWait core : (Instr.endWait core).wf = (decide (core < 16)) := rfl
theorem wf_endWaitUntil core : (Instr.endWaitUntil core).wf = (decide (core < 16)) := rfl
theorem wf_endYield core : (Instr.endYield core).wf = (decide (core < 16)) := rfl
theorem wf_endExit core : (Instr.endExit core).wf = (decide (core < 16)) := rfl
theorem wf_releaseResume flow : (Instr.releaseResume flow).wf = (decide (flow < 64)) := rfl
theorem wf_schCreate core th : (Instr.schCreate core th).wf = (decide (core < 16) && decide (th < 65536)) := rfl
theorem wf_schDestroy core th : (Instr.schDestroy core th).wf = (decide (core < 16) && decide (th < 65536)) := rfl
theorem wf_schReady core th cancel : (Instr.schReady core th cancel).wf = (decide (core < 16) && decide (th < 65536) && cancel.all (fun o => decide (o < 16) && o != core)) := rfl
theorem wf_schCancel core th : (Instr.schCancel core th).wf = (decide (core < 16) && decide (th < 65536)) := rfl
theorem wf_schRestart core th : (Instr.schRestart core th).wf = (decide (core < 16) && decide (th < 65536)) := rfl
theorem wf_schPost core flow : (Instr.schPost core flow).wf = (decide (core < 16) && decide (flow < 65536)) := rfl
theorem wf_schRetireCore core target : (Instr.schRetireCore core target).wf = (decide (core < 16) && decide (target < 65536)) := rfl
theorem wf_schRestoreCore core target : (Instr.schRestoreCore core target).wf = (decide (core < 16) && decide (target < 65536)) := rfl
theorem wf_schCmdResRead core : (Instr.schCmdResRead core).wf = (decide (core < 16)) := rfl
theorem wf_schIpiWrite core v : (Instr.schIpiWrite core v).wf = (decide (core < 16) && wordOk v) := rfl
theorem wf_schSrcWrite src v : (Instr.schSrcWrite src v).wf = (decide (src < 256) && wordOk v) := rfl
theorem wf_timetableExpiry : (Instr.timetableExpiry).wf = (true) := rfl
theorem wf_longRun core : (Instr.longRun core).wf = (decide (core < 16)) := rfl
theorem wf_paceCheck core x0 : (Instr.paceCheck core x0).wf = (decide (core < 16)) := rfl
theorem wf_loadWindowEnd : (Instr.loadWindowEnd).wf = (true) := rfl
theorem wf_coreUncorrError core kind : (Instr.coreUncorrError core kind).wf = (decide (core < 16) && decide (kind < 3)) := rfl
theorem wf_scrubRead chip x0 x1 : (Instr.scrubRead chip x0 x1).wf = (chip.wf) := rfl
theorem wf_memoryUncorrRead chip addr core : (Instr.memoryUncorrRead chip addr core).wf = (chip.wf && decide (addr < 2 ^ 40) && core.all (fun (n : Nat) => decide (n < 16))) := rfl
theorem wf_sysInjWrite chip x0 v : (Instr.sysInjWrite chip x0 v).wf = (chip.wf && wordOk v) := rfl
theorem wf_aliveToggle : (Instr.aliveToggle).wf = (true) := rfl
theorem wf_sbxLineChange line x0 : (Instr.sbxLineChange line x0).wf = (decide (line < 149)) := rfl
theorem wf_hwAliveTimeout j : (Instr.hwAliveTimeout j).wf = (decide (j < 16)) := rfl
theorem wf_sbxHeartWrite token x0 : (Instr.sbxHeartWrite token x0).wf = (decide (token < 256)) := rfl
theorem wf_heartbeatWindowEnd : (Instr.heartbeatWindowEnd).wf = (true) := rfl
theorem wf_sbxHsWrite v : (Instr.sbxHsWrite v).wf = (decide (v < 256)) := rfl
theorem wf_sbxCfgLoadWrite v : (Instr.sbxCfgLoadWrite v).wf = (wordOk v) := rfl
theorem wf_sbxCfgStart : (Instr.sbxCfgStart).wf = (true) := rfl
theorem wf_sbxCfgLock : (Instr.sbxCfgLock).wf = (true) := rfl
theorem wf_sbxClear key : (Instr.sbxClear key).wf = (decide (key < 65536)) := rfl
theorem wf_sbxFtClr key : (Instr.sbxFtClr key).wf = (decide (key < 65536)) := rfl
theorem wf_glacierExpire : (Instr.glacierExpire).wf = (true) := rfl
theorem wf_readbackSample pr : (Instr.readbackSample pr).wf = (decide (pr < 256)) := rfl
theorem wf_testPulseStart k x0 : (Instr.testPulseStart k x0).wf = (decide (k < 8)) := rfl
theorem wf_testPulseEnd x0 x1 : (Instr.testPulseEnd x0 x1).wf = (true) := rfl
theorem wf_oscWindowEnd x0 : (Instr.oscWindowEnd x0).wf = (true) := rfl
theorem wf_peerStatusTimeout : (Instr.peerStatusTimeout).wf = (true) := rfl
theorem wf_ctrlRx parts : (Instr.ctrlRx parts).wf = (sidingOk parts) := rfl
theorem wf_mirrorSectionRx parts : (Instr.mirrorSectionRx parts).wf = (sidingOk parts) := rfl
theorem wf_relinquishRx block : (Instr.relinquishRx block).wf = (blockOk block) := rfl
theorem wf_sdlJoin : (Instr.sdlJoin).wf = (true) := rfl
theorem wf_sdlSwap : (Instr.sdlSwap).wf = (true) := rfl
theorem wf_sdlRelq : (Instr.sdlRelq).wf = (true) := rfl
theorem wf_sdlRejoin : (Instr.sdlRejoin).wf = (true) := rfl
theorem wf_sdlRegionWrite r x0 v : (Instr.sdlRegionWrite r x0 v).wf = (decide (r < 16) && wordOk v) := rfl
theorem wf_joinTimeout : (Instr.joinTimeout).wf = (true) := rfl
theorem wf_peerLost : (Instr.peerLost).wf = (true) := rfl
theorem wf_clearAnswerTimeout : (Instr.clearAnswerTimeout).wf = (true) := rfl
theorem wf_revHoldExpire : (Instr.revHoldExpire).wf = (true) := rfl
theorem wf_rlqReset : (Instr.rlqReset).wf = (true) := rfl
theorem wf_resetAssert chip src reach block : (Instr.resetAssert chip src reach block).wf = (chip.resets && decide (src < 11) && reachOk chip reach && blockIndexOk block) := rfl
theorem wf_resetStageComplete chip straps : (Instr.resetStageComplete chip straps).wf = (chip.resets && decide (straps < 64)) := rfl
theorem wf_fuseLoadDone chip words : (Instr.fuseLoadDone chip words).wf = (chip.resets && decide (words.length = 256) && words.all wordOk) := rfl
theorem wf_oscStopDetect : (Instr.oscStopDetect).wf = (true) := rfl
theorem wf_stretchRelease : (Instr.stretchRelease).wf = (true) := rfl
theorem wf_sysRstSystem key : (Instr.sysRstSystem key).wf = (decide (key < 65536)) := rfl
theorem wf_sysRstEngine key : (Instr.sysRstEngine key).wf = (decide (key < 65536)) := rfl
theorem wf_sysRstBlock key block : (Instr.sysRstBlock key block).wf = (decide (key < 65536) && decide (block < 128)) := rfl
theorem wf_sysRstPeer key : (Instr.sysRstPeer key).wf = (decide (key < 65536)) := rfl
theorem wf_peerResetRx block : (Instr.peerResetRx block).wf = (blockOk block) := rfl
theorem wf_wdogEnable : (Instr.wdogEnable).wf = (true) := rfl
theorem wf_wdogKick key : (Instr.wdogKick key).wf = (decide (key < 65536)) := rfl
theorem wf_wdogPeriodEnd : (Instr.wdogPeriodEnd).wf = (true) := rfl
theorem wf_dieTempChange chip x0 : (Instr.dieTempChange chip x0).wf = (chip.wf) := rfl
theorem wf_sysPwrWrite v : (Instr.sysPwrWrite v).wf = (wordOk v) := rfl
theorem wf_coreRelease v : (Instr.coreRelease v).wf = (wordOk v) := rfl
theorem wf_bakClrCnt key : (Instr.bakClrCnt key).wf = (decide (key < 65536)) := rfl
theorem wf_bakClrHist key : (Instr.bakClrHist key).wf = (decide (key < 65536)) := rfl
theorem wf_bakClrLf key : (Instr.bakClrLf key).wf = (decide (key < 65536)) := rfl
theorem wf_vbakRise octets : (Instr.vbakRise octets).wf = (decide (octets.length = 296) && octets.all byteOk) := rfl
theorem wf_vsbxUndervoltage : (Instr.vsbxUndervoltage).wf = (true) := rfl
theorem wf_configBlockRx cid octets : (Instr.configBlockRx cid octets).wf = (cidOk cid && mbxOk octets) := rfl
theorem wf_configResendTimeout cid : (Instr.configResendTimeout cid).wf = (cidOk cid) := rfl
theorem wf_cellSelfReset cid : (Instr.cellSelfReset cid).wf = (cidOk cid) := rfl
theorem wf_secVerify slot : (Instr.secVerify slot).wf = (decide (slot < 2)) := rfl
theorem wf_secSetPending slot : (Instr.secSetPending slot).wf = (decide (slot < 2)) := rfl
theorem wf_secMarkHealthy : (Instr.secMarkHealthy).wf = (true) := rfl
theorem wf_secCommitArb key : (Instr.secCommitArb key).wf = (decide (key < 65536)) := rfl
theorem wf_secOwnerSet key : (Instr.secOwnerSet key).wf = (decide (key < 65536)) := rfl
theorem wf_secOwnerLock key : (Instr.secOwnerLock key).wf = (decide (key < 65536)) := rfl
theorem wf_secJrnWrite : (Instr.secJrnWrite).wf = (true) := rfl
theorem wf_keyStoreViolation : (Instr.keyStoreViolation).wf = (true) := rfl
theorem wf_attStart : (Instr.attStart).wf = (true) := rfl
theorem wf_attChallengeRx chip octets : (Instr.attChallengeRx chip octets).wf = (chip.wf && mbxOk octets) := rfl
theorem wf_attStatementDone chip : (Instr.attStatementDone chip).wf = (chip.wf) := rfl
theorem wf_attAnswerRx id x0 tag answer : (Instr.attAnswerRx id x0 tag answer).wf = (decide (id < 24640) && decide (tag < 256) && answer.all byteOk) := rfl
theorem wf_attTimeout id : (Instr.attTimeout id).wf = (decide (id < 24640)) := rfl
theorem wf_cellUpdIdent cid octets : (Instr.cellUpdIdent cid octets).wf = (cidOk cid && mbxOk octets) := rfl
theorem wf_cellUpdBegin cid octets x0 : (Instr.cellUpdBegin cid octets x0).wf = (cidOk cid && mbxOk octets) := rfl
theorem wf_cellUpdData cid octets x0 : (Instr.cellUpdData cid octets x0).wf = (cidOk cid && mbxOk octets) := rfl
theorem wf_cellUpdEnd cid octets : (Instr.cellUpdEnd cid octets).wf = (cidOk cid && mbxOk octets) := rfl
theorem wf_cellUpdActivate cid octets : (Instr.cellUpdActivate cid octets).wf = (cidOk cid && mbxOk octets) := rfl
theorem wf_hubImageRead h octets : (Instr.hubImageRead h octets).wf = (decide (h < 48) && mbxOk octets) := rfl
theorem wf_recIdent x0 octets : (Instr.recIdent x0 octets).wf = (octets.all byteOk) := rfl
theorem wf_recCertRead x0 octets : (Instr.recCertRead x0 octets).wf = (octets.all byteOk) := rfl
theorem wf_recBegin x0 octets x1 : (Instr.recBegin x0 octets x1).wf = (octets.all byteOk) := rfl
theorem wf_recData x0 octets x1 : (Instr.recData x0 octets x1).wf = (octets.all byteOk) := rfl
theorem wf_recEnd x0 octets x1 : (Instr.recEnd x0 octets x1).wf = (octets.all byteOk) := rfl
theorem wf_recBoot x0 octets : (Instr.recBoot x0 octets).wf = (octets.all byteOk) := rfl
theorem wf_xspiProgram addr octets : (Instr.xspiProgram addr octets).wf = (decide (addr < 2 ^ 28) && octets.all byteOk) := rfl
theorem wf_xspiErase addr : (Instr.xspiErase addr).wf = (decide (addr < 2 ^ 28)) := rfl
theorem wf_timeBaseCheckError : (Instr.timeBaseCheckError).wf = (true) := rfl
theorem wf_glacierTimerReset : (Instr.glacierTimerReset).wf = (true) := rfl
theorem wf_vsbxRelease : (Instr.vsbxRelease).wf = (true) := rfl
theorem wf_sbxOscillatorStop : (Instr.sbxOscillatorStop).wf = (true) := rfl
theorem wf_resetSourceRelease chip src : (Instr.resetSourceRelease chip src).wf = (chip.resets && decide (src < 11)) := rfl
theorem wf_domainPowerUpDone : (Instr.domainPowerUpDone).wf = (true) := rfl
theorem wf_startTimeout : (Instr.startTimeout).wf = (true) := rfl
theorem wf_secCommandDone chip x0 : (Instr.secCommandDone chip x0).wf = (chip.wf) := rfl
theorem wf_xspiOperationDone : (Instr.xspiOperationDone).wf = (true) := rfl
theorem wf_prbsLockChange l x0 : (Instr.prbsLockChange l x0).wf = (l.wf) := rfl
theorem wf_pbxLinkUp port : (Instr.pbxLinkUp port).wf = (decide (port < 4)) := rfl

end Sys2Proof
end

