-- ==== Sys2Proof/Tests/Slice0.lean ====
section
/-! SUPPORT. The tests of the package: a term that each check of WellFormed refuses; for every statement with hypotheses, states and
operands that meet them, one witness for each of its clauses (a clause with the same hypotheses as another shares its witness); the
effect of single commands, with results taken from the spec. -/
namespace Sys2Proof.Tests
open Sys2Proof Sys2Proof.Machine
set_option Elab.async false

/-- A unit after reset with fields set. -/
def wU (l : List (Fld × Nat)) : U := l.foldl (fun u e => u.wr e.1 e.2) U.afterReset
/-- The chip set after reset around a unit. -/
def wS (u : U) : State := { State.reset with u := u }
/-- A hub after reset with fields set. -/
def wH (l : List (Fld × Nat)) : H := l.foldl (fun u e => u.wr e.1 e.2) H.reset
/-- The chip set after reset around hub 0. -/
def wHS (w : H) : State := { State.reset with hubs := [(0, w)] }
/-- A cell after reset whose lock-out has been released, with fields set. -/
def wC (l : List (Fld × Nat)) : C := l.foldl (fun u e => u.wr e.1 e.2) { C.reset with prt := Prt.zero }
/-- The chip set after reset around the cell with CID 0. -/
def wCS (c : C) : State := { State.reset with cells := [(0, c)] }
/-- The one configured cell of `wT`. -/
def wCell : CellCfg := ⟨0, true, 65536, 0, []⟩
/-- A unit with arm 0 configured: one segment, one loop of one cell. -/
def wT (u : U) : U := { u with topo := { Topo.zero with nseg := [(0, 1)], loops := [(0, [1])], cells := [wCell] } }
/-- An order set. -/
def wSet : OrderSet := ⟨[(0, 1)], [], [], none, false, false, false⟩
/-- A Trackway frame that carries nothing. -/
def wTw : TwFrame := ⟨0, false, 1, 0, 0, 0, 0, 0, zeros 8, zeros 64, false, false, false, true, false, 0, 0, 0, 0, []⟩
/-- The characters of a Trackway frame of zeros that ends with a CRC (R309, R310). -/
def wChars (c : Nat) : List Nat := charK28_5 :: List.replicate 245 0 ++ toBytes 4 c
/-- An ORDER frame that carries nothing. -/
def wOr : OrderFrame := ⟨⟨false, false, false, true, false⟩, 1, 0, 0, 0, 0, 0, 0, [], [], []⟩
/-- An Ethernet frame to every node, with the octets behind its source address. -/
def wEth (o : List Nat) (p : EthPayload) : EthFrame := ⟨0, List.replicate 6 255 ++ [2, 0, 0, 0, 0, 1] ++ o, 0, p⟩
/-- Code groups that are no training set. -/
def wTr : Training := .set (List.replicate 8 0)
/-- A hub's lane as training names it. -/
def wHubLane : Sender := ⟨2, 0, 0, 0, 1⟩
/-- A training set of a hub's lane, plain or on an inverted pair, with TSEQ 5 (R288, R290). -/
def wTrain (role : Nat) (rdy compl : Bool) : Training :=
  .set ((k28_5 false :: sendGroups true (trainingSet { wHubLane with role := role } rdy 5)).map (fun g => if compl then 1023 - g else g))
/-- What it is read as. -/
def wRead (role : Nat) (rdy compl : Bool) : TrainIn := ⟨compl, { wHubLane with role := role }, rdy, 5⟩
/-- A training block of a hub's lane with TSEQ 5, as it stands on the line behind ones (R286, R287). -/
def wBlock (arr : Nat) : Training := .block (2 ^ 58 - 1) 2 (scramble (2 ^ 58 - 1) (ofBytes (trainingBlock wHubLane true 5))) arr
/-- A cell's port with its counts set. -/
def wPort (l : Lane) (f : List (Fld × Nat)) : LaneIO := ⟨(wU f).regs, [(portBase 0, l)], []⟩
/-- A CTRL of a peer. -/
def wCtrl : Ctrl := ⟨0, 0, 3, false, true, 0, false, false, false, false, false, false, false, false, 0, 0, 0, 0, 0, 0, 0, 0⟩
/-- The lanes of a chip with fields set. -/
def wIO (l : List (Fld × Nat)) : LaneIO := ⟨(wU l).regs, [], []⟩
/-- A hub's loop request kept by a cell. -/
def wKept : Kept := ⟨1, 0, [3, 1]⟩
/-- A point request of unit A to the cell of CID 0 (R336). -/
def wReq (att count first : Nat) : List Nat := mailbox ([2, 1, 0, 0, 16 * att, count] ++ toBytes 2 first)
/-- An episode in a stage of a reach, with sources still asserted. -/
def wEp (stage reach now : Nat) : Episode := ⟨1, now, reach, [], stage, 0⟩

/-- The words of a signal box configuration, with word 10 (the actions of lines 0 to 15) given (R480). -/
def wCfgAt (w10 : Nat) : List Nat :=
  let c := [0x5B0C0001, 64] ++ List.replicate 8 0 ++ [w10] ++ List.replicate 9 0 ++ List.replicate 16 0 ++
    [10 + 20 * 65536, 2 ^ 16 + 2 ^ 26, 50 + 10 * 2 ^ 9 + 2 ^ 18] ++ List.replicate 24 0
  c ++ [crc32c (c.flatMap (toBytes 4))]
/-- A unit that holds such a configuration. -/
def wCfg (w10 : Nat) (u : U) : U := u.withSbx (fun x => { x with cfg := wCfgAt w10 })

/-- A flash with a directory of one partition: its type, base and length (R530). -/
def wDir (ty base len : Nat) : Flash :=
  let d := toBytes 4 ty ++ toBytes 4 base ++ toBytes 4 len ++ List.replicate 228 255 ++ toBytes 4 0x44495142 ++ List.replicate 8 255
  Flash.program [] 0 (d ++ toBytes 4 (crc32c d))
/-- An update request of an operation to the cell of CID 0 (R565). -/
def wUpd (op ofs : Nat) (d : List Nat) : List Nat := mailbox ([0x20, 1, 0, 0, op, d.length, 0, 0] ++ toBytes 4 ofs ++ d)
/-- A challenge of unit A to the chip of number 0, with TAG 1 and nonce 0 (R560). -/
def wChal : List Nat := mailbox [0x18, 1]
/-- A recovery request on the UART with SEQ 5 (R568, R569). -/
def wRec (op target ofs len : Nat) (d : List Nat) : List Nat :=
  let m := [0x52, 0x42, op, 0] ++ toBytes 4 5 ++ [target, 0, 0, 0] ++ toBytes 4 ofs ++ toBytes 2 len ++ [0, 0] ++ d
  Eth.slipSend (m ++ toBytes 4 (crc32c m))
/-- A configuration block to the cell of CID 0, with TAG 1 and a check word (R541). -/
def wBlk (blk nblk check : Nat) : List Nat := mailbox ([0x10, 1, 0, 0, blk, nblk, 0, 0] ++ toBytes 32 check)
/-- It is well formed. -/
theorem wBlk_wf (b n c : Nat) (hb : b < 256) (hn : n < 256) : (Instr.configBlockRx 0 (wBlk b n c)).wf = true := by
  have h (x : Nat) (hx : x ∈ toBytes 32 c) : decide (x < 256) = true := decide_eq_true (toBytes_byte hx)
  simp [Instr.wf, cidOk, mbxOk, wBlk, mailbox, zeros, byteOk, hb, hn]
  exact fun x hx => toBytes_byte hx
/-- The check word it gives. -/
theorem wBlk_check (b n : Nat) (l : List Nat) : (readCfgBlock (wBlk b n (Config.shake256 l))).check = Config.shake256 l :=
  ofBytes_digest l
/-- A check word that is not that of a set. -/
theorem wBlk_other (b n : Nat) (l : List Nat) :
    (readCfgBlock (wBlk b n (Config.shake256 l + 1))).check ≠ Config.shake256 l := by
  have h := ofBytes_toBytes 32 (Config.shake256 l + 1)
  have k : Config.shake256 l < 256 ^ 32 := BitVec.isLt _
  show ofBytes (toBytes 32 (Config.shake256 l + 1)) ≠ _
  omega

/-- A CRC-32C register stays within its width. -/
theorem wCrcBits_lt (n : Nat) : ∀ r, r < 2 ^ 32 → crcBits 0x82F63B78 n r < 2 ^ 32 := by
  induction n with
  | zero => exact fun r h => h
  | succ n ih =>
    intro r h
    unfold crcBits
    split
    · exact ih _ (Nat.xor_lt_two_pow (by omega) (by decide))
    · exact ih _ (by omega)
/-- A CRC-32C has 32 bits. -/
theorem wCrc_lt (bs : List Nat) : crc32c bs < 2 ^ 32 := by
  have h : ∀ (bs : List Nat) (r : Nat), r < 2 ^ 32 → bs.foldl (fun r b => crcBits 0x82F63B78 8 (r ^^^ (b % 256))) r < 2 ^ 32 := by
    intro bs
    induction bs with
    | nil => exact fun r h => h
    | cons b t ih => exact fun r h => ih _ (wCrcBits_lt 8 _ (Nat.xor_lt_two_pow h (by omega)))
  exact Nat.xor_lt_two_pow (h bs _ (by decide)) (by decide)
/-- A fuse map whose check word differs by an amount from the check of the others. -/
def wFuse (l : List Nat) (d : Nat) : List Nat := l ++ [(crc32c (l.flatMap (toBytes 4)) + d) % 2 ^ 32]
/-- It passes without a difference. -/
theorem wFuse_pass {l : List Nat} (h : l.length = 255) : fusePass (wFuse l 0) = true := by
  have := wCrc_lt (l.flatMap (toBytes 4))
  simp [fusePass, wFuse, h, List.take_left' h, List.getD]
  omega
/-- It fails with one. -/
theorem wFuse_fail {l : List Nat} (h : l.length = 255) : fusePass (wFuse l 1) = false := by
  simp [fusePass, wFuse, h, List.take_left' h, List.getD]
  omega
/-- It is well formed where its words are. -/
theorem wFuse_wf {l : List Nat} {d : Nat} (h : l.length = 255) (hw : l.all wordOk = true) :
    (Instr.fuseLoadDone .unit (wFuse l d)).wf = true := by
  have : wordOk ((crc32c (l.flatMap (toBytes 4)) + d) % 2 ^ 32) = true := decide_eq_true (Nat.mod_lt _ (by decide))
  show (true && decide ((l ++ [(crc32c (l.flatMap (toBytes 4)) + d) % 2 ^ 32]).length = 256) &&
    (l ++ [(crc32c (l.flatMap (toBytes 4)) + d) % 2 ^ 32]).all wordOk) = true
  rw [List.all_append, hw, List.length_append, h, List.all_cons, this]
  rfl
/-- The CRC-32C behind the words of BAK is what is read there. -/
theorem wBak {l : List Nat} (h : l.length = 292) : le (l ++ toBytes 4 (crc32c l)) 292 4 = crc32c ((l ++ toBytes 4 (crc32c l)).take 292) := by
  have h3 := wCrc_lt l
  rw [List.take_left' h, le, List.drop_left' h, List.take_of_length_le (by simp), ofBytes_toBytes]
  omega

/-- A pair whose first part is known. -/
theorem wFst {α β : Type} {p : α × β} {a : α} (h : p.1 = a) : p = (a, p.2) := by rw [← h]
/-- A value that is there. -/
theorem wSome {α : Type} {o : Option α} (h : o.isSome = true) : o = some (o.get h) := (Option.some_get h).symm
/-- A reading of the comparators and the cell after it, by parts. -/
theorem wEta {α β γ δ : Type} (p : (α × β × γ) × δ) : p = ((p.1.1, p.1.2.1, p.1.2.2), p.2) := rfl
/-- An output that has never changed has stood for longer than any settling time. -/
theorem wOld (o : Nat) : (1000000 : Int) ≤ (o : Int) - (-1000000) := by omega
/-- There is an Ethernet frame for another node. -/
theorem wStranger : ∃ f : EthFrame, (Instr.pbxFrameRx f).wf = true ∧ f.port < 2 ∧ ownAddress 0 (Eth.mac f.octets 0) = false ∧
    Eth.toGroup f.octets = false := by
  let f : Nat → EthFrame := fun k => ⟨0, [0, 0, 0, 0, 0, k, 2, 0, 0, 0, 0, 1, 8, 0], 0, .other⟩
  have h : ∀ k < 3, (Instr.pbxFrameRx (f k)).wf = true ∧ Eth.mac (f k).octets 0 = k ∧ Eth.toGroup (f k).octets = false := by
    decide +kernel
  suffices ∃ k < 3, ownAddress 0 k = false by
    obtain ⟨k, hk, hn⟩ := this
    exact ⟨f k, (h k hk).1, by show 0 < 2; decide, by rw [(h k hk).2.1]; exact hn, (h k hk).2.2⟩
  by_cases h0 : ownAddress 0 0 = false
  · exact ⟨0, by decide, h0⟩
  by_cases h1 : ownAddress 0 1 = false
  · exact ⟨1, by decide, h1⟩
  refine ⟨2, by decide, ?_⟩
  simp only [ownAddress, Bool.not_eq_false, Bool.or_eq_true, beq_iff_eq] at h0 h1
  simp only [ownAddress, Bool.or_eq_false_iff, beq_eq_false_iff_ne]
  omega

/-- States and operands that meet the hypotheses of `Obligations.TickAndIncrementComplete`, clause by clause. -/
theorem wit_TickAndIncrementComplete :
    (∃ (s : State) (inc : _) (x : _) (t : _), s.u.held = false ∧ inc = s.time.incNext.getD s.time.inc ∧ x = s.time.raw + inc ∧ t = TimeBase.mk (x / 2
      ^ 32 / 1000000000 % 2 ^ 48) (x / 2 ^ 32 % 1000000000) (x % 2 ^ 32) 0 inc none s.time.lastUs (s.time.ref80 + nominal80 (s.u.rd
      R.SYS_STRAP_CLK_MODE)) 0) ∧
    (∃ (s : State) (t : _) (r : _), s.u.held = false ∧ s.time.due = true ∧ t = { s.time with lastUs := s.time.lastUs + 1 } ∧ r = injectChecks t
      (s.u.boundary t (s.time.lastUs + 1) s.u.latched)) ∧
    (∃ (u : U), u.rd (R.SYS_INJ_ONCE 0x400000000) = 0 ∧ u.rd (R.SYS_INJ_CONT 0x400000000) = 0) ∧
    (∃ (s : State), s.u.held = false ∧ s.time.due = false) ∧
    (∃ (s : State) (v : _), (Instr.timIncFracWrite v).wf = true ∧ s.u.held = false) ∧
    (∃ (s : State) (v : _), (Instr.timIncIntWrite v).wf = true ∧ s.u.held = false ∧ incOk (s.u.rd R.SYS_STRAP_CLK_MODE) (v * 2 ^ 32 + s.u.rd
      R.TIM_INC_FRAC_FRAC) = true) ∧
    (∃ (s : State) (v : _), (Instr.timIncIntWrite v).wf = true ∧ s.u.held = false ∧ incOk (s.u.rd R.SYS_STRAP_CLK_MODE) (v * 2 ^ 32 + s.u.rd
      R.TIM_INC_FRAC_FRAC) = false) :=
  ⟨⟨wS (wU []), _, _, _, by decide +kernel, rfl, rfl, rfl⟩,
    ⟨{ wS (wU []) with time := { (wS (wU [])).time with ns := 1000 } }, _, _, by decide +kernel, by decide +kernel, rfl, rfl⟩,
    ⟨(wU [((R.SYS_INJ_ONCE 0x400000000), 0), ((R.SYS_INJ_CONT 0x400000000), 0)]), by decide +kernel, by decide +kernel⟩,
    ⟨{ wS (wU []) with time := { TimeBase.start 0 with ns := 999, frac := 4294967295 } }, by decide +kernel, by decide +kernel⟩,
    ⟨wS (wU []), 0, by decide +kernel, by decide +kernel⟩,
    ⟨wS (wU [(R.TIM_INC_FRAC_FRAC, nominalInc 0)]), nominalInc 0 / 2 ^ 32, by decide +kernel, by decide +kernel, by decide +kernel⟩,
    ⟨wS (wU []), 0, by decide +kernel, by decide +kernel, by decide +kernel⟩⟩

/-- States and operands that meet the hypotheses of `Obligations.DepartureGeneratorCommandsComplete`, clause by clause. -/
theorem wit_DepartureGeneratorCommandsComplete :
    (∃ (s : State), s.u.held = false ∧ s.u.rd R.TIM_DEP_CTL_STATE ≠ 2 ∧ 0 < dnDiff (s.u.rd R.TIM_DEP_START_DN_START) s.time.dn) ∧
    (∃ (s : State), s.u.held = false ∧ s.u.rd R.TIM_DEP_CTL_STATE ≠ 2 ∧ dnDiff (s.u.rd R.TIM_DEP_START_DN_START) s.time.dn ≤ 0) ∧
    (∃ (s : State) (v : _), (Instr.timDepStartWrite v).wf = true ∧ s.u.held = false ∧ s.u.rd R.TIM_DEP_CTL_STATE ≠ 1) ∧
    (∃ (s : State) (v : _), (Instr.timDepStartWrite v).wf = true ∧ s.u.held = false ∧ s.u.rd R.TIM_DEP_CTL_STATE = 1 ∧ 0 < dnDiff v s.time.dn) ∧
    (∃ (s : State) (v : _), (Instr.timDepStartWrite v).wf = true ∧ s.u.held = false ∧ s.u.rd R.TIM_DEP_CTL_STATE = 1 ∧ dnDiff v s.time.dn ≤ 0) ∧
    (∃ (s : State) (c : _), s.u.held = false ∧ (s.u.rd R.TIM_DEP_CTL_STATE = 1 ∨ (s.u.rd R.TIM_DEP_CTL_STATE = 2 ∧ s.u.rd R.DEP_CTL_CONV_EN = 0)) ∧ (c
      = Instr.depStop ∨ c = Instr.depStart true)) ∧
    (∃ (s : State) (c : _), s.u.held = false ∧ (s.u.rd R.TIM_DEP_CTL_STATE = 1 ∨ (s.u.rd R.TIM_DEP_CTL_STATE = 2 ∧ s.u.rd R.DEP_CTL_CONV_EN = 0)) ∧ (c
      = Instr.depStop ∨ c = Instr.depStart true)) ∧
    (∃ (s : State), s.u.held = false ∧ s.u.rd R.TIM_DEP_CTL_STATE = 2 ∧ s.u.rd R.DEP_CTL_CONV_EN ≠ 0) ∧
    (∃ (s : State), s.u.held = false ∧ s.u.rd R.TIM_DEP_CTL_STATE = 0) ∧
    (∃ (u : U) (dn : _), u.rd R.TIM_DEP_CTL_STATE = 1 ∧ (u.tim.runNext = true ∨ u.rd R.TIM_DEP_START_DN_START = dn)) ∧
    (∃ (u : U) (dn : _), (u.rd R.TIM_DEP_CTL_STATE ≠ 1 ∨ (u.tim.runNext = false ∧ u.rd R.TIM_DEP_START_DN_START ≠ dn))) :=
  ⟨⟨wS (wU [(R.TIM_DEP_START_DN_START, 1)]), by decide +kernel, by decide +kernel, by decide +kernel⟩,
    ⟨wS (wU []), by decide +kernel, by decide +kernel, by decide +kernel⟩,
    ⟨wS (wU []), 0, by decide +kernel, by decide +kernel, by decide +kernel⟩,
    ⟨wS (wU [(R.TIM_DEP_CTL_STATE, 1)]), 1, by decide +kernel, by decide +kernel, by decide +kernel, by decide +kernel⟩,
    ⟨wS (wU [(R.TIM_DEP_CTL_STATE, 1)]), 0, by decide +kernel, by decide +kernel, by decide +kernel, by decide +kernel⟩,
    ⟨wS (wU [(R.TIM_DEP_CTL_STATE, 2)]), .depStart true, by decide +kernel, by decide +kernel, by decide +kernel⟩,
    ⟨wS (wU [(R.TIM_DEP_CTL_STATE, 1)]), .depStop, by decide +kernel, by decide +kernel, by decide +kernel⟩,
    ⟨wS (wU [(R.TIM_DEP_CTL_STATE, 2), (R.DEP_CTL_CONV_EN, 1)]), by decide +kernel, by decide +kernel, by decide +kernel⟩,
    ⟨wS (wU [(R.TIM_DEP_CTL_STATE, 0)]), by decide +kernel, by decide +kernel⟩,
    ⟨(wU [(R.TIM_DEP_CTL_STATE, 1)]), 0, by decide +kernel, by decide +kernel⟩,
    ⟨(wU []), 0, by decide +kernel⟩⟩

/-- States and operands that meet the hypotheses of `Obligations.StepsAndLoadsComplete`, clause by clause. -/
theorem wit_StepsAndLoadsComplete :
    (∃ (s : State) (v : _), (Instr.timStepWrite v).wf = true ∧ s.u.held = false) ∧
    (∃ (s : State) (d : _) (x : _), s.u.held = false ∧ s.u.tim.step = some d ∧ s.u.rd R.TIM_DEP_CTL_STATE = 0 ∧ 0 ≤ (s.time.raw : Int) + d * 2 ^ 28 ∧
      x = ((s.time.raw : Int) + d * 2 ^ 28).toNat) ∧
    (∃ (s : State) (d : _), s.u.held = false ∧ s.u.tim.step = some d ∧ s.u.rd R.TIM_DEP_CTL_STATE = 2 ∧ s.u.tim.stepBnd = true ∧ (d.natAbs > s.u.rd
      R.TIM_STEP_LIM_STEP_MAX * 16 ∨ (∃ n, s.u.tim.lastStep = some n ∧ n < s.u.rd R.TIM_STEP_LIM_STEP_GAP))) ∧
    (∃ (s : State) (v : _) (sec : _), (Instr.timSetLoad v).wf = true ∧ s.u.held = false ∧ s.u.rd R.TIM_DEP_CTL_STATE = 0 ∧ bits v 0 30 < 1000000000 ∧
      sec = s.u.rd R.TIM_SET_SECL_SEC_LO + 2 ^ 32 * s.u.rd R.TIM_SET_SECH_SEC_HI) ∧
    (∃ (s : State) (v : _), (Instr.timSetLoad v).wf = true ∧ s.u.held = false ∧ (s.u.rd R.TIM_DEP_CTL_STATE ≠ 0 ∨ 1000000000 ≤ bits v 0 30)) :=
  ⟨⟨wS (wU []), 0, by decide +kernel, by decide +kernel⟩,
    ⟨wS ((wU [(R.TIM_DEP_CTL_STATE, 0)]).withTim (fun h => { h with step := some 5 })), _, _, by decide +kernel, rfl, by decide +kernel,
      by decide +kernel, rfl⟩,
    ⟨wS ((wU [(R.TIM_DEP_CTL_STATE, 2)]).withTim (fun h => { h with step := some (2 ^ 31 - 1), stepBnd := true })), _, by decide +kernel, rfl,
      by decide +kernel, by decide +kernel, by decide +kernel⟩,
    ⟨wS (wU [(R.TIM_DEP_CTL_STATE, 0)]), 999999999, _, by decide +kernel, by decide +kernel, by decide +kernel, by decide +kernel, rfl⟩,
    ⟨wS (wU []), 1000000000, by decide +kernel, by decide +kernel, by decide +kernel⟩⟩

/-- States and operands that meet the hypotheses of `Obligations.TimeReadingsAndStampsComplete`, clause by clause. -/
theorem wit_TimeReadingsAndStampsComplete :
    (∃ (s : State) (core : _), (Instr.timNowLatch core).wf = true ∧ s.u.held = false ∧ s.u.Calm) ∧
    (∃ (s : State) (v : _), (Instr.timeStateWrite v).wf = true ∧ s.u.held = false ∧ bits v 0 2 ≠ 3 ∧ bits v 4 2 ≠ 3 ∧ bits v 4 2 ≠ s.u.rd
      R.TIM_CTL_TIME_STATE) ∧
    (∃ (s : State) (port : _) (m : _) (d : _) (q : _) (raw : _) (octets : _), (Instr.ptpEventRx port m d q raw octets).wf = true ∧ s.u.held = false ∧
      s.u.ptpOn (port / 2) = true ∧ d = s.u.rd R.TIM_CTL_PTP_DOMAIN) ∧
    (∃ (s : State) (port : _) (m : _) (d : _) (q : _) (raw : _) (octets : _), (Instr.ptpEventRx port m d q raw octets).wf = true ∧ s.u.held = false ∧
      s.u.ptpOn (port / 2) = true ∧ d ≠ s.u.rd R.TIM_CTL_PTP_DOMAIN) ∧
    (∃ (s : State) (p : _) (m : _) (q : _) (raw : _), (Instr.ptpEventTx p m q raw).wf = true ∧ s.u.held = false ∧ (s.u.txq p).length < 16) ∧
    (∃ (s : State) (p : _) (m : _) (q : _) (raw : _), (Instr.ptpEventTx p m q raw).wf = true ∧ s.u.held = false ∧ 16 ≤ (s.u.txq p).length) ∧
    (∃ (s : State) (p : _) (e : _) (q : _), (Instr.txqPop p).wf = true ∧ s.u.held = false ∧ s.u.txq p = e :: q) ∧
    (∃ (s : State) (p : _) (q : _) (one : _) (corr : _) (rx : _) (tx : _), (Instr.hsrSyncForward p q one corr rx tx).wf = true ∧ s.u.held = false ∧
      s.u.on R.PBX_CTL_HSR_EN = true ∧ s.u.rd R.TIM_CTL_PTP_PAIR = 1) :=
  ⟨⟨wS (wU []), 0, by decide +kernel, by decide +kernel, (by constructor <;> decide +kernel)⟩,
    ⟨wS (wU []), 16, by decide +kernel, by decide +kernel, by decide +kernel, by decide +kernel, by decide +kernel⟩,
    ⟨wS (wU []), 0, 0, _, 0, 0, [], by decide +kernel, by decide +kernel, by decide +kernel, rfl⟩,
    ⟨wS (wU []), 0, 0, 1, 0, 0, [], by decide +kernel, by decide +kernel, by decide +kernel, by decide +kernel⟩,
    ⟨wS ((wU []).setTxq 0 (List.replicate 15 ⟨0, 0, 0⟩)), 0, 0, 0, 0, by decide +kernel, by decide +kernel, by decide +kernel⟩,
    ⟨wS ((wU []).setTxq 0 (List.replicate 16 ⟨0, 0, 0⟩)), 0, 0, 0, 0, by decide +kernel, by decide +kernel, by decide +kernel⟩,
    ⟨wS ((wU []).setTxq 0 [⟨0, 0, 7⟩]), 0, _, _, by decide +kernel, by decide +kernel, rfl⟩,
    ⟨wS (wU [(R.PBX_CTL_HSR_EN, 1), (R.TIM_CTL_PTP_PAIR, 1)]), 2, 0, false, 0, 0, 0, by decide +kernel, by decide +kernel, by decide +kernel,
      by decide +kernel⟩⟩

/-- States and operands that meet the hypotheses of `Obligations.RegisterAccessesComplete`, clause by clause. -/
theorem wit_RegisterAccessesComplete :
    (∃ (s : State) (core : _) (addr : _) (size : _) (v : _), (Instr.registerWrite .unit core addr size v).wf = true ∧ s.u.held = false ∧ s.u.sramAt
      addr size = true ∧ s.u.capHolds addr size = false ∧ s.u.ledgerHolds addr size = false) ∧
    (∃ (s : State) (core : _) (addr : _) (v : _), (Instr.registerWrite .unit core addr 4 v).wf = true ∧ s.u.held = false ∧ 0x400000000 ≤ addr ∧ addr <
      0x401000000 ∧ addr % 4 = 0 ∧ s.u.blockOn addr = true ∧ addr ≠ 0x400010008 ∧ addr ≠ 0x40001001C ∧ addr ≠ 0x400000014) ∧
    (∃ (s : State) (core : _) (addr : _) (size : _) (v : _), (Instr.registerWrite .unit core addr size v).wf = true ∧ s.u.held = false ∧ 0x401000000 ≤
      addr) ∧
    (∃ (s : State) (core : _) (addr : _) (y : Tie), (Instr.rcFieldRead .unit core addr 4 y).wf = true ∧ s.u.held = false ∧ 0x400000000 ≤ addr ∧ addr <
      0x401000000 ∧ addr % 4 = 0 ∧ s.u.blockOn addr = true ∧ addr ≠ 0x400010020 ∧ addr ≠ 0x400530000 ∧ addr ≠ 0x400530028) ∧
    (∃ (s : State) (core : _) (addr : _) (size : _) (y : Tie), (Instr.rcFieldRead .unit core addr size y).wf = true ∧ s.u.held = false ∧ 0x400000000 ≤
      addr ∧ addr < 0x401000000 ∧ (addr % 4 ≠ 0 ∨ size ≠ 4)) ∧
    (∃ (s : State) (addr : _) (v : _) (k : _) (b : _), (Instr.statusW1cWrite .unit addr v k).wf = true ∧ s.u.held = false ∧ s.u.blockOn addr = true ∧
      b ∈ unitBlks ∧ addr = b.st) ∧
    (∃ (s : State) (v : _) (k : _), (Instr.statusW1cWrite .unit B.DEP.st v k).wf = true ∧ s.u.held = false ∧ s.u.Calm ∧ s.u.blockOn B.DEP.st = true) ∧
    (∃ (s : State) (addr : _) (v : _) (b : _), (Instr.blockAck .unit addr v).wf = true ∧ s.u.held = false ∧ s.u.blockOn addr = true ∧ b ∈ unitBlks ∧
      addr = b.ackAddr ∧ unitBlks.find? (fun x => x.ackAddr == addr) = some b ∧ bitAt v 0 = true) ∧
    (∃ (s : State) (h : _) (core : _) (addr : _) (v : _), (Instr.registerWrite (.hub h) core addr 4 v).wf = true ∧ (s.hub h).deaf (.registerWrite
      (.hub h) core addr 4 v) = false) ∧
    (∃ (s : State) (cid : _) (core : _) (addr : _) (v : _) (d : _), (Instr.registerWrite (.cell cid) core addr 4 v).wf = true ∧ d = (s.cell cid).now
      cid) :=
  ⟨⟨wS (wU []), 0, 0x2FFFFFF, 1, 0, by decide +kernel, by decide +kernel, by decide +kernel, by decide +kernel, by decide +kernel⟩,
    ⟨wS (wU []), 0, 0x400000070, 0, by decide +kernel, by decide +kernel, by decide +kernel, by decide +kernel, by decide +kernel, by decide +kernel,
      by decide +kernel, by decide +kernel, by decide +kernel⟩,
    ⟨wS (wU []), 0, 0x401000000, 1, 0, by decide +kernel, by decide +kernel, by decide +kernel⟩,
    ⟨wS (wU []), 0, 0x400000070, .none, by decide +kernel, by decide +kernel, by decide +kernel, by decide +kernel, by decide +kernel,
      by decide +kernel, by decide +kernel, by decide +kernel, by decide +kernel⟩,
    ⟨wS (wU []), 0, 0x400000070, 8, .none, by decide +kernel, by decide +kernel, by decide +kernel, by decide +kernel, by decide +kernel⟩,
    ⟨wS (wU []), B.SYS.st, 0, 0, B.SYS, by decide +kernel, by decide +kernel, by decide +kernel, by decide +kernel, by decide +kernel⟩,
    ⟨wS (wU []), 0, 0, by decide +kernel, by decide +kernel, (by constructor <;> decide +kernel), by decide +kernel⟩,
    ⟨wS (wU []), B.SYS.ackAddr, 1, B.SYS, by decide +kernel, by decide +kernel, by decide +kernel, by decide +kernel, by decide +kernel,
      by decide +kernel, by decide +kernel⟩,
    ⟨wHS (wH []), 0, 0, 0, 0, by decide +kernel, by decide +kernel⟩,
    ⟨wCS (wC []), 0, 0, 0, 0, _, by decide +kernel, rfl⟩⟩

/-- States and operands that meet the hypotheses of `Obligations.ChargeTrackingCommandsComplete`, clause by clause. -/
theorem wit_ChargeTrackingCommandsComplete :
    (∃ (s : State) (a : _) (cell : _) (op : _) (c : _), ((op = 1 ∧ c = Instr.frnClrSuspect a cell) ∨ (op = 2 ∧ c = Instr.frnReseed a cell) ∨ (op = 5 ∧
      c = Instr.frnClrAged a cell)) ∧ c.wf = true ∧ s.u.deaf c = false ∧ s.u.on (R.FRN_CMD_GO a) = false ∧ s.u.topo.valid (a * 2048 + cell) = true) ∧
    (∃ (s : State) (a : _) (cell : _) (op : _) (c : _), ((op = 1 ∧ c = Instr.frnClrSuspect a cell) ∨ (op = 2 ∧ c = Instr.frnReseed a cell) ∨ (op = 5 ∧
      c = Instr.frnClrAged a cell)) ∧ c.wf = true ∧ s.u.deaf c = false ∧ s.u.on (R.FRN_CMD_GO a) = false ∧ s.u.topo.valid (a * 2048 + cell) = true) ∧
    (∃ (s : State) (a : _) (cell : _) (op : _) (c : _), ((op = 1 ∧ c = Instr.frnClrSuspect a cell) ∨ (op = 2 ∧ c = Instr.frnReseed a cell) ∨ (op = 5 ∧
      c = Instr.frnClrAged a cell)) ∧ c.wf = true ∧ s.u.deaf c = false ∧ s.u.on (R.FRN_CMD_GO a) = false ∧ s.u.topo.valid (a * 2048 + cell) = true) ∧
    (∃ (s : State) (a : _) (cell : _) (v : _) (op : _) (c : _), ((op = 3 ∧ c = Instr.frnSetK a cell v) ∨ (op = 4 ∧ c = Instr.frnSetB a cell v)) ∧ c.wf
      = true ∧ s.u.deaf c = false ∧ s.u.on (R.FRN_CMD_GO a) = false ∧ s.u.topo.valid (a * 2048 + cell) = true) ∧
    (∃ (s : State) (a : _) (cell : _) (v : _) (op : _) (c : _), ((op = 3 ∧ c = Instr.frnSetK a cell v) ∨ (op = 4 ∧ c = Instr.frnSetB a cell v)) ∧ c.wf
      = true ∧ s.u.deaf c = false ∧ s.u.on (R.FRN_CMD_GO a) = false ∧ s.u.topo.valid (a * 2048 + cell) = true) ∧
    (∃ (s : State) (a : _) (cell : _) (c : _), (c = Instr.frnClrSuspect a cell ∨ c = Instr.frnReseed a cell ∨ c = Instr.frnClrAged a cell) ∧ c.wf =
      true ∧ s.u.deaf c = false ∧ (s.u.on (R.FRN_CMD_GO a) = true ∨ s.u.topo.valid (a * 2048 + cell) = false)) ∧
    (∃ (u : U) (a : _) (e : _) (v : U), u.on (R.FRN_CMD_GO a) = true ∧ u.cellOf (a * 2048 + u.rd (R.FRN_CMD_CELL a)) = some e ∧ ((u.rd (R.FRN_CMD_OP
      a) = 1 ∧ v = (u.setFlag e.2 .suspect false).setSusRun e.2 0) ∨ (u.rd (R.FRN_CMD_OP a) = 2 ∧ v = u.setFlag e.2 .unseeded true) ∨ (u.rd
      (R.FRN_CMD_OP a) = 3 ∧ v = (u.setK e.2 (u.rd (R.FRN_CMD_DATA_DATA a))).recWrite e.2) ∨ (u.rd (R.FRN_CMD_OP a) = 4 ∧ v = (u.lgw e.2.cid 0x10 4
      (u.rd (R.FRN_CMD_DATA_DATA a) % 2 ^ 24)).recWrite e.2) ∨ (u.rd (R.FRN_CMD_OP a) = 5 ∧ v = (u.setFlag e.2 .aged false).setFlag e.2 .kclamp
      false))) ∧
    (∃ (s : State) (a : _) (en : _), (Instr.frnEnWrite a en).wf = true ∧ s.u.deaf (.frnEnWrite a en) = false ∧ (en = true ∨ s.u.on R.DEP_CTL_CONV_EN =
      false)) ∧
    (∃ (s : State) (a : _), (Instr.frnEnWrite a false).wf = true ∧ s.u.deaf (.frnEnWrite a false) = false ∧ s.u.on R.DEP_CTL_CONV_EN = true) ∧
    (∃ (s : State) (addr : _) (size : _) (v : _), (Instr.ledgerStore addr size v).wf = true ∧ s.u.held = false ∧ s.u.sramAt addr size = true ∧
      s.u.capHolds addr size = false ∧ (∀ c ∈ s.u.topo.cells, addr < s.u.lgr c.cid 0x400 → s.u.lgr c.cid 0 < addr + size → s.u.on (R.FRN_CTL_EN
      (cidArm c.cid)) = false)) ∧
    (∃ (s : State) (addr : _) (size : _) (v : _) (c : _), (Instr.ledgerStore addr size v).wf = true ∧ s.u.held = false ∧ s.u.sramAt addr size = true ∧
      c ∈ s.u.topo.cells ∧ addr < s.u.lgr c.cid 0x400 ∧ s.u.lgr c.cid 0 < addr + size ∧ s.u.on (R.FRN_CTL_EN (cidArm c.cid)) = true) :=
  ⟨⟨wS (wT (wU [((R.FRN_CMD_GO 0), 0)])), 0, 0, 1, .frnClrSuspect 0 0, by decide +kernel, by decide +kernel, by decide +kernel, by decide +kernel,
      by decide +kernel⟩,
    ⟨wS (wT (wU [((R.FRN_CMD_GO 0), 0)])), 0, 0, 2, .frnReseed 0 0, by decide +kernel, by decide +kernel, by decide +kernel, by decide +kernel,
      by decide +kernel⟩,
    ⟨wS (wT (wU [((R.FRN_CMD_GO 0), 0)])), 0, 0, 5, .frnClrAged 0 0, by decide +kernel, by decide +kernel, by decide +kernel, by decide +kernel,
      by decide +kernel⟩,
    ⟨wS (wT (wU [((R.FRN_CMD_GO 0), 0)])), 0, 0, 0, 3, .frnSetK 0 0 0, by decide +kernel, by decide +kernel, by decide +kernel, by decide +kernel,
      by decide +kernel⟩,
    ⟨wS (wT (wU [((R.FRN_CMD_GO 0), 0)])), 0, 0, 0, 4, .frnSetB 0 0 0, by decide +kernel, by decide +kernel, by decide +kernel, by decide +kernel,
      by decide +kernel⟩,
    ⟨wS (wU []), 0, 0, .frnReseed 0 0, by decide +kernel, by decide +kernel, by decide +kernel, by decide +kernel⟩,
    ⟨wT (wU [((R.FRN_CMD_GO 0), 1), ((R.FRN_CMD_OP 0), 2)]), 0, _, _, by decide +kernel, rfl, Or.inr (Or.inl ⟨by decide +kernel, rfl⟩)⟩,
    ⟨wS (wU [(R.DEP_CTL_CONV_EN, 1)]), 0, true, by decide +kernel, by decide +kernel, by decide +kernel⟩,
    ⟨wS (wU [(R.DEP_CTL_CONV_EN, 1)]), 0, by decide +kernel, by decide +kernel, by decide +kernel⟩,
    ⟨wS (wU []), 0, 1, 0, by decide +kernel, by decide +kernel, by decide +kernel, by decide +kernel, by decide +kernel⟩,
    ⟨wS (wT (wU [((R.FRN_CTL_EN 0), 1)])), 0x3FF, 1, 0, wCell, by decide +kernel, by decide +kernel, by decide +kernel, by decide +kernel,
      by decide +kernel, by decide +kernel, by decide +kernel⟩⟩

/-- States and operands that meet the hypotheses of `Obligations.SelectionCommandsComplete`, clause by clause. -/
theorem wit_SelectionCommandsComplete :
    (∃ (s : State) (a : _) (r : _), (Instr.selection a).wf = true ∧ s.u.deaf (.selection a) = false ∧ (s.u.arm a).open_ = true ∧ (s.u.arm a).cfg.en =
      true ∧ s.u.topo.armOn a = true ∧ s.time.due = false ∧ r = s.u.draw) ∧
    (∃ (s : State) (a : _), (Instr.selection a).wf = true ∧ s.u.deaf (.selection a) = false ∧ ((s.u.arm a).open_ = false ∨ s.time.due = true)) ∧
    (∃ (s : State) (a : _) (cell : _) (op : _) (c : _), ((op = 1 ∧ c = Instr.mshRetire a cell) ∨ (op = 4 ∧ c = Instr.mshClrReq a cell) ∨ (op = 2 ∧ c =
      Instr.mshRestore a cell ∧ s.u.on R.DEP_CTL_CONV_EN = false)) ∧ c.wf = true ∧ s.u.deaf c = false ∧ s.u.on (R.MSH_CMD_GO a) = false ∧
      s.u.topo.valid (a * 2048 + cell) = true) ∧
    (∃ (s : State) (a : _) (cell : _) (op : _) (c : _), ((op = 1 ∧ c = Instr.mshRetire a cell) ∨ (op = 4 ∧ c = Instr.mshClrReq a cell) ∨ (op = 2 ∧ c =
      Instr.mshRestore a cell ∧ s.u.on R.DEP_CTL_CONV_EN = false)) ∧ c.wf = true ∧ s.u.deaf c = false ∧ s.u.on (R.MSH_CMD_GO a) = false ∧
      s.u.topo.valid (a * 2048 + cell) = true) ∧
    (∃ (s : State) (a : _) (cell : _) (op : _) (c : _), ((op = 1 ∧ c = Instr.mshRetire a cell) ∨ (op = 4 ∧ c = Instr.mshClrReq a cell) ∨ (op = 2 ∧ c =
      Instr.mshRestore a cell ∧ s.u.on R.DEP_CTL_CONV_EN = false)) ∧ c.wf = true ∧ s.u.deaf c = false ∧ s.u.on (R.MSH_CMD_GO a) = false ∧
      s.u.topo.valid (a * 2048 + cell) = true) ∧
    (∃ (s : State) (a : _), (Instr.mshRotate a).wf = true ∧ s.u.deaf (.mshRotate a) = false ∧ s.u.on (R.MSH_CMD_GO a) = false) ∧
    (∃ (s : State) (a : _) (cell : _), (Instr.mshRestore a cell).wf = true ∧ s.u.deaf (.mshRestore a cell) = false ∧ s.u.on R.DEP_CTL_CONV_EN = true) ∧
    (∃ (u : U) (a : _) (v : U), u.on (R.MSH_CMD_GO a) = true ∧ ((u.rd (R.MSH_CMD_OP a) = 3 ∧ v = u.setArm a (fun h => { h with rotate := true })) ∨ (∃
      e, u.cellOf (a * 2048 + u.rd (R.MSH_CMD_CELL a)) = some e ∧ ((u.rd (R.MSH_CMD_OP a) = 1 ∧ v = u.setFlag e.2 .retired true) ∨ (u.rd (R.MSH_CMD_OP
      a) = 2 ∧ v = (u.setFlag e.2 .retired false).setFlag e.2 .unseeded true) ∨ (u.rd (R.MSH_CMD_OP a) = 4 ∧ v = u.setReq e.1 e.2.cid false))))) ∧
    (∃ (s : State) (a : _), (Instr.mshEnWrite a true).wf = true ∧ s.u.deaf (.mshEnWrite a true) = false ∧ s.u.on (R.FRN_CTL_EN a) = true) ∧
    (∃ (s : State) (a : _), (Instr.mshEnWrite a false).wf = true ∧ s.u.deaf (.mshEnWrite a false) = false ∧ s.u.on R.DEP_CTL_CONV_EN = false) ∧
    (∃ (s : State) (a : _) (en : _), (Instr.mshEnWrite a en).wf = true ∧ s.u.deaf (.mshEnWrite a en) = false ∧ ((en = true ∧ s.u.on (R.FRN_CTL_EN a) =
      false) ∨ (en = false ∧ s.u.on R.DEP_CTL_CONV_EN = true))) :=
  ⟨⟨wS ((wT (wU [])).setArm 0 (fun h => { h with open_ := true, cfg := { h.cfg with en := true } })), 0, _, by decide +kernel, by decide +kernel,
      by decide +kernel, by decide +kernel, by decide +kernel, by decide +kernel, rfl⟩,
    ⟨wS (wU []), 0, by decide +kernel, by decide +kernel, by decide +kernel⟩,
    ⟨wS (wT (wU [((R.MSH_CMD_GO 0), 0)])), 0, 0, 1, .mshRetire 0 0, by decide +kernel, by decide +kernel, by decide +kernel, by decide +kernel,
      by decide +kernel⟩,
    ⟨wS (wT (wU [((R.MSH_CMD_GO 0), 0)])), 0, 0, 4, .mshClrReq 0 0, by decide +kernel, by decide +kernel, by decide +kernel, by decide +kernel,
      by decide +kernel⟩,
    ⟨wS (wT (wU [((R.MSH_CMD_GO 0), 0)])), 0, 0, 2, .mshRestore 0 0, by decide +kernel, by decide +kernel, by decide +kernel, by decide +kernel,
      by decide +kernel⟩,
    ⟨wS (wU [((R.MSH_CMD_GO 0), 0)]), 0, by decide +kernel, by decide +kernel, by decide +kernel⟩,
    ⟨wS (wU [(R.DEP_CTL_CONV_EN, 1)]), 0, 0, by decide +kernel, by decide +kernel, by decide +kernel⟩,
    ⟨(wU [((R.MSH_CMD_GO 0), 1), ((R.MSH_CMD_OP 0), 3)]), 0, _, by decide +kernel, Or.inl ⟨by decide +kernel, rfl⟩⟩,
    ⟨wS (wU [((R.FRN_CTL_EN 0), 1)]), 0, by decide +kernel, by decide +kernel, by decide +kernel⟩,
    ⟨wS (wU [(R.DEP_CTL_CONV_EN, 0)]), 0, by decide +kernel, by decide +kernel, by decide +kernel⟩,
    ⟨wS (wU []), 0, true, by decide +kernel, by decide +kernel, by decide +kernel⟩⟩

/-- States and operands that meet the hypotheses of `Obligations.ConverterAndForceCommandsComplete`, clause by clause. -/
theorem wit_ConverterAndForceCommandsComplete :
    (∃ (s : State), s.u.held = false ∧ s.u.on R.DEP_CTL_CONV_EN = false ∧ s.u.convOk = true) ∧
    (∃ (s : State), s.u.held = false ∧ s.u.on R.DEP_CTL_CONV_EN = false ∧ s.u.convOk = false) ∧
    (∃ (u : U) (t : _) (first : _), first = u.firstOpen t ∧ 0 ≤ dnDiff (u.rd R.DEP_FORCE_DN_DN) first) ∧
    (∃ (u : U) (t : _) (first : _), first = u.firstOpen t ∧ dnDiff (u.rd R.DEP_FORCE_DN_DN) first < 0) ∧
    (∃ (s : State) (cid : _) (code : _) (old : _) (r : _) (c : _) (l : _), (Instr.forceSet cid code).wf = true ∧ s.u.held = false ∧ code ≤ 4 ∧
      s.u.topo.valid cid = true ∧ (code = 2 ∨ code = 4 → ∃ e, s.u.cellOf cid = some e ∧ e.2.fb = true) ∧ old = s.u.dep.force.any (fun e => e.cid ==
      cid) ∧ (old = true ∨ s.u.dep.force.length < 64) ∧ r = (s.u.forceFields cid code 1).forceEff s.time ∧ c = some (ForceChange.mk (some code) r.1) ∧
      ((old = true ∧ l = r.2.dep.force.map (fun e => if e.cid == cid then { e with chg := c } else e)) ∨ (old = false ∧ l = r.2.dep.force ++ [⟨cid,
      none, c⟩]))) ∧
    (∃ (s : State) (cid : _) (code : _), (Instr.forceSet cid code).wf = true ∧ s.u.held = false ∧ (4 < code ∨ s.u.topo.valid cid = false ∨ ((code = 2
      ∨ code = 4) ∧ ∃ e, s.u.cellOf cid = some e ∧ e.2.fb = false) ∨ (s.u.dep.force.any (fun e => e.cid == cid) = false ∧ 64 ≤ s.u.dep.force.length))) ∧
    (∃ (s : State) (cid : _) (r : _), (Instr.forceRelease cid).wf = true ∧ s.u.held = false ∧ s.u.dep.force.any (fun e => e.cid == cid) = true ∧ r =
      (s.u.forceFields cid (s.u.rd R.DEP_FORCE_CTL_CODE) 2).forceEff s.time) ∧
    (∃ (s : State) (cid : _), (Instr.forceRelease cid).wf = true ∧ s.u.held = false ∧ s.u.dep.force.any (fun e => e.cid == cid) = false) ∧
    (∃ (s : State) (r : _), s.u.held = false ∧ r = (s.u.wr R.DEP_FORCE_CTL_OP 3).forceEff s.time) ∧
    (∃ (s : State) (dn : _) (o : _), (Instr.depPeek dn).wf = true ∧ s.u.held = false ∧ s.u.Calm ∧ s.u.topo.valid (s.u.rd R.DEP_PEEK_CID_CID) = true ∧
      -31 ≤ dnDiff dn s.time.cur ∧ dnDiff dn s.time.cur ≤ (s.u.rd R.DEP_CTL_LEAD : Int) ∧ s.u.orderSet (cidArm (s.u.rd R.DEP_PEEK_CID_CID)) dn = some
      o) :=
  ⟨⟨wS (wU [(R.DEP_CTL_CONV_EN, 0), (R.TIM_DEP_CTL_STATE, 2), (R.SYS_CFG_CFG_DEFAULT, 0), (R.SBX_STATE_RUN_OK, 1), (R.SDL_ROLE_ROLE, 3)]),
      by decide +kernel, by decide +kernel, by decide +kernel⟩,
    ⟨wS (wU [(R.DEP_CTL_CONV_EN, 0)]), by decide +kernel, by decide +kernel, by decide +kernel⟩,
    ⟨wU [(R.DEP_FORCE_DN_DN, 100)], TimeBase.start 0, _, rfl, by decide +kernel⟩,
    ⟨wU [(R.DEP_FORCE_DN_DN, 4294967295)], TimeBase.start 0, _, rfl, by decide +kernel⟩,
    ⟨wS (wT (wU [(R.DEP_FORCE_DN_DN, 100)])), 0, 4, false, _, _, _, by decide +kernel, by decide +kernel, by decide +kernel, by decide +kernel, fun _
      => ⟨_, rfl, by decide +kernel⟩, by decide +kernel, by decide +kernel, rfl, rfl, Or.inr ⟨rfl, rfl⟩⟩,
    ⟨wS (wU []), 0, 5, by decide +kernel, by decide +kernel, by decide +kernel⟩,
    ⟨wS ((wU [(R.DEP_FORCE_DN_DN, 100)]).withDep (fun d => { d with force := [⟨0, some 1, none⟩] })), 0, _, by decide +kernel, by decide +kernel,
      by decide +kernel, rfl⟩,
    ⟨wS (wU []), 0, by decide +kernel, by decide +kernel, by decide +kernel⟩,
    ⟨wS (wU [(R.DEP_FORCE_DN_DN, 100)]), _, by decide +kernel, rfl⟩,
    ⟨wS ((wT (wU [])).withDep (fun d => { d with sets := [(setKey 0 0, wSet)] })), 0, wSet, by decide +kernel, by decide +kernel,
      (by constructor <;> decide +kernel), by decide +kernel, by decide +kernel, by decide +kernel, by decide +kernel⟩⟩

/-- States and operands that meet the hypotheses of `Obligations.AvalancheCommandsComplete`, clause by clause. -/
theorem wit_AvalancheCommandsComplete :
    (∃ (s : State) (bit : _) (c : _), ((bit = 1 ∧ c = Instr.avFire) ∨ (bit = 4 ∧ c = Instr.peerAvalancheRx avalancheBlock ∧ s.u.sidingUp ≠ 0)) ∧
      s.u.held = false ∧ (s.u.on R.DEP_STATUS_AV_LATCHED = false ∨ s.u.on R.DEP_STATUS_CLR_SENDING = true)) ∧
    (∃ (s : State) (bit : _) (c : _), ((bit = 1 ∧ c = Instr.avFire) ∨ (bit = 4 ∧ c = Instr.peerAvalancheRx avalancheBlock ∧ s.u.sidingUp ≠ 0)) ∧
      s.u.held = false ∧ (s.u.on R.DEP_STATUS_AV_LATCHED = false ∨ s.u.on R.DEP_STATUS_CLR_SENDING = true)) ∧
    (∃ (s : State) (bit : _) (c : _), ((bit = 1 ∧ c = Instr.avFire) ∨ (bit = 4 ∧ c = Instr.peerAvalancheRx avalancheBlock ∧ s.u.sidingUp ≠ 0)) ∧
      s.u.held = false ∧ s.u.on R.DEP_STATUS_AV_LATCHED = true ∧ s.u.on R.DEP_STATUS_CLR_SENDING = false) ∧
    (∃ (s : State) (bit : _) (c : _), ((bit = 1 ∧ c = Instr.avFire) ∨ (bit = 4 ∧ c = Instr.peerAvalancheRx avalancheBlock ∧ s.u.sidingUp ≠ 0)) ∧
      s.u.held = false ∧ s.u.on R.DEP_STATUS_AV_LATCHED = true ∧ s.u.on R.DEP_STATUS_CLR_SENDING = false) ∧
    (∃ (s : State) (b : Block), (Instr.peerAvalancheRx b).wf = true ∧ s.u.held = false ∧ (s.u.sidingUp = 0 ∨ b ≠ avalancheBlock)) ∧
    (∃ (s : State), s.u.held = false ∧ s.u.on R.SDL_ROLE_CLR_PEND = false ∧ s.u.clearOk = true ∧ s.u.on R.SDL_ROLE_PEER_VALID = false) ∧
    (∃ (s : State), s.u.held = false ∧ s.u.on R.SDL_ROLE_CLR_PEND = false ∧ s.u.clearOk = true ∧ s.u.on R.SDL_ROLE_PEER_VALID = true) ∧
    (∃ (s : State), s.u.held = false ∧ s.u.on R.SDL_ROLE_CLR_PEND = false ∧ s.u.clearOk = false ∧ s.u.on R.SDL_ROLE_PEER_VALID = false) ∧
    (∃ (s : State), s.u.held = false ∧ s.u.on R.SDL_ROLE_CLR_PEND = false ∧ s.u.clearOk = false ∧ s.u.on R.SDL_ROLE_PEER_VALID = true) ∧
    (∃ (s : State), s.u.held = false ∧ s.u.on R.DEP_STATUS_CLR_SENDING = true ∧ s.u.dep.clrLeft = 0 ∧ s.u.Calm) ∧
    (∃ (s : State), s.u.held = false ∧ s.u.dep.resetRun = false ∧ s.u.dep.ranSince = true ∧ s.u.sending = true ∧ (s.u.rd R.SDL_ROLE_ROLE = 0 ∨ s.u.rd
      R.SDL_ROLE_ROLE = 3) ∧ s.u.on R.DEP_STATUS_AV_LATCHED = false) :=
  ⟨⟨wS (wU []), 1, .avFire, by decide +kernel, by decide +kernel, by decide +kernel⟩,
    ⟨wS (wU [((R.LNS_STATE_STATE (laneBase 96)), 7)]), 4, .peerAvalancheRx avalancheBlock, by decide +kernel, by decide +kernel, by decide +kernel⟩,
    ⟨wS (wU [(R.DEP_STATUS_AV_LATCHED, 1), (R.DEP_STATUS_CLR_SENDING, 0)]), 1, .avFire, by decide +kernel, by decide +kernel, by decide +kernel,
      by decide +kernel⟩,
    ⟨wS (wU [(R.DEP_STATUS_AV_LATCHED, 1), (R.DEP_STATUS_CLR_SENDING, 0), ((R.LNS_STATE_STATE (laneBase 96)), 7)]), 4, .peerAvalancheRx
      avalancheBlock, by decide +kernel, by decide +kernel, by decide +kernel, by decide +kernel⟩,
    ⟨wS (wU []), avalancheBlock, by decide +kernel, by decide +kernel, by decide +kernel⟩,
    ⟨wS (wU [(R.SDL_ROLE_CLR_PEND, 0), (R.SDL_ROLE_PEER_VALID, 0)]), by decide +kernel, by decide +kernel, by decide +kernel, by decide +kernel⟩,
    ⟨wS (wU [(R.SDL_ROLE_CLR_PEND, 0), (R.SDL_ROLE_PEER_VALID, 1)]), by decide +kernel, by decide +kernel, by decide +kernel, by decide +kernel⟩,
    ⟨wS (wU [(R.SDL_ROLE_CLR_PEND, 0), (R.SDL_ROLE_PEER_VALID, 0), (R.DEP_CTL_CONV_EN, 1)]), by decide +kernel, by decide +kernel, by decide +kernel,
      by decide +kernel⟩,
    ⟨wS (wU [(R.SDL_ROLE_CLR_PEND, 0), (R.SDL_ROLE_PEER_VALID, 1), (R.DEP_CTL_CONV_EN, 1)]), by decide +kernel, by decide +kernel, by decide +kernel,
      by decide +kernel⟩,
    ⟨wS (wU [(R.DEP_STATUS_CLR_SENDING, 1)]), by decide +kernel, by decide +kernel, by decide +kernel, (by constructor <;> decide +kernel)⟩,
    ⟨wS ((wU [(R.DEP_STATUS_AV_LATCHED, 0), (R.SDL_ROLE_ROLE, 3)]).withDep (fun d => { d with ranSince := true })), by decide +kernel,
      by decide +kernel, by decide +kernel, by decide +kernel, by decide +kernel, by decide +kernel⟩⟩

/-- States and operands that meet the hypotheses of `Obligations.HubAndCellDepartureCommandsComplete`, clause by clause. -/
theorem wit_HubAndCellDepartureCommandsComplete :
    (∃ (s : State) (h : _), (Instr.hubOrderLoss h).wf = true ∧ (s.hub h).deaf (.hubOrderLoss h) = false ∧ 4 ≤ (s.hub h).loss ∧ (s.hub h).told = false) ∧
    (∃ (s : State) (h : _), (Instr.hubOrderLoss h).wf = true ∧ (s.hub h).deaf (.hubOrderLoss h) = false ∧ ((s.hub h).loss < 4 ∨ (s.hub h).told =
      true)) ∧
    (∃ (s : State) (h : _) (lane : _), (Instr.hubAvalancheRx h lane avalancheBlock).wf = true ∧ (s.hub h).deaf (.hubAvalancheRx h lane avalancheBlock)
      = false ∧ (s.hub h).laneUp lane = true ∧ (s.hub h).laneIO.looped (hubLaneBase lane) = false) ∧
    (∃ (s : State) (h : _) (lane : _) (b : _), (Instr.hubAvalancheRx h lane b).wf = true ∧ (s.hub h).deaf (.hubAvalancheRx h lane b) = false ∧ ((s.hub
      h).laneUp lane = false ∨ (s.hub h).laneIO.looped (hubLaneBase lane) = true ∨ b ≠ avalancheBlock)) ∧
    (∃ (s : State) (cid : _) (port : _) (ofs : _) (y : C), (Instr.cellK287Rx cid port).wf = true ∧ (s.cell cid).now cid = (ofs, y) ∧ (y.laneIO.looped
      (portBase port) = false ∨ Output.k28_7 port ∈ y.out)) ∧
    (∃ (s : State) (cid : _) (port : _) (ofs : _) (y : C), (Instr.cellK287Rx cid port).wf = true ∧ (s.cell cid).now cid = (ofs, y) ∧ y.laneIO.looped
      (portBase port) = true ∧ Output.k28_7 port ∉ y.out) ∧
    (∃ (cid : _) (port : _) (ofs : _) (f : _), (Instr.cellFrameRx cid port ofs f none).wf = true) ∧
    (∃ (s : State) (cid : _) (ofs : _) (f : _) (g : _) (t : _), (Instr.cellFrameRx cid 0 ofs f (some g)).wf = true ∧ (Instr.cellFrameRx cid 1 ofs g
      (some f)).wf = true ∧ t = s.withCell cid (((s.cell cid).frameRx cid 0 ofs f).frameRx cid 1 ofs g)) ∧
    (∃ (y : C) (z : C) (port : _) (ofs : _) (f : _) (o : _), port < 2 ∧ ofs < 16000 ∧ (y.laneIO.looped (portBase port) = false ∨ Output.trackway port
      f ∈ y.out) ∧ o = max y.gte.ofs ofs ∧ z = (y.withGte (fun g => { g with ofs := o })).placeEdges o ∧ z.portUp port = false) ∧
    (∃ (y : C) (z : C) (port : _) (ofs : _) (f : _) (o : _) (k : _) (v : _), port < 2 ∧ ofs < 16000 ∧ (y.laneIO.looped (portBase port) = false ∨
      Output.trackway port f ∈ y.out) ∧ o = max y.gte.ofs ofs ∧ z = (y.withGte (fun g => { g with ofs := o })).placeEdges o ∧ z.portUp port = true ∧
      z.checkFrame port o f = (k, v) ∧ k ≠ .good) ∧
    (∃ (y : C) (z : C) (cid : _) (port : _) (ofs : _) (f : _) (o : _) (v : _) (d : _) (w : _), port < 2 ∧ ofs < 16000 ∧ (y.laneIO.looped (portBase
      port) = false ∨ Output.trackway port f ∈ y.out) ∧ o = max y.gte.ofs ofs ∧ z = (y.withGte (fun g => { g with ofs := o })).placeEdges o ∧ z.portUp
      port = true ∧ z.checkFrame port o f = (.good, v) ∧ (v.forward port o false f).draw cid = (d, w)) ∧
    (∃ (f : List Nat) (c : _), c = crc32c ((f.drop 1).take 245) ∧ f.contains charK28_7 = false ∧ (∀ v ∈ f.drop 1, v < 256) ∧ le f 246 4 = c) ∧
    (∃ (f : List Nat) (c : _), c = crc32c ((f.drop 1).take 245) ∧ f.contains charK28_7 = false ∧ (∀ v ∈ f.drop 1, v < 256) ∧ le f 246 4 = c ^^^
      0xFFFFFFFF) ∧
    (∃ (f : List Nat) (c : _), c = crc32c ((f.drop 1).take 245) ∧ f.contains charK28_7 = false ∧ (∀ v ∈ f.drop 1, v < 256) ∧ le f 246 4 ≠ c ∧ le f 246
      4 ≠ c ^^^ 0xFFFFFFFF) ∧
    (∃ (f : List Nat), f.contains charK28_7 = false ∧ (∃ v ∈ f.drop 1, 256 ≤ v)) ∧
    (∃ (y : C) (port : _) (ofs : _) (pass : _) (f : TwFrame) (v : _), f.avl = false ∧ v = ((y.enumerate port ofs f).measure port ofs pass
      f).hubMessage f.mbx ∧ v.clk.dnOk = true) ∧
    (∃ (y : C) (f : TwFrame), 1 < dnDiff f.dn y.dn ∧ dnDiff f.dn y.dn ≤ 8 ∧ y.placed = true ∧ y.on R.GTE_CTL_TEST_EN = false ∧ Tbl.find? y.gte.held
      f.dn = none) ∧
    (∃ (cid : _) (pass : _), (Instr.cellBoundary cid pass).wf = true) ∧
    (∃ (y : C) (h : Held), y.on R.GTE_STATE_BLOCK_LATCH = false ∧ y.on R.GTE_STATE_RETIRE_LATCH = false ∧ y.on R.GTE_CTL_TEST_EN = false ∧
      y.illegalOrder h = false ∧ h.code ≤ 4) ∧
    (∃ (s : State) (cid : _) (ofs : _) (y : C), (Instr.cellWatchdog cid).wf = true ∧ (s.cell cid).now cid = (ofs, y) ∧ y.watchdogDue = true) ∧
    (∃ (s : State) (cid : _) (ofs : _) (y : C), (Instr.cellWatchdog cid).wf = true ∧ (s.cell cid).now cid = (ofs, y) ∧ y.watchdogDue = false) :=
  ⟨⟨wHS ({ (wH []) with loss := 4 }), 0, by decide +kernel, by decide +kernel, by decide +kernel, by decide +kernel⟩,
    ⟨wHS (wH []), 0, by decide +kernel, by decide +kernel, by decide +kernel⟩,
    ⟨wHS (wH [((R.LNS_STATE_STATE (hubLaneBase 128)), 7)]), 0, 128, by decide +kernel, by decide +kernel, by decide +kernel, by decide +kernel⟩,
    ⟨wHS (wH []), 0, 128, avalancheBlock, by decide +kernel, by decide +kernel, by decide +kernel⟩,
    ⟨wCS (wC []), 0, 0, _, _, by decide +kernel, rfl, by decide +kernel⟩,
    ⟨wCS (wC [((R.LNS_CTL_LOOP (portBase 0)), 1)]), 0, 0, _, _, by decide +kernel, rfl, by decide +kernel, by decide +kernel⟩,
    ⟨0, 0, 0, wChars 0, by decide +kernel⟩,
    ⟨wCS (wC []), 0, 0, wChars 0, wChars 0, _, by decide +kernel, by decide +kernel, rfl⟩,
    ⟨wC [], _, 0, 0, wChars 0, _, by decide +kernel, by decide +kernel, by decide +kernel, rfl, rfl, by decide +kernel⟩,
    ⟨wC [(R.LNS_STATE_STATE (portBase 0), 7)], _, 0, 0, wChars 0, _, _, _, by decide +kernel, by decide +kernel, by decide +kernel, rfl, rfl,
      by decide +kernel, (Prod.eta _).symm, by decide +kernel⟩,
    ⟨wC [(R.LNS_STATE_STATE (portBase 0), 7)], _, 0, 0, 0, wChars 0x2ECBA477, _, _, _, _, by decide +kernel, by decide +kernel, by decide +kernel,
      rfl, rfl, by decide +kernel, wFst (by decide +kernel), (Prod.eta _).symm⟩,
    ⟨wChars 0x2ECBA477, _, rfl, by decide +kernel, by decide +kernel, by decide +kernel⟩,
    ⟨wChars 0xD1345B88, _, rfl, by decide +kernel, by decide +kernel, by decide +kernel⟩,
    ⟨wChars 0, _, rfl, by decide +kernel, by decide +kernel, by decide +kernel, by decide +kernel⟩,
    ⟨[0, 256], by decide +kernel, by decide +kernel⟩,
    ⟨(wC []).withClk (fun l => { l with dnOk := true }), 0, 0, 0, wTw, _, by decide +kernel, rfl, by decide +kernel⟩,
    ⟨(wC [(R.GTE_CTL_TEST_EN, 0), (R.CLK_ID_POS_VALID, 1)]), { wTw with dn := 8 }, by decide +kernel, by decide +kernel, by decide +kernel,
      by decide +kernel, by decide +kernel⟩,
    ⟨0, false, by decide +kernel⟩,
    ⟨(wC [(R.GTE_STATE_BLOCK_LATCH, 0), (R.GTE_STATE_RETIRE_LATCH, 0), (R.GTE_CTL_TEST_EN, 0)]), ⟨1, false, 0, false, 0⟩, by decide +kernel,
      by decide +kernel, by decide +kernel, by decide +kernel, by decide +kernel⟩,
    ⟨wCS ((wC [(R.GTE_WDOG_WDOG, 4), (R.GTE_WDOG_RUN, 4)]).withGte (fun g => { g with first := true })), 0, _, _, by decide +kernel, rfl,
      by decide +kernel⟩,
    ⟨wCS ((wC [(R.GTE_WDOG_WDOG, 4), (R.GTE_WDOG_RUN, 3)]).withGte (fun g => { g with first := true })), 0, _, _, by decide +kernel, rfl,
      by decide +kernel⟩⟩

/-- States and operands that meet the hypotheses of `Obligations.GateConfigurationCommandsComplete`, clause by clause. -/
theorem wit_GateConfigurationCommandsComplete :
    (∃ (s : State) (cid : _) (code : _) (v : _) (ofs : _) (y : C), (Instr.gtePatWrite cid code v).wf = true ∧ (s.cell cid).now cid = (ofs, y) ∧ y.on
      R.GTE_CTL_LOCK = false ∧ ¬ (bitAt v 0 = true ∧ bitAt v 1 = true) ∧ ¬ (bitAt v 2 = true ∧ bitAt v 3 = true)) ∧
    (∃ (s : State) (cid : _) (code : _) (v : _) (ofs : _) (y : C), (Instr.gtePatWrite cid code v).wf = true ∧ (s.cell cid).now cid = (ofs, y) ∧ y.on
      R.GTE_CTL_LOCK = false ∧ ((bitAt v 0 = true ∧ bitAt v 1 = true) ∨ (bitAt v 2 = true ∧ bitAt v 3 = true))) ∧
    (∃ (s : State) (cid : _) (v : _) (ofs : _) (y : C), (Instr.gteCtlWrite cid v).wf = true ∧ (s.cell cid).now cid = (ofs, y) ∧ y.on R.GTE_CTL_LOCK =
      false) ∧
    (∃ (s : State) (cid : _) (v : _) (ofs : _) (y : C), (Instr.gteCtlWrite cid v).wf = true ∧ (s.cell cid).now cid = (ofs, y) ∧ y.on R.GTE_CTL_LOCK =
      true ∧ bitAt v 3 = false) ∧
    (∃ (s : State) (cid : _) (ofs : _) (y : C) (z : _), (Instr.testEnWrite cid true).wf = true ∧ (s.cell cid).now cid = (ofs, y) ∧ y.on
      R.GTE_CTL_TEST_EN = false ∧ y.blockByOrder = true ∧ y.on R.GTE_STATE_BLOCK_LATCH = false ∧ y.on R.GTE_STATE_RETIRE_LATCH = false ∧ y.gte.safe =
      false ∧ z = ((y.gridOff ofs).wr R.GTE_CTL_TEST_EN 1).showRow 6 0 ∧ z.gte.held.any (fun e => e.2.code != 0) = false) ∧
    (∃ (s : State) (cid : _) (ofs : _) (y : C) (z : _), (Instr.testEnWrite cid true).wf = true ∧ (s.cell cid).now cid = (ofs, y) ∧ y.on
      R.GTE_CTL_TEST_EN = false ∧ y.blockByOrder = true ∧ y.on R.GTE_STATE_BLOCK_LATCH = false ∧ y.on R.GTE_STATE_RETIRE_LATCH = false ∧ y.gte.safe =
      false ∧ z = ((y.gridOff ofs).wr R.GTE_CTL_TEST_EN 1).showRow 6 0 ∧ z.gte.held.any (fun e => e.2.code != 0) = true) ∧
    (∃ (s : State) (cid : _) (ofs : _) (y : C), (Instr.testEnWrite cid true).wf = true ∧ (s.cell cid).now cid = (ofs, y) ∧ (y.blockByOrder = false ∨
      y.on R.GTE_STATE_BLOCK_LATCH = true ∨ y.on R.GTE_STATE_RETIRE_LATCH = true ∨ y.gte.safe = true)) ∧
    (∃ (s : State) (cid : _) (ofs : _) (y : C), (Instr.testEnWrite cid false).wf = true ∧ (s.cell cid).now cid = (ofs, y) ∧ y.on R.GTE_CTL_TEST_EN =
      true) ∧
    (∃ (s : State) (cid : _) (ofs : _) (y : C), (Instr.testEnWrite cid false).wf = true ∧ (s.cell cid).now cid = (ofs, y) ∧ y.on R.GTE_CTL_TEST_EN =
      false) ∧
    (∃ (s : State) (cid : _) (v : _) (ofs : _) (y : C), (Instr.gteTestWrite cid v).wf = true ∧ (s.cell cid).now cid = (ofs, y) ∧ y.on
      R.GTE_CTL_TEST_EN = false) ∧
    (∃ (s : State) (cid : _) (v : _) (ofs : _) (y : C), (Instr.gteTestWrite cid v).wf = true ∧ (s.cell cid).now cid = (ofs, y) ∧ y.testing = true ∧
      bits v 4 2 = 0 ∧ legOf v 0 ≠ 3 ∧ legOf v 1 ≠ 3 ∧ y.on R.PRT_STATE_HOLD_X = false ∧ y.on R.PRT_STATE_HOLD_Y = false ∧ y.prt.uvlo = false) ∧
    (∃ (s : State) (cid : _), (Instr.pwmRunWrite cid true).wf = true ∧ (s.cell cid).on R.GTE_PWM_CTL_RUN = false) ∧
    (∃ (cid : _), (Instr.pwmRunWrite cid false).wf = true) ∧
    (∃ (cid : _), (Instr.pwmLoad cid).wf = true) ∧
    (∃ (s : State) (cid : _) (ofs : _) (y : C), (Instr.pwmPeriodStart cid).wf = true ∧ (s.cell cid).now cid = (ofs, y) ∧ y.on R.GTE_PWM_CTL_RUN = true
      ∧ y.on R.GTE_PWM_CTL_LOAD = true ∧ y.on R.GTE_CTL_TEST_EN = false) ∧
    (∃ (s : State) (cid : _) (ofs : _) (y : C) (on : _), (Instr.pwmPeriodStart cid).wf = true ∧ (s.cell cid).now cid = (ofs, y) ∧ y.on
      R.GTE_PWM_CTL_RUN = true ∧ y.on R.GTE_PWM_CTL_LOAD = false ∧ y.testing = true ∧ y.on R.GTE_TEST_MODE_X = true ∧ y.prt.uvlo = false ∧ y.on
      R.PRT_STATE_HOLD_X = false ∧ on = (rdiv ((y.gte.pwm.2 * y.gte.pwm.1 : Nat) : Int) 65536).toNat ∧ y.gte.deadX ≤ on ∧ y.gte.deadX ≤ y.gte.pwm.1 -
      on) ∧
    (∃ (s : State) (cid : _) (p : _) (q : _) (ofs : _) (y : C), (Instr.calibrationComplete cid p q).wf = true ∧ (s.cell cid).now cid = (ofs, y) ∧
      y.gte.cal = 2 ∧ 50 ≤ q ∧ q ≤ 64 ∧ p ≤ q + 1 ∧ q ≤ p + 1 ∧ y.on R.GTE_CAL_SERVING = false) ∧
    (∃ (s : State) (cid : _) (p : _) (q : _) (ofs : _) (y : C), (Instr.calibrationComplete cid p q).wf = true ∧ (s.cell cid).now cid = (ofs, y) ∧
      y.gte.cal = 2 ∧ (q < 50 ∨ 64 < q ∨ q + 1 < p ∨ p + 1 < q) ∧ y.on R.GTE_CAL_SERVING = false ∧ y.gte.calBad.2 = 2) ∧
    (∃ (s : State) (cid : _) (p : _) (q : _) (ofs : _) (y : C), (Instr.calibrationComplete cid p q).wf = true ∧ (s.cell cid).now cid = (ofs, y) ∧
      y.gte.cal ≠ 2) ∧
    (∃ (s : State) (cid : _) (leg : _), (Instr.refreshRequest cid leg).wf = true ∧ (s.cell cid).marked leg = true ∧ (s.cell cid).rd R.GTE_BOOT_ON_MAX
      - (s.cell cid).rd R.GTE_BOOT_ADV ≤ ((s.cell cid).refresh leg).us) ∧
    (∃ (s : State) (cid : _) (leg : _), (Instr.autoRefresh cid leg).wf = true ∧ (s.cell cid).marked leg = true ∧ (s.cell cid).rd R.GTE_BOOT_ON_MAX ≤
      ((s.cell cid).refresh leg).us) :=
  ⟨⟨wCS (wC [(R.GTE_CTL_LOCK, 0)]), 0, 0, 0, _, _, by decide +kernel, rfl, by decide +kernel, by decide +kernel, by decide +kernel⟩,
    ⟨wCS (wC [(R.GTE_CTL_LOCK, 0)]), 0, 0, 3, _, _, by decide +kernel, rfl, by decide +kernel, by decide +kernel⟩,
    ⟨wCS (wC [(R.GTE_CTL_LOCK, 0)]), 0, 0, _, _, by decide +kernel, rfl, by decide +kernel⟩,
    ⟨wCS (wC [(R.GTE_CTL_LOCK, 1)]), 0, 7, _, _, by decide +kernel, rfl, by decide +kernel, by decide +kernel⟩,
    ⟨wCS (wC [(R.GTE_CTL_TEST_EN, 0), (R.GTE_STATE_BLOCK_LATCH, 0), (R.GTE_STATE_RETIRE_LATCH, 0)]), 0, _, _, _, by decide +kernel, rfl,
      by decide +kernel, by decide +kernel, by decide +kernel, by decide +kernel, by decide +kernel, rfl, by decide +kernel⟩,
    ⟨wCS ((wC [(R.GTE_CTL_TEST_EN, 0), (R.GTE_STATE_BLOCK_LATCH, 0), (R.GTE_STATE_RETIRE_LATCH, 0)]).withGte (fun g =>
      { g with held := [(1, ⟨1, false, 0, false, 0⟩)] })), 0, _, _, _, by decide +kernel, rfl, by decide +kernel, by decide +kernel,
      by decide +kernel, by decide +kernel, by decide +kernel, rfl, by decide +kernel⟩,
    ⟨wCS (wC [(R.GTE_STATE_BLOCK_LATCH, 1)]), 0, _, _, by decide +kernel, rfl, by decide +kernel⟩,
    ⟨wCS ((wC [(R.GTE_CTL_TEST_EN, 1)]).withGte (fun g => { g with first := true })), 0, _, _, by decide +kernel, rfl, by decide +kernel⟩,
    ⟨wCS (wC [(R.GTE_CTL_TEST_EN, 0)]), 0, _, _, by decide +kernel, rfl, by decide +kernel⟩,
    ⟨wCS (wC [(R.GTE_CTL_TEST_EN, 0)]), 0, 0, _, _, by decide +kernel, rfl, by decide +kernel⟩,
    ⟨wCS (wC [(R.PRT_STATE_HOLD_X, 0), (R.PRT_STATE_HOLD_Y, 0), (R.GTE_CTL_TEST_EN, 1), (R.PRT_STATE_HOLD_X, 0)]), 0, 0, _, _, by decide +kernel, rfl,
      by decide +kernel, by decide +kernel, by decide +kernel, by decide +kernel, by decide +kernel, by decide +kernel, by decide +kernel⟩,
    ⟨wCS (wC [(R.GTE_PWM_CTL_RUN, 0)]), 0, by decide +kernel, by decide +kernel⟩,
    ⟨0, by decide +kernel⟩,
    ⟨0, by decide +kernel⟩,
    ⟨wCS (wC [(R.GTE_PWM_CTL_RUN, 1), (R.GTE_PWM_CTL_LOAD, 1), (R.GTE_CTL_TEST_EN, 0)]), 0, _, _, by decide +kernel, rfl, by decide +kernel,
      by decide +kernel, by decide +kernel⟩,
    ⟨wCS ((wC [(R.GTE_PWM_CTL_RUN, 1), (R.GTE_PWM_CTL_LOAD, 0), (R.GTE_TEST_MODE_X, 1), (R.PRT_STATE_HOLD_X, 0), (R.GTE_CTL_TEST_EN, 1)]).withGte (fun
      g => { g with pwm := (16000, 32768) })), 0, _, _, _, by decide +kernel, rfl, by decide +kernel, by decide +kernel, by decide +kernel,
      by decide +kernel, by decide +kernel, by decide +kernel, rfl, by decide +kernel, by decide +kernel⟩,
    ⟨wCS ((wC [(R.GTE_CAL_SERVING, 0)]).withGte (fun g => { g with cal := 2 })), 0, 51, 50, _, _, by decide +kernel, rfl, by decide +kernel,
      by decide +kernel, by decide +kernel, by decide +kernel, by decide +kernel, by decide +kernel⟩,
    ⟨wCS ((wC [(R.GTE_CAL_SERVING, 0)]).withGte (fun g => { g with cal := 2, calBad := (0, 2) })), 0, 50, 49, _, _, by decide +kernel, rfl,
      by decide +kernel, by decide +kernel, by decide +kernel, by decide +kernel⟩,
    ⟨wCS (wC []), 0, 0, 0, _, _, by decide +kernel, rfl, by decide +kernel⟩,
    ⟨wCS ((wC [(R.GTE_BOOT_PULSE_BOOT_LEGS, 1)]).withGte (fun g => { g with refX := { g.refX with us := 65535 } })), 0, 0, by decide +kernel,
      by decide +kernel, by decide +kernel⟩,
    ⟨wCS ((wC [(R.GTE_BOOT_PULSE_BOOT_LEGS, 1)]).withGte (fun g => { g with refX := { g.refX with us := 65535 } })), 0, 0, by decide +kernel,
      by decide +kernel, by decide +kernel⟩⟩

/-- States and operands that meet the hypotheses of `Obligations.ProtectionCommandsComplete`, clause by clause. -/
theorem wit_ProtectionCommandsComplete :
    (∃ (s : State) (cid : _) (ins : List (Nat × Nat)) (ofs : _) (y : C) (l1 : _) (l2 : _) (ov : _) (z : C) (a : _) (b : _) (c : _), (c =
      Instr.comparatorTrip cid ins ∨ c = Instr.ov2Crossing cid ins) ∧ c.wf = true ∧ (s.cell cid).now cid = (ofs, y) ∧ y.sense cid ins = ((l1, l2, ov),
      z) ∧ z.prt.uvlo = false ∧ z.prt.masked = none ∧ a = z.level1 ofs (z.powered l1) ∧ b = z.powered l2 ∧ (a ≠ 0 ∨ b ≠ 0 ∨ ov = true)) ∧
    (∃ (s : State) (cid : _) (ins : List (Nat × Nat)) (ofs : _) (y : C) (l1 : _) (l2 : _) (ov : _) (z : C) (a : _) (b : _) (c : _), (c =
      Instr.comparatorTrip cid ins ∨ c = Instr.ov2Crossing cid ins) ∧ c.wf = true ∧ (s.cell cid).now cid = (ofs, y) ∧ y.sense cid ins = ((l1, l2, ov),
      z) ∧ z.prt.uvlo = false ∧ z.prt.masked = none ∧ a = z.level1 ofs (z.powered l1) ∧ b = z.powered l2 ∧ (a ≠ 0 ∨ b ≠ 0 ∨ ov = true)) ∧
    (∃ (s : State) (cid : _) (ins : List (Nat × Nat)) (ofs : _) (y : C) (l1 : _) (l2 : _) (ov : _) (z : C) (a : _) (b : _) (c : _), (c =
      Instr.comparatorTrip cid ins ∨ c = Instr.ov2Crossing cid ins) ∧ c.wf = true ∧ (s.cell cid).now cid = (ofs, y) ∧ y.sense cid ins = ((l1, l2, ov),
      z) ∧ z.prt.uvlo = false ∧ z.prt.masked = none ∧ a = z.level1 ofs (z.powered l1) ∧ b = z.powered l2 ∧ a = 0 ∧ b = 0 ∧ ov = false) ∧
    (∃ (v : _) (code : _), 256 * code + 256 < v) ∧
    (∃ (v : _) (code : _), v + 256 < 256 * code) ∧
    (∃ (y : C) (l2 : _), l2 ≠ 0 ∧ y.retiring = false) ∧
    (∃ (y : C) (ofs : _) (z : C), z = y.tripRecord ofs 0 0 true false ∧ z.retiring = false) ∧
    (∃ (s : State) (cid : _) (sw : _) (ins : List (Nat × Nat)) (ofs : _) (y : C) (l1 : _) (l2 : _) (ov : _) (z : C), sw < 4 ∧ (Instr.blankWindowClose
      cid (2 ^ sw) ins).wf = true ∧ (s.cell cid).now cid = (ofs, y) ∧ bitAt y.prt.blank sw = true ∧ (y.withPrt (fun p =>
      { p with blank := clrBit p.blank sw })).sense cid ins = ((l1, l2, ov), z)) ∧
    (∃ (s : State) (cid : _) (ofs : _) (y : C) (l2 : _), (Instr.softOffEnd cid).wf = true ∧ (s.cell cid).now cid = (ofs, y) ∧ l2 ≠ 0 ∧ y.prt.soft =
      [⟨3, 0, l2, false⟩]) ∧
    (∃ (s : State) (cid : _) (sw : _) (high : Bool) (ofs : _) (y : C) (z : C), (Instr.gateMismatch cid sw high).wf = true ∧ (s.cell cid).now cid =
      (ofs, y) ∧ y.prt.uvlo = false ∧ y.powered (2 ^ sw) ≠ 0 ∧ bitAt y.outs sw = !high ∧ (y.settle sw : Int) ≤ y.unchanged sw ofs ∧ y.retiring = false
      ∧ z = (y.inc R.PRT_CNT_B_GM_CNT).raise ofs CC.GATE_MISMATCH [] ∧ z.held (sw / 2) = false) ∧
    (∃ (s : State) (cid : _) (sw : _) (high : Bool) (ofs : _) (y : C), (Instr.gateMismatch cid sw high).wf = true ∧ (s.cell cid).now cid = (ofs, y) ∧
      (bitAt y.outs sw = high ∨ y.unchanged sw ofs < y.settle sw)) ∧
    (∃ (s : State) (cid : _) (ins : List (Nat × Nat)) (l1 : _) (l2 : _) (ov : _) (z : C), (Instr.clrHold cid ins).wf = true ∧ (s.cell cid).sense cid
      ins = ((l1, l2, ov), z) ∧ z.on R.PRT_CTL_BYP_AUTO = false ∧ z.retiring = false ∧ switchLegs (z.powered l1) = 0) ∧
    (∃ (s : State) (cid : _) (ins : List (Nat × Nat)) (l1 : _) (l2 : _) (ov : _) (z : C), (Instr.clrHold cid ins).wf = true ∧ (s.cell cid).sense cid
      ins = ((l1, l2, ov), z) ∧ z.held 0 = true ∧ z.on R.PRT_CTL_BYP_AUTO = true) ∧
    (∃ (s : State) (cid : _) (ofs : _) (y : C), (Instr.dmpTmaxExpire cid).wf = true ∧ (s.cell cid).now cid = (ofs, y) ∧ y.on R.PRT_STATE_DMP = true) ∧
    (∃ (s : State) (cid : _) (ofs : _) (y : C), (Instr.uvloEntry cid).wf = true ∧ (s.cell cid).now cid = (ofs, y) ∧ y.prt.uvlo = false ∧ y.prt.masked
      = none) ∧
    (∃ (s : State) (cid : _) (ofs : _) (y : C), (Instr.uvloRelease cid []).wf = true ∧ (s.cell cid).now cid = (ofs, y) ∧ y.prt.uvlo = true ∧ y.on
      R.GTE_STATE_RETIRE_LATCH = false ∧ y.on R.PRT_STATE_JRN_RET = false) ∧
    (∃ (cid : _), (Instr.cellPor cid).wf = true) :=
  ⟨⟨wCS (wC [(R.PRT_OVB_OV2, 5)]), 0, [(4, 262144)], _, _, _, _, _, _, _, _, .comparatorTrip 0 [(4, 262144)], by decide +kernel, by decide +kernel,
      rfl, wEta _, by decide +kernel, by decide +kernel, rfl, rfl, Or.inr (Or.inr (by decide +kernel))⟩,
    ⟨wCS (wC [(R.PRT_OVB_OV2, 5)]), 0, [(4, 262144)], _, _, _, _, _, _, _, _, .ov2Crossing 0 [(4, 262144)], by decide +kernel, by decide +kernel, rfl,
      wEta _, by decide +kernel, by decide +kernel, rfl, rfl, Or.inr (Or.inr (by decide +kernel))⟩,
    ⟨wCS (wC []), 0, [], _, _, _, _, _, _, _, _, .comparatorTrip 0 [], by decide +kernel, by decide +kernel, rfl, wEta _, by decide +kernel,
      by decide +kernel, rfl, rfl, by decide +kernel, by decide +kernel, by decide +kernel⟩,
    ⟨257, 0, by decide +kernel⟩,
    ⟨0, 2, by decide +kernel⟩,
    ⟨(wC []), 1, by decide +kernel, by decide +kernel⟩,
    ⟨(wC []), 0, _, rfl, by decide +kernel⟩,
    ⟨wCS ((wC []).withPrt (fun p => { p with blank := 1 })), 0, 0, [], _, _, _, _, _, _, by decide +kernel, by decide +kernel, rfl, by decide +kernel,
      wEta _⟩,
    ⟨wCS ((wC []).withPrt (fun p => { p with soft := [⟨3, 0, 1, false⟩] })), 0, _, _, 1, by decide +kernel, rfl, by decide +kernel, rfl⟩,
    ⟨wCS (wC [((CB.PRT.firstValid), 1)]), 0, 0, true, _, _, _, by decide +kernel, rfl, by decide +kernel, by decide +kernel, by decide +kernel,
      Int.le_trans (b := 1000000) (by decide +kernel) (wOld _), by decide +kernel, rfl, by decide +kernel⟩,
    ⟨wCS (wC []), 0, 0, false, _, _, by decide +kernel, rfl, by decide +kernel⟩,
    ⟨wCS (wC [(R.PRT_CTL_BYP_AUTO, 0)]), 0, [], _, _, _, _, by decide +kernel, wEta _, by decide +kernel, by decide +kernel, by decide +kernel⟩,
    ⟨wCS (wC [(R.PRT_STATE_HOLD_X, 1), (R.PRT_CTL_BYP_AUTO, 1)]), 0, [], _, _, _, _, by decide +kernel, wEta _, by decide +kernel, by decide +kernel⟩,
    ⟨wCS (wC [(R.PRT_STATE_DMP, 1)]), 0, _, _, by decide +kernel, rfl, by decide +kernel⟩,
    ⟨wCS (wC []), 0, _, _, by decide +kernel, rfl, by decide +kernel, by decide +kernel⟩,
    ⟨wCS ((wC [(R.GTE_STATE_RETIRE_LATCH, 0), (R.PRT_STATE_JRN_RET, 0)]).withPrt (fun p => { p with uvlo := true })), 0, _, _, by decide +kernel, rfl,
      by decide +kernel, by decide +kernel, by decide +kernel⟩,
    ⟨0, by decide +kernel⟩⟩

/-- States and operands that meet the hypotheses of `Obligations.RetirementAndTestCommandsComplete`, clause by clause. -/
theorem wit_RetirementAndTestCommandsComplete :
    (∃ (s : State) (cid : _) (ofs : _) (y : C), (Instr.bypWaitExpire cid).wf = true ∧ (s.cell cid).now cid = (ofs, y) ∧ y.bypassDue = true ∧
      y.prt.uvlo = false) ∧
    (∃ (s : State) (cid : _), (Instr.retirementRecordDone cid).wf = true ∧ (s.cell cid).prt.jrnRun = true) ∧
    (∃ (s : State) (cid : _), (Instr.bycPulseStart cid).wf = true ∧ (s.cell cid).prt.uvlo = false ∧ (s.cell cid).rd R.PRT_STATE_SEQ = 1 ∧ (s.cell
      cid).prt.bycUp = false) ∧
    (∃ (cid : _), (Instr.bycPulseEnd cid).wf = true) ∧
    (∃ (s : State) (cid : _), (Instr.bycConfirm cid).wf = true ∧ (s.cell cid).prt.uvlo = false ∧ (s.cell cid).rd R.PRT_STATE_SEQ = 1 ∧ (s.cell
      cid).prt.bycUp = true) ∧
    (∃ (s : State) (cid : _) (ofs : _) (y : C), (Instr.bycTimeout cid).wf = true ∧ (s.cell cid).now cid = (ofs, y) ∧ y.prt.uvlo = false ∧ y.rd
      R.PRT_STATE_SEQ = 1 ∧ y.prt.bycUp = true) ∧
    (∃ (s : State) (cid : _), (Instr.byfRelease cid).wf = true ∧ (s.cell cid).rd R.PRT_STATE_SEQ = 2) ∧
    (∃ (s : State) (cid : _) (level : _), (Instr.byfPulse cid level).wf = true ∧ (s.cell cid).prt.uvlo = false ∧ ((s.cell cid).rd R.PRT_STATE_SEQ = 1
      ∨ (s.cell cid).rd R.PRT_STATE_SEQ = 3)) ∧
    (∃ (s : State) (cid : _), (Instr.clrJournal cid).wf = true ∧ (s.cell cid).on R.GTE_STATE_RETIRE_LATCH = true ∧ 2 ≤ (s.cell cid).rd
      R.PRT_STATE_SEQ) ∧
    (∃ (s : State) (cid : _), (Instr.clrJournal cid).wf = true ∧ (s.cell cid).on R.GTE_STATE_RETIRE_LATCH = false) ∧
    (∃ (s : State) (cid : _) (sw : _) (v : _) (ofs : _) (y : C), (Instr.prtThrWrite cid sw v).wf = true ∧ (s.cell cid).now cid = (ofs, y) ∧ y.on
      R.PRT_CTL_LOCK = false ∧ bits v 0 8 < bits v 8 8) ∧
    (∃ (s : State) (cid : _) (sw : _) (v : _) (ofs : _) (y : C), (Instr.prtThrWrite cid sw v).wf = true ∧ (s.cell cid).now cid = (ofs, y) ∧ y.on
      R.PRT_CTL_LOCK = false ∧ bits v 8 8 ≤ bits v 0 8) ∧
    (∃ (s : State) (cid : _) (v : _), (Instr.prtOvaWrite cid v).wf = true ∧ (s.cell cid).on R.PRT_CTL_LOCK = false ∧ bits v 16 16 < bits v 0 16) ∧
    (∃ (s : State) (cid : _) (mask : _), (Instr.selftest cid mask).wf = true ∧ (s.cell cid).prt.test = none ∧ (s.cell cid).retiring = false ∧ (s.cell
      cid).on R.GTE_CTL_TYPE = true ∧ mask ≠ 0) ∧
    (∃ (s : State) (cid : _) (ofs : _) (y : C) (m : _) (n : _), (Instr.selftestTimeout cid).wf = true ∧ (s.cell cid).now cid = (ofs, y) ∧ y.prt.test =
      some (m, n) ∧ 1024 ≤ n) :=
  ⟨⟨wCS ((wC [(R.PRT_CTL_BYP_AUTO, 1)]).withPrt (fun p => { p with wait := some 65535 })), 0, _, _, by decide +kernel, rfl, by decide +kernel,
      by decide +kernel⟩,
    ⟨wCS ((wC []).withPrt (fun p => { p with jrnRun := true })), 0, by decide +kernel, by decide +kernel⟩,
    ⟨wCS (wC [(R.PRT_STATE_SEQ, 1)]), 0, by decide +kernel, by decide +kernel, by decide +kernel, by decide +kernel⟩,
    ⟨0, by decide +kernel⟩,
    ⟨wCS ((wC [(R.PRT_STATE_SEQ, 1)]).withPrt (fun p => { p with bycUp := true })), 0, by decide +kernel, by decide +kernel, by decide +kernel,
      by decide +kernel⟩,
    ⟨wCS ((wC [(R.PRT_STATE_SEQ, 1)]).withPrt (fun p => { p with bycUp := true })), 0, _, _, by decide +kernel, rfl, by decide +kernel,
      by decide +kernel, by decide +kernel⟩,
    ⟨wCS (wC [(R.PRT_STATE_SEQ, 2)]), 0, by decide +kernel, by decide +kernel⟩,
    ⟨wCS (wC [(R.PRT_STATE_SEQ, 3)]), 0, true, by decide +kernel, by decide +kernel, by decide +kernel⟩,
    ⟨wCS (wC [(R.GTE_STATE_RETIRE_LATCH, 1), (R.PRT_STATE_SEQ, 2)]), 0, by decide +kernel, by decide +kernel, by decide +kernel⟩,
    ⟨wCS (wC [(R.GTE_STATE_RETIRE_LATCH, 0)]), 0, by decide +kernel, by decide +kernel⟩,
    ⟨wCS (wC [(R.PRT_CTL_LOCK, 0)]), 0, 0, 256, _, _, by decide +kernel, rfl, by decide +kernel, by decide +kernel⟩,
    ⟨wCS (wC [(R.PRT_CTL_LOCK, 0)]), 0, 0, 0, _, _, by decide +kernel, rfl, by decide +kernel, by decide +kernel⟩,
    ⟨wCS (wC [(R.PRT_CTL_LOCK, 0)]), 0, 65535, by decide +kernel, by decide +kernel, by decide +kernel⟩,
    ⟨wCS (wC [(R.GTE_CTL_TYPE, 1)]), 0, 1, by decide +kernel, by decide +kernel, by decide +kernel, by decide +kernel, by decide +kernel⟩,
    ⟨wCS ((wC []).withPrt (fun p => { p with test := some (1, 1024) })), 0, _, _, _, _, by decide +kernel, rfl, rfl, by decide +kernel⟩⟩

/-- States and operands that meet the hypotheses of `Obligations.LoopEngineCommandsComplete`, clause by clause. -/
theorem wit_LoopEngineCommandsComplete :
    (∃ (s : State) (g : _) (r : _) (c : _), (Instr.lpeRunCommit g).wf = true ∧ s.u.deaf (.lpeRunCommit g) = false ∧ s.u.lpe.runs.find? g = some r ∧
      s.u.waits g r = false ∧ r.tie = false ∧ c = s.u.computeSome g r.left.length r ∧ (s.time.due = false ∨ s.time.us % groupUs g ≠ 0)) ∧
    (∃ (tie : _), tie = true) ∧
    (∃ (s : State) (g : _) (r : _) (c : _), (Instr.lpeRunCommit g).wf = true ∧ s.u.deaf (.lpeRunCommit g) = false ∧ s.u.lpe.runs.find? g = some r ∧
      s.u.waits g r = false ∧ r.tie = false ∧ c = s.u.computeSome g r.left.length r ∧ s.time.due = true ∧ s.time.us % groupUs g = 0) ∧
    (∃ (s : State) (g : _) (r : _), (Instr.lpeRunCommit g).wf = true ∧ s.u.deaf (.lpeRunCommit g) = false ∧ s.u.lpe.runs.find? g = some r ∧ (s.u.waits
      g r = true ∨ r.tie = true)) ∧
    (∃ (s : State) (g : _), (Instr.lpeRunCommit g).wf = true ∧ s.u.deaf (.lpeRunCommit g) = false ∧ s.u.lpe.runs.find? g = none) ∧
    (∃ (s : State) (e : _) (v : _), (Instr.boardCoreStore e v).wf = true ∧ s.u.deaf (.boardCoreStore e v) = false ∧ enc 32 (s.u.board e) = v) ∧
    (∃ (s : State) (e : _) (v : _), (Instr.boardCoreStore e v).wf = true ∧ s.u.deaf (.boardCoreStore e v) = false ∧ enc 32 (s.u.board e) ≠ v ∧ 256 ≤ e
      ∧ s.u.slotWrites e = false) ∧
    (∃ (s : State) (e : _) (v : _), (Instr.boardCoreStore e v).wf = true ∧ s.u.deaf (.boardCoreStore e v) = false ∧ enc 32 (s.u.board e) ≠ v ∧ (e <
      256 ∨ s.u.slotWrites e = true)) ∧
    (∃ (s : State) (sl : _) (v : _), (Instr.slotCtlWrite sl 1 v).wf = true ∧ s.u.deaf (.slotCtlWrite sl 1 v) = false ∧ s.u.on (R.SLOT_CTL_EN sl) =
      false) ∧
    (∃ (s : State) (sl : _) (v : _), (Instr.slotCtlWrite sl 0 v).wf = true ∧ s.u.deaf (.slotCtlWrite sl 0 v) = false ∧ s.u.on (R.SLOT_CTL_EN sl) =
      false ∧ bitAt v 6 = false) ∧
    (∃ (s : State) (sl : _) (v : _), (Instr.slotCtlWrite sl 0 v).wf = true ∧ s.u.deaf (.slotCtlWrite sl 0 v) = false ∧ s.u.on (R.SLOT_CTL_EN sl) =
      true ∧ s.u.changes (slotCfgFlds sl) v = true) ∧
    (∃ (s : State) (sl : _), (Instr.slotEnable sl).wf = true ∧ s.u.deaf (.slotEnable sl) = false ∧ s.u.on (R.SLOT_CTL_EN sl) = false ∧ s.u.slotOk sl =
      true) ∧
    (∃ (s : State) (sl : _), (Instr.slotEnable sl).wf = true ∧ s.u.deaf (.slotEnable sl) = false ∧ s.u.on (R.SLOT_CTL_EN sl) = false ∧ s.u.slotOk sl =
      false) ∧
    (∃ (s : State) (sl : _) (n : _) (v : _), (Instr.slotStateStore sl n v).wf = true ∧ s.u.deaf (.slotStateStore sl n v) = false ∧ s.u.serving sl =
      false ∧ s.u.rd (R.SLOT_STATE_STATE sl n) ≠ v) ∧
    (∃ (s : State) (sl : _) (n : _) (v : _), (Instr.slotStateStore sl n v).wf = true ∧ s.u.deaf (.slotStateStore sl n v) = false ∧ s.u.serving sl =
      true ∧ s.u.rd (R.SLOT_STATE_STATE sl n) ≠ v) ∧
    (∃ (s : State) (sl : _) (n : _) (v : _), (Instr.slotStateStore sl n v).wf = true ∧ s.u.deaf (.slotStateStore sl n v) = false ∧ s.u.rd
      (R.SLOT_STATE_STATE sl n) = v) ∧
    (∃ (s : State) (sl : _) (n : _) (v : _), (Instr.slotCoefStore sl n v).wf = true ∧ s.u.deaf (.slotCoefStore sl n v) = false) ∧
    (∃ (s : State) (entry : _) (n : _), (Instr.lpeMemError entry n true).wf = true ∧ s.u.deaf (.lpeMemError entry n true) = false) ∧
    (∃ (s : State) (n : _), (Instr.lpeMemError true n false).wf = true ∧ s.u.deaf (.lpeMemError true n false) = false) ∧
    (∃ (s : State) (n : _), (Instr.lpeMemError false n false).wf = true ∧ s.u.deaf (.lpeMemError false n false) = false) ∧
    (∃ (s : State) (en : _), s.u.deaf (.lpeEnWrite en) = false ∧ (en = true ∨ s.u.on R.DEP_CTL_CONV_EN = false)) ∧
    (∃ (s : State), s.u.deaf (.lpeEnWrite false) = false ∧ s.u.on R.DEP_CTL_CONV_EN = true) :=
  ⟨⟨wS ((wU []).withLpe (fun l => { l with runs := [(0, ⟨0, 0, false, [], [], [], [], []⟩)] })), 0, _, _, by decide +kernel, by decide +kernel, rfl,
      by decide +kernel, by decide +kernel, rfl, by decide +kernel⟩,
    ⟨true, by decide +kernel⟩,
    ⟨{ wS ((wU []).withLpe (fun l => { l with runs := [(0, ⟨0, 0, false, [], [], [], [], []⟩)] })) with time := { TimeBase.start 0 with ns := 1000 } },
      0, _, _, by decide +kernel, by decide +kernel, rfl, by decide +kernel, by decide +kernel, rfl, by decide +kernel, by decide +kernel⟩,
    ⟨wS ((wU []).withLpe (fun l => { l with runs := [(0, ⟨0, 0, true, [], [], [], [], []⟩)] })), 0, _, by decide +kernel, by decide +kernel, rfl,
      by decide +kernel⟩,
    ⟨wS (wU []), 0, by decide +kernel, by decide +kernel, by decide +kernel⟩,
    ⟨wS (wU []), 255, 0, by decide +kernel, by decide +kernel, by decide +kernel⟩,
    ⟨wS (wU []), 256, 1, by decide +kernel, by decide +kernel, by decide +kernel, by decide +kernel, by decide +kernel⟩,
    ⟨wS (wU []), 255, 1, by decide +kernel, by decide +kernel, by decide +kernel, by decide +kernel⟩,
    ⟨wS (wU [((R.SLOT_CTL_EN 0), 0)]), 0, 0, by decide +kernel, by decide +kernel, by decide +kernel⟩,
    ⟨wS (wU [((R.SLOT_CTL_EN 0), 0)]), 0, 0, by decide +kernel, by decide +kernel, by decide +kernel, by decide +kernel⟩,
    ⟨wS (wU [((R.SLOT_CTL_EN 0), 1)]), 0, 1, by decide +kernel, by decide +kernel, by decide +kernel, by decide +kernel⟩,
    ⟨wS (wU [((R.SLOT_CTL_EN 0), 0), ((R.SLOT_CTL_TYPE 0), 1)]), 0, by decide +kernel, by decide +kernel, by decide +kernel, by decide +kernel⟩,
    ⟨wS (wU [((R.SLOT_CTL_EN 0), 0)]), 0, by decide +kernel, by decide +kernel, by decide +kernel, by decide +kernel⟩,
    ⟨wS (wU []), 0, 7, 1, by decide +kernel, by decide +kernel, by decide +kernel, by decide +kernel⟩,
    ⟨wS (wU [((R.SLOT_CTL_EN 0), 1)]), 0, 7, 1, by decide +kernel, by decide +kernel, by decide +kernel, by decide +kernel⟩,
    ⟨wS (wU []), 0, 0, 0, by decide +kernel, by decide +kernel, by decide +kernel⟩,
    ⟨wS (wU []), 0, 0, 0, by decide +kernel, by decide +kernel⟩,
    ⟨wS (wU []), false, 0, by decide +kernel, by decide +kernel⟩,
    ⟨wS (wU []), 0, by decide +kernel, by decide +kernel⟩,
    ⟨wS (wU []), 0, by decide +kernel, by decide +kernel⟩,
    ⟨wS (wU []), false, by decide +kernel, by decide +kernel⟩,
    ⟨wS (wU [(R.DEP_CTL_CONV_EN, 1)]), by decide +kernel, by decide +kernel⟩⟩

/-- States and operands that meet the hypotheses of `Obligations.SensorPortCommandsComplete`, clause by clause. -/
theorem wit_SensorPortCommandsComplete :
    (∃ (s : State) (input : _) (w : _) (p : _) (v : _), (Instr.sensorWord input w).wf = true ∧ s.u.deaf (.sensorWord input w) = false ∧ (s.u.injected
      8 input).1 = false ∧ p = s.u.portOf input ∧ s.u.rd (R.SNS_PSTAT_STATE p) ≠ 0 ∧ s.u.rd (R.SNS_PSTAT_STATE p) ≠ 4 ∧ bits w 0 8 = sensorCrc w ∧
      bits w 60 4 = 10 ∧ bits w 56 4 = s.u.rd (R.SNS_PCFG_TYPE p) ∧ bitAt w 15 = false ∧ (s.u.rd (R.SNS_PSTAT_STATE p) = 1 ∨ (bits w 48 8 : Int) =
      ((s.u.port p).sRef + rdiv ((s.time.ref : Int) - (s.u.port p).tRef) (80 * s.u.rd (R.SNS_PERIOD_NOM_PERIOD p))) % 256) ∧ v = (s.u.wr
      (R.SNS_PSTAT_SSTAT p) (bits w 8 7)).setPort p (fun h => { h with sRef := bits w 48 8, tRef := s.time.ref })) ∧
    (∃ (s : State) (input : _) (w : _) (p : _), (Instr.sensorWord input w).wf = true ∧ s.u.deaf (.sensorWord input w) = false ∧ (s.u.injected 8
      input).1 = false ∧ p = s.u.portOf input ∧ s.u.rd (R.SNS_PSTAT_STATE p) ≠ 0 ∧ (bits w 0 8 ≠ sensorCrc w ∨ bits w 60 4 ≠ 10 ∨ bits w 56 4 ≠ s.u.rd
      (R.SNS_PCFG_TYPE p))) ∧
    (∃ (s : State) (p : _), (Instr.sensorTimeout p).wf = true ∧ s.u.deaf (.sensorTimeout p) = false ∧ (s.u.rd (R.SNS_PSTAT_STATE p) = 1 ∨ s.u.rd
      (R.SNS_PSTAT_STATE p) = 2) ∧ s.u.portUsed p = true) ∧
    (∃ (s : State) (p : _), (Instr.sensorTimeout p).wf = true ∧ s.u.deaf (.sensorTimeout p) = false ∧ s.u.rd (R.SNS_PSTAT_STATE p) ≠ 1 ∧ s.u.rd
      (R.SNS_PSTAT_STATE p) ≠ 2) ∧
    (∃ (s : State) (p : _), (Instr.snsErrWindowClose p).wf = true ∧ s.u.deaf (.snsErrWindowClose p) = false ∧ (s.u.port p).win.isSome = true) ∧
    (∃ (s : State) (p : _), (Instr.snsPortEnWrite p true).wf = true ∧ s.u.deaf (.snsPortEnWrite p true) = false ∧ s.u.on (R.SNS_PCFG_EN p) = false) ∧
    (∃ (s : State) (p : _), (Instr.snsPortEnWrite p false).wf = true ∧ s.u.deaf (.snsPortEnWrite p false) = false ∧ s.u.on (R.SNS_PCFG_EN p) = true ∧
      (s.u.bound p = false ∨ s.u.on R.DEP_CTL_CONV_EN = false)) ∧
    (∃ (s : State) (p : _), (Instr.snsPortEnWrite p false).wf = true ∧ s.u.deaf (.snsPortEnWrite p false) = false ∧ s.u.on (R.SNS_PCFG_EN p) = true ∧
      s.u.bound p = true ∧ s.u.on R.DEP_CTL_CONV_EN = true) ∧
    (∃ (s : State) (p : _), (Instr.snsRestore p).wf = true ∧ s.u.deaf (.snsRestore p) = false ∧ s.u.rd (R.SNS_PSTAT_STATE p) = 4) ∧
    (∃ (s : State) (p : _), (Instr.snsRestore p).wf = true ∧ s.u.deaf (.snsRestore p) = false ∧ s.u.rd (R.SNS_PSTAT_STATE p) ≠ 4) ∧
    (∃ (s : State) (p : _) (v : _), (Instr.snsOfsCommit p v).wf = true ∧ s.u.deaf (.snsOfsCommit p v) = false) ∧
    (∃ (s : State) (p : _) (k : _) (v : _), (Instr.snsThrCfgWrite p k v).wf = true ∧ s.u.deaf (.snsThrCfgWrite p k v) = false ∧ (s.u.on
      R.DEP_CTL_CONV_EN = false ∨ ((s.u.on (R.SNS_THR_CFG_SB_EN p k) = true → bitAt v 25 = true) ∧ (s.u.on (R.SNS_THR_CFG_AV_EN p k) = true → bitAt v
      26 = true))) ∧ s.u.rd (R.SNS_PSTAT_STATE p) ≠ 0 ∧ s.u.rd (R.SNS_PSTAT_STATE p) ≠ 4) ∧
    (∃ (s : State) (p : _) (k : _) (v : _), (Instr.snsThrCfgWrite p k v).wf = true ∧ s.u.deaf (.snsThrCfgWrite p k v) = false ∧ s.u.on
      R.DEP_CTL_CONV_EN = true ∧ ((s.u.on (R.SNS_THR_CFG_SB_EN p k) = true ∧ bitAt v 25 = false) ∨ (s.u.on (R.SNS_THR_CFG_AV_EN p k) = true ∧ bitAt v
      26 = false))) :=
  ⟨⟨wS (wU [((R.SNS_PSTAT_STATE 0), 1)]), 0, 0xA000000000000000 + sensorCrc 0xA000000000000000, _, _, by decide +kernel, by decide +kernel,
      by decide +kernel, rfl, by decide +kernel, by decide +kernel, by decide +kernel, by decide +kernel, by decide +kernel, by decide +kernel,
      by decide +kernel, rfl⟩,
    ⟨wS (wU [((R.SNS_PSTAT_STATE 0), 1)]), 0, 0, _, by decide +kernel, by decide +kernel, by decide +kernel, rfl, by decide +kernel,
      by decide +kernel⟩,
    ⟨wS (wU [((R.SNS_PSTAT_STATE 0), 2)]), 0, by decide +kernel, by decide +kernel, by decide +kernel, by decide +kernel⟩,
    ⟨wS (wU []), 0, by decide +kernel, by decide +kernel, by decide +kernel, by decide +kernel⟩,
    ⟨wS ((wU []).setPort 0 (fun h => { h with win := some 1 })), 0, by decide +kernel, by decide +kernel, by decide +kernel⟩,
    ⟨wS (wU [((R.SNS_PCFG_EN 0), 0)]), 0, by decide +kernel, by decide +kernel, by decide +kernel⟩,
    ⟨wS (wU [((R.SNS_PCFG_EN 0), 1)]), 0, by decide +kernel, by decide +kernel, by decide +kernel, by decide +kernel⟩,
    ⟨wS (wT (wU [((R.SNS_PCFG_EN 0), 1), (R.DEP_CTL_CONV_EN, 1), ((R.FRN_SRC_PORT 0), 0)])), 0, by decide +kernel, by decide +kernel,
      by decide +kernel, by decide +kernel, by decide +kernel⟩,
    ⟨wS (wU [((R.SNS_PSTAT_STATE 0), 4)]), 0, by decide +kernel, by decide +kernel, by decide +kernel⟩,
    ⟨wS (wU []), 0, by decide +kernel, by decide +kernel, by decide +kernel⟩,
    ⟨wS (wU []), 0, 0, by decide +kernel, by decide +kernel⟩,
    ⟨wS (wU [((R.SNS_PSTAT_STATE 0), 1)]), 0, 0, 0, by decide +kernel, by decide +kernel, by decide +kernel, by decide +kernel, by decide +kernel⟩,
    ⟨wS (wU [(R.DEP_CTL_CONV_EN, 1), ((R.SNS_THR_CFG_SB_EN 0 0), 1)]), 0, 0, 0, by decide +kernel, by decide +kernel, by decide +kernel,
      by decide +kernel⟩⟩

/-- States and operands that meet the hypotheses of `Obligations.SequenceMonitorCommandsComplete`, clause by clause. -/
theorem wit_SequenceMonitorCommandsComplete :
    (∃ (s : State) (m : _) (input : _) (e : _), (Instr.seqRisingEdge m input).wf = true ∧ s.u.deaf (.seqRisingEdge m input) = false ∧ s.u.on
      (R.SNS_SEQ_CFG_EN m) = true ∧ (s.u.mon m).last.find? input = some e ∧ s.time.t16 < e + s.u.rd (R.SNS_SEQ_CFG_DEGLITCH m) * 16000) ∧
    (∃ (s : State) (m : _) (input : _) (v : _), (Instr.seqRisingEdge m input).wf = true ∧ s.u.deaf (.seqRisingEdge m input) = false ∧ s.u.on
      (R.SNS_SEQ_CFG_EN m) = true ∧ (∀ e, (s.u.mon m).last.find? input = some e → e + s.u.rd (R.SNS_SEQ_CFG_DEGLITCH m) * 16000 ≤ s.time.t16) ∧ v =
      (s.u.setMon m (fun h => { h with last := h.last.set input s.time.t16, edges := h.edges + 1 })).wr (R.SNS_SEQ_STAT_IN_OK m) (setBit (s.u.rd
      (R.SNS_SEQ_STAT_IN_OK m)) input) ∧ input = 0) ∧
    (∃ (s : State) (m : _) (input : _) (v : _), (Instr.seqRisingEdge m input).wf = true ∧ s.u.deaf (.seqRisingEdge m input) = false ∧ s.u.on
      (R.SNS_SEQ_CFG_EN m) = true ∧ (∀ e, (s.u.mon m).last.find? input = some e → e + s.u.rd (R.SNS_SEQ_CFG_DEGLITCH m) * 16000 ≤ s.time.t16) ∧ v =
      (s.u.setMon m (fun h => { h with last := h.last.set input s.time.t16, edges := h.edges + 1 })).wr (R.SNS_SEQ_STAT_IN_OK m) (setBit (s.u.rd
      (R.SNS_SEQ_STAT_IN_OK m)) input) ∧ input ≠ 0 ∧ (v.mon m).await = true) ∧
    (∃ (s : State) (m : _) (input : _) (v : _), (Instr.seqRisingEdge m input).wf = true ∧ s.u.deaf (.seqRisingEdge m input) = false ∧ s.u.on
      (R.SNS_SEQ_CFG_EN m) = true ∧ (∀ e, (s.u.mon m).last.find? input = some e → e + s.u.rd (R.SNS_SEQ_CFG_DEGLITCH m) * 16000 ≤ s.time.t16) ∧ v =
      (s.u.setMon m (fun h => { h with last := h.last.set input s.time.t16, edges := h.edges + 1 })).wr (R.SNS_SEQ_STAT_IN_OK m) (setBit (s.u.rd
      (R.SNS_SEQ_STAT_IN_OK m)) input) ∧ input ≠ 0 ∧ (v.mon m).await = false) ∧
    (∃ (s : State) (m : _) (f : _) (v : _), (Instr.freqWindowEnd m).wf = true ∧ s.u.deaf (.freqWindowEnd m) = false ∧ s.u.on (R.SNS_SEQ_CFG_EN m) =
      true ∧ f = (satU 16 (rdiv ((s.u.mon m).edges * 100000 : Nat) (3 * s.u.rd (R.SNS_SEQ_CFG_FWIN m)))).toNat ∧ (v = fun b => ((s.u.wr
      (R.SNS_SEQ_STAT_EDGES m) (min 65535 (s.u.mon m).edges)).wr (R.SNS_SEQ_FREQ_FREQ m) f).setMon m (fun h => { h with edges := 0, bad := b })) ∧
      s.u.rd (R.SNS_SEQ_LIM_FMIN m) ≤ f ∧ f ≤ s.u.rd (R.SNS_SEQ_LIM_FMAX m)) ∧
    (∃ (s : State) (m : _) (f : _) (v : _), (Instr.freqWindowEnd m).wf = true ∧ s.u.deaf (.freqWindowEnd m) = false ∧ s.u.on (R.SNS_SEQ_CFG_EN m) =
      true ∧ f = (satU 16 (rdiv ((s.u.mon m).edges * 100000 : Nat) (3 * s.u.rd (R.SNS_SEQ_CFG_FWIN m)))).toNat ∧ (v = fun b => ((s.u.wr
      (R.SNS_SEQ_STAT_EDGES m) (min 65535 (s.u.mon m).edges)).wr (R.SNS_SEQ_FREQ_FREQ m) f).setMon m (fun h => { h with edges := 0, bad := b })) ∧ (f
      < s.u.rd (R.SNS_SEQ_LIM_FMIN m) ∨ s.u.rd (R.SNS_SEQ_LIM_FMAX m) < f) ∧ (s.u.mon m).bad = true) ∧
    (∃ (s : State) (m : _) (f : _) (v : _), (Instr.freqWindowEnd m).wf = true ∧ s.u.deaf (.freqWindowEnd m) = false ∧ s.u.on (R.SNS_SEQ_CFG_EN m) =
      true ∧ f = (satU 16 (rdiv ((s.u.mon m).edges * 100000 : Nat) (3 * s.u.rd (R.SNS_SEQ_CFG_FWIN m)))).toNat ∧ (v = fun b => ((s.u.wr
      (R.SNS_SEQ_STAT_EDGES m) (min 65535 (s.u.mon m).edges)).wr (R.SNS_SEQ_FREQ_FREQ m) f).setMon m (fun h => { h with edges := 0, bad := b })) ∧ (f
      < s.u.rd (R.SNS_SEQ_LIM_FMIN m) ∨ s.u.rd (R.SNS_SEQ_LIM_FMAX m) < f) ∧ (s.u.mon m).bad = false) ∧
    (∃ (s : State) (m : _) (input : _), (Instr.seqInputLost m input).wf = true ∧ s.u.deaf (.seqInputLost m input) = false ∧ s.u.on (R.SNS_SEQ_CFG_EN
      m) = true) ∧
    (∃ (s : State) (m : _) (input : _), (Instr.seqInputLost m input).wf = true ∧ s.u.deaf (.seqInputLost m input) = false ∧ s.u.on (R.SNS_SEQ_CFG_EN
      m) = false) :=
  ⟨⟨wS ((wU [((R.SNS_SEQ_CFG_EN 0), 1), ((R.SNS_SEQ_CFG_DEGLITCH 0), 1)]).setMon 0 (fun h => { h with last := [(0, 0)] })), 0, 0, _,
      by decide +kernel, by decide +kernel, by decide +kernel, rfl, by decide +kernel⟩,
    ⟨wS ((wU [((R.SNS_SEQ_CFG_EN 0), 1)]).setMon 0 (fun h => { h with last := [] })), 0, 0, _, by decide +kernel, by decide +kernel,
      by decide +kernel, (fun e h => by cases h), rfl, by decide +kernel⟩,
    ⟨wS ((wU [((R.SNS_SEQ_CFG_EN 0), 1)]).setMon 0 (fun h => { h with await := true })), 0, 1, _, by decide +kernel, by decide +kernel,
      by decide +kernel, (fun e h => by cases h), rfl, by decide +kernel, by decide +kernel⟩,
    ⟨wS (wU [((R.SNS_SEQ_CFG_EN 0), 1)]), 0, 1, _, by decide +kernel, by decide +kernel, by decide +kernel, (fun e h => by cases h), rfl,
      by decide +kernel, by decide +kernel⟩,
    ⟨wS (wU [((R.SNS_SEQ_CFG_EN 0), 1), ((R.SNS_SEQ_LIM_FMIN 0), 0)]), 0, _, _, by decide +kernel, by decide +kernel, by decide +kernel, rfl, rfl,
      by decide +kernel, by decide +kernel⟩,
    ⟨wS ((wU [((R.SNS_SEQ_CFG_EN 0), 1), ((R.SNS_SEQ_LIM_FMIN 0), 1)]).setMon 0 (fun h => { h with bad := true })), 0, _, _, by decide +kernel,
      by decide +kernel, by decide +kernel, rfl, rfl, by decide +kernel, by decide +kernel⟩,
    ⟨wS (wU [((R.SNS_SEQ_CFG_EN 0), 1), ((R.SNS_SEQ_LIM_FMIN 0), 1)]), 0, _, _, by decide +kernel, by decide +kernel, by decide +kernel, rfl, rfl,
      by decide +kernel, by decide +kernel⟩,
    ⟨wS (wU [((R.SNS_SEQ_CFG_EN 0), 1)]), 0, 0, by decide +kernel, by decide +kernel, by decide +kernel⟩,
    ⟨wS (wU [((R.SNS_SEQ_CFG_EN 0), 0)]), 0, 0, by decide +kernel, by decide +kernel, by decide +kernel⟩⟩

/-- States and operands that meet the hypotheses of `Obligations.ProcessBusCommandsComplete`, clause by clause. -/
theorem wit_ProcessBusCommandsComplete :
    (∃ (s : State) (f : _), (Instr.pbxFrameRx f).wf = true ∧ s.u.deaf (.pbxFrameRx f) = false ∧ f.port < 2 ∧ s.u.on R.PBX_CTL_PRP_EN = false ∧
      (ownAddress 0 (Eth.mac f.octets 0) = true ∨ Eth.toGroup f.octets = true) ∧ Eth.etherType f.octets ≠ 0x88F7 ∧ f.payload = .other) ∧
    (∃ (s : State) (f : _), (Instr.pbxFrameRx f).wf = true ∧ s.u.deaf (.pbxFrameRx f) = false ∧ f.port < 2 ∧ s.u.on R.PBX_CTL_PRP_EN = false ∧
      ownAddress 0 (Eth.mac f.octets 0) = false ∧ Eth.toGroup f.octets = false) ∧
    (∃ (s : State) (f : _) (q : _), (Instr.pbxFrameRx f).wf = true ∧ s.u.deaf (.pbxFrameRx f) = false ∧ f.port < 2 ∧ s.u.on R.PBX_CTL_PRP_EN = true ∧
      (ownAddress 0 (Eth.mac f.octets 0) = true ∨ Eth.toGroup f.octets = true) ∧ Eth.rct f.octets = some (10 + f.port, q) ∧ (∃ e ∈ s.u.pbx.dup.get 0
      [], e.1 = Eth.mac f.octets 6 ∧ e.2.1 = q ∧ s.time.tns < e.2.2 + s.u.rd R.PBX_DD_DD_AGE * 1000000)) ∧
    (∃ (s : State) (f : _) (asdus : _) (r : _), (Instr.pbxFrameRx f).wf = true ∧ s.u.deaf (.pbxFrameRx f) = false ∧ f.port < 2 ∧ s.u.on
      R.PBX_CTL_PRP_EN = false ∧ Eth.toGroup f.octets = true ∧ Eth.etherType f.octets = 0x88BA ∧ f.payload = .sv asdus ∧ r = s.u.svFrame s.time f.port
      f.raw f.octets asdus ∧ r.1 = true) ∧
    (∃ (s : State) (f : _) (ref : _) (conf : _) (nds : _) (test : _) (st : _) (sq : _) (ttl : _) (ms : List Member) (r : _) (v : _), (Instr.pbxFrameRx
      f).wf = true ∧ s.u.deaf (.pbxFrameRx f) = false ∧ f.port < 2 ∧ s.u.on R.PBX_CTL_PRP_EN = false ∧ Eth.toGroup f.octets = true ∧ Eth.etherType
      f.octets = 0x88B8 ∧ f.payload = .goose ref conf nds test st sq ttl ms ∧ r = s.u.gooseFrame s.time f.port f.octets ref conf nds test st sq ttl ms
      ∧ (v = fun n => r.2.ringPut s.time f.port (r.2.ingress f.port f.raw) n f.octets) ∧ r.1.1 = false) ∧
    (∃ (s : State) (f : _) (ref : _) (conf : _) (nds : _) (test : _) (st : _) (sq : _) (ttl : _) (ms : List Member) (r : _) (v : _), (Instr.pbxFrameRx
      f).wf = true ∧ s.u.deaf (.pbxFrameRx f) = false ∧ f.port < 2 ∧ s.u.on R.PBX_CTL_PRP_EN = false ∧ Eth.toGroup f.octets = true ∧ Eth.etherType
      f.octets = 0x88B8 ∧ f.payload = .goose ref conf nds test st sq ttl ms ∧ r = s.u.gooseFrame s.time f.port f.octets ref conf nds test st sq ttl ms
      ∧ (v = fun n => r.2.ringPut s.time f.port (r.2.ingress f.port f.raw) n f.octets) ∧ r.1.1 = true ∧ r.1.2 = true) ∧
    (∃ (s : State) (f : _) (ref : _) (conf : _) (nds : _) (test : _) (st : _) (sq : _) (ttl : _) (ms : List Member) (r : _) (v : _), (Instr.pbxFrameRx
      f).wf = true ∧ s.u.deaf (.pbxFrameRx f) = false ∧ f.port < 2 ∧ s.u.on R.PBX_CTL_PRP_EN = false ∧ Eth.toGroup f.octets = true ∧ Eth.etherType
      f.octets = 0x88B8 ∧ f.payload = .goose ref conf nds test st sq ttl ms ∧ r = s.u.gooseFrame s.time f.port f.octets ref conf nds test st sq ttl ms
      ∧ (v = fun n => r.2.ringPut s.time f.port (r.2.ingress f.port f.raw) n f.octets) ∧ r.1.1 = true ∧ r.1.2 = false) ∧
    (∃ (u : U) (c : _) (st : _) (ms : List Member) (b : _), 0 < dnDiff st (u.rd (R.GO_STNUM_STNUM c)) ∧ ms.getD (u.rd (R.GO_CFG_TRIP_IDX c)) .other =
      .boolean b ∧ u.on (R.GO_CFG_ANA_EN c) = false) ∧
    (∃ (s : State) (j : _) (e : _), (Instr.svAlignedWrite j).wf = true ∧ s.u.deaf (.svAlignedWrite j) = false ∧ s.u.pbx.align.find? (fun e => e.2.1 ==
      j) = some e) ∧
    (∃ (s : State) (k : _), (Instr.svTimeout k).wf = true ∧ s.u.deaf (.svTimeout k) = false ∧ s.u.rd (R.SV_STAT_STATE k) = 2) ∧
    (∃ (s : State) (k : _), (Instr.svTimeout k).wf = true ∧ s.u.deaf (.svTimeout k) = false ∧ s.u.rd (R.SV_STAT_STATE k) ≠ 2) ∧
    (∃ (s : State) (c : _) (v : _), (Instr.gooseTimeout c).wf = true ∧ s.u.deaf (.gooseTimeout c) = false ∧ s.u.on (R.GO_CFG_EN c) = true ∧ s.u.on
      (R.GO_STAT_SEEN c) = true ∧ s.u.on (R.GO_STAT_TIMEOUT c) = false ∧ v = ((s.u.wr (R.GO_STAT_TIMEOUT c) 1).inc (R.GO_CNT_TMO_CNT c)).raise s.time
      PBX.GO_TMO (PBX.det c)) ∧
    (∃ (s : State) (q : _) (v : _), (Instr.pbxTxProdWrite q v).wf = true ∧ s.u.deaf (.pbxTxProdWrite q v) = false) ∧
    (∃ (u : U) (q : _) (size : _) (cons : _) (prod : _), size = u.rd (R.PBX_RING_SIZE_SIZE (2 * q + 1)) ∧ cons = u.rd (R.PBX_RING_CONS_CONS (2 * q +
      1)) ∧ prod = u.rd (R.PBX_RING_PROD_PROD (2 * q + 1)) ∧ (size = 0 ∨ cons % size = prod % size)) ∧
    (∃ (u : U) (q : _) (size : _) (cons : _) (prod : _) (a : _), size = u.rd (R.PBX_RING_SIZE_SIZE (2 * q + 1)) ∧ cons = u.rd (R.PBX_RING_CONS_CONS (2
      * q + 1)) ∧ prod = u.rd (R.PBX_RING_PROD_PROD (2 * q + 1)) ∧ size ≠ 0 ∧ cons % size ≠ prod % size ∧ a = u.rd (R.PBX_RING_BASE_BASE (2 * q + 1))
      * 2048 + cons % size * 2048) ∧
    (∃ (u : U) (a : _) (o : _), o = u.mem.readBytes (a + 16) (min 2032 (u.mem.read (a + 8) 2)) ∧ bitAt (u.mem.read (a + 11) 1) 0 = false) ∧
    (∃ (u : U) (a : _) (o : List Nat), o = u.mem.readBytes (a + 16) (min 2032 (u.mem.read (a + 8) 2)) ∧ bitAt (u.mem.read (a + 11) 1) 0 = true) ∧
    (∃ (u : U) (port : _), port < 2 ∧ u.on R.PBX_CTL_PRP_EN = false) ∧
    (∃ (u : U) (port : _), port < 2 ∧ u.on R.PBX_CTL_PRP_EN = true) ∧
    (∃ (s : State) (p : _) (v : _), (Instr.pbxLinkDown p).wf = true ∧ s.u.deaf (.pbxLinkDown p) = false ∧ bitAt (s.u.rd R.PBX_LINK_UP) p = true ∧ v =
      s.u.wr R.PBX_LINK_UP (clrBit (s.u.rd R.PBX_LINK_UP) p) ∧ v.on (if p < 2 then R.PBX_CTL_PRP_EN else R.PBX_CTL_HSR_EN) = true) ∧
    (∃ (s : State) (p : _) (v : _), (Instr.pbxLinkDown p).wf = true ∧ s.u.deaf (.pbxLinkDown p) = false ∧ bitAt (s.u.rd R.PBX_LINK_UP) p = true ∧ v =
      s.u.wr R.PBX_LINK_UP (clrBit (s.u.rd R.PBX_LINK_UP) p) ∧ v.on (if p < 2 then R.PBX_CTL_PRP_EN else R.PBX_CTL_HSR_EN) = false) ∧
    (∃ (s : State) (p : _), (Instr.pbxLinkUp p).wf = true ∧ s.u.deaf (.pbxLinkUp p) = false) ∧
    (∃ (s : State) (v : _), (Instr.pbxRateWrite v).wf = true ∧ s.u.deaf (.pbxRateWrite v) = false ∧ (∀ p < 4, bitAt (s.u.rd R.PBX_CTL_RATE) p = bitAt
      v p)) ∧
    (∃ (s : State), s.u.deaf (.pbxRateWrite 1) = false ∧ bitAt (s.u.rd R.PBX_CTL_RATE) 0 = false ∧ (∀ p < 4, p ≠ 0 → bitAt (s.u.rd R.PBX_CTL_RATE) p =
      false)) :=
  ⟨⟨wS (wU [(R.PBX_CTL_PRP_EN, 0)]), wEth [8, 0] .other, by decide +kernel, by decide +kernel, by decide +kernel, by decide +kernel, Or.inr
      (by decide +kernel), by decide +kernel, by decide +kernel⟩,
    let ⟨f, h1, h2, h3, h4⟩ := wStranger; ⟨State.reset, f, h1, rfl, h2, by decide +kernel, h3, h4⟩,
    ⟨wS ((wU [(R.PBX_CTL_PRP_EN, 1), (R.PBX_DD_DD_AGE, 10), (R.PBX_CTL_PRP_EN, 1)]).withPbx (fun p =>
      { p with dup := [(0, [(2 * 2 ^ 40 + 1, 7, 0)])] })), wEth [8, 0, 0, 7, 0xA0, 6, 0x88, 0xFB] .other, 7, by decide +kernel, by decide +kernel,
      by decide +kernel, by decide +kernel, Or.inr (by decide +kernel), by decide +kernel, by decide +kernel⟩,
    ⟨wS (wU [(R.PBX_CTL_PRP_EN, 0), ((R.SV_CFG_EN 0), 1)]), wEth [0x88, 0xBA, 0x40, 0] (.sv [⟨[0], 1, 0, 0, [(0, 0)]⟩]), _, _, by decide +kernel,
      by decide +kernel, by decide +kernel, by decide +kernel, by decide +kernel, by decide +kernel, rfl, rfl, by decide +kernel⟩,
    ⟨wS (wU [(R.PBX_CTL_PRP_EN, 0)]), wEth [0x88, 0xB8] (.goose [0] 1 false false 1 0 100 []), _, _, _, _, _, _, _, _, _, _, by decide +kernel,
      by decide +kernel, by decide +kernel, by decide +kernel, by decide +kernel, by decide +kernel, rfl, rfl, rfl, by decide +kernel⟩,
    ⟨wS (wU [(R.PBX_CTL_PRP_EN, 0), ((R.GO_CFG_EN 0), 1), ((R.GO_CFG_COPY 0), 1)]), wEth [0x88, 0xB8] (.goose [0] 1 false false 1 0 100 [.boolean
      true]), _, _, _, _, _, _, _, _, _, _, by decide +kernel, by decide +kernel, by decide +kernel, by decide +kernel, by decide +kernel,
      by decide +kernel, rfl, rfl, rfl, by decide +kernel, by decide +kernel⟩,
    ⟨wS (wU [(R.PBX_CTL_PRP_EN, 0), ((R.GO_CFG_EN 0), 1)]), wEth [0x88, 0xB8] (.goose [0] 1 false false 1 0 100 [.boolean true]), _, _, _, _, _, _, _,
      _, _, _, by decide +kernel, by decide +kernel, by decide +kernel, by decide +kernel, by decide +kernel, by decide +kernel, rfl, rfl, rfl,
      by decide +kernel, by decide +kernel⟩,
    ⟨(wU [((R.GO_CFG_ANA_EN 0), 0)]), 0, 1, [.boolean true], true, by decide +kernel, by decide +kernel, by decide +kernel⟩,
    ⟨wS ((wU []).withPbx (fun p => { p with align := [(1, 0, 5)] })), 0, _, by decide +kernel, by decide +kernel, rfl⟩,
    ⟨wS (wU [((R.SV_STAT_STATE 0), 2)]), 0, by decide +kernel, by decide +kernel, by decide +kernel⟩,
    ⟨wS (wU []), 0, by decide +kernel, by decide +kernel, by decide +kernel⟩,
    ⟨wS (wU [((R.GO_CFG_EN 0), 1), ((R.GO_STAT_SEEN 0), 1), ((R.GO_STAT_TIMEOUT 0), 0)]), 0, _, by decide +kernel, by decide +kernel,
      by decide +kernel, by decide +kernel, by decide +kernel, rfl⟩,
    ⟨wS (wU []), 0, 0, by decide +kernel, by decide +kernel⟩,
    ⟨(wU []), 0, _, _, _, rfl, rfl, rfl, by decide +kernel⟩,
    ⟨(wU [((R.PBX_RING_SIZE_SIZE 1), 4), ((R.PBX_RING_PROD_PROD 1), 1)]), 0, _, _, _, _, rfl, rfl, rfl, by decide +kernel, by decide +kernel, rfl⟩,
    ⟨(wU []), 0, _, rfl, by decide +kernel⟩,
    ⟨{ (wU []) with mem := [(11, 1)] }, 0, _, rfl, by decide +kernel⟩,
    ⟨(wU [(R.PBX_CTL_PRP_EN, 0)]), 0, by decide +kernel, by decide +kernel⟩,
    ⟨(wU [(R.PBX_CTL_PRP_EN, 1)]), 0, by decide +kernel, by decide +kernel⟩,
    ⟨wS (wU [(R.PBX_LINK_UP, 1), (R.PBX_CTL_PRP_EN, 1)]), 0, _, by decide +kernel, by decide +kernel, by decide +kernel, rfl, by decide +kernel⟩,
    ⟨wS (wU [(R.PBX_LINK_UP, 4)]), 2, _, by decide +kernel, by decide +kernel, by decide +kernel, rfl, by decide +kernel⟩,
    ⟨wS (wU []), 0, by decide +kernel, by decide +kernel⟩,
    ⟨wS (wU []), 0, by decide +kernel, by decide +kernel, by decide +kernel⟩,
    ⟨wS (wU []), by decide +kernel, by decide +kernel, by decide +kernel⟩⟩

/-- States and operands that meet the hypotheses of `Obligations.LaneCommandsComplete`, clause by clause. -/
theorem wit_LaneCommandsComplete :
    (∃ (s : State) (l : _) (io : LaneIO) (b : _), s.laneRuns l ∧ l.wf = true ∧ io = s.laneIO l ∧ b = (s.laneKind l).base ∧ io.st b = 0) ∧
    (∃ (s : State) (l : _) (io : LaneIO) (b : _), s.laneRuns l ∧ l.wf = true ∧ io = s.laneIO l ∧ b = (s.laneKind l).base ∧ io.st b ≠ 0) ∧
    (∃ (s : State) (l : _) (io : LaneIO) (b : _), s.laneRuns l ∧ l.wf = true ∧ io = s.laneIO l ∧ b = (s.laneKind l).base ∧ io.st b ≠ 0) ∧
    (∃ (s : State) (l : _) (io : LaneIO) (b : _), s.laneRuns l ∧ l.wf = true ∧ io = s.laneIO l ∧ b = (s.laneKind l).base ∧ io.st b ≠ 0) ∧
    (∃ (s : State) (l : _) (io : LaneIO) (b : _), s.laneRuns l ∧ l.wf = true ∧ io = s.laneIO l ∧ b = (s.laneKind l).base ∧ io.st b = 1) ∧
    (∃ (s : State) (l : _) (io : LaneIO) (b : _), s.laneRuns l ∧ l.wf = true ∧ io = s.laneIO l ∧ b = (s.laneKind l).base ∧ io.st b ≠ 1) ∧
    (∃ (s : State) (l : _) (io : LaneIO) (b : _), s.laneRuns l ∧ l.wf = true ∧ io = s.laneIO l ∧ b = (s.laneKind l).base ∧ io.st b ≠ 2 ∧ io.st b ≠ 7) ∧
    (∃ (s : State) (l : _) (io : LaneIO) (b : _), s.laneRuns l ∧ l.wf = true ∧ io = s.laneIO l ∧ b = (s.laneKind l).base ∧ 1 ≤ io.st b ∧ io.st b ≤ 6 ∧
      (io.hid b).everUp = true) ∧
    (∃ (s : State) (l : _) (io : LaneIO) (b : _), s.laneRuns l ∧ l.wf = true ∧ io = s.laneIO l ∧ b = (s.laneKind l).base ∧ io.st b = 5 ∧ ((s.laneKind
      l).link.length ≤ 1 ∨ (io.hid b).skew = none)) ∧
    (∃ (s : State) (l : _) (io : LaneIO) (b : _), s.laneRuns l ∧ l.wf = true ∧ io = s.laneIO l ∧ b = (s.laneKind l).base ∧ io.st b ≠ 5) ∧
    (∃ (s : State) (l : _) (io : LaneIO) (b : _), s.laneRuns l ∧ l.wf = true ∧ io = s.laneIO l ∧ b = (s.laneKind l).base ∧ io.testing b = true) ∧
    (∃ (s : State) (l : _) (io : LaneIO) (b : _), s.laneRuns l ∧ l.wf = true ∧ io = s.laneIO l ∧ b = (s.laneKind l).base ∧ io.testing b = false ∧
      io.st b = 8) ∧
    (∃ (s : State) (l : _) (io : LaneIO) (b : _), s.laneRuns l ∧ l.wf = true ∧ io = s.laneIO l ∧ b = (s.laneKind l).base ∧ io.testing b = false ∧
      io.st b ≠ 8) ∧
    (∃ (s : State) (l : _) (io : LaneIO) (b : _), s.laneRuns l ∧ l.wf = true ∧ io = s.laneIO l ∧ b = (s.laneKind l).base ∧ (io.st b = 0 ∨ io.st b =
      8)) ∧
    (∃ (s : State) (l : _) (io : LaneIO) (b : _), s.laneRuns l ∧ l.wf = true ∧ io = s.laneIO l ∧ b = (s.laneKind l).base ∧ io.st b = 2 ∧ (io.hid
      b).locked = true ∧ io.on (R.LNS_EQ_FREEZE b) = true ∧ io.rd (R.LNS_CTL_LOOP b) ≠ 3) ∧
    (∃ (s : State) (l : _) (io : LaneIO) (b : _), s.laneRuns l ∧ l.wf = true ∧ io = s.laneIO l ∧ b = (s.laneKind l).base ∧ io.st b = 2 ∧ (io.hid
      b).locked = true ∧ io.on (R.LNS_EQ_FREEZE b) = true ∧ io.rd (R.LNS_CTL_LOOP b) = 3) ∧
    (∃ (s : State) (l : _) (io : LaneIO) (b : _), s.laneRuns l ∧ l.wf = true ∧ io = s.laneIO l ∧ b = (s.laneKind l).base ∧ (io.st b = 7 ∨ (io.st b = 2
      ∧ (io.hid b).locked = true ∧ io.rd (R.LNS_CTL_LOOP b) = 3))) ∧
    (∃ (s : State) (l : _) (io : LaneIO) (b : _) (n : _), s.laneRuns l ∧ l.wf = true ∧ io = s.laneIO l ∧ b = (s.laneKind l).base ∧ io.st b = 7 ∧ n <
      (if (s.laneKind l).fast then 16 else 4)) ∧
    (∃ (s : State) (l : _) (io : LaneIO) (b : _) (n : _), s.laneRuns l ∧ l.wf = true ∧ io = s.laneIO l ∧ b = (s.laneKind l).base ∧ io.st b = 7 ∧ (if
      (s.laneKind l).fast then 16 else 4) ≤ n) ∧
    (∃ (s : State) (l : _) (io : LaneIO) (b : _), s.laneRuns l ∧ l.wf = true ∧ io = s.laneIO l ∧ b = (s.laneKind l).base ∧ io.st b = 7 ∧ (io.hid
      b).win = none ∧ io.rd (R.LNS_RET_CRC_MAX b) = 0) ∧
    (∃ (s : State) (l : _) (io : LaneIO) (b : _), s.laneRuns l ∧ l.wf = true ∧ io = s.laneIO l ∧ b = (s.laneKind l).base ∧ io.st b ≠ 7) ∧
    (∃ (s : State) (l : _) (io : LaneIO) (b : _) (v : _), s.laneRuns l ∧ l.wf = true ∧ v < 2 ^ 32 ∧ io = s.laneIO l ∧ b = (s.laneKind l).base ∧
      io.idle b = false ∧ ((bits v 0 3 ≠ 0 ∧ bits v 0 3 ≤ 4 ∧ bits v 0 3 ≠ io.rd (R.LNS_PRBS_GEN b)) ∨ (bits v 4 3 ≠ 0 ∧ bits v 4 3 ≤ 4 ∧ bits v 4 3 ≠
      io.rd (R.LNS_PRBS_CHK b)))) ∧
    (∃ (s : State) (l : _) (io : LaneIO) (b : _) (v : _) (w : _), s.laneRuns l ∧ l.wf = true ∧ v < 2 ^ 32 ∧ io = s.laneIO l ∧ b = (s.laneKind l).base
      ∧ bits v 0 3 ≤ 4 ∧ bits v 4 3 ≤ 4 ∧ (io.idle b = true ∨ bits v 0 3 = 0 ∨ bits v 0 3 = io.rd (R.LNS_PRBS_GEN b)) ∧ (io.idle b = true ∨ bits v 4 3
      = 0 ∨ bits v 4 3 = io.rd (R.LNS_PRBS_CHK b)) ∧ (bits v 4 3 = io.rd (R.LNS_PRBS_CHK b) → w = io) ∧ (bits v 4 3 ≠ io.rd (R.LNS_PRBS_CHK b) → w =
      ((io.wr (R.LNS_PRBS_CHK b) (bits v 4 3)).wr (R.LNS_PRBS_CHK_LOCK b) 0).upd b (fun x => { x with chk := .zero })) ∧ bits v 0 3 = io.rd
      (R.LNS_PRBS_GEN b)) ∧
    (∃ (s : State) (l : _) (io : LaneIO) (b : _) (v : _) (w : _), s.laneRuns l ∧ l.wf = true ∧ v < 2 ^ 32 ∧ io = s.laneIO l ∧ b = (s.laneKind l).base
      ∧ bits v 0 3 ≤ 4 ∧ bits v 4 3 ≤ 4 ∧ (io.idle b = true ∨ bits v 0 3 = 0 ∨ bits v 0 3 = io.rd (R.LNS_PRBS_GEN b)) ∧ (io.idle b = true ∨ bits v 4 3
      = 0 ∨ bits v 4 3 = io.rd (R.LNS_PRBS_CHK b)) ∧ (bits v 4 3 = io.rd (R.LNS_PRBS_CHK b) → w = io) ∧ (bits v 4 3 ≠ io.rd (R.LNS_PRBS_CHK b) → w =
      ((io.wr (R.LNS_PRBS_CHK b) (bits v 4 3)).wr (R.LNS_PRBS_CHK_LOCK b) 0).upd b (fun x => { x with chk := .zero })) ∧ bits v 0 3 ≠ io.rd
      (R.LNS_PRBS_GEN b)) ∧
    (∃ (s : State) (l : _) (io : LaneIO) (b : _) (v : _) (w : _) (z : _), s.laneRuns l ∧ l.wf = true ∧ v < 2 ^ 32 ∧ io = s.laneIO l ∧ b = (s.laneKind
      l).base ∧ bits v 4 3 ≤ 3 ∧ (io.idle b = true ∨ bits v 4 3 = 0 ∨ bits v 4 3 = io.rd (R.LNS_CTL_LOOP b)) ∧ bitAt v 0 = io.on (R.LNS_CTL_EN b) ∧
      bitAt v 8 = false ∧ w = ((io.wr (R.LNS_CTL_POL_AUTO b) (bits v 1 1)).wr (R.LNS_CTL_POL_FORCE b) (bits v 2 1)).wr (R.LNS_CTL_TX_INV b) (bits v 3
      1) ∧ z = (if bitAt v 1 then w else w.wr (R.LNS_STATE_RX_INV b) (bits v 2 1))) ∧
    (∃ (s : State) (l : _) (io : LaneIO) (b : _) (v : _), s.laneRuns l ∧ l.wf = true ∧ v < 2 ^ 32 ∧ io = s.laneIO l ∧ b = (s.laneKind l).base ∧
      io.idle b = false ∧ bits v 4 3 ≠ 0 ∧ bits v 4 3 ≤ 3 ∧ bits v 4 3 ≠ io.rd (R.LNS_CTL_LOOP b)) ∧
    (∃ (s : State) (l : _) (io : LaneIO) (b : _) (v : _), s.laneRuns l ∧ l.wf = true ∧ v < 2 ^ 32 ∧ io = s.laneIO l ∧ b = (s.laneKind l).base ∧
      (s.laneKind l).fast = true ∧ 63 < bits v 0 4 + bits v 4 6 + bits v 10 5) ∧
    (∃ (s : State) (l : _) (io : LaneIO) (b : _) (v : _), s.laneRuns l ∧ l.wf = true ∧ v < 2 ^ 32 ∧ io = s.laneIO l ∧ b = (s.laneKind l).base ∧
      (s.laneKind l).fast = true ∧ bits v 0 4 + bits v 4 6 + bits v 10 5 ≤ 63) ∧
    (∃ (s : State) (l : _) (io : LaneIO) (b : _) (xs : List Bool) (r : _), s.laneRuns l ∧ l.wf = true ∧ io = s.laneIO l ∧ b = (s.laneKind l).base ∧
      io.looped b = true ∧ io.on (R.LNS_PRBS_GEN b) = true ∧ r = io.patternOut b xs.length (io.rd (R.LNS_CTL_LOOP b) == 1) ∧ io.on (R.LNS_PRBS_CHK b)
      = true) ∧
    (∃ (s : State) (l : _) (io : LaneIO) (b : _) (xs : List Bool) (r : _), s.laneRuns l ∧ l.wf = true ∧ io = s.laneIO l ∧ b = (s.laneKind l).base ∧
      io.looped b = true ∧ io.on (R.LNS_PRBS_GEN b) = true ∧ r = io.patternOut b xs.length (io.rd (R.LNS_CTL_LOOP b) == 1) ∧ io.on (R.LNS_PRBS_CHK b)
      = false) ∧
    (∃ (s : State) (l : _) (io : LaneIO) (b : _), s.laneRuns l ∧ l.wf = true ∧ io = s.laneIO l ∧ b = (s.laneKind l).base ∧ (io.looped b = false ∨
      io.on (R.LNS_PRBS_GEN b) = false) ∧ io.on (R.LNS_PRBS_CHK b) = true) ∧
    (∃ (s : State) (l : _) (io : LaneIO) (b : _), s.laneRuns l ∧ l.wf = true ∧ io = s.laneIO l ∧ b = (s.laneKind l).base ∧ (io.looped b = false ∨
      io.on (R.LNS_PRBS_GEN b) = false) ∧ io.on (R.LNS_PRBS_CHK b) = false) ∧
    (∃ (io : LaneIO) (b : _) (x : _) (k : _), k = (io.hid b).chk ∧ io.on (R.LNS_PRBS_CHK_LOCK b) = true ∧ ((x != io.on (R.LNS_STATE_RX_INV b)) !=
      io.on (R.LNS_PRBS_CHK_INV b)) ≠ prbsNext (io.rd (R.LNS_PRBS_CHK b)) k.reg ∧ k.errs.length < 63) ∧
    (∃ (io : LaneIO) (b : _) (x : _) (k : _), k = (io.hid b).chk ∧ io.on (R.LNS_PRBS_CHK_LOCK b) = true ∧ ((x != io.on (R.LNS_STATE_RX_INV b)) !=
      io.on (R.LNS_PRBS_CHK_INV b)) ≠ prbsNext (io.rd (R.LNS_PRBS_CHK b)) k.reg ∧ 63 ≤ k.errs.length ∧ k.seen < k.errs.getD 62 0 + 1024) ∧
    (∃ (io : LaneIO) (b : _) (x : _) (k : _), k = (io.hid b).chk ∧ io.on (R.LNS_PRBS_CHK_LOCK b) = false ∧ (prbsTaps (io.rd (R.LNS_PRBS_CHK b))).1 ≤
      k.held ∧ k.reg % 2 ^ (prbsTaps (io.rd (R.LNS_PRBS_CHK b))).1 ≠ 0 ∧ ((x != io.on (R.LNS_STATE_RX_INV b)) != io.on (R.LNS_PRBS_CHK_INV b)) =
      prbsNext (io.rd (R.LNS_PRBS_CHK b)) k.reg ∧ k.agree = 63) :=
  ⟨⟨wS (wU [((R.LNS_STATE_STATE (laneBase 0)), 0)]), .unit 0, _, _, by trivial, by decide +kernel, rfl, rfl, by decide +kernel⟩,
    ⟨wS (wU [((R.LNS_STATE_STATE (laneBase 99)), 1)]), .unit 99, _, _, by trivial, by decide +kernel, rfl, rfl, by decide +kernel⟩,
    ⟨wS (wU []), .hub 0 131, _, _, by trivial, by decide +kernel, rfl, rfl, by decide +kernel⟩,
    ⟨wS (wU []), .cell 0 1, _, _, by trivial, by decide +kernel, rfl, rfl, by decide +kernel⟩,
    ⟨wS (wU [((R.LNS_STATE_STATE (laneBase 0)), 1)]), .unit 0, _, _, by trivial, by decide +kernel, rfl, rfl, by decide +kernel⟩,
    ⟨wS (wU [((R.LNS_STATE_STATE (laneBase 0)), 2)]), .unit 0, _, _, by trivial, by decide +kernel, rfl, rfl, by decide +kernel⟩,
    ⟨wS (wU [((R.LNS_STATE_STATE (laneBase 0)), 6)]), .unit 0, _, _, by trivial, by decide +kernel, rfl, rfl, by decide +kernel, by decide +kernel⟩,
    ⟨wS ({ (wU [((R.LNS_STATE_STATE (laneBase 0)), 1)]) with lanes := [(laneBase 0, { Lane.zero with everUp := true })] }), .unit 0, _, _, by trivial,
      by decide +kernel, rfl, rfl, by decide +kernel, by decide +kernel, by decide +kernel⟩,
    ⟨wS (wU [((R.LNS_STATE_STATE (laneBase 0)), 5)]), .unit 0, _, _, by trivial, by decide +kernel, rfl, rfl, by decide +kernel, by decide +kernel⟩,
    ⟨wS (wU [((R.LNS_STATE_STATE (laneBase 0)), 6)]), .unit 0, _, _, by trivial, by decide +kernel, rfl, rfl, by decide +kernel⟩,
    ⟨wS (wU [((R.LNS_PRBS_GEN (laneBase 0)), 1)]), .unit 0, _, _, by trivial, by decide +kernel, rfl, rfl, by decide +kernel⟩,
    ⟨wS (wU [((R.LNS_STATE_STATE (laneBase 0)), 8)]), .unit 0, _, _, by trivial, by decide +kernel, rfl, rfl, by decide +kernel, by decide +kernel⟩,
    ⟨wS (wU [((R.LNS_STATE_STATE (laneBase 0)), 1)]), .unit 0, _, _, by trivial, by decide +kernel, rfl, rfl, by decide +kernel, by decide +kernel⟩,
    ⟨wS (wU [((R.LNS_STATE_STATE (laneBase 0)), 8)]), .unit 0, _, _, by trivial, by decide +kernel, rfl, rfl, by decide +kernel⟩,
    ⟨wS
      ({ (wU [((R.LNS_STATE_STATE (laneBase 0)), 2), ((R.LNS_EQ_FREEZE (laneBase 0)), 1)]) with lanes := [(laneBase 0, { Lane.zero with locked := true })] }),
      .unit 0, _, _, by trivial, by decide +kernel, rfl, rfl, by decide +kernel, by decide +kernel, by decide +kernel, by decide +kernel⟩,
    ⟨wS
      ({ (wU [((R.LNS_STATE_STATE (laneBase 0)), 2), ((R.LNS_EQ_FREEZE (laneBase 0)), 1), ((R.LNS_CTL_LOOP (laneBase 0)), 3)]) with lanes := [(laneBase 0, { Lane.zero with locked := true })] }),
      .unit 0, _, _, by trivial, by decide +kernel, rfl, rfl, by decide +kernel, by decide +kernel, by decide +kernel, by decide +kernel⟩,
    ⟨wS (wU [((R.LNS_STATE_STATE (laneBase 0)), 7)]), .unit 0, _, _, by trivial, by decide +kernel, rfl, rfl, by decide +kernel⟩,
    ⟨wS (wU [((R.LNS_STATE_STATE (laneBase 0)), 7)]), .unit 0, _, _, 15, by trivial, by decide +kernel, rfl, rfl, by decide +kernel,
      by decide +kernel⟩,
    ⟨wS (wU [((R.LNS_STATE_STATE (laneBase 0)), 7)]), .unit 0, _, _, 16, by trivial, by decide +kernel, rfl, rfl, by decide +kernel,
      by decide +kernel⟩,
    ⟨wS (wU [((R.LNS_STATE_STATE (laneBase 0)), 7), ((R.LNS_RET_CRC_MAX (laneBase 0)), 0)]), .unit 0, _, _, by trivial, by decide +kernel, rfl, rfl,
      by decide +kernel, by decide +kernel, by decide +kernel⟩,
    ⟨wS (wU []), .unit 0, _, _, by trivial, by decide +kernel, rfl, rfl, by decide +kernel⟩,
    ⟨wS (wU [((R.LNS_STATE_STATE (laneBase 0)), 7)]), .unit 0, _, _, 1, by trivial, by decide +kernel, by decide +kernel, rfl, rfl, by decide +kernel,
      by decide +kernel⟩,
    ⟨wS (wU []), .unit 0, _, _, 0, _, by trivial, by decide +kernel, by decide +kernel, rfl, rfl, by decide +kernel, by decide +kernel,
      by decide +kernel, by decide +kernel, (fun _ => rfl), (fun h => absurd (by decide +kernel) h), by decide +kernel⟩,
    ⟨wS (wU []), .unit 0, _, _, 1, _, by trivial, by decide +kernel, by decide +kernel, rfl, rfl, by decide +kernel, by decide +kernel,
      by decide +kernel, by decide +kernel, (fun _ => rfl), (fun h => absurd (by decide +kernel) h), by decide +kernel⟩,
    ⟨wS (wU []), .unit 0, _, _, 0, _, _, by trivial, by decide +kernel, by decide +kernel, rfl, rfl, by decide +kernel, by decide +kernel,
      by decide +kernel, by decide +kernel, rfl, rfl⟩,
    ⟨wS (wU [((R.LNS_STATE_STATE (laneBase 0)), 7)]), .unit 0, _, _, 16, by trivial, by decide +kernel, by decide +kernel, rfl, rfl,
      by decide +kernel, by decide +kernel, by decide +kernel, by decide +kernel⟩,
    ⟨wS (wU []), .unit 0, _, _, 63 * 16 + 1, by trivial, by decide +kernel, by decide +kernel, rfl, rfl, by decide +kernel, by decide +kernel⟩,
    ⟨wS (wU []), .unit 0, _, _, 63 * 16, by trivial, by decide +kernel, by decide +kernel, rfl, rfl, by decide +kernel, by decide +kernel⟩,
    ⟨wS (wU [((R.LNS_CTL_LOOP (laneBase 0)), 1), ((R.LNS_PRBS_GEN (laneBase 0)), 1), ((R.LNS_PRBS_CHK (laneBase 0)), 1)]), .unit 0, _, _, [true], _,
      by trivial, by decide +kernel, rfl, rfl, by decide +kernel, by decide +kernel, rfl, by decide +kernel⟩,
    ⟨wS (wU [((R.LNS_CTL_LOOP (laneBase 0)), 1), ((R.LNS_PRBS_GEN (laneBase 0)), 1)]), .unit 0, _, _, [true], _, by trivial, by decide +kernel, rfl,
      rfl, by decide +kernel, by decide +kernel, rfl, by decide +kernel⟩,
    ⟨wS (wU [((R.LNS_PRBS_CHK (laneBase 0)), 1)]), .unit 0, _, _, by trivial, by decide +kernel, rfl, rfl, by decide +kernel, by decide +kernel⟩,
    ⟨wS (wU []), .unit 0, _, _, by trivial, by decide +kernel, rfl, rfl, by decide +kernel, by decide +kernel⟩,
    ⟨{ (wIO [((R.LNS_PRBS_CHK (laneBase 0)), 1), ((R.LNS_PRBS_CHK_LOCK (laneBase 0)), 1)]) with lanes := [] }, laneBase 0, true, Lane.zero.chk, rfl,
      by decide +kernel, by decide +kernel, by decide +kernel⟩,
    ⟨{ (wIO [((R.LNS_PRBS_CHK (laneBase 0)), 1), ((R.LNS_PRBS_CHK_LOCK (laneBase 0)), 1)]) with lanes := [(laneBase 0, { Lane.zero with chk := { Lane.zero.chk with errs := List.replicate 63 0 } })] },
      laneBase 0, true, { Lane.zero.chk with errs := List.replicate 63 0 }, rfl, by decide +kernel, by decide +kernel, by decide +kernel,
      by decide +kernel⟩,
    ⟨{ (wIO [((R.LNS_PRBS_CHK (laneBase 0)), 1), ((R.LNS_PRBS_CHK_LOCK (laneBase 0)), 0)]) with lanes := [(laneBase 0, { Lane.zero with chk := { Lane.zero.chk with held := 7, reg := 64, agree := 63 } })] },
      laneBase 0, true, { Lane.zero.chk with held := 7, reg := 64, agree := 63 }, rfl, by decide +kernel, by decide +kernel, by decide +kernel,
      by decide +kernel, by decide +kernel⟩⟩

/-- States and operands that meet the hypotheses of `Obligations.TrainingCompletes`, clause by clause. -/
theorem wit_TrainingCompletes :
    (∃ (s : State) (l : _) (tr : Training), s.laneRuns l ∧ (Instr.trainingRx l tr).wf = true ∧ (∀ h n, l ≠ .hub h n)) ∧
    (∃ (s : State) (h : _) (n : _) (tr : Training), (Instr.trainingRx (.hub h n) tr).wf = true ∧ (s.hub h).deaf (.trainingRx (.hub h n) tr) = false) ∧
    (∃ (w : Sender) (tseq : _), w.role < 4 ∧ w.group < 2 ∧ w.link < 256 ∧ w.lane < 16 ∧ w.lanes < 16 ∧ tseq < 2 ^ 16) ∧
    (∃ (io : LaneIO) (k : LaneKind) (tr : Training), (io.looped k.base = false ∨ (∃ t, readTraining tr = some t ∧ t.who = k.own)) ∧ io.st k.base = 0) ∧
    (∃ (io : LaneIO) (k : LaneKind) (tr : Training), (io.looped k.base = false ∨ (∃ t, readTraining tr = some t ∧ t.who = k.own)) ∧ io.st k.base ≠ 0) ∧
    (∃ (io : LaneIO) (k : LaneKind) (tr : Training), io.looped k.base = true ∧ (∀ t, readTraining tr = some t → t.who ≠ k.own)) ∧
    (∃ (io : LaneIO) (k : LaneKind) (tr : Training), (io.st k.base = 3 ∨ io.st k.base = 6 ∨ io.st k.base = 7) ∧ readTraining tr = none) ∧
    (∃ (io : LaneIO) (k : LaneKind) (tr : Training) (t : TrainIn), readTraining tr = some t ∧ io.st k.base = 3 ∧ io.polAccept k.base t = none) ∧
    (∃ (io : LaneIO) (k : LaneKind) (tr : Training) (t : TrainIn) (inv : _), readTraining tr = some t ∧ io.st k.base = 3 ∧ io.polAccept k.base t =
      some inv ∧ 7 ≤ (io.hid k.base).count) ∧
    (∃ (io : LaneIO) (k : LaneKind) (tr : Training) (t : TrainIn), readTraining tr = some t ∧ io.st k.base = 4 ∧ t.compl = io.on (R.LNS_STATE_RX_INV
      k.base) ∧ k.fast = false ∧ k.link.length ≤ 1 ∧ io.rd (R.LNS_CTL_LOOP k.base) = 0 ∧ k.accept t.who = true) ∧
    (∃ (io : LaneIO) (k : LaneKind) (tr : Training) (t : TrainIn), readTraining tr = some t ∧ io.st k.base = 4 ∧ t.compl = io.on (R.LNS_STATE_RX_INV
      k.base) ∧ k.fast = false ∧ k.link.length ≤ 1 ∧ io.rd (R.LNS_CTL_LOOP k.base) = 0 ∧ k.accept t.who = false) ∧
    (∃ (io : LaneIO) (k : LaneKind) (tr : Training) (t : TrainIn) (w : LaneIO), readTraining tr = some t ∧ io.st k.base = 5 ∧ t.compl = io.on
      (R.LNS_STATE_RX_INV k.base) ∧ w = io.upd k.base (fun l => { l with skew := LaneIO.skewOf tr t }) ∧ k.link.length ≤ 1) ∧
    (∃ (io : LaneIO) (k : LaneKind) (tr : Training) (t : TrainIn) (w : LaneIO) (a : Nat), readTraining tr = some t ∧ io.st k.base = 5 ∧ t.compl =
      io.on (R.LNS_STATE_RX_INV k.base) ∧ w = io.upd k.base (fun l => { l with skew := LaneIO.skewOf tr t }) ∧ 2 ≤ k.link.length ∧ k.link.all (fun x
      => w.pastId x && (decide (6 ≤ w.st x) || (w.hid x).skew.isSome)) = true ∧ (w.hid k.base).skew = some a ∧ w.align k a = none) ∧
    (∃ (io : LaneIO) (k : LaneKind) (tr : Training) (t : TrainIn) (w : LaneIO) (a : Nat) (v : _), readTraining tr = some t ∧ io.st k.base = 5 ∧
      t.compl = io.on (R.LNS_STATE_RX_INV k.base) ∧ w = io.upd k.base (fun l => { l with skew := LaneIO.skewOf tr t }) ∧ 2 ≤ k.link.length ∧
      k.link.all (fun x => w.pastId x && (decide (6 ≤ w.st x) || (w.hid x).skew.isSome)) = true ∧ (w.hid k.base).skew = some a ∧ w.align k a = some v) ∧
    (∃ (io : LaneIO) (k : LaneKind) (tr : Training) (t : TrainIn), readTraining tr = some t ∧ io.st k.base = 6 ∧ t.compl = io.on (R.LNS_STATE_RX_INV
      k.base) ∧ t.rdy = true ∧ 15 ≤ (io.hid k.base).count) ∧
    (∃ (io : LaneIO) (k : LaneKind) (tr : Training) (t : TrainIn), readTraining tr = some t ∧ io.st k.base = 7 ∧ t.compl = io.on (R.LNS_STATE_RX_INV
      k.base) ∧ t.rdy = false ∧ 3 ≤ (io.hid k.base).count) :=
  ⟨⟨State.reset, .cell 0 0, wTr, by trivial, by decide +kernel, (fun h n e => by cases e)⟩,
    ⟨State.reset, 0, 0, wTr, by decide +kernel, by decide +kernel⟩,
    ⟨⟨2, 1, 255, 15, 2⟩, 65535, by decide +kernel, by decide +kernel, by decide +kernel, by decide +kernel, by decide +kernel, by decide +kernel⟩,
    ⟨(wIO [((R.LNS_STATE_STATE (portBase 0)), 0)]), portKind 0, wTr, by decide +kernel, by decide +kernel⟩,
    ⟨(wIO [((R.LNS_STATE_STATE (portBase 0)), 1)]), portKind 0, wTr, by decide +kernel, by decide +kernel⟩,
    ⟨(wIO [((R.LNS_CTL_LOOP (portBase 0)), 1)]), portKind 0, wTr, by decide +kernel, (fun t h => by cases h)⟩,
    ⟨(wIO [((R.LNS_STATE_STATE (portBase 0)), 3)]), portKind 0, wTr, by decide +kernel, by decide +kernel⟩,
    ⟨wPort { Lane.zero with polSet := true } [(R.LNS_STATE_STATE (portBase 0), 3), (R.LNS_STATE_RX_INV (portBase 0), 1)], portKind 0, wTrain 2 false
      false, wRead 2 false false, by decide +kernel, by decide +kernel, by decide +kernel⟩,
    ⟨wPort { Lane.zero with count := 7 } [(R.LNS_STATE_STATE (portBase 0), 3)], portKind 0, wTrain 2 false true, wRead 2 false true, true,
      by decide +kernel, by decide +kernel, by decide +kernel, by decide +kernel⟩,
    ⟨(wIO [((R.LNS_STATE_STATE (portBase 0)), 4), ((R.LNS_STATE_RX_INV (portBase 0)), 1)]), portKind 0, wTrain 2 false true, wRead 2 false true,
      by decide +kernel, by decide +kernel, by decide +kernel, by decide +kernel, by decide +kernel, by decide +kernel, by decide +kernel⟩,
    ⟨(wIO [((R.LNS_STATE_STATE (portBase 0)), 4), ((R.LNS_STATE_RX_INV (portBase 0)), 1)]), portKind 0, wTrain 3 false true, wRead 3 false true,
      by decide +kernel, by decide +kernel, by decide +kernel, by decide +kernel, by decide +kernel, by decide +kernel, by decide +kernel⟩,
    ⟨(wIO [((R.LNS_STATE_STATE (portBase 0)), 5), ((R.LNS_STATE_RX_INV (portBase 0)), 0)]), portKind 0, wTrain 2 false false, wRead 2 false false, _,
      by decide +kernel, by decide +kernel, by decide +kernel, rfl, by decide +kernel⟩,
    ⟨{ wIO [(R.LNS_STATE_STATE (laneBase 0), 5), (R.LNS_STATE_STATE (laneBase 1), 5)] with lanes := [(laneBase 1, { Lane.zero with skew := some 221 })] },
      U.afterReset.laneKind 0, wBlock 100, wRead 2 true false, _, 95, by decide +kernel, by decide +kernel, by decide +kernel, rfl, by decide +kernel,
      by decide +kernel, by decide +kernel, by decide +kernel⟩,
    ⟨{ wIO [(R.LNS_STATE_STATE (laneBase 0), 5), (R.LNS_STATE_STATE (laneBase 1), 5)] with lanes := [(laneBase 1, { Lane.zero with skew := some 220 })] },
      U.afterReset.laneKind 0, wBlock 100, wRead 2 true false, _, 95, _, by decide +kernel, by decide +kernel, by decide +kernel, rfl,
      by decide +kernel, by decide +kernel, by decide +kernel, wSome (by decide +kernel)⟩,
    ⟨wPort { Lane.zero with count := 15 } [(R.LNS_STATE_STATE (portBase 0), 6)], portKind 0, wTrain 2 true false, wRead 2 true false,
      by decide +kernel, by decide +kernel, by decide +kernel, by decide +kernel, by decide +kernel⟩,
    ⟨wPort { Lane.zero with count := 3 } [(R.LNS_STATE_STATE (portBase 0), 7)], portKind 0, wTrain 2 false false, wRead 2 false false,
      by decide +kernel, by decide +kernel, by decide +kernel, by decide +kernel, by decide +kernel⟩⟩

/-- States and operands that meet the hypotheses of `Obligations.HubCommandsComplete`, clause by clause. -/
theorem wit_HubCommandsComplete :
    (∃ (s : State) (h : _), (Instr.hubBoundary h).wf = true ∧ (s.hub h).deaf (.hubBoundary h) = false) ∧
    (∃ (w : H), w.step = none) ∧
    (∃ (s : State) (h : _) (l : _), (Instr.hubFrameDrop h l).wf = true ∧ (s.hub h).deaf (.hubFrameDrop h l) = false) ∧
    (∃ (s : State) (h : _) (l : _) (p : _), (Instr.hubUnreach h l p).wf = true ∧ (s.hub h).deaf (.hubUnreach h l p) = false ∧ p < (s.hub h).rd
      (R.HTW_LOOP_SIZE l) ∧ bitAt ((s.hub h).loop l).ever p = true ∧ 17 ≤ ((s.hub h).loop l).unseen.get p 0 ∧ bitAt ((s.hub h).rd (R.HTW_LOOP_UNREACH
      l)) p = false) ∧
    (∃ (s : State) (h : _) (l : _) (p : _), (Instr.hubUnreach h l p).wf = true ∧ (s.hub h).deaf (.hubUnreach h l p) = false ∧ ((s.hub h).loop
      l).unseen.get p 0 < 17) ∧
    (∃ (s : State) (h : _) (l : _) (w : H), (Instr.loopMeasurement h l).wf = true ∧ (s.hub h).deaf (.loopMeasurement h l) = false ∧ (s.hub h).rd
      (R.HTW_LOOP_SIZE l) ≠ 0 ∧ ((s.hub h).loop l).due = true ∧ ((s.hub h).path l).meas = none ∧ w =
      ({ s.hub h with seq := ((s.hub h).seq + 1) % 256 } : H).onLoop l (fun p => { p with due := false })) ∧
    (∃ (s : State) (h : _) (l : _), (Instr.loopMeasurement h l).wf = true ∧ (s.hub h).deaf (.loopMeasurement h l) = false ∧ ((s.hub h).loop l).due =
      false) ∧
    (∃ (s : State) (h : _) (l : _) (m : _) (w : _) (list : _) (v : H), (Instr.measurementComplete h l).wf = true ∧ (s.hub h).deaf
      (.measurementComplete h l) = false ∧ ((s.hub h).path l).meas = some m ∧ (s.hub h).measured l m = true ∧ (s.hub h).laneUp l = true ∧ (s.hub
      h).laneUp (64 + l) = true ∧ w = (s.hub h).onPath l (fun p => { p with meas := none }) ∧ (w.offsets2 (s.hubAt h) l m).1 = some list ∧ v =
      (w.offsets2 (s.hubAt h) l m).2) ∧
    (∃ (s : State) (h : _) (l : _) (m : _), (Instr.measurementComplete h l).wf = true ∧ (s.hub h).deaf (.measurementComplete h l) = false ∧ ((s.hub
      h).path l).meas = some m ∧ (s.hub h).measured l m = false) ∧
    (∃ (s : State) (h : _) (v : _), (Instr.hubHeartbeatWrite h v).wf = true ∧ (s.hub h).deaf (.hubHeartbeatWrite h v) = false) ∧
    (∃ (s : State) (h : _), (Instr.hubHbLost h).wf = true ∧ (s.hub h).deaf (.hubHbLost h) = false ∧ (s.hub h).beat = false) ∧
    (∃ (s : State) (h : _), (Instr.hubHbLost h).wf = true ∧ (s.hub h).deaf (.hubHbLost h) = false ∧ (s.hub h).beat = true) ∧
    (∃ (s : State) (h : _) (w : _), (Instr.hubMemUnc h).wf = true ∧ (s.hub h).deaf (.hubMemUnc h) = false ∧ w =
      ({ s.hub h with regs := (MemIO.tableError ⟨(s.hub h).regs, (s.hub h).memh, [], 0⟩ 0x40000000 2).regs } : H)) ∧
    (∃ (s : State) (h : _), (Instr.hubAliveToggle h).wf = true ∧ (s.hub h).deaf (.hubAliveToggle h) = false ∧ (s.hub h).aliveStopped = false) ∧
    (∃ (s : State) (h : _), (Instr.hubAliveToggle h).wf = true ∧ (s.hub h).deaf (.hubAliveToggle h) = false ∧ (s.hub h).aliveStopped = true) ∧
    (∃ (s : State) (h : _), (Instr.regReq h).wf = true ∧ (s.hub h).deaf (.regReq h) = false ∧ (s.hub h).mgmt = []) ∧
    (∃ (s : State) (h : _) (b : _) (q : _) (rest : _), (Instr.regReq h).wf = true ∧ (s.hub h).deaf (.regReq h) = false ∧ (s.hub h).mgmt = (b, q) ::
      rest ∧ (1 < q.op ∨ q.count = 0 ∨ 12 < q.count)) ∧
    (∃ (s : State) (h : _) (b : _) (q : _) (rest : _), (Instr.regReq h).wf = true ∧ (s.hub h).deaf (.regReq h) = false ∧ (s.hub h).mgmt = (b, q) ::
      rest ∧ (1 < q.op ∨ q.count = 0 ∨ 12 < q.count)) ∧
    (∃ (s : State) (h : _) (b : _) (q : _) (rest : _) (w : _) (r : _), (Instr.regReq h).wf = true ∧ (s.hub h).deaf (.regReq h) = false ∧ (s.hub
      h).mgmt = (b, q) :: rest ∧ w = ({ s.hub h with mgmt := rest } : H) ∧ r = w.regExec (s.hubAt h) q) ∧
    (∃ (w : H) (q : RegReq), q.count = 1 ∧ q.addr % 4 = 0 ∧ w.blockOn q.addr = true ∧ q.op = 0) ∧
    (∃ (w : H) (q : RegReq), q.count = 1 ∧ q.addr % 4 = 0 ∧ w.blockOn q.addr = true ∧ q.op = 1) ∧
    (∃ (w : H) (q : RegReq), q.op ≤ 1 ∧ q.count ≠ 0 ∧ q.count ≤ 12 ∧ q.addr % 4 = 0 ∧ q.addr / 0x10000 = (q.addr + 4 * (q.count - 1)) / 0x10000 ∧
      w.blockOn q.addr = false) :=
  ⟨⟨wHS (wH []), 0, by decide +kernel, by decide +kernel⟩,
    ⟨H.reset, by decide +kernel⟩,
    ⟨wHS (wH []), 0, 0, by decide +kernel, by decide +kernel⟩,
    ⟨wHS ((wH [((R.HTW_LOOP_SIZE 0), 1)]).onLoop 0 (fun q => { q with ever := 1, unseen := [(0, 17)] })), 0, 0, 0, by decide +kernel,
      by decide +kernel, by decide +kernel, by decide +kernel, by decide +kernel, by decide +kernel⟩,
    ⟨wHS ((wH []).onLoop 0 (fun q => { q with unseen := [(0, 15)] })), 0, 0, 0, by decide +kernel, by decide +kernel, by decide +kernel⟩,
    ⟨wHS ((wH [((R.HTW_LOOP_SIZE 0), 1)]).onLoop 0 (fun q => { q with due := true })), 0, 0, _, by decide +kernel, by decide +kernel,
      by decide +kernel, by decide +kernel, by decide +kernel, rfl⟩,
    ⟨wHS (wH []), 0, 0, by decide +kernel, by decide +kernel, by decide +kernel⟩,
    ⟨wHS ((wH [((R.LNS_STATE_STATE (hubLaneBase 0)), 7), ((R.LNS_STATE_STATE (hubLaneBase 64)), 7), ((R.HTW_LOOP_SIZE 0), 0)]).onPath 0 (fun q =>
      { q with meas := some ⟨0, 2 ^ 32 - 64, []⟩ })), 0, 0, _, _, _, _, by decide +kernel, by decide +kernel, rfl, by decide +kernel,
      by decide +kernel, by decide +kernel, rfl, rfl, rfl⟩,
    ⟨wHS ((wH [((R.HTW_LOOP_SEEN 0), 1)]).onPath 0 (fun q => { q with meas := some ⟨0, 0, []⟩ })), 0, 0, _, by decide +kernel, by decide +kernel, rfl,
      by decide +kernel⟩,
    ⟨wHS (wH []), 0, 0, by decide +kernel, by decide +kernel⟩,
    ⟨wHS (wH []), 0, by decide +kernel, by decide +kernel, by decide +kernel⟩,
    ⟨wHS ({ (wH []) with beat := true }), 0, by decide +kernel, by decide +kernel, by decide +kernel⟩,
    ⟨wHS (wH []), 0, _, by decide +kernel, by decide +kernel, rfl⟩,
    ⟨wHS ((wH []).withSys (fun x => { x with owned := [11] })), 0, by decide +kernel, by decide +kernel, by decide +kernel⟩,
    ⟨wHS ({ (wH []) with hbLost := true }), 0, by decide +kernel, by decide +kernel, by decide +kernel⟩,
    ⟨wHS (wH []), 0, by decide +kernel, by decide +kernel, by decide +kernel⟩,
    ⟨wHS ({ (wH []) with mgmt := [(false, ⟨1, 2, 1, 0, []⟩)] }), 0, _, _, _, by decide +kernel, by decide +kernel, rfl, by decide +kernel⟩,
    ⟨wHS ({ (wH []) with mgmt := [(false, ⟨1, 0, 13, 0, []⟩)] }), 0, _, _, _, by decide +kernel, by decide +kernel, rfl, by decide +kernel⟩,
    ⟨wHS ({ (wH []) with mgmt := [(false, readRegReq (zeros 56))] }), 0, _, _, _, _, _, by decide +kernel, by decide +kernel, rfl, rfl, rfl⟩,
    ⟨(wH []), ⟨0, 0, 1, 0x40000000, []⟩, rfl, by decide +kernel, by decide +kernel, rfl⟩,
    ⟨(wH []), ⟨0, 1, 1, 0x40000000, [0]⟩, rfl, by decide +kernel, by decide +kernel, rfl⟩,
    ⟨(wH []).withSys (fun x => { x with ep := some ⟨1, 1, 0, [0], 1, 0⟩ }), ⟨0, 0, 1, 0x40000000, []⟩, by decide +kernel, by decide +kernel,
      by decide +kernel, by decide +kernel, by decide +kernel, by decide +kernel⟩⟩

/-- States and operands that meet the hypotheses of `Obligations.HubFramesComplete`, clause by clause. -/
theorem wit_HubFramesComplete :
    (∃ (s : State) (h : _) (lane : _) (tr : _) (chars : _), (Instr.hubTrackwayRx h lane tr chars none).wf = true ∧ (s.hub h).deaf (.hubTrackwayRx h
      lane tr chars none) = false) ∧
    (∃ (s : State) (h : _) (lane : _) (tr : _) (chars : _) (tr' : _) (chars' : _) (t : _), lane < 64 ∧ (Instr.hubTrackwayRx h lane tr chars (some
      (tr', chars'))).wf = true ∧ (Instr.hubTrackwayRx h (lane + 64) tr' chars' (some (tr, chars))).wf = true ∧ (s.hub h).deaf (.hubTrackwayRx h lane
      tr chars none) = false ∧ t = s.withHub h (((s.hub h).trackwayRx (s.hubAt h) lane tr chars).trackwayRx (s.hubAt h) (lane + 64) tr' chars')) ∧
    (∃ (w : H) (v : H) (x : HubAt) (lane : _) (chars : _), lane < 128 ∧ (w.laneIO.looped (hubLaneBase lane) = false ∨ Output.trackway lane chars ∈
      w.out) ∧ v = w.onLane x lane (fun io => io.frameErrors (hubLaneBase lane) w.dn (twErrors chars)) ∧ (v.laneUp lane = false ∨ twCheck chars =
      .cut)) ∧
    (∃ (w : H) (v : H) (x : HubAt) (lane : _) (chars : _) (z : _), lane < 128 ∧ (w.laneIO.looped (hubLaneBase lane) = false ∨ Output.trackway lane
      chars ∈ w.out) ∧ v = w.onLane x lane (fun io => io.frameErrors (hubLaneBase lane) w.dn (twErrors chars)) ∧ v.laneUp lane = true ∧ v.spoiled x
      lane = (false, z) ∧ twCheck chars = .good) ∧
    (∃ (w : H) (v : H) (x : HubAt) (lane : _) (chars : _) (z : _), lane < 128 ∧ (w.laneIO.looped (hubLaneBase lane) = false ∨ Output.trackway lane
      chars ∈ w.out) ∧ v = w.onLane x lane (fun io => io.frameErrors (hubLaneBase lane) w.dn (twErrors chars)) ∧ v.laneUp lane = true ∧ v.spoiled x
      lane = (false, z) ∧ twCheck chars = .stomped) ∧
    (∃ (w : H) (v : H) (x : HubAt) (lane : _) (chars : _) (z : _), lane < 128 ∧ (w.laneIO.looped (hubLaneBase lane) = false ∨ Output.trackway lane
      chars ∈ w.out) ∧ v = w.onLane x lane (fun io => io.frameErrors (hubLaneBase lane) w.dn (twErrors chars)) ∧ v.laneUp lane = true ∧ v.spoiled x
      lane = (false, z) ∧ twCheck chars = .bad) ∧
    (∃ (w : H) (lane : _) (chars : _), w.laneIO.looped (hubLaneBase lane) = true ∧ Output.trackway lane chars ∉ w.out) ∧
    (∃ (w : H) (lane : _) (f : _) (l : _) (v : _) (rs : _) (z : H), l = lane % 64 ∧ v = (List.range 8).foldl (fun (h : H) p => h.sight l p
      (f.cstat.getD p 0)) w ∧ rs = v.reports l f ∧ z = v.onLoop l (fun q =>
      { q with sample := rs.foldl (fun (t : Tbl Nat) e => t.set e.1 (le e.2 0 4)) q.sample })) ∧
    (∃ (s : State) (h : _) (lane : _) (arr : _) (done : _) (blocks : _) (v : _), (Instr.hubOrderRx h lane arr done blocks).wf = true ∧ (s.hub h).deaf
      (.hubOrderRx h lane arr done blocks) = false ∧ (s.hub h).hears (s.hubAt h) lane blocks = (false, v)) ∧
    (∃ (s : State) (h : _) (lane : _) (arr : _) (done : _) (blocks : _) (v : _) (w : _), (Instr.hubOrderRx h lane arr done blocks).wf = true ∧ (s.hub
      h).deaf (.hubOrderRx h lane arr done blocks) = false ∧ (s.hub h).hears (s.hubAt h) lane blocks = (true, v) ∧ v.spoiled (s.hubAt h) lane =
      (false, w) ∧ readBlocks blocks = none) ∧
    (∃ (s : State) (h : _) (lane : _) (arr : _) (done : _) (blocks : _) (v : _) (w : _) (b : _), (Instr.hubOrderRx h lane arr done blocks).wf = true ∧
      (s.hub h).deaf (.hubOrderRx h lane arr done blocks) = false ∧ (s.hub h).hears (s.hubAt h) lane blocks = (true, v) ∧ v.spoiled (s.hubAt h) lane =
      (false, w) ∧ readBlocks blocks = some b ∧ octet b 0 = 1) ∧
    (∃ (s : State) (h : _) (lane : _) (arr : _) (done : _) (blocks : _) (v : _) (w : _) (b : _), (Instr.hubOrderRx h lane arr done blocks).wf = true ∧
      (s.hub h).deaf (.hubOrderRx h lane arr done blocks) = false ∧ (s.hub h).hears (s.hubAt h) lane blocks = (true, v) ∧ v.spoiled (s.hubAt h) lane =
      (false, w) ∧ readBlocks blocks = some b ∧ octet b 0 = 3) ∧
    (∃ (w : H) (n : _) (blocks : _), w.laneIO.looped (hubLaneBase n) = true ∧ Output.mainline n blocks ∉ w.out) ∧
    (∃ (w : H) (x : HubAt) (n : _) (blocks : _) (v : _), (w.laneIO.looped (hubLaneBase n) = false ∨ Output.mainline n blocks ∈ w.out) ∧ v = w.onLane x
      n (fun io => io.headerErrors (hubLaneBase n) (blocks.map (fun b => b.1)))) ∧
    (∃ (w : H) (x : HubAt) (arr : _) (f : _) (v : _), v = ((({ w with got := true } : H).refer f).estimate arr f).entries x arr f ∧ v.last = none ∧
      Tbl.find? v.orders f.dn = none) ∧
    (∃ (w : H) (x : HubAt) (lane : _) (arr : _) (done : _) (f : _) (v : _) (o : HeldOrder), v = ((({ w with got := true } : H).refer f).estimate arr
      f).entries x arr f ∧ v.last = none ∧ Tbl.find? v.orders f.dn = some o ∧ o.yields done lane f = false) ∧
    (∃ (w : H) (x : HubAt) (lane : _) (arr : _) (done : _) (f : _) (v : _) (o : HeldOrder), v = ((({ w with got := true } : H).refer f).estimate arr
      f).entries x arr f ∧ v.last = none ∧ Tbl.find? v.orders f.dn = some o ∧ o.yields done lane f = true) ∧
    (∃ (w : H) (x : HubAt) (arr : _) (f : _) (v : _) (d : _), v = ((({ w with got := true } : H).refer f).estimate arr f).entries x arr f ∧ v.last =
      some d ∧ dnDiff f.dn d ≤ 0) ∧
    (∃ (w : H) (l : _), l < 64 ∧ (w.loop l).queue.length < 4) ∧
    (∃ (w : H) (l : _), l < 64 ∧ 4 ≤ (w.loop l).queue.length) :=
  ⟨⟨wHS (wH []), 0, 0, 0, wChars 0, by decide +kernel, by decide +kernel⟩,
    ⟨wHS (wH []), 0, 0, 0, wChars 0, 0, wChars 0, _, by decide +kernel, by decide +kernel, by decide +kernel, by decide +kernel, rfl⟩,
    ⟨(wH [((R.LNS_STATE_STATE (hubLaneBase 0)), 7)]), _, ⟨0⟩, 0, charK28_5 :: charK28_7 :: List.replicate 248 0, by decide +kernel, by decide +kernel,
      rfl, by decide +kernel⟩,
    ⟨(wH [((R.LNS_STATE_STATE (hubLaneBase 0)), 7)]), _, ⟨0⟩, 0, wChars 0x2ECBA477, _, by decide +kernel, by decide +kernel, rfl, by decide +kernel,
      wFst (by decide +kernel), by decide +kernel⟩,
    ⟨(wH [((R.LNS_STATE_STATE (hubLaneBase 0)), 7)]), _, ⟨0⟩, 0, wChars 0xD1345B88, _, by decide +kernel, by decide +kernel, rfl, by decide +kernel,
      wFst (by decide +kernel), by decide +kernel⟩,
    ⟨(wH [((R.LNS_STATE_STATE (hubLaneBase 0)), 7)]), _, ⟨0⟩, 0, wChars 0, _, by decide +kernel, by decide +kernel, rfl, by decide +kernel, wFst
      (by decide +kernel), by decide +kernel⟩,
    ⟨(wH [((R.LNS_CTL_LOOP (hubLaneBase 0)), 1)]), 0, [], by decide +kernel, by decide +kernel⟩,
    ⟨(wH [((R.LNS_STATE_STATE (hubLaneBase 0)), 7)]), 0, wTw, _, _, _, _, rfl, rfl, rfl, rfl⟩,
    ⟨wHS (wH []), 0, 128, 0, 0, [], _, by decide +kernel, by decide +kernel, rfl⟩,
    ⟨wHS (wH [((R.LNS_STATE_STATE (hubLaneBase 128)), 7)]), 0, 128, 0, 0, avalancheBlocks, _, _, by decide +kernel, by decide +kernel, rfl, wFst
      (by decide +kernel), by decide +kernel⟩,
    ⟨wHS (wH [((R.LNS_STATE_STATE (hubLaneBase 128)), 7)]), 0, 128, 0, 0, sendBlocks (1 :: zeros 6), _, _, 1 :: zeros 6, by decide +kernel,
      by decide +kernel, rfl, wFst (by decide +kernel), by decide +kernel, by decide +kernel⟩,
    ⟨wHS (wH [((R.LNS_STATE_STATE (hubLaneBase 128)), 7)]), 0, 128, 0, 0, sendBlocks (3 :: zeros 14), _, _, 3 :: zeros 14, by decide +kernel,
      by decide +kernel, rfl, wFst (by decide +kernel), by decide +kernel, by decide +kernel⟩,
    ⟨(wH [((R.LNS_CTL_LOOP (hubLaneBase 128)), 1)]), 128, [], by decide +kernel, by decide +kernel⟩,
    ⟨(wH []), ⟨0⟩, 128, [], _, by decide +kernel, rfl⟩,
    ⟨H.reset, ⟨0⟩, 0, wOr, _, rfl, by decide +kernel, by decide +kernel⟩,
    ⟨{ H.reset with orders := [(wOr.dn, ⟨0, 128, wOr⟩)] }, ⟨0⟩, 129, 0, 0, wOr, _, _, rfl, by decide +kernel, rfl, by decide +kernel⟩,
    ⟨{ H.reset with orders := [(wOr.dn, ⟨0, 129, wOr⟩)] }, ⟨0⟩, 128, 0, 0, wOr, _, _, rfl, by decide +kernel, rfl, by decide +kernel⟩,
    ⟨{ H.reset with last := some wOr.dn }, ⟨0⟩, 0, wOr, _, _, rfl, rfl, by decide +kernel⟩,
    ⟨H.reset.onLoop 63 (fun p => { p with queue := List.replicate 3 (zeros 64) }), 63, by decide +kernel, by decide +kernel⟩,
    ⟨H.reset.onLoop 63 (fun p => { p with queue := List.replicate 4 (zeros 64) }), 63, by decide +kernel, by decide +kernel⟩⟩

/-- States and operands that meet the hypotheses of `Obligations.LinkEngineCommandsComplete`, clause by clause. -/
theorem wit_LinkEngineCommandsComplete :
    (∃ (u : U) (n : _) (blocks : List Block), u.laneIO.looped (laneBase n) = true ∧ Output.mainline n blocks ∉ u.out) ∧
    (∃ (u : U) (t : _) (n : _) (blocks : List Block) (v : _), (u.laneIO.looped (laneBase n) = false ∨ Output.mainline n blocks ∈ u.out) ∧ v = u.onLane
      t n (fun io => io.headerErrors (laneBase n) (blocks.map (fun b => b.1)))) ∧
    (∃ (u : U) (w : U) (t : _) (lane : _) (blocks : _) (v : _) (b : List Nat), lane < 96 ∧ u.hears t lane blocks = (true, w) ∧ w.spoiled t lane =
      (false, v) ∧ readBlocks blocks = some b) ∧
    (∃ (u : U) (w : U) (t : _) (lane : _) (blocks : _) (v : _), lane < 96 ∧ u.hears t lane blocks = (true, w) ∧ w.spoiled t lane = (false, v) ∧
      readBlocks blocks = none) ∧
    (∃ (u : U) (v : U) (t : _) (lane : _) (blocks : _), lane < 96 ∧ u.hears t lane blocks = (false, v)) ∧
    (∃ (s : State) (lane : _) (blocks : _) (r : Option (List Nat) × U), (Instr.noticeRx lane blocks).wf = true ∧ s.u.deaf (.noticeRx lane blocks) =
      false ∧ r = s.u.hubFrame s.time lane blocks ∧ r.1 = none) ∧
    (∃ (s : State) (lane : _) (blocks : _) (r : Option (List Nat) × U), (Instr.noticeRx lane blocks).wf = true ∧ s.u.deaf (.noticeRx lane blocks) =
      false ∧ r = s.u.hubFrame s.time lane blocks ∧ r.1 = none) ∧
    (∃ (s : State) (lane : _) (blocks : _) (r : Option (List Nat) × U) (b : List Nat) (cid : _) (e : Nat × CellCfg) (u : _), (Instr.noticeRx lane
      blocks).wf = true ∧ s.u.deaf (.noticeRx lane blocks) = false ∧ r = s.u.hubFrame s.time lane blocks ∧ r.1 = some b ∧ octet b 0 = 6 ∧ cid = le b 7
      2 % 32768 ∧ cidHub cid = lane / 2 ∧ r.2.cellOf cid = some e ∧ u = (r.2.wr R.MLK_NOTICE_CID cid).wr R.MLK_NOTICE_KIND (octet b 1) ∧ octet b 1 =
      1) ∧
    (∃ (s : State) (lane : _) (blocks : _) (r : Option (List Nat) × U) (b : List Nat) (cid : _) (e : Nat × CellCfg) (u : _), (Instr.noticeRx lane
      blocks).wf = true ∧ s.u.deaf (.noticeRx lane blocks) = false ∧ r = s.u.hubFrame s.time lane blocks ∧ r.1 = some b ∧ octet b 0 = 6 ∧ cid = le b 7
      2 % 32768 ∧ cidHub cid = lane / 2 ∧ r.2.cellOf cid = some e ∧ u = (r.2.wr R.MLK_NOTICE_CID cid).wr R.MLK_NOTICE_KIND (octet b 1) ∧ octet b 1 =
      2) ∧
    (∃ (s : State) (lane : _) (blocks : _) (r : Option (List Nat) × U), (Instr.loopFrameRx lane blocks).wf = true ∧ s.u.deaf (.loopFrameRx lane
      blocks) = false ∧ r = s.u.hubFrame s.time lane blocks ∧ r.1 = none) ∧
    (∃ (s : State) (lane : _) (blocks : _) (r : Option (List Nat) × U), (Instr.loopFrameRx lane blocks).wf = true ∧ s.u.deaf (.loopFrameRx lane
      blocks) = false ∧ r = s.u.hubFrame s.time lane blocks ∧ r.1 = none) ∧
    (∃ (s : State) (lane : _) (blocks : _) (r : Option (List Nat) × U) (b : List Nat), (Instr.loopFrameRx lane blocks).wf = true ∧ s.u.deaf
      (.loopFrameRx lane blocks) = false ∧ r = s.u.hubFrame s.time lane blocks ∧ r.1 = some b ∧ octet b 0 = 2) ∧
    (∃ (u : U) (h : _) (l : _) (p : _) (rep : List Nat) (cid : _), cid = mkCid h (l % 64) (p % 8) ∧ rep.length = 16 ∧ rep.getD 15 0 = crc8 0x2F 0xFF
      (rep.take 15) ∧ u.topo.valid cid = true ∧ u.queueFull (cidArm cid) = false) ∧
    (∃ (u : U) (h : _) (l : _) (p : _) (rep : List Nat) (cid : _), cid = mkCid h (l % 64) (p % 8) ∧ rep.length = 16 ∧ rep.getD 15 0 = crc8 0x2F 0xFF
      (rep.take 15) ∧ u.topo.valid cid = true ∧ u.queueFull (cidArm cid) = true) ∧
    (∃ (u : U) (h : _) (l : _) (p : _) (rep : List Nat) (cid : _), cid = mkCid h (l % 64) (p % 8) ∧ rep.length = 16 ∧ rep.getD 15 0 = crc8 0x2F 0xFF
      (rep.take 15) ∧ u.topo.valid cid = false) ∧
    (∃ (s : State) (lane : _) (arr : _) (blocks : _) (r : Option (List Nat) × U), (Instr.mailRx lane arr blocks).wf = true ∧ s.u.deaf (.mailRx lane
      arr blocks) = false ∧ r = s.u.hubFrame s.time lane blocks ∧ r.1 = none) ∧
    (∃ (s : State) (lane : _) (arr : _) (blocks : _) (r : Option (List Nat) × U), (Instr.mailRx lane arr blocks).wf = true ∧ s.u.deaf (.mailRx lane
      arr blocks) = false ∧ r = s.u.hubFrame s.time lane blocks ∧ r.1 = none) ∧
    (∃ (s : State) (lane : _) (arr : _) (blocks : _) (r : Option (List Nat) × U) (b : List Nat) (o : _), (Instr.mailRx lane arr blocks).wf = true ∧
      s.u.deaf (.mailRx lane arr blocks) = false ∧ r = s.u.hubFrame s.time lane blocks ∧ r.1 = some b ∧ octet b 0 = 5 ∧ o = (b.drop 7).take 64 ∧ bitAt
      (octet b 1) 6 = true ∧ octet o 0 = 0x86) ∧
    (∃ (s : State) (lane : _) (arr : _) (blocks : _) (r : Option (List Nat) × U) (b : List Nat) (o : _), (Instr.mailRx lane arr blocks).wf = true ∧
      s.u.deaf (.mailRx lane arr blocks) = false ∧ r = s.u.hubFrame s.time lane blocks ∧ r.1 = some b ∧ octet b 0 = 5 ∧ o = (b.drop 7).take 64 ∧ bitAt
      (octet b 1) 6 = true ∧ octet o 0 = 0x8B) ∧
    (∃ (s : State) (lane : _) (arr : _) (blocks : _) (r : Option (List Nat) × U) (b : List Nat) (o : _) (c : CfgSend), (Instr.mailRx lane arr
      blocks).wf = true ∧ s.u.deaf (.mailRx lane arr blocks) = false ∧ r = s.u.hubFrame s.time lane blocks ∧ r.1 = some b ∧ octet b 0 = 5 ∧ o =
      (b.drop 7).take 64 ∧ bitAt (octet b 1) 6 = false ∧ octet o 0 = 0x11 ∧ Tbl.find? r.2.mlk.cfg (mailCid o) = some c ∧ octet o 3 / 128 = r.2.unitB ∧
      c.tag = octet o 1 ∧ octet o 4 = 0) ∧
    (∃ (s : State), s.u.deaf .pointRequestSend = false ∧ s.u.on R.MLK_CTL_PTS_EN = false) ∧
    (∃ (s : State), s.u.deaf .pointRequestSend = false ∧ s.u.on R.MLK_CTL_PTS_EN = true ∧ (s.u.mlk.ready = [] ∨ s.u.roomPc = true)) ∧
    (∃ (s : State), s.u.deaf .pointRequestSend = false ∧ s.u.mlk.ready ≠ [] ∧ s.u.roomPc = false) ∧
    (∃ (w : U), w.pqEntries.find? w.pqReady = none) ∧
    (∃ (w : U) (u : U) (i : _) (o : _) (cid : _) (key : _), w.pqEntries.find? w.pqReady = some i ∧ o = w.pqOctets i ∧ cid = mailCid o ∧ key = loopKey
      cid ∧ u = (w.withMlk (fun m => { m with taken := m.taken ++ [i] })).advancePq 4096 ∧ u.topo.valid cid = true ∧ (o.headD 0 = 2 ∨ o.headD 0 =
      0x20)) ∧
    (∃ (w : U) (u : U) (i : _) (o : _) (cid : _) (key : _), w.pqEntries.find? w.pqReady = some i ∧ o = w.pqOctets i ∧ cid = mailCid o ∧ key = loopKey
      cid ∧ u = (w.withMlk (fun m => { m with taken := m.taken ++ [i] })).advancePq 4096 ∧ (u.topo.valid cid = false ∨ (o.headD 0 ≠ 2 ∧ o.headD 0 ≠
      0x20))) ∧
    (∃ (s : State) (h : _) (l : _) (q : _), (Instr.pointRetryTimeout h l).wf = true ∧ s.u.deaf (.pointRetryTimeout h l) = false ∧ Tbl.find?
      s.u.mlk.reqs (h * 64 + l % 64) = some q ∧ (s.u.rd R.MLK_CTL_PTS_TMO : Int) ≤ dnDiff s.time.dn q.dn ∧ q.att < s.u.rd R.MLK_CTL_RETRY) ∧
    (∃ (s : State) (h : _) (l : _) (q : _), (Instr.pointRetryTimeout h l).wf = true ∧ s.u.deaf (.pointRetryTimeout h l) = false ∧ Tbl.find?
      s.u.mlk.reqs (h * 64 + l % 64) = some q ∧ (s.u.rd R.MLK_CTL_PTS_TMO : Int) ≤ dnDiff s.time.dn q.dn ∧ s.u.rd R.MLK_CTL_RETRY ≤ q.att) ∧
    (∃ (s : State) (h : _) (o : _) (q : _), (Instr.pointResponseRx h o).wf = true ∧ s.u.deaf (.pointResponseRx h o) = false ∧ Tbl.find? s.u.mlk.reqs
      (loopKey (mailCid o)) = some q ∧ o.getD 3 0 / 128 = s.u.unitB ∧ q.tag = o.getD 1 0 ∧ mailCid q.octets = mailCid o ∧ o.headD 0 = q.octets.headD 0
      + 1) ∧
    (∃ (s : State) (h : _) (o : _), (Instr.pointResponseRx h o).wf = true ∧ s.u.deaf (.pointResponseRx h o) = false ∧ Tbl.find? s.u.mlk.reqs (loopKey
      (mailCid o)) = none) ∧
    (∃ (s : State) (o : _) (i : _) (dn : _) (rest : _) (p : _), s.u.deaf .completionWrite = false ∧ s.u.mlk.ready = (o, i, dn) :: rest ∧ s.u.roomPc =
      true ∧ p = s.u.rd R.MLK_PC_PROD_PROD) ∧
    (∃ (s : State), s.u.deaf .completionWrite = false ∧ (s.u.roomPc = false ∨ s.u.mlk.ready = [])) ∧
    (∃ (s : State) (h : _) (dl : _), (Instr.pathRx h 0xFFFFFFFF 0xFFFFFFFF dl).wf = true ∧ s.u.deaf (.pathRx h 0xFFFFFFFF 0xFFFFFFFF dl) = false) ∧
    (∃ (s : State) (h : _) (a : _) (dl : _) (m : _) (u : _), (Instr.pathRx h a 0xFFFFFFFF dl).wf = true ∧ s.u.deaf (.pathRx h a 0xFFFFFFFF dl) = false
      ∧ a ≠ 0xFFFFFFFF ∧ m = (((s.u.rd R.DEP_CTL_LEAD * 16000 : Nat) : Int) - (16000 + a + 1600 + dl + 1600 : Nat)) ∧ m < 0 ∧ (Tbl.find? s.u.leads h =
      none ∨ (∃ b, Tbl.find? s.u.leads h = some b ∧ 0 ≤ b)) ∧ u = ((((({ s.u with leads := s.u.leads.set h m } : U).onLink h (fun k =>
      { k with tw := (a + 1600 + 63) / 64 })).wr (R.MLK_HUB_LEAD_MARGIN h) (enc 16 (satS 16 (rdiv m 16)))).wr (R.MLK_HUB_LEAD_VALID h) 1).put
      (R.MLK_HUB_LEAD_NEG h) true) ∧ u.on R.DEP_CTL_CONV_EN = false) ∧
    (∃ (s : State) (h : _) (a : _) (dl : _) (m : _) (u : _), (Instr.pathRx h a 0xFFFFFFFF dl).wf = true ∧ s.u.deaf (.pathRx h a 0xFFFFFFFF dl) = false
      ∧ a ≠ 0xFFFFFFFF ∧ m = (((s.u.rd R.DEP_CTL_LEAD * 16000 : Nat) : Int) - (16000 + a + 1600 + dl + 1600 : Nat)) ∧ m < 0 ∧ (Tbl.find? s.u.leads h =
      none ∨ (∃ b, Tbl.find? s.u.leads h = some b ∧ 0 ≤ b)) ∧ u = ((((({ s.u with leads := s.u.leads.set h m } : U).onLink h (fun k =>
      { k with tw := (a + 1600 + 63) / 64 })).wr (R.MLK_HUB_LEAD_MARGIN h) (enc 16 (satS 16 (rdiv m 16)))).wr (R.MLK_HUB_LEAD_VALID h) 1).put
      (R.MLK_HUB_LEAD_NEG h) true) ∧ u.on R.DEP_CTL_CONV_EN = true) :=
  ⟨⟨(wU [((R.LNS_CTL_LOOP (laneBase 0)), 1)]), 0, [], by decide +kernel, by decide +kernel⟩,
    ⟨(wU []), TimeBase.start 0, 0, [], _, by decide +kernel, rfl⟩,
    ⟨(wU [((R.LNS_STATE_STATE (laneBase 0)), 7)]), _, TimeBase.start 0, 0, sendBlocks (zeros 7), _, zeros 7, by decide +kernel, rfl, wFst
      (by decide +kernel), by decide +kernel⟩,
    ⟨(wU [((R.LNS_STATE_STATE (laneBase 0)), 7)]), _, TimeBase.start 0, 0, [], _, by decide +kernel, rfl, wFst (by decide +kernel), by decide +kernel⟩,
    ⟨(wU []), _, TimeBase.start 0, 0, [], by decide +kernel, wFst (by decide +kernel)⟩,
    ⟨wS (wU []), 0, [], _, by decide +kernel, by decide +kernel, rfl, by decide +kernel⟩,
    ⟨wS (wU [((R.LNS_STATE_STATE (laneBase 0)), 7)]), 0, [], _, by decide +kernel, by decide +kernel, rfl, by decide +kernel⟩,
    ⟨wS (wT ((wU [((R.LNS_STATE_STATE (laneBase 0)), 7)]))), 0, sendBlocks (noticeBytes 1 0 0), _, noticeBytes 1 0 0, 0, (0, wCell), _,
      by decide +kernel, by decide +kernel, rfl, by decide +kernel, by decide +kernel, by decide +kernel, by decide +kernel, by decide +kernel, rfl,
      by decide +kernel⟩,
    ⟨wS (wT ((wU [((R.LNS_STATE_STATE (laneBase 0)), 7)]))), 0, sendBlocks (noticeBytes 2 0 0), _, noticeBytes 2 0 0, 0, (0, wCell), _,
      by decide +kernel, by decide +kernel, rfl, by decide +kernel, by decide +kernel, by decide +kernel, by decide +kernel, by decide +kernel, rfl,
      by decide +kernel⟩,
    ⟨wS (wU []), 0, [], _, by decide +kernel, by decide +kernel, rfl, by decide +kernel⟩,
    ⟨wS (wU [((R.LNS_STATE_STATE (laneBase 0)), 7)]), 0, [], _, by decide +kernel, by decide +kernel, rfl, by decide +kernel⟩,
    ⟨wS (wU [((R.LNS_STATE_STATE (laneBase 0)), 7)]), 0, sendBlocks (loopBytes 0 false 0 [(0, zeros 16)]), _, loopBytes 0 false 0 [(0, zeros 16)],
      by decide +kernel, by decide +kernel, rfl, by decide +kernel, by decide +kernel⟩,
    ⟨wT ((wU [])), 0, 0, 0, zeros 15 ++ [crc8 0x2F 0xFF (zeros 15)], 0, by decide +kernel, by decide +kernel, by decide +kernel, by decide +kernel,
      by decide +kernel⟩,
    ⟨(wT (wU [])).setArm 0 (fun a => { a with queue := List.replicate 2048 (0, []) }), 0, 0, 0, zeros 15 ++ [crc8 0x2F 0xFF (zeros 15)], _, rfl,
      by decide +kernel, by decide +kernel, by decide +kernel, by decide +kernel⟩,
    ⟨(wU []), 0, 0, 0, zeros 15 ++ [crc8 0x2F 0xFF (zeros 15)], 0, by decide +kernel, by decide +kernel, by decide +kernel, by decide +kernel⟩,
    ⟨wS (wU []), 0, 0, [], _, by decide +kernel, by decide +kernel, rfl, by decide +kernel⟩,
    ⟨wS (wU [((R.LNS_STATE_STATE (laneBase 0)), 7)]), 0, 0, [], _, by decide +kernel, by decide +kernel, rfl, by decide +kernel⟩,
    ⟨wS (wU [((R.LNS_STATE_STATE (laneBase 0)), 7)]), 0, 0, sendBlocks (mailBytes 0 true false 0 [0x86]), _, mailBytes 0 true false 0 [0x86], _,
      by decide +kernel, by decide +kernel, rfl, by decide +kernel, by decide +kernel, rfl, by decide +kernel, by decide +kernel⟩,
    ⟨wS (wU [((R.LNS_STATE_STATE (laneBase 0)), 7)]), 0, 0, sendBlocks (mailBytes 0 true false 0 [0x8B]), _, mailBytes 0 true false 0 [0x8B], _,
      by decide +kernel, by decide +kernel, rfl, by decide +kernel, by decide +kernel, rfl, by decide +kernel, by decide +kernel⟩,
    ⟨wS ((wU [((R.LNS_STATE_STATE (laneBase 0)), 7)]).withMlk (fun m => { m with cfg := [(0, ⟨1, 1, 0⟩)] })), 0, 0, sendBlocks (mailBytes 0 false
      false 0 [0x11, 1, 0, 0, 0]), _, mailBytes 0 false false 0 [0x11, 1, 0, 0, 0], _, ⟨1, 1, 0⟩, by decide +kernel, by decide +kernel, rfl,
      by decide +kernel, by decide +kernel, rfl, by decide +kernel, by decide +kernel, by decide +kernel, by decide +kernel, by decide +kernel,
      by decide +kernel⟩,
    ⟨wS (wU [(R.MLK_CTL_PTS_EN, 0)]), by decide +kernel, by decide +kernel⟩,
    ⟨wS (wU [(R.MLK_CTL_PTS_EN, 1)]), by decide +kernel, by decide +kernel, by decide +kernel⟩,
    ⟨wS ((wU []).withMlk (fun m => { m with ready := [([], 0, 0)] })), by decide +kernel, by decide +kernel, by decide +kernel⟩,
    ⟨wU [], by decide +kernel⟩,
    ⟨wT ({ wU [(R.MLK_PQ_SIZE_SIZE, 2), (R.MLK_PQ_PROD_PROD, 1)] with mem := [(0, 2)] }), _, 0, _, _, _, by decide +kernel, rfl, rfl, rfl, rfl,
      by decide +kernel, by decide +kernel⟩,
    ⟨{ wU [(R.MLK_PQ_SIZE_SIZE, 2), (R.MLK_PQ_PROD_PROD, 1)] with mem := [(0, 2)] }, _, 0, _, _, _, by decide +kernel, rfl, rfl, rfl, rfl,
      by decide +kernel⟩,
    ⟨wS ((wU [(R.MLK_CTL_PTS_TMO, 0), (R.MLK_CTL_RETRY, 1)]).withMlk (fun m => { m with reqs := [(0, ⟨0, [2, 1, 0, 0], 1, 0, 0⟩)] })), 0, 0, _,
      by decide +kernel, by decide +kernel, rfl, by decide +kernel, by decide +kernel⟩,
    ⟨wS ((wU [(R.MLK_CTL_PTS_TMO, 0), (R.MLK_CTL_RETRY, 1)]).withMlk (fun m => { m with reqs := [(0, ⟨0, [2, 1, 0, 0], 1, 1, 0⟩)] })), 0, 0, _,
      by decide +kernel, by decide +kernel, rfl, by decide +kernel, by decide +kernel⟩,
    ⟨wS ((wU []).withMlk (fun m => { m with reqs := [(0, ⟨0, [2, 1, 0, 0], 1, 0, 0⟩)] })), 0, [3, 1, 0, 0], _, by decide +kernel, by decide +kernel,
      rfl, by decide +kernel, by decide +kernel, by decide +kernel, by decide +kernel⟩,
    ⟨wS (wU []), 0, [3, 1, 0, 0], by decide +kernel, by decide +kernel, by decide +kernel⟩,
    ⟨wS ((wU [(R.MLK_PC_SIZE_SIZE, 2)]).withMlk (fun m => { m with ready := [([3], 0, 0)] })), _, _, _, _, _, by decide +kernel, rfl,
      by decide +kernel, rfl⟩,
    ⟨wS (wU []), by decide +kernel, by decide +kernel⟩,
    ⟨wS (wU []), 0, 0, by decide +kernel, by decide +kernel⟩,
    ⟨wS (wU [(R.DEP_CTL_CONV_EN, 0)]), 0, 4294967294, 0, _, _, by decide +kernel, by decide +kernel, by decide +kernel, rfl, by decide +kernel,
      by decide +kernel, rfl, by decide +kernel⟩,
    ⟨wS (wU [(R.DEP_CTL_CONV_EN, 1)]), 0, 4294967294, 0, _, _, by decide +kernel, by decide +kernel, by decide +kernel, rfl, by decide +kernel,
      by decide +kernel, rfl, by decide +kernel⟩⟩

/-- States and operands that meet the hypotheses of `Obligations.CellLinkCommandsComplete`, clause by clause. -/
theorem wit_CellLinkCommandsComplete :
    (∃ (s : State) (cid : _) (ofs : _) (y : C), (Instr.rptMiss cid).wf = true ∧ (s.cell cid).now cid = (ofs, y) ∧ y.clk.rpts = []) ∧
    (∃ (s : State) (cid : _) (ofs : _) (y : C) (r : _), (Instr.rptMiss cid).wf = true ∧ (s.cell cid).now cid = (ofs, y) ∧ y.clk.rpts = [r] ∧ 2 ≤
      dnDiff y.dn r.dn ∧ r.doneU = false ∧ r.doneD = false) ∧
    (∃ (s : State) (cid : _) (o : _) (ofs : _) (y : C), (Instr.pointRequestRx cid o none).wf = true ∧ (s.cell cid).now cid = (ofs, y) ∧ (y.named (le o
      2 2 % 32768) = false ∨ octet o 0 ≠ 2)) ∧
    (∃ (s : State) (cid : _) (o : _) (p : _) (ofs : _) (y : C), (Instr.pointRequestRx cid o (some p)).wf = true ∧ (s.cell cid).now cid = (ofs, y)) ∧
    (∃ (s : State) (cid : _) (o : _) (ofs : _) (y : C) (k : Kept) (m : _), (Instr.pointRequestRx cid o none).wf = true ∧ (s.cell cid).now cid = (ofs,
      y) ∧ octet o 0 = 2 ∧ m = readPoint o ∧ y.named m.cid = true ∧ Tbl.find? y.clk.kept (b2n m.unitB) = some k ∧ k.tag = m.tag ∧ k.att = m.att) ∧
    (∃ (s : State) (cid : _) (o : _) (ofs : _) (y : C) (k : Kept) (m : _), (Instr.pointRequestRx cid o none).wf = true ∧ (s.cell cid).now cid = (ofs,
      y) ∧ octet o 0 = 2 ∧ m = readPoint o ∧ y.named m.cid = true ∧ Tbl.find? y.clk.kept (b2n m.unitB) = some k ∧ k.tag = m.tag ∧ k.att ≠ m.att) ∧
    (∃ (s : State) (cid : _) (q : _) (ofs : _) (y : C) (m : _) (z : _) (o : _), (Instr.pointRequestRx cid q none).wf = true ∧ (s.cell cid).now cid =
      (ofs, y) ∧ octet q 0 = 2 ∧ m = readPoint q ∧ y.named m.cid = true ∧ Tbl.find? y.clk.kept (b2n m.unitB) = none ∧ m.op = 0 ∧ 1 ≤ m.count ∧ m.count
      ≤ 14 ∧ m.first + m.count ≤ 1280 ∧ z = (List.range m.count).foldl (fun (c : C) i => c.pointMem ofs (m.first + i)) (y.inc R.CLK_CNT_C_REQ_EXEC) ∧
      y.rst = none ∧ z.rst = none ∧ o = ([3, m.tag] ++ toBytes 2 (z.addr16 m.unitB) ++ [0, m.count] ++ toBytes 2 m.first ++ (List.range
      m.count).flatMap (fun i => toBytes 4 (z.pointRead (m.first + i))))) ∧
    (∃ (s : State) (cid : _) (ofs : _) (y : C), (Instr.rspDrop cid).wf = true ∧ (s.cell cid).now cid = (ofs, y) ∧ (∀ r ∈ y.clk.resps, r.age < 64)) ∧
    (∃ (s : State) (cid : _) (ofs : _) (y : C) (r : _), (Instr.rspDrop cid).wf = true ∧ (s.cell cid).now cid = (ofs, y) ∧ y.clk.resps = [r] ∧ 64 ≤
      r.age) :=
  ⟨⟨wCS (wC []), 0, _, _, by decide +kernel, rfl, by decide +kernel⟩,
    ⟨wCS ((wC []).withClk (fun l => { l with rpts := [⟨4294967294, 0, 0, none, none, [], false, false⟩] })), 0, _, _, _, by decide +kernel, rfl, rfl,
      by decide +kernel, by decide +kernel, by decide +kernel⟩,
    ⟨wCS (wC []), 0, zeros 64, _, _, by decide +kernel, rfl, by decide +kernel⟩,
    ⟨wCS (wC []), 0, wReq 0 1 0, wReq 0 1 0, _, _, by decide +kernel, rfl⟩,
    ⟨wCS ((wC [(R.CLK_ID_POS_VALID, 1)]).withClk (fun l => { l with kept := [(0, wKept)] })), 0, wReq 0 1 0, _, _, wKept, _, by decide +kernel, rfl,
      by decide +kernel, rfl, by decide +kernel, by decide +kernel, by decide +kernel, by decide +kernel⟩,
    ⟨wCS ((wC [(R.CLK_ID_POS_VALID, 1)]).withClk (fun l => { l with kept := [(0, wKept)] })), 0, wReq 1 1 0, _, _, wKept, _, by decide +kernel, rfl,
      by decide +kernel, rfl, by decide +kernel, by decide +kernel, by decide +kernel, by decide +kernel⟩,
    ⟨wCS (wC [(R.CLK_ID_POS_VALID, 1)]), 0, wReq 0 14 1266, _, _, _, _, _, by decide +kernel, rfl, by decide +kernel, rfl, by decide +kernel,
      by decide +kernel, by decide +kernel, by decide +kernel, by decide +kernel, by decide +kernel, rfl, by decide +kernel, by decide +kernel, rfl⟩,
    ⟨wCS ((wC []).withClk (fun l => { l with resps := [⟨[3], 63, false⟩] })), 0, _, _, by decide +kernel, rfl, by decide +kernel⟩,
    ⟨wCS ((wC []).withClk (fun l => { l with resps := [⟨[3], 64, false⟩] })), 0, _, _, _, by decide +kernel, rfl, rfl, by decide +kernel⟩⟩

/-- States and operands that meet the hypotheses of `Obligations.MeasurementCommandsComplete`, clause by clause. -/
theorem wit_MeasurementCommandsComplete :
    (∃ (s : State) (cid : _) (k : _) (raw : _), (Instr.adcConversion cid k raw).wf = true ∧ (∀ n < 16, ((s.cell cid).ent n).live = false)) ∧
    (∃ (s : State) (cid : _) (k : _) (raw : _) (n : _) (o : _) (y : C) (x : _) (z : _) (w : _) (late : _), (Instr.adcConversion cid k raw).wf = true ∧
      (List.range 16).filter (fun n => ((s.cell cid).ent n).live && (s.cell cid).owns n k && (s.cell cid).sampling n (s.cell cid).dn) = [n] ∧ o = max
      (s.cell cid).gte.ofs (800 * k) ∧ y = ((s.cell cid).withGte (fun g => { g with ofs := o })).placeEdges o ∧ x = sx 16 raw ∧ z = y.setEnt n (fun e
      =>
      { e with n := e.n + 1, hist := ((y.correct n (k % 4) x, decide (x = -32768) || decide (x = 32767)) :: e.hist).take (y.order n * y.dec n), prev := some x })
      ∧ z.outputDue n k = false ∧ late = (if bitAt (z.rd R.ADC_CTL_PWR) (k % 4) then 0 else 2000) ∧ w = (z.adapt cid o n).slicePower (k % 4) k (s.cell
      cid).dn late ∧ w.rd R.CCP_RATE_MASTER ≠ n) ∧
    (∃ (s : State) (cid : _) (n : _) (v : _) (ofs : _) (y : C) (z : C), (Instr.adcEntryEnable cid n v).wf = true ∧ (s.cell cid).now cid = (ofs, y) ∧
      y.on R.ADC_CTL_LOCK = false ∧ y.on (R.ADC_ENT_CFG_EN n) = false ∧ bits v 16 5 < 20 ∧ (bits v 21 5 = 4 ∨ bits v 21 5 = 20) ∧ bitAt v 0 = true ∧ z
      = (((((((((y.wr (R.ADC_ENT_CFG_INPUT n) (bits v 1 4)).wr (R.ADC_ENT_CFG_GAIN n) (bits v 5 2)).wr (R.ADC_ENT_CFG_MODE n) (bits v 7 1)).wr
      (R.ADC_ENT_CFG_PDN n) (bits v 8 1)).wr (R.ADC_ENT_CFG_ORDER n) (bits v 9 2)).wr (R.ADC_ENT_CFG_ROLE n) (bits v 12 4)).wr (R.ADC_ENT_CFG_SLOT n)
      (bits v 16 5)).wr (R.ADC_ENT_CFG_STEP n) (bits v 21 5))) ∧ z.adcRefused n = false) ∧
    (∃ (s : State) (cid : _) (n : _) (v : _) (ofs : _) (y : C) (z : C), (Instr.adcEntryEnable cid n v).wf = true ∧ (s.cell cid).now cid = (ofs, y) ∧
      y.on R.ADC_CTL_LOCK = false ∧ y.on (R.ADC_ENT_CFG_EN n) = false ∧ bits v 16 5 < 20 ∧ (bits v 21 5 = 4 ∨ bits v 21 5 = 20) ∧ bitAt v 0 = true ∧ z
      = (((((((((y.wr (R.ADC_ENT_CFG_INPUT n) (bits v 1 4)).wr (R.ADC_ENT_CFG_GAIN n) (bits v 5 2)).wr (R.ADC_ENT_CFG_MODE n) (bits v 7 1)).wr
      (R.ADC_ENT_CFG_PDN n) (bits v 8 1)).wr (R.ADC_ENT_CFG_ORDER n) (bits v 9 2)).wr (R.ADC_ENT_CFG_ROLE n) (bits v 12 4)).wr (R.ADC_ENT_CFG_SLOT n)
      (bits v 16 5)).wr (R.ADC_ENT_CFG_STEP n) (bits v 21 5))) ∧ z.adcRefused n = true) ∧
    (∃ (s : State) (cid : _) (n : _) (v : _) (ofs : _) (y : C), (Instr.adcOfsCommit cid n v).wf = true ∧ (s.cell cid).now cid = (ofs, y) ∧ y.on
      R.ADC_CTL_LOCK = false) ∧
    (∃ (s : State) (cid : _) (n : _) (v : _) (ofs : _) (y : C), (Instr.adcOfsCommit cid n v).wf = true ∧ (s.cell cid).now cid = (ofs, y) ∧ y.on
      R.ADC_CTL_LOCK = true ∧ (bits v 0 24 ≠ y.rd (R.ADC_ENT_OFS_OFFSET n) ∨ bits v 24 5 ≠ y.rd (R.ADC_ENT_OFS_SHIFT n))) ∧
    (∃ (s : State) (cid : _) (n : _) (v : _) (ofs : _) (y : C), (Instr.adcOfsCommit cid n v).wf = true ∧ (s.cell cid).now cid = (ofs, y) ∧ y.on
      R.ADC_CTL_LOCK = true ∧ bits v 0 24 = y.rd (R.ADC_ENT_OFS_OFFSET n) ∧ bits v 24 5 = y.rd (R.ADC_ENT_OFS_SHIFT n)) ∧
    (∃ (cid : _) (n : _), (Instr.adcResRead cid n).wf = true) :=
  ⟨⟨wCS (wC []), 0, 0, 0, by decide +kernel, by decide +kernel⟩,
    ⟨wCS ((wC [(R.CCP_RATE_MASTER, 1), ((R.ADC_ENT_CFG_STEP 0), 20), ((R.ADC_ENT_CFG_MODE 0), 1), ((R.ADC_ENT_CFG_ORDER 0), 1), ((R.ADC_ENT_TIME_DIV
      0), 1)]).setEnt 0 (fun e => { e with live := true })), 0, 0, 0, _, _, _, _, _, _, _, by decide +kernel, rfl, rfl, rfl, rfl, rfl,
      by decide +kernel, rfl, rfl, by decide +kernel⟩,
    ⟨wCS (wC [(R.ADC_CTL_LOCK, 0), ((R.ADC_ENT_CFG_EN 0), 0)]), 0, 0, 1 + 128 + 19 * 65536 + 4 * 2097152, _, _, _, by decide +kernel, rfl,
      by decide +kernel, by decide +kernel, by decide +kernel, by decide +kernel, by decide +kernel, rfl, by decide +kernel⟩,
    ⟨wCS (wC [(R.ADC_CTL_LOCK, 0), ((R.ADC_ENT_CFG_EN 0), 0)]), 0, 0, 1 + 19 * 65536 + 4 * 2097152, _, _, _, by decide +kernel, rfl,
      by decide +kernel, by decide +kernel, by decide +kernel, by decide +kernel, by decide +kernel, rfl, by decide +kernel⟩,
    ⟨wCS (wC [(R.ADC_CTL_LOCK, 0)]), 0, 0, 0, _, _, by decide +kernel, rfl, by decide +kernel⟩,
    ⟨wCS (wC [(R.ADC_CTL_LOCK, 1), (R.ADC_CTL_LOCK, 1)]), 0, 0, 1, _, _, by decide +kernel, rfl, by decide +kernel, by decide +kernel⟩,
    ⟨wCS (wC [(R.ADC_CTL_LOCK, 1)]), 0, 0, 0, _, _, by decide +kernel, rfl, by decide +kernel, by decide +kernel, by decide +kernel⟩,
    ⟨0, 0, by decide +kernel⟩⟩

/-- States and operands that meet the hypotheses of `Obligations.CaptureCommandsComplete`, clause by clause. -/
theorem wit_CaptureCommandsComplete :
    (∃ (s : State) (d : _) (v : U), s.u.deaf .capArm = false ∧ s.u.capRuns = false ∧ s.u.capRegion.1 + s.u.capRegion.2 ≤ 768 * 65536 ∧ s.u.on
      R.CAP_CTL_SINK = false ∧ d = s.u.capRegion.2 / s.u.capRowSize ∧ v = (s.u.wr R.CAP_GEOM_DEPTH d).wr R.CAP_GEOM_ROW16 (s.u.capRowSize / 16) ∧
      s.u.on R.CAP_CTL_MODE = true) ∧
    (∃ (s : State) (d : _) (v : U), s.u.deaf .capArm = false ∧ s.u.capRuns = false ∧ s.u.capRegion.1 + s.u.capRegion.2 ≤ 768 * 65536 ∧ s.u.on
      R.CAP_CTL_SINK = false ∧ d = s.u.capRegion.2 / s.u.capRowSize ∧ v = (s.u.wr R.CAP_GEOM_DEPTH d).wr R.CAP_GEOM_ROW16 (s.u.capRowSize / 16) ∧
      s.u.on R.CAP_CTL_MODE = false ∧ s.u.rd R.CAP_POST_POST ≤ d) ∧
    (∃ (s : State) (d : _) (v : U), s.u.deaf .capArm = false ∧ s.u.capRuns = false ∧ s.u.capRegion.1 + s.u.capRegion.2 ≤ 768 * 65536 ∧ s.u.on
      R.CAP_CTL_SINK = false ∧ d = s.u.capRegion.2 / s.u.capRowSize ∧ v = (s.u.wr R.CAP_GEOM_DEPTH d).wr R.CAP_GEOM_ROW16 (s.u.capRowSize / 16) ∧
      s.u.on R.CAP_CTL_MODE = false ∧ d < s.u.rd R.CAP_POST_POST) ∧
    (∃ (s : State), s.u.deaf .capArm = false ∧ s.u.capRuns = true) ∧
    (∃ (s : State), s.u.deaf .capArm = false ∧ s.u.capRuns = true) ∧
    (∃ (s : State), s.u.deaf .capArm = false ∧ s.u.capRuns = true) ∧
    (∃ (s : State), s.u.deaf .capArm = false ∧ s.u.capRuns = false ∧ 768 * 65536 < s.u.capRegion.1 + s.u.capRegion.2) ∧
    (∃ (s : State), s.u.deaf .capStop = false ∧ s.u.capRuns = true) ∧
    (∃ (s : State), s.u.deaf .capStop = false ∧ s.u.capRuns = false) ∧
    (∃ (s : State), s.u.deaf .capSwtrig = false ∧ s.u.capRuns = true) ∧
    (∃ (s : State), s.u.deaf .capSwtrig = false ∧ s.u.capRuns = false) ∧
    (∃ (s : State), s.u.deaf .streamFrameSend = false ∧ s.u.streamHas false = false) ∧
    (∃ (s : State) (n : _), s.u.deaf .streamFrameSend = false ∧ s.u.streamHas false = true ∧ n = min (max 1 (1456 / max 1 (s.u.rd R.CAP_GEOM_ROW16 *
      16))) s.u.cap.total ∧ (s.u.capState = 3 ∨ max 1 (1456 / max 1 (s.u.rd R.CAP_GEOM_ROW16 * 16)) ≤ s.u.cap.total)) ∧
    (∃ (s : State), s.u.deaf .streamFlashWrite = false ∧ s.u.streamHas true = false) ∧
    (∃ (s : State), s.u.deaf .streamFlashWrite = false ∧ s.u.streamHas true = true ∧ s.u.rd R.CAP_FLASH_LEN_LEN * 65536 < s.u.cap.flash * (s.u.rd
      R.CAP_GEOM_ROW16 * 16) + s.u.rd R.CAP_GEOM_ROW16 * 16) ∧
    (∃ (s : State) (w : _), s.u.deaf .streamFlashWrite = false ∧ s.u.streamHas true = true ∧ s.u.cap.flash * (s.u.rd R.CAP_GEOM_ROW16 * 16) + s.u.rd
      R.CAP_GEOM_ROW16 * 16 ≤ s.u.rd R.CAP_FLASH_LEN_LEN * 65536 ∧ w = s.u.reading s.time (s.u.streamSpans 1) U.streamStore ∧ w.flashFull = false) ∧
    (∃ (s : State) (w : _), s.u.deaf .streamFlashWrite = false ∧ s.u.streamHas true = true ∧ s.u.cap.flash * (s.u.rd R.CAP_GEOM_ROW16 * 16) + s.u.rd
      R.CAP_GEOM_ROW16 * 16 ≤ s.u.rd R.CAP_FLASH_LEN_LEN * 65536 ∧ w = s.u.reading s.time (s.u.streamSpans 1) U.streamStore ∧ w.flashFull = true) ∧
    (∃ (s : State), s.u.deaf .snpFire = false) ∧
    (∃ (u : U), u.snp.fired ≠ 0 ∧ u.blockHeld 2 = false ∧ u.snp.image = none ∧ u.on R.CAP_CTL_TRIG_SNP = false) ∧
    (∃ (s : State), s.u.deaf .snapshotCopyDone = false ∧ s.u.snp.image = none) ∧
    (∃ (s : State) (ws : _) (v : U), s.u.deaf .snapshotCopyDone = false ∧ s.u.snp.image = some ws ∧ v = ws.foldl (fun (u : U) w => u.memPut (u.rd
      R.SNP_BASE_BASE * 8192 + w.1) (toBytes 4 w.2)) s.u) ∧
    (∃ (s : State), s.u.deaf .snpTcmdGo = false ∧ (s.u.rd R.SNP_TCMD_CMD = 1 ∨ s.u.rd R.SNP_TCMD_CMD = 2) ∧ s.u.on R.SNP_TCMD_GO = false ∧ (s.u.rd
      R.DEP_CTL_LEAD + 4 : Nat) ≤ dnDiff (s.u.rd R.SNP_TCMD_DN_DN) s.time.dn ∧ dnDiff (s.u.rd R.SNP_TCMD_DN_DN) s.time.dn ≤ 65535) ∧
    (∃ (s : State), s.u.deaf .snpTcmdGo = false ∧ dnDiff (s.u.rd R.SNP_TCMD_DN_DN) s.time.dn < (s.u.rd R.DEP_CTL_LEAD + 4 : Nat)) ∧
    (∃ (s : State) (cid : _) (ofs : _) (y : C) (d : _), (Instr.ccpArm cid).wf = true ∧ (s.cell cid).now cid = (ofs, y) ∧ (y.rd R.CCP_STATE_STATE = 0 ∨
      y.rd R.CCP_STATE_STATE = 3) ∧ d = 524288 / y.rowBytes ∧ y.rd R.CCP_POST_POST ≤ d) ∧
    (∃ (s : State) (cid : _) (ofs : _) (y : C), (Instr.ccpArm cid).wf = true ∧ (s.cell cid).now cid = (ofs, y) ∧ (y.rd R.CCP_STATE_STATE = 1 ∨ y.rd
      R.CCP_STATE_STATE = 2)) ∧
    (∃ (s : State) (cid : _) (ofs : _) (y : C), (Instr.ccpStop cid).wf = true ∧ (s.cell cid).now cid = (ofs, y) ∧ (y.rd R.CCP_STATE_STATE = 1 ∨ y.rd
      R.CCP_STATE_STATE = 2)) ∧
    (∃ (s : State) (cid : _) (ofs : _) (y : C), (Instr.ccpStop cid).wf = true ∧ (s.cell cid).now cid = (ofs, y) ∧ (y.rd R.CCP_STATE_STATE = 0 ∨ y.rd
      R.CCP_STATE_STATE = 3)) ∧
    (∃ (s : State) (cid : _), (Instr.ccpSwtrig cid).wf = true ∧ ((s.cell cid).rd R.CCP_STATE_STATE = 1 ∨ (s.cell cid).rd R.CCP_STATE_STATE = 2)) ∧
    (∃ (s : State) (cid : _), (Instr.ccpSwtrig cid).wf = true ∧ (s.cell cid).rd R.CCP_STATE_STATE = 0) :=
  ⟨⟨wS (wU [(R.CAP_CTL_SINK, 0), (R.CAP_CTL_MODE, 1)]), _, _, by decide +kernel, by decide +kernel, by decide +kernel, by decide +kernel, rfl, rfl,
      by decide +kernel⟩,
    ⟨wS (wU [(R.CAP_CTL_SINK, 0), (R.CAP_CTL_MODE, 0)]), _, _, by decide +kernel, by decide +kernel, by decide +kernel, by decide +kernel, rfl, rfl,
      by decide +kernel, by decide +kernel⟩,
    ⟨wS (wU [(R.CAP_CTL_SINK, 0), (R.CAP_CTL_MODE, 0), (R.CAP_POST_POST, 5000), (R.CAP_REGION_SIZE, 1)]), _, _, by decide +kernel, by decide +kernel,
      by decide +kernel, by decide +kernel, rfl, rfl, by decide +kernel, by decide +kernel⟩,
    ⟨wS (wU [(R.CAP_STATE_STATE, 1)]), by decide +kernel, by decide +kernel⟩,
    ⟨wS (wU [(R.CAP_STATE_STATE, 2)]), by decide +kernel, by decide +kernel⟩,
    ⟨wS (wU [(R.CAP_STATE_STATE, 4)]), by decide +kernel, by decide +kernel⟩,
    ⟨wS (wU [(R.CAP_REGION_BASE, 768), (R.CAP_REGION_SIZE, 1)]), by decide +kernel, by decide +kernel, by decide +kernel⟩,
    ⟨wS (wU [(R.CAP_STATE_STATE, 1)]), by decide +kernel, by decide +kernel⟩,
    ⟨wS (wU []), by decide +kernel, by decide +kernel⟩,
    ⟨wS (wU [(R.CAP_STATE_STATE, 1)]), by decide +kernel, by decide +kernel⟩,
    ⟨wS (wU []), by decide +kernel, by decide +kernel⟩,
    ⟨wS (wU []), by decide +kernel, by decide +kernel⟩,
    ⟨wS ((wU [(R.CAP_STATE_STATE, 3)]).withCap (fun c => { c with total := 1 })), _, by decide +kernel, by decide +kernel, rfl, by decide +kernel⟩,
    ⟨wS (wU []), by decide +kernel, by decide +kernel⟩,
    ⟨wS ((wU [(R.CAP_STATE_STATE, 3), (R.CAP_CTL_SINK, 1), (R.CAP_GEOM_ROW16, 1)]).withCap (fun c => { c with total := 1, flash := 65535 })),
      by decide +kernel, by decide +kernel, by decide +kernel⟩,
    ⟨wS ((wU [(R.CAP_CTL_SINK, 1), (R.CAP_STATE_STATE, 4), (R.CAP_GEOM_ROW16, 1), (R.CAP_FLASH_LEN_LEN, 1)]).withCap (fun c =>
      { c with total := 1 })), _, by decide +kernel, by decide +kernel, by decide +kernel, rfl, by decide +kernel⟩,
    ⟨wS ((wU [(R.CAP_CTL_SINK, 1), (R.CAP_STATE_STATE, 4), (R.CAP_GEOM_ROW16, 1), (R.CAP_FLASH_LEN_LEN, 1)]).withCap (fun c =>
      { c with total := 1, flash := 4095 })), _, by decide +kernel, by decide +kernel, by decide +kernel, rfl, by decide +kernel⟩,
    ⟨wS (wU []), by decide +kernel⟩,
    ⟨{ (wU [(R.CAP_CTL_TRIG_SNP, 0)]) with snp := { fired := 1, image := none } }, by decide +kernel, by decide +kernel, by decide +kernel,
      by decide +kernel⟩,
    ⟨wS (wU []), by decide +kernel, by decide +kernel⟩,
    ⟨wS ({ (wU []) with snp := { fired := 0, image := some [(0, 7)] } }), _, _, by decide +kernel, rfl, rfl⟩,
    ⟨wS (wU [(R.SNP_TCMD_GO, 0), (R.SNP_TCMD_CMD, 1), (R.SNP_TCMD_DN_DN, 65535)]), by decide +kernel, by decide +kernel, by decide +kernel,
      by decide +kernel, by decide +kernel⟩,
    ⟨wS (wU []), by decide +kernel, by decide +kernel⟩,
    ⟨wCS (wC [(R.CCP_STATE_STATE, 3)]), 0, _, _, _, by decide +kernel, rfl, by decide +kernel, rfl, by decide +kernel⟩,
    ⟨wCS (wC [(R.CCP_STATE_STATE, 2)]), 0, _, _, by decide +kernel, rfl, by decide +kernel⟩,
    ⟨wCS (wC [(R.CCP_STATE_STATE, 1)]), 0, _, _, by decide +kernel, rfl, by decide +kernel⟩,
    ⟨wCS (wC []), 0, _, _, by decide +kernel, rfl, by decide +kernel⟩,
    ⟨wCS (wC [(R.CCP_STATE_STATE, 2)]), 0, by decide +kernel, by decide +kernel⟩,
    ⟨wCS (wC [(R.CCP_STATE_STATE, 0)]), 0, by decide +kernel, by decide +kernel⟩⟩

/-- States and operands that meet the hypotheses of `Obligations.RunCommandsComplete`, clause by clause. -/
theorem wit_RunCommandsComplete :
    (∃ (s : State) (core : _) (v : _) (th : _), (Instr.schWaitRead core).wf = true ∧ s.u.held = false ∧ s.u.coreUp core = true ∧ s.u.sch.waiting.find?
      core = none ∧ s.u.sch.runs.find? core = none ∧ v = (s.u.wr (R.SCH_CORE_STAT_PREEMPT core) 0).withSch (fun x =>
      { x with meip := clrBit x.meip core }) ∧ v.bestReady core = some th) ∧
    (∃ (s : State) (core : _) (v : _), (Instr.schWaitRead core).wf = true ∧ s.u.held = false ∧ s.u.coreUp core = true ∧ s.u.sch.waiting.find? core =
      none ∧ s.u.sch.runs.find? core = none ∧ v = (s.u.wr (R.SCH_CORE_STAT_PREEMPT core) 0).withSch (fun x => { x with meip := clrBit x.meip core }) ∧
      v.bestReady core = none) ∧
    (∃ (s : State) (core : _) (r : Run) (v : _), (Instr.schWaitRead core).wf = true ∧ s.u.held = false ∧ s.u.coreUp core = true ∧
      s.u.sch.waiting.find? core = none ∧ s.u.sch.runs.find? core = some r ∧ v = (((s.u.endRun s.time core 0).inc (R.SCH_CORE_CNT_IMPLICIT_CNT
      core)).wr (R.SCH_CORE_STAT_PREEMPT core) 0).withSch (fun x => { x with meip := clrBit x.meip core }) ∧ v.bestReady core = none) ∧
    (∃ (s : State) (core : _), (Instr.schWaitRead core).wf = true ∧ s.u.held = false ∧ s.u.coreUp core = false) ∧
    (∃ (u : U) (core : _) (th : _), core < 16 ∧ th < 256 ∧ (∀ i, u.deliverable th = some i → i.flow < 64)) ∧
    (∃ (s : State) (core : _) (c : _), (c = Instr.endWait core ∨ c = Instr.endWaitUntil core ∨ c = Instr.endYield core ∨ c = Instr.endExit core) ∧
      c.wf = true ∧ s.u.held = false ∧ s.u.sch.runs.find? core = none) ∧
    (∃ (s : State) (core : _) (c : _), (c = Instr.endWait core ∨ c = Instr.endWaitUntil core ∨ c = Instr.endYield core ∨ c = Instr.endExit core) ∧
      c.wf = true ∧ s.u.held = false ∧ s.u.sch.runs.find? core = none) ∧
    (∃ (s : State) (core : _) (c : _), (c = Instr.endWait core ∨ c = Instr.endWaitUntil core ∨ c = Instr.endYield core ∨ c = Instr.endExit core) ∧
      c.wf = true ∧ s.u.held = false ∧ s.u.sch.runs.find? core = none) ∧
    (∃ (s : State) (core : _) (c : _), (c = Instr.endWait core ∨ c = Instr.endWaitUntil core ∨ c = Instr.endYield core ∨ c = Instr.endExit core) ∧
      c.wf = true ∧ s.u.held = false ∧ s.u.sch.runs.find? core = none) ∧
    (∃ (s : State) (core : _) (r : Run) (v : _), (Instr.endWait core).wf = true ∧ s.u.held = false ∧ s.u.sch.runs.find? core = some r ∧ v =
      (s.u.closeRun s.time core r).wr (R.SCH_THR_STAT_STATE r.thread) 1 ∧ v.on (R.SCH_THR_STAT_WAKE r.thread) = false ∧ v.sch.plain.find? r.thread =
      none) ∧
    (∃ (s : State) (core : _) (r : Run) (v : _), (Instr.endWait core).wf = true ∧ s.u.held = false ∧ s.u.sch.runs.find? core = some r ∧ v =
      (s.u.closeRun s.time core r).wr (R.SCH_THR_STAT_STATE r.thread) 1 ∧ v.on (R.SCH_THR_STAT_WAKE r.thread) = true) ∧
    (∃ (s : State) (core : _) (r : Run) (v : _) (d : _), (Instr.endWaitUntil core).wf = true ∧ s.u.held = false ∧ s.u.sch.runs.find? core = some r ∧ v
      = (s.u.closeRun s.time core r).wr (R.SCH_THR_STAT_STATE r.thread) 1 ∧ v.on (R.SCH_THR_STAT_WAKE r.thread) = false ∧ v.sch.plain.find? r.thread =
      none ∧ d = v.rd (R.SCH_END_DN_DN core) ∧ 0 < dnDiff d s.time.dn) ∧
    (∃ (s : State) (core : _) (r : Run) (v : _) (d : _), (Instr.endWaitUntil core).wf = true ∧ s.u.held = false ∧ s.u.sch.runs.find? core = some r ∧ v
      = (s.u.closeRun s.time core r).wr (R.SCH_THR_STAT_STATE r.thread) 1 ∧ v.on (R.SCH_THR_STAT_WAKE r.thread) = false ∧ v.sch.plain.find? r.thread =
      none ∧ d = v.rd (R.SCH_END_DN_DN core) ∧ dnDiff d s.time.dn ≤ 0) ∧
    (∃ (s : State) (core : _) (r : Run) (v : _), (Instr.endYield core).wf = true ∧ s.u.held = false ∧ s.u.sch.runs.find? core = some r ∧ v =
      (s.u.closeRun s.time core r).wr (R.SCH_THR_STAT_STATE r.thread) 1) ∧
    (∃ (s : State) (core : _) (r : Run) (v : _), (Instr.endExit core).wf = true ∧ s.u.held = false ∧ s.u.sch.runs.find? core = some r ∧ v =
      (s.u.closeRun s.time core r).wr (R.SCH_THR_STAT_STATE r.thread) 1) ∧
    (∃ (core : _) (r : Run), r.item = none ∧ core < 16 ∧ r.thread < 256) ∧
    (∃ (s : State) (f : _) (i : _), (Instr.releaseResume f).wf = true ∧ s.u.held = false ∧ s.u.sch.items.find? (fun i => i.flow == f && i.state ==
      .held && i.seq == s.u.rd (R.SCH_FLOW_SEQ_REL_SEQ f)) = some i ∧ s.u.ringRoom f = true ∧ s.u.rd (R.SCH_FLOW_CFG_NEXT f) = 0) ∧
    (∃ (s : State) (f : _), (Instr.releaseResume f).wf = true ∧ s.u.held = false ∧ s.u.sch.items.find? (fun i => i.flow == f && i.state == .held &&
      i.seq == s.u.rd (R.SCH_FLOW_SEQ_REL_SEQ f)) = none) :=
  ⟨⟨wS ((wU [((R.SCH_THR_CFG_AFFINITY 255), 65535)]).withSch (fun x => { x with ready := [255] })), 15, _, 255, by decide +kernel, by decide +kernel,
      by decide +kernel, by decide +kernel, by decide +kernel, rfl, by decide +kernel⟩,
    ⟨wS (wU []), 15, _, by decide +kernel, by decide +kernel, by decide +kernel, by decide +kernel, by decide +kernel, rfl, by decide +kernel⟩,
    ⟨wS ((wU []).withSch (fun x => { x with runs := [(0, ⟨1, none, 0, false⟩)] })), 0, ⟨1, none, 0, false⟩, _, by decide +kernel, by decide +kernel,
      by decide +kernel, by decide +kernel, rfl, rfl, by decide +kernel⟩,
    ⟨wS (wU [((R.SCH_CORE_STAT_STATE 0), 2)]), 0, by decide +kernel, by decide +kernel, by decide +kernel⟩,
    ⟨(wU []), 15, 255, by decide +kernel, by decide +kernel, (fun i h => by cases h)⟩,
    ⟨wS (wU []), 0, .endWait 0, by decide +kernel, by decide +kernel, by decide +kernel, by decide +kernel⟩,
    ⟨wS (wU []), 0, .endWaitUntil 0, by decide +kernel, by decide +kernel, by decide +kernel, by decide +kernel⟩,
    ⟨wS (wU []), 0, .endYield 0, by decide +kernel, by decide +kernel, by decide +kernel, by decide +kernel⟩,
    ⟨wS (wU []), 0, .endExit 0, by decide +kernel, by decide +kernel, by decide +kernel, by decide +kernel⟩,
    ⟨wS ((wU []).withSch (fun x => { x with runs := [(0, ⟨1, none, 0, false⟩)] })), 0, ⟨1, none, 0, false⟩, _, by decide +kernel, by decide +kernel,
      rfl, rfl, by decide +kernel, by decide +kernel⟩,
    ⟨wS ((wU [((R.SCH_THR_STAT_WAKE 1), 1)]).withSch (fun x => { x with runs := [(0, ⟨1, none, 0, false⟩)] })), 0, ⟨1, none, 0, false⟩, _,
      by decide +kernel, by decide +kernel, rfl, rfl, by decide +kernel⟩,
    ⟨wS ((wU [((R.SCH_END_DN_DN 0), 1)]).withSch (fun x => { x with runs := [(0, ⟨1, none, 0, false⟩)] })), 0, ⟨1, none, 0, false⟩, _, _,
      by decide +kernel, by decide +kernel, rfl, rfl, by decide +kernel, by decide +kernel, rfl, by decide +kernel⟩,
    ⟨wS ((wU [((R.SCH_END_DN_DN 0), 0)]).withSch (fun x => { x with runs := [(0, ⟨1, none, 0, false⟩)] })), 0, ⟨1, none, 0, false⟩, _, _,
      by decide +kernel, by decide +kernel, rfl, rfl, by decide +kernel, by decide +kernel, rfl, by decide +kernel⟩,
    ⟨wS ((wU []).withSch (fun x => { x with runs := [(0, ⟨1, none, 0, false⟩)] })), 0, ⟨1, none, 0, false⟩, _, by decide +kernel, by decide +kernel,
      rfl, rfl⟩,
    ⟨wS ((wU []).withSch (fun x => { x with runs := [(0, ⟨1, none, 0, false⟩)] })), 0, ⟨1, none, 0, false⟩, _, by decide +kernel, by decide +kernel,
      rfl, rfl⟩,
    ⟨15, ⟨255, none, 0, false⟩, by decide +kernel, by decide +kernel, by decide +kernel⟩,
    ⟨wS ((wU [((R.SCH_FLOW_CFG_NEXT 1), 0)]).withSch (fun x => { x with items := [⟨1, 0, 0, 0, 1, .held, 0, 0, false⟩] })), 1, _, by decide +kernel,
      by decide +kernel, rfl, by decide +kernel, by decide +kernel⟩,
    ⟨wS (wU []), 1, by decide +kernel, by decide +kernel, by decide +kernel⟩⟩

/-- States and operands that meet the hypotheses of `Obligations.SchedulerCommandsComplete`, clause by clause. -/
theorem wit_SchedulerCommandsComplete :
    (∃ (s : State) (core : _) (th : _) (c : _), (c = Instr.schCreate core th ∨ c = Instr.schDestroy core th ∨ c = Instr.schReady core th none ∨ c =
      Instr.schCancel core th ∨ c = Instr.schRestart core th) ∧ c.wf = true ∧ s.u.held = false ∧ (th = 0 ∨ 256 ≤ th)) ∧
    (∃ (s : State) (core : _) (th : _) (c : _), (c = Instr.schCreate core th ∨ c = Instr.schDestroy core th ∨ c = Instr.schReady core th none ∨ c =
      Instr.schCancel core th ∨ c = Instr.schRestart core th) ∧ c.wf = true ∧ s.u.held = false ∧ (th = 0 ∨ 256 ≤ th)) ∧
    (∃ (s : State) (core : _) (th : _) (c : _), (c = Instr.schCreate core th ∨ c = Instr.schDestroy core th ∨ c = Instr.schReady core th none ∨ c =
      Instr.schCancel core th ∨ c = Instr.schRestart core th) ∧ c.wf = true ∧ s.u.held = false ∧ (th = 0 ∨ 256 ≤ th)) ∧
    (∃ (s : State) (core : _) (th : _) (c : _), (c = Instr.schCreate core th ∨ c = Instr.schDestroy core th ∨ c = Instr.schReady core th none ∨ c =
      Instr.schCancel core th ∨ c = Instr.schRestart core th) ∧ c.wf = true ∧ s.u.held = false ∧ (th = 0 ∨ 256 ≤ th)) ∧
    (∃ (s : State) (core : _) (th : _) (c : _), (c = Instr.schCreate core th ∨ c = Instr.schDestroy core th ∨ c = Instr.schReady core th none ∨ c =
      Instr.schCancel core th ∨ c = Instr.schRestart core th) ∧ c.wf = true ∧ s.u.held = false ∧ (th = 0 ∨ 256 ≤ th)) ∧
    (∃ (s : State) (core : _) (th : _), (Instr.schCreate core th).wf = true ∧ s.u.held = false ∧ 0 < th ∧ th < 256 ∧ s.u.thr th = 0) ∧
    (∃ (s : State) (core : _) (th : _), (Instr.schDestroy core th).wf = true ∧ s.u.held = false ∧ 0 < th ∧ th < 256 ∧ (s.u.thr th = 1 ∨ s.u.thr th =
      2)) ∧
    (∃ (s : State) (core : _) (th : _), (Instr.schReady core th none).wf = true ∧ s.u.held = false ∧ 0 < th ∧ th < 256 ∧ s.u.thr th = 1) ∧
    (∃ (s : State) (core : _) (th : _), (Instr.schReady core th none).wf = true ∧ s.u.held = false ∧ 0 < th ∧ th < 256 ∧ s.u.thr th = 3) ∧
    (∃ (s : State) (core : _) (th : _) (other : _), (Instr.schReady core th (some other)).wf = true ∧ s.u.held = false ∧ 0 < th ∧ th < 256 ∧ s.u.thr
      th = 1) ∧
    (∃ (s : State) (core : _) (th : _), (Instr.schCancel core th).wf = true ∧ s.u.held = false ∧ 0 < th ∧ th < 256 ∧ s.u.thr th = 2) ∧
    (∃ (s : State) (core : _) (th : _), (Instr.schCancel core th).wf = true ∧ s.u.held = false ∧ 0 < th ∧ th < 256 ∧ s.u.thr th = 3) ∧
    (∃ (s : State) (core : _) (th : _), (Instr.schRestart core th).wf = true ∧ s.u.held = false ∧ 0 < th ∧ th < 256 ∧ s.u.thr th = 4) ∧
    (∃ (s : State) (core : _) (th : _), (Instr.schRestart core th).wf = true ∧ s.u.held = false ∧ 0 < th ∧ th < 256 ∧ s.u.thr th ≠ 4) ∧
    (∃ (s : State) (core : _) (f : _), (Instr.schPost core f).wf = true ∧ s.u.held = false ∧ (f = 0 ∨ 64 ≤ f)) ∧
    (∃ (s : State) (core : _) (f : _) (th : _) (q : _) (v : _), (Instr.schPost core f).wf = true ∧ s.u.held = false ∧ 0 < f ∧ f < 64 ∧ th = s.u.rd
      (R.SCH_FLOW_CFG_DEF_THREAD f) ∧ th ≠ 0 ∧ s.u.queueItem s.time f th 0x100 (s.u.rd (R.SCH_CMD_DATA_DATA core)) false = (some q, v)) ∧
    (∃ (s : State) (core : _) (f : _), (Instr.schPost core f).wf = true ∧ s.u.held = false ∧ 0 < f ∧ f < 64 ∧ (s.u.rd (R.SCH_FLOW_CFG_DEF_THREAD f) =
      0 ∨ 1024 ≤ s.u.sch.items.length)) ∧
    (∃ (s : State) (core : _) (x : _), (Instr.schRetireCore core x).wf = true ∧ s.u.held = false ∧ x < 16 ∧ s.u.sch.runs.find? x = none ∧ s.u.coreUp x
      = true) ∧
    (∃ (s : State) (core : _) (x : _), (Instr.schRetireCore core x).wf = true ∧ s.u.held = false ∧ x < 16 ∧ (s.u.sch.runs.find? x).isSome = true) ∧
    (∃ (s : State) (core : _) (x : _), (Instr.schRestoreCore core x).wf = true ∧ s.u.held = false ∧ x < 16 ∧ s.u.rd (R.SCH_CORE_STAT_STATE x) = 2) ∧
    (∃ (s : State) (core : _) (x : _), (Instr.schRestoreCore core x).wf = true ∧ s.u.held = false ∧ x < 16 ∧ s.u.rd (R.SCH_CORE_STAT_STATE x) ≠ 2) ∧
    (∃ (core : _), core < 16) ∧
    (∃ (s : State) (core : _), (Instr.schCmdResRead core).wf = true ∧ s.u.held = false ∧ core ∉ s.u.sch.resReady) ∧
    (∃ (s : State) (core : _), (Instr.schCmdResRead core).wf = true ∧ s.u.held = false ∧ core ∈ s.u.sch.resReady) ∧
    (∃ (s : State) (core : _) (v : _), (Instr.schIpiWrite core v).wf = true ∧ s.u.held = false) ∧
    (∃ (s : State) (n : _) (v : _), (Instr.schSrcWrite n v).wf = true ∧ s.u.held = false ∧ (s.u.rd (R.SCH_SRC_FLOW n) ≠ bits v 0 6 ∨ s.u.rd
      (R.SCH_SRC_THREAD n) ≠ bits v 8 8) ∧ s.u.on (R.SCH_SRC_PEND n) = false) ∧
    (∃ (s : State) (n : _) (v : _), (Instr.schSrcWrite n v).wf = true ∧ s.u.held = false ∧ (s.u.rd (R.SCH_SRC_FLOW n) ≠ bits v 0 6 ∨ s.u.rd
      (R.SCH_SRC_THREAD n) ≠ bits v 8 8) ∧ s.u.on (R.SCH_SRC_PEND n) = true) ∧
    (∃ (s : State), s.u.held = false ∧ (∀ th < 256, th ≠ 0 → s.u.on (R.SCH_THR_STAT_DL_VALID th) = true → dnDiff (s.time.lastUs % 2 ^ 32) (s.u.rd
      (R.SCH_THR_DL_DN th)) < 0)) ∧
    (∃ (s : State) (th : _), s.u.held = false ∧ 0 < th ∧ th < 256 ∧ s.u.on (R.SCH_THR_STAT_DL_VALID th) = true ∧ 0 ≤ dnDiff (s.time.lastUs % 2 ^ 32)
      (s.u.rd (R.SCH_THR_DL_DN th)) ∧ (∀ x < 256, x ≠ 0 → x ≠ th → s.u.on (R.SCH_THR_STAT_DL_VALID x) = true → dnDiff (s.time.lastUs % 2 ^ 32) (s.u.rd
      (R.SCH_THR_DL_DN x)) < 0)) ∧
    (∃ (s : State) (core : _) (r : _), (Instr.longRun core).wf = true ∧ s.u.held = false ∧ s.u.sch.runs.find? core = some r ∧ s.u.rd R.SCH_CTL_RUN_MAX
      ≠ 0 ∧ r.long = false ∧ s.u.rd R.SCH_CTL_RUN_MAX * 16000 < s.time.t16 - r.start) ∧
    (∃ (s : State) (core : _), (Instr.longRun core).wf = true ∧ s.u.held = false ∧ s.u.sch.runs.find? core = none) ∧
    (∃ (s : State) (core : _) (p : _), (Instr.paceCheck core p).wf = true ∧ s.u.held = false ∧ s.u.sch.runs.find? core = none) ∧
    (∃ (s : State) (core : _) (p : _) (r : _) (v : _), (Instr.paceCheck core p).wf = true ∧ s.u.held = false ∧ s.u.sch.runs.find? core = some r ∧ v =
      (s.u.wr (R.SCH_CORE_PACE_LAST core) (min p 2047)).wr (R.SCH_CORE_PACE_MIN core) (min (s.u.rd (R.SCH_CORE_PACE_MIN core)) (min p 2047)) ∧ p <
      s.u.rd R.SCH_CTL_PACE_LIM) ∧
    (∃ (s : State) (core : _) (p : _) (r : _) (v : _), (Instr.paceCheck core p).wf = true ∧ s.u.held = false ∧ s.u.sch.runs.find? core = some r ∧ v =
      (s.u.wr (R.SCH_CORE_PACE_LAST core) (min p 2047)).wr (R.SCH_CORE_PACE_MIN core) (min (s.u.rd (R.SCH_CORE_PACE_MIN core)) (min p 2047)) ∧ s.u.rd
      R.SCH_CTL_PACE_LIM ≤ p) ∧
    (∃ (s : State), s.u.held = false ∧ s.u.Calm) ∧
    (∃ (s : State) (core : _) (kind : _), (Instr.coreUncorrError core kind).wf = true ∧ s.u.held = false ∧ s.u.coreUp core = false) ∧
    (∃ (s : State) (core : _) (kind : _), (Instr.coreUncorrError core kind).wf = true ∧ s.u.held = false ∧ s.u.coreUp core = true ∧ kind = 0) ∧
    (∃ (s : State) (core : _) (kind : _), (Instr.coreUncorrError core kind).wf = true ∧ s.u.held = false ∧ s.u.coreUp core = true ∧ kind = 1) ∧
    (∃ (s : State) (core : _) (kind : _), (Instr.coreUncorrError core kind).wf = true ∧ s.u.held = false ∧ s.u.coreUp core = true ∧ kind = 2) :=
  ⟨⟨wS (wU []), 0, 256, .schCreate 0 256, by decide +kernel, by decide +kernel, by decide +kernel, by decide +kernel⟩,
    ⟨wS (wU []), 0, 0, .schDestroy 0 0, by decide +kernel, by decide +kernel, by decide +kernel, by decide +kernel⟩,
    ⟨wS (wU []), 0, 256, .schReady 0 256 none, by decide +kernel, by decide +kernel, by decide +kernel, by decide +kernel⟩,
    ⟨wS (wU []), 0, 0, .schCancel 0 0, by decide +kernel, by decide +kernel, by decide +kernel, by decide +kernel⟩,
    ⟨wS (wU []), 0, 256, .schRestart 0 256, by decide +kernel, by decide +kernel, by decide +kernel, by decide +kernel⟩,
    ⟨wS (wU [((R.SCH_THR_STAT_STATE 255), 0)]), 0, 255, by decide +kernel, by decide +kernel, by decide +kernel, by decide +kernel, by decide +kernel⟩,
    ⟨wS (wU [((R.SCH_THR_STAT_STATE 1), 2)]), 0, 1, by decide +kernel, by decide +kernel, by decide +kernel, by decide +kernel, by decide +kernel⟩,
    ⟨wS (wU [((R.SCH_THR_STAT_STATE 1), 1)]), 0, 1, by decide +kernel, by decide +kernel, by decide +kernel, by decide +kernel, by decide +kernel⟩,
    ⟨wS (wU [((R.SCH_THR_STAT_STATE 1), 3)]), 0, 1, by decide +kernel, by decide +kernel, by decide +kernel, by decide +kernel, by decide +kernel⟩,
    ⟨wS (wU [((R.SCH_THR_STAT_STATE 1), 1)]), 0, 1, 1, by decide +kernel, by decide +kernel, by decide +kernel, by decide +kernel, by decide +kernel⟩,
    ⟨wS (wU [((R.SCH_THR_STAT_STATE 1), 2)]), 0, 1, by decide +kernel, by decide +kernel, by decide +kernel, by decide +kernel, by decide +kernel⟩,
    ⟨wS (wU [((R.SCH_THR_STAT_STATE 1), 3)]), 0, 1, by decide +kernel, by decide +kernel, by decide +kernel, by decide +kernel, by decide +kernel⟩,
    ⟨wS (wU [((R.SCH_THR_STAT_STATE 1), 4)]), 0, 1, by decide +kernel, by decide +kernel, by decide +kernel, by decide +kernel, by decide +kernel⟩,
    ⟨wS (wU []), 0, 1, by decide +kernel, by decide +kernel, by decide +kernel, by decide +kernel, by decide +kernel⟩,
    ⟨wS (wU []), 0, 64, by decide +kernel, by decide +kernel, by decide +kernel⟩,
    ⟨wS (wU [((R.SCH_FLOW_CFG_DEF_THREAD 63), 1)]), 0, 63, 1, _, _, by decide +kernel, by decide +kernel, by decide +kernel, by decide +kernel,
      by decide +kernel, by decide +kernel, rfl⟩,
    ⟨wS (wU []), 0, 1, by decide +kernel, by decide +kernel, by decide +kernel, by decide +kernel, by decide +kernel⟩,
    ⟨wS (wU []), 0, 0, by decide +kernel, by decide +kernel, by decide +kernel, by decide +kernel, by decide +kernel⟩,
    ⟨wS ((wU []).withSch (fun x => { x with runs := [(0, ⟨1, none, 0, false⟩)] })), 0, 0, by decide +kernel, by decide +kernel, by decide +kernel,
      by decide +kernel⟩,
    ⟨wS (wU [((R.SCH_CORE_STAT_STATE 15), 2)]), 0, 15, by decide +kernel, by decide +kernel, by decide +kernel, by decide +kernel⟩,
    ⟨wS (wU []), 0, 15, by decide +kernel, by decide +kernel, by decide +kernel, by decide +kernel⟩,
    ⟨15, by decide +kernel⟩,
    ⟨wS (wU []), 0, by decide +kernel, by decide +kernel, by decide +kernel⟩,
    ⟨wS ((wU []).withSch (fun x => { x with resReady := [0] })), 0, by decide +kernel, by decide +kernel, by decide +kernel⟩,
    ⟨wS (wU []), 0, 0, by decide +kernel, by decide +kernel⟩,
    ⟨wS (wU [((R.SCH_SRC_PEND 0), 0)]), 0, 1, by decide +kernel, by decide +kernel, by decide +kernel, by decide +kernel⟩,
    ⟨wS (wU [((R.SCH_SRC_PEND 0), 1)]), 0, 256, by decide +kernel, by decide +kernel, by decide +kernel, by decide +kernel⟩,
    ⟨wS (wU []), by decide +kernel, by decide +kernel⟩,
    ⟨wS (wU [((R.SCH_THR_STAT_DL_VALID 255), 1), ((R.SCH_THR_DL_DN 255), 0)]), 255, by decide +kernel, by decide +kernel, by decide +kernel,
      by decide +kernel, by decide +kernel, by decide +kernel⟩,
    ⟨{ wS ((wU [(R.SCH_CTL_RUN_MAX, 1)]).withSch (fun x => { x with runs := [(0, ⟨1, none, 0, false⟩)] })) with time := { TimeBase.start 0 with ns := 1001 } },
      0, _, by decide +kernel, by decide +kernel, rfl, by decide +kernel, by decide +kernel, by decide +kernel⟩,
    ⟨wS (wU []), 0, by decide +kernel, by decide +kernel, by decide +kernel⟩,
    ⟨wS (wU []), 0, 0, by decide +kernel, by decide +kernel, by decide +kernel⟩,
    ⟨wS ((wU [(R.SCH_CTL_PACE_LIM, 10)]).withSch (fun x => { x with runs := [(0, ⟨1, none, 0, false⟩)] })), 0, 9, _, _, by decide +kernel,
      by decide +kernel, rfl, rfl, by decide +kernel⟩,
    ⟨wS ((wU [(R.SCH_CTL_PACE_LIM, 10)]).withSch (fun x => { x with runs := [(0, ⟨1, none, 0, false⟩)] })), 0, 10, _, _, by decide +kernel,
      by decide +kernel, rfl, rfl, by decide +kernel⟩,
    ⟨wS (wU []), by decide +kernel, (by constructor <;> decide +kernel)⟩,
    ⟨wS (wU [((R.SCH_CORE_STAT_STATE 0), 2)]), 0, 0, by decide +kernel, by decide +kernel, by decide +kernel⟩,
    ⟨wS (wU []), 0, 0, by decide +kernel, by decide +kernel, by decide +kernel, by decide +kernel⟩,
    ⟨wS (wU []), 0, 1, by decide +kernel, by decide +kernel, by decide +kernel, by decide +kernel⟩,
    ⟨wS (wU []), 0, 2, by decide +kernel, by decide +kernel, by decide +kernel, by decide +kernel⟩⟩

/-- States and operands that meet the hypotheses of `Obligations.MemoryErrorCommandsComplete`, clause by clause. -/
theorem wit_MemoryErrorCommandsComplete :
    (∃ (s : State), s.u.held = false) ∧
    (∃ (s : State) (h : _) (n : _) (still : _), (Instr.scrubRead (.hub h) n still).wf = true ∧ (s.hub h).deaf (.scrubRead (.hub h) n still) = false) ∧
    (∃ (s : State) (cid : _) (n : _) (still : _) (ofs : _) (y : C), (Instr.scrubRead (.cell cid) n still).wf = true ∧ (s.cell cid).now cid = (ofs, y)) ∧
    (∃ (io : MemIO) (b : _) (n : _), io.rd (R.SYS_INJ_ONCE b) ≠ 1 ∧ io.rd (R.SYS_INJ_CONT b) ≠ 1 ∧ io.hid.scrub / 16 * 16 ∉ io.hid.poison ∧ 2 ≤ n) ∧
    (∃ (s : State) (addr : _), (Instr.memoryUncorrRead .unit addr none).wf = true ∧ s.u.held = false) ∧
    (∃ (s : State) (addr : _) (c : _), (Instr.memoryUncorrRead .unit addr (some c)).wf = true ∧ s.u.held = false) ∧
    (∃ (s : State) (h : _) (addr : _) (c : _), (Instr.memoryUncorrRead (.hub h) addr c).wf = true ∧ (s.hub h).deaf (.memoryUncorrRead (.hub h) addr c)
      = false) ∧
    (∃ (s : State) (cid : _) (addr : _) (c : _) (ofs : _) (y : C), (Instr.memoryUncorrRead (.cell cid) addr c).wf = true ∧ (s.cell cid).now cid =
      (ofs, y)) ∧
    (∃ (s : State) (a : _) (v : _), (Instr.sysInjWrite .unit a v).wf = true ∧ s.u.held = false) ∧
    (∃ (s : State) (h : _) (a : _) (v : _), (Instr.sysInjWrite (.hub h) a v).wf = true ∧ (s.hub h).deaf (.sysInjWrite (.hub h) a v) = false) ∧
    (∃ (s : State) (cid : _) (a : _) (v : _) (ofs : _) (y : C), (Instr.sysInjWrite (.cell cid) a v).wf = true ∧ (s.cell cid).now cid = (ofs, y)) ∧
    (∃ (io : MemIO) (b : _) (v : _), io.rd (R.SYS_INJ_CONT b) ≠ 1 ∧ bitAt v 12 = false ∧ bitAt v 11 = true ∧ io.rd (R.SYS_INJ_ONCE b) ≠ 1 ∧ (bits v 0
      4 = 2 ∨ bits v 0 4 = 3 ∨ bits v 0 4 = 5 ∨ bits v 0 4 = 6)) ∧
    (∃ (io : MemIO) (b : _) (v : _), io.rd (R.SYS_INJ_CONT b) ≠ 1 ∧ bitAt v 12 = false ∧ bitAt v 11 = true ∧ io.rd (R.SYS_INJ_ONCE b) ≠ 1 ∧ bits v 0 4
      ≤ 8 ∧ 0 < bits v 9 2 ∧ bits v 9 2 < 3) ∧
    (∃ (s : State), s.u.held = false ∧ s.time.lastUs % 500 = 0 ∧ s.u.anyOpen3 = false ∧ s.u.on R.DEP_STATUS_AV_LATCHED = false ∧ s.u.rd R.SBX_STATE_HB
      = 1) ∧
    (∃ (s : State), s.u.held = false ∧ (s.u.anyOpen3 = true ∨ s.u.on R.DEP_STATUS_AV_LATCHED = true ∨ s.u.rd R.SBX_STATE_HB ≠ 1)) ∧
    (∃ (u : U) (spans : List (Nat × Nat)), u.badWords spans = []) :=
  ⟨⟨wS (wU []), by decide +kernel⟩,
    ⟨wHS (wH []), 0, 0, false, by decide +kernel, by decide +kernel⟩,
    ⟨wCS (wC []), 0, 0, false, _, _, by decide +kernel, rfl⟩,
    ⟨⟨[], MemHid.zero, [], 0⟩, 0, 2, by decide +kernel, by decide +kernel, by decide +kernel, by decide +kernel⟩,
    ⟨wS (wU []), 0, by decide +kernel, by decide +kernel⟩,
    ⟨wS (wU []), 0, 15, by decide +kernel, by decide +kernel⟩,
    ⟨wHS (wH []), 0, 0, none, by decide +kernel, by decide +kernel⟩,
    ⟨wCS (wC []), 0, 0, some 0, _, _, by decide +kernel, rfl⟩,
    ⟨wS (wU []), true, 0, by decide +kernel, by decide +kernel⟩,
    ⟨wHS (wH []), 0, true, 0, by decide +kernel, by decide +kernel⟩,
    ⟨wCS (wC []), 0, false, 0, _, _, by decide +kernel, rfl⟩,
    ⟨⟨[], MemHid.zero, [], 0⟩, 0, 2048 + 6, by decide +kernel, by decide +kernel, by decide +kernel, by decide +kernel, by decide +kernel⟩,
    ⟨⟨[], MemHid.zero, [], 0⟩, 0, 2048 + 512 + 8, by decide +kernel, by decide +kernel, by decide +kernel, by decide +kernel, by decide +kernel,
      by decide +kernel, by decide +kernel⟩,
    ⟨wS (wU [(R.DEP_STATUS_AV_LATCHED, 0), (R.SBX_STATE_HB, 1)]), by decide +kernel, by decide +kernel, by decide +kernel, by decide +kernel,
      by decide +kernel⟩,
    ⟨wS (wU [(R.SBX_STATE_HB, 2)]), by decide +kernel, by decide +kernel⟩,
    ⟨(wU []), [], by decide +kernel⟩⟩

/-- States and operands that meet the hypotheses of `Obligations.SignalBoxWritesComplete`, clause by clause. -/
theorem wit_SignalBoxWritesComplete :
    (∃ (s : State) (k : _) (t : _), (Instr.sbxHeartWrite k t).wf = true ∧ s.u.held = false ∧ s.u.sbxLocked = false) ∧
    (∃ (s : State) (k : _) (t : _), (Instr.sbxHeartWrite k t).wf = true ∧ s.u.held = false ∧ s.u.sbx.supply = true ∧ s.u.sbxLocked = true ∧ s.u.rd
      R.SBX_STATE_HB = 0 ∧ k = 0x5A) ∧
    (∃ (s : State) (k : _) (t : _), (Instr.sbxHeartWrite k t).wf = true ∧ s.u.held = false ∧ s.u.sbx.supply = true ∧ s.u.sbxLocked = true ∧ s.u.rd
      R.SBX_STATE_HB = 0 ∧ k ≠ 0x5A) ∧
    (∃ (s : State) (k : _) (t : _), (Instr.sbxHeartWrite k t).wf = true ∧ s.u.held = false ∧ s.u.sbx.supply = true ∧ s.u.sbxLocked = true ∧ s.u.rd
      R.SBX_STATE_HB = 1 ∧ k = s.u.sbx.hbToken ∧ s.u.sbx.hbLast + s.u.hbWindow.1 ≤ t ∧ t < s.u.sbx.hbLast + s.u.hbWindow.2) ∧
    (∃ (s : State) (k : _) (t : _), (Instr.sbxHeartWrite k t).wf = true ∧ s.u.held = false ∧ s.u.sbx.supply = true ∧ s.u.sbxLocked = true ∧ s.u.rd
      R.SBX_STATE_HB = 1 ∧ k = s.u.sbx.hbToken ∧ s.u.sbx.hbLast + s.u.hbWindow.1 ≤ t ∧ t < s.u.sbx.hbLast + s.u.hbWindow.2) ∧
    (∃ (s : State) (k : _) (t : _), (Instr.sbxHeartWrite k t).wf = true ∧ s.u.held = false ∧ s.u.sbx.supply = true ∧ s.u.sbxLocked = true ∧ s.u.rd
      R.SBX_STATE_HB = 1 ∧ (k ≠ s.u.sbx.hbToken ∨ t < s.u.sbx.hbLast + s.u.hbWindow.1 ∨ s.u.sbx.hbLast + s.u.hbWindow.2 ≤ t)) ∧
    (∃ (s : State) (k : _) (t : _), (Instr.sbxHeartWrite k t).wf = true ∧ s.u.held = false ∧ s.u.sbx.supply = true ∧ s.u.sbxLocked = true ∧ s.u.rd
      R.SBX_STATE_HB = 2 ∧ s.u.sbx.hbPair = none ∧ k = 0x5A) ∧
    (∃ (s : State) (k : _) (t : _) (t1 : _), (Instr.sbxHeartWrite k t).wf = true ∧ s.u.held = false ∧ s.u.sbx.supply = true ∧ s.u.sbxLocked = true ∧
      s.u.rd R.SBX_STATE_HB = 2 ∧ s.u.sbx.hbPair = some t1 ∧ k = 0xA5 ∧ t1 + s.u.hbWindow.1 ≤ t ∧ t < t1 + s.u.hbWindow.2) ∧
    (∃ (s : State), s.u.held = false ∧ s.u.sbx.supply = true ∧ s.u.sbxLocked = true ∧ s.u.rd R.SBX_STATE_HB = 1) ∧
    (∃ (s : State), s.u.held = false ∧ s.u.sbx.supply = true ∧ s.u.sbxLocked = true ∧ s.u.rd R.SBX_STATE_HB ≠ 1) ∧
    (∃ (s : State), s.u.held = false ∧ s.u.sbxLocked = false) ∧
    (∃ (s : State) (v : _), (Instr.sbxHsWrite v).wf = true ∧ s.u.held = false ∧ s.u.sbx.supply = true) ∧
    (∃ (s : State) (v : _), (Instr.sbxCfgLoadWrite v).wf = true ∧ s.u.held = false ∧ s.u.sbx.supply = true ∧ s.u.rd R.SBX_STATE_CFG < 2 ∧ s.u.rd
      R.SBX_CFG_CTL_WORDS < 64) ∧
    (∃ (s : State) (v : _), (Instr.sbxCfgLoadWrite v).wf = true ∧ s.u.held = false ∧ s.u.sbx.supply = true ∧ 2 ≤ s.u.rd R.SBX_STATE_CFG) ∧
    (∃ (s : State), s.u.held = false ∧ s.u.sbx.supply = true ∧ s.u.sbxLocked = false) ∧
    (∃ (s : State), s.u.held = false ∧ s.u.sbx.supply = true ∧ s.u.rd R.SBX_STATE_CFG = 2) ∧
    (∃ (s : State), s.u.held = false ∧ s.u.sbx.supply = true ∧ s.u.rd R.SBX_STATE_CFG = 1 ∧ sbxCfgOk (s.u.rd R.SBX_CFG_CTL_WORDS) s.u.sbx.cfg = true) ∧
    (∃ (s : State), s.u.held = false ∧ s.u.sbx.supply = true ∧ (s.u.rd R.SBX_STATE_CFG = 0 ∨ s.u.rd R.SBX_STATE_CFG = 3 ∨ (s.u.rd R.SBX_STATE_CFG = 1
      ∧ sbxCfgOk (s.u.rd R.SBX_CFG_CTL_WORDS) s.u.sbx.cfg = false))) ∧
    (∃ (s : State) (k : _), (Instr.sbxClear k).wf = true ∧ s.u.held = false ∧ s.u.sbx.supply = true ∧ k = 0xC1EA ∧ s.u.rd R.DEP_CTL_CONV_EN = 0 ∧
      s.u.tripLine = none ∧ s.u.rd R.SBX_STATE_HB = 1 ∧ s.u.rd R.SBX_STATE_GL_ACTIVE = 0 ∧ s.u.anyOpen3 = false) ∧
    (∃ (s : State) (k : _), (Instr.sbxClear k).wf = true ∧ s.u.held = false ∧ s.u.sbx.supply = true ∧ (k ≠ 0xC1EA ∨ s.u.rd R.DEP_CTL_CONV_EN ≠ 0 ∨
      s.u.tripLine.isSome = true ∨ s.u.rd R.SBX_STATE_HB ≠ 1 ∨ s.u.rd R.SBX_STATE_GL_ACTIVE ≠ 0 ∨ s.u.anyOpen3 = true)) ∧
    (∃ (s : State) (k : _), (Instr.sbxFtClr k).wf = true ∧ s.u.held = false ∧ s.u.sbx.supply = true ∧ k = 0xC1EA ∧ s.u.rd R.SBX_STATE_TRIPPED = 0 ∧
      s.u.rd R.SBX_STATE_GL_ACTIVE = 0) ∧
    (∃ (s : State) (k : _), (Instr.sbxFtClr k).wf = true ∧ s.u.held = false ∧ s.u.sbx.supply = true ∧ (k ≠ 0xC1EA ∨ s.u.rd R.SBX_STATE_TRIPPED ≠ 0 ∨
      s.u.rd R.SBX_STATE_GL_ACTIVE ≠ 0)) ∧
    (∃ (s : State) (c : _), s.u.deaf c = false ∧ s.u.sbx.supply = false ∧ c.wf = true ∧ ((∃ k t, c = Instr.sbxHeartWrite k t) ∨ c =
      .heartbeatWindowEnd ∨ (∃ v, c = Instr.sbxHsWrite v) ∨ (∃ v, c = Instr.sbxCfgLoadWrite v) ∨ c = .sbxCfgStart ∨ c = .sbxCfgLock ∨ (∃ k, c =
      Instr.sbxClear k) ∨ (∃ k, c = Instr.sbxFtClr k))) :=
  ⟨⟨wS (wU []), 90, 0, by decide +kernel, by decide +kernel, by decide +kernel⟩,
    ⟨wS (wU [(R.SBX_STATE_CFG, 2), (R.SBX_STATE_HB, 0)]), 0x5A, 0, by decide +kernel, by decide +kernel, by decide +kernel, by decide +kernel,
      by decide +kernel, by decide +kernel⟩,
    ⟨wS (wU [(R.SBX_STATE_CFG, 2), (R.SBX_STATE_HB, 0)]), 0xA5, 0, by decide +kernel, by decide +kernel, by decide +kernel, by decide +kernel,
      by decide +kernel, by decide +kernel⟩,
    ⟨wS ((wCfg 0 (wU [(R.SBX_STATE_CFG, 2), (R.SBX_STATE_HB, 1)])).withSbx (fun x => { x with hbLast := 100 })), _, 500, by decide +kernel,
      by decide +kernel, by decide +kernel, by decide +kernel, by decide +kernel, rfl, by decide +kernel, by decide +kernel⟩,
    ⟨wS ((wCfg 0 (wU [(R.SBX_STATE_CFG, 2), (R.SBX_STATE_HB, 1)])).withSbx (fun x => { x with hbLast := 100 })), _, 899, by decide +kernel,
      by decide +kernel, by decide +kernel, by decide +kernel, by decide +kernel, rfl, by decide +kernel, by decide +kernel⟩,
    ⟨wS ((wCfg 0 (wU [(R.SBX_STATE_CFG, 2), (R.SBX_STATE_HB, 1), (R.SBX_STATE_HB, 1)])).withSbx (fun x => { x with hbLast := 100, hbToken := 0x5A })),
      0x5A, 499, by decide +kernel, by decide +kernel, by decide +kernel, by decide +kernel, by decide +kernel, by decide +kernel⟩,
    ⟨wS (wU [(R.SBX_STATE_CFG, 2), (R.SBX_STATE_HB, 2)]), 0x5A, 0, by decide +kernel, by decide +kernel, by decide +kernel, by decide +kernel,
      by decide +kernel, by decide +kernel, by decide +kernel⟩,
    ⟨wS ((wCfg 0 (wU [(R.SBX_STATE_CFG, 2), (R.SBX_STATE_HB, 2)])).withSbx (fun x => { x with hbPair := some 0 })), 0xA5, 400, _, by decide +kernel,
      by decide +kernel, by decide +kernel, by decide +kernel, by decide +kernel, rfl, by decide +kernel, by decide +kernel, by decide +kernel⟩,
    ⟨wS (wU [(R.SBX_STATE_CFG, 2), (R.SBX_STATE_HB, 1)]), by decide +kernel, by decide +kernel, by decide +kernel, by decide +kernel⟩,
    ⟨wS (wU [(R.SBX_STATE_CFG, 2), (R.SBX_STATE_HB, 2)]), by decide +kernel, by decide +kernel, by decide +kernel, by decide +kernel⟩,
    ⟨wS (wU []), by decide +kernel, by decide +kernel⟩,
    ⟨wS (wU []), 0, by decide +kernel, by decide +kernel, by decide +kernel⟩,
    ⟨wS (wU [(R.SBX_STATE_CFG, 1), (R.SBX_CFG_CTL_WORDS, 63)]), 0, by decide +kernel, by decide +kernel, by decide +kernel, by decide +kernel,
      by decide +kernel⟩,
    ⟨wS (wU [(R.SBX_STATE_CFG, 2)]), 0, by decide +kernel, by decide +kernel, by decide +kernel, by decide +kernel⟩,
    ⟨wS (wU []), by decide +kernel, by decide +kernel, by decide +kernel⟩,
    ⟨wS (wU [(R.SBX_STATE_CFG, 2), (R.SBX_STATE_CFG, 2)]), by decide +kernel, by decide +kernel, by decide +kernel⟩,
    ⟨wS (wCfg 0 (wU [(R.SBX_STATE_CFG, 1), (R.SBX_CFG_CTL_WORDS, 64)])), by decide +kernel, by decide +kernel, by decide +kernel, by decide +kernel⟩,
    ⟨wS (wU []), by decide +kernel, by decide +kernel, by decide +kernel⟩,
    ⟨wS (wU [(R.DEP_CTL_CONV_EN, 0), (R.SBX_STATE_HB, 1), (R.SBX_STATE_GL_ACTIVE, 0), (R.SBX_STATE_HB, 1)]), 0xC1EA, by decide +kernel,
      by decide +kernel, by decide +kernel, by decide +kernel, by decide +kernel, by decide +kernel, by decide +kernel, by decide +kernel,
      by decide +kernel⟩,
    ⟨wS (wU []), 0xC1EB, by decide +kernel, by decide +kernel, by decide +kernel, by decide +kernel⟩,
    ⟨wS (wU [(R.SBX_STATE_TRIPPED, 0), (R.SBX_STATE_GL_ACTIVE, 0)]), 0xC1EA, by decide +kernel, by decide +kernel, by decide +kernel,
      by decide +kernel, by decide +kernel, by decide +kernel⟩,
    ⟨wS (wU [(R.SBX_STATE_TRIPPED, 1)]), 0xC1EA, by decide +kernel, by decide +kernel, by decide +kernel, by decide +kernel⟩,
    ⟨wS ((wU []).withSbx (fun x => { x with supply := false })), .heartbeatWindowEnd, by decide +kernel, by decide +kernel, by decide +kernel, .inr
      (.inl rfl)⟩⟩

/-- States and operands that meet the hypotheses of `Obligations.SignalBoxEventsComplete`, clause by clause. -/
theorem wit_SignalBoxEventsComplete :
    (∃ (s : State) (n : _) (v : _), (Instr.sbxLineChange n v).wf = true ∧ s.u.held = false ∧ (n < 16 → bitAt s.u.sbx.hw n = v) ∧ s.u.lineNow n =
      s.u.line n) ∧
    (∃ (s : State) (n : _) (v : _), (Instr.sbxLineChange n v).wf = true ∧ s.u.held = false ∧ (n < 16 → bitAt s.u.sbx.hw n = v) ∧ s.u.lineNow n =
      s.u.line n) ∧
    (∃ (s : State) (n : _) (v : _), (Instr.sbxLineChange n v).wf = true ∧ s.u.held = false ∧ (n < 16 → bitAt s.u.sbx.hw n = v) ∧ s.u.sbx.supply = true
      ∧ s.u.lineNow n = true ∧ s.u.line n = false) ∧
    (∃ (s : State) (n : _) (v : _), (Instr.sbxLineChange n v).wf = true ∧ s.u.held = false ∧ n < 16 ∧ bitAt s.u.sbx.hw n ≠ v) ∧
    (∃ (u : U) (n : _), n < 149 ∧ u.sbx.supply = true ∧ u.lineNow n = true ∧ u.line n = false ∧ u.sbxLocked = false) ∧
    (∃ (u : U) (n : _), n < 149 ∧ u.sbx.supply = true ∧ u.lineNow n = true ∧ u.line n = false ∧ u.sbxLocked = true ∧ bits (u.sbxWord (10 + n / 16)) (2
      * (n % 16)) 2 = 1) ∧
    (∃ (u : U) (n : _), n < 149 ∧ u.sbx.supply = true ∧ u.lineNow n = true ∧ u.line n = false ∧ u.sbxLocked = true ∧ bits (u.sbxWord (10 + n / 16)) (2
      * (n % 16)) 2 = 2) ∧
    (∃ (u : U) (n : _), n < 149 ∧ u.sbx.supply = true ∧ u.lineNow n = true ∧ u.line n = false ∧ u.sbxLocked = true ∧ bits (u.sbxWord (10 + n / 16)) (2
      * (n % 16)) 2 = 3) ∧
    (∃ (u : U) (n : _), n < 149 ∧ u.sbx.supply = true ∧ u.lineNow n = false ∧ u.line n = true ∧ (∀ m, m < 149 → m ≠ n → u.line m = true → u.lineAction
      m ≠ 2)) ∧
    (∃ (s : State) (j : _), (Instr.hwAliveTimeout j).wf = true ∧ s.u.held = false ∧ s.u.sbx.supply = true ∧ s.u.sbxLocked = true ∧ bitAt (s.u.hwCfg j)
      1 = true) ∧
    (∃ (s : State) (j : _), (Instr.hwAliveTimeout j).wf = true ∧ s.u.held = false ∧ (s.u.sbxLocked = false ∨ bitAt (s.u.hwCfg j) 1 = false)) ∧
    (∃ (s : State), s.u.held = false ∧ s.u.sbx.supply = true ∧ s.u.sbxLocked = true ∧ s.u.on R.SBX_STATE_GL_ACTIVE = true ∧ s.u.sbx.glExp = false ∧
      s.u.glacierMax * 1000 ≤ s.u.sbx.glUs + 1) ∧
    (∃ (s : State), s.u.held = false ∧ (s.u.on R.SBX_STATE_GL_ACTIVE = false ∨ s.u.sbx.glExp = true ∨ s.u.sbx.glUs + 1 < s.u.glacierMax * 1000)) ∧
    (∃ (s : State), s.u.held = false ∧ s.u.sbx.supply = true ∧ s.u.on R.SBX_STATE_GL_ACTIVE = false) ∧
    (∃ (s : State), s.u.held = false ∧ s.u.on R.SBX_STATE_GL_ACTIVE = true) ∧
    (∃ (s : State) (pr : _), (Instr.readbackSample pr).wf = true ∧ s.u.held = false ∧ s.u.sbx.supply = true ∧ s.u.sbxLocked = false) ∧
    (∃ (s : State) (pr : _), (Instr.readbackSample pr).wf = true ∧ s.u.held = false ∧ s.u.sbx.supply = true ∧ s.u.sbxLocked = true ∧ s.u.Calm ∧ pr =
      s.u.rd R.SBX_PERM_GRANTED) ∧
    (∃ (s : State) (k : _) (low : _), (Instr.testPulseStart k low).wf = true ∧ s.u.held = false ∧ s.u.sbx.supply = true ∧ s.u.sbxLocked = true ∧ bitAt
      (s.u.rd R.SBX_PERM_GRANTED) k = true ∧ s.u.on (R.SBX_CH_TEST k) = true ∧ s.u.sbx.pulse = none) ∧
    (∃ (s : State) (k : _) (low : _), (Instr.testPulseStart k low).wf = true ∧ s.u.held = false ∧ (bitAt (s.u.rd R.SBX_PERM_GRANTED) k = false ∨
      s.u.on (R.SBX_CH_TEST k) = false)) ∧
    (∃ (s : State), s.u.held = false ∧ s.u.sbx.pulse = none) ∧
    (∃ (s : State) (a : _) (b : _) (k : _) (low : _), s.u.held = false ∧ s.u.sbx.supply = true ∧ s.u.sbx.pulse = some (k, low) ∧ a = true ∧ b = true) ∧
    (∃ (s : State) (a : _) (b : _) (k : _) (low : _), s.u.held = false ∧ s.u.sbx.supply = true ∧ s.u.sbx.pulse = some (k, low) ∧ (a = false ∨ b =
      false)) ∧
    (∃ (s : State) (n : _), (Instr.oscWindowEnd n).wf = true ∧ s.u.held = false ∧ s.u.sbx.supply = true ∧ s.u.rd R.TIM_DEP_CTL_STATE = 2 ∧ (n < 38400
      ∨ 41600 < n)) ∧
    (∃ (s : State) (n : _), (Instr.oscWindowEnd n).wf = true ∧ s.u.held = false ∧ s.u.sbx.supply = true ∧ s.u.rd R.TIM_DEP_CTL_STATE = 2 ∧ (n < 38400
      ∨ 41600 < n)) ∧
    (∃ (s : State) (n : _), (Instr.oscWindowEnd n).wf = true ∧ s.u.held = false ∧ (s.u.rd R.TIM_DEP_CTL_STATE ≠ 2 ∨ (38400 ≤ n ∧ n ≤ 41600))) ∧
    (∃ (s : State) (n : _), (Instr.oscWindowEnd n).wf = true ∧ s.u.held = false ∧ (s.u.rd R.TIM_DEP_CTL_STATE ≠ 2 ∨ (38400 ≤ n ∧ n ≤ 41600))) ∧
    (∃ (s : State), s.u.deaf .peerStatusTimeout = false ∧ s.u.sbx.supply = true ∧ s.u.sbxLocked = true) ∧
    (∃ (s : State), s.u.deaf .peerStatusTimeout = false ∧ s.u.sbxLocked = false) ∧
    (∃ (s : State) (w : U), s.u.held = false ∧ s.u.sbx.supply = false ∧ w = (s.u.withSbx (fun x => { x with supply := true })).permits) ∧
    (∃ (s : State) (c : _), s.u.deaf c = false ∧ s.u.sbx.supply = false ∧ c.wf = true ∧ ((∃ j, c = Instr.hwAliveTimeout j) ∨ c = .glacierExpire ∨ c =
      .glacierTimerReset ∨ (∃ pr, c = Instr.readbackSample pr) ∨ (∃ k low, c = Instr.testPulseStart k low) ∨ (∃ a b, c = Instr.testPulseEnd a b) ∨ (∃
      n, c = Instr.oscWindowEnd n) ∨ c = .peerStatusTimeout)) ∧
    (∃ (s : State) (c : _), s.u.deaf c = false ∧ s.u.sbx.supply = false ∧ c.wf = true ∧ ((∃ j, c = Instr.hwAliveTimeout j) ∨ c = .glacierExpire ∨ c =
      .glacierTimerReset ∨ (∃ pr, c = Instr.readbackSample pr) ∨ (∃ k low, c = Instr.testPulseStart k low) ∨ (∃ a b, c = Instr.testPulseEnd a b) ∨ (∃
      n, c = Instr.oscWindowEnd n) ∨ c = .peerStatusTimeout)) ∧
    (∃ (u : U), u.sbx.osc = false) :=
  ⟨⟨wS (wU []), 0, false, by decide +kernel, by decide +kernel, by decide +kernel, by decide +kernel⟩,
    ⟨wS (wU []), 148, true, by decide +kernel, by decide +kernel, by decide +kernel, by decide +kernel⟩,
    ⟨wS ((wU []).withSbx (fun x => { x with hw := 1 })), 0, true, by decide +kernel, by decide +kernel, by decide +kernel, by decide +kernel,
      by decide +kernel, by decide +kernel⟩,
    ⟨wS (wU []), 15, true, by decide +kernel, by decide +kernel, by decide +kernel, by decide +kernel⟩,
    ⟨(wU []).withSbx (fun x => { x with hw := 1 }), 0, by decide +kernel, by decide +kernel, by decide +kernel, by decide +kernel, by decide +kernel⟩,
    ⟨(wCfg 1 (wU [(R.SBX_STATE_CFG, 2)])).withSbx (fun x => { x with hw := 1 }), 0, by decide +kernel, by decide +kernel, by decide +kernel,
      by decide +kernel, by decide +kernel, by decide +kernel⟩,
    ⟨(wCfg 2 (wU [(R.SBX_STATE_CFG, 2)])).withSbx (fun x => { x with hw := 1 }), 0, by decide +kernel, by decide +kernel, by decide +kernel,
      by decide +kernel, by decide +kernel, by decide +kernel⟩,
    ⟨(wCfg 3 (wU [(R.SBX_STATE_CFG, 2)])).withSbx (fun x => { x with hw := 1 }), 0, by decide +kernel, by decide +kernel, by decide +kernel,
      by decide +kernel, by decide +kernel, by decide +kernel⟩,
    ⟨(wU [((R.SBX_LINES_LINE 0), 1)]), 0, by decide +kernel, by decide +kernel, by decide +kernel, by decide +kernel, by decide +kernel⟩,
    ⟨wS ((wU [(R.SBX_STATE_CFG, 2)]).withSbx (fun x => { x with cfg := List.replicate 20 0 ++ [2] })), 0, by decide +kernel, by decide +kernel,
      by decide +kernel, by decide +kernel, by decide +kernel⟩,
    ⟨wS (wU []), 0, by decide +kernel, by decide +kernel, by decide +kernel⟩,
    ⟨wS (wU [(R.SBX_STATE_CFG, 2), (R.SBX_STATE_GL_ACTIVE, 1)]), by decide +kernel, by decide +kernel, by decide +kernel, by decide +kernel,
      by decide +kernel, by decide +kernel⟩,
    ⟨wS (wU [(R.SBX_STATE_GL_ACTIVE, 0)]), by decide +kernel, by decide +kernel⟩,
    ⟨wS (wU [(R.SBX_STATE_GL_ACTIVE, 0)]), by decide +kernel, by decide +kernel, by decide +kernel⟩,
    ⟨wS (wU [(R.SBX_STATE_GL_ACTIVE, 1)]), by decide +kernel, by decide +kernel⟩,
    ⟨wS (wU []), 0, by decide +kernel, by decide +kernel, by decide +kernel, by decide +kernel⟩,
    ⟨wS (wU [(R.SBX_STATE_CFG, 2)]), 0, by decide +kernel, by decide +kernel, by decide +kernel, by decide +kernel,
      (by constructor <;> decide +kernel), by decide +kernel⟩,
    ⟨wS (wU [(R.SBX_STATE_CFG, 2), ((R.SBX_CH_TEST 0), 1), (R.SBX_PERM_GRANTED, 1)]), 0, true, by decide +kernel, by decide +kernel,
      by decide +kernel, by decide +kernel, by decide +kernel, by decide +kernel, by decide +kernel⟩,
    ⟨wS (wU []), 0, true, by decide +kernel, by decide +kernel, by decide +kernel⟩,
    ⟨wS (wU []), by decide +kernel, by decide +kernel⟩,
    ⟨wS ((wU []).withSbx (fun x => { x with pulse := some (7, true) })), true, true, _, _, by decide +kernel, by decide +kernel, rfl,
      by decide +kernel, by decide +kernel⟩,
    ⟨wS ((wU []).withSbx (fun x => { x with pulse := some (7, true) })), true, false, _, _, by decide +kernel, by decide +kernel, rfl,
      by decide +kernel⟩,
    ⟨wS (wU [(R.TIM_DEP_CTL_STATE, 2)]), 38399, by decide +kernel, by decide +kernel, by decide +kernel, by decide +kernel, by decide +kernel⟩,
    ⟨wS (wU [(R.TIM_DEP_CTL_STATE, 2)]), 41601, by decide +kernel, by decide +kernel, by decide +kernel, by decide +kernel, by decide +kernel⟩,
    ⟨wS (wU [(R.TIM_DEP_CTL_STATE, 2)]), 38400, by decide +kernel, by decide +kernel, by decide +kernel⟩,
    ⟨wS (wU [(R.TIM_DEP_CTL_STATE, 2)]), 41600, by decide +kernel, by decide +kernel, by decide +kernel⟩,
    ⟨wS (wU [(R.SBX_STATE_CFG, 2)]), by decide +kernel, by decide +kernel, by decide +kernel⟩,
    ⟨wS ((wU []).withSbx (fun x => { x with supply := false })), by decide +kernel, by decide +kernel⟩,
    ⟨wS ((wU []).withSbx (fun x => { x with supply := false })), _, by decide +kernel, by decide +kernel, rfl⟩,
    ⟨wS ((wU []).withSbx (fun x => { x with supply := false })), .glacierExpire, by decide +kernel, by decide +kernel, by decide +kernel, .inr (.inl
      rfl)⟩,
    ⟨wS ((wU []).withSbx (fun x => { x with supply := false })), .hwAliveTimeout 0, by decide +kernel, by decide +kernel, by decide +kernel, .inl ⟨0,
      rfl⟩⟩,
    ⟨(wU []).withSbx (fun x => { x with osc := false }), by decide +kernel⟩⟩

/-- States and operands that meet the hypotheses of `Obligations.PeerMessagesComplete`, clause by clause. -/
theorem wit_PeerMessagesComplete :
    (∃ (u : U) (w : U) (t : _) (parts : _) (v : _) (b : List Nat), w = parts.foldl (fun (u : U) e => u.onLane t e.1 (fun io => io.headerErrors
      (laneBase e.1) (e.2.map (fun b => b.1)))) u ∧ w.sidingUp ≠ 0 ∧ w.sidingSpoiled t = (false, v) ∧ readBlocks (u.sidingBlocks parts) = some b) ∧
    (∃ (u : U) (n : _), 96 ≤ n ∧ n < 100 ∧ u.laneUp n = true ∧ u.laneIO.looped (laneBase n) = false ∧ u.on (R.LNS_STATE_REVERSED (laneBase n)) =
      false) ∧
    (∃ (s : State) (parts : _) (r : _), (Instr.ctrlRx parts).wf = true ∧ s.u.deaf (.ctrlRx parts) = false ∧ r = s.u.sidingFrame s.time parts ∧ r.1 =
      none) ∧
    (∃ (s : State) (parts : _) (r : _), (Instr.ctrlRx parts).wf = true ∧ s.u.deaf (.ctrlRx parts) = false ∧ r = s.u.sidingFrame s.time parts ∧ r.1 =
      none) ∧
    (∃ (s : State) (parts : _) (r : _) (b : List Nat), (Instr.ctrlRx parts).wf = true ∧ s.u.deaf (.ctrlRx parts) = false ∧ r = s.u.sidingFrame s.time
      parts ∧ r.1 = some b ∧ octet b 0 = 4 ∧ octet b 1 = 0) ∧
    (∃ (u : U) (c : Ctrl), u.role = 2 ∧ c.hoReq = true) ∧
    (∃ (u : U) (c : Ctrl), u.role = 3 ∧ c.take = true ∧ u.on R.SDL_ROLE_HO_PEND = true ∧ c.hoDn = u.rd R.SDL_HO_DN_DN) ∧
    (∃ (u : U) (c : Ctrl), u.role = 3 ∧ c.role = 3 ∧ u.sdl.next = none ∧ (u.on R.SDL_ROLE_HO_PEND = true ∧ u.sdl.takeRx = false ∨ u.sdl.hoFail =
      true)) ∧
    (∃ (u : U) (c : Ctrl), u.role = 3 ∧ c.role = 3 ∧ u.sdl.next = none ∧ u.on R.SDL_ROLE_HO_PEND = false ∧ u.sdl.hoFail = false ∧ u.sdl.hoPeer = false
      ∧ c.hoReq = false ∧ u.on R.SDL_ROLE_PREFER = false) ∧
    (∃ (u : U) (c : Ctrl), u.role = 3 ∧ c.role = 3 ∧ u.sdl.next = none ∧ u.on R.SDL_ROLE_HO_PEND = false ∧ u.sdl.hoFail = false ∧ u.sdl.hoPeer = false
      ∧ c.hoReq = false ∧ u.on R.SDL_ROLE_PREFER = true) ∧
    (∃ (u : U) (c : Ctrl), u.role = 3 ∧ c.role = 3 ∧ u.sdl.next = none ∧ u.on R.SDL_ROLE_HO_PEND = false ∧ u.sdl.hoFail = false ∧ (u.sdl.hoPeer = true
      ∨ c.hoReq = true)) ∧
    (∃ (s : State) (parts : _) (r : _) (b : List Nat) (sec : Section), (Instr.mirrorSectionRx parts).wf = true ∧ s.u.deaf (.mirrorSectionRx parts) =
      false ∧ s.u.sidingUp ≠ 0 ∧ r = s.u.sidingFrame s.time parts ∧ r.1 = some b ∧ octet b 0 = 4 ∧ readSection b = some sec ∧ (∀ k bs, sec ≠ .region k
      bs) ∧ le b 2 4 = r.2.sdl.cycDn) ∧
    (∃ (s : State) (parts : _) (r : _) (b : List Nat) (sec : Section), (Instr.mirrorSectionRx parts).wf = true ∧ s.u.deaf (.mirrorSectionRx parts) =
      false ∧ s.u.sidingUp ≠ 0 ∧ r = s.u.sidingFrame s.time parts ∧ r.1 = some b ∧ octet b 0 = 4 ∧ readSection b = some sec ∧ (∀ k bs, sec ≠ .region k
      bs) ∧ le b 2 4 ≠ r.2.sdl.cycDn) ∧
    (∃ (s : State) (parts : _) (r : _), (Instr.mirrorSectionRx parts).wf = true ∧ s.u.deaf (.mirrorSectionRx parts) = false ∧ s.u.sidingUp ≠ 0 ∧ r =
      s.u.sidingFrame s.time parts ∧ r.1 = none ∧ octet (frameHead (s.u.sidingBlocks parts)) 0 = 4 ∧ 1 ≤ octet (frameHead (s.u.sidingBlocks parts)) 1
      ∧ octet (frameHead (s.u.sidingBlocks parts)) 1 ≤ 3) ∧
    (∃ (s : State) (parts : _) (r : _), (Instr.mirrorSectionRx parts).wf = true ∧ s.u.deaf (.mirrorSectionRx parts) = false ∧ s.u.sidingUp ≠ 0 ∧ r =
      s.u.sidingFrame s.time parts ∧ r.1 = none ∧ octet (frameHead (s.u.sidingBlocks parts)) 0 = 4 ∧ 1 ≤ octet (frameHead (s.u.sidingBlocks parts)) 1
      ∧ octet (frameHead (s.u.sidingBlocks parts)) 1 ≤ 3) ∧
    (∃ (s : State) (parts : _) (r : _) (b : List Nat) (k : _) (bs : List Nat), (Instr.mirrorSectionRx parts).wf = true ∧ s.u.deaf (.mirrorSectionRx
      parts) = false ∧ s.u.sidingUp ≠ 0 ∧ r = s.u.sidingFrame s.time parts ∧ r.1 = some b ∧ octet b 0 = 4 ∧ readSection b = some (.region k bs) ∧
      ((s.u.role ≠ 1 ∧ s.u.role ≠ 2) ∨ r.2.sdl.regions.find? k = none)) ∧
    (∃ (s : State) (parts : _) (r : _) (b : List Nat) (k : _) (bs : List Nat) (e : _), (Instr.mirrorSectionRx parts).wf = true ∧ s.u.deaf
      (.mirrorSectionRx parts) = false ∧ s.u.sidingUp ≠ 0 ∧ r = s.u.sidingFrame s.time parts ∧ r.1 = some b ∧ octet b 0 = 4 ∧ readSection b = some
      (.region k bs) ∧ (s.u.role = 1 ∨ s.u.role = 2) ∧ r.2.sdl.regions.find? k = some e) ∧
    (∃ (s : State), s.u.deaf (.relinquishRx relinquishBlock) = false ∧ s.u.sidingUp ≠ 0 ∧ s.u.role = 2) ∧
    (∃ (s : State), s.u.deaf (.relinquishRx relinquishBlock) = false ∧ s.u.sidingUp ≠ 0 ∧ s.u.role ≠ 2) ∧
    (∃ (s : State) (b : Block), (Instr.relinquishRx b).wf = true ∧ s.u.deaf (.relinquishRx b) = false ∧ (s.u.sidingUp = 0 ∨ b ≠ relinquishBlock)) ∧
    (∃ (s : State) (b : Block), (Instr.relinquishRx b).wf = true ∧ s.u.deaf (.relinquishRx b) = false ∧ (s.u.sidingUp = 0 ∨ b ≠ relinquishBlock)) ∧
    (∃ (s : State) (r : _) (v : _), (Instr.sdlRegionWrite r false v).wf = true ∧ s.u.deaf (.sdlRegionWrite r false v) = false) ∧
    (∃ (s : State) (r : _) (v : _) (n : _), (Instr.sdlRegionWrite r true v).wf = true ∧ s.u.deaf (.sdlRegionWrite r true v) = false ∧ n = v % 2 ^ 17 ∧
      (n % 16 ≠ 0 ∨ 96000 < n)) ∧
    (∃ (s : State) (r : _) (v : _) (n : _), (Instr.sdlRegionWrite r true v).wf = true ∧ s.u.deaf (.sdlRegionWrite r true v) = false ∧ n = v % 2 ^ 17 ∧
      (n % 16 ≠ 0 ∨ 96000 < n)) ∧
    (∃ (s : State) (r : _) (v : _) (n : _), (Instr.sdlRegionWrite r true v).wf = true ∧ s.u.deaf (.sdlRegionWrite r true v) = false ∧ n = v % 2 ^ 17 ∧
      n % 16 = 0 ∧ n ≤ 96000 ∧ (s.u.regionSums r n).2 ≤ 96000 ∧ (s.u.regionSums r n).1 + s.u.rd R.SDL_BUDGET_HW ≤ 100000) ∧
    (∃ (s : State) (r : _) (v : _) (n : _), (Instr.sdlRegionWrite r true v).wf = true ∧ s.u.deaf (.sdlRegionWrite r true v) = false ∧ n = v % 2 ^ 17 ∧
      n % 16 = 0 ∧ n ≤ 96000 ∧ (96000 < (s.u.regionSums r n).2 ∨ 100000 < (s.u.regionSums r n).1 + s.u.rd R.SDL_BUDGET_HW)) :=
  ⟨⟨wU [(R.LNS_STATE_STATE (laneBase 96), 7)], _, TimeBase.start 0, [(96, sendBlocks (zeros 7))], _, zeros 7, rfl, by decide +kernel, wFst
      (by decide +kernel), by decide +kernel⟩,
    ⟨(wU [((R.LNS_STATE_STATE (laneBase 96)), 7)]), 96, by decide +kernel, by decide +kernel, by decide +kernel, by decide +kernel, by decide +kernel⟩,
    ⟨wS (wU []), [], _, by decide +kernel, by decide +kernel, rfl, by decide +kernel⟩,
    ⟨wS (wU [((R.LNS_STATE_STATE (laneBase 96)), 7)]), [(96, [])], _, by decide +kernel, by decide +kernel, rfl, by decide +kernel⟩,
    ⟨wS (wU [((R.LNS_STATE_STATE (laneBase 96)), 7)]), [(96, sendBlocks (ctrlBytes wCtrl))], _, ctrlBytes wCtrl, by decide +kernel, by decide +kernel,
      rfl, by decide +kernel, by decide +kernel, by decide +kernel⟩,
    ⟨(wU [(R.SDL_ROLE_ROLE, 2)]), { wCtrl with hoReq := true }, by decide +kernel, by decide +kernel⟩,
    ⟨(wU [(R.SDL_ROLE_ROLE, 3), (R.SDL_ROLE_HO_PEND, 1), (R.SDL_HO_DN_DN, 5)]), { wCtrl with take := true, hoDn := 5 }, by decide +kernel,
      by decide +kernel, by decide +kernel, by decide +kernel⟩,
    ⟨(wU [(R.SDL_ROLE_ROLE, 3)]).withSdl (fun d => { d with hoFail := true }), wCtrl, by decide +kernel, by decide +kernel, by decide +kernel,
      by decide +kernel⟩,
    ⟨(wU [(R.SDL_ROLE_ROLE, 3), (R.SDL_ROLE_HO_PEND, 0), (R.SDL_ROLE_PREFER, 0)]), wCtrl, by decide +kernel, by decide +kernel, by decide +kernel,
      by decide +kernel, by decide +kernel, by decide +kernel, by decide +kernel, by decide +kernel⟩,
    ⟨(wU [(R.SDL_ROLE_ROLE, 3), (R.SDL_ROLE_HO_PEND, 0), (R.SDL_ROLE_PREFER, 1)]), wCtrl, by decide +kernel, by decide +kernel, by decide +kernel,
      by decide +kernel, by decide +kernel, by decide +kernel, by decide +kernel, by decide +kernel⟩,
    ⟨(wU [(R.SDL_ROLE_ROLE, 3), (R.SDL_ROLE_HO_PEND, 0)]).withSdl (fun d => { d with hoPeer := true }), wCtrl, by decide +kernel, by decide +kernel,
      by decide +kernel, by decide +kernel, by decide +kernel, by decide +kernel⟩,
    ⟨wS (wU [((R.LNS_STATE_STATE (laneBase 96)), 7)]), [(96, sendBlocks (mirrorBytes 3 0 0 (zeros 16)))], _, mirrorBytes 3 0 0 (zeros 16), .frn 0 0
      [], by decide +kernel, by decide +kernel, by decide +kernel, rfl, by decide +kernel, by decide +kernel, by decide +kernel, (fun k bs e => by
      cases e), by decide +kernel⟩,
    ⟨wS (wU [((R.LNS_STATE_STATE (laneBase 96)), 7)]), [(96, sendBlocks (mirrorBytes 3 5 0 (zeros 16)))], _, mirrorBytes 3 5 0 (zeros 16), .frn 0 0
      [], by decide +kernel, by decide +kernel, by decide +kernel, rfl, by decide +kernel, by decide +kernel, by decide +kernel, (fun k bs e => by
      cases e), by decide +kernel⟩,
    ⟨wS (wU [((R.LNS_STATE_STATE (laneBase 96)), 7)]), [(96, [control 0x78 [4, 1]])], _, by decide +kernel, by decide +kernel, by decide +kernel, rfl,
      by decide +kernel, by decide +kernel, by decide +kernel, by decide +kernel⟩,
    ⟨wS (wU [((R.LNS_STATE_STATE (laneBase 96)), 7)]), [(96, [control 0x78 [4, 3]])], _, by decide +kernel, by decide +kernel, by decide +kernel, rfl,
      by decide +kernel, by decide +kernel, by decide +kernel, by decide +kernel⟩,
    ⟨wS (wU [((R.LNS_STATE_STATE (laneBase 96)), 7)]), [(96, sendBlocks (mirrorBytes 4 0 0 (zeros 8)))], _, mirrorBytes 4 0 0 (zeros 8), 0, zeros 8,
      by decide +kernel, by decide +kernel, by decide +kernel, rfl, by decide +kernel, by decide +kernel, by decide +kernel, by decide +kernel⟩,
    ⟨wS ((wU [(R.SDL_ROLE_ROLE, 2), ((R.LNS_STATE_STATE (laneBase 96)), 7)]).withSdl (fun d => { d with regions := [(0, (0, 16))] })), [(96,
      sendBlocks (mirrorBytes 4 0 0 (zeros 8)))], _, mirrorBytes 4 0 0 (zeros 8), 0, zeros 8, (0, 16), by decide +kernel, by decide +kernel,
      by decide +kernel, rfl, by decide +kernel, by decide +kernel, by decide +kernel, by decide +kernel, by decide +kernel⟩,
    ⟨wS (wU [(R.SDL_ROLE_ROLE, 2), (R.SDL_ROLE_ROLE, 2), ((R.LNS_STATE_STATE (laneBase 96)), 7)]), by decide +kernel, by decide +kernel,
      by decide +kernel⟩,
    ⟨wS (wU [(R.SDL_ROLE_ROLE, 3), ((R.LNS_STATE_STATE (laneBase 96)), 7)]), by decide +kernel, by decide +kernel, by decide +kernel⟩,
    ⟨wS (wU []), relinquishBlock, by decide +kernel, by decide +kernel, by decide +kernel⟩,
    ⟨wS (wU [((R.LNS_STATE_STATE (laneBase 96)), 7)]), control 0x4B [], by decide +kernel, by decide +kernel, by decide +kernel⟩,
    ⟨wS (wU []), 0, 0, by decide +kernel, by decide +kernel⟩,
    ⟨wS (wU []), 0, 96001, _, by decide +kernel, by decide +kernel, rfl, by decide +kernel⟩,
    ⟨wS (wU []), 0, 96016, _, by decide +kernel, by decide +kernel, rfl, by decide +kernel⟩,
    ⟨wS (wU []), 0, 96000, 96000, by decide +kernel, by decide +kernel, by decide +kernel, by decide +kernel, by decide +kernel, by decide +kernel,
      by decide +kernel⟩,
    ⟨wS (wU [((R.SDL_REG_LEN_LEN 1), 64000)]), 0, 48000, _, by decide +kernel, by decide +kernel, rfl, by decide +kernel, by decide +kernel,
      by decide +kernel⟩⟩

/-- States and operands that meet the hypotheses of `Obligations.RoleCommandsComplete`, clause by clause. -/
theorem wit_RoleCommandsComplete :
    (∃ (s : State), s.u.deaf .sdlJoin = false ∧ s.u.role ≠ 0) ∧
    (∃ (s : State) (v : _), s.u.deaf .sdlJoin = false ∧ s.u.role = 0 ∧ v = s.u.wr R.SDL_CTL_JOIN 1 ∧ s.u.sdl.next = none ∧ s.u.on
      R.SDL_ROLE_PEER_VALID = false ∧ s.u.on R.SDL_ROLE_PREFER = true) ∧
    (∃ (s : State) (v : _) (c : _), s.u.deaf .sdlJoin = false ∧ s.u.role = 0 ∧ v = s.u.wr R.SDL_CTL_JOIN 1 ∧ s.u.sdl.next = none ∧ s.u.on
      R.SDL_ROLE_PEER_VALID = true ∧ s.u.sdl.peer = some c ∧ c.cfgId = s.u.topo.cfgId ∧ c.fwId = s.u.fwId ∧ c.role = 3) ∧
    (∃ (s : State) (v : _) (c : _), s.u.deaf .sdlJoin = false ∧ s.u.role = 0 ∧ v = s.u.wr R.SDL_CTL_JOIN 1 ∧ s.u.sdl.next = none ∧ s.u.on
      R.SDL_ROLE_PEER_VALID = true ∧ s.u.sdl.peer = some c ∧ c.cfgId ≠ s.u.topo.cfgId) ∧
    (∃ (s : State), s.u.deaf .sdlSwap = false ∧ s.u.role = 3 ∧ s.u.peerIs 2 = true ∧ s.u.on R.SDL_ROLE_HO_PEND = false) ∧
    (∃ (s : State), s.u.deaf .sdlSwap = false ∧ (s.u.role ≠ 3 ∨ s.u.peerIs 2 = false ∨ s.u.on R.SDL_ROLE_HO_PEND = true)) ∧
    (∃ (s : State), s.u.deaf .sdlRelq = false ∧ s.u.role ≠ 3) ∧
    (∃ (s : State) (v : _), s.u.deaf .sdlRelq = false ∧ s.u.role = 3 ∧ s.u.sdl.rlq = false ∧ v = s.u.withSdl (fun x =>
      { x with rlqBy := x.rlqBy.filter (· != 0) ++ [0] }) ∧ s.u.peerIs 2 = true) ∧
    (∃ (s : State) (v : _), s.u.deaf .sdlRelq = false ∧ s.u.role = 3 ∧ s.u.sdl.rlq = false ∧ v = s.u.withSdl (fun x =>
      { x with rlqBy := x.rlqBy.filter (· != 0) ++ [0] }) ∧ s.u.peerIs 2 = false) ∧
    (∃ (u : U), (u.sidingUp = 0 ∨ u.blockHeld 81 = true)) ∧
    (∃ (u : U), u.sidingUp ≠ 0 ∧ u.blockHeld 81 = false ∧ u.sdl.cur = none) ∧
    (∃ (s : State), s.u.deaf .sdlRejoin = false ∧ s.u.role = 4 ∧ s.u.sdl.rlqBy = []) ∧
    (∃ (s : State), s.u.deaf .sdlRejoin = false ∧ (s.u.role ≠ 4 ∨ s.u.sdl.rlqBy ≠ [])) ∧
    (∃ (s : State), s.u.deaf .joinTimeout = false ∧ s.u.role = 0 ∧ s.u.on R.SDL_CTL_JOIN = true ∧ s.u.peerIs 3 = false) ∧
    (∃ (s : State), s.u.deaf .joinTimeout = false ∧ (s.u.role ≠ 0 ∨ s.u.on R.SDL_CTL_JOIN = false ∨ s.u.peerIs 3 = true)) ∧
    (∃ (s : State), s.u.deaf .peerLost = false ∧ s.u.on R.SDL_ROLE_PEER_VALID = false ∧ s.u.rd R.SDL_CTL_TAKE_HW = 0 ∧ s.u.role = 2) ∧
    (∃ (s : State), s.u.deaf .peerLost = false ∧ s.u.on R.SDL_ROLE_PEER_VALID = false ∧ s.u.rd R.SDL_CTL_TAKE_HW = 0 ∧ s.u.role = 1) ∧
    (∃ (s : State), s.u.deaf .peerLost = false ∧ ((s.u.role ≠ 1 ∧ s.u.role ≠ 2) ∨ s.u.on R.SDL_ROLE_PEER_VALID = true)) ∧
    (∃ (s : State) (n : _), s.u.deaf .clearAnswerTimeout = false ∧ s.u.sdl.clrWait = some n ∧ 3 ≤ n) ∧
    (∃ (s : State) (n : _), s.u.deaf .clearAnswerTimeout = false ∧ s.u.sdl.clrWait = some n ∧ n < 3) ∧
    (∃ (s : State), s.u.deaf .clearAnswerTimeout = false ∧ s.u.sdl.clrWait = none) ∧
    (∃ (s : State), s.u.deaf .revHoldExpire = false ∧ s.u.role = 2 ∧ s.u.on R.SDL_ROLE_PREFER = true ∧ s.u.rd R.SDL_TMO2_REV_HOLD ≠ 0) ∧
    (∃ (s : State), s.u.deaf .revHoldExpire = false ∧ (s.u.role ≠ 2 ∨ s.u.on R.SDL_ROLE_PREFER = false ∨ s.u.rd R.SDL_TMO2_REV_HOLD = 0)) ∧
    (∃ (s : State), s.u.deaf .rlqReset = false ∧ s.u.role = 4 ∧ s.u.on R.SDL_CTL_RLQ_RST = true) ∧
    (∃ (s : State), s.u.deaf .rlqReset = false ∧ (s.u.role ≠ 4 ∨ s.u.on R.SDL_CTL_RLQ_RST = false)) ∧
    (∃ (s : State), s.u.held = false) ∧
    (∃ (u : U) (r : _), u.role ≠ r ∧ r < 8) :=
  ⟨⟨wS (wU [(R.SDL_ROLE_ROLE, 4)]), by decide +kernel, by decide +kernel⟩,
    ⟨wS (wU [(R.SDL_ROLE_ROLE, 0), (R.SDL_ROLE_PEER_VALID, 0), (R.SDL_ROLE_PREFER, 1)]), _, by decide +kernel, by decide +kernel, rfl,
      by decide +kernel, by decide +kernel, by decide +kernel⟩,
    ⟨wS ((wU [(R.SDL_ROLE_ROLE, 0), (R.SDL_ROLE_PEER_VALID, 1)]).withSdl (fun x => { x with peer := some { wCtrl with role := 3 } })), _,
      { wCtrl with role := 3 }, by decide +kernel, by decide +kernel, rfl, by decide +kernel, by decide +kernel, rfl, by decide +kernel,
      by decide +kernel, by decide +kernel⟩,
    ⟨wS ((wU [(R.SDL_ROLE_ROLE, 0), (R.SDL_ROLE_PEER_VALID, 1)]).withSdl (fun x => { x with peer := some { wCtrl with cfgId := 1 } })), _,
      { wCtrl with cfgId := 1 }, by decide +kernel, by decide +kernel, rfl, by decide +kernel, by decide +kernel, rfl, by decide +kernel⟩,
    ⟨wS (wU [(R.SDL_ROLE_ROLE, 3), (R.SDL_ROLE_PEER_VALID, 1), (R.SDL_ROLE_PEER_ROLE, 2), (R.SDL_ROLE_HO_PEND, 0)]), by decide +kernel,
      by decide +kernel, by decide +kernel, by decide +kernel⟩,
    ⟨wS (wU []), by decide +kernel, by decide +kernel⟩,
    ⟨wS (wU []), by decide +kernel, by decide +kernel⟩,
    ⟨wS (wU [(R.SDL_ROLE_ROLE, 3), (R.SDL_ROLE_PEER_VALID, 1), (R.SDL_ROLE_PEER_ROLE, 2)]), _, by decide +kernel, by decide +kernel,
      by decide +kernel, rfl, by decide +kernel⟩,
    ⟨wS (wU [(R.SDL_ROLE_ROLE, 3)]), _, by decide +kernel, by decide +kernel, by decide +kernel, rfl, by decide +kernel⟩,
    ⟨(wU []), by decide +kernel⟩,
    ⟨(wU [((R.LNS_STATE_STATE (laneBase 96)), 7)]), by decide +kernel, by decide +kernel, by decide +kernel⟩,
    ⟨wS (wU [(R.SDL_ROLE_ROLE, 4)]), by decide +kernel, by decide +kernel, by decide +kernel⟩,
    ⟨wS (wU []), by decide +kernel, by decide +kernel⟩,
    ⟨wS (wU [(R.SDL_ROLE_ROLE, 0), (R.SDL_CTL_JOIN, 1)]), by decide +kernel, by decide +kernel, by decide +kernel, by decide +kernel⟩,
    ⟨wS (wU [(R.SDL_ROLE_ROLE, 1)]), by decide +kernel, by decide +kernel⟩,
    ⟨wS (wU [(R.SDL_ROLE_PEER_VALID, 0), (R.SDL_CTL_TAKE_HW, 0), (R.SDL_ROLE_ROLE, 2)]), by decide +kernel, by decide +kernel, by decide +kernel,
      by decide +kernel⟩,
    ⟨wS (wU [(R.SDL_ROLE_PEER_VALID, 0), (R.SDL_CTL_TAKE_HW, 0), (R.SDL_ROLE_ROLE, 1)]), by decide +kernel, by decide +kernel, by decide +kernel,
      by decide +kernel⟩,
    ⟨wS (wU []), by decide +kernel, by decide +kernel⟩,
    ⟨wS ((wU []).withSdl (fun x => { x with clrWait := some 3 })), _, by decide +kernel, rfl, by decide +kernel⟩,
    ⟨wS ((wU []).withSdl (fun x => { x with clrWait := some 2 })), _, by decide +kernel, rfl, by decide +kernel⟩,
    ⟨wS (wU []), by decide +kernel, by decide +kernel⟩,
    ⟨wS (wU [(R.SDL_ROLE_ROLE, 2), (R.SDL_ROLE_PREFER, 1), (R.SDL_TMO2_REV_HOLD, 1)]), by decide +kernel, by decide +kernel, by decide +kernel,
      by decide +kernel⟩,
    ⟨wS (wU []), by decide +kernel, by decide +kernel⟩,
    ⟨wS (wU [(R.SDL_ROLE_ROLE, 4), (R.SDL_CTL_RLQ_RST, 1)]), by decide +kernel, by decide +kernel, by decide +kernel⟩,
    ⟨wS (wU []), by decide +kernel, by decide +kernel⟩,
    ⟨wS (wU []), by decide +kernel⟩,
    ⟨(wU []), 7, by decide +kernel, by decide +kernel⟩⟩

/-- States and operands that meet the hypotheses of `Obligations.ResetCommandsComplete`, clause by clause. -/
theorem wit_ResetCommandsComplete :
    (∃ (src : _) (reach : _) (b : _), (Instr.resetAssert .unit src reach b).wf = true) ∧
    (∃ (h : _) (src : _) (reach : _) (b : _), (Instr.resetAssert (.hub h) src reach b).wf = true) ∧
    (∃ (w : H), w.sys.ep = none) ∧
    (∃ (w : H) (e : _), w.sys.ep = some e) ∧
    (∃ (reach : _), reach = 0) ∧
    (∃ (reach : _) (b : _), reach = 3 ∧ b ≠ 2) ∧
    (∃ (reach : _) (b : _), reach = 3 ∧ b ≠ 3) ∧
    (∃ (u : U) (src : _), src < 11 ∧ u.sys.stretch = false ∧ u.sys.ep = none) ∧
    (∃ (u : U) (src : _) (e : _), src < 11 ∧ u.sys.stretch = false ∧ u.sys.ep = some e) ∧
    (∃ (u : U), u.sys.stretch = true) ∧
    (∃ (u : U) (src : _) (reach : _), src < 11 ∧ u.sys.stretch = false ∧ reachOf src reach ≤ 1) ∧
    (∃ (src : _), (Instr.resetSourceRelease .unit src).wf = true) ∧
    (∃ (h : _) (src : _), (Instr.resetSourceRelease (.hub h) src).wf = true) ∧
    (∃ (s : State) (k : _), (Instr.resetStageComplete .unit k).wf = true ∧ (s.u.sys.ep = none ∨ (∃ e, s.u.sys.ep = some e ∧ e.now ≠ 0))) ∧
    (∃ (s : State) (h : _) (k : _), (Instr.resetStageComplete (.hub h) k).wf = true ∧ ((s.hub h).sys.ep = none ∨ (∃ e, (s.hub h).sys.ep = some e ∧
      (e.now ≠ 0 ∨ e.stage = 3)))) ∧
    (∃ (s : State) (h : _) (k : _) (e : _), (Instr.resetStageComplete (.hub h) k).wf = true ∧ (s.hub h).sys.ep = some e ∧ e.now = 0 ∧ (e.stage = 1 ∨
      e.stage = 4 ∨ (e.stage = 5 ∧ e.reach = 0))) ∧
    (∃ (s : State) (h : _) (k : _) (e : _), (Instr.resetStageComplete (.hub h) k).wf = true ∧ (s.hub h).sys.ep = some e ∧ e.now = 0 ∧ e.stage = 6) ∧
    (∃ (s : State) (h : _) (k : _) (e : _), (Instr.resetStageComplete (.hub h) k).wf = true ∧ (s.hub h).sys.ep = some e ∧ e.now = 0 ∧ e.stage = 5 ∧
      e.reach ≠ 0) ∧
    (∃ (s : State) (k : _) (e : _), (Instr.resetStageComplete .unit k).wf = true ∧ s.u.sys.ep = some e ∧ e.now = 0 ∧ s.u.sys.stretch = false ∧ e.stage
      = 1) ∧
    (∃ (s : State) (k : _) (e : _), (Instr.resetStageComplete .unit k).wf = true ∧ s.u.sys.ep = some e ∧ e.now = 0 ∧ s.u.sys.stretch = false ∧ e.stage
      = 2) ∧
    (∃ (s : State) (k : _) (e : _), (Instr.resetStageComplete .unit k).wf = true ∧ s.u.sys.ep = some e ∧ e.now = 0 ∧ s.u.sys.stretch = false ∧ e.stage
      = 3) ∧
    (∃ (s : State) (k : _) (e : _), (Instr.resetStageComplete .unit k).wf = true ∧ s.u.sys.ep = some e ∧ e.now = 0 ∧ s.u.sys.stretch = false ∧ e.stage
      = 4) ∧
    (∃ (s : State) (k : _) (e : _), (Instr.resetStageComplete .unit k).wf = true ∧ s.u.sys.ep = some e ∧ e.now = 0 ∧ s.u.sys.stretch = false ∧ e.stage
      = 5 ∧ e.reach ≤ 1) ∧
    (∃ (s : State) (k : _) (e : _), (Instr.resetStageComplete .unit k).wf = true ∧ s.u.sys.ep = some e ∧ e.now = 0 ∧ s.u.sys.stretch = false ∧ e.stage
      = 5 ∧ 1 < e.reach) ∧
    (∃ (s : State) (k : _) (e : _), (Instr.resetStageComplete .unit k).wf = true ∧ s.u.sys.ep = some e ∧ e.now = 0 ∧ s.u.sys.stretch = false ∧ e.stage
      = 6) ∧
    (∃ (s : State) (ws : _), (Instr.fuseLoadDone .unit ws).wf = true ∧ (s.u.sys.ep = none ∨ (∃ e, s.u.sys.ep = some e ∧ (e.stage ≠ 3 ∨ e.now ≠ 0)))) ∧
    (∃ (s : State) (ws : _) (e : _) (v : _), (Instr.fuseLoadDone .unit ws).wf = true ∧ s.u.sys.ep = some e ∧ e.stage = 3 ∧ e.now = 0 ∧ fusePass ws =
      true ∧ v = (((s.u.wr R.SYS_FUSE_STATE 1).wr R.SYS_FUSE_DEF_TRIM 0).wr R.SYS_FUSE_FUSE_FAIL 0).withSys (fun x =>
      { x with words := ws, shadow := true })) ∧
    (∃ (s : State) (ws : _) (e : _) (v : _), (Instr.fuseLoadDone .unit ws).wf = true ∧ s.u.sys.ep = some e ∧ e.stage = 3 ∧ e.now = 0 ∧ fusePass ws =
      false ∧ v = ((s.u.inc R.SYS_FUSE_FAILS).withSys (fun x => { x with words := ws })).raise s.time SYS.FUSE_RETRY [] ∧ v.rd R.SYS_FUSE_FAILS < 3) ∧
    (∃ (s : State) (ws : _) (e : _) (v : _), (Instr.fuseLoadDone .unit ws).wf = true ∧ s.u.sys.ep = some e ∧ e.stage = 3 ∧ e.now = 0 ∧ fusePass ws =
      false ∧ v = ((s.u.inc R.SYS_FUSE_FAILS).withSys (fun x => { x with words := ws })).raise s.time SYS.FUSE_RETRY [] ∧ 3 ≤ v.rd R.SYS_FUSE_FAILS) ∧
    (∃ (h : _) (ws : _), (Instr.fuseLoadDone (.hub h) ws).wf = true) ∧
    (∃ (w : H) (ws : _) (e : _), w.sys.ep = some e ∧ e.stage = 3 ∧ e.now = 0 ∧ fusePass ws = true) ∧
    (∃ (w : H) (ws : _) (e : _), w.sys.ep = some e ∧ e.stage = 3 ∧ e.now = 0 ∧ fusePass ws = false) ∧
    (∃ (s : State), s.u.sys.stretch = false) ∧
    (∃ (s : State), s.u.sys.stretch = true) ∧
    (∃ (s : State) (key : _), (Instr.sysRstSystem key).wf = true ∧ s.u.held = false ∧ key = 0x5E7A) ∧
    (∃ (s : State) (key : _), (Instr.sysRstSystem key).wf = true ∧ s.u.held = false ∧ key ≠ 0x5E7A) ∧
    (∃ (s : State) (key : _), (Instr.sysRstEngine key).wf = true ∧ s.u.held = false ∧ key = 0x5E7A ∧ s.u.on R.DEP_CTL_CONV_EN = false) ∧
    (∃ (s : State) (key : _), (Instr.sysRstEngine key).wf = true ∧ s.u.held = false ∧ (key ≠ 0x5E7A ∨ s.u.on R.DEP_CTL_CONV_EN = true)) ∧
    (∃ (s : State) (key : _) (i : _), (Instr.sysRstBlock key i).wf = true ∧ s.u.held = false ∧ key = 0x5E7A ∧ blockAt i = true ∧ i ∉ [0, 1, 48, 83,
      84, 85] ∧ (s.u.on R.DEP_CTL_CONV_EN = false ∨ (i < 16 ∨ 43 < i) ∧ i ≠ 49)) ∧
    (∃ (s : State) (key : _) (i : _), (Instr.sysRstBlock key i).wf = true ∧ s.u.held = false ∧ key = 0x5E7A ∧ blockAt i = true ∧ i ∉ [0, 1, 48, 83,
      84, 85] ∧ (s.u.on R.DEP_CTL_CONV_EN = false ∨ (i < 16 ∨ 43 < i) ∧ i ≠ 49)) ∧
    (∃ (s : State) (key : _) (i : _), (Instr.sysRstBlock key i).wf = true ∧ s.u.held = false ∧ (key ≠ 0x5E7A ∨ blockAt i = false ∨ i ∈ [0, 1, 48, 83,
      84, 85] ∨ (s.u.on R.DEP_CTL_CONV_EN = true ∧ ((16 ≤ i ∧ i ≤ 43) ∨ i = 49)))) ∧
    (∃ (s : State) (key : _) (i : _), (Instr.sysRstBlock key i).wf = true ∧ s.u.held = false ∧ (key ≠ 0x5E7A ∨ blockAt i = false ∨ i ∈ [0, 1, 48, 83,
      84, 85] ∨ (s.u.on R.DEP_CTL_CONV_EN = true ∧ ((16 ≤ i ∧ i ≤ 43) ∨ i = 49)))) ∧
    (∃ (s : State) (key : _), (Instr.sysRstPeer key).wf = true ∧ s.u.held = false ∧ key = 0x5E7A ∧ s.u.sidingUp = 0) ∧
    (∃ (s : State) (key : _), (Instr.sysRstPeer key).wf = true ∧ s.u.held = false ∧ key ≠ 0x5E7A) ∧
    (∃ (s : State) (b : _), (Instr.peerResetRx b).wf = true ∧ s.u.held = false ∧ (s.u.sidingUp = 0 ∨ b ≠ peerResetBlock)) ∧
    (∃ (s : State) (b : _), (Instr.peerResetRx b).wf = true ∧ s.u.held = false ∧ (s.u.sidingUp = 0 ∨ b ≠ peerResetBlock)) ∧
    (∃ (s : State), s.u.held = false ∧ s.u.sidingUp ≠ 0 ∧ s.u.on R.SYS_RST_CTL_PEER_RST_EN = true ∧ s.u.role ≠ 3) ∧
    (∃ (s : State), s.u.held = false ∧ s.u.sidingUp ≠ 0 ∧ (s.u.on R.SYS_RST_CTL_PEER_RST_EN = false ∨ s.u.role = 3)) ∧
    (∃ (s : State), s.u.held = false ∧ s.u.sidingUp ≠ 0 ∧ (s.u.on R.SYS_RST_CTL_PEER_RST_EN = false ∨ s.u.role = 3)) ∧
    (∃ (s : State), s.u.held = false ∧ s.u.on R.SYS_WDOG_EN = false) ∧
    (∃ (s : State), s.u.held = false ∧ s.u.on R.SYS_WDOG_EN = true) ∧
    (∃ (s : State) (key : _), (Instr.wdogKick key).wf = true ∧ s.u.held = false ∧ key = 0xD0C5) ∧
    (∃ (s : State) (key : _), (Instr.wdogKick key).wf = true ∧ s.u.held = false ∧ key ≠ 0xD0C5) ∧
    (∃ (s : State) (v : _), s.u.held = false ∧ v = (s.u.raise s.time SYS.WDOG_WARN []).withSys (fun x => { x with missed := x.missed + 1 }) ∧ s.u.on
      R.SYS_WDOG_EN = false) ∧
    (∃ (s : State) (v : _), s.u.held = false ∧ v = (s.u.raise s.time SYS.WDOG_WARN []).withSys (fun x => { x with missed := x.missed + 1 }) ∧ s.u.on
      R.SYS_WDOG_EN = true ∧ v.sys.missed < 2) ∧
    (∃ (s : State) (v : _), s.u.held = false ∧ v = (s.u.raise s.time SYS.WDOG_WARN []).withSys (fun x => { x with missed := x.missed + 1 }) ∧ s.u.on
      R.SYS_WDOG_EN = true ∧ 2 ≤ v.sys.missed) ∧
    (∃ (s : State) (v : _), (Instr.coreRelease v).wf = true ∧ s.u.held = false ∧ s.u.Calm) :=
  ⟨⟨10, 0, 0, by decide +kernel⟩,
    ⟨0, 0, 0, 0, by decide +kernel⟩,
    ⟨(wH []), by decide +kernel⟩,
    ⟨(wH []).withSys (fun x => { x with ep := some (wEp 4 1 0) }), _, rfl⟩,
    ⟨0, by decide +kernel⟩,
    ⟨3, 0, by decide +kernel, by decide +kernel⟩,
    ⟨3, 0, by decide +kernel, by decide +kernel⟩,
    ⟨U.afterReset, 10, by decide +kernel, by decide +kernel, by decide +kernel⟩,
    ⟨U.afterReset.withSys (fun x => { x with ep := some (wEp 4 1 0) }), 0, _, by decide +kernel, by decide +kernel, rfl⟩,
    ⟨U.afterReset.withSys (fun x => { x with stretch := true }), by decide +kernel⟩,
    ⟨U.afterReset, 5, 1, by decide +kernel, by decide +kernel, by decide +kernel⟩,
    ⟨0, by decide +kernel⟩,
    ⟨0, 0, by decide +kernel⟩,
    ⟨wS (wU []), 0, by decide +kernel, by decide +kernel⟩,
    ⟨wHS (wH []), 0, 0, by decide +kernel, by decide +kernel⟩,
    ⟨wHS ((wH []).withSys (fun x => { x with ep := some (wEp 5 0 0) })), 0, 0, wEp 5 0 0, by decide +kernel, by decide +kernel, by decide +kernel,
      by decide +kernel⟩,
    ⟨wHS ((wH []).withSys (fun x => { x with ep := some (wEp 6 0 0) })), 0, 0, wEp 6 0 0, by decide +kernel, by decide +kernel, by decide +kernel,
      by decide +kernel⟩,
    ⟨wHS ((wH []).withSys (fun x => { x with ep := some (wEp 5 1 0) })), 0, 0, wEp 5 1 0, by decide +kernel, by decide +kernel, by decide +kernel,
      by decide +kernel, by decide +kernel⟩,
    ⟨wS ((wU []).withSys (fun x => { x with ep := some (wEp 1 1 0) })), 0, _, by decide +kernel, rfl, by decide +kernel, by decide +kernel,
      by decide +kernel⟩,
    ⟨wS ((wU []).withSys (fun x => { x with ep := some (wEp 2 0 0) })), 0, _, by decide +kernel, rfl, by decide +kernel, by decide +kernel,
      by decide +kernel⟩,
    ⟨wS ((wU []).withSys (fun x => { x with ep := some (wEp 3 0 0) })), 0, _, by decide +kernel, rfl, by decide +kernel, by decide +kernel,
      by decide +kernel⟩,
    ⟨wS ((wU []).withSys (fun x => { x with ep := some (wEp 4 1 0) })), 0, _, by decide +kernel, rfl, by decide +kernel, by decide +kernel,
      by decide +kernel⟩,
    ⟨wS ((wU []).withSys (fun x => { x with ep := some (wEp 5 1 0) })), 0, _, by decide +kernel, rfl, by decide +kernel, by decide +kernel,
      by decide +kernel, by decide +kernel⟩,
    ⟨wS ((wU []).withSys (fun x => { x with ep := some (wEp 5 2 0) })), 0, _, by decide +kernel, rfl, by decide +kernel, by decide +kernel,
      by decide +kernel, by decide +kernel⟩,
    ⟨wS ((wU []).withSys (fun x => { x with ep := some (wEp 6 1 0) })), 0, _, by decide +kernel, rfl, by decide +kernel, by decide +kernel,
      by decide +kernel⟩,
    ⟨wS (wU []), zeros 256, by decide +kernel, by decide +kernel⟩,
    ⟨wS ((wU []).withSys (fun x => { x with ep := some (wEp 3 0 0) })), wFuse (zeros 255) 0, _, _, wFuse_wf List.length_replicate (by decide +kernel),
      rfl, by decide +kernel, by decide +kernel, wFuse_pass List.length_replicate, rfl⟩,
    ⟨wS ((wU [(R.SYS_FUSE_FAILS, 1)]).withSys (fun x => { x with ep := some (wEp 3 0 0) })), wFuse (zeros 255) 1, _, _, wFuse_wf List.length_replicate
      (by decide +kernel), rfl, by decide +kernel, by decide +kernel, wFuse_fail List.length_replicate, rfl, by decide +kernel⟩,
    ⟨wS ((wU [(R.SYS_FUSE_FAILS, 2)]).withSys (fun x => { x with ep := some (wEp 3 0 0) })), wFuse (zeros 255) 1, _, _, wFuse_wf List.length_replicate
      (by decide +kernel), rfl, by decide +kernel, by decide +kernel, wFuse_fail List.length_replicate, rfl, by decide +kernel⟩,
    ⟨0, zeros 256, by decide +kernel⟩,
    ⟨(wH []).withSys (fun x => { x with ep := some (wEp 3 0 0) }), wFuse (zeros 255) 0, _, rfl, by decide +kernel, by decide +kernel, wFuse_pass
      List.length_replicate⟩,
    ⟨(wH []).withSys (fun x => { x with ep := some (wEp 3 0 0) }), [], _, rfl, by decide +kernel, by decide +kernel, by decide +kernel⟩,
    ⟨wS (wU []), by decide +kernel⟩,
    ⟨wS ((wU []).withSys (fun x => { x with stretch := true })), by decide +kernel⟩,
    ⟨wS (wU []), 0x5E7A, by decide +kernel, by decide +kernel, by decide +kernel⟩,
    ⟨wS (wU []), 0x5E7B, by decide +kernel, by decide +kernel, by decide +kernel⟩,
    ⟨wS (wU [(R.DEP_CTL_CONV_EN, 0)]), 0x5E7A, by decide +kernel, by decide +kernel, by decide +kernel, by decide +kernel⟩,
    ⟨wS (wU [(R.DEP_CTL_CONV_EN, 1)]), 0x5E7A, by decide +kernel, by decide +kernel, by decide +kernel⟩,
    ⟨wS (wU []), 0x5E7A, 49, by decide +kernel, by decide +kernel, by decide +kernel, by decide +kernel, by decide +kernel, by decide +kernel⟩,
    ⟨wS (wU [(R.DEP_CTL_CONV_EN, 1)]), 0x5E7A, 80, by decide +kernel, by decide +kernel, by decide +kernel, by decide +kernel, by decide +kernel,
      by decide +kernel⟩,
    ⟨wS (wU []), 0x5E7A, 48, by decide +kernel, by decide +kernel, by decide +kernel⟩,
    ⟨wS (wU [(R.DEP_CTL_CONV_EN, 1)]), 0x5E7A, 49, by decide +kernel, by decide +kernel, by decide +kernel⟩,
    ⟨wS (wU []), 0x5E7A, by decide +kernel, by decide +kernel, by decide +kernel, by decide +kernel⟩,
    ⟨wS (wU []), 0, by decide +kernel, by decide +kernel, by decide +kernel⟩,
    ⟨wS (wU []), peerResetBlock, by decide +kernel, by decide +kernel, by decide +kernel⟩,
    ⟨wS (wU [((R.LNS_STATE_STATE (laneBase 96)), 7)]), control 0x66 [], by decide +kernel, by decide +kernel, by decide +kernel⟩,
    ⟨wS (wU [(R.SYS_RST_CTL_PEER_RST_EN, 1), (R.SYS_RST_CTL_PEER_RST_EN, 1), ((R.LNS_STATE_STATE (laneBase 96)), 7)]), by decide +kernel,
      by decide +kernel, by decide +kernel, by decide +kernel⟩,
    ⟨wS (wU [(R.SYS_RST_CTL_PEER_RST_EN, 1), (R.SDL_ROLE_ROLE, 3), ((R.LNS_STATE_STATE (laneBase 96)), 7)]), by decide +kernel, by decide +kernel,
      by decide +kernel⟩,
    ⟨wS (wU [((R.LNS_STATE_STATE (laneBase 96)), 7)]), by decide +kernel, by decide +kernel, by decide +kernel⟩,
    ⟨wS (wU [(R.SYS_WDOG_EN, 0)]), by decide +kernel, by decide +kernel⟩,
    ⟨wS (wU [(R.SYS_WDOG_EN, 1)]), by decide +kernel, by decide +kernel⟩,
    ⟨wS (wU []), 0xD0C5, by decide +kernel, by decide +kernel, by decide +kernel⟩,
    ⟨wS (wU []), 0xD0C4, by decide +kernel, by decide +kernel, by decide +kernel⟩,
    ⟨wS (wU [(R.SYS_WDOG_EN, 0)]), _, by decide +kernel, rfl, by decide +kernel⟩,
    ⟨wS (wU [(R.SYS_WDOG_EN, 1)]), _, by decide +kernel, rfl, by decide +kernel, by decide +kernel⟩,
    ⟨wS ((wU [(R.SYS_WDOG_EN, 1)]).withSys (fun x => { x with missed := 1 })), _, by decide +kernel, rfl, by decide +kernel, by decide +kernel⟩,
    ⟨wS (wU []), 65535, by decide +kernel, by decide +kernel, (by constructor <;> decide +kernel)⟩⟩

/-- States and operands that meet the hypotheses of `Obligations.PowerAndConfigurationCommandsComplete`, clause by clause. -/
theorem wit_PowerAndConfigurationCommandsComplete :
    (∃ (s : State) (x : _), (Instr.dieTempChange .unit x).wf = true ∧ s.u.sys.ep = none ∧ s.u.sys.stretch = false ∧ (s.u.sys.fuse.otRst : Int) < x) ∧
    (∃ (s : State) (x : _), (Instr.dieTempChange .unit x).wf = true ∧ s.u.sys.ep = none ∧ s.u.sys.stretch = false ∧ x ≤ s.u.sys.fuse.otRst) ∧
    (∃ (s : State) (x : _) (e : _), (Instr.dieTempChange .unit x).wf = true ∧ s.u.sys.ep = some e ∧ bitAt e.now 2 = true ∧ x < (s.u.sys.fuse.otRst :
      Int) - 10) ∧
    (∃ (s : State) (x : _) (e : _), (Instr.dieTempChange .unit x).wf = true ∧ s.u.sys.ep = some e ∧ bitAt e.now 2 = true ∧ (s.u.sys.fuse.otRst : Int)
      - 10 ≤ x) ∧
    (∃ (u : U), (u.rd R.SYS_OT_OT_WARN : Int) ≤ u.rdS R.SYS_OT_TEMP ∧ u.sys.hot = false) ∧
    (∃ (u : U), u.rdS R.SYS_OT_TEMP < (u.rd R.SYS_OT_OT_WARN : Int) - 5 ∧ u.sys.hot = true) ∧
    (∃ (s : State) (h : _) (x : _), (Instr.dieTempChange (.hub h) x).wf = true ∧ (s.hub h).deaf (.dieTempChange (.hub h) x) = false) ∧
    (∃ (cid : _) (x : _), (Instr.dieTempChange (.cell cid) x).wf = true) ∧
    (∃ (s : State) (v : _) (d : _), (Instr.sysPwrWrite v).wf = true ∧ s.u.held = false ∧ d < 32 ∧ (∀ k < 5, bitAt d k = (bitAt v k && !bitAt
      s.u.pwrMask k)) ∧ s.u.pwrRefused d = true) ∧
    (∃ (s : State) (v : _) (d : _), (Instr.sysPwrWrite v).wf = true ∧ s.u.held = false ∧ d < 32 ∧ (∀ k < 5, bitAt d k = (bitAt v k && !bitAt
      s.u.pwrMask k)) ∧ s.u.pwrRefused d = false ∧ bitAt d 2 = true) ∧
    (∃ (s : State) (v : _) (d : _), (Instr.sysPwrWrite v).wf = true ∧ s.u.held = false ∧ d < 32 ∧ (∀ k < 5, bitAt d k = (bitAt v k && !bitAt
      s.u.pwrMask k)) ∧ s.u.pwrRefused d = false ∧ bitAt d 2 = false) ∧
    (∃ (s : State) (v : _) (d : _) (k : _), (Instr.sysPwrWrite v).wf = true ∧ s.u.held = false ∧ d < 32 ∧ (∀ k < 5, bitAt d k = (bitAt v k && !bitAt
      s.u.pwrMask k)) ∧ s.u.pwrRefused d = false ∧ k < 5) ∧
    (∃ (s : State), s.u.held = false) ∧
    (∃ (u : U), u.sys.rising = []) ∧
    (∃ (s : State) (k : _) (c : _), (c = Instr.bakClrCnt k ∨ c = Instr.bakClrHist k ∨ c = Instr.bakClrLf k) ∧ c.wf = true ∧ s.u.held = false ∧ k ≠
      0xBA4C) ∧
    (∃ (s : State) (k : _) (c : _), (c = Instr.bakClrCnt k ∨ c = Instr.bakClrHist k ∨ c = Instr.bakClrLf k) ∧ c.wf = true ∧ s.u.held = false ∧ k ≠
      0xBA4C) ∧
    (∃ (s : State) (k : _) (c : _), (c = Instr.bakClrCnt k ∨ c = Instr.bakClrHist k ∨ c = Instr.bakClrLf k) ∧ c.wf = true ∧ s.u.held = false ∧ k ≠
      0xBA4C) ∧
    (∃ (o : List Nat), (Instr.vbakRise o).wf = true) ∧
    (∃ (o : List Nat), le o 292 4 ≠ crc32c (o.take 292)) ∧
    (∃ (o : List Nat), le o 292 4 = crc32c (o.take 292)) ∧
    (∃ (s : State) (cid : _) (o : List Nat) (k : _), (Instr.configBlockRx cid o).wf = true ∧ k = s.cell cid ∧ (k.named (readCfgBlock o).cid = false ∨
      octet o 0 ≠ 0x10)) ∧
    (∃ (s : State) (cid : _) (o : List Nat) (k : _) (b : _), (Instr.configBlockRx cid o).wf = true ∧ k = s.cell cid ∧ octet o 0 = 0x10 ∧ b =
      readCfgBlock o ∧ k.named b.cid = true ∧ b.blk = 0 ∧ 1 < b.nblk ∧ k.clk.asm.find? (b2n b.unitB) = none) ∧
    (∃ (s : State) (cid : _) (o : List Nat) (k : _) (b : _) (a : Assembly), (Instr.configBlockRx cid o).wf = true ∧ k = s.cell cid ∧ octet o 0 = 0x10
      ∧ b = readCfgBlock o ∧ k.named b.cid = true ∧ k.clk.asm.find? (b2n b.unitB) = some a ∧ a.tag = b.tag ∧ a.nblk = b.nblk ∧ b.blk < a.next) ∧
    (∃ (s : State) (cid : _) (o : List Nat) (k : _) (b : _) (a : Assembly), (Instr.configBlockRx cid o).wf = true ∧ k = s.cell cid ∧ octet o 0 = 0x10
      ∧ b = readCfgBlock o ∧ k.named b.cid = true ∧ k.clk.asm.find? (b2n b.unitB) = some a ∧ a.tag = b.tag ∧ a.nblk = b.nblk ∧ b.blk = a.next ∧ b.blk
      + 1 ≠ b.nblk) ∧
    (∃ (s : State) (cid : _) (o : List Nat) (k : _) (b : _) (a : Assembly), (Instr.configBlockRx cid o).wf = true ∧ k = s.cell cid ∧ octet o 0 = 0x10
      ∧ b = readCfgBlock o ∧ k.named b.cid = true ∧ k.clk.asm.find? (b2n b.unitB) = some a ∧ a.tag = b.tag ∧ a.nblk = b.nblk ∧ a.next < b.blk ∧ b.blk
      + 1 ≠ b.nblk) ∧
    (∃ (s : State) (cid : _) (o : List Nat) (k : _) (b : _) (a : Assembly), (Instr.configBlockRx cid o).wf = true ∧ k = s.cell cid ∧ octet o 0 = 0x10
      ∧ b = readCfgBlock o ∧ k.named b.cid = true ∧ k.clk.asm.find? (b2n b.unitB) = some a ∧ a.tag = b.tag ∧ a.nblk = b.nblk ∧ a.next < b.blk ∧ b.blk
      + 1 = b.nblk) ∧
    (∃ (s : State) (cid : _) (o : List Nat) (k : _) (b : _) (a : Assembly) (d : _), (Instr.configBlockRx cid o).wf = true ∧ k = s.cell cid ∧ octet o 0
      = 0x10 ∧ b = readCfgBlock o ∧ k.named b.cid = true ∧ k.clk.asm.find? (b2n b.unitB) = some a ∧ a.tag = b.tag ∧ a.next = b.blk ∧ a.nblk = b.nblk ∧
      b.blk + 1 = b.nblk ∧ d = k.withClk (fun l => { l with asm := l.asm.set (b2n b.unitB) ⟨b.tag, a.next + 1, b.nblk, a.set⟩ }) ∧ b.check ≠
      Config.shake256 (setBytes a.set)) ∧
    (∃ (s : State) (cid : _) (o : List Nat) (k : _) (b : _) (a : Assembly) (d : _), (Instr.configBlockRx cid o).wf = true ∧ k = s.cell cid ∧ octet o 0
      = 0x10 ∧ b = readCfgBlock o ∧ k.named b.cid = true ∧ k.clk.asm.find? (b2n b.unitB) = some a ∧ a.tag = b.tag ∧ a.next = b.blk ∧ a.nblk = b.nblk ∧
      b.blk + 1 = b.nblk ∧ d = k.withClk (fun l => { l with asm := l.asm.set (b2n b.unitB) ⟨b.tag, a.next + 1, b.nblk, a.set⟩ }) ∧ b.check =
      Config.shake256 (setBytes a.set) ∧ k.clk.applied = some b.check) ∧
    (∃ (s : State) (cid : _) (o : List Nat) (k : _) (b : _) (a : Assembly) (d : _) (w : _), (Instr.configBlockRx cid o).wf = true ∧ k = s.cell cid ∧
      octet o 0 = 0x10 ∧ b = readCfgBlock o ∧ k.named b.cid = true ∧ k.clk.asm.find? (b2n b.unitB) = some a ∧ a.tag = b.tag ∧ a.next = b.blk ∧ a.nblk
      = b.nblk ∧ b.blk + 1 = b.nblk ∧ d = k.withClk (fun l => { l with asm := l.asm.set (b2n b.unitB) ⟨b.tag, a.next + 1, b.nblk, a.set⟩ }) ∧ b.check
      = Config.shake256 (setBytes a.set) ∧ k.clk.applied = some w ∧ w ≠ b.check) ∧
    (∃ (s : State) (cid : _) (o : List Nat) (k : _) (b : _) (a : Assembly) (d : _), (Instr.configBlockRx cid o).wf = true ∧ k = s.cell cid ∧ octet o 0
      = 0x10 ∧ b = readCfgBlock o ∧ k.named b.cid = true ∧ k.clk.asm.find? (b2n b.unitB) = some a ∧ a.tag = b.tag ∧ a.next = b.blk ∧ a.nblk = b.nblk ∧
      b.blk + 1 = b.nblk ∧ d = k.withClk (fun l => { l with asm := l.asm.set (b2n b.unitB) ⟨b.tag, a.next + 1, b.nblk, a.set⟩ }) ∧ b.check =
      Config.shake256 (setBytes a.set) ∧ k.clk.applied = none ∧ (d.pointsCheck (unlocked a.set) 0).1 ≠ 0) ∧
    (∃ (s : State) (cid : _) (o : List Nat) (k : _) (b : _) (a : Assembly) (d : _), (Instr.configBlockRx cid o).wf = true ∧ k = s.cell cid ∧ octet o 0
      = 0x10 ∧ b = readCfgBlock o ∧ k.named b.cid = true ∧ k.clk.asm.find? (b2n b.unitB) = some a ∧ a.tag = b.tag ∧ a.next = b.blk ∧ a.nblk = b.nblk ∧
      b.blk + 1 = b.nblk ∧ d = k.withClk (fun l => { l with asm := l.asm.set (b2n b.unitB) ⟨b.tag, a.next + 1, b.nblk, a.set⟩ }) ∧ b.check =
      Config.shake256 (setBytes a.set) ∧ k.clk.applied = none ∧ (d.pointsCheck (unlocked a.set) 0).1 = 0) ∧
    (∃ (s : State) (cid : _), (Instr.configResendTimeout cid).wf = true ∧ s.u.deaf (.configResendTimeout cid) = false ∧ s.u.mlk.cfg.find? cid = none) ∧
    (∃ (s : State) (cid : _) (c : _), (Instr.configResendTimeout cid).wf = true ∧ s.u.deaf (.configResendTimeout cid) = false ∧ s.u.mlk.cfg.find? cid
      = some c ∧ dnDiff s.time.dn c.dn < 64) ∧
    (∃ (s : State) (cid : _) (c : _), (Instr.configResendTimeout cid).wf = true ∧ s.u.deaf (.configResendTimeout cid) = false ∧ s.u.mlk.cfg.find? cid
      = some c ∧ 64 ≤ dnDiff s.time.dn c.dn ∧ c.tries < 3) ∧
    (∃ (s : State) (cid : _) (c : _), (Instr.configResendTimeout cid).wf = true ∧ s.u.deaf (.configResendTimeout cid) = false ∧ s.u.mlk.cfg.find? cid
      = some c ∧ 64 ≤ dnDiff s.time.dn c.dn ∧ 3 ≤ c.tries) ∧
    (∃ (s : State) (cid : _) (k : _) (n : _), (Instr.cellSelfReset cid).wf = true ∧ k = s.cell cid ∧ n = (k.powerReset k.prt.uvlo).boot ∧ k.rst ≠ some
      0) ∧
    (∃ (s : State) (cid : _) (k : _) (n : _), (Instr.cellSelfReset cid).wf = true ∧ k = s.cell cid ∧ n = (k.powerReset k.prt.uvlo).boot ∧ k.rst = some
      0) ∧
    (∃ (s : State) (gone : _), s.u.held = false ∧ gone = s.u.topo.cells.filter (fun c => !s.u.mlk.ok.contains c.cid && !s.u.flag c.cid .retired)) :=
  ⟨⟨wS (wU []), 126, by decide +kernel, by decide +kernel, by decide +kernel, by decide +kernel⟩,
    ⟨wS (wU []), 125, by decide +kernel, by decide +kernel, by decide +kernel, by decide +kernel⟩,
    ⟨wS ((wU []).withSys (fun x => { x with ep := some (wEp 1 0 4) })), 114, _, by decide +kernel, rfl, by decide +kernel, by decide +kernel⟩,
    ⟨wS ((wU []).withSys (fun x => { x with ep := some (wEp 1 0 4) })), 115, _, by decide +kernel, rfl, by decide +kernel, by decide +kernel⟩,
    ⟨(wU [(R.SYS_OT_OT_WARN, 0)]), by decide +kernel, by decide +kernel⟩,
    ⟨(wU [(R.SYS_OT_OT_WARN, 6)]).withSys (fun x => { x with hot := true }), by decide +kernel, by decide +kernel⟩,
    ⟨wHS (wH []), 0, 0, by decide +kernel, by decide +kernel⟩,
    ⟨0, 0, by decide +kernel⟩,
    ⟨wS (wU [(R.SYS_CFG_TWIN, 1)]), 1, 1, by decide +kernel, by decide +kernel, by decide +kernel, by decide +kernel, by decide +kernel⟩,
    ⟨wS (wU []), 4, 4, by decide +kernel, by decide +kernel, by decide +kernel, by decide +kernel, by decide +kernel, by decide +kernel⟩,
    ⟨wS (wU []), 2, 2, by decide +kernel, by decide +kernel, by decide +kernel, by decide +kernel, by decide +kernel, by decide +kernel⟩,
    ⟨wS (wU []), 16, 16, 4, by decide +kernel, by decide +kernel, by decide +kernel, by decide +kernel, by decide +kernel, by decide +kernel⟩,
    ⟨wS (wU []), by decide +kernel⟩,
    ⟨(wU []), by decide +kernel⟩,
    ⟨wS (wU []), 0, .bakClrCnt 0, by decide +kernel, by decide +kernel, by decide +kernel, by decide +kernel⟩,
    ⟨wS (wU []), 0, .bakClrHist 0, by decide +kernel, by decide +kernel, by decide +kernel, by decide +kernel⟩,
    ⟨wS (wU []), 0, .bakClrLf 0, by decide +kernel, by decide +kernel, by decide +kernel, by decide +kernel⟩,
    ⟨zeros 296, by decide +kernel⟩,
    ⟨[1], by decide +kernel⟩,
    ⟨zeros 292 ++ toBytes 4 (crc32c (zeros 292)), wBak List.length_replicate⟩,
    ⟨wCS (wC []), 0, zeros 64, _, by decide +kernel, rfl, by decide +kernel⟩,
    ⟨wCS (wC [(R.CLK_ID_POS_VALID, 1)]), 0, wBlk 0 2 0, _, _, by decide +kernel, rfl, by decide +kernel, rfl, by decide +kernel, by decide +kernel,
      by decide +kernel, by decide +kernel⟩,
    ⟨wCS ((wC [(R.CLK_ID_POS_VALID, 1)]).withClk (fun l => { l with asm := [(0, ⟨1, 1, 2, []⟩)] })), 0, wBlk 0 2 0, _, _, ⟨1, 1, 2, []⟩,
      by decide +kernel, rfl, by decide +kernel, rfl, by decide +kernel, by decide +kernel, by decide +kernel, by decide +kernel, by decide +kernel⟩,
    ⟨wCS ((wC [(R.CLK_ID_POS_VALID, 1)]).withClk (fun l => { l with asm := [(0, ⟨1, 0, 2, []⟩)] })), 0, wBlk 0 2 0, _, _, ⟨1, 0, 2, []⟩,
      by decide +kernel, rfl, by decide +kernel, rfl, by decide +kernel, by decide +kernel, by decide +kernel, by decide +kernel, by decide +kernel,
      by decide +kernel⟩,
    ⟨wCS ((wC [(R.CLK_ID_POS_VALID, 1)]).withClk (fun l => { l with asm := [(0, ⟨1, 0, 3, []⟩)] })), 0, wBlk 1 3 0, _, _, ⟨1, 0, 3, []⟩,
      by decide +kernel, rfl, by decide +kernel, rfl, by decide +kernel, by decide +kernel, by decide +kernel, by decide +kernel, by decide +kernel,
      by decide +kernel⟩,
    ⟨wCS ((wC [(R.CLK_ID_POS_VALID, 1)]).withClk (fun l => { l with asm := [(0, ⟨1, 0, 3, []⟩)] })), 0, wBlk 2 3 0, _, _, ⟨1, 0, 3, []⟩,
      by decide +kernel, rfl, by decide +kernel, rfl, by decide +kernel, by decide +kernel, by decide +kernel, by decide +kernel, by decide +kernel,
      by decide +kernel⟩,
    ⟨wCS ((wC [(R.CLK_ID_POS_VALID, 1)]).withClk (fun l => { l with asm := [(0, ⟨1, 1, 2, []⟩)] })), 0, wBlk 1 2 (Config.shake256 (setBytes []) + 1),
      _, _, ⟨1, 1, 2, []⟩, _, wBlk_wf _ _ _ (by decide) (by decide), rfl, by decide +kernel, rfl, by decide +kernel, by decide +kernel,
      by decide +kernel, by decide +kernel, by decide +kernel, by decide +kernel, rfl, wBlk_other _ _ _⟩,
    ⟨wCS ((wC [(R.CLK_ID_POS_VALID, 1)]).withClk (fun l =>
      { l with asm := [(0, ⟨1, 1, 2, [(9999, 0)]⟩)], applied := some (Config.shake256 (setBytes [(9999, 0)])) })), 0, wBlk 1 2 (Config.shake256
      (setBytes [(9999, 0)])), _, _, ⟨1, 1, 2, [(9999, 0)]⟩, _, wBlk_wf _ _ _ (by decide) (by decide), rfl, by decide +kernel, rfl, by decide +kernel,
      by decide +kernel, by decide +kernel, by decide +kernel, by decide +kernel, by decide +kernel, rfl, wBlk_check _ _ _, congrArg some (wBlk_check
      _ _ _).symm⟩,
    ⟨wCS ((wC [(R.CLK_ID_POS_VALID, 1)]).withClk (fun l =>
      { l with asm := [(0, ⟨1, 1, 2, [(9999, 0)]⟩)], applied := some (Config.shake256 (setBytes [(9999, 0)]) + 1) })), 0, wBlk 1 2 (Config.shake256
      (setBytes [(9999, 0)])), _, _, ⟨1, 1, 2, [(9999, 0)]⟩, _, Config.shake256 (setBytes [(9999, 0)]) + 1, wBlk_wf _ _ _ (by decide) (by decide),
      rfl, by decide +kernel, rfl, by decide +kernel, by decide +kernel, by decide +kernel, by decide +kernel, by decide +kernel, by decide +kernel,
      rfl, wBlk_check _ _ _, rfl, (fun h => absurd (h.trans (wBlk_check _ _ _)) (by omega))⟩,
    ⟨wCS ((wC [(R.CLK_ID_POS_VALID, 1)]).withClk (fun l => { l with asm := [(0, ⟨1, 1, 2, [(9999, 0)]⟩)] })), 0, wBlk 1 2 (Config.shake256 (setBytes
      [(9999, 0)])), _, _, ⟨1, 1, 2, [(9999, 0)]⟩, _, wBlk_wf _ _ _ (by decide) (by decide), rfl, by decide +kernel, rfl, by decide +kernel,
      by decide +kernel, by decide +kernel, by decide +kernel, by decide +kernel, by decide +kernel, rfl, wBlk_check _ _ _, by decide +kernel,
      by decide +kernel⟩,
    ⟨wCS ((wC [(R.CLK_ID_POS_VALID, 1)]).withClk (fun l => { l with asm := [(0, ⟨1, 1, 2, []⟩)] })), 0, wBlk 1 2 (Config.shake256 (setBytes [])), _,
      _, ⟨1, 1, 2, []⟩, _, wBlk_wf _ _ _ (by decide) (by decide), rfl, by decide +kernel, rfl, by decide +kernel, by decide +kernel,
      by decide +kernel, by decide +kernel, by decide +kernel, by decide +kernel, rfl, wBlk_check _ _ _, by decide +kernel, by decide +kernel⟩,
    ⟨wS (wU []), 0, by decide +kernel, by decide +kernel, by decide +kernel⟩,
    ⟨wS ((wU []).withMlk (fun m => { m with cfg := [(0, ⟨0, 1, 2 ^ 32 - 63⟩)] })), 0, _, by decide +kernel, by decide +kernel, rfl, by decide +kernel⟩,
    ⟨wS ((wU []).withMlk (fun m => { m with cfg := [(0, ⟨0, 2, 2 ^ 32 - 64⟩)] })), 0, _, by decide +kernel, by decide +kernel, rfl, by decide +kernel,
      by decide +kernel⟩,
    ⟨wS ((wU []).withMlk (fun m => { m with cfg := [(0, ⟨0, 3, 2 ^ 32 - 64⟩)] })), 0, _, by decide +kernel, by decide +kernel, rfl, by decide +kernel,
      by decide +kernel⟩,
    ⟨wCS (wC []), 0, _, _, by decide +kernel, rfl, rfl, by decide +kernel⟩,
    ⟨wCS ({ (wC []) with rst := some 0 }), 0, _, _, by decide +kernel, rfl, rfl, by decide +kernel⟩,
    ⟨wS (wU []), _, by decide +kernel, rfl⟩⟩

/-- States and operands that meet the hypotheses of `Obligations.SecurityCommandsComplete`, clause by clause. -/
theorem wit_SecurityCommandsComplete :
    (∃ (s : State) (n : _), (Instr.secVerify n).wf = true ∧ s.u.held = false ∧ (s.u.on R.SEC_CMD_STAT_BUSY = true ∨ n = s.u.rd R.SEC_BOOT_SLOT)) ∧
    (∃ (s : State) (n : _), (Instr.secVerify n).wf = true ∧ s.u.held = false ∧ s.u.on R.SEC_CMD_STAT_BUSY = false ∧ n ≠ s.u.rd R.SEC_BOOT_SLOT) ∧
    (∃ (s : State) (n : _), (Instr.secSetPending n).wf = true ∧ s.u.held = false ∧ (s.u.on R.SEC_CMD_STAT_BUSY = true ∨ n = s.u.rd R.SEC_BOOT_SLOT ∨
      s.u.on R.SEC_BOOT_PENDING = true ∨ n ∉ s.u.sec.good)) ∧
    (∃ (s : State) (n : _), (Instr.secSetPending n).wf = true ∧ s.u.held = false ∧ s.u.on R.SEC_CMD_STAT_BUSY = false ∧ n ≠ s.u.rd R.SEC_BOOT_SLOT ∧
      s.u.on R.SEC_BOOT_PENDING = false ∧ n ∈ s.u.sec.good) ∧
    (∃ (s : State), s.u.held = false ∧ s.u.on R.SEC_CMD_STAT_BUSY = false) ∧
    (∃ (s : State) (c : _), (c = Instr.secMarkHealthy ∨ c = Instr.secJrnWrite) ∧ s.u.held = false ∧ s.u.on R.SEC_CMD_STAT_BUSY = true) ∧
    (∃ (s : State) (c : _), (c = Instr.secMarkHealthy ∨ c = Instr.secJrnWrite) ∧ s.u.held = false ∧ s.u.on R.SEC_CMD_STAT_BUSY = true) ∧
    (∃ (s : State) (k : _), (Instr.secCommitArb k).wf = true ∧ s.u.held = false ∧ (s.u.on R.SEC_CMD_STAT_BUSY = true ∨ s.u.on R.SEC_BOOT_PENDING =
      true ∨ s.u.header 20 1 ≤ s.u.sys.fuse.arb ∨ k ≠ 0x5EC1 ∨ s.u.on R.DEP_CTL_CONV_EN = true)) ∧
    (∃ (s : State) (k : _), (Instr.secCommitArb k).wf = true ∧ s.u.held = false ∧ s.u.on R.SEC_CMD_STAT_BUSY = false ∧ s.u.on R.SEC_BOOT_PENDING =
      false ∧ s.u.sys.fuse.arb < s.u.header 20 1 ∧ k = 0x5EC1 ∧ s.u.on R.DEP_CTL_CONV_EN = false) ∧
    (∃ (s : State) (k : _), (Instr.secOwnerSet k).wf = true ∧ s.u.held = false ∧ (s.u.on R.SEC_CMD_STAT_BUSY = true ∨ s.u.sys.fuse.owner ≠ 0 ∨ k ≠
      0x5EC1 ∨ s.u.on R.DEP_CTL_CONV_EN = true)) ∧
    (∃ (s : State) (k : _), (Instr.secOwnerSet k).wf = true ∧ s.u.held = false ∧ s.u.on R.SEC_CMD_STAT_BUSY = false ∧ s.u.sys.fuse.owner = 0 ∧ k =
      0x5EC1 ∧ s.u.on R.DEP_CTL_CONV_EN = false) ∧
    (∃ (s : State) (k : _), (Instr.secOwnerLock k).wf = true ∧ s.u.held = false ∧ (s.u.on R.SEC_CMD_STAT_BUSY = true ∨ s.u.sys.fuse.owner = 0 ∨ k ≠
      0x5EC1 ∨ s.u.on R.DEP_CTL_CONV_EN = true)) ∧
    (∃ (s : State) (k : _), (Instr.secOwnerLock k).wf = true ∧ s.u.held = false ∧ s.u.on R.SEC_CMD_STAT_BUSY = false ∧ s.u.sys.fuse.owner ≠ 0 ∧ k =
      0x5EC1 ∧ s.u.on R.DEP_CTL_CONV_EN = false) ∧
    (∃ (s : State), s.u.held = false ∧ s.u.sec.run = none) ∧
    (∃ (s : State) (op : _) (n : _), s.u.held = false ∧ s.u.sec.run = some (op, n)) ∧
    (∃ (u : U) (v : U), v = ((u.withSec (fun x => { x with run := none })).wr R.SEC_CMD_STAT_BUSY 0).wr R.SEC_CMD_STAT_DONE 1 ∧ v.on
      R.SEC_BOOT_PENDING = false) ∧
    (∃ (u : U) (v : U), v = ((u.withSec (fun x => { x with run := none })).wr R.SEC_CMD_STAT_BUSY 0).wr R.SEC_CMD_STAT_DONE 1 ∧ (v.jrnAppend (v.rd
      R.SEC_JRN_TYPE) (v.mem.readBytes (v.rd R.SEC_CMD_ARG_ARG) (v.rd R.SEC_JRN_LEN))).1 = true) ∧
    (∃ (s : State) (h : _) (f : _), (Instr.secCommandDone (.hub h) f).wf = true ∧ (s.hub h).deaf (.secCommandDone (.hub h) f) = false) ∧
    (∃ (s : State) (cid : _) (f : _) (ofs : _) (y : C), (Instr.secCommandDone (.cell cid) f).wf = true ∧ (s.cell cid).now cid = (ofs, y)) ∧
    (∃ (c : C), c.cse.cmd = none) ∧
    (∃ (c : C), c.cse.cmd = some 4) :=
  ⟨⟨wS (wU []), 0, by decide +kernel, by decide +kernel, by decide +kernel⟩,
    ⟨wS (wU [(R.SEC_CMD_STAT_BUSY, 0)]), 1, by decide +kernel, by decide +kernel, by decide +kernel, by decide +kernel⟩,
    ⟨wS (wU []), 1, by decide +kernel, by decide +kernel, by decide +kernel⟩,
    ⟨wS ((wU [(R.SEC_CMD_STAT_BUSY, 0), (R.SEC_BOOT_PENDING, 0)]).withSec (fun x => { x with good := [1] })), 1, by decide +kernel, by decide +kernel,
      by decide +kernel, by decide +kernel, by decide +kernel, by decide +kernel⟩,
    ⟨wS (wU [(R.SEC_CMD_STAT_BUSY, 0)]), by decide +kernel, by decide +kernel⟩,
    ⟨wS (wU [(R.SEC_CMD_STAT_BUSY, 1)]), .secMarkHealthy, by decide +kernel, by decide +kernel, by decide +kernel⟩,
    ⟨wS (wU [(R.SEC_CMD_STAT_BUSY, 1)]), .secJrnWrite, by decide +kernel, by decide +kernel, by decide +kernel⟩,
    ⟨wS (wU []), 0, by decide +kernel, by decide +kernel, by decide +kernel⟩,
    ⟨wS (wU [(R.SEC_CMD_STAT_BUSY, 0), (R.SEC_BOOT_PENDING, 0), (R.DEP_CTL_CONV_EN, 0)]), 0x5EC1, by decide +kernel, by decide +kernel,
      by decide +kernel, by decide +kernel, by decide +kernel, by decide +kernel, by decide +kernel⟩,
    ⟨wS (wU []), 0, by decide +kernel, by decide +kernel, by decide +kernel⟩,
    ⟨wS (wU [(R.SEC_CMD_STAT_BUSY, 0), (R.DEP_CTL_CONV_EN, 0)]), 0x5EC1, by decide +kernel, by decide +kernel, by decide +kernel, by decide +kernel,
      by decide +kernel, by decide +kernel⟩,
    ⟨wS (wU []), 0x5EC1, by decide +kernel, by decide +kernel, by decide +kernel⟩,
    ⟨wS ((wU [(R.SEC_CMD_STAT_BUSY, 0), (R.DEP_CTL_CONV_EN, 0)]).withSys (fun x => { x with fuse := { x.fuse with owner := 1 } })), 0x5EC1,
      by decide +kernel, by decide +kernel, by decide +kernel, by decide +kernel, by decide +kernel, by decide +kernel⟩,
    ⟨wS (wU []), by decide +kernel, by decide +kernel⟩,
    ⟨wS ((wU []).withSec (fun x => { x with run := some (1, 1) })), _, _, by decide +kernel, rfl⟩,
    ⟨(wU [(R.SEC_BOOT_PENDING, 0)]), _, rfl, by decide +kernel⟩,
    ⟨{ (wU []) with flash := wDir 4 65536 4096 }, _, rfl, by decide +kernel⟩,
    ⟨wHS (wH []), 0, true, by decide +kernel, by decide +kernel⟩,
    ⟨wCS (wC []), 0, true, _, _, by decide +kernel, rfl⟩,
    ⟨(wC []), by decide +kernel⟩,
    ⟨{ (wC []) with cse := { Cse.zero with cmd := some 4 } }, by decide +kernel⟩⟩

/-- States and operands that meet the hypotheses of `Obligations.AttestationCommandsComplete`, clause by clause. -/
theorem wit_AttestationCommandsComplete :
    (∃ (s : State), s.u.held = false ∧ (s.u.on R.SEC_CMD_STAT_BUSY = true ∨ s.u.on R.SEC_ATT_STAT_RUNNING = true ∨ s.u.attTooFar = true)) ∧
    (∃ (s : State) (h : _), s.u.held = false ∧ s.u.on R.SEC_CMD_STAT_BUSY = false ∧ s.u.on R.SEC_ATT_STAT_RUNNING = false ∧ s.u.attTooFar = false ∧ h
      ∈ s.u.topo.hubs) ∧
    (∃ (s : State) (o : List Nat), (Instr.attChallengeRx .unit o).wf = true ∧ s.u.held = false) ∧
    (∃ (s : State) (h : _) (o : List Nat) (d : _), (Instr.attChallengeRx (.hub h) o).wf = true ∧ (s.hub h).deaf (.attChallengeRx (.hub h) o) = false ∧
      octet o 0 = 0x18 ∧ d = readChallenge o ∧ (s.hub h).att.run = none ∧ (s.hub h).att.done.find? (b2n d.unitB) = none) ∧
    (∃ (s : State) (cid : _) (o : List Nat) (d : _) (ofs : _) (y : C), (Instr.attChallengeRx (.cell cid) o).wf = true ∧ (s.cell cid).now cid = (ofs,
      y) ∧ d = readChallenge o ∧ (y.named d.cid = false ∨ octet o 0 ≠ 0x18)) ∧
    (∃ (s : State) (cid : _) (o : List Nat) (d : _) (ofs : _) (y : C), (Instr.attChallengeRx (.cell cid) o).wf = true ∧ (s.cell cid).now cid = (ofs,
      y) ∧ d = readChallenge o ∧ (y.named d.cid = false ∨ octet o 0 ≠ 0x18)) ∧
    (∃ (s : State) (cid : _) (o : List Nat) (d : _) (ofs : _) (y : C), (Instr.attChallengeRx (.cell cid) o).wf = true ∧ (s.cell cid).now cid = (ofs,
      y) ∧ d = readChallenge o ∧ octet o 0 = 0x18 ∧ y.named d.cid = true ∧ y.cse.run = none ∧ y.cse.done.find? (b2n d.unitB) = none) ∧
    (∃ (s : State) (cid : _) (o : List Nat) (d : _) (ofs : _) (y : C), (Instr.attChallengeRx (.cell cid) o).wf = true ∧ (s.cell cid).now cid = (ofs,
      y) ∧ d = readChallenge o ∧ octet o 0 = 0x18 ∧ y.named d.cid = true ∧ y.cse.run = some (b2n d.unitB, d.tag, d.nonce)) ∧
    (∃ (s : State) (h : _), (Instr.attStatementDone (.hub h)).wf = true ∧ (s.hub h).deaf (.attStatementDone (.hub h)) = false) ∧
    (∃ (w : H), w.att.run = none) ∧
    (∃ (w : H) (b : _) (g : _) (n : _), w.att.run = some (b, g, n) ∧ w.att.wait = []) ∧
    (∃ (s : State) (cid : _) (ofs : _) (y : C), (Instr.attStatementDone (.cell cid)).wf = true ∧ (s.cell cid).now cid = (ofs, y) ∧ y.cse.run = none) ∧
    (∃ (s : State) (cid : _) (ofs : _) (y : C) (b : _) (g : _) (n : _), (Instr.attStatementDone (.cell cid)).wf = true ∧ (s.cell cid).now cid = (ofs,
      y) ∧ y.cse.run = some (b, g, n)) ∧
    (∃ (s : State) (id : _) (b : _) (g : _) (a : List Nat), (Instr.attAnswerRx id b g a).wf = true ∧ s.u.held = false ∧ s.u.sec.chal.find? id = none) ∧
    (∃ (s : State) (id : _) (b : _) (g : _) (a : List Nat) (c : Chal), (Instr.attAnswerRx id b g a).wf = true ∧ s.u.held = false ∧ s.u.sec.chal.find?
      id = some c ∧ (b2n b ≠ s.u.unitB ∨ c.tag ≠ g)) ∧
    (∃ (s : State) (id : _) (b : _) (g : _) (a : List Nat) (c : Chal), (Instr.attAnswerRx id b g a).wf = true ∧ s.u.held = false ∧ s.u.sec.chal.find?
      id = some c ∧ b2n b = s.u.unitB ∧ c.tag = g) ∧
    (∃ (a : List Nat), a.length ≠ 8785) ∧
    (∃ (c : Chal) (a : List Nat), ofBytes ((a.drop 12).take 32) ≠ c.nonce) ∧
    (∃ (s : State) (id : _), (Instr.attTimeout id).wf = true ∧ s.u.held = false ∧ s.u.sec.chal.find? id = none) ∧
    (∃ (s : State) (id : _) (c : Chal), (Instr.attTimeout id).wf = true ∧ s.u.held = false ∧ s.u.sec.chal.find? id = some c ∧ c.second = false) ∧
    (∃ (s : State) (id : _) (c : Chal), (Instr.attTimeout id).wf = true ∧ s.u.held = false ∧ s.u.sec.chal.find? id = some c ∧ c.second = true) :=
  ⟨⟨wS (wU [(R.SEC_CMD_STAT_BUSY, 1)]), by decide +kernel, by decide +kernel⟩,
    ⟨wS (wT (wU [(R.SEC_CMD_STAT_BUSY, 0), (R.SEC_ATT_STAT_RUNNING, 0)])), 0, by decide +kernel, by decide +kernel, by decide +kernel,
      by decide +kernel, by decide +kernel⟩,
    ⟨wS (wU []), wChal, by decide +kernel, by decide +kernel⟩,
    ⟨wHS (wH []), 0, wChal, _, by decide +kernel, by decide +kernel, by decide +kernel, rfl, by decide +kernel, by decide +kernel⟩,
    ⟨wCS (wC []), 0, wChal, _, _, _, by decide +kernel, rfl, rfl, by decide +kernel⟩,
    ⟨wCS (wC [(R.CLK_ID_POS_VALID, 1)]), 0, zeros 64, _, _, _, by decide +kernel, rfl, rfl, by decide +kernel⟩,
    ⟨wCS (wC [(R.CLK_ID_POS_VALID, 1)]), 0, wChal, _, _, _, by decide +kernel, rfl, rfl, by decide +kernel, by decide +kernel, by decide +kernel,
      by decide +kernel⟩,
    ⟨wCS ((wC [(R.CLK_ID_POS_VALID, 1)]).withCse (fun x => { x with run := some (0, 1, 0) })), 0, wChal, _, _, _, by decide +kernel, rfl, rfl,
      by decide +kernel, by decide +kernel, by decide +kernel⟩,
    ⟨wHS (wH []), 0, by decide +kernel, by decide +kernel⟩,
    ⟨(wH []), by decide +kernel⟩,
    ⟨{ (wH []) with att := ⟨[], some (0, 1, 2), []⟩ }, 0, 1, 2, by decide +kernel, by decide +kernel⟩,
    ⟨wCS (wC []), 0, _, _, by decide +kernel, rfl, by decide +kernel⟩,
    ⟨wCS ((wC []).withCse (fun x => { x with run := some (0, 1, 2) })), 0, _, _, 0, 1, 2, by decide +kernel, rfl, rfl⟩,
    ⟨wS (wU []), 0, false, 0, [], by decide +kernel, by decide +kernel, by decide +kernel⟩,
    ⟨wS ((wU []).withSec (fun x => { x with chal := [(0, ⟨1, 0, false⟩)] })), 0, false, 0, [], _, by decide +kernel, by decide +kernel, rfl,
      by decide +kernel⟩,
    ⟨wS ((wU []).withSec (fun x => { x with chal := [(0, ⟨1, 0, false⟩)] })), 0, false, 1, [], _, by decide +kernel, by decide +kernel, rfl,
      by decide +kernel, by decide +kernel⟩,
    ⟨[], by decide +kernel⟩,
    ⟨⟨0, 1, false⟩, [], by decide +kernel⟩,
    ⟨wS (wU []), 0, by decide +kernel, by decide +kernel, by decide +kernel⟩,
    ⟨wS ((wU []).withSec (fun x => { x with chal := [(0, ⟨1, 0, false⟩)] })), 0, _, by decide +kernel, by decide +kernel, rfl, by decide +kernel⟩,
    ⟨wS ((wU []).withSec (fun x => { x with chal := [(0, ⟨1, 0, true⟩)] })), 0, _, by decide +kernel, by decide +kernel, rfl, by decide +kernel⟩⟩

/-- States and operands that meet the hypotheses of `Obligations.CellUpdateCommandsComplete`, clause by clause. -/
theorem wit_CellUpdateCommandsComplete :
    (∃ (cid : _) (o : List Nat), (Instr.cellUpdIdent cid o).wf = true) ∧
    (∃ (cid : _) (o : List Nat) (f : Bool), (Instr.cellUpdBegin cid o f).wf = true) ∧
    (∃ (cid : _) (o : List Nat) (f : Bool), (Instr.cellUpdData cid o f).wf = true) ∧
    (∃ (cid : _) (o : List Nat), (Instr.cellUpdEnd cid o).wf = true) ∧
    (∃ (cid : _) (o : List Nat), (Instr.cellUpdActivate cid o).wf = true) ∧
    (∃ (k : C) (o : List Nat) (q : UpdReq), q = readUpd o ∧ (octet o 0 ≠ 0x20 ∨ k.named q.cid = false ∨ ∃ x, k.clk.kept.find? (b2n q.unitB) = some x ∧
      x.tag = q.tag ∧ x.att = q.att)) ∧
    (∃ (k : C) (o : List Nat) (q : UpdReq), q = readUpd o ∧ octet o 0 = 0x20 ∧ k.named q.cid = true ∧ (∀ x, k.clk.kept.find? (b2n q.unitB) = some x →
      x.tag ≠ q.tag) ∧ q.op = 0) ∧
    (∃ (k : C) (o : List Nat) (q : UpdReq), q = readUpd o ∧ octet o 0 = 0x20 ∧ k.named q.cid = true ∧ (∀ x, k.clk.kept.find? (b2n q.unitB) = some x →
      x.tag ≠ q.tag) ∧ q.op = 1) ∧
    (∃ (k : C) (o : List Nat) (q : UpdReq), q = readUpd o ∧ octet o 0 = 0x20 ∧ k.named q.cid = true ∧ (∀ x, k.clk.kept.find? (b2n q.unitB) = some x →
      x.tag ≠ q.tag) ∧ k.cse.upd = none) ∧
    (∃ (k : C) (o : List Nat) (q : UpdReq) (n : _) (ok : _), q = readUpd o ∧ octet o 0 = 0x20 ∧ k.named q.cid = true ∧ (∀ x, k.clk.kept.find? (b2n
      q.unitB) = some x → x.tag ≠ q.tag) ∧ q.op = 2 ∧ k.cse.upd = some (n, ok) ∧ q.offset = n ∧ n + (q.data.take 52).length ≤ 0x80000) ∧
    (∃ (k : C) (o : List Nat) (q : UpdReq) (n : _) (ok : _), q = readUpd o ∧ octet o 0 = 0x20 ∧ k.named q.cid = true ∧ (∀ x, k.clk.kept.find? (b2n
      q.unitB) = some x → x.tag ≠ q.tag) ∧ k.cse.upd = some (n, ok) ∧ q.offset ≠ n) ∧
    (∃ (k : C) (o : List Nat) (q : UpdReq) (n : _) (ok : _), q = readUpd o ∧ octet o 0 = 0x20 ∧ k.named q.cid = true ∧ (∀ x, k.clk.kept.find? (b2n
      q.unitB) = some x → x.tag ≠ q.tag) ∧ q.op = 3 ∧ k.cse.upd = some (n, ok)) ∧
    (∃ (k : C) (o : List Nat) (q : UpdReq) (n : _), q = readUpd o ∧ octet o 0 = 0x20 ∧ k.named q.cid = true ∧ (∀ x, k.clk.kept.find? (b2n q.unitB) =
      some x → x.tag ≠ q.tag) ∧ q.op = 4 ∧ k.cse.upd = some (n, true) ∧ k.rd R.GTE_STATE_CODE = 0 ∧ k.on R.CSE_BOOT_PENDING = false ∧ k.rst = none) ∧
    (∃ (k : C) (o : List Nat) (q : UpdReq) (n : _), q = readUpd o ∧ octet o 0 = 0x20 ∧ k.named q.cid = true ∧ (∀ x, k.clk.kept.find? (b2n q.unitB) =
      some x → x.tag ≠ q.tag) ∧ k.cse.upd = some (n, false)) :=
  ⟨⟨0, wUpd 0 0 [], by decide +kernel⟩,
    ⟨0, wUpd 1 0 [], false, by decide +kernel⟩,
    ⟨0, wUpd 2 0 [], false, by decide +kernel⟩,
    ⟨0, wUpd 3 0 [], by decide +kernel⟩,
    ⟨0, wUpd 4 0 [], by decide +kernel⟩,
    ⟨(wC []), zeros 64, _, rfl, Or.inl (by decide +kernel)⟩,
    ⟨(wC [(R.CLK_ID_POS_VALID, 1)]), wUpd 0 0 [], _, rfl, by decide +kernel, by decide +kernel, (fun x h => by cases h), by decide +kernel⟩,
    ⟨(wC [(R.CLK_ID_POS_VALID, 1)]).withCse (fun x => { x with upd := some (52, false) }), wUpd 1 0 [], _, rfl, by decide +kernel, by decide +kernel,
      (fun x h => by cases h), by decide +kernel⟩,
    ⟨(wC [(R.CLK_ID_POS_VALID, 1)]), wUpd 2 0 [1], _, rfl, by decide +kernel, by decide +kernel, (fun x h => by cases h), by decide +kernel⟩,
    ⟨(wC [(R.CLK_ID_POS_VALID, 1)]).withCse (fun x => { x with upd := some (0x80000 - 52, false) }), wUpd 2 (0x80000 - 52) (List.replicate 52 1), _,
      _, _, rfl, by decide +kernel, by decide +kernel, (fun x h => by cases h), by decide +kernel, rfl, by decide +kernel, by decide +kernel⟩,
    ⟨(wC [(R.CLK_ID_POS_VALID, 1)]).withCse (fun x => { x with upd := some (52, false) }), wUpd 2 0 [1], _, 52, false, rfl, by decide +kernel,
      by decide +kernel, (fun x h => by cases h), by decide +kernel, by decide +kernel⟩,
    ⟨(wC [(R.CLK_ID_POS_VALID, 1)]).withCse (fun x => { x with upd := some (52, false) }), wUpd 3 0 [], _, _, _, rfl, by decide +kernel,
      by decide +kernel, (fun x h => by cases h), by decide +kernel, rfl⟩,
    ⟨(wC [(R.GTE_STATE_CODE, 0), (R.CSE_BOOT_PENDING, 0), (R.CLK_ID_POS_VALID, 1)]).withCse (fun x => { x with upd := some (52, true) }), wUpd 4 0 [],
      _, 52, rfl, by decide +kernel, by decide +kernel, (fun x h => by cases h), by decide +kernel, by decide +kernel, by decide +kernel,
      by decide +kernel, by decide +kernel⟩,
    ⟨(wC [(R.CLK_ID_POS_VALID, 1)]).withCse (fun x => { x with upd := some (52, false) }), wUpd 4 0 [], _, 52, rfl, by decide +kernel,
      by decide +kernel, (fun x h => by cases h), by decide +kernel⟩⟩

/-- States and operands that meet the hypotheses of `Obligations.RecoveryAndFlashCommandsComplete`, clause by clause. -/
theorem wit_RecoveryAndFlashCommandsComplete :
    (∃ (s : State) (h : _) (o : List Nat) (q : _), (Instr.hubImageRead h o).wf = true ∧ s.u.held = false ∧ q = readUpd o ∧ isUpd o 5 = true ∧
      partition s.u.flash 6 = none) ∧
    (∃ (s : State) (h : _) (o : List Nat) (q : _) (b : _) (n : _), (Instr.hubImageRead h o).wf = true ∧ s.u.held = false ∧ q = readUpd o ∧ isUpd o 5 =
      true ∧ partition s.u.flash 6 = some (b, n)) ∧
    (∃ (s : State) (h : _) (o : List Nat), (Instr.hubImageRead h o).wf = true ∧ s.u.held = false ∧ isUpd o 5 = false) ∧
    (∃ (s : State) (c : Instr) (w : Bool) (o : List Nat) (f : Bool) (n : _), (c = Instr.recIdent w o ∧ n = 1 ∨ c = Instr.recCertRead w o ∧ n = 2 ∨ c =
      Instr.recBegin w o f ∧ n = 3 ∨ c = Instr.recData w o f ∧ n = 4 ∨ c = Instr.recEnd w o f ∧ n = 5 ∨ c = Instr.recBoot w o ∧ n = 6) ∧ c.wf = true ∧
      s.u.held = false ∧ (s.u.on R.SYS_BOOT_RECOVERY = false ∨ s.u.recIs n w o = none)) ∧
    (∃ (s : State) (c : Instr) (w : Bool) (o : List Nat) (f : Bool) (n : _), (c = Instr.recIdent w o ∧ n = 1 ∨ c = Instr.recCertRead w o ∧ n = 2 ∨ c =
      Instr.recBegin w o f ∧ n = 3 ∨ c = Instr.recData w o f ∧ n = 4 ∨ c = Instr.recEnd w o f ∧ n = 5 ∨ c = Instr.recBoot w o ∧ n = 6) ∧ c.wf = true ∧
      s.u.held = false ∧ (s.u.on R.SYS_BOOT_RECOVERY = false ∨ s.u.recIs n w o = none)) ∧
    (∃ (s : State) (c : Instr) (w : Bool) (o : List Nat) (f : Bool) (n : _) (q : _) (r : List Nat), (c = Instr.recIdent w o ∧ n = 1 ∨ c =
      Instr.recCertRead w o ∧ n = 2 ∨ c = Instr.recBegin w o f ∧ n = 3 ∨ c = Instr.recData w o f ∧ n = 4 ∨ c = Instr.recEnd w o f ∧ n = 5 ∨ c =
      Instr.recBoot w o ∧ n = 6) ∧ c.wf = true ∧ s.u.held = false ∧ s.u.recIs n w o = some q ∧ s.u.sec.prev = some (q.seq, r)) ∧
    (∃ (u : U) (w : Bool) (o : List Nat) (q : _), (∀ r, u.sec.prev ≠ some (q.seq, r)) ∧ q.len ≤ 1024 ∧ u.recIs 1 w o = some q) ∧
    (∃ (u : U) (w : Bool) (o : List Nat) (q : _), (∀ r, u.sec.prev ≠ some (q.seq, r)) ∧ q.len ≤ 1024 ∧ u.recIs 2 w o = some q ∧ u.on
      R.SYS_FUSE_FUSE_FAIL = false) ∧
    (∃ (u : U) (w : Bool) (o : List Nat) (q : _), (∀ r, u.sec.prev ≠ some (q.seq, r)) ∧ q.len ≤ 1024 ∧ u.recIs 3 w o = some q ∧ u.on
      R.SYS_FUSE_FUSE_FAIL = true) ∧
    (∃ (u : U) (w : Bool) (o : List Nat) (q : _) (b : _) (n : _), (∀ r, u.sec.prev ≠ some (q.seq, r)) ∧ q.len ≤ 1024 ∧ u.recIs 3 w o = some q ∧ u.on
      R.SYS_FUSE_FUSE_FAIL = false ∧ q.target ≤ 4 ∧ u.recSpan q.target = some (b, n)) ∧
    (∃ (u : U) (w : Bool) (o : List Nat) (q : _) (b : _) (n : _), (∀ r, u.sec.prev ≠ some (q.seq, r)) ∧ q.len ≤ 1024 ∧ u.recIs 3 w o = some q ∧ u.on
      R.SYS_FUSE_FUSE_FAIL = false ∧ q.target ≤ 4 ∧ u.recSpan q.target = some (b, n)) ∧
    (∃ (u : U) (w : Bool) (o : List Nat) (q : _), (∀ r, u.sec.prev ≠ some (q.seq, r)) ∧ q.len ≤ 1024 ∧ u.on R.SYS_FUSE_FUSE_FAIL = false ∧ u.sec.sess
      = none ∧ u.recIs 4 w o = some q ∧ q.data.length = q.len) ∧
    (∃ (u : U) (w : Bool) (o : List Nat) (q : _), (∀ r, u.sec.prev ≠ some (q.seq, r)) ∧ q.len ≤ 1024 ∧ u.on R.SYS_FUSE_FUSE_FAIL = false ∧ u.sec.sess
      = none ∧ u.recIs 5 w o = some q) ∧
    (∃ (u : U) (w : Bool) (o : List Nat) (q : _) (e : RecSess), (∀ r, u.sec.prev ≠ some (q.seq, r)) ∧ q.len ≤ 1024 ∧ u.recIs 4 w o = some q ∧
      q.data.length = q.len ∧ u.on R.SYS_FUSE_FUSE_FAIL = false ∧ u.sec.sess = some e ∧ q.target = e.target ∧ q.offset = e.next ∧ q.offset +
      q.data.length ≤ e.size) ∧
    (∃ (u : U) (w : Bool) (o : List Nat) (q : _) (e : RecSess), (∀ r, u.sec.prev ≠ some (q.seq, r)) ∧ q.len ≤ 1024 ∧ u.recIs 5 w o = some q ∧ u.on
      R.SYS_FUSE_FUSE_FAIL = false ∧ u.sec.sess = some e ∧ e.target ≠ 0 ∧ q.target = e.target) ∧
    (∃ (u : U), u.recUart = true ∧ u.on R.SYS_BOOT_RECOVERY = true) ∧
    (∃ (s : State) (w : Bool) (o : List Nat), s.u.held = false ∧ (Instr.recIdent w o).wf = true) ∧
    (∃ (s : State) (w : Bool) (o : List Nat), s.u.held = false ∧ (Instr.recCertRead w o).wf = true) ∧
    (∃ (s : State) (w : Bool) (f : Bool) (o : List Nat), s.u.held = false ∧ (Instr.recBegin w o f).wf = true) ∧
    (∃ (s : State) (w : Bool) (f : Bool) (o : List Nat), s.u.held = false ∧ (Instr.recData w o f).wf = true) ∧
    (∃ (s : State) (w : Bool) (f : Bool) (o : List Nat), s.u.held = false ∧ (Instr.recEnd w o f).wf = true) ∧
    (∃ (s : State) (w : Bool) (o : List Nat) (q : _) (v : _), (Instr.recBoot w o).wf = true ∧ s.u.held = false ∧ s.u.recIs 6 w o = some q ∧ (∀ r,
      s.u.sec.prev ≠ some (q.seq, r)) ∧ q.len ≤ 1024 ∧ s.u.on R.SYS_FUSE_FUSE_FAIL = false ∧ v = (s.u.withSec (fun x =>
      { x with prev := some (q.seq, recReply 6 0 q 0 []) })).recSend w o (recReply 6 0 q 0 [])) ∧
    (∃ (s : State) (a : _) (bs : _), (Instr.xspiProgram a bs).wf = true ∧ s.u.held = false ∧ bs ≠ [] ∧ a + bs.length ≤ 0x10000000 ∧ s.u.flashShut a
      bs.length = true) ∧
    (∃ (s : State) (a : _) (bs : _), (Instr.xspiProgram a bs).wf = true ∧ s.u.held = false ∧ bs ≠ [] ∧ a + bs.length ≤ 0x10000000 ∧ s.u.flashShut a
      bs.length = false ∧ s.u.sec.busy = true) ∧
    (∃ (s : State) (a : _) (bs : _), (Instr.xspiProgram a bs).wf = true ∧ s.u.held = false ∧ bs ≠ [] ∧ a + bs.length ≤ 0x10000000 ∧ s.u.flashShut a
      bs.length = false ∧ s.u.sec.busy = false) ∧
    (∃ (s : State) (a : _), (Instr.xspiErase a).wf = true ∧ s.u.held = false ∧ a % 65536 ≠ 0) ∧
    (∃ (s : State) (a : _), (Instr.xspiErase a).wf = true ∧ s.u.held = false ∧ a % 65536 = 0 ∧ s.u.flashShut a 65536 = true) ∧
    (∃ (s : State) (a : _), (Instr.xspiErase a).wf = true ∧ s.u.held = false ∧ a % 65536 = 0 ∧ s.u.flashShut a 65536 = false ∧ s.u.sec.busy = true) ∧
    (∃ (s : State) (a : _), (Instr.xspiErase a).wf = true ∧ s.u.held = false ∧ a % 65536 = 0 ∧ s.u.flashShut a 65536 = false ∧ s.u.sec.busy = false) ∧
    (∃ (s : State), s.u.held = false ∧ s.u.sec.wait = []) ∧
    (∃ (s : State) (op : _) (rest : _), s.u.held = false ∧ s.u.sec.wait = op :: rest) :=
  ⟨⟨wS (wU []), 0, wUpd 5 0 [], _, by decide +kernel, by decide +kernel, rfl, by decide +kernel, by decide +kernel⟩,
    ⟨wS ({ (wU []) with flash := wDir 6 65536 4096 }), 0, wUpd 5 0 [], _, 65536, 4096, by decide +kernel, by decide +kernel, rfl, by decide +kernel,
      by decide +kernel⟩,
    ⟨wS (wU []), 0, zeros 64, by decide +kernel, by decide +kernel, by decide +kernel⟩,
    ⟨wS (wU []), .recIdent true [], true, [], false, 1, by decide +kernel, by decide +kernel, by decide +kernel, by decide +kernel⟩,
    ⟨wS (wU [(R.SYS_STRAP_BOOT_SRC, 2), (R.SYS_BOOT_RECOVERY, 1)]), .recIdent false (wRec 1 0 0 0 []), false, wRec 1 0 0 0 [], false, 1,
      by decide +kernel, by decide +kernel, by decide +kernel, by decide +kernel⟩,
    ⟨wS ((wU [(R.SYS_STRAP_BOOT_SRC, 2), (R.SYS_BOOT_RECOVERY, 1)]).withSec (fun x => { x with prev := some (5, [1]) })), .recIdent true (wRec 1 0 0 0
      []), true, wRec 1 0 0 0 [], false, 1, ⟨5, 0, 0, 0, []⟩, [1], by decide +kernel, by decide +kernel, by decide +kernel, by decide +kernel,
      by decide +kernel⟩,
    ⟨(wU [(R.SYS_STRAP_BOOT_SRC, 2), (R.SYS_BOOT_RECOVERY, 1)]), true, wRec 1 0 0 0 [], ⟨5, 0, 0, 0, []⟩, (fun r e => by cases e), by decide +kernel,
      by decide +kernel⟩,
    ⟨(wU [(R.SYS_FUSE_FUSE_FAIL, 0), (R.SYS_STRAP_BOOT_SRC, 2), (R.SYS_BOOT_RECOVERY, 1)]), true, wRec 2 0 5328 0 [], ⟨5, 0, 5328, 0, []⟩, (fun r e =>
      by cases e), by decide +kernel, by decide +kernel, by decide +kernel⟩,
    ⟨(wU [(R.SYS_FUSE_FUSE_FAIL, 1), (R.SYS_STRAP_BOOT_SRC, 2), (R.SYS_BOOT_RECOVERY, 1), (R.SYS_FUSE_FUSE_FAIL, 1)]), true, wRec 3 0 0 0 [], ⟨5, 0,
      0, 0, []⟩, (fun r e => by cases e), by decide +kernel, by decide +kernel, by decide +kernel⟩,
    ⟨{ (wU [(R.SYS_FUSE_FUSE_FAIL, 0), (R.SYS_STRAP_BOOT_SRC, 2), (R.SYS_BOOT_RECOVERY, 1)]) with flash := wDir 6 65536 4096 }, true, wRec 3 2 0 0 [],
      ⟨5, 2, 0, 0, []⟩, 65536, 4096, (fun r e => by cases e), by decide +kernel, by decide +kernel, by decide +kernel, by decide +kernel,
      by decide +kernel⟩,
    ⟨(wU [(R.SYS_FUSE_FUSE_FAIL, 0), (R.SYS_STRAP_BOOT_SRC, 2), (R.SYS_BOOT_RECOVERY, 1)]), true, wRec 3 4 0 0 [], ⟨5, 4, 0, 0, []⟩, 0, 256, (fun r e
      => by cases e), by decide +kernel, by decide +kernel, by decide +kernel, by decide +kernel, by decide +kernel⟩,
    ⟨(wU [(R.SYS_FUSE_FUSE_FAIL, 0), (R.SYS_STRAP_BOOT_SRC, 2), (R.SYS_BOOT_RECOVERY, 1)]), true, wRec 4 0 0 1 [7], ⟨5, 0, 0, 1, [7]⟩, (fun r e => by
      cases e), by decide +kernel, by decide +kernel, by decide +kernel, by decide +kernel, by decide +kernel⟩,
    ⟨(wU [(R.SYS_FUSE_FUSE_FAIL, 0), (R.SYS_STRAP_BOOT_SRC, 2), (R.SYS_BOOT_RECOVERY, 1)]), true, wRec 5 0 0 0 [], ⟨5, 0, 0, 0, []⟩, (fun r e => by
      cases e), by decide +kernel, by decide +kernel, by decide +kernel, by decide +kernel⟩,
    ⟨(wU [(R.SYS_FUSE_FUSE_FAIL, 0), (R.SYS_STRAP_BOOT_SRC, 2), (R.SYS_BOOT_RECOVERY, 1)]).withSec (fun x =>
      { x with sess := some ⟨1, 65536, 65536, 8⟩ }), true, wRec 4 1 8 1 [7], ⟨5, 1, 8, 1, [7]⟩, ⟨1, 65536, 65536, 8⟩, (fun r e => by cases e),
      by decide +kernel, by decide +kernel, by decide +kernel, by decide +kernel, by decide +kernel, by decide +kernel, by decide +kernel,
      by decide +kernel⟩,
    ⟨(wU [(R.SYS_FUSE_FUSE_FAIL, 0), (R.SYS_STRAP_BOOT_SRC, 2), (R.SYS_BOOT_RECOVERY, 1)]).withSec (fun x =>
      { x with sess := some ⟨1, 65536, 65536, 8⟩ }), true, wRec 5 1 0 0 [], ⟨5, 1, 0, 0, []⟩, ⟨1, 65536, 65536, 8⟩, (fun r e => by cases e),
      by decide +kernel, by decide +kernel, by decide +kernel, by decide +kernel, by decide +kernel, by decide +kernel⟩,
    ⟨(wU [(R.SYS_BOOT_RECOVERY, 1), (R.SYS_STRAP_BOOT_SRC, 2), (R.SYS_BOOT_RECOVERY, 1)]), by decide +kernel, by decide +kernel⟩,
    ⟨wS (wU []), true, [], by decide +kernel, by decide +kernel⟩,
    ⟨wS (wU []), true, [], by decide +kernel, by decide +kernel⟩,
    ⟨wS (wU []), true, false, [], by decide +kernel, by decide +kernel⟩,
    ⟨wS (wU []), true, false, [], by decide +kernel, by decide +kernel⟩,
    ⟨wS (wU []), true, false, [], by decide +kernel, by decide +kernel⟩,
    ⟨wS (wU [(R.SYS_FUSE_FUSE_FAIL, 0), (R.SYS_STRAP_BOOT_SRC, 2), (R.SYS_BOOT_RECOVERY, 1)]), true, wRec 6 0 0 0 [], ⟨5, 0, 0, 0, []⟩, _,
      by decide +kernel, by decide +kernel, by decide +kernel, (fun r e => by cases e), by decide +kernel, by decide +kernel, rfl⟩,
    ⟨wS ({ (wU []) with flash := wDir 4 65536 65536 }), 0x1FFFF, [1], by decide +kernel, by decide +kernel, by decide +kernel, by decide +kernel,
      by decide +kernel⟩,
    ⟨wS ((wU []).withSec (fun x => { x with busy := true })), 0xFFFFFFF, [1], by decide +kernel, by decide +kernel, by decide +kernel,
      by decide +kernel, by decide +kernel, by decide +kernel⟩,
    ⟨wS (wU []), 0xFFFFFFF, [1], by decide +kernel, by decide +kernel, by decide +kernel, by decide +kernel, by decide +kernel, by decide +kernel⟩,
    ⟨wS (wU []), 1, by decide +kernel, by decide +kernel, by decide +kernel⟩,
    ⟨wS ({ (wU []) with flash := wDir 4 65536 65536 }), 65536, by decide +kernel, by decide +kernel, by decide +kernel, by decide +kernel⟩,
    ⟨wS ((wU []).withSec (fun x => { x with busy := true })), 0, by decide +kernel, by decide +kernel, by decide +kernel, by decide +kernel,
      by decide +kernel⟩,
    ⟨wS (wU []), 0, by decide +kernel, by decide +kernel, by decide +kernel, by decide +kernel, by decide +kernel⟩,
    ⟨wS (wU []), by decide +kernel, by decide +kernel⟩,
    ⟨wS ((wU []).withSec (fun x => { x with wait := [.erase 0] })), _, _, by decide +kernel, rfl⟩⟩

/-- States and operands that meet the hypotheses of `Obligations.EmptyQueuePassesTime`. -/
theorem wit_EmptyQueuePassesTime :
    ∃ (s : State), s.pending = [] :=
  ⟨State.reset, by decide +kernel⟩

/-- States and operands that meet the hypotheses of `Obligations.ResetState`. -/
theorem wit_ResetState :
    ∃ (a : _), a < 12 :=
  ⟨11, by decide +kernel⟩

/-- States and operands that meet the hypotheses of `Obligations.EveryStepKeepsTheStateSettled`. -/
theorem wit_EveryStepKeepsTheStateSettled :
    ∃ (s : State) (t : State), s.Settled ∧ step s = .next t :=
  ⟨State.reset, _, ⟨⟨by decide +kernel, by decide +kernel, by decide +kernel⟩, rfl, rfl, rfl, rfl⟩, rfl⟩

/-- States and operands that meet the hypotheses of `Obligations.WellFormedCommandsComplete`. -/
theorem wit_WellFormedCommandsComplete :
    ∃ (c : Instr), c.wf = false :=
  ⟨.selection 12, by decide +kernel⟩

/-- States and operands that meet the hypotheses of `Obligations.HeldUnitKeepsItsState`. -/
theorem wit_HeldUnitKeepsItsState :
    ∃ (c : Instr) (s : State), c.wf = true ∧ s.u.held = true ∧ (placeAt c = .unit ∨ placeAt c = .timed) :=
  ⟨.referenceTick, wS (U.afterReset.withSys (fun x => { x with ep := some (wEp 1 1 0) })), by decide +kernel, by decide +kernel, by decide +kernel⟩

/-- States and operands that meet the hypotheses of `Obligations.CommandsActOnOneChip`, clause by clause. -/
theorem wit_CommandsActOnOneChip :
    (∃ (c : Instr) (s : State) (t : State), exec c s = .next t ∧ placeAt c = .unit) ∧
    (∃ (c : Instr) (s : State) (t : State), exec c s = .next t ∧ (placeAt c = .timed ∨ placeAt c = .reset)) ∧
    (∃ (c : Instr) (s : State) (t : State) (h : _) (k : _), exec c s = .next t ∧ placeAt c = .hub h ∧ k ≠ h) ∧
    (∃ (c : Instr) (s : State) (t : State) (cid : _) (k : _), exec c s = .next t ∧ placeAt c = .cell cid ∧ k ≠ cid) :=
  ⟨⟨.txqPop 0, State.reset, _, rfl, by decide +kernel⟩,
    ⟨.referenceTick, State.reset, _, rfl, by decide +kernel⟩,
    ⟨.regReq 47, State.reset, _, 47, 46, rfl, by decide +kernel, by decide +kernel⟩,
    ⟨.pwmLoad 7, State.reset, _, 7, 6, rfl, by decide +kernel, by decide +kernel⟩⟩

/-- States and operands that meet the hypotheses of `Obligations.StationTimeDoesNotRunBack`. -/
theorem wit_StationTimeDoesNotRunBack :
    ∃ (s : State) (t : State), s.time.Fits ∧ s.u.held = false ∧ s.time.elapsed * 2 ^ 28 ≤ s.time.incNext.getD s.time.inc ∧ s.time.raw +
      s.time.incNext.getD s.time.inc < 2 ^ 80 * 1000000000 ∧ exec .referenceTick s = .next t :=
  ⟨State.reset, _, ⟨by decide +kernel, by decide +kernel, by decide +kernel⟩, by decide +kernel, by decide +kernel, by decide +kernel, rfl⟩

/-- States and operands that meet the hypotheses of `Obligations.OrderIsBySignedDifference`, clause by clause. -/
theorem wit_OrderIsBySignedDifference :
    (∃ (d : Int), -(2 ^ 31) ≤ d ∧ d < 2 ^ 31) ∧
    (∃ (d : Int), -(2 ^ 31) ≤ d ∧ d < 2 ^ 31) ∧
    (∃ (d : Int), -(2 ^ 63) ≤ d ∧ d < 2 ^ 63) ∧
    (∃ (d : Int), -(2 ^ 63) ≤ d ∧ d < 2 ^ 63) ∧
    (∃ (ts : _) (ts' : _), ts % 2 ^ 64 ≠ ts' % 2 ^ 64) :=
  ⟨⟨-(2 ^ 31), by decide +kernel, by decide +kernel⟩,
    ⟨2 ^ 31 - 1, by decide +kernel, by decide +kernel⟩,
    ⟨-(2 ^ 63), by decide +kernel, by decide +kernel⟩,
    ⟨2 ^ 63 - 1, by decide +kernel, by decide +kernel⟩,
    ⟨1, 0, by decide +kernel⟩⟩

/-- States and operands that meet the hypotheses of `Obligations.RoundingIsToNearestEven`, clause by clause. -/
theorem wit_RoundingIsToNearestEven :
    (∃ (n : Int) (d : Nat), 0 < d ∧ 2 * (n - rdiv n d * d).natAbs = d) ∧
    (∃ (w : Nat) (x : Int), 0 < w ∧ -(2 ^ (w - 1)) ≤ x ∧ x < 2 ^ (w - 1)) ∧
    (∃ (w : Nat) (x : Int), 0 < w ∧ -(2 ^ (w - 1)) ≤ x ∧ x < 2 ^ (w - 1)) ∧
    (∃ (w : Nat) (x : Int), 0 < w ∧ 2 ^ (w - 1) ≤ x) ∧
    (∃ (w : Nat) (x : Int), 0 < w ∧ x < -(2 ^ (w - 1))) ∧
    (∃ (w : Nat) (x : Int), 0 ≤ x ∧ x < 2 ^ w) ∧
    (∃ (w : Nat) (x : Int), 2 ^ w ≤ x) :=
  ⟨⟨1, 2, by decide +kernel, by decide +kernel⟩,
    ⟨8, -128, by decide +kernel, by decide +kernel, by decide +kernel⟩,
    ⟨8, 127, by decide +kernel, by decide +kernel, by decide +kernel⟩,
    ⟨8, 128, by decide +kernel, by decide +kernel⟩,
    ⟨8, -129, by decide +kernel, by decide +kernel⟩,
    ⟨8, 255, by decide +kernel, by decide +kernel⟩,
    ⟨8, 256, by decide +kernel⟩⟩

/-- States and operands that meet the hypotheses of `Obligations.AccessCodes`, clause by clause. -/
theorem wit_AccessCodes :
    (∃ (fs : List (Fld × List (Nat × Nat))) (data : _) (f : Fld) (rng : _), (fs.map (fun e => e.1.key)).Nodup ∧ (f, rng) ∈ fs ∧ f.acc = .rw ∧ inRange
      rng (bits data f.lo f.width) = true) ∧
    (∃ (fs : List (Fld × List (Nat × Nat))) (data : _) (f : Fld) (rng : _), (fs.map (fun e => e.1.key)).Nodup ∧ (f, rng) ∈ fs ∧ f.acc = .rw ∧ inRange
      rng (bits data f.lo f.width) = false) ∧
    (∃ (fs : List (Fld × List (Nat × Nat))) (f : Fld) (rng : _), (fs.map (fun e => e.1.key)).Nodup ∧ (f, rng) ∈ fs ∧ f.acc = .w1c ∧ f.width = 1) ∧
    (∃ (fs : List (Fld × List (Nat × Nat))) (f : Fld) (rng : _), (fs.map (fun e => e.1.key)).Nodup ∧ (f, rng) ∈ fs ∧ f.acc = .w1s ∧ f.width = 1) ∧
    (∃ (fs : List (Fld × List (Nat × Nat))) (f : Fld) (rng : _), (fs.map (fun e => e.1.key)).Nodup ∧ (f, rng) ∈ fs ∧ (f.acc = .ro ∨ f.acc = .wo ∨
      f.acc = .rc ∨ f.acc = .rb)) ∧
    (∃ (fs : List (Fld × List (Nat × Nat))) (f : Fld) (rng : _), (fs.map (fun e => e.1.key)).Nodup ∧ (f, rng) ∈ fs ∧ f.acc = .rc) ∧
    (∃ (fs : List (Fld × List (Nat × Nat))) (f : Fld) (rng : _), (fs.map (fun e => e.1.key)).Nodup ∧ (f, rng) ∈ fs ∧ f.acc ≠ .rc) ∧
    (∃ (fs : List (Fld × List (Nat × Nat))) (f : Fld), f.key ∉ fs.map (fun e => e.1.key)) :=
  ⟨⟨[(R.DEP_CTL_LEAD, [])], 0, R.DEP_CTL_LEAD, [], by decide +kernel, by decide +kernel, by decide +kernel, by decide +kernel⟩,
    ⟨[(R.DEP_CTL_LEAD, [(8, 31)])], 0, R.DEP_CTL_LEAD, [(8, 31)], by decide +kernel, by decide +kernel, by decide +kernel, by decide +kernel⟩,
    ⟨[(B.DEP.status 2, [])], B.DEP.status 2, [], by decide +kernel, by decide +kernel, by decide +kernel, by decide +kernel⟩,
    ⟨[(⟨0, 0, 1, .w1s, 0⟩, [])], ⟨0, 0, 1, .w1s, 0⟩, [], by decide +kernel, by decide +kernel, by decide +kernel, by decide +kernel⟩,
    ⟨[(B.DEP.firstClass, [])], B.DEP.firstClass, [], by decide +kernel, by decide +kernel, by decide +kernel⟩,
    ⟨[(⟨0, 0, 1, .rc, 0⟩, [])], ⟨0, 0, 1, .rc, 0⟩, [], by decide +kernel, by decide +kernel, by decide +kernel⟩,
    ⟨[(R.DEP_CTL_LEAD, [])], R.DEP_CTL_LEAD, [], by decide +kernel, by decide +kernel, by decide +kernel⟩,
    ⟨[(B.DEP.status 2, [])], R.DEP_CTL_LEAD, by decide +kernel⟩⟩

/-- States and operands that meet the hypotheses of `Obligations.EscalationOfClasses`, clause by clause. -/
theorem wit_EscalationOfClasses :
    (∃ (c : Cause) (k : Blk), k.st ≠ c.blk.st) ∧
    (∃ (c : Cause) (b : _), c.cls = some b) ∧
    (∃ (i : _) (b : Blk), 0x400000000 + i * 0x10000 ≤ b.st ∧ b.st < 0x400000000 + i * 0x10000 + 0x10000) :=
  ⟨⟨DEP.OVERRUN, B.TIM, by decide +kernel⟩,
    ⟨HC.QDROP, _, rfl⟩,
    ⟨48, B.DEP, by decide +kernel, by decide +kernel⟩⟩

/-- States and operands that meet the hypotheses of `Obligations.PermitsNeedEveryCondition`, clause by clause. -/
theorem wit_PermitsNeedEveryCondition :
    (∃ (k : _), k < 8) ∧
    (∃ (u : U), u.rd R.SBX_STATE_RUN_OK = 1 ∧ u.permits.rd R.SBX_STATE_RUN_OK = 0) :=
  ⟨⟨7, by decide +kernel⟩,
    ⟨wU [(R.SBX_STATE_RUN_OK, 1)], by decide +kernel, by decide +kernel⟩⟩

/-- States and operands that meet the hypotheses of `Obligations.ClassThreeTrips`, clause by clause. -/
theorem wit_ClassThreeTrips :
    (∃ (u : U) (v : U) (w : U) (t : TimeBase) (c : Cause) (b : _) (d : _) (k : _), u.record t.ts64 c (some b) d = (3, w) ∧ v = u.raiseAt t c (some b)
      d ∧ u.sbx.supply = true ∧ k < 8 ∧ w.rd (R.SBX_CH_TRIP k) ≠ 0) ∧
    (∃ (u : U) (v : U) (w : U) (t : TimeBase) (c : Cause) (b : _) (d : _) (n : _), u.record t.ts64 c (some b) d = (3, w) ∧ v = u.raiseAt t c (some b)
      d ∧ u.sbx.supply = true ∧ w.rd R.DEP_STATUS_AV_LATCHED = 0 ∧ n < 100 ∧ w.on (R.LNS_CTL_EN (laneBase n)) = true) :=
  ⟨⟨wU [(R.SBX_CH_TRIP 7, 1)], _, _, TimeBase.start 0, DEP.AVALANCHE, 3, [], 7, rfl, rfl, by decide +kernel, by decide +kernel, by decide +kernel⟩,
    ⟨wU [(R.LNS_CTL_EN (laneBase 99), 1)], _, _, TimeBase.start 0, DEP.OVR_FAULT, 3, [], 99, rfl, rfl, by decide +kernel, by decide +kernel,
      by decide +kernel, by decide +kernel⟩⟩

/-- States and operands that meet the hypotheses of `Obligations.SramStores`, clause by clause. -/
theorem wit_SramStores :
    (∃ (s : State) (core : _) (addr : _) (size : _) (v : _), (Instr.registerWrite .unit core addr size v).wf = true ∧ s.u.held = false ∧ s.u.Calm ∧
      s.u.sramAt addr size = true ∧ s.u.capHolds addr size = false ∧ s.u.ledgerHolds addr size = false) ∧
    (∃ (s : State) (core : _) (addr : _) (size : _) (v : _), (Instr.registerWrite .unit core addr size v).wf = true ∧ s.u.held = false ∧ s.u.Calm ∧
      s.u.sramAt addr size = true ∧ (s.u.capHolds addr size = true ∨ s.u.ledgerHolds addr size = true)) :=
  ⟨⟨wS (wU []), 0, 0x2FFFFF8, 8, 0, by decide +kernel, by decide +kernel, (by constructor <;> decide +kernel), by decide +kernel, by decide +kernel,
      by decide +kernel⟩,
    ⟨wS (wT (wU [((R.FRN_CTL_EN 0), 1)])), 0, 0x3FF, 1, 0, by decide +kernel, by decide +kernel, (by constructor <;> decide +kernel),
      by decide +kernel, by decide +kernel⟩⟩

/-- States and operands that meet the hypotheses of `Obligations.BoundaryStartsDeparturesAndTakesRoles`, clause by clause. -/
theorem wit_BoundaryStartsDeparturesAndTakesRoles :
    (∃ (u : U) (dn : _), u.rd R.TIM_DEP_CTL_STATE = 1 ∧ (u.tim.runNext = true ∨ u.rd R.TIM_DEP_START_DN_START = dn)) ∧
    (∃ (u : U) (dn : _), u.rd R.TIM_DEP_CTL_STATE = 1 ∧ u.tim.runNext = false ∧ u.rd R.TIM_DEP_START_DN_START ≠ dn) ∧
    (∃ (u : U), u.rd R.TIM_DEP_CTL_STATE ≠ 1) ∧
    (∃ (u : U) (r : _), u.sdl.next = some r ∧ r < 5 ∧ u.on R.SDL_ROLE_HO_PEND = false) ∧
    (∃ (u : U) (us : _) (h : _) (n : _), u.role = 3 ∧ u.rd R.TIM_DEP_CTL_STATE = 2 ∧ us % 2 ^ 32 % 1024 = 0 ∧ h ∈ u.topo.hubs ∧ (n = 2 * h ∨ n = 2 * h
      + 1) ∧ u.laneUp n = true) ∧
    (∃ (u : U) (us : _), u.role = 3 ∧ u.rd R.TIM_DEP_CTL_STATE = 2 ∧ us % 2 ^ 32 % 1024 ≠ 0) :=
  ⟨⟨(wU [(R.TIM_DEP_CTL_STATE, 1), (R.TIM_DEP_START_DN_START, 7)]), 7, by decide +kernel, by decide +kernel⟩,
    ⟨(wU [(R.TIM_DEP_CTL_STATE, 1), (R.TIM_DEP_START_DN_START, 8)]), 7, by decide +kernel, by decide +kernel, by decide +kernel⟩,
    ⟨U.afterReset, by decide +kernel⟩,
    ⟨(wU [(R.SDL_ROLE_HO_PEND, 0)]).withSdl (fun x => { x with next := some 4 }), 4, by decide +kernel, by decide +kernel, by decide +kernel⟩,
    ⟨wT ((wU [(R.SDL_ROLE_ROLE, 3), (R.TIM_DEP_CTL_STATE, 2), (R.SDL_ROLE_ROLE, 3), (R.TIM_DEP_CTL_STATE, 2), ((R.LNS_STATE_STATE (laneBase 1)),
      7)])), 1024, 0, 1, by decide +kernel, by decide +kernel, by decide +kernel, by decide +kernel, by decide +kernel, by decide +kernel⟩,
    ⟨(wU [(R.SDL_ROLE_ROLE, 3), (R.TIM_DEP_CTL_STATE, 2)]), 1025, by decide +kernel, by decide +kernel, by decide +kernel⟩⟩

/-- States and operands that meet the hypotheses of `Obligations.IncrementOutOfLimitIsRejected`, clause by clause. -/
theorem wit_IncrementOutOfLimitIsRejected :
    (∃ (s : State) (v : _) (x : _) (n : _), (Instr.timIncIntWrite v).wf = true ∧ s.u.held = false ∧ x = v * 2 ^ 32 + s.u.rd R.TIM_INC_FRAC_FRAC ∧ n =
      nominalInc (s.u.rd R.SYS_STRAP_CLK_MODE) ∧ n < 1000 * ((x : Int) - n).natAbs) ∧
    (∃ (s : State) (v : _) (x : _) (n : _), (Instr.timIncIntWrite v).wf = true ∧ s.u.held = false ∧ x = v * 2 ^ 32 + s.u.rd R.TIM_INC_FRAC_FRAC ∧ n =
      nominalInc (s.u.rd R.SYS_STRAP_CLK_MODE) ∧ 1000 * ((x : Int) - n).natAbs ≤ n) ∧
    (∃ (u : U), u.on TIM.INC_REJ.enable = true) :=
  ⟨⟨wS (wU [(R.TIM_INC_FRAC_FRAC, 1745474709)]), 6, _, _, by decide +kernel, by decide +kernel, rfl, rfl, by decide +kernel⟩,
    ⟨wS (wU [(R.TIM_INC_FRAC_FRAC, 1745474708)]), 6, _, _, by decide +kernel, by decide +kernel, rfl, rfl, by decide +kernel⟩,
    ⟨(wU []), by decide +kernel⟩⟩

/-- States and operands that meet the hypotheses of `Obligations.TimeSetIsLoadedOrRefused`, clause by clause. -/
theorem wit_TimeSetIsLoadedOrRefused :
    (∃ (s : State) (v : _), (Instr.timSetLoad v).wf = true ∧ s.u.held = false ∧ s.u.rd R.TIM_DEP_CTL_STATE = 0 ∧ bits v 0 30 < 1000000000) ∧
    (∃ (s : State) (v : _), (Instr.timSetLoad v).wf = true ∧ s.u.held = false ∧ (s.u.rd R.TIM_DEP_CTL_STATE ≠ 0 ∨ 1000000000 ≤ bits v 0 30)) ∧
    (∃ (s : State) (v : _), (Instr.timSetLoad v).wf = true ∧ s.u.held = false ∧ (s.u.rd R.TIM_DEP_CTL_STATE ≠ 0 ∨ 1000000000 ≤ bits v 0 30)) ∧
    (∃ (s : State) (core : _) (v : _), (Instr.registerWrite .unit core 0x40001001C 4 v).wf = true ∧ v < 2 ^ 32 ∧ s.u.held = false ∧ s.u.blockOn
      0x40001001C = true ∧ bitAt v 31 = true) :=
  ⟨⟨wS (wU [(R.TIM_DEP_CTL_STATE, 0)]), 999999999, by decide +kernel, by decide +kernel, by decide +kernel, by decide +kernel⟩,
    ⟨wS (wU []), 1000000000, by decide +kernel, by decide +kernel, by decide +kernel⟩,
    ⟨wS (wU [(R.TIM_DEP_CTL_STATE, 1)]), 0, by decide +kernel, by decide +kernel, by decide +kernel⟩,
    ⟨wS (wU []), 0, 2147483648, by decide +kernel, by decide +kernel, by decide +kernel, by decide +kernel, by decide +kernel⟩⟩

/-- States and operands that meet the hypotheses of `Obligations.FirstTripClears`, clause by clause. -/
theorem wit_FirstTripClears :
    (∃ (s : State), s.u.held = false ∧ s.u.sbx.supply = true ∧ s.u.rd R.SBX_STATE_TRIPPED = 0 ∧ s.u.rd R.SBX_STATE_GL_ACTIVE = 0) ∧
    (∃ (s : State), s.u.held = false ∧ s.u.sbx.supply = true ∧ (s.u.rd R.SBX_STATE_TRIPPED ≠ 0 ∨ s.u.rd R.SBX_STATE_GL_ACTIVE ≠ 0)) ∧
    (∃ (s : State), s.u.held = false ∧ s.u.sbx.supply = true ∧ (s.u.rd R.SBX_STATE_TRIPPED ≠ 0 ∨ s.u.rd R.SBX_STATE_GL_ACTIVE ≠ 0)) :=
  ⟨⟨wS (wU [(R.SBX_STATE_TRIPPED, 0), (R.SBX_STATE_GL_ACTIVE, 0)]), by decide +kernel, by decide +kernel, by decide +kernel, by decide +kernel⟩,
    ⟨wS (wU [(R.SBX_STATE_TRIPPED, 1)]), by decide +kernel, by decide +kernel, by decide +kernel⟩,
    ⟨wS (wU [(R.SBX_STATE_GL_ACTIVE, 1)]), by decide +kernel, by decide +kernel, by decide +kernel⟩⟩

/-- Each of these terms fails one check of WellFormed, which refuses it. -/
theorem test_wf_refuses_0 :
    ([.registerWrite (.hub 48) 0 0 1 0, .registerWrite .unit 16 0 1 0, .registerWrite .unit 0 (2 ^ 40) 1 0, .registerWrite .unit 0 0 3 0,
     .registerWrite .unit 0 0 1 (2 ^ 64), .rcFieldRead (.hub 48) 0 0 4 .none, .rcFieldRead .unit 16 0 4 .none, .rcFieldRead .unit 0 (2 ^ 40) 4 .none,
     .rcFieldRead .unit 0 0 3 .none, .statusW1cWrite (.hub 48) 0 0 0, .statusW1cWrite .unit (2 ^ 40) 0 0, .statusW1cWrite .unit 0 (2 ^ 32) 0,
     .statusW1cWrite .unit 0 0 (2 ^ 32), .blockAck (.hub 48) 0 0, .blockAck .unit (2 ^ 40) 0, .blockAck .unit 0 (2 ^ 32), .timIncFracWrite (2 ^ 32),
     .timIncIntWrite (2 ^ 32), .timDepStartWrite (2 ^ 32), .timStepWrite (2 ^ 32), .timSetLoad (2 ^ 32), .timNowLatch 16, .timeStateWrite (2 ^ 32),
     .ptpEventRx 4 0 0 0 0 [], .ptpEventRx 0 16 0 0 0 [], .ptpEventRx 0 0 256 0 0 [], .ptpEventRx 0 0 0 65536 0 [], .ptpEventRx 0 0 0 0 (2 ^ 64) [],
     .ptpEventRx 0 0 0 0 0 [256], .ptpEventTx 4 0 0 0, .ptpEventTx 0 16 0 0, .ptpEventTx 0 0 65536 0, .ptpEventTx 0 0 0 (2 ^ 64), .txqPop 4,
     .hsrSyncForward 2 65536 false 0 0 0, .hsrSyncForward 2 0 false (2 ^ 64) 0 0, .hsrSyncForward 2 0 false 0 (2 ^ 64) 0,
     .hsrSyncForward 2 0 false 0 0 (2 ^ 64), .frnClrSuspect 12 0, .frnClrSuspect 0 2048, .frnReseed 12 0, .frnReseed 0 2048, .frnSetK 12 0 0,
     .frnSetK 0 2048 0, .frnSetK 0 0 (2 ^ 32), .frnSetB 12 0 0, .frnSetB 0 2048 0, .frnSetB 0 0 (2 ^ 32)] : List Instr).all (fun c => !c.wf) = true := by
  decide +kernel

/-- Each of these terms fails one check of WellFormed, which refuses it. -/
theorem test_wf_refuses_1 :
    ([.frnClrAged 12 0, .frnClrAged 0 2048, .frnEnWrite 12 false, .ledgerStore 0 1 ((2 ^ 8)), .selection 12, .mshEnWrite 12 false, .mshRetire 12 0,
     .mshRetire 0 2048, .mshRestore 12 0, .mshRestore 0 2048, .mshRotate 12, .mshClrReq 12 0, .mshClrReq 0 2048, .forceSet 32768 0, .forceSet 0 16,
     .forceRelease 32768, .peerAvalancheRx ((1, zeros 7)), .hubOrderLoss 48, .hubAvalancheRx 48 128 relinquishBlock,
     .hubAvalancheRx 0 132 relinquishBlock, .hubAvalancheRx 0 128 ((1, zeros 7)), .cellK287Rx 24576 0, .cellK287Rx 0 2,
     .cellFrameRx 24576 0 0 (wChars 0) none, .cellFrameRx 0 2 0 (wChars 0) none, .cellFrameRx 0 0 16000 (wChars 0) none, .cellFrameRx 0 0 0 [] none,
     .cellBoundary 24576 false, .cellWatchdog 24576, .depPeek (2 ^ 32), .gtePatWrite 24576 0 0, .gtePatWrite 0 5 0, .gtePatWrite 0 0 (2 ^ 32),
     .gteCtlWrite 24576 0, .gteCtlWrite 0 (2 ^ 32), .testEnWrite 24576 false, .gteTestWrite 24576 0, .gteTestWrite 0 (2 ^ 32),
     .pwmRunWrite 24576 false, .pwmLoad 24576, .pwmPeriodStart 24576, .calibrationComplete 24576 0 0, .refreshRequest 24576 0, .refreshRequest 0 2,
     .autoRefresh 24576 0, .autoRefresh 0 2, .comparatorTrip 24576 [], .comparatorTrip 0 ([(5, 0)])] : List Instr).all (fun c => !c.wf) = true := by
  decide +kernel

/-- Each of these terms fails one check of WellFormed, which refuses it. -/
theorem test_wf_refuses_2 :
    ([.blankWindowClose 24576 0 [], .blankWindowClose 0 16 [], .blankWindowClose 0 0 ([(5, 0)]), .softOffEnd 24576, .bypWaitExpire 24576,
     .prtThrWrite 24576 0 0, .prtThrWrite 0 4 0, .prtThrWrite 0 0 (2 ^ 32), .prtOvaWrite 24576 0, .prtOvaWrite 0 (2 ^ 32), .clrHold 24576 [],
     .clrHold 0 ([(5, 0)]), .selftest 24576 0, .selftest 0 1024, .selftestTimeout 24576, .clrJournal 24576, .dmpTmaxExpire 24576,
     .ov2Crossing 24576 [], .ov2Crossing 0 ([(5, 0)]), .uvloEntry 24576, .uvloRelease 24576 [], .uvloRelease 0 ([(5, 0)]), .cellPor 24576,
     .retirementRecordDone 24576, .bycPulseStart 24576, .bycPulseEnd 24576, .bycConfirm 24576, .bycTimeout 24576, .byfRelease 24576,
     .byfPulse 24576 false, .gateMismatch 24576 0 false, .gateMismatch 0 4 false, .lpeRunCommit 3, .boardCoreStore 1024 0, .boardCoreStore 0 (2 ^ 32),
     .slotCtlWrite 96 0 0, .slotCtlWrite 0 4 0, .slotCtlWrite 0 0 (2 ^ 32), .slotEnable 96, .slotStateStore 96 0 0, .slotStateStore 0 8 0,
     .slotStateStore 0 0 (2 ^ 32), .slotCoefStore 96 0 0, .slotCoefStore 0 8 0, .slotCoefStore 0 0 (2 ^ 32), .sensorWord 32 0, .sensorWord 0 (2 ^ 64),
     .sensorTimeout 32] : List Instr).all (fun c => !c.wf) = true := by
  decide +kernel

/-- Each of these terms fails one check of WellFormed, which refuses it. -/
theorem test_wf_refuses_3 :
    ([.snsErrWindowClose 32, .snsPortEnWrite 32 false, .snsRestore 32, .snsOfsCommit 32 0, .snsOfsCommit 0 (2 ^ 32), .snsThrCfgWrite 32 0 0,
     .snsThrCfgWrite 0 2 0, .snsThrCfgWrite 0 0 (2 ^ 32), .seqRisingEdge 3 0, .seqRisingEdge 0 3, .freqWindowEnd 3, .seqInputLost 3 0,
     .seqInputLost 0 3, .svAlignedWrite 128, .svTimeout 64, .gooseTimeout 32, .pbxTxProdWrite 2 0, .pbxTxProdWrite 0 (2 ^ 32), .pbxLinkDown 4,
     .pbxRateWrite (2 ^ 32), .laneEnWrite (.unit 100) false, .laneSignalDetect (.unit 100), .laneCdrLock (.unit 100),
     .equalisationSettled (.unit 100), .trainingRx (.unit 100) wTr, .laneLinkLoss (.unit 100), .laneCodeErrors (.unit 100) 0,
     .laneCheckError (.unit 100), .crcWindowClose (.unit 100), .laneRetrainTimeout (.unit 100), .deskewTimeout (.unit 100), .laneRestore (.unit 100),
     .laneRetrainCmd (.unit 100), .laneTestWrite (.unit 100) false 0, .laneTestWrite (.unit 0) false (2 ^ 32), .laneTxeqWrite (.unit 100) 0,
     .laneTxeqWrite (.unit 0) (2 ^ 32), .hubBoundary 48, .rptMiss 24576, .hubTrackwayRx 48 0 0 (wChars 0) none,
     .hubTrackwayRx 0 128 0 (wChars 0) none, .hubTrackwayRx 0 0 0 [] none, .hubFrameDrop 48 0, .hubFrameDrop 0 64, .hubUnreach 48 0 0,
     .hubUnreach 0 64 0, .hubUnreach 0 0 8, .noticeRx 96 []] : List Instr).all (fun c => !c.wf) = true := by
  decide +kernel

/-- Each of these terms fails one check of WellFormed, which refuses it. -/
theorem test_wf_refuses_4 :
    ([.noticeRx 0 ([(4, zeros 8)]), .hubOrderRx 48 128 0 0 [], .hubOrderRx 0 132 0 0 [], .hubOrderRx 0 128 (2 ^ 64) 0 [],
     .hubOrderRx 0 128 0 (2 ^ 64) [], .hubOrderRx 0 128 0 0 ([(4, zeros 8)]), .loopFrameRx 96 [], .loopFrameRx 0 ([(4, zeros 8)]), .mailRx 96 0 [],
     .mailRx 0 (2 ^ 64) [], .mailRx 0 0 ([(4, zeros 8)]), .pointRequestRx 24576 (zeros 64) none, .pointRequestRx 0 (zeros 63) none, .rspDrop 24576,
     .pointRetryTimeout 48 0, .pointRetryTimeout 0 64, .pointResponseRx 48 [], .pointResponseRx 0 [256], .loopMeasurement 48 0, .loopMeasurement 0 64,
     .measurementComplete 48 0, .measurementComplete 0 64, .pathRx 48 0 0 0, .pathRx 0 (2 ^ 32) 0 0, .pathRx 0 0 (2 ^ 32) 0, .pathRx 0 0 0 (2 ^ 32),
     .hubHeartbeatWrite 48 0, .hubHeartbeatWrite 0 (2 ^ 32), .hubHbLost 48, .hubMemUnc 48, .hubAliveToggle 48, .regReq 48, .adcConversion 24576 0 0,
     .adcConversion 0 20 0, .adcConversion 0 0 65536, .adcEntryEnable 24576 0 0, .adcEntryEnable 0 16 0, .adcEntryEnable 0 0 (2 ^ 32),
     .adcOfsCommit 24576 0 0, .adcOfsCommit 0 16 0, .adcOfsCommit 0 0 (2 ^ 32), .adcResRead 24576 0, .adcResRead 0 16, .ccpArm 24576, .ccpStop 24576,
     .ccpSwtrig 24576, .schWaitRead 16, .endWait 16] : List Instr).all (fun c => !c.wf) = true := by
  decide +kernel

/-- Each of these terms fails one check of WellFormed, which refuses it. -/
theorem test_wf_refuses_5 :
    ([.endWaitUntil 16, .endYield 16, .endExit 16, .releaseResume 64, .schCreate 16 0, .schCreate 0 65536, .schDestroy 16 0, .schDestroy 0 65536,
     .schReady 16 0 none, .schReady 0 65536 none, .schCancel 16 0, .schCancel 0 65536, .schRestart 16 0, .schRestart 0 65536, .schPost 16 0,
     .schPost 0 65536, .schRetireCore 16 0, .schRetireCore 0 65536, .schRestoreCore 16 0, .schRestoreCore 0 65536, .schCmdResRead 16,
     .schIpiWrite 16 0, .schIpiWrite 0 (2 ^ 32), .schSrcWrite 256 0, .schSrcWrite 0 (2 ^ 32), .longRun 16, .paceCheck 16 0, .coreUncorrError 16 0,
     .coreUncorrError 0 3, .scrubRead (.hub 48) 0 false, .memoryUncorrRead (.hub 48) 0 none, .memoryUncorrRead .unit (2 ^ 40) none,
     .sysInjWrite (.hub 48) false 0, .sysInjWrite .unit false (2 ^ 32), .sbxLineChange 149 false, .hwAliveTimeout 16, .sbxHeartWrite 256 0,
     .sbxHsWrite 256, .sbxCfgLoadWrite (2 ^ 32), .sbxClear 65536, .sbxFtClr 65536, .readbackSample 256, .testPulseStart 8 false,
     .relinquishRx ((1, zeros 7)), .sdlRegionWrite 16 false 0, .sdlRegionWrite 0 false (2 ^ 32), .resetAssert .unit 11 0 0,
     .resetStageComplete .unit 64] : List Instr).all (fun c => !c.wf) = true := by
  decide +kernel

/-- Each of these terms fails one check of WellFormed, which refuses it. -/
theorem test_wf_refuses_6 :
    ([.sysRstSystem 65536, .sysRstEngine 65536, .sysRstBlock 65536 0, .sysRstBlock 0 128, .sysRstPeer 65536, .peerResetRx ((1, zeros 7)),
     .wdogKick 65536, .dieTempChange (.hub 48) 0, .sysPwrWrite (2 ^ 32), .coreRelease (2 ^ 32), .bakClrCnt 65536, .bakClrHist 65536, .bakClrLf 65536,
     .vbakRise [256], .configBlockRx 24576 (zeros 64), .configBlockRx 0 (zeros 63), .configResendTimeout 24576, .cellSelfReset 24576, .secVerify 2,
     .secSetPending 2, .secCommitArb 65536, .secOwnerSet 65536, .secOwnerLock 65536, .attChallengeRx (.hub 48) (zeros 64),
     .attChallengeRx .unit (zeros 63), .attStatementDone (.hub 48), .attAnswerRx 24640 false 0 [], .attAnswerRx 0 false 256 [],
     .attAnswerRx 0 false 0 [256], .attTimeout 24640, .cellUpdIdent 24576 (zeros 64), .cellUpdIdent 0 (zeros 63),
     .cellUpdBegin 24576 (zeros 64) false, .cellUpdBegin 0 (zeros 63) false, .cellUpdData 24576 (zeros 64) false, .cellUpdData 0 (zeros 63) false,
     .cellUpdEnd 24576 (zeros 64), .cellUpdEnd 0 (zeros 63), .cellUpdActivate 24576 (zeros 64), .cellUpdActivate 0 (zeros 63),
     .hubImageRead 48 (zeros 64), .hubImageRead 0 (zeros 63), .recIdent false [256], .recCertRead false [256], .recBegin false [256] false,
     .recData false [256] false, .recEnd false [256] false, .recBoot false [256]] : List Instr).all (fun c => !c.wf) = true := by
  decide +kernel

/-- Each of these terms fails one check of WellFormed, which refuses it. -/
theorem test_wf_refuses_7 :
    ([.xspiProgram (2 ^ 28) [], .xspiProgram 0 [256], .xspiErase (2 ^ 28), .resetSourceRelease .unit 11, .secCommandDone (.hub 48) false,
     .prbsLockChange (.unit 100) [], .pbxLinkUp 4, .lpeMemError false 96 false, .lpeMemError true 1024 false, .registerWrite (.cell 24576) 0 0 1 0,
     .hsrSyncForward 1 0 false 0 0 0, .ledgerStore 0x3000000 1 0, .ledgerStore 0 17 0, .laneEnWrite (.hub 48 0) false,
     .laneEnWrite (.hub 0 132) false, .laneEnWrite (.cell 24576 0) false, .laneEnWrite (.cell 0 2) false, .hubAvalancheRx 0 127 relinquishBlock,
     .hubOrderRx 0 127 0 0 [], .memoryUncorrRead .unit 0 (some 16), .resetAssert .unit 0 0 128, .resetAssert (.cell 0) 0 0 0,
     .resetAssert (.hub 0) 0 1 0, .resetAssert .unit 0 4 0, .resetStageComplete (.hub 48) 0, .resetSourceRelease (.cell 0) 0,
     .fuseLoadDone (.cell 0) (zeros 256), .fuseLoadDone .unit (zeros 255), .fuseLoadDone .unit (2 ^ 32 :: zeros 255), .vbakRise (zeros 295),
     .schReady 0 1 (some 0), .schReady 0 1 (some 16), .ctrlRx [(95, [])], .ctrlRx [(96, []), (96, [])], .mirrorSectionRx [(100, [])],
     .mirrorSectionRx [(96, [(4, zeros 8)])], .cellFrameRx 0 0 0 (wChars 0) (some []), .hubTrackwayRx 0 0 0 (wChars 0) (some (0, [])),
     .pointRequestRx 0 (zeros 64) (some []), .pbxFrameRx { wEth [8, 0] .other with port := 4 }, .pbxFrameRx { wEth [8, 0] .other with raw := 2 ^ 64 },
     .pbxFrameRx (wEth [8] .other), .pbxFrameRx (wEth (zeros 1517) .other), .pbxFrameRx (wEth [8, 256] .other), .trainingRx (.unit 0) (.set []),
     .trainingRx (.unit 0) (.set (List.replicate 8 1024)), .trainingRx (.unit 0) (.block (2 ^ 58) 0 0 0), .trainingRx (.unit 0) (.block 0 4 0 0)] : List Instr).all (fun c => !c.wf) = true := by
  decide +kernel

/-- Each of these terms fails one check of WellFormed, which refuses it. -/
theorem test_wf_refuses_8 :
    ([.trainingRx (.unit 0) (.block 0 0 (2 ^ 64) 0), .trainingRx (.unit 0) (.block 0 0 0 65536), .comparatorTrip 0 [(0, 65537)],
     .comparatorTrip 0 [(4, 262145)], .cellFrameRx 0 0 0 (0 :: zeros 249) none, .cellFrameRx 0 0 0 ((256 + 0xBC) :: 513 :: zeros 248) none,
     .pointRequestRx 0 (256 :: zeros 63) none, .loopFrameRx 0 [(1, zeros 7)], .loopFrameRx 0 [(1, 256 :: zeros 7)]] : List Instr).all (fun c => !c.wf) = true := by
  decide +kernel

/-- The same commands with every operand in range. -/
theorem test_wf_accepts_0 :
    ([.registerWrite .unit 0 0 1 0, .rcFieldRead .unit 0 0 4 .none, .statusW1cWrite .unit 0 0 0, .blockAck .unit 0 0, .timIncFracWrite 0,
     .timIncIntWrite 0, .timDepStartWrite 0, .timStepWrite 0, .timSetLoad 0, .timNowLatch 0, .timeStateWrite 0, .ptpEventRx 0 0 0 0 0 [],
     .ptpEventTx 0 0 0 0, .txqPop 0, .hsrSyncForward 2 0 false 0 0 0, .frnClrSuspect 0 0, .frnReseed 0 0, .frnSetK 0 0 0, .frnSetB 0 0 0,
     .frnClrAged 0 0, .frnEnWrite 0 false, .ledgerStore 0 1 0, .selection 0, .mshEnWrite 0 false, .mshRetire 0 0, .mshRestore 0 0, .mshRotate 0,
     .mshClrReq 0 0, .forceSet 0 0, .forceRelease 0, .peerAvalancheRx relinquishBlock, .hubOrderLoss 0, .hubAvalancheRx 0 128 relinquishBlock,
     .cellK287Rx 0 0, .cellFrameRx 0 0 0 (wChars 0) none, .cellBoundary 0 false, .cellWatchdog 0, .depPeek 0, .gtePatWrite 0 0 0, .gteCtlWrite 0 0,
     .testEnWrite 0 false, .gteTestWrite 0 0, .pwmRunWrite 0 false, .pwmLoad 0, .pwmPeriodStart 0, .calibrationComplete 0 0 0, .refreshRequest 0 0,
     .autoRefresh 0 0] : List Instr).all (fun c => c.wf) = true := by
  decide +kernel

/-- The same commands with every operand in range. -/
theorem test_wf_accepts_1 :
    ([.comparatorTrip 0 [], .blankWindowClose 0 0 [], .softOffEnd 0, .bypWaitExpire 0, .prtThrWrite 0 0 0, .prtOvaWrite 0 0, .clrHold 0 [],
     .selftest 0 0, .selftestTimeout 0, .clrJournal 0, .dmpTmaxExpire 0, .ov2Crossing 0 [], .uvloEntry 0, .uvloRelease 0 [], .cellPor 0,
     .retirementRecordDone 0, .bycPulseStart 0, .bycPulseEnd 0, .bycConfirm 0, .bycTimeout 0, .byfRelease 0, .byfPulse 0 false,
     .gateMismatch 0 0 false, .lpeRunCommit 0, .boardCoreStore 0 0, .slotCtlWrite 0 0 0, .slotEnable 0, .slotStateStore 0 0 0, .slotCoefStore 0 0 0,
     .lpeMemError false 0 false, .sensorWord 0 0, .sensorTimeout 0, .snsErrWindowClose 0, .snsPortEnWrite 0 false, .snsRestore 0, .snsOfsCommit 0 0,
     .snsThrCfgWrite 0 0 0, .seqRisingEdge 0 0, .freqWindowEnd 0, .seqInputLost 0 0, .pbxFrameRx (wEth [8, 0] .other), .svAlignedWrite 0,
     .svTimeout 0, .gooseTimeout 0, .pbxTxProdWrite 0 0, .pbxLinkDown 0, .pbxRateWrite 0, .laneEnWrite (.unit 0) false] : List Instr).all (fun c => c.wf) = true := by
  decide +kernel

/-- The same commands with every operand in range. -/
theorem test_wf_accepts_2 :
    ([.laneSignalDetect (.unit 0), .laneCdrLock (.unit 0), .equalisationSettled (.unit 0), .trainingRx (.unit 0) wTr, .laneLinkLoss (.unit 0),
     .laneCodeErrors (.unit 0) 0, .laneCheckError (.unit 0), .crcWindowClose (.unit 0), .laneRetrainTimeout (.unit 0), .deskewTimeout (.unit 0),
     .laneRestore (.unit 0), .laneRetrainCmd (.unit 0), .laneTestWrite (.unit 0) false 0, .laneTxeqWrite (.unit 0) 0, .hubBoundary 0, .rptMiss 0,
     .hubTrackwayRx 0 0 0 (wChars 0) none, .hubFrameDrop 0 0, .hubUnreach 0 0 0, .noticeRx 0 [], .hubOrderRx 0 128 0 0 [], .loopFrameRx 0 [],
     .mailRx 0 0 [], .pointRequestRx 0 (zeros 64) none, .rspDrop 0, .pointRetryTimeout 0 0, .pointResponseRx 0 [], .loopMeasurement 0 0,
     .measurementComplete 0 0, .pathRx 0 0 0 0, .hubHeartbeatWrite 0 0, .hubHbLost 0, .hubMemUnc 0, .hubAliveToggle 0, .regReq 0,
     .adcConversion 0 0 0, .adcEntryEnable 0 0 0, .adcOfsCommit 0 0 0, .adcResRead 0 0, .ccpArm 0, .ccpStop 0, .ccpSwtrig 0, .schWaitRead 0,
     .endWait 0, .endWaitUntil 0, .endYield 0, .endExit 0, .releaseResume 0] : List Instr).all (fun c => c.wf) = true := by
  decide +kernel

/-- The same commands with every operand in range. -/
theorem test_wf_accepts_3 :
    ([.schCreate 0 0, .schDestroy 0 0, .schReady 0 0 none, .schCancel 0 0, .schRestart 0 0, .schPost 0 0, .schRetireCore 0 0, .schRestoreCore 0 0,
     .schCmdResRead 0, .schIpiWrite 0 0, .schSrcWrite 0 0, .longRun 0, .paceCheck 0 0, .coreUncorrError 0 0, .scrubRead .unit 0 false,
     .memoryUncorrRead .unit 0 none, .sysInjWrite .unit false 0, .sbxLineChange 0 false, .hwAliveTimeout 0, .sbxHeartWrite 0 0, .sbxHsWrite 0,
     .sbxCfgLoadWrite 0, .sbxClear 0, .sbxFtClr 0, .readbackSample 0, .testPulseStart 0 false, .ctrlRx [], .mirrorSectionRx [],
     .relinquishRx relinquishBlock, .sdlRegionWrite 0 false 0, .resetAssert .unit 0 0 0, .resetStageComplete .unit 0, .fuseLoadDone .unit (zeros 256),
     .sysRstSystem 0, .sysRstEngine 0, .sysRstBlock 0 0, .sysRstPeer 0, .peerResetRx relinquishBlock, .wdogKick 0, .dieTempChange .unit 0,
     .sysPwrWrite 0, .coreRelease 0, .bakClrCnt 0, .bakClrHist 0, .bakClrLf 0, .vbakRise (zeros 296), .configBlockRx 0 (zeros 64),
     .configResendTimeout 0] : List Instr).all (fun c => c.wf) = true := by
  decide +kernel

/-- The same commands with every operand in range. -/
theorem test_wf_accepts_4 :
    ([.cellSelfReset 0, .secVerify 0, .secSetPending 0, .secCommitArb 0, .secOwnerSet 0, .secOwnerLock 0, .attChallengeRx .unit (zeros 64),
     .attStatementDone .unit, .attAnswerRx 0 false 0 [], .attTimeout 0, .cellUpdIdent 0 (zeros 64), .cellUpdBegin 0 (zeros 64) false,
     .cellUpdData 0 (zeros 64) false, .cellUpdEnd 0 (zeros 64), .cellUpdActivate 0 (zeros 64), .hubImageRead 0 (zeros 64), .recIdent false [],
     .recCertRead false [], .recBegin false [] false, .recData false [] false, .recEnd false [] false, .recBoot false [], .xspiProgram 0 [],
     .xspiErase 0, .resetSourceRelease .unit 0, .secCommandDone .unit false, .prbsLockChange (.unit 0) [], .pbxLinkUp 0,
     .ctrlRx [(99, avalancheBlocks), (96, [])], .schReady 0 1 (some 1), .hubTrackwayRx 0 0 0 (wChars 0) (some (0, wChars 0)),
     .resetAssert (.hub 47) 0 3 127, .loopFrameRx 0 avalancheBlocks, .pbxFrameRx (wEth (zeros 1516) .other),
     .comparatorTrip 0 [(0, 65536), (4, 262144)]] : List Instr).all (fun c => c.wf) = true := by
  decide +kernel

/-- The state that a command leads to. -/
def goes (c : Instr) (s : State) : Option State :=
  match exec c s with
  | .next t => some t
  | _ => none

/-- R16, R17: A7.S2.L37.P5 is CID 0x3D2D, and its hub is 30. -/
theorem test_cid_of_a_position : mkCid 30 37 5 = 0x3D2D ∧ cidHub 0x3D2D = 30 ∧ cidLoop 0x3D2D = 37 ∧ cidPos 0x3D2D = 5 := by decide +kernel

/-- R37 and the worked example after it: the correction of 12.5 ppm is accepted and comes into force at the next tick. -/
theorem test_tim_inc_accepted :
    (goes (.timIncIntWrite 6) (wS (wU [(R.TIM_INC_FRAC_FRAC, 0x6661283D)]))).map (fun t => (t.time.incNext, t.u.rd (B.TIM.status 2))) =
      some (some 27487447101, 0) := by decide +kernel

/-- R37: 7 ns is out of the limit of 1,000 ppm. -/
theorem test_tim_inc_refused :
    (goes (.timIncIntWrite 7) (wS (wU []))).map (fun t => (t.time.incNext, t.time.inc, t.u.rd (B.TIM.status 2))) =
      some (none, 0x666666666, 1) := by decide +kernel

/-- R30: one tick of CLK_MODE 0 is 6.4 ns. -/
theorem test_reference_tick :
    (goes .referenceTick State.reset).map (fun t => (t.time.sec, t.time.ns, t.time.frac)) = some (0, 6, 0x66666666) := by decide +kernel

/-- R38: START with TIM_DEP_START not after DN sets START_LATE. -/
theorem test_dep_start_late :
    (goes (.depStart false) (wS (wU []))).map (fun t => t.u.rd (B.TIM.status 0)) = some 1 := by decide +kernel

/-- The worked example of cell A0.S0.L12.P3: the current at boundary b from the samples at b - 1,625 ns and b - 625 ns. -/
theorem test_current_at_boundary : lineAt [(22000, 472640), (6000, 471104)] 32000 (fun _ => false) = some 473600 := by decide +kernel

/-- The same example: charge term, bleed, history entry and the rise of the history entries. -/
theorem test_interval_update : chargeTerm 1 none 473600 2748779 = 19864223 ∧ rshift (191244238848 * 880) 40 = 153 ∧
    rshift (191244238848 + 19864223 - 153) 16 = 2918459 ∧ rshift 92 3 = 12 := by decide +kernel

/-- The worked example of arm A0: a rank key (R88), and the trim duty of a demand of 22,801, which leaves no carry (R99). -/
theorem test_rank_key : rankKey 2915873 = 11390 ∧ trimDuty 7864 22801 = (22801, 0) := by decide +kernel

/-- The worked example of trim cell A0.S1.L22.P3: the widths in 1/16 ns of two trim pulses (R163). -/
theorem test_trim_widths : rdiv (17695 * 125) 512 = 4320 ∧ rdiv (22801 * 125) 512 = 5567 := by decide +kernel

/-- The worked example of port 0 (R256, R259): the sample of an accepted word on the signal board and as the arm current. -/
theorem test_sensor_word_accepted :
    let u := (wU [(R.SNS_PSTAT_STATE 0, 2), (R.SNS_PERIOD_NOM_PERIOD 0, 1000), (R.SNS_LAT_LAT 0, 8000)]).setPort 0
      (fun h => { h with gm := 1099511628, gsh := 9 })
    ((u.portAccept (TimeBase.start 0) 0 0x11 1846250).rd (R.LPE_BOARD_VALUE 0),
      ((u.portAccept (TimeBase.start 0) 0 0x11 1846250).port 0).line.map (fun e => e.2)) = (120995840, [472640]) := by decide +kernel

/-- The worked example of loop 50 of hub 13 (R359): TOFS_U and TOFS_D of the positions 0, 2 and 6. -/
theorem test_path_offsets : twoEnded 14400 14400 (4320, 480, 480) = (-5280, -9600) ∧ twoEnded 14400 14400 (1440, 480, 480) = (-6720, -8160) ∧
    twoEnded 14400 14400 (-4320, 480, 480) = (-9600, -5280) := by decide +kernel

/-- The worked example of escalation (R445, R450): FOLLOW once is class 1, twice is class 2, and AVAIL_LOW of arm 2 in the same tick is the
first trip by its lower source. -/
theorem test_escalation :
    let t := TimeBase.start 0
    let u := (wU []).raise t LPE.FOLLOW (LPE.det 21)
    let v := u.raise t LPE.FOLLOW (LPE.det 22)
    let w := v.raise t (MSH.AVAIL_LOW 2) []
    (u.rd R.SBX_FT_VALID, v.rd R.SBX_FT_CLASS, v.rd R.SBX_FT_SOURCE, w.rd R.SBX_FT_CLASS, w.rd R.SBX_FT_SOURCE) = (0, 2, 52, 2, 11) := by
  decide +kernel

/-- The worked example of two overruns (R124): the second HELD set in a row raises OVR_FAULT. -/
theorem test_two_overruns :
    let t := TimeBase.start 0
    let u := (wU []).heldCount t 2 true
    let v := u.heldCount t 2 true
    let w := v.heldCount t 2 false
    ((u.rd (R.DEP_OVR_CNT_COUNT 2), u.rd (R.DEP_OVR_CNT_RUN 2)), (v.rd (R.DEP_OVR_CNT_COUNT 2), v.rd (R.DEP_OVR_CNT_RUN 2)),
      (u.rd (DEP.OVR_FAULT.blk.status DEP.OVR_FAULT.bit), v.rd (DEP.OVR_FAULT.blk.status DEP.OVR_FAULT.bit)), w.rd (R.DEP_OVR_CNT_RUN 2)) =
      ((1, 1), (2, 2), (0, 1), 0) := by decide +kernel

/-- R128 and the example after it: a SET from DN 100, then a RELEASE from DN 90, leaves the CID unforced at DN 95 and at DN 105. -/
theorem test_release_before_set :
    (goes (.forceRelease 99) { wS ((wU [(R.DEP_FORCE_DN_DN, 90)]).withDep (fun d => { d with force := [⟨99, none, some ⟨some 1, 100⟩⟩] })) with
      time := TimeBase.start 0 }).map (fun t => (t.u.forced 95 99, t.u.forced 105 99)) = some (none, none) := by decide +kernel

/-- R127: TRIM is no state of the force table. -/
theorem test_force_trim_refused :
    (goes (.forceSet 0 5) (wS (wT (wU [])))).map (fun t => t.u.rd R.DEP_FORCE_STAT_REJ) = some 1 := by decide +kernel

/-- A command that no chip can receive changes nothing (log entry 9). -/
theorem test_ill_formed_command_does_nothing : exec (.depPeek (2 ^ 32)) State.reset = .next State.reset := rfl

/-- R101: TMIN 400 with DEAD 100 is taken; DEAD 101 beside it is refused. -/
theorem test_trim_limit :
    let u := wU [(R.MSH_TRIM_TMIN 0, 400)]
    ((store (TimeBase.start 0) u 0 0x400200010 4 100).2.rd (R.MSH_DEAD_DEAD 0),
      (store (TimeBase.start 0) u 0 0x400200010 4 101).2.rd (R.MSH_DEAD_DEAD 0)) = (100, 150) := by decide +kernel

/-- R606: GO with OP 0 sets neither DONE nor REJ. -/
theorem test_go_with_no_operation :
    let u := (wU []).frnCmdWrite 0 0 0
    let v := (wU []).mshCmdWrite 0 0 0
    (u.rd (R.FRN_CMD_STAT_DONE 0), u.rd (R.FRN_CMD_STAT_REJ 0), v.rd (R.MSH_CMD_STAT_DONE 0), v.rd (R.MSH_CMD_STAT_REJ 0)) = (0, 0, 0, 0) := by
  decide +kernel

/-- R238: (b - c) / √3 is the exact quotient rounded once. -/
theorem test_quotient_by_sqrt3 : divSqrt3 3256168946 = 1879950017 := by decide +kernel

/-- R255 and R310: the check values of the two CRCs over the digits 1 to 9 as published for them (CRC-8 without its final XOR). -/
theorem test_crc_check_values : crc8 0x2F 0xFF (List.range' 0x31 9) = 0xDF ^^^ 0xFF ∧ crc32c (List.range' 0x31 9) = 0xE3069283 := by decide +kernel

/-- R288, R290 and the 8b/10b tables of IEEE 802.3 Clause 36: D21.5 is balanced, D10.2 is its complement; D0.0, D31.7, and the alternate
codes of D17.7 and D11.7. -/
theorem test_code_groups : dataGroup false 0xB5 = (0b1010101010, false) ∧ dataGroup true 0xB5 = (0b1010101010, true) ∧
    readGroup true 0b0101010101 = some (0x4A, true) ∧ dataGroup false 0 = (0b1001110100, false) ∧ dataGroup true 0 = (0b0110001011, true) ∧
    (dataGroup false 0xFF).1 = 0b1010110001 ∧ (dataGroup false 0xF1).1 = 0b1000110111 ∧ (dataGroup true 0xEB).1 = 0b1101001000 := by
  decide +kernel

/-- R286: what the scrambler sends, the descrambler gives back; x^58 + x^39 + 1 takes a single 1 to bits 0, 39 and 58. -/
theorem test_scrambler : descramble 12345 (scramble 12345 0x1122334455667788) = 0x1122334455667788 ∧
    scramble 0 1 = 1 + 2 ^ 39 + 2 ^ 58 := by decide +kernel

/-- RFC 1055 and R568: END and ESC inside a message are escaped, and a message with its CRC comes back. -/
theorem test_slip : Eth.slipSend [1, 0xC0, 0xDB] = [0xC0, 1, 0xDB, 0xDC, 0xDB, 0xDD, 0xC0] ∧
    Eth.slipMessage (Eth.slipSend ([0xC0, 7] ++ toBytes 4 (crc32c [0xC0, 7]))) = some [0xC0, 7] := by decide +kernel

/-- R568: a broadcast UDP datagram to port 23377 from 10.0.0.2 with both checksums, by hand; a wrong checksum is discarded. -/
theorem test_udp_datagram :
    let f := fun c => List.replicate 6 255 ++ [2, 0, 0, 0, 0, 9, 8, 0, 69, 0, 0, 32, 0, 1, 0, 0, 64, 17, 102, 202, 10, 0, 0, 2, 10, 0, 0, 1, 48, 57,
      91, 81, 0, 12, 13, c, 82, 66, 1, 0]
    Eth.udpData 0 23377 (f 7) = some [82, 66, 1, 0] ∧ Eth.udpData 0 23377 (f 8) = none := by decide +kernel

/-- R310: a frame whose check ends in the complement of its CRC is stomped. -/
theorem test_stomped_frame : twCheck (wChars 0x2ECBA477) = .good ∧ twCheck (wChars (0xFFFFFFFF - 0x2ECBA477)) = .stomped ∧
    twCheck (wChars 0) = .bad := by decide +kernel

/-- An empty queue passes 1/16 ns (log entry 1); a command in front is taken. -/
theorem test_step_takes_the_front :
    (match step { State.reset with pending := [.depStart false] } with
      | .next t => (t.pending, t.u.rd (B.TIM.status 0))
      | _ => ([], 0)) = ([], 1) := by decide +kernel

/-- R227, R239: the angle of a = 473,209,348, b = 1, c = -1 is 2.502 places, rounded once. -/
theorem test_angle_rounds_once : angleOf (clarke 473209348 1 (-1)).1 (clarke 473209348 1 (-1)).2 = 3 := by decide +kernel

end Sys2Proof.Tests
end

section
/-! PROOFS. The laws of the arithmetic that every block shares: signed differences (R13, R32), rounding and saturation (R5). -/
namespace Sys2Proof.Machine

/-! ### Signed differences -/

/-- The signed value of a field is the balanced residue of what it holds. -/
theorem sx_eq_bmod {w : Nat} (hw : 0 < w) (n : Nat) : sx w n = (n : Int).bmod (2 ^ w) := by
  obtain ⟨k, rfl⟩ : ∃ k, w = k + 1 := ⟨w - 1, by omega⟩
  have half : (((2 ^ (k + 1) : Nat) : Int) + 1) / 2 = (2 ^ k : Nat) := by rw [Int.natCast_pow, Int.natCast_pow, Int.pow_succ]; omega
  unfold sx Int.bmod
  rw [half, Nat.add_sub_cancel]
  push_cast
  norm_cast

theorem two_pow_pos_int (w : Nat) : (0 : Int) < 2 ^ w := Int.pow_pos (by decide)

theorem natCast_two_pow (w : Nat) : ((2 ^ w : Nat) : Int) = 2 ^ w := Int.natCast_pow 2 w

theorem enc_cast (w : Nat) (x : Int) : (enc w x : Int) = x % 2 ^ w :=
  Int.toNat_of_nonneg (Int.emod_nonneg _ (Int.ne_of_gt (two_pow_pos_int w)))

theorem enc_lt (w : Nat) (x : Int) : enc w x < 2 ^ w := by
  have h := Int.emod_lt_of_pos x (two_pow_pos_int w)
  rw [← enc_cast, ← natCast_two_pow] at h
  exact Int.ofNat_lt.mp h

/-- A value moved by an amount in range differs from the one it came from by that amount (R13, R32). -/
theorem sx_enc_add_sub {w : Nat} (hw : 0 < w) (a : Nat) {d : Int} (h1 : -(2 ^ (w - 1)) ≤ d) (h2 : d < 2 ^ (w - 1)) :
    sx w (enc w ((a : Int) + d) % 2 ^ w + 2 ^ w - a % 2 ^ w) = d := by
  have ha : a % 2 ^ w < 2 ^ w := Nat.mod_lt _ (Nat.two_pow_pos w)
  have hx : ((enc w ((a : Int) + d) % 2 ^ w + 2 ^ w - a % 2 ^ w : Nat) : Int) = ((a : Int) + d) % 2 ^ w + 2 ^ w - (a : Int) % 2 ^ w := by
    rw [Nat.mod_eq_of_lt (enc_lt _ _), Int.ofNat_sub (by omega), Int.natCast_add, enc_cast, Int.natCast_emod, natCast_two_pow]
  have hm : ((enc w ((a : Int) + d) % 2 ^ w + 2 ^ w - a % 2 ^ w : Nat) : Int) % (2 ^ w : Nat) = d % (2 ^ w : Nat) := by
    rw [hx, natCast_two_pow, Int.sub_emod, Int.add_emod_right, Int.emod_emod, Int.emod_emod, ← Int.sub_emod, Int.add_comm,
      Int.add_sub_cancel]
  have hp : ((2 ^ w : Nat) : Int) = 2 * 2 ^ (w - 1) := by
    rw [natCast_two_pow, Int.mul_comm, ← Int.pow_succ, Nat.succ_eq_add_one, Nat.sub_add_cancel hw]
  rw [sx_eq_bmod hw, ← Int.emod_bmod, hm, Int.emod_bmod]
  exact Int.bmod_eq_of_le (by omega) (by omega)

/-- Faults of different stamps stand in the order of the signed difference (R450). -/
theorem tripBefore_of_stamps_ne {ts ts' : Nat} (c src bit c' src' bit' : Nat) (h : ts % 2 ^ 64 ≠ ts' % 2 ^ 64) :
    tripBefore ts c src bit ts' c' src' bit' = decide (tsDiff ts ts' < 0) := if_pos h

/-- Settles O49: a signed difference is a balanced residue, which an amount in range is its own. -/
theorem orderIsBySignedDifference : Obligations.OrderIsBySignedDifference := by
  unfold Obligations.OrderIsBySignedDifference
  refine ⟨fun a d h1 h2 => ?_, fun a d h1 h2 => ?_, fun ts ts' c src bit c' src' bit' h => ?_⟩
  · exact sx_enc_add_sub (w := 32) (by decide) a h1 h2
  · exact sx_enc_add_sub (w := 64) (by decide) a h1 h2
  · exact tripBefore_of_stamps_ne c src bit c' src' bit' h

/-! ### Rounding and saturation -/

/-- The distance to a rounded quotient is at most half the divisor, and half of it only at an even quotient (R5). -/
theorem rdiv_nearest_even (n : Int) {d : Nat} (hd : 0 < d) :
    2 * (n - rdiv n d * d).natAbs ≤ d ∧ (2 * (n - rdiv n d * d).natAbs = d → rdiv n d % 2 = 0) := by
  have hr0 : 0 ≤ n % (d : Int) := Int.emod_nonneg _ (by omega)
  have down : n - n / (d : Int) * d = n % d := by rw [Int.emod_def, Int.mul_comm]
  have up : n - (n / (d : Int) + 1) * d = n % d - d := by rw [Int.add_mul, Int.one_mul, ← Int.sub_sub, down]
  unfold rdiv
  simp only
  split
  · rw [down]; omega
  · split
    · rw [up]; have := Int.emod_lt_of_pos n (show (0 : Int) < d by omega); omega
    · split
      · rw [down]; omega
      · rw [up]; omega

theorem clamp_mem {lo hi : Int} (h : lo ≤ hi) (x : Int) : lo ≤ clamp lo hi x ∧ clamp lo hi x ≤ hi := by
  unfold clamp
  split
  · omega
  · split <;> omega

theorem clamp_of_mem {lo hi x : Int} (h1 : lo ≤ x) (h2 : x ≤ hi) : clamp lo hi x = x := by
  rw [clamp, if_neg (by omega), if_neg (by omega)]

theorem clamp_of_lt {lo hi x : Int} (h : x < lo) : clamp lo hi x = lo := if_pos h

theorem clamp_of_gt {lo hi x : Int} (h : lo ≤ hi) (hx : hi < x) : clamp lo hi x = hi := by
  rw [clamp, if_neg (by omega), if_pos hx]

/-- Saturation to a signed format gives a value of the format, a value that it holds as it is, and its bound beyond it (R5). -/
theorem satS_spec (w : Nat) (x : Int) :
    -(2 ^ (w - 1)) ≤ satS w x ∧ satS w x < 2 ^ (w - 1) ∧ (-(2 ^ (w - 1)) ≤ x → x < 2 ^ (w - 1) → satS w x = x) ∧
      (2 ^ (w - 1) ≤ x → satS w x = 2 ^ (w - 1) - 1) ∧ (x < -(2 ^ (w - 1)) → satS w x = -(2 ^ (w - 1))) := by
  have hp := two_pow_pos_int (w - 1)
  have hb : -(2 ^ (w - 1)) ≤ (2 ^ (w - 1) - 1 : Int) := by omega
  obtain ⟨hlo, hhi⟩ := clamp_mem hb x
  exact ⟨hlo, Int.lt_of_le_sub_one hhi, fun h1 h2 => clamp_of_mem h1 (Int.le_sub_one_of_lt h2),
    fun h => clamp_of_gt hb (by omega), clamp_of_lt⟩

/-- Saturation to an unsigned format, as to a signed one (R5). -/
theorem satU_spec (w : Nat) (x : Int) :
    0 ≤ satU w x ∧ satU w x < 2 ^ w ∧ (0 ≤ x → x < 2 ^ w → satU w x = x) ∧ (2 ^ w ≤ x → satU w x = 2 ^ w - 1) := by
  have hp := two_pow_pos_int w
  have hb : (0 : Int) ≤ 2 ^ w - 1 := by omega
  obtain ⟨hlo, hhi⟩ := clamp_mem hb x
  exact ⟨hlo, Int.lt_of_le_sub_one hhi, fun h1 h2 => clamp_of_mem h1 (Int.le_sub_one_of_lt h2), fun h => clamp_of_gt hb (by omega)⟩

/-- Settles O50: `rdiv` is the quotient or the next one by its remainder, saturation the clamp to the format's bounds. -/
theorem roundingIsToNearestEven : Obligations.RoundingIsToNearestEven := by
  unfold Obligations.RoundingIsToNearestEven
  exact ⟨fun n _ hd => rdiv_nearest_even n hd, fun w x _ => satS_spec w x, satU_spec⟩

end Sys2Proof.Machine
end

section
/-! PROOFS. What a store and a read that clears do to each field of a register (R10). -/
namespace Sys2Proof.Machine

/-- A pass over the fields of a register, each step of which writes its own field alone, leaves every other field. -/
theorem Regs.get_foldl_notMem {α : Type} {g : Regs → α → Regs} {key : α → Nat}
    (hg : ∀ (r : Regs) e (f : Fld), f.key ≠ key e → (g r e).get f = r.get f) (r : Regs) {l : List α} {f : Fld} (h : f.key ∉ l.map key) :
    (l.foldl g r).get f = r.get f := by
  induction l generalizing r with
  | nil => rfl
  | cons e l ih =>
    rw [List.map_cons, List.mem_cons, not_or] at h
    rw [List.foldl_cons, ih _ h.2, hg _ _ _ h.1]

/-- Such a pass leaves in a field what the field's own step leaves, taken where the field still stands as before the pass. -/
theorem Regs.get_foldl_mem {α : Type} {g : Regs → α → Regs} {key : α → Nat}
    (hg : ∀ (r : Regs) e (f : Fld), f.key ≠ key e → (g r e).get f = r.get f) (r : Regs) {l : List α} {e : α} {f : Fld}
    (hd : (l.map key).Nodup) (he : e ∈ l) (hk : f.key = key e) :
    ∃ r' : Regs, r'.get f = r.get f ∧ (l.foldl g r).get f = (g r' e).get f := by
  induction l generalizing r with
  | nil => cases he
  | cons d l ih =>
    rw [List.map_cons, List.nodup_cons] at hd
    rw [List.foldl_cons]
    rcases List.mem_cons.mp he with rfl | he
    · exact ⟨r, rfl, Regs.get_foldl_notMem hg _ (hk ▸ hd.1)⟩
    · obtain ⟨r', h1, h2⟩ := ih (g r d) hd.2 he
      have hne : f.key ≠ key d := fun h => hd.1 (h ▸ hk ▸ List.mem_map_of_mem he)
      exact ⟨r', h1.trans (hg _ _ _ hne), h2⟩

/-! ### One field stored to -/

theorem bits_lt (v lo w : Nat) : bits v lo w < 2 ^ w := Nat.mod_lt _ (Nat.two_pow_pos w)

/-- A field of one bit reads 0 or 1. -/
theorem Regs.get_eq_zero_or_one (r : Regs) {f : Fld} (hw : f.width = 1) : r.get f = 0 ∨ r.get f = 1 := by
  have hg := Regs.get_lt r f
  rw [hw] at hg
  omega

section StoreField
variable (r : Regs) (data : Nat) {f : Fld} {rng : List (Nat × Nat)}

theorem Regs.get_storeField_ne (e : Fld × List (Nat × Nat)) {g : Fld} (h : g.key ≠ e.1.key) : (r.storeField e data).get g = r.get g := by
  unfold Regs.storeField
  simp only
  split
  · split
    · exact Regs.get_set_ne _ _ h
    · rfl
  · exact Regs.get_set_ne _ _ h
  · exact Regs.get_set_ne _ _ h
  · rfl

theorem Regs.get_storeField_rw (ha : f.acc = .rw) (hr : inRange rng (bits data f.lo f.width) = true) :
    (r.storeField (f, rng) data).get f = bits data f.lo f.width := by
  simp [Regs.storeField, ha, hr, Nat.mod_eq_of_lt (bits_lt data f.lo f.width)]

theorem Regs.get_storeField_rw_out (ha : f.acc = .rw) (hr : inRange rng (bits data f.lo f.width) = false) :
    (r.storeField (f, rng) data).get f = r.get f := by
  simp [Regs.storeField, ha, hr]

theorem Regs.get_storeField_w1c (ha : f.acc = .w1c) (hw : f.width = 1) :
    (r.storeField (f, rng) data).get f = if bitAt data f.lo then 0 else r.get f := by
  have hg := Regs.get_eq_zero_or_one r hw
  rcases Nat.mod_two_eq_zero_or_one (data / 2 ^ f.lo) with hb | hb <;> rcases hg with h | h <;>
    simp [Regs.storeField, ha, hw, bits, bitAt, hb, h]

theorem Regs.get_storeField_w1s (ha : f.acc = .w1s) (hw : f.width = 1) :
    (r.storeField (f, rng) data).get f = if bitAt data f.lo then 1 else r.get f := by
  have hg := Regs.get_eq_zero_or_one r hw
  rcases Nat.mod_two_eq_zero_or_one (data / 2 ^ f.lo) with hb | hb <;> rcases hg with h | h <;>
    simp [Regs.storeField, ha, hw, bits, bitAt, hb, h]

theorem Regs.get_storeField_ignored (ha : f.acc = .ro ∨ f.acc = .wo ∨ f.acc = .rc ∨ f.acc = .rb) :
    (r.storeField (f, rng) data).get f = r.get f := by
  rcases ha with ha | ha | ha | ha <;> simp [Regs.storeField, ha]

end StoreField

/-! ### A whole register -/

section Register
variable (r : Regs) {fs : List (Fld × List (Nat × Nat))} (data : Nat) {f : Fld}

theorem Regs.get_store_notMem (h : f.key ∉ fs.map (fun e => e.1.key)) : (r.store fs data).get f = r.get f :=
  Regs.get_foldl_notMem (fun r e _ => Regs.get_storeField_ne r data e) r h

/-- A store leaves in a field what the field's access code gives, from the value that the field had. -/
theorem Regs.get_store_mem {rng : List (Nat × Nat)} (hd : (fs.map (fun e => e.1.key)).Nodup) (hm : (f, rng) ∈ fs) :
    ∃ r' : Regs, r'.get f = r.get f ∧ (r.store fs data).get f = (r'.storeField (f, rng) data).get f :=
  Regs.get_foldl_mem (fun r e _ => Regs.get_storeField_ne r data e) r hd hm rfl

/-- The read of one RC field clears no other field. -/
theorem Regs.get_clearField_ne (e : Fld × List (Nat × Nat)) {g : Fld} (h : g.key ≠ e.1.key) :
    (if e.1.acc = .rc then r.set e.1 e.1.reset else r).get g = r.get g := by
  split
  · exact Regs.get_set_ne _ _ h
  · rfl

theorem Regs.get_readClear_notMem (h : f.key ∉ fs.map (fun e => e.1.key)) : (r.readClear fs).get f = r.get f :=
  Regs.get_foldl_notMem (fun r e _ => Regs.get_clearField_ne r e) r h

/-- A read that clears returns an RC field to its reset value and leaves a field of any other code. -/
theorem Regs.get_readClear_mem {rng : List (Nat × Nat)} (hd : (fs.map (fun e => e.1.key)).Nodup) (hm : (f, rng) ∈ fs) :
    (r.readClear fs).get f = if f.acc = .rc then f.reset % 2 ^ f.width else r.get f := by
  obtain ⟨r', h1, h2⟩ := Regs.get_foldl_mem (fun r e _ => Regs.get_clearField_ne r e) r hd hm rfl
  rw [Regs.readClear, h2]
  split
  · exact Regs.get_set_same _ _ _
  · exact h1

end Register

/-- Settles O51: each field of the register is one step of a pass over them, which its access code decides. -/
theorem accessCodes : Obligations.AccessCodes := by
  unfold Obligations.AccessCodes
  refine ⟨fun r fs data f rng hd hm => ?_, fun r fs data f h => ⟨Regs.get_store_notMem r data h, Regs.get_readClear_notMem r h⟩⟩
  obtain ⟨r', hr, hs⟩ := Regs.get_store_mem r data hd hm
  rw [hs, Regs.get_readClear_mem r hd hm, ← hr]
  exact ⟨Regs.get_storeField_rw r' data, Regs.get_storeField_rw_out r' data, Regs.get_storeField_w1c r' data,
    Regs.get_storeField_w1s r' data, Regs.get_storeField_ignored r' data, fun h => if_pos h, fun h => if_neg h⟩

end Sys2Proof.Machine
end

section
/-! PROOFS. Core stores to SRAM: what they write, what they leave, and what a refused one does (R7, R75, R386, R601). -/
namespace Sys2Proof.Machine

/-- A number written reads back, little-endian, up to its width (R7). -/
theorem Mem.read_write (m : Mem) (a n v : Nat) : (m.write a n v).read a n = v % 2 ^ (8 * n) := by
  induction n generalizing m a v with
  | zero => simp [Mem.read, Nat.mod_one]
  | succ n ih =>
    simp only [Mem.read, Mem.write]
    rw [Mem.byte_write_outside _ _ _ _ _ (Or.inl a.lt_succ_self), Mem.byte_setByte_same, ih, BitVec.toNat_ofNat, Nat.mul_succ,
      Nat.add_comm (8 * n) 8, Nat.pow_add, Nat.mod_mul]

theorem U.withLpe_flash_any (u : U) (f : Lpe → Lpe) : (u.withLpe f).flash = u.flash ∧ True := ⟨rfl, trivial⟩
@[simp] theorem U.markEdge_flash (u : U) (t : TimeBase) : (u.markEdge t).flash = u.flash := (U.withLpe_flash_any u _).1
@[simp] theorem U.putLines_flash (u : U) : u.putLines.flash = u.flash := by obtain ⟨l, n, h⟩ := u.putLines_keeps; rw [h]
@[simp] theorem U.syncBak_flash (u : U) : u.syncBak.flash = u.flash := rfl
@[simp] theorem U.syncSending_flash (u : U) : u.syncSending.flash = u.flash := rfl

/-- A calm handshake's end leaves flash. -/
theorem U.finish_flash {u : U} (t : TimeBase) (l : U) (h : u.Calm) : (u.finish t l).flash = u.flash := by
  rw [U.finish_calm t l h]; simp

theorem U.Calm.memWrite {u : U} (h : u.Calm) (a n v : Nat) : (u.memWrite a n v).Calm := ⟨h.evq, h.shot, h.cur, h.tx⟩
theorem U.Calm.emit {u : U} (h : u.Calm) (o : Output) : (u.emit o).Calm := ⟨h.evq, h.shot, h.cur, h.tx⟩

/-- A store whose bytes SRAM holds goes to SRAM. -/
theorem store_sram {t : TimeBase} {u : U} {addr size : Nat} (core v : Nat) (h : u.sramAt addr size = true) :
    store t u core addr size v = (t, u.sramStore addr size v) := if_pos h

theorem U.sramStore_taken {u : U} {addr size : Nat} (v : Nat) (hc : u.capHolds addr size = false) (hl : u.ledgerHolds addr size = false) :
    u.sramStore addr size v = u.memWrite addr size v := by simp [U.sramStore, hc, hl]

theorem U.sramStore_refused {u : U} {addr size : Nat} (v : Nat) (h : u.capHolds addr size = true ∨ u.ledgerHolds addr size = true) :
    u.sramStore addr size v = u.emit (.storeFault addr) := by
  rcases h with h | h <;> simp [U.sramStore, h]

/-! ### A command of the chip that it names -/

section OnChip
variable (s : State) (c : Instr) (fu : TimeBase → U → TimeBase × U) (fh : HubAt → H → H) (fc : Nat → C → Nat → C)

theorem State.onChip_unit : s.onChip c .unit fu fh fc = s.onTime c fu := rfl
theorem State.onChip_hub (h : Nat) : s.onChip c (.hub h) fu fh fc = s.onHub c h fh := rfl
theorem State.onChip_cell (cid : Nat) : s.onChip c (.cell cid) fu fh fc = s.onCellNow c cid (fc cid) := rfl

end OnChip

/-- A core's store to the unit leaves what `store` gives. -/
theorem exec_registerWrite_unit {s : State} {core addr size v : Nat} (hw : (Instr.registerWrite .unit core addr size v).wf = true)
    (hh : s.u.held = false) :
    exec (.registerWrite .unit core addr size v) s =
      .next (s.afterAt (store s.time s.u core addr size v).1 (store s.time s.u core addr size v).2) := by
  rw [exec_registerWrite, execRegisterWrite, State.onChip_unit, State.onTime_next _ hw (by rw [U.deaf_whole rfl, hh])]
  rfl

/-- A core's store to SRAM leaves what `sramStore` gives. -/
theorem exec_registerWrite_sram {s : State} {core addr size v : Nat} (hw : (Instr.registerWrite .unit core addr size v).wf = true)
    (hh : s.u.held = false) (hs : s.u.sramAt addr size = true) :
    exec (.registerWrite .unit core addr size v) s = .next (s.after (s.u.sramStore addr size v)) := by
  rw [exec_registerWrite_unit hw hh, store_sram core v hs]
  rfl

/-- Settles O55: a store that SRAM takes is one write of bytes, a refused one an output; a calm handshake's end touches neither memory. -/
theorem sramStores : Obligations.SramStores := by
  unfold Obligations.SramStores
  intro s core addr size v hw hh hcalm hs
  rw [exec_registerWrite_sram hw hh hs]
  constructor
  · intro hc hl
    rw [U.sramStore_taken v hc hl]
    have hmem : (s.after (s.u.memWrite addr size v)).u.mem = s.u.mem.write addr size v := U.finish_mem _ _ (hcalm.memWrite addr size v)
    refine ⟨_, rfl, ?_, fun a ha => ?_, rfl, U.finish_flash _ _ (hcalm.memWrite addr size v)⟩
    · rw [hmem, Mem.read_write]
    · rw [hmem, Mem.byte_write_outside _ _ _ _ _ ha]
  · intro h
    rw [U.sramStore_refused v h]
    exact ⟨_, rfl, U.finish_mem _ _ (hcalm.emit _), U.finish_out _ _ (hcalm.emit _)⟩

end Sys2Proof.Machine
end

section
/-! PROOFS. Core accesses to registers: which address a store or a load answers, and what it leaves (R8, R10, R12, R444, R574). -/
namespace Sys2Proof.Machine

/-! ### Addresses -/

/-- SRAM ends below the registers. -/
theorem U.sramAt_register (u : U) {addr : Nat} (size : Nat) (h : 0x400000000 ≤ addr) : u.sramAt addr size = false := by
  have : ¬ addr + size ≤ 0x3000000 := by omega
  simp [U.sramAt, this]

/-- A store to a register that is present. -/
theorem store_register {u : U} {addr : Nat} (t : TimeBase) (core v : Nat) (h1 : 0x400000000 ≤ addr) (h2 : addr < 0x401000000)
    (h4 : addr % 4 = 0) (hb : u.blockOn addr = true) : store t u core addr 4 v = storeReg t u core addr v := by
  have e1 : ¬ addr + 4 ≤ 0x210000000 := by omega
  have e2 : ¬ addr + 4 ≤ 0x220000000 := by omega
  simp [store, U.sramAt_register u 4 h1, e1, e2, h1, h2, h4, hb]

/-- A store beyond the registers meets nothing (R574). -/
theorem store_absent (t : TimeBase) (u : U) (core size v : Nat) {addr : Nat} (h : 0x401000000 ≤ addr) :
    store t u core addr size v = (t, u.emit (.busError core addr)) := by
  have e1 : ¬ addr + size ≤ 0x210000000 := by omega
  have e2 : ¬ addr + size ≤ 0x220000000 := by omega
  have e3 : ¬ addr < 0x401000000 := by omega
  simp [store, U.sramAt_register u size (show 0x400000000 ≤ addr by omega), e1, e2, e3]

/-- A register's address whose store leaves the time base: an aligned one that is none of TIM_INC_INT, TIM_SET_NS and SYS_RST_SW. -/
def timelessRegister (addr : Nat) : Bool :=
  decide (0x400000000 ≤ addr) && decide (addr < 0x401000000) && decide (addr % 4 = 0) &&
    decide (addr ≠ 0x400010008) && decide (addr ≠ 0x40001001C) && decide (addr ≠ 0x400000014)

/-- STATUS and ACK of every block are such registers. -/
theorem unitBlks_timeless : ∀ b ∈ unitBlks, timelessRegister b.st = true ∧ timelessRegister b.ackAddr = true := by decide +kernel

/-- A store to such a register leaves what its block's rule gives, and station time. -/
theorem store_timeless {u : U} {addr : Nat} (t : TimeBase) (core v : Nat) (h : timelessRegister addr = true) (hb : u.blockOn addr = true) :
    store t u core addr 4 v = (t, u.storeReg t core addr v) := by
  simp only [timelessRegister, Bool.and_eq_true, decide_eq_true_eq] at h
  obtain ⟨⟨⟨⟨⟨h1, h2⟩, h4⟩, n1⟩, n2⟩, n3⟩ := h
  rw [store_register t core v h1 h2 h4 hb]
  simp [storeReg, n1, n2, n3]

/-- The command of such a store. -/
theorem exec_registerWrite_timeless {s : State} {core addr v : Nat} (hw : (Instr.registerWrite .unit core addr 4 v).wf = true)
    (hh : s.u.held = false) (h : timelessRegister addr = true) (hb : s.u.blockOn addr = true) :
    exec (.registerWrite .unit core addr 4 v) s = .next (s.after (s.u.storeReg s.time core addr v)) := by
  rw [exec_registerWrite_unit hw hh, store_timeless _ _ _ h hb]
  rfl

/-! ### Loads -/

/-- A load that no register answers: misaligned, or not of 32 bits. -/
theorem U.loadReg_misaligned (u : U) (t : TimeBase) (core : Nat) {addr size : Nat} (h1 : 0x400000000 ≤ addr)
    (h : addr % 4 ≠ 0 ∨ size ≠ 4) : u.loadReg t core addr size = u.emit (.busError core addr) := by
  have e1 : ¬ addr + size ≤ 0x100040000 := by omega
  have e2 : ¬ addr + size ≤ 0x210000000 := by omega
  have e3 : (decide (addr % 4 ≠ 0) || decide (size ≠ 4)) = true := by simpa using h
  simp only [U.loadReg, U.sramAt_register u size h1, e1, e2, e3, Bool.and_false, Bool.true_or, decide_false, if_false, if_true,
    Bool.false_eq_true]

/-- A load of a register without a rule of its own reads its word and clears its RC fields. -/
theorem U.loadReg_plain {u : U} (t : TimeBase) (core : Nat) {addr : Nat} (h1 : 0x400000000 ≤ addr) (h2 : addr < 0x401000000)
    (h4 : addr % 4 = 0) (hb : u.blockOn addr = true) (n1 : addr ≠ 0x400010020) (n2 : addr ≠ 0x400530000) (n3 : addr ≠ 0x400530028) :
    u.loadReg t core addr 4 =
      ({ u with regs := u.regs.readClear (unitFields core addr) } : U).emit (.readData core addr (u.readWord core addr)) := by
  have e1 : ¬ addr + 4 ≤ 0x100040000 := by omega
  have e2 : ¬ addr + 4 ≤ 0x210000000 := by omega
  have e3 : ¬ addr < 0x400000000 := by omega
  have e4 : ¬ 0x401000000 ≤ addr := by omega
  simp [U.loadReg, U.sramAt_register u 4 h1, e1, e2, e3, e4, h4, hb, n1, n2, n3]

theorem exec_rcFieldRead_unit {s : State} {core addr size : Nat} {y : Tie} (hw : (Instr.rcFieldRead .unit core addr size y).wf = true)
    (hh : s.u.held = false) :
    exec (.rcFieldRead .unit core addr size y) s = .next (s.after (s.u.loadTie s.time core addr size y)) := by
  rw [exec_rcFieldRead, execRcFieldRead, State.onChip_unit, State.onTime_next _ hw (by rw [U.deaf_whole rfl, hh])]
  rfl

/-! ### STATUS and ACK -/

/-- Taking the bits that two numbers share from one of them borrows nothing. -/
theorem sub_and_div_two_pow (v k n : Nat) : (v - (v &&& k)) / 2 ^ n = v / 2 ^ n - (v / 2 ^ n &&& k / 2 ^ n) := by
  have hlow : (v &&& k) % 2 ^ n ≤ v % 2 ^ n := by rw [Nat.and_mod_two_pow]; exact Nat.and_le_left
  have hhigh : (v &&& k) / 2 ^ n ≤ v / 2 ^ n := Nat.div_le_div_right Nat.and_le_left
  have hsplit : v - (v &&& k) = 2 ^ n * (v / 2 ^ n - (v &&& k) / 2 ^ n) + (v % 2 ^ n - (v &&& k) % 2 ^ n) := by
    have hv := Nat.div_add_mod v (2 ^ n)
    have hw := Nat.div_add_mod (v &&& k) (2 ^ n)
    have hm : 2 ^ n * ((v &&& k) / 2 ^ n) ≤ 2 ^ n * (v / 2 ^ n) := Nat.mul_le_mul_left _ hhigh
    rw [Nat.mul_sub]
    omega
  have hrest : v % 2 ^ n - (v &&& k) % 2 ^ n < 2 ^ n := Nat.lt_of_le_of_lt (Nat.sub_le _ _) (Nat.mod_lt _ (Nat.two_pow_pos n))
  rw [← Nat.and_div_two_pow, hsplit, Nat.mul_add_div (Nat.two_pow_pos n), Nat.div_eq_of_lt hrest, Nat.add_zero]

/-- The ones of a STATUS store that no cause of the same handshake takes away (R11). -/
theorem bitAt_sub_and (v k n : Nat) : bitAt (v - (v &&& k)) n = (bitAt v n && !bitAt k n) := by
  have hle : v / 2 ^ n &&& k / 2 ^ n ≤ v / 2 ^ n := Nat.and_le_left
  have hbit : (v / 2 ^ n &&& k / 2 ^ n) % 2 = v / 2 ^ n % 2 &&& k / 2 ^ n % 2 := Nat.and_mod_two_pow (n := 1)
  have hbit_le : v / 2 ^ n % 2 &&& k / 2 ^ n % 2 ≤ v / 2 ^ n % 2 := Nat.and_le_left
  have hodd : (v / 2 ^ n - (v / 2 ^ n &&& k / 2 ^ n)) % 2 = v / 2 ^ n % 2 - (v / 2 ^ n % 2 &&& k / 2 ^ n % 2) := by omega
  rw [bitAt, sub_and_div_two_pow, hodd]
  rcases Nat.mod_two_eq_zero_or_one (v / 2 ^ n) with hv | hv <;> rcases Nat.mod_two_eq_zero_or_one (k / 2 ^ n) with hk | hk <;>
    simp [bitAt, hv, hk]

/-- A store to STATUS is a store of the ones that stay (R11, R444). -/
theorem exec_statusW1cWrite_unit {s : State} {addr v k : Nat} (hw : (Instr.statusW1cWrite .unit addr v k).wf = true)
    (hh : s.u.held = false) (h : timelessRegister addr = true) (hb : s.u.blockOn addr = true) :
    exec (.statusW1cWrite .unit addr v k) s = .next (s.after (s.u.storeReg s.time 0 addr (v - (v &&& k)))) := by
  rw [exec_statusW1cWrite, execStatusW1cWrite, State.onChip_unit, State.onTime_next _ hw (by rw [U.deaf_whole rfl, hh]), store_timeless _ _ _ h hb]
  rfl

theorem exec_blockAck_unit {s : State} {addr v : Nat} (hw : (Instr.blockAck .unit addr v).wf = true)
    (hh : s.u.held = false) (h : timelessRegister addr = true) (hb : s.u.blockOn addr = true) :
    exec (.blockAck .unit addr v) s = .next (s.after (s.u.storeReg s.time 0 addr v)) := by
  rw [exec_blockAck, execBlockAck, State.onChip_unit, State.onTime_next _ hw (by rw [U.deaf_whole rfl, hh]), store_timeless _ _ _ h hb]
  rfl

/-- A 1 written to ACK acknowledges the block (R444). -/
theorem U.storeReg_ack {u : U} {t : TimeBase} {core addr v : Nat} {b : Blk} (hf : unitBlks.find? (fun x => x.ackAddr == addr) = some b)
    (hv : bitAt v 0 = true) : u.storeReg t core addr v = u.ack t b := by
  simp [U.storeReg, hf, hv]

/-- The fields of DEP_STATUS. -/
def depStatusFields : List (Fld × List (Nat × Nat)) := (unitFields 0 B.DEP.st).filter (fun e => e.1.acc != .w1s)

theorem depStatusFields_nodup : (depStatusFields.map (fun e => e.1.key)).Nodup := by decide +kernel

theorem depStatus_mem : ∀ n < 6, (B.DEP.status n, []) ∈ depStatusFields := by decide +kernel

theorem depStatus_notShown : ∀ n < 6, (B.DEP.status n).key ∉ shownKeys := by decide +kernel

/-- A store to DEP_STATUS acts on its fields by their access codes. -/
theorem U.storeReg_depStatus (u : U) (t : TimeBase) (v : Nat) :
    u.storeReg t 0 B.DEP.st v = { u with regs := u.regs.store depStatusFields v } := by
  have hf : unitBlks.find? (fun b => b.ackAddr == B.DEP.st) = none := by decide +kernel
  have hi : (B.DEP.st - 0x400000000) / 0x10000 = 48 := by decide
  have ho : B.DEP.st % 0x10000 = 4 := by decide
  simp [U.storeReg, hf, hi, U.storeDep, ho, U.plain, depStatusFields]

/-- A store to DEP_STATUS clears the cause bits written 1 and no other. -/
theorem U.storeReg_depStatus_rd (u : U) (t : TimeBase) (v : Nat) {n : Nat} (hn : n < 6) :
    (u.storeReg t 0 B.DEP.st v).rd (B.DEP.status n) = if bitAt v n then 0 else u.rd (B.DEP.status n) := by
  obtain ⟨r', hr, hs⟩ := Regs.get_store_mem u.regs v depStatusFields_nodup (depStatus_mem n hn)
  rw [U.storeReg_depStatus]
  rw [U.rd, hs, Regs.get_storeField_w1c _ _ rfl rfl, hr, U.rd]
  rfl

/-- Settles O5: each access is led to the one branch of `store` or `loadReg` that its address selects; a hub's and a cell's store is their
own chip's. -/
theorem registerAccessesComplete : Obligations.RegisterAccessesComplete := by
  unfold Obligations.RegisterAccessesComplete
  refine ⟨?sram, ?register, ?absent, ?read, ?misaligned, ?status, ?depStatus, ?ack, ?hub, ?cell⟩
  case sram =>
    intro s core addr size v hw hh hs hc hl
    rw [exec_registerWrite_sram hw hh hs, U.sramStore_taken v hc hl]
    rfl
  case register =>
    intro s core addr v hw hh h1 h2 h4 hb n1 n2 n3
    exact exec_registerWrite_timeless hw hh (by simp [timelessRegister, h1, h2, h4, n1, n2, n3]) hb
  case absent =>
    intro s core addr size v hw hh h
    rw [exec_registerWrite_unit hw hh, store_absent _ _ _ _ _ h]
    rfl
  case read =>
    intro s core addr y hw hh h1 h2 h4 hb n1 n2 n3
    rw [exec_rcFieldRead_unit hw hh, U.loadTie, U.loadReg_plain _ _ h1 h2 h4 hb n1 n2 n3]
    rfl
  case misaligned =>
    intro s core addr size y hw hh h1 _ h
    refine ⟨_, exec_rcFieldRead_unit hw hh, ?_⟩
    simp only [U.loadTie, U.loadReg_misaligned _ _ _ h1 h, U.emit_out]
  case status =>
    rintro s _ v k hw hh hb b hm rfl
    exact exec_statusW1cWrite_unit hw hh (unitBlks_timeless b hm).1 hb
  case depStatus =>
    intro s v k hw hh hcalm hb
    refine ⟨_, exec_statusW1cWrite_unit hw hh (by decide) hb, fun n hn => ?_⟩
    have hc : (s.u.storeReg s.time 0 B.DEP.st (v - (v &&& k))).Calm := by
      rw [U.storeReg_depStatus]; exact ⟨hcalm.evq, hcalm.shot, hcalm.cur, hcalm.tx⟩
    rw [← bitAt_sub_and, ← U.storeReg_depStatus_rd _ s.time _ hn]
    exact U.finish_rd _ _ hc (depStatus_notShown n hn)
  case ack =>
    rintro s _ v hw hh hb b hm rfl hf hv
    rw [exec_blockAck_unit hw hh (unitBlks_timeless b hm).2 hb, U.storeReg_ack hf hv]
  case hub =>
    intro s h core addr v hw hd
    rw [exec_registerWrite, execRegisterWrite, State.onChip_hub, State.onHub_next _ _ hw hd]
    rfl
  case cell =>
    rintro s cid core addr v hw d rfl
    rw [exec_registerWrite, execRegisterWrite, State.onChip_cell, State.onCellNow, State.onCell_next _ _ hw]
    rfl

end Sys2Proof.Machine
end

section
/-! PROOFS. What a command can answer, by the place where it acts: the lifts of Machine/Ops.lean and every command over them (log entry 9,
R2). -/
namespace Sys2Proof.Machine

/-- What a command that acts at a place may leave of a state: the state itself, or the chip of that place ended with a handshake. -/
inductive Effect (s : State) : Place → State → Prop
  | still (p : Place) : Effect s p s
  | unit (u latch : U) : Effect s .unit (s.setUnit s.time u latch)
  | timed (t : TimeBase) (u latch : U) : Effect s .timed (s.setUnit t u latch)
  | reset (t : TimeBase) (u latch : U) : Effect s .reset (s.setUnit t u latch)
  | hub (h : Nat) (w : H) : Effect s (.hub h) (s.setHub h w)
  | cell (cid : Nat) (y : C) : Effect s (.cell cid) (s.setCell cid y)

/-- A command's answer is a next state: an effect at its place, and the same state where its operands name something no chip has. -/
def Answered (c : Instr) (s : State) (p : Place) (r : Answer) : Prop :=
  ∃ t, r = .next t ∧ Effect s p t ∧ (c.wf = false → t = s)

theorem Answered.still (c : Instr) (s : State) (p : Place) : Answered c s p (.next s) := ⟨s, rfl, .still p, fun _ => rfl⟩

theorem Answered.of_wf {c : Instr} {s t : State} {p : Place} (hw : c.wf = true) (h : Effect s p t) : Answered c s p (.next t) :=
  ⟨t, rfl, h, fun hb => absurd (hw.symm.trans hb) Bool.true_eq_false.mp⟩

/-! ### Every lift -/

theorem State.onUnit_answered (s : State) (c : Instr) (f : TimeBase → U → U) : Answered c s .unit (s.onUnit c f) := by
  rcases State.onUnit_cases rfl with ⟨_, h⟩ | ⟨_, _, h⟩ | ⟨hw, _, h⟩ <;> rw [h]
  · exact .still ..
  · exact .still ..
  · exact .of_wf hw (.unit ..)

theorem State.onTime_answered (s : State) (c : Instr) (f : TimeBase → U → TimeBase × U) : Answered c s .timed (s.onTime c f) := by
  rcases State.onTime_cases rfl with ⟨_, h⟩ | ⟨_, _, h⟩ | ⟨hw, _, h⟩ <;> rw [h]
  · exact .still ..
  · exact .still ..
  · exact .of_wf hw (.timed ..)

theorem State.onReset_answered (s : State) (c : Instr) (f : TimeBase → U → TimeBase × U) : Answered c s .reset (s.onReset c f) := by
  rcases State.onReset_cases rfl with ⟨_, h⟩ | ⟨hw, h⟩ <;> rw [h]
  · exact .still ..
  · exact .of_wf hw (.reset ..)

theorem State.onHub_answered (s : State) (c : Instr) (h : Nat) (f : HubAt → H → H) : Answered c s (.hub h) (s.onHub c h f) := by
  rcases State.onHub_cases rfl with ⟨_, e⟩ | ⟨_, _, e⟩ | ⟨hw, _, e⟩ <;> rw [e]
  · exact .still ..
  · exact .still ..
  · exact .of_wf hw (.hub ..)

theorem State.onHubReset_answered (s : State) (c : Instr) (h : Nat) (f : HubAt → H → H) :
    Answered c s (.hub h) (s.onHubReset c h f) := by
  rcases State.onHubReset_cases rfl with ⟨_, e⟩ | ⟨hw, e⟩ <;> rw [e]
  · exact .still ..
  · exact .of_wf hw (.hub ..)

theorem State.onCell_answered (s : State) (c : Instr) (cid : Nat) (f : C → C) : Answered c s (.cell cid) (s.onCell c cid f) := by
  rcases State.onCell_cases rfl with ⟨_, e⟩ | ⟨hw, e⟩ <;> rw [e]
  · exact .still ..
  · exact .of_wf hw (.cell ..)

theorem State.onCellNow_answered (s : State) (c : Instr) (cid : Nat) (f : C → Nat → C) :
    Answered c s (.cell cid) (s.onCellNow c cid f) := State.onCell_answered ..

theorem State.onChip_answered (s : State) (c : Instr) (chip : Chip) (fu : TimeBase → U → TimeBase × U) (fh : HubAt → H → H)
    (fc : Nat → C → Nat → C) : Answered c s (placeOf .timed chip) (s.onChip c chip fu fh fc) := by
  unfold State.onChip
  cases chip with
  | unit => exact State.onTime_answered ..
  | hub h => exact State.onHub_answered ..
  | cell cid => exact State.onCellNow_answered ..

/-- A cell has no reset controller (R515): a command that names one there is not admitted. -/
theorem State.onController_answered (s : State) (c : Instr) (chip : Chip) (fu : TimeBase → U → TimeBase × U) (fh : H → H)
    (hw : chip.resets = false → c.wf = false) : Answered c s (placeOf .reset chip) (s.onController c chip fu fh) := by
  unfold State.onController
  cases chip with
  | unit => exact State.onReset_answered ..
  | hub h => exact State.onHubReset_answered ..
  | cell cid =>
    have e : s.onReset c fu = .next s := by simp [State.onReset, hw rfl]
    exact e ▸ .still ..

theorem State.onLane_answered (s : State) (c : Instr) (l : LaneAt) (f : LaneKind → Nat × Nat → Nat → LaneIO → LaneIO) :
    Answered c s (lanePlace l) (s.onLane c l f) := by
  unfold State.onLane
  cases l with
  | unit n => exact State.onUnit_answered ..
  | hub h n => exact State.onHub_answered ..
  | cell cid p => exact State.onCellNow_answered ..

/-! ### The commands that are no lift -/

theorem execReferenceTick_answered (s : State) : Answered .referenceTick s .timed (execReferenceTick s) := by
  unfold execReferenceTick
  split
  · exact .still ..
  · exact .of_wf rfl (.timed ..)

theorem execBoundary_answered (s : State) : Answered .boundary s .timed (execBoundary s) := by
  unfold execBoundary
  split
  · exact .still ..
  · exact .of_wf rfl (.timed ..)

theorem execTrainingRx_answered (l : LaneAt) (tr : Training) (s : State) :
    Answered (.trainingRx l tr) s (lanePlace l) (execTrainingRx l tr s) := by
  unfold execTrainingRx
  cases l with
  | unit n => exact State.onLane_answered s _ (.unit n) _
  | hub h n => exact State.onHub_answered ..
  | cell cid p => exact State.onLane_answered s _ (.cell cid p) _

theorem execDieTempChange_answered (chip : Chip) (temp : Int) (s : State) :
    Answered (.dieTempChange chip temp) s (placeOf .reset chip) (execDieTempChange chip temp s) := by
  unfold execDieTempChange
  cases chip with
  | unit => exact State.onReset_answered ..
  | hub h => exact State.onHub_answered ..
  | cell cid => exact State.onCell_answered ..

/-- Every command answers a next state, by an effect at its own place: the one proof that goes through the dispatch and the places, a group
of commands for each lift; the commands not named are those of the unit that leave station time. -/
theorem exec_answered (c : Instr) (s : State) : Answered c s (placeAt c) (exec c s) := by
  unfold exec placeAt
  cases c with
  | registerWrite | rcFieldRead | statusW1cWrite | blockAck | scrubRead | memoryUncorrRead | sysInjWrite | attChallengeRx
  | attStatementDone | secCommandDone => exact State.onChip_answered ..
  | resetAssert | resetStageComplete | fuseLoadDone | resetSourceRelease =>
    exact State.onController_answered _ _ _ _ _ (fun h => by simp [Instr.wf, h])
  | referenceTick => exact execReferenceTick_answered s
  | boundary => exact execBoundary_answered s
  | trainingRx l tr => exact execTrainingRx_answered l tr s
  | dieTempChange chip temp => exact execDieTempChange_answered chip temp s
  | timIncIntWrite | stepApply | timSetLoad | rlqReset | sysRstSystem | sysRstEngine | sysRstBlock | peerResetRx | wdogPeriodEnd
  | keyStoreViolation | recBoot => exact State.onTime_answered ..
  | oscStopDetect | stretchRelease | vbakRise => exact State.onReset_answered ..
  | laneEnWrite | laneSignalDetect | laneCdrLock | equalisationSettled | laneLinkLoss | laneCodeErrors | laneCheckError
  | crcWindowClose | laneRetrainTimeout | deskewTimeout | laneRestore | laneRetrainCmd | laneTestWrite | laneTxeqWrite
  | prbsLockChange => exact State.onLane_answered ..
  | hubOrderLoss | hubAvalancheRx | hubBoundary | hubTrackwayRx | hubFrameDrop | hubUnreach | hubOrderRx | loopMeasurement
  | measurementComplete | hubHeartbeatWrite | hubHbLost | hubMemUnc | hubAliveToggle | regReq => exact State.onHub_answered ..
  | cellFrameRx | cellBoundary | pwmRunWrite | pwmLoad | refreshRequest | autoRefresh | prtOvaWrite | clrHold | selftest
  | clrJournal | cellPor | retirementRecordDone | bycPulseStart | bycPulseEnd | bycConfirm | byfRelease | byfPulse
  | adcConversion | adcResRead | ccpSwtrig | configBlockRx | cellSelfReset | cellUpdIdent | cellUpdBegin | cellUpdData
  | cellUpdEnd | cellUpdActivate =>
    exact State.onCell_answered ..
  | cellK287Rx | cellWatchdog | gtePatWrite | gteCtlWrite | testEnWrite | gteTestWrite | pwmPeriodStart | calibrationComplete
  | comparatorTrip | blankWindowClose | softOffEnd | bypWaitExpire | prtThrWrite | selftestTimeout | dmpTmaxExpire | ov2Crossing
  | uvloEntry | uvloRelease | bycTimeout | gateMismatch | rptMiss | pointRequestRx | rspDrop | adcEntryEnable | adcOfsCommit
  | ccpArm | ccpStop =>
    exact State.onCellNow_answered ..
  | _ => exact State.onUnit_answered ..

/-! ### What an effect leaves -/

theorem State.hub_setHub_ne (s : State) {h k : Nat} (w : H) (hk : k ≠ h) : (s.setHub h w).hub k = s.hub k := Tbl.get_set_ne _ _ _ hk

theorem State.cell_setCell_ne (s : State) {cid k : Nat} (y : C) (hk : k ≠ cid) : (s.setCell cid y).cell k = s.cell k :=
  Tbl.get_set_ne _ _ _ hk

/-- An effect stays on its chip: the queue and every other chip stand, and station time unless the place is one that moves it. -/
theorem Effect.keeps {s t : State} {p : Place} (e : Effect s p t) : t.pending = s.pending ∧
    (p = .unit → t.time = s.time ∧ t.hubs = s.hubs ∧ t.cells = s.cells) ∧
    (p = .timed ∨ p = .reset → t.hubs = s.hubs ∧ t.cells = s.cells) ∧
    (∀ h, p = .hub h → t.u = s.u ∧ t.time = s.time ∧ t.cells = s.cells ∧ ∀ k, k ≠ h → t.hub k = s.hub k) ∧
    (∀ cid, p = .cell cid → t.u = s.u ∧ t.time = s.time ∧ t.hubs = s.hubs ∧ ∀ k, k ≠ cid → t.cell k = s.cell k) := by
  cases e with
  | still => simp
  | unit => simp [State.setUnit]
  | timed => simp [State.setUnit]
  | reset => simp [State.setUnit]
  | hub h w =>
    refine ⟨rfl, nofun, nofun, ?_, nofun⟩
    rintro _ ⟨⟩
    exact ⟨rfl, rfl, rfl, fun k hk => State.hub_setHub_ne s w hk⟩
  | cell cid y =>
    refine ⟨rfl, nofun, nofun, nofun, ?_⟩
    rintro _ ⟨⟩
    exact ⟨rfl, rfl, rfl, fun k hk => State.cell_setCell_ne s y hk⟩

/-- Settles O45: every command is answered, with the same state where its operands are not admitted. -/
theorem wellFormedCommandsComplete : Obligations.WellFormedCommandsComplete := by
  unfold Obligations.WellFormedCommandsComplete
  intro c s
  obtain ⟨t, ht, -, hbad⟩ := exec_answered c s
  exact ⟨⟨t, ht⟩, fun hw => by rw [ht, hbad hw]⟩

/-- Settles O47: the effect of a command stands at its place. -/
theorem commandsActOnOneChip : Obligations.CommandsActOnOneChip := by
  unfold Obligations.CommandsActOnOneChip
  intro c s t ht
  obtain ⟨t', ht', he, -⟩ := exec_answered c s
  obtain rfl : t' = t := by rw [ht] at ht'; exact (Host.Outcome.next.inj ht').symm
  exact he.keeps

/-- Settles O39: with a command in front a step is that command on the rest. -/
theorem stepRunsTheFrontCommand : Obligations.StepRunsTheFrontCommand := by
  unfold Obligations.StepRunsTheFrontCommand
  intro s c rest
  rfl

end Sys2Proof.Machine
end

section
/-! PROOFS. The Mainline link engine: frames received from the hubs (R325, R331, R333), the point service (R343 to R345), PATH and the lead
check (R28, R356). -/
namespace Sys2Proof.Machine

/-! ### The link engine's commands: each leaves its function's result, where the unit hears it -/

section Heard
variable {s : State}

/-- A lift to the unit leaves what its function gives, where the unit hears the command. -/
theorem State.onUnit_after {c : Instr} (f : TimeBase → U → U) (hw : c.wf = true) (hd : s.u.deaf c = false) :
    s.onUnit c f = .next (s.after (f s.time s.u)) := State.onUnit_next f hw hd

theorem exec_noticeRx_heard {lane : Nat} {blocks : List Block} (hw : (Instr.noticeRx lane blocks).wf = true)
    (hd : s.u.deaf (.noticeRx lane blocks) = false) :
    exec (.noticeRx lane blocks) s = .next (s.after (s.u.noticeRx s.time lane blocks)) := by
  rw [exec_noticeRx, execNoticeRx, State.onUnit_after _ hw hd]

theorem exec_loopFrameRx_heard {lane : Nat} {blocks : List Block} (hw : (Instr.loopFrameRx lane blocks).wf = true)
    (hd : s.u.deaf (.loopFrameRx lane blocks) = false) :
    exec (.loopFrameRx lane blocks) s = .next (s.after (s.u.loopFrame s.time lane blocks)) := by
  rw [exec_loopFrameRx, execLoopFrameRx, State.onUnit_after _ hw hd]

theorem exec_mailRx_heard {lane arr : Nat} {blocks : List Block} (hw : (Instr.mailRx lane arr blocks).wf = true)
    (hd : s.u.deaf (.mailRx lane arr blocks) = false) :
    exec (.mailRx lane arr blocks) s = .next (s.after (s.u.mailRx s.time lane arr blocks)) := by
  rw [exec_mailRx, execMailRx, State.onUnit_after _ hw hd]

theorem exec_pointRequestSend_heard (hd : s.u.deaf .pointRequestSend = false) :
    exec .pointRequestSend s = .next (s.after (s.u.requestSend s.time)) := by
  rw [exec_pointRequestSend, execPointRequestSend, State.onUnit_after _ rfl hd]

theorem exec_pointRetryTimeout_heard {h l : Nat} (hw : (Instr.pointRetryTimeout h l).wf = true)
    (hd : s.u.deaf (.pointRetryTimeout h l) = false) :
    exec (.pointRetryTimeout h l) s = .next (s.after (s.u.retryTimeout s.time h l)) := by
  rw [exec_pointRetryTimeout, execPointRetryTimeout, State.onUnit_after _ hw hd]

theorem exec_pointResponseRx_heard {h : Nat} {o : List Nat} (hw : (Instr.pointResponseRx h o).wf = true)
    (hd : s.u.deaf (.pointResponseRx h o) = false) :
    exec (.pointResponseRx h o) s = .next (s.after (s.u.pointResponse s.time h o)) := by
  rw [exec_pointResponseRx, execPointResponseRx, State.onUnit_after _ hw hd]

theorem exec_completionWrite_heard (hd : s.u.deaf .completionWrite = false) :
    exec .completionWrite s = .next (s.after (s.u.completionWrite)) := by
  rw [exec_completionWrite, execCompletionWrite, State.onUnit_after _ rfl hd]

theorem exec_pathRx_heard {h a b dl : Nat} (hw : (Instr.pathRx h a b dl).wf = true) (hd : s.u.deaf (.pathRx h a b dl) = false) :
    exec (.pathRx h a b dl) s = .next (s.after (s.u.pathRx s.time h a b dl)) := by
  rw [exec_pathRx, execPathRx, State.onUnit_after _ hw hd]

end Heard

/-! ### What a lane hears, and the frames of a hub (R298, R300, R304, R333) -/

section Frames
variable {u v w : U} {t : TimeBase} {lane : Nat} {blocks : List Block} {b : List Nat}

/-- A lane in a near-end loopback hears nothing that it has not sent (R298). -/
theorem U.hears_looped (hl : u.laneIO.looped (laneBase lane) = true) (ho : Output.mainline lane blocks ∉ u.out) :
    u.hears t lane blocks = (false, u) := by
  simp [U.hears, hl, ho]

/-- Any other blocks are heard: their headers are counted, and the lane takes them where it is UP (R289, R301). -/
theorem U.hears_headers (h : u.laneIO.looped (laneBase lane) = false ∨ Output.mainline lane blocks ∈ u.out)
    (hv : v = u.onLane t lane (fun io => io.headerErrors (laneBase lane) (blocks.map (fun b => b.1)))) :
    u.hears t lane blocks = (v.laneUp lane, v) := by
  subst hv
  rcases h with h | h <;> simp [U.hears, h]

theorem U.hubFrame_unheard (hn : lane < 96) (hh : u.hears t lane blocks = (false, v)) : u.hubFrame t lane blocks = (none, v) := by
  simp [U.hubFrame, Nat.not_le.mpr hn, hh]

theorem U.hubFrame_good (hn : lane < 96) (hh : u.hears t lane blocks = (true, w)) (hs : w.spoiled t lane = (false, v))
    (hb : readBlocks blocks = some b) : u.hubFrame t lane blocks = (some b, v) := by
  simp [U.hubFrame, Nat.not_le.mpr hn, hh, hs, hb]

/-- A frame whose check fails counts on its lane and raises REC_BAD (R304, R333). -/
theorem U.hubFrame_checkFails (hn : lane < 96) (hh : u.hears t lane blocks = (true, w)) (hs : w.spoiled t lane = (false, v))
    (hb : readBlocks blocks = none) : u.hubFrame t lane blocks =
      (none, (v.onLane t lane (fun io => io.checkError (laneBase lane) t.tns)).recBad t (lane / 2)) := by
  simp [U.hubFrame, Nat.not_le.mpr hn, hh, hs, hb]

/-! ### The messages (R325, R331, R333, R352, R541) -/

theorem U.noticeRx_none (hr : u.hubFrame t lane blocks = (none, v)) : u.noticeRx t lane blocks = v := by simp only [U.noticeRx, hr]

theorem U.noticeRx_notice (hr : u.hubFrame t lane blocks = (some b, v)) (hb : octet b 0 = 6) :
    u.noticeRx t lane blocks = v.notice t (lane / 2) (octet b 1) (le b 7 2 % 32768) := by
  simp [U.noticeRx, hr, isMsg, hb]

theorem U.loopFrame_none (hr : u.hubFrame t lane blocks = (none, v)) : u.loopFrame t lane blocks = v := by simp only [U.loopFrame, hr]

theorem U.loopFrame_loop (hr : u.hubFrame t lane blocks = (some b, v)) (hb : octet b 0 = 2) :
    u.loopFrame t lane blocks = (readLoop b).foldl (fun (u : U) e => u.reportRx t (lane / 2) (octet b 1) e) v := by
  simp [U.loopFrame, hr, isMsg, hb]

theorem U.mailRx_none {arr : Nat} (hr : u.hubFrame t lane blocks = (none, v)) : u.mailRx t lane arr blocks = v := by simp only [U.mailRx, hr]

/-- What a mailbox received on a lane does: a hub's management core pings or speaks to firmware, a cell acknowledges its configuration. -/
theorem U.mailRx_mail {arr : Nat} {o : List Nat} (hr : u.hubFrame t lane blocks = (some b, v)) (hb : octet b 0 = 5)
    (ho : o = (b.drop 7).take 64) : u.mailRx t lane arr blocks =
      if bitAt (octet b 1) 6 then
        (if octet o 0 = 0x86 then v.pingRx (lane / 2) arr o else if octet o 0 = 0x8B then v.emit (.toFirmware (lane / 2) o) else v)
      else if octet o 0 = 0x11 then v.configAnswer o else v := by
  subst ho
  simp [U.mailRx, hr, isMsg, hb]

end Frames

/-- A NOTICE about a configured cell of the hub that sent it: UNREACH retires the cell, REJOIN unseeds and attests it (R325). -/
theorem U.notice_cell {u v : U} {h kind cid : Nat} {e : Nat × CellCfg} (t : TimeBase) (hc : cidHub cid = h) (he : u.cellOf cid = some e)
    (hv : v = (u.wr R.MLK_NOTICE_CID cid).wr R.MLK_NOTICE_KIND kind) :
    (kind = 1 → u.notice t h kind cid = (v.setFlag e.2 .retired true).raise t (MLK.UNREACH h) (MLK.det h cid)) ∧
    (kind = 2 → u.notice t h kind cid = ((v.setFlag e.2 .unseeded true).raise t (MLK.REJOIN h) (MLK.det h cid)).reattest cid) := by
  subst hv
  constructor <;> rintro rfl <;> simp [U.notice, hc, he]

/-- The acknowledge that the set sent last waits for (R541). -/
theorem U.configAnswer_ok {u : U} {o : List Nat} {c : CfgSend} (hc : Tbl.find? u.mlk.cfg (mailCid o) = some c)
    (hu : octet o 3 / 128 = u.unitB) (ht : c.tag = octet o 1) (hs : octet o 4 = 0) :
    u.configAnswer o = u.withMlk (fun m => { m with
      cfg := Tbl.erase m.cfg (mailCid o), ok := m.ok.filter (· != mailCid o) ++ [mailCid o] }) := by
  simp only [octet] at hu ht hs
  simp only [U.configAnswer, hc, hu, ht, hs, decide_true, Bool.and_self, if_true]

/-! ### Reports (R333, R347) -/

section Report
variable {u : U} (t : TimeBase) {h l p : Nat} {rep : List Nat} {cid : Nat}

/-- A report in form of a configured cell goes to its arm; it counts where the arm's queue has room. -/
theorem U.reportRx_valid (hc : cid = mkCid h (l % 64) (p % 8)) (hn : rep.length = 16) (hcrc : rep.getD 15 0 = crc8 0x2F 0xFF (rep.take 15))
    (hv : u.topo.valid cid = true) : u.reportRx t h l (p, rep) =
      (if u.queueFull (cidArm cid) then u else u.inc (R.MLK_HUB_RPT_REPORTS h)).queueReport t cid rep := by
  subst hc
  simp only [U.reportRx, hn, hcrc, hv]
  simp

theorem U.reportRx_unknown (hc : cid = mkCid h (l % 64) (p % 8)) (hv : u.topo.valid cid = false) :
    u.reportRx t h l (p, rep) = u.recBad t h := by
  subst hc
  simp [U.reportRx, hv]

end Report

/-! ### The point service (R343 to R345) -/

theorem U.requestSend_idle {u : U} (t : TimeBase) (h : u.on R.MLK_CTL_PTS_EN = false ∨ (u.mlk.ready ≠ [] ∧ u.roomPc = false)) :
    u.requestSend t = u := by
  rcases h with h | ⟨hr, hp⟩
  · simp [U.requestSend, h]
  · simp [U.requestSend, hr, hp]

theorem U.requestSend_takes {u : U} (t : TimeBase) (he : u.on R.MLK_CTL_PTS_EN = true) (h : u.mlk.ready = [] ∨ u.roomPc = true) :
    u.requestSend t = u.reading t (u.pqEntries.map (fun i => (u.rd R.MLK_PQ_BASE_BASE * 128 + i * 64, 64))) (fun w => w.requestTake t) := by
  rcases h with h | h <;> simp [U.requestSend, he, h]

theorem U.requestTake_none {w : U} (t : TimeBase) (h : w.pqEntries.find? w.pqReady = none) : w.requestTake t = w := by
  simp only [U.requestTake, h]

section Take
variable {w u : U} (t : TimeBase) {i cid key : Nat} {o : List Nat}

/-- A request to a configured cell is sent with the next TAG of its loop. -/
theorem U.requestTake_sends (hi : w.pqEntries.find? w.pqReady = some i) (ho : o = w.pqOctets i) (hc : cid = mailCid o) (hk : key = loopKey cid)
    (hu : u = (w.withMlk (fun m => { m with taken := m.taken ++ [i] })).advancePq 4096) (hv : u.topo.valid cid = true)
    (hop : o.headD 0 = 2 ∨ o.headD 0 = 0x20) : w.requestTake t =
      ((u.withMlk (fun m => { m with tags := m.tags.set key ((u.mlk.tags.get key 0 + 1) % 256) })).sendRequest t key
        ⟨i, o, u.mlk.tags.get key 0, 0, t.dn⟩).showPending (key / 64) := by
  subst ho hc hk hu
  have hop' : ((w.pqOctets i).headD 0 == 2 || (w.pqOctets i).headD 0 == 0x20) = true := by simpa using hop
  simp only [U.requestTake, hi, hv, hop', Bool.not_true, Bool.or_self, Bool.false_eq_true, if_false]

/-- Any other request is completed at once with REJECTED (R343). -/
theorem U.requestTake_refuses (hi : w.pqEntries.find? w.pqReady = some i) (ho : o = w.pqOctets i) (hc : cid = mailCid o)
    (hu : u = (w.withMlk (fun m => { m with taken := m.taken ++ [i] })).advancePq 4096)
    (h : u.topo.valid cid = false ∨ (o.headD 0 ≠ 2 ∧ o.headD 0 ≠ 0x20)) : w.requestTake t = u.complete t (withStatus o 6) i := by
  subst ho hc hu
  have h' : (!((w.withMlk (fun m => { m with taken := m.taken ++ [i] })).advancePq 4096).topo.valid (mailCid (w.pqOctets i)) ||
      !((w.pqOctets i).headD 0 == 2 || (w.pqOctets i).headD 0 == 0x20)) = true := by simpa using h
  simp only [U.requestTake, hi, h', if_true]

end Take

section Retry
variable {u : U} {t : TimeBase} {h l : Nat} {q : PtReq}

theorem U.retryTimeout_resends (hq : Tbl.find? u.mlk.reqs (h * 64 + l % 64) = some q)
    (hd : (u.rd R.MLK_CTL_PTS_TMO : Int) ≤ dnDiff t.dn q.dn) (ha : q.att < u.rd R.MLK_CTL_RETRY) : u.retryTimeout t h l =
      (u.inc (R.MLK_HUB_PTS_RETRIES h)).sendRequest t (h * 64 + l % 64) { q with att := q.att + 1 } := by
  simp only [U.retryTimeout, hq, Int.not_lt.mpr hd, ha, if_true, if_false]

theorem U.retryTimeout_fails (hq : Tbl.find? u.mlk.reqs (h * 64 + l % 64) = some q)
    (hd : (u.rd R.MLK_CTL_PTS_TMO : Int) ≤ dnDiff t.dn q.dn) (ha : u.rd R.MLK_CTL_RETRY ≤ q.att) : u.retryTimeout t h l =
      (((((u.withMlk (fun m => { m with reqs := Tbl.erase m.reqs (h * 64 + l % 64) })).showPending h).inc
        (R.MLK_HUB_PTS_FAILS h)).complete t (withStatus q.octets 5) q.idx).raise t (MLK.PTS_FAIL h) (MLK.det h (mailCid q.octets))) := by
  simp only [U.retryTimeout, hq, Int.not_lt.mpr hd, Nat.not_lt.mpr ha, if_false]

end Retry

section Response
variable {u : U} (t : TimeBase) (h : Nat) {o : List Nat} {q : PtReq}

theorem U.pointResponse_completes (hq : Tbl.find? u.mlk.reqs (loopKey (mailCid o)) = some q) (hu : o.getD 3 0 / 128 = u.unitB)
    (ht : q.tag = o.getD 1 0) (hc : mailCid q.octets = mailCid o) (hm : o.headD 0 = q.octets.headD 0 + 1) : u.pointResponse t h o =
      ((u.withMlk (fun m => { m with reqs := Tbl.erase m.reqs (loopKey (mailCid o)) })).showPending (loopKey (mailCid o) / 64)).complete
        t o q.idx := by
  simp only [U.pointResponse, hq, hu, ht, hc, hm, beq_self_eq_true, decide_true, Bool.and_self, if_true]

theorem U.pointResponse_stray (hq : Tbl.find? u.mlk.reqs (loopKey (mailCid o)) = none) :
    u.pointResponse t h o = u.inc (R.MLK_HUB_ERR_STRAY h) := by
  simp only [U.pointResponse, hq]

end Response

theorem U.completionWrite_writes {u : U} {o : List Nat} {i dn p : Nat} {rest : List (List Nat × Nat × Nat)}
    (hr : u.mlk.ready = (o, i, dn) :: rest) (hp : u.roomPc = true) (he : p = u.rd R.MLK_PC_PROD_PROD) : u.completionWrite =
      ((u.memPut (u.rd R.MLK_PC_BASE_BASE * 128 + p * 128)
        (mailbox o ++ toBytes 4 i ++ toBytes 4 dn ++ List.replicate 56 0)).withMlk (fun m => { m with ready := rest })).wr
        R.MLK_PC_PROD_PROD ((p + 1) % u.rd R.MLK_PC_SIZE_SIZE) := by
  subst he
  simp only [U.completionWrite, hr, hp, Bool.not_true, Bool.false_eq_true, if_false]

theorem U.completionWrite_waits {u : U} (h : u.roomPc = false ∨ u.mlk.ready = []) : u.completionWrite = u := by
  rcases h with h | h
  · unfold U.completionWrite
    split
    · rfl
    · simp [h]
  · simp [U.completionWrite, h]

/-! ### PATH (R28, R356) -/

theorem U.pathRx_undelayed (u : U) (t : TimeBase) (h dl : Nat) : u.pathRx t h 0xFFFFFFFF 0xFFFFFFFF dl = u := by simp [U.pathRx]

/-- A lead that turns negative is shown, and raises LEAD_FAIL, or LEAD_NEG while the converter functions are enabled. -/
theorem U.pathRx_falls {u v : U} {h a dl : Nat} {m : Int} (t : TimeBase) (hh : h < 48) (ha : a ≠ 0xFFFFFFFF) (hm : m = u.margin16 a dl)
    (hneg : m < 0) (hb : Tbl.find? u.leads h = none ∨ ∃ b, Tbl.find? u.leads h = some b ∧ 0 ≤ b)
    (hv : v = ((((({ u with leads := u.leads.set h m } : U).onLink h (fun k => { k with tw := (a + 1600 + 63) / 64 })).wr
      (R.MLK_HUB_LEAD_MARGIN h) (enc 16 (satS 16 (rdiv m 16)))).wr (R.MLK_HUB_LEAD_VALID h) 1).put (R.MLK_HUB_LEAD_NEG h) true)) :
    u.pathRx t h a 0xFFFFFFFF dl =
      if v.on R.DEP_CTL_CONV_EN then (v.raise t (MLK.LEAD_NEG h) (MLK.det h 0)).onLink h (fun k => { k with neg := true })
      else v.raise t (MLK.LEAD_FAIL h) (MLK.det h 0) := by
  have hvalid : [a, 0xFFFFFFFF].filter (fun d => d != 0xFFFFFFFF) = [a] := by simp [ha]
  have hh' : ¬ h ≥ 48 := Nat.not_le.mpr hh
  have hm' : (u.onLink h (fun k => { k with tw := (a + 1600 + 63) / 64 })).margin16 a dl = m := hm.symm
  have hleads : (u.onLink h (fun k => { k with tw := (a + 1600 + 63) / 64 })).leads = u.leads := rfl
  subst hv
  simp only [U.pathRx, hvalid, List.isEmpty_cons, hh', Bool.or_false, decide_false, Bool.false_eq_true, if_false, List.foldl_cons, List.foldl_nil,
    Nat.zero_max, hm', hleads, hneg, decide_true, Bool.true_and, if_true]
  refine (if_neg ?_).trans rfl
  rcases hb with hb | ⟨b, hb, h0⟩
  · simp [hb]
  · simp [hb, h0]

/-- Settles O22: each command is the link engine's function on the unit, and each clause one case of that function. -/
theorem linkEngineCommandsComplete : Obligations.LinkEngineCommandsComplete := by
  unfold Obligations.LinkEngineCommandsComplete
  refine ⟨?hears, ?frame, ?unheard, ?notice, ?loop, ?report, ?mail, ?pointsOff, ?pointsOn, ?pointsFull, ?takeNone, ?take, ?retry, ?response,
    ?stray, ?completion, ?completionWaits, ?undelayed, ?path⟩
  case hears => exact fun u t n blocks => ⟨U.hears_looped, fun h v hv => U.hears_headers h hv⟩
  case frame => exact fun u w t lane blocks hn hh v hs => ⟨fun b => U.hubFrame_good hn hh hs, U.hubFrame_checkFails hn hh hs⟩
  case unheard => exact fun u v t lane blocks => U.hubFrame_unheard
  case notice =>
    rintro s lane blocks ⟨f, v⟩ hw hd hr
    dsimp only
    rw [exec_noticeRx_heard hw hd]
    refine ⟨?_, ?_⟩
    · rintro rfl
      rw [U.noticeRx_none hr.symm]
    · rintro b _ e u rfl hb rfl hc he hu
      rw [U.noticeRx_notice hr.symm hb]
      obtain ⟨hunreach, hrejoin⟩ := U.notice_cell s.time hc he hu
      exact ⟨fun hk => by rw [hunreach hk], fun hk => by rw [hrejoin hk]⟩
  case loop =>
    rintro s lane blocks ⟨f, v⟩ hw hd hr
    dsimp only
    rw [exec_loopFrameRx_heard hw hd]
    refine ⟨?_, ?_⟩
    · rintro rfl
      rw [U.loopFrame_none hr.symm]
    · rintro b rfl hb
      rw [U.loopFrame_loop hr.symm hb]
  case report =>
    intro u t h l p rep cid hc hn hcrc
    refine ⟨fun hv hq => ?_, fun hv hq => ?_, fun hv => U.reportRx_unknown t hc hv⟩
    · rw [U.reportRx_valid t hc hn hcrc hv, hq, if_neg Bool.false_ne_true]
    · rw [U.reportRx_valid t hc hn hcrc hv, hq, if_pos rfl]
  case mail =>
    rintro s lane arr blocks ⟨f, v⟩ hw hd hr
    dsimp only
    rw [exec_mailRx_heard hw hd]
    refine ⟨?none, ?hub, ?cell⟩
    case none =>
      rintro rfl
      rw [U.mailRx_none hr.symm]
    case hub =>
      rintro b o rfl hb ho hmgt
      rw [U.mailRx_mail hr.symm hb ho, if_pos hmgt]
      refine ⟨fun hk => ?_, fun hk => ?_⟩
      · rw [if_pos hk]
        rfl
      · rw [if_neg (by omega), if_pos hk]
    case cell =>
      rintro b o c rfl hb ho hmgt hk hc hu ht hs
      rw [U.mailRx_mail hr.symm hb ho, hmgt, if_neg Bool.false_ne_true, if_pos hk, U.configAnswer_ok hc hu ht hs]
  case pointsOff =>
    intro s hd h
    rw [exec_pointRequestSend_heard hd, U.requestSend_idle _ (.inl h)]
  case pointsOn =>
    intro s hd he h
    rw [exec_pointRequestSend_heard hd, U.requestSend_takes _ he h]
  case pointsFull =>
    intro s hd hr hp
    rw [exec_pointRequestSend_heard hd, U.requestSend_idle _ (.inr ⟨hr, hp⟩)]
  case takeNone => exact fun w t => U.requestTake_none t
  case take =>
    exact fun w u t i o cid key hi ho hc hk hu => ⟨U.requestTake_sends t hi ho hc hk hu, U.requestTake_refuses t hi ho hc hu⟩
  case retry =>
    intro s h l q hw hd hq ht
    rw [exec_pointRetryTimeout_heard hw hd]
    exact ⟨fun ha => by rw [U.retryTimeout_resends hq ht ha], fun ha => by rw [U.retryTimeout_fails hq ht ha]⟩
  case response =>
    intro s h o q hw hd hq hu ht hc hm
    rw [exec_pointResponseRx_heard hw hd, U.pointResponse_completes _ h hq hu ht hc hm]
  case stray =>
    intro s h o hw hd hq
    rw [exec_pointResponseRx_heard hw hd, U.pointResponse_stray _ h hq]
  case completion =>
    intro s o i dn rest p hd hr hp he
    rw [exec_completionWrite_heard hd, U.completionWrite_writes hr hp he]
  case completionWaits =>
    intro s hd h
    rw [exec_completionWrite_heard hd, U.completionWrite_waits h]
  case undelayed =>
    intro s h dl hw hd
    rw [exec_pathRx_heard hw hd, U.pathRx_undelayed]
  case path =>
    intro s h a dl m u hw hd ha hm hneg hb hu
    have hh : h < 48 := by
      simp only [wf_pathRx, Bool.and_eq_true, decide_eq_true_eq] at hw
      obtain ⟨⟨⟨hh, _⟩, _⟩, _⟩ := hw
      exact hh
    rw [exec_pathRx_heard hw hd, U.pathRx_falls s.time hh ha hm hneg hb hu]
    exact ⟨fun hoff => by rw [hoff, if_neg Bool.false_ne_true], fun hon => by rw [if_pos hon]⟩

end Sys2Proof.Machine
end

section
/-! PROOFS. Charge tracking: FRN_CMD from its write to the boundary that applies it (R68, R70, R71, R73, R604), EN of FRN_CTL (R78), stores
into the ledger (R75, R601). -/
namespace Sys2Proof.Machine

/-! ### A command of FRN_CMD written -/

/-- The commands that write FRN_CMD: the OP of each, and the unit that it finds, which for SET_K and SET_B has their operand in FRN_DATA. -/
inductive FrnCommand (u : U) (a cell : Nat) : Nat → U → Instr → Prop
  | clrSuspect : FrnCommand u a cell 1 u (.frnClrSuspect a cell)
  | reseed : FrnCommand u a cell 2 u (.frnReseed a cell)
  | setK (k : Nat) : FrnCommand u a cell 3 (u.wr (R.FRN_CMD_DATA_DATA a) k) (.frnSetK a cell k)
  | setB (v : Nat) : FrnCommand u a cell 4 (u.wr (R.FRN_CMD_DATA_DATA a) v) (.frnSetB a cell v)
  | clrAged : FrnCommand u a cell 5 u (.frnClrAged a cell)

section Command
variable {s : State} {u v : U} {a cell op : Nat} {c : Instr}

theorem FrnCommand.op_range (h : FrnCommand u a cell op v c) : 1 ≤ op ∧ op ≤ 5 := by cases h <;> decide

theorem FrnCommand.cell_lt (h : FrnCommand u a cell op v c) (hw : c.wf = true) : cell < 2048 := by
  cases h with
  | clrSuspect | reseed | clrAged =>
    simp only [wf_frnClrSuspect, wf_frnReseed, wf_frnClrAged, Bool.and_eq_true, decide_eq_true_eq] at hw
    exact hw.2
  | setK k | setB b =>
    simp only [wf_frnSetK, wf_frnSetB, Bool.and_eq_true, decide_eq_true_eq] at hw
    obtain ⟨⟨-, hcell⟩, -⟩ := hw
    exact hcell

/-- FRN_DATA is neither GO nor part of the topology. -/
theorem FrnCommand.on_go (h : FrnCommand u a cell op v c) : v.on (R.FRN_CMD_GO a) = u.on (R.FRN_CMD_GO a) := by
  have hk : (R.FRN_CMD_GO a).key ≠ (R.FRN_CMD_DATA_DATA a).key := Fld.key_ne_of_addr (by simp) (by simp) (by simp)
  cases h with
  | clrSuspect | reseed | clrAged => rfl
  | setK | setB => rw [U.on, U.rd_wr_ne _ _ hk, U.on]

theorem FrnCommand.topo (h : FrnCommand u a cell op v c) : v.topo = u.topo := by cases h <;> rfl

theorem FrnCommand.exec_heard (h : FrnCommand s.u a cell op v c) (hw : c.wf = true) (hd : s.u.deaf c = false) :
    exec c s = .next (s.after (v.frnCmdWrite a cell op)) := by
  cases h with
  | clrSuspect => rw [exec_frnClrSuspect, execFrnClrSuspect, State.onUnit_after _ hw hd]
  | reseed => rw [exec_frnReseed, execFrnReseed, State.onUnit_after _ hw hd]
  | setK k => rw [exec_frnSetK, execFrnSetK, State.onUnit_after _ hw hd]
  | setB b => rw [exec_frnSetB, execFrnSetB, State.onUnit_after _ hw hd]
  | clrAged => rw [exec_frnClrAged, execFrnClrAged, State.onUnit_after _ hw hd]

/-- A command is refused where another one waits or the arm has no such cell (R604). -/
theorem U.frnCmdWrite_eq (hop : 1 ≤ op ∧ op ≤ 5) (hcell : cell < 2048) : u.frnCmdWrite a cell op =
    if u.on (R.FRN_CMD_GO a) || !u.topo.valid (a * 2048 + cell) then u.wr (R.FRN_CMD_STAT_REJ a) 1
    else ((u.wr (R.FRN_CMD_CELL a) cell).wr (R.FRN_CMD_OP a) op).wr (R.FRN_CMD_GO a) 1 := by
  have h0 : op ≠ 0 := by omega
  have h5 : ¬ op > 5 := by omega
  simp only [U.frnCmdWrite, if_neg h0, h5, decide_false, Bool.or_false, Nat.mod_eq_of_lt hcell]

theorem FrnCommand.exec_pending (h : FrnCommand s.u a cell op v c) (hw : c.wf = true) (hd : s.u.deaf c = false)
    (hg : s.u.on (R.FRN_CMD_GO a) = false) (hv : s.u.topo.valid (a * 2048 + cell) = true) :
    exec c s = .next (s.after (((v.wr (R.FRN_CMD_CELL a) cell).wr (R.FRN_CMD_OP a) op).wr (R.FRN_CMD_GO a) 1)) := by
  rw [h.exec_heard hw hd, U.frnCmdWrite_eq h.op_range (h.cell_lt hw), h.on_go, h.topo, hg, hv]
  rfl

theorem FrnCommand.exec_rejected (h : FrnCommand s.u a cell op v c) (hw : c.wf = true) (hd : s.u.deaf c = false)
    (hr : s.u.on (R.FRN_CMD_GO a) = true ∨ s.u.topo.valid (a * 2048 + cell) = false) :
    exec c s = .next (s.after (v.wr (R.FRN_CMD_STAT_REJ a) 1)) := by
  rw [h.exec_heard hw hd, U.frnCmdWrite_eq h.op_range (h.cell_lt hw), h.on_go, h.topo, if_pos]
  rcases hr with hr | hr <;> simp [hr]

end Command

/-! ### The pending command applied -/

/-- What the OP of a pending command does to the cell that it names (R68, R70, R71, R73). -/
def U.FrnActs (u : U) (op data : Nat) (c : CellCfg) (v : U) : Prop :=
  (op = 1 ∧ v = (u.setFlag c .suspect false).setSusRun c 0) ∨ (op = 2 ∧ v = u.setFlag c .unseeded true) ∨
    (op = 3 ∧ v = (u.setK c data).recWrite c) ∨ (op = 4 ∧ v = (u.lgw c.cid 0x10 4 (data % 2 ^ 24)).recWrite c) ∨
    (op = 5 ∧ v = (u.setFlag c .aged false).setFlag c .kclamp false)

theorem U.frnCmdApply_acts {u v : U} {a : Nat} {e : Nat × CellCfg} (hg : u.on (R.FRN_CMD_GO a) = true)
    (he : u.cellOf (a * 2048 + u.rd (R.FRN_CMD_CELL a)) = some e)
    (hv : u.FrnActs (u.rd (R.FRN_CMD_OP a)) (u.rd (R.FRN_CMD_DATA_DATA a)) e.2 v) :
    u.frnCmdApply a = ((v.wr (R.FRN_CMD_GO a) 0).wr (R.FRN_CMD_STAT_DONE a) 1).countSuspects a := by
  rcases hv with ⟨ho, rfl⟩ | ⟨ho, rfl⟩ | ⟨ho, rfl⟩ | ⟨ho, rfl⟩ | ⟨ho, rfl⟩ <;>
    simp only [U.frnCmdApply, hg, he, ho, Bool.not_true, Bool.false_eq_true, if_false]

/-! ### EN of FRN_CTL -/

theorem exec_frnEnWrite_heard {s : State} {a : Nat} {en : Bool} (hw : (Instr.frnEnWrite a en).wf = true)
    (hd : s.u.deaf (.frnEnWrite a en) = false) : exec (.frnEnWrite a en) s = .next (s.after (s.u.frnEnWrite a en)) := by
  rw [exec_frnEnWrite, execFrnEnWrite, State.onUnit_after _ hw hd]

/-- EN takes a 1 always and a 0 while the converter functions are disabled (R78). -/
theorem U.frnEnWrite_writes {u : U} {en : Bool} (a : Nat) (h : en = true ∨ u.on R.DEP_CTL_CONV_EN = false) :
    u.frnEnWrite a en = u.wr (R.FRN_CTL_EN a) (b2n en) := by
  rcases h with h | h <;> simp [U.frnEnWrite, U.put, h]

theorem U.frnEnWrite_keeps {u : U} (a : Nat) (h : u.on R.DEP_CTL_CONV_EN = true) : u.frnEnWrite a false = u := by
  simp [U.frnEnWrite, h]

/-! ### Stores into the ledger -/

theorem exec_ledgerStore_sram {s : State} {addr size v : Nat} (hw : (Instr.ledgerStore addr size v).wf = true) (hh : s.u.held = false)
    (hs : s.u.sramAt addr size = true) : exec (.ledgerStore addr size v) s = .next (s.after (s.u.sramStore addr size v)) := by
  rw [exec_ledgerStore, execLedgerStore, State.onUnit_after _ hw (by rw [U.deaf_whole rfl, hh]), store_sram 0 v hs]

/-- Bytes belong to the engine where they meet a cell's record in an arm with EN (R75, R601). -/
theorem U.ledgerHolds_iff (u : U) (addr size : Nat) : u.ledgerHolds addr size = true ↔ ∃ c ∈ u.topo.cells,
    addr < u.lgr c.cid 0x400 ∧ u.lgr c.cid 0 < addr + size ∧ u.on (R.FRN_CTL_EN (cidArm c.cid)) = true := by
  simp only [U.ledgerHolds, List.any_eq_true, Bool.and_eq_true, decide_eq_true_eq, and_assoc]

theorem U.ledgerHolds_eq_false {u : U} {addr size : Nat} (h : ∀ c ∈ u.topo.cells, addr < u.lgr c.cid 0x400 →
    u.lgr c.cid 0 < addr + size → u.on (R.FRN_CTL_EN (cidArm c.cid)) = false) : u.ledgerHolds addr size = false := by
  rw [Bool.eq_false_iff, ne_eq, U.ledgerHolds_iff]
  rintro ⟨c, hc, hlo, hhi, hon⟩
  exact absurd ((h c hc hlo hhi).symm.trans hon) Bool.false_ne_true

/-- Settles O6: the five commands of FRN_CMD share one write, which waits or is refused, and one application, by OP; EN and the ledger's
stores are one case each of their functions. -/
theorem chargeTrackingCommandsComplete : Obligations.ChargeTrackingCommandsComplete := by
  unfold Obligations.ChargeTrackingCommandsComplete
  refine ⟨?pending, ?pendingData, ?rejected, ?applied, ?enWritten, ?enKept, ?stored, ?faulted⟩
  case pending =>
    rintro s a cell op c (⟨rfl, rfl⟩ | ⟨rfl, rfl⟩ | ⟨rfl, rfl⟩)
    · exact FrnCommand.clrSuspect.exec_pending
    · exact FrnCommand.reseed.exec_pending
    · exact FrnCommand.clrAged.exec_pending
  case pendingData =>
    rintro s a cell v op c (⟨rfl, rfl⟩ | ⟨rfl, rfl⟩)
    · exact (FrnCommand.setK v).exec_pending
    · exact (FrnCommand.setB v).exec_pending
  case rejected =>
    rintro s a cell c (rfl | rfl | rfl)
    · exact FrnCommand.clrSuspect.exec_rejected
    · exact FrnCommand.reseed.exec_rejected
    · exact FrnCommand.clrAged.exec_rejected
  case applied => exact fun u a e hg he v hv => U.frnCmdApply_acts hg he hv
  case enWritten =>
    intro s a en hw hd h
    rw [exec_frnEnWrite_heard hw hd, U.frnEnWrite_writes a h]
  case enKept =>
    intro s a hw hd h
    rw [exec_frnEnWrite_heard hw hd, U.frnEnWrite_keeps a h]
  case stored =>
    intro s addr size v hw hh hs hc h
    rw [exec_ledgerStore_sram hw hh hs, U.sramStore_taken v hc (U.ledgerHolds_eq_false h)]
    rfl
  case faulted =>
    intro s addr size v c hw hh hs hc hlo hhi hon
    have hl : s.u.ledgerHolds addr size = true := (U.ledgerHolds_iff ..).mpr ⟨c, hc, hlo, hhi, hon⟩
    rw [exec_ledgerStore_sram hw hh hs, U.sramStore_refused v (.inr hl)]

end Sys2Proof.Machine
end

section
/-! PROOFS. Cell selection: the selection of an open interval (R91, R108), MSH_CMD from its write to its application (R97, R104, R111, R113, R115),
EN of MSH_CTL (R114). -/
namespace Sys2Proof.Machine

/-! ### The selection of an interval -/

theorem exec_selection_heard {s : State} {a : Nat} (hw : (Instr.selection a).wf = true) (hd : s.u.deaf (.selection a) = false) :
    exec (.selection a) s = .next (s.after (s.u.selection s.time a)) := by
  rw [exec_selection, execSelection, State.onUnit_after _ hw hd]

/-- A selection is made where the interval is open, selection runs and the arm is configured, before the next boundary is due (R91, R108). -/
theorem U.selection_made {u : U} {t : TimeBase} {a : Nat} (ho : (u.arm a).open_ = true) (he : (u.arm a).cfg.en = true)
    (ha : u.topo.armOn a = true) (ht : t.due = false) : u.selection t a = u.draw.2.reading t (u.draw.2.selectSpans a)
      (fun v => v.select t a (u.draw.1 % 521) (min 65535 ((t.lastUs + 1) * 1000 - t.tns))) := by
  rw [U.selection, if_pos (by simp [ho, he, ha, ht])]

/-- A second selection of an interval, and one that the boundary overtakes, leave the unit as it was (R109, R122). -/
theorem U.selection_skipped {u : U} {t : TimeBase} {a : Nat} (h : (u.arm a).open_ = false ∨ t.due = true) : u.selection t a = u := by
  rcases h with h | h <;> simp [U.selection, h]

/-! ### A command of MSH_CMD written -/

/-- The commands that write MSH_CMD, with the CELL and the OP of each: ROTATE names no cell. -/
inductive MshCommand (a : Nat) : Nat → Nat → Instr → Prop
  | retire (cell : Nat) : MshCommand a cell 1 (.mshRetire a cell)
  | restore (cell : Nat) : MshCommand a cell 2 (.mshRestore a cell)
  | rotate : MshCommand a 0 3 (.mshRotate a)
  | clrReq (cell : Nat) : MshCommand a cell 4 (.mshClrReq a cell)

section Command
variable {s : State} {a cell op : Nat} {c : Instr}

theorem MshCommand.op_range (h : MshCommand a cell op c) : 1 ≤ op ∧ op ≤ 4 := by cases h <;> decide

theorem MshCommand.cell_lt (h : MshCommand a cell op c) (hw : c.wf = true) : cell < 2048 := by
  cases h with
  | rotate => decide
  | retire | restore | clrReq =>
    simp only [wf_mshRetire, wf_mshRestore, wf_mshClrReq, Bool.and_eq_true, decide_eq_true_eq] at hw
    exact hw.2

theorem MshCommand.exec_heard (h : MshCommand a cell op c) (hw : c.wf = true) (hd : s.u.deaf c = false) :
    exec c s = .next (s.after (s.u.mshCmdWrite a cell op)) := by
  cases h with
  | retire => rw [exec_mshRetire, execMshRetire, State.onUnit_after _ hw hd]
  | restore => rw [exec_mshRestore, execMshRestore, State.onUnit_after _ hw hd]
  | rotate => rw [exec_mshRotate, execMshRotate, State.onUnit_after _ hw hd]
  | clrReq => rw [exec_mshClrReq, execMshClrReq, State.onUnit_after _ hw hd]

/-- A command is refused where another one waits, where it is RESTORE with the converter functions enabled, and where it names a cell that
the arm has not (R111, R113). -/
theorem U.mshCmdWrite_eq (u : U) (hop : 1 ≤ op ∧ op ≤ 4) (hcell : cell < 2048) : u.mshCmdWrite a cell op =
    if u.on (R.MSH_CMD_GO a) = true ∨ (op = 2 ∧ u.on R.DEP_CTL_CONV_EN = true) ∨ (op ≠ 3 ∧ u.topo.valid (a * 2048 + cell) = false)
    then u.wr (R.MSH_CMD_STAT_REJ a) 1 else ((u.wr (R.MSH_CMD_CELL a) cell).wr (R.MSH_CMD_OP a) op).wr (R.MSH_CMD_GO a) 1 := by
  have h0 : op ≠ 0 := by omega
  have h4 : ¬ op > 4 := by omega
  simp [U.mshCmdWrite, h0, h4, Nat.mod_eq_of_lt hcell, or_assoc]

theorem MshCommand.exec_pending (h : MshCommand a cell op c) (hw : c.wf = true) (hd : s.u.deaf c = false)
    (hg : s.u.on (R.MSH_CMD_GO a) = false) (hc : op = 2 → s.u.on R.DEP_CTL_CONV_EN = false)
    (hv : op ≠ 3 → s.u.topo.valid (a * 2048 + cell) = true) :
    exec c s = .next (s.after (((s.u.wr (R.MSH_CMD_CELL a) cell).wr (R.MSH_CMD_OP a) op).wr (R.MSH_CMD_GO a) 1)) := by
  rw [h.exec_heard hw hd, U.mshCmdWrite_eq _ h.op_range (h.cell_lt hw), if_neg]
  rintro (hg' | ⟨ho, hc'⟩ | ⟨ho, hv'⟩)
  · exact Bool.false_ne_true (hg.symm.trans hg')
  · exact Bool.false_ne_true ((hc ho).symm.trans hc')
  · exact Bool.false_ne_true (hv'.symm.trans (hv ho))

theorem MshCommand.exec_rejected (h : MshCommand a cell op c) (hw : c.wf = true) (hd : s.u.deaf c = false)
    (hr : s.u.on (R.MSH_CMD_GO a) = true ∨ (op = 2 ∧ s.u.on R.DEP_CTL_CONV_EN = true) ∨
      (op ≠ 3 ∧ s.u.topo.valid (a * 2048 + cell) = false)) :
    exec c s = .next (s.after (s.u.wr (R.MSH_CMD_STAT_REJ a) 1)) := by
  rw [h.exec_heard hw hd, U.mshCmdWrite_eq _ h.op_range (h.cell_lt hw), if_pos hr]

end Command

/-! ### The pending command applied -/

/-- What the OP of a pending command does to the arm or to the cell that CELL names (R97, R104, R111, R115). -/
def U.MshActs (u : U) (a op cell : Nat) (v : U) : Prop :=
  (op = 3 ∧ v = u.setArm a (fun h => { h with rotate := true })) ∨
    ∃ e, u.cellOf (a * 2048 + cell) = some e ∧
      ((op = 1 ∧ v = u.setFlag e.2 .retired true) ∨
       (op = 2 ∧ v = (u.setFlag e.2 .retired false).setFlag e.2 .unseeded true) ∨
       (op = 4 ∧ v = u.setReq e.1 e.2.cid false))

theorem U.mshCmdApply_acts {u v : U} {a : Nat} (hg : u.on (R.MSH_CMD_GO a) = true)
    (hv : u.MshActs a (u.rd (R.MSH_CMD_OP a)) (u.rd (R.MSH_CMD_CELL a)) v) :
    u.mshCmdApply a = (v.wr (R.MSH_CMD_GO a) 0).wr (R.MSH_CMD_STAT_DONE a) 1 := by
  rcases hv with ⟨ho, rfl⟩ | ⟨e, he, ⟨ho, rfl⟩ | ⟨ho, rfl⟩ | ⟨ho, rfl⟩⟩
  · simp only [U.mshCmdApply, hg, ho, Bool.not_true, Bool.false_eq_true, if_false, if_true]
  all_goals simp [U.mshCmdApply, hg, ho, he]

/-! ### EN of MSH_CTL -/

theorem exec_mshEnWrite_heard {s : State} {a : Nat} {en : Bool} (hw : (Instr.mshEnWrite a en).wf = true)
    (hd : s.u.deaf (.mshEnWrite a en) = false) : exec (.mshEnWrite a en) s = .next (s.after (s.u.mshEnWrite a en)) := by
  rw [exec_mshEnWrite, execMshEnWrite, State.onUnit_after _ hw hd]

/-- EN takes a 1 while charge tracking of the arm runs (R114). -/
theorem U.mshEnWrite_starts {u : U} {a : Nat} (h : u.on (R.FRN_CTL_EN a) = true) : u.mshEnWrite a true = u.wr (R.MSH_CTL_EN a) 1 := by
  simp [U.mshEnWrite, U.put, b2n, h]

/-- EN takes a 0 while the converter functions are disabled (R114). -/
theorem U.mshEnWrite_stops {u : U} (a : Nat) (h : u.on R.DEP_CTL_CONV_EN = false) : u.mshEnWrite a false = u.wr (R.MSH_CTL_EN a) 0 := by
  simp [U.mshEnWrite, U.put, b2n, h]

theorem U.mshEnWrite_keeps {u : U} {a : Nat} {en : Bool}
    (h : (en = true ∧ u.on (R.FRN_CTL_EN a) = false) ∨ (en = false ∧ u.on R.DEP_CTL_CONV_EN = true)) : u.mshEnWrite a en = u := by
  rcases h with ⟨rfl, h⟩ | ⟨rfl, h⟩ <;> simp [U.mshEnWrite, h]

/-- Settles O7: the four commands of MSH_CMD share one write, which waits or is refused, and one application, by OP; the selection and EN are
one case each of their functions. -/
theorem selectionCommandsComplete : Obligations.SelectionCommandsComplete := by
  unfold Obligations.SelectionCommandsComplete
  refine ⟨?made, ?skipped, ?pending, ?rotatePending, ?rejected, ?applied, ?started, ?stopped, ?enKept⟩
  case made =>
    rintro s a hw hd ho he ha ht _ rfl
    rw [exec_selection_heard hw hd, U.selection_made ho he ha ht]
  case skipped =>
    intro s a hw hd h
    rw [exec_selection_heard hw hd, U.selection_skipped h]
  case pending =>
    rintro s a cell op c (⟨rfl, rfl⟩ | ⟨rfl, rfl⟩ | ⟨rfl, rfl, hc⟩) hw hd hg hv
    · exact (MshCommand.retire cell).exec_pending hw hd hg nofun fun _ => hv
    · exact (MshCommand.clrReq cell).exec_pending hw hd hg nofun fun _ => hv
    · exact (MshCommand.restore cell).exec_pending hw hd hg (fun _ => hc) fun _ => hv
  case rotatePending =>
    exact fun s a hw hd hg => MshCommand.rotate.exec_pending hw hd hg nofun (absurd rfl)
  case rejected => exact fun s a cell hw hd hc => (MshCommand.restore cell).exec_rejected hw hd (.inr (.inl ⟨rfl, hc⟩))
  case applied => exact fun u a hg v hv => U.mshCmdApply_acts hg hv
  case started =>
    intro s a hw hd h
    rw [exec_mshEnWrite_heard hw hd, U.mshEnWrite_starts h]
  case stopped =>
    intro s a hw hd h
    rw [exec_mshEnWrite_heard hw hd, U.mshEnWrite_stops a h]
  case enKept =>
    intro s a en hw hd h
    rw [exec_mshEnWrite_heard hw hd, U.mshEnWrite_keeps h]

end Sys2Proof.Machine
end

section
/-! PROOFS. The permits of the signal box (R464, R465, R467) and CONV_EN, which falls with the run permit (R120). -/
namespace Sys2Proof.Machine

/-! ### Masks of channels -/

theorem bitAt_eq_testBit (v n : Nat) : bitAt v n = v.testBit n := by
  rw [Nat.testBit_eq_decide_div_mod_eq]
  rfl

/-- The mask of the first `n` channels for which a condition holds. -/
def channelMask (n : Nat) (p : Nat → Bool) : Nat := (List.range n).foldl (fun m k => if p k then m + 2 ^ k else m) 0

theorem channelMask_succ (n : Nat) (p : Nat → Bool) :
    channelMask (n + 1) p = if p n then channelMask n p + 2 ^ n else channelMask n p := by
  simp [channelMask, List.range_succ, List.foldl_append]

theorem channelMask_lt (n : Nat) (p : Nat → Bool) : channelMask n p < 2 ^ n := by
  induction n with
  | zero => exact Nat.one_pos
  | succ n ih =>
    rw [channelMask_succ, Nat.pow_succ]
    split <;> omega

theorem bitAt_channelMask {n k : Nat} (p : Nat → Bool) (hk : k < n) : bitAt (channelMask n p) k = p k := by
  rw [bitAt_eq_testBit]
  induction n with
  | zero => omega
  | succ n ih =>
    have hlt := channelMask_lt n p
    rw [channelMask_succ]
    rcases Nat.lt_succ_iff_lt_or_eq.mp hk with h | rfl
    · split
      · rw [Nat.add_comm, Nat.testBit_two_pow_add_gt h, ih h]
      · exact ih h
    · split <;> rename_i h
      · rw [Nat.add_comm, Nat.testBit_two_pow_add_eq, Nat.testBit_lt_two_pow hlt, h]
        rfl
      · rw [Nat.testBit_lt_two_pow hlt, eq_false_of_ne_true h]

/-! ### What the permits follow from -/

/-- Whether the low side of a channel stands (R465). -/
def U.lowSide (u : U) (k : Nat) : Bool :=
  u.sbxLocked && u.sbx.supply && u.sbx.osc && u.rd (R.SBX_CH_ROLE k) != 0 &&
    (!u.on R.SBX_STATE_TRIPPED || u.rd (R.SBX_CH_TRIP k) = 0) && u.rd R.SBX_STATE_HB = 1 && !bitAt u.sbx.rbFault k

theorem U.lowSide_iff (u : U) (k : Nat) : u.lowSide k = true ↔
    u.rd R.SBX_STATE_CFG = 2 ∧ u.sbx.supply = true ∧ u.sbx.osc = true ∧ u.rd (R.SBX_CH_ROLE k) ≠ 0 ∧
      (u.rd R.SBX_STATE_TRIPPED = 0 ∨ u.rd (R.SBX_CH_TRIP k) = 0) ∧ u.rd R.SBX_STATE_HB = 1 ∧ bitAt u.sbx.rbFault k = false := by
  simp [U.lowSide, U.sbxLocked, U.on, and_assoc]

/-- Whether a channel is granted: its high side is requested as well (R464). -/
def U.channelOn (u : U) (k : Nat) : Bool := u.lowSide k && bitAt (u.rd R.SBX_HS_HS) k

/-- Whether the permit of a role stands: a channel has the role, and every channel that has it is granted (R467). -/
def U.roleGranted (u : U) (r : Nat) : Bool :=
  (List.range 8).any (fun k => u.rd (R.SBX_CH_ROLE k) == r) && (List.range 8).all (fun k => u.rd (R.SBX_CH_ROLE k) != r || u.channelOn k)

theorem U.roleGranted_iff (u : U) (r : Nat) : u.roleGranted r = true ↔
    (∃ k < 8, u.rd (R.SBX_CH_ROLE k) = r) ∧ ∀ k < 8, u.rd (R.SBX_CH_ROLE k) = r → u.channelOn k = true := by
  simp only [U.roleGranted, Bool.and_eq_true, List.any_eq_true, List.all_eq_true, List.mem_range, beq_iff_eq, Bool.or_eq_true, bne_iff_ne, ne_eq,
    Decidable.imp_iff_not_or]

/-- The permit fields as they follow from the rest. -/
def U.showPermits (u : U) : U :=
  ((((u.wr R.SBX_PERM_LS (channelMask 8 u.lowSide)).wr R.SBX_PERM_HS_OUT (u.rd R.SBX_HS_HS)).wr
    R.SBX_PERM_GRANTED (channelMask 8 u.channelOn)).put R.SBX_STATE_RUN_OK (u.roleGranted 1)).put R.SBX_STATE_PRE_OK (u.roleGranted 2)

/-! ### The permits brought up to date -/

theorem U.permits_eq (u : U) : u.permits =
    if u.on R.SBX_STATE_RUN_OK && !u.roleGranted 1
    then (u.showPermits.withSbx (fun b => { b with pulse := b.pulse.filter (fun p => u.channelOn p.1) })).wr R.DEP_CTL_CONV_EN 0
    else u.showPermits.withSbx (fun b => { b with pulse := b.pulse.filter (fun p => u.channelOn p.1) }) := rfl

theorem U.permits_rd_show (u : U) {f : Fld} (h : f.key ≠ R.DEP_CTL_CONV_EN.key) : u.permits.rd f = u.showPermits.rd f := by
  rw [U.permits_eq]
  split
  · rw [U.rd_wr_ne _ _ h, U.rd_withSbx]
  · rw [U.rd_withSbx]

theorem U.permits_rd_ls (u : U) : u.permits.rd R.SBX_PERM_LS = channelMask 8 u.lowSide := by
  rw [U.permits_rd_show _ (by decide), U.showPermits]
  simp (disch := decide) only [U.put_eq, U.rd_wr_ne, U.rd_wr_same]
  exact Nat.mod_eq_of_lt (channelMask_lt 8 _)

theorem U.permits_rd_granted (u : U) : u.permits.rd R.SBX_PERM_GRANTED = channelMask 8 u.channelOn := by
  rw [U.permits_rd_show _ (by decide), U.showPermits]
  simp (disch := decide) only [U.put_eq, U.rd_wr_ne, U.rd_wr_same]
  exact Nat.mod_eq_of_lt (channelMask_lt 8 _)

theorem U.permits_rd_hsOut (u : U) : u.permits.rd R.SBX_PERM_HS_OUT = u.rd R.SBX_HS_HS := by
  rw [U.permits_rd_show _ (by decide), U.showPermits]
  simp (disch := decide) only [U.put_eq, U.rd_wr_ne, U.rd_wr_same]
  exact Nat.mod_eq_of_lt (u.rd_lt R.SBX_HS_HS)

theorem U.permits_rd_runOk (u : U) : u.permits.rd R.SBX_STATE_RUN_OK = b2n (u.roleGranted 1) := by
  rw [U.permits_rd_show _ (by decide), U.showPermits]
  simp (disch := decide) only [U.put_eq, U.rd_wr_ne, U.rd_wr_same]
  exact b2n_mod _

/-- CONV_EN is cleared where the run permit falls, and stands otherwise (R120). -/
theorem U.permits_rd_convEn (u : U) : u.permits.rd R.DEP_CTL_CONV_EN =
    if u.on R.SBX_STATE_RUN_OK && !u.roleGranted 1 then 0 else u.rd R.DEP_CTL_CONV_EN := by
  rw [U.permits_eq]
  split
  · exact U.rd_wr_same _ _ _
  · rw [U.rd_withSbx, U.showPermits]
    simp (disch := decide) only [U.put_eq, U.rd_wr_ne]

theorem U.permits_lowSide (u : U) {k : Nat} (hk : k < 8) : bitAt (u.permits.rd R.SBX_PERM_LS) k = u.lowSide k := by
  rw [U.permits_rd_ls, bitAt_channelMask _ hk]

theorem U.permits_channelOn (u : U) {k : Nat} (hk : k < 8) : bitAt (u.permits.rd R.SBX_PERM_GRANTED) k = u.channelOn k := by
  rw [U.permits_rd_granted, bitAt_channelMask _ hk]

theorem b2n_eq_one {b : Bool} : b2n b = 1 ↔ b = true := by cases b <;> simp

theorem b2n_eq_zero {b : Bool} : b2n b = 0 ↔ b = false := by cases b <;> simp

/-- Settles O53: each permit field shows the mask or the flag of its rule, and the run permit's fall clears CONV_EN. -/
theorem permitsNeedEveryCondition : Obligations.PermitsNeedEveryCondition := by
  unfold Obligations.PermitsNeedEveryCondition
  refine ⟨?low, ?granted, ?run, ?conv, U.permits_rd_hsOut⟩
  case low =>
    intro u k hk
    rw [U.permits_lowSide u hk, U.lowSide_iff]
  case granted =>
    intro u k hk
    rw [U.permits_channelOn u hk, U.permits_lowSide u hk, U.channelOn]
  case run =>
    intro u
    rw [U.permits_rd_runOk, b2n_eq_one, U.roleGranted_iff]
    exact and_congr_right fun _ => forall₂_congr fun k hk => by rw [U.permits_channelOn u hk]
  case conv =>
    intro u hwas hnow
    rw [U.permits_rd_runOk, b2n_eq_zero] at hnow
    rw [U.permits_rd_convEn, hnow, U.on, hwas]
    rfl

end Sys2Proof.Machine
end

section
/-! PROOFS. A trip of the signal box (R471) and an avalanche (R139 to R141, R607): what each leaves in the registers and sends. -/
namespace Sys2Proof.Machine

/-! ### A trip -/

theorem U.showPermits_sbx (u : U) : u.showPermits.sbx = u.sbx := by
  simp only [U.showPermits, U.put_eq, U.wr_sbx]

theorem U.showPermits_out (u : U) : u.showPermits.out = u.out := by
  simp only [U.showPermits, U.put_eq, U.wr_out]

theorem U.permits_supply (u : U) : u.permits.sbx.supply = u.sbx.supply := by
  rw [U.permits_eq]
  split
  · rw [U.wr_sbx, U.withSbx_sbx, U.showPermits_sbx]
  · rw [U.withSbx_sbx, U.showPermits_sbx]

theorem U.permits_out (u : U) : u.permits.out = u.out := by
  rw [U.permits_eq]
  split
  · rw [U.wr_out, U.withSbx_out, U.showPermits_out]
  · rw [U.withSbx_out, U.showPermits_out]

/-- The signal box as a trip leaves it before its permits follow (R471). -/
def U.boxTripped (u : U) : U :=
  let v := ((u.wr R.SBX_STATE_TRIPPED 1).wr R.SBX_STATE_AV_OUT 1).wr R.SBX_HS_HS 0
  let w := if v.on R.SBX_TRIP_LINE_VALID then v else
    match v.tripLine with
    | some n => (v.wr R.SBX_TRIP_LINE_LINE n).wr R.SBX_TRIP_LINE_VALID 1
    | none => v
  w.withSbx (fun b => { b with pulse := none })

theorem U.tripCore_eq (u : U) : u.tripCore = if u.sbx.supply then u.boxTripped.permits else u := by
  unfold U.tripCore
  cases u.sbx.supply <;> rfl

/-- A trip writes TRIPPED, the avalanche output and SBX_HS, and the line that tripped. -/
theorem U.boxTripped_cases (u : U) : ∃ v : U, u.boxTripped = v.withSbx (fun b => { b with pulse := none }) ∧
    (v = ((u.wr R.SBX_STATE_TRIPPED 1).wr R.SBX_STATE_AV_OUT 1).wr R.SBX_HS_HS 0 ∨
      ∃ n, v = ((((u.wr R.SBX_STATE_TRIPPED 1).wr R.SBX_STATE_AV_OUT 1).wr R.SBX_HS_HS 0).wr R.SBX_TRIP_LINE_LINE n).wr
        R.SBX_TRIP_LINE_VALID 1) := by
  unfold U.boxTripped
  dsimp only
  split
  · exact ⟨_, rfl, .inl rfl⟩
  · split
    · exact ⟨_, rfl, .inr ⟨_, rfl⟩⟩
    · exact ⟨_, rfl, .inl rfl⟩

theorem U.boxTripped_rd_open (u : U) {f : Fld} (hl : f.key ≠ R.SBX_TRIP_LINE_LINE.key) (hv : f.key ≠ R.SBX_TRIP_LINE_VALID.key) :
    u.boxTripped.rd f = (((u.wr R.SBX_STATE_TRIPPED 1).wr R.SBX_STATE_AV_OUT 1).wr R.SBX_HS_HS 0).rd f := by
  obtain ⟨v, he, rfl | ⟨n, rfl⟩⟩ := u.boxTripped_cases
  · rw [he, U.rd_withSbx]
  · rw [he, U.rd_withSbx, U.rd_wr_ne _ _ hv, U.rd_wr_ne _ _ hl]

theorem U.boxTripped_tripped (u : U) : u.boxTripped.rd R.SBX_STATE_TRIPPED = 1 := by
  rw [U.boxTripped_rd_open _ (by decide) (by decide)]
  simp (disch := decide) [U.rd_wr_ne]

theorem U.boxTripped_avOut (u : U) : u.boxTripped.rd R.SBX_STATE_AV_OUT = 1 := by
  rw [U.boxTripped_rd_open _ (by decide) (by decide)]
  simp (disch := decide) [U.rd_wr_ne]

theorem U.boxTripped_hs (u : U) : u.boxTripped.rd R.SBX_HS_HS = 0 := by
  rw [U.boxTripped_rd_open _ (by decide) (by decide), U.rd_wr_same]
  rfl

theorem U.boxTripped_rd (u : U) {f : Fld} (h : f.key ∉ tripKeys) : u.boxTripped.rd f = u.rd f := by
  simp only [tripKeys, List.mem_cons, List.not_mem_nil, or_false, not_or] at h
  obtain ⟨h1, h2, h3, h4, h5⟩ := h
  rw [U.boxTripped_rd_open _ h4 h5, U.rd_wr_ne _ _ h3, U.rd_wr_ne _ _ h2, U.rd_wr_ne _ _ h1]

@[simp] theorem U.boxTripped_supply (u : U) : u.boxTripped.sbx.supply = u.sbx.supply := by
  obtain ⟨v, hv, rfl | ⟨n, rfl⟩⟩ := u.boxTripped_cases <;> rw [hv] <;> rfl

@[simp] theorem U.boxTripped_out (u : U) : u.boxTripped.out = u.out := by
  obtain ⟨v, hv, rfl | ⟨n, rfl⟩⟩ := u.boxTripped_cases <;> rw [hv] <;> rfl

/-- A trip and, where it sets the avalanche output, the signal box as a source of the avalanche (R607): how an avalanche and a fault of class
3 end. -/
def U.tripSource (u : U) : U := if u.on R.SBX_STATE_AV_OUT then u.tripCore else u.tripCore.avAdd 0

theorem U.tripSource_rd (u : U) {f : Fld} (h : f.key ≠ R.DEP_AV_SRC_SRC.key) : u.tripSource.rd f = u.tripCore.rd f := by
  unfold U.tripSource
  split
  · rfl
  · exact U.rd_wr_ne _ _ h

theorem U.tripSource_out (u : U) : u.tripSource.out = u.out := by
  have hcore : u.tripCore.out = u.out := by rw [U.tripCore_eq]; split <;> simp only [U.permits_out, U.boxTripped_out]
  unfold U.tripSource
  split <;> exact hcore

/-- What a trip does not write stands. -/
theorem U.tripSource_rd_keeps (u : U) {f : Fld} (hp : f.key ∉ permitKeys) (ht : f.key ∉ tripKeys) (hs : f.key ≠ R.DEP_AV_SRC_SRC.key) :
    u.tripSource.rd f = u.rd f := by
  rw [U.tripSource_rd _ hs, U.tripCore_rd _ hp ht]

/-- A trip leaves a cleared CONV_EN cleared. -/
theorem U.tripSource_convEn {u : U} (h : u.rd R.DEP_CTL_CONV_EN = 0) : u.tripSource.rd R.DEP_CTL_CONV_EN = 0 := by
  rw [U.tripSource_rd _ (by decide), U.tripCore_eq]
  split
  · rw [U.permits_rd_convEn, U.boxTripped_rd _ (by decide), h, ite_self]
  · exact h

theorem chTrip_notTripKeys : ∀ k < 8, (R.SBX_CH_TRIP k).key ∉ tripKeys := by decide

section Supply
variable {u : U} (hs : u.sbx.supply = true)
include hs

theorem U.tripCore_supplied : u.tripCore = u.boxTripped.permits := by rw [U.tripCore_eq, if_pos hs]

theorem U.tripSource_supply : u.tripSource.sbx.supply = true := by
  have hcore : u.tripCore.sbx.supply = true := by rw [U.tripCore_supplied hs, U.permits_supply, U.boxTripped_supply, hs]
  unfold U.tripSource
  split <;> exact hcore

theorem U.tripSource_tripped : u.tripSource.rd R.SBX_STATE_TRIPPED = 1 := by
  rw [U.tripSource_rd _ (by decide), U.tripCore_supplied hs, U.permits_rd _ (by decide), U.boxTripped_tripped]

theorem U.tripSource_avOut : u.tripSource.rd R.SBX_STATE_AV_OUT = 1 := by
  rw [U.tripSource_rd _ (by decide), U.tripCore_supplied hs, U.permits_rd _ (by decide), U.boxTripped_avOut]

theorem U.tripSource_hs : u.tripSource.rd R.SBX_HS_HS = 0 := by
  rw [U.tripSource_rd _ (by decide), U.tripCore_supplied hs, U.permits_rd _ (by decide), U.boxTripped_hs]

/-- The low side of a channel with TRIP 1 opens. -/
theorem U.tripSource_lowSide {k : Nat} (hk : k < 8) (ht : u.rd (R.SBX_CH_TRIP k) ≠ 0) :
    bitAt (u.tripSource.rd R.SBX_PERM_LS) k = false := by
  rw [U.tripSource_rd _ (by decide), U.tripCore_supplied hs, U.permits_lowSide _ hk, Bool.eq_false_iff, ne_eq, U.lowSide_iff]
  rintro ⟨-, -, -, -, htrip, -⟩
  rw [U.boxTripped_tripped, U.boxTripped_rd _ (chTrip_notTripKeys k hk)] at htrip
  exact htrip.elim Nat.one_ne_zero ht

end Supply

/-! ### The control blocks of an avalanche -/

theorem U.foldl_emit (l : List Nat) (f : Nat → Output) (u : U) :
    l.foldl (fun (u : U) n => u.emit (f n)) u = { u with out := u.out ++ l.map f } := by
  induction l generalizing u with
  | nil => simp
  | cons n l ih => rw [List.foldl_cons, ih, U.emit_out, List.map_cons, List.append_assoc]; rfl

/-- The pre-emption of a mirror frame touches Siding and what is sent alone. -/
theorem U.cutSiding_eq (u : U) : ∃ x o, u.cutSiding = { u with sdl := x, out := o } := by
  unfold U.cutSiding
  split
  · exact ⟨u.sdl, u.out, rfl⟩
  · dsimp only
    split
    · exact ⟨_, u.out, rfl⟩
    · exact ⟨_, _, rfl⟩

/-- The avalanche control blocks are sent on every enabled lane, and nothing but Siding changes. -/
theorem U.avalancheSend_eq (u : U) (siding : Bool) : ∃ x o, u.avalancheSend siding = { u with sdl := x, out := o } ∧
    ∀ n < (if siding then 100 else 96), u.on (R.LNS_CTL_EN (laneBase n)) = true → Output.mainline n avalancheBlocks ∈ o := by
  obtain ⟨x, o, hx⟩ : ∃ x o, (if siding then u.cutSiding else u) = { u with sdl := x, out := o } := by
    cases siding
    · exact ⟨u.sdl, u.out, rfl⟩
    · exact u.cutSiding_eq
  rw [U.avalancheSend, hx, U.foldl_emit]
  refine ⟨_, _, rfl, fun n hn he => List.mem_append_right _ (List.mem_map.mpr ⟨n, ?_, rfl⟩)⟩
  exact List.mem_filter.mpr ⟨List.mem_range.mpr hn, he⟩

/-! ### The cells of an arm under an avalanche (R54, R86) -/

/-- The unit without SRAM and the arm engines. -/
def U.offLedger (u : U) : U := { u with mem := [], memh := .zero, arms := [] }

theorem U.offLedger_lgw (u : U) (cid off n v : Nat) : (u.lgw cid off n v).offLedger = u.offLedger := rfl
theorem U.offLedger_setArm (u : U) (a : Nat) (f : ArmHid → ArmHid) : (u.setArm a f).offLedger = u.offLedger := rfl

theorem U.offLedger_foldl {α : Type} {f : U → α → U} (hf : ∀ u e, (f u e).offLedger = u.offLedger) (l : List α) (u : U) :
    (l.foldl f u).offLedger = u.offLedger := by
  induction l generalizing u with
  | nil => rfl
  | cons e l ih => rw [List.foldl_cons, ih, hf]

theorem U.offLedger_chgMember (u : U) (e : Nat × CellCfg) (dn : Nat) (b : Bool) : (u.chgMember e dn b).offLedger = u.offLedger := by
  unfold U.chgMember
  split
  · rfl
  · rw [U.lgInc, U.offLedger_lgw, U.offLedger_lgw, U.setMember, U.setSel, U.offLedger_lgw]

theorem U.offLedger_advanceBlock (u : U) (b : Nat) (c : CellCfg) (p : Int × Nat) : (u.advanceBlock b c p).offLedger = u.offLedger := by
  rw [U.advanceBlock, U.setHist, U.offLedger_lgw, U.setRec, U.recWrite, U.setFlags, U.offLedger_lgw, U.setW, U.offLedger_lgw, U.setW,
    U.offLedger_lgw, U.offLedger_lgw]

theorem U.offLedger_armAvalanche (u : U) (b a : Nat) : (u.armAvalanche b a).offLedger = u.offLedger := by
  have hmembers : ∀ v : U, (v.clearMembers a (u.arm a).planDn).offLedger = v.offLedger := fun v =>
    U.offLedger_foldl (fun v e => U.offLedger_chgMember v e _ _) _ v
  unfold U.armAvalanche
  dsimp only
  rw [apply_ite U.offLedger, hmembers, ite_self]
  split
  · split
    · rw [U.offLedger_setArm, U.offLedger_foldl (fun v _ => U.offLedger_advanceBlock v b _ _), U.offLedger_setArm]
    · rfl
  · rfl

/-! ### An avalanche -/

/-- An avalanche that is not latched, or that comes while clearing departures are sent, up to the record of its cause (R140). -/
def U.avalancheStart (u : U) (t : TimeBase) (bit detail : Nat) : U :=
  let v := (((u.avalancheSend (bit != 4)).wr R.DEP_CTL_CONV_EN 0).wr R.DEP_STATUS_AV_LATCHED 1).wr R.DEP_STATUS_CLR_SENDING 0
  let w := v.withDep (fun d => { d with clrLeft := 0, clrAt := none })
  let x := ((List.range 12).filter w.topo.armOn).foldl (fun (x : U) a => x.armAvalanche t.dn a) w
  ((((x.wr R.DEP_AV_SRC_SRC (2 ^ bit)).wr R.DEP_AV_SRC_FIRST_SRC (bit + 1)).wr R.DEP_AV_SRC_DETAIL detail).wr
    R.DEP_AV_TSL_TS_LO t.ts64).wr R.DEP_AV_TSH_TS_HI (t.ts64 / 2 ^ 32)

/-- The record of AVALANCHE, as capture and snapshots see it. -/
def U.avalancheRecorded (u : U) (t : TimeBase) : U := (u.record t.ts64 DEP.AVALANCHE (some 3) []).2.faultSeen 3

theorem U.avalanche_first {u : U} (t : TimeBase) (bit detail : Nat)
    (h : u.on R.DEP_STATUS_AV_LATCHED = false ∨ u.on R.DEP_STATUS_CLR_SENDING = true) :
    u.avalanche t bit detail = ((u.avalancheStart t bit detail).avalancheRecorded t).tripSource := by
  refine (if_neg ?_).trans rfl
  rcases h with h | h <;> simp [h]

/-- A further source sets its bit and does nothing else (R607). -/
theorem U.avalanche_further {u : U} (t : TimeBase) (bit detail : Nat) (hl : u.on R.DEP_STATUS_AV_LATCHED = true)
    (hc : u.on R.DEP_STATUS_CLR_SENDING = false) : u.avalanche t bit detail = u.avAdd bit := if_pos (by simp [hl, hc])

/-- The cells of the arms go on as BLOCK in SRAM and in the arm engines alone. -/
theorem U.avalancheArms_offLedger (u : U) (b : Nat) (l : List Nat) :
    (l.foldl (fun (x : U) a => x.armAvalanche b a) u).offLedger = u.offLedger :=
  U.offLedger_foldl (fun x a => U.offLedger_armAvalanche x b a) l u

theorem U.avalancheArms_rd (u : U) (b : Nat) (l : List Nat) (f : Fld) : (l.foldl (fun (x : U) a => x.armAvalanche b a) u).rd f = u.rd f := by
  have h := congrArg (fun v : U => v.rd f) (U.avalancheArms_offLedger u b l)
  exact h

theorem U.avalancheArms_sbx (u : U) (b : Nat) (l : List Nat) : (l.foldl (fun (x : U) a => x.armAvalanche b a) u).sbx = u.sbx := by
  have h := congrArg U.sbx (U.avalancheArms_offLedger u b l)
  exact h

theorem U.avalancheArms_out (u : U) (b : Nat) (l : List Nat) : (l.foldl (fun (x : U) a => x.armAvalanche b a) u).out = u.out := by
  have h := congrArg U.out (U.avalancheArms_offLedger u b l)
  exact h

/-- The fields that the start of an avalanche writes. -/
def avalancheKeys : List Nat :=
  [R.DEP_CTL_CONV_EN.key, R.DEP_STATUS_AV_LATCHED.key, R.DEP_STATUS_CLR_SENDING.key, R.DEP_AV_SRC_SRC.key, R.DEP_AV_SRC_FIRST_SRC.key,
   R.DEP_AV_SRC_DETAIL.key, R.DEP_AV_TSL_TS_LO.key, R.DEP_AV_TSH_TS_HI.key]

section Start
variable (u : U) (t : TimeBase) (bit detail : Nat)

theorem U.avalancheStart_rd {f : Fld} (h : f.key ∉ avalancheKeys) : (u.avalancheStart t bit detail).rd f = u.rd f := by
  simp only [avalancheKeys, List.mem_cons, List.not_mem_nil, or_false, not_or] at h
  obtain ⟨h1, h2, h3, h4, h5, h6, h7, h8⟩ := h
  obtain ⟨x, o, hsend, -⟩ := u.avalancheSend_eq (bit != 4)
  unfold U.avalancheStart
  rw [U.rd_wr_ne _ _ h8, U.rd_wr_ne _ _ h7, U.rd_wr_ne _ _ h6, U.rd_wr_ne _ _ h5, U.rd_wr_ne _ _ h4,
    U.avalancheArms_rd, U.rd_withDep, U.rd_wr_ne _ _ h3, U.rd_wr_ne _ _ h2, U.rd_wr_ne _ _ h1, hsend]
  rfl

theorem U.avalancheStart_convEn : (u.avalancheStart t bit detail).rd R.DEP_CTL_CONV_EN = 0 := by
  unfold U.avalancheStart
  simp (disch := decide) only [U.rd_wr_ne, U.avalancheArms_rd, U.rd_withDep]
  exact (U.rd_wr_same _ _ _).trans (by decide)

theorem U.avalancheStart_latched : (u.avalancheStart t bit detail).rd R.DEP_STATUS_AV_LATCHED = 1 := by
  unfold U.avalancheStart
  simp (disch := decide) only [U.rd_wr_ne, U.avalancheArms_rd, U.rd_withDep]
  exact (U.rd_wr_same _ _ _).trans (by decide)

theorem U.avalancheStart_firstSrc (hb : bit < 7) : (u.avalancheStart t bit detail).rd R.DEP_AV_SRC_FIRST_SRC = bit + 1 := by
  unfold U.avalancheStart
  simp (disch := decide) only [U.rd_wr_ne, U.rd_wr_same]
  exact Nat.mod_eq_of_lt (by omega)

theorem U.avalancheStart_tsLo : (u.avalancheStart t bit detail).rd R.DEP_AV_TSL_TS_LO = t.ts64 % 2 ^ 32 := by
  unfold U.avalancheStart
  simp (disch := decide) only [U.rd_wr_ne, U.rd_wr_same]

theorem U.avalancheStart_supply : (u.avalancheStart t bit detail).sbx.supply = u.sbx.supply := by
  obtain ⟨x, o, hsend, -⟩ := u.avalancheSend_eq (bit != 4)
  unfold U.avalancheStart
  rw [U.wr_sbx, U.wr_sbx, U.wr_sbx, U.wr_sbx, U.wr_sbx, U.avalancheArms_sbx, U.withDep_sbx, U.wr_sbx, U.wr_sbx, U.wr_sbx, hsend]

/-- The control blocks have gone out on every enabled lane, on Siding but for an avalanche from there (R140, R141). -/
theorem U.avalancheStart_sent {n : Nat} (hn : n < if bit = 4 then 96 else 100) (he : u.on (R.LNS_CTL_EN (laneBase n)) = true) :
    Output.mainline n avalancheBlocks ∈ (u.avalancheStart t bit detail).out := by
  obtain ⟨x, o, hsend, hall⟩ := u.avalancheSend_eq (bit != 4)
  unfold U.avalancheStart
  rw [U.wr_out, U.wr_out, U.wr_out, U.wr_out, U.wr_out, U.avalancheArms_out, U.withDep_out, U.wr_out, U.wr_out, U.wr_out, hsend]
  refine hall n ?_ he
  by_cases hb : bit = 4 <;> simpa [hb] using hn

end Start

/-! ### What is left once the cause is recorded and the signal box has tripped -/

section Recorded
variable (u : U) (t : TimeBase)

theorem U.avalancheRecorded_rd {f : Fld} (h1 : f.key ≠ (B.DEP.status 2).key) (h : f.key ∉ DEP.AVALANCHE.touches []) :
    (u.avalancheRecorded t).rd f = u.rd f := by
  rw [U.avalancheRecorded, U.faultSeen_rd, U.record_rd _ _ _ _ _ h1 h]

theorem U.avalancheRecorded_status : (u.avalancheRecorded t).rd (B.DEP.status 2) = 1 := by
  rw [U.avalancheRecorded, U.faultSeen_rd]
  exact U.record_status u t.ts64 DEP.AVALANCHE (some 3) [] (by decide)

theorem U.avalancheRecorded_out : (u.avalancheRecorded t).out = u.out := by
  rw [U.avalancheRecorded, U.faultSeen_out, U.record_out]

theorem U.faultSeen_sbx (cls : Nat) : (u.faultSeen cls).sbx = u.sbx := by
  have h := congrArg U.sbx (U.faultSeen_unseen u cls)
  exact h

theorem U.record_sbx (ts : Nat) (c : Cause) (base : Option Nat) (d : List (Nat × Nat × Nat)) : (u.record ts c base d).2.sbx = u.sbx := by
  have h := congrArg U.sbx (U.unraised_record u ts c base d)
  exact h

theorem U.avalancheRecorded_sbx : (u.avalancheRecorded t).sbx = u.sbx := by
  rw [U.avalancheRecorded, U.faultSeen_sbx, U.record_sbx]

end Recorded

theorem U.avalancheTrips_supply {u : U} (t : TimeBase) (bit detail : Nat) (hs : u.sbx.supply = true) :
    ((u.avalancheStart t bit detail).avalancheRecorded t).sbx.supply = true := by
  rw [U.avalancheRecorded_sbx, U.avalancheStart_supply, hs]

section First
variable {u : U} (t : TimeBase) (bit detail : Nat)
  (h : u.on R.DEP_STATUS_AV_LATCHED = false ∨ u.on R.DEP_STATUS_CLR_SENDING = true)
include h

/-- A field that neither the record of the cause nor the trip writes is as the start of the avalanche leaves it. -/
theorem U.avalanche_rd_start {f : Fld} (h1 : f.key ≠ (B.DEP.status 2).key) (hr : f.key ∉ DEP.AVALANCHE.touches []) (hp : f.key ∉ permitKeys)
    (ht : f.key ∉ tripKeys) (hs : f.key ≠ R.DEP_AV_SRC_SRC.key) :
    (u.avalanche t bit detail).rd f = (u.avalancheStart t bit detail).rd f := by
  rw [U.avalanche_first t bit detail h, U.tripSource_rd_keeps _ hp ht hs, U.avalancheRecorded_rd _ _ h1 hr]

theorem U.avalanche_latched : (u.avalanche t bit detail).rd R.DEP_STATUS_AV_LATCHED = 1 := by
  rw [U.avalanche_rd_start t bit detail h (by decide) (by decide) (by decide) (by decide) (by decide), U.avalancheStart_latched]

theorem U.avalanche_firstSrc (hb : bit < 7) : (u.avalanche t bit detail).rd R.DEP_AV_SRC_FIRST_SRC = bit + 1 := by
  rw [U.avalanche_rd_start t bit detail h (by decide) (by decide) (by decide) (by decide) (by decide), U.avalancheStart_firstSrc _ _ _ _ hb]

theorem U.avalanche_tsLo : (u.avalanche t bit detail).rd R.DEP_AV_TSL_TS_LO = t.ts64 % 2 ^ 32 := by
  rw [U.avalanche_rd_start t bit detail h (by decide) (by decide) (by decide) (by decide) (by decide), U.avalancheStart_tsLo]

theorem U.avalanche_convEn : (u.avalanche t bit detail).rd R.DEP_CTL_CONV_EN = 0 := by
  rw [U.avalanche_first t bit detail h]
  exact U.tripSource_convEn (by rw [U.avalancheRecorded_rd _ _ (by decide) (by decide), U.avalancheStart_convEn])

theorem U.avalanche_status : (u.avalanche t bit detail).rd (B.DEP.status 2) = 1 := by
  rw [U.avalanche_first t bit detail h, U.tripSource_rd_keeps _ (by decide) (by decide) (by decide), U.avalancheRecorded_status]

theorem U.avalanche_sent {n : Nat} (hn : n < if bit = 4 then 96 else 100) (he : u.on (R.LNS_CTL_EN (laneBase n)) = true) :
    Output.mainline n avalancheBlocks ∈ (u.avalanche t bit detail).out := by
  rw [U.avalanche_first t bit detail h, U.tripSource_out, U.avalancheRecorded_out]
  exact U.avalancheStart_sent u t bit detail hn he

theorem U.avalanche_tripped (hs : u.sbx.supply = true) : (u.avalanche t bit detail).rd R.SBX_STATE_TRIPPED = 1 := by
  rw [U.avalanche_first t bit detail h, U.tripSource_tripped (U.avalancheTrips_supply t bit detail hs)]

theorem U.avalanche_avOut (hs : u.sbx.supply = true) : (u.avalanche t bit detail).rd R.SBX_STATE_AV_OUT = 1 := by
  rw [U.avalanche_first t bit detail h, U.tripSource_avOut (U.avalancheTrips_supply t bit detail hs)]

end First

/-! ### A fault of final class 3 -/

/-- An avalanche, latched before or not, leaves the supply of the signal box and what is set of its channels. -/
theorem U.avalanche_supply {u : U} (t : TimeBase) (bit detail : Nat) (hs : u.sbx.supply = true) :
    (u.avalanche t bit detail).sbx.supply = true := by
  by_cases h : u.on R.DEP_STATUS_AV_LATCHED = false ∨ u.on R.DEP_STATUS_CLR_SENDING = true
  · rw [U.avalanche_first t bit detail h]
    exact U.tripSource_supply (U.avalancheTrips_supply t bit detail hs)
  · simp only [not_or, Bool.not_eq_false, Bool.not_eq_true] at h
    rw [U.avalanche_further t bit detail h.1 h.2]
    exact hs

theorem U.avalanche_isLatched (u : U) (t : TimeBase) (bit detail : Nat) :
    (u.avalanche t bit detail).rd R.DEP_STATUS_AV_LATCHED = 1 := by
  by_cases h : u.on R.DEP_STATUS_AV_LATCHED = false ∨ u.on R.DEP_STATUS_CLR_SENDING = true
  · exact U.avalanche_latched t bit detail h
  · simp only [not_or, Bool.not_eq_false, Bool.not_eq_true] at h
    rw [U.avalanche_further t bit detail h.1 h.2, U.avAdd, U.rd_wr_ne _ _ (by decide)]
    have hlt := u.rd_lt R.DEP_STATUS_AV_LATCHED
    have hon : u.rd R.DEP_STATUS_AV_LATCHED ≠ 0 := by simpa [U.on] using h.1
    exact Nat.le_antisymm (Nat.le_of_lt_succ hlt) (Nat.one_le_iff_ne_zero.mpr hon)

theorem chTrip_apart : ∀ k < 8, (R.SBX_CH_TRIP k).key ∉ avalancheKeys ∧ (R.SBX_CH_TRIP k).key ≠ (B.DEP.status 2).key ∧
    (R.SBX_CH_TRIP k).key ∉ DEP.AVALANCHE.touches [] ∧ (R.SBX_CH_TRIP k).key ∉ permitKeys ∧ (R.SBX_CH_TRIP k).key ∉ tripKeys ∧
    (R.SBX_CH_TRIP k).key ≠ R.DEP_AV_SRC_SRC.key := by decide

theorem U.avalanche_chTrip (u : U) (t : TimeBase) (bit detail : Nat) {k : Nat} (hk : k < 8) :
    (u.avalanche t bit detail).rd (R.SBX_CH_TRIP k) = u.rd (R.SBX_CH_TRIP k) := by
  obtain ⟨ha, h1, hr, hp, ht, hs⟩ := chTrip_apart k hk
  by_cases h : u.on R.DEP_STATUS_AV_LATCHED = false ∨ u.on R.DEP_STATUS_CLR_SENDING = true
  · rw [U.avalanche_rd_start t bit detail h h1 hr hp ht hs, U.avalancheStart_rd _ _ _ _ ha]
  · simp only [not_or, Bool.not_eq_false, Bool.not_eq_true] at h
    rw [U.avalanche_further t bit detail h.1 h.2, U.avAdd, U.rd_wr_ne _ _ hs]

theorem U.classAct_three (u : U) (t : TimeBase) (src : Nat) : u.classAct t 3 src = (u.avalanche t 5 src).tripSource := rfl

/-- A cause recorded at final class 3 is seen by capture and snapshots, starts an avalanche and trips the signal box (R447). -/
theorem U.raiseAt_three {u w : U} {t : TimeBase} {c : Cause} {b : Nat} {d : List (Nat × Nat × Nat)}
    (h : u.record t.ts64 c (some b) d = (3, w)) : u.raiseAt t c (some b) d = ((w.faultSeen 3).avalanche t 5 c.src).tripSource := by
  rw [← U.classAct_three]
  simp [U.raiseAt, h]

/-- Settles O54: the avalanche leads to the latched fields and the control blocks, the trip behind it to the signal box's. -/
theorem classThreeTrips : Obligations.ClassThreeTrips := by
  unfold Obligations.ClassThreeTrips
  rintro u _ w t c b d hrec rfl hsupply
  have hw : (w.faultSeen 3).sbx.supply = true := by
    have h := U.record_sbx u t.ts64 c (some b) d
    rw [hrec] at h
    rw [U.faultSeen_sbx, h, hsupply]
  have hx := U.avalanche_supply t 5 c.src hw
  rw [U.raiseAt_three hrec]
  refine ⟨U.tripSource_tripped hx, U.tripSource_avOut hx, U.tripSource_hs hx, ?latched, ?low, ?first⟩
  case latched => rw [U.tripSource_rd_keeps _ (by decide) (by decide) (by decide), U.avalanche_isLatched]
  case low =>
    intro k hk ht
    exact U.tripSource_lowSide hx hk (by rwa [U.avalanche_chTrip _ _ _ _ hk, U.faultSeen_rd])
  case first =>
    intro hnot
    have h : (w.faultSeen 3).on R.DEP_STATUS_AV_LATCHED = false ∨ (w.faultSeen 3).on R.DEP_STATUS_CLR_SENDING = true :=
      .inl (by rw [U.on, U.faultSeen_rd, hnot]; rfl)
    refine ⟨U.tripSource_convEn (U.avalanche_convEn t 5 c.src h), ?_, fun n hn he => ?_⟩
    · rw [U.tripSource_rd_keeps _ (by decide) (by decide) (by decide), U.avalanche_firstSrc t 5 c.src h (by decide)]
    · rw [U.tripSource_out]
      exact U.avalanche_sent t 5 c.src h hn (by rwa [U.on, U.faultSeen_rd])

end Sys2Proof.Machine
end

section
/-! PROOFS. CONV_EN written 1 under a flash stream (R119, R396), the avalanche commands (R139 to R146, R607). -/
namespace Sys2Proof.Machine

/-! ### CONV_EN under a flash stream -/

/-- A unit that meets R119 while its capture engine streams to flash: departures RUNNING, the run permit, role ACTIVE; capture in STREAM with
SINK 1. -/
def flashStreamUnit : U :=
  [(R.TIM_DEP_CTL_STATE, 2), (R.SYS_CFG_CFG_DEFAULT, 0), (R.SBX_STATE_RUN_OK, 1), (R.SDL_ROLE_ROLE, 3), (R.CAP_STATE_STATE, 4),
    (R.CAP_CTL_SINK, 1)].foldl (fun u e => u.wr e.1 e.2) U.afterReset

def flashStreamState : State := { State.reset with u := flashStreamUnit }

theorem flashStream_meetsConvOk : flashStreamState.u.held = false ∧ flashStreamState.u.on R.DEP_CTL_CONV_EN = false ∧
    flashStreamState.u.convOk = true := by decide +kernel

/-- Whether an answer leaves the mark that the flash stream ends at its next row with STOP_CONV (R396). -/
def endsFlashStream : Answer → Bool
  | .next t => t.u.cap.conv
  | _ => false

theorem flashStream_convEn_endsStream : endsFlashStream (exec (.convEnWrite true) flashStreamState) = true := by decide +kernel

theorem flashStream_convEnAlone_keepsStream :
    endsFlashStream (.next (flashStreamState.after (flashStreamState.u.wr R.DEP_CTL_CONV_EN 1))) = false := by decide +kernel

/-- Refutes O8: an accepted write of 1 to CONV_EN marks a running flash stream, which then ends at its next row (R396); the second clause says
that it changes CONV_EN alone. -/
theorem not_converterAndForceCommandsComplete : ¬ Obligations.ConverterAndForceCommandsComplete := by
  unfold Obligations.ConverterAndForceCommandsComplete
  rintro ⟨-, haccepted, -⟩
  obtain ⟨hheld, hoff, hok⟩ := flashStream_meetsConvOk
  have h := congrArg endsFlashStream (haccepted flashStreamState hheld hoff hok)
  rw [flashStream_convEn_endsStream, flashStream_convEnAlone_keepsStream] at h
  exact Bool.noConfusion h

/-! ### The sources of an avalanche (R139, R141, R607) -/

/-- The commands by which a source reaches the departure unit, with the bit of each: FIRE, and an avalanche block from the peer. -/
inductive AvalancheSource (u : U) : Nat → Instr → Prop
  | fire : AvalancheSource u 1 .avFire
  | peer (h : u.sidingUp ≠ 0) : AvalancheSource u 4 (.peerAvalancheRx avalancheBlock)

theorem exec_peerAvalancheRx_heard {s : State} {b : Block} (hw : (Instr.peerAvalancheRx b).wf = true) (hh : s.u.held = false) :
    exec (.peerAvalancheRx b) s = .next (s.after (s.u.peerAvalanche s.time b)) := by
  rw [exec_peerAvalancheRx, execPeerAvalancheRx, State.onUnit_after _ hw (by rw [U.deaf_whole rfl, hh])]

theorem AvalancheSource.bit_lt {u : U} {bit : Nat} {c : Instr} (h : AvalancheSource u bit c) : bit < 7 := by cases h <;> decide

theorem AvalancheSource.exec {s : State} {bit : Nat} {c : Instr} (h : AvalancheSource s.u bit c) (hh : s.u.held = false) :
    exec c s = .next (s.after (s.u.avalanche s.time bit 0)) := by
  cases h with
  | fire =>
    rw [exec_avFire, execAvFire, State.onUnit_after _ rfl (by rw [U.deaf_whole rfl, hh])]
    rfl
  | peer hup =>
    rw [exec_peerAvalancheRx_heard (by decide) hh, U.peerAvalanche, if_pos (by simpa using hup)]

/-- Another block, and one that comes while no Siding lane is UP, is no avalanche. -/
theorem U.peerAvalanche_ignored {u : U} (t : TimeBase) {b : Block} (h : u.sidingUp = 0 ∨ b ≠ avalancheBlock) : u.peerAvalanche t b = u := by
  refine if_neg ?_
  rcases h with h | h <;> simp [h]

/-! ### CLEAR (R144) -/

theorem exec_avClear_heard {s : State} (hh : s.u.held = false) : exec .avClear s = .next (s.after (s.u.avClear s.time)) := by
  rw [exec_avClear, execAvClear, State.onUnit_after _ rfl (by rw [U.deaf_whole rfl, hh])]

section Clear
variable {u : U} (t : TimeBase) (hp : u.on R.SDL_ROLE_CLR_PEND = false)
include hp

theorem U.avClear_starts (hc : u.clearOk = true) (hv : u.on R.SDL_ROLE_PEER_VALID = false) :
    u.avClear t = u.withDep (fun d => { d with clrAt := some ((t.nextTen + 20) % 2 ^ 32) }) := by
  simp only [U.avClear, hp, hc, hv, Bool.not_true, Bool.false_eq_true, if_false]

/-- A valid peer is asked first (R508). -/
theorem U.avClear_asks (hc : u.clearOk = true) (hv : u.on R.SDL_ROLE_PEER_VALID = true) :
    u.avClear t = (u.wr R.SDL_ROLE_CLR_PEND 1).withSdl (fun x => { x with clrWait := some 0 }) := by
  simp only [U.avClear, hp, hc, hv, Bool.not_true, Bool.false_eq_true, if_false, if_true]

theorem U.avClear_refused (hc : u.clearOk = false) (hv : u.on R.SDL_ROLE_PEER_VALID = false) :
    u.avClear t = u.raise t DEP.CLR_REJ [] := by
  simp only [U.avClear, hp, hc, hv, Bool.not_false, Bool.false_eq_true, if_false, if_true]

/-- A refusal is told to a valid peer. -/
theorem U.avClear_refusedTold (hc : u.clearOk = false) (hv : u.on R.SDL_ROLE_PEER_VALID = true) :
    u.avClear t = (u.withSdl (fun x => { x with clrAns := some false })).raise t DEP.CLR_REJ [] := by
  simp only [U.avClear, hp, hc, hv, Bool.not_false, Bool.false_eq_true, if_false, if_true]

end Clear

/-! ### Clearing runs (R145, R146) -/

theorem exec_clearRunEnd_heard {s : State} (hh : s.u.held = false) : exec .clearRunEnd s = .next (s.after s.u.clearRunEnd) := by
  rw [exec_clearRunEnd, execClearRunEnd, State.onUnit_after _ rfl (by rw [U.deaf_whole rfl, hh])]

theorem exec_resetClearRun_heard {s : State} (hh : s.u.held = false) : exec .resetClearRun s = .next (s.after s.u.resetClearRun) := by
  rw [exec_resetClearRun, execResetClearRun, State.onUnit_after _ rfl (by rw [U.deaf_whole rfl, hh])]

section RunEnd
variable {u : U} (hs : u.on R.DEP_STATUS_CLR_SENDING = true) (hl : u.dep.clrLeft = 0)
include hs hl

/-- The end of a clearing run writes registers alone. -/
theorem U.clearRunEnd_eq : u.clearRunEnd = { u with
    regs := (((u.wr R.DEP_STATUS_CLR_SENDING 0).wr R.DEP_STATUS_AV_LATCHED 0).regs).resetRange 0x400300024 0x400300030 } := by
  rw [U.clearRunEnd, if_pos (by simp [hs, hl])]
  rfl

theorem U.clearRunEnd_calm (h : u.Calm) : u.clearRunEnd.Calm := by
  rw [U.clearRunEnd_eq hs hl]
  exact ⟨h.evq, h.shot, h.cur, h.tx⟩

theorem U.clearRunEnd_source {f : Fld} (h1 : 0x400300024 * 32 ≤ f.key) (h2 : f.key < 0x400300030 * 32) :
    u.clearRunEnd.rd f = f.reset % 2 ^ f.width := by
  rw [U.clearRunEnd_eq hs hl]
  exact Regs.get_resetRange_in _ h1 h2

theorem U.clearRunEnd_status {f : Fld} (h : f = R.DEP_STATUS_CLR_SENDING ∨ f = R.DEP_STATUS_AV_LATCHED) : u.clearRunEnd.rd f = 0 := by
  have hout : f.key < 0x400300024 * 32 := by rcases h with rfl | rfl <;> decide
  rw [U.clearRunEnd_eq hs hl]
  refine (Regs.get_resetRange_out _ (.inl hout)).trans ?_
  rcases h with rfl | rfl
  · exact (U.rd_wr_ne _ _ (by decide)).trans (U.rd_wr_same _ _ _)
  · exact U.rd_wr_same _ _ _

end RunEnd

/-- After a reset a unit that sends ORDER frames as OFFLINE or ACTIVE makes one run (R146). -/
theorem U.resetClearRun_starts {u : U} (hr : u.dep.resetRun = false) (hran : u.dep.ranSince = true) (hs : u.sending = true)
    (hrole : u.rd R.SDL_ROLE_ROLE = 0 ∨ u.rd R.SDL_ROLE_ROLE = 3) (hl : u.on R.DEP_STATUS_AV_LATCHED = false) :
    u.resetClearRun = (u.withDep (fun d => { d with clrLeft := 16, resetRun := true })).wr R.DEP_STATUS_CLR_SENDING 1 :=
  if_pos (by simp [hr, hran, hs, hrole, hl])

/-- Settles O9: a source is an avalanche where none is latched, and a bit of SRC otherwise; CLEAR is one case each of its conditions; the end
of a clearing run resets the record of the sources. -/
theorem avalancheCommandsComplete : Obligations.AvalancheCommandsComplete := by
  unfold Obligations.AvalancheCommandsComplete
  have hsource : ∀ {s : State} {bit : Nat} {c : Instr}, (bit = 1 ∧ c = Instr.avFire) ∨
      (bit = 4 ∧ c = Instr.peerAvalancheRx avalancheBlock ∧ s.u.sidingUp ≠ 0) → AvalancheSource s.u bit c := by
    rintro s _ _ (⟨rfl, rfl⟩ | ⟨rfl, rfl, h⟩)
    · exact .fire
    · exact .peer h
  refine ⟨?first, ?further, ?ignored, ?starts, ?asks, ?refused, ?refusedTold, ?runEnd, ?resetRun⟩
  case first =>
    intro s bit c hc hh h
    have hsrc := hsource hc
    exact ⟨_, hsrc.exec hh, U.avalanche_latched _ _ _ h, U.avalanche_convEn _ _ _ h, U.avalanche_firstSrc _ _ _ h hsrc.bit_lt,
      U.avalanche_tsLo _ _ _ h, U.avalanche_status _ _ _ h,
      fun hs => ⟨U.avalanche_tripped _ _ _ h hs, U.avalanche_avOut _ _ _ h hs⟩, fun n hn he => U.avalanche_sent _ _ _ h hn he⟩
  case further =>
    intro s bit c hc hh hl hs
    rw [(hsource hc).exec hh, U.avalanche_further _ _ _ hl hs]
    rfl
  case ignored =>
    intro s b hw hh h
    rw [exec_peerAvalancheRx_heard hw hh, U.peerAvalanche_ignored _ h]
  case starts =>
    intro s hh hp hc hv
    rw [exec_avClear_heard hh, U.avClear_starts _ hp hc hv]
  case asks =>
    intro s hh hp hc hv
    rw [exec_avClear_heard hh, U.avClear_asks _ hp hc hv]
  case refused =>
    intro s hh hp hc hv
    rw [exec_avClear_heard hh, U.avClear_refused _ hp hc hv]
  case refusedTold =>
    intro s hh hp hc hv
    rw [exec_avClear_heard hh, U.avClear_refusedTold _ hp hc hv]
  case runEnd =>
    intro s hh hs hl hcalm
    have hc := U.clearRunEnd_calm hs hl hcalm
    have hrd : ∀ {f : Fld}, f.key ∉ shownKeys → (s.after s.u.clearRunEnd).u.rd f = s.u.clearRunEnd.rd f := U.finish_rd _ _ hc
    refine ⟨_, exec_clearRunEnd_heard hh, ?_, ?_, ?_, ?_, ?_⟩
    · rw [hrd (by decide), U.clearRunEnd_status hs hl (.inl rfl)]
    · rw [hrd (by decide), U.clearRunEnd_status hs hl (.inr rfl)]
    · rw [hrd (by decide), U.clearRunEnd_source hs hl (by decide) (by decide)]
      rfl
    · rw [hrd (by decide), U.clearRunEnd_source hs hl (by decide) (by decide)]
      rfl
    · refine (U.finish_mem _ _ hc).trans ?_
      rw [U.clearRunEnd_eq hs hl]
  case resetRun =>
    intro s hh hr hran hs hrole hl
    rw [exec_resetClearRun_heard hh, U.resetClearRun_starts hr hran hs hrole hl]

end Sys2Proof.Machine
end

section
/-! PROOFS. What driving a cell's bridge leaves alone: the orders held and every register but the outputs and what shows them (R150 to R159,
R181). -/
namespace Sys2Proof.Machine

/-- The register fields that driving the bridge and clearing the BLOCK latch can change. -/
def driveKeys : List Nat :=
  [R.GTE_STATE_OUTS.key, R.GTE_STATE_REQ_X.key, R.GTE_STATE_REQ_Y.key, R.GTE_STATE_CODE.key, R.GTE_STATE_ROW.key,
   R.GTE_STATE_BLOCK_LATCH.key, R.GTE_CNT_C_EDGE_PUSH_CNT.key]

/-- A cell that driving its bridge can leave: the orders held stand, and every register field beside the drive fields. -/
structure C.DrivenTo (y z : C) : Prop where
  held : z.gte.held = y.gte.held
  rd : ∀ {f : Fld}, f.key ∉ driveKeys → z.rd f = y.rd f

namespace C.DrivenTo
variable {x y z : C}

theorem refl (y : C) : y.DrivenTo y := ⟨rfl, fun _ => rfl⟩

theorem trans (h : x.DrivenTo y) (k : y.DrivenTo z) : x.DrivenTo z := ⟨k.held.trans h.held, fun hf => (k.rd hf).trans (h.rd hf)⟩

theorem wr (y : C) {f : Fld} (v : Nat) (h : f.key ∈ driveKeys) : y.DrivenTo (y.wr f v) :=
  ⟨rfl, fun hg => C.rd_wr_ne _ _ (fun e => hg (e ▸ h))⟩

theorem withGte (y : C) {g : Gte → Gte} (h : (g y.gte).held = y.gte.held) : y.DrivenTo (y.withGte g) := ⟨h, fun _ => rfl⟩

theorem withPrt (y : C) (g : Prt → Prt) : y.DrivenTo (y.withPrt g) := ⟨rfl, fun _ => rfl⟩

theorem withClk (y : C) (g : Clk → Clk) : y.DrivenTo (y.withClk g) := ⟨rfl, fun _ => rfl⟩

theorem emit (y : C) (o : Output) : y.DrivenTo (y.emit o) := ⟨rfl, fun _ => rfl⟩

theorem ite {p : Prop} [Decidable p] (h : p → x.DrivenTo y) (k : ¬ p → x.DrivenTo z) : x.DrivenTo (if p then y else z) := by
  split
  · exact h ‹_›
  · exact k ‹_›

theorem foldl {α : Type} {g : C → α → C} (hg : ∀ (y : C) e, y.DrivenTo (g y e)) (l : List α) (y : C) : y.DrivenTo (l.foldl g y) := by
  induction l generalizing y with
  | nil => exact refl y
  | cons e l ih => exact (hg y e).trans (ih _)

theorem setRefresh (y : C) (leg : Nat) (r : Refresh) : y.DrivenTo (y.setRefresh leg r) := by
  unfold C.setRefresh
  exact withGte y (by split <;> rfl)

theorem reqFld_mem (leg : Nat) : (reqFld leg).key ∈ driveKeys := by
  unfold reqFld
  split <;> decide

theorem lowEdge (y : C) (leg ofs : Nat) (on : Bool) : y.DrivenTo (y.lowEdge leg ofs on) := by
  unfold C.lowEdge
  refine ite (fun _ => setRefresh ..) (fun _ => ite (fun _ => ?_) (fun _ => setRefresh ..))
  exact (setRefresh ..).trans (wr _ _ (reqFld_mem leg))

theorem setOut (y : C) (sw ofs : Nat) (on : Bool) (adv : Nat) (line : Option Bool) : y.DrivenTo (y.setOut sw ofs on adv line) := by
  unfold C.setOut
  refine ite (fun _ => refl y) (fun _ => ?_)
  have hball : ∀ b o (p : Prt → Prt), y.DrivenTo (((y.wr R.GTE_STATE_OUTS b).emit o).withPrt p) := fun b o p =>
    ((wr y b (by decide)).trans (emit _ o)).trans (withPrt _ p)
  exact ite (fun _ => (hball ..).trans (lowEdge ..)) (fun _ => hball ..)

theorem changeLeg (y : C) (leg at_ want : Nat) : y.DrivenTo (y.changeLeg leg at_ want) := by
  unfold C.changeLeg
  extract_lets want' tgt pend start pushed line edge
  have hpush : y.DrivenTo pushed := ite (fun _ => wr _ _ (by decide)) (fun _ => refl y)
  have hedge : ∀ (c : C) k, c.DrivenTo (edge c k) := fun c k =>
    ite (fun _ => refl c) (fun _ => ite (fun _ => withGte c rfl) (fun _ => withGte c rfl))
  exact ite (fun _ => refl y) (fun _ => (hpush.trans (hedge ..)).trans (hedge ..))

theorem placeDue (y : C) (upto : Nat) : y.DrivenTo (y.placeDue upto) := by
  unfold C.placeDue
  have hplaced := (withGte y (g := fun g => { g with edges := g.edges.filter (fun e => decide (upto < e.at_)) }) rfl).trans
    (foldl (g := fun (c : C) (e : Edge) => c.setOut e.sw e.at_ e.on c.gte.adv (some e.line)) (fun _ _ => setOut ..)
      (y.gte.edges.filter (fun e => decide (e.at_ ≤ upto))) _)
  exact ite (fun _ => hplaced.trans (withGte _ rfl)) (fun _ => hplaced)

theorem genChange (y : C) (leg at_ want : Nat) : y.DrivenTo (y.genChange leg at_ want) := by
  unfold C.genChange
  exact ite (fun _ => withGte _ rfl) (fun _ => (withGte _ rfl).trans (changeLeg ..))

theorem placeEdges (y : C) (upto : Nat) : y.DrivenTo (y.placeEdges upto) := by
  unfold C.placeEdges
  extract_lets due z
  have hgen : y.DrivenTo z := withGte y rfl
  exact (hgen.trans (foldl (fun _ _ => (placeDue ..).trans (genChange ..)) due z)).trans (placeDue ..)

theorem legOff (y : C) (leg ofs : Nat) : y.DrivenTo (y.legOff leg ofs) := by
  unfold C.legOff
  exact (((withGte y rfl).trans (setOut ..)).trans (setOut ..))

theorem driveLeg (y : C) (leg : Nat) (plan : List (Nat × Nat)) : y.DrivenTo (y.driveLeg leg plan false) := by
  unfold C.driveLeg
  exact ite (fun _ => legOff ..) (fun _ => foldl (fun _ _ => changeLeg ..) _ _)

theorem reshow (y : C) : y.DrivenTo y.reshow := wr _ _ (by decide)

theorem showRow (y : C) (row code : Nat) : y.DrivenTo (y.showRow row code) :=
  ((withGte y rfl).trans (wr _ _ (by decide))).trans (reshow _)

theorem clearBlock (y : C) (ofs : Nat) : y.DrivenTo (y.clearBlock ofs) := by
  have htake : ∀ (z : C) pat, z.DrivenTo (((z.driveLeg 0 [(ofs, pat)] false).driveLeg 1 [(ofs, pat)] false).placeEdges ofs) := fun z pat =>
    ((driveLeg ..).trans (driveLeg ..)).trans (placeEdges ..)
  have hwr := wr y (f := R.GTE_STATE_BLOCK_LATCH) 0 (by decide)
  unfold C.clearBlock
  refine ite (fun _ => refl y) (fun _ => ?_)
  exact ite (fun _ => (hwr.trans (htake ..)).trans (showRow ..))
    (fun _ => ite (fun _ => (hwr.trans (htake ..)).trans (showRow ..)) (fun _ => hwr.trans (showRow ..)))

end C.DrivenTo

end Sys2Proof.Machine
end

section
/-! PROOFS. Departures at cells and hubs: K28.7, frames, boundaries and the watchdog of a cell (R132, R135, R143, R159, R310), the loss of
ORDER frames and an avalanche at a hub (R138, R142). -/
namespace Sys2Proof.Machine

/-! ### The order of a good frame held (R132) -/

/-- A cell about to hold the order of a frame that is due: the jump count cleared, the departure timed, the BLOCK latch cleared by the frame's
AV_CLR (R145, R311). -/
def C.orderDue (c : C) (port ofs pass : Nat) (f : TwFrame) : C :=
  let v := c.withClk (fun l => { l with jump := 0 })
  let w := if firstPass port f && (port == 0) == c.timesOnU then v.timeBy ofs pass f else v
  if f.avClr && !f.avl then w.clearBlock ofs else w

theorem C.DrivenTo.timeBy (c : C) (ofs pass : Nat) (f : TwFrame) : c.DrivenTo (c.timeBy ofs pass f) := by
  unfold C.timeBy
  exact .withClk ..

theorem C.orderDue_driven (c : C) (port ofs pass : Nat) (f : TwFrame) : c.DrivenTo (c.orderDue port ofs pass f) := by
  unfold C.orderDue
  extract_lets v w
  have hv : c.DrivenTo v := .withClk ..
  have hw : c.DrivenTo w := .ite (fun _ => hv.trans (.timeBy ..)) (fun _ => hv)
  exact .ite (fun _ => hw.trans (.clearBlock ..)) (fun _ => hw)

/-- An order of a DN beyond the next one is held unless one is held already; a test mode ends with an order for another code (R132, R176). -/
theorem C.holdOrder_due {c : C} {f : TwFrame} (port ofs pass : Nat) (h1 : 1 < dnDiff f.dn c.dn) (h8 : dnDiff f.dn c.dn ≤ 8) :
    c.holdOrder port ofs pass f =
      let v := c.orderDue port ofs pass f
      if (Tbl.find? v.gte.held f.dn).isSome || !v.placed then v else
      let h := frameOrder f (v.rd R.CLK_ID_POS)
      let w := (v.withGte (fun g => { g with held := g.held.set f.dn h })).inc (if port = 0 then R.CLK_CNT_A_HELD_U else R.CLK_CNT_A_HELD_D)
      if h.code ≠ 0 && w.on R.GTE_CTL_TEST_EN then (w.endTest ofs).raise ofs CC.TEST_ABORT [] else w := by
  have hrange : (decide (dnDiff f.dn c.dn ≤ 0) || decide (dnDiff f.dn c.dn > 8)) = false := by simp; omega
  have hnext : decide (dnDiff f.dn c.dn = 1) = false := by simp; omega
  simp only [C.holdOrder, hrange, hnext, Bool.false_and, Bool.false_eq_true, if_false]
  rfl

theorem driveKeys_apart : R.CLK_ID_POS.key ∉ driveKeys ∧ R.CLK_ID_POS_VALID.key ∉ driveKeys ∧ R.CLK_ID_SIZE_M1.key ∉ driveKeys ∧
    R.GTE_CTL_TEST_EN.key ∉ driveKeys := by decide

theorem C.DrivenTo.placed {y z : C} (h : y.DrivenTo z) : z.placed = y.placed := by
  obtain ⟨hpos, hvalid, hsize, -⟩ := driveKeys_apart
  simp only [C.placed, C.on, h.rd hpos, h.rd hvalid, h.rd hsize]

theorem C.holdOrder_holds {c : C} {f : TwFrame} (port ofs pass : Nat) (h1 : 1 < dnDiff f.dn c.dn) (h8 : dnDiff f.dn c.dn ≤ 8)
    (hp : c.placed = true) (ht : c.on R.GTE_CTL_TEST_EN = false) (hn : Tbl.find? c.gte.held f.dn = none) :
    Tbl.find? (c.holdOrder port ofs pass f).gte.held f.dn = some (frameOrder f (c.rd R.CLK_ID_POS)) := by
  obtain ⟨hpos, -, -, htest⟩ := driveKeys_apart
  have hd := c.orderDue_driven port ofs pass f
  have hcount : R.GTE_CTL_TEST_EN.key ≠ (if port = 0 then R.CLK_CNT_A_HELD_U else R.CLK_CNT_A_HELD_D).key := by split <;> decide
  rw [C.holdOrder_due port ofs pass h1 h8]
  simp only [hd.held, hn, hd.placed, hp, hd.rd hpos, C.on, C.inc_eq, C.rd_wr_ne _ _ hcount, C.rd_withGte, hd.rd htest]
  rw [C.on] at ht
  simp [ht, Tbl.find?_set_same]

/-! ### A frame received (R132, R310) -/

section Frame
variable {y z : C} {cid port ofs : Nat} {f : List Nat} {o : Nat} (hp : port < 2) (ho : ofs < 16000)
  (hl : y.laneIO.looped (portBase port) = false ∨ Output.trackway port f ∈ y.out) (ho' : o = max y.gte.ofs ofs)
  (hz : z = (y.withGte (fun g => { g with ofs := o })).placeEdges o)
include hp ho hl ho' hz

/-- A frame that the port hears: checked and forwarded where the port is UP, acted on where its check passes. -/
theorem C.frameRx_heard : y.frameRx cid port ofs f =
    if !z.portUp port then z.onLane o port (fun io => io.frameErrors (portBase port) z.dn (twErrors f)) else
    let r := z.checkFrame port o f
    let v := r.2.forward port o (r.1 != .good) f
    if r.1 ≠ .good then v else (v.draw cid).2.goodFrame port o ((v.draw cid).1 % 481) (readTw f) := by
  have hhear : (decide (port ≥ 2) || (y.laneIO.looped (portBase port) && !y.out.contains (.trackway port f))) = false := by
    rcases hl with hl | hl <;> simp [hl, hp]
  have hmin : min ofs 15999 = ofs := Nat.min_eq_left (by omega)
  subst ho' hz
  simp only [C.frameRx, hhear, hmin, Bool.false_eq_true, if_false]

theorem C.frameRx_down (hu : z.portUp port = false) :
    y.frameRx cid port ofs f = z.onLane o port (fun io => io.frameErrors (portBase port) z.dn (twErrors f)) := by
  rw [C.frameRx_heard hp ho hl ho' hz, hu]
  rfl

theorem C.frameRx_bad {k : Check} {v : C} (hu : z.portUp port = true) (hk : z.checkFrame port o f = (k, v)) (hbad : k ≠ .good) :
    y.frameRx cid port ofs f = v.forward port o true f := by
  have hne : (k != .good) = true := bne_iff_ne.mpr hbad
  rw [C.frameRx_heard hp ho hl ho' hz, hu, hk]
  simp only [hne, if_pos hbad, Bool.not_true, Bool.false_eq_true, if_false]

theorem C.frameRx_good {v w : C} {d : Nat} (hu : z.portUp port = true) (hk : z.checkFrame port o f = (.good, v))
    (hd : (v.forward port o false f).draw cid = (d, w)) : y.frameRx cid port ofs f = w.goodFrame port o (d % 481) (readTw f) := by
  have hgood : (Check.good != Check.good) = false := rfl
  rw [C.frameRx_heard hp ho hl ho' hz, hu, hk]
  simp only [hgood, hd, ne_eq, not_true, Bool.not_true, Bool.false_eq_true, if_false]

end Frame

/-! ### The check of a frame (R310) -/

section Check
variable {f : List Nat} (hcut : f.contains charK28_7 = false)
include hcut

theorem twCheck_controlCharacter (h : ∃ v ∈ f.drop 1, 256 ≤ v) : twCheck f = .bad := by
  have hany : (f.drop 1).any (fun v => decide (256 ≤ v)) = true := by simpa using h
  rw [twCheck, hcut, hany]
  rfl

/-- A frame of data characters is good, stomped or bad by its CRC. -/
theorem twCheck_byCrc (h : ∀ v ∈ f.drop 1, v < 256) : twCheck f =
    if le f 246 4 = twCrc f then .good else if le f 246 4 = flipCrc (twCrc f) then .stomped else .bad := by
  have hany : (f.drop 1).any (fun v => decide (256 ≤ v)) = false := by simpa using h
  rw [twCheck, hcut, hany]
  rfl

end Check

/-- The complement of a CRC is another CRC. -/
theorem flipCrc_ne (c : Nat) : flipCrc c ≠ c := by
  intro h
  have hbit := congrArg (fun v => Nat.testBit v 0) h
  simp only [flipCrc, Nat.testBit_xor] at hbit
  exact absurd hbit (by cases c.testBit 0 <;> decide)

/-! ### A good frame, and an order resolved (R143, R159) -/

theorem C.goodFrame_counted {y v : C} {f : TwFrame} (port ofs pass : Nat) (ha : f.avl = false)
    (hv : v = ((y.enumerate port ofs f).measure port ofs pass f).hubMessage f.mbx) (hd : v.clk.dnOk = true) :
    y.goodFrame port ofs pass f = (v.timedCommand ofs f).holdOrder port ofs pass f := by
  subst hv
  simp only [C.goodFrame, ha, hd, Bool.false_eq_true, if_false, if_true]

/-- A legal order of the pattern table stands in row 7, where no latch and no test mode does (R159). -/
theorem C.resolve_pattern {y : C} {h : Held} (hb : y.on R.GTE_STATE_BLOCK_LATCH = false) (hr : y.on R.GTE_STATE_RETIRE_LATCH = false)
    (ht : y.on R.GTE_CTL_TEST_EN = false) (hi : y.illegalOrder h = false) (hc : h.code ≤ 4) :
    y.resolve (some h) =
      let v := (y.wr R.GTE_WDOG_RUN 0).withGte (fun g => { g with first := true, safe := false })
      let w := if h.code = 3 && h.grant then v.inc R.GTE_CNT_C_GRANT_CNT else v
      (7, h.code, [(0, w.pattern h.code)], w) := by
  have h15 : h.code ≠ 15 := by omega
  have h5 : h.code ≠ 5 := by omega
  have hon : ∀ {f : Fld}, f.key ≠ R.GTE_WDOG_RUN.key → ∀ g : Gte → Gte, ((y.wr R.GTE_WDOG_RUN 0).withGte g).on f = y.on f := fun hf g => by
    rw [C.on, C.rd_withGte, C.rd_wr_ne _ _ hf, C.on]
  have hblock := hon (f := R.GTE_STATE_BLOCK_LATCH) (by decide)
  have hretire := hon (f := R.GTE_STATE_RETIRE_LATCH) (by decide)
  have htest := hon (f := R.GTE_CTL_TEST_EN) (by decide)
  simp only [C.resolve, hi, Bool.not_false, Option.isSome_some, Bool.not_true, Bool.and_false, Bool.false_eq_true, if_false, if_true, hblock, hb,
    hretire, hr, htest, ht, C.withGte_gte, h15, h5]

theorem C.resolve_pattern_wdog {y : C} {h : Held} (hb : y.on R.GTE_STATE_BLOCK_LATCH = false) (hr : y.on R.GTE_STATE_RETIRE_LATCH = false)
    (ht : y.on R.GTE_CTL_TEST_EN = false) (hi : y.illegalOrder h = false) (hc : h.code ≤ 4) :
    (y.resolve (some h)).2.2.2.rd R.GTE_WDOG_RUN = 0 := by
  rw [C.resolve_pattern hb hr ht hi hc]
  dsimp only
  split
  · rw [C.inc_eq, C.rd_wr_ne _ _ (by decide), C.rd_withGte, C.rd_wr_same]
    rfl
  · rw [C.rd_withGte, C.rd_wr_same]
    rfl

/-! ### The commands of a cell -/

/-- A command of a cell at the instant of the handshake leaves what its function gives there. -/
theorem State.onCellNow_next {s : State} {c : Instr} {cid ofs : Nat} {y : C} (f : C → Nat → C) (hw : c.wf = true)
    (hn : (s.cell cid).now cid = (ofs, y)) : s.onCellNow c cid f = .next (s.withCell cid (f y ofs)) := by
  rw [State.onCellNow, State.onCell_next _ _ hw, hn]
  rfl

theorem exec_cellK287Rx_now {s : State} {cid port ofs : Nat} {y : C} (hw : (Instr.cellK287Rx cid port).wf = true)
    (hn : (s.cell cid).now cid = (ofs, y)) : exec (.cellK287Rx cid port) s = .next (s.withCell cid (y.k287Rx ofs port)) := by
  rw [exec_cellK287Rx, execCellK287Rx, State.onCellNow_next _ hw hn]

theorem C.k287Rx_heard {y : C} {port : Nat} (ofs : Nat) (h : y.laneIO.looped (portBase port) = false ∨ Output.k28_7 port ∈ y.out) :
    y.k287Rx ofs port = (y.emit (.k28_7 (1 - port))).latchBlock ofs := by
  refine if_neg ?_
  rcases h with h | h <;> simp [h]

theorem C.k287Rx_looped {y : C} {port : Nat} (ofs : Nat) (hl : y.laneIO.looped (portBase port) = true) (ho : Output.k28_7 port ∉ y.out) :
    y.k287Rx ofs port = y := if_pos (by simp [hl, ho])

theorem exec_cellFrameRx_next {s : State} {cid port ofs : Nat} {f : List Nat} {same : Option (List Nat)}
    (hw : (Instr.cellFrameRx cid port ofs f same).wf = true) :
    exec (.cellFrameRx cid port ofs f same) s = .next (s.withCell cid ((s.cell cid).frameRx2 cid port ofs f same)) := by
  rw [exec_cellFrameRx, execCellFrameRx, State.onCell_next _ _ hw]
  rfl

theorem exec_cellBoundary_next {s : State} {cid : Nat} {pass : Bool} (hw : (Instr.cellBoundary cid pass).wf = true) :
    exec (.cellBoundary cid pass) s = .next (s.withCell cid ((s.cell cid).boundary cid pass)) := by
  rw [exec_cellBoundary, execCellBoundary, State.onCell_next _ _ hw]
  rfl

theorem exec_cellWatchdog_now {s : State} {cid ofs : Nat} {y : C} (hw : (Instr.cellWatchdog cid).wf = true)
    (hn : (s.cell cid).now cid = (ofs, y)) :
    exec (.cellWatchdog cid) s = .next (s.withCell cid (if y.watchdogDue then y.enterSafe ofs else y)) := by
  rw [exec_cellWatchdog, execCellWatchdog, State.onCellNow_next _ hw hn]

/-! ### The commands of a hub -/

/-- A lift to a hub leaves what its function gives, where the hub hears the command. -/
theorem State.onHub_heard {s : State} {c : Instr} {h : Nat} (f : HubAt → H → H) (hw : c.wf = true) (hd : (s.hub h).deaf c = false) :
    s.onHub c h f = .next (s.withHub h (f (s.hubAt h) (s.hub h))) := State.onHub_next h f hw hd

theorem exec_hubOrderLoss_heard {s : State} {h : Nat} (hw : (Instr.hubOrderLoss h).wf = true) (hd : (s.hub h).deaf (.hubOrderLoss h) = false) :
    exec (.hubOrderLoss h) s = .next (s.withHub h ((s.hub h).orderLoss (s.hubAt h))) := by
  rw [exec_hubOrderLoss, execHubOrderLoss, State.onHub_heard _ hw hd]

theorem H.orderLoss_raises {w : H} (x : HubAt) (hl : 4 ≤ w.loss) (ht : w.told = false) :
    w.orderLoss x = H.raise { w with lost := true, told := true } x HC.BOTH_LOSS [] := if_neg (by simp [Nat.not_lt.mpr hl, ht])

theorem H.orderLoss_keeps {w : H} (x : HubAt) (h : w.loss < 4 ∨ w.told = true) : w.orderLoss x = w := if_pos (by simpa using h)

theorem exec_hubAvalancheRx_heard {s : State} {h lane : Nat} {b : Block} (hw : (Instr.hubAvalancheRx h lane b).wf = true)
    (hd : (s.hub h).deaf (.hubAvalancheRx h lane b) = false) :
    exec (.hubAvalancheRx h lane b) s = .next (s.withHub h ((s.hub h).avalancheRx lane b)) := by
  rw [exec_hubAvalancheRx, execHubAvalancheRx, State.onHub_heard _ hw hd]

theorem H.avalancheRx_acts {w : H} {lane : Nat} (hu : w.laneUp lane = true) (hl : w.laneIO.looped (hubLaneBase lane) = false) :
    w.avalancheRx lane avalancheBlock = H.wr { w.blockAll with avl := true } R.HTW_STATE_AVL 1 := if_pos (by simp [hu, hl])

theorem H.avalancheRx_ignored {w : H} {lane : Nat} {b : Block}
    (h : w.laneUp lane = false ∨ w.laneIO.looped (hubLaneBase lane) = true ∨ b ≠ avalancheBlock) : w.avalancheRx lane b = w := by
  refine if_neg ?_
  rcases h with h | h | h <;> simp [h]

/-- Settles O10: each command is its function on the cell or the hub, and each clause one case of that function; the order of a frame is held
through all that clearing the BLOCK latch drives. -/
theorem hubAndCellDepartureCommandsComplete : Obligations.HubAndCellDepartureCommandsComplete := by
  unfold Obligations.HubAndCellDepartureCommandsComplete
  refine ⟨?loss, ?noLoss, ?hubAvalanche, ?hubIgnored, ?k287, ?k287Looped, ?frame, ?frames, ?received, ?crc, ?control, ?good, ?held, ?boundary,
    ?resolved, ?watchdog, ?noWatchdog⟩
  case loss =>
    intro s h hw hd hl ht
    rw [exec_hubOrderLoss_heard hw hd, H.orderLoss_raises _ hl ht]
  case noLoss =>
    intro s h hw hd hl
    rw [exec_hubOrderLoss_heard hw hd, H.orderLoss_keeps _ hl]
  case hubAvalanche =>
    intro s h lane hw hd hu hl
    rw [exec_hubAvalancheRx_heard hw hd, H.avalancheRx_acts hu hl]
  case hubIgnored =>
    intro s h lane b hw hd hb
    rw [exec_hubAvalancheRx_heard hw hd, H.avalancheRx_ignored hb]
  case k287 =>
    intro s cid port ofs y hw hn h
    rw [exec_cellK287Rx_now hw hn, C.k287Rx_heard ofs h, C.latchBlock]
  case k287Looped =>
    intro s cid port ofs y hw hn hl ho
    rw [exec_cellK287Rx_now hw hn, C.k287Rx_looped ofs hl ho]
  case frame =>
    intro s cid port ofs f hw
    rw [exec_cellFrameRx_next hw, C.frameRx2]
  case frames =>
    rintro s cid ofs f g hf hg t rfl
    exact ⟨exec_cellFrameRx_next hf, exec_cellFrameRx_next hg⟩
  case received =>
    intro y z cid port ofs f o hp ho hl ho' hz
    exact ⟨fun hu => C.frameRx_down hp ho hl ho' hz hu, fun k v hu hk hbad => C.frameRx_bad hp ho hl ho' hz hu hk hbad,
      fun v d w hu hk hd => C.frameRx_good hp ho hl ho' hz hu hk hd⟩
  case crc =>
    rintro f _ rfl hcut h
    rw [twCheck_byCrc hcut h]
    refine ⟨fun hg => if_pos hg, fun hs => ?_, fun hg hs => (if_neg hg).trans (if_neg hs)⟩
    have hne : le f 246 4 ≠ twCrc f := fun he => flipCrc_ne _ (hs.symm.trans he)
    exact (if_neg hne).trans (if_pos hs)
  case control => exact fun f hcut h => twCheck_controlCharacter hcut h
  case good => exact fun y port ofs pass f v ha hv hd => C.goodFrame_counted port ofs pass ha hv hd
  case held => exact fun y port ofs pass f h1 h8 hp ht hn => C.holdOrder_holds port ofs pass h1 h8 hp ht hn
  case boundary => exact fun s cid pass hw => exec_cellBoundary_next hw
  case resolved =>
    intro y h hb hr ht hi hc
    refine ⟨?_, ?_, ?_, C.resolve_pattern_wdog hb hr ht hi hc⟩ <;> rw [C.resolve_pattern hb hr ht hi hc]
  case watchdog =>
    intro s cid ofs y hw hn hd
    rw [exec_cellWatchdog_now hw hn, hd, if_pos rfl, C.enterSafe]
  case noWatchdog =>
    intro s cid ofs y hw hn hd
    rw [exec_cellWatchdog_now hw hn, hd]
    rfl

end Sys2Proof.Machine
end

section
/-! PROOFS. The commands of a hub: its boundary and grid (R138, R350), losses (R325, R332), measurements (R359, R361), the heartbeat of its
core (R367), ALIVE (R368) and register requests (R366). -/
namespace Sys2Proof.Machine

/-! ### Each command leaves its function's result, where the hub hears it -/

section Heard
variable {s : State} {h : Nat}

theorem exec_hubBoundary_heard (hw : (Instr.hubBoundary h).wf = true) (hd : (s.hub h).deaf (.hubBoundary h) = false) :
    exec (.hubBoundary h) s = .next (s.withHub h ((s.hub h).boundary (s.hubAt h))) := by
  rw [exec_hubBoundary, execHubBoundary, State.onHub_heard _ hw hd]

theorem exec_hubFrameDrop_heard {l : Nat} (hw : (Instr.hubFrameDrop h l).wf = true) (hd : (s.hub h).deaf (.hubFrameDrop h l) = false) :
    exec (.hubFrameDrop h l) s = .next (s.withHub h ((s.hub h).frameDrop (s.hubAt h) l)) := by
  rw [exec_hubFrameDrop, execHubFrameDrop, State.onHub_heard _ hw hd]

theorem exec_hubUnreach_heard {l p : Nat} (hw : (Instr.hubUnreach h l p).wf = true) (hd : (s.hub h).deaf (.hubUnreach h l p) = false) :
    exec (.hubUnreach h l p) s = .next (s.withHub h ((s.hub h).unreach l p)) := by
  rw [exec_hubUnreach, execHubUnreach, State.onHub_heard _ hw hd]

theorem exec_loopMeasurement_heard {l : Nat} (hw : (Instr.loopMeasurement h l).wf = true)
    (hd : (s.hub h).deaf (.loopMeasurement h l) = false) :
    exec (.loopMeasurement h l) s = .next (s.withHub h ((s.hub h).measure l)) := by
  rw [exec_loopMeasurement, execLoopMeasurement, State.onHub_heard _ hw hd]

theorem exec_measurementComplete_heard {l : Nat} (hw : (Instr.measurementComplete h l).wf = true)
    (hd : (s.hub h).deaf (.measurementComplete h l) = false) :
    exec (.measurementComplete h l) s = .next (s.withHub h ((s.hub h).measureDone (s.hubAt h) l)) := by
  rw [exec_measurementComplete, execMeasurementComplete, State.onHub_heard _ hw hd]

theorem exec_hubHeartbeatWrite_heard {v : Nat} (hw : (Instr.hubHeartbeatWrite h v).wf = true)
    (hd : (s.hub h).deaf (.hubHeartbeatWrite h v) = false) :
    exec (.hubHeartbeatWrite h v) s = .next (s.withHub h ((s.hub h).heartbeat v)) := by
  rw [exec_hubHeartbeatWrite, execHubHeartbeatWrite, State.onHub_heard _ hw hd]

theorem exec_hubHbLost_heard (hw : (Instr.hubHbLost h).wf = true) (hd : (s.hub h).deaf (.hubHbLost h) = false) :
    exec (.hubHbLost h) s = .next (s.withHub h ((s.hub h).heartLost (s.hubAt h))) := by
  rw [exec_hubHbLost, execHubHbLost, State.onHub_heard _ hw hd]

theorem exec_hubMemUnc_heard (hw : (Instr.hubMemUnc h).wf = true) (hd : (s.hub h).deaf (.hubMemUnc h) = false) :
    exec (.hubMemUnc h) s = .next (s.withHub h ((s.hub h).tableError (s.hubAt h) 2)) := by
  rw [exec_hubMemUnc, execHubMemUnc, State.onHub_heard _ hw hd]

theorem exec_hubAliveToggle_heard (hw : (Instr.hubAliveToggle h).wf = true) (hd : (s.hub h).deaf (.hubAliveToggle h) = false) :
    exec (.hubAliveToggle h) s = .next (s.withHub h (s.hub h).aliveToggle) := by
  rw [exec_hubAliveToggle, execHubAliveToggle, State.onHub_heard _ hw hd]

theorem exec_regReq_heard (hw : (Instr.regReq h).wf = true) (hd : (s.hub h).deaf (.regReq h) = false) :
    exec (.regReq h) s = .next (s.withHub h ((s.hub h).regReq (s.hubAt h))) := by
  rw [exec_regReq, execRegReq, State.onHub_heard _ hw hd]

end Heard

/-! ### The grid (R350) -/

/-- Without a step waiting the grid moves on by a departure and at most 1/16 ns of its error. -/
theorem H.advance_slews {w : H} (x : HubAt) (hs : w.step = none) : w.advance x = { w with
    dn := (w.dn + 1) % 2 ^ 32, t := enc 64 ((w.t : Int) + 16000 + clamp (-1) 1 w.err), err := w.err - clamp (-1) 1 w.err } := by
  simp only [H.advance, hs]

/-! ### A position unreachable (R325) -/

theorem H.unreach_tells {w : H} {l p : Nat} (hp : p < 8) (hsize : p < w.rd (R.HTW_LOOP_SIZE l)) (hever : bitAt (w.loop l).ever p = true)
    (hun : 17 ≤ (w.loop l).unseen.get p 0) (hnot : bitAt (w.rd (R.HTW_LOOP_UNREACH l)) p = false) :
    w.unreach l p = (w.wr (R.HTW_LOOP_UNREACH l) (setBit (w.rd (R.HTW_LOOP_UNREACH l)) p)).toUnits 0
      (noticeBytes 1 w.dn ((w.rd R.HSY_ID_HUB * 64 + l) * 8 + p)) :=
  if_neg (by simp [hp, hsize, hever, hun, hnot])

theorem H.unreach_waits {w : H} {l p : Nat} (h : (w.loop l).unseen.get p 0 < 17) : w.unreach l p = w := if_pos (by simp [h])

/-! ### Measurements (R359, R361) -/

theorem H.measure_starts {w : H} {l : Nat} (hl : l < 64) (hsize : w.rd (R.HTW_LOOP_SIZE l) ≠ 0) (hdue : (w.loop l).due = true)
    (hm : (w.path l).meas = none) : w.measure l =
      ((({ w with seq := (w.seq + 1) % 256 } : H).onLoop l (fun p => { p with due := false })).onPath l (fun p =>
        { p with meas := some (Meas.mk w.seq w.dn []) })).manage l (mailbox [0x82, w.seq]) := by
  refine (if_neg ?_).trans rfl
  simp [Nat.not_le.mpr hl, hsize, hdue, hm]

theorem H.measure_waits {w : H} {l : Nat} (h : (w.loop l).due = false) : w.measure l = w := if_pos (by simp [h])

/-- An offset as a TIME_SET carries it: 0x800000 keeps the one in use (R358). -/
def tofsWire (o : Option Int) : Nat :=
  match o with
  | some v => enc 24 (satS 24 v)
  | none => 0x800000

/-- The offsets of a TIME_SET, of eight positions. -/
def tofsBytes (list : List (Option Int × Option Int)) : List Nat :=
  (list ++ List.replicate (8 - list.length) (none, none)).flatMap (fun (e : Option Int × Option Int) => toBytes 3 (tofsWire e.1) ++ toBytes 3 (tofsWire e.2))

/-- The TIME_SET of a measurement: SEQ, the DN from which its offsets hold, and the offsets by position (R354). -/
def timeSetMail (v : H) (list : List (Option Int × Option Int)) : List Nat :=
  mailbox ([0x80, v.seq] ++ toBytes 4 ((v.dn + 16) % 2 ^ 32) ++ [0, 0] ++ tofsBytes list)

theorem timeSetMail_take (v : H) (list : List (Option Int × Option Int)) :
    (timeSetMail v list).take 6 = [0x80, v.seq] ++ toBytes 4 ((v.dn + 16) % 2 ^ 32) := by
  unfold timeSetMail mailbox
  rw [List.append_assoc, List.append_assoc]
  exact List.take_left' (by simp)

theorem H.measureDone_bothEnds {u w v : H} {x : HubAt} {l : Nat} {m : Meas} {list : List (Option Int × Option Int)}
    (hm : (u.path l).meas = some m) (hdone : u.measured l m = true) (ha : u.laneUp l = true) (hb : u.laneUp (64 + l) = true)
    (hw : w = u.onPath l (fun p => { p with meas := none })) (hlist : (w.offsets2 x l m).1 = some list) (hv : v = (w.offsets2 x l m).2) :
    u.measureDone x l = ((({ v with seq := (v.seq + 1) % 256 } : H).manage l (timeSetMail v list)).showMax.sendPath) := by
  have ha' : w.laneUp l = true := hw ▸ ha
  have hb' : w.laneUp (64 + l) = true := hw ▸ hb
  subst hv
  simp only [H.measureDone, hm, hdone, ← hw, ha', hb', Bool.not_true, Bool.and_self, Bool.false_eq_true, if_false, if_true, hlist]
  unfold timeSetMail tofsBytes tofsWire
  rfl

theorem H.measureDone_waits {u : H} {x : HubAt} {l : Nat} {m : Meas} (hm : (u.path l).meas = some m) (hdone : u.measured l m = false) :
    u.measureDone x l = u := by
  simp only [H.measureDone, hm, hdone, Bool.not_false, if_true]

/-! ### The heartbeat of the core (R367) -/

/-- A cause of class 1 is recorded at class 1 or 2 (R445). -/
theorem escalate_one_lt (r : Rec) : escalate r 1 < 3 := by
  unfold escalate
  split <;> decide

/-- The hub without what recording a cause can change. -/
def H.unrecorded (w : H) : H := { w with regs := [], recs := [], out := [], free := 0 }

/-- A hub that differs by no more than what recording a cause changes, with some of its register fields. -/
structure H.Recorded (ks : List Nat) (y z : H) : Prop where
  rest : z.unrecorded = y.unrecorded
  rd : ∀ {f : Fld}, f.key ∉ ks → z.rd f = y.rd f

namespace H.Recorded
variable {ks : List Nat} {x y z : H}

theorem refl (y : H) : H.Recorded ks y y := ⟨rfl, fun _ => rfl⟩

theorem trans (h : H.Recorded ks x y) (k : H.Recorded ks y z) : H.Recorded ks x z :=
  ⟨k.rest.trans h.rest, fun hf => (k.rd hf).trans (h.rd hf)⟩

theorem wr (y : H) {f : Fld} (v : Nat) (h : f.key ∈ ks) : H.Recorded ks y (y.wr f v) :=
  ⟨rfl, fun hg => H.rd_wr_ne _ _ (fun e => hg (e ▸ h))⟩

theorem emit (y : H) (e : Output) : H.Recorded ks y (y.emit e) := ⟨rfl, fun _ => rfl⟩

theorem ite {p : Prop} [Decidable p] (h : H.Recorded ks x y) (k : H.Recorded ks x z) : H.Recorded ks x (if p then y else z) := by
  split
  · exact h
  · exact k

end H.Recorded

/-- The record of a block (R441). -/
def Blk.recordKeys (b : Blk) : List Nat :=
  [b.events.key, b.firstCause.key, b.firstClass.key, b.firstValid.key, b.firstTsl.key, b.firstTsh.key]

/-- A cause of class 1 without details sets its STATUS bit and is recorded; no action follows (R364, R441 to R445). -/
theorem H.raise_classOne (w : H) (x : HubAt) {k : Cause} (hk : k.cls = some 1) :
    H.Recorded k.blk.recordKeys (w.wr (k.blk.status k.bit) 1) (w.raise x k []) := by
  unfold H.raise
  rw [hk]
  extract_lets w1 d ts h1 r
  dsimp -zeta only
  extract_lets cls h2 h3 h4 h5 h6
  rw [if_neg (Nat.not_le.mpr (escalate_one_lt r))]
  have drawn : H.Recorded k.blk.recordKeys w1 h2 := ⟨rfl, fun _ => rfl⟩
  have counted : H.Recorded k.blk.recordKeys w1 h3 := drawn.trans (.wr h2 _ (by simp [Blk.recordKeys]))
  have written : H.Recorded k.blk.recordKeys w1 h4 := by
    refine counted.trans <| .trans (.wr _ _ ?_) <| .trans (.wr _ _ ?_) <| .trans (.wr _ _ ?_) <| .trans (.wr _ _ ?_) (.wr _ _ ?_) <;>
      simp [Blk.recordKeys]
  have first : H.Recorded k.blk.recordKeys w1 h5 := .ite counted written
  exact .ite (first.trans (.emit h5 _)) first

/-- The hub with HB_LOST raised (R367), before the reset of its core. -/
def H.heartTold (w : H) (x : HubAt) : H := ({ w with hbLost := true } : H).raise x HC.HB_LOST []

theorem H.heartTold_recorded (w : H) (x : HubAt) :
    H.Recorded HC.HB_LOST.blk.recordKeys (({ w with hbLost := true } : H).wr (HC.HB_LOST.blk.status HC.HB_LOST.bit) 1) (w.heartTold x) := by
  unfold H.heartTold
  exact H.raise_classOne _ x rfl

theorem H.heartTold_hbLost (w : H) (x : HubAt) : (w.heartTold x).hbLost = true := by
  have h := congrArg H.hbLost (w.heartTold_recorded x).rest
  exact h

theorem H.heartTold_orders (w : H) (x : HubAt) : (w.heartTold x).orders = w.orders := by
  have h := congrArg H.orders (w.heartTold_recorded x).rest
  exact h

theorem H.heartTold_loops (w : H) (x : HubAt) : (w.heartTold x).loops = w.loops := by
  have h := congrArg H.loops (w.heartTold_recorded x).rest
  exact h

theorem H.heartTold_status (w : H) (x : HubAt) : (w.heartTold x).rd (HB.HSY.status 0) = 1 :=
  ((w.heartTold_recorded x).rd (by decide)).trans ((H.rd_wr_same _ _ _).trans (by decide))

/-- With HB_LOST standing ALIVE stops (R368). -/
theorem H.showAlive_lost {w : H} (h : w.hbLost = true) : w.showAlive = w.wr R.HSY_CTL_ALIVE_RUN 0 :=
  if_pos (by simp [H.aliveStopped, h])

theorem H.heartLost_quiet {w : H} (x : HubAt) (hb : w.beat = false) : w.heartLost x = w := if_pos (by simp [hb])

theorem H.heartLost_beating {w : H} (x : HubAt) (hb : w.beat = true) :
    w.heartLost x = (w.heartTold x).coreReset.wr R.HSY_CTL_ALIVE_RUN 0 :=
  (if_neg (by simp [hb])).trans (H.showAlive_lost (w.heartTold_hbLost x))

theorem H.coreReset_status (w : H) : w.coreReset.rd (HB.HSY.status 0) = w.rd (HB.HSY.status 0) :=
  H.rd_wr_ne w _ (by decide)

/-- A heartbeat lost: HB_LOST stands, ALIVE and the core have stopped, and the ring and its orders go on (R367, R368). -/
theorem H.heartLost_effect {w : H} (x : HubAt) (hb : w.beat = true) :
    (w.heartLost x).hbLost = true ∧ (w.heartLost x).beat = false ∧ (w.heartLost x).mem = [] ∧ (w.heartLost x).mgmt = [] ∧
    (w.heartLost x).img = [] ∧ (w.heartLost x).fetch = some 0 ∧ (w.heartLost x).rd R.HSY_CTL_ALIVE_RUN = 0 ∧
    (w.heartLost x).rd (HB.HSY.status 0) = 1 ∧ (w.heartLost x).orders = w.orders ∧ (w.heartLost x).loops = w.loops := by
  rw [H.heartLost_beating x hb]
  refine ⟨w.heartTold_hbLost x, rfl, rfl, rfl, rfl, rfl, (H.rd_wr_same _ _ _).trans (Nat.zero_mod _), ?status, w.heartTold_orders x, w.heartTold_loops x⟩
  rw [H.rd_wr_ne _ _ (by decide), H.coreReset_status, H.heartTold_status]

/-! ### ALIVE (R368) -/

theorem H.aliveToggle_running {w : H} (h : w.aliveStopped = false) :
    w.aliveToggle = (w.wr R.HSY_CTL_ALIVE (1 - b2n (w.on R.HSY_CTL_ALIVE))).wr R.HSY_CTL_ALIVE_RUN 1 := by
  have flip : b2n (!w.on R.HSY_CTL_ALIVE) = 1 - b2n (w.on R.HSY_CTL_ALIVE) := by cases w.on R.HSY_CTL_ALIVE <;> rfl
  rw [H.aliveToggle, if_neg (by simp [h]), H.put_eq, flip]

theorem H.aliveToggle_stopped {w : H} (h : w.aliveStopped = true) : w.aliveToggle = w.wr R.HSY_CTL_ALIVE_RUN 0 :=
  (if_pos h).trans (if_pos h)

/-! ### Register requests (R366) -/

/-- The answer to a register request: its STATUS and the values after the operation. -/
def regAnswer (q : RegReq) (a : Nat × List Nat) : List Nat :=
  [0x8B, q.tag, a.1, q.count] ++ toBytes 4 q.addr ++ a.2.flatMap (toBytes 4)

theorem H.regReq_none {w : H} (x : HubAt) (h : w.mgmt = []) : w.regReq x = w := by simp only [H.regReq, h]

theorem H.regReq_served {w : H} (x : HubAt) {b : Bool} {q : RegReq} {rest : List (Bool × RegReq)} (h : w.mgmt = (b, q) :: rest) :
    w.regReq x = (({ w with mgmt := rest } : H).regExec x q).2.manageUnit (b2n b)
      (regAnswer q (({ w with mgmt := rest } : H).regExec x q).1) := by
  simp only [H.regReq, h, regAnswer]

/-- A request of another operation or length is answered with STATUS 1 and does nothing. -/
theorem H.regExec_refused (w : H) (x : HubAt) {q : RegReq} (h : 1 < q.op ∨ q.count = 0 ∨ 12 < q.count) :
    w.regExec x q = ((1, []), w) := by
  refine if_pos ?_
  obtain h | h | h := h <;> simp [h]

/-- A request of good form to a block that is off is answered with STATUS 2 and does nothing. -/
theorem H.regExec_off {w : H} (x : HubAt) {q : RegReq} (hop : q.op ≤ 1) (hz : q.count ≠ 0) (hc : q.count ≤ 12) (ha : q.addr % 4 = 0)
    (hb : q.addr / 0x10000 = (q.addr + 4 * (q.count - 1)) / 0x10000) (hoff : w.blockOn q.addr = false) :
    w.regExec x q = ((2, []), w) := by
  refine (if_neg ?_).trans (if_pos ?_)
  · simp [Nat.not_lt.mpr hop, hz, Nat.not_lt.mpr hc, ha, ← hb]
  · simp [hoff]

/-- A read of one word clears what the read clears (R366). -/
theorem H.regExec_read {w : H} (x : HubAt) {q : RegReq} (hop : q.op = 0) (hc : q.count = 1) (ha : q.addr % 4 = 0) (hon : w.blockOn q.addr = true) :
    w.regExec x q = ((0, [w.word q.addr]), { w with regs := w.regs.readClear (hubFields q.addr) }) := by
  simp [H.regExec, hop, hc, ha, hon]

/-- A write of one word answers with the word after the write (R366). -/
theorem H.regExec_write {w : H} (x : HubAt) {q : RegReq} (hop : q.op = 1) (hc : q.count = 1) (ha : q.addr % 4 = 0) (hon : w.blockOn q.addr = true) :
    w.regExec x q = ((0, [(w.storeReg x q.addr (q.values.getD 0 0 % 2 ^ 32)).word q.addr]),
      w.storeReg x q.addr (q.values.getD 0 0 % 2 ^ 32)) := by
  simp [H.regExec, hop, hc, ha, hon]

/-! ### The obligation -/

/-- Settles O20: each command leaves its function's result where the hub hears it; what the functions do is said above. -/
theorem hubCommandsComplete : Obligations.HubCommandsComplete := by
  unfold Obligations.HubCommandsComplete
  refine ⟨?boundary, ?advance, ?drop, ?unreach, ?unreachWaits, ?measure, ?measureWaits, ?done, ?doneWaits, ?beat, ?noBeat, ?lost,
    ?memory, ?alive, ?stopped, ?noRequest, ?badRequest, ?request, ?oneWord, ?off⟩
  case boundary =>
    intro s h hw hd
    exact exec_hubBoundary_heard hw hd
  case advance =>
    intro w x hs
    rw [H.advance_slews x hs]
    exact ⟨rfl, rfl, rfl⟩
  case drop =>
    intro s h l hw hd
    exact exec_hubFrameDrop_heard hw hd
  case unreach =>
    intro s h l p hw hd hsize hever hun hnot
    have hp : p < 8 := by simp_all [wf_hubUnreach]
    rw [exec_hubUnreach_heard hw hd, H.unreach_tells hp hsize hever hun hnot]
  case unreachWaits =>
    intro s h l p hw hd hun
    rw [exec_hubUnreach_heard hw hd, H.unreach_waits hun]
  case measure =>
    intro s h l hw hd hsize hdue hm w hv
    have hl : l < 64 := by simp_all [wf_loopMeasurement]
    rw [exec_loopMeasurement_heard hw hd, H.measure_starts hl hsize hdue hm, hv]
  case measureWaits =>
    intro s h l hw hd hdue
    rw [exec_loopMeasurement_heard hw hd, H.measure_waits hdue]
  case done =>
    intro s h l m w list hw hd hm hdone ha hb hu hlist v hv
    refine ⟨timeSetMail v list, ?_, timeSetMail_take v list⟩
    rw [exec_measurementComplete_heard hw hd, H.measureDone_bothEnds hm hdone ha hb hu hlist hv]
  case doneWaits =>
    intro s h l m hw hd hm hdone
    rw [exec_measurementComplete_heard hw hd, H.measureDone_waits hm hdone]
  case beat =>
    intro s h v hw hd
    exact exec_hubHeartbeatWrite_heard hw hd
  case noBeat =>
    intro s h hw hd hb
    rw [exec_hubHbLost_heard hw hd, H.heartLost_quiet _ hb]
  case lost =>
    intro s h hw hd hb
    exact ⟨_, exec_hubHbLost_heard hw hd, H.heartLost_effect _ hb⟩
  case memory =>
    intro s h w hw hd hv
    rw [exec_hubMemUnc_heard hw hd, hv]
    rfl
  case alive =>
    intro s h hw hd hs
    rw [exec_hubAliveToggle_heard hw hd, H.aliveToggle_running hs]
  case stopped =>
    intro s h hw hd hs
    rw [exec_hubAliveToggle_heard hw hd, H.aliveToggle_stopped hs]
  case noRequest =>
    intro s h hw hd hm
    rw [exec_regReq_heard hw hd, H.regReq_none _ hm]
  case badRequest =>
    intro s h b q rest hw hd hm hbad
    refine ⟨regAnswer q (1, []), ?_, rfl⟩
    rw [exec_regReq_heard hw hd, H.regReq_served _ hm, H.regExec_refused _ _ hbad]
  case request =>
    intro s h b q rest w r hw hd hm hv hr
    rw [exec_regReq_heard hw hd, H.regReq_served _ hm, hr, hv]
    rfl
  case oneWord =>
    intro w x q hc ha hon
    exact ⟨fun hop => H.regExec_read x hop hc ha hon, fun hop => H.regExec_write x hop hc ha hon⟩
  case off =>
    intro w x q hop hz hc ha hb hoff
    exact H.regExec_off x hop hz hc ha hb hoff

end Sys2Proof.Machine
end

section
/-! PROOFS. The configuration of a cell's switching block (R150, R153, R154), direct test mode and its PWM generator (R175 to R179),
calibrations (R168 to R170) and the refresh of a leg (R172, R174). -/
namespace Sys2Proof.Machine

theorem C.on_wr_ne (y : C) {f g : Fld} (x : Nat) (h : g.key ≠ f.key) : (y.wr f x).on g = y.on g :=
  congrArg (· != 0) (C.rd_wr_ne y x h)

theorem C.DrivenTo.on {y z : C} (h : y.DrivenTo z) {f : Fld} (hf : f.key ∉ driveKeys) : z.on f = y.on f := congrArg (· != 0) (h.rd hf)

/-! ### Bits cleared -/

theorem clrBit_add {v n : Nat} (h : bitAt v n = true) : 2 ^ n + clrBit v n = v := by
  have hle : 2 ^ n ≤ v := Nat.ge_two_pow_of_testBit (bitAt_eq_testBit v n ▸ h)
  rw [clrBit, if_pos h, Nat.add_sub_cancel' hle]

theorem clrBit_le (v n : Nat) : clrBit v n ≤ v := by
  unfold clrBit
  split
  · exact Nat.sub_le ..
  · exact Nat.le_refl v

theorem bitAt_clrBit_same (v n : Nat) : bitAt (clrBit v n) n = false := by
  rcases Bool.eq_false_or_eq_true (bitAt v n) with h | h
  · have hset := h
    rw [← clrBit_add h, bitAt_eq_testBit, Nat.testBit_two_pow_add_eq, Bool.not_eq_true', ← bitAt_eq_testBit] at hset
    exact hset
  · rw [clrBit, h, if_neg Bool.false_ne_true, h]

theorem bitAt_clrBit_lt (v : Nat) {n k : Nat} (hk : k < n) : bitAt (clrBit v n) k = bitAt v k := by
  rcases Bool.eq_false_or_eq_true (bitAt v n) with h | h
  · have hadd : (2 ^ n + clrBit v n).testBit k = v.testBit k := congrArg (Nat.testBit · k) (clrBit_add h)
    rw [bitAt_eq_testBit, bitAt_eq_testBit, ← hadd, Nat.testBit_two_pow_add_gt hk]
  · rw [clrBit, h, if_neg Bool.false_ne_true]

/-! ### A leg turned off by edges of the grid (R150, R158) -/

@[simp] theorem C.setRefresh_edges (y : C) (leg : Nat) (r : Refresh) : (y.setRefresh leg r).gte.edges = y.gte.edges := by
  unfold C.setRefresh
  rw [C.withGte_gte]
  split <;> rfl

@[simp] theorem C.lowEdge_edges (y : C) (leg ofs : Nat) (on : Bool) : (y.lowEdge leg ofs on).gte.edges = y.gte.edges := by
  unfold C.lowEdge
  extract_lets r len
  split
  · rw [C.setRefresh_edges]
  · split
    · rw [C.put_eq, C.wr_gte, C.setRefresh_edges]
    · rw [C.setRefresh_edges]

theorem reqFld_ne_outs (leg : Nat) : R.GTE_STATE_OUTS.key ≠ (reqFld leg).key := by
  unfold reqFld
  split <;> decide

@[simp] theorem C.lowEdge_outs (y : C) (leg ofs : Nat) (on : Bool) : (y.lowEdge leg ofs on).outs = y.outs := by
  unfold C.lowEdge C.outs
  extract_lets r len
  split
  · rfl
  · split
    · exact C.rd_wr_ne _ _ (reqFld_ne_outs leg)
    · rfl

theorem C.setOut_edges (y : C) (sw ofs : Nat) (on : Bool) (adv : Nat) (line : Option Bool) :
    (y.setOut sw ofs on adv line).gte.edges = y.gte.edges := by
  unfold C.setOut
  split
  · rfl
  · extract_lets z ball via w
    split
    · rw [C.lowEdge_edges]
      rfl
    · rfl

theorem C.setOut_off_outs (y : C) (sw ofs adv : Nat) (line : Option Bool) : (y.setOut sw ofs false adv line).outs = clrBit y.outs sw := by
  have hwidth : clrBit y.outs sw < 16 := Nat.lt_of_le_of_lt (clrBit_le ..) (C.rd_lt y R.GTE_STATE_OUTS)
  have hclear : (y.wr R.GTE_STATE_OUTS (clrBit y.outs sw)).outs = clrBit y.outs sw :=
    (C.rd_wr_same ..).trans (Nat.mod_eq_of_lt hwidth)
  unfold C.setOut
  split
  case isTrue h => rw [clrBit, h, if_neg Bool.false_ne_true]
  case isFalse =>
    extract_lets z ball via w
    split
    · rw [C.lowEdge_outs]
      exact hclear
    · exact hclear

theorem C.legDrop_edges (y : C) (leg ofs : Nat) : (y.legDrop leg ofs).gte.edges = y.gte.edges.filter (fun e => e.sw / 2 != leg) := by
  rw [C.legDrop, C.setOut_edges, C.setOut_edges]
  rfl

theorem C.legDrop_outs (y : C) (leg ofs : Nat) : (y.legDrop leg ofs).outs = clrBit (clrBit y.outs (2 * leg)) (2 * leg + 1) := by
  rw [C.legDrop, C.setOut_off_outs, C.setOut_off_outs]
  rfl

theorem C.DrivenTo.legDrop (y : C) (leg ofs : Nat) : y.DrivenTo (y.legDrop leg ofs) :=
  ((C.DrivenTo.withGte y rfl).trans (C.DrivenTo.setOut ..)).trans (C.DrivenTo.setOut ..)

/-! ### The pattern table and `GTE_CTL` (R153, R154) -/

theorem C.patWrite_unlocked {y : C} {code : Nat} (ofs v : Nat) (hc : code < 5) (hl : y.on R.GTE_CTL_LOCK = false) :
    y.patWrite ofs code v =
      if (bitAt v 0 && bitAt v 1) || (bitAt v 2 && bitAt v 3) then (y.inc R.GTE_CNT_C_PAT_REJ_CNT).raise ofs CC.PAT_REJ []
      else y.wr (R.GTE_PAT_PAT code) v := if_neg (by simp [hl, Nat.not_lt.mpr (Nat.le_of_lt_succ hc)])

section Table
variable {y : C} {code v : Nat} (ofs : Nat) (hc : code < 5) (hl : y.on R.GTE_CTL_LOCK = false)
include hc hl

theorem C.patWrite_taken (hx : ¬ (bitAt v 0 = true ∧ bitAt v 1 = true)) (hy : ¬ (bitAt v 2 = true ∧ bitAt v 3 = true)) :
    y.patWrite ofs code v = y.wr (R.GTE_PAT_PAT code) v := by
  rw [C.patWrite_unlocked ofs v hc hl, if_neg (by simpa only [Bool.or_eq_true, Bool.and_eq_true] using not_or.mpr ⟨hx, hy⟩)]

theorem C.patWrite_short (h : (bitAt v 0 = true ∧ bitAt v 1 = true) ∨ (bitAt v 2 = true ∧ bitAt v 3 = true)) :
    y.patWrite ofs code v = (y.inc R.GTE_CNT_C_PAT_REJ_CNT).raise ofs CC.PAT_REJ [] := by
  rw [C.patWrite_unlocked ofs v hc hl, if_pos (by simpa only [Bool.or_eq_true, Bool.and_eq_true] using h)]

end Table

/-- TYPE, BYP_SEL and SAFE as a write of `GTE_CTL` gives them. -/
def C.typed (y : C) (v : Nat) : C := ((y.wr R.GTE_CTL_TYPE (bits v 0 1)).wr R.GTE_CTL_BYP_SEL (bits v 1 1)).wr R.GTE_CTL_SAFE (bits v 2 1)

/-- The cell with its type taken: a half-bridge cell has leg Y off (R150). -/
def C.retyped (y : C) (ofs v : Nat) : C := if bitAt v 0 then y.typed v else (y.typed v).legDrop 1 ofs

theorem C.gteCtlWrite_unlocked {y : C} (ofs v : Nat) (hl : y.on R.GTE_CTL_LOCK = false) :
    y.gteCtlWrite ofs v = if bitAt v 3 then (y.retyped ofs v).wr R.GTE_CTL_LOCK 1 else y.retyped ofs v := by
  rw [C.gteCtlWrite, hl]
  rfl

theorem C.gteCtlWrite_locked {y : C} (ofs : Nat) {v : Nat} (hl : y.on R.GTE_CTL_LOCK = true) (hv : bitAt v 3 = false) : y.gteCtlWrite ofs v = y := by
  rw [C.gteCtlWrite, hl, hv]
  rfl

theorem C.retyped_driven (y : C) (ofs v : Nat) : (y.typed v).DrivenTo (y.retyped ofs v) :=
  C.DrivenTo.ite (fun _ => C.DrivenTo.refl _) (fun _ => C.DrivenTo.legDrop ..)

/-- LOCK leaves every other field, and what stands beside the registers. -/
theorem C.gteCtlWrite_unlocked_keeps {y : C} (ofs v : Nat) (hl : y.on R.GTE_CTL_LOCK = false) :
    (∀ {f : Fld}, f.key ≠ R.GTE_CTL_LOCK.key → (y.gteCtlWrite ofs v).rd f = (y.retyped ofs v).rd f) ∧
      (y.gteCtlWrite ofs v).gte = (y.retyped ofs v).gte ∧ (y.gteCtlWrite ofs v).out = (y.retyped ofs v).out := by
  rw [C.gteCtlWrite_unlocked ofs v hl]
  split
  · exact ⟨fun hf => C.rd_wr_ne _ _ hf, rfl, rfl⟩
  · exact ⟨fun _ => rfl, rfl, rfl⟩

theorem C.typed_fields (y : C) (v : Nat) : (y.typed v).rd R.GTE_CTL_TYPE = bits v 0 1 ∧ (y.typed v).rd R.GTE_CTL_BYP_SEL = bits v 1 1 ∧
    (y.typed v).rd R.GTE_CTL_SAFE = bits v 2 1 ∧ (y.typed v).rd R.GTE_CTL_LOCK = y.rd R.GTE_CTL_LOCK := by
  have hbit : ∀ k, bits v k 1 % 2 ^ 1 = bits v k 1 := fun k => Nat.mod_eq_of_lt (bits_lt ..)
  refine ⟨?_, ?_, ?_, ?_⟩
  · rw [C.typed, C.rd_wr_ne _ _ (by decide), C.rd_wr_ne _ _ (by decide), C.rd_wr_same, hbit]
  · rw [C.typed, C.rd_wr_ne _ _ (by decide), C.rd_wr_same, hbit]
  · rw [C.typed, C.rd_wr_same, hbit]
  · rw [C.typed, C.rd_wr_ne _ _ (by decide), C.rd_wr_ne _ _ (by decide), C.rd_wr_ne _ _ (by decide)]

theorem C.gteCtlWrite_fields {y : C} (ofs v : Nat) (hl : y.on R.GTE_CTL_LOCK = false) :
    (y.gteCtlWrite ofs v).rd R.GTE_CTL_TYPE = bits v 0 1 ∧ (y.gteCtlWrite ofs v).rd R.GTE_CTL_BYP_SEL = bits v 1 1 ∧
      (y.gteCtlWrite ofs v).rd R.GTE_CTL_SAFE = bits v 2 1 := by
  obtain ⟨hkeep, -, -⟩ := C.gteCtlWrite_unlocked_keeps ofs v hl
  obtain ⟨htype, hbyp, hsafe, -⟩ := y.typed_fields v
  have hdriven := y.retyped_driven ofs v
  refine ⟨?_, ?_, ?_⟩
  · rw [hkeep (by decide), hdriven.rd (by decide), htype]
  · rw [hkeep (by decide), hdriven.rd (by decide), hbyp]
  · rw [hkeep (by decide), hdriven.rd (by decide), hsafe]

theorem C.gteCtlWrite_lock {y : C} (ofs v : Nat) (hl : y.on R.GTE_CTL_LOCK = false) :
    (y.gteCtlWrite ofs v).rd R.GTE_CTL_LOCK = b2n (bitAt v 3) := by
  obtain ⟨-, -, -, hlock⟩ := y.typed_fields v
  rw [C.gteCtlWrite_unlocked ofs v hl]
  split
  case isTrue h =>
    rw [C.rd_wr_same, h]
    rfl
  case isFalse h =>
    rw [(y.retyped_driven ofs v).rd (by decide), hlock, eq_false_of_ne_true h]
    simpa [C.on] using hl

theorem C.gteCtlWrite_fullBridge {y : C} (ofs : Nat) {v : Nat} (hl : y.on R.GTE_CTL_LOCK = false) (h : bitAt v 0 = true) :
    (y.gteCtlWrite ofs v).out = y.out ∧ (y.gteCtlWrite ofs v).gte = y.gte := by
  obtain ⟨-, hgte, hout⟩ := C.gteCtlWrite_unlocked_keeps ofs v hl
  rw [hgte, hout, C.retyped, if_pos h]
  exact ⟨rfl, rfl⟩

theorem C.gteCtlWrite_halfBridge {y : C} (ofs : Nat) {v : Nat} (hl : y.on R.GTE_CTL_LOCK = false) (h : bitAt v 0 = false) :
    (y.gteCtlWrite ofs v).gte.edges = y.gte.edges.filter (fun e => e.sw / 2 != 1) ∧ bitAt (y.gteCtlWrite ofs v).outs 2 = false ∧
      bitAt (y.gteCtlWrite ofs v).outs 3 = false := by
  obtain ⟨hkeep, hgte, -⟩ := C.gteCtlWrite_unlocked_keeps ofs v hl
  have hdrop : y.retyped ofs v = (y.typed v).legDrop 1 ofs := if_neg (by simp [h])
  have houts : (y.gteCtlWrite ofs v).outs = clrBit (clrBit (y.typed v).outs 2) 3 := by
    rw [C.outs, hkeep (by decide), hdrop]
    exact C.legDrop_outs ..
  refine ⟨?_, ?_, ?_⟩
  · rw [hgte, hdrop, C.legDrop_edges]
    rfl
  · rw [houts, bitAt_clrBit_lt _ (by decide), bitAt_clrBit_same]
  · rw [houts, bitAt_clrBit_same]

/-! ### Direct test mode begun and ended (R159, R175, R176) -/

theorem C.testOk_iff (y : C) : y.testOk = true ↔ y.blockByOrder = true ∧ y.on R.GTE_STATE_BLOCK_LATCH = false ∧
    y.on R.GTE_STATE_RETIRE_LATCH = false ∧ y.gte.safe = false := by
  simp only [C.testOk, Bool.and_eq_true, Bool.not_eq_true', and_assoc]

theorem C.testEnWrite_begins {y : C} (ofs : Nat) (ht : y.on R.GTE_CTL_TEST_EN = false) (hok : y.testOk = true) :
    y.testEnWrite ofs true =
      let z := ((y.gridOff ofs).wr R.GTE_CTL_TEST_EN 1).showRow 6 0
      if z.gte.held.any (fun e => e.2.code != 0) then (z.endTest ofs).raise ofs CC.TEST_ABORT [] else z := by
  simp only [C.testEnWrite, ht, hok, Bool.not_true, Bool.or_false, Bool.false_eq_true, if_false]

theorem C.testEnWrite_refused {y : C} (ofs : Nat) (hok : y.testOk = false) : y.testEnWrite ofs true = y := by
  simp only [C.testEnWrite, hok, Bool.not_true, Bool.not_false, Bool.or_true, Bool.false_eq_true, if_false, if_true]

theorem C.testEnWrite_clear (y : C) (ofs : Nat) : y.testEnWrite ofs false = y.endTest ofs := rfl

theorem C.endTest_testing {y : C} (ofs : Nat) (ht : y.on R.GTE_CTL_TEST_EN = true) :
    y.endTest ofs = (((y.wr R.GTE_CTL_TEST_EN 0).dropGen (fun _ => true)).gridOff ofs).showRow y.orderRow 0 := if_pos ht

theorem C.endTest_idle {y : C} (ofs : Nat) (ht : y.on R.GTE_CTL_TEST_EN = false) : y.endTest ofs = y :=
  if_neg (Bool.eq_false_iff.mp ht)

/-! ### A leg changed and the PWM generator (R156, R157, R178, R179) -/

/-- A cell that differs in its registers and its pending edges alone. -/
def C.EdgedTo (y z : C) : Prop := ∃ r e, z = { y with regs := r, gte := { y.gte with edges := e } }

theorem C.EdgedTo.refl (y : C) : y.EdgedTo y := ⟨y.regs, y.gte.edges, rfl⟩

theorem C.EdgedTo.trans {x y z : C} (h : x.EdgedTo y) (k : y.EdgedTo z) : x.EdgedTo z := by
  obtain ⟨_, _, rfl⟩ := h
  obtain ⟨r, e, rfl⟩ := k
  exact ⟨r, e, rfl⟩

/-- All that changing a leg can do beside its edges is to count a push (R156, R157). -/
theorem C.changeLeg_edged (y : C) (leg at_ want : Nat) : y.EdgedTo (y.changeLeg leg at_ want) := by
  unfold C.changeLeg
  extract_lets want' tgt pend start pushed line edge
  have hpush : y.EdgedTo pushed := by
    unfold pushed
    split
    · exact ⟨_, _, rfl⟩
    · exact .refl y
  have hedge : ∀ (c : C) k, c.EdgedTo (edge c k) := by
    intro c k
    unfold edge
    extract_lets sw
    split
    · exact .refl c
    · split
      · exact ⟨_, _, rfl⟩
      · exact ⟨_, _, rfl⟩
  split
  · exact .refl y
  · exact (hpush.trans (hedge ..)).trans (hedge ..)

@[simp] theorem C.changeLeg_prt (y : C) (leg at_ want : Nat) : (y.changeLeg leg at_ want).prt = y.prt := by
  obtain ⟨r, e, h⟩ := y.changeLeg_edged leg at_ want
  rw [h]

@[simp] theorem C.changeLeg_dead (y : C) (leg at_ want l : Nat) : (y.changeLeg leg at_ want).dead l = y.dead l := by
  obtain ⟨r, e, h⟩ := y.changeLeg_edged leg at_ want
  rw [h]
  rfl

theorem C.legHeld_eq (y : C) (leg : Nat) : y.legHeld leg = (y.prt.uvlo || y.on (if leg = 0 then R.PRT_STATE_HOLD_X else R.PRT_STATE_HOLD_Y)) := rfl

/-- Whether a leg is held rests on the holds and the lock-out alone (R159). -/
theorem C.legHeld_congr {y z : C} (leg : Nat) (hp : z.prt = y.prt) (hx : z.on R.PRT_STATE_HOLD_X = y.on R.PRT_STATE_HOLD_X)
    (hy : z.on R.PRT_STATE_HOLD_Y = y.on R.PRT_STATE_HOLD_Y) : z.legHeld leg = y.legHeld leg := by
  rw [C.legHeld_eq, C.legHeld_eq, hp]
  split
  · rw [hx]
  · rw [hy]

@[simp] theorem C.withGte_legHeld (y : C) (f : Gte → Gte) (leg : Nat) : (y.withGte f).legHeld leg = y.legHeld leg := rfl

@[simp] theorem C.changeLeg_legHeld (y : C) (leg at_ want l : Nat) : (y.changeLeg leg at_ want).legHeld l = y.legHeld l :=
  C.legHeld_congr l (C.changeLeg_prt ..) ((C.DrivenTo.changeLeg ..).on (by decide)) ((C.DrivenTo.changeLeg ..).on (by decide))

theorem C.genChange_free {y : C} {leg : Nat} (at_ want : Nat) (h : y.legHeld leg = false) :
    y.genChange leg at_ want =
      (y.withGte (fun g => { g with level := g.level - bits g.level (2 * leg) 2 * 4 ^ leg + want * 4 ^ leg })).changeLeg leg at_ want :=
  if_neg (by rw [C.withGte_legHeld, h]; exact Bool.false_ne_true)

theorem C.pwmRun_starts {y : C} (h : y.on R.GTE_PWM_CTL_RUN = false) : y.pwmRun true = (y.wr R.GTE_PWM_CTL_RUN 1).takePwm :=
  if_pos (by simp [h])

theorem C.pwmRun_stops (y : C) : y.pwmRun false = (y.wr R.GTE_PWM_CTL_RUN 0).dropGen (fun _ => true) := rfl

theorem C.pwmPeriod_loads {y : C} (ofs : Nat) (hrun : y.on R.GTE_PWM_CTL_RUN = true) (hload : y.on R.GTE_PWM_CTL_LOAD = true)
    (ht : y.on R.GTE_CTL_TEST_EN = false) : y.pwmPeriod ofs = y.takePwm.wr R.GTE_PWM_CTL_LOAD 0 := by
  have htest : C.testing (y.takePwm.wr R.GTE_PWM_CTL_LOAD 0) = false := by
    have hen : (y.takePwm.wr R.GTE_PWM_CTL_LOAD 0).on R.GTE_CTL_TEST_EN = false := (C.on_wr_ne _ _ (by decide)).trans ht
    rw [C.testing, hen]
    rfl
  simp only [C.pwmPeriod, hrun, hload, htest, Bool.not_true, Bool.not_false, Bool.false_eq_true, if_true, if_false]

/-- Leg X taken by the PWM generator at the start of a period: high at once, low once its duty has passed (R178). -/
def C.legXPeriod (y : C) (ofs on : Nat) : C :=
  ((y.withGte (fun g => { g with level := g.level - bits g.level 0 2 + 1 })).changeLeg 0 ofs 1).withGte
    (fun g => { g with gen := insertGen (0, ofs + on, 2) g.gen })

theorem C.legXPeriod_eq {y : C} (ofs on : Nat) (hh : y.legHeld 0 = false) :
    (y.genChange 0 ofs 1).withGte (fun g => { g with gen := insertGen (0, ofs + on, 2) g.gen }) = y.legXPeriod ofs on := by
  rw [C.genChange_free _ _ hh]
  simp only [Nat.mul_zero, Nat.pow_zero, Nat.mul_one, C.legXPeriod]

/-- A period of leg X alone whose two parts both last DEAD_X (R178). -/
theorem C.pwmPeriod_legX {y : C} (ofs : Nat) {on : Nat} (hrun : y.on R.GTE_PWM_CTL_RUN = true) (hload : y.on R.GTE_PWM_CTL_LOAD = false)
    (ht : y.testing = true) (hx : y.on R.GTE_TEST_MODE_X = true) (hh : y.legHeld 0 = false)
    (hon : on = (rdiv ((y.gte.pwm.2 * y.gte.pwm.1 : Nat) : Int) 65536).toNat) (hhigh : y.gte.deadX ≤ on)
    (hlow : y.gte.deadX ≤ y.gte.pwm.1 - on) (hy : (y.legXPeriod ofs on).on R.GTE_TEST_MODE_Y = false) :
    y.pwmPeriod ofs = (y.legXPeriod ofs on).placeEdges ofs := by
  have hdead : y.dead 0 = y.gte.deadX := rfl
  have hdead' : (y.genChange 0 ofs 1).dead 0 = y.gte.deadX := by
    rw [C.genChange_free _ _ hh, C.changeLeg_dead]
    rfl
  simp only [C.pwmPeriod, hrun, hload, ht, hx, Bool.not_true, Bool.false_eq_true, if_true, if_false, Nat.zero_ne_one, decide_false, Bool.false_and,
    ← hon, hdead, Nat.not_lt.mpr hhigh, hdead', Nat.not_lt.mpr hlow, C.legXPeriod_eq ofs on hh, Nat.one_ne_zero, hy, Bool.not_false]

/-! ### A write of `GTE_TEST` (R177) -/

/-- MODE_X and MODE_Y as a write of `GTE_TEST` gives them, the PWM generator withdrawn from the legs it no longer drives. -/
def C.testModes (y : C) (v : Nat) : C :=
  ((y.wr R.GTE_TEST_MODE_X (bits v 4 1)).wr R.GTE_TEST_MODE_Y (bits v 5 1)).dropGen (fun leg => !bitAt v (4 + leg))

theorem C.testModes_on (y : C) (v : Nat) {f : Fld} (hx : f.key ≠ R.GTE_TEST_MODE_X.key) (hy : f.key ≠ R.GTE_TEST_MODE_Y.key) :
    (y.testModes v).on f = y.on f := (C.on_wr_ne _ _ hy).trans (C.on_wr_ne _ _ hx)

theorem C.testModes_testing (y : C) (v : Nat) : (y.testModes v).testing = y.testing := by
  have hon := fun {f : Fld} => y.testModes_on v (f := f)
  rw [C.testing, hon (by decide) (by decide), hon (by decide) (by decide), hon (by decide) (by decide)]
  rfl

theorem bits_one_eq_zero_of_bits_two {v : Nat} (h : bits v 4 2 = 0) : bits v 4 1 = 0 ∧ bits v 5 1 = 0 := by
  unfold bits at *
  omega

theorem C.testWrite_idle {y : C} (ofs v : Nat) (ht : y.on R.GTE_CTL_TEST_EN = false) :
    y.testWrite ofs v = (y.testModes v).wr R.GTE_TEST_OUTS v := by
  have htest : (y.testModes v).testing = false := by
    rw [C.testModes_testing, C.testing, ht]
    rfl
  exact if_pos (by rw [Bool.not_eq_true']; exact htest)

/-- The patterns of `GTE_TEST` shown, neither leg short. -/
def C.testShown (y : C) (v : Nat) : C := (y.testModes v).wr R.GTE_TEST_OUTS (legOf v 0 + legOf v 1 * 4)

theorem C.testShown_on (y : C) (v : Nat) {f : Fld} (hx : f.key ≠ R.GTE_TEST_MODE_X.key) (hy : f.key ≠ R.GTE_TEST_MODE_Y.key)
    (ho : f.key ≠ R.GTE_TEST_OUTS.key) : (y.testShown v).on f = y.on f := (C.on_wr_ne _ _ ho).trans (y.testModes_on v hx hy)

@[simp] theorem C.testShown_legHeld (y : C) (v leg : Nat) : (y.testShown v).legHeld leg = y.legHeld leg :=
  C.legHeld_congr leg rfl (y.testShown_on v (by decide) (by decide) (by decide)) (y.testShown_on v (by decide) (by decide) (by decide))

theorem C.testShown_modes {y : C} {v : Nat} (h : bits v 4 2 = 0) :
    (y.testShown v).on R.GTE_TEST_MODE_X = false ∧ (y.testShown v).on R.GTE_TEST_MODE_Y = false := by
  obtain ⟨h4, h5⟩ := bits_one_eq_zero_of_bits_two h
  constructor
  · rw [C.testShown, C.on_wr_ne _ _ (by decide), C.testModes, C.dropGen, C.on_withGte, C.on_wr_ne _ _ (by decide), C.on, C.rd_wr_same, h4]
    rfl
  · rw [C.testShown, C.on_wr_ne _ _ (by decide), C.testModes, C.dropGen, C.on_withGte, C.on, C.rd_wr_same, h5]
    rfl

/-- Both legs take the patterns of `GTE_TEST` in direct test mode, where neither would short, is held or has the PWM generator. -/
theorem C.testWrite_drives {y : C} (ofs : Nat) {v : Nat} (ht : y.testing = true) (hm : bits v 4 2 = 0) (h0 : legOf v 0 ≠ 3) (h1 : legOf v 1 ≠ 3)
    (hx : y.legHeld 0 = false) (hy : y.legHeld 1 = false) :
    y.testWrite ofs v =
      ((y.testShown v).changeLeg 0 ((ofs / 64 + 1) * 64) (legOf v 0)).changeLeg 1 ((ofs / 64 + 1) * 64) (legOf v 1) := by
  obtain ⟨hmx, hmy⟩ := y.testShown_modes hm
  have hmodeY := ((C.DrivenTo.changeLeg (y.testShown v) 0 ((ofs / 64 + 1) * 64) (legOf v 0)).on (f := R.GTE_TEST_MODE_Y) (by decide)).trans hmy
  have hshort0 : (legOf v 0 == 3) = false := beq_false_of_ne h0
  have hshort1 : (legOf v 1 == 3) = false := beq_false_of_ne h1
  have htest : (y.testModes v).testing = true := (y.testModes_testing v).trans ht
  unfold C.testWrite
  extract_lets w legs short outs shown driven
  have hshown : shown = y.testShown v := by
    simp only [shown, outs, legs, short, List.foldl_cons, List.foldl_nil, hshort0, hshort1, Bool.false_eq_true, if_false, Nat.zero_add, Nat.pow_zero,
      Nat.pow_one, Nat.mul_one]
    rfl
  have hdriven : driven = ((y.testShown v).changeLeg 0 ((ofs / 64 + 1) * 64) (legOf v 0)).changeLeg 1 ((ofs / 64 + 1) * 64) (legOf v 1) := by
    simp only [driven, hshown, legs, short, List.foldl_cons, List.foldl_nil, if_true, hmx, hmodeY, hshort0, hshort1, Nat.one_ne_zero, if_false,
      C.changeLeg_legHeld, C.testShown_legHeld, hx, hy, Bool.or_false, Bool.false_eq_true]
  rw [if_neg (by rw [show w.testing = true from htest]; decide), hdriven]
  exact if_neg (by simp [short, hshort0, hshort1])

/-! ### A calibration of the idle line (R168 to R170) -/

section Calibration
variable {y : C} {p q : Nat} (ofs : Nat)

theorem C.calibrated_idle (h : y.gte.cal ≠ 2) : y.calibrated ofs p q = y := if_pos h

variable (hcal : y.gte.cal = 2) (hs : y.on R.GTE_CAL_SERVING = false)
include hcal hs

/-- Line A serves, and the tap counts of line B are good: they are taken, and the lines swap (R169). -/
theorem C.calibrated_takes (h50 : 50 ≤ q) (h64 : q ≤ 64) (hp : p ≤ q + 1) (hq : q ≤ p + 1) :
    y.calibrated ofs p q =
      (((y.withGte (fun g => { g with cal := 0 })).withGte (fun g => { g with calBad := (g.calBad.1, 0) })).wr R.GTE_CAL_P_B q).withGte
        (fun g => { g with swap := true }) := by
  simp only [C.calibrated, hcal, hs, C.on_withGte, ne_eq, not_true_eq_false, if_false, h50, h64, hp, hq, decide_true, Bool.and_true, Bool.not_false,
    if_true]

/-- Line A serves, and the third bad calibration of line B in a row puts it out of service (R170). -/
theorem C.calibrated_fails (hbad : q < 50 ∨ 64 < q ∨ q + 1 < p ∨ p + 1 < q) (htwo : y.gte.calBad.2 = 2) :
    y.calibrated ofs p q =
      ((((y.withGte (fun g => { g with cal := 0 })).inc R.GTE_CNT_C_CAL_BAD_CNT).withGte
        (fun g => { g with calBad := (g.calBad.1, 3) })).wr R.GTE_CAL_OUT_B 1).raise ofs CC.CAL_FAIL [] := by
  have hrange : (decide (50 ≤ q) && decide (q ≤ 64) && decide (p ≤ q + 1) && decide (q ≤ p + 1)) = false := by
    simp only [← Bool.decide_and, decide_eq_false_iff_not]
    omega
  simp only [C.calibrated, hcal, hs, C.on_withGte, ne_eq, not_true_eq_false, if_false, hrange, Bool.false_eq_true, Bool.not_false, if_true,
    C.withGte_gte, htwo, Nat.reduceAdd, ge_iff_le, Nat.le_refl]

end Calibration

/-! ### The refresh of a leg (R172, R174) -/

theorem C.requestCheck_asks {y : C} {leg : Nat} (hm : y.marked leg = true)
    (hus : y.rd R.GTE_BOOT_ON_MAX - y.rd R.GTE_BOOT_ADV ≤ (y.refresh leg).us) :
    y.requestCheck leg = y.wr (reqFld leg) 1 := if_pos (by simp only [hm, Bool.true_and]; exact decide_eq_true hus)

theorem C.autoCheck_due {y : C} {leg : Nat} (hm : y.marked leg = true) (hus : y.rd R.GTE_BOOT_ON_MAX ≤ (y.refresh leg).us) :
    y.autoCheck leg = y.setRefresh leg { y.refresh leg with due := true } := if_pos (by simp only [hm, Bool.true_and]; exact decide_eq_true hus)

/-! ### Each command leaves its function's result -/

section Commands
variable {s : State} {cid ofs : Nat} {y : C}

theorem exec_gtePatWrite_now {code v : Nat} (hw : (Instr.gtePatWrite cid code v).wf = true) (hn : (s.cell cid).now cid = (ofs, y)) :
    exec (.gtePatWrite cid code v) s = .next (s.withCell cid (y.patWrite ofs code v)) := by
  rw [exec_gtePatWrite, execGtePatWrite, State.onCellNow_next _ hw hn]

theorem exec_gteCtlWrite_now {v : Nat} (hw : (Instr.gteCtlWrite cid v).wf = true) (hn : (s.cell cid).now cid = (ofs, y)) :
    exec (.gteCtlWrite cid v) s = .next (s.withCell cid (y.gteCtlWrite ofs v)) := by
  rw [exec_gteCtlWrite, execGteCtlWrite, State.onCellNow_next _ hw hn]

theorem exec_testEnWrite_now {en : Bool} (hw : (Instr.testEnWrite cid en).wf = true) (hn : (s.cell cid).now cid = (ofs, y)) :
    exec (.testEnWrite cid en) s = .next (s.withCell cid (y.testEnWrite ofs en)) := by
  rw [exec_testEnWrite, execTestEnWrite, State.onCellNow_next _ hw hn]

theorem exec_gteTestWrite_now {v : Nat} (hw : (Instr.gteTestWrite cid v).wf = true) (hn : (s.cell cid).now cid = (ofs, y)) :
    exec (.gteTestWrite cid v) s = .next (s.withCell cid (y.testWrite ofs v)) := by
  rw [exec_gteTestWrite, execGteTestWrite, State.onCellNow_next _ hw hn]

theorem exec_pwmPeriodStart_now (hw : (Instr.pwmPeriodStart cid).wf = true) (hn : (s.cell cid).now cid = (ofs, y)) :
    exec (.pwmPeriodStart cid) s = .next (s.withCell cid (y.pwmPeriod ofs)) := by
  rw [exec_pwmPeriodStart, execPwmPeriodStart, State.onCellNow_next _ hw hn]

theorem exec_calibrationComplete_now {p q : Nat} (hw : (Instr.calibrationComplete cid p q).wf = true) (hn : (s.cell cid).now cid = (ofs, y)) :
    exec (.calibrationComplete cid p q) s = .next (s.withCell cid (y.calibrated ofs p q)) := by
  rw [exec_calibrationComplete, execCalibrationComplete, State.onCellNow_next _ hw hn]

theorem exec_pwmRunWrite_next {run : Bool} (hw : (Instr.pwmRunWrite cid run).wf = true) :
    exec (.pwmRunWrite cid run) s = .next (s.withCell cid ((s.cell cid).pwmRun run)) := by
  rw [exec_pwmRunWrite, execPwmRunWrite, State.onCell_next _ _ hw]
  rfl

theorem exec_pwmLoad_next (hw : (Instr.pwmLoad cid).wf = true) :
    exec (.pwmLoad cid) s = .next (s.withCell cid ((s.cell cid).wr R.GTE_PWM_CTL_LOAD 1)) := by
  rw [exec_pwmLoad, execPwmLoad, State.onCell_next _ _ hw]
  rfl

theorem exec_refreshRequest_next {leg : Nat} (hw : (Instr.refreshRequest cid leg).wf = true) :
    exec (.refreshRequest cid leg) s = .next (s.withCell cid ((s.cell cid).requestCheck leg)) := by
  rw [exec_refreshRequest, execRefreshRequest, State.onCell_next _ _ hw]
  rfl

theorem exec_autoRefresh_next {leg : Nat} (hw : (Instr.autoRefresh cid leg).wf = true) :
    exec (.autoRefresh cid leg) s = .next (s.withCell cid ((s.cell cid).autoCheck leg)) := by
  rw [exec_autoRefresh, execAutoRefresh, State.onCell_next _ _ hw]
  rfl

end Commands

/-! ### The obligation -/

/-- Settles O11: each command leaves its function's result on the cell, and each clause is one case of that function, said above. -/
theorem gateConfigurationCommandsComplete : Obligations.GateConfigurationCommandsComplete := by
  unfold Obligations.GateConfigurationCommandsComplete
  refine ⟨?pattern, ?short, ?control, ?controlLocked, ?begins, ?refused, ?ends, ?ended, ?testIdle, ?testDrives, ?runs, ?stops, ?load, ?periodLoads,
    ?periodLegX, ?calTaken, ?calFails, ?calIdle, ?request, ?auto⟩
  case pattern =>
    intro s cid code v ofs y hw hn hl hx hy
    have hc : code < 5 := by simp_all [wf_gtePatWrite]
    rw [exec_gtePatWrite_now hw hn, C.patWrite_taken ofs hc hl hx hy]
  case short =>
    intro s cid code v ofs y hw hn hl h
    have hc : code < 5 := by simp_all [wf_gtePatWrite]
    rw [exec_gtePatWrite_now hw hn, C.patWrite_short ofs hc hl h]
  case control =>
    intro s cid v ofs y hw hn hl
    obtain ⟨htype, hbyp, hsafe⟩ := C.gteCtlWrite_fields ofs v hl
    exact ⟨_, exec_gteCtlWrite_now hw hn, htype, hbyp, hsafe, C.gteCtlWrite_lock ofs v hl, C.gteCtlWrite_fullBridge ofs hl,
      C.gteCtlWrite_halfBridge ofs hl⟩
  case controlLocked =>
    intro s cid v ofs y hw hn hl hv
    rw [exec_gteCtlWrite_now hw hn, C.gteCtlWrite_locked ofs hl hv]
  case begins =>
    rintro s cid ofs y hw hn ht hblock hlatch hretire hsafe _ rfl
    rw [exec_testEnWrite_now hw hn, C.testEnWrite_begins ofs ht (y.testOk_iff.mpr ⟨hblock, hlatch, hretire, hsafe⟩)]
    exact ⟨fun hnone => congrArg _ (congrArg _ (if_neg (Bool.eq_false_iff.mp hnone))), fun hheld => congrArg _ (congrArg _ (if_pos hheld))⟩
  case refused =>
    intro s cid ofs y hw hn h
    have hok : y.testOk = false := by
      rw [Bool.eq_false_iff, ne_eq, C.testOk_iff]
      rintro ⟨hblock, hlatch, hretire, hsafe⟩
      simp [hblock, hlatch, hretire, hsafe] at h
    rw [exec_testEnWrite_now hw hn, C.testEnWrite_refused ofs hok]
  case ends =>
    intro s cid ofs y hw hn ht
    rw [exec_testEnWrite_now hw hn, C.testEnWrite_clear, C.endTest_testing ofs ht]
  case ended =>
    intro s cid ofs y hw hn ht
    rw [exec_testEnWrite_now hw hn, C.testEnWrite_clear, C.endTest_idle ofs ht]
  case testIdle =>
    intro s cid v ofs y hw hn ht
    rw [exec_gteTestWrite_now hw hn, C.testWrite_idle ofs v ht, C.testModes]
  case testDrives =>
    intro s cid v ofs y hw hn ht hm h0 h1 hx hy hu
    obtain ⟨hmx, hmy⟩ := bits_one_eq_zero_of_bits_two hm
    have hheldX : y.legHeld 0 = false := by rw [C.legHeld_eq, hu, if_pos rfl, hx, Bool.or_false]
    have hheldY : y.legHeld 1 = false := by rw [C.legHeld_eq, hu, if_neg Nat.one_ne_zero, hy, Bool.or_false]
    refine ⟨y.testShown v, ?_, ?_⟩
    · rw [C.testShown, C.testModes, hmx, hmy]
    · rw [exec_gteTestWrite_now hw hn, C.testWrite_drives ofs ht hm h0 h1 hheldX hheldY]
  case runs =>
    intro s cid hw h
    refine ⟨_, exec_pwmRunWrite_next hw, ?_, ?_⟩
    · rw [C.pwmRun_starts h, C.takePwm, C.rd_withGte, C.rd_wr_same]
      rfl
    · rw [C.pwmRun_starts h, C.takePwm, C.withGte_gte, C.rd_wr_ne _ _ (by decide), C.rd_wr_ne _ _ (by decide)]
  case stops =>
    intro s cid hw
    rw [exec_pwmRunWrite_next hw, C.pwmRun_stops]
  case load => exact fun s cid hw => exec_pwmLoad_next hw
  case periodLoads =>
    intro s cid ofs y hw hn hrun hload ht
    rw [exec_pwmPeriodStart_now hw hn, C.pwmPeriod_loads ofs hrun hload ht, C.takePwm]
  case periodLegX =>
    intro s cid ofs y on hw hn hrun hload ht hx hu hhold hon hhigh hlow
    have hheld : y.legHeld 0 = false := by rw [C.legHeld_eq, hu, if_pos rfl, hhold, Bool.or_false]
    exact ⟨_, y.legXPeriod ofs on, exec_pwmPeriodStart_now hw hn, rfl, C.pwmPeriod_legX ofs hrun hload ht hx hheld hon hhigh hlow⟩
  case calTaken =>
    intro s cid p q ofs y hw hn hcal h50 h64 hp hq hs
    rw [exec_calibrationComplete_now hw hn, C.calibrated_takes ofs hcal hs h50 h64 hp hq]
  case calFails =>
    intro s cid p q ofs y hw hn hcal hbad hs htwo
    rw [exec_calibrationComplete_now hw hn, C.calibrated_fails ofs hcal hs hbad htwo]
  case calIdle =>
    intro s cid p q ofs y hw hn hcal
    rw [exec_calibrationComplete_now hw hn, C.calibrated_idle ofs hcal]
  case request =>
    intro s cid leg hw hm hus
    rw [exec_refreshRequest_next hw, C.requestCheck_asks hm hus]
  case auto =>
    intro s cid leg hw hm hus
    rw [exec_autoRefresh_next hw, C.autoCheck_due hm hus]

end Sys2Proof.Machine
end

section
/-! PROOFS. What the operations of a cell's protection leave alone: a cause recorded (R441 to R447), an output driven (R187, R195, R200, R204),
the bridge switched off (R156 to R158, R187), the retirement begun (R203, R204). -/
namespace Sys2Proof.Machine

/-- A step that leaves a part of the cell, and every register field but those listed. -/
structure C.Leaves {α : Type} (p : C → α) (ks : List Nat) (y z : C) : Prop where
  rest : p z = p y
  rd : ∀ {f : Fld}, f.key ∉ ks → z.rd f = y.rd f

namespace C.Leaves
variable {α : Type} {p : C → α} {ks ls : List Nat} {x y z : C}

theorem refl (y : C) : C.Leaves p ks y y := ⟨rfl, fun _ => rfl⟩

theorem trans (h : C.Leaves p ks x y) (k : C.Leaves p ks y z) : C.Leaves p ks x z :=
  ⟨k.rest.trans h.rest, fun hf => (k.rd hf).trans (h.rd hf)⟩

theorem wr (hp : ∀ (y : C) f v, p (y.wr f v) = p y) {f : Fld} {v : Nat} (hf : f.key ∈ ks) (h : C.Leaves p ks x y) : C.Leaves p ks x (y.wr f v) :=
  h.trans ⟨hp .., fun hg => C.rd_wr_ne _ _ (fun e => hg (e ▸ hf))⟩

theorem inc (hp : ∀ (y : C) f v, p (y.wr f v) = p y) {f : Fld} (hf : f.key ∈ ks) (h : C.Leaves p ks x y) : C.Leaves p ks x (y.inc f) := wr hp hf h

theorem put (hp : ∀ (y : C) f v, p (y.wr f v) = p y) {f : Fld} {b : Bool} (hf : f.key ∈ ks) (h : C.Leaves p ks x y) : C.Leaves p ks x (y.put f b) :=
  wr hp hf h

theorem emit {o : Output} (hp : ∀ y : C, p (y.emit o) = p y) (h : C.Leaves p ks x y) : C.Leaves p ks x (y.emit o) :=
  h.trans ⟨hp y, fun _ => rfl⟩

theorem withGte {g : Gte → Gte} (hp : ∀ y : C, p (y.withGte g) = p y) (h : C.Leaves p ks x y) : C.Leaves p ks x (y.withGte g) :=
  h.trans ⟨hp y, fun _ => rfl⟩

theorem withPrt {g : Prt → Prt} (hp : ∀ y : C, p (y.withPrt g) = p y) (h : C.Leaves p ks x y) : C.Leaves p ks x (y.withPrt g) :=
  h.trans ⟨hp y, fun _ => rfl⟩

theorem withClk {g : Clk → Clk} (hp : ∀ y : C, p (y.withClk g) = p y) (h : C.Leaves p ks x y) : C.Leaves p ks x (y.withClk g) :=
  h.trans ⟨hp y, fun _ => rfl⟩

theorem withCcp {g : Ccp → Ccp} (hp : ∀ y : C, p (y.withCcp g) = p y) (h : C.Leaves p ks x y) : C.Leaves p ks x (y.withCcp g) :=
  h.trans ⟨hp y, fun _ => rfl⟩

theorem ite {c : Prop} [Decidable c] (h : C.Leaves p ks x y) (k : C.Leaves p ks x z) : C.Leaves p ks x (if c then y else z) := by
  split
  · exact h
  · exact k

theorem foldl {β : Type} {g : C → β → C} (hg : ∀ (y : C) b, C.Leaves p ks y (g y b)) (l : List β) (h : C.Leaves p ks x y) :
    C.Leaves p ks x (l.foldl g y) := by
  induction l generalizing y with
  | nil => exact h
  | cons b l ih => exact ih (h.trans (hg y b))

theorem mono (h : C.Leaves p ks y z) (hk : ks ⊆ ls) : C.Leaves p ls y z := ⟨h.rest, fun hf => h.rd (fun hm => hf (hk hm))⟩

theorem part {β : Type} {q : C → β} (h : C.Leaves p ks y z) (g : α → β) (hq : ∀ c, q c = g (p c)) : C.Leaves q ks y z :=
  ⟨by rw [hq, hq, h.rest], h.rd⟩

theorem on (h : C.Leaves p ks y z) {f : Fld} (hf : f.key ∉ ks) : z.on f = y.on f := congrArg (· != 0) (h.rd hf)

end C.Leaves

/-! ### A cause recorded -/

/-- The fields of a cell's fault record that raising a cause can change (R441, R443). -/
def Cause.cellKeys (k : Cause) : List Nat :=
  [(k.blk.status k.bit).key, k.blk.cellEvents.key, k.blk.firstCause.key, k.blk.firstClass.key, k.blk.firstValid.key, k.blk.firstOfs.key,
   k.blk.firstDn.key]

/-- A cell without what raising a cause can change. -/
def C.unraised (y : C) : C :=
  { y with regs := [], recs := [], clk := { y.clk with force := false, events := [], written := 0 }, ccp := { y.ccp with due := 0 } }

theorem C.unraised_wr (y : C) (f : Fld) (v : Nat) : (y.wr f v).unraised = y.unraised := rfl

section Record
variable {x y : C} {ks : List Nat}

theorem C.Leaves.ccpTrigger (bit : Nat) (h : C.Leaves C.unraised ks x y) : C.Leaves C.unraised ks x (y.ccpTrigger bit) := by
  unfold C.ccpTrigger
  exact .ite (.withCcp (fun _ => rfl) h) h

theorem C.Leaves.writeEvent (ofs src bit cls : Nat) (h : C.Leaves C.unraised ks x y) :
    C.Leaves C.unraised ks x (y.writeEvent ofs src bit cls) := by
  unfold C.writeEvent
  exact .withClk (fun _ => rfl) h

theorem C.Leaves.withRecs (r : Tbl Rec) (h : C.Leaves C.unraised ks x y) : C.Leaves C.unraised ks x { y with recs := r } :=
  h.trans ⟨rfl, fun _ => rfl⟩

end Record

/-- Beside its STATUS bit a cause without details changes its block's record, the event history, the report and a capture armed for it. -/
theorem C.raiseAt_recorded (y : C) (ofs : Nat) (k : Cause) (base : Option Nat) :
    C.Leaves C.unraised k.cellKeys.tail (y.wr (k.blk.status k.bit) 1) (y.raiseAt ofs k base []) := by
  unfold C.raiseAt
  extract_lets w ev r
  cases base with
  | none => exact .ite (.writeEvent _ _ _ _ (.refl w)) (.refl w)
  | some b =>
    dsimp -zeta only
    extract_lets cls classed counted written first evented forced
    have hcounted : C.Leaves C.unraised k.cellKeys.tail w counted :=
      .inc C.unraised_wr (by simp [Cause.cellKeys]) (.withRecs _ (.refl w))
    have hwritten : C.Leaves C.unraised k.cellKeys.tail w written := by
      refine .wr C.unraised_wr ?_ <| .wr C.unraised_wr ?_ <| .wr C.unraised_wr ?_ <| .wr C.unraised_wr ?_ <| .wr C.unraised_wr ?_ hcounted <;>
        simp [Cause.cellKeys]
    have hfirst : C.Leaves C.unraised k.cellKeys.tail w first := .ite hcounted hwritten
    have hevented : C.Leaves C.unraised k.cellKeys.tail w evented := .ite (.writeEvent _ _ _ _ hfirst) hfirst
    have hforced : C.Leaves C.unraised k.cellKeys.tail w forced := .ite (.withClk (fun _ => rfl) hevented) hevented
    exact .ite (.ccpTrigger 1 hforced) hforced

section Raise
variable (y : C) (ofs : Nat) (k : Cause)

theorem C.raise_recorded : C.Leaves C.unraised k.cellKeys.tail (y.wr (k.blk.status k.bit) 1) (y.raise ofs k []) :=
  y.raiseAt_recorded ofs k k.cls

theorem C.raise_leaves : C.Leaves C.unraised k.cellKeys y (y.raise ofs k []) :=
  .trans (.wr C.unraised_wr List.mem_cons_self (.refl y)) ((y.raise_recorded ofs k).mono (List.tail_sublist _).subset)

@[simp] theorem C.raise_prt : (y.raise ofs k []).prt = y.prt := by
  have h := congrArg C.prt (y.raise_leaves ofs k).rest
  exact h

theorem C.raise_flags : (y.raise ofs k []).clk.flags = y.clk.flags := by
  have h := congrArg (fun c : C => c.clk.flags) (y.raise_leaves ofs k).rest
  exact h

variable {k}

theorem C.raise_rd {f : Fld} (hf : f.key ∉ k.cellKeys) : (y.raise ofs k []).rd f = y.rd f := (y.raise_leaves ofs k).rd hf

theorem C.raise_on {f : Fld} (hf : f.key ∉ k.cellKeys) : (y.raise ofs k []).on f = y.on f := (y.raise_leaves ofs k).on hf

theorem C.raise_status (hk : (k.blk.status k.bit).key ∉ k.cellKeys.tail) : (y.raise ofs k []).rd (k.blk.status k.bit) = 1 :=
  ((y.raise_recorded ofs k).rd hk).trans (C.rd_wr_same ..)

end Raise

/-! ### An output driven -/

/-- A cell without its registers and what it has driven. -/
def C.undriven (y : C) : C := { y with regs := [], out := [] }

theorem b2n_ne_zero (b : Bool) : (b2n b != 0) = b := by cases b <;> rfl

section Drive
variable (y : C) {f g : Fld} (pin : Nat) (level : Bool)

theorem C.drive_leaves : C.Leaves C.undriven [f.key] y (y.drive f pin level) := by
  unfold C.drive
  exact .ite (.refl y) (.emit (fun _ => rfl) (.put (fun _ _ _ => rfl) List.mem_cons_self (.refl y)))

@[simp] theorem C.drive_prt : (y.drive f pin level).prt = y.prt := by
  have h := congrArg C.prt (y.drive_leaves (f := f) pin level).rest
  exact h

theorem C.drive_rd (h : g.key ≠ f.key) : (y.drive f pin level).rd g = y.rd g := (y.drive_leaves pin level).rd (by simpa using h)

theorem C.drive_on_ne (h : g.key ≠ f.key) : (y.drive f pin level).on g = y.on g := (y.drive_leaves pin level).on (by simpa using h)

/-- An output stands at its level, and at 0 under the lock-out (R200). -/
theorem C.drive_on (hf : f.width = 1) : (y.drive f pin level).on f = (level && !y.prt.uvlo) := by
  unfold C.drive
  extract_lets b
  split
  · assumption
  · rw [C.on_emit, C.put_eq, C.on, C.rd_wr_same, hf, Nat.pow_one, b2n_mod]
    exact b2n_ne_zero b

theorem C.drive_off (hf : f.width = 1) : (y.drive f pin false).on f = false := y.drive_on pin false hf

end Drive

/-! ### The bridge switched off -/

/-- The fields that setting the bridge outputs can change (R172, R181). -/
def outputKeys : List Nat := [R.GTE_STATE_OUTS.key, R.GTE_STATE_REQ_X.key, R.GTE_STATE_REQ_Y.key]

/-- Whether the lock-out stands. -/
def C.lockedOut (y : C) : Bool := y.prt.uvlo

theorem C.lockedOut_wr (y : C) (f : Fld) (v : Nat) : (y.wr f v).lockedOut = y.lockedOut := rfl

theorem reqFld_mem_outputKeys (leg : Nat) : (reqFld leg).key ∈ outputKeys := by
  unfold reqFld
  split <;> decide

section Outputs
variable {x y : C}

theorem C.Leaves.setRefresh (leg : Nat) (r : Refresh) (h : C.Leaves C.lockedOut outputKeys x y) :
    C.Leaves C.lockedOut outputKeys x (y.setRefresh leg r) := by
  unfold C.setRefresh
  exact .withGte (fun _ => rfl) h

theorem C.Leaves.lowEdge (leg ofs : Nat) (on : Bool) (h : C.Leaves C.lockedOut outputKeys x y) :
    C.Leaves C.lockedOut outputKeys x (y.lowEdge leg ofs on) := by
  unfold C.lowEdge
  exact .ite (.setRefresh _ _ h) (.ite (.put C.lockedOut_wr (reqFld_mem_outputKeys leg) (.setRefresh _ _ h)) (.setRefresh _ _ h))

theorem C.Leaves.setOut (sw ofs : Nat) (on : Bool) (adv : Nat) (line : Option Bool) (h : C.Leaves C.lockedOut outputKeys x y) :
    C.Leaves C.lockedOut outputKeys x (y.setOut sw ofs on adv line) := by
  unfold C.setOut
  extract_lets w ball via z
  have hz : C.Leaves C.lockedOut outputKeys x z := .withPrt (fun _ => rfl) (.emit (fun _ => rfl) (.wr C.lockedOut_wr (by decide) h))
  exact .ite h (.ite (.lowEdge _ _ _ hz) hz)

theorem C.Leaves.legOff (leg ofs : Nat) (h : C.Leaves C.lockedOut outputKeys x y) : C.Leaves C.lockedOut outputKeys x (y.legOff leg ofs) := by
  unfold C.legOff C.cancelEdges
  exact .setOut _ _ _ _ _ (.setOut _ _ _ _ _ (.withGte (fun _ => rfl) h))

theorem C.Leaves.allOff (ofs : Nat) (h : C.Leaves C.lockedOut outputKeys x y) : C.Leaves C.lockedOut outputKeys x (y.allOff ofs) :=
  .legOff 1 ofs (.legOff 0 ofs h)

theorem C.Leaves.placeDue (upto : Nat) (h : C.Leaves C.lockedOut outputKeys x y) : C.Leaves C.lockedOut outputKeys x (y.placeDue upto) := by
  unfold C.placeDue
  extract_lets now w z
  have hz : C.Leaves C.lockedOut outputKeys x z := .foldl (fun c _ => .setOut _ _ _ _ _ (.refl c)) now (.withGte (fun _ => rfl) h)
  exact .ite (.withGte (fun _ => rfl) hz) hz

end Outputs

/-- A bridge that is off, with no pending edge of a switch it has (R149). -/
structure C.Quiet (y : C) : Prop where
  outs : y.outs = 0
  edges : ∀ e ∈ y.gte.edges, 4 ≤ e.sw

theorem C.legOff_outs (y : C) (leg ofs : Nat) : (y.legOff leg ofs).outs = clrBit (clrBit y.outs (2 * leg)) (2 * leg + 1) := by
  rw [C.legOff, C.setOut_off_outs, C.setOut_off_outs]
  rfl

theorem C.legOff_edges (y : C) (leg ofs : Nat) : (y.legOff leg ofs).gte.edges = y.gte.edges.filter (fun e => e.sw / 2 != leg) := by
  rw [C.legOff, C.setOut_edges, C.setOut_edges]
  rfl

theorem clrBit_switches {v : Nat} (h : v < 16) : clrBit (clrBit (clrBit (clrBit v 0) 1) 2) 3 = 0 := by
  revert v
  decide

theorem C.outs_lt (y : C) : y.outs < 16 := C.rd_lt y R.GTE_STATE_OUTS

theorem C.allOff_quiet (y : C) (ofs : Nat) : (y.allOff ofs).Quiet where
  outs := by
    rw [C.allOff, C.legOff_outs, C.legOff_outs]
    exact clrBit_switches y.outs_lt
  edges := by
    intro e he
    simp only [C.allOff, C.legOff_edges, List.mem_filter, bne_iff_ne, ne_eq] at he
    omega

namespace C.Quiet
variable {y z : C}

theorem congr (h : y.Quiet) (ho : z.outs = y.outs) (he : z.gte.edges = y.gte.edges) : z.Quiet := ⟨ho.trans h.outs, he ▸ h.edges⟩

theorem wr {f : Fld} {v : Nat} (hf : R.GTE_STATE_OUTS.key ≠ f.key) (h : y.Quiet) : (y.wr f v).Quiet := h.congr (C.rd_wr_ne _ _ hf) rfl

theorem withGte {g : Gte → Gte} (hg : ∀ e, (g e).edges = e.edges) (h : y.Quiet) : (y.withGte g).Quiet := h.congr rfl (hg _)

theorem withPrt {g : Prt → Prt} (h : y.Quiet) : (y.withPrt g).Quiet := h.congr rfl rfl

theorem dropGen (q : Nat → Bool) (h : y.Quiet) : (y.dropGen q).Quiet := h.congr rfl rfl

theorem showRow (row code : Nat) (h : y.Quiet) : (y.showRow row code).Quiet :=
  .wr (by decide) (.wr (by decide) (.withGte (fun _ => rfl) h))

/-- A step that sets an output of no switch leaves the bridge off. -/
theorem setOut (h : y.Quiet) {sw : Nat} (hs : 4 ≤ sw) (ofs : Nat) (on : Bool) (adv : Nat) (line : Option Bool) :
    (y.setOut sw ofs on adv line).Quiet := by
  refine ⟨?_, (C.setOut_edges y sw ofs on adv line).symm ▸ h.edges⟩
  have hset : setBit 0 sw % 2 ^ 4 = 0 := by
    rw [setBit, bitAt, Nat.zero_div, if_neg (by decide), Nat.zero_add]
    exact Nat.mod_eq_zero_of_dvd (Nat.pow_dvd_pow 2 hs)
  have hout : (y.wr R.GTE_STATE_OUTS (if on then setBit y.outs sw else clrBit y.outs sw)).outs = 0 := by
    rw [C.outs, C.rd_wr_same, h.outs]
    cases on
    · simp [clrBit, bitAt]
    · exact hset
  unfold C.setOut
  split
  · exact h.outs
  · extract_lets w ball via z
    split
    · rw [C.lowEdge_outs]
      exact hout
    · exact hout

theorem foldl_setOut (l : List Edge) (hl : ∀ e ∈ l, 4 ≤ e.sw) (h : y.Quiet) :
    (l.foldl (fun c e => c.setOut e.sw e.at_ e.on c.gte.adv (some e.line)) y).Quiet := by
  induction l generalizing y with
  | nil => exact h
  | cons e l ih =>
    obtain ⟨he, hl⟩ := List.forall_mem_cons.mp hl
    exact ih hl (h.setOut he ..)

theorem placeDue (upto : Nat) (h : y.Quiet) : (y.placeDue upto).Quiet := by
  unfold C.placeDue
  extract_lets now w z
  have hw : w.Quiet := ⟨h.outs, fun e he => h.edges e (List.mem_filter.mp he).1⟩
  have hz : z.Quiet := foldl_setOut now (fun e he => h.edges e (List.mem_filter.mp he).1) hw
  split
  · exact hz.withGte (fun _ => rfl)
  · exact hz

theorem foldl_edges {l : List Edge} {sw : Nat} (hl : ∀ e ∈ l, e.sw ≠ sw) (b : Bool) :
    l.foldl (fun (b : Bool) e => if e.sw = sw then e.on else b) b = b := by
  induction l with
  | nil => rfl
  | cons e l ih =>
    obtain ⟨he, hl⟩ := List.forall_mem_cons.mp hl
    rw [List.foldl_cons, if_neg he, ih hl]

theorem legTarget (h : y.Quiet) {leg : Nat} (hl : leg < 2) : y.legTarget leg = 0 := by
  have hoff : ∀ sw < 4, y.gte.edges.foldl (fun (b : Bool) e => if e.sw = sw then e.on else b) (bitAt y.outs sw) = false := by
    intro sw hsw
    rw [foldl_edges (fun e he => by have := h.edges e he; omega), h.outs]
    simp [bitAt]
  rw [C.legTarget]
  dsimp only
  rw [hoff _ (by omega), hoff _ (by omega)]
  rfl

theorem changeLeg (h : y.Quiet) {leg : Nat} (hl : leg < 2) (ofs : Nat) : y.changeLeg leg ofs 0 = y := by
  rw [C.changeLeg, ite_self, h.legTarget hl]
  exact if_pos rfl

/-- A bridge that is off stays off where its legs are changed to all off, with nothing owed by the PWM generator. -/
theorem gridOff (h : y.Quiet) (hg : y.gte.gen = []) (ofs : Nat) :
    (y.gridOff ofs).Quiet ∧ C.Leaves C.lockedOut outputKeys y (y.gridOff ofs) := by
  rw [C.gridOff, h.changeLeg (by decide), h.changeLeg (by decide), C.placeEdges]
  simp only [hg, List.filter_nil, List.foldl_nil]
  exact ⟨.placeDue ofs (.withGte (fun _ => rfl) h), .placeDue ofs (.withGte (fun _ => rfl) (.refl y))⟩

end C.Quiet

/-- The fields that ending the direct test mode of a bridge that is off can change. -/
def endTestKeys : List Nat := R.GTE_CTL_TEST_EN.key :: R.GTE_STATE_CODE.key :: R.GTE_STATE_ROW.key :: outputKeys

theorem C.showRow_leaves (y : C) (row code : Nat) :
    C.Leaves C.lockedOut [R.GTE_STATE_CODE.key, R.GTE_STATE_ROW.key] y (y.showRow row code) :=
  .wr C.lockedOut_wr (by decide) (.wr C.lockedOut_wr (by decide) (.withGte (fun _ => rfl) (.refl y)))

@[simp] theorem C.showRow_prt (y : C) (row code : Nat) : (y.showRow row code).prt = y.prt := rfl

theorem C.showRow_code (y : C) (row : Nat) {code : Nat} (h : code < 16) : (y.showRow row code).rd R.GTE_STATE_CODE = code := by
  rw [C.showRow, C.reshow, C.rd_wr_ne _ _ (by decide), C.rd_wr_same]
  exact Nat.mod_eq_of_lt h

theorem C.Leaves.dropGen {x y : C} {ks : List Nat} (q : Nat → Bool) (h : C.Leaves C.lockedOut ks x y) :
    C.Leaves C.lockedOut ks x (y.dropGen q) := by
  unfold C.dropGen
  exact .withGte (fun _ => rfl) h

theorem C.dropGen_all (y : C) : (y.dropGen (fun _ => true)).gte.gen = [] := List.filter_eq_nil_iff.mpr (by simp)

/-- The end of direct test mode leaves a bridge that is off as it is (R176). -/
theorem C.Quiet.endTest {y : C} (h : y.Quiet) (ofs : Nat) : (y.endTest ofs).Quiet ∧ C.Leaves C.lockedOut endTestKeys y (y.endTest ofs) := by
  rcases Bool.eq_false_or_eq_true (y.on R.GTE_CTL_TEST_EN) with ht | ht
  · have hquiet : ((y.wr R.GTE_CTL_TEST_EN 0).dropGen (fun _ => true)).Quiet := .dropGen _ (.wr (by decide) h)
    have hclear : C.Leaves C.lockedOut endTestKeys y ((y.wr R.GTE_CTL_TEST_EN 0).dropGen (fun _ => true)) :=
      .dropGen _ (.wr C.lockedOut_wr (by decide) (.refl y))
    obtain ⟨hoff, hleaves⟩ := hquiet.gridOff (C.dropGen_all _) ofs
    have hshow := C.showRow_leaves (((y.wr R.GTE_CTL_TEST_EN 0).dropGen (fun _ => true)).gridOff ofs) y.orderRow 0
    rw [C.endTest_testing ofs ht]
    exact ⟨hoff.showRow ..,  hclear.trans ((hleaves.mono (by decide)).trans (hshow.mono (by decide)))⟩
  · rw [C.endTest_idle ofs ht]
    exact ⟨h, .refl y⟩

/-! ### The retirement begun (R203, R204) -/

/-- The start of the retirement sequence before BYF rises: the bridge off, the RETIRE latch and the record's write (R204 steps 1 and 2). -/
def C.retireBegun (y : C) (ofs : Nat) : C :=
  ((((y.allOff ofs).endTest ofs).wr R.GTE_STATE_RETIRE_LATCH 1).wr R.PRT_STATE_SEQ 1).withPrt
    (fun p => { p with bycUp := false, pulsing := false, jrnRun := true })

/-- The start of the sequence with BYF, and with row 4 shown where no BLOCK latch stands above it (R159, R181). -/
def C.retireShown (y : C) (ofs : Nat) : C :=
  if ((y.retireBegun ofs).byf true).on R.GTE_STATE_BLOCK_LATCH then (y.retireBegun ofs).byf true else ((y.retireBegun ofs).byf true).showRow 4 15

theorem C.startRetire_stays {y : C} (ofs : Nat) {restart : Bool} (h : (y.prt.uvlo || (y.retiring && !restart)) = true) :
    y.startRetire ofs restart = y := if_pos h

theorem C.startRetire_runs {y : C} (ofs : Nat) {restart : Bool} (h : (y.prt.uvlo || (y.retiring && !restart)) = false) :
    y.startRetire ofs restart = (y.retireShown ofs).raise ofs CC.RETIRING [] := if_neg (Bool.eq_false_iff.mp h)

/-- The fields that the start of the retirement can change, beside the record of RETIRING. -/
def retireKeys : List Nat :=
  R.GTE_STATE_RETIRE_LATCH.key :: R.PRT_STATE_SEQ.key :: R.PRT_STATE_BYF.key :: endTestKeys

section Begun
variable (y : C) (ofs : Nat)

theorem C.retireBegun_quiet : (y.retireBegun ofs).Quiet := by
  obtain ⟨hquiet, -⟩ := (y.allOff_quiet ofs).endTest ofs
  exact .withPrt (.wr (by decide) (.wr (by decide) hquiet))

theorem C.retireBegun_leaves : C.Leaves C.lockedOut retireKeys y (y.retireBegun ofs) := by
  have hoff : C.Leaves C.lockedOut outputKeys y (y.allOff ofs) := .allOff ofs (.refl y)
  obtain ⟨-, hend⟩ := (y.allOff_quiet ofs).endTest ofs
  have hall : C.Leaves C.lockedOut retireKeys y ((y.allOff ofs).endTest ofs) := (hoff.mono (by decide)).trans (hend.mono (by decide))
  exact .withPrt (fun _ => rfl) (.wr C.lockedOut_wr (by decide) (.wr C.lockedOut_wr (by decide) hall))

theorem C.byf_leaves (level : Bool) : C.Leaves C.lockedOut retireKeys y (y.byf level) :=
  ((y.drive_leaves 2 level).part C.lockedOut (fun _ => rfl)).mono (by decide)

theorem C.retireShown_leaves : C.Leaves C.lockedOut retireKeys y (y.retireShown ofs) := by
  have driven := (y.retireBegun_leaves ofs).trans (C.byf_leaves _ true)
  exact .ite driven (driven.trans ((C.showRow_leaves ..).mono (by decide)))

theorem C.retireShown_rd {f : Fld} (hc : f.key ≠ R.GTE_STATE_CODE.key) (hr : f.key ≠ R.GTE_STATE_ROW.key) :
    (y.retireShown ofs).rd f = ((y.retireBegun ofs).byf true).rd f := by
  unfold C.retireShown
  split
  · rfl
  · exact (C.showRow_leaves ..).rd (by simp [hc, hr])

theorem C.retireShown_prt : (y.retireShown ofs).prt = (y.retireBegun ofs).prt := by
  unfold C.retireShown
  split
  · rw [C.byf, C.drive_prt]
  · rw [C.showRow_prt, C.byf, C.drive_prt]

theorem C.retireShown_outs : (y.retireShown ofs).outs = 0 := by
  rw [C.outs, y.retireShown_rd ofs (by decide) (by decide), C.byf, C.drive_rd _ _ _ (by decide)]
  exact (y.retireBegun_quiet ofs).outs

end Begun

/-- A retirement that begins leaves what it does not name. -/
theorem C.startRetire_leaves (y : C) (ofs : Nat) (restart : Bool) :
    C.Leaves C.lockedOut (retireKeys ++ CC.RETIRING.cellKeys) y (y.startRetire ofs restart) := by
  rcases Bool.eq_false_or_eq_true (y.prt.uvlo || (y.retiring && !restart)) with h | h
  · rw [C.startRetire_stays ofs h]
    exact .refl y
  · rw [C.startRetire_runs ofs h]
    exact ((y.retireShown_leaves ofs).mono (List.subset_append_left ..)).trans
      (((C.raise_leaves ..).part C.lockedOut (fun _ => rfl)).mono (List.subset_append_right ..))

theorem C.startRetire_outs {y : C} (ofs : Nat) (restart : Bool) (h : y.outs = 0) : (y.startRetire ofs restart).outs = 0 := by
  rcases Bool.eq_false_or_eq_true (y.prt.uvlo || (y.retiring && !restart)) with hs | hs
  · rw [C.startRetire_stays ofs hs, h]
  · rw [C.startRetire_runs ofs hs, C.outs, C.raise_rd _ _ (by decide)]
    exact y.retireShown_outs ofs

end Sys2Proof.Machine
end

section
/-! PROOFS. The protection of a cell: comparators and trips (R182 to R193, R199), the end of soft-off (R191, R192), the gate monitor (R207),
CLR_HOLD (R189), the dump limit (R196), the lock-out (R200) and the power-on reset (R202). -/
namespace Sys2Proof.Machine

/-! ### The comparators (R182 to R184, R199) -/

theorem exceeds_above {v code : Nat} (free : Nat) (h : 256 * code + 256 < v) : exceeds v code free = true := by
  rw [exceeds, decide_eq_false (Nat.not_le.mpr h), Bool.false_and, if_neg Bool.false_ne_true]
  exact decide_eq_true (by omega)

theorem exceeds_below {v code : Nat} (free : Nat) (h : v + 256 < 256 * code) : exceeds v code free = false := by
  rw [exceeds, decide_eq_false (Nat.not_le.mpr h), Bool.and_false, if_neg Bool.false_ne_true]
  exact decide_eq_false (by omega)

theorem foldl_keep {α β : Type} (a : α) (l : List β) : l.foldl (fun a _ => a) a = a := by
  induction l with
  | nil => rfl
  | cons b l ih => exact ih

section Comparators
variable {z : C} {l1 l2 : Nat} {ov : Bool} (ofs : Nat)

theorem C.maskedNow_none (h : z.prt.masked = none) (k : Nat) : z.maskedNow ofs k = false := by
  rw [C.maskedNow, h]
  rfl

theorem C.unmasked_none (h : z.prt.masked = none) (level m : Nat) : z.unmasked ofs level m = z.powered m := by
  simp only [C.unmasked, C.maskedNow_none ofs h, Bool.false_eq_true, if_false, foldl_keep]

/-- Without a comparator under test and without the lock-out, a crossing outside the blanking windows trips. -/
theorem C.comparators_trip (hu : z.prt.uvlo = false) (hm : z.prt.masked = none)
    (h : z.level1 ofs (z.powered l1) ≠ 0 ∨ z.powered l2 ≠ 0 ∨ ov = true) :
    z.comparators ofs l1 l2 ov = z.trip ofs (z.level1 ofs (z.powered l1)) (z.powered l2) ov false := by
  have hcross : ¬ (z.level1 ofs (z.powered l1) = 0 ∧ z.powered l2 = 0 ∧ ov = false) := by
    rintro ⟨h1, h2, h3⟩
    simp [h1, h2, h3] at h
  simp only [C.comparators, hu, C.unmasked_none ofs hm, C.maskedNow_none ofs hm, Bool.false_eq_true, if_false, Bool.not_false, Bool.and_true]
  exact if_neg (by simpa [and_assoc] using hcross)

theorem C.comparators_quiet (hm : z.prt.masked = none) (h1 : z.level1 ofs (z.powered l1) = 0) (h2 : z.powered l2 = 0) :
    z.comparators ofs l1 l2 false = z := by
  simp [C.comparators, C.unmasked_none ofs hm, h1, h2]

end Comparators

/-! ### Trips (R187, R190, R199) -/

/-- The fields of a trip's record (R190). -/
def cellTripKeys : List Nat :=
  [R.PRT_CNT_A_TRIP_CNT.key, R.PRT_TRIP_L1_SW.key, R.PRT_TRIP_L2_SW.key, R.PRT_TRIP_OV2.key, R.PRT_TRIP_GM.key, R.PRT_TRIP_OFS.key,
   R.PRT_TRIP_VALID.key, R.PRT_TRIP_DN_DN.key]

theorem C.tripRecord_leaves (y : C) (ofs l1 l2 : Nat) (ov gm : Bool) : C.Leaves C.lockedOut cellTripKeys y (y.tripRecord ofs l1 l2 ov gm) := by
  unfold C.tripRecord C.flag
  extract_lets counted flagged w
  have hflag : C.Leaves C.lockedOut cellTripKeys y flagged :=
    .foldl (fun c _ => .ite (.withClk (fun _ => rfl) (.refl c)) (.refl c)) _ (.inc C.lockedOut_wr (by decide) (.refl y))
  have hcross : C.Leaves C.lockedOut cellTripKeys y w :=
    .put C.lockedOut_wr (by decide) (.wr C.lockedOut_wr (by decide) (.wr C.lockedOut_wr (by decide) hflag))
  refine .ite hflag ?_
  refine .wr C.lockedOut_wr ?_ <| .wr C.lockedOut_wr ?_ <| .wr C.lockedOut_wr ?_ <| .put C.lockedOut_wr ?_ hcross <;> decide

theorem C.tripRecord_retiring (y : C) (ofs l1 l2 : Nat) (ov gm : Bool) : (y.tripRecord ofs l1 l2 ov gm).retiring = y.retiring :=
  (y.tripRecord_leaves ofs l1 l2 ov gm).on (by decide)

theorem C.softOut_outs (y : C) (leg : Nat) (level : Bool) : (y.softOut leg level).outs = y.outs := by
  refine C.drive_rd _ _ _ ?_
  unfold softFld
  split <;> decide

/-- Both legs turned off leave no bridge output on (R187). -/
theorem C.turnOff_both_outs (y : C) (ofs l1 l2 : Nat) (gm : Bool) : (y.turnOff ofs ⟨3, l1, l2, gm⟩).outs = 0 := by
  have hlegs : legsOf 3 = [0, 1] := rfl
  rw [C.turnOff]
  dsimp only
  rw [hlegs, List.foldl_cons, List.foldl_cons, List.foldl_nil]
  refine (C.softOut_outs ..).trans ?_
  rw [C.legOff_outs, C.softOut_outs, C.legOff_outs]
  exact clrBit_switches y.outs_lt

/-- Both legs turned off and held (R187, R189). -/
def C.bothHeld (y : C) (ofs l1 l2 : Nat) (ov gm : Bool) : C :=
  ((((y.tripRecord ofs l1 l2 ov gm).turnOff ofs ⟨3, l1, l2, gm⟩).wr R.PRT_STATE_HOLD_X 1).wr R.PRT_STATE_HOLD_Y 1).reshow

/-- A trip over level 2 turns off and holds both legs; with OV2 the retirement begins (R187, R199). -/
theorem C.trip_levelTwo {y : C} (ofs l1 : Nat) {l2 : Nat} (ov gm : Bool) (hr : y.retiring = false) (h2 : l2 ≠ 0) :
    y.trip ofs l1 l2 ov gm =
      if ov then ((y.bothHeld ofs l1 l2 ov gm).raise ofs CC.OV2 []).startRetire ofs false else y.bothHeld ofs l1 l2 ov gm := by
  have hlegs : legsOf 3 = [0, 1] := rfl
  simp only [C.trip, C.tripRecord_retiring, hr, Bool.false_eq_true, if_false, if_pos h2, ite_self, hlegs, List.foldl_cons, List.foldl_nil]
  rfl

theorem C.on_wr_one (y : C) {f : Fld} (hf : f.width = 1) : (y.wr f 1).on f = true := by
  rw [C.on, C.rd_wr_same, hf]
  rfl

/-- The bridge off and both legs held. -/
def C.Tripped (y : C) : Prop := y.outs = 0 ∧ y.held 0 = true ∧ y.held 1 = true

theorem C.bothHeld_tripped (y : C) (ofs l1 l2 : Nat) (ov gm : Bool) : (y.bothHeld ofs l1 l2 ov gm).Tripped := by
  refine ⟨?_, ?_, ?_⟩
  · rw [C.bothHeld, C.outs, C.reshow, C.rd_wr_ne _ _ (by decide), C.rd_wr_ne _ _ (by decide), C.rd_wr_ne _ _ (by decide)]
    exact C.turnOff_both_outs ..
  · rw [C.held, C.bothHeld, C.reshow, C.on_wr_ne _ _ (by decide), C.on_wr_ne _ _ (by decide)]
    exact C.on_wr_one _ rfl
  · rw [C.held, C.bothHeld, C.reshow, C.on_wr_ne _ _ (by decide)]
    exact C.on_wr_one _ rfl

theorem C.Tripped.retire {y : C} (h : y.Tripped) (ofs : Nat) : ((y.raise ofs CC.OV2 []).startRetire ofs false).Tripped := by
  obtain ⟨houts, hx, hy⟩ := h
  have hkeep := C.startRetire_leaves (y.raise ofs CC.OV2 []) ofs false
  refine ⟨C.startRetire_outs ofs false ((C.raise_rd y ofs (by decide)).trans houts), ?_, ?_⟩
  · exact (hkeep.on (by decide)).trans ((C.raise_on y ofs (by decide)).trans hx)
  · exact (hkeep.on (by decide)).trans ((C.raise_on y ofs (by decide)).trans hy)

theorem C.trip_levelTwo_tripped {y : C} (ofs l1 : Nat) {l2 : Nat} (ov gm : Bool) (hr : y.retiring = false) (h2 : l2 ≠ 0) :
    (y.trip ofs l1 l2 ov gm).Tripped := by
  rw [C.trip_levelTwo ofs l1 ov gm hr h2]
  split
  · exact (y.bothHeld_tripped ..).retire ofs
  · exact y.bothHeld_tripped ..

/-- OV2 alone turns off both legs, holds none and begins the retirement (R199). -/
theorem C.trip_overvoltage {y z : C} (ofs : Nat) (hz : z = y.tripRecord ofs 0 0 true false) (hr : z.retiring = false) :
    y.trip ofs 0 0 true false = (((z.turnOff ofs ⟨3, 0, 0, false⟩).reshow.raise ofs CC.OV2 []).startRetire ofs false) := by
  have hlegs : legsOf (switchLegs 0) = [] := rfl
  simp only [C.trip, ← hz, hr, Bool.false_eq_true, if_false, ne_eq, not_true_eq_false, hlegs, List.foldl_nil, if_true]

/-! ### The close of a blanking window (R184, R190) -/

theorem foldl_switch {α : Type} (g : α → Nat → α) (a : α) {sw : Nat} (h : sw < 4) :
    (List.range 4).foldl (fun m s => if s = sw then g m s else m) a = g a sw := by
  match sw, h with
  | 0, _ => rfl
  | 1, _ => rfl
  | 2, _ => rfl
  | 3, _ => rfl

theorem bitAt_two_pow (n k : Nat) : bitAt (2 ^ n) k = decide (n = k) := by rw [bitAt_eq_testBit, Nat.testBit_two_pow]

/-- The window of one switch closes. -/
theorem C.blankClose_switch {y : C} (cid ofs : Nat) {sw : Nat} (ins : List (Nat × Nat)) (hs : sw < 4) (hb : bitAt y.prt.blank sw = true) :
    y.blankClose cid ofs (2 ^ sw) ins =
      (((y.withPrt (fun p => { p with blank := clrBit p.blank sw })).sense cid ins).2.comparators ofs
        (((y.withPrt (fun p => { p with blank := clrBit p.blank sw })).sense cid ins).1.1.land (2 ^ sw)) 0 false) := by
  have hopen : (List.range 4).foldl (fun (m : Nat) s => if bitAt (2 ^ sw) s && bitAt y.prt.blank s then setBit m s else m) 0 = 2 ^ sw := by
    have hstep : (fun (m s : Nat) => if bitAt (2 ^ sw) s && bitAt y.prt.blank s then setBit m s else m) =
        fun m s => if s = sw then setBit m s else m := by
      funext m s
      by_cases h : s = sw
      · simp [h, bitAt_two_pow, hb]
      · simp [h, bitAt_two_pow, Ne.symm h]
    rw [hstep, foldl_switch setBit 0 hs, setBit]
    simp [bitAt]
  have hclose : ∀ p : Nat, (List.range 4).foldl (fun (m : Nat) s => if bitAt (2 ^ sw) s then clrBit m s else m) p = clrBit p sw := by
    intro p
    simp only [bitAt_two_pow, decide_eq_true_eq, eq_comm (a := sw)]
    exact foldl_switch clrBit p hs
  simp only [C.blankClose, hopen, hclose]

/-! ### The end of soft-off (R191, R192) -/

/-- T_SOFT ends for a trip over level 2 alone: both soft-off outputs fall, the bypass is asked for and SC reported. -/
theorem C.softEnd_levelTwo {y : C} (ofs : Nat) {l2 : Nat} (h2 : l2 ≠ 0) (hs : y.prt.soft = [⟨3, 0, l2, false⟩]) :
    y.softEnd ofs =
      ((((((y.withPrt (fun p => { p with soft := [] })).softOut 0 false).softOut 1 false).wr R.PRT_STATE_BYP_REQ 1).withPrt (fun p =>
        { p with wait := some (p.wait.getD 0) })).raise ofs CC.SC []).withClk (fun k => { k with force := true }) := by
  have hlegs : legsOf 3 = [0, 1] := rfl
  simp only [C.softEnd, hs, hlegs, List.foldl_cons, List.foldl_nil, List.any_nil, Bool.false_eq_true, if_false, h2, decide_true, decide_false,
    Bool.and_false, C.tripCauses, ne_eq, not_true_eq_false, not_false_eq_true, if_true]

/-! ### The gate monitor (R207) -/

section Gate
variable {y : C} {sw : Nat} {high : Bool} (ofs : Nat)

theorem C.gateMismatch_agrees (h : bitAt y.outs sw = high ∨ y.unchanged sw ofs < y.settle sw) : y.gateMismatch ofs sw high = y := by
  refine if_pos ?_
  rcases h with h | h <;> simp [h]

/-- A mismatch that stands while the leg is neither held nor retiring is recorded and trips. -/
theorem C.gateMismatch_trips (hs : sw < 4) (hu : y.prt.uvlo = false) (hp : y.powered (2 ^ sw) ≠ 0) (ho : bitAt y.outs sw = !high)
    (ht : (y.settle sw : Int) ≤ y.unchanged sw ofs) (hr : y.retiring = false)
    (hh : ((y.inc R.PRT_CNT_B_GM_CNT).raise ofs CC.GATE_MISMATCH []).held (sw / 2) = false) :
    y.gateMismatch ofs sw high = ((y.inc R.PRT_CNT_B_GM_CNT).raise ofs CC.GATE_MISMATCH []).trip ofs (2 ^ sw) 0 false true := by
  have hcompare : (y.prt.uvlo || decide (sw ≥ 4) || decide (y.powered (2 ^ sw) = 0) || bitAt y.outs sw == high ||
      decide (y.unchanged sw ofs < y.settle sw)) = false := by
    have hdiff : (bitAt y.outs sw == high) = false := by rw [ho]; cases high <;> rfl
    simp only [hu, hp, hdiff, decide_false, Bool.or_false, Bool.false_or, Bool.or_eq_false_iff, decide_eq_false_iff_not]
    exact ⟨Nat.not_le.mpr hs, Int.not_lt.mpr ht⟩
  have hinc : (y.inc R.PRT_CNT_B_GM_CNT).retiring = false := (C.on_wr_ne _ _ (by decide)).trans hr
  simp only [C.gateMismatch, hcompare, Bool.false_eq_true, if_false, hinc, hh, Bool.false_and]

end Gate

/-! ### CLR_HOLD (R189) -/

theorem C.prtCmd_rejected (y : C) (op : Nat) : y.prtCmd op false = ((y.wr R.PRT_CMD_OP op).wr R.PRT_CMD_GO 0).wr R.PRT_CMD_STAT_REJ 1 := rfl

theorem C.prtCmd_done (y : C) (op : Nat) : y.prtCmd op true = ((y.wr R.PRT_CMD_OP op).wr R.PRT_CMD_GO 0).wr R.PRT_CMD_STAT_DONE 1 := rfl

theorem C.on_wr_zero (y : C) (f : Fld) : (y.wr f 0).on f = false := by
  rw [C.on, C.rd_wr_same, Nat.zero_mod]
  rfl

/-- The fields of an answered command of `PRT_CMD` (R213). -/
def prtCmdKeys : List Nat := [R.PRT_CMD_OP.key, R.PRT_CMD_GO.key, R.PRT_CMD_STAT_DONE.key, R.PRT_CMD_STAT_REJ.key]

/-- A cell without its registers. -/
def C.unset (y : C) : C := { y with regs := [] }

theorem C.unset_wr (y : C) (f : Fld) (v : Nat) : (y.wr f v).unset = y.unset := rfl

theorem C.prtCmd_leaves (y : C) (op : Nat) (ok : Bool) : C.Leaves C.unset prtCmdKeys y (y.prtCmd op ok) := by
  unfold C.prtCmd
  extract_lets w
  have hw : C.Leaves C.unset prtCmdKeys y w := .wr C.unset_wr (by decide) (.wr C.unset_wr (by decide) (.refl y))
  exact .ite (.wr C.unset_wr (by decide) hw) (.wr C.unset_wr (by decide) hw)

@[simp] theorem C.prtCmd_prt (y : C) (op : Nat) (ok : Bool) : (y.prtCmd op ok).prt = y.prt := by
  have h := congrArg C.prt (y.prtCmd_leaves op ok).rest
  exact h

@[simp] theorem C.prtCmd_out (y : C) (op : Nat) (ok : Bool) : (y.prtCmd op ok).out = y.out := by
  have h := congrArg C.out (y.prtCmd_leaves op ok).rest
  exact h

theorem C.prtCmd_done_rd (y : C) (op : Nat) : (y.prtCmd op true).rd R.PRT_CMD_STAT_DONE = 1 := by
  rw [C.prtCmd_done, C.rd_wr_same]
  rfl

theorem C.prtCmd_go_rd (y : C) (op : Nat) : (y.prtCmd op true).rd R.PRT_CMD_GO = 0 := by
  rw [C.prtCmd_done, C.rd_wr_ne _ _ (by decide), C.rd_wr_same]
  rfl

/-- Whether CLR_HOLD is taken: no leg is held, or neither automatic bypass nor retirement nor a held leg still over level 1 stands against it. -/
def C.holdClears (z : C) (l1 : Nat) : Bool :=
  !(z.held 0 || z.held 1) || (!z.on R.PRT_CTL_BYP_AUTO && !z.retiring &&
    !(List.range 2).any (fun leg => z.held leg && bitAt (switchLegs (z.powered l1)) leg))

theorem C.clrHold_refused {z : C} {l1 : Nat} (h : z.holdClears l1 = false) : z.clrHold l1 = z.prtCmd 2 false := by
  have hok := h
  unfold C.holdClears at hok
  simp only [C.clrHold, hok, Bool.not_false, Bool.true_or, if_true]

theorem C.clrHold_unheld {z : C} (l1 : Nat) (h : (z.held 0 || z.held 1) = false) : z.clrHold l1 = z.prtCmd 2 true := by
  simp only [C.clrHold, h, Bool.not_false, Bool.true_or, Bool.or_true, if_true]

theorem C.clrHold_held {z : C} {l1 : Nat} (h : z.holdClears l1 = true) (hh : (z.held 0 || z.held 1) = true) :
    ∃ g : Gte → Gte, z.clrHold l1 = ((((z.prtCmd 2 true).wr R.PRT_STATE_HOLD_X 0).wr R.PRT_STATE_HOLD_Y 0).withGte g).reshow := by
  have hok := h
  unfold C.holdClears at hok
  unfold C.clrHold
  extract_lets hot clash any ok answered legs cleared
  rw [show ok = true from hok, show any = true from hh]
  have hcleared : cleared = ((z.prtCmd 2 true).wr R.PRT_STATE_HOLD_X 0).wr R.PRT_STATE_HOLD_Y 0 :=
    congrArg (fun b => ((z.prtCmd 2 b).wr R.PRT_STATE_HOLD_X 0).wr R.PRT_STATE_HOLD_Y 0) hok
  rw [hcleared]
  exact ⟨_, if_neg (by decide)⟩

/-- Without automatic bypass, retirement and a hot leg CLR_HOLD is taken. -/
theorem C.holdClears_cool {z : C} {l1 : Nat} (hb : z.on R.PRT_CTL_BYP_AUTO = false) (hr : z.retiring = false) (hl : switchLegs (z.powered l1) = 0) :
    z.holdClears l1 = true := by
  have hcool : ∀ leg, bitAt 0 leg = false := by simp [bitAt]
  simp [C.holdClears, hb, hr, hl, hcool]

theorem C.holdClears_auto {z : C} (l1 : Nat) (hx : z.held 0 = true) (hb : z.on R.PRT_CTL_BYP_AUTO = true) : z.holdClears l1 = false := by
  simp [C.holdClears, hx, hb]

/-- CLR_HOLD taken: no leg is held, the command is done, and protection and outputs stand. -/
theorem C.clrHold_effect {z : C} {l1 : Nat} (h : z.holdClears l1 = true) :
    (z.clrHold l1).held 0 = false ∧ (z.clrHold l1).held 1 = false ∧ (z.clrHold l1).rd R.PRT_CMD_STAT_DONE = 1 ∧
      (z.clrHold l1).rd R.PRT_CMD_GO = 0 ∧ (z.clrHold l1).prt = z.prt ∧ (z.clrHold l1).out = z.out := by
  have hkeep := z.prtCmd_leaves 2 true
  have hprt := C.prtCmd_prt z 2 true
  have hout := C.prtCmd_out z 2 true
  rcases Bool.eq_false_or_eq_true (z.held 0 || z.held 1) with hh | hh
  · obtain ⟨g, hz⟩ := C.clrHold_held h hh
    rw [hz]
    refine ⟨?_, ?_, ?_, ?_, hprt, hout⟩
    · rw [C.held, C.reshow, C.on_wr_ne _ _ (by decide), C.on_withGte, C.on_wr_ne _ _ (by decide)]
      exact C.on_wr_zero ..
    · rw [C.held, C.reshow, C.on_wr_ne _ _ (by decide), C.on_withGte]
      exact C.on_wr_zero ..
    · rw [C.reshow, C.rd_wr_ne _ _ (by decide), C.rd_withGte, C.rd_wr_ne _ _ (by decide), C.rd_wr_ne _ _ (by decide), C.prtCmd_done_rd]
    · rw [C.reshow, C.rd_wr_ne _ _ (by decide), C.rd_withGte, C.rd_wr_ne _ _ (by decide), C.rd_wr_ne _ _ (by decide), C.prtCmd_go_rd]
  · obtain ⟨hx, hy⟩ := Bool.or_eq_false_iff.mp hh
    rw [C.clrHold_unheld l1 hh]
    exact ⟨(hkeep.on (by decide)).trans hx, (hkeep.on (by decide)).trans hy, C.prtCmd_done_rd .., C.prtCmd_go_rd .., hprt, hout⟩

/-! ### The dump limit and the lock-out (R196, R200) -/

theorem C.dumpLimit_stops {y : C} (ofs : Nat) (h : y.on R.PRT_STATE_DMP = true) :
    y.dumpLimit ofs = ((y.dmp false).withPrt (fun p => { p with dmpOff := true })).raise ofs CC.DUMP_LONG [] :=
  if_neg (by simp [h])

/-- Every output of the protection at 0. -/
def C.outputsDown (y : C) : C := ((((y.softOut 0 false).softOut 1 false).byf false).byc false).dmp false

theorem C.outputsDown_off (y : C) : y.outputsDown.on R.PRT_STATE_SOFT_X = false ∧ y.outputsDown.on R.PRT_STATE_SOFT_Y = false ∧
    y.outputsDown.on R.PRT_STATE_BYF = false ∧ y.outputsDown.on R.PRT_STATE_BYC = false ∧ y.outputsDown.on R.PRT_STATE_DMP = false := by
  unfold C.outputsDown C.softOut C.byf C.byc C.dmp
  refine ⟨?_, ?_, ?_, ?_, ?_⟩
  · rw [C.drive_on_ne _ _ _ (by decide), C.drive_on_ne _ _ _ (by decide), C.drive_on_ne _ _ _ (by decide), C.drive_on_ne _ _ _ (by decide)]
    exact C.drive_off _ _ rfl
  · rw [C.drive_on_ne _ _ _ (by decide), C.drive_on_ne _ _ _ (by decide), C.drive_on_ne _ _ _ (by decide)]
    exact C.drive_off _ _ rfl
  · rw [C.drive_on_ne _ _ _ (by decide), C.drive_on_ne _ _ _ (by decide)]
    exact C.drive_off _ _ rfl
  · rw [C.drive_on_ne _ _ _ (by decide)]
    exact C.drive_off _ _ rfl
  · exact C.drive_off _ _ rfl

theorem C.outputsDown_outs (y : C) : y.outputsDown.outs = y.outs := by
  unfold C.outputsDown C.byf C.byc C.dmp
  rw [C.outs, C.drive_rd _ _ _ (by decide), C.drive_rd _ _ _ (by decide), C.drive_rd _ _ _ (by decide)]
  exact (C.softOut_outs ..).trans (C.softOut_outs ..)

/-- The cell under the lock-out, every output at 0. -/
def C.underLockOut (y : C) (ofs : Nat) : C :=
  (((y.allOff ofs).outputsDown.withPrt (fun p => { p with uvlo := true, pulsing := false, jrnRun := false })).wr R.PRT_STATE_UVLO 1).reshow

theorem C.uvloEnter_locks {y : C} (ofs : Nat) (hu : y.prt.uvlo = false) (hm : y.prt.masked = none) : y.uvloEnter ofs = y.underLockOut ofs :=
  if_neg (by simp [hu, C.maskedNow_none ofs hm])

theorem C.underLockOut_rd (y : C) (ofs : Nat) {f : Fld} (hr : f.key ≠ R.GTE_STATE_ROW.key) (hu : f.key ≠ R.PRT_STATE_UVLO.key) :
    (y.underLockOut ofs).rd f = (y.allOff ofs).outputsDown.rd f := by
  rw [C.underLockOut, C.reshow, C.rd_wr_ne _ _ hr, C.rd_wr_ne _ _ hu, C.rd_withPrt]

theorem C.underLockOut_on (y : C) (ofs : Nat) {f : Fld} (hr : f.key ≠ R.GTE_STATE_ROW.key) (hu : f.key ≠ R.PRT_STATE_UVLO.key) :
    (y.underLockOut ofs).on f = (y.allOff ofs).outputsDown.on f := congrArg (· != 0) (y.underLockOut_rd ofs hr hu)

theorem C.underLockOut_outs (y : C) (ofs : Nat) : (y.underLockOut ofs).outs = 0 := by
  rw [C.outs, y.underLockOut_rd ofs (by decide) (by decide)]
  exact (C.outputsDown_outs _).trans (y.allOff_quiet ofs).outs

theorem C.underLockOut_uvlo (y : C) (ofs : Nat) : (y.underLockOut ofs).rd R.PRT_STATE_UVLO = 1 := by
  rw [C.underLockOut, C.reshow, C.rd_wr_ne _ _ (by decide), C.rd_wr_same]
  rfl

/-! ### The release of the lock-out (R193, R200, R202) -/

theorem clrBit_zero (n : Nat) : clrBit 0 n = 0 := by simp [clrBit, bitAt]

theorem C.powered_zero (y : C) : y.powered 0 = 0 := by simp [C.powered]

theorem C.unmasked_zero (y : C) (ofs level : Nat) : y.unmasked ofs level 0 = 0 := by
  simp only [C.unmasked, C.powered_zero]
  exact List.foldlRecOn (motive := (· = 0)) _ _ rfl (by rintro _ rfl s -; rw [clrBit_zero, ite_self])

theorem C.level1_zero (y : C) (ofs : Nat) : y.level1 ofs 0 = 0 := by
  have hbit : ∀ s, bitAt 0 s = false := by simp [bitAt]
  simp only [C.level1, hbit, Bool.false_and, Bool.false_eq_true, if_false, foldl_keep]

/-- Without inputs no comparator crosses. -/
theorem C.crossing_none (y : C) (cid ofs : Nat) : y.crossing cid ofs [] = (y.draw cid).2 := by
  have hsense : y.sense cid [] = ((0, 0, false), (y.draw cid).2) := by
    simp only [C.sense, Tbl.find?, Bool.false_eq_true, if_false, foldl_keep]
  simp [C.crossing, hsense, C.comparators, C.unmasked_zero, C.level1_zero]

/-- The lock-out lifted, with the legs that direct test mode takes again (R159, R200). -/
def C.unlocked (y : C) : C :=
  let c := ((y.withPrt (fun p => { p with uvlo := false })).inc R.PRT_CNT_B_UVLO_CNT).wr R.PRT_STATE_UVLO 1
  (c.withGte (fun g => { g with retake := if c.testing then 3 else g.retake })).reshow

theorem C.unlocked_on (y : C) {f : Fld} (hr : f.key ≠ R.GTE_STATE_ROW.key) (hu : f.key ≠ R.PRT_STATE_UVLO.key)
    (hc : f.key ≠ R.PRT_CNT_B_UVLO_CNT.key) : y.unlocked.on f = y.on f := by
  rw [C.unlocked, C.reshow, C.on_wr_ne _ _ hr, C.on_withGte, C.on_wr_ne _ _ hu, C.inc_eq, C.on_wr_ne _ _ hc, C.on_withPrt]

/-- With no retirement to resume the release is told by UVLO_SEEN (R200, R202). -/
theorem C.uvloRelease_seen {y : C} (cid ofs : Nat) (hu : y.prt.uvlo = true) (hr : y.on R.GTE_STATE_RETIRE_LATCH = false)
    (hj : y.on R.PRT_STATE_JRN_RET = false) :
    y.uvloRelease cid ofs [] = ((y.unlocked.draw cid).2.flag 14).raise ofs CC.UVLO_SEEN [] := by
  have hretire : (y.unlocked.on R.GTE_STATE_RETIRE_LATCH || y.unlocked.on R.PRT_STATE_JRN_RET) = false := by
    rw [y.unlocked_on (by decide) (by decide) (by decide), y.unlocked_on (by decide) (by decide) (by decide), hr, hj]
    rfl
  rw [← C.crossing_none y.unlocked cid ofs]
  unfold C.uvloRelease
  rw [hu, Bool.not_true, if_neg Bool.false_ne_true]
  exact congrArg (fun c : C => ((c.crossing cid ofs []).flag 14).raise ofs CC.UVLO_SEEN []) (if_neg (Bool.eq_false_iff.mp hretire))

theorem bitAt_setBit_same (v n : Nat) : bitAt (setBit v n) n = true := by
  rw [setBit]
  split
  · assumption
  · rw [Nat.add_comm, bitAt_eq_testBit, Nat.testBit_two_pow_add_eq, ← bitAt_eq_testBit, Bool.not_eq_true', ← Bool.not_eq_true]
    assumption

/-! ### The power-on reset (R202, R543) -/

/-- A cell without what starting its firmware can change. -/
def C.unbooted (y : C) : C := { y.unraised with out := [], cse := { y.cse with jrn := [], rom := false } }

theorem C.unbooted_wr (y : C) (f : Fld) (v : Nat) : (y.wr f v).unbooted = y.unbooted := rfl

theorem C.unbooted_put (y : C) (f : Fld) (b : Bool) : (y.put f b).unbooted = y.unbooted := rfl

theorem C.unbooted_slotRecord (y : C) (r : SlotRec) : (y.slotRecord r).unbooted = y.unbooted := rfl

theorem C.unbooted_rom (y : C) (r : Bool) : (y.withCse (fun s => { s with rom := r })).unbooted = y.unbooted := rfl

theorem C.unbooted_raise (y : C) (ofs : Nat) (k : Cause) : (y.raise ofs k []).unbooted = y.unbooted := by
  have h := congrArg (fun c : C => ({ c with out := [], cse := { c.cse with jrn := [], rom := false } } : C)) (y.raise_leaves ofs k).rest
  exact h

theorem C.unbooted_foldl (l : List SlotRec) (y : C) : (l.foldl (fun (c : C) r => c.slotRecord r) y).unbooted = y.unbooted := by
  induction l generalizing y with
  | nil => rfl
  | cons r l ih => exact (ih _).trans (y.unbooted_slotRecord r)

theorem C.boot_unbooted (y : C) : y.boot.unbooted = y.unbooted := by
  unfold C.boot
  extract_lets old b recorded s last shown keyed
  have hrecorded : recorded.unbooted = y.unbooted := (C.unbooted_rom ..).trans (C.unbooted_foldl (b.recs.drop old.length) y)
  have hshown : shown.unbooted = y.unbooted := by simp only [shown, C.unbooted_put, C.unbooted_wr, hrecorded]
  have hkeyed : keyed.unbooted = y.unbooted := by
    unfold keyed
    split
    · rw [C.unbooted_wr, C.unbooted_wr, hshown]
    · exact hshown
  split
  · exact (C.unbooted_raise ..).trans hkeyed
  · exact hkeyed

theorem C.unbooted_emit_if (y : C) (o : Output) (b : Bool) : (if b then y.emit o else y).unbooted = y.unbooted := by
  split <;> rfl

/-- What a reset of every block leaves beside registers, journal and outputs (R202, R544). -/
def C.afterReset (y : C) (uvlo : Bool) : C :=
  { C.reset with prt := { Prt.zero with uvlo := uvlo }, cse := { Cse.zero with flash := y.cse.flash, vendor := y.cse.vendor }, free := y.free }

theorem C.powerReset_unbooted (y : C) (uvlo : Bool) : (y.powerReset uvlo).unbooted = (y.afterReset uvlo).unbooted := by
  simp only [C.powerReset, C.unbooted_emit_if, List.foldl_cons, List.foldl_nil, C.reshow, C.unbooted_wr, C.unbooted_put]
  rfl

theorem C.powerOn_unbooted (y : C) : y.powerOn.unbooted = (y.afterReset true).unbooted := (C.boot_unbooted _).trans (y.powerReset_unbooted true)

/-- What starting firmware cannot change stands after the power-on reset as after the reset. -/
theorem C.powerOn_part {α : Type} (y : C) (g : C → α) (hg : ∀ c : C, g c.unbooted = g c) : g y.powerOn = g (y.afterReset true) := by
  rw [← hg, C.powerOn_unbooted, hg]

/-- The power-on reset: the lock-out stands and the link, lanes and measurements are as after reset; the flash is kept. -/
theorem C.powerOn_effect (y : C) : y.powerOn.prt.uvlo = true ∧ y.powerOn.gte.held = [] ∧ y.powerOn.clk.dnOk = false ∧ y.powerOn.lanes = [] ∧
    y.powerOn.adc = [] ∧ y.powerOn.cse.flash = y.cse.flash ∧ y.powerOn.free = y.free :=
  ⟨y.powerOn_part (fun c => c.prt.uvlo) (fun _ => rfl), y.powerOn_part (fun c => c.gte.held) (fun _ => rfl),
    y.powerOn_part (fun c => c.clk.dnOk) (fun _ => rfl), y.powerOn_part C.lanes (fun _ => rfl), y.powerOn_part C.adc (fun _ => rfl),
    y.powerOn_part (fun c => c.cse.flash) (fun _ => rfl), y.powerOn_part C.free (fun _ => rfl)⟩

/-! ### Each command leaves its function's result -/

/-- A trip needs no more of a crossing than what `sense` gives. -/
theorem C.crossing_sensed {y z : C} {cid l1 l2 : Nat} {ins : List (Nat × Nat)} {ov : Bool} (ofs : Nat)
    (h : y.sense cid ins = ((l1, l2, ov), z)) : y.crossing cid ofs ins = z.comparators ofs l1 l2 ov := by
  rw [C.crossing, h]

theorem C.clrHoldNow_sensed {y z : C} {cid l1 l2 : Nat} {ins : List (Nat × Nat)} {ov : Bool} (h : y.sense cid ins = ((l1, l2, ov), z)) :
    y.clrHoldNow cid ins = z.clrHold l1 := by
  rw [C.clrHoldNow, h]

/-- Both rows that report crossings leave what the crossing gives (R187, R199). -/
theorem exec_crossing_now {s : State} {cid ofs : Nat} {ins : List (Nat × Nat)} {y : C} {c : Instr}
    (hc : c = .comparatorTrip cid ins ∨ c = .ov2Crossing cid ins) (hw : c.wf = true) (hn : (s.cell cid).now cid = (ofs, y)) :
    exec c s = .next (s.withCell cid (y.crossing cid ofs ins)) := by
  rcases hc with rfl | rfl
  · exact (exec_comparatorTrip ..).trans (State.onCellNow_next _ hw hn)
  · exact (exec_ov2Crossing ..).trans (State.onCellNow_next _ hw hn)

/-! ### The obligation -/

/-- Settles O12: each command leaves its function's result on the cell, and each clause is one case of that function, said above. -/
theorem protectionCommandsComplete : Obligations.ProtectionCommandsComplete := by
  unfold Obligations.ProtectionCommandsComplete
  refine ⟨?crossing, ?exceeds, ?levelTwo, ?overvoltage, ?blank, ?soft, ?mismatch, ?agrees, ?clears, ?refused, ?dump, ?locks, ?releases, ?power⟩
  case crossing =>
    rintro s cid ins ofs y l1 l2 ov z a b c hc hw hn hz hu hm rfl rfl
    rw [exec_crossing_now hc hw hn, C.crossing_sensed ofs hz]
    refine ⟨fun h => ?_, ?_⟩
    · rw [C.comparators_trip ofs hu hm h]
    · rintro h1 h2 rfl
      rw [C.comparators_quiet ofs hm h1 h2]
  case exceeds => exact fun v code free => ⟨exceeds_above free, exceeds_below free⟩
  case levelTwo => exact fun y ofs l1 l2 ov gm h2 hr => C.trip_levelTwo_tripped ofs l1 ov gm hr h2
  case overvoltage => exact fun y ofs z hz hr => C.trip_overvoltage ofs hz hr
  case blank =>
    intro s cid sw ins ofs y l1 l2 ov z hs hw hn hb hz
    refine (exec_blankWindowClose ..).trans ((State.onCellNow_next _ hw hn).trans ?_)
    rw [C.blankClose_switch cid ofs ins hs hb, hz]
  case soft =>
    intro s cid ofs y l2 hw hn h2 hs
    refine ⟨_, rfl, (exec_softOffEnd ..).trans ((State.onCellNow_next _ hw hn).trans ?_)⟩
    rw [C.softEnd_levelTwo ofs h2 hs]
  case mismatch =>
    rintro s cid sw high ofs y hw hn hu hp ho ht hr _ rfl hh
    have hs : sw < 4 := by
      simp only [wf_gateMismatch, Bool.and_eq_true, decide_eq_true_eq] at hw
      exact hw.2
    refine (exec_gateMismatch ..).trans ((State.onCellNow_next _ hw hn).trans ?_)
    rw [C.gateMismatch_trips ofs hs hu hp ho ht hr hh]
  case agrees =>
    intro s cid sw high ofs y hw hn h
    refine (exec_gateMismatch ..).trans ((State.onCellNow_next _ hw hn).trans ?_)
    rw [C.gateMismatch_agrees ofs h]
  case clears =>
    intro s cid ins l1 l2 ov z hw hz hb hr hl
    refine ⟨z.clrHold l1, ?_, C.clrHold_effect (C.holdClears_cool hb hr hl)⟩
    refine (exec_clrHold ..).trans ((State.onCell_next _ _ hw).trans ?_)
    rw [C.clrHoldNow_sensed hz]
    rfl
  case refused =>
    intro s cid ins l1 l2 ov z hw hz hx hb
    refine (exec_clrHold ..).trans ((State.onCell_next _ _ hw).trans ?_)
    rw [C.clrHoldNow_sensed hz, C.clrHold_refused (C.holdClears_auto l1 hx hb), C.prtCmd_rejected]
    rfl
  case dump =>
    intro s cid ofs y hw hn h
    refine (exec_dmpTmaxExpire ..).trans ((State.onCellNow_next _ hw hn).trans ?_)
    rw [C.dumpLimit_stops ofs h]
  case locks =>
    intro s cid ofs y hw hn hu hm
    obtain ⟨hx, hy, hbyf, hbyc, hdmp⟩ := (y.allOff ofs).outputsDown_off
    refine ⟨y.underLockOut ofs, ?_, rfl, y.underLockOut_outs ofs, y.underLockOut_uvlo ofs, ?_⟩
    · refine (exec_uvloEntry ..).trans ((State.onCellNow_next _ hw hn).trans ?_)
      rw [C.uvloEnter_locks ofs hu hm]
    · rw [y.underLockOut_on ofs (by decide) (by decide), y.underLockOut_on ofs (by decide) (by decide), y.underLockOut_on ofs (by decide) (by decide),
        y.underLockOut_on ofs (by decide) (by decide), y.underLockOut_on ofs (by decide) (by decide)]
      exact ⟨hx, hy, hbyf, hbyc, hdmp⟩
  case releases =>
    intro s cid ofs y hw hn hu hr hj
    refine ⟨((y.unlocked.draw cid).2.flag 14).raise ofs CC.UVLO_SEEN [], ?_, congrArg Prt.uvlo (C.raise_prt ..),
      C.raise_status (k := CC.UVLO_SEEN) _ ofs (by decide), ?_⟩
    · refine (exec_uvloRelease ..).trans ((State.onCellNow_next _ hw hn).trans ?_)
      rw [C.uvloRelease_seen cid ofs hu hr hj]
    · rw [C.raise_flags]
      exact bitAt_setBit_same ..
  case power =>
    intro s cid hw
    exact ⟨(s.cell cid).powerOn, (exec_cellPor ..).trans (State.onCell_next _ _ hw), (s.cell cid).powerOn_effect⟩

end Sys2Proof.Machine
end

section
/-! PROOFS. The retirement of a cell: the bypass wait (R192), the sequence step by step (R203, R204), CLR_JOURNAL (R206), writes of the thresholds
(R183, R195) and the self-test (R208, R210). -/
namespace Sys2Proof.Machine

theorem C.rd_of_on {y : C} {f : Fld} (hf : f.width = 1) (h : y.on f = true) : y.rd f = 1 := by
  have hlt := y.rd_lt f
  have hne : y.rd f ≠ 0 := bne_iff_ne.mp h
  rw [hf] at hlt
  omega

/-! ### The sequence begins (R192, R203, R204) -/

theorem C.bypassDue_retiring {y : C} (h : y.bypassDue = true) : y.retiring = false := by
  unfold C.bypassDue at h
  split at h
  · simp only [Bool.and_eq_true, Bool.not_eq_true'] at h
    obtain ⟨⟨-, hr⟩, -⟩ := h
    exact hr
  · exact absurd h Bool.false_ne_true

section Begins
variable (y : C) (ofs : Nat)

theorem C.retireBegun_seq : (y.retireBegun ofs).rd R.PRT_STATE_SEQ = 1 := by
  rw [C.retireBegun, C.rd_withPrt, C.rd_wr_same]
  rfl

theorem C.retireBegun_latch : (y.retireBegun ofs).rd R.GTE_STATE_RETIRE_LATCH = 1 := by
  rw [C.retireBegun, C.rd_withPrt, C.rd_wr_ne _ _ (by decide), C.rd_wr_same]
  rfl

theorem C.retireShown_seq : (y.retireShown ofs).rd R.PRT_STATE_SEQ = 1 := by
  rw [y.retireShown_rd ofs (by decide) (by decide), C.byf, C.drive_rd _ _ _ (by decide), C.retireBegun_seq]

theorem C.retireShown_latch : (y.retireShown ofs).rd R.GTE_STATE_RETIRE_LATCH = 1 := by
  rw [y.retireShown_rd ofs (by decide) (by decide), C.byf, C.drive_rd _ _ _ (by decide), C.retireBegun_latch]

theorem C.retireShown_byf (hu : y.prt.uvlo = false) : (y.retireShown ofs).rd R.PRT_STATE_BYF = 1 := by
  have hfree : (y.retireBegun ofs).prt.uvlo = false := (y.retireBegun_leaves ofs).rest.trans hu
  rw [y.retireShown_rd ofs (by decide) (by decide)]
  refine C.rd_of_on rfl ((C.drive_on _ _ _ rfl).trans ?_)
  rw [hfree]
  rfl

theorem C.retireShown_code (hb : y.on R.GTE_STATE_BLOCK_LATCH = false) : (y.retireShown ofs).rd R.GTE_STATE_CODE = 15 := by
  have hfree := (((y.retireBegun_leaves ofs).trans (C.byf_leaves _ true)).on (f := R.GTE_STATE_BLOCK_LATCH) (by decide)).trans hb
  rw [C.retireShown, if_neg (Bool.eq_false_iff.mp hfree)]
  exact C.showRow_code _ 4 (by decide)

end Begins

/-- The retirement begins: the latch, the sequence and BYF stand, the bridge is off and the record's write runs (R203, R204). -/
theorem C.startRetire_effect {y : C} (ofs : Nat) (hu : y.prt.uvlo = false) (hr : y.retiring = false) :
    (y.startRetire ofs false).rd R.PRT_STATE_SEQ = 1 ∧ (y.startRetire ofs false).rd R.GTE_STATE_RETIRE_LATCH = 1 ∧
      (y.startRetire ofs false).rd R.PRT_STATE_BYF = 1 ∧ (y.startRetire ofs false).outs = 0 ∧ (y.startRetire ofs false).prt.jrnRun = true ∧
      (y.on R.GTE_STATE_BLOCK_LATCH = false → (y.startRetire ofs false).rd R.GTE_STATE_CODE = 15) := by
  rw [C.startRetire_runs ofs (by rw [hu, hr]; rfl)]
  refine ⟨?_, ?_, ?_, ?_, ?_, fun hb => ?_⟩
  · rw [C.raise_rd _ _ (by decide), C.retireShown_seq]
  · rw [C.raise_rd _ _ (by decide), C.retireShown_latch]
  · rw [C.raise_rd _ _ (by decide), C.retireShown_byf _ _ hu]
  · rw [C.outs, C.raise_rd _ _ (by decide)]
    exact y.retireShown_outs ofs
  · rw [C.raise_prt, C.retireShown_prt]
    rfl
  · rw [C.raise_rd _ _ (by decide), C.retireShown_code _ _ hb]

/-! ### The sequence step by step (R204) -/

theorem C.recordDone_writes {y : C} (h : y.prt.jrnRun = true) :
    y.recordDone = ((y.withPrt (fun p => { p with jrnRun := false })).journal 1 []).wr R.PRT_STATE_JRN_RET 1 :=
  if_neg (by rw [h]; decide)

theorem C.recordDone_effect {y : C} (h : y.prt.jrnRun = true) :
    y.recordDone.rd R.PRT_STATE_JRN_RET = 1 ∧ y.recordDone.cse.jrn = journalAppend y.cse.jrn 0 0x10000 true 1 [] := by
  rw [C.recordDone_writes h]
  exact ⟨C.rd_wr_same .., rfl⟩

section Sequence
variable {y : C}

theorem C.bycStart_drives (hu : y.prt.uvlo = false) (hs : y.rd R.PRT_STATE_SEQ = 1) (hb : y.prt.bycUp = false) :
    y.bycStart = (y.withPrt (fun p => { p with bycUp := true })).byc true :=
  if_neg (by simp [hu, hs, hb])

theorem C.bycStart_effect (hu : y.prt.uvlo = false) (hs : y.rd R.PRT_STATE_SEQ = 1) (hb : y.prt.bycUp = false) :
    y.bycStart.rd R.PRT_STATE_BYC = 1 ∧ y.bycStart.prt.bycUp = true := by
  rw [C.bycStart_drives hu hs hb]
  refine ⟨C.rd_of_on rfl ((C.drive_on _ _ _ rfl).trans ?_), ?_⟩
  · rw [C.withPrt_prt, hu]
    rfl
  · rw [C.byc, C.drive_prt]
    rfl

/-- An output that stands is driven to 0 at its pin. -/
theorem C.drive_falls {f : Fld} (pin : Nat) (h : y.on f = true) : y.drive f pin false = (y.put f false).emit (.pin pin false) :=
  if_neg (by simp [h])

theorem C.bycEnd_effect (y : C) : y.bycEnd.on R.PRT_STATE_BYC = false ∧
    (y.on R.PRT_STATE_BYC = true → y.bycEnd.out = y.out ++ [.pin 3 false]) := by
  refine ⟨y.drive_off _ rfl, fun h => ?_⟩
  rw [C.bycEnd, C.byc, C.drive_falls _ h]
  rfl

theorem C.bycConfirm_confirms (hu : y.prt.uvlo = false) (hs : y.rd R.PRT_STATE_SEQ = 1) (hb : y.prt.bycUp = true) :
    y.bycConfirm = (y.wr R.PRT_STATE_SEQ 2).wr R.PRT_STATE_BYC_FB 1 := if_neg (by simp [hu, hs, hb])

theorem C.bycTimeout_fails (ofs : Nat) (hu : y.prt.uvlo = false) (hs : y.rd R.PRT_STATE_SEQ = 1) (hb : y.prt.bycUp = true) :
    y.bycTimeout ofs = (y.wr R.PRT_STATE_SEQ 3).raise ofs CC.BYC_FAIL [] := if_neg (by simp [hu, hs, hb])

theorem C.byfRelease_effect (hs : y.rd R.PRT_STATE_SEQ = 2) : y.byfRelease.on R.PRT_STATE_BYF = false ∧ y.byfRelease.prt.pulsing = false := by
  have hrel : y.byfRelease = (y.withPrt (fun p => { p with pulsing := false })).byf false := if_neg (fun h => h hs)
  rw [hrel]
  refine ⟨C.drive_off _ _ rfl, ?_⟩
  rw [C.byf, C.drive_prt]
  rfl

theorem C.byfPulse_effect (level : Bool) (hu : y.prt.uvlo = false) (hs : y.rd R.PRT_STATE_SEQ = 1 ∨ y.rd R.PRT_STATE_SEQ = 3) :
    (y.byfPulse level).on R.PRT_STATE_BYF = level ∧ (y.byfPulse level).prt.pulsing = true := by
  have hpulse : y.byfPulse level = (y.withPrt (fun p => { p with pulsing := true })).byf level := if_neg (by rcases hs with h | h <;> simp [hu, h])
  rw [hpulse]
  refine ⟨(C.drive_on _ _ _ rfl).trans ?_, ?_⟩
  · rw [C.withPrt_prt, hu, Bool.not_false, Bool.and_true]
  · rw [C.byf, C.drive_prt]
    rfl

end Sequence

/-! ### CLR_JOURNAL (R206) -/

theorem C.clrJournal_refused {y : C} (h : y.on R.GTE_STATE_RETIRE_LATCH = false) : y.clrJournal = y.prtCmd 3 false := by
  simp only [C.clrJournal, h, Bool.false_and, Bool.false_eq_true, if_false]

theorem C.clrJournal_clears {y : C} (h : y.on R.GTE_STATE_RETIRE_LATCH = true) (hs : 2 ≤ y.rd R.PRT_STATE_SEQ) :
    y.clrJournal = ((y.prtCmd 3 true).withCse (fun s => { s with jrn := journalDrop s.jrn 0 0x10000 true 1 })).wr R.PRT_STATE_JRN_RET 0 := by
  simp only [C.clrJournal, h, decide_eq_true hs, Bool.true_and, if_true, ge_iff_le]

@[simp] theorem C.prtCmd_cse (y : C) (op : Nat) (ok : Bool) : (y.prtCmd op ok).cse = y.cse := by
  have h := congrArg C.cse (y.prtCmd_leaves op ok).rest
  exact h

theorem C.clrJournal_effect {y : C} (h : y.on R.GTE_STATE_RETIRE_LATCH = true) (hs : 2 ≤ y.rd R.PRT_STATE_SEQ) :
    y.clrJournal.cse.jrn = journalDrop y.cse.jrn 0 0x10000 true 1 ∧ y.clrJournal.rd R.PRT_STATE_JRN_RET = 0 ∧
      y.clrJournal.rd R.PRT_CMD_STAT_DONE = 1 := by
  rw [C.clrJournal_clears h hs]
  refine ⟨?_, C.rd_wr_same .., ?_⟩
  · rw [C.wr_cse, C.withCse_cse, C.prtCmd_cse]
  · rw [C.rd_wr_ne _ _ (by decide), C.rd_withCse, C.prtCmd_done_rd]

/-! ### Writes of the thresholds (R183, R195) -/

section Thresholds
variable {y : C} {v : Nat} (hl : y.on R.PRT_CTL_LOCK = false)
include hl

theorem C.thrWrite_taken (ofs : Nat) {sw : Nat} (hs : sw < 4) (h : bits v 0 8 < bits v 8 8) :
    y.thrWrite ofs sw v = (y.wr (R.PRT_THR_L1 sw) v).wr (R.PRT_THR_L2 sw) (v / 256) := by
  simp only [C.thrWrite, hl, Bool.false_or, decide_eq_true_eq, ge_iff_le, Nat.not_le.mpr hs, Nat.not_le.mpr h, if_false]

theorem C.thrWrite_refused (ofs : Nat) {sw : Nat} (hs : sw < 4) (h : bits v 8 8 ≤ bits v 0 8) :
    y.thrWrite ofs sw v = y.raise ofs CC.THR_REJ [] := by
  simp only [C.thrWrite, hl, Bool.false_or, decide_eq_true_eq, ge_iff_le, Nat.not_le.mpr hs, h, if_false, if_true]

theorem C.ovaWrite_taken (h : bits v 16 16 < bits v 0 16) :
    y.ovaWrite v = (y.wr R.PRT_OVA_DMP_ON v).wr R.PRT_OVA_DMP_OFF (v / 65536) := if_neg (by simp [hl, h])

end Thresholds

theorem wf_prtThrWrite_switch {cid sw v : Nat} (hw : (Instr.prtThrWrite cid sw v).wf = true) : sw < 4 := by
  simp only [wf_prtThrWrite, Bool.and_eq_true, decide_eq_true_eq] at hw
  obtain ⟨⟨-, hs⟩, -⟩ := hw
  exact hs

/-! ### The self-test (R208, R210) -/

/-- SELFTEST answered, with its results cleared. -/
def C.testAnswered (y : C) (mask : Nat) : C := (((y.wr R.PRT_CMD_MASK mask).prtCmd 1 true).wr R.PRT_ST_RES_PASS 0).wr R.PRT_ST_RES_FAIL 0

theorem C.testAnswered_type (y : C) (mask : Nat) : (y.testAnswered mask).on R.GTE_CTL_TYPE = y.on R.GTE_CTL_TYPE := by
  rw [C.testAnswered, C.on_wr_ne _ _ (by decide), C.on_wr_ne _ _ (by decide), (C.prtCmd_leaves ..).on (by decide), C.on_wr_ne _ _ (by decide)]

/-- In a full-bridge cell every comparator can be tested (R210). -/
theorem C.testable_fullBridge {y : C} (m : Nat) (h : y.on R.GTE_CTL_TYPE = true) : y.testable m = m := if_pos h

theorem C.selftest_starts {y : C} {mask : Nat} (hm : mask < 1024) (ht : y.prt.test = none) (hr : y.retiring = false)
    (hty : y.on R.GTE_CTL_TYPE = true) (h0 : mask ≠ 0) :
    y.selftest mask = ((y.testAnswered mask).withPrt (fun p => { p with test := some (mask, 0) })).wr R.PRT_CMD_STAT_BUSY 1 := by
  have htest : (y.testAnswered mask).testable mask ≠ 0 := by
    rwa [C.testable_fullBridge mask ((y.testAnswered_type mask).trans hty)]
  unfold C.testAnswered at htest
  simp only [C.selftest, Nat.mod_eq_of_lt hm, ht, hr, Option.isNone_none, Bool.not_false, Bool.and_self, Bool.not_true, Bool.false_eq_true, if_false,
    htest, C.testAnswered]

theorem C.selftest_effect {y : C} {mask : Nat} (hm : mask < 1024) (ht : y.prt.test = none) (hr : y.retiring = false)
    (hty : y.on R.GTE_CTL_TYPE = true) (h0 : mask ≠ 0) :
    (y.selftest mask).prt.test = some (mask, 0) ∧ (y.selftest mask).rd R.PRT_CMD_STAT_BUSY = 1 ∧ (y.selftest mask).rd R.PRT_ST_RES_PASS = 0 ∧
      (y.selftest mask).rd R.PRT_ST_RES_FAIL = 0 ∧ (y.selftest mask).rd R.PRT_CMD_STAT_DONE = 1 := by
  rw [C.selftest_starts hm ht hr hty h0]
  refine ⟨rfl, C.rd_wr_same .., ?_, ?_, ?_⟩
  · rw [C.rd_wr_ne _ _ (by decide), C.rd_withPrt, C.testAnswered, C.rd_wr_ne _ _ (by decide), C.rd_wr_same]
    rfl
  · rw [C.rd_wr_ne _ _ (by decide), C.rd_withPrt, C.testAnswered, C.rd_wr_same]
    rfl
  · rw [C.rd_wr_ne _ _ (by decide), C.rd_withPrt, C.testAnswered, C.rd_wr_ne _ _ (by decide), C.rd_wr_ne _ _ (by decide), C.prtCmd_done_rd]

theorem C.testTimeout_stops {y : C} (ofs : Nat) {m n : Nat} (ht : y.prt.test = some (m, n)) (hn : 1024 ≤ n) :
    y.testTimeout ofs = y.testOver.raise ofs CC.ST_ABORT [] := by
  simp only [C.testTimeout, ht, ge_iff_le, hn, if_true]

/-! ### The obligation -/

/-- Settles O13: each command leaves its function's result on the cell, and each clause is one case of that function, said above. -/
theorem retirementAndTestCommandsComplete : Obligations.RetirementAndTestCommandsComplete := by
  unfold Obligations.RetirementAndTestCommandsComplete
  refine ⟨?bypass, ?record, ?bycUp, ?bycDown, ?confirm, ?timeout, ?release, ?pulse, ?journal, ?journalRefused, ?threshold, ?thresholdRefused,
    ?dump, ?test, ?testTimeout⟩
  case bypass =>
    intro s cid ofs y hw hn hd hu
    refine ⟨y.startRetire ofs false, ?_, C.startRetire_effect ofs hu (C.bypassDue_retiring hd)⟩
    refine (exec_bypWaitExpire ..).trans ((State.onCellNow_next _ hw hn).trans ?_)
    rw [if_pos hd]
  case record =>
    exact fun s cid hw h => ⟨_, (exec_retirementRecordDone ..).trans (State.onCell_next _ _ hw), C.recordDone_effect h⟩
  case bycUp =>
    exact fun s cid hw hu hs hb => ⟨_, (exec_bycPulseStart ..).trans (State.onCell_next _ _ hw), C.bycStart_effect hu hs hb⟩
  case bycDown => exact fun s cid hw => ⟨_, (exec_bycPulseEnd ..).trans (State.onCell_next _ _ hw), C.bycEnd_effect _⟩
  case confirm =>
    intro s cid hw hu hs hb
    rw [← C.bycConfirm_confirms hu hs hb]
    exact (exec_bycConfirm ..).trans (State.onCell_next _ _ hw)
  case timeout =>
    intro s cid ofs y hw hn hu hs hb
    rw [← C.bycTimeout_fails ofs hu hs hb]
    exact (exec_bycTimeout ..).trans (State.onCellNow_next _ hw hn)
  case release => exact fun s cid hw hs => ⟨_, (exec_byfRelease ..).trans (State.onCell_next _ _ hw), C.byfRelease_effect hs⟩
  case pulse => exact fun s cid level hw hu hs => ⟨_, (exec_byfPulse ..).trans (State.onCell_next _ _ hw), C.byfPulse_effect level hu hs⟩
  case journal => exact fun s cid hw h hs => ⟨_, (exec_clrJournal ..).trans (State.onCell_next _ _ hw), C.clrJournal_effect h hs⟩
  case journalRefused =>
    intro s cid hw h
    rw [← C.prtCmd_rejected, ← C.clrJournal_refused h]
    exact (exec_clrJournal ..).trans (State.onCell_next _ _ hw)
  case threshold =>
    intro s cid sw v ofs y hw hn hl h
    have hs := wf_prtThrWrite_switch hw
    rw [← C.thrWrite_taken hl ofs hs h]
    exact (exec_prtThrWrite ..).trans (State.onCellNow_next _ hw hn)
  case thresholdRefused =>
    intro s cid sw v ofs y hw hn hl h
    have hs := wf_prtThrWrite_switch hw
    rw [← C.thrWrite_refused hl ofs hs h]
    exact (exec_prtThrWrite ..).trans (State.onCellNow_next _ hw hn)
  case dump =>
    intro s cid v hw hl h
    rw [← C.ovaWrite_taken hl h]
    exact (exec_prtOvaWrite ..).trans (State.onCell_next _ _ hw)
  case test =>
    intro s cid mask hw ht hr hty h0
    have hm : mask < 1024 := by
      simp only [wf_selftest, Bool.and_eq_true, decide_eq_true_eq] at hw
      exact hw.2
    exact ⟨_, (exec_selftest ..).trans (State.onCell_next _ _ hw), C.selftest_effect hm ht hr hty h0⟩
  case testTimeout =>
    intro s cid ofs y m n hw hn ht h
    refine (exec_selftestTimeout ..).trans ((State.onCellNow_next _ hw hn).trans ?_)
    rw [C.testTimeout_stops ofs ht h, C.testOver]

end Sys2Proof.Machine
end

section
/-! PROOFS. The loop engine: the commit of a run (R219, R220, R222), core stores to the board (R216, R603), to a slot's control, index, state and
coefficient words (R229 to R233, R243), memory errors (R249), EN of LPE_CTL (R252). -/
namespace Sys2Proof.Machine

/-! ### The commit of a run (R219, R220, R222) -/

theorem exec_lpeRunCommit_heard {s : State} {g : Nat} (hw : (Instr.lpeRunCommit g).wf = true) (hd : s.u.deaf (.lpeRunCommit g) = false) :
    exec (.lpeRunCommit g) s = .next (s.after (s.u.runCommit s.time g)) := by
  rw [exec_lpeRunCommit, execLpeRunCommit, State.onUnit_after _ hw hd]

theorem U.runCommit_none {u : U} {g : Nat} (t : TimeBase) (hr : u.lpe.runs.find? g = none) : u.runCommit t g = u := by
  simp only [U.runCommit, hr]

section Run
variable {u : U} {g : Nat} {r : LpeRun} (hr : u.lpe.runs.find? g = some r)
include hr

/-- A run waits for a group that goes first (R219), and one already held to its next start boundary ends there (R222). -/
theorem U.runCommit_waits (t : TimeBase) (h : u.waits g r = true ∨ r.tie = true) : u.runCommit t g = u := by
  simp only [U.runCommit, hr]
  exact if_pos (by rcases h with h | h <;> simp [h])

theorem U.runCommit_ready (t : TimeBase) (hf : u.waits g r = false) (ht : r.tie = false) : u.runCommit t g =
    if t.due && t.us % groupUs g == 0 then
      u.withLpe (fun l => { l with runs := l.runs.set g { u.computeSome g r.left.length r with tie := true } })
    else (u.commitRun t g (u.computeSome g r.left.length r) false).commitCauses t (u.computeSome g r.left.length r).res := by
  simp only [U.runCommit, hr, hf, ht, Bool.or_self, Bool.false_eq_true, if_false]

/-- In the handshake of the group's next start a run is held to that boundary (R222). -/
theorem U.runCommit_ties {t : TimeBase} (hf : u.waits g r = false) (ht : r.tie = false) (hd : t.due = true) (hb : t.us % groupUs g = 0) :
    u.runCommit t g = u.withLpe (fun l => { l with runs := l.runs.set g { u.computeSome g r.left.length r with tie := true } }) := by
  rw [U.runCommit_ready hr t hf ht, if_pos (by simp [hd, hb])]

theorem U.runCommit_commits {t : TimeBase} (hf : u.waits g r = false) (ht : r.tie = false) (h : t.due = false ∨ t.us % groupUs g ≠ 0) :
    u.runCommit t g = (u.commitRun t g (u.computeSome g r.left.length r) false).commitCauses t (u.computeSome g r.left.length r).res := by
  rw [U.runCommit_ready hr t hf ht, if_neg (by rcases h with h | h <;> simp [h])]

end Run

/-- What a commit writes last: the margin, none in a tie, its minimum, the count of overruns and the number of the run (R222, R252). -/
theorem U.commitRun_ends (u : U) (t : TimeBase) (g : Nat) (r : LpeRun) (tie : Bool) : ∃ (v : U) (m : Nat),
    u.commitRun t g r tie = (((v.wr (R.LPE_GRP_MARGIN_LAST g)
      (if tie then 0 else min 65535 (((t.us / groupUs g + 1) * groupUs g * 1000 - t.tns) / 2))).wr
      (R.LPE_GRP_MARGIN_MIN g) m).wr (R.LPE_GRP_OVR_RUN g) 0).wr (R.LPE_GRP_DN_DN g) r.start := ⟨_, _, rfl⟩

section Group
variable (u : U) (t : TimeBase) (g : Nat) (r : LpeRun)

theorem U.commitRun_number (tie : Bool) : (u.commitRun t g r tie).rd (R.LPE_GRP_DN_DN g) = r.start % 2 ^ 32 := by
  obtain ⟨v, m, he⟩ := u.commitRun_ends t g r tie
  rw [he, U.rd_wr_same]

theorem U.commitRun_overruns (tie : Bool) : (u.commitRun t g r tie).rd (R.LPE_GRP_OVR_RUN g) = 0 := by
  obtain ⟨v, m, he⟩ := u.commitRun_ends t g r tie
  rw [he, U.rd_wr_ne _ _ (Fld.key_ne_of_addr (by simp) (by simp) (by simp)), U.rd_wr_same, Nat.zero_mod]

theorem U.commitRun_tieMargin : (u.commitRun t g r true).rd (R.LPE_GRP_MARGIN_LAST g) = 0 := by
  obtain ⟨v, m, he⟩ := u.commitRun_ends t g r true
  rw [he, U.rd_wr_ne _ _ (Fld.key_ne_of_addr (by simp) (by simp) (by simp)),
    U.rd_wr_ne _ _ (Fld.key_ne_of_addr (by simp) (by simp) (by simp)), U.rd_wr_ne _ _ (Fld.key_ne_of_lo (by simp) (by simp)), U.rd_wr_same]
  rfl

end Group

/-! ### Core stores to the board (R216, R603) -/

theorem exec_boardCoreStore_heard {s : State} {e v : Nat} (hw : (Instr.boardCoreStore e v).wf = true)
    (hd : s.u.deaf (.boardCoreStore e v) = false) : exec (.boardCoreStore e v) s = .next (s.after (s.u.boardStore s.time e v)) := by
  rw [exec_boardCoreStore, execBoardCoreStore, State.onUnit_after _ hw hd]

theorem wf_boardCoreStore_entry {e v : Nat} (hw : (Instr.boardCoreStore e v).wf = true) : e < 1024 := by
  simp only [wf_boardCoreStore, Bool.and_eq_true, decide_eq_true_eq] at hw
  exact hw.1

section Board
variable {u : U} (t : TimeBase) {e v : Nat}

theorem U.boardStore_same (h : enc 32 (u.board e) = v) : u.boardStore t e v = u := if_pos h

theorem U.boardStore_taken (hn : enc 32 (u.board e) ≠ v) (hlo : 256 ≤ e) (hhi : e < 1024) (hs : u.slotWrites e = false) :
    u.boardStore t e v = u.wr (R.LPE_BOARD_VALUE e) v := by
  rw [U.boardStore, if_neg hn, if_neg (by simp [hs, hlo, hhi])]

/-- The entries that feeds write and those that an enabled slot writes take no store (R216). -/
theorem U.boardStore_refused (hn : enc 32 (u.board e) ≠ v) (h : e < 256 ∨ u.slotWrites e = true) : u.boardStore t e v = u.lpeRej t [] := by
  rw [U.boardStore, if_neg hn, if_pos (by rcases h with h | h <;> simp [h])]

end Board

/-! ### Writes of a slot's control and index registers (R229, R230, R231) -/

theorem exec_slotCtlWrite_heard {s : State} {sl reg v : Nat} (hw : (Instr.slotCtlWrite sl reg v).wf = true)
    (hd : s.u.deaf (.slotCtlWrite sl reg v) = false) :
    exec (.slotCtlWrite sl reg v) s = .next (s.after (s.u.slotWrite s.time sl reg v)) := by
  rw [exec_slotCtlWrite, execSlotCtlWrite, State.onUnit_after _ hw hd]

theorem wf_slotCtlWrite_slot {sl reg v : Nat} (hw : (Instr.slotCtlWrite sl reg v).wf = true) : sl < 96 := by
  simp only [wf_slotCtlWrite, Bool.and_eq_true, decide_eq_true_eq] at hw
  obtain ⟨⟨hsl, -⟩, -⟩ := hw
  exact hsl

theorem exec_slotEnable_heard {s : State} {sl : Nat} (hw : (Instr.slotEnable sl).wf = true) (hd : s.u.deaf (.slotEnable sl) = false) :
    exec (.slotEnable sl) s = .next (s.after (s.u.slotEnable s.time sl)) := by
  rw [exec_slotEnable, execSlotEnable, State.onUnit_after _ hw hd]

section Slot
variable {u : U} (t : TimeBase) {sl : Nat} (hsl : sl < 96)
include hsl

/-- The operands of a write that a slot has a register for pass the range check. -/
theorem slotWrite_inRange {reg : Nat} (hreg : reg ≤ 3) : ¬ (decide (sl ≥ 96) || decide (reg > 3)) = true := by
  rw [decide_eq_false (Nat.not_le.mpr hsl), decide_eq_false (Nat.not_lt.mpr hreg)]
  exact Bool.false_ne_true

theorem U.slotWrite_inputs (v : Nat) (he : u.on (R.SLOT_CTL_EN sl) = false) :
    u.slotWrite t sl 1 v = u.storeFlds [R.SLOT_IN_A_IN0 sl, R.SLOT_IN_A_IN1 sl] v := by
  rw [U.slotWrite, if_neg (slotWrite_inRange hsl (by decide)), he]
  rfl

theorem U.slotWrite_disabled {v : Nat} (he : u.on (R.SLOT_CTL_EN sl) = false) (hv : bitAt v 6 = false) : u.slotWrite t sl 0 v =
    ((u.storeFlds (slotCfgFlds sl) v).storeFlds [R.SLOT_CTL_HOLD sl, R.SLOT_CTL_BLK_HOLD sl] v).wr (R.SLOT_CTL_EN sl) 0 := by
  rw [U.slotWrite, if_neg (slotWrite_inRange hsl (by decide)), he, hv]
  rfl

/-- An enabled slot keeps its configuration (R229). -/
theorem U.slotWrite_refused {v : Nat} (he : u.on (R.SLOT_CTL_EN sl) = true) (hc : u.changes (slotCfgFlds sl) v = true) :
    u.slotWrite t sl 0 v = u.lpeRej t (LPE.det sl) := by
  simp only [U.slotWrite, if_neg (slotWrite_inRange hsl (Nat.zero_le 3)), he, hc, Bool.and_self, if_true]

variable (he : u.on (R.SLOT_CTL_EN sl) = false)
include he

theorem U.slotEnable_checked : u.slotEnable t sl = if u.slotOk sl then u.slotOn sl else u.lpeRej t (LPE.det sl) := by
  rw [U.slotEnable, if_neg (by simp [he, hsl])]

theorem U.slotEnable_enables (ho : u.slotOk sl = true) : u.slotEnable t sl = (u.wr (R.SLOT_CTL_EN sl) 1).withLpe
    (fun l => { l with enNew := l.enNew.filter (· != sl) ++ [sl] }) := by
  rw [U.slotEnable_checked t hsl he, if_pos ho, U.slotOn]

theorem U.slotEnable_refused (ho : u.slotOk sl = false) : u.slotEnable t sl = u.lpeRej t (LPE.det sl) := by
  rw [U.slotEnable_checked t hsl he, if_neg (Bool.eq_false_iff.mp ho)]

end Slot

/-! ### Core stores to a slot's state and coefficient words (R233, R243, R603) -/

theorem exec_slotStateStore_heard {s : State} {sl n v : Nat} (hw : (Instr.slotStateStore sl n v).wf = true)
    (hd : s.u.deaf (.slotStateStore sl n v) = false) :
    exec (.slotStateStore sl n v) s = .next (s.after (s.u.slotStateStore s.time sl n v)) := by
  rw [exec_slotStateStore, execSlotStateStore, State.onUnit_after _ hw hd]

theorem wf_slotStateStore_range {sl n v : Nat} (hw : (Instr.slotStateStore sl n v).wf = true) : sl < 96 ∧ n < 8 := by
  simp only [wf_slotStateStore, Bool.and_eq_true, decide_eq_true_eq] at hw
  exact hw.1

theorem exec_slotCoefStore_heard {s : State} {sl n v : Nat} (hw : (Instr.slotCoefStore sl n v).wf = true)
    (hd : s.u.deaf (.slotCoefStore sl n v) = false) : exec (.slotCoefStore sl n v) s = .next (s.after (s.u.slotCoefStore sl n v)) := by
  rw [exec_slotCoefStore, execSlotCoefStore, State.onUnit_after _ hw hd]

theorem wf_slotCoefStore_range {sl n v : Nat} (hw : (Instr.slotCoefStore sl n v).wf = true) : sl < 96 ∧ n < 8 := by
  simp only [wf_slotCoefStore, Bool.and_eq_true, decide_eq_true_eq] at hw
  exact hw.1

section Words
variable {u : U} (t : TimeBase) {sl n v : Nat}

theorem U.slotStateStore_same (h : u.rd (R.SLOT_STATE_STATE sl n) = v) : u.slotStateStore t sl n v = u := if_pos (by simp [h])

theorem U.slotStateStore_changes (hr : sl < 96 ∧ n < 8) (hn : u.rd (R.SLOT_STATE_STATE sl n) ≠ v) : u.slotStateStore t sl n v =
    if u.serving sl then u.lpeRej t (LPE.det sl) else u.wr (R.SLOT_STATE_STATE sl n) v := by
  rw [U.slotStateStore, if_neg (by simp [hr, hn])]

theorem U.slotCoefStore_advances (v : Nat) (hr : sl < 96 ∧ n < 8) :
    u.slotCoefStore sl n v = (u.advanceRun (u.rd (R.SLOT_CTL_GROUP sl))).wr (R.SLOT_COEF_COEF sl n) v := by
  rw [U.slotCoefStore, if_neg (by simp [hr])]

end Words

/-! ### Memory errors (R249) and EN of LPE_CTL (R252) -/

theorem exec_lpeMemError_heard {s : State} {entry corrected : Bool} {n : Nat} (hw : (Instr.lpeMemError entry n corrected).wf = true)
    (hd : s.u.deaf (.lpeMemError entry n corrected) = false) :
    exec (.lpeMemError entry n corrected) s = .next (s.after (s.u.lpeMemError s.time entry n corrected)) := by
  rw [exec_lpeMemError, execLpeMemError, State.onUnit_after _ hw hd]

theorem exec_lpeEnWrite_heard {s : State} {en : Bool} (hd : s.u.deaf (.lpeEnWrite en) = false) :
    exec (.lpeEnWrite en) s = .next (s.after (s.u.lpeEnWrite en)) := by
  rw [exec_lpeEnWrite, execLpeEnWrite, State.onUnit_after _ (wf_lpeEnWrite en) hd]

/-- EN takes a 1 always and a 0 while the converter functions are disabled (R252). -/
theorem U.lpeEnWrite_writes {u : U} {en : Bool} (h : en = true ∨ u.on R.DEP_CTL_CONV_EN = false) :
    u.lpeEnWrite en = u.wr R.LPE_CTL_EN (b2n en) := by
  rw [U.lpeEnWrite, if_neg (by rcases h with h | h <;> simp [h]), U.put_eq]

theorem U.lpeEnWrite_keeps {u : U} (h : u.on R.DEP_CTL_CONV_EN = true) : u.lpeEnWrite false = u := if_pos (by simp [h])

/-! ### The obligation -/

/-- Settles O14: each command leaves its function's result where the unit hears it, and each clause is one case of that function, said above. -/
theorem loopEngineCommandsComplete : Obligations.LoopEngineCommandsComplete := by
  unfold Obligations.LoopEngineCommandsComplete
  refine ⟨?commits, ?written, ?ties, ?waits, ?noRun, ?boardSame, ?boardTaken, ?boardRefused, ?inputs, ?disabled, ?config, ?enables, ?enableRefused,
    ?state, ?stateRefused, ?stateSame, ?coef, ?corrected, ?entryLost, ?slotLost, ?enWritten, ?enKept⟩
  case commits =>
    rintro s g r _ hw hd hr hf ht rfl h
    rw [exec_lpeRunCommit_heard hw hd, U.runCommit_commits hr hf ht h]
  case written =>
    intro u t g r tie
    refine ⟨u.commitRun_number t g r tie, u.commitRun_overruns t g r tie, ?_⟩
    rintro rfl
    exact u.commitRun_tieMargin t g r
  case ties =>
    rintro s g r _ hw hd hr hf ht rfl hdue hb
    rw [exec_lpeRunCommit_heard hw hd, U.runCommit_ties hr hf ht hdue hb]
  case waits =>
    intro s g r hw hd hr h
    rw [exec_lpeRunCommit_heard hw hd, U.runCommit_waits hr _ h]
  case noRun =>
    intro s g hw hd hr
    rw [exec_lpeRunCommit_heard hw hd, U.runCommit_none _ hr]
  case boardSame =>
    intro s e v hw hd h
    rw [exec_boardCoreStore_heard hw hd, U.boardStore_same _ h]
  case boardTaken =>
    intro s e v hw hd hn hlo hs
    rw [exec_boardCoreStore_heard hw hd, U.boardStore_taken _ hn hlo (wf_boardCoreStore_entry hw) hs]
  case boardRefused =>
    intro s e v hw hd hn h
    rw [exec_boardCoreStore_heard hw hd, U.boardStore_refused _ hn h]
  case inputs =>
    intro s sl v hw hd he
    rw [exec_slotCtlWrite_heard hw hd, U.slotWrite_inputs _ (wf_slotCtlWrite_slot hw) v he]
  case disabled =>
    intro s sl v hw hd he hv
    rw [exec_slotCtlWrite_heard hw hd, U.slotWrite_disabled _ (wf_slotCtlWrite_slot hw) he hv]
  case config =>
    intro s sl v hw hd he hc
    rw [exec_slotCtlWrite_heard hw hd, U.slotWrite_refused _ (wf_slotCtlWrite_slot hw) he hc]
  case enables =>
    intro s sl hw hd he ho
    rw [exec_slotEnable_heard hw hd, U.slotEnable_enables _ (of_decide_eq_true hw) he ho]
  case enableRefused =>
    intro s sl hw hd he ho
    rw [exec_slotEnable_heard hw hd, U.slotEnable_refused _ (of_decide_eq_true hw) he ho]
  case state =>
    intro s sl n v hw hd hs hn
    rw [exec_slotStateStore_heard hw hd, U.slotStateStore_changes _ (wf_slotStateStore_range hw) hn, if_neg (Bool.eq_false_iff.mp hs)]
  case stateRefused =>
    intro s sl n v hw hd hs hn
    rw [exec_slotStateStore_heard hw hd, U.slotStateStore_changes _ (wf_slotStateStore_range hw) hn, if_pos hs]
  case stateSame =>
    intro s sl n v hw hd h
    rw [exec_slotStateStore_heard hw hd, U.slotStateStore_same _ h]
  case coef =>
    intro s sl n v hw hd
    rw [exec_slotCoefStore_heard hw hd, U.slotCoefStore_advances v (wf_slotCoefStore_range hw)]
  case corrected => exact fun s entry n => exec_lpeMemError_heard
  case entryLost => exact fun s n => exec_lpeMemError_heard
  case slotLost => exact fun s n => exec_lpeMemError_heard
  case enWritten =>
    intro s en hd h
    rw [exec_lpeEnWrite_heard hd, U.lpeEnWrite_writes h]
  case enKept =>
    intro s hd h
    rw [exec_lpeEnWrite_heard hd, U.lpeEnWrite_keeps h]

end Sys2Proof.Machine
end

section
/-! PROOFS. Direct sensor ports: words (R254 to R259), deadlines (R262), the error window (R263), EN and RESTORE (R261, R262), the commit of OFS
and gain (R260), the configuration of a comparator (R265, R266, R603). -/
namespace Sys2Proof.Machine

/-- A command of the unit leaves the unit that its function gives, where the unit hears it. -/
theorem State.onUnit_leaves {s : State} {c : Instr} {f : TimeBase → U → U} {u : U} (hw : c.wf = true) (hd : s.u.deaf c = false)
    (h : f s.time s.u = u) : s.onUnit c f = .next (s.after u) := by
  rw [State.onUnit_after f hw hd, h]

/-! ### A sensor word (R254 to R259) -/

theorem wf_sensorWord_input {input w : Nat} (hw : (Instr.sensorWord input w).wf = true) : input < 32 := by
  simp only [wf_sensorWord, Bool.and_eq_true, decide_eq_true_eq] at hw
  exact hw.1

/-- Where no injection strikes, drawing one leaves the unit. -/
theorem U.injected_none {u : U} {target unit : Nat} (h : (u.injected target unit).1 = false) : (u.injected target unit).2 = u :=
  if_neg (Bool.eq_false_iff.mp h)

section Word
variable {u : U} (t : TimeBase) {input w p : Nat} (hi : input < 32) (hinj : (u.injected 8 input).1 = false) (hp : p = u.portOf input)
  (hon : u.rd (R.SNS_PSTAT_STATE p) ≠ 0)
include hi hinj hp hon

/-- A word of wrong check, form or type counts in CHK_CNT and as an error of its port (R258). -/
theorem U.sensorWord_malformed (h : bits w 0 8 ≠ sensorCrc w ∨ bits w 60 4 ≠ 10 ∨ bits w 56 4 ≠ u.rd (R.SNS_PCFG_TYPE p)) :
    u.sensorWord t input w = (u.inc (R.SNS_CNT_A_CHK_CNT p)).portError t p := by
  have hill : (decide (bits w 0 8 = sensorCrc w) && decide (bits w 60 4 = 10) && decide (bits w 56 4 = u.rd (R.SNS_PCFG_TYPE p))) = false := by
    rcases h with h | h | h <;> simp [h]
  subst hp
  simp only [U.sensorWord, U.injected_none hinj, hinj, hill, hon, Nat.not_le.mpr hi, decide_false, Bool.or_self, Bool.not_false,
    Bool.false_eq_true, if_false, if_true, Nat.xor_zero]

/-- A well-formed word in sequence, of a port that is not retired and whose sensor shows no error, is accepted (R258, R259). -/
theorem U.sensorWord_accepted (hlive : u.rd (R.SNS_PSTAT_STATE p) ≠ 4) (hcrc : bits w 0 8 = sensorCrc w) (hform : bits w 60 4 = 10)
    (htype : bits w 56 4 = u.rd (R.SNS_PCFG_TYPE p)) (hserr : bitAt w 15 = false)
    (hseq : u.rd (R.SNS_PSTAT_STATE p) = 1 ∨ (bits w 48 8 : Int) =
      ((u.port p).sRef + rdiv ((t.ref : Int) - (u.port p).tRef) (80 * u.rd (R.SNS_PERIOD_NOM_PERIOD p))) % 256) :
    u.sensorWord t input w = ((u.wr (R.SNS_PSTAT_SSTAT p) (bits w 8 7)).setPort p
      (fun h => { h with sRef := bits w 48 8, tRef := t.ref })).portAccept t p (bits w 48 8) (sx 32 (bits w 16 32)) := by
  have hperiod : (u.wr (R.SNS_PSTAT_SSTAT p) (bits w 8 7)).rd (R.SNS_PERIOD_NOM_PERIOD p) = u.rd (R.SNS_PERIOD_NOM_PERIOD p) :=
    U.rd_wr_ne _ _ (Fld.key_ne_of_addr (by simp) (by simp) (by simp))
  have hnogap : (u.rd (R.SNS_PSTAT_STATE p) != 1 && (bits w 48 8 : Int) !=
      ((u.port p).sRef + rdiv ((t.ref : Int) - (u.port p).tRef) (80 * u.rd (R.SNS_PERIOD_NOM_PERIOD p))) % 256) = false := by
    rcases hseq with h | h <;> simp [h]
  subst hp
  simp only [U.sensorWord, U.injected_none hinj, hinj, hperiod, hnogap, hcrc, hform, htype, hserr, hlive, hon, Nat.not_le.mpr hi,
    decide_false, decide_true, Bool.or_self, Bool.and_self, Bool.not_true, Bool.false_eq_true, if_false, Nat.xor_zero]

end Word

/-! ### Deadlines, the error window, EN and RESTORE (R261 to R263) -/

section Port
variable {u : U} (t : TimeBase) {p : Nat}

theorem U.sensorTimeout_enters (hp : p < 32) (hs : u.rd (R.SNS_PSTAT_STATE p) = 1 ∨ u.rd (R.SNS_PSTAT_STATE p) = 2) (hu : u.portUsed p = true) :
    u.sensorTimeout t p = ((((u.wr (R.SNS_PSTAT_STATE p) 3).inc (R.SNS_CNT_B_TMO_CNT p)).setPort p (fun h => { h with dead := none })).raise t
      (SNS.TIMEOUT p) (SNS.det p)).portError t p :=
  if_pos (by simp [hs, hp, hu])

theorem U.sensorTimeout_ignored (h1 : u.rd (R.SNS_PSTAT_STATE p) ≠ 1) (h2 : u.rd (R.SNS_PSTAT_STATE p) ≠ 2) : u.sensorTimeout t p = u :=
  if_neg (by simp [h1, h2])

theorem U.errWindowClose_open (h : (u.port p).win.isSome = true) :
    u.errWindowClose p = (u.wr (R.SNS_PSTAT_ERRS p) 0).setPort p (fun h => { h with win := none }) := if_pos h

/-- A port put into SYNC: its reference cleared, its deadline a time-out and half a period away (R262). -/
theorem U.portEnWrite_on (hp : p < 32) (h : u.on (R.SNS_PCFG_EN p) = false) :
    u.portEnWrite t p true = ((u.wr (R.SNS_PCFG_EN p) 1).wr (R.SNS_PSTAT_STATE p) 1).setPort p (fun h => { h with
      sRef := 0, tRef := t.ref, valid := 0, dead := some (t.ref +
        (2 * u.rd (R.SNS_PERIOD_TIMEOUT p) + 1) * 40 * u.rd (R.SNS_PERIOD_NOM_PERIOD p)) }) := by
  have hkept : ∀ f : Fld, f.addr = 0x400320104 + p * 0x80 → f.lo < 32 → (u.wr (R.SNS_PCFG_EN p) 1).rd f = u.rd f := fun f ha hl =>
    U.rd_wr_ne _ _ (Fld.key_ne_of_addr hl (by simp) (by simp [ha]))
  rw [U.portEnWrite, if_neg (by simp [h, hp]), if_pos rfl, U.portSync, U.portDeadline, hkept (R.SNS_PERIOD_TIMEOUT p) rfl (by simp),
    hkept (R.SNS_PERIOD_NOM_PERIOD p) rfl (by simp)]

section Off
variable (hp : p < 32) (hen : u.on (R.SNS_PCFG_EN p) = true)
include hp hen

theorem U.portEnWrite_off (h : u.bound p = false ∨ u.on R.DEP_CTL_CONV_EN = false) :
    u.portEnWrite t p false = (((u.wr (R.SNS_PCFG_EN p) 0).wr (R.SNS_PSTAT_STATE p) 0).setPort p
      (fun h => { h with dead := none, valid := 0 })).failTrip t p := by
  rw [U.portEnWrite, if_neg (by simp [hp, hen]), if_neg Bool.false_ne_true, if_neg (by rcases h with h | h <;> simp [h])]

/-- The port of a configured arm stays on while the converter functions are enabled (R261). -/
theorem U.portEnWrite_refused (hb : u.bound p = true) (hc : u.on R.DEP_CTL_CONV_EN = true) :
    u.portEnWrite t p false = u.raise t SNS.WR_REJ (SNS.det p) := by
  rw [U.portEnWrite, if_neg (by simp [hp, hen]), if_neg Bool.false_ne_true, if_pos (by simp [hb, hc])]

end Off

theorem U.portRestore_retired (h : u.rd (R.SNS_PSTAT_STATE p) = 4) :
    u.portRestore t p = ((u.wr (R.SNS_PSTAT_ERRS p) 0).setPort p (fun h => { h with win := none })).portSync t p := if_pos h

theorem U.portRestore_ignored (h : u.rd (R.SNS_PSTAT_STATE p) ≠ 4) : u.portRestore t p = u := if_neg h

end Port

/-! ### The configuration of a comparator (R265, R266, R603) -/

theorem wf_snsThrCfgWrite_range {p k v : Nat} (hw : (Instr.snsThrCfgWrite p k v).wf = true) : p < 32 ∧ k < 2 := by
  simp only [wf_snsThrCfgWrite, Bool.and_eq_true, decide_eq_true_eq] at hw
  exact hw.1

/-- A comparator's configuration as a write of SNS_THR_CFG leaves it. -/
def U.thrCfg (u : U) (p k v : Nat) : U :=
  ((((u.wr (R.SNS_THR_CFG_HYST p k) (bits v 0 24)).wr (R.SNS_THR_CFG_DIR p k) (bits v 24 1)).wr (R.SNS_THR_CFG_SB_EN p k) (bits v 25 1)).wr
    (R.SNS_THR_CFG_AV_EN p k) (bits v 26 1)).wr (R.SNS_THR_CFG_FAILTRIP p k) (bits v 27 1)

/-- A comparator's configuration and the status of its port stand in different registers. -/
theorem U.thrCfg_state (u : U) (p k v : Nat) : (u.thrCfg p k v).rd (R.SNS_PSTAT_STATE p) = u.rd (R.SNS_PSTAT_STATE p) := by
  have hkept : ∀ (w : U) (f : Fld) (x : Nat), f.addr = 0x400320144 + p * 0x80 + k * 0x8 → f.lo < 32 →
      (w.wr f x).rd (R.SNS_PSTAT_STATE p) = w.rd (R.SNS_PSTAT_STATE p) := fun w f x ha hl =>
    U.rd_wr_ne _ _ (Fld.key_ne_of_addr (by simp) hl (by rw [ha]; simp only; omega))
  rw [U.thrCfg, hkept _ _ _ rfl (by simp), hkept _ _ _ rfl (by simp), hkept _ _ _ rfl (by simp), hkept _ _ _ rfl (by simp),
    hkept _ _ _ rfl (by simp)]

section Comparator
variable {u : U} (t : TimeBase) {p k v : Nat} (hr : p < 32 ∧ k < 2)
include hr

/-- The write is taken where it clears neither SB_EN nor AV_EN, or the converter functions are disabled (R266, R603); the output of a port
neither off nor retired does not follow it (R265). -/
theorem U.thrCfgWrite_taken (h : u.on R.DEP_CTL_CONV_EN = false ∨ ((u.on (R.SNS_THR_CFG_SB_EN p k) = true → bitAt v 25 = true) ∧
      (u.on (R.SNS_THR_CFG_AV_EN p k) = true → bitAt v 26 = true)))
    (h0 : u.rd (R.SNS_PSTAT_STATE p) ≠ 0) (h4 : u.rd (R.SNS_PSTAT_STATE p) ≠ 4) :
    u.thrCfgWrite t p k v = u.thrCfg p k v := by
  have hclears : ¬(u.on R.DEP_CTL_CONV_EN && ((u.on (R.SNS_THR_CFG_SB_EN p k) && !bitAt v 25) ||
      (u.on (R.SNS_THR_CFG_AV_EN p k) && !bitAt v 26))) = true := by
    rcases h with h | ⟨hsb, hav⟩
    · simp [h]
    · simp only [Bool.and_eq_true, Bool.or_eq_true, Bool.not_eq_true']
      rintro ⟨-, ⟨hon, hbit⟩ | ⟨hon, hbit⟩⟩
      · exact absurd (hsb hon) (Bool.eq_false_iff.mp hbit)
      · exact absurd (hav hon) (Bool.eq_false_iff.mp hbit)
  rw [U.thrCfgWrite, if_neg (by simp [hr]), if_neg hclears]
  exact if_neg (by rw [← U.thrCfg, U.thrCfg_state]; simp [h0, h4])

theorem U.thrCfgWrite_refused (hc : u.on R.DEP_CTL_CONV_EN = true) (h : (u.on (R.SNS_THR_CFG_SB_EN p k) = true ∧ bitAt v 25 = false) ∨
      (u.on (R.SNS_THR_CFG_AV_EN p k) = true ∧ bitAt v 26 = false)) :
    u.thrCfgWrite t p k v = u.raise t SNS.WR_REJ (SNS.det p) := by
  rw [U.thrCfgWrite, if_neg (by simp [hr]), if_pos (by rcases h with ⟨hon, hbit⟩ | ⟨hon, hbit⟩ <;> simp [hc, hon, hbit])]

end Comparator

/-! ### The obligation -/

/-- Settles O15: each command leaves its function's result where the unit hears it, and each clause is one case of that function, said above. -/
theorem sensorPortCommandsComplete : Obligations.SensorPortCommandsComplete := by
  unfold Obligations.SensorPortCommandsComplete
  refine ⟨?accepted, ?malformed, ?timeout, ?timeoutIgnored, ?windowCloses, ?enabled, ?disabled, ?disableRefused, ?restored, ?restoreIgnored,
    ?committed, ?configured, ?configRefused⟩
  case accepted =>
    rintro s input w p _ hw hd hinj hp hon hlive hcrc hform htype hserr hseq rfl
    exact (exec_sensorWord ..).trans (State.onUnit_leaves hw hd
      (U.sensorWord_accepted _ (wf_sensorWord_input hw) hinj hp hon hlive hcrc hform htype hserr hseq))
  case malformed =>
    intro s input w p hw hd hinj hp hon h
    exact (exec_sensorWord ..).trans (State.onUnit_leaves hw hd (U.sensorWord_malformed _ (wf_sensorWord_input hw) hinj hp hon h))
  case timeout =>
    intro s p hw hd hs hu
    exact (exec_sensorTimeout ..).trans (State.onUnit_leaves hw hd (U.sensorTimeout_enters _ (of_decide_eq_true hw) hs hu))
  case timeoutIgnored =>
    intro s p hw hd h1 h2
    exact (exec_sensorTimeout ..).trans (State.onUnit_leaves hw hd (U.sensorTimeout_ignored _ h1 h2))
  case windowCloses =>
    intro s p hw hd h
    exact (exec_snsErrWindowClose ..).trans (State.onUnit_leaves hw hd (U.errWindowClose_open h))
  case enabled =>
    intro s p hw hd h
    exact (exec_snsPortEnWrite ..).trans (State.onUnit_leaves hw hd (U.portEnWrite_on _ (of_decide_eq_true hw) h))
  case disabled =>
    intro s p hw hd hen h
    exact (exec_snsPortEnWrite ..).trans (State.onUnit_leaves hw hd (U.portEnWrite_off _ (of_decide_eq_true hw) hen h))
  case disableRefused =>
    intro s p hw hd hen hb hc
    exact (exec_snsPortEnWrite ..).trans (State.onUnit_leaves hw hd (U.portEnWrite_refused _ (of_decide_eq_true hw) hen hb hc))
  case restored =>
    intro s p hw hd h
    exact (exec_snsRestore ..).trans (State.onUnit_leaves hw hd (U.portRestore_retired _ h))
  case restoreIgnored =>
    intro s p hw hd h
    exact (exec_snsRestore ..).trans (State.onUnit_leaves hw hd (U.portRestore_ignored _ h))
  case committed =>
    intro s p v hw hd
    exact (exec_snsOfsCommit ..).trans (State.onUnit_leaves hw hd rfl)
  case configured =>
    intro s p k v hw hd h h0 h4
    exact (exec_snsThrCfgWrite ..).trans (State.onUnit_leaves hw hd (U.thrCfgWrite_taken _ (wf_snsThrCfgWrite_range hw) h h0 h4))
  case configRefused =>
    intro s p k v hw hd hc h
    exact (exec_snsThrCfgWrite ..).trans (State.onUnit_leaves hw hd (U.thrCfgWrite_refused _ (wf_snsThrCfgWrite_range hw) hc h))

end Sys2Proof.Machine
end

section
/-! PROOFS. Sequence monitors: the edges that give an order (R267, R268), frequency windows and lost inputs (R270). -/
namespace Sys2Proof.Machine

theorem wf_seqRisingEdge_range {m input : Nat} (hw : (Instr.seqRisingEdge m input).wf = true) : m < 3 ∧ input < 3 := by
  simpa only [wf_seqRisingEdge, Bool.and_eq_true, decide_eq_true_eq] using hw

theorem wf_seqInputLost_range {m input : Nat} (hw : (Instr.seqInputLost m input).wf = true) : m < 3 ∧ input < 3 := by
  simpa only [wf_seqInputLost, Bool.and_eq_true, decide_eq_true_eq] using hw

/-! ### Rising edges (R267, R268) -/

/-- A monitor with an accepted edge of an input (R267, R268). -/
def U.edgeSeen (u : U) (t : TimeBase) (m input : Nat) : U :=
  (u.setMon m (fun h => { h with last := h.last.set input t.t16, edges := h.edges + 1 })).wr (R.SNS_SEQ_STAT_IN_OK m)
    (setBit (u.rd (R.SNS_SEQ_STAT_IN_OK m)) input)

section Edge
variable {u : U} {t : TimeBase} {m input : Nat}

/-- An edge within the deglitch time of the last one is none (R267). -/
theorem U.risingEdge_early {e : Nat} (hl : (u.mon m).last.find? input = some e) (he : t.t16 < e + u.rd (R.SNS_SEQ_CFG_DEGLITCH m) * 16000) :
    u.risingEdge t m input = u := by
  simp only [U.risingEdge, hl, decide_eq_true he, if_true, ite_self]

section Accepted
variable (hr : m < 3 ∧ input < 3) (hen : u.on (R.SNS_SEQ_CFG_EN m) = true)
  (ha : ∀ e, (u.mon m).last.find? input = some e → e + u.rd (R.SNS_SEQ_CFG_DEGLITCH m) * 16000 ≤ t.t16)
include hr hen ha

theorem U.risingEdge_accepted : u.risingEdge t m input =
    if input = 0 then (u.edgeSeen t m input).setMon m (fun h => { h with await := true })
    else if ((u.edgeSeen t m input).mon m).await then (u.edgeSeen t m input).observe t m (input - 1) else u.edgeSeen t m input := by
  have hrange : ¬ (decide (m ≥ 3) || decide (input ≥ 3) || !u.on (R.SNS_SEQ_CFG_EN m)) = true := by simp [hr, hen]
  rw [U.risingEdge, if_neg hrange]
  cases hl : (u.mon m).last.find? input with
  | none => rfl
  | some e => exact if_neg (by simpa using ha e hl)

/-- An edge of SQA opens the wait for the next one (R268). -/
theorem U.risingEdge_first (h : input = 0) :
    u.risingEdge t m input = (u.edgeSeen t m input).setMon m (fun h => { h with await := true }) := by
  rw [U.risingEdge_accepted hr hen ha, if_pos h]

/-- The next edge after one of SQA gives an order (R268). -/
theorem U.risingEdge_orders (h : input ≠ 0) (hw : ((u.edgeSeen t m input).mon m).await = true) :
    u.risingEdge t m input = (u.edgeSeen t m input).observe t m (input - 1) := by
  rw [U.risingEdge_accepted hr hen ha, if_neg h, if_pos hw]

theorem U.risingEdge_counts (h : input ≠ 0) (hw : ((u.edgeSeen t m input).mon m).await = false) :
    u.risingEdge t m input = u.edgeSeen t m input := by
  rw [U.risingEdge_accepted hr hen ha, if_neg h, if_neg (Bool.eq_false_iff.mp hw)]

end Accepted
end Edge

/-! ### Frequency windows (R270) -/

/-- The frequency of a monitor's open window. -/
def U.windowFreq (u : U) (m : Nat) : Nat := (satU 16 (rdiv ((u.mon m).edges * 100000 : Nat) (3 * u.rd (R.SNS_SEQ_CFG_FWIN m)))).toNat

/-- A monitor at the end of its frequency window, with or without a frequency out of its limits. -/
def U.windowClosed (u : U) (m : Nat) (bad : Bool) : U :=
  ((u.wr (R.SNS_SEQ_STAT_EDGES m) (min 65535 (u.mon m).edges)).wr (R.SNS_SEQ_FREQ_FREQ m) (u.windowFreq m)).setMon m
    (fun h => { h with edges := 0, bad := bad })

section Window
variable {u : U} (t : TimeBase) {m : Nat} (hm : m < 3) (hen : u.on (R.SNS_SEQ_CFG_EN m) = true)
include hm hen

theorem U.freqWindow_closes (bad : Bool)
    (hb : (decide (u.windowFreq m < u.rd (R.SNS_SEQ_LIM_FMIN m)) || decide (u.windowFreq m > u.rd (R.SNS_SEQ_LIM_FMAX m))) = bad) :
    u.freqWindow t m = if bad && !(u.mon m).bad then (u.windowClosed m bad).raise t (SNS.FREQ_BAD m) (SNS.det m) else u.windowClosed m bad := by
  subst hb
  exact if_neg (by simp [hm, hen])

theorem U.freqWindow_inside (hlo : u.rd (R.SNS_SEQ_LIM_FMIN m) ≤ u.windowFreq m) (hhi : u.windowFreq m ≤ u.rd (R.SNS_SEQ_LIM_FMAX m)) :
    u.freqWindow t m = u.windowClosed m false :=
  U.freqWindow_closes t hm hen false (by simp [Nat.not_lt.mpr hlo, Nat.not_lt.mpr hhi])

variable (hout : u.windowFreq m < u.rd (R.SNS_SEQ_LIM_FMIN m) ∨ u.rd (R.SNS_SEQ_LIM_FMAX m) < u.windowFreq m)
include hout

/-- The first window out of the limits raises FREQ_BAD (R270). -/
theorem U.freqWindow_raises (hb : (u.mon m).bad = false) :
    u.freqWindow t m = (u.windowClosed m true).raise t (SNS.FREQ_BAD m) (SNS.det m) := by
  rw [U.freqWindow_closes t hm hen true (by simpa using hout), hb]
  rfl

/-- The windows out of the limits that follow raise nothing (R270). -/
theorem U.freqWindow_stays (hb : (u.mon m).bad = true) : u.freqWindow t m = u.windowClosed m true := by
  rw [U.freqWindow_closes t hm hen true (by simpa using hout), hb]
  rfl

end Window

/-! ### Lost inputs (R268, R270) -/

theorem U.inputLost_raises {u : U} (t : TimeBase) {m input : Nat} (hr : m < 3 ∧ input < 3) (hen : u.on (R.SNS_SEQ_CFG_EN m) = true) :
    u.inputLost t m input = (((u.wr (R.SNS_SEQ_STAT_IN_OK m) (clrBit (u.rd (R.SNS_SEQ_STAT_IN_OK m)) input)).wr
      (R.SNS_SEQ_STAT_ORDER_VALID m) 0).setMon m (fun h => { h with noted := none, await := false })).raise t (SNS.INPUT_LOST m) (SNS.det m) :=
  if_neg (by simp [hr, hen])

theorem U.inputLost_ignored {u : U} (t : TimeBase) {m : Nat} (input : Nat) (hen : u.on (R.SNS_SEQ_CFG_EN m) = false) :
    u.inputLost t m input = u := if_pos (by simp [hen])

/-! ### The obligation -/

/-- Settles O16: each command leaves its function's result where the unit hears it, and each clause is one case of that function, said above. -/
theorem sequenceMonitorCommandsComplete : Obligations.SequenceMonitorCommandsComplete := by
  unfold Obligations.SequenceMonitorCommandsComplete
  refine ⟨?early, ?accepted, ?window, ?lost, ?lostIgnored⟩
  case early =>
    intro s m input e hw hd hen hl he
    exact (exec_seqRisingEdge ..).trans (State.onUnit_leaves hw hd (U.risingEdge_early hl he))
  case accepted =>
    rintro s m input _ hw hd hen ha rfl
    have hr := wf_seqRisingEdge_range hw
    refine ⟨fun h => ?_, fun h hwait => ?_, fun h hwait => ?_⟩
    · exact (exec_seqRisingEdge ..).trans (State.onUnit_leaves hw hd (U.risingEdge_first hr hen ha h))
    · exact (exec_seqRisingEdge ..).trans (State.onUnit_leaves hw hd (U.risingEdge_orders hr hen ha h hwait))
    · exact (exec_seqRisingEdge ..).trans (State.onUnit_leaves hw hd (U.risingEdge_counts hr hen ha h hwait))
  case window =>
    rintro s m _ _ hw hd hen rfl rfl
    have hm : m < 3 := of_decide_eq_true hw
    refine ⟨fun hlo hhi => ?_, fun hout hb => ?_, fun hout hb => ?_⟩
    · exact (exec_freqWindowEnd ..).trans (State.onUnit_leaves hw hd (U.freqWindow_inside _ hm hen hlo hhi))
    · exact (exec_freqWindowEnd ..).trans (State.onUnit_leaves hw hd (U.freqWindow_stays _ hm hen hout hb))
    · exact (exec_freqWindowEnd ..).trans (State.onUnit_leaves hw hd (U.freqWindow_raises _ hm hen hout hb))
  case lost =>
    intro s m input hw hd hen
    exact (exec_seqInputLost ..).trans (State.onUnit_leaves hw hd (U.inputLost_raises _ (wf_seqInputLost_range hw) hen))
  case lostIgnored =>
    intro s m input hw hd hen
    exact (exec_seqInputLost ..).trans (State.onUnit_leaves hw hd (U.inputLost_ignored _ input hen))

end Sys2Proof.Machine
end

section
/-! PROOFS. The process bus: received frames (R271, R272), sampled values and GOOSE (R274 to R281), the transmit rings (R273), links and RATE
(R283, R285). -/
namespace Sys2Proof.Machine

/-! ### The octets of a frame without its PRP trailer (R272) -/

namespace Eth

theorem twelve_le_base (o : List Nat) : 12 ≤ base o := by
  unfold base
  split <;> decide

/-- A frame with a PRP trailer is long enough for its addresses, its EtherType and the trailer. -/
theorem length_of_rct {o : List Nat} {r : Nat × Nat} (h : rct o = some r) : base o + 8 ≤ o.length := by
  simp only [rct] at h
  split at h
  case isTrue hc =>
    simp only [Bool.and_eq_true, decide_eq_true_eq] at hc
    obtain ⟨⟨hlen, -⟩, -⟩ := hc
    exact hlen
  case isFalse => contradiction

section Trailer
variable {o : List Nat} {r : Nat × Nat} (h : rct o = some r)
include h

/-- The addresses of a frame stand before its PRP trailer. -/
theorem getD_rctStrip {n : Nat} (hn : n < 12) : (rctStrip o).getD n 0 = o.getD n 0 := by
  have hbase := twelve_le_base o
  have hlen := length_of_rct h
  rw [rctStrip, List.getD_eq_getElem?_getD, List.getD_eq_getElem?_getD, List.getElem?_take_of_lt (by omega)]

theorem mac_rctStrip {n : Nat} (hn : n ≤ 6) : mac (rctStrip o) n = mac o n := by
  have hoctet : ∀ i < 12, (rctStrip o).getD i 0 = o.getD i 0 := fun i hi => getD_rctStrip h hi
  simp only [mac, at16, hoctet n (by omega), hoctet (n + 1) (by omega), hoctet (n + 2) (by omega), hoctet (n + 2 + 1) (by omega),
    hoctet (n + 4) (by omega), hoctet (n + 4 + 1) (by omega)]

theorem toGroup_rctStrip : toGroup (rctStrip o) = toGroup o := by
  rw [toGroup, toGroup, getD_rctStrip h (by decide)]

end Trailer
end Eth

/-! ### Received frames (R271, R272) -/

section Frame
variable {u : U} (t : TimeBase) {f : EthFrame} (hport : f.port < 2)
include hport

section Plain
variable (hprp : u.on R.PBX_CTL_PRP_EN = false)
include hprp

/-- Without redundancy a frame to this node or to a group is classified and every other one is dropped (R271, R272). -/
theorem U.frameRx_plain : u.frameRx t f =
    if ownAddress 0 (Eth.mac f.octets 0) || Eth.toGroup f.octets then u.classify t f f.octets else u := by
  have hpair : f.port / 2 = 0 := by omega
  have hrange : ¬ f.port ≥ 4 := by omega
  simp only [U.frameRx, hrange, hpair, hprp, Nat.zero_ne_one, decide_false, Bool.false_and, Bool.and_false, Bool.false_eq_true, if_false, if_true,
    Option.isNone_none, ← Bool.not_or]
  cases ownAddress 0 (Eth.mac f.octets 0) || Eth.toGroup f.octets <;> rfl

theorem U.frameRx_classified (h : ownAddress 0 (Eth.mac f.octets 0) = true ∨ Eth.toGroup f.octets = true) :
    u.frameRx t f = u.classify t f f.octets := by
  rw [U.frameRx_plain t hport hprp, if_pos (by simpa using h)]

theorem U.frameRx_dropped (hown : ownAddress 0 (Eth.mac f.octets 0) = false) (hgroup : Eth.toGroup f.octets = false) : u.frameRx t f = u := by
  rw [U.frameRx_plain t hport hprp, if_neg (by simp [hown, hgroup])]

end Plain

/-- The second of two frames of PRP with one source and sequence number is counted and discarded (R272). -/
theorem U.frameRx_duplicate {q : Nat} (hprp : u.on R.PBX_CTL_PRP_EN = true)
    (hto : ownAddress 0 (Eth.mac f.octets 0) = true ∨ Eth.toGroup f.octets = true) (hrct : Eth.rct f.octets = some (10 + f.port, q))
    (hdup : ∃ e ∈ u.pbx.dup.get 0 [], e.1 = Eth.mac f.octets 6 ∧ e.2.1 = q ∧ t.tns < e.2.2 + u.rd R.PBX_DD_DD_AGE * 1000000) :
    u.frameRx t f = u.inc (R.PBX_RED_CNT_DUP 0) := by
  have hpair : f.port / 2 = 0 := by omega
  have hrange : ¬ f.port ≥ 4 := by omega
  have hmine : (!ownAddress 0 (Eth.mac f.octets 0) && !Eth.toGroup f.octets) = false := by
    rcases hto with h | h <;> simp [h]
  have hlive : ((u.pbx.dup.get 0 []).filter (fun e => decide (t.tns < e.2.2 + u.rd R.PBX_DD_DD_AGE * 1000000))).any
      (fun e => e.1 == Eth.mac f.octets 6 && e.2.1 == q) = true := by
    obtain ⟨e, hmem, hsrc, hseq, hage⟩ := hdup
    exact List.any_eq_true.mpr ⟨e, List.mem_filter.mpr ⟨hmem, by simpa using hage⟩, by simp [hsrc, hseq]⟩
  have hdst : Eth.mac (Eth.rctStrip f.octets) 0 = Eth.mac f.octets 0 := Eth.mac_rctStrip hrct (by decide)
  have hsrc : Eth.mac (Eth.rctStrip f.octets) 6 = Eth.mac f.octets 6 := Eth.mac_rctStrip hrct (by decide)
  simp only [U.frameRx, hrange, hpair, hprp, hrct, Nat.zero_ne_one, decide_false, decide_true, Bool.false_and, Bool.true_and, Bool.false_eq_true,
    if_false, if_true, Option.isNone_some, hdst, hsrc, Eth.toGroup_rctStrip hrct, hmine, bne_self_eq_false, hlive]

end Frame

section Classify
variable {u : U} (t : TimeBase) {f : EthFrame} {o : List Nat}

theorem U.classify_other (he : Eth.etherType o ≠ 0x88F7) (hp : f.payload = .other) :
    u.classify t f o = u.ringPut t f.port (u.ingress f.port f.raw) 0 o := by
  simp only [U.classify, if_neg he, hp]

/-- Sampled values that a subscription takes do not reach the ring (R271, R274). -/
theorem U.classify_sampled {asdus : List Asdu} (he : Eth.etherType o = 0x88BA) (hp : f.payload = .sv asdus)
    (hm : (u.svFrame t f.port f.raw o asdus).1 = true) : u.classify t f o = (u.svFrame t f.port f.raw o asdus).2 := by
  simp only [U.classify, hp, he, hm, Nat.reduceEqDiff, ne_eq, not_true, if_false, if_true]

/-- A GOOSE frame reaches the ring where no block takes it, and marked as a copy where one that takes it asks for that (R271, R279). -/
theorem U.classify_goose {ref : List Nat} {conf : Nat} {nds test : Bool} {st sq ttl : Nat} {ms : List Member} {r : (Bool × Bool) × U}
    (he : Eth.etherType o = 0x88B8) (hp : f.payload = .goose ref conf nds test st sq ttl ms)
    (hr : r = u.gooseFrame t f.port o ref conf nds test st sq ttl ms) :
    u.classify t f o = if !r.1.1 then r.2.ringPut t f.port (r.2.ingress f.port f.raw) 0 o
      else if r.1.2 then r.2.ringPut t f.port (r.2.ingress f.port f.raw) 2 o else r.2 := by
  simp only [U.classify, hp, he, ← hr, Nat.reduceEqDiff, ne_eq, not_true, if_false]

end Classify

/-! ### Sampled values and GOOSE (R277, R278, R280, R281) -/

/-- A frame of a newer state that carries its trip member is taken: its numbers, its time to live and the trip output (R280, R281). -/
theorem U.goAccept_newer {u : U} (t : TimeBase) {c st : Nat} (sq ttl : Nat) {ms : List Member} {b : Bool}
    (hst : 0 < dnDiff st (u.rd (R.GO_STNUM_STNUM c))) (hm : ms.getD (u.rd (R.GO_CFG_TRIP_IDX c)) .other = .boolean b)
    (ha : u.on (R.GO_CFG_ANA_EN c) = false) :
    u.goAccept t c st sq ttl ms = (true, (((((u.wr (R.GO_STNUM_STNUM c) st).wr (R.GO_SQNUM_SQNUM c) sq).wr (R.GO_STAT_SEEN c) 1).wr
      (R.GO_STAT_TIMEOUT c) 0).withPbx (fun p => { p with go := p.go.set c (t.tns + ttl * 1000000) })).setGoTrip t c b) := by
  simp only [U.goAccept, hm, ha, hst, gt_iff_lt, decide_true, Bool.true_or, Bool.not_true, Bool.false_eq_true, if_false]

theorem U.alignedWrite_due {u : U} {j : Nat} {e : Nat × Nat × Int} (h : u.pbx.align.find? (fun e => e.2.1 == j) = some e) :
    u.alignedWrite j = (u.setBoard (32 + j) e.2.2).withPbx (fun p => { p with align := p.align.erase e }) := by
  rw [U.alignedWrite, h]

section TimeOuts
variable {u : U} (t : TimeBase)

theorem U.svTimeout_raises {k : Nat} (hk : k < 64) (h : u.rd (R.SV_STAT_STATE k) = 2) :
    u.svTimeout t k = (u.wr (R.SV_STAT_STATE k) 3).raise t PBX.SV_TMO (PBX.det k) := if_pos (by simp [hk, h])

theorem U.svTimeout_ignored {k : Nat} (h : u.rd (R.SV_STAT_STATE k) ≠ 2) : u.svTimeout t k = u := if_neg (by simp [h])

/-- A passed time to live is counted and raised and sets the trip output to FAIL_VAL (R281). -/
theorem U.gooseTimeout_fails {c : Nat} {v : U} (hc : c < 32) (hen : u.on (R.GO_CFG_EN c) = true) (hs : u.on (R.GO_STAT_SEEN c) = true)
    (ht : u.on (R.GO_STAT_TIMEOUT c) = false)
    (hv : v = ((u.wr (R.GO_STAT_TIMEOUT c) 1).inc (R.GO_CNT_TMO_CNT c)).raise t PBX.GO_TMO (PBX.det c)) :
    u.gooseTimeout t c = v.setGoTrip t c (v.on (R.GO_CFG_FAIL_VAL c)) := by
  rw [U.gooseTimeout, if_pos (by simp [hc, hen, hs, ht]), hv]

end TimeOuts

/-! ### The transmit rings (R273) -/

theorem wf_pbxTxProdWrite_pair {q v : Nat} (hw : (Instr.pbxTxProdWrite q v).wf = true) : q < 2 := by
  simp only [wf_pbxTxProdWrite, Bool.and_eq_true, decide_eq_true_eq] at hw
  exact hw.1

section Ring
variable {u : U} (t : TimeBase) {q : Nat}

/-- A ring of SIZE 0 or with CONS at PROD sends nothing, however often it is looked at. -/
theorem U.txSend_empty (n : Nat) (h : u.rd (R.PBX_RING_SIZE_SIZE (2 * q + 1)) = 0 ∨
      u.rd (R.PBX_RING_CONS_CONS (2 * q + 1)) % u.rd (R.PBX_RING_SIZE_SIZE (2 * q + 1)) =
        u.rd (R.PBX_RING_PROD_PROD (2 * q + 1)) % u.rd (R.PBX_RING_SIZE_SIZE (2 * q + 1))) :
    U.txSend n u t q = u := by
  cases n with
  | zero => rfl
  | succ n => exact if_pos (by simpa using h)

/-- The frame at CONS is sent and CONS goes on by one, modulo SIZE. -/
theorem U.txSend_next (n : Nat) {a size cons : Nat} (hsize : size = u.rd (R.PBX_RING_SIZE_SIZE (2 * q + 1)))
    (hcons : cons = u.rd (R.PBX_RING_CONS_CONS (2 * q + 1))) (h0 : size ≠ 0)
    (hne : cons % size ≠ u.rd (R.PBX_RING_PROD_PROD (2 * q + 1)) % size)
    (ha : a = u.rd (R.PBX_RING_BASE_BASE (2 * q + 1)) * 2048 + cons % size * 2048) :
    U.txSend (n + 1) u t q = U.txSend n ((u.reading t [(a, 16 + min 2032 (u.mem.read (a + 8) 2))] (fun w => w.txFrame t q a)).wr
      (R.PBX_RING_CONS_CONS (2 * q + 1)) ((cons % size + 1) % size)) t q := by
  subst hsize hcons ha
  exact if_neg (by simp [h0, hne])

end Ring

theorem U.ethSend_out (u : U) (q : Nat) (a b : List Nat) :
    (u.ethSend q a b).out = u.out ++ [.ethFrame (2 * q) (u.wire (2 * q) (u.pbx.seq.get q 0) a),
      .ethFrame (2 * q + 1) (u.wire (2 * q + 1) (u.pbx.seq.get q 0) b)] := by
  simp only [U.ethSend, U.withPbx_out, U.emit_out, List.append_assoc, List.cons_append, List.nil_append]

section Wire
variable {u : U} {port : Nat} (seq : Nat) (o : List Nat) (hport : port < 2)
include hport

theorem U.wire_plain (h : u.on R.PBX_CTL_PRP_EN = false) : u.wire port seq o = o ++ Eth.fcs o := by
  simp [U.wire, h, Nat.not_le.mpr hport]

theorem U.wire_prp (h : u.on R.PBX_CTL_PRP_EN = true) :
    u.wire port seq o = Eth.rctAdd (10 + port) seq o ++ Eth.fcs (Eth.rctAdd (10 + port) seq o) := by
  simp only [U.wire, h, decide_eq_true hport, Bool.and_self, if_true]

end Wire

/-! ### Links and RATE (R283, R285) -/

section Link
variable {u : U} (t : TimeBase)

theorem U.linkDown_falls {p : Nat} {v : U} (hp : p < 4) (hup : bitAt (u.rd R.PBX_LINK_UP) p = true)
    (hv : v = u.wr R.PBX_LINK_UP (clrBit (u.rd R.PBX_LINK_UP) p)) : u.linkDown t p =
      if v.on (if p < 2 then R.PBX_CTL_PRP_EN else R.PBX_CTL_HSR_EN) then v.raise t PBX.RED_LOSS (PBX.det p) else v := by
  rw [U.linkDown, if_neg (by simp [hup, hp]), hv]

/-- The link of a port whose rate changes restarts (R285). -/
theorem U.rateWrite_ports (v : Nat) : u.rateWrite t v = (List.range 4).foldl
    (fun w p => if bitAt (u.rd R.PBX_CTL_RATE) p = bitAt v p then w else w.linkDown t p) (u.wr R.PBX_CTL_RATE v) := by
  simp only [U.rateWrite, U.each, beq_iff_eq]

theorem U.rateWrite_same {v : Nat} (h : ∀ p < 4, bitAt (u.rd R.PBX_CTL_RATE) p = bitAt v p) : u.rateWrite t v = u.wr R.PBX_CTL_RATE v := by
  rw [U.rateWrite_ports, show List.range 4 = [0, 1, 2, 3] from rfl]
  simp only [List.foldl_cons, List.foldl_nil, h 0 (by decide), h 1 (by decide), h 2 (by decide), h 3 (by decide), if_true]

theorem U.rateWrite_first (h0 : bitAt (u.rd R.PBX_CTL_RATE) 0 = false) (h : ∀ p < 4, p ≠ 0 → bitAt (u.rd R.PBX_CTL_RATE) p = false) :
    u.rateWrite t 1 = (u.wr R.PBX_CTL_RATE 1).linkDown t 0 := by
  have hone : bitAt 1 0 = true ∧ bitAt 1 1 = false ∧ bitAt 1 2 = false ∧ bitAt 1 3 = false := by decide
  obtain ⟨b0, b1, b2, b3⟩ := hone
  rw [U.rateWrite_ports, show List.range 4 = [0, 1, 2, 3] from rfl]
  simp only [List.foldl_cons, List.foldl_nil, h0, h 1 (by decide) (by decide), h 2 (by decide) (by decide), h 3 (by decide) (by decide),
    b0, b1, b2, b3, Bool.false_eq_true, if_false, if_true]

end Link

/-! ### The obligation -/

/-- Settles O17: each command leaves its function's result where the unit hears it, and each clause is one case of that function, said above. -/
theorem processBusCommandsComplete : Obligations.ProcessBusCommandsComplete := by
  unfold Obligations.ProcessBusCommandsComplete
  refine ⟨?ring, ?dropped, ?duplicate, ?sampled, ?goose, ?gooseTaken, ?aligned, ?svTimeout, ?svTimeoutIgnored, ?gooseTimeout, ?prod, ?txRing,
    ?txFrame, ?sent, ?wire, ?linkDown, ?linkUp, ?rateSame, ?rateFirst⟩
  case ring =>
    intro s f hw hd hport hprp hto he hp
    exact (exec_pbxFrameRx ..).trans (State.onUnit_leaves hw hd
      ((U.frameRx_classified _ hport hprp hto).trans (U.classify_other _ he hp)))
  case dropped =>
    intro s f hw hd hport hprp hown hgroup
    exact (exec_pbxFrameRx ..).trans (State.onUnit_leaves hw hd (U.frameRx_dropped _ hport hprp hown hgroup))
  case duplicate =>
    intro s f q hw hd hport hprp hto hrct hdup
    exact (exec_pbxFrameRx ..).trans (State.onUnit_leaves hw hd (U.frameRx_duplicate _ hport hprp hto hrct hdup))
  case sampled =>
    rintro s f asdus _ hw hd hport hprp hgroup he hp rfl hm
    exact (exec_pbxFrameRx ..).trans (State.onUnit_leaves hw hd
      ((U.frameRx_classified _ hport hprp (.inr hgroup)).trans (U.classify_sampled _ he hp hm)))
  case goose =>
    rintro s f ref conf nds test st sq ttl ms r _ hw hd hport hprp hgroup he hp hr rfl
    have htaken := (U.frameRx_classified s.time hport hprp (.inr hgroup)).trans (U.classify_goose s.time he hp hr)
    have hleaves := fun v h => (exec_pbxFrameRx s f).trans (State.onUnit_leaves (u := v) hw hd (htaken.trans h))
    refine ⟨fun h => hleaves _ ?_, fun h hc => hleaves _ ?_, fun h hc => hleaves _ ?_⟩
    · rw [h]
      rfl
    · rw [h, hc]
      rfl
    · rw [h, hc]
      rfl
  case gooseTaken => exact fun u t c st sq ttl ms b hst hm ha => U.goAccept_newer t sq ttl hst hm ha
  case aligned =>
    intro s j e hw hd h
    exact (exec_svAlignedWrite ..).trans (State.onUnit_leaves hw hd (U.alignedWrite_due h))
  case svTimeout =>
    intro s k hw hd h
    exact (exec_svTimeout ..).trans (State.onUnit_leaves hw hd (U.svTimeout_raises _ (of_decide_eq_true hw) h))
  case svTimeoutIgnored =>
    intro s k hw hd h
    exact (exec_svTimeout ..).trans (State.onUnit_leaves hw hd (U.svTimeout_ignored _ h))
  case gooseTimeout =>
    intro s c hw hd hen hs ht v hv
    exact (exec_gooseTimeout ..).trans (State.onUnit_leaves hw hd (U.gooseTimeout_fails _ (of_decide_eq_true hw) hen hs ht hv))
  case prod =>
    intro s q v hw hd
    exact (exec_pbxTxProdWrite ..).trans (State.onUnit_leaves hw hd (if_pos (wf_pbxTxProdWrite_pair hw)))
  case txRing =>
    rintro u t q n size cons _ hsize hcons rfl
    refine ⟨fun h => U.txSend_empty t n ?_, fun a h0 hne ha => U.txSend_next t n hsize hcons h0 hne ha⟩
    rwa [← hsize, ← hcons]
  case txFrame =>
    rintro u t q a _ rfl
    exact ⟨fun h => if_neg (Bool.eq_false_iff.mp h), fun h => if_pos h⟩
  case sent => exact U.ethSend_out
  case wire => exact fun u port seq o hport => ⟨U.wire_plain seq o hport, U.wire_prp seq o hport⟩
  case linkDown =>
    intro s p hw hd hup v hv
    have hfalls := U.linkDown_falls s.time (of_decide_eq_true hw) hup hv
    refine ⟨fun hred => ?_, fun hred => ?_⟩
    · exact (exec_pbxLinkDown ..).trans (State.onUnit_leaves hw hd (hfalls.trans (if_pos hred)))
    · exact (exec_pbxLinkDown ..).trans (State.onUnit_leaves hw hd (hfalls.trans (if_neg (Bool.eq_false_iff.mp hred))))
  case linkUp =>
    intro s p hw hd
    exact (exec_pbxLinkUp ..).trans (State.onUnit_leaves hw hd (if_pos (of_decide_eq_true hw)))
  case rateSame =>
    intro s v hw hd h
    exact (exec_pbxRateWrite ..).trans (State.onUnit_leaves hw hd (U.rateWrite_same _ h))
  case rateFirst =>
    intro s hd h0 h
    exact (exec_pbxRateWrite ..).trans (State.onUnit_leaves rfl hd (U.rateWrite_first _ h0 h))

end Sys2Proof.Machine
end

section
/-! PROOFS. Serial lanes: where a lane's chip acts on its commands, and what each command leaves (R289, R290, R293 to R301, R304). -/
namespace Sys2Proof.Machine

/-! ### A lane's chip acts on the commands of its lanes (R516) -/

/-- A command whose home is the block of its lane's chip. -/
def ofLaneBlock (c : Instr) : LaneAt → Prop
  | .unit n => Instr.home c = some (laneBase n)
  | .hub _ _ => Instr.hubHome c = some 1
  | .cell _ _ => True

theorem State.hears_of_laneRuns {s : State} {l : LaneAt} {c : Instr} (hr : s.laneRuns l) (hc : ofLaneBlock c l) : s.hears c l := by
  cases l with
  | unit n =>
    obtain ⟨hheld, hon⟩ := hr
    simp [State.hears, U.deaf_block hc, hheld, hon]
  | hub h n =>
    obtain ⟨hheld, hblock⟩ := hr
    simp [State.hears, H.deaf, show Instr.hubHome c = some 1 from hc, hheld, hblock]
  | cell cid p => trivial

/-- A command of a lane leaves its chip's lanes as its lane function does for the free values drawn and the time. -/
theorem State.onLane_next_some {s : State} {l : LaneAt} {c : Instr} (f : LaneKind → Nat × Nat → Nat → LaneIO → LaneIO) (hr : s.hears c l)
    (hw : c.wf = true) : ∃ d now, s.onLane c l f = .next (s.withLane l (f (s.laneKind l) d now (s.laneIO l))) := by
  cases l with
  | unit n =>
    refine ⟨(s.u.draw.1, s.u.draw.2.draw.1), s.time.tns, ?_⟩
    simp only [State.onLane]
    rw [State.onUnit_next _ hw hr, U.onLane_const]
    simp only [U.laneIO_draw, U.laneKind_draw]
    rfl
  | hub k n =>
    let e := ((s.hub k).draw (s.hubAt k)).2.draw (s.hubAt k)
    refine ⟨(((s.hub k).draw (s.hubAt k)).1, e.1), (e.2.draw (s.hubAt k)).2.ns ((e.2.draw (s.hubAt k)).1 % 16000), ?_⟩
    simp only [State.onLane]
    rw [State.onHub_next _ _ hw hr, H.onLane_const]
    simp only [H.laneIO_draw, H.laneKind_draw]
    rfl
  | cell cid p =>
    let d := (s.cell cid).now cid
    refine ⟨((d.2.draw cid).1, ((d.2.draw cid).2.draw cid).1), ((d.2.draw cid).2.draw cid).2.ns d.1, ?_⟩
    simp only [State.onLane, State.onCellNow]
    rw [State.onCell_next _ _ hw, C.onLane_const]
    simp only [C.laneIO_draw]
    rfl

theorem State.onLane_leaves {s : State} {l : LaneAt} {c : Instr} {f : LaneKind → Nat × Nat → Nat → LaneIO → LaneIO} {io : LaneIO}
    (hr : s.laneRuns l) (hc : ofLaneBlock c l) (hw : c.wf = true) (h : ∀ d now, f (s.laneKind l) d now (s.laneIO l) = io) :
    s.onLane c l f = .next (s.withLane l io) := State.onLane_next (State.hears_of_laneRuns hr hc) hw io h

/-! ### Each command leaves its lane function's result -/

section Runs
variable {s : State} {l : LaneAt} (hr : s.laneRuns l) (hl : l.wf = true)
include hr hl

theorem exec_laneEnWrite_runs (en : Bool) :
    exec (.laneEnWrite l en) s = .next (s.withLane l ((s.laneIO l).enWrite (s.laneKind l).base en)) :=
  (exec_laneEnWrite ..).trans (State.onLane_leaves hr (by cases l <;> trivial) ((wf_laneEnWrite ..).trans hl) (fun _ _ => rfl))

theorem exec_laneSignalDetect_runs :
    exec (.laneSignalDetect l) s = .next (s.withLane l ((s.laneIO l).signal (s.laneKind l).base)) :=
  (exec_laneSignalDetect ..).trans (State.onLane_leaves hr (by cases l <;> trivial) ((wf_laneSignalDetect ..).trans hl) (fun _ _ => rfl))

theorem exec_laneCdrLock_runs :
    exec (.laneCdrLock l) s = .next (s.withLane l ((s.laneIO l).cdrLock (s.laneKind l).base)) :=
  (exec_laneCdrLock ..).trans (State.onLane_leaves hr (by cases l <;> trivial) ((wf_laneCdrLock ..).trans hl) (fun _ _ => rfl))

theorem exec_laneLinkLoss_runs :
    exec (.laneLinkLoss l) s = .next (s.withLane l ((s.laneIO l).linkLoss (s.laneKind l).base)) :=
  (exec_laneLinkLoss ..).trans (State.onLane_leaves hr (by cases l <;> trivial) ((wf_laneLinkLoss ..).trans hl) (fun _ _ => rfl))

theorem exec_laneCodeErrors_runs (n : Nat) :
    exec (.laneCodeErrors l n) s = .next (s.withLane l ((s.laneIO l).codeErrors (s.laneKind l) n)) :=
  (exec_laneCodeErrors ..).trans (State.onLane_leaves hr (by cases l <;> trivial) ((wf_laneCodeErrors ..).trans hl) (fun _ _ => rfl))

theorem exec_crcWindowClose_runs :
    exec (.crcWindowClose l) s = .next (s.withLane l ((s.laneIO l).windowClose (s.laneKind l).base)) :=
  (exec_crcWindowClose ..).trans (State.onLane_leaves hr (by cases l <;> trivial) ((wf_crcWindowClose ..).trans hl) (fun _ _ => rfl))

theorem exec_laneRetrainTimeout_runs :
    exec (.laneRetrainTimeout l) s = .next (s.withLane l ((s.laneIO l).retrainTimeout (s.laneKind l).base)) :=
  (exec_laneRetrainTimeout ..).trans (State.onLane_leaves hr (by cases l <;> trivial) ((wf_laneRetrainTimeout ..).trans hl) (fun _ _ => rfl))

theorem exec_deskewTimeout_runs :
    exec (.deskewTimeout l) s = .next (s.withLane l ((s.laneIO l).deskewTimeout (s.laneKind l))) :=
  (exec_deskewTimeout ..).trans (State.onLane_leaves hr (by cases l <;> trivial) ((wf_deskewTimeout ..).trans hl) (fun _ _ => rfl))

theorem exec_laneRestore_runs :
    exec (.laneRestore l) s = .next (s.withLane l ((s.laneIO l).restore (s.laneKind l).base)) :=
  (exec_laneRestore ..).trans (State.onLane_leaves hr (by cases l <;> trivial) ((wf_laneRestore ..).trans hl) (fun _ _ => rfl))

theorem exec_laneRetrainCmd_runs :
    exec (.laneRetrainCmd l) s = .next (s.withLane l ((s.laneIO l).retrainCmd (s.laneKind l).base)) :=
  (exec_laneRetrainCmd ..).trans (State.onLane_leaves hr (by cases l <;> trivial) ((wf_laneRetrainCmd ..).trans hl) (fun _ _ => rfl))

theorem exec_prbsLockChange_runs (xs : List Bool) :
    exec (.prbsLockChange l xs) s = .next (s.withLane l ((s.laneIO l).prbsRx (s.laneKind l).base xs)) :=
  (exec_prbsLockChange ..).trans (State.onLane_leaves hr (by cases l <;> trivial) ((wf_prbsLockChange ..).trans hl) (fun _ _ => rfl))

theorem exec_equalisationSettled_runs :
    ∃ ctle taps, exec (.equalisationSettled l) s = .next (s.withLane l ((s.laneIO l).settled (s.laneKind l) ctle taps)) := by
  obtain ⟨d, now, h⟩ := State.onLane_next_some (fun k d _ io => io.settled k d.1 d.2)
    (State.hears_of_laneRuns (c := .equalisationSettled l) hr (by cases l <;> trivial)) ((wf_equalisationSettled ..).trans hl)
  exact ⟨d.1, d.2, (exec_equalisationSettled ..).trans h⟩

theorem exec_laneCheckError_runs :
    ∃ now, exec (.laneCheckError l) s = .next (s.withLane l ((s.laneIO l).checkError (s.laneKind l).base now)) := by
  obtain ⟨d, now, h⟩ := State.onLane_next_some (fun k _ now io => io.checkError k.base now)
    (State.hears_of_laneRuns (c := .laneCheckError l) hr (by cases l <;> trivial)) ((wf_laneCheckError ..).trans hl)
  exact ⟨now, (exec_laneCheckError ..).trans h⟩

theorem exec_laneTestWrite_runs (prbs : Bool) {v : Nat} (hv : v < 2 ^ 32) :
    exec (.laneTestWrite l prbs v) s = .next (s.withLane l ((s.laneIO l).testWrite (s.laneKind l).base prbs v)) :=
  (exec_laneTestWrite ..).trans (State.onLane_leaves hr (by cases l <;> trivial)
    ((wf_laneTestWrite ..).trans (Bool.and_eq_true_iff.mpr ⟨hl, decide_eq_true hv⟩)) (fun _ _ => rfl))

theorem exec_laneTxeqWrite_runs {v : Nat} (hv : v < 2 ^ 32) :
    exec (.laneTxeqWrite l v) s = .next (s.withLane l ((s.laneIO l).txeqWrite (s.laneKind l) v)) :=
  (exec_laneTxeqWrite ..).trans (State.onLane_leaves hr (by cases l <;> trivial)
    ((wf_laneTxeqWrite ..).trans (Bool.and_eq_true_iff.mpr ⟨hl, decide_eq_true hv⟩)) (fun _ _ => rfl))

end Runs

namespace LaneIO

/-! ### A lane's registers and the state beside them: a read after a write -/

@[simp] theorem rd_wr_same (io : LaneIO) (f : Fld) (v : Nat) : (io.wr f v).rd f = v % 2 ^ f.width := Regs.get_set_same ..
theorem rd_wr_ne (io : LaneIO) {f g : Fld} (v : Nat) (h : g.key ≠ f.key) : (io.wr f v).rd g = io.rd g := Regs.get_set_ne _ _ h
theorem on_wr_ne (io : LaneIO) {f g : Fld} (v : Nat) (h : g.key ≠ f.key) : (io.wr f v).on g = io.on g :=
  congrArg (· != 0) (rd_wr_ne io v h)

/-- A field of the same register, at another place of it, is left alone. -/
theorem rd_wr_beside (io : LaneIO) {f g : Fld} (v : Nat) (ha : g.addr = f.addr) (hl : g.lo ≠ f.lo) : (io.wr f v).rd g = io.rd g :=
  rd_wr_ne io v (Fld.key_ne_of_lo ha hl)

theorem on_wr_beside (io : LaneIO) {f g : Fld} (v : Nat) (ha : g.addr = f.addr) (hl : g.lo ≠ f.lo) : (io.wr f v).on g = io.on g :=
  on_wr_ne io v (Fld.key_ne_of_lo ha hl)

@[simp] theorem rd_upd (io : LaneIO) (b : Nat) (f : Lane → Lane) (g : Fld) : (io.upd b f).rd g = io.rd g := rfl
@[simp] theorem st_goto (io : LaneIO) (b n : Nat) : (io.goto b n).st b = n % 2 ^ 4 := rd_wr_same ..

theorem rd_incBy_ne (io : LaneIO) {f g : Fld} (n : Nat) (h : g.key ≠ f.key) : (io.incBy f n).rd g = io.rd g := rd_wr_ne io _ h

theorem rd_incBy_same (io : LaneIO) (f : Fld) (n : Nat) : (io.incBy f n).rd f = satInc f.width (io.rd f) n :=
  (rd_wr_same ..).trans (Nat.mod_eq_of_lt (Nat.lt_of_le_of_lt (Nat.min_le_left ..) (Nat.sub_lt (Nat.two_pow_pos _) Nat.one_pos)))

/-! ### Bring-up and its loss (R289, R293, R294) -/

section BringUp
variable {io : LaneIO} {b : Nat} {k : LaneKind} {ctle taps : Nat}

theorem enWrite_on_of_off (h : io.st b = 0) : io.enWrite b true = ((io.wr (R.LNS_CTL_EN b) 1).toSig b).upd b
    (fun x => { x with everUp := false, polSet := false, locked := false, idBad := false, disord := false }) := if_pos h

theorem enWrite_on_of_running (h : io.st b ≠ 0) : io.enWrite b true = io.wr (R.LNS_CTL_EN b) 1 := if_neg h

theorem enWrite_off (io : LaneIO) (b : Nat) : io.enWrite b false = ((io.wr (R.LNS_CTL_EN b) 0).goto b 0).upd b
    (fun x => { x with everUp := false, polSet := false, locked := false, idBad := false, disord := false }) := rfl

theorem signal_in_sig (h : io.st b = 1) : io.signal b = io.goto b 2 := if_pos h
theorem signal_elsewhere (h : io.st b ≠ 1) : io.signal b = io := if_neg h
theorem cdrLock_in_cdr (h : io.st b = 2) : io.cdrLock b = io.upd b (fun x => { x with locked := true }) := if_pos h
theorem cdrLock_elsewhere (h : io.st b ≠ 2) : io.cdrLock b = io := if_neg h
theorem linkLoss_in_up (h : io.st b = 7) : io.linkLoss b = io.retrain b := if_pos h

theorem linkLoss_in_cdr (h : io.st b = 2) : io.linkLoss b = io.upd b (fun x => { x with locked := false }) := by
  simp [linkLoss, h]

theorem linkLoss_elsewhere (h2 : io.st b ≠ 2) (h7 : io.st b ≠ 7) : io.linkLoss b = io := (if_neg h7).trans (if_neg h2)

/-- FREEZE holds what adaptation would change (R294). -/
theorem adapt_frozen (ctle taps : Nat) (h : io.on (R.LNS_EQ_FREEZE k.base) = true) : io.adapt k ctle taps = io := by
  simp [adapt, h]

theorem settled_in_up (h : io.st k.base = 7) : io.settled k ctle taps = io.adapt k ctle taps := if_pos h

section Locked
variable (h : io.st k.base = 2) (hl : (io.hid k.base).locked = true)
include h hl

theorem settled_in_farEnd (hf : io.rd (R.LNS_CTL_LOOP k.base) = 3) : io.settled k ctle taps = io.adapt k ctle taps := by
  simp [settled, h, hl, hf]

theorem settled_in_cdr (hf : io.rd (R.LNS_CTL_LOOP k.base) ≠ 3) : io.settled k ctle taps = (io.adapt k ctle taps).goto k.base 3 := by
  simp [settled, h, hl, hf]

end Locked

theorem retrainTimeout_in_bringUp (h1 : 1 ≤ io.st b) (h6 : io.st b ≤ 6) (hu : (io.hid b).everUp = true) :
    io.retrainTimeout b = io.retire b := if_pos (by simp [h1, h6, hu])

/-- A lane that goes on alone passes DESKEW where it has no partner, or where its own training was never placed (R293). -/
theorem deskewTimeout_alone (h : io.st k.base = 5) (ha : k.link.length ≤ 1 ∨ (io.hid k.base).skew = none) :
    io.deskewTimeout k = io.goto k.base 6 := by
  rw [deskewTimeout, if_pos h, deskew]
  by_cases hlen : k.link.length ≤ 1
  · exact if_pos hlen
  · simp [hlen, ha.resolve_left hlen]

theorem deskewTimeout_elsewhere (h : io.st k.base ≠ 5) : io.deskewTimeout k = io := if_neg h

theorem retrainCmd_in_up (h : io.st b = 7) : io.retrainCmd b = io.retrain b := if_pos h

theorem retrainCmd_in_bringUp (h1 : 1 ≤ io.st b) (h6 : io.st b ≤ 6) : io.retrainCmd b = io.toSig b := by
  rw [retrainCmd, if_neg (by omega), if_neg (by simp only [Bool.or_eq_true, decide_eq_true_eq]; omega)]

theorem retrainCmd_idle (h : io.st b = 0 ∨ io.st b = 8) : io.retrainCmd b = io := by
  rw [retrainCmd, if_neg (by omega), if_pos (by simpa using h)]

end BringUp

/-! ### Errors and retirement (R289, R299 to R301) -/

section Errors
variable {io : LaneIO} {b : Nat} {k : LaneKind} {n : Nat}

theorem st_incBy_codeCnt (io : LaneIO) (b n : Nat) : (io.incBy (R.LNS_CNT_B_CODE_CNT b) n).st b = io.st b :=
  rd_incBy_ne io n (Fld.key_ne_of_addr (by simp) (by simp) (by simp))

theorem codeErrors_few (h : n < if k.fast then 16 else 4) : io.codeErrors k n = io.incBy (R.LNS_CNT_B_CODE_CNT k.base) n :=
  if_neg (by simp [h])

theorem codeErrors_many (hu : io.st k.base = 7) (h : (if k.fast then 16 else 4) ≤ n) :
    io.codeErrors k n = (io.incBy (R.LNS_CNT_B_CODE_CNT k.base) n).retrain k.base :=
  if_pos (by simp [st_incBy_codeCnt, hu, h])

theorem checkError_elsewhere (now : Nat) (h : io.st b ≠ 7) : io.checkError b now = io := if_pos h

/-- With CRC_MAX at 0 the first check error of a window retires the lane (R300). -/
theorem checkError_retires (now : Nat) (h : io.st b = 7) (hw : (io.hid b).win = none) (hm : io.rd (R.LNS_RET_CRC_MAX b) = 0) :
    io.checkError b now = ((io.incBy (R.LNS_CNT_A_CRC_CNT b) 1).upd b (fun x => { x with
      win := some (now + (io.incBy (R.LNS_CNT_A_CRC_CNT b) 1).rd (R.LNS_RET_CRC_WIN b) * 1000000), errs := 1 })).retire b := by
  have hmax : (io.incBy (R.LNS_CNT_A_CRC_CNT b) 1).rd (R.LNS_RET_CRC_MAX b) = 0 :=
    (rd_incBy_ne io 1 (Fld.key_ne_of_addr (by simp) (by simp) (by simp))).trans hm
  have hwin : ((io.incBy (R.LNS_CNT_A_CRC_CNT b) 1).hid b).win = none := hw
  simp [checkError, h, hwin, hmax]

@[simp] theorem st_retire (io : LaneIO) (b : Nat) : (io.retire b).st b = 8 := st_goto io b 8

theorem mem_raised_retire (io : LaneIO) (b : Nat) : (b, 0) ∈ (io.retire b).raised := List.mem_append_right _ (List.mem_singleton_self _)

theorem rd_retire {f : Fld} (io : LaneIO) (b : Nat) (h : f.key ≠ (R.LNS_STATE_STATE b).key) : (io.retire b).rd f = io.rd f :=
  rd_wr_ne io 8 h

theorem restore_testing (h : io.testing b = true) : io.restore b = io.cause b 4 := if_pos h

theorem restore_retired (ht : io.testing b = false) (h : io.st b = 8) : io.restore b =
    ((((io.wr (R.LNS_CNT_A_CRC_CNT b) 0).wr (R.LNS_CNT_A_RETRAIN_CNT b) 0).wr (R.LNS_CNT_B_CODE_CNT b) 0).toSig b).upd b
      (fun x => { x with win := none, errs := 0 }) := by
  rw [restore, ht, if_neg Bool.false_ne_true, if_pos h]

theorem restore_elsewhere (ht : io.testing b = false) (h : io.st b ≠ 8) : io.restore b = io := by
  rw [restore, ht, if_neg Bool.false_ne_true, if_neg h]

end Errors

end LaneIO
end Sys2Proof.Machine
end

section
/-! PROOFS. The tests of a lane: LNS_PRBS, LNS_CTL, LNS_TXEQ, the pattern generator and the checker (R290, R295 to R299), and all commands of a
lane together. -/
namespace Sys2Proof.Machine

/-! ### The pattern checker (R297) -/

section Checker
variable {k : Checker} {code : Nat} {x : Bool}

/-- A locked checker runs on by its own pattern and marks a wrong bit, until 64 errors fall within 1,024 bits. -/
theorem Checker.bit_wrong (hx : x ≠ prbsNext code k.reg) (he : k.errs.length < 63) :
    k.bit code true x = ({ k with reg := (k.reg * 2 + b2n (prbsNext code k.reg)) % 2 ^ 31, seen := k.seen + 1, errs := k.seen :: k.errs },
      true, true) := by
  have htake : (k.seen :: k.errs).take 64 = k.seen :: k.errs := List.take_of_length_le (by simp; omega)
  have hlen : ((k.seen :: k.errs).length == 64) = false := by simp; omega
  simp only [Checker.bit, bne_iff_ne.mpr hx, if_true, htake, hlen, Bool.and_false, Bool.false_and, Bool.false_eq_true, if_false,
    Bool.not_false]

theorem Checker.bit_lost (hx : x ≠ prbsNext code k.reg) (he : 63 ≤ k.errs.length) (hd : k.seen < k.errs.getD 62 0 + 1024) :
    k.bit code true x = (.zero, false, true) := by
  have hlen : (((k.seen :: k.errs).take 64).length == 64) = true := by simp; omega
  have hold : ((k.seen :: k.errs).take 64).getD 63 0 = k.errs.getD 62 0 := by simp [List.getD_eq_getElem?_getD]
  simp only [Checker.bit, bne_iff_ne.mpr hx, if_true, hlen, hold, decide_eq_true hd, Bool.and_self, Bool.not_true]

/-- The 64th bit in a row that agrees with the bits before it locks the checker. -/
theorem Checker.bit_locks (hw : (prbsTaps code).1 ≤ k.held) (hz : k.reg % 2 ^ (prbsTaps code).1 ≠ 0) (hx : x = prbsNext code k.reg)
    (ha : k.agree = 63) : ∃ reg, k.bit code false x = (⟨reg, 0, 0, 0, []⟩, true, false) :=
  ⟨(k.reg * 2 + b2n x) % 2 ^ 31, by simp [Checker.bit, hw, hz, ← hx, ha, Checker.zero]⟩

end Checker

namespace LaneIO
section Tests
variable {io : LaneIO} {b v : Nat} {k : LaneKind}

/-! ### Received bits, and the patterns of a near-end loopback (R296 to R298) -/

/-- What the checker makes of a bit stands in CHK_LOCK and, for an error, in ERR. -/
theorem prbsBit_of_bit {x lock : Bool} {c : Checker × Bool × Bool} (hlock : io.on (R.LNS_PRBS_CHK_LOCK b) = lock)
    (hc : (io.hid b).chk.bit (io.rd (R.LNS_PRBS_CHK b)) lock ((x != io.on (R.LNS_STATE_RX_INV b)) != io.on (R.LNS_PRBS_CHK_INV b)) = c) :
    io.prbsBit b x = if c.2.2
      then ((io.upd b (fun l => { l with chk := c.1 })).wr (R.LNS_PRBS_CHK_LOCK b) (b2n c.2.1)).incBy (R.LNS_PRBS_ERR_ERR b) 1
      else (io.upd b (fun l => { l with chk := c.1 })).wr (R.LNS_PRBS_CHK_LOCK b) (b2n c.2.1) := by
  rw [prbsBit, hlock, hc]

theorem prbsRx_ownPattern (xs : List Bool) {r : List Bool × LaneIO} (hl : io.looped b = true) (hg : io.on (R.LNS_PRBS_GEN b) = true)
    (hr : r = io.patternOut b xs.length (io.rd (R.LNS_CTL_LOOP b) == 1)) :
    io.prbsRx b xs = if io.on (R.LNS_PRBS_CHK b) then r.1.foldl (fun io x => io.prbsBit b x) r.2 else r.2 := by
  subst hr
  simp only [prbsRx, hl, hg, Bool.and_self, if_true]
  rfl

theorem prbsRx_line (xs : List Bool) (h : io.looped b = false ∨ io.on (R.LNS_PRBS_GEN b) = false) :
    io.prbsRx b xs = if io.on (R.LNS_PRBS_CHK b) then xs.foldl (fun io x => io.prbsBit b x) io else io := by
  have hown : (io.looped b && io.on (R.LNS_PRBS_GEN b)) = false := Bool.and_eq_false_iff.mpr h
  simp only [prbsRx, hown, Bool.false_eq_true, if_false]

/-! ### Stores of the tests (R295, R296, R298, R299) -/

theorem testField_of_le {f : Fld} {most : Nat} (h : v ≤ most) : io.testField f most v = v := if_pos h

theorem testRefused_iff {f : Fld} {most : Nat} (h : v ≤ most) :
    io.testRefused b f most v = true ↔ io.idle b = false ∧ v ≠ 0 ∧ v ≠ io.rd f := by
  simp only [testRefused, testField_of_le h, Bool.and_eq_true, bne_iff_ne, Bool.not_eq_true']
  exact ⟨fun ⟨⟨h0, hne⟩, hi⟩ => ⟨hi, h0, hne⟩, fun ⟨hi, h0, hne⟩ => ⟨⟨h0, hne⟩, hi⟩⟩

theorem testRefused_of_allowed {f : Fld} {most : Nat} (h : v ≤ most) (ha : io.idle b = true ∨ v = 0 ∨ v = io.rd f) :
    io.testRefused b f most v = false := by
  rw [Bool.eq_false_iff, Ne, testRefused_iff h]
  rintro ⟨hi, h0, hne⟩
  rcases ha with ha | ha | ha
  · exact Bool.false_ne_true (hi.symm.trans ha)
  · exact h0 ha
  · exact hne ha

theorem testWrite_prbs (io : LaneIO) (b v : Nat) : io.testWrite b true v = io.prbsWrite b v := rfl
theorem testWrite_ctl (io : LaneIO) (b v : Nat) : io.testWrite b false v = io.ctlWrite b v := rfl

theorem prbsWrite_refused (hi : io.idle b = false)
    (h : (bits v 0 3 ≠ 0 ∧ bits v 0 3 ≤ 4 ∧ bits v 0 3 ≠ io.rd (R.LNS_PRBS_GEN b)) ∨
      (bits v 4 3 ≠ 0 ∧ bits v 4 3 ≤ 4 ∧ bits v 4 3 ≠ io.rd (R.LNS_PRBS_CHK b))) : io.prbsWrite b v = io.cause b 4 := by
  refine if_pos (Bool.or_eq_true_iff.mpr (h.imp ?_ ?_))
  · exact fun ⟨h0, hle, hne⟩ => (testRefused_iff hle).mpr ⟨hi, h0, hne⟩
  · exact fun ⟨h0, hle, hne⟩ => (testRefused_iff hle).mpr ⟨hi, h0, hne⟩

/-- CHK set: a change of it seeds the checker anew (R297). -/
def withChk (io : LaneIO) (b chk : Nat) : LaneIO :=
  if io.rd (R.LNS_PRBS_CHK b) = chk then io
  else ((io.wr (R.LNS_PRBS_CHK b) chk).wr (R.LNS_PRBS_CHK_LOCK b) 0).upd b (fun x => { x with chk := .zero })

theorem withChk_eq {w : LaneIO} {chk : Nat} (hs : chk = io.rd (R.LNS_PRBS_CHK b) → w = io)
    (hc : chk ≠ io.rd (R.LNS_PRBS_CHK b) →
      w = ((io.wr (R.LNS_PRBS_CHK b) chk).wr (R.LNS_PRBS_CHK_LOCK b) 0).upd b (fun x => { x with chk := .zero })) :
    io.withChk b chk = w := by
  unfold withChk
  split
  case isTrue h => exact (hs h.symm).symm
  case isFalse h => exact (hc (Ne.symm h)).symm

@[simp] theorem rd_gen_withChk (io : LaneIO) (b chk : Nat) : (io.withChk b chk).rd (R.LNS_PRBS_GEN b) = io.rd (R.LNS_PRBS_GEN b) := by
  unfold withChk
  split
  · rfl
  · rw [rd_upd, rd_wr_beside _ _ (by simp) (by simp), rd_wr_beside _ _ (by simp) (by simp)]

/-- GEN set: a change of it seeds the generator anew (log entry 168). -/
def withGen (io : LaneIO) (b gen : Nat) : LaneIO :=
  if io.rd (R.LNS_PRBS_GEN b) = gen then io else (io.wr (R.LNS_PRBS_GEN b) gen).upd b (fun x => { x with gen := onesSeed })

theorem withGen_same {gen : Nat} (h : io.rd (R.LNS_PRBS_GEN b) = gen) : io.withGen b gen = io := if_pos h

theorem withGen_changed {gen : Nat} (h : io.rd (R.LNS_PRBS_GEN b) ≠ gen) :
    io.withGen b gen = (io.wr (R.LNS_PRBS_GEN b) gen).upd b (fun x => { x with gen := onesSeed }) := if_neg h

theorem prbsWrite_taken (hg : bits v 0 3 ≤ 4) (hc : bits v 4 3 ≤ 4)
    (ag : io.idle b = true ∨ bits v 0 3 = 0 ∨ bits v 0 3 = io.rd (R.LNS_PRBS_GEN b))
    (ac : io.idle b = true ∨ bits v 4 3 = 0 ∨ bits v 4 3 = io.rd (R.LNS_PRBS_CHK b)) :
    io.prbsWrite b v = ((((io.withChk b (bits v 4 3)).withGen b (bits v 0 3)).wr (R.LNS_PRBS_GEN_INV b) (bits v 3 1)).wr
      (R.LNS_PRBS_CHK_INV b) (bits v 7 1)) := by
  rw [prbsWrite, testRefused_of_allowed hg ag, testRefused_of_allowed hc ac, Bool.or_self, if_neg Bool.false_ne_true]
  simp only [testField_of_le hg, testField_of_le hc]
  rfl

theorem ctlWrite_refused (hi : io.idle b = false) (h0 : bits v 4 3 ≠ 0) (hle : bits v 4 3 ≤ 3)
    (hne : bits v 4 3 ≠ io.rd (R.LNS_CTL_LOOP b)) : io.ctlWrite b v = io.cause b 4 := if_pos ((testRefused_iff hle).mpr ⟨hi, h0, hne⟩)

/-- A store to LNS_CTL that leaves EN and asks for no single injection sets the fields beside them. -/
theorem ctlWrite_taken {w z : LaneIO} (hle : bits v 4 3 ≤ 3)
    (ha : io.idle b = true ∨ bits v 4 3 = 0 ∨ bits v 4 3 = io.rd (R.LNS_CTL_LOOP b)) (hen : bitAt v 0 = io.on (R.LNS_CTL_EN b))
    (hinj : bitAt v 8 = false)
    (hw : w = ((io.wr (R.LNS_CTL_POL_AUTO b) (bits v 1 1)).wr (R.LNS_CTL_POL_FORCE b) (bits v 2 1)).wr (R.LNS_CTL_TX_INV b) (bits v 3 1))
    (hz : z = if bitAt v 1 then w else w.wr (R.LNS_STATE_RX_INV b) (bits v 2 1)) :
    io.ctlWrite b v = ((z.wr (R.LNS_CTL_LOOP b) (bits v 4 3)).wr (R.LNS_CTL_TX_SQ b) (bits v 7 1)).wr (R.LNS_CTL_INJ_CONT b) (bits v 9 1) := by
  have hwen : w.on (R.LNS_CTL_EN b) = io.on (R.LNS_CTL_EN b) := by
    rw [hw, on_wr_beside _ _ (by simp) (by simp), on_wr_beside _ _ (by simp) (by simp), on_wr_beside _ _ (by simp) (by simp)]
  have hzen : z.on (R.LNS_CTL_EN b) = io.on (R.LNS_CTL_EN b) := by
    rw [hz]
    split
    · exact hwen
    · rw [on_wr_ne _ _ (Fld.key_ne_of_addr (by simp) (by simp) (by simp)), hwen]
  have hend : bitAt v 0 = (((z.wr (R.LNS_CTL_LOOP b) (bits v 4 3)).wr (R.LNS_CTL_TX_SQ b) (bits v 7 1)).wr (R.LNS_CTL_INJ_CONT b)
      (bits v 9 1)).on (R.LNS_CTL_EN b) := by
    rw [on_wr_beside _ _ (by simp) (by simp), on_wr_beside _ _ (by simp) (by simp), on_wr_beside _ _ (by simp) (by simp), hzen, hen]
  rw [ctlWrite, testRefused_of_allowed hle ha, if_neg Bool.false_ne_true]
  simp only [testField_of_le hle, hinj, Bool.false_eq_true, if_false, ← hw, ← hz]
  exact if_pos hend

theorem txeqWrite_refused (hf : k.fast = true) (h : 63 < bits v 0 4 + bits v 4 6 + bits v 10 5) : io.txeqWrite k v = io.cause k.base 4 := by
  simp only [txeqWrite, hf, Bool.not_true, Bool.false_eq_true, if_false]
  exact if_pos h

theorem txeqWrite_taken (hf : k.fast = true) (h : bits v 0 4 + bits v 4 6 + bits v 10 5 ≤ 63) : io.txeqWrite k v =
    ((io.wr (R.LNS_TXEQ_PRE k.base) (bits v 0 4)).wr (R.LNS_TXEQ_MAIN k.base) (bits v 4 6)).wr (R.LNS_TXEQ_POST k.base) (bits v 10 5) := by
  simp only [txeqWrite, hf, Bool.not_true, Bool.false_eq_true, if_false]
  exact if_neg (Nat.not_lt.mpr h)

end Tests
end LaneIO

/-! ### The obligation -/

/-- Settles O18: each command leaves its lane function's result on the lanes, and each clause is one case of that function, said above. -/
theorem laneCommandsComplete : Obligations.LaneCommandsComplete := by
  unfold Obligations.LaneCommandsComplete
  refine ⟨?states, ?frozen, ?adapts, ?fewErrors, ?manyErrors, ?retires, ?noCheck, ?prbsRefused, ?prbsTaken, ?ctlTaken, ?ctlRefused,
    ?txeqRefused, ?txeqTaken, ?ownPattern, ?line, ?wrongBit, ?locks⟩
  case states =>
    rintro s l io b hr hl rfl rfl
    refine ⟨fun h => ?enOff, fun h => ?enOn, ?disabled, fun h => ?sig, fun h => ?noSig, fun h => ?lock, fun h => ?noLock, fun h => ?lossUp,
      fun h => ?lossCdr, fun h h' => ?noLoss, ?window, fun h h' hu => ?retire, fun h ha => ?deskew, fun h => ?noDeskew, fun h => ?testing,
      fun ht h => ?restore, fun ht h => ?noRestore, fun h => ?retrainUp, fun h h' => ?retrain, fun h => ?noRetrain⟩
    case enOff => rw [exec_laneEnWrite_runs hr hl, LaneIO.enWrite_on_of_off h]
    case enOn => rw [exec_laneEnWrite_runs hr hl, LaneIO.enWrite_on_of_running h]
    case disabled => rw [exec_laneEnWrite_runs hr hl, LaneIO.enWrite_off]
    case sig => rw [exec_laneSignalDetect_runs hr hl, LaneIO.signal_in_sig h]
    case noSig => rw [exec_laneSignalDetect_runs hr hl, LaneIO.signal_elsewhere h]
    case lock => rw [exec_laneCdrLock_runs hr hl, LaneIO.cdrLock_in_cdr h]
    case noLock => rw [exec_laneCdrLock_runs hr hl, LaneIO.cdrLock_elsewhere h]
    case lossUp => rw [exec_laneLinkLoss_runs hr hl, LaneIO.linkLoss_in_up h]
    case lossCdr => rw [exec_laneLinkLoss_runs hr hl, LaneIO.linkLoss_in_cdr h]
    case noLoss => rw [exec_laneLinkLoss_runs hr hl, LaneIO.linkLoss_elsewhere h h']
    case window => exact exec_crcWindowClose_runs hr hl
    case retire => rw [exec_laneRetrainTimeout_runs hr hl, LaneIO.retrainTimeout_in_bringUp h h' hu]
    case deskew => rw [exec_deskewTimeout_runs hr hl, LaneIO.deskewTimeout_alone h ha]
    case noDeskew => rw [exec_deskewTimeout_runs hr hl, LaneIO.deskewTimeout_elsewhere h]
    case testing => rw [exec_laneRestore_runs hr hl, LaneIO.restore_testing h]
    case restore => rw [exec_laneRestore_runs hr hl, LaneIO.restore_retired ht h]
    case noRestore => rw [exec_laneRestore_runs hr hl, LaneIO.restore_elsewhere ht h]
    case retrainUp => rw [exec_laneRetrainCmd_runs hr hl, LaneIO.retrainCmd_in_up h]
    case retrain => rw [exec_laneRetrainCmd_runs hr hl, LaneIO.retrainCmd_in_bringUp h h']
    case noRetrain => rw [exec_laneRetrainCmd_runs hr hl, LaneIO.retrainCmd_idle h]
  case frozen =>
    rintro s l io b hr hl rfl rfl h hlock hfreeze
    obtain ⟨ctle, taps, he⟩ := exec_equalisationSettled_runs hr hl
    refine ⟨fun hf => ?_, fun hf => ?_⟩
    · rw [he, LaneIO.settled_in_cdr h hlock hf, LaneIO.adapt_frozen _ _ hfreeze]
    · rw [he, LaneIO.settled_in_farEnd h hlock hf, LaneIO.adapt_frozen _ _ hfreeze]
  case adapts =>
    rintro s l io b hr hl rfl rfl h
    obtain ⟨ctle, taps, he⟩ := exec_equalisationSettled_runs hr hl
    refine ⟨ctle, taps, ?_⟩
    obtain h | ⟨h, hlock, hf⟩ := h
    · rw [he, LaneIO.settled_in_up h]
    · rw [he, LaneIO.settled_in_farEnd h hlock hf]
  case fewErrors =>
    rintro s l io b n hr hl rfl rfl - hn
    rw [exec_laneCodeErrors_runs hr hl, LaneIO.codeErrors_few hn]
  case manyErrors =>
    rintro s l io b n hr hl rfl rfl h hn
    rw [exec_laneCodeErrors_runs hr hl, LaneIO.codeErrors_many h hn]
  case retires =>
    rintro s l io b hr hl rfl rfl h hwin hmax
    obtain ⟨now, he⟩ := exec_laneCheckError_runs hr hl
    rw [LaneIO.checkError_retires now h hwin hmax] at he
    refine ⟨_, he, LaneIO.st_retire .., ?_, LaneIO.mem_raised_retire ..⟩
    rw [LaneIO.rd_retire _ _ (Fld.key_ne_of_addr (by simp) (by simp) (by simp)), LaneIO.rd_upd, LaneIO.rd_incBy_same]
  case noCheck =>
    rintro s l io b hr hl rfl rfl h
    obtain ⟨now, he⟩ := exec_laneCheckError_runs hr hl
    rw [he, LaneIO.checkError_elsewhere now h]
  case prbsRefused =>
    rintro s l io b v hr hl hv rfl rfl hi h
    rw [exec_laneTestWrite_runs hr hl true hv, LaneIO.testWrite_prbs, LaneIO.prbsWrite_refused hi h]
  case prbsTaken =>
    rintro s l io b v w hr hl hv rfl rfl hg hc ag ac hsame hchanged
    have hw : (s.laneIO l).withChk (s.laneKind l).base (bits v 4 3) = w := LaneIO.withChk_eq hsame hchanged
    rw [exec_laneTestWrite_runs hr hl true hv, LaneIO.testWrite_prbs, LaneIO.prbsWrite_taken hg hc ag ac, hw]
    have hgen : w.rd (R.LNS_PRBS_GEN (s.laneKind l).base) = (s.laneIO l).rd (R.LNS_PRBS_GEN (s.laneKind l).base) := by
      rw [← hw, LaneIO.rd_gen_withChk]
    refine ⟨fun h => ?_, fun h => ?_⟩
    · rw [LaneIO.withGen_same (hgen.trans h.symm)]
    · rw [LaneIO.withGen_changed (fun e => h (e.symm.trans hgen))]
  case ctlTaken =>
    rintro s l io b v w z hr hl hv rfl rfl hle ha hen hinj hw hz
    rw [exec_laneTestWrite_runs hr hl false hv, LaneIO.testWrite_ctl, LaneIO.ctlWrite_taken hle ha hen hinj hw hz]
  case ctlRefused =>
    rintro s l io b v hr hl hv rfl rfl hi h0 hle hne
    rw [exec_laneTestWrite_runs hr hl false hv, LaneIO.testWrite_ctl, LaneIO.ctlWrite_refused hi h0 hle hne]
  case txeqRefused =>
    rintro s l io b v hr hl hv rfl rfl hf h
    rw [exec_laneTxeqWrite_runs hr hl hv, LaneIO.txeqWrite_refused hf h]
  case txeqTaken =>
    rintro s l io b v hr hl hv rfl rfl hf h
    rw [exec_laneTxeqWrite_runs hr hl hv, LaneIO.txeqWrite_taken hf h]
  case ownPattern =>
    rintro s l io b xs r hr hl rfl rfl hloop hgen hpat
    rw [exec_prbsLockChange_runs hr hl, LaneIO.prbsRx_ownPattern xs hloop hgen hpat]
    exact ⟨fun h => by rw [if_pos h], fun h => by rw [if_neg (Bool.eq_false_iff.mp h)]⟩
  case line =>
    rintro s l io b xs hr hl rfl rfl h
    rw [exec_prbsLockChange_runs hr hl, LaneIO.prbsRx_line xs h]
    exact ⟨fun h => by rw [if_pos h], fun h => by rw [if_neg (Bool.eq_false_iff.mp h)]⟩
  case wrongBit =>
    rintro io b x k rfl hlock hx
    exact ⟨fun he => LaneIO.prbsBit_of_bit hlock (Checker.bit_wrong hx he),
      fun he hd => LaneIO.prbsBit_of_bit hlock (Checker.bit_lost hx he hd)⟩
  case locks =>
    rintro io b x k rfl hlock hw hz hx ha
    obtain ⟨reg, hbit⟩ := Checker.bit_locks hw hz hx ha
    exact ⟨reg, LaneIO.prbsBit_of_bit hlock hbit⟩

end Sys2Proof.Machine
end

section
/-! PROOFS. Training: what a block says (R287, R290), and what a lane does with it in each state that takes it (R289 to R293, R298, R301). -/
namespace Sys2Proof.Machine

/-! ### The chip of a lane takes its training (R289, R291) -/

/-- The ports of a cell and the lanes of the unit take training as their lane function says. -/
theorem exec_trainingRx_runs {s : State} {l : LaneAt} {tr : Training} (hr : s.laneRuns l) (hw : (Instr.trainingRx l tr).wf = true)
    (hl : ∀ h n, l ≠ .hub h n) :
    exec (.trainingRx l tr) s = .next (s.withLane l ((s.laneIO l).training (s.laneKind l) tr)) := by
  rw [exec_trainingRx]
  cases l with
  | unit n =>
    simp only [execTrainingRx]
    exact State.onLane_leaves hr rfl hw (fun _ _ => rfl)
  | hub h n => exact absurd rfl (hl h n)
  | cell cid p =>
    simp only [execTrainingRx]
    exact State.onLane_leaves hr trivial hw (fun _ _ => rfl)

theorem exec_trainingRx_hub {s : State} {h n : Nat} {tr : Training} (hw : (Instr.trainingRx (.hub h n) tr).wf = true)
    (hd : (s.hub h).deaf (.trainingRx (.hub h n) tr) = false) :
    exec (.trainingRx (.hub h n) tr) s = .next (s.withHub h ((s.hub h).trainingRx (s.hubAt h) n tr)) :=
  State.onHub_heard (fun x w => w.trainingRx x n tr) hw hd

/-! ### A training block read (R287, R290) -/

theorem readTraining_plain (prior line arr : Nat) :
    readTraining (.block prior 2 line arr) = readBlock false (toBytes 8 (descramble prior line)) := by
  simp only [readTraining, if_true]

theorem readTraining_complement (prior line arr : Nat) :
    readTraining (.block prior 1 line arr) = readBlock true (toBytes 8 (2 ^ 64 - 1 - descramble prior line)) := by
  rw [readTraining, if_neg (by decide), if_pos rfl]

/-- The third byte of a block gives the role, RDY and the group back. -/
theorem roleByte_fields {role group : Nat} (rdy : Bool) (hr : role < 4) (hg : group < 2) :
    (role + 4 * b2n rdy + 8 * group) % 4 = role ∧ bits (role + 4 * b2n rdy + 8 * group) 3 1 = group ∧
      bitAt (role + 4 * b2n rdy + 8 * group) 2 = rdy := by
  have hb := b2n_lt rdy
  have hbit : (role + 4 * b2n rdy + 8 * group) / 2 ^ 2 % 2 = b2n rdy := by omega
  refine ⟨by omega, by unfold bits; omega, ?_⟩
  rw [bitAt, hbit]
  cases rdy <;> rfl

theorem readBlock_trainingBlock {w : Sender} (rdy : Bool) {tseq : Nat} (compl : Bool) (hr : w.role < 4) (hg : w.group < 2)
    (hlane : w.lane < 16) (ht : tseq < 2 ^ 16) : readBlock compl (trainingBlock w rdy tseq) = some ⟨compl, w, rdy, tseq⟩ := by
  obtain ⟨hrole, hgroup, hrdy⟩ := roleByte_fields rdy hr hg
  have hlanes : (w.lane + 16 * w.lanes) % 16 = w.lane ∧ (w.lane + 16 * w.lanes) / 16 = w.lanes := by omega
  have hseq : tseq % 256 + 256 * (tseq / 256 % 256) = tseq := by omega
  simp [readBlock, trainingBlock, toBytes, hrole, hgroup, hrdy, hlanes, hseq]

namespace LaneIO

/-! ### What reaches a lane (R298, R301) -/

section Reaches
variable {io : LaneIO} {k : LaneKind} {tr : Training}

/-- Training that reaches a lane counts its code errors, unless the lane is OFF, and is then looked at. -/
theorem training_reaches (h : io.looped k.base = false ∨ ∃ t, readTraining tr = some t ∧ t.who = k.own) : io.training k tr =
    (if io.st k.base = 0 then io else io.incBy (R.LNS_CNT_B_CODE_CNT k.base) (io.trainingErrors k.base tr)).learn k tr := by
  rw [training]
  refine if_neg ?_
  obtain h | ⟨t, ht, hown⟩ := h
  · simp [h]
  · simp [ht, hown]

/-- A near-end loopback hears nothing but the lane's own training (R298). -/
theorem training_looped (hl : io.looped k.base = true) (h : ∀ t, readTraining tr = some t → t.who ≠ k.own) : io.training k tr = io := by
  rw [training]
  cases ht : readTraining tr with
  | none => simp [hl]
  | some t => simp [hl, h t ht]

theorem trainingErrors_block (io : LaneIO) (b prior h x arr : Nat) :
    io.trainingErrors b (.block prior h x arr) = if h = 1 ∨ h = 2 then 0 else 1 := by
  simp only [trainingErrors, Bool.or_eq_true, decide_eq_true_eq]

end Reaches

/-! ### Training looked at, state by state (R289 to R293) -/

section Learn
variable {io : LaneIO} {k : LaneKind} {tr : Training} {t : TrainIn}

theorem learn_unreadable (h : readTraining tr = none) (hs : io.st k.base = 3 ∨ io.st k.base = 6 ∨ io.st k.base = 7) :
    io.learn k tr = io.upd k.base (fun l => { l with count := 0 }) := by
  simp only [learn, h]
  exact if_pos (by simpa [or_assoc] using hs)

theorem counted_reached {b n : Nat} {go : LaneIO → LaneIO} (h : n ≤ (io.hid b).count + 1) : io.counted b n true go = go io := if_pos h

section Read
variable (h : readTraining tr = some t)
include h

/-- Training of a polarity that POL does not accept breaks the count (R290). -/
theorem learn_polRefused (hs : io.st k.base = 3) (hp : io.polAccept k.base t = none) :
    io.learn k tr = io.upd k.base (fun l => { l with count := 0 }) := by
  simp [learn, h, hs, hp]

/-- The eighth accepted training in a row decides the polarity and leads to ID (R290). -/
theorem learn_polDecided {inv : Bool} (hs : io.st k.base = 3) (hp : io.polAccept k.base t = some inv) (hc : 7 ≤ (io.hid k.base).count) :
    io.learn k tr =
      ((io.wr (R.LNS_STATE_RX_INV k.base) (b2n inv)).upd k.base (fun l => { l with polSet := true })).goto k.base 4 := by
  simp only [learn, h, hs, hp, if_true]
  exact counted_reached (Nat.succ_le_succ hc)

/-- Past POL a lane takes training of its own polarity. -/
theorem learn_trained (hs : io.st k.base ≠ 3) (hc : t.compl = io.on (R.LNS_STATE_RX_INV k.base)) : io.learn k tr = io.trained k tr t := by
  simp only [learn, h, hs, hc, if_false, beq_self_eq_true, if_true]

theorem learn_ready (hs : io.st k.base = 6) (hc : t.compl = io.on (R.LNS_STATE_RX_INV k.base)) (hr : t.rdy = true)
    (hn : 15 ≤ (io.hid k.base).count) : io.learn k tr = (io.goto k.base 7).upd k.base (fun l => { l with everUp := true }) := by
  rw [learn_trained h (by omega) hc]
  simp only [trained, hs, hr]
  exact counted_reached (Nat.succ_le_succ hn)

theorem learn_peerLost (hs : io.st k.base = 7) (hc : t.compl = io.on (R.LNS_STATE_RX_INV k.base)) (hr : t.rdy = false)
    (hn : 3 ≤ (io.hid k.base).count) : io.learn k tr = io.retrain k.base := by
  rw [learn_trained h (by omega) hc]
  simp only [trained, hs, hr, Bool.not_false]
  exact counted_reached (Nat.succ_le_succ hn)

theorem learn_identified (hs : io.st k.base = 4) (hc : t.compl = io.on (R.LNS_STATE_RX_INV k.base)) : io.learn k tr = io.identify k t.who := by
  rw [learn_trained h (by omega) hc]
  simp only [trained, hs]

theorem learn_deskewed (hs : io.st k.base = 5) (hc : t.compl = io.on (R.LNS_STATE_RX_INV k.base)) :
    io.learn k tr = (io.upd k.base (fun l => { l with skew := skewOf tr t })).deskew k false := by
  rw [learn_trained h (by omega) hc]
  simp only [trained, hs]

end Read
end Learn

/-! ### Identity (R291) and deskew (R293) -/

section Links
variable {io : LaneIO} {k : LaneKind}

/-- A single 2.5 Gbit/s lane in no loopback passes ID with a sender that it accepts, and raises ID_BAD with any other. -/
theorem identify_single (w : Sender) (hf : k.fast = false) (hlen : k.link.length ≤ 1) (hl : io.rd (R.LNS_CTL_LOOP k.base) = 0) :
    io.identify k w = if k.accept w then (io.wr (R.LNS_STATE_PEER_ROLE k.base) w.role).passId k.base
      else (io.wr (R.LNS_STATE_PEER_ROLE k.base) w.role).idBad k.base := by
  have hloop : (io.wr (R.LNS_STATE_PEER_ROLE k.base) w.role).looped k.base = false := by
    have hrd := (rd_wr_ne io (f := R.LNS_STATE_PEER_ROLE k.base) (g := R.LNS_CTL_LOOP k.base) w.role
      (Fld.key_ne_of_addr (by simp) (by simp) (by simp))).trans hl
    simp [looped, hrd]
  simp only [identify, hf, Bool.false_eq_true, if_false, passes, hloop, hlen, if_true]
  cases k.accept w <;> rfl

theorem deskew_single {alone : Bool} (hlen : k.link.length ≤ 1) : io.deskew k alone = io.goto k.base 6 := if_pos hlen

section Partners
variable {a : Nat} (hlen : 2 ≤ k.link.length)
  (hall : k.link.all (fun x => io.pastId x && (decide (6 ≤ io.st x) || (io.hid x).skew.isSome)) = true)
  (ha : (io.hid k.base).skew = some a)
include hlen hall ha

/-- Lanes whose training lies too far apart send their whole link back (R293). -/
theorem deskew_apart (h : io.align k a = none) : io.deskew k false =
    k.link.foldl (fun io x => if io.st x = 7 then io.retrain x else if 2 ≤ io.st x && io.st x ≤ 6 then io.toSig x else io)
      (io.cause k.base 3) := by
  rw [deskew, if_neg (Nat.not_le.mpr hlen), if_neg (by simp [hall])]
  simp only [ha, h]

theorem deskew_aligned {v : LaneIO} (h : io.align k a = some v) : io.deskew k false = v.goto k.base 6 := by
  rw [deskew, if_neg (Nat.not_le.mpr hlen), if_neg (by simp [hall])]
  simp only [ha, h]

end Partners
end Links
end LaneIO

/-! ### The obligation -/

/-- Settles O19: the chip takes training as its lane function says, and each clause is one case of that function, said above. -/
theorem trainingCompletes : Obligations.TrainingCompletes := by
  unfold Obligations.TrainingCompletes
  refine ⟨fun s l tr hr hw hl => exec_trainingRx_runs hr hw hl, fun s h n tr hw hd => exec_trainingRx_hub hw hd, ?line, ?block, ?reaches,
    fun io k tr hl h => LaneIO.training_looped hl h, LaneIO.trainingErrors_block, fun io k tr hs h => LaneIO.learn_unreadable h hs,
    fun io k tr t h hs hp => LaneIO.learn_polRefused h hs hp, fun io k tr t inv h hs hp hn => LaneIO.learn_polDecided h hs hp hn, ?id,
    ?deskew, fun io k tr t h hs hc hr hn => LaneIO.learn_ready h hs hc hr hn,
    fun io k tr t h hs hc hr hn => LaneIO.learn_peerLost h hs hc hr hn⟩
  case line => exact fun prior line arr => ⟨readTraining_plain prior line arr, readTraining_complement prior line arr⟩
  case block =>
    intro w rdy tseq hr hg _ hlane _ ht compl
    exact readBlock_trainingBlock rdy compl hr hg hlane ht
  case reaches =>
    intro io k tr h
    rw [LaneIO.training_reaches h]
    exact ⟨fun h0 => by rw [if_pos h0], fun h0 => by rw [if_neg h0]⟩
  case id =>
    intro io k tr t h hs hc hf hlen hl
    rw [LaneIO.learn_identified h hs hc, LaneIO.identify_single t.who hf hlen hl]
    exact ⟨fun ha => if_pos ha, fun ha => if_neg (Bool.eq_false_iff.mp ha)⟩
  case deskew =>
    rintro io k tr t w h hs hc rfl
    rw [LaneIO.learn_deskewed h hs hc]
    exact ⟨LaneIO.deskew_single, fun hlen hall a ha hn => LaneIO.deskew_apart hlen hall ha hn,
      fun hlen hall a v ha hv => LaneIO.deskew_aligned hlen hall ha hv⟩

end Sys2Proof.Machine
end

section
/-! PROOFS. What leaves the state alone: a word fetched, which spells no command, and a command of a unit held in reset as a whole (R516, log
entries 8 and 13). -/
namespace Sys2Proof.Machine

/-- Settles O41: the table decodes no word, so a fetch adds no command. -/
theorem noWordSpellsACommand : Obligations.NoWordSpellsACommand := by
  unfold Obligations.NoWordSpellsACommand
  intro nbits w s
  exact ⟨rfl, rfl⟩

/-- A command's answer leaves the state where it acts in the unit. -/
def UnitStands (s : State) (p : Place) (r : Answer) : Prop := p = .unit ∨ p = .timed → r = .next s

theorem UnitStands.elsewhere {s : State} {p : Place} {r : Answer} (hu : p ≠ .unit) (ht : p ≠ .timed) : UnitStands s p r :=
  fun h => (h.elim hu ht).elim

theorem State.onTime_held {s : State} {c : Instr} (f : TimeBase → U → TimeBase × U) (hh : s.u.held = true) : s.onTime c f = .next s := by
  cases hw : c.wf <;> simp [State.onTime, U.deaf, hw, hh]

theorem State.onChip_held {s : State} {c : Instr} (chip : Chip) (fu : TimeBase → U → TimeBase × U) (fh : HubAt → H → H)
    (fc : Nat → C → Nat → C) (hh : s.u.held = true) : UnitStands s (placeOf .timed chip) (s.onChip c chip fu fh fc) := by
  unfold State.onChip
  cases chip with
  | unit => exact fun _ => State.onTime_held fu hh
  | hub h => exact .elsewhere nofun nofun
  | cell cid => exact .elsewhere nofun nofun

theorem State.onLane_held {s : State} {c : Instr} (l : LaneAt) (f : LaneKind → Nat × Nat → Nat → LaneIO → LaneIO) (hh : s.u.held = true) :
    UnitStands s (lanePlace l) (s.onLane c l f) := by
  unfold State.onLane
  cases l with
  | unit n => exact fun _ => State.onUnit_held _ hh
  | hub h n => exact .elsewhere nofun nofun
  | cell cid p => exact .elsewhere nofun nofun

theorem execTrainingRx_held {s : State} (l : LaneAt) (tr : Training) (hh : s.u.held = true) :
    UnitStands s (lanePlace l) (execTrainingRx l tr s) := by
  unfold execTrainingRx
  cases l with
  | unit n => exact State.onLane_held (.unit n) _ hh
  | hub h n => exact .elsewhere nofun nofun
  | cell cid p => exact .elsewhere nofun nofun

/-- A command of a chip's reset controller does not act in the unit's blocks. -/
theorem placeOf_reset_ne (chip : Chip) : placeOf .reset chip ≠ .unit ∧ placeOf .reset chip ≠ .timed := by
  cases chip <;> exact ⟨nofun, nofun⟩

/-- A held unit answers its commands with its state: the commands in groups, by the lift that each is. -/
theorem exec_held (c : Instr) {s : State} (hh : s.u.held = true) : UnitStands s (placeAt c) (exec c s) := by
  unfold exec placeAt
  cases c with
  | registerWrite | rcFieldRead | statusW1cWrite | blockAck | scrubRead | memoryUncorrRead | sysInjWrite | attChallengeRx
  | attStatementDone | secCommandDone => exact State.onChip_held _ _ _ _ hh
  | resetAssert chip | resetStageComplete chip | fuseLoadDone chip | resetSourceRelease chip | dieTempChange chip =>
    exact .elsewhere (placeOf_reset_ne chip).1 (placeOf_reset_ne chip).2
  | referenceTick => exact fun _ => if_pos hh
  | boundary => exact fun _ => if_pos (by simp [hh])
  | trainingRx l tr => exact execTrainingRx_held l tr hh
  | timIncIntWrite | stepApply | timSetLoad | rlqReset | sysRstSystem | sysRstEngine | sysRstBlock | peerResetRx | wdogPeriodEnd
  | keyStoreViolation | recBoot => exact fun _ => State.onTime_held _ hh
  | oscStopDetect | stretchRelease | vbakRise => exact .elsewhere nofun nofun
  | laneEnWrite | laneSignalDetect | laneCdrLock | equalisationSettled | laneLinkLoss | laneCodeErrors | laneCheckError
  | crcWindowClose | laneRetrainTimeout | deskewTimeout | laneRestore | laneRetrainCmd | laneTestWrite | laneTxeqWrite
  | prbsLockChange => exact State.onLane_held _ _ hh
  | hubOrderLoss | hubAvalancheRx | hubBoundary | hubTrackwayRx | hubFrameDrop | hubUnreach | hubOrderRx | loopMeasurement
  | measurementComplete | hubHeartbeatWrite | hubHbLost | hubMemUnc | hubAliveToggle | regReq => exact .elsewhere nofun nofun
  | cellFrameRx | cellBoundary | pwmRunWrite | pwmLoad | refreshRequest | autoRefresh | prtOvaWrite | clrHold | selftest
  | clrJournal | cellPor | retirementRecordDone | bycPulseStart | bycPulseEnd | bycConfirm | byfRelease | byfPulse
  | adcConversion | adcResRead | ccpSwtrig | configBlockRx | cellSelfReset | cellUpdIdent | cellUpdBegin | cellUpdData
  | cellUpdEnd | cellUpdActivate => exact .elsewhere nofun nofun
  | cellK287Rx | cellWatchdog | gtePatWrite | gteCtlWrite | testEnWrite | gteTestWrite | pwmPeriodStart | calibrationComplete
  | comparatorTrip | blankWindowClose | softOffEnd | bypWaitExpire | prtThrWrite | selftestTimeout | dmpTmaxExpire | ov2Crossing
  | uvloEntry | uvloRelease | bycTimeout | gateMismatch | rptMiss | pointRequestRx | rspDrop | adcEntryEnable | adcOfsCommit
  | ccpArm | ccpStop => exact .elsewhere nofun nofun
  | _ => exact fun _ => State.onUnit_held _ hh

/-- Settles O46: whatever lift the command is, a unit held in reset makes nothing of it. -/
theorem heldUnitKeepsItsState : Obligations.HeldUnitKeepsItsState := by
  unfold Obligations.HeldUnitKeepsItsState
  intro c s _ hh hp
  exact exec_held c hh hp

end Sys2Proof.Machine
end

section
/-! PROOFS. The writes of the signal box: the heartbeat (R472), SBX_HS (R464), the configuration (R481, R482), CLEAR and FT_CLR (R483, R484). A
box without its supply does nothing (R466). -/
namespace Sys2Proof.Machine

/-! ### A command of no block of its own, and one of the signal box -/

section Lift
variable {s : State} {c : Instr}

/-- A lift to the unit of a command that no block of its own takes leaves what its function gives, where no reset holds the whole unit. -/
theorem State.onUnit_whole (f : TimeBase → U → U) (hw : c.wf = true) (hc : Instr.home c = none) (hh : s.u.held = false) :
    s.onUnit c f = .next (s.after (f s.time s.u)) := State.onUnit_after f hw ((U.deaf_whole hc).trans hh)

/-- A command of the signal box, where the box has its supply. -/
theorem State.onUnit_box (f : TimeBase → U → U) (hw : c.wf = true) (hc : Instr.home c = none) (hh : s.u.held = false)
    (hs : s.u.sbx.supply = true) : s.onUnit c (fun t u => u.box (fun u => f t u)) = .next (s.after (f s.time s.u)) := by
  rw [State.onUnit_whole _ hw hc hh]
  exact congrArg (fun u => Host.Outcome.next (s.after u)) (if_pos hs)

/-- A command of the signal box that finds the box in reset, or that has nothing to do. -/
theorem State.onUnit_boxStands (f : TimeBase → U → U) (hw : c.wf = true) (hd : s.u.deaf c = false)
    (h : s.u.sbx.supply = false ∨ f s.time s.u = s.u) : s.onUnit c (fun t u => u.box (fun u => f t u)) = .next (s.after s.u) := by
  refine State.onUnit_leaves hw hd ?_
  rw [U.box]
  rcases h with h | h
  · simp [h]
  · rw [h, ite_self]

end Lift

/-! ### The heartbeat (R472) -/

section Heartbeat
variable {u : U}

theorem U.heart_unlocked (t : TimeBase) (k tick : Nat) (h : u.sbxLocked = false) : u.heart t k tick = u := if_pos (by simp [h])

/-- In WAIT the token 0x5A begins the heartbeat. -/
theorem U.heart_wait {k : Nat} (t : TimeBase) (tick : Nat) (hl : u.sbxLocked = true) (h : u.rd R.SBX_STATE_HB = 0) :
    u.heart t k tick = if k = 0x5A then u.hbOk tick 0xA5 else u := by
  simp only [U.heart, hl, Bool.not_true, Bool.false_eq_true, if_false, h]

/-- In OK a write keeps the heartbeat with its token and in its window. -/
theorem U.heart_ok {k : Nat} (t : TimeBase) (tick : Nat) (hl : u.sbxLocked = true) (h : u.rd R.SBX_STATE_HB = 1) :
    u.heart t k tick =
      if k = u.sbx.hbToken && decide (u.sbx.hbLast + u.hbWindow.1 ≤ tick) && decide (tick < u.sbx.hbLast + u.hbWindow.2)
      then u.hbOk tick (if k = 0x5A then 0xA5 else 0x5A) else u.hbLost t := by
  simp only [U.heart, hl, Bool.not_true, Bool.false_eq_true, if_false, h]

/-- In LOST the token 0x5A begins a pair. -/
theorem U.heart_pairBegins (t : TimeBase) (tick : Nat) (hl : u.sbxLocked = true) (h : u.rd R.SBX_STATE_HB = 2) (hp : u.sbx.hbPair = none) :
    u.heart t 0x5A tick = u.withSbx (fun x => { x with hbPair := some tick }) := by
  simp only [U.heart, hl, Bool.not_true, Bool.false_eq_true, if_false, h, hp, if_true]

/-- In LOST the token 0xA5 ends a pair in its window, and the heartbeat is OK again. -/
theorem U.heart_pairEnds {t1 tick : Nat} (t : TimeBase) (hl : u.sbxLocked = true) (h : u.rd R.SBX_STATE_HB = 2) (hp : u.sbx.hbPair = some t1)
    (h1 : t1 + u.hbWindow.1 ≤ tick) (h2 : tick < t1 + u.hbWindow.2) : u.heart t 0xA5 tick = u.hbOk tick 0x5A := by
  simp only [U.heart, hl, Bool.not_true, Bool.false_eq_true, if_false, h, hp, h1, h2, decide_true, Bool.and_self, if_true]

theorem U.heartEnd_unlocked (t : TimeBase) (h : u.sbxLocked = false) : u.heartEnd t = u := if_pos (by simp [h])

theorem U.heartEnd_locked (t : TimeBase) (hl : u.sbxLocked = true) :
    u.heartEnd t = if u.rd R.SBX_STATE_HB = 1 then u.hbLost t else u.withSbx (fun x => { x with hbPair := none }) :=
  if_neg (by simp [hl])

end Heartbeat

/-- Without a heartbeat that is OK every low side is open (R465). -/
theorem U.permits_ls_noHeartbeat {u : U} (h : u.rd R.SBX_STATE_HB ≠ 1) : u.permits.rd R.SBX_PERM_LS = 0 := by
  have open_ : u.lowSide = fun _ => false := funext fun k => Bool.eq_false_iff.mpr fun hk => h (u.lowSide_iff k |>.mp hk).2.2.2.2.2.1
  rw [U.permits_rd_ls, open_]
  rfl

/-- The unit with its heartbeat lost, before the cause is raised: LOST, SBX_HS cleared, the permits as they follow (R464, R472). -/
def U.hbDropped (u : U) : U :=
  ((((u.wr R.SBX_STATE_HB 2).wr R.SBX_HS_HS 0).withSbx (fun x => { x with hbPair := none })).permits)

theorem U.hbLost_eq (u : U) (t : TimeBase) : u.hbLost t = u.hbDropped.raise t SBX.HB_LOST [] := rfl

theorem U.hbDropped_hb (u : U) : u.hbDropped.rd R.SBX_STATE_HB = 2 := by
  rw [U.hbDropped, U.permits_rd _ (by decide), U.rd_withSbx, U.rd_wr_ne _ _ (by decide), U.rd_wr_same]
  rfl

theorem U.hbDropped_hs (u : U) : u.hbDropped.rd R.SBX_HS_HS = 0 := by
  rw [U.hbDropped, U.permits_rd _ (by decide), U.rd_withSbx, U.rd_wr_same]
  rfl

theorem U.hbDropped_ls (u : U) : u.hbDropped.rd R.SBX_PERM_LS = 0 := by
  refine U.permits_ls_noHeartbeat ?_
  rw [U.rd_withSbx, U.rd_wr_ne _ _ (by decide), U.rd_wr_same]
  decide

/-! ### The configuration (R481, R482) -/

section Configuration
variable {u : U}

/-- A word is held while the configuration is EMPTY or LOADING and not full. -/
theorem U.cfgLoad_held {v : Nat} (hv : v < 2 ^ 32) (hc : u.rd R.SBX_STATE_CFG < 2) (hn : u.rd R.SBX_CFG_CTL_WORDS < 64) :
    u.cfgLoad v = (((u.wr R.SBX_STATE_CFG 1).wr R.SBX_CFG_CTL_WORDS (u.rd R.SBX_CFG_CTL_WORDS + 1)).withSbx
      (fun x => { x with cfg := x.cfg ++ [v] })) := by
  have hmin : min 127 (u.rd R.SBX_CFG_CTL_WORDS + 1) = u.rd R.SBX_CFG_CTL_WORDS + 1 := by omega
  simp only [U.cfgLoad, hc, if_true, hn, hmin, Nat.mod_eq_of_lt hv]

theorem U.cfgLoad_refused (v : Nat) (hc : 2 ≤ u.rd R.SBX_STATE_CFG) : u.cfgLoad v = u := if_neg (Nat.not_lt.mpr hc)

theorem U.cfgStart_unlocked (h : u.sbxLocked = false) :
    u.cfgStart = ((u.wr R.SBX_STATE_CFG 0).wr R.SBX_CFG_CTL_WORDS 0).withSbx (fun x => { x with cfg := [] }) := if_neg (by simp [h])

theorem U.cfgStart_locked (h : u.sbxLocked = true) : u.cfgStart = u := if_pos h

theorem U.cfgLock_locked (t : TimeBase) (h : u.rd R.SBX_STATE_CFG = 2) : u.cfgLock t = u := by simp only [U.cfgLock, h]

theorem U.cfgLock_good (t : TimeBase) (h : u.rd R.SBX_STATE_CFG = 1) (hok : sbxCfgOk (u.rd R.SBX_CFG_CTL_WORDS) u.sbx.cfg = true) :
    u.cfgLock t = u.cfgLocked t := by
  simp only [U.cfgLock, h, hok, if_true]

theorem U.cfgLock_bad (t : TimeBase) (h : u.rd R.SBX_STATE_CFG = 0 ∨ u.rd R.SBX_STATE_CFG = 3 ∨
    (u.rd R.SBX_STATE_CFG = 1 ∧ sbxCfgOk (u.rd R.SBX_CFG_CTL_WORDS) u.sbx.cfg = false)) :
    u.cfgLock t = (u.wr R.SBX_STATE_CFG 3).raise t SBX.CFG_BAD [] := by
  rcases h with h | h | ⟨h, hok⟩
  · simp only [U.cfgLock, h]
  · simp only [U.cfgLock, h]
  · simp only [U.cfgLock, h, hok, Bool.false_eq_true, if_false]

end Configuration

/-! ### CLEAR and FT_CLR (R483, R484) -/

section Clear
variable {u : U}

theorem U.sbxClear_taken (t : TimeBase) (hc : u.rd R.DEP_CTL_CONV_EN = 0) (hl : u.tripLine = none) (hb : u.rd R.SBX_STATE_HB = 1)
    (hg : u.rd R.SBX_STATE_GL_ACTIVE = 0) (ho : u.anyOpen3 = false) :
    u.sbxClear t 0xC1EA = (((u.wr R.SBX_STATE_TRIPPED 0).wr R.SBX_STATE_AV_OUT 0).withSbx
      (fun x => { x with rbFault := 0, rbCnt := [] })).permits := if_pos (by simp [hc, hl, hb, hg, ho])

theorem U.sbxClear_refused {k : Nat} (t : TimeBase) (h : k ≠ 0xC1EA ∨ u.rd R.DEP_CTL_CONV_EN ≠ 0 ∨ u.tripLine.isSome = true ∨
    u.rd R.SBX_STATE_HB ≠ 1 ∨ u.rd R.SBX_STATE_GL_ACTIVE ≠ 0 ∨ u.anyOpen3 = true) : u.sbxClear t k = u.raise t SBX.CLR_REJ [] := by
  refine if_neg ?_
  simp only [Bool.and_eq_true, decide_eq_true_eq, Bool.not_eq_true', not_and_or, Bool.not_eq_false, Option.isNone_eq_false_iff,
    Bool.not_eq_true]
  tauto

theorem U.ftClear_taken (t : TimeBase) (ht : u.rd R.SBX_STATE_TRIPPED = 0) (hg : u.rd R.SBX_STATE_GL_ACTIVE = 0) :
    u.ftClear t 0xC1EA = { u with regs := Regs.resetRange u.regs 0x400540040 0x400540050 } := if_pos (by simp [ht, hg])

theorem U.ftClear_refused {k : Nat} (t : TimeBase) (h : k ≠ 0xC1EA ∨ u.rd R.SBX_STATE_TRIPPED ≠ 0 ∨ u.rd R.SBX_STATE_GL_ACTIVE ≠ 0) :
    u.ftClear t k = u.raise t SBX.CLR_REJ [] := by
  refine if_neg ?_
  simp only [Bool.and_eq_true, decide_eq_true_eq, not_and_or]
  tauto

end Clear

/-! ### The obligations -/

/-- Settles O59: FT_CLR taken is a reset of the four registers of the record, which reset to 0; refused, it raises CLR_REJ. -/
theorem firstTripClears : Obligations.FirstTripClears := by
  unfold Obligations.FirstTripClears
  refine ⟨?taken, ?refused⟩
  case taken =>
    intro s hh hs ht hg
    refine ⟨{ s.u with regs := Regs.resetRange s.u.regs 0x400540040 0x400540050 }, ?_, rfl, ?inside, ?outside⟩
    · rw [exec_sbxFtClr, execSbxFtClr, State.onUnit_box _ rfl rfl hh hs, U.ftClear_taken _ ht hg]
    case inside =>
      have resets : ∀ f ∈ [R.SBX_FT_VALID, R.SBX_FT_CLASS, R.SBX_FT_SOURCE, R.SBX_FT_CAUSE, R.SBX_FT_TSL_TS_LO, R.SBX_FT_TSH_TS_HI,
          R.SBX_TRIP_LINE_VALID, R.SBX_TRIP_LINE_LINE], 0x400540040 * 32 ≤ f.key ∧ f.key < 0x400540050 * 32 ∧
            f.reset % 2 ^ f.width = 0 := by decide
      intro f hf
      obtain ⟨h1, h2, h3⟩ := resets f hf
      exact (Regs.get_resetRange_in _ h1 h2).trans h3
    case outside =>
      intro f ha hl
      refine Regs.get_resetRange_out _ ?_
      unfold Fld.key
      omega
  case refused =>
    intro s hh hs h
    refine ⟨?_, U.raise_status _ _ _ _ rfl (by decide)⟩
    rw [exec_sbxFtClr, execSbxFtClr, State.onUnit_box _ rfl rfl hh hs, U.ftClear_refused _ (Or.inr h)]

/-- Settles O29: each write is one function of the box, taken by the cases of its rule; without the supply the box makes nothing of it. -/
theorem signalBoxWritesComplete : Obligations.SignalBoxWritesComplete := by
  unfold Obligations.SignalBoxWritesComplete
  refine ⟨?unlocked, ?wait, ?ok, ?lost, ?windowEnd, ?windowUnlocked, ?dropped, ?hs, ?load, ?start, ?lock, ?clear, ?first, ?unsupplied⟩
  case unlocked =>
    intro s k t hw hh hl
    rw [exec_sbxHeartWrite, execSbxHeartWrite,
      State.onUnit_boxStands _ hw ((U.deaf_whole rfl).trans hh) (Or.inr (U.heart_unlocked _ _ _ hl))]
  case wait =>
    intro s k t hw hh hs hl hb
    rw [exec_sbxHeartWrite, execSbxHeartWrite, State.onUnit_box _ hw rfl hh hs, U.heart_wait _ _ hl hb]
    exact ⟨fun h => by rw [if_pos h]; rfl, fun h => by rw [if_neg h]⟩
  case ok =>
    intro s k t hw hh hs hl hb
    rw [exec_sbxHeartWrite, execSbxHeartWrite, State.onUnit_box _ hw rfl hh hs, U.heart_ok _ _ hl hb]
    refine ⟨fun hk h1 h2 => ?_, fun h => ?_⟩
    · rw [if_pos (by simp [← hk, h1, h2])]
      rfl
    · refine congrArg (fun u => Host.Outcome.next (s.after u)) (if_neg ?_)
      simp only [Bool.and_eq_true, decide_eq_true_eq]
      omega
  case lost =>
    intro s k t hw hh hs hl hb
    rw [exec_sbxHeartWrite, execSbxHeartWrite, State.onUnit_box _ hw rfl hh hs]
    refine ⟨fun hp hk => ?_, fun t1 hp hk h1 h2 => ?_⟩
    · rw [hk, U.heart_pairBegins _ _ hl hb hp]
    · rw [hk, U.heart_pairEnds _ hl hb hp h1 h2]
      rfl
  case windowEnd =>
    intro s hh hs hl
    rw [exec_heartbeatWindowEnd, execHeartbeatWindowEnd, State.onUnit_box _ rfl rfl hh hs, U.heartEnd_locked _ hl]
    exact ⟨fun h => by rw [if_pos h], fun h => by rw [if_neg h]⟩
  case windowUnlocked =>
    intro s hh hl
    rw [exec_heartbeatWindowEnd, execHeartbeatWindowEnd,
      State.onUnit_boxStands _ rfl ((U.deaf_whole rfl).trans hh) (Or.inr (U.heartEnd_unlocked _ hl))]
  case dropped =>
    intro u t
    exact ⟨u.hbDropped, U.hbLost_eq u t, U.hbDropped_hb u, U.hbDropped_hs u, U.hbDropped_ls u⟩
  case hs =>
    intro s v hw hh hs
    rw [exec_sbxHsWrite, execSbxHsWrite, State.onUnit_box (fun _ u => u.hsWrite v) hw rfl hh hs]
    rfl
  case load =>
    intro s v hw hh hs
    have hv : v < 2 ^ 32 := by simpa [wf_sbxCfgLoadWrite, wordOk] using hw
    rw [exec_sbxCfgLoadWrite, execSbxCfgLoadWrite, State.onUnit_box (fun _ u => u.cfgLoad v) hw rfl hh hs]
    exact ⟨fun hc hn => by rw [U.cfgLoad_held hv hc hn], fun hc => by rw [U.cfgLoad_refused v hc]⟩
  case start =>
    intro s hh hs
    rw [exec_sbxCfgStart, execSbxCfgStart, State.onUnit_box (fun _ u => u.cfgStart) rfl rfl hh hs]
    exact ⟨fun hl => by rw [U.cfgStart_unlocked hl], fun hl => by rw [U.cfgStart_locked hl]⟩
  case lock =>
    intro s hh hs
    rw [exec_sbxCfgLock, execSbxCfgLock, State.onUnit_box _ rfl rfl hh hs]
    exact ⟨fun h => by rw [U.cfgLock_locked _ h], fun h hok => by rw [U.cfgLock_good _ h hok], fun h => by rw [U.cfgLock_bad _ h]⟩
  case clear =>
    intro s k hw hh hs
    rw [exec_sbxClear, execSbxClear, State.onUnit_box _ hw rfl hh hs]
    refine ⟨fun hk hc hl hb hg ho => ?_, fun h => by rw [U.sbxClear_refused _ h]⟩
    rw [hk, U.sbxClear_taken _ hc hl hb hg ho]
  case first =>
    intro s k hw hh hs
    rw [exec_sbxFtClr, execSbxFtClr, State.onUnit_box _ hw rfl hh hs]
    refine ⟨fun hk ht hg => ?_, fun h => by rw [U.ftClear_refused _ h]⟩
    rw [hk, U.ftClear_taken _ ht hg]
  case unsupplied =>
    intro s c hd hs hw hc
    rcases hc with ⟨k, tick, rfl⟩ | rfl | ⟨v, rfl⟩ | ⟨v, rfl⟩ | rfl | rfl | ⟨k, rfl⟩ | ⟨k, rfl⟩
    · exact State.onUnit_boxStands (fun t u => u.heart t k tick) hw hd (Or.inl hs)
    · exact State.onUnit_boxStands (fun t u => u.heartEnd t) hw hd (Or.inl hs)
    · exact State.onUnit_boxStands (fun _ u => u.hsWrite v) hw hd (Or.inl hs)
    · exact State.onUnit_boxStands (fun _ u => u.cfgLoad v) hw hd (Or.inl hs)
    · exact State.onUnit_boxStands (fun _ u => u.cfgStart) hw hd (Or.inl hs)
    · exact State.onUnit_boxStands (fun t u => u.cfgLock t) hw hd (Or.inl hs)
    · exact State.onUnit_boxStands (fun t u => u.sbxClear t k) hw hd (Or.inl hs)
    · exact State.onUnit_boxStands (fun t u => u.ftClear t k) hw hd (Or.inl hs)

end Sys2Proof.Machine
end

section
/-! PROOFS. What befalls the signal box: a change of a line (R468 to R470), its time limits (R469, R476), the readback and test pulses (R477,
R478), its supply and its oscillator (R466, R479, R593), the peer's status (R473). -/
namespace Sys2Proof.Machine

/-! ### Bits of the line registers -/

theorem bitAt_clrBit_gt (v : Nat) {n k : Nat} (hk : n < k) : bitAt (clrBit v n) k = bitAt v k := by
  rcases Bool.eq_false_or_eq_true (bitAt v n) with h | h
  · have hc : clrBit v n / 2 ^ n % 2 ≠ 1 := by simpa [bitAt] using bitAt_clrBit_same v n
    have hv : v / 2 ^ n = clrBit v n / 2 ^ n + 1 := by
      rw [← Nat.add_div_right _ (Nat.two_pow_pos n), Nat.add_comm, clrBit_add h]
    obtain ⟨d, rfl⟩ : ∃ d, k = n + (1 + d) := ⟨k - n - 1, by omega⟩
    have heq : v / 2 ^ n / 2 = clrBit v n / 2 ^ n / 2 := by omega
    unfold bitAt
    rw [Nat.pow_add, ← Nat.div_div_eq_div_mul, ← Nat.div_div_eq_div_mul, Nat.pow_add, Nat.pow_one, ← Nat.div_div_eq_div_mul,
      ← Nat.div_div_eq_div_mul, heq]
  · rw [clrBit, h, if_neg Bool.false_ne_true]

theorem bitAt_clrBit_ne (v : Nat) {n k : Nat} (hk : k ≠ n) : bitAt (clrBit v n) k = bitAt v k := by
  rcases Nat.lt_or_gt_of_ne hk with h | h
  · exact bitAt_clrBit_lt v h
  · exact bitAt_clrBit_gt v h

/-- The line registers stand apart from the configuration's state and from each other. -/
theorem lineRegs_apart : ∀ i < 5, R.SBX_STATE_CFG.key ≠ (R.SBX_LINES_LINE i).key ∧
    ∀ j < 5, j ≠ i → (R.SBX_LINES_LINE j).key ≠ (R.SBX_LINES_LINE i).key := by decide

section Lines
variable {u : U} {n : Nat}

theorem U.setLine_locked (hn : n < 149) (a : Bool) : (u.setLine n a).sbxLocked = u.sbxLocked := by
  unfold U.sbxLocked U.setLine
  rw [U.rd_wr_ne _ _ (lineRegs_apart (n / 32) (by omega)).1]

/-- A line sampled leaves the configured actions. -/
theorem U.setLine_lineAction (hn : n < 149) (a : Bool) (m : Nat) : (u.setLine n a).lineAction m = u.lineAction m := by
  unfold U.lineAction
  rw [U.setLine_locked hn]
  rfl

/-- A line sampled as deasserted loses its bit. -/
theorem U.setLine_false_rd (u : U) (n : Nat) : (u.setLine n false).rd (R.SBX_LINES_LINE (n / 32)) =
    clrBit (u.rd (R.SBX_LINES_LINE (n / 32))) (n % 32) :=
  (U.rd_wr_same _ _ _).trans (Nat.mod_eq_of_lt (Nat.lt_of_le_of_lt (clrBit_le _ _) (u.rd_lt _)))

theorem U.setLine_false_line (u : U) (n : Nat) : (u.setLine n false).line n = false := by
  rw [U.line, U.setLine_false_rd, bitAt_clrBit_same]

/-- A line sampled as deasserted leaves every other line. -/
theorem U.setLine_false_line_ne (hn : n < 149) {m : Nat} (hm : m < 149) (hne : m ≠ n) : (u.setLine n false).line m = u.line m := by
  unfold U.line
  by_cases h : m / 32 = n / 32
  · rw [h, U.setLine_false_rd, bitAt_clrBit_ne _ (by omega)]
  · rw [U.setLine, U.rd_wr_ne _ _ ((lineRegs_apart (n / 32) (by omega)).2 (m / 32) (by omega) h)]

theorem U.sampleLine_same (t : TimeBase) (h : u.lineNow n = u.line n) : u.sampleLine t n = u := if_pos (by simp [h])

theorem U.sampleLine_asserted (t : TimeBase) (hs : u.sbx.supply = true) (ha : u.lineNow n = true) (hl : u.line n = false) :
    u.sampleLine t n = (u.setLine n true).lineActs t n := by
  simp only [U.sampleLine, ha, hl, hs, Bool.true_eq_false, decide_false, Bool.not_true, Bool.or_self, Bool.false_eq_true, if_false, if_true]

/-! What an assertion does is the action of its line (R470). -/

theorem U.lineActs_ignore (t : TimeBase) (h : u.lineAction n = 0) : u.lineActs t n = u := by simp only [U.lineActs, h]
theorem U.lineActs_alarm (t : TimeBase) (h : u.lineAction n = 1) : u.lineActs t n = u.raise t SBX.LINE_ALARM [] := by
  simp only [U.lineActs, h]
theorem U.lineActs_degrade (t : TimeBase) (h : u.lineAction n = 2) : u.lineActs t n = u.raise t SBX.LINE_DEGRADE [] := by
  simp only [U.lineActs, h]
theorem U.lineActs_trip (t : TimeBase) (h : u.lineAction n = 3) : u.lineActs t n = u.raise t SBX.TRIP_LINE [] := by
  simp only [U.lineActs, h]

/-- A line deasserted, the last one of action DEGRADE, ends what lasts while one stands (R443, R470). -/
theorem U.sampleLine_deasserted (t : TimeBase) (hn : n < 149) (hs : u.sbx.supply = true) (ha : u.lineNow n = false) (hl : u.line n = true)
    (h : ∀ m, m < 149 → m ≠ n → u.line m = true → u.lineAction m ≠ 2) :
    u.sampleLine t n = (u.setLine n false).endLasting t SBX.LINE_DEGRADE := by
  have none_ : (List.range 149).any (fun m => (u.setLine n false).line m && (u.setLine n false).lineAction m == 2) = false := by
    rw [List.any_eq_false]
    intro m hm hc
    obtain ⟨hline, hact⟩ := Bool.and_eq_true_iff.mp hc
    have hm := List.mem_range.mp hm
    by_cases he : m = n
    · rw [he, U.setLine_false_line] at hline
      exact Bool.false_ne_true hline
    · rw [U.setLine_false_line_ne hn hm he] at hline
      rw [U.setLine_lineAction hn] at hact
      exact h m hm he hline (eq_of_beq hact)
  simp only [U.sampleLine, ha, hl, hs, Bool.false_eq_true, decide_false, Bool.not_true, Bool.or_self, if_false, none_]

/-- A change of a line whose level stands already samples the line. -/
theorem U.lineChange_level (t : TimeBase) {v : Bool} (hn : n < 149) (h : n < 16 → bitAt u.sbx.hw n = v) :
    u.lineChange t n v = u.sampleLine t n := by
  have hsame : (decide (n < 16) && bitAt u.sbx.hw n != v) = false := by
    by_cases h16 : n < 16
    · simp [h16, h h16]
    · simp [h16]
  simp only [U.lineChange, hsame, Bool.false_eq_true, if_false, hn, if_true]

/-- A hard-wired input that changes its level is sampled at it, its alive mode deasserted (R469). -/
theorem U.lineChange_input (t : TimeBase) {v : Bool} (hn : n < 16) (h : bitAt u.sbx.hw n ≠ v) :
    u.lineChange t n v = (u.withSbx (fun x => { x with
      hw := if v then setBit x.hw n else clrBit x.hw n
      alvOut := clrBit x.alvOut n })).sampleLine t n := by
  have hdiff : (decide (n < 16) && bitAt u.sbx.hw n != v) = true := by simp [hn, h]
  have h149 : n < 149 := by omega
  simp only [U.lineChange, hdiff, if_true, h149]

theorem U.aliveTimeout_asserts (t : TimeBase) (hn : n < 16) (hl : u.sbxLocked = true) (ha : bitAt (u.hwCfg n) 1 = true) :
    u.aliveTimeout t n = (u.withSbx (fun x => { x with alvOut := setBit x.alvOut n })).sampleLine t n := if_pos (by simp [hn, hl, ha])

theorem U.aliveTimeout_ignored (t : TimeBase) (h : u.sbxLocked = false ∨ bitAt (u.hwCfg n) 1 = false) : u.aliveTimeout t n = u := by
  refine if_neg ?_
  rcases h with h | h <;> simp [h]

end Lines

/-! ### The glacier timer (R476) -/

section Glacier
variable {u : U}

theorem U.glacierExpire_raises (t : TimeBase) (hl : u.sbxLocked = true) (ha : u.on R.SBX_STATE_GL_ACTIVE = true) (he : u.sbx.glExp = false)
    (h : u.glacierMax * 1000 ≤ u.sbx.glUs + 1) : u.glacierExpire t =
      ((u.wr R.SBX_GLACIER_GL_TIME u.glacierMax).withSbx (fun x => { x with glExp := true })).raise t SBX.GL_EXPIRE [] :=
  if_pos (by simp [hl, ha, he, h])

theorem U.glacierExpire_waits (t : TimeBase)
    (h : u.on R.SBX_STATE_GL_ACTIVE = false ∨ u.sbx.glExp = true ∨ u.sbx.glUs + 1 < u.glacierMax * 1000) : u.glacierExpire t = u := by
  refine if_neg ?_
  rcases h with h | h | h
  · simp [h]
  · simp [h]
  · simp [Nat.not_le.mpr h]

theorem U.glacierReset_idle (h : u.on R.SBX_STATE_GL_ACTIVE = false) :
    u.glacierReset = (u.wr R.SBX_GLACIER_GL_TIME 0).withSbx (fun x => { x with glUs := 0, glExp := false }) := if_neg (by simp [h])

theorem U.glacierReset_active (h : u.on R.SBX_STATE_GL_ACTIVE = true) : u.glacierReset = u := if_pos h

end Glacier

/-! ### The readback (R477) -/

theorem U.readback_unlocked {u : U} (t : TimeBase) (pr : Nat) (h : u.sbxLocked = false) : u.readback t pr = u.wr R.SBX_PERM_RB pr := by
  refine if_pos ?_
  have e : (u.wr R.SBX_PERM_RB pr).sbxLocked = u.sbxLocked := by rw [U.sbxLocked, U.rd_wr_ne _ _ (by decide), U.sbxLocked]
  rw [e, h]
  rfl

/-- The box of `v` is that of `u` but for the ages and counts of the readback. -/
def U.Aged (u v : U) : Prop := ∃ b : Sbx, v = u.withSbx (fun _ => b) ∧ b.rbFault = u.sbx.rbFault

theorem U.Aged.refl (u : U) : u.Aged u := ⟨u.sbx, rfl, rfl⟩

theorem U.Aged.withSbx {u v : U} (h : u.Aged v) {f : Sbx → Sbx} (hf : (f v.sbx).rbFault = v.sbx.rbFault) : u.Aged (v.withSbx f) := by
  obtain ⟨b, rfl, hb⟩ := h
  exact ⟨f b, rfl, hf.trans hb⟩

theorem U.Aged.foldl {u v : U} {α : Type} {g : U → α → U} (hg : ∀ w e, u.Aged w → u.Aged (g w e)) (l : List α) (h : u.Aged v) :
    u.Aged (l.foldl g v) := by
  induction l generalizing v with
  | nil => exact h
  | cons e l ih => exact ih (hg v e h)

/-- Whether a channel is under a test pulse. -/
def U.underTest (v : U) (k : Nat) : Bool :=
  match v.sbx.pulse with
  | some (j, _) => j == k
  | none => false

/-- The age of the command of a channel after one more sample. -/
def U.readbackAge (pr : Nat) (v : U) (k : Nat) : U :=
  v.withSbx (fun x => { x with cmdAge := x.cmdAge.set k (if bitAt pr k = bitAt v.sbx.cmdWas k then v.sbx.cmdAge.get k 0 + 1 else 0) })

/-- A channel sampled with the level that was granted. -/
def U.readbackStep (pr : Nat) (v : U) (k : Nat) : U :=
  if (v.readbackAge pr k).underTest k then v.readbackAge pr k
  else (v.readbackAge pr k).withSbx (fun x => { x with rbCnt := x.rbCnt.erase k })

theorem U.Aged.readbackStep {u v : U} (h : u.Aged v) (pr k : Nat) : u.Aged (v.readbackStep pr k) := by
  have aged : u.Aged (v.readbackAge pr k) := h.withSbx rfl
  unfold U.readbackStep
  split
  · exact aged
  · exact aged.withSbx rfl

theorem U.readback_steps {u : U} (t : TimeBase) {pr : Nat} (hl : u.sbxLocked = true) (h : pr = u.rd R.SBX_PERM_GRANTED) :
    u.readback t pr = ((List.range 8).foldl (fun (v : U) k => v.readbackStep pr k) (u.wr R.SBX_PERM_RB pr)).withSbx
      (fun x => { x with cmdWas := pr }) := by
  have hl' : (u.wr R.SBX_PERM_RB pr).sbxLocked = true := by
    rw [← hl, U.sbxLocked, U.rd_wr_ne _ _ (by decide), U.sbxLocked]
  have hg : (u.wr R.SBX_PERM_RB pr).rd R.SBX_PERM_GRANTED = pr := by rw [U.rd_wr_ne _ _ (by decide), h]
  unfold U.readback
  simp only [hl', hg, Bool.not_true, Bool.false_eq_true, if_false, bne_self_eq_false, Bool.and_false]
  rfl

/-- A readback that agrees with the channels granted moves the ages and counts alone. -/
theorem U.readback_agrees {u : U} (t : TimeBase) {pr : Nat} (hl : u.sbxLocked = true) (h : pr = u.rd R.SBX_PERM_GRANTED) :
    ∃ b : Sbx, u.readback t pr = (u.wr R.SBX_PERM_RB pr).withSbx (fun _ => b) ∧ b.rbFault = u.sbx.rbFault ∧ b.cmdWas = pr := by
  obtain ⟨b, hb, hf⟩ := U.Aged.foldl (fun _ k hv => hv.readbackStep pr k) (List.range 8) (U.Aged.refl (u.wr R.SBX_PERM_RB pr))
  refine ⟨{ b with cmdWas := pr }, ?_, hf, rfl⟩
  rw [U.readback_steps t hl h, hb]
  rfl

/-! ### Test pulses (R478) -/

section Pulse
variable {u : U} {k : Nat} {low : Bool}

theorem U.pulseStart_opens (hk : k < 8) (hl : u.sbxLocked = true) (hg : bitAt (u.rd R.SBX_PERM_GRANTED) k = true)
    (ht : u.on (R.SBX_CH_TEST k) = true) (hp : u.sbx.pulse = none) :
    u.pulseStart k low = (u.inc R.SBX_CNT_TP_CNT).withSbx (fun x => { x with pulse := some (k, low) }) :=
  if_pos (by simp [hk, hl, hg, ht, hp])

theorem U.pulseStart_ignored (h : bitAt (u.rd R.SBX_PERM_GRANTED) k = false ∨ u.on (R.SBX_CH_TEST k) = false) : u.pulseStart k low = u := by
  refine if_neg ?_
  rcases h with h | h <;> simp [h]

theorem U.pulseEnd_none (t : TimeBase) (a b : Bool) (h : u.sbx.pulse = none) : u.pulseEnd t a b = u := by simp only [U.pulseEnd, h]

theorem U.pulseEnd_some (t : TimeBase) (a b : Bool) (h : u.sbx.pulse = some (k, low)) : u.pulseEnd t a b =
    if a && b then u.withSbx (fun x => { x with pulse := none }) else (u.withSbx (fun x => { x with pulse := none })).rbFaultOf t k := by
  simp only [U.pulseEnd, h]

end Pulse

/-! ### The oscillator and the supply (R466, R479, R593) -/

theorem U.oscWindow_deviates {u : U} {n : Nat} (t : TimeBase) (hr : u.rd R.TIM_DEP_CTL_STATE = 2) (h : n < 38400 ∨ 41600 < n) :
    u.oscWindow t n = u.raise t SBX.OSC_DEV [] := if_pos (by simpa [hr] using h)

theorem U.oscWindow_quiet {u : U} {n : Nat} (t : TimeBase) (h : u.rd R.TIM_DEP_CTL_STATE ≠ 2 ∨ (38400 ≤ n ∧ n ≤ 41600)) :
    u.oscWindow t n = u := by
  refine if_neg ?_
  simp only [Bool.and_eq_true, Bool.or_eq_true, decide_eq_true_eq]
  omega

/-- Where a condition of every channel fails, no low side stands and no channel is granted (R464, R465). -/
theorem U.permits_none {u : U} (h : ∀ k, u.lowSide k = false) : u.permits.rd R.SBX_PERM_LS = 0 ∧ u.permits.rd R.SBX_PERM_GRANTED = 0 := by
  have low : u.lowSide = fun _ => false := funext h
  have on_ : u.channelOn = fun _ => false := funext fun k => by simp [U.channelOn, h k]
  rw [U.permits_rd_ls, U.permits_rd_granted, low, on_]
  exact ⟨rfl, rfl⟩

theorem U.permits_noOscillator {u : U} (h : u.sbx.osc = false) : u.permits.rd R.SBX_PERM_LS = 0 ∧ u.permits.rd R.SBX_PERM_GRANTED = 0 :=
  U.permits_none fun k => by simp [U.lowSide, h]

/-- The signal box as its reset leaves it before the permits follow (R466). -/
def U.boxCleared (u : U) : U :=
  let v : U := { u with regs := Regs.resetRange u.regs 0x400540000 0x400550000, recs := Tbl.erase u.recs B.SBX.st }
  let v := { v with act := v.act.filter (fun e => e.1 != B.SBX.st) }
  (({ v with sbx := { Sbx.zero with hw := v.sbx.hw, supply := v.sbx.supply, osc := v.sbx.osc } } : U).wr R.SBX_HS_HS
    (u.rd R.SBX_HS_HS)).wr R.SBX_STATE_GL_OWN 0

theorem U.sbxReset_eq (u : U) : u.sbxReset = (u.boxCleared.permits).wr R.DEP_CTL_CONV_EN 0 := rfl

theorem U.boxCleared_cfg (u : U) : u.boxCleared.rd R.SBX_STATE_CFG = 0 := by
  rw [U.boxCleared, U.rd_wr_ne _ _ (by decide), U.rd_wr_ne _ _ (by decide)]
  exact Regs.get_resetRange_in _ (by decide) (by decide)

theorem U.boxCleared_hs (u : U) : u.boxCleared.rd R.SBX_HS_HS = u.rd R.SBX_HS_HS := by
  rw [U.boxCleared, U.rd_wr_ne _ _ (by decide), U.rd_wr_same]
  exact Nat.mod_eq_of_lt (u.rd_lt _)

/-- Bringing the permits up to date leaves the configuration of the box. -/
theorem U.permits_cfg (u : U) : u.permits.sbx.cfg = u.sbx.cfg := by
  have h := congrArg Sbx.cfg u.showPermits_sbx
  rw [U.permits_eq]
  split <;> exact h

theorem U.sbxReset_cfg (u : U) : u.sbxReset.rd R.SBX_STATE_CFG = 0 := by
  rw [U.sbxReset_eq, U.rd_wr_ne _ _ (by decide), U.permits_rd _ (by decide), U.boxCleared_cfg]

theorem U.sbxReset_hs (u : U) : u.sbxReset.rd R.SBX_HS_HS = u.rd R.SBX_HS_HS := by
  rw [U.sbxReset_eq, U.rd_wr_ne _ _ (by decide), U.permits_rd _ (by decide), U.boxCleared_hs]

theorem U.sbxReset_ls (u : U) : u.sbxReset.rd R.SBX_PERM_LS = 0 := by
  rw [U.sbxReset_eq, U.rd_wr_ne _ _ (by decide)]
  exact (U.permits_none fun k => by simp [U.lowSide, U.sbxLocked, U.boxCleared_cfg]).1

theorem U.sbxReset_convEn (u : U) : u.sbxReset.rd R.DEP_CTL_CONV_EN = 0 := by
  rw [U.sbxReset_eq, U.rd_wr_same]
  rfl

theorem U.sbxReset_words (u : U) : u.sbxReset.sbx.cfg = [] := u.boxCleared.permits_cfg

theorem U.vsbxRelease_supplied {u : U} (t : TimeBase) (h : u.sbx.supply = true) : u.vsbxRelease t = u := if_pos h

theorem U.vsbxRelease_samples {u : U} (t : TimeBase) (h : u.sbx.supply = false) : u.vsbxRelease t =
    (((List.range 149).foldl (fun (u : U) n => u.setLine n (u.lineNow n))
      (u.withSbx (fun x => { x with supply := true })).permits).glacier t) := if_neg (by simp [h])

/-! ### The peer's status (R473) -/

theorem U.peerTimeout_locked {u : U} (t : TimeBase) (h : u.sbxLocked = true) : u.peerTimeout t =
    ((((u.wr R.SBX_STATE_PEER_OK 0).withSbx (fun x => { x with peerMiss := bits (u.sbxWord 38) 18 8 })).sampleLine t 147).glacier t) :=
  if_pos h

theorem U.peerTimeout_unlocked {u : U} (t : TimeBase) (h : u.sbxLocked = false) : u.peerTimeout t = u := if_neg (by simp [h])

/-! ### The end of a handshake that leaves the box and the records -/

theorem U.withLpe_sbx_any (u : U) (f : Lpe → Lpe) : (u.withLpe f).sbx = u.sbx ∧ (u.withLpe f).recs = u.recs := ⟨rfl, rfl⟩

/-- A calm handshake's end leaves the signal box and the fault records. -/
theorem U.finish_box {u : U} (t : TimeBase) (l : U) (h : u.Calm) : (u.finish t l).sbx = u.sbx ∧ (u.finish t l).recs = u.recs := by
  obtain ⟨x, n, e⟩ := (u.syncSending.syncBak).putLines_keeps
  have hl := U.withLpe_sbx_any (u.syncSending.syncBak.putLines)
  rw [U.finish_calm t l h]
  refine ⟨(hl _).1.trans ?_, (hl _).2.trans ?_⟩ <;> rw [e] <;> rfl

/-! ### The obligation -/

/-- Settles O30: each event is one function of the box, taken by the cases of its rule; without the supply the box makes nothing of it. -/
theorem signalBoxEventsComplete : Obligations.SignalBoxEventsComplete := by
  unfold Obligations.SignalBoxEventsComplete
  refine ⟨?level, ?input, ?asserted, ?deasserted, ?alive, ?expires, ?expireWaits, ?timer, ?readbackUnlocked, ?readback, ?pulse, ?pulseEnd,
    ?window, ?peer, ?undervoltage, ?reset, ?release, ?unsupplied, ?oscillator, fun u h => U.permits_noOscillator h⟩
  case level =>
    intro s n v hw hh hv
    have hn : n < 149 := by simpa [wf_sbxLineChange] using hw
    rw [exec_sbxLineChange, execSbxLineChange, State.onUnit_whole _ hw rfl hh, U.lineChange_level _ hn hv]
    exact ⟨fun h => by rw [U.sampleLine_same _ h], fun hs ha hl => by rw [U.sampleLine_asserted _ hs ha hl]⟩
  case input =>
    intro s n v hw hh hn hv
    rw [exec_sbxLineChange, execSbxLineChange, State.onUnit_whole _ hw rfl hh, U.lineChange_input _ hn hv]
  case asserted =>
    intro u t n hn hs ha hl
    have action : ∀ b : Bool, u.sbxLocked = b → (u.setLine n true).lineAction n =
        if b then bits (u.sbxWord (10 + n / 16)) (2 * (n % 16)) 2 else 0 := fun b hb => by
      rw [U.setLine_lineAction hn, U.lineAction, hb]
    rw [U.sampleLine_asserted t hs ha hl]
    exact ⟨fun hk => U.lineActs_ignore t (action _ hk), fun hk h => U.lineActs_alarm t ((action _ hk).trans h),
      fun hk h => U.lineActs_degrade t ((action _ hk).trans h), fun hk h => U.lineActs_trip t ((action _ hk).trans h)⟩
  case deasserted =>
    intro u t n hn hs ha hl h
    exact U.sampleLine_deasserted t hn hs ha hl h
  case alive =>
    intro s j hw hh
    have hj : j < 16 := by simpa [wf_hwAliveTimeout] using hw
    rw [exec_hwAliveTimeout, execHwAliveTimeout]
    refine ⟨fun hs hl ha => ?_, fun h => ?_⟩
    · rw [State.onUnit_box _ hw rfl hh hs, U.aliveTimeout_asserts _ hj hl ha]
    · exact State.onUnit_boxStands _ hw ((U.deaf_whole rfl).trans hh) (Or.inr (U.aliveTimeout_ignored _ h))
  case expires =>
    intro s hh hs hl ha he h
    rw [exec_glacierExpire, execGlacierExpire, State.onUnit_box _ rfl rfl hh hs, U.glacierExpire_raises _ hl ha he h]
  case expireWaits =>
    intro s hh h
    rw [exec_glacierExpire, execGlacierExpire]
    exact State.onUnit_boxStands _ rfl ((U.deaf_whole rfl).trans hh) (Or.inr (U.glacierExpire_waits _ h))
  case timer =>
    intro s hh
    rw [exec_glacierTimerReset, execGlacierTimerReset]
    refine ⟨fun hs h => ?_, fun h => ?_⟩
    · rw [State.onUnit_box (fun _ u => u.glacierReset) rfl rfl hh hs, U.glacierReset_idle h]
    · exact State.onUnit_boxStands (fun _ u => u.glacierReset) rfl ((U.deaf_whole rfl).trans hh) (Or.inr (U.glacierReset_active h))
  case readbackUnlocked =>
    intro s pr hw hh hs hl
    rw [exec_readbackSample, execReadbackSample, State.onUnit_box _ hw rfl hh hs, U.readback_unlocked _ _ hl]
  case readback =>
    intro s pr hw hh hs hl hcalm h
    have hpr : pr < 2 ^ 8 := by simpa [wf_readbackSample] using hw
    obtain ⟨b, hb, hfault, hwas⟩ := U.readback_agrees s.time hl h
    have calm : ((s.u.wr R.SBX_PERM_RB pr).withSbx (fun _ => b)).Calm := ⟨hcalm.evq, hcalm.shot, hcalm.cur, hcalm.tx⟩
    have left := U.finish_box s.time ((s.u.wr R.SBX_PERM_RB pr).withSbx (fun _ => b)) calm
    rw [exec_readbackSample, execReadbackSample, State.onUnit_box _ hw rfl hh hs, hb]
    refine ⟨_, rfl, ?_, ?_, ?_, left.2⟩
    · refine (U.finish_rd _ _ calm (by decide)).trans ?_
      rw [U.rd_withSbx, U.rd_wr_same]
      exact Nat.mod_eq_of_lt hpr
    · exact (congrArg Sbx.cmdWas left.1).trans hwas
    · exact (congrArg Sbx.rbFault left.1).trans hfault
  case pulse =>
    intro s k low hw hh
    have hk : k < 8 := by simpa [wf_testPulseStart] using hw
    rw [exec_testPulseStart, execTestPulseStart]
    refine ⟨fun hs hl hg ht hp => ?_, fun h => ?_⟩
    · rw [State.onUnit_box (fun _ u => u.pulseStart k low) hw rfl hh hs, U.pulseStart_opens hk hl hg ht hp]
    · exact State.onUnit_boxStands (fun _ u => u.pulseStart k low) hw ((U.deaf_whole rfl).trans hh) (Or.inr (U.pulseStart_ignored h))
  case pulseEnd =>
    intro s a b hh
    rw [exec_testPulseEnd, execTestPulseEnd]
    refine ⟨fun h => ?_, fun k low hs h => ?_⟩
    · exact State.onUnit_boxStands _ rfl ((U.deaf_whole rfl).trans hh) (Or.inr (U.pulseEnd_none _ a b h))
    · rw [State.onUnit_box _ rfl rfl hh hs, U.pulseEnd_some _ a b h]
      refine ⟨fun ha hb => by rw [ha, hb]; rfl, fun hf => ?_⟩
      rw [if_neg (by rcases hf with hf | hf <;> simp [hf])]
      rfl
  case window =>
    intro s n hw hh
    rw [exec_oscWindowEnd, execOscWindowEnd]
    refine ⟨fun hs hr h => ?_, fun h => ?_⟩
    · rw [State.onUnit_box _ hw rfl hh hs, U.oscWindow_deviates _ hr h]
    · exact State.onUnit_boxStands _ hw ((U.deaf_whole rfl).trans hh) (Or.inr (U.oscWindow_quiet _ h))
  case peer =>
    intro s hd
    rw [exec_peerStatusTimeout, execPeerStatusTimeout]
    refine ⟨fun hs hl => State.onUnit_leaves rfl hd ?_, fun hl => ?_⟩
    · rw [U.box, if_pos hs, U.peerTimeout_locked _ hl]
    · exact State.onUnit_boxStands _ rfl hd (Or.inr (U.peerTimeout_unlocked _ hl))
  case undervoltage =>
    intro s hh
    rw [exec_vsbxUndervoltage, execVsbxUndervoltage, State.onUnit_whole _ rfl rfl hh]
    rfl
  case reset =>
    intro u
    exact ⟨u.sbxReset_cfg, u.sbxReset_ls, u.sbxReset_convEn, u.sbxReset_hs, u.sbxReset_words⟩
  case release =>
    intro s hh
    rw [exec_vsbxRelease, execVsbxRelease, State.onUnit_whole _ rfl rfl hh]
    exact ⟨fun h w hv => by rw [U.vsbxRelease_samples _ h, hv], fun h => by rw [U.vsbxRelease_supplied _ h]⟩
  case unsupplied =>
    intro s c hd hs hw hc
    rcases hc with ⟨j, rfl⟩ | rfl | rfl | ⟨pr, rfl⟩ | ⟨k, low, rfl⟩ | ⟨a, b, rfl⟩ | ⟨n, rfl⟩ | rfl
    · exact State.onUnit_boxStands (fun t u => u.aliveTimeout t j) hw hd (Or.inl hs)
    · exact State.onUnit_boxStands (fun t u => u.glacierExpire t) hw hd (Or.inl hs)
    · exact State.onUnit_boxStands (fun _ u => u.glacierReset) hw hd (Or.inl hs)
    · exact State.onUnit_boxStands (fun t u => u.readback t pr) hw hd (Or.inl hs)
    · exact State.onUnit_boxStands (fun _ u => u.pulseStart k low) hw hd (Or.inl hs)
    · exact State.onUnit_boxStands (fun t u => u.pulseEnd t a b) hw hd (Or.inl hs)
    · exact State.onUnit_boxStands (fun t u => u.oscWindow t n) hw hd (Or.inl hs)
    · exact State.onUnit_boxStands (fun t u => u.peerTimeout t) hw hd (Or.inl hs)
  case oscillator =>
    intro s hh
    rw [exec_sbxOscillatorStop, execSbxOscillatorStop, State.onUnit_whole _ rfl rfl hh]
    rfl

end Sys2Proof.Machine
end

section
/-! PROOFS. Memory errors: the scrubber (R452), uncorrectable words (R453, R454), the injection registers (R455, R456); ALIVE (R451). -/
namespace Sys2Proof.Machine

/-- A command of the chip that it names leaves station time where its function for the unit does. -/
theorem State.onTime_after {s : State} {c : Instr} (f : TimeBase → U → U) (hw : c.wf = true) (hd : s.u.deaf c = false) :
    s.onTime c (fun t u => (t, f t u)) = .next (s.after (f s.time s.u)) := State.onTime_next _ hw hd

namespace MemIO

@[simp] theorem rd_wr_same (io : MemIO) (f : Fld) (v : Nat) : (io.wr f v).rd f = v % 2 ^ f.width := Regs.get_set_same _ _ _

theorem rd_wr_beside (io : MemIO) {f g : Fld} (v : Nat) (ha : g.addr = f.addr) (hl : g.lo ≠ f.lo) : (io.wr f v).rd g = io.rd g :=
  Regs.get_set_ne _ _ (Fld.key_ne_of_lo ha hl)

/-! ### The scrubber (R452, R453) -/

section Scrub
variable {io : MemIO} {b addr : Nat}

/-- A word read without an injection and not poisoned: good, corrected, or uncorrectable by its symbols. -/
theorem read_uninjected (symbols : Nat) (still : Bool) (ho : io.rd (R.SYS_INJ_ONCE b) ≠ 1) (hc : io.rd (R.SYS_INJ_CONT b) ≠ 1)
    (hp : addr / 16 * 16 ∉ io.hid.poison) : (io.read b addr symbols still).2 =
      if 2 ≤ symbols then io.uncorr b addr (decide (symbols < 2))
      else if symbols = 0 then io
      else if still then (io.corrected b).spareRow addr else io.corrected b := by
  have hp' : io.hid.poison.contains (addr / 16 * 16) = false := by simpa using hp
  have ho' : (io.rd (R.SYS_INJ_ONCE b) == 1) = false := by simpa using ho
  have hc' : (io.rd (R.SYS_INJ_CONT b) == 1) = false := by simpa using hc
  simp only [read, ho', hc', hp', Bool.or_self, Bool.and_false, Bool.false_eq_true, if_false, Bool.or_false, decide_eq_true_eq, ge_iff_le]
  split
  · rfl
  · split <;> rfl

/-- The cause that a row replaced raises, by what its bank has left. -/
theorem spareRow_raised (io : MemIO) (addr : Nat) : (io.spareRow addr).raised = io.raised ++
    [(if (io.hid.spare.get (addr / 2 ^ 20) []).length < 16 then 1 else 2, addr / 2 ^ 20)] := by
  unfold spareRow hasSpare
  by_cases h : (io.hid.spare.get (addr / 2 ^ 20) []).length < 16
  · simp only [h, decide_true, if_true]
    rfl
  · simp only [h, decide_false, Bool.false_eq_true, if_false]
    rfl

/-- An uncorrectable error that is not injected raises UNCORR and what the row's replacement raises. -/
theorem uncorr_raised (hp : addr / 16 * 16 ∉ io.hid.poison) : (io.uncorr b addr false).raised = io.raised ++
    [(0, addr / 2 ^ 20), (if (io.hid.spare.get (addr / 2 ^ 20) []).length < 16 then 1 else 2, addr / 2 ^ 20)] := by
  have hp' : ((io.inc (R.SYS_MEM_CNT_UNC_CNT b)).cause 0 (addr / 2 ^ 20)).hid.poison.contains (addr / 16 * 16) = false :=
    (by simpa using hp : io.hid.poison.contains (addr / 16 * 16) = false)
  simp only [uncorr, hp', Bool.false_eq_true, if_false, Bool.false_and, spareRow_raised]
  exact List.append_assoc ..

theorem scrub_raised (io : MemIO) (b size symbols : Nat) (still : Bool) :
    (io.scrub b size symbols still).raised = (io.read b io.hid.scrub symbols still).2.raised := rfl

theorem scrub_regs (io : MemIO) (b size symbols : Nat) (still : Bool) :
    (io.scrub b size symbols still).regs = (io.read b io.hid.scrub symbols still).2.regs := rfl

end Scrub

/-! ### The injection registers (R455, R456) -/

section Inject
variable {io : MemIO} {b v : Nat}

/-- A store that arms an injection anew, without CONT: refused for a critical target of a chip that refuses them now, taken otherwise. -/
theorem injWrite_once {conv : Bool} (hc : io.rd (R.SYS_INJ_CONT b) ≠ 1) (h12 : bitAt v 12 = false) (h11 : bitAt v 11 = true)
    (ho : io.rd (R.SYS_INJ_ONCE b) ≠ 1) (ht : bits v 0 4 ≤ 8) : io.injWrite b false 8 conv v =
      if conv && (bits v 0 4 == 2 || bits v 0 4 == 3 || bits v 0 4 == 5 || bits v 0 4 == 6) then io.cause 3 0
      else (((((io.wr (R.SYS_INJ_TARGET b) (bits v 0 4)).wr (R.SYS_INJ_UNIT b) (bits v 4 5)).wr (R.SYS_INJ_SYMS b)
        (if bits v 9 2 = 1 || bits v 9 2 = 2 then bits v 9 2 else io.rd (R.SYS_INJ_SYMS b))).wr (R.SYS_INJ_ONCE b) 1).wr
          (R.SYS_INJ_CONT b) (bits v 12 1)) := by
  have hc' : (io.rd (R.SYS_INJ_CONT b) == 1) = false := by simpa using hc
  have ho' : (io.rd (R.SYS_INJ_ONCE b) == 1) = false := by simpa using ho
  simp only [injWrite, hc', ho', h11, h12, ht, Bool.not_true, Bool.or_self, Bool.and_false, Bool.false_eq_true, if_false, if_true,
    Bool.and_true, Bool.or_false]

end Inject
end MemIO

/-! ### ALIVE (R451) -/

theorem U.aliveToggle_runs {u : U} {us : Nat} (h0 : us % 500 = 0) (ho : u.anyOpen3 = false) (hl : u.on R.DEP_STATUS_AV_LATCHED = false)
    (hb : u.rd R.SBX_STATE_HB = 1) :
    u.aliveToggle us = ((u.drive [22]).emit (.alive (!u.sys.alive))).withSys (fun x => { x with alive := !x.alive }) :=
  if_neg (by simp [h0, ho, hl, hb])

theorem U.aliveToggle_stopped {u : U} (us : Nat) (h : u.anyOpen3 = true ∨ u.on R.DEP_STATUS_AV_LATCHED = true ∨ u.rd R.SBX_STATE_HB ≠ 1) :
    u.aliveToggle us = u := by
  refine if_pos ?_
  rcases h with h | h | h <;> simp [h]

/-! ### The obligation -/

/-- Settles O28: each command is a function of the memory of the chip that it names; what those functions do is said above. -/
theorem memoryErrorCommandsComplete : Obligations.MemoryErrorCommandsComplete := by
  unfold Obligations.MemoryErrorCommandsComplete
  refine ⟨?scrubUnit, ?scrubHub, ?scrubCell, ?scrub, ?readUnit, ?loadUnit, ?readHub, ?readCell, ?injUnit, ?injHub, ?injCell, ?inj, ?alive,
    ?stopped, fun u t spans f h => if_pos h⟩
  case scrubUnit =>
    intro s n still hh
    rw [exec_scrubRead, execScrubRead, State.onChip_unit, State.onTime_after _ rfl ((U.deaf_whole rfl).trans hh)]
  case scrubHub =>
    intro s h n still hw hd
    rw [exec_scrubRead, execScrubRead, State.onChip_hub, State.onHub_heard _ hw hd]
  case scrubCell =>
    intro s cid n still ofs y hw hn
    rw [exec_scrubRead, execScrubRead, State.onChip_cell, State.onCellNow_next _ hw hn]
  case scrub =>
    intro io b size still ho hc hp
    have step := fun symbols still => MemIO.read_uninjected (io := io) (b := b) symbols still ho hc hp
    refine ⟨?_, ?_, ?_, ?_, fun n hn => ?_⟩
    · rw [MemIO.scrub, step]
      rfl
    · rw [MemIO.scrub_regs, step]
      rfl
    · rw [MemIO.scrub_raised, step]
      rfl
    · rw [MemIO.scrub_raised, step]
      exact MemIO.spareRow_raised (io.corrected b) _
    · rw [MemIO.scrub_raised, step, if_pos hn, decide_eq_false (Nat.not_lt.mpr hn), MemIO.uncorr_raised hp]
  case readUnit =>
    intro s addr hw hh
    rw [exec_memoryUncorrRead, execMemoryUncorrRead, State.onChip_unit, State.onTime_after _ hw ((U.deaf_whole rfl).trans hh)]
    rfl
  case loadUnit =>
    intro s addr c hw hh
    rw [exec_memoryUncorrRead, execMemoryUncorrRead, State.onChip_unit, State.onTime_after _ hw ((U.deaf_whole rfl).trans hh)]
    rfl
  case readHub =>
    intro s h addr c hw hd
    refine ⟨_, rfl, ?_⟩
    rw [exec_memoryUncorrRead, execMemoryUncorrRead, State.onChip_hub, State.onHub_heard _ hw hd]
  case readCell =>
    intro s cid addr c ofs y hw hn
    refine ⟨_, rfl, ?_⟩
    rw [exec_memoryUncorrRead, execMemoryUncorrRead, State.onChip_cell, State.onCellNow_next _ hw hn]
  case injUnit =>
    intro s a v hw hh
    rw [exec_sysInjWrite, execSysInjWrite, State.onChip_unit, State.onTime_after _ hw ((U.deaf_whole rfl).trans hh)]
  case injHub =>
    intro s h a v hw hd
    rw [exec_sysInjWrite, execSysInjWrite, State.onChip_hub, State.onHub_heard _ hw hd]
  case injCell =>
    intro s cid a v ofs y hw hn
    rw [exec_sysInjWrite, execSysInjWrite, State.onChip_cell, State.onCellNow_next _ hw hn]
  case inj =>
    intro io b v hc h12 h11 ho
    refine ⟨fun h => ?_, fun ht hlo hhi => ?_⟩
    · rw [MemIO.injWrite_once hc h12 h11 ho (by omega), if_pos (by simpa [or_assoc] using h)]
    · rw [MemIO.injWrite_once hc h12 h11 ho ht, if_neg (by simp)]
      refine ⟨rfl, ?_, ?_⟩
      · rw [MemIO.rd_wr_beside _ _ (by simp) (by simp), MemIO.rd_wr_beside _ _ (by simp) (by simp), MemIO.rd_wr_beside _ _ (by simp) (by simp),
          MemIO.rd_wr_beside _ _ (by simp) (by simp), MemIO.rd_wr_same]
        exact Nat.mod_eq_of_lt (bits_lt v 0 4)
      · rw [MemIO.rd_wr_beside _ _ (by simp) (by simp), MemIO.rd_wr_same]
        rfl
  case alive =>
    intro s hh h0 ho hl hb
    rw [exec_aliveToggle, execAliveToggle, State.onUnit_whole _ rfl rfl hh, U.aliveToggle_runs h0 ho hl hb]
  case stopped =>
    intro s hh h
    rw [exec_aliveToggle, execAliveToggle, State.onUnit_whole _ rfl rfl hh, U.aliveToggle_stopped _ h]

end Sys2Proof.Machine
end

section
/-! PROOFS. Escalation: what recording a cause on each chip leaves in the record of its block, and what clears that record (R444, R445). -/
namespace Sys2Proof.Machine

/-- A pass each step of which leaves a part leaves it. -/
theorem foldl_leaves {α β γ : Type} {p : β → γ} {f : β → α → β} (h : ∀ b a, p (f b a) = p b) (l : List α) (b : β) :
    p (l.foldl f b) = p b := by
  induction l generalizing b with
  | nil => rfl
  | cons a l ih => exact (ih _).trans (h b a)

/-! ### The unit -/

section Unit

theorem U.markCause_recs (u : U) (c : Cause) : (u.markCause c).recs = u.recs := by
  unfold U.markCause
  simp only
  split <;> rfl

theorem U.markFirst_recs (u : U) (ts : Nat) (c : Cause) (cls : Nat) (d : List (Nat × Nat × Nat)) :
    (u.markFirst ts c cls d).recs = u.recs := by
  unfold U.markFirst
  split
  · rfl
  · dsimp only
    refine foldl_leaves (p := U.recs) ?_ d _
    exact fun _ _ => rfl

theorem U.offer_recs (u : U) (ts cls src bit : Nat) : (u.offer ts cls src bit).recs = u.recs := by
  unfold U.offer
  show U.recs (ite _ _ _) = _
  split <;> rfl

/-- A class recorded is marked in the record of its block, and in no other. -/
theorem U.markClass_recs (u : U) (c : Cause) (cls : Nat) : (u.markClass c cls).recs = u.recs.set c.blk.st
    ⟨setBit (u.recOf c.blk).classes cls, (u.recOf c.blk).act2 || (cls == 2 && !c.lasting), (u.recOf c.blk).open3 || cls == 3⟩ := by
  unfold U.markClass
  show U.recs (ite _ _ _) = _
  split <;> rfl

/-- What a fault recorded leaves in the records: the final class, one above a base class that stands already (R445). -/
theorem U.record_recs (u : U) (ts : Nat) (c : Cause) (b : Nat) (d : List (Nat × Nat × Nat)) : ∃ a o : Bool,
    (u.record ts c (some b) d).2.recs =
      u.recs.set c.blk.st ⟨setBit (u.recOf c.blk).classes (escalate (u.recOf c.blk) b), a, o⟩ := by
  have same : (u.markCause c).recOf c.blk = u.recOf c.blk := congrArg (fun r => Tbl.get r c.blk.st Rec.zero) (u.markCause_recs c)
  have h := (u.markCause c).markClass_recs c (escalate (u.recOf c.blk) b)
  refine ⟨(u.recOf c.blk).act2 || (escalate (u.recOf c.blk) b == 2 && !c.lasting),
    (u.recOf c.blk).open3 || escalate (u.recOf c.blk) b == 3, ?_⟩
  rw [same, U.markCause_recs] at h
  simp only [U.record, same]
  split
  · rw [U.offer_recs, U.markFirst_recs, h]
  · rw [U.markFirst_recs, h]

theorem U.record_class (u : U) (ts : Nat) (c : Cause) (b : Nat) (d : List (Nat × Nat × Nat)) :
    (u.record ts c (some b) d).1 = escalate (u.recOf c.blk) b := by
  have same : (u.markCause c).recOf c.blk = u.recOf c.blk := congrArg (fun r => Tbl.get r c.blk.st Rec.zero) (u.markCause_recs c)
  exact congrArg (fun r => escalate r b) same

theorem U.record_info_recs (u : U) (ts : Nat) (c : Cause) (d : List (Nat × Nat × Nat)) : (u.record ts c none d).2.recs = u.recs :=
  u.markCause_recs c

/-- Glacier mode brought up to date leaves the records: its causes are Info (R474). -/
theorem U.glacier_recs (u : U) (t : TimeBase) : (u.glacier t).recs = u.recs := by
  simp only [U.glacier, apply_ite U.recs, U.record_info_recs, U.put_eq, U.wr_recs, ite_self]

theorem U.ack_recs (u : U) (t : TimeBase) (b : Blk) : (u.ack t b).recs = Tbl.erase u.recs b.st := U.glacier_recs _ _

theorem U.showLanes_recs (u before : U) (n : Nat) : (u.showLanes before n).recs = u.recs := by
  unfold U.showLanes
  exact foldl_leaves (p := U.recs) (fun v b => by dsimp only; split <;> rfl) _ u

theorem U.showAllLanes_recs (u before : U) : (u.showAllLanes before).recs = u.recs :=
  foldl_leaves (p := U.recs) (fun v n => v.showLanes_recs before n) _ u

theorem U.certFields_recs (u : U) : u.certFields.recs = u.recs := by
  unfold U.certFields
  exact foldl_leaves (p := U.recs) (fun v n => by dsimp only; split <;> rfl) _ u

theorem U.fuseFields_recs (u : U) : u.fuseFields.recs = u.recs := by
  unfold U.fuseFields
  dsimp only
  refine foldl_leaves (p := U.recs) ?_ _ _
  exact fun _ _ => rfl

theorem U.imageFirn_recs (u : U) (a : Nat) : (u.imageFirn a).recs = u.recs := by
  unfold U.imageFirn
  split <;> rfl

theorem U.imageYard_recs (u : U) (a : Nat) : (u.imageYard a).recs = u.recs := by
  unfold U.imageYard
  split <;> rfl

/-- What a reset of PD1 to PD11 leaves before the fuses and the straps show: the fields that it keeps, and no record (R514). -/
def U.resetKept (u : U) (cold : Bool) : U :=
  { U.zero with
    regs := u.regs.filter (fun e => decide (0x400000004 * 32 ≤ e.1) && decide (e.1 < 0x400000008 * 32))
    flash := u.flash, lf := u.lf, out := u.out, free := u.free,
    sbx := { Sbx.zero with hw := u.sbx.hw, supply := u.sbx.supply, osc := u.sbx.osc },
    sys := { Sys.zero with
      ep := u.sys.ep, count := u.sys.count, hist := u.sys.hist, bakCrc := u.sys.bakCrc, bakLost := u.sys.bakLost, fuse := u.sys.fuse,
      words := if cold then [] else u.sys.words, shadow := u.sys.shadow && !cold, owned := u.sys.owned, stretch := u.sys.stretch } }

/-- The fuses of `v` shown after a reset of `u` (R523). -/
def U.resetFuses (v u : U) (cold : Bool) : U :=
  let v := v.wr R.SYS_FUSE_FUSE_FAIL (u.rd R.SYS_FUSE_FUSE_FAIL)
  let v := if u.coldRuns then v.wr R.SYS_FUSE_FAILS (u.rd R.SYS_FUSE_FAILS) else v
  if cold then v else
    let v := (v.wr R.SYS_FUSE_STATE (u.rd R.SYS_FUSE_STATE)).wr R.SYS_FUSE_DEF_TRIM (u.rd R.SYS_FUSE_DEF_TRIM)
    if v.sys.shadow then v.fuseFields else v

theorem U.resetAll_eq (u : U) (cold : Bool) :
    u.resetAll cold = ((u.resetKept cold).strapFields.certFields.resetFuses u cold).showAllLanes u := rfl

theorem U.resetFuses_recs (v u : U) (cold : Bool) : (v.resetFuses u cold).recs = v.recs := by
  unfold U.resetFuses
  dsimp only
  split_ifs <;> simp only [U.fuseFields_recs, U.wr_recs]

/-- A reset of PD1 to PD11 clears every record: only BAK, the straps and what the package drives stand (R514). -/
theorem U.resetAll_recs (u : U) (cold : Bool) : (u.resetAll cold).recs = [] := by
  rw [U.resetAll_eq, U.showAllLanes_recs, U.resetFuses_recs, U.certFields_recs]
  rfl

theorem U.wipe_recs (u : U) (t : TimeBase) (lo hi : Nat) :
    (u.wipe t lo hi).recs = u.recs.filter (fun e => decide (e.1 < lo) || decide (hi ≤ e.1)) := U.glacier_recs _ _

/-- A Block reset leaves the records that its block does not hold (R514, R526). -/
theorem U.resetBlock_recs (u : U) (t : TimeBase) (i : Nat) : (u.resetBlock t i).recs =
    (u.wipe t (0x400000000 + i * 0x10000) (0x400000000 + i * 0x10000 + 0x10000)).recs := by
  unfold U.resetBlock
  simp only [apply_ite U.recs, U.imageFirn_recs, U.imageYard_recs, U.showAllLanes_recs]
  split_ifs <;> rfl

end Unit

/-! ### A hub -/

theorem H.blockAll_recs (w : H) : w.blockAll.recs = w.recs := by
  unfold H.blockAll
  refine foldl_leaves (p := H.recs) ?_ _ w
  exact fun _ _ => rfl

theorem H.showAlive_recs (w : H) : w.showAlive.recs = w.recs := by
  unfold H.showAlive
  split <;> rfl

/-- What a hub does at class 3 leaves its records. -/
theorem H.ownAvalanche_recs (w : H) : w.ownAvalanche.showAlive.recs = w.recs := w.ownAvalanche.showAlive_recs.trans w.blockAll_recs

/-- What a fault recorded by a hub leaves in its records. -/
theorem H.raise_recs (w : H) (x : HubAt) (c : Cause) (b : Nat) (d : List (Nat × Nat × Nat)) (h : c.cls = some b) : ∃ a o : Bool,
    (w.raise x c d).recs = w.recs.set c.blk.st
      ⟨setBit (w.recs.get c.blk.st Rec.zero).classes (escalate (w.recs.get c.blk.st Rec.zero) b), a, o⟩ := by
  refine ⟨false, (w.recs.get c.blk.st Rec.zero).open3 || escalate (w.recs.get c.blk.st Rec.zero) b == 3, ?_⟩
  unfold H.raise
  rw [h]
  extract_lets w1 dr ts w2 r
  dsimp -zeta only
  extract_lets cls recorded counted written first told
  have hrecorded : counted.recs = w.recs.set c.blk.st ⟨setBit r.classes cls, false, r.open3 || cls == 3⟩ := rfl
  have hfirst : first.recs = counted.recs := by
    unfold first
    split
    · rfl
    · refine foldl_leaves (p := H.recs) ?_ d _
      exact fun _ _ => rfl
  have htold : told.recs = first.recs := by
    unfold told
    split <;> rfl
  have hdone : ∀ p : Prop, [Decidable p] → H.recs (if p then told.ownAvalanche.showAlive else told) = told.recs := fun p _ => by
    split
    · exact H.ownAvalanche_recs told
    · rfl
  rw [hdone, htold, hfirst]
  exact hrecorded

/-! ### A cell -/

theorem C.ccpTrigger_recs (y : C) (bit : Nat) : (y.ccpTrigger bit).recs = y.recs := by
  unfold C.ccpTrigger
  dsimp only
  split <;> rfl

/-- What a fault recorded by a cell leaves in its records. -/
theorem C.raiseAt_recs (y : C) (ofs : Nat) (c : Cause) (b : Nat) (d : List (Nat × Nat × Nat)) : ∃ a o : Bool,
    (y.raiseAt ofs c (some b) d).recs = y.recs.set c.blk.st
      ⟨setBit (y.recs.get c.blk.st Rec.zero).classes (escalate (y.recs.get c.blk.st Rec.zero) b), a, o⟩ := by
  refine ⟨false, (y.recs.get c.blk.st Rec.zero).open3 || escalate (y.recs.get c.blk.st Rec.zero) b == 3, ?_⟩
  unfold C.raiseAt
  extract_lets w ev r
  dsimp -zeta only
  extract_lets cls recorded counted written first told forced
  have hrecorded : counted.recs = y.recs.set c.blk.st ⟨setBit r.classes cls, false, r.open3 || cls == 3⟩ := rfl
  have hfirst : first.recs = counted.recs := by
    unfold first
    split
    · rfl
    · refine foldl_leaves (p := C.recs) ?_ d _
      exact fun _ _ => rfl
  have htold : told.recs = first.recs := by
    unfold told
    split <;> rfl
  have hforced : forced.recs = told.recs := by
    unfold forced
    split <;> rfl
  have hdone : ∀ p : Prop, [Decidable p] → C.recs (if p then forced.ccpTrigger 1 else forced) = forced.recs := fun p _ => by
    split
    · exact C.ccpTrigger_recs _ _
    · rfl
  rw [hdone, hforced, htold, hfirst]
  exact hrecorded

/-- The reset of every block of a cell clears every record (R544). -/
theorem C.powerReset_recs (y : C) (uvlo : Bool) : (y.powerReset uvlo).recs = [] := by
  unfold C.powerReset
  simp only [apply_ite C.recs, C.emit_recs, ite_self]
  refine foldl_leaves (p := C.recs) ?_ _ _
  exact fun v sw => by split <;> rfl

/-! ### The obligation -/

theorem recOf_erased (r : Tbl Rec) (k : Nat) : (Tbl.get (Tbl.erase r k) k Rec.zero).classes = 0 := by
  rw [Tbl.get, Tbl.find?_erase_same]
  rfl

/-- Settles O52: a fault recorded sets its block's record by one write, which escalates the class; ACK and the resets drop the record. -/
theorem escalationOfClasses : Obligations.EscalationOfClasses := by
  unfold Obligations.EscalationOfClasses
  refine ⟨fun u t c d => rfl, ?unit, U.record_info_recs, ?hub, ?cell, ?ackUnit, ?ackHub, ?ackCell, U.resetAll_recs, ?block, C.powerReset_recs⟩
  case unit =>
    intro u ts c b d
    obtain ⟨a, o, h⟩ := u.record_recs ts c b d
    refine ⟨u.record_class ts c b d, ?_, fun k hk => ?_⟩
    · rw [U.recOf, h, Tbl.get_set_same]
      rfl
    · rw [U.recOf, h, Tbl.get_set_ne _ _ _ hk]
      rfl
  case hub =>
    intro w x c b d hc
    obtain ⟨a, o, h⟩ := w.raise_recs x c b d hc
    rw [h, Tbl.get_set_same]
    rfl
  case cell =>
    intro y ofs c b d
    obtain ⟨a, o, h⟩ := y.raiseAt_recs ofs c b d
    rw [h, Tbl.get_set_same]
    rfl
  case ackUnit =>
    intro u t b
    rw [U.recOf, U.ack_recs, recOf_erased]
  case ackHub =>
    intro w b
    exact recOf_erased _ _
  case ackCell =>
    intro y b
    have h : (y.ack b).recs = Tbl.erase y.recs b.st := by
      unfold C.ack
      dsimp only
      split <;> rfl
    rw [h, recOf_erased]
  case block =>
    intro u t i b hlo hhi
    have out : (decide (b.st < 0x400000000 + i * 0x10000) || decide (0x400000000 + i * 0x10000 + 0x10000 ≤ b.st)) = false := by
      simp [Nat.not_lt.mpr hlo, Nat.not_le.mpr hhi]
    rw [U.recOf, U.resetBlock_recs, U.wipe_recs, Tbl.get,
      Tbl.find?_filter_key u.recs (fun k => decide (k < 0x400000000 + i * 0x10000) || decide (0x400000000 + i * 0x10000 + 0x10000 ≤ k)),
      out]
    rfl

end Sys2Proof.Machine
end

section
/-! PROOFS. The link of a cell: reports without a frame (R323), point requests (R336 to R338), responses dropped (R339). -/
namespace Sys2Proof.Machine

/-! ### Reports and responses that wait (R323, R339) -/

section Waiting
variable {y : C}

theorem C.reportMiss_none (ofs : Nat) (h : y.clk.rpts = []) : y.reportMiss ofs = y.withClk (fun l => { l with rpts := [] }) := by
  simp only [C.reportMiss, h, List.any_nil, Bool.false_eq_true, if_false, C.withClk, List.filter_nil]

theorem C.reportMiss_lost {r : Report} (ofs : Nat) (h : y.clk.rpts = [r]) (hd : 2 ≤ dnDiff y.dn r.dn) (hu : r.doneU = false)
    (hdn : r.doneD = false) : y.reportMiss ofs = (y.withClk (fun l => { l with rpts := [] })).raise ofs CC.RPT_MISS [] := by
  simp [C.reportMiss, h, hd, hu, hdn, C.withClk]

theorem C.dropResponses_young (ofs : Nat) (h : ∀ r ∈ y.clk.resps, r.age < 64) :
    y.dropResponses ofs = y.withClk (fun l => { l with resps := l.resps }) := by
  have old : y.clk.resps.any (fun r => decide (r.age ≥ 64)) = false := by simpa using h
  have keep : y.clk.resps.filter (fun r => decide (r.age < 64)) = y.clk.resps := by simpa using h
  simp only [C.dropResponses, old, Bool.false_eq_true, if_false, C.withClk, keep]

theorem C.dropResponses_old {r : Resp} (ofs : Nat) (h : y.clk.resps = [r]) (ha : 64 ≤ r.age) :
    y.dropResponses ofs = ((y.withClk (fun l => { l with resps := [] })).feed).raise ofs CC.RSP_DROP [] := by
  simp [C.dropResponses, h, ha, Nat.not_lt.mpr ha, C.withClk]

end Waiting

/-! ### Requests acted on once (R338) -/

/-- The octets of a response with the ATT of the request that it answers. -/
def withAtt (att : Nat) (o : List Nat) : List Nat := o.set 4 (o.getD 4 0 % 16 + att % 4 * 16)

section Once
variable {y : C} {unitB : Bool} {tag att : Nat} {run : C → (List Nat × Bool) × C} {k : Kept}

/-- A request that has not been acted on: executed, its response kept and made ready. -/
theorem C.once_fresh (point : Bool) (h : Tbl.find? y.clk.kept (b2n unitB) = none) {r : (List Nat × Bool) × C}
    (hr : run (if point then y.inc R.CLK_CNT_C_REQ_EXEC else y) = r) : y.once unitB tag att point run =
      (r.2.withClk (fun l => { l with kept := l.kept.set (b2n unitB) (Kept.mk tag att (withAtt att r.1.1)) })).respond
        (withAtt att r.1.1) r.1.2 := by
  subst hr
  simp only [C.once, h]
  rfl

/-- A repeated request of the attempt that has been answered last. -/
theorem C.once_repeated (point : Bool) (h : Tbl.find? y.clk.kept (b2n unitB) = some k) (ht : k.tag = tag) (ha : k.att = att) :
    y.once unitB tag att point run = y := by
  simp only [C.once, h, ht, ha, ne_eq, not_true_eq_false, if_false, if_true]

/-- A repeated request of another attempt: answered with the response kept. -/
theorem C.once_again (point : Bool) (h : Tbl.find? y.clk.kept (b2n unitB) = some k) (ht : k.tag = tag) (ha : k.att ≠ att) :
    y.once unitB tag att point run = ((y.inc R.CLK_CNT_C_REQ_CACHE).withClk (fun l => { l with
      kept := l.kept.set (b2n unitB) { k with att := att } })).respond (withAtt att k.resp) false := by
  simp only [C.once, h, ht, ne_eq, not_true_eq_false, if_false, ha]
  rfl

end Once

/-! ### Point requests (R336, R337) -/

section Point
variable {y : C} {o : List Nat} (cid ofs : Nat)

theorem C.pointRequest_other (h : y.named (le o 2 2 % 32768) = false ∨ octet o 0 ≠ 2) : y.pointRequest cid ofs o = y := by
  refine if_pos ?_
  rcases h with h | h
  · simp [readPoint, h]
  · simp [isMsg, h]

/-- A request that names the cell is acted on once for its TAG and ATT. -/
theorem C.pointRequest_named {m : PointReq} (hm : m = readPoint o) (ho : octet o 0 = 2) (hn : y.named m.cid = true) :
    y.pointRequest cid ofs o = y.once m.unitB m.tag m.att true (fun c => c.pointExec cid ofs m) := by
  subst hm
  exact if_neg (by simp [isMsg, ho, hn])

/-- A READ of points checks the words that they show and answers their values. -/
theorem C.pointExec_read {m : PointReq} {z : C} (hop : m.op = 0) (h1 : 1 ≤ m.count) (h14 : m.count ≤ 14) (hend : m.first + m.count ≤ 1280)
    (hz : z = (List.range m.count).foldl (fun (c : C) i => c.pointMem ofs (m.first + i)) y) (hr : z.rst = none) :
    y.pointExec cid ofs m = (([3, m.tag] ++ toBytes 2 (z.addr16 m.unitB) ++ [0, m.count] ++ toBytes 2 m.first ++
      (List.range m.count).flatMap (fun i => toBytes 4 (z.pointRead (m.first + i))), false), z) := by
  have good : ¬ (decide (m.count = 0) || decide (m.count > 14) || decide (m.first + m.count > 1280)) = true := by
    simp only [Bool.or_eq_true, decide_eq_true_eq]
    omega
  have op1 : ¬ m.op > 1 := by omega
  have op0 : ¬ m.op = 1 := by omega
  simp only [C.pointExec, op1, good, op0, if_false, if_true, decide_false, decide_true, Bool.and_false, Bool.false_eq_true, ← hz, hr,
    Option.isSome_none, Bool.false_and]

end Point

/-! ### The obligation -/

section Now
variable {s : State} {cid ofs : Nat} {y : C}

theorem exec_rptMiss_now (hw : (Instr.rptMiss cid).wf = true) (hn : (s.cell cid).now cid = (ofs, y)) :
    exec (.rptMiss cid) s = .next (s.withCell cid (y.reportMiss ofs)) := by
  rw [exec_rptMiss, execRptMiss, State.onCellNow_next _ hw hn]

theorem exec_pointRequestRx_now {o : List Nat} {same : Option (List Nat)} (hw : (Instr.pointRequestRx cid o same).wf = true)
    (hn : (s.cell cid).now cid = (ofs, y)) :
    exec (.pointRequestRx cid o same) s = .next (s.withCell cid (y.pointRequest2 cid ofs o same)) := by
  rw [exec_pointRequestRx, execPointRequestRx, State.onCellNow_next _ hw hn]

theorem exec_pointRequestRx_alone {o : List Nat} (hw : (Instr.pointRequestRx cid o none).wf = true) (hn : (s.cell cid).now cid = (ofs, y)) :
    exec (.pointRequestRx cid o none) s = .next (s.withCell cid (y.pointRequest cid ofs o)) := exec_pointRequestRx_now hw hn

theorem exec_rspDrop_now (hw : (Instr.rspDrop cid).wf = true) (hn : (s.cell cid).now cid = (ofs, y)) :
    exec (.rspDrop cid) s = .next (s.withCell cid (y.dropResponses ofs)) := by
  rw [exec_rspDrop, execRspDrop, State.onCellNow_next _ hw hn]

end Now

/-- Settles O23: reports and responses are filtered by their age, and a point request is acted on by what is kept of the one before. -/
theorem cellLinkCommandsComplete : Obligations.CellLinkCommandsComplete := by
  unfold Obligations.CellLinkCommandsComplete
  refine ⟨?noReport, ?report, ?other, ?both, ?repeated, ?read, ?young, ?old⟩
  case noReport =>
    intro s cid ofs y hw hn h
    rw [exec_rptMiss_now hw hn, C.reportMiss_none _ h]
  case report =>
    intro s cid ofs y r hw hn h hd hu hdn
    rw [exec_rptMiss_now hw hn, C.reportMiss_lost _ h hd hu hdn]
  case other =>
    intro s cid o ofs y hw hn h
    rw [exec_pointRequestRx_alone hw hn, C.pointRequest_other _ _ h]
  case both =>
    intro s cid o p ofs y hw hn
    exact exec_pointRequestRx_now hw hn
  case repeated =>
    intro s cid o ofs y k m hw hn ho hm hnamed hk ht
    rw [exec_pointRequestRx_alone hw hn, C.pointRequest_named _ _ hm ho hnamed]
    exact ⟨fun ha => by rw [C.once_repeated _ hk ht ha], fun ha => by rw [C.once_again _ hk ht ha]; rfl⟩
  case read =>
    intro s cid q ofs y m z o hw hn ho hm hnamed hk hop h1 h14 hend hz _ hr hout
    have answered : (y.inc R.CLK_CNT_C_REQ_EXEC).pointExec cid ofs m = ((o, false), z) := by
      rw [C.pointExec_read cid ofs hop h1 h14 hend hz hr, hout]
    rw [exec_pointRequestRx_alone hw hn, C.pointRequest_named _ _ hm ho hnamed, C.once_fresh true hk answered]
    rfl
  case young =>
    intro s cid ofs y hw hn h
    rw [exec_rspDrop_now hw hn, C.dropResponses_young _ h]
  case old =>
    intro s cid ofs y r hw hn h ha
    rw [exec_rspDrop_now hw hn, C.dropResponses_old _ h ha]

end Sys2Proof.Machine
end

section
/-! PROOFS. The measurement block of a cell: conversion slots (R371, R373, R376, R378), the configuration of an entry (R374), the commit of
scale and offset (R379), reads of results (R380). -/
namespace Sys2Proof.Machine

/-! ### A conversion slot (R371, R373) -/

section Convert
variable {c : C}

/-- The entries that sample in a slot of this departure. -/
def C.samplers (c : C) (k : Nat) : List Nat := (List.range 16).filter (fun n => (c.ent n).live && c.owns n k && c.sampling n c.dn)

theorem C.samplers_none (k : Nat) (h : ∀ n < 16, (c.ent n).live = false) : c.samplers k = [] := by
  refine List.filter_eq_nil_iff.mpr fun n hn => ?_
  simp [h n (List.mem_range.mp hn)]

theorem C.convert_idle (cid : Nat) {k : Nat} (raw : Nat) (h : c.samplers k = []) : c.convert cid k raw = c := by
  unfold C.samplers at h
  simp only [C.convert, h]
  exact ite_self c

/-- The cell with a sample of an entry taken, before its output: counted, corrected and held for the filter (R376, R378). -/
def C.sampled (y : C) (n k : Nat) (x : Int) : C :=
  y.setEnt n (fun e => { e with
    n := e.n + 1, hist := ((y.correct n (k % 4) x, decide (x = -32768) || decide (x = 32767)) :: e.hist).take (y.order n * y.dec n),
    prev := some x })

/-- A slot that one entry samples, with no output due and no capture that follows the entry. -/
theorem C.convert_one {cid k raw n o : Nat} {y w : C} (hk : k < 20) (h : c.samplers k = [n]) (ho : o = max c.gte.ofs (800 * k))
    (hy : y = (c.withGte (fun g => { g with ofs := o })).placeEdges o) (hdue : (y.sampled n k (sx 16 raw)).outputDue n k = false)
    (hw : w = ((y.sampled n k (sx 16 raw)).adapt cid o n).slicePower (k % 4) k c.dn (if bitAt (y.rd R.ADC_CTL_PWR) (k % 4) then 0 else 2000))
    (hm : w.rd R.CCP_RATE_MASTER ≠ n) : c.convert cid k raw = w := by
  have late : (if (!bitAt (y.rd R.ADC_CTL_PWR) (k % 4)) = true then 2000 else 0) =
      if bitAt (y.rd R.ADC_CTL_PWR) (k % 4) then 0 else 2000 := by cases bitAt (y.rd R.ADC_CTL_PWR) (k % 4) <;> rfl
  have hdue' := hdue
  unfold C.sampled at hdue'
  unfold C.samplers at h
  subst ho
  simp only [C.convert, Nat.not_le.mpr hk, if_false, h, List.foldl_nil, ← hy, hdue', Bool.false_eq_true, late]
  unfold C.sampled at hw
  rw [← hw, if_neg (Ne.symm hm)]

end Convert

/-! ### The configuration of an entry (R374, R382) -/

section Enable
variable {y : C} {n v : Nat}

/-- The fields of an entry's configuration but for EN written with the bits of a store. -/
def C.entConfigured (y : C) (n v : Nat) : C :=
  (((((((y.wr (R.ADC_ENT_CFG_INPUT n) (bits v 1 4)).wr (R.ADC_ENT_CFG_GAIN n) (bits v 5 2)).wr (R.ADC_ENT_CFG_MODE n)
    (bits v 7 1)).wr (R.ADC_ENT_CFG_PDN n) (bits v 8 1)).wr (R.ADC_ENT_CFG_ORDER n) (bits v 9 2)).wr (R.ADC_ENT_CFG_ROLE n)
    (bits v 12 4)).wr (R.ADC_ENT_CFG_SLOT n) (bits v 16 5)).wr (R.ADC_ENT_CFG_STEP n) (bits v 21 5)

/-- EN written 1 where it is 0, with values of SLOT and STEP that the fields take. -/
theorem C.adcCfgWrite_enables (ofs : Nat) (hn : n < 16) (hl : y.on R.ADC_CTL_LOCK = false) (he : y.on (R.ADC_ENT_CFG_EN n) = false)
    (hslot : bits v 16 5 < 20) (hstep : bits v 21 5 = 4 ∨ bits v 21 5 = 20) (hv : bitAt v 0 = true) : y.adcCfgWrite ofs n v =
      if (y.entConfigured n v).adcRefused n then y.raise ofs CC.ADC_WR_REJ [(8, 4, n)]
      else ((y.entConfigured n v).wr (R.ADC_ENT_CFG_EN n) 1).power (y.entConfigured n v) := by
  have step : ((((bits v 21 5 = 1 ∨ bits v 21 5 = 2) ∨ bits v 21 5 = 4) ∨ bits v 21 5 = 5) ∨ bits v 21 5 = 10) ∨ bits v 21 5 = 20 := by
    omega
  simp [C.adcCfgWrite, Nat.not_le.mpr hn, hl, he, hv, hslot, step, C.entConfigured]
  rfl

end Enable

/-! ### The commit of scale and offset (R379) -/

section Commit
variable {y : C} {n v : Nat}

theorem C.ent_setEnt_same (c : C) (n : Nat) (f : AdcEnt → AdcEnt) : (c.setEnt n f).ent n = f (c.ent n) := Tbl.get_set_same _ _ _ _

theorem C.ent_setEnt_ne (c : C) {n m : Nat} (f : AdcEnt → AdcEnt) (h : m ≠ n) : (c.setEnt n f).ent m = c.ent m := Tbl.get_set_ne _ _ _ h

theorem C.adcOfsWrite_unlocked (ofs : Nat) (hn : n < 16) (hl : y.on R.ADC_CTL_LOCK = false) : y.adcOfsWrite ofs n v =
    ((y.wr (R.ADC_ENT_OFS_OFFSET n) v).wr (R.ADC_ENT_OFS_SHIFT n) (v / 2 ^ 24)).setEnt n (fun e => { e with
      scale := sx 32 (((y.wr (R.ADC_ENT_OFS_OFFSET n) v).wr (R.ADC_ENT_OFS_SHIFT n) (v / 2 ^ 24)).rd (R.ADC_ENT_SCALE_SCALE n))
      shift := bits v 24 5, off := sx 24 v }) := by
  simp only [C.adcOfsWrite, ge_iff_le, Nat.not_le.mpr hn, if_false, hl, Bool.false_eq_true]

theorem C.adcOfsWrite_locked (ofs : Nat) (hn : n < 16) (hl : y.on R.ADC_CTL_LOCK = true) : y.adcOfsWrite ofs n v =
    if bits v 0 24 == y.rd (R.ADC_ENT_OFS_OFFSET n) && bits v 24 5 == y.rd (R.ADC_ENT_OFS_SHIFT n) then y
    else y.raise ofs CC.ADC_WR_REJ [(8, 4, n)] := by
  simp only [C.adcOfsWrite, ge_iff_le, Nat.not_le.mpr hn, if_false, hl, if_true]

theorem entOfs_apart (n : Nat) : (R.ADC_ENT_OFS_SHIFT n).key ≠ (R.ADC_ENT_OFS_OFFSET n).key :=
  Fld.key_ne_of_lo rfl (show 24 ≠ 0 by decide)

theorem entScale_apart : ∀ n < 16, (R.ADC_ENT_SCALE_SCALE n).key ≠ (R.ADC_ENT_OFS_OFFSET n).key ∧
    (R.ADC_ENT_SCALE_SCALE n).key ≠ (R.ADC_ENT_OFS_SHIFT n).key := by decide

end Commit

theorem C.adcResRead_entry {c : C} {n : Nat} (hn : n < 16) : c.adcResRead n =
    ((c.wr (R.ADC_ENT_RES_DN_DN n) (c.ent n).dn).emit (.readData 0 (R.ADC_ENT_RES_RES n).addr (c.rd (R.ADC_ENT_RES_RES n)))) :=
  if_neg (Nat.not_le.mpr hn)

/-! ### The obligation -/

/-- Settles O24: a slot is converted for the entries that sample in it; a store to an entry is checked and then written. -/
theorem measurementCommandsComplete : Obligations.MeasurementCommandsComplete := by
  unfold Obligations.MeasurementCommandsComplete
  refine ⟨?idle, ?sample, ?enable, ?commit, ?locked, ?result⟩
  case idle =>
    intro s cid k raw hw h
    rw [exec_adcConversion, execAdcConversion, State.onCell_next _ _ hw, C.convert_idle _ _ (C.samplers_none k h)]
    rfl
  case sample =>
    intro s cid k raw n hw h o y x ho hy hx z hz hdue w late hlate hwv hm
    have hk : k < 20 := by simp_all [wf_adcConversion]
    subst hx hz hlate
    rw [exec_adcConversion, execAdcConversion, State.onCell_next _ _ hw, C.convert_one hk h ho hy hdue hwv hm]
    rfl
  case enable =>
    intro s cid n v ofs y hw hnow hl he hslot hstep hv z hz
    have hn : n < 16 := by simp_all [wf_adcEntryEnable]
    obtain rfl : z = y.entConfigured n v := hz
    rw [exec_adcEntryEnable, execAdcEntryEnable, State.onCellNow_next _ hw hnow, C.adcCfgWrite_enables ofs hn hl he hslot hstep hv]
    exact ⟨fun h => by rw [if_neg (Bool.eq_false_iff.mp h)], fun h => by rw [if_pos h]⟩
  case commit =>
    intro s cid n v ofs y hw hnow hl
    have hn : n < 16 := by simp_all [wf_adcOfsCommit]
    rw [exec_adcOfsCommit, execAdcOfsCommit, State.onCellNow_next _ hw hnow, C.adcOfsWrite_unlocked ofs hn hl]
    refine ⟨_, rfl, ?_, ?_, ?_, ?_, fun m hm => C.ent_setEnt_ne _ _ hm⟩
    · rw [C.ent_setEnt_same]
    · rw [C.ent_setEnt_same]
    · rw [C.ent_setEnt_same, C.rd_wr_ne _ _ (entScale_apart n hn).2, C.rd_wr_ne _ _ (entScale_apart n hn).1]
    · exact (C.rd_wr_ne _ _ (entOfs_apart n).symm).trans (C.rd_wr_same _ _ _)
  case locked =>
    intro s cid n v ofs y hw hnow hl
    have hn : n < 16 := by simp_all [wf_adcOfsCommit]
    rw [exec_adcOfsCommit, execAdcOfsCommit, State.onCellNow_next _ hw hnow, C.adcOfsWrite_locked ofs hn hl]
    refine ⟨fun h => ?_, fun h1 h2 => by rw [if_pos (by simp [h1, h2])]⟩
    rw [if_neg (by rcases h with h | h <;> simp [beq_eq_false_iff_ne.mpr h])]
  case result =>
    intro s cid n hw
    have hn : n < 16 := by simp_all [wf_adcResRead]
    rw [exec_adcResRead, execAdcResRead, State.onCell_next _ _ hw, C.adcResRead_entry hn]
    rfl

end Sys2Proof.Machine
end

section
/-! PROOFS. The frames that a hub receives: Trackway frames at its loop ends (R307, R310, R314, R324, R325) and the blocks of Mainline frames
(R326, R330, R331, R349, R350), and its queues (R340). -/
namespace Sys2Proof.Machine

/-! ### Trackway frames (R298, R300, R310, R324, R334) -/

section Track
variable {w v z : H} {x : HubAt} {lane tr : Nat} {chars : List Nat}

/-- A lane in a near-end loopback hears nothing that it has not sent (R298). -/
theorem H.trackwayRx_looped (hl : w.laneIO.looped (hubLaneBase lane) = true) (ho : Output.trackway lane chars ∉ w.out) :
    w.trackwayRx x lane tr chars = w := by
  simp [H.trackwayRx, hl, ho]

/-- Any other frame counts its code errors, and is judged by its check where its lane is UP. -/
theorem H.trackwayRx_heard (hn : lane < 128) (ho : w.laneIO.looped (hubLaneBase lane) = false ∨ Output.trackway lane chars ∈ w.out)
    (hv : v = w.onLane x lane (fun io => io.frameErrors (hubLaneBase lane) w.dn (twErrors chars))) :
    (v.laneUp lane = false ∨ twCheck chars = .cut → w.trackwayRx x lane tr chars = v) ∧
    (v.laneUp lane = true → v.spoiled x lane = (false, z) →
      (twCheck chars = .good → w.trackwayRx x lane tr chars = z.trackwayGood lane tr (readTw chars)) ∧
      (twCheck chars = .stomped → w.trackwayRx x lane tr chars = z) ∧
      (twCheck chars = .bad → w.trackwayRx x lane tr chars = z.checkFails x lane)) := by
  have shut : ¬ (128 ≤ lane ∨ w.laneIO.looped (hubLaneBase lane) = true ∧ Output.trackway lane chars ∉ w.out) := by
    rcases ho with h | h <;> simp [h, hn]
  refine ⟨?_, fun hup hs => ⟨?_, ?_, ?_⟩⟩
  · rintro (h | h)
    · simp [H.trackwayRx, shut, ← hv, h]
    · simp [H.trackwayRx, shut, ← hv, h]
  all_goals
    intro hk
    simp [H.trackwayRx, shut, ← hv, hup, hs, hk]

end Track

/-- The reports that a frame yields: of the positions that report, with a sample that differs from the one kept. -/
theorem H.mem_reports (w : H) (l : Nat) (f : TwFrame) (p : Nat) (b : List Nat) : (p, b) ∈ w.reports l f ↔
    p < 8 ∧ f.rpts.find? (fun e => e.1 == p) = some (p, b) ∧ bitAt (f.cstat.getD p 0) 1 = true ∧
      Tbl.find? (w.loop l).sample p ≠ some (le b 0 4) := by
  unfold H.reports
  rw [List.mem_filterMap]
  constructor
  · rintro ⟨q, hq, h⟩
    cases hf : f.rpts.find? (fun e => e.1 == q) with
    | none => rw [hf] at h; cases h
    | some e =>
      have hkey : e.1 = q := by simpa using List.find?_some hf
      rw [hf] at h
      simp only [Bool.and_eq_true, bne_iff_ne, Option.ite_none_right_eq_some, Option.some.injEq, Prod.mk.injEq] at h
      obtain ⟨⟨hrep, hnew⟩, rfl, rfl⟩ := h
      exact ⟨List.mem_range.mp hq, by rw [← hkey] at hf ⊢; exact hf, hrep, hnew⟩
  · rintro ⟨hp, hf, hrep, hnew⟩
    refine ⟨p, List.mem_range.mpr hp, ?_⟩
    simp only [hf, hrep, bne_iff_ne.mpr hnew, Bool.and_self, if_true]

/-! ### Mainline frames (R298, R301, R326, R330, R331) -/

section Main
variable {w v z : H} {x : HubAt} {n lane arr done : Nat} {blocks : List Block} {b : List Nat} {f : OrderFrame}

theorem H.hears_looped (hl : w.laneIO.looped (hubLaneBase n) = true) (ho : Output.mainline n blocks ∉ w.out) :
    w.hears x n blocks = (false, w) := by
  simp [H.hears, hl, ho]

theorem H.hears_headers (h : w.laneIO.looped (hubLaneBase n) = false ∨ Output.mainline n blocks ∈ w.out)
    (hv : v = w.onLane x n (fun io => io.headerErrors (hubLaneBase n) (blocks.map (fun b => b.1)))) :
    w.hears x n blocks = (v.laneUp n, v) := by
  subst hv
  rcases h with h | h <;> simp [H.hears, h]

theorem H.orderRx_unheard (hl : 128 ≤ lane ∧ lane < 132) (hh : w.hears x lane blocks = (false, v)) : w.orderRx x lane arr done blocks = v := by
  simp [H.orderRx, Nat.not_lt.mpr hl.1, Nat.not_le.mpr hl.2, hh]

/-- What a frame that is heard and not spoiled does, by its check and its byte 0. -/
theorem H.orderRx_checkFails (hl : 128 ≤ lane ∧ lane < 132) (hh : w.hears x lane blocks = (true, v)) (hs : v.spoiled x lane = (false, z))
    (hb : readBlocks blocks = none) : w.orderRx x lane arr done blocks = z.checkFails x lane := by
  simp [H.orderRx, Nat.not_lt.mpr hl.1, Nat.not_le.mpr hl.2, hh, hs, hb]

theorem H.orderRx_order (hl : 128 ≤ lane ∧ lane < 132) (hh : w.hears x lane blocks = (true, v)) (hs : v.spoiled x lane = (false, z))
    (hb : readBlocks blocks = some b) (hm : octet b 0 = 1) : w.orderRx x lane arr done blocks = z.order x lane arr done (readOrder b) := by
  simp [H.orderRx, Nat.not_lt.mpr hl.1, Nat.not_le.mpr hl.2, hh, hs, hb, isMsg, hm]

theorem H.orderRx_time (hl : 128 ≤ lane ∧ lane < 132) (hh : w.hears x lane blocks = (true, v)) (hs : v.spoiled x lane = (false, z))
    (hb : readBlocks blocks = some b) (hm : octet b 0 = 3) : w.orderRx x lane arr done blocks = z.timeRx b := by
  simp [H.orderRx, Nat.not_lt.mpr hl.1, Nat.not_le.mpr hl.2, hh, hs, hb, isMsg, hm]

/-! ### Which order is kept (R330, R349, R350) -/

section Order
variable (hv : v = ((({ w with got := true } : H).refer f).estimate arr f).entries x arr f)
include hv

/-- With nothing launched yet, the first order of a DN is kept; a second one counts, and is kept where it wins. -/
theorem H.order_first (hl : v.last = none) (ho : Tbl.find? v.orders f.dn = none) :
    w.order x lane arr done f = { v with orders := v.orders.set f.dn ⟨done, lane, f⟩ } := by
  simp [H.order, ← hv, hl, ho]

theorem H.order_again {o : HeldOrder} (hl : v.last = none) (ho : Tbl.find? v.orders f.dn = some o) :
    w.order x lane arr done f =
      (if o.yields done lane f then { v with orders := v.orders.set f.dn ⟨done, lane, f⟩ } else v).inc R.HTW_CNT_B_DUP := by
  simp [H.order, ← hv, hl, ho]

/-- An order for a DN that has been launched only counts. -/
theorem H.order_past {d : Nat} (hl : v.last = some d) (hd : dnDiff f.dn d ≤ 0) : w.order x lane arr done f = v.inc R.HTW_CNT_B_DUP := by
  simp [H.order, ← hv, hl, hd]

end Order
end Main

/-! ### The queue of a loop (R340) -/

section Queue
variable {w : H} {x : HubAt} {l : Nat} {m : List Nat}

theorem H.enqueue_room (hl : l < 64) (h : (w.loop l).queue.length < 4) :
    w.enqueue x l m = w.onLoop l (fun p => { p with queue := p.queue ++ [m] }) := by
  simp [H.enqueue, Nat.not_le.mpr hl, Nat.not_le.mpr h]

theorem H.enqueue_full (hl : l < 64) (h : 4 ≤ (w.loop l).queue.length) :
    w.enqueue x l m = (w.inc R.HTW_CNT_C_QDROP_CNT).raiseLoop x HC.QDROP l := by
  simp [H.enqueue, Nat.not_le.mpr hl, h]

end Queue

/-! ### The commands -/

section Heard
variable {s : State} {h lane tr arr done : Nat}

theorem exec_hubTrackwayRx_heard {chars : List Nat} {same : Option (Nat × List Nat)} (hw : (Instr.hubTrackwayRx h lane tr chars same).wf = true)
    (hd : (s.hub h).held = false ∧ (s.hub h).blockHeld 2 = false) : exec (.hubTrackwayRx h lane tr chars same) s =
      .next (s.withHub h ((s.hub h).trackwayRx2 (s.hubAt h) lane tr chars same)) := by
  have hd' : (s.hub h).deaf (.hubTrackwayRx h lane tr chars same) = false := by simp [H.deaf, Instr.hubHome, hd]
  rw [exec_hubTrackwayRx, execHubTrackwayRx, State.onHub_heard _ hw hd']

theorem H.hears_trackway {chars : List Nat} (hd : (s.hub h).deaf (.hubTrackwayRx h lane tr chars none) = false) :
    (s.hub h).held = false ∧ (s.hub h).blockHeld 2 = false := by
  simpa [H.deaf, Instr.hubHome] using hd

theorem exec_hubOrderRx_heard {blocks : List Block} (hw : (Instr.hubOrderRx h lane arr done blocks).wf = true)
    (hd : (s.hub h).deaf (.hubOrderRx h lane arr done blocks) = false) : exec (.hubOrderRx h lane arr done blocks) s =
      .next (s.withHub h ((s.hub h).orderRx (s.hubAt h) lane arr done blocks)) := by
  rw [exec_hubOrderRx, execHubOrderRx, State.onHub_heard _ hw hd]

theorem mainlineLane_of_wf {blocks : List Block} (hw : (Instr.hubOrderRx h lane arr done blocks).wf = true) : 128 ≤ lane ∧ lane < 132 := by
  simp only [wf_hubOrderRx, Bool.and_eq_true, decide_eq_true_eq] at hw
  exact ⟨hw.1.1.1.1.2, hw.1.1.1.2⟩

end Heard

/-! ### The obligation -/

/-- Settles O21: a frame is judged by what its lane hears and by its check; what passes yields reports, mailboxes and orders. -/
theorem hubFramesComplete : Obligations.HubFramesComplete := by
  unfold Obligations.HubFramesComplete
  refine ⟨?one, ?both, ?frame, ?looped, ?good, ?reports, ?unheard, ?heard, ?hears, ?order, ?room, ?full⟩
  case one =>
    intro s h lane tr chars hw hd
    exact exec_hubTrackwayRx_heard hw (H.hears_trackway hd)
  case both =>
    intro s h lane tr chars tr' chars' hl hw hw' hd t ht
    subst ht
    constructor
    · rw [exec_hubTrackwayRx_heard hw (H.hears_trackway hd), H.trackwayRx2]
      simp only [if_pos hl]
    · rw [exec_hubTrackwayRx_heard hw' (H.hears_trackway hd), H.trackwayRx2]
      simp only [if_neg (show ¬ lane + 64 < 64 by omega), Nat.add_sub_cancel]
  case frame =>
    intro w v x lane tr chars hn ho hv
    exact ⟨(H.trackwayRx_heard (z := v) hn ho hv).1, fun z => (H.trackwayRx_heard hn ho hv).2⟩
  case looped => exact fun w x lane tr chars hl ho => H.trackwayRx_looped hl ho
  case good =>
    rintro w lane tr f l v rs rfl rfl rfl z rfl
    rfl
  case reports => exact fun w l f p b => H.mem_reports w l f p b
  case unheard =>
    intro s h lane arr done blocks v hw hd hh
    rw [exec_hubOrderRx_heard hw hd, H.orderRx_unheard (mainlineLane_of_wf hw) hh]
  case heard =>
    intro s h lane arr done blocks v w hw hd hh hs
    have hl := mainlineLane_of_wf hw
    rw [exec_hubOrderRx_heard hw hd]
    refine ⟨fun hb => ?_, fun b hb hm => ?_, fun b hb hm => ?_⟩
    · rw [H.orderRx_checkFails hl hh hs hb]
    · rw [H.orderRx_order hl hh hs hb hm]
    · rw [H.orderRx_time hl hh hs hb hm]
  case hears => exact fun w x n blocks => ⟨H.hears_looped, fun h v hv => H.hears_headers h hv⟩
  case order =>
    intro w x lane arr done f v hv
    refine ⟨H.order_first hv, fun o hl ho hy => ?_, fun o hl ho hy => ?_, fun d hl hd => H.order_past hv hl hd⟩
    · rw [H.order_again hv hl ho, hy, if_neg Bool.false_ne_true]
    · rw [H.order_again hv hl ho, hy, if_pos rfl]
  case room => exact fun w x l m hl h => H.enqueue_room hl h
  case full => exact fun w x l m hl h => H.enqueue_full hl h

end Sys2Proof.Machine
end

section
/-! PROOFS. Capture, streams, snapshots and timed commands on the unit (R386 to R400), and the capture of a cell (R403). -/
namespace Sys2Proof.Machine

/-! ### The capture of the unit (R386, R387, R390, R392) -/

section Arm
variable {u : U} {t : TimeBase}

theorem U.capArm_running (h : u.capRuns = true) : u.capArm t = u := by simp [U.capArm, U.capArmBad, U.capStart, h]

theorem U.capArm_refused (h : u.capRuns = false) (hr : 768 * 65536 < u.capRegion.1 + u.capRegion.2) :
    u.capArm t = u.raise t CAP.WR_REJ [] := by simp [U.capArm, U.capArmBad, h, hr]

theorem U.capArm_taken (hr : u.capRegion.1 + u.capRegion.2 ≤ 768 * 65536) (hs : u.on R.CAP_CTL_SINK = false) :
    u.capArm t = u.capStart t := by
  simp [U.capArm, U.capArmBad, hs, Nat.not_lt.mpr hr]

variable {v : U} {d : Nat} (h : u.capRuns = false) (hd : d = u.capRegion.2 / u.capRowSize)
  (hv : v = (u.wr R.CAP_GEOM_DEPTH d).wr R.CAP_GEOM_ROW16 (u.capRowSize / 16))
include h hd hv

/-- The geometry of a capture is set before its mode and its POST are read, which it leaves as they were. -/
theorem U.capStart_geometry : u.capStart t =
    if u.on R.CAP_CTL_MODE then (((v.wr R.CAP_STATE_STATE 4).wr R.CAP_SPROD_PROD 0).wr R.CAP_SCONS_CONS 0).withCap (fun _ => Cap.zero)
    else (((((if u.rd R.CAP_POST_POST > d then v.raise t CAP.POST_CLAMP [] else v).wr R.CAP_STATE_STATE 1).wr R.CAP_CNT_TRIG_IGN 0).wr
      R.CAP_CNT_FRAMES 0).withCap (fun _ => { Cap.zero with post := min (u.rd R.CAP_POST_POST) d })) := by
  have hmode : v.on R.CAP_CTL_MODE = u.on R.CAP_CTL_MODE := by
    rw [hv, U.on, U.on, U.rd_wr_ne _ _ (by decide), U.rd_wr_ne _ _ (by decide)]
  have hpost : v.rd R.CAP_POST_POST = u.rd R.CAP_POST_POST := by
    rw [hv, U.rd_wr_ne _ _ (by decide), U.rd_wr_ne _ _ (by decide)]
  simp only [U.capStart, h, ← hd, ← hv, hmode, hpost, Bool.false_eq_true, if_false]

end Arm

section Stop
variable {u : U} {t : TimeBase}

theorem U.capStop_running (h : u.capRuns = true) : u.capStop t =
    ((u.wr R.CAP_STATE_STATE 3).withCap (fun c => { c with due := 0 })).raise t CAP.DONE [] := if_pos h

theorem U.capStop_idle (h : u.capRuns = false) : u.capStop t = u := if_neg (Bool.eq_false_iff.mp h)

theorem U.capSwtrig_running (h : u.capRuns = true) : u.capSwtrig = u.withCap (fun c => { c with due := setBit c.due 3 }) := if_pos h

theorem U.capSwtrig_idle (h : u.capRuns = false) : u.capSwtrig = u := if_neg (Bool.eq_false_iff.mp h)

end Stop

/-! ### The streams (R394, R395, R396) -/

section Stream
variable {u w : U} {t : TimeBase}

theorem U.streamFrame_empty (h : u.streamHas false = false) : u.streamFrame t = u := by simp [U.streamFrame, h]

theorem U.streamFrame_sends (h : u.streamHas false = true) (hn : u.capState = 3 ∨ u.streamMost ≤ u.cap.total) :
    u.streamFrame t = u.reading t (u.streamSpans (min u.streamMost u.cap.total)) (fun w => w.streamOut (min u.streamMost u.cap.total)) := by
  have full : ¬ (u.capState = 4 ∧ u.cap.total < u.streamMost) := by omega
  simp [U.streamFrame, h, full]

/-- The octets of a frame: the destination, the port's own address, then what both ports send. -/
theorem U.streamOut_frames (u : U) (n : Nat) : ∃ x y body dest, dest = (toBytes 2 (u.rd R.CAP_MAC_H_MAC_HI)).reverse ++
      (toBytes 4 (u.rd R.CAP_MAC_L_MAC_LO)).reverse ∧ x.length = 6 ∧ y.length = 6 ∧
    u.streamOut n = (((u.ethSend (u.rd R.CAP_CTL_SINK_PAIR) (dest ++ x ++ body) (dest ++ y ++ body)).streamTake n).withCap
      (fun c => { c with seq := (c.seq + 1) % 65536 })).inc R.CAP_CNT_FRAMES :=
  ⟨_, _, _, _, rfl, by rw [List.length_reverse, toBytes_length], by rw [List.length_reverse, toBytes_length], rfl⟩

theorem U.streamFlash_empty (h : u.streamHas true = false) : u.streamFlash t = u := by simp [U.streamFlash, h]

theorem U.flashFull_iff : u.flashFull = true ↔ u.rd R.CAP_FLASH_LEN_LEN * 65536 <
    u.cap.flash * (u.rd R.CAP_GEOM_ROW16 * 16) + u.rd R.CAP_GEOM_ROW16 * 16 := by
  rw [U.flashFull, decide_eq_true_eq, Nat.add_one_mul]

theorem U.streamFlash_full (h : u.streamHas true = true) (hf : u.flashFull = true) : u.streamFlash t = u.streamEnd t := by
  simp [U.streamFlash, h, hf]

theorem U.streamFlash_row (h : u.streamHas true = true) (hf : u.flashFull = false) (hw : w = u.reading t (u.streamSpans 1) U.streamStore) :
    u.streamFlash t = if w.flashFull then w.streamEnd t else w := by
  simp [U.streamFlash, h, hf, ← hw]

end Stream

/-! ### Snapshots and the timed command (R397, R398, R399) -/

section Snapshot
variable {u : U} {t : TimeBase} {latch : U}

/-- A source that fires while no copy runs latches the image. -/
theorem U.snapshot_latched {w : U} {n : Nat} (hf : u.snp.fired ≠ 0) (hb : u.blockHeld 2 = false) (hi : u.snp.image = none)
    (ht : u.on R.CAP_CTL_TRIG_SNP = false) (hn : n = (u.rd R.SNP_LAST_SEQ + 1) % 65536)
    (hw : w = (({ u with snp := { u.snp with fired := 0 } } : U).wr R.SNP_LAST_SEQ n).wr R.SNP_LAST_SRC u.snp.fired) :
    u.snapshot t latch = { w with snp := { w.snp with image := some (w.snpImage t latch n u.snp.fired) } } := by
  have ht' : w.on R.CAP_CTL_TRIG_SNP = false := by
    rw [hw, U.on, U.rd_wr_ne _ _ (by decide), U.rd_wr_ne _ _ (by decide)]; exact ht
  subst hw hn
  have hi' : ¬ u.snp.image.isSome = true := by rw [hi]; exact Bool.false_ne_true
  exact (if_neg hf).trans ((if_neg (Bool.eq_false_iff.mp hb)).trans ((if_neg hi').trans (if_neg (Bool.eq_false_iff.mp ht'))))

theorem U.snpCopied_none (h : u.snp.image = none) : u.snpCopied = u := by simp only [U.snpCopied, h]

theorem U.snpCopied_image {ws : List (Nat × Nat)} {v : U} (h : u.snp.image = some ws)
    (hv : v = ws.foldl (fun (u : U) w => u.memPut (u.rd R.SNP_BASE_BASE * 8192 + w.1) (toBytes 4 w.2)) u) :
    u.snpCopied = { v with snp := { v.snp with image := none } } := by simp only [U.snpCopied, h, ← hv]

theorem U.tcmdOk_iff : u.tcmdOk t = true ↔ (u.rd R.DEP_CTL_LEAD + 4 : Nat) ≤ dnDiff (u.rd R.SNP_TCMD_DN_DN) t.dn ∧
    dnDiff (u.rd R.SNP_TCMD_DN_DN) t.dn ≤ 65535 ∧ u.on R.SNP_TCMD_GO = false ∧ (u.rd R.SNP_TCMD_CMD = 1 ∨ u.rd R.SNP_TCMD_CMD = 2) := by
  simp only [U.tcmdOk, Bool.and_eq_true, Bool.or_eq_true, Bool.not_eq_true', decide_eq_true_eq, beq_iff_eq, and_assoc]

end Snapshot

/-! ### The capture of a cell (R403) -/

section Cell
variable {y : C} {ofs : Nat}

/-- Whether a cell's capture runs, as ARM, STOP and SWTRIG read it. -/
theorem C.ccpArm_idle {d : Nat} (h : y.rd R.CCP_STATE_STATE = 0 ∨ y.rd R.CCP_STATE_STATE = 3) (hd : d = 524288 / y.rowBytes)
    (hp : y.rd R.CCP_POST_POST ≤ d) : y.ccpArm ofs =
      (((y.wr R.CCP_STATE_STATE 1).wr R.CCP_STATE_TRIG_CAUSE 0).wr R.CCP_STATE_TRIG_ROW 0).withCcp
        (fun _ => { Ccp.zero with depth := d, size := y.rowBytes, post := y.rd R.CCP_POST_POST, clamp := false }) := by
  have idle : ¬ (y.rd R.CCP_STATE_STATE = 1 ∨ y.rd R.CCP_STATE_STATE = 2) := by omega
  simp [C.ccpArm, idle, ← hd, Nat.not_lt.mpr hp, Nat.min_eq_left hp]

theorem C.ccpArm_running (h : y.rd R.CCP_STATE_STATE = 1 ∨ y.rd R.CCP_STATE_STATE = 2) : y.ccpArm ofs = y := by simp [C.ccpArm, h]

theorem C.ccpStop_running (h : y.rd R.CCP_STATE_STATE = 1 ∨ y.rd R.CCP_STATE_STATE = 2) : y.ccpStop ofs =
    ((y.withCcp (fun p => { p with due := 0 })).wr R.CCP_STATE_STATE 3).raise ofs CC.DONE [] := by simp [C.ccpStop, h, C.ccpDone]

theorem C.ccpStop_idle (h : y.rd R.CCP_STATE_STATE = 0 ∨ y.rd R.CCP_STATE_STATE = 3) : y.ccpStop ofs = y := by
  have idle : ¬ (y.rd R.CCP_STATE_STATE = 1 ∨ y.rd R.CCP_STATE_STATE = 2) := by omega
  simp [C.ccpStop, idle]

end Cell

/-! ### The obligation -/

/-- Settles O25: captures are armed, stopped and triggered, streams sent, snapshots latched and copied, and timed commands checked. -/
theorem captureCommandsComplete : Obligations.CaptureCommandsComplete := by
  unfold Obligations.CaptureCommandsComplete
  refine ⟨?arm, ?armRuns, ?armBad, ?stop, ?stopIdle, ?trig, ?trigIdle, ?frameNone, ?frame, ?frameOut, ?flashNone, ?flashFull, ?flash, ?store,
    ?fire, ?snap, ?copyNone, ?copy, ?go, ?goBad, ?ccpArm, ?ccpArmRuns, ?ccpStop, ?ccpStopIdle, ?ccpTrig, ?ccpTrigIdle⟩
  case arm =>
    intro s d hd hr hreg hsink hdep v hv
    rw [exec_capArm, execCapArm, State.onUnit_after _ wf_capArm hd, U.capArm_taken hreg hsink, U.capStart_geometry hr hdep hv]
    refine ⟨fun hm => by rw [if_pos hm], fun hm hp => ?_, fun hm hp => ?_⟩
    · rw [if_neg (Bool.eq_false_iff.mp hm), if_neg (Nat.not_lt.mpr hp), Nat.min_eq_left hp]
    · rw [if_neg (Bool.eq_false_iff.mp hm), if_pos hp, Nat.min_eq_right (Nat.le_of_lt hp)]
  case armRuns =>
    intro s hd hr
    rw [exec_capArm, execCapArm, State.onUnit_after _ wf_capArm hd, U.capArm_running hr]
  case armBad =>
    intro s hd hr hreg
    rw [exec_capArm, execCapArm, State.onUnit_after _ wf_capArm hd, U.capArm_refused hr hreg]
  case stop =>
    intro s hd hr
    rw [exec_capStop, execCapStop, State.onUnit_after _ wf_capStop hd, U.capStop_running hr]
  case stopIdle =>
    intro s hd hr
    rw [exec_capStop, execCapStop, State.onUnit_after _ wf_capStop hd, U.capStop_idle hr]
  case trig =>
    intro s hd hr
    rw [exec_capSwtrig, execCapSwtrig, State.onUnit_after _ wf_capSwtrig hd, U.capSwtrig_running hr]
  case trigIdle =>
    intro s hd hr
    rw [exec_capSwtrig, execCapSwtrig, State.onUnit_after _ wf_capSwtrig hd, U.capSwtrig_idle hr]
  case frameNone =>
    intro s hd h
    rw [exec_streamFrameSend, execStreamFrameSend, State.onUnit_after _ wf_streamFrameSend hd, U.streamFrame_empty h]
  case frame =>
    intro s n hd h hn hs
    rw [exec_streamFrameSend, execStreamFrameSend, State.onUnit_after _ wf_streamFrameSend hd, U.streamFrame_sends h hs, hn]
    rfl
  case frameOut =>
    intro u n
    obtain ⟨x, y, body, dest, hdest, hx, hy, hout⟩ := U.streamOut_frames u n
    have hlen : dest.length = 6 := by rw [hdest]; simp
    refine ⟨_, _, hout, ?_, ?_⟩
    · rw [List.append_assoc, List.take_left' hlen, hdest]
    · rw [List.drop_left' (by simp [hlen, hx]), List.drop_left' (by simp [hlen, hy])]
  case flashNone =>
    intro s hd h
    rw [exec_streamFlashWrite, execStreamFlashWrite, State.onUnit_after _ wf_streamFlashWrite hd, U.streamFlash_empty h]
  case flashFull =>
    intro s hd h hf
    rw [exec_streamFlashWrite, execStreamFlashWrite, State.onUnit_after _ wf_streamFlashWrite hd, U.streamFlash_full h (U.flashFull_iff.mpr hf)]
  case flash =>
    intro s w hd h hroom hw
    have hf : s.u.flashFull = false := Bool.eq_false_iff.mpr (fun hf => Nat.not_lt.mpr hroom (U.flashFull_iff.mp hf))
    rw [exec_streamFlashWrite, execStreamFlashWrite, State.onUnit_after _ wf_streamFlashWrite hd, U.streamFlash_row h hf hw]
    exact ⟨fun hw => by rw [if_neg (Bool.eq_false_iff.mp hw)], fun hw => by rw [if_pos hw]⟩
  case store => exact fun u => ⟨rfl, U.rd_wr_same _ _ _, rfl, _, rfl⟩
  case fire =>
    intro s hd
    rw [exec_snpFire, execSnpFire, State.onUnit_after _ wf_snpFire hd, U.snpFire]
  case snap =>
    intro u t latch hf hb hi ht
    rw [U.snapshot_latched hf hb hi ht rfl rfl]
    refine ⟨?_, rfl, rfl, U.rd_wr_same _ _ _⟩
    exact (U.rd_wr_ne _ _ (by decide)).trans ((U.rd_wr_same _ _ _).trans (Nat.mod_mod _ _))
  case copyNone =>
    intro s hd h
    rw [exec_snapshotCopyDone, execSnapshotCopyDone, State.onUnit_after _ wf_snapshotCopyDone hd, U.snpCopied_none h]
  case copy =>
    intro s ws hd h v hv
    rw [exec_snapshotCopyDone, execSnapshotCopyDone, State.onUnit_after _ wf_snapshotCopyDone hd, U.snpCopied_image h hv]
  case go =>
    intro s hd hcmd hgo hlo hhi
    rw [exec_snpTcmdGo, execSnpTcmdGo, State.onUnit_after _ wf_snpTcmdGo hd, if_pos (U.tcmdOk_iff.mpr ⟨hlo, hhi, hgo, hcmd⟩), U.tcmdGo]
  case goBad =>
    intro s hd hlo
    rw [exec_snpTcmdGo, execSnpTcmdGo, State.onUnit_after _ wf_snpTcmdGo hd, if_neg (fun h => by have := (U.tcmdOk_iff.mp h).1; omega), U.tcmdRej]
  case ccpArm =>
    intro s cid ofs y d hw hnow h hdep hp
    rw [exec_ccpArm, execCcpArm, State.onCellNow_next _ hw hnow, C.ccpArm_idle h hdep hp]
  case ccpArmRuns =>
    intro s cid ofs y hw hnow h
    rw [exec_ccpArm, execCcpArm, State.onCellNow_next _ hw hnow, C.ccpArm_running h]
  case ccpStop =>
    intro s cid ofs y hw hnow h
    rw [exec_ccpStop, execCcpStop, State.onCellNow_next _ hw hnow, C.ccpStop_running h]
  case ccpStopIdle =>
    intro s cid ofs y hw hnow h
    rw [exec_ccpStop, execCcpStop, State.onCellNow_next _ hw hnow, C.ccpStop_idle h]
  case ccpTrig =>
    intro s cid hw h
    rw [exec_ccpSwtrig, execCcpSwtrig, State.onCell_next cid (fun y => y.ccpTrigger 3) hw, C.ccpTrigger, if_pos (by simpa using h)]
    rfl
  case ccpTrigIdle =>
    intro s cid hw h
    rw [exec_ccpSwtrig, execCcpSwtrig, State.onCell_next cid (fun y => y.ccpTrigger 3) hw, C.ccpTrigger, if_neg (by simp [h])]
    rfl

end Sys2Proof.Machine
end

section
/-! PROOFS. The runs of the scheduler: a core waits and takes a thread (R416 to R418), a run ends with its disposition (R420, R424), a release
resumes (R431, R432). -/
namespace Sys2Proof.Machine

/-! ### A core waits (R416, R417) -/

section Wait
variable {u v : U} {t : TimeBase} {core th : Nat} {r : Run}

theorem U.waitRead_down (h : u.coreUp core = false) : u.waitRead t core = u := by simp [U.waitRead, h]

/-- A core without an open run, as it waits. -/
theorem U.waitRead_idle (hup : u.coreUp core = true) (hw : u.sch.waiting.find? core = none) (hr : u.sch.runs.find? core = none)
    (hv : v = (u.wr (R.SCH_CORE_STAT_PREEMPT core) 0).withSch (fun x => { x with meip := clrBit x.meip core })) :
    (v.bestReady core = some th → u.waitRead t core = v.dispatch t core th) ∧
    (v.bestReady core = none → u.waitRead t core = v.withSch (fun x => { x with waiting := x.waiting.set core t.ref })) := by
  constructor <;> intro hb <;> simp [U.waitRead, hup, hw, hr, ← hv, hb]

/-- A core with an open run ends it as WAIT first. -/
theorem U.waitRead_open (hup : u.coreUp core = true) (hw : u.sch.waiting.find? core = none) (hr : u.sch.runs.find? core = some r)
    (hv : v = (((u.endRun t core 0).inc (R.SCH_CORE_CNT_IMPLICIT_CNT core)).wr (R.SCH_CORE_STAT_PREEMPT core) 0).withSch
      (fun x => { x with meip := clrBit x.meip core })) (hb : v.bestReady core = none) :
    u.waitRead t core = v.withSch (fun x => { x with waiting := x.waiting.set core t.ref }) := by
  simp [U.waitRead, hup, hw, hr, ← hv, hb]

end Wait

/-! ### A thread dispatched (R416, R418) -/

/-- A core runs a thread that is off the ready lists, and shows it. -/
structure U.Dispatched (core th : Nat) (r : Run) (u : U) : Prop where
  thread : u.rd (R.SCH_THR_STAT_STATE th) = 3
  state : u.rd (R.SCH_CORE_STAT_STATE core) = 1
  shown : u.rd (R.SCH_CORE_STAT_THREAD core) = th
  ready : th ∉ u.sch.ready
  waiting : u.sch.waiting.find? core = none
  run : u.sch.runs.find? core = some r

namespace U.Dispatched
variable {core th : Nat} {r : Run} {u : U}

theorem wr (h : U.Dispatched core th r u) {f : Fld} (x : Nat)
    (hf : (R.SCH_THR_STAT_STATE th).key ≠ f.key ∧ (R.SCH_CORE_STAT_STATE core).key ≠ f.key ∧ (R.SCH_CORE_STAT_THREAD core).key ≠ f.key) :
    U.Dispatched core th r (u.wr f x) :=
  ⟨(U.rd_wr_ne _ _ hf.1).trans h.thread, (U.rd_wr_ne _ _ hf.2.1).trans h.state, (U.rd_wr_ne _ _ hf.2.2).trans h.shown, h.ready, h.waiting,
    h.run⟩

/-- A change of the scheduler beside its registers that takes no thread onto the ready lists and leaves waits and runs. -/
theorem withSch (h : U.Dispatched core th r u) {f : Sched → Sched} (hready : ∀ n ∈ (f u.sch).ready, n ∈ u.sch.ready)
    (hwait : (f u.sch).waiting = u.sch.waiting) (hruns : (f u.sch).runs = u.sch.runs) : U.Dispatched core th r (u.withSch f) :=
  ⟨h.thread, h.state, h.shown, fun hm => h.ready (hready _ hm), (congrArg (Tbl.find? · core) hwait).trans h.waiting,
    (congrArg (Tbl.find? · core) hruns).trans h.run⟩

theorem emit (h : U.Dispatched core th r u) (o : Output) : U.Dispatched core th r (u.emit o) :=
  ⟨h.thread, h.state, h.shown, h.ready, h.waiting, h.run⟩

theorem foldl {α : Type} {g : U → α → U} (l : List α) (hg : ∀ u, ∀ a ∈ l, U.Dispatched core th r u → U.Dispatched core th r (g u a))
    (h : U.Dispatched core th r u) : U.Dispatched core th r (l.foldl g u) := by
  induction l generalizing u with
  | nil => exact h
  | cons a l ih => exact ih (fun u b hb => hg u b (List.mem_cons_of_mem _ hb)) (hg u a List.mem_cons_self h)

theorem syncFlow (h : U.Dispatched core th r u) (hc : core < 16) (ht : th < 256) {flow : Nat} (hf : flow < 64) : U.Dispatched core th r (u.syncFlow flow) := by
  unfold U.syncFlow
  refine (((h.wr _ ?_).wr _ ?_).wr _ ?_).wr _ ?_
  all_goals simp only [Fld.key, ne_eq]; omega

theorem syncDepth (h : U.Dispatched core th r u) : U.Dispatched core th r u.syncDepth := by
  refine foldl _ (fun u c _ hu => hu.wr _ ?_) h
  simp only [Fld.key, ne_eq]; omega

theorem unreadyIdle (h : U.Dispatched core th r u) : U.Dispatched core th r u.unreadyIdle := by
  refine foldl _ (fun u n hn hu => ?_) h
  have hne : n ≠ th := fun e => h.ready (e ▸ hn)
  split
  · exact hu
  · refine (hu.withSch (fun m hm => (List.mem_filter.mp hm).1) rfl rfl).wr _ ?_
    simp only [Fld.key, ne_eq]; omega

end U.Dispatched

/-- A thread put on a core (R416, R418): the first part of its dispatch. -/
def U.started (u : U) (t : TimeBase) (core th : Nat) : U :=
  let u := u.withSch (fun s => { s with
    ready := s.ready.filter (· != th), waiting := s.waiting.erase core,
    runs := s.runs.set core ⟨th, (u.deliverable th).map (fun i => (i.flow, i.seq)), t.t16, false⟩,
    winRuns := s.winRuns.set core (s.winRuns.get core 0 + 1) })
  ((((u.wr (R.SCH_THR_STAT_STATE th) 3).wr (R.SCH_THR_STAT_CORE th) core).wr
    (R.SCH_CORE_STAT_STATE core) 1).wr (R.SCH_CORE_STAT_THREAD core) th).wr (R.SCH_WAIT_THREAD core) th

/-- What a dispatch tells the core, and the depths shown after it. -/
def U.dispatchTold (u : U) (core th : Nat) : U :=
  (u.emit (.readData core 0x400530000 (th + 2 ^ 8 * u.rd (R.SCH_WAIT_FLOW core) +
    2 ^ 14 * u.rd (R.SCH_WAIT_REASON core) + 2 ^ 16 * u.rd (R.SCH_WAIT_SEQ core)))).syncDepth

/-- The dispatch of a thread for an item, after `started`. -/
def U.itemTaken (u : U) (t : TimeBase) (core th : Nat) (i : Item) : U :=
  let w := (satU 16 (rdiv ((t.t16 : Int) - i.qTs) 128)).toNat
  let mean : Int := u.rd (R.SCH_FLOW_WAIT_MEAN i.flow)
  let u := u.withSch (fun s => { s with items := s.items.map (fun (j : Item) =>
    if j.flow == i.flow && j.seq == i.seq then { j with state := .inService } else j) })
  let u := if i.event then u.wr (R.SCH_SRC_PEND i.src) 0 else u
  let u := (u.wr (R.SCH_FLOW_WAIT_MAX i.flow) (max (u.rd (R.SCH_FLOW_WAIT_MAX i.flow)) w)).wr
    (R.SCH_FLOW_WAIT_MEAN i.flow) (rdiv (15 * mean + w) 16).toNat
  let u := if u.countItems i.flow .queued = 0
    then u.withSch (fun s => { s with qhigh := s.qhigh.filter (· != i.flow) }) else u
  let u := ((u.wr (R.SCH_WAIT_FLOW core) i.flow).wr (R.SCH_WAIT_REASON core) 1).wr (R.SCH_WAIT_SEQ core) i.seq
  ((((u.wr (R.SCH_ITEM_SRC_SRC core) i.src).wr (R.SCH_ITEM_DATA_DATA core) i.data).wr
    (R.SCH_THR_STAT_FLOW th) i.flow).syncFlow i.flow).unreadyIdle

/-- The dispatch of a thread without an item, after `started`. -/
def U.plainTaken (u : U) (core th : Nat) : U :=
  let reason := u.sch.plain.get th 0
  let u := u.withSch (fun s => { s with plain := s.plain.erase th })
  let u := ((u.wr (R.SCH_WAIT_FLOW core) 0).wr (R.SCH_WAIT_REASON core) reason).wr (R.SCH_WAIT_SEQ core) 0
  ((u.wr (R.SCH_ITEM_SRC_SRC core) 0).wr (R.SCH_ITEM_DATA_DATA core) 0).wr (R.SCH_THR_STAT_FLOW th) 0

section Dispatch
variable {u : U} {t : TimeBase} {core th : Nat} {r : Run}

theorem U.dispatch_item {i : Item} (h : u.deliverable th = some i) :
    u.dispatch t core th = ((u.started t core th).itemTaken t core th i).dispatchTold core th := by
  simp only [U.dispatch, U.started, U.itemTaken, U.dispatchTold, h]

theorem U.dispatch_plain (h : u.deliverable th = none) :
    u.dispatch t core th = ((u.started t core th).plainTaken core th).dispatchTold core th := by
  simp only [U.dispatch, U.started, U.plainTaken, U.dispatchTold, h]

theorem U.started_dispatched (ht : th < 256) : U.Dispatched core th
    ⟨th, (u.deliverable th).map (fun i => (i.flow, i.seq)), t.t16, false⟩ (u.started t core th) := by
  refine ⟨?_, ?_, ?_, ?_, Tbl.find?_erase_same _ _, Tbl.find?_set_same _ _ _⟩
  · iterate 4 refine (U.rd_wr_ne _ _ (by simp only [Fld.key, ne_eq]; omega)).trans ?_
    exact U.rd_wr_same _ _ _
  · iterate 2 refine (U.rd_wr_ne _ _ (by simp only [Fld.key, ne_eq]; omega)).trans ?_
    exact U.rd_wr_same _ _ _
  · refine (U.rd_wr_ne _ _ (by simp only [Fld.key, ne_eq]; omega)).trans ?_
    exact (U.rd_wr_same _ _ _).trans (Nat.mod_eq_of_lt ht)
  · exact fun hm => absurd (List.mem_filter.mp hm).2 (by simp)

theorem U.Dispatched.told (h : U.Dispatched core th r u) : U.Dispatched core th r (u.dispatchTold core th) := (h.emit _).syncDepth

theorem U.Dispatched.plainTaken (h : U.Dispatched core th r u) (ht : th < 256) : U.Dispatched core th r (u.plainTaken core th) := by
  refine ((((((h.withSch (f := fun s => { s with plain := s.plain.erase th }) (fun _ hm => hm) rfl rfl).wr _ ?_).wr _ ?_).wr _ ?_).wr _ ?_).wr
    _ ?_).wr _ ?_
  all_goals simp only [Fld.key, ne_eq]; omega

theorem U.Dispatched.itemTaken (h : U.Dispatched core th r u) (hc : core < 16) (ht : th < 256) {i : Item} (hi : i.flow < 64) :
    U.Dispatched core th r (u.itemTaken t core th i) := by
  unfold U.itemTaken
  extract_lets _ _ served pended timed calmed told
  have hserved : U.Dispatched core th r served := h.withSch (fun _ hm => hm) rfl rfl
  have hpended : U.Dispatched core th r pended := by
    unfold pended
    split
    · exact hserved.wr _ (by simp only [Fld.key, ne_eq]; omega)
    · exact hserved
  have htimed : U.Dispatched core th r timed :=
    (hpended.wr _ (by simp only [Fld.key, ne_eq]; omega)).wr _ (by simp only [Fld.key, ne_eq]; omega)
  have hcalmed : U.Dispatched core th r calmed := by
    unfold calmed
    split
    · exact htimed.withSch (fun _ hm => hm) rfl rfl
    · exact htimed
  refine (((((((hcalmed.wr _ ?_).wr _ ?_).wr _ ?_).wr _ ?_).wr _ ?_).wr _ ?_).syncFlow hc ht hi).unreadyIdle
  all_goals simp only [Fld.key, ne_eq]; omega

/-- A dispatched thread runs on its core, with its item where one is deliverable. -/
theorem U.dispatch_dispatched (t : TimeBase) (hc : core < 16) (ht : th < 256) (hi : ∀ i, u.deliverable th = some i → i.flow < 64) :
    U.Dispatched core th ⟨th, (u.deliverable th).map (fun i => (i.flow, i.seq)), t.t16, false⟩ (u.dispatch t core th) := by
  have hs := U.started_dispatched (u := u) (t := t) (core := core) ht
  cases hd : u.deliverable th with
  | none => rw [U.dispatch_plain hd, ← hd]; exact (hs.plainTaken ht).told
  | some i => rw [U.dispatch_item hd, ← hd]; exact (hs.itemTaken hc ht (hi i hd)).told

end Dispatch

/-! ### The end of a run (R414, R420, R424) -/

section End
variable {u v : U} {t : TimeBase} {core disp : Nat} {r : Run}

theorem U.endRun_none (h : u.sch.runs.find? core = none) : u.endRun t core disp = u.raise t SCH.CMD_REJ (SCH.det core 0) := by
  simp only [U.endRun, h]

/-- A thread's plain READY noted with a reason, where none waits. -/
def U.plainReady (u : U) (th k : Nat) : U := u.withSch (fun x => { x with plain := x.plain.set th (x.plain.get th k) })

section Disposition
variable (hr : u.sch.runs.find? core = some r) (hv : v = (u.closeRun t core r).wr (R.SCH_THR_STAT_STATE r.thread) 1)
include hr hv

theorem U.endRun_exit : u.endRun t core 3 = (((v.wr (R.SCH_THR_STAT_STATE r.thread) 0).wr (R.SCH_THR_STAT_WAKE r.thread) 0).withSch
    (fun x => { x with plain := x.plain.erase r.thread })).settle t := by
  simp only [U.endRun, hr, ← hv, if_true]

theorem U.endRun_yield : u.endRun t core 2 = ((v.plainReady r.thread 0).makeReady t r.thread).settle t := by
  simp [U.endRun, U.plainReady, hr, ← hv]

/-- WAKE turns a WAIT into a plain READY. -/
theorem U.endRun_woken (hd : disp < 2) (hw : v.on (R.SCH_THR_STAT_WAKE r.thread) = true) : u.endRun t core disp =
    ((((v.wr (R.SCH_THR_STAT_WAKE r.thread) 0).plainReady r.thread 0).makeReady t r.thread).settle t) := by
  have hd3 : disp ≠ 3 := by omega
  have hd2 : disp ≠ 2 := by omega
  simp [U.endRun, U.plainReady, hr, ← hv, hw, hd3, hd2]

section Waits
variable (hw : v.on (R.SCH_THR_STAT_WAKE r.thread) = false) (hp : v.sch.plain.find? r.thread = none)
include hw hp

theorem U.endRun_wait : u.endRun t core 0 = v.settle t := by
  simp [U.endRun, hr, ← hv, hw, hp]

theorem U.endRun_until {d : Nat} (hd : d = v.rd (R.SCH_END_DN_DN core)) (hlate : 0 < dnDiff d t.dn) : u.endRun t core 1 =
    ((v.wr (R.SCH_THR_STAT_DL_VALID r.thread) 1).wr (R.SCH_THR_DL_DN r.thread) d).settle t := by
  simp [U.endRun, hr, ← hv, hw, hp, ← hd, Int.not_le.mpr hlate]

theorem U.endRun_expired {d : Nat} (hd : d = v.rd (R.SCH_END_DN_DN core)) (hlate : dnDiff d t.dn ≤ 0) : u.endRun t core 1 =
    ((v.plainReady r.thread 2).makeReady t r.thread).settle t := by
  simp [U.endRun, U.plainReady, hr, ← hv, hw, hp, ← hd, hlate]

end Waits
end Disposition

/-- A run without an item leaves its core free. -/
theorem U.closeRun_plain (hi : r.item = none) : (u.closeRun t core r).sch.runs = u.sch.runs.erase core ∧
    (u.closeRun t core r).rd (R.SCH_CORE_STAT_STATE core) = 0 ∧ (u.closeRun t core r).rd (R.SCH_CORE_STAT_THREAD core) = 0 := by
  simp only [U.closeRun, hi]
  refine ⟨rfl, ?_, ?_⟩
  · iterate 3 refine (U.rd_wr_ne _ _ (by simp only [Fld.key, ne_eq]; omega)).trans ?_
    exact U.rd_wr_same _ _ _
  · iterate 2 refine (U.rd_wr_ne _ _ (by simp only [Fld.key, ne_eq]; omega)).trans ?_
    exact U.rd_wr_same _ _ _

end End

/-! ### A release resumes (R431, R432) -/

section Release
variable {u : U} {t : TimeBase} {f : Nat}

theorem U.release_none (n : Nat) (h : u.sch.items.find? (fun i => i.flow == f && i.state == .held && i.seq == u.rd (R.SCH_FLOW_SEQ_REL_SEQ f)) = none) :
    U.release (n + 1) u t f = u := by
  simp only [U.release, h]

theorem U.release_next {i : Item} (n : Nat)
    (h : u.sch.items.find? (fun i => i.flow == f && i.state == .held && i.seq == u.rd (R.SCH_FLOW_SEQ_REL_SEQ f)) = some i)
    (hring : u.ringRoom f = true) (hnext : u.rd (R.SCH_FLOW_CFG_NEXT f) = 0) : U.release (n + 1) u t f =
      U.release n ((u.releaseItem t i).withSch (fun x => { x with stalled := x.stalled.filter (· != f) })) t f := by
  simp [U.release, h, hring, hnext]

end Release

/-! ### The obligation -/

/-- Settles O26: cores wait and take threads, runs end by their dispositions, and releases resume. -/
theorem runCommandsComplete : Obligations.RunCommandsComplete := by
  unfold Obligations.RunCommandsComplete
  refine ⟨?idle, ?opened, ?down, ?dispatch, ?none, ?wait, ?wuntil, ?yield, ?exit, ?close, ?resume, ?still⟩
  case idle =>
    intro s core v hw hh hup hwait hr hv
    rw [exec_schWaitRead, execSchWaitRead, State.onUnit_whole (fun t u => u.waitRead t core) hw rfl hh]
    exact ⟨fun th hb => by rw [(U.waitRead_idle hup hwait hr hv).1 hb], fun hb => by rw [(U.waitRead_idle (th := 0) hup hwait hr hv).2 hb]⟩
  case opened =>
    intro s core r v hw hh hup hwait hr hv hb
    rw [exec_schWaitRead, execSchWaitRead, State.onUnit_whole (fun t u => u.waitRead t core) hw rfl hh, U.waitRead_open hup hwait hr hv hb]
  case down =>
    intro s core hw hh hup
    rw [exec_schWaitRead, execSchWaitRead, State.onUnit_whole (fun t u => u.waitRead t core) hw rfl hh, U.waitRead_down hup]
  case dispatch =>
    intro u t core th hc ht hi
    obtain ⟨hthread, hstate, hshown, hready, hwait, hrun⟩ := U.dispatch_dispatched t hc ht hi
    exact ⟨hthread, hstate, hshown, hready, hwait, _, hrun, rfl, rfl⟩
  case none =>
    rintro s core c (rfl | rfl | rfl | rfl) hw hh hr
    · rw [exec_endWait, execEndWait, State.onUnit_whole (fun t u => u.endRun t core 0) hw rfl hh, U.endRun_none hr]
    · rw [exec_endWaitUntil, execEndWaitUntil, State.onUnit_whole (fun t u => u.endRun t core 1) hw rfl hh, U.endRun_none hr]
    · rw [exec_endYield, execEndYield, State.onUnit_whole (fun t u => u.endRun t core 2) hw rfl hh, U.endRun_none hr]
    · rw [exec_endExit, execEndExit, State.onUnit_whole (fun t u => u.endRun t core 3) hw rfl hh, U.endRun_none hr]
  case wait =>
    intro s core r v hw hh hr hv
    rw [exec_endWait, execEndWait, State.onUnit_whole (fun t u => u.endRun t core 0) hw rfl hh]
    exact ⟨fun h hp => by rw [U.endRun_wait hr hv h hp], fun h => by rw [U.endRun_woken hr hv (by decide) h, U.plainReady]⟩
  case wuntil =>
    intro s core r v d hw hh hr hv h hp hd
    rw [exec_endWaitUntil, execEndWaitUntil, State.onUnit_whole (fun t u => u.endRun t core 1) hw rfl hh]
    exact ⟨fun hl => by rw [U.endRun_until hr hv h hp hd hl], fun hl => by rw [U.endRun_expired hr hv h hp hd hl, U.plainReady]⟩
  case yield =>
    intro s core r v hw hh hr hv
    rw [exec_endYield, execEndYield, State.onUnit_whole (fun t u => u.endRun t core 2) hw rfl hh, U.endRun_yield hr hv, U.plainReady]
  case exit =>
    intro s core r v hw hh hr hv
    rw [exec_endExit, execEndExit, State.onUnit_whole (fun t u => u.endRun t core 3) hw rfl hh, U.endRun_exit hr hv]
  case close => exact fun u t core r hi _ _ => U.closeRun_plain hi
  case resume =>
    intro s f i hw hh hfind hring hnext
    rw [exec_releaseResume, execReleaseResume, State.onUnit_whole (fun t u => u.resume t f) hw rfl hh, U.resume,
      U.release_next 1023 hfind hring hnext]
  case still =>
    intro s f hw hh hfind
    rw [exec_releaseResume, execReleaseResume, State.onUnit_whole (fun t u => u.resume t f) hw rfl hh, U.resume, U.release_none 1023 hfind]

end Sys2Proof.Machine
end

section
/-! PROOFS. The scheduler's commands with their results (R422, R423, R433, R437), SCH_IPI (R411), source bindings (R427), the timetable (R424,
R425), long runs, pace and load (R412, R421, R434), errors of a core (R436). -/
namespace Sys2Proof.Machine

/-! ### The commands of SCH_CMD (R422, R423, R433, R437) -/

theorem thrOk_false {th : Nat} (h : th = 0 ∨ 256 ≤ th) : thrOk th = false := by
  rcases h with h | h
  · simp [thrOk, h]
  · simp [thrOk, h]

theorem thrOk_true {th : Nat} (h0 : 0 < th) (h : th < 256) : thrOk th = true := by simp [thrOk, h0, h]

section Commands
variable {u : U} {t : TimeBase} {core th : Nat}

section Bad
variable (h : thrOk th = false)
include h

theorem U.cmdCreate_bad : u.cmdCreate t core th = u.cmdResult core 2 0 := if_pos (by simp [h])
theorem U.cmdDestroy_bad : u.cmdDestroy core th = u.cmdResult core 2 0 := if_pos (by simp [h])
theorem U.cmdReady_bad : u.cmdReady t core th = u.cmdResult core 2 0 := if_pos (by simp [h])
theorem U.cmdCancel_bad : u.cmdCancel t core th = u.cmdResult core 2 0 := if_pos (by simp [h])
theorem U.cmdRestart_bad : u.cmdRestart t core th = u.cmdResult core 2 0 := if_pos (by simp [h])

end Bad

section Named
variable (h : thrOk th = true)
include h

theorem U.cmdCreate_free (hs : u.thr th = 0) : u.cmdCreate t core th = ((u.wr (R.SCH_THR_STAT_STATE th) 1).settle t).cmdResult core 0 0 := by
  simp [U.cmdCreate, h, hs]

theorem U.cmdDestroy_idle (hs : u.thr th = 1 ∨ u.thr th = 2) : u.cmdDestroy core th =
    (((u.unready th).wr (R.SCH_THR_STAT_STATE th) 0).wr (R.SCH_THR_STAT_DL_VALID th) 0).cmdResult core 0 0 := by
  simp [U.cmdDestroy, h, hs]

theorem U.cmdReady_waiting (hs : u.thr th = 1) : u.cmdReady t core th =
    ((u.withSch (fun s => { s with plain := s.plain.set th 0 })).makeReady t th).cmdResult core 0 0 := by
  simp [U.cmdReady, h, hs]

theorem U.cmdReady_running (hs : u.thr th = 3) : u.cmdReady t core th = (u.wr (R.SCH_THR_STAT_WAKE th) 1).cmdResult core 0 0 := by
  simp [U.cmdReady, h, hs]

theorem U.cmdCancel_ready (hs : u.thr th = 2) : u.cmdCancel t core th =
    (((u.unready th).wr (R.SCH_THR_STAT_STATE th) 1).settle t).cmdResult core 0 0 := by
  simp [U.cmdCancel, h, hs]

theorem U.cmdCancel_running (hs : u.thr th = 3) : u.cmdCancel t core th = u.cmdResult core 1 0 := by
  simp [U.cmdCancel, h, hs]

theorem U.cmdReadyCancel_waiting {other : Nat} (hs : u.thr th = 1) : u.cmdReadyCancel t core th other =
    ((u.wr (R.SCH_THR_STAT_DL_VALID th) 0).cmdResult core 0 0).cmdResult other 0 0 := by
  simp [U.cmdReadyCancel, h, hs]

theorem U.cmdRestart_named : u.cmdRestart t core th = if u.thr th = 4 then ((u.wr (R.SCH_THR_STAT_STATE th) 1).settle t).cmdResult core 0 0
    else u.cmdResult core 3 0 := by
  simp [U.cmdRestart, h]

end Named

section Post
variable {f : Nat}

theorem U.cmdPost_bad (h : f = 0 ∨ 64 ≤ f) : u.cmdPost t core f = u.cmdResult core 2 0 := if_pos (by simpa using h)

variable (h0 : 0 < f) (hf : f < 64)
include h0 hf

theorem U.cmdPost_queued {q : Nat} {v : U} (hth : th = u.rd (R.SCH_FLOW_CFG_DEF_THREAD f)) (hne : th ≠ 0)
    (hq : u.queueItem t f th 0x100 (u.rd (R.SCH_CMD_DATA_DATA core)) false = (some q, v)) : u.cmdPost t core f = v.cmdResult core 0 q := by
  subst hth
  simp [U.cmdPost, Nat.ne_of_gt h0, Nat.not_le.mpr hf, hne, hq]

/-- A flow without a default thread, or a full pool, takes no item. -/
theorem U.cmdPost_none (h : u.rd (R.SCH_FLOW_CFG_DEF_THREAD f) = 0 ∨ 1024 ≤ u.sch.items.length) :
    u.cmdPost t core f = u.cmdResult core 4 0 := by
  by_cases hth : u.rd (R.SCH_FLOW_CFG_DEF_THREAD f) = 0
  · simp [U.cmdPost, Nat.ne_of_gt h0, Nat.not_le.mpr hf, hth]
  · simp [U.cmdPost, Nat.ne_of_gt h0, Nat.not_le.mpr hf, hth, U.queueItem, h.resolve_left hth]

end Post

section Cores
variable {x : Nat} (hx : x < 16)
include hx

theorem U.cmdRetire_idle (hr : u.sch.runs.find? x = none) (hup : u.coreUp x = true) :
    u.cmdRetire t core x = (u.retireCore t x).cmdResult core 0 0 := by
  simp [U.cmdRetire, Nat.not_le.mpr hx, hr, hup]

theorem U.cmdRetire_runs (hr : (u.sch.runs.find? x).isSome = true) : u.cmdRetire t core x = u.cmdResult core 3 0 := by
  simp [U.cmdRetire, Nat.not_le.mpr hx, hr]

theorem U.cmdRestore_named : u.cmdRestore core x = if u.rd (R.SCH_CORE_STAT_STATE x) ≠ 2 then u.cmdResult core 3 0
    else ((u.wr (R.SCH_CORE_STAT_STATE x) 0).emit (.coreStart x (u.rd R.SYS_CORE_ENTRY_L_ENTRY_LO * 4 +
      2 ^ 32 * u.rd R.SYS_CORE_ENTRY_H_ENTRY_HI))).cmdResult core 0 0 := if_neg (Nat.not_le.mpr hx)

end Cores

/-- SCH_CMD_RES shows the outcome, whether the core waits for it or not. -/
theorem U.cmdResult_shown (u : U) (core st q : Nat) : (u.cmdResult core st q).rd (R.SCH_CMD_RES_STATUS core) =
      st % 2 ^ (R.SCH_CMD_RES_STATUS core).width ∧
    (u.cmdResult core st q).rd (R.SCH_CMD_RES_SEQ core) = q % 2 ^ (R.SCH_CMD_RES_SEQ core).width := by
  have hregs : (u.cmdResult core st q).regs = ((u.wr (R.SCH_CMD_RES_STATUS core) st).wr (R.SCH_CMD_RES_SEQ core) q).regs := by
    rw [U.cmdResult]
    split <;> rfl
  have hrd : ∀ f, (u.cmdResult core st q).rd f = ((u.wr (R.SCH_CMD_RES_STATUS core) st).wr (R.SCH_CMD_RES_SEQ core) q).rd f :=
    fun f => congrArg (Regs.get · f) hregs
  refine ⟨(hrd _).trans ((U.rd_wr_ne _ _ ?_).trans (U.rd_wr_same _ _ _)), (hrd _).trans (U.rd_wr_same _ _ _)⟩
  exact Fld.key_ne_of_lo rfl (show 0 ≠ 16 by decide)

theorem U.cmdResRead_waits (h : core ∉ u.sch.resReady) :
    u.cmdResRead core = u.withSch (fun x => { x with blocked := x.blocked.filter (· != core) ++ [core] }) := if_neg (by simpa using h)

theorem U.cmdResRead_reads (h : core ∈ u.sch.resReady) : u.cmdResRead core =
    (u.emit (.readData core 0x400530028 (u.rd (R.SCH_CMD_RES_STATUS core) + 2 ^ 16 * u.rd (R.SCH_CMD_RES_SEQ core)))).withSch
      (fun x => { x with resReady := x.resReady.filter (· != core) }) := if_pos (by simpa using h)

end Commands

/-! ### SCH_IPI and source bindings (R411, R427) -/

/-- MSIP as a write of SCH_IPI leaves it. -/
def ipiBits (m core v : Nat) : Nat := if bitAt v 16 then clrBit (m ||| v % 65536) core else m ||| v % 65536

theorem bitAt_ipiBits (m core v : Nat) {j : Nat} (hj : j < 16) :
    bitAt (ipiBits m core v) j = ((bitAt m j || bitAt v j) && !(bitAt v 16 && decide (j = core))) := by
  have hor : bitAt (m ||| v % 65536) j = (bitAt m j || bitAt v j) := by
    have hmod : (v % 65536).testBit j = v.testBit j := by
      rw [show 65536 = 2 ^ 16 from rfl, Nat.testBit_mod_two_pow, decide_eq_true hj, Bool.true_and]
    rw [bitAt_eq_testBit, Nat.testBit_or, hmod, bitAt_eq_testBit, bitAt_eq_testBit]
  unfold ipiBits
  cases hc : bitAt v 16 with
  | false => simp [hor]
  | true =>
    by_cases hj : j = core
    · subst hj; simp [bitAt_clrBit_same]
    · simp [bitAt_clrBit_ne _ hj, hor, hj]

section Source
variable {u : U} {t : TimeBase} {n v : Nat}

theorem U.srcWrite_changed (h : u.rd (R.SCH_SRC_FLOW n) ≠ bits v 0 6 ∨ u.rd (R.SCH_SRC_THREAD n) ≠ bits v 8 8) : u.srcWrite t n v =
    if u.on (R.SCH_SRC_PEND n) then u.raise t SCH.CMD_REJ []
    else (u.wr (R.SCH_SRC_FLOW n) (bits v 0 6)).wr (R.SCH_SRC_THREAD n) (bits v 8 8) :=
  if_neg (by rcases h with h | h <;> simp [h])

end Source

/-! ### The timetable (R424, R425) -/

/-- Whether a thread's deadline is due at a boundary. -/
def U.overdue (u : U) (dn th : Nat) : Bool :=
  th != 0 && u.on (R.SCH_THR_STAT_DL_VALID th) && decide (dnDiff dn (u.rd (R.SCH_THR_DL_DN th)) ≥ 0)

/-- The threads whose deadlines are due, with how late they are, latest first. -/
def U.dueList (u : U) (dn : Nat) : List (Int × Nat) :=
  ((List.range 256).filter (u.overdue dn)).foldl (fun l th => insertExpired (dnDiff dn (u.rd (R.SCH_THR_DL_DN th)), th) l) []

section Timetable
variable {u : U} {t : TimeBase} {dn th : Nat}

theorem U.timetable_due (u : U) (t : TimeBase) (dn : Nat) : u.timetable t dn = (u.dueList dn).foldl (fun u e =>
    ((u.wr (R.SCH_THR_STAT_DL_VALID e.2) 0).withSch (fun s => { s with plain := s.plain.set e.2 2 })).makeReady t e.2) u := by
  rw [U.dueList, List.foldl_filter]
  rfl

theorem U.overdue_false (h : th ≠ 0 → u.on (R.SCH_THR_STAT_DL_VALID th) = true → dnDiff dn (u.rd (R.SCH_THR_DL_DN th)) < 0) :
    u.overdue dn th = false := by
  by_contra hne
  simp only [U.overdue, Bool.not_eq_false, Bool.and_eq_true, bne_iff_ne, ne_eq, decide_eq_true_eq] at hne
  exact absurd hne.2 (Int.not_le.mpr (h hne.1.1 hne.1.2))

theorem U.timetable_none (h : ∀ x < 256, u.overdue dn x = false) : u.timetable t dn = u := by
  have hdue : u.dueList dn = [] := by
    rw [U.dueList, List.filter_eq_nil_iff.mpr (fun x hx => by simp [h x (List.mem_range.mp hx)])]
    rfl
  rw [U.timetable_due, hdue]
  rfl

theorem U.timetable_one (hth : th < 256) (hd : u.overdue dn th = true) (h : ∀ x < 256, x ≠ th → u.overdue dn x = false) :
    u.timetable t dn = ((u.wr (R.SCH_THR_STAT_DL_VALID th) 0).withSch (fun x => { x with plain := x.plain.set th 2 })).makeReady t th := by
  have hfilter : (List.range 256).filter (u.overdue dn) = [th] := by
    rw [List.filter_congr (q := (· == th)), List.filter_beq,
      List.count_eq_one_of_mem List.nodup_range (List.mem_range.mpr hth)]
    · rfl
    · intro x hx
      by_cases hne : x = th
      · rw [hne, hd, beq_self_eq_true]
      · rw [h x (List.mem_range.mp hx) hne, beq_eq_false_iff_ne.mpr hne]
  rw [U.timetable_due, U.dueList, hfilter]
  rfl

end Timetable

/-! ### Long runs, pace and load (R412, R421, R434) -/

section Runs
variable {u : U} {t : TimeBase} {core : Nat} {r : Run}

theorem U.longRun_idle (h : u.sch.runs.find? core = none) : u.longRun t core = u := by simp only [U.longRun, h]

theorem U.longRun_told (h : u.sch.runs.find? core = some r) (hmax : u.rd R.SCH_CTL_RUN_MAX ≠ 0) (hl : r.long = false)
    (hlate : u.rd R.SCH_CTL_RUN_MAX * 16000 < t.t16 - r.start) : u.longRun t core =
      ((u.withSch (fun x => { x with runs := x.runs.set core { r with long := true } })).raise t (SCH.LONG_RUN core)
        (SCH.det core r.thread)).setPreempt core := by
  simp [U.longRun, h, hmax, hl, Nat.not_le.mpr hlate]

theorem U.paceCheck_idle {p : Nat} (h : u.sch.runs.find? core = none) : u.paceCheck t core p = u.wr (R.SCH_CORE_PACE_LAST core) (min p 2047) := by
  simp [U.paceCheck, h]

theorem U.paceCheck_runs {v : U} {p : Nat} (h : u.sch.runs.find? core = some r) (hv : v = (u.wr (R.SCH_CORE_PACE_LAST core) (min p 2047)).wr
      (R.SCH_CORE_PACE_MIN core) (min (u.rd (R.SCH_CORE_PACE_MIN core)) (min p 2047))) :
    u.paceCheck t core p = if p < u.rd R.SCH_CTL_PACE_LIM then v.raise t (SCH.SLOW core) (SCH.det core r.thread) else v := by
  have hlo : (u.wr (R.SCH_CORE_PACE_LAST core) (min p 2047)).rd (R.SCH_CORE_PACE_MIN core) = u.rd (R.SCH_CORE_PACE_MIN core) :=
    U.rd_wr_ne _ _ (Fld.key_ne_of_lo rfl (show 16 ≠ 0 by decide))
  have hlim : v.rd R.SCH_CTL_PACE_LIM = u.rd R.SCH_CTL_PACE_LIM := by
    rw [hv]
    iterate 2 rw [U.rd_wr_ne _ _ (by simp only [Fld.key, ne_eq]; omega)]
  simp only [U.paceCheck, U.wr_sch, h, hlo, ← hv, hlim]

end Runs

section Load
variable {u : U} {t : TimeBase}

/-- The time of a core's runs in the window that ends. -/
def U.busyTime (u : U) (t : TimeBase) (c : Nat) : Nat :=
  u.sch.winBusy.get c 0 + ((u.sch.runs.find? c).map (fun r => t.t16 - max r.start u.sch.winStart)).getD 0

/-- LOAD of a core that was busy so long. -/
def coreLoad (busy : Nat) : Nat := (satU 16 (rdiv (busy * 65536) 16000000)).toNat

theorem coreLoad_lt (busy : Nat) : coreLoad busy < 2 ^ 16 := by
  obtain ⟨hlo, hhi, -⟩ := satU_spec 16 (rdiv (busy * 65536) 16000000)
  unfold coreLoad
  omega

/-- LOAD and RUNS of a core shown. -/
def U.loadPut (load runs : Nat → Nat) (v : U) (c : Nat) : U := (v.wr (R.SCH_CORE_LOAD_LOAD c) (load c)).wr (R.SCH_CORE_LOAD_RUNS c) (runs c)

section Pass
variable (load runs : Nat → Nat)

/-- Only registers are shown. -/
theorem U.loadPut_regs (v : U) (c : Nat) : ∃ r, U.loadPut load runs v c = { v with regs := r } := ⟨_, rfl⟩

theorem U.loadPut_sch (v : U) (c : Nat) : (U.loadPut load runs v c).sch = v.sch := rfl

/-- A pass that shows the same, as long as the scheduler beside its registers stands. -/
theorem U.loadPass_eq {u : U} {f : U → Nat → U} (hf : ∀ v c, v.sch = u.sch → f v c = U.loadPut load runs v c) (l : List Nat) (v : U)
    (hv : v.sch = u.sch) : l.foldl f v = l.foldl (U.loadPut load runs) v := by
  induction l generalizing v with
  | nil => rw [List.foldl_nil, List.foldl_nil]
  | cons c l ih =>
    rw [List.foldl_cons, List.foldl_cons, hf v c hv]
    exact ih _ ((U.loadPut_sch load runs v c).trans hv)

theorem U.loadPut_other (v : U) {c d : Nat} (h : c ≠ d) :
    (U.loadPut load runs v d).rd (R.SCH_CORE_LOAD_LOAD c) = v.rd (R.SCH_CORE_LOAD_LOAD c) :=
  (U.rd_wr_ne _ _ (by simp only [Fld.key, ne_eq]; omega)).trans (U.rd_wr_ne _ _ (by simp only [Fld.key, ne_eq]; omega))

theorem U.loadPut_own (hload : ∀ c, load c < 2 ^ 16) (v : U) (c : Nat) : (U.loadPut load runs v c).rd (R.SCH_CORE_LOAD_LOAD c) = load c := by
  refine (U.rd_wr_ne _ _ ?_).trans ((U.rd_wr_same _ _ _).trans (Nat.mod_eq_of_lt (hload c)))
  exact Fld.key_ne_of_lo rfl (show 0 ≠ 16 by decide)

theorem U.loadPass_off {c : Nat} (l : List Nat) (hc : c ∉ l) (v : U) :
    (l.foldl (U.loadPut load runs) v).rd (R.SCH_CORE_LOAD_LOAD c) = v.rd (R.SCH_CORE_LOAD_LOAD c) := by
  induction l generalizing v with
  | nil => rw [List.foldl_nil]
  | cons d l ih =>
    rw [List.mem_cons, not_or] at hc
    rw [List.foldl_cons, ih hc.2, U.loadPut_other load runs v hc.1]

theorem U.loadPass_load (hload : ∀ c, load c < 2 ^ 16) {c : Nat} {l : List Nat} (h : c ∈ l) (v : U) :
    (l.foldl (U.loadPut load runs) v).rd (R.SCH_CORE_LOAD_LOAD c) = load c := by
  induction l generalizing v with
  | nil => cases h
  | cons d l ih =>
    rw [List.foldl_cons]
    by_cases hc : c ∈ l
    · exact ih hc _
    · rw [U.loadPass_off load runs l hc, (List.mem_cons.mp h).resolve_right hc, U.loadPut_own load runs hload]

theorem U.loadPass_sch (l : List Nat) (u : U) : (l.foldl (U.loadPut load runs) u).sch = u.sch :=
  foldl_leaves (p := U.sch) (fun v c => U.loadPut_sch load runs v c) _ _

theorem U.loadPass_calm (h : u.Calm) (l : List Nat) (f : Sched → Sched) : ((l.foldl (U.loadPut load runs) u).withSch f).Calm := by
  have keeps : ∀ {β : Type} (p : U → β), (∀ v r, p { v with regs := r } = p v) → p (l.foldl (U.loadPut load runs) u) = p u := by
    intro β p hp
    refine foldl_leaves (p := p) (fun v c => ?_) _ _
    obtain ⟨r, hregs⟩ := U.loadPut_regs load runs v c
    rw [hregs, hp]
  exact ⟨(keeps (fun v => v.evq) (fun _ _ => rfl)).trans h.evq, (keeps (fun v => v.snp.fired) (fun _ _ => rfl)).trans h.shot,
    (keeps (fun v => v.sdl.cur) (fun _ _ => rfl)).trans h.cur, (keeps (fun v => v.sdl.tx) (fun _ _ => rfl)).trans h.tx⟩

end Pass

/-- The time of a core's runs, as the window's end reads it. -/
theorem U.busyTime_eq (u : U) (t : TimeBase) (c : Nat) : u.busyTime t c = u.sch.winBusy.get c 0 + (match u.sch.runs.find? c with
    | some r => t.t16 - max r.start u.sch.winStart
    | none => 0) := by
  unfold U.busyTime
  cases u.sch.runs.find? c <;> rfl

/-- The window's pass over the cores reads nothing that it writes. -/
theorem U.loadWindow_pass (u : U) (t : TimeBase) : ∃ runs, u.loadWindow t =
    ((List.range 16).foldl (U.loadPut (fun c => coreLoad (u.busyTime t c)) runs) u).withSch
      (fun s => { s with winStart := t.t16, winBusy := [], winRuns := [] }) := by
  refine ⟨fun c => min 65535 (u.sch.winRuns.get c 0), ?_⟩
  unfold U.loadWindow U.each
  refine congrArg (fun v : U => v.withSch (fun s => { s with winStart := t.t16, winBusy := [], winRuns := [] })) ?_
  refine U.loadPass_eq _ _ (fun v c hv => ?_) _ _ rfl
  simp only [U.loadPut, U.busyTime_eq, coreLoad, hv] <;> rfl

theorem U.loadWindow_calm (t : TimeBase) (h : u.Calm) : (u.loadWindow t).Calm := by
  obtain ⟨runs, hwin⟩ := U.loadWindow_pass u t
  rw [hwin]
  exact U.loadPass_calm _ _ h _ _

/-- The window that begins: its counts begin anew. -/
theorem U.loadWindow_sch (u : U) (t : TimeBase) : (u.loadWindow t).sch = { u.sch with winStart := t.t16, winBusy := [], winRuns := [] } := by
  obtain ⟨runs, hwin⟩ := U.loadWindow_pass u t
  rw [hwin, U.withSch_sch, U.loadPass_sch]

theorem U.loadWindow_load (u : U) (t : TimeBase) {c : Nat} (hc : c < 16) : (u.loadWindow t).rd (R.SCH_CORE_LOAD_LOAD c) =
    coreLoad (u.busyTime t c) := by
  obtain ⟨runs, hwin⟩ := U.loadWindow_pass u t
  rw [hwin, U.rd_withSch]
  exact U.loadPass_load _ _ (fun c => coreLoad_lt _) (List.mem_range.mpr hc) u

theorem U.withLpe_sch_any (u : U) (f : Lpe → Lpe) : (u.withLpe f).sch = u.sch ∧ True := ⟨rfl, trivial⟩

/-- A calm handshake's end leaves the scheduler beside its registers. -/
theorem U.finish_sch {u : U} (t : TimeBase) (l : U) (h : u.Calm) : (u.finish t l).sch = u.sch := by
  obtain ⟨x, n, e⟩ := (u.syncSending.syncBak).putLines_keeps
  rw [U.finish_calm t l h]
  refine (U.withLpe_sch_any (u.syncSending.syncBak.putLines) _).1.trans ?_
  rw [e]
  rfl

theorem State.after_u (s : State) (x : U) : (s.after x).u = x.finish s.time x := rfl

theorem coreLoad_notShown : ∀ c < 16, (R.SCH_CORE_LOAD_LOAD c).key ∉ shownKeys := by decide

end Load

/-! ### Errors of a core (R436) -/

section CoreError
variable {u : U} {t : TimeBase} {core : Nat}

theorem U.coreError_down {kind : Nat} (h : u.coreUp core = false) : u.coreError t core kind = u := if_pos (by simp [h])

theorem U.coreError_up (h : u.coreUp core = true) : u.coreError t core 0 = (u.retireCore t core).uncorrected t ∧
    u.coreError t core 1 = (u.inc (R.SCH_CORE_CNT_REFETCH_CNT core)).uncorrected t ∧
    u.coreError t core 2 = (u.inc (R.SCH_CORE_CNT_SCRUB_CNT core)).onMem t (fun io => io.tableError 0x400000000 1) := by
  simp [U.coreError, h]

end CoreError

/-! ### The commands as executed -/

section Exec
variable {s : State} {core : Nat} (hh : s.u.held = false)
include hh

theorem exec_schCreate_heard {th : Nat} (hw : (Instr.schCreate core th).wf = true) :
    exec (.schCreate core th) s = .next (s.after (s.u.cmdCreate s.time core th)) :=
  State.onUnit_whole (fun t u => u.cmdCreate t core th) hw rfl hh

theorem exec_schDestroy_heard {th : Nat} (hw : (Instr.schDestroy core th).wf = true) :
    exec (.schDestroy core th) s = .next (s.after (s.u.cmdDestroy core th)) :=
  State.onUnit_whole (fun _ u => u.cmdDestroy core th) hw rfl hh

theorem exec_schReady_heard {th : Nat} (hw : (Instr.schReady core th none).wf = true) :
    exec (.schReady core th none) s = .next (s.after (s.u.cmdReady s.time core th)) :=
  State.onUnit_whole (fun t u => u.cmdReady t core th) hw rfl hh

theorem exec_schReadyCancel_heard {th other : Nat} (hw : (Instr.schReady core th (some other)).wf = true) :
    exec (.schReady core th (some other)) s = .next (s.after (s.u.cmdReadyCancel s.time core th other)) :=
  State.onUnit_whole (fun t u => u.cmdReadyCancel t core th other) hw rfl hh

theorem exec_schCancel_heard {th : Nat} (hw : (Instr.schCancel core th).wf = true) :
    exec (.schCancel core th) s = .next (s.after (s.u.cmdCancel s.time core th)) :=
  State.onUnit_whole (fun t u => u.cmdCancel t core th) hw rfl hh

theorem exec_schRestart_heard {th : Nat} (hw : (Instr.schRestart core th).wf = true) :
    exec (.schRestart core th) s = .next (s.after (s.u.cmdRestart s.time core th)) :=
  State.onUnit_whole (fun t u => u.cmdRestart t core th) hw rfl hh

theorem exec_schPost_heard {f : Nat} (hw : (Instr.schPost core f).wf = true) :
    exec (.schPost core f) s = .next (s.after (s.u.cmdPost s.time core f)) :=
  State.onUnit_whole (fun t u => u.cmdPost t core f) hw rfl hh

theorem exec_schRetireCore_heard {x : Nat} (hw : (Instr.schRetireCore core x).wf = true) :
    exec (.schRetireCore core x) s = .next (s.after (s.u.cmdRetire s.time core x)) :=
  State.onUnit_whole (fun t u => u.cmdRetire t core x) hw rfl hh

theorem exec_schRestoreCore_heard {x : Nat} (hw : (Instr.schRestoreCore core x).wf = true) :
    exec (.schRestoreCore core x) s = .next (s.after (s.u.cmdRestore core x)) :=
  State.onUnit_whole (fun _ u => u.cmdRestore core x) hw rfl hh

end Exec

/-! ### The obligation -/

/-- Settles O27: each command of the scheduler answers by the state of its thread, flow or core, and its events act at their time. -/
theorem schedulerCommandsComplete : Obligations.SchedulerCommandsComplete := by
  unfold Obligations.SchedulerCommandsComplete
  refine ⟨?bad, ?create, ?destroy, ?ready, ?readyCancel, ?cancel, ?restart, ?postBad, ?post, ?postNone, ?retire, ?restore, ?shown, ?resWaits,
    ?resReads, ?ipi, ?src, ?tableNone, ?tableOne, ?long, ?longIdle, ?paceIdle, ?pace, ?load, ?error⟩
  case bad =>
    rintro s core th c (rfl | rfl | rfl | rfl | rfl) hw hh hth
    · rw [exec_schCreate_heard hh hw, U.cmdCreate_bad (thrOk_false hth)]
    · rw [exec_schDestroy_heard hh hw, U.cmdDestroy_bad (thrOk_false hth)]
    · rw [exec_schReady_heard hh hw, U.cmdReady_bad (thrOk_false hth)]
    · rw [exec_schCancel_heard hh hw, U.cmdCancel_bad (thrOk_false hth)]
    · rw [exec_schRestart_heard hh hw, U.cmdRestart_bad (thrOk_false hth)]
  case create =>
    intro s core th hw hh h0 hth hs
    rw [exec_schCreate_heard hh hw, U.cmdCreate_free (thrOk_true h0 hth) hs]
  case destroy =>
    intro s core th hw hh h0 hth hs
    rw [exec_schDestroy_heard hh hw, U.cmdDestroy_idle (thrOk_true h0 hth) hs]
  case ready =>
    intro s core th hw hh h0 hth
    rw [exec_schReady_heard hh hw]
    exact ⟨fun hs => by rw [U.cmdReady_waiting (thrOk_true h0 hth) hs], fun hs => by rw [U.cmdReady_running (thrOk_true h0 hth) hs]⟩
  case readyCancel =>
    intro s core th other hw hh h0 hth hs
    rw [exec_schReadyCancel_heard hh hw, U.cmdReadyCancel_waiting (thrOk_true h0 hth) hs]
  case cancel =>
    intro s core th hw hh h0 hth
    rw [exec_schCancel_heard hh hw]
    exact ⟨fun hs => by rw [U.cmdCancel_ready (thrOk_true h0 hth) hs], fun hs => by rw [U.cmdCancel_running (thrOk_true h0 hth) hs]⟩
  case restart =>
    intro s core th hw hh h0 hth
    rw [exec_schRestart_heard hh hw, U.cmdRestart_named (thrOk_true h0 hth)]
    exact ⟨fun hs => by rw [if_pos hs], fun hs => by rw [if_neg hs]⟩
  case postBad =>
    intro s core f hw hh hf
    rw [exec_schPost_heard hh hw, U.cmdPost_bad hf]
  case post =>
    intro s core f th q v hw hh h0 hf hth hne hq
    rw [exec_schPost_heard hh hw, U.cmdPost_queued h0 hf hth hne hq]
  case postNone =>
    intro s core f hw hh h0 hf h
    rw [exec_schPost_heard hh hw, U.cmdPost_none h0 hf h]
  case retire =>
    intro s core x hw hh hx
    rw [exec_schRetireCore_heard hh hw]
    exact ⟨fun hr hup => by rw [U.cmdRetire_idle hx hr hup], fun hr => by rw [U.cmdRetire_runs hx hr]⟩
  case restore =>
    intro s core x hw hh hx
    rw [exec_schRestoreCore_heard hh hw, U.cmdRestore_named hx]
    exact ⟨fun hs => by rw [if_neg (not_not_intro hs)], fun hs => by rw [if_pos hs]⟩
  case shown => exact fun u core st q _ => U.cmdResult_shown u core st q
  case resWaits =>
    intro s core hw hh h
    rw [exec_schCmdResRead, execSchCmdResRead, State.onUnit_whole (fun _ u => u.cmdResRead core) hw rfl hh, U.cmdResRead_waits h]
  case resReads =>
    intro s core hw hh h
    rw [exec_schCmdResRead, execSchCmdResRead, State.onUnit_whole (fun _ u => u.cmdResRead core) hw rfl hh, U.cmdResRead_reads h]
  case ipi =>
    intro s core v hw hh
    rw [exec_schIpiWrite, execSchIpiWrite, State.onUnit_whole (fun _ u => u.ipiWrite core v) hw rfl hh]
    exact ⟨ipiBits s.u.sch.msip core v, rfl, fun j hj => bitAt_ipiBits _ _ _ hj⟩
  case src =>
    intro s n v hw hh h
    rw [exec_schSrcWrite, execSchSrcWrite, State.onUnit_whole (fun t u => u.srcWrite t n v) hw rfl hh, U.srcWrite_changed h]
    exact ⟨fun hp => by rw [if_neg (Bool.eq_false_iff.mp hp)], fun hp => by rw [if_pos hp]⟩
  case tableNone =>
    intro s hh h
    rw [exec_timetableExpiry, execTimetableExpiry, State.onUnit_whole (fun t u => u.timetable t (t.lastUs % 2 ^ 32)) rfl rfl hh,
      U.timetable_none (fun x hx => U.overdue_false (h x hx))]
  case tableOne =>
    intro s th hh h0 hth hv hd h
    have hdue : s.u.overdue (s.time.lastUs % 2 ^ 32) th = true := by
      rw [U.overdue, bne_iff_ne.mpr (Nat.ne_of_gt h0), hv, decide_eq_true hd]; rfl
    rw [exec_timetableExpiry, execTimetableExpiry, State.onUnit_whole (fun t u => u.timetable t (t.lastUs % 2 ^ 32)) rfl rfl hh,
      U.timetable_one hth hdue (fun x hx hne => U.overdue_false (fun hx0 => h x hx hx0 hne))]
  case long =>
    intro s core r hw hh hr hmax hl hlate
    rw [exec_longRun, execLongRun, State.onUnit_whole (fun t u => u.longRun t core) hw rfl hh, U.longRun_told hr hmax hl hlate]
  case longIdle =>
    intro s core hw hh hr
    rw [exec_longRun, execLongRun, State.onUnit_whole (fun t u => u.longRun t core) hw rfl hh, U.longRun_idle hr]
  case paceIdle =>
    intro s core p hw hh hr
    rw [exec_paceCheck, execPaceCheck, State.onUnit_whole (fun t u => u.paceCheck t core p) hw rfl hh, U.paceCheck_idle hr]
  case pace =>
    intro s core p r v hw hh hr hv
    rw [exec_paceCheck, execPaceCheck, State.onUnit_whole (fun t u => u.paceCheck t core p) hw rfl hh, U.paceCheck_runs hr hv]
    exact ⟨fun hp => by rw [if_pos hp], fun hp => by rw [if_neg (Nat.not_lt.mpr hp)]⟩
  case load =>
    intro s hh hc
    rw [exec_loadWindowEnd, execLoadWindowEnd, State.onUnit_whole (fun t u => u.loadWindow t) rfl rfl hh]
    have hcalm := U.loadWindow_calm s.time hc
    have hsch := (U.finish_sch s.time (s.u.loadWindow s.time) hcalm).trans (U.loadWindow_sch s.u s.time)
    rw [← State.after_u] at hsch
    refine ⟨_, rfl, by rw [hsch], by rw [hsch], by rw [hsch], ?_⟩
    intro c hlt hr
    have hbusy : s.u.busyTime s.time c = s.u.sch.winBusy.get c 0 := by rw [U.busyTime, hr]; rfl
    rw [Nat.cast_mul, ← hbusy, State.after_u]
    exact (U.finish_rd s.time _ hcalm (coreLoad_notShown c hlt)).trans (U.loadWindow_load s.u s.time hlt)
  case error =>
    intro s core kind hw hh
    rw [exec_coreUncorrError, execCoreUncorrError, State.onUnit_whole (fun t u => u.coreError t core kind) hw rfl hh]
    refine ⟨fun hup => by rw [U.coreError_down hup], fun hup => ?_⟩
    obtain ⟨hdirty, hclean, hcorrected⟩ := U.coreError_up (t := s.time) hup
    exact ⟨fun hk => by rw [hk, hdirty], fun hk => by rw [hk, hclean], fun hk => by rw [hk, hcorrected]⟩

end Sys2Proof.Machine
end

section
/-! PROOFS. The commands of the pair (R502, R504 to R506, R508). -/
namespace Sys2Proof.Machine

/-! ### What raising a cause leaves of the roles (R442, R447) -/

/-- An Info cause sets its STATUS bit and puts its event in flight, and nothing else. -/
theorem U.raise_info (u : U) (t : TimeBase) {c : Cause} (d : List (Nat × Nat × Nat)) (hc : c.cls = none) : u.raise t c d = u.markCause c := by
  rw [U.raise, U.raiseAt, hc]
  rfl

theorem U.markCause_sdl (u : U) (c : Cause) : (u.markCause c).sdl = u.sdl := by
  have h := congrArg U.sdl (u.unraised_markCause c)
  exact h

/-- A cause of base class 1 is recorded and seen, with glacier mode where it has become class 2. -/
theorem U.raise_classOne (u : U) (t : TimeBase) {c : Cause} (d : List (Nat × Nat × Nat)) (hc : c.cls = some 1) :
    u.raise t c d = (if (u.record t.ts64 c (some 1) d).1 = 2
      then ((u.record t.ts64 c (some 1) d).2.faultSeen (u.record t.ts64 c (some 1) d).1).glacier t
      else (u.record t.ts64 c (some 1) d).2.faultSeen (u.record t.ts64 c (some 1) d).1) := by
  have hlt : (u.record t.ts64 c (some 1) d).1 < 3 := escalate_one_lt _
  simp only [U.raise, U.raiseAt, hc, Option.isNone_some, Bool.false_eq_true, if_false, U.classAct]
  rw [if_neg (Nat.ne_of_lt hlt)]

/-- The register fields that bringing glacier mode up to date can change. -/
def glacierKeys : List Nat :=
  [R.SBX_STATE_GL_OWN.key, R.SBX_STATE_GL_ACTIVE.key, (SBX.GL_ENTER.blk.status SBX.GL_ENTER.bit).key,
   (SBX.GL_EXIT.blk.status SBX.GL_EXIT.bit).key, (SBX.PEER_GLACIER.blk.status SBX.PEER_GLACIER.bit).key]

theorem U.glacier_rd (u : U) (t : TimeBase) {f : Fld} (h : f.key ∉ glacierKeys) : (u.glacier t).rd f = u.rd f := by
  simp only [glacierKeys, List.mem_cons, List.not_mem_nil, or_false, not_or] at h
  obtain ⟨hown, hact, henter, hexit, hpeer⟩ := h
  have info : ∀ (v : U) (p : Prop) [Decidable p], (v.record t.ts64 (if p then SBX.GL_ENTER else SBX.GL_EXIT) none []).2.rd f = v.rd f := by
    intro v p _
    by_cases hp : p
    · rw [if_pos hp]; exact U.markCause_rd v _ henter
    · rw [if_neg hp]; exact U.markCause_rd v _ hexit
  unfold U.glacier
  split
  · rfl
  · have hshown : ∀ b c : Bool, ((u.put R.SBX_STATE_GL_OWN b).put R.SBX_STATE_GL_ACTIVE c).rd f = u.rd f :=
      fun _ _ => (U.rd_wr_ne _ _ hact).trans (U.rd_wr_ne _ _ hown)
    dsimp only
    split
    · refine (U.markCause_rd _ _ hpeer).trans ?_
      split
      · exact hshown _ _
      · exact (info _ _).trans (hshown _ _)
    · split
      · exact hshown _ _
      · exact (info _ _).trans (hshown _ _)

/-- A cause of base class 1 leaves every field outside its STATUS bit, its block's record, the first trip and glacier mode. -/
theorem U.raise_classOne_rd (u : U) (t : TimeBase) {c : Cause} (d : List (Nat × Nat × Nat)) (hc : c.cls = some 1) {f : Fld}
    (hs : f.key ≠ (c.blk.status c.bit).key) (ht : f.key ∉ c.touches d) (hg : f.key ∉ glacierKeys) : (u.raise t c d).rd f = u.rd f := by
  rw [U.raise_classOne u t d hc]
  split
  · rw [U.glacier_rd _ _ hg, U.faultSeen_rd, U.record_rd _ _ _ _ _ hs ht]
  · rw [U.faultSeen_rd, U.record_rd _ _ _ _ _ hs ht]

/-! ### JOIN (R502) -/

section Join
variable {u v : U} {t : TimeBase}

theorem U.join_online (h : u.role ≠ 0) : u.join t = u := if_neg h

variable (h : u.role = 0) (hv : v = u.wr R.SDL_CTL_JOIN 1) (hn : u.sdl.next = none)
include h hv

theorem U.join_pending : u.join t = v.joinCheck t := by rw [U.join, if_pos h, hv]

include hn

/-- A pending JOIN looks at the peer and at PREFER, which its write has left. -/
theorem U.joinCheck_open : ¬ (v.role ≠ 0 || !v.on R.SDL_CTL_JOIN || v.sdl.next.isSome) = true ∧
    v.on R.SDL_ROLE_PEER_VALID = u.on R.SDL_ROLE_PEER_VALID ∧ v.on R.SDL_ROLE_PREFER = u.on R.SDL_ROLE_PREFER := by
  have hrd : ∀ f : Fld, f.key ≠ R.SDL_CTL_JOIN.key → v.rd f = u.rd f := fun f hf => by rw [hv]; exact U.rd_wr_ne _ _ hf
  have hrole : v.role = 0 := (hrd _ (by decide)).trans h
  have hjoin : v.on R.SDL_CTL_JOIN = true := by rw [hv, U.on, U.rd_wr_same]; decide
  have hnext : v.sdl.next = none := by rw [hv]; exact hn
  refine ⟨?_, ?_, ?_⟩
  · simp [hrole, hjoin, hnext]
  · rw [U.on, U.on, hrd _ (by decide)]
  · rw [U.on, U.on, hrd _ (by decide)]

theorem U.join_alone (hp : u.on R.SDL_ROLE_PEER_VALID = false) (hpref : u.on R.SDL_ROLE_PREFER = true) :
    u.join t = v.withSdl (fun x => { x with next := some 3 }) := by
  obtain ⟨hopen, hvalid, hprefer⟩ := U.joinCheck_open h hv hn
  rw [U.join_pending h hv, U.joinCheck, if_neg hopen]
  simp only [hvalid, hp, hprefer, hpref, if_true]
  rfl

theorem U.join_active {c : Ctrl} (hp : u.on R.SDL_ROLE_PEER_VALID = true) (hc : u.sdl.peer = some c) (hcfg : c.cfgId = u.topo.cfgId)
    (hfw : c.fwId = u.fwId) (hr : c.role = 3) : u.join t = v.withSdl (fun x => { x with next := some 1 }) := by
  obtain ⟨hopen, hvalid, -⟩ := U.joinCheck_open h hv hn
  have hpeer : v.sdl.peer = some c := by rw [hv]; exact hc
  have htopo : c.cfgId = v.topo.cfgId := by rw [hv]; exact hcfg
  have hid : c.fwId = v.fwId := by rw [hv]; exact hfw
  rw [U.join_pending h hv, U.joinCheck, if_neg hopen]
  simp [hvalid, hp, hpeer, htopo, hid, hr]
  rfl

theorem U.join_otherImages {c : Ctrl} (hp : u.on R.SDL_ROLE_PEER_VALID = true) (hc : u.sdl.peer = some c) (hcfg : c.cfgId ≠ u.topo.cfgId) :
    u.join t = (v.raise t SDL.IMG_DIFF []).wr R.SDL_CTL_JOIN 0 := by
  obtain ⟨hopen, hvalid, -⟩ := U.joinCheck_open h hv hn
  have hpeer : v.sdl.peer = some c := by rw [hv]; exact hc
  have htopo : c.cfgId ≠ v.topo.cfgId := by rw [hv]; exact hcfg
  rw [U.join_pending h hv, U.joinCheck, if_neg hopen]
  simp [hvalid, hp, hpeer, htopo]

end Join

/-! ### SWAP, RELQ, REJOIN (R502, R504, R506) -/

section Commands
variable {u v : U} {t : TimeBase}

theorem U.swapOk_iff : u.swapOk = true ↔ u.role = 3 ∧ u.peerIs 2 = true ∧ u.on R.SDL_ROLE_HO_PEND = false := by
  simp only [U.swapOk, Bool.and_eq_true, beq_iff_eq, Bool.not_eq_true', and_assoc]

theorem U.relinquishCause_passive (h : u.role ≠ 3) : u.relinquishCause t 0 = u := by
  have passive : (decide (u.rd R.SDL_ROLE_ROLE = 3) && !u.sdl.rlq) = false := by
    rw [decide_eq_false (show ¬ u.rd R.SDL_ROLE_ROLE = 3 from h), Bool.false_and]
  simp [U.relinquishCause, passive]

/-- An ACTIVE unit that has not relinquished does so where its peer is STANDBY, and holds RELQ back where it is not. -/
theorem U.relinquishCause_active (h : u.role = 3) (hr : u.sdl.rlq = false)
    (hv : v = u.withSdl (fun x => { x with rlqBy := x.rlqBy.filter (· != 0) ++ [0] })) : u.relinquishCause t 0 =
      if v.peerIs 2 then v.relinquish t else (v.raise t SDL.RLQ_BLOCKED []).withSdl (fun x => { x with rlqHeld := true }) := by
  have active : (decide (u.rd R.SDL_ROLE_ROLE = 3) && !u.sdl.rlq) = true := by
    rw [decide_eq_true (show u.rd R.SDL_ROLE_ROLE = 3 from h), hr]; rfl
  subst hv
  simp only [U.relinquishCause, active, Bool.not_true, Bool.and_false, Bool.false_eq_true, if_false]
  rfl

theorem U.rejoin_relinquished (h : u.role = 4) (hr : u.sdl.rlqBy = []) : u.rejoin = u.withSdl (fun x => { x with next := some 1 }) := by
  simp [U.rejoin, h, hr, U.decideRole]

theorem U.rejoin_refused (h : u.role ≠ 4 ∨ u.sdl.rlqBy ≠ []) : u.rejoin = u := by
  rcases h with h | h <;> simp [U.rejoin, h]

/-! ### RELINQUISH on Siding (R488) -/

theorem U.sidingControl_shut {b : Block} (h : u.sidingUp = 0 ∨ u.blockHeld 81 = true) : u.sidingControl b = u := if_pos (by simpa using h)

theorem U.sidingControl_sends {b : Block} (hup : u.sidingUp ≠ 0) (hb : u.blockHeld 81 = false) :
    u.sidingControl b = u.cutSiding.emit (.siding u.sidingLanes (List.replicate 4 b)) := if_neg (by simp [hup, hb])

theorem U.cutSiding_none (h : u.sdl.cur = none) : u.cutSiding = u := by simp only [U.cutSiding, h]

theorem U.cutSiding_cur (u : U) : u.cutSiding.sdl.cur = none := by
  unfold U.cutSiding
  split
  · assumption
  · split <;> rfl

/-! ### The time limits (R502, R505, R506, R508) -/

theorem U.joinTimeout_active (h : u.role = 0) (hj : u.on R.SDL_CTL_JOIN = true) (hp : u.peerIs 3 = false) :
    u.joinTimeout = u.withSdl (fun x => { x with next := some 3 }) := by simp [U.joinTimeout, h, hj, hp, U.decideRole]

theorem U.joinTimeout_waits (h : u.role ≠ 0 ∨ u.on R.SDL_CTL_JOIN = false ∨ u.peerIs 3 = true) : u.joinTimeout = u := by
  rcases h with h | h | h <;> simp [U.joinTimeout, h]

theorem U.peerGone_silent (hp : u.on R.SDL_ROLE_PEER_VALID = false) (hw : u.rd R.SDL_CTL_TAKE_HW = 0) : u.peerGone = true := by
  simp [U.peerGone, hp, hw]

theorem U.peerLost_standby (h : u.role = 2) (hg : u.peerGone = true) :
    u.peerLost t = (u.raise t SDL.PEER_LOST []).withSdl (fun x => { x with next := some 3 }) := by
  have hrole : (u.raise t SDL.PEER_LOST []).role = 2 :=
    (U.raise_classOne_rd u t [] rfl (by decide) (by decide) (by decide)).trans h
  simp [U.peerLost, h, hg, hrole, U.decideRole]

theorem U.peerLost_syncing (h : u.role = 1) (hg : u.peerGone = true) :
    u.peerLost t = ((u.raise t SDL.PEER_LOST []).raise t SDL.TAKE_UNSYNC []).withSdl (fun x => { x with next := some 3 }) := by
  have hrole : (u.raise t SDL.PEER_LOST []).role = 1 :=
    (U.raise_classOne_rd u t [] rfl (by decide) (by decide) (by decide)).trans h
  simp [U.peerLost, h, hg, hrole, U.decideRole]

theorem U.peerLost_not (h : (u.role ≠ 1 ∧ u.role ≠ 2) ∨ u.on R.SDL_ROLE_PEER_VALID = true) : u.peerLost t = u := by
  rcases h with ⟨h1, h2⟩ | h
  · simp [U.peerLost, h1, h2]
  · simp [U.peerLost, U.peerGone, h]

theorem U.clearTimeout_none (h : u.sdl.clrWait = none) : u.clearTimeout t = u := by simp only [U.clearTimeout, h]

theorem U.clearTimeout_waiting {n : Nat} (h : u.sdl.clrWait = some n) : u.clearTimeout t = if 3 ≤ n then u.clearRefused t else u := by
  simp only [U.clearTimeout, h, ge_iff_le]

theorem U.revHold_preferred (h : u.role = 2) (hp : u.on R.SDL_ROLE_PREFER = true) (hr : u.rd R.SDL_TMO2_REV_HOLD ≠ 0) :
    u.revHold = u.withSdl (fun x => { x with rev := true }) := by simp [U.revHold, h, hp, hr]

theorem U.revHold_not (h : u.role ≠ 2 ∨ u.on R.SDL_ROLE_PREFER = false ∨ u.rd R.SDL_TMO2_REV_HOLD = 0) : u.revHold = u := by
  rcases h with h | h | h <;> simp [U.revHold, h]

theorem rlqReset_resets (h : u.role = 4) (hr : u.on R.SDL_CTL_RLQ_RST = true) : rlqReset t u = resetAssert t u 6 1 0 := if_pos (by simp [h, hr])

theorem rlqReset_not (h : u.role ≠ 4 ∨ u.on R.SDL_CTL_RLQ_RST = false) : rlqReset t u = (t, u) :=
  if_neg (by rcases h with h | h <;> simp [h])

/-! ### A role taken (R502) -/

theorem U.setRole_same {r : Nat} (h : u.role = r) : u.setRole t r = u.withSdl (fun s => { s with next := none }) := if_pos h

/-- A role taken is shown, and ends what was decided and any JOIN. -/
theorem U.setRole_next (u : U) (t : TimeBase) (r : Nat) : (u.setRole t r).sdl.next = none := by
  by_cases h : u.role = r
  · rw [U.setRole_same h]; rfl
  · unfold U.setRole
    dsimp only
    rw [if_neg h, U.raise_info _ _ _ rfl, U.markCause_sdl]
    split <;> rfl

theorem U.setRole_shown {r : Nat} (h : u.role ≠ r) (hr : r < 8) : (u.setRole t r).role = r ∧ (u.setRole t r).rd R.SDL_CTL_JOIN = 0 := by
  have hrole : ∀ v : U, v.rd R.SDL_ROLE_ROLE = r → v.rd R.SDL_CTL_JOIN = 0 →
      (v.syncSending.raise t SDL.ROLE_CHG []).role = r ∧ (v.syncSending.raise t SDL.ROLE_CHG []).rd R.SDL_CTL_JOIN = 0 := by
    intro v h1 h2
    rw [U.raise_info _ _ _ rfl, U.role, U.markCause_rd _ _ (by decide), U.markCause_rd _ _ (by decide), U.syncSending, U.put_eq,
      U.rd_wr_ne _ _ (by decide), U.rd_wr_ne _ _ (by decide)]
    exact ⟨h1, h2⟩
  have hbase : ∀ w : U, ((((w.wr R.SDL_ROLE_ROLE r).inc R.SDL_CNT_B_ROLE_CNT).wr R.SDL_CTL_JOIN 0).wr R.SDL_ROLE_HO_PEND 0).rd R.SDL_ROLE_ROLE = r ∧
      ((((w.wr R.SDL_ROLE_ROLE r).inc R.SDL_CNT_B_ROLE_CNT).wr R.SDL_CTL_JOIN 0).wr R.SDL_ROLE_HO_PEND 0).rd R.SDL_CTL_JOIN = 0 := by
    intro w
    constructor
    · rw [U.rd_wr_ne _ _ (by decide), U.rd_wr_ne _ _ (by decide), U.inc_eq, U.rd_wr_ne _ _ (by decide), U.rd_wr_same]
      exact Nat.mod_eq_of_lt hr
    · rw [U.rd_wr_ne _ _ (by decide), U.rd_wr_same]
      rfl
  unfold U.setRole
  dsimp only
  rw [if_neg h]
  split
  · refine hrole _ ?_ ?_ <;> rw [U.rd_withSdl, U.rd_wr_ne _ _ (by decide)]
    · exact (hbase _).1
    · exact (hbase _).2
  · exact hrole _ (hbase _).1 (hbase _).2

end Commands

/-! ### The obligation -/

/-- Settles O32: each command of the pair decides its role or is refused by its own conditions; the limits act where their roles stand. -/
theorem roleCommandsComplete : Obligations.RoleCommandsComplete := by
  unfold Obligations.RoleCommandsComplete
  refine ⟨?joinOn, ?join, ?swap, ?relqOff, ?relq, ?control, ?rejoin, ?joinTmo, ?lost, ?lostNot, ?clear, ?clearNone, ?rev, ?rst, ?tb, ?role⟩
  case joinOn =>
    intro s hd h
    rw [exec_sdlJoin, execSdlJoin, State.onUnit_after _ wf_sdlJoin hd, U.join_online h]
  case join =>
    intro s v hd h hv hn
    rw [exec_sdlJoin, execSdlJoin, State.onUnit_after _ wf_sdlJoin hd]
    refine ⟨fun hp hpref => ?_, fun c hp hc hcfg hfw hr => ?_, fun c hp hc hcfg => ?_⟩
    · rw [U.join_alone h hv hn hp hpref]
    · rw [U.join_active h hv hn hp hc hcfg hfw hr]
    · rw [U.join_otherImages h hv hn hp hc hcfg]
  case swap =>
    intro s hd
    rw [exec_sdlSwap, execSdlSwap, State.onUnit_after _ wf_sdlSwap hd, U.swap]
    refine ⟨fun h hp ho => ?_, fun h => ?_⟩
    · rw [if_pos (U.swapOk_iff.mpr ⟨h, hp, ho⟩), U.startHandover]
    · rw [if_neg]
      intro hok
      obtain ⟨h1, h2, h3⟩ := U.swapOk_iff.mp hok
      simp [h1, h2, h3] at h
  case relqOff =>
    intro s hd h
    rw [exec_sdlRelq, execSdlRelq, State.onUnit_after (fun t u => u.relinquishCause t 0) wf_sdlRelq hd, U.relinquishCause_passive h]
  case relq =>
    intro s v hd h hr hv
    rw [exec_sdlRelq, execSdlRelq, State.onUnit_after (fun t u => u.relinquishCause t 0) wf_sdlRelq hd, U.relinquishCause_active h hr hv]
    have hpeer : v.peerIs 2 = s.u.peerIs 2 := by rw [hv]; rfl
    refine ⟨fun hp => ?_, fun hp => ?_⟩
    · rw [if_pos (hpeer.trans hp), U.relinquish, U.withSdl]
    · rw [if_neg (Bool.eq_false_iff.mp (hpeer.trans hp))]
  case control =>
    intro u b
    refine ⟨U.sidingControl_shut, fun hup hb => ?_⟩
    rw [U.sidingControl_sends hup hb]
    exact ⟨List.getLast?_concat .., U.cutSiding_cur u, fun hc => by rw [U.cutSiding_none hc]⟩
  case rejoin =>
    intro s hd
    rw [exec_sdlRejoin, execSdlRejoin, State.onUnit_after (fun _ u => u.rejoin) wf_sdlRejoin hd]
    exact ⟨fun h hr => by rw [U.rejoin_relinquished h hr], fun h => by rw [U.rejoin_refused h]⟩
  case joinTmo =>
    intro s hd
    rw [exec_joinTimeout, execJoinTimeout, State.onUnit_after (fun _ u => u.joinTimeout) wf_joinTimeout hd]
    exact ⟨fun h hj hp => by rw [U.joinTimeout_active h hj hp], fun h => by rw [U.joinTimeout_waits h]⟩
  case lost =>
    intro s hd hp hw
    rw [exec_peerLost, execPeerLost, State.onUnit_after _ wf_peerLost hd]
    have hg := U.peerGone_silent hp hw
    exact ⟨fun h => by rw [U.peerLost_standby h hg], fun h => by rw [U.peerLost_syncing h hg]⟩
  case lostNot =>
    intro s hd h
    rw [exec_peerLost, execPeerLost, State.onUnit_after _ wf_peerLost hd, U.peerLost_not h]
  case clear =>
    intro s n hd h
    rw [exec_clearAnswerTimeout, execClearAnswerTimeout, State.onUnit_after _ wf_clearAnswerTimeout hd, U.clearTimeout_waiting h]
    exact ⟨fun hn => by rw [if_pos hn, U.clearRefused], fun hn => by rw [if_neg (Nat.not_le.mpr hn)]⟩
  case clearNone =>
    intro s hd h
    rw [exec_clearAnswerTimeout, execClearAnswerTimeout, State.onUnit_after _ wf_clearAnswerTimeout hd, U.clearTimeout_none h]
  case rev =>
    intro s hd
    rw [exec_revHoldExpire, execRevHoldExpire, State.onUnit_after (fun _ u => u.revHold) wf_revHoldExpire hd]
    exact ⟨fun h hp hr => by rw [U.revHold_preferred h hp hr], fun h => by rw [U.revHold_not h]⟩
  case rst =>
    intro s hd
    rw [exec_rlqReset, execRlqReset, State.onTime_next (fun t u => rlqReset t u) wf_rlqReset hd]
    exact ⟨fun h hr => by rw [rlqReset_resets h hr, State.afterAt], fun h => by rw [rlqReset_not h, State.after]⟩
  case tb =>
    intro s hh
    rw [exec_timeBaseCheckError, execTimeBaseCheckError, State.onUnit_whole (fun t u => u.timeBaseError t) rfl rfl hh, U.timeBaseError]
  case role => exact fun u t r => ⟨U.setRole_next u t r, U.setRole_shown⟩

end Sys2Proof.Machine
end

section
/-! PROOFS. What arrives from the peer (R488, R491, R493, R495, R498, R503, R506), and the regions of the mirror (R493). -/
namespace Sys2Proof.Machine

/-! ### What is held of the peer (R491), which faults and their actions leave -/

/-- The peer's last CTRL, when it came, the silence since, and what is shown of it. -/
def U.peerView (u : U) : Option Ctrl × Nat × Nat × Nat × Nat :=
  (u.sdl.peer, u.sdl.peerTs, u.sdl.miss, u.rd R.SDL_ROLE_PEER_VALID, u.rd R.SDL_ROLE_PEER_ROLE)

/-- The fields that show the peer. -/
def peerKeys : List Nat := [R.SDL_ROLE_PEER_VALID.key, R.SDL_ROLE_PEER_ROLE.key]

theorem U.peerView_eq {u v : U} (hp : v.sdl.peer = u.sdl.peer) (ht : v.sdl.peerTs = u.sdl.peerTs) (hm : v.sdl.miss = u.sdl.miss)
    (hrd : ∀ f : Fld, f.key ∈ peerKeys → v.rd f = u.rd f) : v.peerView = u.peerView := by
  unfold U.peerView
  rw [hp, ht, hm, hrd _ (by decide), hrd _ (by decide)]

theorem U.peerView_sdl {u v : U} (hs : v.sdl = u.sdl) (hrd : ∀ f : Fld, f.key ∈ peerKeys → v.rd f = u.rd f) : v.peerView = u.peerView :=
  U.peerView_eq (by rw [hs]) (by rw [hs]) (by rw [hs]) hrd

/-- A key outside a list that holds neither field of the peer. -/
theorem peerKeys_apart {ks : List Nat} (h : ∀ k ∈ ks, k ∉ peerKeys) {f : Fld} (hf : f.key ∈ peerKeys) : f.key ∉ ks := fun hk => h _ hk hf

theorem U.peerView_wr (u : U) {f : Fld} (x : Nat) (h : f.key ∉ peerKeys) : (u.wr f x).peerView = u.peerView :=
  U.peerView_sdl rfl (fun g hg => U.rd_wr_ne _ _ (fun e => h (by rw [← e]; exact hg)))

theorem U.peerView_withSbx (u : U) (f : Sbx → Sbx) : (u.withSbx f).peerView = u.peerView := rfl

theorem U.permits_sdl (u : U) : u.permits.sdl = u.sdl := by
  rw [U.permits_eq]
  split <;> simp only [U.wr_sdl, U.withSbx_sdl, U.showPermits, U.put_eq]

theorem U.tripCore_sdl (u : U) : u.tripCore.sdl = u.sdl := by
  rw [U.tripCore_eq]
  split
  · rw [U.permits_sdl]
    obtain ⟨v, he, rfl | ⟨n, rfl⟩⟩ := u.boxTripped_cases
    · rw [he]; rfl
    · rw [he]; rfl
  · rfl

theorem U.peerView_tripCore (u : U) : u.tripCore.peerView = u.peerView :=
  U.peerView_sdl u.tripCore_sdl (fun _ hf => u.tripCore_rd (peerKeys_apart (by decide) hf) (peerKeys_apart (by decide) hf))

theorem U.peerView_avAdd (u : U) (bit : Nat) : (u.avAdd bit).peerView = u.peerView := U.peerView_wr _ _ (by decide)

theorem U.peerView_tripSource (u : U) : u.tripSource.peerView = u.peerView := by
  unfold U.tripSource
  split
  · exact u.peerView_tripCore
  · rw [U.peerView_avAdd, U.peerView_tripCore]

/-- A record leaves what is held of the peer, where its block shows nothing of it. -/
theorem U.peerView_record (u : U) (ts : Nat) (c : Cause) (base : Option Nat) (d : List (Nat × Nat × Nat))
    (h : ∀ k ∈ (c.blk.status c.bit).key :: c.touches d, k ∉ peerKeys) : (u.record ts c base d).2.peerView = u.peerView := by
  have hs := congrArg U.sdl (U.unraised_record u ts c base d)
  refine U.peerView_sdl hs (fun f hf => ?_)
  have hout := peerKeys_apart h hf
  rw [List.mem_cons, not_or] at hout
  exact U.record_rd _ _ _ _ _ hout.1 hout.2

theorem U.peerView_faultSeen (u : U) (cls : Nat) : (u.faultSeen cls).peerView = u.peerView := by
  have hs := congrArg U.sdl (U.faultSeen_unseen u cls)
  exact U.peerView_sdl hs (fun f _ => U.faultSeen_rd u cls f)

theorem U.glacier_sdl (u : U) (t : TimeBase) : (u.glacier t).sdl = u.sdl := by
  have info : ∀ (v : U) (c : Cause), (v.record t.ts64 c none []).2.sdl = v.sdl := fun v c => v.markCause_sdl c
  simp only [U.glacier, apply_ite U.sdl, info, U.put_eq, U.wr_sdl, ite_self]

theorem U.peerView_glacier (u : U) (t : TimeBase) : (u.glacier t).peerView = u.peerView :=
  U.peerView_sdl (u.glacier_sdl t) (fun _ hf => u.glacier_rd t (peerKeys_apart (by decide) hf))

/-- An avalanche cuts the frame on Siding short, and leaves what is held of the peer. -/
theorem U.peerView_cutSiding (u : U) : u.cutSiding.peerView = u.peerView := by
  unfold U.cutSiding
  split
  · rfl
  · dsimp only
    split <;> rfl

theorem U.peerView_emit (u : U) (o : Output) : (u.emit o).peerView = u.peerView := rfl

theorem U.peerView_avalancheSend (u : U) (siding : Bool) : (u.avalancheSend siding).peerView = u.peerView := by
  unfold U.avalancheSend
  rw [foldl_leaves (p := U.peerView) (fun v n => v.peerView_emit _)]
  split
  · exact u.peerView_cutSiding
  · rfl

theorem U.peerView_avalancheArms (u : U) (b : Nat) (l : List Nat) : (l.foldl (fun (x : U) a => x.armAvalanche b a) u).peerView = u.peerView := by
  have hs := congrArg U.sdl (U.avalancheArms_offLedger u b l)
  exact U.peerView_sdl hs (fun f _ => U.avalancheArms_rd u b l f)

theorem U.peerView_withDep (u : U) (f : Dep → Dep) : (u.withDep f).peerView = u.peerView := rfl

theorem U.peerView_avalancheStart (u : U) (t : TimeBase) (bit detail : Nat) : (u.avalancheStart t bit detail).peerView = u.peerView := by
  unfold U.avalancheStart
  dsimp only
  iterate 5 rw [U.peerView_wr _ _ (by decide)]
  rw [U.peerView_avalancheArms, U.peerView_withDep]
  iterate 3 rw [U.peerView_wr _ _ (by decide)]
  exact U.peerView_avalancheSend _ _

theorem U.peerView_avalanche (u : U) (t : TimeBase) (bit detail : Nat) : (u.avalanche t bit detail).peerView = u.peerView := by
  by_cases h : u.on R.DEP_STATUS_AV_LATCHED = false ∨ u.on R.DEP_STATUS_CLR_SENDING = true
  · rw [U.avalanche_first t bit detail h, U.peerView_tripSource, U.avalancheRecorded, U.peerView_faultSeen,
      U.peerView_record _ _ _ _ _ (by decide), U.peerView_avalancheStart]
  · rw [not_or, Bool.not_eq_false, Bool.not_eq_true] at h
    rw [U.avalanche_further t bit detail h.1 h.2, U.peerView_avAdd]

theorem U.peerView_classAct (u : U) (t : TimeBase) (cls src : Nat) : (u.classAct t cls src).peerView = u.peerView := by
  by_cases h2 : cls = 2
  · rw [U.classAct, if_pos h2, U.peerView_glacier]
  · by_cases h3 : cls = 3
    · rw [h3, U.classAct_three, U.peerView_tripSource, U.peerView_avalanche]
    · rw [U.classAct, if_neg h2, if_neg h3]

/-- A cause raised leaves what is held of the peer, where its block shows nothing of it. -/
theorem U.peerView_raise (u : U) (t : TimeBase) (c : Cause) (d : List (Nat × Nat × Nat))
    (h : ∀ k ∈ (c.blk.status c.bit).key :: c.touches d, k ∉ peerKeys) : (u.raise t c d).peerView = u.peerView := by
  unfold U.raise U.raiseAt
  dsimp only
  split
  · exact U.peerView_record _ _ _ _ _ h
  · rw [U.peerView_classAct, U.peerView_faultSeen, U.peerView_record _ _ _ _ _ h]

/-! ### The lines that follow the peer's status byte (R468, R473) -/

theorem U.peerView_setLine (u : U) {n : Nat} (a : Bool) (h : n < 149) : (u.setLine n a).peerView = u.peerView := by
  refine U.peerView_wr _ _ ?_
  have hkey : (R.SBX_LINES_LINE (n / 32)).key ∉ peerKeys := by
    have hn : n / 32 < 5 := by omega
    revert hn
    generalize n / 32 = m
    revert m
    decide
  exact hkey

theorem U.peerView_lineActs (u : U) (t : TimeBase) (n : Nat) : (u.lineActs t n).peerView = u.peerView := by
  unfold U.lineActs
  split
  · exact U.peerView_raise _ _ _ _ (by decide)
  · exact U.peerView_raise _ _ _ _ (by decide)
  · exact U.peerView_raise _ _ _ _ (by decide)
  · rfl

theorem U.peerView_sampleLine (u : U) (t : TimeBase) {n : Nat} (h : n < 149) : (u.sampleLine t n).peerView = u.peerView := by
  unfold U.sampleLine
  dsimp only
  split
  · rfl
  · split
    · rw [U.peerView_lineActs, U.peerView_setLine _ _ h]
    · split
      · exact U.peerView_setLine _ _ h
      · unfold U.endLasting
        split
        · rw [U.peerView_glacier]
          exact U.peerView_setLine u _ h
        · exact U.peerView_setLine _ _ h

theorem U.peerView_peerStatus (u : U) (t : TimeBase) (b : Nat) : (u.peerStatus t b).peerView = u.peerView := by
  unfold U.peerStatus
  split
  · rfl
  · rw [U.peerView_glacier, U.peerView_sampleLine _ _ (by decide), U.peerView_sampleLine _ _ (by decide), U.peerView_withSbx,
      U.peerView_wr _ _ (by decide), U.peerView_wr _ _ (by decide), U.put_eq, U.peerView_wr _ _ (by decide)]

/-! ### The parts of a CTRL (R491, R499, R500, R503, R506, R508) -/

section Ctrl
variable (u : U) (t : TimeBase) (c : Ctrl)

theorem U.peerView_preferCheck : (u.preferCheck t c).peerView = u.peerView := by
  unfold U.preferCheck
  split
  · exact U.peerView_wr _ _ (by decide)
  · dsimp only
    split
    · exact U.peerView_wr _ _ (by decide)
    · rw [U.peerView_raise _ _ _ _ (by decide)]
      exact U.peerView_wr u _ (by decide)

theorem U.peerView_peerOffset : (u.peerOffset t c).peerView = u.peerView := by
  have shown : ∀ (o : Int) (b : Bool), (((u.wrS R.TIM_PEER_OFS_OFS o).wr R.TIM_STATUS_PEER_VALID 1).withSdl
      (fun s => { s with ofsOver := b })).peerView = u.peerView := by
    intro o b
    exact (U.peerView_wr (u.wrS R.TIM_PEER_OFS_OFS o) 1 (by decide)).trans (U.peerView_wr u _ (by decide))
  unfold U.peerOffset
  split
  · rfl
  · dsimp only
    split
    · rw [U.peerView_raise _ _ _ _ (by decide), shown]
    · exact shown _ _

theorem U.peerView_latchDigests : (u.latchDigests c).peerView = u.peerView := by
  unfold U.latchDigests
  split
  · rfl
  · iterate 5 rw [U.peerView_wr _ _ (by decide)]

theorem U.peerView_dualActive : (u.dualActive t c).peerView = u.peerView := by
  unfold U.dualActive
  dsimp only
  split
  · split
    · exact (U.peerView_wr (u.raise t SDL.DUAL_ACT []) 0 (by decide)).trans (U.peerView_raise _ _ _ _ (by decide))
    · rfl
  · rfl

theorem U.peerView_startHandover : u.startHandover.peerView = u.peerView := U.peerView_wr u 1 (by decide)

theorem U.peerView_handoverRx : (u.handoverRx c).peerView = u.peerView := by
  unfold U.handoverRx
  split
  · exact (U.peerView_wr (u.wr R.SDL_ROLE_HO_PEND 1) _ (by decide)).trans (U.peerView_wr u 1 (by decide))
  · split
    · rfl
    · split
      · exact u.peerView_startHandover
      · rfl

theorem U.peerView_clearRefused : (u.clearRefused t).peerView = u.peerView := by
  unfold U.clearRefused
  rw [U.peerView_raise _ _ _ _ (by decide)]
  exact U.peerView_wr u 0 (by decide)

theorem U.peerView_clearRx : (u.clearRx t c).peerView = u.peerView := by
  have answered : (if !c.clrReq then u else if u.clearOk then u.withSdl (fun s => { s with clrAns := some true })
      else (u.withSdl (fun s => { s with clrAns := some false })).raise t DEP.CLR_REJ []).peerView = u.peerView := by
    split
    · rfl
    · split
      · rfl
      · exact U.peerView_raise _ _ _ _ (by decide)
  unfold U.clearRx
  extract_lets v
  have hv : v.peerView = u.peerView := answered
  split
  · split
    · rw [U.peerView_raise _ _ _ _ (by decide), hv]
    · exact hv
  · split
    · exact (U.peerView_wr v 0 (by decide)).trans hv
    · split
      · rw [U.peerView_clearRefused, hv]
      · exact hv

theorem U.peerView_joinCheck : (u.joinCheck t).peerView = u.peerView := by
  unfold U.joinCheck
  split
  · rfl
  · split
    · split
      · rw [U.peerView_wr _ _ (by decide), U.peerView_raise _ _ _ _ (by decide)]
      · split
        · rfl
        · split <;> rfl
    · split <;> rfl

theorem U.peerView_peerRelinquished : u.peerRelinquished.peerView = u.peerView := by
  unfold U.peerRelinquished
  split <;> rfl

theorem U.peerView_convOff : (u.withSdl (fun s => { s with convOff := true })).peerView = u.peerView := rfl

/-- A valid CTRL is held as the peer's last, and shows its role. -/
theorem U.peerCtrl_view : (u.peerCtrl t c).peerView = (some c, t.ts64, 0, 1, c.role % 2 ^ R.SDL_ROLE_PEER_ROLE.width) := by
  have held : (((u.withSdl (fun s => { s with peer := some c, peerTs := t.ts64, miss := 0 })).wr R.SDL_ROLE_PEER_VALID 1).wr
      R.SDL_ROLE_PEER_ROLE c.role).peerView = (some c, t.ts64, 0, 1, c.role % 2 ^ R.SDL_ROLE_PEER_ROLE.width) := by
    unfold U.peerView
    rw [U.rd_wr_same, U.rd_wr_ne _ _ (by decide), U.rd_wr_same]
    rfl
  unfold U.peerCtrl
  dsimp only
  rw [U.syncSending, U.put_eq, U.peerView_wr _ _ (by decide), U.peerView_joinCheck]
  rw [apply_ite U.peerView, U.peerView_peerRelinquished, ite_self, apply_ite U.peerView]
  refine (ite_self _).trans ?_
  rw [U.peerView_convOff, U.peerView_clearRx, U.peerView_handoverRx, U.peerView_dualActive, U.peerView_peerStatus, U.peerView_latchDigests,
    U.peerView_peerOffset, U.peerView_preferCheck, held]

end Ctrl

end Sys2Proof.Machine
end

section
/-! PROOFS. The frames of Siding (R487, R489), handovers and two ACTIVE units (R503, R506), mirror sections and regions (R493, R495, R498). -/
namespace Sys2Proof.Machine

/-! ### A frame on Siding (R286, R292, R487) -/

section Siding
variable {u w v : U} {t : TimeBase} {parts : List (Nat × List Block)} {b : List Nat}

theorem U.sidingFrame_good (hw : w = parts.foldl (fun (u : U) e => u.onLane t e.1 (fun io => io.headerErrors (laneBase e.1) (e.2.map (fun b => b.1)))) u)
    (hup : w.sidingUp ≠ 0) (hs : w.sidingSpoiled t = (false, v)) (hb : readBlocks (u.sidingBlocks parts) = some b) :
    u.sidingFrame t parts = (some b, v) := by
  simp only [U.sidingFrame, ← hw, hup, if_false, hs, hb]

/-- The blocks of one lane taken in turn are its blocks. -/
theorem takeTurns_one (l : List Block) : takeTurns l.length [l] = l := by
  induction l with
  | nil => rfl
  | cons b l ih => exact congrArg (b :: ·) ih

theorem U.sidingBlocks_one {n : Nat} {blocks : List Block} (hlo : 96 ≤ n) (hhi : n < 100) (hup : u.laneUp n = true)
    (hl : u.laneIO.looped (laneBase n) = false) (hr : u.on (R.LNS_STATE_REVERSED (laneBase n)) = false) :
    u.sidingBlocks [(n, blocks)] = blocks := by
  have hplace : u.laneIO.place (u.laneKind n) = n - 96 := by
    rw [U.laneKind, if_neg (Nat.not_lt.mpr hlo)]
    exact if_neg (Bool.eq_false_iff.mp hr)
  have hgot : (List.range 4).filterMap (fun p => ([(n, blocks)].find? (fun e => u.laneUp e.1 && !u.laneIO.looped (laneBase e.1) &&
      u.laneIO.place (u.laneKind e.1) == p)).map (fun e => e.2)) = [blocks] := by
    simp only [List.find?_singleton, hup, hl, hplace, Bool.not_false, Bool.and_self, Bool.true_and, beq_iff_eq]
    obtain rfl | rfl | rfl | rfl : n = 96 ∨ n = 97 ∨ n = 98 ∨ n = 99 := by omega
    all_goals rfl
  unfold U.sidingBlocks
  dsimp only
  rw [hgot, List.foldl_cons, List.foldl_nil, Nat.zero_max, takeTurns_one]

theorem U.ctrlRx_none (hr : u.sidingFrame t parts = (none, v)) : u.ctrlRx t parts = v := by simp only [U.ctrlRx, hr]

theorem U.ctrlRx_ctrl (hr : u.sidingFrame t parts = (some b, v)) (hb : octet b 0 = 4) (hk : octet b 1 = 0) :
    u.ctrlRx t parts = v.peerCtrl t (readCtrl b) := by
  simp [U.ctrlRx, hr, isMsg, hb, hk]

end Siding

/-! ### Handover, and two ACTIVE units (R503, R506) -/

section Roles
variable {u : U} {t : TimeBase} {c : Ctrl}

theorem U.handoverRx_asked (h : u.role = 2) (hc : c.hoReq = true) : u.handoverRx c =
    ((u.wr R.SDL_ROLE_HO_PEND 1).wr R.SDL_HO_DN_DN c.hoDn).withSdl (fun s => { s with hoReq := true, takeTx := false, hoPeer := true }) :=
  if_pos (by simp [h, hc])

theorem U.handoverRx_taken (h : u.role = 3) (ht : c.take = true) (hp : u.on R.SDL_ROLE_HO_PEND = true) (hd : c.hoDn = u.rd R.SDL_HO_DN_DN) :
    u.handoverRx c = u.withSdl (fun x => { x with takeRx := true }) := by
  simp [U.handoverRx, h, ht, hp, hd]

section Dual
variable (h : u.role = 3) (hc : c.role = 3)
include h hc

/-- With both units ACTIVE this one yields for its own handover, or, with none on either side, where it is not preferred. -/
theorem U.dualActive_yields (hn : u.sdl.next = none) (hy : ((u.on R.SDL_ROLE_HO_PEND && !u.sdl.takeRx) || u.sdl.hoFail ||
      (!(u.sdl.hoPeer || c.hoReq) && !u.on R.SDL_ROLE_PREFER)) = true) : (u.dualActive t c).sdl.next = some 1 := by
  unfold U.dualActive
  dsimp only
  rw [if_pos (by simp [h, hc]), if_pos (by rw [hn]; exact hy)]
  rfl

theorem U.dualActive_stays (hy : ((u.on R.SDL_ROLE_HO_PEND && !u.sdl.takeRx) || u.sdl.hoFail ||
      (!(u.sdl.hoPeer || c.hoReq) && !u.on R.SDL_ROLE_PREFER)) = false) : u.dualActive t c = u := by
  unfold U.dualActive
  dsimp only
  rw [if_pos (by simp [h, hc]), hy, Bool.and_false, if_neg Bool.false_ne_true]

end Dual
end Roles

/-! ### Mirror sections (R489, R495, R498) -/

section Sections
variable {u v : U} {t : TimeBase} {parts : List (Nat × List Block)} {b : List Nat} (hup : u.sidingUp ≠ 0)
include hup

/-- A hardware section of the cycle waits; one of another cycle is late. -/
theorem U.sectionRx_hardware {sec : Section} (hr : u.sidingFrame t parts = (some b, v)) (hb : octet b 0 = 4) (hs : readSection b = some sec)
    (hk : ∀ k bs, sec ≠ .region k bs) : u.sectionRx t parts =
      if le b 2 4 = v.sdl.cycDn then v.withSdl (fun s => { s with recv := s.recv ++ [sec] }) else v.mirrorLate t := by
  cases sec with
  | region k bs => exact absurd rfl (hk k bs)
  | loop _ => simp [U.sectionRx, hup, hr, isMsg, hb, hs]
  | arm _ _ => simp [U.sectionRx, hup, hr, isMsg, hb, hs]
  | frn _ _ _ => simp [U.sectionRx, hup, hr, isMsg, hb, hs]

/-- A hardware section that fails its check is late, as far as its head shows one. -/
theorem U.sectionRx_failed (hr : u.sidingFrame t parts = (none, v)) (h0 : octet (frameHead (u.sidingBlocks parts)) 0 = 4)
    (h1 : 1 ≤ octet (frameHead (u.sidingBlocks parts)) 1) (h3 : octet (frameHead (u.sidingBlocks parts)) 1 ≤ 3) :
    u.sectionRx t parts = v.mirrorLate t := by
  simp [U.sectionRx, hup, hr, isMsg, h0, h1, h3]

theorem U.sectionRx_region {k : Nat} {bs : List Nat} (hr : u.sidingFrame t parts = (some b, v)) (hb : octet b 0 = 4)
    (hs : readSection b = some (.region k bs)) : u.sectionRx t parts = if u.role = 1 ∨ u.role = 2 then v.regionRx k bs else v := by
  simp [U.sectionRx, hup, hr, isMsg, hb, hs]

end Sections

theorem U.regionRx_none {u : U} {k : Nat} {bs : List Nat} (h : u.sdl.regions.find? k = none) : u.regionRx k bs = u := by
  simp only [U.regionRx, h]

theorem U.regionRx_region {u : U} {k : Nat} {bs : List Nat} {e : Nat × Nat} (h : u.sdl.regions.find? k = some e) : u.regionRx k bs =
    ((u.wr (R.SDL_REG_SEQ_SEQ k) (u.rd (R.SDL_REG_SEQ_SEQ k) + 1)).memPut e.1 (bs.take e.2)).wr (R.SDL_REG_SEQ_SEQ k)
      ((u.wr (R.SDL_REG_SEQ_SEQ k) (u.rd (R.SDL_REG_SEQ_SEQ k) + 1)).rd (R.SDL_REG_SEQ_SEQ k) + 1) := by
  simp only [U.regionRx, h]
  rfl

/-! ### Regions (R493) -/

section Regions
variable {u : U} {t : TimeBase} {r v n : Nat} (hr : r < 16)
include hr

/-- A region's own length is part of the sum of the lengths. -/
theorem U.le_regionSums (u : U) (n : Nat) : n ≤ (u.regionSums r n).2 := by
  have grows : ∀ (l : List Nat) (s : Nat × Nat), (s.2 ≤ (l.foldl (fun (s : Nat × Nat) k =>
      let m := if k = r then n else u.rd (R.SDL_REG_LEN_LEN k)
      if m = 0 then s else (s.1 + 15 + m, s.2 + m)) s).2) ∧ (r ∈ l → s.2 + n ≤ (l.foldl (fun (s : Nat × Nat) k =>
      let m := if k = r then n else u.rd (R.SDL_REG_LEN_LEN k)
      if m = 0 then s else (s.1 + 15 + m, s.2 + m)) s).2) := by
    intro l
    induction l with
    | nil => exact fun s => ⟨Nat.le_refl _, fun h => absurd h List.not_mem_nil⟩
    | cons k l ih =>
      intro s
      simp only [List.foldl_cons]
      have hstep : ∀ m : Nat, s.2 ≤ (if m = 0 then s else (s.1 + 15 + m, s.2 + m)).2 := by
        intro m
        split
        · exact Nat.le_refl _
        · exact Nat.le_add_right _ _
      refine ⟨Nat.le_trans (hstep _) (ih _).1, fun hm => ?_⟩
      rcases List.mem_cons.mp hm with rfl | hm
      · refine Nat.le_trans ?_ (ih _).1
        rw [if_pos rfl]
        split
        · omega
        · exact Nat.le_refl _
      · exact Nat.le_trans (Nat.add_le_add_right (hstep _) n) ((ih _).2 hm)
  have h := (grows (List.range 16) (0, 0)).2 (List.mem_range.mpr hr)
  rwa [Nat.zero_add] at h

theorem U.regionWrite_base : u.regionWrite t r false v = u.wr (R.SDL_REG_BASE_BASE r) (v / 16) := by
  simp [U.regionWrite, Nat.not_le.mpr hr]

theorem U.regionWrite_length (hn : n = v % 2 ^ 17) : u.regionWrite t r true v =
    if n % 16 ≠ 0 ∨ 96000 < (u.regionSums r n).2 ∨ 100000 < (u.regionSums r n).1 + u.rd R.SDL_BUDGET_HW then u.raise t SDL.WR_REJ []
    else (u.wr (R.SDL_REG_LEN_LEN r) n).wr R.SDL_REG_USED_FRAME (u.regionSums r n).1 := by
  subst hn
  simp [U.regionWrite, Nat.not_le.mpr hr, or_assoc]

end Regions

/-! ### The obligation -/

/-- Settles O31: what the peer sends is taken by its check and its kind; a region's length is taken where the mirror has room. -/
theorem peerMessagesComplete : Obligations.PeerMessagesComplete := by
  unfold Obligations.PeerMessagesComplete
  refine ⟨?frame, ?blocks, ?ctrl, ?held, ?asked, ?taken, ?dual, ?sections, ?relinquish, ?relinquishNot, ?base, ?length⟩
  case frame => exact fun u w t parts hw hup v hs b hb => U.sidingFrame_good hw hup hs hb
  case blocks => exact fun u n blocks hlo hhi hup hl hr => U.sidingBlocks_one hlo hhi hup hl hr
  case ctrl =>
    rintro s parts ⟨b, v⟩ hw hd hr
    rw [exec_ctrlRx, execCtrlRx, State.onUnit_after (fun t u => u.ctrlRx t parts) hw hd]
    refine ⟨fun h => ?_, fun b' h h0 h1 => ?_⟩
    · obtain rfl : b = none := h
      rw [U.ctrlRx_none hr.symm]
    · obtain rfl : b = some b' := h
      rw [U.ctrlRx_ctrl hr.symm h0 h1]
  case held =>
    intro u t c
    have h := u.peerCtrl_view t c
    simp only [U.peerView, Prod.mk.injEq] at h
    exact h
  case asked =>
    intro u c h hc
    rw [U.handoverRx_asked h hc]
    exact ⟨(U.rd_wr_ne _ _ (by decide)).trans (U.rd_wr_same _ _ _), U.rd_wr_same _ _ _, rfl⟩
  case taken => exact fun u c h ht hp hd => U.handoverRx_taken h ht hp hd
  case dual =>
    intro u t c h hc hn
    refine ⟨fun hy => ?_, fun hp hf hpeer hreq => ⟨fun hpref => ?_, fun hpref => ?_⟩, fun hp hf hpeer => ?_⟩
    · refine U.dualActive_yields h hc hn ?_
      rcases hy with ⟨hp, ht⟩ | hf
      · simp [hp, ht]
      · simp [hf]
    · exact U.dualActive_yields h hc hn (by simp [hp, hf, hpeer, hreq, hpref])
    · exact U.dualActive_stays h hc (by simp [hp, hf, hpeer, hreq, hpref])
    · refine U.dualActive_stays h hc ?_
      rcases hpeer with hpeer | hreq
      · simp [hp, hf, hpeer]
      · simp [hp, hf, hreq]
  case sections =>
    rintro s parts ⟨b, v⟩ hw hd hup hr
    rw [exec_mirrorSectionRx, execMirrorSectionRx, State.onUnit_after (fun t u => u.sectionRx t parts) hw hd]
    refine ⟨fun b' sec h h0 hs hk => ?_, fun h h0 h1 h3 => ?_, fun b' k bs h h0 hs => ?_⟩
    · obtain rfl : b = some b' := h
      rw [U.sectionRx_hardware hup hr.symm h0 hs hk]
      exact ⟨fun hc => by rw [if_pos hc], fun hc => by rw [if_neg hc, U.mirrorLate]⟩
    · obtain rfl : b = none := h
      rw [U.sectionRx_failed hup hr.symm h0 h1 h3, U.mirrorLate]
    · obtain rfl : b = some b' := h
      rw [U.sectionRx_region hup hr.symm h0 hs]
      refine ⟨fun h => ?_, fun e hrole he => by rw [if_pos hrole, U.regionRx_region he]⟩
      rcases h with ⟨h1, h2⟩ | hnone
      · rw [if_neg (not_or.mpr ⟨h1, h2⟩)]
      · rw [U.regionRx_none hnone, ite_self]
  case relinquish =>
    intro s hd hup
    rw [exec_relinquishRx, execRelinquishRx, State.onUnit_after (fun _ u => u.relinquishRx relinquishBlock) (by decide) hd, U.relinquishRx,
      if_pos (by simp [hup]), U.peerRelinquished]
    exact ⟨fun h => by rw [if_pos h, U.decideRole], fun h => by rw [if_neg h]⟩
  case relinquishNot =>
    intro s b hw hd h
    rw [exec_relinquishRx, execRelinquishRx, State.onUnit_after (fun _ u => u.relinquishRx b) hw hd, U.relinquishRx,
      if_neg (by rcases h with h | h <;> simp [h])]
  case base =>
    intro s r v hw hd
    have hr : r < 16 := by simp_all [wf_sdlRegionWrite]
    rw [exec_sdlRegionWrite, execSdlRegionWrite, State.onUnit_after (fun t u => u.regionWrite t r false v) hw hd, U.regionWrite_base hr]
  case length =>
    intro s r v n hw hd hn
    have hr : r < 16 := by simp_all [wf_sdlRegionWrite]
    have hle := U.le_regionSums hr s.u n
    rw [exec_sdlRegionWrite, execSdlRegionWrite, State.onUnit_after (fun t u => u.regionWrite t r true v) hw hd, U.regionWrite_length hr hn]
    refine ⟨fun h => ?_, fun h0 h1 h2 h3 => ?_, fun h0 h1 h => ?_⟩
    · rw [if_pos (h.imp_right (fun h => .inl (Nat.lt_of_lt_of_le h hle)))]
    · rw [if_neg (by omega)]
    · rw [if_pos (.inr h)]

end Sys2Proof.Machine
end

section
/-! PROOFS. The commands of the security block (R545, R550, R557, R572): what refuses each, and what it does when it completes. -/
namespace Sys2Proof.Machine

/-! ### What refuses a command (R557, R572) -/

section Refused
variable {u : U} {t : TimeBase} {op n k : Nat}

theorem U.secCommand_refused (h : u.secRefused op n k = true) : u.secCommand t op n k = u.secRej t := if_pos h

theorem U.secCommand_begins (h : u.secRefused op n k = false) : u.secCommand t op n k = u.secBegin op n :=
  if_neg (Bool.eq_false_iff.mp h)

/-- VERIFY is refused on the running slot. -/
theorem U.secRefused_verify (u : U) (n k : Nat) :
    u.secRefused 1 n k = true ↔ u.on R.SEC_CMD_STAT_BUSY = true ∨ n = u.rd R.SEC_BOOT_SLOT := by
  simp [U.secRefused, U.slot]

/-- SET_PENDING is refused on the running slot, while an image is pending, and on a slot that VERIFY has not passed. -/
theorem U.secRefused_setPending (u : U) (n k : Nat) : u.secRefused 2 n k = true ↔
    u.on R.SEC_CMD_STAT_BUSY = true ∨ n = u.rd R.SEC_BOOT_SLOT ∨ u.on R.SEC_BOOT_PENDING = true ∨ n ∉ u.sec.good := by
  simp [U.secRefused, U.slot, or_assoc]

/-- MARK_HEALTHY and JRN_WRITE are refused while a command runs alone. -/
theorem U.secRefused_markHealthy (u : U) (n k : Nat) : u.secRefused 3 n k = u.on R.SEC_CMD_STAT_BUSY := by simp [U.secRefused]

theorem U.secRefused_jrnWrite (u : U) (n k : Nat) : u.secRefused 8 n k = u.on R.SEC_CMD_STAT_BUSY := by simp [U.secRefused]

/-- COMMIT_ARB is refused while an image is pending, without a step forward, without its key and under converter functions. -/
theorem U.secRefused_commitArb (u : U) (n k : Nat) : u.secRefused 4 n k = true ↔
    u.on R.SEC_CMD_STAT_BUSY = true ∨ u.on R.SEC_BOOT_PENDING = true ∨ u.header 20 1 ≤ u.sys.fuse.arb ∨ k ≠ 0x5EC1 ∨
      u.on R.DEP_CTL_CONV_EN = true := by
  simp [U.secRefused, or_assoc]

/-- OWNER_SET is refused with an owner key, without its key and under converter functions. -/
theorem U.secRefused_ownerSet (u : U) (n k : Nat) : u.secRefused 5 n k = true ↔
    u.on R.SEC_CMD_STAT_BUSY = true ∨ u.sys.fuse.owner ≠ 0 ∨ k ≠ 0x5EC1 ∨ u.on R.DEP_CTL_CONV_EN = true := by
  simp [U.secRefused]

/-- OWNER_LOCK is refused without an owner key, without its key and under converter functions. -/
theorem U.secRefused_ownerLock (u : U) (n k : Nat) : u.secRefused 6 n k = true ↔
    u.on R.SEC_CMD_STAT_BUSY = true ∨ u.sys.fuse.owner = 0 ∨ k ≠ 0x5EC1 ∨ u.on R.DEP_CTL_CONV_EN = true := by
  simp [U.secRefused]

end Refused

/-! ### A slot command of the unit -/

section Command
variable {s : State} {c : Instr} {op n k : Nat}

/-- A slot command whose condition for a refusal is a proposition answers by it. -/
theorem State.onUnit_secCommand {P : Prop} (hw : c.wf = true) (hc : Instr.home c = none) (hh : s.u.held = false)
    (hP : s.u.secRefused op n k = true ↔ P) :
    (P → s.onUnit c (fun t u => u.secCommand t op n k) = .next (s.after (s.u.secRej s.time))) ∧
    (¬ P → s.onUnit c (fun t u => u.secCommand t op n k) = .next (s.after (s.u.secBegin op n))) := by
  rw [State.onUnit_whole (fun t u => u.secCommand t op n k) hw hc hh]
  refine ⟨fun h => ?_, fun h => ?_⟩
  · rw [U.secCommand_refused (hP.mpr h)]
  · rw [U.secCommand_begins (Bool.eq_false_iff.mpr fun hr => h (hP.mp hr))]

/-- MARK_HEALTHY and JRN_WRITE answer by BUSY alone. -/
theorem exec_secMarkHealthy_answers (hh : s.u.held = false) :
    (s.u.on R.SEC_CMD_STAT_BUSY = true → exec .secMarkHealthy s = .next (s.after (s.u.secRej s.time))) ∧
    (¬ s.u.on R.SEC_CMD_STAT_BUSY = true → exec .secMarkHealthy s = .next (s.after (s.u.secBegin 3 0))) :=
  State.onUnit_secCommand (c := .secMarkHealthy) rfl rfl hh (iff_of_eq (congrArg (· = true) (U.secRefused_markHealthy s.u 0 0)))

theorem exec_secJrnWrite_answers (hh : s.u.held = false) :
    (s.u.on R.SEC_CMD_STAT_BUSY = true → exec .secJrnWrite s = .next (s.after (s.u.secRej s.time))) ∧
    (¬ s.u.on R.SEC_CMD_STAT_BUSY = true → exec .secJrnWrite s = .next (s.after (s.u.secBegin 8 0))) :=
  State.onUnit_secCommand (c := .secJrnWrite) rfl rfl hh (iff_of_eq (congrArg (· = true) (U.secRefused_jrnWrite s.u 0 0)))

end Command

/-! ### What a command does when it completes (R545, R550, R557) -/

section Effect
variable {u v : U} {t : TimeBase}

/-- The command that completes is over before its effect. -/
def U.secOver (u : U) : U := ((u.withSec (fun x => { x with run := none })).wr R.SEC_CMD_STAT_BUSY 0).wr R.SEC_CMD_STAT_DONE 1

/-- VERIFY keeps an image that passes among the good ones. -/
theorem U.secEffect_verify (u : U) (t : TimeBase) (f : Bool) (n : Nat) : u.secEffect t f 1 n =
    if u.secOver.slotCheck n = 0 then
      (u.secOver.wr R.SEC_CMD_STAT_RESULT 0).withSec (fun x => { x with good := x.good.filter (· != n) ++ [n] })
    else (u.secOver.wr R.SEC_CMD_STAT_RESULT (u.secOver.slotCheck n)).raise t SEC.VERIFY_FAIL [] := by
  by_cases h : u.secOver.slotCheck n = 0
  · rw [if_pos h]
    exact (if_pos h).trans (congrArg (fun r => (u.secOver.wr R.SEC_CMD_STAT_RESULT r).withSec
      (fun x => { x with good := x.good.filter (· != n) ++ [n] })) h)
  · rw [if_neg h]
    exact if_neg h

/-- A record that is not written changes nothing but JRN_FAIL. -/
theorem U.jrnResult_fails (u : U) (t : TimeBase) (r : Bool × U) : u.jrnResult t r true = u.raise t SEC.JRN_FAIL [] := if_pos (Bool.true_or _)

theorem U.jrnResult_writes (u : U) (t : TimeBase) {r : Bool × U} (h : r.1 = true) : u.jrnResult t r false = r.2 :=
  if_neg (by simp [h])

theorem U.secEffect_setPending_fails (u : U) (t : TimeBase) (n : Nat) :
    u.secEffect t true 2 n = u.secOver.raise t SEC.JRN_FAIL [] := U.jrnResult_fails _ t _

/-- MARK_HEALTHY has nothing to do where no image is pending. -/
theorem U.secEffect_markHealthy_idle (f : Bool) (n : Nat) (h : u.secOver.on R.SEC_BOOT_PENDING = false) :
    u.secEffect t f 3 n = u.secOver := if_neg (Bool.eq_false_iff.mp h)

theorem U.secEffect_markHealthy_fails (u : U) (t : TimeBase) (n : Nat) : u.secEffect t true 3 n =
    if u.secOver.on R.SEC_BOOT_PENDING then u.secOver.raise t SEC.JRN_FAIL [] else u.secOver :=
  congrArg (fun x => if u.secOver.on R.SEC_BOOT_PENDING then x else u.secOver) (U.jrnResult_fails _ t _)

/-- What JRN_WRITE writes. -/
def U.jrnWritten (u : U) : Bool × U :=
  u.jrnAppend (u.rd R.SEC_JRN_TYPE) (u.mem.readBytes (u.rd R.SEC_CMD_ARG_ARG) (u.rd R.SEC_JRN_LEN))

theorem U.secEffect_jrnWrite (u : U) (t : TimeBase) (f : Bool) (n : Nat) : u.secEffect t f 8 n =
    (u.secOver.wr R.SEC_CMD_STAT_RESULT (if f || !u.secOver.jrnWritten.1 then 7 else 0)).jrnResult t
      (u.secOver.jrnWritten.1, u.secOver.jrnWritten.2.wr R.SEC_CMD_STAT_RESULT 0) f := rfl

theorem U.secEffect_jrnWrite_fails (u : U) (t : TimeBase) (n : Nat) :
    u.secEffect t true 8 n = (u.secOver.wr R.SEC_CMD_STAT_RESULT 7).raise t SEC.JRN_FAIL [] := by
  rw [U.secEffect_jrnWrite, U.jrnResult_fails, Bool.true_or, if_pos rfl]

theorem U.secEffect_jrnWrite_writes (n : Nat) (h : u.secOver.jrnWritten.1 = true) :
    u.secEffect t false 8 n = u.secOver.jrnWritten.2.wr R.SEC_CMD_STAT_RESULT 0 := by
  rw [U.secEffect_jrnWrite]
  exact U.jrnResult_writes _ t h

end Effect

section Done
variable {s : State}

theorem exec_secCommandDone_unit {f : Bool} (hh : s.u.held = false) :
    exec (.secCommandDone .unit f) s = .next (s.after (s.u.secDone s.time f)) := by
  rw [exec_secCommandDone, execSecCommandDone, State.onChip_unit]
  exact State.onTime_after (fun t u => u.secDone t f) rfl ((U.deaf_whole rfl).trans hh)

theorem U.secDone_none {u : U} {t : TimeBase} (f : Bool) (h : u.sec.run = none) : u.secDone t f = u := by simp only [U.secDone, h]

theorem U.secDone_runs {u : U} {t : TimeBase} (f : Bool) {op n : Nat} (h : u.sec.run = some (op, n)) :
    u.secDone t f = u.reading t (u.secSpans op) (fun w => w.secEffect t f op n) := by simp only [U.secDone, h]

theorem exec_secCommandDone_hub {h : Nat} {f : Bool} (hw : (Instr.secCommandDone (.hub h) f).wf = true)
    (hd : (s.hub h).deaf (.secCommandDone (.hub h) f) = false) :
    exec (.secCommandDone (.hub h) f) s = .next (s.withHub h (s.hub h)) := by
  rw [exec_secCommandDone, execSecCommandDone, State.onChip_hub]
  exact State.onHub_heard (fun _ w => w) hw hd

theorem exec_secCommandDone_cell {cid ofs : Nat} {f : Bool} {y : C} (hw : (Instr.secCommandDone (.cell cid) f).wf = true)
    (hn : (s.cell cid).now cid = (ofs, y)) : exec (.secCommandDone (.cell cid) f) s = .next (s.withCell cid y.cseDone) := by
  rw [exec_secCommandDone, execSecCommandDone, State.onChip_cell]
  exact State.onCellNow_next (fun y _ => y.cseDone) hw hn

theorem C.cseDone_none {c : C} (h : c.cse.cmd = none) : c.cseDone = c := by simp only [C.cseDone, h]

/-- The command of a cell that completes is over before its effect. -/
def C.cseOver (c : C) : C := ((c.withCse (fun x => { x with cmd := none })).wr R.CSE_CMD_STAT_BUSY 0).wr R.CSE_CMD_STAT_DONE 1

theorem C.cseOver_slot (c : C) : c.cseOver.slot = c.slot :=
  (C.rd_wr_ne _ _ (by decide)).trans (C.rd_wr_ne _ _ (by decide))

theorem C.cseOver_header (c : C) (o w : Nat) : c.cseOver.header o w = c.header o w :=
  congrArg (fun x => Flash.num c.cse.flash (slotBase x + o) w) c.cseOver_slot

theorem C.cseDone_arb {c : C} (h : c.cse.cmd = some 4) : c.cseDone = c.cseOver.wr R.CSE_BOOT_ARB (c.cseOver.header 20 1) := by
  simp only [C.cseDone, h]
  rfl

/-- COMMIT_ARB of a cell writes the counter of the running image. -/
theorem C.cseDone_commitArb {c : C} (h : c.cse.cmd = some 4) :
    c.cseDone.cse.cmd = none ∧ c.cseDone.rd R.CSE_BOOT_ARB = c.header 20 1 % 2 ^ R.CSE_BOOT_ARB.width := by
  rw [C.cseDone_arb h, C.rd_wr_same, C.cseOver_header]
  exact ⟨rfl, rfl⟩

end Done

/-! ### The obligation -/

/-- Settles O35: every slot command answers by the condition of its refusal, and each effect is one branch of `U.secEffect`. -/
theorem securityCommandsComplete : Obligations.SecurityCommandsComplete := by
  unfold Obligations.SecurityCommandsComplete
  refine ⟨fun s n hw hh => ?_, fun s n hw hh => ?_, fun s hh hb => ⟨?_, ?_⟩, fun s c hc hh hb => ?_, fun s k hw hh => ?_,
    fun s k hw hh => ?_, fun s k hw hh => ?_, fun u t op n => ⟨rfl, U.rd_wr_same u R.SEC_CMD_STAT_BUSY 1, rfl⟩,
    fun s f hh h => ?_, fun s f op n hh h => ?_, fun u v t f n hv => ?_, fun s h f hw hd => exec_secCommandDone_hub hw hd,
    fun s cid f ofs y hw hn => exec_secCommandDone_cell hw hn, fun c => ⟨C.cseDone_none, C.cseDone_commitArb⟩⟩
  case refine_1 =>
    obtain ⟨h1, h2⟩ := State.onUnit_secCommand hw rfl hh (U.secRefused_verify s.u n 0)
    exact ⟨h1, fun hb hn => h2 (by simp [hb, hn])⟩
  case refine_2 =>
    obtain ⟨h1, h2⟩ := State.onUnit_secCommand hw rfl hh (U.secRefused_setPending s.u n 0)
    exact ⟨h1, fun hb hn hp hg => h2 (by simp [hb, hn, hp, hg])⟩
  case refine_3 => exact (exec_secMarkHealthy_answers hh).2 (Bool.eq_false_iff.mp hb)
  case refine_4 => exact (exec_secJrnWrite_answers hh).2 (Bool.eq_false_iff.mp hb)
  case refine_5 =>
    rcases hc with rfl | rfl
    · exact (exec_secMarkHealthy_answers hh).1 hb
    · exact (exec_secJrnWrite_answers hh).1 hb
  case refine_6 =>
    obtain ⟨h1, h2⟩ := State.onUnit_secCommand hw rfl hh (U.secRefused_commitArb s.u 0 k)
    exact ⟨h1, fun hb hp ha hk hc => h2 (by simp [hb, hp, hk, hc, Nat.not_le.mpr ha])⟩
  case refine_7 =>
    obtain ⟨h1, h2⟩ := State.onUnit_secCommand hw rfl hh (U.secRefused_ownerSet s.u 0 k)
    exact ⟨h1, fun hb ho hk hc => h2 (by simp [hb, ho, hk, hc])⟩
  case refine_8 =>
    obtain ⟨h1, h2⟩ := State.onUnit_secCommand hw rfl hh (U.secRefused_ownerLock s.u 0 k)
    exact ⟨h1, fun hb ho hk hc => h2 (by simp [hb, ho, hk, hc])⟩
  case refine_9 => rw [exec_secCommandDone_unit hh, U.secDone_none f h]
  case refine_10 => rw [exec_secCommandDone_unit hh, U.secDone_runs f h]
  case refine_11 =>
    obtain rfl : v = u.secOver := hv
    exact ⟨U.secEffect_verify u t f n, U.secEffect_markHealthy_idle f n, rfl, rfl, rfl, U.secEffect_setPending_fails u t n,
      U.secEffect_markHealthy_fails u t n, U.secEffect_jrnWrite_fails u t n, U.secEffect_jrnWrite_writes n⟩

end Sys2Proof.Machine
end

section
/-! PROOFS. Attestation (R560 to R564): the challenges of a unit, the statements of hubs and cells, the check of an answer, the time-out. -/
namespace Sys2Proof.Machine

/-! ### The challenges of the unit (R560, R562) -/

section Challenge
variable {u : U} {t : TimeBase}

/-- What a challenge keeps of the security block. -/
theorem U.attChallenge_sec (u : U) (id : Nat) (b : Bool) : (u.attChallenge id b).sec =
    { u.sec with tag := (u.sec.tag + 1) % 256, chal := u.sec.chal.set id ⟨u.sec.tag, Config.freeValue 0 u.free % 2 ^ 256, b⟩ } := by
  unfold U.attChallenge
  dsimp only
  split <;> rfl

/-- A target whose challenge is out, and is its first. -/
def U.challenged (u : U) (id : Nat) : Prop := ∃ c, u.sec.chal.find? id = some c ∧ c.second = false

theorem U.attChallenge_challenged (u : U) (id : Nat) : (u.attChallenge id false).challenged id := by
  unfold U.challenged
  rw [U.attChallenge_sec]
  exact ⟨_, Tbl.find?_set_same _ _ _, rfl⟩

theorem U.challenged_attChallenge {h : Nat} (id : Nat) (hc : u.challenged h) : (u.attChallenge id false).challenged h := by
  by_cases he : h = id
  · exact he ▸ u.attChallenge_challenged id
  · unfold U.challenged
    rw [U.attChallenge_sec, Tbl.find?_set_ne _ _ he]
    exact hc

theorem U.challenged_attNext {h : Nat} (l : Nat) (hc : u.challenged h) : (u.attNext l).challenged h := by
  unfold U.attNext
  split
  · exact hc
  · split
    · exact hc
    · exact U.challenged_attChallenge (u := U.withSec _ _) _ hc

/-- Every hub of a list is challenged by the challenges of the list. -/
theorem U.challenged_of_mem {hubs : List Nat} {h : Nat} (hm : h ∈ hubs) :
    (hubs.foldl (fun (u : U) h => u.attChallenge h false) u).challenged h := by
  induction hubs generalizing u with
  | nil => exact absurd hm List.not_mem_nil
  | cons g hubs ih =>
    rcases List.mem_cons.mp hm with rfl | hm
    · exact List.foldlRecOn (motive := fun w => U.challenged w h) hubs _ (u.attChallenge_challenged h)
        (fun _ hw a _ => U.challenged_attChallenge a hw)
    · exact ih hm

/-- Attestation is not complete while a challenge is out. -/
theorem U.attFinish_waits {h : Nat} (hc : u.challenged h) : u.attFinish t = u := by
  obtain ⟨c, hc, -⟩ := hc
  have hne : u.sec.chal.isEmpty = false := by
    cases hl : u.sec.chal with
    | nil => rw [hl] at hc; cases hc
    | cons e l => rfl
  exact if_pos (by simp [hne])

theorem U.attStart_refused (h : u.on R.SEC_CMD_STAT_BUSY = true ∨ u.on R.SEC_ATT_STAT_RUNNING = true ∨ u.attTooFar = true) :
    u.attStart t = u.secRej t := if_pos (by simpa [or_assoc] using h)

/-- ATT_START challenges every configured hub. -/
theorem U.attStart_challenged {h : Nat} (hb : u.on R.SEC_CMD_STAT_BUSY = false) (hr : u.on R.SEC_ATT_STAT_RUNNING = false)
    (ht : u.attTooFar = false) (hm : h ∈ u.topo.hubs) : (u.attStart t).challenged h := by
  unfold U.attStart
  rw [if_neg (by simp [hb, hr, ht])]
  have hc := fun (w : U) (loops : List (Nat × List Nat)) => List.foldlRecOn (motive := fun w => U.challenged w h) loops
    (fun (w : U) (e : Nat × List Nat) => w.attNext e.1) (U.challenged_of_mem (u := w) hm) (fun _ hw e _ => U.challenged_attNext e.1 hw)
  dsimp only
  rw [U.attFinish_waits (hc _ _)]
  exact hc _ _

theorem U.attTimeout_none {id : Nat} (h : u.sec.chal.find? id = none) : u.attTimeout t id = u := by simp only [U.attTimeout, h]

theorem U.attTimeout_first {id : Nat} {c : Chal} (h : u.sec.chal.find? id = some c) (hs : c.second = false) :
    u.attTimeout t id = u.attChallenge id true := by simp [U.attTimeout, h, hs]

theorem U.attTimeout_second {id : Nat} {c : Chal} (h : u.sec.chal.find? id = some c) (hs : c.second = true) :
    u.attTimeout t id = u.attResult t id 2 [] := by simp [U.attTimeout, h, hs]

end Challenge

/-! ### The check of an answer (R563) -/

section Answer
variable {u : U} {t : TimeBase} {id g : Nat} {b : Bool} {a : List Nat} {c : Chal}

theorem U.attAnswer_unasked (h : u.sec.chal.find? id = none) : u.attAnswer t id b g a = u := by simp only [U.attAnswer, h]

/-- An answer to the peer, or to an older challenge, is ignored. -/
theorem U.attAnswer_other (h : u.sec.chal.find? id = some c) (ho : b2n b ≠ u.unitB ∨ c.tag ≠ g) : u.attAnswer t id b g a = u := by
  simp only [U.attAnswer, h]
  exact if_neg (by simpa [imp_iff_not_or] using ho)

theorem U.attAnswer_checked (h : u.sec.chal.find? id = some c) (hb : b2n b = u.unitB) (hg : c.tag = g) :
    u.attAnswer t id b g a = u.reading t (u.attSpans id) (fun u => u.attResult t id (u.attCheck id c a) a) := by
  simp only [U.attAnswer, h]
  exact if_pos (by simp [hb, hg])

/-- An answer of another length, or with another nonce, is none. -/
theorem U.attCheck_bad (h : a.length ≠ 8785 ∨ ofBytes ((a.drop 12).take 32) ≠ c.nonce) : u.attCheck id c a = 7 := by
  refine if_pos ?_
  rcases h with h | h <;> simp [h]

/-- A choice whose answer is not that of its first branch is made by the second. -/
theorem of_ite_eq {α : Type} {P : Prop} [Decidable P] {k x y : α} (h : (if P then k else x) = y) (hk : k ≠ y) : ¬ P ∧ x = y := by
  by_cases hp : P
  · exact absurd ((if_pos hp).symm.trans h) hk
  · exact ⟨hp, (if_neg hp).symm.trans h⟩

/-- An answer that passes has its nonce, its certificate under the issuing key, and its signature. -/
theorem U.attCheck_pass (h : u.attCheck id c a = 1) :
    ofBytes ((a.drop 12).take 32) = c.nonce ∧ certOk u.sys.fuse.issuer ((a.drop 3457).take 5328) = true ∧
      Config.mlDsaVerify (ofBytes ((((a.drop 3457).take 5328).drop 64).take 1952) + 2 ^ 512) (ofBytes (a.take 148))
        (ofBytes ((a.drop 148).take 3309)) = true := by
  unfold U.attCheck at h
  dsimp only at h
  obtain ⟨hnonce, h⟩ := of_ite_eq h (by decide)
  obtain ⟨hcert, h⟩ := of_ite_eq h (by decide)
  obtain ⟨hsign, -⟩ := of_ite_eq h (by decide)
  simp only [Bool.or_eq_true, decide_eq_true_eq, not_or, Decidable.not_not, ne_eq] at hnonce
  simp only [Bool.or_eq_true, Bool.not_eq_true', not_or, Bool.not_eq_false] at hcert hsign
  exact ⟨hnonce.1.2, hcert.1.1, hsign⟩

end Answer

/-! ### A challenge and a statement of a hub (R560, R561) -/

section HubStatement
variable {w : H} {x : HubAt}

/-- A hub without a statement in progress, which has answered no challenge of the unit yet, signs for the challenge. -/
theorem H.challengeRx_starts {o : List Nat} (ho : octet o 0 = 0x18) (hr : w.att.run = none)
    (hd : w.att.done.find? (b2n (readChallenge o).unitB) = none) : w.challengeRx o =
      { w with att := { w.att with run := some (b2n (readChallenge o).unitB, (readChallenge o).tag, (readChallenge o).nonce) } } := by
  refine (if_pos (beq_iff_eq.mpr ho)).trans ?_
  simp only [H.challenge, hr, hd, Bool.false_eq_true, if_false, Option.isNone_none, if_true]

theorem H.toUnit_att (w : H) (n pref : Nat) (f : List Nat) : (w.toUnit n pref f).att = w.att := by
  unfold H.toUnit
  dsimp only
  split
  · rfl
  · split <;> rfl

theorem H.up_toUnit (w : H) (n pref m : Nat) (f : List Nat) : (w.toUnit n pref f).up m = w.up m := by
  unfold H.toUnit
  dsimp only
  split
  · rfl
  · split <;> rfl

/-- A frame goes out where a lane of the unit is UP. -/
theorem H.toUnit_out {n : Nat} (f : List Nat) (h : w.up (128 + 2 * n) = true ∨ w.up (129 + 2 * n) = true) :
    (w.toUnit n 0 f).out.length = w.out.length + 1 := by
  unfold H.toUnit
  dsimp only
  split
  · exact List.length_append
  next h0 =>
    have h1 : w.up (128 + 2 * n + 1) = true := (congrArg w.up (by omega)).trans (h.resolve_left h0)
    rw [if_pos h1]
    exact List.length_append

theorem H.sendAnswer_att (w : H) (u tag : Nat) (a : List Nat) : (w.sendAnswer u tag a).att = w.att :=
  foldl_leaves (p := H.att) (fun w _ => w.toUnit_att _ _ _) _ w

/-- As many frames as blocks go out where a lane of the unit is UP. -/
theorem H.manageUnit_all_out {n : Nat} (f : Nat → List Nat) (l : List Nat) (h : w.up (128 + 2 * n) = true ∨ w.up (129 + 2 * n) = true) :
    (l.foldl (fun (w : H) k => w.manageUnit n (f k)) w).out.length = w.out.length + l.length := by
  induction l generalizing w with
  | nil => rfl
  | cons k l ih =>
    have hu : ∀ m, (w.manageUnit n (f k)).up m = w.up m := fun m => w.up_toUnit _ _ m _
    rw [List.foldl_cons, ih (by rw [hu, hu]; exact h)]
    have ho : (w.manageUnit n (f k)).out.length = w.out.length + 1 := H.toUnit_out _ h
    rw [ho, List.length_cons]
    omega

theorem H.sendAnswer_out {n : Nat} (tag : Nat) (a : List Nat) (h : w.up (128 + 2 * n) = true ∨ w.up (129 + 2 * n) = true) :
    (w.sendAnswer n tag a).out.length = w.out.length + 157 :=
  (H.manageUnit_all_out _ _ h).trans (congrArg (w.out.length + ·) List.length_range)

theorem H.statementDone_none (h : w.att.run = none) : w.statementDone x = w := by simp only [H.statementDone, h]

/-- The statement that a hub signs for a unit and a nonce. -/
def H.statement (w : H) (x : HubAt) (b n : Nat) : List Nat :=
  attestation (hubChip x.k) 0x7300 0 (w.rd R.HSY_UNIT_L_UNIT_LO + 2 ^ 32 * w.rd R.HSY_UNIT_H_UNIT_HI) n
    (measurement (Flash.num w.img 64 32) 0) (Flash.num w.img 64 32) 0 (w.rd R.HSY_VERSION_VERSION) (w.rd R.HSY_ARB_ARB) b w.cert

/-- The statement is kept for its unit and sent in its blocks; without another challenge that waits the hub signs no more. -/
theorem H.statementDone_alone {b g n : Nat} (h : w.att.run = some (b, g, n)) (hw : w.att.wait = []) :
    w.statementDone x = ({ w with att := { w.att with
      done := w.att.done.set b (g, w.statement x b n), run := none, wait := [] } } : H).sendAnswer b g (w.statement x b n) := by
  simp only [H.statementDone, h, hw]
  rfl

end HubStatement

/-! ### A challenge and a statement of a cell (R560, R561) -/

section CellStatement
variable {y : C}

theorem C.challengeRx_other {o : List Nat} (h : y.named (readChallenge o).cid = false ∨ octet o 0 ≠ 0x18) : y.challengeRx o = y := by
  refine if_neg ?_
  rcases h with h | h
  · simp [h]
  · simp [isMsg, h]

theorem C.challengeRx_named {o : List Nat} (ho : octet o 0 = 0x18) (hn : y.named (readChallenge o).cid = true) :
    y.challengeRx o = y.challenge (readChallenge o).unitB (readChallenge o).tag (readChallenge o).nonce :=
  if_pos (by simp [isMsg, ho, hn])

theorem C.challenge_starts {b : Bool} (tag nonce : Nat) (hr : y.cse.run = none) (hd : y.cse.done.find? (b2n b) = none) :
    y.challenge b tag nonce = y.withCse (fun x => { x with run := some (b2n b, tag, nonce) }) := by
  simp only [C.challenge, hr, hd, Bool.false_eq_true, if_false, Option.isNone_none, if_true]

/-- The challenge whose statement is being signed is not taken again. -/
theorem C.challenge_again {b : Bool} {tag nonce : Nat} (hr : y.cse.run = some (b2n b, tag, nonce)) : y.challenge b tag nonce = y := by
  simp only [C.challenge, hr, beq_self_eq_true, Bool.and_self, if_true]

/-- The block made ready leaves the answers and the challenges that wait. -/
theorem C.feed_done (y : C) : y.feed.cse.done = y.cse.done ∧ y.feed.cse.wait = y.cse.wait := by
  unfold C.feed
  dsimp only
  split
  · exact ⟨rfl, rfl⟩
  · split
    · exact ⟨rfl, rfl⟩
    · split
      · split <;> exact ⟨rfl, rfl⟩
      · exact ⟨rfl, rfl⟩

theorem C.statementDone_none {cid : Nat} (h : y.cse.run = none) : y.statementDone cid = y := by simp only [C.statementDone, h]

/-- The statement that a cell signs for a unit and a nonce. -/
def C.statement (y : C) (cid b n : Nat) : List Nat :=
  attestation (cellChip cid) 0x7020 y.slotByte y.unitId n (measurement (y.header 64 32) (y.clk.applied.getD 0)) (y.header 64 32)
    (y.clk.applied.getD 0) (y.rd R.CSE_VERSION_VERSION) (y.rd R.CSE_BOOT_ARB) b y.cert

theorem C.statementDone_runs {cid b g n : Nat} (h : y.cse.run = some (b, g, n)) :
    (y.statementDone cid).cse.done = y.cse.done.set b (g, y.statement cid b n) ∧
      (y.statementDone cid).cse.wait = y.cse.wait.drop 1 := by
  simp only [C.statementDone, h]
  exact ⟨(C.feed_done _).1, (C.feed_done _).2⟩

end CellStatement

/-! ### The commands -/

section Commands
variable {s : State} {o : List Nat}

theorem exec_attStart_runs (hh : s.u.held = false) : exec .attStart s = .next (s.after (s.u.attStart s.time)) := by
  rw [exec_attStart, execAttStart, State.onUnit_whole (fun t u => u.attStart t) rfl rfl hh]

theorem exec_attChallengeRx_unit (hw : (Instr.attChallengeRx .unit o).wf = true) (hh : s.u.held = false) :
    exec (.attChallengeRx .unit o) s = .next (s.after s.u) := by
  rw [exec_attChallengeRx, execAttChallengeRx, State.onChip_unit]
  exact State.onTime_after (fun _ u => u) hw ((U.deaf_whole rfl).trans hh)

theorem exec_attChallengeRx_hub {h : Nat} (hw : (Instr.attChallengeRx (.hub h) o).wf = true)
    (hd : (s.hub h).deaf (.attChallengeRx (.hub h) o) = false) :
    exec (.attChallengeRx (.hub h) o) s = .next (s.withHub h ((s.hub h).challengeRx o)) := by
  rw [exec_attChallengeRx, execAttChallengeRx, State.onChip_hub]
  exact State.onHub_heard (fun _ w => w.challengeRx o) hw hd

theorem exec_attChallengeRx_cell {cid ofs : Nat} {y : C} (hw : (Instr.attChallengeRx (.cell cid) o).wf = true)
    (hn : (s.cell cid).now cid = (ofs, y)) : exec (.attChallengeRx (.cell cid) o) s = .next (s.withCell cid (y.challengeRx o)) := by
  rw [exec_attChallengeRx, execAttChallengeRx, State.onChip_cell]
  exact State.onCellNow_next (fun y _ => y.challengeRx o) hw hn

theorem exec_attStatementDone_unit (hh : s.u.held = false) : exec (.attStatementDone .unit) s = .next (s.after s.u) := by
  rw [exec_attStatementDone, execAttStatementDone, State.onChip_unit]
  exact State.onTime_after (fun _ u => u) rfl ((U.deaf_whole rfl).trans hh)

theorem exec_attStatementDone_hub {h : Nat} (hw : (Instr.attStatementDone (.hub h)).wf = true)
    (hd : (s.hub h).deaf (.attStatementDone (.hub h)) = false) :
    exec (.attStatementDone (.hub h)) s = .next (s.withHub h ((s.hub h).statementDone (s.hubAt h))) := by
  rw [exec_attStatementDone, execAttStatementDone, State.onChip_hub]
  exact State.onHub_heard (fun x w => w.statementDone x) hw hd

theorem exec_attStatementDone_cell {cid ofs : Nat} {y : C} (hw : (Instr.attStatementDone (.cell cid)).wf = true)
    (hn : (s.cell cid).now cid = (ofs, y)) : exec (.attStatementDone (.cell cid)) s = .next (s.withCell cid (y.statementDone cid)) := by
  rw [exec_attStatementDone, execAttStatementDone, State.onChip_cell]
  exact State.onCellNow_next (fun y _ => y.statementDone cid) hw hn

theorem exec_attAnswerRx_runs {id g : Nat} {b : Bool} {a : List Nat} (hw : (Instr.attAnswerRx id b g a).wf = true) (hh : s.u.held = false) :
    exec (.attAnswerRx id b g a) s = .next (s.after (s.u.attAnswer s.time id b g a)) := by
  rw [exec_attAnswerRx, execAttAnswerRx, State.onUnit_whole (fun t u => u.attAnswer t id b g a) hw rfl hh]

theorem exec_attTimeout_runs {id : Nat} (hw : (Instr.attTimeout id).wf = true) (hh : s.u.held = false) :
    exec (.attTimeout id) s = .next (s.after (s.u.attTimeout s.time id)) := by
  rw [exec_attTimeout, execAttTimeout, State.onUnit_whole (fun t u => u.attTimeout t id) hw rfl hh]

end Commands

/-- Settles O36: the challenges of ATT_START, the statements of the chips, the check of an answer and the time-out, each by its lemma. -/
theorem attestationCommandsComplete : Obligations.AttestationCommandsComplete := by
  unfold Obligations.AttestationCommandsComplete
  refine ⟨fun s hh h => ?_, fun s hh hb hr ht => ⟨exec_attStart_runs hh, fun h hm => U.attStart_challenged hb hr ht hm⟩,
    fun s o hw hh => exec_attChallengeRx_unit hw hh, fun s h o d hw hd ho he hr hf => ?_, fun s cid o d ofs y hw hn he => ?_,
    fun s hh => exec_attStatementDone_unit hh, fun s h hw hd => exec_attStatementDone_hub hw hd,
    fun w x b g n => ⟨H.statementDone_none, fun h hw => ?_⟩, fun s cid ofs y hw hn => ?_,
    fun s id b g a hw hh => ⟨fun h => ?_, fun c h => ⟨fun ho => ?_, fun hb hg => ?_⟩⟩,
    fun u id c a => ⟨fun h => U.attCheck_bad (.inl h), fun h => U.attCheck_bad (.inr h), ?_⟩,
    fun s id hw hh => ⟨fun h => ?_, fun c h => ⟨fun hs => ?_, fun hs => ?_⟩⟩, fun u id b => ?_⟩
  case refine_1 => rw [exec_attStart_runs hh, U.attStart_refused h]
  case refine_2 =>
    subst he
    rw [exec_attChallengeRx_hub hw hd, H.challengeRx_starts ho hr hf]
  case refine_3 =>
    subst he
    refine ⟨fun h => ?_, fun ho hm hr hd => ?_, fun ho hm hr => ?_⟩
    · rw [exec_attChallengeRx_cell hw hn, C.challengeRx_other h]
    · rw [exec_attChallengeRx_cell hw hn, C.challengeRx_named ho hm, C.challenge_starts _ _ hr hd]
    · rw [exec_attChallengeRx_cell hw hn, C.challengeRx_named ho hm, C.challenge_again hr]
  case refine_4 =>
    rw [H.statementDone_alone h hw, H.sendAnswer_att]
    exact ⟨rfl, w.statement x b n, rfl, fun hu => H.sendAnswer_out g _ hu⟩
  case refine_5 =>
    refine ⟨fun h => ?_, fun b g n h => ⟨_, exec_attStatementDone_cell hw hn, _, C.statementDone_runs h⟩⟩
    rw [exec_attStatementDone_cell hw hn, C.statementDone_none h]
  case refine_6 => rw [exec_attAnswerRx_runs hw hh, U.attAnswer_unasked h]
  case refine_7 => rw [exec_attAnswerRx_runs hw hh, U.attAnswer_other h ho]
  case refine_8 => rw [exec_attAnswerRx_runs hw hh, U.attAnswer_checked h hb hg]
  case refine_9 => exact Classical.or_iff_not_imp_left.mpr fun h => U.attCheck_pass (Decidable.not_not.mp h)
  case refine_10 => rw [exec_attTimeout_runs hw hh, U.attTimeout_none h]
  case refine_11 => rw [exec_attTimeout_runs hw hh, U.attTimeout_first h hs]
  case refine_12 => rw [exec_attTimeout_runs hw hh, U.attTimeout_second h hs]
  case refine_13 =>
    rw [U.attChallenge_sec]
    exact ⟨Tbl.find?_set_same _ _ _, rfl⟩

end Sys2Proof.Machine
end

section
/-! PROOFS. The update operations of a cell (R565, R566): a request acted on once, and what each operation does to the update state. -/
namespace Sys2Proof.Machine

/-! ### A request acted on once (R338, R565) -/

section Once
variable {k : C} {o : List Nat} {op : Nat} {run : UpdReq → C → (List Nat × Bool) × C}

/-- A request whose TAG is not that of the request kept runs, and its response is made ready. -/
theorem C.once_newTag {b : Bool} {tag att : Nat} {run : C → (List Nat × Bool) × C}
    (h : ∀ x, k.clk.kept.find? (b2n b) = some x → x.tag ≠ tag) :
    (k.once b tag att false run).cse = (run k).2.cse ∧ (k.once b tag att false run).rst = (run k).2.rst ∧
      (k.once b tag att false run).clk.resps.length = (run k).2.clk.resps.length + 1 := by
  unfold C.once
  dsimp only
  split
  next x hx =>
    rw [if_pos (h x hx)]
    exact ⟨rfl, rfl, List.length_append⟩
  next => exact ⟨rfl, rfl, List.length_append⟩

/-- A mailbox that is no request of the operation for this cell, or repeats the request kept, does nothing. -/
theorem C.update_ignored (h : octet o 0 ≠ 0x20 ∨ k.named (readUpd o).cid = false ∨
      ∃ x, k.clk.kept.find? (b2n (readUpd o).unitB) = some x ∧ x.tag = (readUpd o).tag ∧ x.att = (readUpd o).att) :
    k.update op o run = k := by
  unfold C.update
  dsimp only
  split
  next => rfl
  next hn =>
    rcases h with h | h | ⟨x, hx, ht, ha⟩
    · exact absurd (by simp [isUpd, isMsg, h]) hn
    · exact absurd (by simp [h]) hn
    · exact C.once_repeated false hx ht ha

theorem C.update_otherOp (h : (readUpd o).op ≠ op) : k.update op o run = k := by
  have ho : isUpd o op = false := by
    have : (octet o 4 % 16 == op) = false := beq_eq_false_iff_ne.mpr h
    simp [isUpd, this]
  exact if_pos (by simp [ho])

/-- A new request of this cell runs its operation. -/
theorem C.update_fresh (hm : octet o 0 = 0x20) (hn : k.named (readUpd o).cid = true) (ho : (readUpd o).op = op)
    (hf : ∀ x, k.clk.kept.find? (b2n (readUpd o).unitB) = some x → x.tag ≠ (readUpd o).tag) :
    (k.update op o run).cse = (run (readUpd o) k).2.cse ∧ (k.update op o run).rst = (run (readUpd o) k).2.rst ∧
      (k.update op o run).clk.resps.length = (run (readUpd o) k).2.clk.resps.length + 1 := by
  have hu : isUpd o op = true := by
    have : (octet o 4 % 16 == op) = true := beq_iff_eq.mpr ho
    simp [isUpd, isMsg, hm, this]
  have he : k.update op o run = k.once (readUpd o).unitB (readUpd o).tag (readUpd o).att false (run (readUpd o)) :=
    if_neg (by simp [hn, hu])
  rw [he]
  exact C.once_newTag hf

/-- An operation that leaves the update state and the reset as they are leaves them so, whatever the request asks for. -/
theorem C.update_keeps (hm : octet o 0 = 0x20) (hn : k.named (readUpd o).cid = true)
    (hf : ∀ x, k.clk.kept.find? (b2n (readUpd o).unitB) = some x → x.tag ≠ (readUpd o).tag)
    (hr : (run (readUpd o) k).2 = k) : (k.update op o run).cse = k.cse ∧ (k.update op o run).rst = k.rst := by
  by_cases ho : (readUpd o).op = op
  · obtain ⟨hc, hrst, -⟩ := C.update_fresh (run := run) hm hn ho hf
    exact ⟨hc.trans (congrArg C.cse hr), hrst.trans (congrArg C.rst hr)⟩
  · rw [C.update_otherOp ho]
    exact ⟨rfl, rfl⟩

end Once

/-! ### The operations (R566) -/

section Operations
variable {k : C} {o : List Nat}

/-- A new request for this cell: one whose TAG is not that of the request kept for its unit. -/
structure C.NewUpd (k : C) (o : List Nat) : Prop where
  msg   : octet o 0 = 0x20
  named : k.named (readUpd o).cid = true
  fresh : ∀ x, k.clk.kept.find? (b2n (readUpd o).unitB) = some x → x.tag ≠ (readUpd o).tag

theorem C.updIdent_new (h : k.NewUpd o) (ho : (readUpd o).op = 0) :
    (k.updIdent o).cse = k.cse ∧ (k.updIdent o).clk.resps.length = k.clk.resps.length + 1 := by
  obtain ⟨hc, -, hr⟩ := C.update_fresh (k := k) h.msg h.named ho h.fresh
  exact ⟨hc, hr⟩

theorem C.updBegin_fails (h : k.NewUpd o) : (k.updBegin o true).cse = k.cse := (C.update_keeps h.msg h.named h.fresh rfl).1

theorem C.updBegin_new (h : k.NewUpd o) (ho : (readUpd o).op = 1) : (k.updBegin o false).cse =
    { k.cse with flash := Flash.erase k.cse.flash (slotBase k.otherSlot) 0x80000, upd := some (0, false) } :=
  (C.update_fresh h.msg h.named ho h.fresh).1

theorem C.updData_none (f : Bool) (h : k.NewUpd o) (hu : k.cse.upd = none) : (k.updData o f).cse = k.cse :=
  (C.update_keeps h.msg h.named h.fresh (by simp only [hu])).1

/-- DATA at another OFFSET than the next writes nothing. -/
theorem C.updData_elsewhere {n : Nat} {ok : Bool} (f : Bool) (h : k.NewUpd o) (hu : k.cse.upd = some (n, ok))
    (hne : (readUpd o).offset ≠ n) : (k.updData o f).cse = k.cse := by
  refine (C.update_keeps h.msg h.named h.fresh ?_).1
  simp only [hu]
  split
  · rfl
  next hle =>
    have hlt : (readUpd o).offset < n := by simp at hle; omega
    rw [if_pos hlt]

theorem C.updData_next {n : Nat} {ok : Bool} (h : k.NewUpd o) (ho : (readUpd o).op = 2) (hu : k.cse.upd = some (n, ok))
    (he : (readUpd o).offset = n) (hl : n + ((readUpd o).data.take 52).length ≤ 0x80000) : (k.updData o false).cse =
      { k.cse with
        flash := Flash.program k.cse.flash (slotBase k.otherSlot + n) ((readUpd o).data.take 52)
        upd := some (n + ((readUpd o).data.take 52).length, false) } := by
  refine (C.update_fresh h.msg h.named ho h.fresh).1.trans ?_
  have hb : ¬ (decide (n > n) || decide (n + ((readUpd o).data.take 52).length > 0x80000)) = true := by
    simp only [Bool.or_eq_true, decide_eq_true_eq]
    omega
  simp only [hu, he]
  rw [if_neg hb, if_neg (Nat.lt_irrefl n), if_neg Bool.false_ne_true]
  rfl

theorem C.updEnd_none (h : k.NewUpd o) (hu : k.cse.upd = none) : (k.updEnd o).cse = k.cse :=
  (C.update_keeps h.msg h.named h.fresh (by simp only [hu])).1

theorem C.updEnd_checks {n : Nat} {ok : Bool} (h : k.NewUpd o) (ho : (readUpd o).op = 3) (hu : k.cse.upd = some (n, ok)) :
    (k.updEnd o).cse = { k.cse with upd := some (n, imageCheck k.verifier k.cse.flash (slotBase k.otherSlot) 0x80000 == 0) } := by
  refine (C.update_fresh h.msg h.named ho h.fresh).1.trans ?_
  simp only [hu]
  rfl

/-- ACTIVATE without a session, or of a slot that END has not passed, does nothing. -/
theorem C.updActivate_keeps (h : k.NewUpd o) (hu : k.cse.upd = none ∨ ∃ n, k.cse.upd = some (n, false)) :
    (k.updActivate o).cse = k.cse ∧ (k.updActivate o).rst = k.rst := by
  refine C.update_keeps h.msg h.named h.fresh ?_
  rcases hu with hu | ⟨n, hu⟩ <;> simp only [hu]

theorem C.askReset_free (h : k.rst = none) : k.askReset = { k with rst := some 64 } := if_neg (by simp [h])

/-- ACTIVATE of a slot that END has passed writes the slot record and asks for a reset. -/
theorem C.updActivate_passed {n : Nat} (h : k.NewUpd o) (ho : (readUpd o).op = 4) (hu : k.cse.upd = some (n, true))
    (hs : k.rd R.GTE_STATE_CODE = 0) (hp : k.on R.CSE_BOOT_PENDING = false) (hr : k.rst = none) :
    (k.updActivate o).cse.jrn = journalAppend k.cse.jrn 0 0x10000 true 2 [k.slot, k.otherSlot, 0, 0, 0, 0, 0, 0] ∧
      (k.updActivate o).rst = some 64 := by
  obtain ⟨hc, hrst, -⟩ := C.update_fresh (k := k) h.msg h.named ho h.fresh
  have hi : ¬ (!(k.rd R.GTE_STATE_CODE == 0 || !k.gte.first) || k.on R.CSE_BOOT_PENDING) = true := by simp [hs, hp]
  have hq : (k.slotRecord ⟨k.slot, some k.otherSlot, 0, false⟩).rst = none := hr
  rw [C.updActivate, hc, hrst]
  simp only [hu]
  rw [if_neg hi, C.askReset_free hq]
  exact ⟨rfl, rfl⟩

end Operations

/-! ### The obligation -/

section Commands
variable {s : State} {cid : Nat} {o : List Nat}

theorem exec_cellUpdIdent_answers (hw : (Instr.cellUpdIdent cid o).wf = true) :
    exec (.cellUpdIdent cid o) s = .next (s.withCell cid ((s.cell cid).updIdent o)) := by
  rw [exec_cellUpdIdent, execCellUpdIdent]
  exact State.onCell_next cid (fun y => y.updIdent o) hw

theorem exec_cellUpdBegin_answers {f : Bool} (hw : (Instr.cellUpdBegin cid o f).wf = true) :
    exec (.cellUpdBegin cid o f) s = .next (s.withCell cid ((s.cell cid).updBegin o f)) := by
  rw [exec_cellUpdBegin, execCellUpdBegin]
  exact State.onCell_next cid (fun y => y.updBegin o f) hw

theorem exec_cellUpdData_answers {f : Bool} (hw : (Instr.cellUpdData cid o f).wf = true) :
    exec (.cellUpdData cid o f) s = .next (s.withCell cid ((s.cell cid).updData o f)) := by
  rw [exec_cellUpdData, execCellUpdData]
  exact State.onCell_next cid (fun y => y.updData o f) hw

theorem exec_cellUpdEnd_answers (hw : (Instr.cellUpdEnd cid o).wf = true) :
    exec (.cellUpdEnd cid o) s = .next (s.withCell cid ((s.cell cid).updEnd o)) := by
  rw [exec_cellUpdEnd, execCellUpdEnd]
  exact State.onCell_next cid (fun y => y.updEnd o) hw

theorem exec_cellUpdActivate_answers (hw : (Instr.cellUpdActivate cid o).wf = true) :
    exec (.cellUpdActivate cid o) s = .next (s.withCell cid ((s.cell cid).updActivate o)) := by
  rw [exec_cellUpdActivate, execCellUpdActivate]
  exact State.onCell_next cid (fun y => y.updActivate o) hw

end Commands

/-- Settles O37: a request ignored or repeated does nothing, and a new one does what its operation says. -/
theorem cellUpdateCommandsComplete : Obligations.CellUpdateCommandsComplete := by
  unfold Obligations.CellUpdateCommandsComplete
  refine ⟨fun s cid o f => ⟨exec_cellUpdIdent_answers, exec_cellUpdBegin_answers, exec_cellUpdData_answers, exec_cellUpdEnd_answers,
    exec_cellUpdActivate_answers⟩, fun k o q f hq h => ?_, fun k o q hq hm hn hf => ?_⟩
  case refine_1 =>
    subst hq
    exact ⟨C.update_ignored h, C.update_ignored h, C.update_ignored h, C.update_ignored h, C.update_ignored h⟩
  case refine_2 =>
    subst hq
    have h : k.NewUpd o := ⟨hm, hn, hf⟩
    exact ⟨C.updIdent_new h, fun ho => ⟨C.updBegin_fails h, C.updBegin_new h ho⟩,
      fun hu f => ⟨C.updData_none f h hu, C.updEnd_none h hu, (C.updActivate_keeps h (.inl hu)).1⟩,
      fun n ok ho hu he hl => C.updData_next h ho hu he hl, fun n ok f hu hne => C.updData_elsewhere f h hu hne,
      fun n ok ho hu => C.updEnd_checks h ho hu, fun n ho hu hs hp hr => C.updActivate_passed h ho hu hs hp hr,
      fun n hu => C.updActivate_keeps h (.inr ⟨n, hu⟩)⟩

end Sys2Proof.Machine
end

section
/-! PROOFS. The image service of the hubs (R567), the recovery protocol (R568 to R570), the flash window (R554, R575). -/
namespace Sys2Proof.Machine

/-! ### The image service (R565, R567) -/

section Image
variable {s : State} {u : U} {h : Nat} {o : List Nat}

theorem exec_hubImageRead_answers (hw : (Instr.hubImageRead h o).wf = true) (hh : s.u.held = false) :
    exec (.hubImageRead h o) s = .next (s.after (s.u.imageRead h o)) := by
  rw [exec_hubImageRead, execHubImageRead, State.onUnit_whole (fun _ u => u.imageRead h o) hw rfl hh]

theorem U.imageRead_other (ho : isUpd o 5 = false) : u.imageRead h o = u := if_pos (by simp [ho])

/-- A READ where flash holds no partition of the image. -/
theorem U.imageRead_absent (ho : isUpd o 5 = true) (hp : partition u.flash 6 = none) :
    u.imageRead h o = u.post h true 0 ([0x21, (readUpd o).tag] ++ toBytes 2 (32768 * u.unitB) ++ [5, 8, 0, 0] ++
      toBytes 4 ((readUpd o).offset + 52) ++ List.replicate 52 0) := by
  simp only [U.imageRead, ho, hp, Bool.not_true, Bool.false_eq_true, if_false, Option.isNone_none, if_true]

theorem U.imageRead_present {b n : Nat} (ho : isUpd o 5 = true) (hp : partition u.flash 6 = some (b, n)) :
    u.imageRead h o = u.post h true 0 ([0x21, (readUpd o).tag] ++ toBytes 2 (32768 * u.unitB) ++ [5, 0, 0, 0] ++
      toBytes 4 ((readUpd o).offset + 52) ++ Flash.bytes u.flash (b + (readUpd o).offset) 52) := by
  simp only [U.imageRead, ho, hp, Bool.not_true, Bool.false_eq_true, if_false, Option.isNone_some]

end Image

/-! ### A request of the recovery protocol (R568, R569) -/

section Recover
variable {u : U} {op : Nat} {w : Bool} {o : List Nat} {q : RecReq} {run : RecReq → U → (Nat × Nat × List Nat) × U}

theorem U.recMessage_idle (w : Bool) (o : List Nat) (h : u.on R.SYS_BOOT_RECOVERY = false) : u.recMessage w o = none := if_pos (by simp [h])

/-- With the UART as its transport the ROM serves no datagram. -/
theorem U.recMessage_uart (h : u.recUart = true) (hr : u.on R.SYS_BOOT_RECOVERY = true) (o : List Nat) :
    u.recMessage false o = none ∧ u.recMessage true o = Eth.slipMessage o := by
  simp [U.recMessage, h, hr]

theorem U.recIs_idle (op : Nat) (w : Bool) (o : List Nat) (h : u.on R.SYS_BOOT_RECOVERY = false) : u.recIs op w o = none := by
  simp only [U.recIs, U.recMessage_idle w o h]

theorem U.recSend_sec (u : U) (w : Bool) (o r : List Nat) : (u.recSend w o r).sec = u.sec := by
  unfold U.recSend
  split <;> rfl

theorem U.recSend_flash (u : U) (w : Bool) (o r : List Nat) : (u.recSend w o r).flash = u.flash := by
  unfold U.recSend
  split <;> rfl

theorem U.recover_none (h : u.recIs op w o = none) : u.recover op w o run = u := by simp only [U.recover, h]

theorem U.recAgain_some {n : Nat} {r : List Nat} (h : u.sec.prev = some (n, r)) : u.recAgain n = some r := by simp [U.recAgain, h]

theorem U.recAgain_none {n : Nat} (h : ∀ r, u.sec.prev ≠ some (n, r)) : u.recAgain n = none := by
  unfold U.recAgain
  split
  next m r hp =>
    refine if_neg fun he => h r ?_
    rw [hp, he]
  next => rfl

theorem U.recover_again {r : List Nat} (h : u.recIs op w o = some q) (hp : u.sec.prev = some (q.seq, r)) :
    u.recover op w o run = u.recSend w o r := by simp only [U.recover, h, U.recAgain_some hp]

/-- The reply to a request kept and sent: STATUS, OFFSET and data `x.1`, and the unit `x.2` that the request leaves. -/
def U.recAnswer (op : Nat) (w : Bool) (o : List Nat) (q : RecReq) (x : (Nat × Nat × List Nat) × U) : U :=
  (x.2.withSec (fun s => { s with prev := some (q.seq, recReply op x.1.1 q x.1.2.1 x.1.2.2) })).recSend w o
    (recReply op x.1.1 q x.1.2.1 x.1.2.2)

theorem U.recAnswer_sec (op : Nat) (w : Bool) (o : List Nat) (q : RecReq) (x : (Nat × Nat × List Nat) × U) :
    (U.recAnswer op w o q x).sec = { x.2.sec with prev := some (q.seq, recReply op x.1.1 q x.1.2.1 x.1.2.2) } := U.recSend_sec _ _ _ _

theorem U.recAnswer_flash (op : Nat) (w : Bool) (o : List Nat) (q : RecReq) (x : (Nat × Nat × List Nat) × U) :
    (U.recAnswer op w o q x).flash = x.2.flash := U.recSend_flash _ _ _ _

/-- A new request of a unit whose fuses have failed, apart from IDENT. -/
theorem U.recover_fuseFail (h : u.recIs op w o = some q) (hp : ∀ r, u.sec.prev ≠ some (q.seq, r)) (ho : op ≠ 1)
    (hf : u.on R.SYS_FUSE_FUSE_FAIL = true) : u.recover op w o run = U.recAnswer op w o q ((8, 0, []), u) := by
  have hc : (u.on R.SYS_FUSE_FUSE_FAIL && op != 1) = true := by simp [hf, ho]
  simp only [U.recover, h, U.recAgain_none hp, hc, if_true]
  rfl

/-- A new request of its LEN runs. -/
theorem U.recover_runs (h : u.recIs op w o = some q) (hp : ∀ r, u.sec.prev ≠ some (q.seq, r)) (hl : q.len ≤ 1024)
    (hf : op = 1 ∨ u.on R.SYS_FUSE_FUSE_FAIL = false) (hd : op = 4 → q.data.length = q.len) :
    u.recover op w o run = U.recAnswer op w o q (run q u) := by
  have hc : ¬ (u.on R.SYS_FUSE_FUSE_FAIL && op != 1) = true := by rcases hf with h | h <;> simp [h]
  have hb : ¬ (decide (q.len > 1024) || (op == 4 && q.data.length != q.len)) = true := by
    by_cases h4 : op = 4
    · simp [hd h4, hl]
    · simp [h4, hl]
  simp only [U.recover, h, U.recAgain_none hp]
  rw [if_neg hc, if_neg hb]
  rfl

end Recover

/-! ### The operations of the recovery protocol (R570) -/

section Operations
variable {u : U} {w : Bool} {o : List Nat} {q : RecReq}

/-- A request that is not the repetition of the one before it and stays within the limit of LEN. -/
structure U.NewRec (u : U) (q : RecReq) : Prop where
  fresh : ∀ r, u.sec.prev ≠ some (q.seq, r)
  short : q.len ≤ 1024

theorem recReply_length (op status : Nat) (q : RecReq) (offset : Nat) (data : List Nat) :
    (recReply op status q offset data).length = 20 + data.length := by
  simp only [recReply, List.length_append, List.length_cons, List.length_nil, toBytes_length]

/-- What IDENT answers. -/
def U.identData (u : U) : List Nat :=
  toBytes 2 0x7100 ++ [0xC0, u.rd R.SEC_BOOT_SLOT + 2 * u.rd R.SEC_BOOT_PENDING] ++ toBytes 8 u.sys.fuse.unitId ++
    toBytes 4 (u.rd R.SEC_VERSION_VERSION) ++ [u.sys.fuse.arb, u.rd R.SYS_FUSE_FUSE_FAIL + 2 * u.rd R.SYS_BOOT_NO_IMAGE +
      4 * b2n (u.sys.fuse.owner != 0) + 8 * b2n u.sys.fuse.lock]

theorem U.identData_length (u : U) : u.identData.length = 18 := by
  simp only [U.identData, List.length_append, List.length_cons, List.length_nil, toBytes_length]

theorem U.recIdent_new (hn : u.NewRec q) (h : u.recIs 1 w o = some q) :
    (u.recIdent w o).sec.prev = some (q.seq, recReply 1 0 q 0 u.identData) := by
  rw [U.recIdent, U.recover_runs h hn.fresh hn.short (.inl rfl) (fun h => absurd h (by decide)), U.recAnswer_sec]
  rfl

theorem U.recCert_new (hn : u.NewRec q) (h : u.recIs 2 w o = some q) (hf : u.on R.SYS_FUSE_FUSE_FAIL = false) :
    (u.recCert w o).sec.prev = some (q.seq, if q.offset + q.len > 5328 then recReply 2 1 q q.offset []
      else recReply 2 0 q q.offset (((u.sys.fuse.cert ++ List.replicate 5328 0).drop q.offset).take q.len)) := by
  rw [U.recCert, U.recover_runs h hn.fresh hn.short (.inr hf) (fun h => absurd h (by decide)), U.recAnswer_sec]
  split
  · rfl
  · rfl

theorem U.recBegin_fuseFail (f : Bool) (hn : u.NewRec q) (h : u.recIs 3 w o = some q) (hf : u.on R.SYS_FUSE_FUSE_FAIL = true) :
    (u.recBegin w o f).flash = u.flash ∧ (u.recBegin w o f).sec.prev = some (q.seq, recReply 3 8 q 0 []) := by
  rw [U.recBegin, U.recover_fuseFail h hn.fresh (by decide) hf, U.recAnswer_sec, U.recAnswer_flash]
  exact ⟨rfl, rfl⟩

/-- BEGIN erases the partition of its TARGET and opens the session. -/
theorem U.recBegin_new {b n : Nat} (hn : u.NewRec q) (h : u.recIs 3 w o = some q) (hf : u.on R.SYS_FUSE_FUSE_FAIL = false)
    (ht : q.target ≤ 4) (hs : u.recSpan q.target = some (b, n)) :
    (u.recBegin w o false).flash = Flash.erase u.flash b n ∧ (u.recBegin w o false).sec.sess = some ⟨q.target, b, n, 0⟩ := by
  have hs' : (u.withSec (fun s => { s with sess := none })).recSpan q.target = some (b, n) := hs
  rw [U.recBegin, U.recover_runs h hn.fresh hn.short (.inr hf) (fun h => absurd h (by decide)), U.recAnswer_sec, U.recAnswer_flash]
  dsimp only
  rw [if_neg (Nat.not_lt.mpr ht)]
  simp only [hs']
  exact ⟨rfl, rfl⟩

theorem U.recData_closed (f : Bool) (hn : u.NewRec q) (h : u.recIs 4 w o = some q) (hd : q.data.length = q.len)
    (hf : u.on R.SYS_FUSE_FUSE_FAIL = false) (hs : u.sec.sess = none) :
    (u.recData w o f).flash = u.flash ∧ (u.recData w o f).sec.prev = some (q.seq, recReply 4 8 q 0 []) := by
  rw [U.recData, U.recover_runs h hn.fresh hn.short (.inr hf) (fun _ => hd), U.recAnswer_sec, U.recAnswer_flash]
  constructor <;> simp only [hs]

theorem U.recEnd_closed (f : Bool) (hn : u.NewRec q) (h : u.recIs 5 w o = some q)
    (hf : u.on R.SYS_FUSE_FUSE_FAIL = false) (hs : u.sec.sess = none) :
    (u.recEnd w o f).sec.prev = some (q.seq, recReply 5 8 q 0 []) := by
  rw [U.recEnd, U.recover_runs h hn.fresh hn.short (.inr hf) (fun h => absurd h (by decide)), U.recAnswer_sec]
  simp only [hs]

/-- DATA at the next OFFSET programs its bytes. -/
theorem U.recData_next {e : RecSess} (hn : u.NewRec q) (h : u.recIs 4 w o = some q) (hd : q.data.length = q.len)
    (hf : u.on R.SYS_FUSE_FUSE_FAIL = false) (hs : u.sec.sess = some e) (ht : q.target = e.target) (ho : q.offset = e.next)
    (hl : q.offset + q.data.length ≤ e.size) :
    (u.recData w o false).flash = Flash.program u.flash (e.base + q.offset) q.data ∧
      (u.recData w o false).sec.sess = some { e with next := q.offset + q.data.length } := by
  have hb : ¬ (decide (q.offset > e.next) || decide (q.offset + q.data.length > e.size)) = true := by
    simp only [Bool.or_eq_true, decide_eq_true_eq]
    omega
  rw [U.recData, U.recover_runs h hn.fresh hn.short (.inr hf) (fun _ => hd), U.recAnswer_sec, U.recAnswer_flash]
  simp only [hs]
  rw [if_neg (not_not_intro ht.symm), if_neg hb, if_neg (Nat.not_lt.mpr ho.ge), if_neg Bool.false_ne_true]
  exact ⟨rfl, rfl⟩

/-- END of another target than firmware closes the session and writes no flash. -/
theorem U.recEnd_other {e : RecSess} (f : Bool) (hn : u.NewRec q) (h : u.recIs 5 w o = some q) (hf : u.on R.SYS_FUSE_FUSE_FAIL = false)
    (hs : u.sec.sess = some e) (hz : e.target ≠ 0) (ht : q.target = e.target) :
    (u.recEnd w o f).sec.sess = none ∧ (u.recEnd w o f).flash = u.flash := by
  have hc : (decide (u.recCheck e ≠ 0) || decide (e.target ≠ 0)) = true := by simp [hz]
  rw [U.recEnd, U.recover_runs h hn.fresh hn.short (.inr hf) (fun h => absurd h (by decide)), U.recAnswer_sec, U.recAnswer_flash]
  simp only [hs]
  rw [if_neg (not_not_intro ht.symm), if_pos hc]
  exact ⟨rfl, rfl⟩

/-- BOOT of no request, or of the request repeated, resets nothing. -/
theorem recBoot_stays (t : TimeBase) (h : u.recIs 6 w o = none ∨ ∃ q r, u.recIs 6 w o = some q ∧ u.sec.prev = some (q.seq, r)) :
    recBoot t u w o = (t, u.recover 6 w o (fun _ u => ((0, 0, []), u))) := by
  refine if_neg ?_
  rcases h with h | ⟨q, r, h, hp⟩
  · simp [h]
  · simp [h, U.recAgain_some hp]

/-- BOOT resets after its reply. -/
theorem recBoot_resets (t : TimeBase) (hn : u.NewRec q) (h : u.recIs 6 w o = some q) (hf : u.on R.SYS_FUSE_FUSE_FAIL = false) :
    recBoot t u w o = resetAssert t (U.recAnswer 6 w o q ((0, 0, []), u)) 5 1 0 := by
  rw [← U.recover_runs (run := fun _ u => ((0, 0, []), u)) h hn.fresh hn.short (.inr hf) (fun h => absurd h (by decide))]
  exact if_pos (by simp [h, hf, hn.short, U.recAgain_none hn.fresh])

end Operations

/-! ### The commands of the recovery protocol -/

section Commands
variable {s : State} {w f : Bool} {o : List Nat}

theorem exec_recIdent_runs (hw : (Instr.recIdent w o).wf = true) (hh : s.u.held = false) :
    exec (.recIdent w o) s = .next (s.after (s.u.recIdent w o)) := by
  rw [exec_recIdent, execRecIdent, State.onUnit_whole (fun _ u => u.recIdent w o) hw rfl hh]

theorem exec_recCertRead_runs (hw : (Instr.recCertRead w o).wf = true) (hh : s.u.held = false) :
    exec (.recCertRead w o) s = .next (s.after (s.u.recCert w o)) := by
  rw [exec_recCertRead, execRecCertRead, State.onUnit_whole (fun _ u => u.recCert w o) hw rfl hh]

theorem exec_recBegin_runs (hw : (Instr.recBegin w o f).wf = true) (hh : s.u.held = false) :
    exec (.recBegin w o f) s = .next (s.after (s.u.recBegin w o f)) := by
  rw [exec_recBegin, execRecBegin, State.onUnit_whole (fun _ u => u.recBegin w o f) hw rfl hh]

theorem exec_recData_runs (hw : (Instr.recData w o f).wf = true) (hh : s.u.held = false) :
    exec (.recData w o f) s = .next (s.after (s.u.recData w o f)) := by
  rw [exec_recData, execRecData, State.onUnit_whole (fun _ u => u.recData w o f) hw rfl hh]

theorem exec_recEnd_runs (hw : (Instr.recEnd w o f).wf = true) (hh : s.u.held = false) :
    exec (.recEnd w o f) s = .next (s.after (s.u.recEnd w o f)) := by
  rw [exec_recEnd, execRecEnd, State.onUnit_whole (fun _ u => u.recEnd w o f) hw rfl hh]

theorem exec_recBoot_runs (hw : (Instr.recBoot w o).wf = true) (hh : s.u.held = false) :
    exec (.recBoot w o) s = .next (s.afterAt (recBoot s.time s.u w o).1 (recBoot s.time s.u w o).2) := by
  rw [exec_recBoot, execRecBoot]
  exact State.onTime_next (fun t u => recBoot t u w o) hw ((U.deaf_whole rfl).trans hh)

/-- What every command of the protocol does to a request that it does not take, and to the request repeated. -/
theorem exec_rec_again {c : Instr} {n : Nat}
    (hc : c = Instr.recIdent w o ∧ n = 1 ∨ c = Instr.recCertRead w o ∧ n = 2 ∨ c = Instr.recBegin w o f ∧ n = 3 ∨
      c = Instr.recData w o f ∧ n = 4 ∨ c = Instr.recEnd w o f ∧ n = 5 ∨ c = Instr.recBoot w o ∧ n = 6) (hw : c.wf = true)
    (hh : s.u.held = false) :
    (s.u.recIs n w o = none → exec c s = .next (s.after s.u)) ∧
    (∀ q r, s.u.recIs n w o = some q → s.u.sec.prev = some (q.seq, r) → exec c s = .next (s.after (s.u.recSend w o r))) := by
  rcases hc with ⟨rfl, rfl⟩ | ⟨rfl, rfl⟩ | ⟨rfl, rfl⟩ | ⟨rfl, rfl⟩ | ⟨rfl, rfl⟩ | ⟨rfl, rfl⟩
  · rw [exec_recIdent_runs hw hh, U.recIdent]
    exact ⟨fun h => by rw [U.recover_none h], fun q r h hp => by rw [U.recover_again h hp]⟩
  · rw [exec_recCertRead_runs hw hh, U.recCert]
    exact ⟨fun h => by rw [U.recover_none h], fun q r h hp => by rw [U.recover_again h hp]⟩
  · rw [exec_recBegin_runs hw hh, U.recBegin]
    exact ⟨fun h => by rw [U.recover_none h], fun q r h hp => by rw [U.recover_again h hp]⟩
  · rw [exec_recData_runs hw hh, U.recData]
    exact ⟨fun h => by rw [U.recover_none h], fun q r h hp => by rw [U.recover_again h hp]⟩
  · rw [exec_recEnd_runs hw hh, U.recEnd]
    exact ⟨fun h => by rw [U.recover_none h], fun q r h hp => by rw [U.recover_again h hp]⟩
  · rw [exec_recBoot_runs hw hh]
    refine ⟨fun h => ?_, fun q r h hp => ?_⟩
    · rw [recBoot_stays _ (.inl h), U.recover_none h]
      rfl
    · rw [recBoot_stays _ (.inr ⟨q, r, h, hp⟩), U.recover_again h hp]
      rfl

end Commands

/-! ### The flash window (R554, R575) -/

section Window
variable {u : U} {addr a n : Nat} {op : FlashOp}

theorem U.flashAsk_shut (h : u.flashShut a n = true) : u.flashAsk addr op a n = u.emit (.storeFault addr) := if_pos h

theorem U.flashAsk_waits (h : u.flashShut a n = false) (hb : u.sec.busy = true) :
    u.flashAsk addr op a n = { u with sec := { u.sec with wait := u.sec.wait ++ [op] } } :=
  (if_neg (Bool.eq_false_iff.mp h)).trans (if_pos hb)

theorem U.flashAsk_runs (h : u.flashShut a n = false) (hb : u.sec.busy = false) : u.flashAsk addr op a n = u.flashRun op :=
  (if_neg (Bool.eq_false_iff.mp h)).trans (if_neg (Bool.eq_false_iff.mp hb))

theorem U.xspiProgram_asks {bs : List Nat} (hn : bs ≠ []) (hl : a + bs.length ≤ 0x10000000) :
    u.xspiProgram a bs = u.flashAsk (0x200000000 + a) (.program a bs) a bs.length := by
  refine if_neg ?_
  simp only [Bool.or_eq_true, decide_eq_true_eq, List.isEmpty_iff]
  exact fun h => h.elim (Nat.not_lt.mpr hl) hn

/-- A store beside the first word of a sector erases nothing. -/
theorem U.xspiErase_beside (h : a % 65536 ≠ 0) : u.xspiErase a = u :=
  if_pos (by simp only [Bool.or_eq_true, decide_eq_true_eq]; exact .inl h)

theorem U.xspiErase_asks (h : a % 65536 = 0) (hl : a < 0x10000000) :
    u.xspiErase a = u.flashAsk (0x210000000 + a) (.erase a) a 65536 := by
  refine if_neg ?_
  simp only [Bool.or_eq_true, decide_eq_true_eq]
  exact fun hb => hb.elim (fun hz => hz h) (Nat.not_le.mpr hl)

theorem U.xspiDone_idle (h : u.sec.wait = []) : u.xspiDone = { u with sec := { u.sec with busy := false } } := by
  simp only [U.xspiDone, h]

theorem U.xspiDone_next {rest : List FlashOp} (h : u.sec.wait = op :: rest) :
    u.xspiDone = U.flashRun { u with sec := { u.sec with busy := false, wait := rest } } op := by
  simp only [U.xspiDone, h]

end Window

section WindowCommands
variable {s : State} {a : Nat}

theorem exec_xspiProgram_runs {bs : List Nat} (hw : (Instr.xspiProgram a bs).wf = true) (hh : s.u.held = false) :
    exec (.xspiProgram a bs) s = .next (s.after (s.u.xspiProgram a bs)) := by
  rw [exec_xspiProgram, execXspiProgram, State.onUnit_whole (fun _ u => u.xspiProgram a bs) hw rfl hh]

theorem exec_xspiErase_runs (hw : (Instr.xspiErase a).wf = true) (hh : s.u.held = false) :
    exec (.xspiErase a) s = .next (s.after (s.u.xspiErase a)) := by
  rw [exec_xspiErase, execXspiErase, State.onUnit_whole (fun _ u => u.xspiErase a) hw rfl hh]

theorem exec_xspiOperationDone_runs (hh : s.u.held = false) : exec .xspiOperationDone s = .next (s.after s.u.xspiDone) := by
  rw [exec_xspiOperationDone, execXspiOperationDone, State.onUnit_whole (fun _ u => u.xspiDone) rfl rfl hh]

end WindowCommands

/-- Settles O38: the image service, the recovery protocol request by request, and the flash window, each by its lemmas. -/
theorem recoveryAndFlashCommandsComplete : Obligations.RecoveryAndFlashCommandsComplete := by
  unfold Obligations.RecoveryAndFlashCommandsComplete
  refine ⟨fun s h o q hw hh hq hm => ⟨fun hp => ?_, fun b n hp => ?_⟩, fun s h o hw hh hm => ?_, fun s c w o f n hc hw hh => ⟨fun h => ?_, ?_⟩,
    fun u w o q hp hl => ?_, fun u o hu hr => U.recMessage_uart hu hr o,
    fun s w f o hh => ⟨fun hw => exec_recIdent_runs hw hh, fun hw => exec_recCertRead_runs hw hh, fun hw => exec_recBegin_runs hw hh,
      fun hw => exec_recData_runs hw hh, fun hw => exec_recEnd_runs hw hh⟩, fun s w o q v hw hh h hp hl hf hv => ?_,
    fun s a bs hw hh hn hl => ?_, fun s a hw hh => ?_, fun s hh => ⟨fun h => ?_, fun op rest h => ?_⟩⟩
  case refine_1 =>
    subst hq
    rw [exec_hubImageRead_answers hw hh, U.imageRead_absent hm hp]
  case refine_2 =>
    subst hq
    rw [exec_hubImageRead_answers hw hh, U.imageRead_present hm hp]
  case refine_3 => rw [exec_hubImageRead_answers hw hh, U.imageRead_other hm]
  case refine_4 => exact (exec_rec_again hc hw hh).1 (h.elim (U.recIs_idle n w o) id)
  case refine_5 => exact (exec_rec_again hc hw hh).2
  case refine_6 =>
    have hn : u.NewRec q := ⟨hp, hl⟩
    exact ⟨fun h => ⟨_, U.recIdent_new hn h, by rw [recReply_length, U.identData_length]⟩, U.recCert_new hn,
      fun f => U.recBegin_fuseFail f hn, fun b n => U.recBegin_new hn,
      fun f hf hs => ⟨fun h hd => U.recData_closed f hn h hd hf hs, fun h => U.recEnd_closed f hn h hf hs⟩,
      fun e => U.recData_next hn, fun e f => U.recEnd_other f hn⟩
  case refine_7 =>
    subst hv
    rw [exec_recBoot_runs hw hh, recBoot_resets s.time ⟨hp, hl⟩ h hf]
    rfl
  case refine_8 =>
    rw [exec_xspiProgram_runs hw hh, U.xspiProgram_asks hn hl]
    exact ⟨fun h => by rw [U.flashAsk_shut h], fun h hb => by rw [U.flashAsk_waits h hb], fun h hb => by rw [U.flashAsk_runs h hb]; rfl⟩
  case refine_9 =>
    have hl : a < 0x10000000 := of_decide_eq_true hw
    rw [exec_xspiErase_runs hw hh]
    refine ⟨fun h => ?_, fun h hs => ?_, fun h hs hb => ?_, fun h hs hb => ?_⟩
    · rw [U.xspiErase_beside h]
    · rw [U.xspiErase_asks h hl, U.flashAsk_shut hs]
    · rw [U.xspiErase_asks h hl, U.flashAsk_waits hs hb]
    · rw [U.xspiErase_asks h hl, U.flashAsk_runs hs hb]
      rfl
  case refine_10 => rw [exec_xspiOperationDone_runs hh, U.xspiDone_idle h]
  case refine_11 => rw [exec_xspiOperationDone_runs hh, U.xspiDone_next h]

end Sys2Proof.Machine
end

section
/-! PROOFS. Power control (R529): the domains that a write of SYS_PWR powers down, what they lose, and the domains that come up again. -/
namespace Sys2Proof.Machine

/-! ### What a Block reset leaves -/

section Blocks
variable {u : U}

/-- SRAM and what the SYS block holds beside its registers. -/
def U.memSys (u : U) : Mem × Sys := (u.mem, u.sys)

theorem U.memSys_markCause (u : U) (c : Cause) : (u.markCause c).memSys = u.memSys := by
  unfold U.markCause
  dsimp only
  split <;> rfl

theorem U.memSys_glacier (u : U) (t : TimeBase) : (u.glacier t).memSys = u.memSys := by
  have info : ∀ (v : U) (c : Cause), (v.record t.ts64 c none []).2.memSys = v.memSys := fun v c => v.memSys_markCause c
  have put : ∀ (v : U) (f : Fld) (b : Bool), (v.put f b).memSys = v.memSys := fun _ _ _ => rfl
  have ramp : ∀ v : U, U.memSys { v with sbx := { v.sbx with rampAt := none, rampFrom := v.sbx.frac250 } } = v.memSys := fun _ => rfl
  simp only [U.glacier, apply_ite U.memSys, info, put, ramp, ite_self]

theorem U.memSys_wipe (u : U) (t : TimeBase) (lo hi : Nat) : (u.wipe t lo hi).memSys = u.memSys := U.memSys_glacier _ _

theorem U.memSys_imageFirn (u : U) (a : Nat) : (u.imageFirn a).memSys = u.memSys := by
  unfold U.imageFirn
  split <;> rfl

theorem U.memSys_imageYard (u : U) (a : Nat) : (u.imageYard a).memSys = u.memSys := by
  unfold U.imageYard
  split <;> rfl

theorem U.memSys_firn {i : Nat} (t : TimeBase) (h : 16 ≤ i ∧ i ≤ 27) : (u.resetBlock t i).memSys = u.memSys := by
  unfold U.resetBlock
  dsimp only
  rw [if_neg (show ¬ i = 2 by omega), if_pos (by simpa using h), U.memSys_imageFirn]
  exact U.memSys_wipe _ _ _ _

theorem U.memSys_yard {i : Nat} (t : TimeBase) (h : 32 ≤ i ∧ i ≤ 43) : (u.resetBlock t i).memSys = u.memSys := by
  have hf : ¬ (16 ≤ i && i ≤ 27) = true := by simp; omega
  unfold U.resetBlock
  dsimp only
  rw [if_neg (show ¬ i = 2 by omega), if_neg hf, if_pos (by simpa using h), U.memSys_imageYard]
  exact U.memSys_wipe _ _ _ _

end Blocks

/-! ### What a domain loses (R514, R529) -/

section Domain
variable {u : U}

/-- SRAM below 24 MiB. -/
def lowMem (m : Mem) : Mem := m.filter (fun e => decide (e.1 < 0x1800000))

theorem lowMem_lowMem (m : Mem) : lowMem (lowMem m) = lowMem m := by
  unfold lowMem
  rw [List.filter_filter]
  simp only [Bool.and_self]

/-- MEB alone loses SRAM, and no domain what the SYS block holds beside its registers. -/
theorem U.domainReset_memSys (u : U) (t : TimeBase) (k : Nat) :
    (u.domainReset t k).memSys = (if k = 2 then lowMem u.mem else u.mem, u.sys) := by
  match k with
  | 0 => rfl
  | 1 =>
    refine (List.foldlRecOn (motive := fun w : U => w.memSys = u.memSys) _ _ rfl (fun w hw a ha => ?_)).trans rfl
    have ha : a < 6 := List.mem_range.mp ha
    rw [U.memSys_yard t ⟨by omega, by omega⟩, U.memSys_firn t ⟨by omega, by omega⟩, hw]
  | 2 => rfl
  | n + 3 => exact U.memSys_wipe _ _ _ _

theorem U.showDomain_memSys (u : U) (k : Nat) (on : Bool) : (u.showDomain k on).memSys = u.memSys := by
  unfold U.showDomain
  dsimp only
  split
  · exact foldl_leaves (p := U.memSys) (f := fun u c => u.stopCore (8 + c) (if on then 0 else 3)) (fun _ _ => rfl) (List.range 8) u
  · rfl

/-- A domain powered down. -/
def U.powerDown (t : TimeBase) (u : U) (k : Nat) : U :=
  ((u.domainReset t k).showDomain k false).withSys (fun s => { s with rising := s.rising.filter (· != k) })

theorem U.powerDown_shown (u : U) (t : TimeBase) (k : Nat) :
    ((u.domainReset t k).showDomain k false).memSys = (if k = 2 then lowMem u.mem else u.mem, u.sys) :=
  (U.showDomain_memSys _ _ _).trans (u.domainReset_memSys t k)

theorem U.powerDown_mem (u : U) (t : TimeBase) (k : Nat) : (U.powerDown t u k).mem = if k = 2 then lowMem u.mem else u.mem :=
  congrArg Prod.fst (u.powerDown_shown t k)

theorem U.powerDown_rising (u : U) (t : TimeBase) (k : Nat) :
    (U.powerDown t u k).sys.rising = u.sys.rising.filter (· != k) :=
  congrArg (fun x => List.filter (· != k) (Sys.rising (Prod.snd x))) (u.powerDown_shown t k)

theorem U.powerDown_all_mem (t : TimeBase) (l : List Nat) (u : U) :
    (l.foldl (U.powerDown t) u).mem = if 2 ∈ l then lowMem u.mem else u.mem := by
  induction l generalizing u with
  | nil => rfl
  | cons k l ih =>
    rw [List.foldl_cons, ih, U.powerDown_mem]
    by_cases hk : k = 2
    · simp [hk, lowMem_lowMem]
    · simp [hk, Ne.symm hk]

theorem U.powerDown_all_rising (t : TimeBase) (l : List Nat) (u : U) (k : Nat) :
    k ∈ (l.foldl (U.powerDown t) u).sys.rising ↔ k ∈ u.sys.rising ∧ k ∉ l := by
  induction l generalizing u with
  | nil => simp
  | cons j l ih =>
    rw [List.foldl_cons, ih, U.powerDown_rising, List.mem_filter, List.mem_cons]
    simp only [bne_iff_ne, ne_eq, not_or, and_assoc]

end Domain

/-! ### A write of SYS_PWR (R529) -/

section Write
variable {u : U} {t : TimeBase} {v d : Nat}

/-- The mask of the bits below 5 for which a condition holds. -/
def maskOf (p : Nat → Bool) : Nat := (List.range 5).foldl (fun (m : Nat) k => if p k then m + 2 ^ k else m) 0

theorem maskOf_bits : ∀ d < 32, maskOf (bitAt d) = d := by decide

theorem maskOf_eq {p : Nat → Bool} (hd : d < 32) (h : ∀ k < 5, bitAt d k = p k) : maskOf p = d := by
  rw [← maskOf_bits d hd]
  refine List.foldl_ext _ _ 0 (fun m k hk => ?_)
  rw [h k (List.mem_range.mp hk)]

/-- The domains that a write powers down, as a mask: bits [4:0] of the write that are not in SYS_PWR yet. -/
def U.DownMask (u : U) (v d : Nat) : Prop := d < 32 ∧ ∀ k < 5, bitAt d k = (bitAt v k && !bitAt u.pwrMask k)

theorem U.pwrWrite_refused (h : u.DownMask v d) (hr : u.pwrRefused d = true) : u.pwrWrite t v = u.raise t SYS.PWR_REJ [] := by
  have hm : maskOf (fun k => bitAt v k && !bitAt u.pwrMask k) = d := maskOf_eq h.1 h.2
  exact if_pos ((congrArg u.pwrRefused hm).trans hr)

/-- The unit with the domains of a mask powered down. -/
def U.pwrDown (u : U) (t : TimeBase) (v d : Nat) : U :=
  ((List.range 5).filter (bitAt d)).foldl (U.powerDown t) { u with regs := u.regs.store (fieldsAt unitMap 0 0x400000028) v }

/-- The unit with the domains of a mask powered down, and those coming up whose bits the write clears. -/
def U.pwrSwitched (u : U) (t : TimeBase) (v d : Nat) : U :=
  (u.pwrDown t v d).withSys (fun s => { s with
    rising := s.rising ++ (List.range 5).filter (fun k => bitAt u.pwrMask k && !bitAt v k) })

theorem U.pwrWrite_acts (h : u.DownMask v d) (hr : u.pwrRefused d = false) :
    u.pwrWrite t v = (u.pwrSwitched t v d).put R.SYS_PWR_STAT_BUSY (!(u.pwrSwitched t v d).sys.rising.isEmpty) := by
  have hm : maskOf (fun k => bitAt v k && !bitAt u.pwrMask k) = d := maskOf_eq h.1 h.2
  have he : ∀ m, m = maskOf (fun k => bitAt v k && !bitAt u.pwrMask k) → u.pwrWrite t v = if u.pwrRefused m then u.raise t SYS.PWR_REJ []
      else (u.pwrSwitched t v m).put R.SYS_PWR_STAT_BUSY (!(u.pwrSwitched t v m).sys.rising.isEmpty) := by
    rintro m rfl
    rfl
  exact (he d hm.symm).trans (if_neg (Bool.eq_false_iff.mp hr))

theorem U.pwrWrite_mem (h : u.DownMask v d) (hr : u.pwrRefused d = false) :
    (u.pwrWrite t v).mem = if bitAt d 2 then lowMem u.mem else u.mem := by
  have hm : (u.pwrWrite t v).mem = (u.pwrDown t v d).mem := by
    rw [U.pwrWrite_acts h hr]
    rfl
  rw [hm, U.pwrDown, U.powerDown_all_mem]
  simp only [List.mem_filter, List.mem_range, Nat.reduceLT, true_and]

theorem U.pwrWrite_rising (h : u.DownMask v d) (hr : u.pwrRefused d = false) {k : Nat} (hk : k < 5) :
    k ∈ (u.pwrWrite t v).sys.rising ↔
      (k ∈ u.sys.rising ∧ bitAt d k = false) ∨ (bitAt u.pwrMask k = true ∧ bitAt v k = false) := by
  have hs : (u.pwrWrite t v).sys.rising =
      (u.pwrDown t v d).sys.rising ++ (List.range 5).filter (fun k => bitAt u.pwrMask k && !bitAt v k) := by
    rw [U.pwrWrite_acts h hr]
    rfl
  rw [hs, List.mem_append, U.pwrDown, U.powerDown_all_rising]
  simp only [List.mem_filter, List.mem_range, hk, true_and, Bool.and_eq_true, Bool.not_eq_true', Bool.not_eq_true]

end Write

/-! ### The domains that come up again (R529) -/

theorem U.powerUpDone_ends (u : U) (t : TimeBase) :
    (u.powerUpDone t).sys.rising = [] ∧ (u.powerUpDone t).rd R.SYS_PWR_STAT_BUSY = 0 := ⟨rfl, U.rd_wr_same _ R.SYS_PWR_STAT_BUSY 0⟩

theorem U.powerUpDone_none (u : U) (t : TimeBase) (h : u.sys.rising = []) :
    u.powerUpDone t = (u.withSys (fun x => { x with rising := [] })).wr R.SYS_PWR_STAT_BUSY 0 := by
  unfold U.powerUpDone
  rw [h]
  rfl

end Sys2Proof.Machine
end

section
/-! PROOFS. The die temperature (R528), BAK (R521, R548), the configuration of cells (R541), a cell's own reset (R544), the start timeout
(R536). -/
namespace Sys2Proof.Machine

/-! ### The die temperature (R528) -/

section Temperature
variable {s : State} {u : U} {t : TimeBase} {x : Int}

/-- Above OT_RST the source OT asserts, where it does not stand. -/
theorem dieTempChange_asserts (h : ∀ e, u.sys.ep = some e → bitAt e.now 2 = false) (hx : (u.sys.fuse.otRst : Int) < x) :
    dieTempChange t u x = resetAssert t u 2 0 0 := by
  unfold dieTempChange
  dsimp only
  refine if_pos ?_
  cases he : u.sys.ep with
  | none => simp [hx]
  | some e => simp [hx, h e he]

theorem dieTempChange_shown (he : u.sys.ep = none) (hs : u.sys.stretch = false) (hx : x ≤ u.sys.fuse.otRst) :
    dieTempChange t u x = (t, u.dieTemp t x) := by
  have hh : u.held = false := by simp [U.held, he, hs]
  unfold dieTempChange
  simp [he, hh, hx]

/-- The source OT, while it stands, is released 10 °C below OT_RST. -/
theorem dieTempChange_stands {e : Episode} (he : u.sys.ep = some e) (hn : bitAt e.now 2 = true) :
    dieTempChange t u x = (t, if x < (u.sys.fuse.otRst : Int) - 10 then u.resetRelease 2 else u) := by
  unfold dieTempChange
  simp [he, hn]

theorem U.otCheck_warns (h : (u.rd R.SYS_OT_OT_WARN : Int) ≤ u.rdS R.SYS_OT_TEMP) (hh : u.sys.hot = false) :
    u.otCheck t = (u.withSys (fun x => { x with hot := true })).raise t SYS.OT_WARN [] := if_pos (by simp [h, hh])

theorem U.otCheck_ends (h : u.rdS R.SYS_OT_TEMP < (u.rd R.SYS_OT_OT_WARN : Int) - 5) (hh : u.sys.hot = true) :
    u.otCheck t = (u.withSys (fun x => { x with hot := false })).endLasting t SYS.OT_WARN :=
  (if_neg (by simp [hh])).trans (if_pos (by simp [h, hh]))

theorem exec_dieTempChange_unit (hw : (Instr.dieTempChange .unit x).wf = true) : exec (.dieTempChange .unit x) s =
    .next (s.afterAt (dieTempChange s.time s.u x).1 (dieTempChange s.time s.u x).2) := by
  rw [exec_dieTempChange, execDieTempChange]
  exact State.onReset_next (fun t u => dieTempChange t u x) hw

theorem exec_dieTempChange_hub {h : Nat} (hw : (Instr.dieTempChange (.hub h) x).wf = true)
    (hd : (s.hub h).deaf (.dieTempChange (.hub h) x) = false) :
    exec (.dieTempChange (.hub h) x) s = .next (s.withHub h ((s.hub h).dieTemp x)) := by
  rw [exec_dieTempChange, execDieTempChange]
  exact State.onHub_heard (fun _ w => w.dieTemp x) hw hd

theorem exec_dieTempChange_cell {cid : Nat} (hw : (Instr.dieTempChange (.cell cid) x).wf = true) :
    exec (.dieTempChange (.cell cid) x) s = .next (s.withCell cid (s.cell cid)) := by
  rw [exec_dieTempChange, execDieTempChange]
  exact State.onCell_next cid (fun y => y) hw

end Temperature

/-! ### The backup domain (R521, R548) -/

section Backup
variable {s : State} {u : U} {o : List Nat} {k : Nat}

theorem U.bakClear_otherKey (cnt hist lf : Bool) (hk : k ≠ 0xBA4C) : u.bakClear k cnt hist lf = u := if_pos hk

/-- The commands to BAK with another key do nothing. -/
theorem exec_bakClear_otherKey {c : Instr} (hc : c = Instr.bakClrCnt k ∨ c = Instr.bakClrHist k ∨ c = Instr.bakClrLf k)
    (hw : c.wf = true) (hh : s.u.held = false) (hk : k ≠ 0xBA4C) : exec c s = .next (s.after s.u) := by
  rcases hc with rfl | rfl | rfl
  · rw [exec_bakClrCnt, execBakClrCnt, State.onUnit_whole (fun _ u => u.bakClear k true false false) hw rfl hh, U.bakClear_otherKey _ _ _ hk]
  · rw [exec_bakClrHist, execBakClrHist, State.onUnit_whole (fun _ u => u.bakClear k false true false) hw rfl hh, U.bakClear_otherKey _ _ _ hk]
  · rw [exec_bakClrLf, execBakClrLf, State.onUnit_whole (fun _ u => u.bakClear k false false true) hw rfl hh, U.bakClear_otherKey _ _ _ hk]

theorem exec_bakClrCnt_clears (hh : s.u.held = false) :
    exec (.bakClrCnt 0xBA4C) s = .next (s.after (s.u.withSys (fun x => { x with count := 0 })).sealBak) := by
  rw [exec_bakClrCnt, execBakClrCnt]
  exact State.onUnit_whole (fun _ u => u.bakClear 0xBA4C true false false) rfl rfl hh

theorem exec_bakClrHist_clears (hh : s.u.held = false) :
    exec (.bakClrHist 0xBA4C) s = .next (s.after (s.u.withSys (fun x => { x with hist := [] })).sealBak) := by
  rw [exec_bakClrHist, execBakClrHist]
  exact State.onUnit_whole (fun _ u => u.bakClear 0xBA4C false true false) rfl rfl hh

theorem exec_bakClrLf_clears (hh : s.u.held = false) :
    exec (.bakClrLf 0xBA4C) s = .next (s.after ({ s.u with lf := [] } : U).sealBak) := by
  rw [exec_bakClrLf, execBakClrLf]
  exact State.onUnit_whole (fun _ u => u.bakClear 0xBA4C false false true) rfl rfl hh

theorem exec_vbakRise_runs (hw : (Instr.vbakRise o).wf = true) : exec (.vbakRise o) s = .next (s.after (s.u.vbakRise o)) := by
  rw [exec_vbakRise, execVbakRise]
  exact State.onReset_next (fun t u => (t, u.vbakRise o)) hw

/-- A failed check word empties BAK. -/
theorem U.vbakRise_lost (u : U) (h : le o 292 4 ≠ crc32c (o.take 292)) : (u.vbakRise o).sys.count = 0 ∧ (u.vbakRise o).sys.hist = [] ∧
    (u.vbakRise o).lf = [] ∧ (u.vbakRise o).sys.bakLost = true := by
  unfold U.vbakRise
  rw [if_neg h]
  exact ⟨rfl, rfl, rfl, rfl⟩

theorem U.vbakRise_stands (u : U) (h : le o 292 4 = crc32c (o.take 292)) :
    (u.vbakRise o).sys.bakLost = u.sys.bakLost ∧ (u.vbakRise o).sys.count = le o 0 4 := by
  unfold U.vbakRise
  rw [if_pos h]
  exact ⟨rfl, rfl⟩

end Backup

/-! ### A configuration block of a cell (R541) -/

section Config
variable {k : C} {o : List Nat} {a : Assembly}

/-- A block for this cell. -/
structure C.CfgFor (k : C) (o : List Nat) : Prop where
  msg   : octet o 0 = 0x10
  named : k.named (readCfgBlock o).cid = true

theorem C.cfgBlock_other (h : k.named (readCfgBlock o).cid = false ∨ octet o 0 ≠ 0x10) : k.cfgBlock o = k := by
  refine if_pos ?_
  rcases h with h | h
  · simp [h]
  · simp [isMsg, h]

/-- The assembly that a block continues, or the one that it begins. -/
def C.cfgHeld (k : C) (b : CfgBlock) : Assembly :=
  (match Tbl.find? k.clk.asm (b2n b.unitB) with
    | some a => if a.tag = b.tag && a.nblk = b.nblk then some a else none
    | none => none).getD ⟨b.tag, 0, b.nblk, []⟩

theorem C.cfgHeld_none {b : CfgBlock} (h : k.clk.asm.find? (b2n b.unitB) = none) : k.cfgHeld b = ⟨b.tag, 0, b.nblk, []⟩ := by
  simp only [C.cfgHeld, h, Option.getD_none]

theorem C.cfgHeld_same {b : CfgBlock} (h : k.clk.asm.find? (b2n b.unitB) = some a) (ht : a.tag = b.tag) (hn : a.nblk = b.nblk) :
    k.cfgHeld b = a := by
  simp [C.cfgHeld, h, ht, hn]

/-- The assembly discarded. -/
def C.cfgDrop (k : C) (b : CfgBlock) : C := k.withClk (fun l => { l with asm := l.asm.erase (b2n b.unitB) })

/-- The assembly continued with a set. -/
def C.cfgKeep (k : C) (b : CfgBlock) (next : Nat) (set : List (Nat × Nat)) : C :=
  k.withClk (fun l => { l with asm := l.asm.set (b2n b.unitB) ⟨b.tag, next, b.nblk, set⟩ })

section Block
variable {b : CfgBlock} {cur : Assembly}

/-- What a block does, by its place in the assembly. -/
theorem C.cfgBlock_eq (h : k.CfgFor o) (hb : b = readCfgBlock o) (hc : k.cfgHeld b = cur) : k.cfgBlock o =
    if b.blk < cur.next then k
    else if b.blk ≠ cur.next then (if b.blk + 1 == b.nblk then (k.cfgDrop b).cfgAnswer b.unitB b.tag 4 0 b.check else k.cfgDrop b)
    else if b.blk + 1 == b.nblk then
      (k.cfgKeep b (cur.next + 1) (if b.blk + 1 == b.nblk then cur.set else cur.set ++ b.entries.takeWhile (fun e => e.1 != 0))).cfgComplete b
        (if b.blk + 1 == b.nblk then cur.set else cur.set ++ b.entries.takeWhile (fun e => e.1 != 0))
    else k.cfgKeep b (cur.next + 1)
      (if b.blk + 1 == b.nblk then cur.set else cur.set ++ b.entries.takeWhile (fun e => e.1 != 0)) := by
  subst hb hc
  exact if_neg (by simp [isMsg, h.msg, h.named])

/-- A copy of a block held is discarded. -/
theorem C.cfgBlock_copy (h : k.CfgFor o) (hb : b = readCfgBlock o) (hc : k.cfgHeld b = cur) (hl : b.blk < cur.next) : k.cfgBlock o = k := by
  rw [C.cfgBlock_eq h hb hc, if_pos hl]

/-- A block that leaves out others discards the assembly; the last of them is answered. -/
theorem C.cfgBlock_gap (h : k.CfgFor o) (hb : b = readCfgBlock o) (hc : k.cfgHeld b = cur) (hl : cur.next < b.blk) :
    k.cfgBlock o = if b.blk + 1 == b.nblk then (k.cfgDrop b).cfgAnswer b.unitB b.tag 4 0 b.check else k.cfgDrop b := by
  rw [C.cfgBlock_eq h hb hc, if_neg (Nat.lt_asymm hl), if_pos (Nat.ne_of_gt hl)]

theorem C.cfgBlock_more (h : k.CfgFor o) (hb : b = readCfgBlock o) (hc : k.cfgHeld b = cur) (he : b.blk = cur.next)
    (hl : b.blk + 1 ≠ b.nblk) : k.cfgBlock o = k.cfgKeep b (cur.next + 1) (cur.set ++ b.entries.takeWhile (fun e => e.1 != 0)) := by
  have hn : ¬ (b.blk + 1 == b.nblk) = true := by simp [hl]
  rw [C.cfgBlock_eq h hb hc, if_neg (Nat.not_lt.mpr he.ge), if_neg (not_not_intro he), if_neg hn, if_neg hn]

/-- The last block completes the set. -/
theorem C.cfgBlock_last (h : k.CfgFor o) (hb : b = readCfgBlock o) (hc : k.cfgHeld b = cur) (he : b.blk = cur.next)
    (hl : b.blk + 1 = b.nblk) : k.cfgBlock o = (k.cfgKeep b (cur.next + 1) cur.set).cfgComplete b cur.set := by
  have hn : (b.blk + 1 == b.nblk) = true := by simp [hl]
  rw [C.cfgBlock_eq h hb hc, if_neg (Nat.not_lt.mpr he.ge), if_neg (not_not_intro he), if_pos hn, if_pos hn]

end Block

section Complete
variable {d : C} {b : CfgBlock} {set : List (Nat × Nat)}

theorem C.cfgComplete_bad (h : b.check ≠ Config.shake256 (setBytes set)) : d.cfgComplete b set = d.cfgAnswer b.unitB b.tag 1 0 b.check :=
  if_pos h

theorem C.cfgComplete_same (h : b.check = Config.shake256 (setBytes set)) (ha : d.clk.applied = some b.check) :
    d.cfgComplete b set = d.cfgAnswer b.unitB b.tag 0 0 b.check := (if_neg (not_not_intro h)).trans (if_pos ha)

theorem C.cfgComplete_other {w : Nat} (h : b.check = Config.shake256 (setBytes set)) (ha : d.clk.applied = some w) (hw : w ≠ b.check) :
    d.cfgComplete b set = d.cfgAnswer b.unitB b.tag 2 0 b.check :=
  (if_neg (not_not_intro h)).trans ((if_neg (by simp [ha, hw])).trans (if_pos (by simp [ha])))

/-- A set whose points fail their check is answered; another waits for a boundary. -/
theorem C.cfgComplete_checked (h : b.check = Config.shake256 (setBytes set)) (ha : d.clk.applied = none) : d.cfgComplete b set =
    if (d.pointsCheck (Machine.unlocked set) 0).1 ≠ 0 then d.cfgAnswer b.unitB b.tag 3 (d.pointsCheck (Machine.unlocked set) 0).2 b.check
    else d.withClk (fun l => { l with apply := l.apply ++ [⟨b.check, set, b.unitB, b.tag⟩] }) :=
  (if_neg (not_not_intro h)).trans ((if_neg (by simp [ha])).trans (if_neg (by simp [ha])))

end Complete

theorem exec_configBlockRx_answers {s : State} {cid : Nat} (hw : (Instr.configBlockRx cid o).wf = true) :
    exec (.configBlockRx cid o) s = .next (s.withCell cid ((s.cell cid).cfgBlock o)) := by
  rw [exec_configBlockRx, execConfigBlockRx]
  exact State.onCell_next cid (fun y => y.cfgBlock o) hw

end Config

/-! ### The resend of a set (R541), a cell's own reset (R544), the start timeout (R536) -/

section Others
variable {s : State} {cid : Nat}

theorem exec_configResendTimeout_runs (hw : (Instr.configResendTimeout cid).wf = true) (hd : s.u.deaf (.configResendTimeout cid) = false) :
    exec (.configResendTimeout cid) s = .next (s.after (s.u.configResend s.time cid)) := by
  rw [exec_configResendTimeout, execConfigResendTimeout, State.onUnit_after (fun t u => u.configResend t cid) hw hd]

theorem U.configResend_none {u : U} {t : TimeBase} (h : u.mlk.cfg.find? cid = none) : u.configResend t cid = u := by
  simp only [U.configResend, h]

/-- A set sent is resent at 64 departures, and given up at its third attempt. -/
theorem U.configResend_some {u : U} {t : TimeBase} {c : CfgSend} (h : u.mlk.cfg.find? cid = some c) : u.configResend t cid =
    if dnDiff t.dn c.dn < 64 then u
    else if c.tries < 3 then u.sendConfig t cid (c.tries + 1)
    else u.withMlk (fun m => { m with cfg := m.cfg.erase cid }) := by simp only [U.configResend, h]

theorem exec_cellSelfReset_answers (hw : (Instr.cellSelfReset cid).wf = true) :
    exec (.cellSelfReset cid) s = .next (s.withCell cid (s.cell cid).selfReset) := by
  rw [exec_cellSelfReset, execCellSelfReset]
  exact State.onCell_next cid (fun y => y.selfReset) hw

theorem exec_sysPwrWrite_runs {v : Nat} (hw : (Instr.sysPwrWrite v).wf = true) (hh : s.u.held = false) :
    exec (.sysPwrWrite v) s = .next (s.after (s.u.pwrWrite s.time v)) := by
  rw [exec_sysPwrWrite, execSysPwrWrite, State.onUnit_whole (fun t u => u.pwrWrite t v) hw rfl hh]

theorem exec_domainPowerUpDone_runs (hh : s.u.held = false) :
    exec .domainPowerUpDone s = .next (s.after (s.u.powerUpDone s.time)) := by
  rw [exec_domainPowerUpDone, execDomainPowerUpDone, State.onUnit_whole (fun t u => u.powerUpDone t) rfl rfl hh]

theorem exec_startTimeout_runs (hh : s.u.held = false) : exec .startTimeout s = .next (s.after s.u.startTimeout) := by
  rw [exec_startTimeout, execStartTimeout, State.onUnit_whole (fun _ u => u.startTimeout) rfl rfl hh]

end Others

/-- Settles O34: the temperature, the power switches, BAK, the configuration blocks and the time-outs, each by its lemmas. -/
theorem powerAndConfigurationCommandsComplete : Obligations.PowerAndConfigurationCommandsComplete := by
  unfold Obligations.PowerAndConfigurationCommandsComplete
  refine ⟨fun s x hw he hs => ⟨fun hx => ?_, fun hx => ?_⟩, fun s x e hw he hn => ⟨fun hx => ?_, fun hx => ?_⟩,
    fun u t => ⟨U.otCheck_warns, U.otCheck_ends⟩, fun s h x hw hd => exec_dieTempChange_hub hw hd,
    fun s cid x hw => exec_dieTempChange_cell hw, fun s v d hw hh hd hb => ⟨fun hr => ?_, fun hr => ⟨?_, fun h2 => ?_, fun h2 => ?_, fun k hk => ?_⟩⟩,
    fun s hh => exec_domainPowerUpDone_runs hh, U.powerUpDone_none, U.powerUpDone_ends, fun s hh => exec_bakClrCnt_clears hh,
    fun s hh => exec_bakClrHist_clears hh, fun s hh => exec_bakClrLf_clears hh, fun u => rfl,
    fun s k c hc hw hh hk => exec_bakClear_otherKey hc hw hh hk, fun s o hw => exec_vbakRise_runs hw,
    fun u o => ⟨U.vbakRise_lost u, U.vbakRise_stands u⟩, fun s cid o k hw hk h => ?_, fun s cid o k b hw hk hm hb hn h0 h1 hf => ?_,
    fun s cid o k b a hw hk hm hb hn hf ht hnb => ?_, fun s cid o k b a d hw hk hm hb hn hf ht he hnb hl hd => ?_,
    fun s cid hw hd h => ?_, fun s cid c hw hd h => ?_, fun s cid k n hw hk hn => ?_, fun s gone hh hg => ?_⟩
  case refine_1 =>
    rw [exec_dieTempChange_unit hw, dieTempChange_asserts (fun e h => absurd (he.symm.trans h) (by simp)) hx]
  case refine_2 =>
    rw [exec_dieTempChange_unit hw, dieTempChange_shown he hs hx]
    rfl
  case refine_3 =>
    rw [exec_dieTempChange_unit hw, dieTempChange_stands he hn, if_pos hx]
    rfl
  case refine_4 =>
    rw [exec_dieTempChange_unit hw, dieTempChange_stands he hn, if_neg (Int.not_lt.mpr hx)]
    rfl
  case refine_5 => rw [exec_sysPwrWrite_runs hw hh, U.pwrWrite_refused ⟨hd, hb⟩ hr]
  case refine_6 => exact exec_sysPwrWrite_runs hw hh
  case refine_7 => exact (U.pwrWrite_mem ⟨hd, hb⟩ hr).trans (if_pos h2)
  case refine_8 => exact (U.pwrWrite_mem ⟨hd, hb⟩ hr).trans (if_neg (Bool.eq_false_iff.mp h2))
  case refine_9 => exact U.pwrWrite_rising ⟨hd, hb⟩ hr hk
  case refine_10 => rw [exec_configBlockRx_answers hw, ← hk, C.cfgBlock_other h]
  case refine_11 =>
    have hfor : k.CfgFor o := ⟨hm, hb ▸ hn⟩
    rw [exec_configBlockRx_answers hw, ← hk, C.cfgBlock_more hfor hb (C.cfgHeld_none hf) h0 (by omega)]
    rfl
  case refine_12 =>
    have hfor : k.CfgFor o := ⟨hm, hb ▸ hn⟩
    have hcur : k.cfgHeld b = a := C.cfgHeld_same hf ht hnb
    rw [exec_configBlockRx_answers hw, ← hk]
    refine ⟨fun hl => ?_, fun hl h1 => ?_, fun hl h1 => ?_, fun hl h1 => ?_⟩
    · rw [C.cfgBlock_copy hfor hb hcur hl]
    · rw [C.cfgBlock_more hfor hb hcur hl h1]
      rfl
    · rw [C.cfgBlock_gap hfor hb hcur hl, if_neg (by simp [h1])]
      rfl
    · rw [C.cfgBlock_gap hfor hb hcur hl, if_pos (by simp [h1])]
      rfl
  case refine_13 =>
    have hfor : k.CfgFor o := ⟨hm, hb ▸ hn⟩
    have hdk : d = k.cfgKeep b (a.next + 1) a.set := hd
    have happ : d.clk.applied = k.clk.applied := by rw [hd]; rfl
    rw [exec_configBlockRx_answers hw, ← hk, C.cfgBlock_last hfor hb (C.cfgHeld_same hf ht hnb) he.symm hl, ← hdk, ← happ]
    refine ⟨fun h => ?_, fun h ha => ?_, fun w h ha hne => ?_, fun h ha => ⟨fun hp => ?_, fun hp => ?_⟩⟩
    · rw [C.cfgComplete_bad h]
    · rw [C.cfgComplete_same h ha]
    · rw [C.cfgComplete_other h ha hne]
    · rw [C.cfgComplete_checked h ha, if_pos hp]
    · rw [C.cfgComplete_checked h ha, if_neg (not_not_intro hp)]
  case refine_14 => rw [exec_configResendTimeout_runs hw hd, U.configResend_none h]
  case refine_15 =>
    rw [exec_configResendTimeout_runs hw hd, U.configResend_some h]
    refine ⟨fun hl => ?_, fun hl h3 => ?_, fun hl h3 => ?_⟩
    · rw [if_pos hl]
    · rw [if_neg (by omega), if_pos h3]
    · rw [if_neg (by omega), if_neg (Nat.not_lt.mpr h3)]
  case refine_16 =>
    subst hk hn
    rw [exec_cellSelfReset_answers hw]
    refine ⟨fun h => ?_, fun h => ?_⟩
    · exact congrArg (fun y => Host.Outcome.next (s.withCell cid y)) (if_pos h)
    · exact congrArg (fun y => Host.Outcome.next (s.withCell cid y)) (if_neg (not_not_intro h))
  case refine_17 =>
    subst hg
    exact exec_startTimeout_runs hh

end Sys2Proof.Machine
end

section
/-! PROOFS. What faults leave of the reset controller (R513, R516): the episode, the fuses and the flash stand beside every cause raised, the
check word of BAK apart. -/
namespace Sys2Proof.Machine

/-- The flash, and the state of the SYS block but for the check word of BAK. -/
def U.rstView (u : U) : Flash × Sys := (u.flash, { u.sys with bakCrc := 0 })

theorem U.rstView_flash {u v : U} (h : u.rstView = v.rstView) : u.flash = v.flash := congrArg Prod.fst h

theorem U.rstView_ep {u v : U} (h : u.rstView = v.rstView) : u.sys.ep = v.sys.ep := congrArg (fun x => x.2.ep) h

theorem U.rstView_fuse {u v : U} (h : u.rstView = v.rstView) : u.sys.fuse = v.sys.fuse := congrArg (fun x => x.2.fuse) h

section Faults
variable (u : U) (t : TimeBase)

theorem U.rstView_wr (f : Fld) (x : Nat) : (u.wr f x).rstView = u.rstView := rfl

theorem U.rstView_permits : u.permits.rstView = u.rstView := by
  rw [U.permits_eq]
  split <;> rfl

theorem U.rstView_tripCore : u.tripCore.rstView = u.rstView := by
  rw [U.tripCore_eq]
  split
  · rw [U.rstView_permits]
    obtain ⟨v, he, rfl | ⟨n, rfl⟩⟩ := u.boxTripped_cases
    · rw [he]; rfl
    · rw [he]; rfl
  · rfl

theorem U.rstView_tripSource : u.tripSource.rstView = u.rstView := by
  unfold U.tripSource
  split
  · exact u.rstView_tripCore
  · exact u.rstView_tripCore

theorem U.rstView_record (ts : Nat) (c : Cause) (base : Option Nat) (d : List (Nat × Nat × Nat)) :
    (u.record ts c base d).2.rstView = u.rstView := by
  have hf := congrArg U.flash (U.unraised_record u ts c base d)
  have hs := congrArg U.sys (U.unraised_record u ts c base d)
  exact Prod.ext hf hs

theorem U.rstView_faultSeen (cls : Nat) : (u.faultSeen cls).rstView = u.rstView := by
  have h := congrArg U.rstView (U.faultSeen_unseen u cls)
  exact h

theorem U.rstView_glacier : (u.glacier t).rstView = u.rstView := by
  have info : ∀ (v : U) (c : Cause), (v.record t.ts64 c none []).2.rstView = v.rstView := fun v c => v.rstView_record _ c none []
  have ramp : ∀ v : U, U.rstView { v with sbx := { v.sbx with rampAt := none, rampFrom := v.sbx.frac250 } } = v.rstView := fun _ => rfl
  simp only [U.glacier, apply_ite U.rstView, info, ramp, U.put_eq, U.rstView_wr, ite_self]

theorem U.rstView_cutSiding : u.cutSiding.rstView = u.rstView := by
  unfold U.cutSiding
  split
  · rfl
  · dsimp only
    split <;> rfl

theorem U.rstView_avalancheSend (siding : Bool) : (u.avalancheSend siding).rstView = u.rstView := by
  obtain ⟨x, o, h, -⟩ := u.avalancheSend_eq siding
  rw [h]
  rfl

theorem U.rstView_avalancheArms (b : Nat) (l : List Nat) : (l.foldl (fun (x : U) a => x.armAvalanche b a) u).rstView = u.rstView := by
  have h := congrArg U.rstView (U.avalancheArms_offLedger u b l)
  exact h

theorem U.rstView_withDep (f : Dep → Dep) : (u.withDep f).rstView = u.rstView := rfl

theorem U.rstView_avalancheStart (bit detail : Nat) : (u.avalancheStart t bit detail).rstView = u.rstView := by
  unfold U.avalancheStart
  dsimp only
  iterate 5 rw [U.rstView_wr]
  rw [U.rstView_avalancheArms, U.rstView_withDep]
  iterate 3 rw [U.rstView_wr]
  exact U.rstView_avalancheSend _ _

theorem U.rstView_avalanche (bit detail : Nat) : (u.avalanche t bit detail).rstView = u.rstView := by
  by_cases h : u.on R.DEP_STATUS_AV_LATCHED = false ∨ u.on R.DEP_STATUS_CLR_SENDING = true
  · rw [U.avalanche_first t bit detail h, U.rstView_tripSource, U.avalancheRecorded, U.rstView_faultSeen, U.rstView_record,
      U.rstView_avalancheStart]
  · rw [not_or, Bool.not_eq_false, Bool.not_eq_true] at h
    rw [U.avalanche_further t bit detail h.1 h.2]
    rfl

theorem U.rstView_classAct (cls src : Nat) : (u.classAct t cls src).rstView = u.rstView := by
  by_cases h2 : cls = 2
  · rw [U.classAct, if_pos h2, U.rstView_glacier]
  · by_cases h3 : cls = 3
    · rw [h3, U.classAct_three, U.rstView_tripSource, U.rstView_avalanche]
    · rw [U.classAct, if_neg h2, if_neg h3]

/-- A cause raised leaves the episode, the fuses and the flash. -/
theorem U.rstView_raise (c : Cause) (d : List (Nat × Nat × Nat)) : (u.raise t c d).rstView = u.rstView := by
  unfold U.raise U.raiseAt
  dsimp only
  split
  · exact U.rstView_record _ _ _ _ _
  · rw [U.rstView_classAct, U.rstView_faultSeen, U.rstView_record]

theorem U.rstView_sidingControl (b : Block) : (u.sidingControl b).rstView = u.rstView := by
  unfold U.sidingControl
  split
  · rfl
  · exact u.rstView_cutSiding

theorem U.rstView_relinquish : (u.relinquish t).rstView = u.rstView :=
  (U.rstView_raise (u.sidingControl relinquishBlock) t SDL.RELINQUISH []).trans (u.rstView_sidingControl _)

theorem U.rstView_relinquishCause (blk : Nat) : (u.relinquishCause t blk).rstView = u.rstView := by
  have hby : ∀ (c : Bool) (l : List Nat), U.rstView (if c then u else { u with sdl := { u.sdl with rlqBy := l } }) = u.rstView := by
    intro c l
    split <;> rfl
  have hact : ∀ (c d : Bool) (w : U), w.rstView = u.rstView → U.rstView (if c then w else if d then w.relinquish t
      else { w.raise t SDL.RLQ_BLOCKED [] with sdl := { (w.raise t SDL.RLQ_BLOCKED []).sdl with rlqHeld := true } }) = u.rstView := by
    intro c d w hw
    split
    · exact hw
    · split
      · exact (w.rstView_relinquish t).trans hw
      · exact (w.rstView_raise t SDL.RLQ_BLOCKED []).trans hw
  exact hact _ _ _ (hby _ _)

theorem U.rstView_raiseRlq (c : Cause) (m : Nat) (d : List (Nat × Nat × Nat)) : (u.raiseRlq t c m d).rstView = u.rstView := by
  unfold U.raiseRlq
  dsimp only
  split
  · rw [U.rstView_relinquishCause, U.rstView_raise]
  · exact U.rstView_raise _ _ _ _

/-- An uncorrectable error leaves the episode, the fuses and the flash. -/
theorem U.rstView_uncorrected : (u.uncorrected t).rstView = u.rstView := by
  unfold U.uncorrected U.onMem
  refine (foldl_leaves (p := U.rstView) (fun v e => ?_) _ _).trans rfl
  dsimp only
  split
  · exact U.rstView_raiseRlq _ _ _ _ _
  · exact U.rstView_raise _ _ _ _

end Faults

end Sys2Proof.Machine
end

section
/-! PROOFS. What a reset of PD1 to PD11 leaves (R514), and what a source of the unit begins when it asserts (R513, R516). -/
namespace Sys2Proof.Machine

/-! ### A reset of PD1 to PD11 (R514) -/

/-- The fields of the blocks DEP to SBX that no strap gives its reset value. -/
structure Fld.Inner (f : Fld) : Prop where
  lo     : 0x400300000 * 32 ≤ f.key
  hi     : f.key < 0x400550000 * 32
  prefer : f.key ≠ R.SDL_ROLE_PREFER.key
  unit   : f.key ≠ R.SDL_ROLE_UNIT.key

theorem Fld.Inner.ne {f g : Fld} (h : f.Inner) (hg : g.key < 0x400300000 * 32 ∨ 0x400550000 * 32 ≤ g.key) : f.key ≠ g.key := by
  have := h.lo
  have := h.hi
  omega

section Fields
variable {u : U} {f : Fld} (h : f.Inner)
include h

theorem U.strapFields_rd (u : U) : u.strapFields.rd f = u.rd f := by
  unfold U.strapFields U.strapSdl
  dsimp only
  rw [U.rd_wr_ne _ _ h.unit, U.rd_wr_ne _ _ h.prefer, U.rd_wr_ne _ _ (h.ne (by decide)), U.rd_wr_ne _ _ (h.ne (by decide))]

theorem U.certFields_rd (u : U) : u.certFields.rd f = u.rd f := by
  have hkey : ∀ n, 0x400550000 * 32 ≤ (R.SEC_CERT_BYTES n).key := fun n => by simp only [Fld.key]; omega
  unfold U.certFields
  refine foldl_leaves (p := fun v : U => v.rd f) (fun v n => ?_) _ u
  dsimp only
  split
  · rfl
  · exact U.rd_wr_ne _ _ (h.ne (.inr (hkey n)))

theorem U.fuseFields_rd (u : U) : u.fuseFields.rd f = u.rd f := by
  have hlat : ∀ p < 4, (R.TIM_PORT_LAT_INGRESS p).key < 0x400300000 * 32 ∧ (R.TIM_PORT_LAT_EGRESS p).key < 0x400300000 * 32 :=
    fun p hp => by simp only [Fld.key]; omega
  unfold U.fuseFields
  dsimp only
  refine List.foldlRecOn (motive := fun v : U => v.rd f = u.rd f) _ _ ?_ (fun v hv e he => ?_)
  · simp only [U.put_eq, U.rd_withSys]
    iterate 6 rw [U.rd_wr_ne _ _ (h.ne (by decide))]
  · obtain ⟨hin, hout⟩ := hlat e.1 (by simpa using (List.mem_filter.mp he).2)
    rw [U.rd_wr_ne _ _ (h.ne (.inl hout)), U.rd_wr_ne _ _ (h.ne (.inl hin))]
    exact hv

theorem U.resetFuses_rd (v u : U) (cold : Bool) : (v.resetFuses u cold).rd f = v.rd f := by
  have hfail : ∀ (w : U) (x : Nat), (w.wr R.SYS_FUSE_FUSE_FAIL x).rd f = w.rd f := fun w x => U.rd_wr_ne _ _ (h.ne (by decide))
  have hfails : ∀ (w : U) (x : Nat), (w.wr R.SYS_FUSE_FAILS x).rd f = w.rd f := fun w x => U.rd_wr_ne _ _ (h.ne (by decide))
  have hstate : ∀ (w : U) (x : Nat), (w.wr R.SYS_FUSE_STATE x).rd f = w.rd f := fun w x => U.rd_wr_ne _ _ (h.ne (by decide))
  have htrim : ∀ (w : U) (x : Nat), (w.wr R.SYS_FUSE_DEF_TRIM x).rd f = w.rd f := fun w x => U.rd_wr_ne _ _ (h.ne (by decide))
  unfold U.resetFuses
  dsimp only
  split_ifs <;> simp only [U.fuseFields_rd h, hfail, hfails, hstate, htrim]

theorem U.resetKept_rd (u : U) (cold : Bool) : (u.resetKept cold).rd f = f.reset % 2 ^ f.width := by
  have hout : (decide (0x400000004 * 32 ≤ f.key) && decide (f.key < 0x400000008 * 32)) = false := by
    have := h.lo
    rw [Bool.and_eq_false_iff, decide_eq_false_iff_not, decide_eq_false_iff_not]
    omega
  have hfind : Tbl.find? (u.resetKept cold).regs f.key = none :=
    (Tbl.find?_filter_key u.regs (fun k => decide (0x400000004 * 32 ≤ k) && decide (k < 0x400000008 * 32)) f.key).trans
      (if_neg (Bool.eq_false_iff.mp hout))
  unfold U.rd Regs.get
  rw [hfind, Option.getD_none]

omit h in
theorem U.showLanes_rd (u before : U) (n : Nat) (f : Fld) : (u.showLanes before n).rd f = u.rd f := by
  unfold U.showLanes
  exact foldl_leaves (p := fun v : U => v.rd f) (fun v b => by dsimp only; split <;> rfl) _ u

/-- The reset value of every field of the blocks DEP to SBX. -/
theorem U.resetAll_rd (u : U) (cold : Bool) : (u.resetAll cold).rd f = f.reset % 2 ^ f.width := by
  rw [U.resetAll_eq, U.showAllLanes, foldl_leaves (p := fun v : U => v.rd f) (fun v n => v.showLanes_rd u n f), U.resetFuses_rd h,
    U.certFields_rd h, U.strapFields_rd h, U.resetKept_rd h]

end Fields

section Beside
variable (u : U)

/-- The episode, the fuses, the flash, and what a handshake that ends would still send. -/
def U.resetView : Option Episode × Fuses × Flash × List Nat × Snp × Sdl :=
  (u.sys.ep, u.sys.fuse, u.flash, u.evq, u.snp, u.sdl)

theorem U.resetView_showAllLanes (before : U) : (u.showAllLanes before).resetView = u.resetView := by
  refine foldl_leaves (p := U.resetView) (fun v n => ?_) _ u
  unfold U.showLanes
  exact foldl_leaves (p := U.resetView) (fun v b => by dsimp only; split <;> rfl) _ v

theorem U.resetView_certFields : u.certFields.resetView = u.resetView := by
  unfold U.certFields
  exact foldl_leaves (p := U.resetView) (fun v n => by dsimp only; split <;> rfl) _ u

theorem U.resetView_fuseFields : u.fuseFields.resetView = u.resetView := by
  unfold U.fuseFields
  dsimp only
  refine (foldl_leaves (p := U.resetView) ?_ _ _).trans rfl
  exact fun _ _ => rfl

theorem U.resetView_wr (f : Fld) (x : Nat) : (u.wr f x).resetView = u.resetView := rfl

theorem U.resetView_resetFuses (v : U) (cold : Bool) : (v.resetFuses u cold).resetView = v.resetView := by
  unfold U.resetFuses
  dsimp only
  split_ifs <;> simp only [U.resetView_fuseFields, U.resetView_wr]

theorem U.resetView_resetAll (cold : Bool) : (u.resetAll cold).resetView = (u.sys.ep, u.sys.fuse, u.flash, [], U.zero.snp, .zero) := by
  rw [U.resetAll_eq, U.resetView_showAllLanes, U.resetView_resetFuses, U.resetView_certFields]
  rfl

theorem U.resetView_showBalls (before : U) : (u.showBalls before).resetView = u.resetView := by
  unfold U.showBalls
  split <;> rfl

theorem U.resetView_holdBalls (before : U) : (u.holdBalls before).resetView = u.resetView := U.resetView_showBalls _ _

theorem U.showBalls_rd (before : U) (f : Fld) : (u.showBalls before).rd f = u.rd f := by
  unfold U.showBalls
  split <;> rfl

theorem U.holdBalls_rd (before : U) (f : Fld) : (u.holdBalls before).rd f = u.rd f := U.showBalls_rd _ _ _

theorem U.resetView_showReset (before : U) : (u.showReset before).resetView = u.resetView := by
  unfold U.showReset
  split <;> rfl

theorem U.showReset_rd (before : U) (f : Fld) : (u.showReset before).rd f = u.rd f := by
  unfold U.showReset
  split <;> rfl

theorem U.showReset_sys (before : U) : (u.showReset before).sys = u.sys := by
  unfold U.showReset
  split <;> rfl

theorem U.showBalls_sys (before : U) : (u.showBalls before).sys = u.sys := by
  unfold U.showBalls
  split <;> rfl

end Beside

/-! ### A source asserts (R513, R516) -/

section Assert
variable {t : TimeBase} {u : U} {src reach b : Nat}

/-- The unit as a source finds it: CRIT and CRIT_FUSE raise UNCORR first (R454). -/
def U.sampled (u : U) (t : TimeBase) (src : Nat) : U := if (src = 8 || src = 9) && !u.held then u.uncorrected t else u

theorem U.rstView_sampled (u : U) (t : TimeBase) (src : Nat) : (u.sampled t src).rstView = u.rstView := by
  unfold U.sampled
  split
  · exact u.rstView_uncorrected t
  · rfl

/-- While the stretcher acts no source is sampled. -/
theorem resetAssert_stretched (hs : u.sys.stretch = true) : resetAssert t u src reach b = (t, u) := if_pos (by simp [hs])

/-- What a source that is sampled resets. -/
def U.asserted (u : U) (t : TimeBase) (src reach b : Nat) : U :=
  (resetReach t (u.sampled t src) (reachOf src reach) b).2.withSys (fun s => { s with
    ep := some (Episode.join (u.sampled t src).sys.ep src (reachOf src reach) b t.ts64)
    shadow := s.shadow && !(u.sampled t src).sys.ep.any (fun e => e.stage == 3) })

theorem resetAssert_asserts (hsrc : src < 11) (hs : u.sys.stretch = false) :
    (resetAssert t u src reach b).2 = (u.asserted t src reach b).showReset (u.sampled t src) := by
  have hn : ¬ (src > 10 || u.sys.stretch) = true := by simp [hs]; omega
  unfold resetAssert
  rw [if_neg hn]
  rfl

/-- The episode that a source begins, or joins. -/
theorem resetAssert_ep (hsrc : src < 11) (hs : u.sys.stretch = false) :
    (resetAssert t u src reach b).2.sys.ep = some (Episode.join u.sys.ep src (reachOf src reach) b t.ts64) := by
  rw [resetAssert_asserts hsrc hs, U.showReset_sys, ← U.rstView_ep (u.rstView_sampled t src)]
  rfl

theorem Episode.join_none (src reach b ts : Nat) :
    Episode.join none src reach b ts = ⟨setBit 0 src, setBit 0 src, reach, if reach = 3 then [b] else [], 1, ts⟩ := by
  simp only [Episode.join, Option.getD_none, Nat.min_self, List.filter_nil, List.nil_append]

theorem Episode.join_some (e : Episode) (src reach b ts : Nat) : Episode.join (some e) src reach b ts =
    ⟨setBit e.srcs src, setBit e.now src, min e.reach reach, if reach = 3 then e.blocks.filter (· != b) ++ [b] else e.blocks, 1, e.ts⟩ := rfl

/-- A source of Cold or System reach resets PD1 to PD11. -/
theorem U.asserted_wide (u : U) (t : TimeBase) (b : Nat) (hr : reachOf src reach ≤ 1) : ∃ cold,
    (resetReach t (u.sampled t src) (reachOf src reach) b).2 = ((u.sampled t src).resetAll cold).holdBalls (u.sampled t src) := by
  have hc : reachOf src reach = 0 ∨ reachOf src reach = 1 := by omega
  rcases hc with hc | hc
  · rw [hc]
    exact ⟨true, rfl⟩
  · rw [hc]
    exact ⟨false, rfl⟩

theorem resetAssert_rd {f : Fld} (hf : f.Inner) (hsrc : src < 11) (hs : u.sys.stretch = false) (hr : reachOf src reach ≤ 1) :
    (resetAssert t u src reach b).2.rd f = f.reset % 2 ^ f.width := by
  obtain ⟨cold, hc⟩ := U.asserted_wide u t b hr
  rw [resetAssert_asserts hsrc hs, U.showReset_rd, U.asserted, U.rd_withSys, hc, U.holdBalls_rd, U.resetAll_rd hf]

/-- A source of Cold or System reach leaves the flash and the fuses. -/
theorem resetAssert_keeps (hsrc : src < 11) (hs : u.sys.stretch = false) (hr : reachOf src reach ≤ 1) :
    (resetAssert t u src reach b).2.flash = u.flash ∧ (resetAssert t u src reach b).2.sys.fuse = u.sys.fuse := by
  obtain ⟨cold, hc⟩ := U.asserted_wide u t b hr
  have hv : ((resetReach t (u.sampled t src) (reachOf src reach) b).2).resetView =
      ((u.sampled t src).sys.ep, (u.sampled t src).sys.fuse, (u.sampled t src).flash, [], U.zero.snp, .zero) := by
    rw [hc, U.resetView_holdBalls, U.resetView_resetAll]
  have hflash := congrArg (fun x => x.2.2.1) hv
  have hfuse := congrArg (fun x => x.2.1) hv
  have hshown := U.resetView_showReset (u.asserted t src reach b) (u.sampled t src)
  rw [resetAssert_asserts hsrc hs]
  refine ⟨?_, ?_⟩
  · exact (congrArg (fun x => x.2.2.1) hshown).trans (hflash.trans (U.rstView_flash (u.rstView_sampled t src)))
  · exact (congrArg (fun x => x.2.1) hshown).trans (hfuse.trans (U.rstView_fuse (u.rstView_sampled t src)))

end Assert

end Sys2Proof.Machine
end

section
/-! PROOFS. The reset of a hub (R516, R523, R542), the stages of the unit's episodes (R515), its fuse load (R523), the stretcher (R519). -/
namespace Sys2Proof.Machine

/-! ### A source of a hub (R516, R542) -/

section Hub
variable (w : H)

theorem H.showBalls_eq (before : H) : ∃ o, w.showBalls before = { w with out := o } := by
  unfold H.showBalls
  split
  · exact ⟨w.out, rfl⟩
  · exact ⟨_, rfl⟩

/-- What the pins show changes nothing else. -/
theorem H.showPins_eq (before : H) : ∃ o, w.showPins before = { w with out := o } := by
  have hl : ∃ o, w.showLanes before (List.range 132) = { w with out := o } := by
    unfold H.showLanes
    refine List.foldlRecOn (motive := fun v : H => ∃ o, v = { w with out := o }) _ _ ⟨w.out, rfl⟩ ?_
    rintro v ⟨o, rfl⟩ n -
    dsimp only
    split
    · exact ⟨o, rfl⟩
    · exact ⟨_, rfl⟩
  obtain ⟨o, ho⟩ := hl
  obtain ⟨p, hp⟩ := H.showBalls_eq ({ w with out := o } : H) before
  exact ⟨p, by rw [H.showPins, ho, hp]⟩

/-- A Cold reset of a hub forgets its orders, its loops and its lanes, and keeps its fuses. -/
theorem H.resetAll_clears : w.resetAll.orders = [] ∧ w.resetAll.loops = [] ∧ w.resetAll.lanes = [] ∧ w.resetAll.sys.shadow = false ∧
    w.resetAll.sys.owned = [] ∧ w.resetAll.sys.fuse = w.sys.fuse := by
  obtain ⟨o, h⟩ := H.showPins_eq ({ H.reset with
    regs := w.regs.filter (fun e => decide (0x40001000 * 32 ≤ e.1) && decide (e.1 < 0x400024D0 * 32)), out := w.out, free := w.free
    sys := { HubSys.zero with ep := w.sys.ep, fuse := w.sys.fuse, fails := if w.held then w.sys.fails else 0 } } : H) w
  rw [H.resetAll, h]
  exact ⟨rfl, rfl, rfl, rfl, rfl, rfl⟩

/-- The fuses, the orders, the loops and the time of a hub. -/
def H.coreView : Fuses × Tbl HeldOrder × Tbl HubLoop × Nat × Nat := (w.sys.fuse, w.orders, w.loops, w.dn, w.t)

theorem H.coreView_showBalls (before : H) : (w.showBalls before).coreView = w.coreView := by
  obtain ⟨o, ho⟩ := w.showBalls_eq before
  rw [ho]
  rfl

theorem H.coreView_showPins (before : H) : (w.showPins before).coreView = w.coreView := by
  obtain ⟨o, ho⟩ := w.showPins_eq before
  rw [ho]
  rfl

theorem H.coreView_resetBlock {i : Nat} (h2 : i ≠ 2) (h3 : i ≠ 3) : (w.resetBlock i).coreView = w.coreView := by
  have hfuse : ∀ (c : Bool) (v : H), v.coreView = w.coreView → H.coreView (if c then v.fuseFields else v) = w.coreView := by
    intro c v hv
    split
    · exact hv
    · exact hv
  match i with
  | 0 => exact (H.coreView_showBalls _ w).trans (hfuse _ _ rfl)
  | 1 => exact H.coreView_showPins _ w
  | 2 => exact absurd rfl h2
  | 3 => exact absurd rfl h3
  | n + 4 => rfl

theorem H.resetBlock_fuse (i : Nat) : (w.resetBlock i).sys.fuse = w.sys.fuse := by
  by_cases h2 : i = 2
  · rw [h2]
    rfl
  · by_cases h3 : i = 3
    · rw [h3]
      rfl
    · exact congrArg Prod.fst (w.coreView_resetBlock h2 h3)

/-- A Block reset of another block than HTW keeps the orders and the loops. -/
theorem H.resetBlock_orders {i : Nat} (h2 : i ≠ 2) : (w.resetBlock i).orders = w.orders ∧ (w.resetBlock i).loops = w.loops := by
  by_cases h3 : i = 3
  · rw [h3]
    exact ⟨rfl, rfl⟩
  · have h := w.coreView_resetBlock h2 h3
    exact ⟨congrArg (fun x => x.2.1) h, congrArg (fun x => x.2.2.1) h⟩

/-- A Block reset of another block than HDP keeps the departures. -/
theorem H.resetBlock_time {i : Nat} (h3 : i ≠ 3) : (w.resetBlock i).dn = w.dn ∧ (w.resetBlock i).t = w.t := by
  by_cases h2 : i = 2
  · rw [h2]
    exact ⟨rfl, rfl⟩
  · have h := w.coreView_resetBlock h2 h3
    exact ⟨congrArg (fun x => x.2.2.2.1) h, congrArg (fun x => x.2.2.2.2) h⟩

theorem H.resetAssert_ep (src reach b : Nat) :
    (w.resetAssert src reach b).sys.ep = some (Episode.join w.sys.ep src reach b 0) := rfl

theorem H.resetAssert_fuse (src reach b : Nat) : (w.resetAssert src reach b).sys.fuse = w.sys.fuse := by
  unfold H.resetAssert
  dsimp only [H.withSys]
  split
  · exact w.resetAll_clears.2.2.2.2.2
  · exact w.resetBlock_fuse b

theorem H.resetAssert_cold (src b : Nat) : (w.resetAssert src 0 b).orders = [] ∧ (w.resetAssert src 0 b).loops = [] ∧
    (w.resetAssert src 0 b).lanes = [] ∧ (w.resetAssert src 0 b).sys.shadow = false ∧ (w.resetAssert src 0 b).sys.owned = [] := by
  obtain ⟨horders, hloops, hlanes, hshadow, howned, -⟩ := w.resetAll_clears
  unfold H.resetAssert
  dsimp only [H.withSys]
  rw [if_pos rfl, hshadow]
  exact ⟨horders, hloops, hlanes, rfl, howned⟩

end Hub

/-! ### The stages of a hub and its fuse load (R515, R523, R542) -/

section HubStages
variable {w : H} {e : Episode} {ws : List Nat}

/-- No stage of a hub completes without an episode, under a source, or in stage FUSE. -/
theorem H.stageComplete_waits (h : w.sys.ep = none ∨ ∃ e, w.sys.ep = some e ∧ (e.now ≠ 0 ∨ e.stage = 3)) : w.stageComplete = w := by
  rcases h with h | ⟨e, h, hn | hs⟩
  · simp only [H.stageComplete, h]
  · simp only [H.stageComplete, h]
    exact if_pos hn
  · simp only [H.stageComplete, h, hs, ite_self]

theorem H.stageComplete_enters (h : w.sys.ep = some e) (hn : e.now = 0) (hs : e.stage = 1 ∨ e.stage = 4 ∨ e.stage = 5 ∧ e.reach = 0) :
    w.stageComplete = w.withSys (fun x => { x with
      ep := some { e with stage := if e.stage = 1 then (if e.reach = 0 then 3 else 4) else e.stage + 1 } }) := by
  obtain ⟨srcs, now, reach, blocks, stage, ts⟩ := e
  dsimp only at hn hs
  subst hn
  rcases hs with rfl | rfl | ⟨rfl, rfl⟩
  · simp only [H.stageComplete, h]
    rfl
  · simp only [H.stageComplete, h]
    rfl
  · simp only [H.stageComplete, h]
    rfl

theorem H.stageComplete_boots (h : w.sys.ep = some e) (hn : e.now = 0) (hs : e.stage = 6) :
    w.stageComplete = w.withSys (fun x => { x with ep := none }) := by
  simp only [H.stageComplete, h, hn, hs, ne_eq, not_true_eq_false, if_false]

/-- The blocks of a Block episode are reset as it ends. -/
theorem H.stageComplete_ends (h : w.sys.ep = some e) (hn : e.now = 0) (hs : e.stage = 5) (hr : e.reach ≠ 0) :
    w.stageComplete = (e.blocks.foldl (fun (w : H) i => w.resetBlock i) w).withSys (fun x => { x with ep := none }) := by
  simp only [H.stageComplete, h, hn, hs, hr, ne_eq, not_true_eq_false, if_false]

theorem H.fuseDone_passes (h : w.sys.ep = some e) (hs : e.stage = 3) (hn : e.now = 0) (hp : fusePass ws = true) : w.fuseDone ws =
    (((w.withSys (fun s => { s with words := ws, shadow := true })).fuseFields).showBalls w).enterStage e 4 := by
  have hw : ¬ (decide (e.stage ≠ 3) || decide (e.now ≠ 0)) = true := by simp [hs, hn]
  simp only [H.fuseDone, h]
  exact (if_neg hw).trans (if_pos hp)

theorem H.fuseDone_fails (h : w.sys.ep = some e) (hs : e.stage = 3) (hn : e.now = 0) (hp : fusePass ws = false) : w.fuseDone ws =
    if w.sys.fails + 1 < 3 then w.withSys (fun s => { s with words := ws, fails := s.fails + 1 })
    else (w.withSys (fun s => { s with words := ws, fails := s.fails + 1 })).enterStage e 4 := by
  have hw : ¬ (decide (e.stage ≠ 3) || decide (e.now ≠ 0)) = true := by simp [hs, hn]
  simp only [H.fuseDone, h]
  exact (if_neg hw).trans (if_neg (Bool.eq_false_iff.mp hp))

/-- A load that passes shows the fuses of HSY and leaves stage FUSE. -/
theorem H.fuseDone_shown (h : w.sys.ep = some e) (hs : e.stage = 3) (hn : e.now = 0) (hp : fusePass ws = true) :
    (w.fuseDone ws).sys.shadow = true ∧ (w.fuseDone ws).sys.ep = some { e with stage := 4 } ∧
      (w.fuseDone ws).rd R.HSY_ARB_ARB = w.sys.fuse.arb % 2 ^ R.HSY_ARB_ARB.width := by
  obtain ⟨o, ho⟩ := H.showBalls_eq (w.withSys (fun s => { s with words := ws, shadow := true })).fuseFields w
  rw [H.fuseDone_passes h hs hn hp, ho]
  refine ⟨rfl, rfl, ?_⟩
  exact (H.rd_wr_ne _ _ (by decide)).trans (H.rd_wr_same _ R.HSY_ARB_ARB w.sys.fuse.arb)

theorem H.fuseDone_retried (h : w.sys.ep = some e) (hs : e.stage = 3) (hn : e.now = 0) (hp : fusePass ws = false) :
    (w.fuseDone ws).sys.fails = w.sys.fails + 1 ∧
      (w.fuseDone ws).sys.ep = some (if w.sys.fails < 2 then e else { e with stage := 4 }) := by
  rw [H.fuseDone_fails h hs hn hp]
  by_cases hf : w.sys.fails < 2
  · rw [if_pos (by omega), if_pos hf]
    exact ⟨rfl, h⟩
  · rw [if_neg (by omega), if_neg hf]
    exact ⟨rfl, rfl⟩

theorem fusePass_iff (ws : List Nat) :
    fusePass ws = true ↔ ws.length = 256 ∧ ws.getD 255 0 = crc32c ((ws.take 255).flatMap (toBytes 4)) := by
  simp only [fusePass, Bool.and_eq_true, beq_iff_eq]

end HubStages

/-! ### The stages of the unit (R515, R516) and its fuse load (R523) -/

section Stages
variable {t : TimeBase} {u : U} {e : Episode} {k : Nat} {ws : List Nat}

theorem stageComplete_waits (h : u.sys.ep = none ∨ ∃ e, u.sys.ep = some e ∧ e.now ≠ 0) : stageComplete t u k = (t, u) := by
  rcases h with h | ⟨e, h, hn⟩
  · simp only [stageComplete, h]
  · simp only [stageComplete, h]
    exact if_pos (by simp [hn])

/-- What each stage that completes under no source begins; stage FUSE ends with its load. -/
theorem stageComplete_stages (h : u.sys.ep = some e) (hn : e.now = 0) (hs : u.sys.stretch = false) :
    (e.stage = 1 → stageComplete t u k = (t, u.enterStage e (if e.reach = 0 then (if bitAt e.srcs 0 then 2 else 3) else 4))) ∧
    (e.stage = 2 → stageComplete t u k =
      (TimeBase.start (if bits k 2 2 = 3 then 0 else bits k 2 2), (u.strapCapture t k).enterStage e 3)) ∧
    (e.stage = 3 → stageComplete t u k = (t, u)) ∧
    (e.stage = 4 → stageComplete t u k = (t, u.enterStage e 5)) ∧
    (e.stage = 5 → e.reach ≤ 1 → stageComplete t u k =
      (t, ((u.releaseDomains e.reach).emit (.resetOut false)).enterStage e 6)) ∧
    (e.stage = 5 → 1 < e.reach → stageComplete t u k = (t, ((u.releaseDomains e.reach).heldReset t e).endEpisode e)) ∧
    (e.stage = 6 → stageComplete t u k = boot t (u.endEpisode e)) := by
  have hw : ¬ (decide (e.now ≠ 0) || u.sys.stretch) = true := by simp [hn, hs]
  simp only [stageComplete, h]
  rw [if_neg hw]
  refine ⟨fun h1 => ?_, fun h2 => ?_, fun h3 => ?_, fun h4 => ?_, fun h5 hr => ?_, fun h5 hr => ?_, fun h6 => ?_⟩
  · simp only [h1, Episode.next]
  · simp only [h2]
  · simp only [h3]
  · simp only [h4]
  · simp only [h5, if_pos hr]
  · simp only [h5, if_neg (Nat.not_le.mpr hr)]
  · simp only [h6]

theorem U.fuseDone_waits (h : u.sys.ep = none ∨ ∃ e, u.sys.ep = some e ∧ (e.stage ≠ 3 ∨ e.now ≠ 0)) : u.fuseDone t ws = u := by
  rcases h with h | ⟨e, h, hn⟩
  · simp only [U.fuseDone, h]
  · simp only [U.fuseDone, h]
    exact if_pos (by simpa using hn)

/-- What a load in stage FUSE does under no source. -/
theorem U.fuseDone_runs (h : u.sys.ep = some e) (hs : e.stage = 3) (hn : e.now = 0) : u.fuseDone t ws =
    if fusePass ws then
      ((((((u.wr R.SYS_FUSE_STATE 1).wr R.SYS_FUSE_DEF_TRIM 0).wr R.SYS_FUSE_FUSE_FAIL 0).withSys
        (fun s => { s with words := ws, shadow := true })).fuseFields).showBalls u).enterStage e 4
    else if (((u.inc R.SYS_FUSE_FAILS).withSys (fun s => { s with words := ws })).raise t SYS.FUSE_RETRY []).rd R.SYS_FUSE_FAILS < 3 then
      ((u.inc R.SYS_FUSE_FAILS).withSys (fun s => { s with words := ws })).raise t SYS.FUSE_RETRY []
    else (((((u.inc R.SYS_FUSE_FAILS).withSys (fun s => { s with words := ws })).raise t SYS.FUSE_RETRY []).wr R.SYS_FUSE_FUSE_FAIL 1).wr
      R.SYS_FUSE_STATE 2).enterStage e 4 := by
  have hw : ¬ (decide (e.stage ≠ 3) || decide (e.now ≠ 0)) = true := by simp [hs, hn]
  simp only [U.fuseDone, h]
  exact if_neg hw

/-- The domains released are put out in their order. -/
theorem U.releaseDomains_out (u : U) : (u.releaseDomains 0).out = u.out ++ Domain.all.map (fun d => Output.released d) := by
  have hl : ∀ (l : List Domain) (v : U), (l.foldl (fun (v : U) d => v.emit (.released d)) v).out = v.out ++ l.map (fun d => Output.released d) := by
    intro l
    induction l with
    | nil => exact fun v => (List.append_nil _).symm
    | cons d l ih => exact fun v => (ih _).trans (List.append_assoc _ _ _)
  exact hl Domain.all u

end Stages

/-! ### The stretcher (R519) -/

section Stretcher
variable {t : TimeBase} {u : U}

/-- The unit as the stopped oscillator leaves it. -/
def U.oscStopped (u : U) : U :=
  ((((u.withSys (fun s => { s with ep := none })).resetAll true).withSys (fun s => { s with stretch := true })).holdBalls u).showReset u

theorem oscStopDetect_stops (h : u.sys.stretch = false) :
    oscStopDetect t u = (TimeBase.start (u.rd R.SYS_STRAP_CLK_MODE), u.oscStopped) := if_neg (Bool.eq_false_iff.mp h)

theorem U.resetView_oscStopped (u : U) : u.oscStopped.resetView = (none, u.sys.fuse, u.flash, [], U.zero.snp, .zero) := by
  have hr := U.resetView_resetAll (u.withSys (fun s => { s with ep := none })) true
  rw [U.oscStopped, U.resetView_showReset, U.resetView_holdBalls]
  exact hr

theorem U.oscStopped_calm (u : U) : u.oscStopped.Calm := by
  have h := u.resetView_oscStopped
  have hevq := congrArg (fun x => x.2.2.2.1) h
  have hsnp := congrArg (fun x => x.2.2.2.2.1) h
  have hsdl := congrArg (fun x => x.2.2.2.2.2) h
  exact ⟨hevq, congrArg Snp.fired hsnp, congrArg Sdl.cur hsdl, congrArg Sdl.tx hsdl⟩

theorem U.oscStopped_stretch (u : U) : u.oscStopped.sys.stretch = true := by
  rw [U.oscStopped, U.showReset_sys, U.holdBalls, U.showBalls_sys]
  rfl

theorem U.withLpe_sys_any (u : U) (f : Lpe → Lpe) : (u.withLpe f).sys = u.sys ∧ True := ⟨rfl, trivial⟩

theorem U.markEdge_sys (u : U) (t : TimeBase) : (u.markEdge t).sys = u.sys := (U.withLpe_sys_any u _).1

/-- A calm handshake that ends leaves what the SYS block holds beside its registers. -/
theorem U.finish_sys (t : TimeBase) (l : U) (h : u.Calm) : (u.finish t l).sys = u.sys := by
  obtain ⟨sl, n, hp⟩ := u.syncSending.syncBak.putLines_keeps
  rw [U.finish_calm t l h, U.markEdge_sys, hp]
  rfl

end Stretcher

end Sys2Proof.Machine
end

section
/-! PROOFS. The release of cores (R532): a write of SYS_CORE_REL releases the cores that it names, but not those of a domain that is off. -/
namespace Sys2Proof.Machine

/-! ### The switches of SYS_PWR beside a write of another register -/

/-- Every field of the map lies in the 32 bits of its register. -/
theorem unitMap_lo : unitMap.all (fun r => decide (r.f.lo < 32)) = true := by
  simp only [unitMap, List.all_append, Bool.and_eq_true]
  and_intros <;> decide

theorem fieldsAt_place {addr : Nat} {e : Fld × List (Nat × Nat)} (h : e ∈ fieldsAt unitMap 0 addr) : e.1.addr = addr ∧ e.1.lo < 32 := by
  obtain ⟨r, hr, rfl⟩ := List.mem_map.mp h
  have hlo : r.f.lo < 32 := of_decide_eq_true (List.all_eq_true.mp unitMap_lo r (List.mem_filter.mp hr).1)
  refine ⟨?_, hlo⟩
  dsimp only
  rw [Nat.zero_mul, Nat.add_zero, ite_self]

/-- A register reads as before where none of its fields is written. -/
theorem Regs.word_set {r : Regs} {f : Fld} (x : Nat) {fs : List (Fld × List (Nat × Nat))} (h : ∀ e ∈ fs, e.1.key ≠ f.key) :
    (r.set f x).word fs = r.word fs := by
  refine List.foldl_ext _ _ 0 (fun w e he => ?_)
  rw [Regs.get_set_ne _ _ (h e he)]

theorem U.domainOff_wr (u : U) {f : Fld} (x k : Nat) (h : f.addr ≠ 0x400000028) (hf : f.lo < 32) :
    (u.wr f x).domainOff k = u.domainOff k := by
  have hw : (u.wr f x).pwrMask = u.pwrMask := by
    refine Regs.word_set x (fun e he hk => ?_)
    obtain ⟨haddr, hlo⟩ := fieldsAt_place he
    simp only [Fld.key] at hk
    omega
  rw [U.domainOff, hw]
  rfl

/-! ### A write of SYS_CORE_REL (R532) -/

theorem bitAt_setBit_ne (v : Nat) {n k : Nat} (h : k ≠ n) : bitAt (setBit v n) k = bitAt v k := by
  by_cases hb : bitAt v n = true
  · rw [setBit, if_pos hb]
  · have hc : clrBit (setBit v n) n = v := by
      rw [clrBit, if_pos (bitAt_setBit_same v n), setBit, if_neg hb, Nat.add_sub_cancel]
    rw [← bitAt_clrBit_ne (setBit v n) h, hc]

section Release
variable {u : U} {v : Nat}

/-- A core released at an entry, unless the write leaves it out, it runs already, or its domain is off. -/
def U.releaseCore (v entry : Nat) (u : U) (c : Nat) : U :=
  if bitAt v c && !bitAt (u.rd R.SYS_CORE_REL_REL) c && !(c ≥ 8 && u.domainOff 0) then
    (u.wr R.SYS_CORE_REL_REL (setBit (u.rd R.SYS_CORE_REL_REL) c)).emit (.coreStart c entry)
  else u

theorem U.releaseCore_calm (entry c : Nat) (h : u.Calm) : (U.releaseCore v entry u c).Calm := by
  unfold U.releaseCore
  split
  · exact ⟨h.evq, h.shot, h.cur, h.tx⟩
  · exact h

theorem U.releaseCore_domainOff (u : U) (entry c : Nat) : (U.releaseCore v entry u c).domainOff 0 = u.domainOff 0 := by
  unfold U.releaseCore
  split
  · exact u.domainOff_wr (f := R.SYS_CORE_REL_REL) _ 0 (by decide) (by decide)
  · rfl

theorem U.releaseCore_bit (u : U) (entry : Nat) {c j : Nat} (hj : j < 16) :
    bitAt ((U.releaseCore v entry u c).rd R.SYS_CORE_REL_REL) j =
      (bitAt (u.rd R.SYS_CORE_REL_REL) j || (decide (j = c) && bitAt v j && !(decide (8 ≤ j) && u.domainOff 0))) := by
  unfold U.releaseCore
  split
  next hc =>
    obtain ⟨⟨hv, hr⟩, hd⟩ : (bitAt v c = true ∧ (!bitAt (u.rd R.SYS_CORE_REL_REL) c) = true) ∧ (!(decide (c ≥ 8) && u.domainOff 0)) = true := by
      simpa only [Bool.and_eq_true] using hc
    rw [U.rd_emit, U.rd_wr_same, bitAt_eq_testBit, Nat.testBit_mod_two_pow, decide_eq_true hj, Bool.true_and, ← bitAt_eq_testBit]
    by_cases he : j = c
    · subst he
      rw [bitAt_setBit_same, hv, decide_eq_true rfl, hd]
      simp only [Bool.and_self, Bool.or_true]
    · rw [bitAt_setBit_ne _ he, decide_eq_false he, Bool.false_and, Bool.false_and, Bool.or_false]
  next hc =>
    by_cases he : j = c
    · subst he
      cases hr : bitAt (u.rd R.SYS_CORE_REL_REL) j with
      | true => rfl
      | false =>
        rw [hr, Bool.not_false, Bool.and_true] at hc
        rw [decide_eq_true rfl, Bool.true_and, Bool.false_or]
        exact (Bool.eq_false_iff.mpr hc).symm
    · rw [decide_eq_false he, Bool.false_and, Bool.false_and, Bool.or_false]

/-- The bits of REL after the cores of a list. -/
theorem U.releaseCores_bit (entry : Nat) {j : Nat} (hj : j < 16) (l : List Nat) (u : U) :
    bitAt ((l.foldl (U.releaseCore v entry) u).rd R.SYS_CORE_REL_REL) j =
      (bitAt (u.rd R.SYS_CORE_REL_REL) j || (decide (j ∈ l) && bitAt v j && !(decide (8 ≤ j) && u.domainOff 0))) := by
  induction l generalizing u with
  | nil => simp only [List.foldl_nil, List.not_mem_nil, decide_false, Bool.false_and, Bool.or_false]
  | cons c l ih =>
    rw [List.foldl_cons, ih, U.releaseCore_bit u entry hj, U.releaseCore_domainOff]
    by_cases he : j = c
    · subst he
      simp only [List.mem_cons, true_or, decide_true, Bool.true_and, Bool.or_assoc, Bool.and_assoc]
      generalize (bitAt v j && !(decide (8 ≤ j) && u.domainOff 0)) = x
      cases x <;> simp only [Bool.and_true, Bool.and_false, Bool.or_false, Bool.true_or]
    · simp only [he, decide_false, Bool.false_and, Bool.or_false, List.mem_cons, false_or]

theorem U.coreRelease_eq (u : U) (v : Nat) : u.coreRelease v = (List.range 16).foldl
    (U.releaseCore v (u.rd R.SYS_CORE_ENTRY_L_ENTRY_LO * 4 + u.rd R.SYS_CORE_ENTRY_H_ENTRY_HI * 2 ^ 32)) u := rfl

theorem U.coreRelease_calm (h : u.Calm) : (u.coreRelease v).Calm := by
  rw [U.coreRelease_eq]
  exact List.foldlRecOn (motive := U.Calm) _ _ h (fun _ hw c _ => U.releaseCore_calm _ c hw)

theorem U.coreRelease_bit {j : Nat} (hj : j < 16) : bitAt ((u.coreRelease v).rd R.SYS_CORE_REL_REL) j =
    (bitAt (u.rd R.SYS_CORE_REL_REL) j || (bitAt v j && !(decide (8 ≤ j) && u.domainOff 0))) := by
  rw [U.coreRelease_eq, U.releaseCores_bit _ hj, decide_eq_true (List.mem_range.mpr hj), Bool.true_and]

theorem exec_coreRelease_runs {s : State} (hw : (Instr.coreRelease v).wf = true) (hh : s.u.held = false) :
    exec (.coreRelease v) s = .next (s.after (s.u.coreRelease v)) := by
  rw [exec_coreRelease, execCoreRelease, State.onUnit_whole (fun _ u => u.coreRelease v) hw rfl hh]

end Release

end Sys2Proof.Machine
end

section
/-! PROOFS. The commands of the reset controller (R513 to R527), and the obligation of resets. -/
namespace Sys2Proof.Machine

/-! ### Software, peer and watchdog resets (R526, R527) -/

section Requests
variable {t : TimeBase} {u : U} {key i : Nat}

theorem rstSystem_asks : rstSystem t u 0x5E7A = resetAssert t u 5 1 0 := if_pos rfl

theorem rstSystem_refused (h : key ≠ 0x5E7A) : rstSystem t u key = (t, u.raise t SYS.RST_REJ []) := if_neg h

theorem rstEngine_asks (h : u.on R.DEP_CTL_CONV_EN = false) : rstEngine t u 0x5E7A = resetAssert t u 5 2 0 := if_pos (by simp [h])

theorem rstEngine_refused (h : key ≠ 0x5E7A ∨ u.on R.DEP_CTL_CONV_EN = true) : rstEngine t u key = (t, u.raise t SYS.RST_REJ []) := by
  refine if_neg ?_
  rcases h with h | h <;> simp [h]

/-- The blocks of the map that a Block reset may name, under converter functions without the engines. -/
def U.blockAsked (u : U) (i : Nat) : Prop :=
  blockAt i = true ∧ i ∉ [0, 1, 48, 83, 84, 85] ∧ (u.on R.DEP_CTL_CONV_EN = false ∨ (i < 16 ∨ 43 < i) ∧ i ≠ 49)

theorem rstBlock_asks (h : u.blockAsked i) : rstBlock t u 0x5E7A i = resetAssert t u 5 3 i := by
  obtain ⟨hb, hf, hc⟩ := h
  have hfixed : (i == 0 || i == 1 || i == 48 || i == 83 || i == 84 || i == 85) = false := by simpa [and_assoc] using hf
  have heng : (((decide (16 ≤ i) && decide (i ≤ 43)) || i == 49) && u.on R.DEP_CTL_CONV_EN) = false := by
    rcases hc with hc | ⟨hi, h49⟩
    · rw [hc, Bool.and_false]
    · have hr : (decide (16 ≤ i) && decide (i ≤ 43)) = false := by
        rw [Bool.and_eq_false_iff, decide_eq_false_iff_not, decide_eq_false_iff_not]
        omega
      rw [hr, beq_eq_false_iff_ne.mpr h49, Bool.or_self, Bool.false_and]
  unfold rstBlock
  dsimp only
  rw [hfixed, heng]
  exact if_pos (by simp [hb])

theorem rstBlock_refused (h : key ≠ 0x5E7A ∨ blockAt i = false ∨ i ∈ [0, 1, 48, 83, 84, 85] ∨
    (u.on R.DEP_CTL_CONV_EN = true ∧ ((16 ≤ i ∧ i ≤ 43) ∨ i = 49))) : rstBlock t u key i = (t, u.raise t SYS.RST_REJ []) := by
  unfold rstBlock
  dsimp only
  refine if_neg ?_
  rcases h with h | h | h | ⟨hc, hr | rfl⟩
  · simp [h]
  · simp [h]
  · have hfixed : (i == 0 || i == 1 || i == 48 || i == 83 || i == 84 || i == 85) = true := by simpa [or_assoc] using h
    simp [hfixed]
  · simp [hc, hr.1, hr.2]
  · simp [hc]

theorem U.rstPeer_asks : u.rstPeer t 0x5E7A = u.sidingControl peerResetBlock := if_pos rfl

theorem U.rstPeer_refused (h : key ≠ 0x5E7A) : u.rstPeer t key = u.raise t SYS.RST_REJ [] := if_neg h

theorem peerResetRx_other {b : Block} (h : u.sidingUp = 0 ∨ b ≠ peerResetBlock) : peerResetRx t u b = (t, u) := if_pos (by simpa using h)

theorem peerResetRx_heard (h : u.sidingUp ≠ 0) : peerResetRx t u peerResetBlock =
    if u.on R.SYS_RST_CTL_PEER_RST_EN && u.role != 3 then resetAssert t u 4 1 0 else (t, u.raise t SYS.RST_REJ []) :=
  if_neg (by simp [h])

theorem U.wdogKick_keyed (u : U) : u.wdogKick 0xD0C5 = u.withSys (fun x => { x with missed := 0 }) := if_pos rfl

theorem U.wdogKick_other (h : key ≠ 0xD0C5) : u.wdogKick key = u := if_neg h

theorem wdogPeriodEnd_off (h : u.on R.SYS_WDOG_EN = false) : wdogPeriodEnd t u = (t, u) := if_pos (by simp [h])

/-- A period without a kick warns; the second one asserts WDOG. -/
theorem wdogPeriodEnd_on {v : U} (h : u.on R.SYS_WDOG_EN = true)
    (hv : v = (u.raise t SYS.WDOG_WARN []).withSys (fun x => { x with missed := x.missed + 1 })) :
    wdogPeriodEnd t u = if v.sys.missed ≥ 2 then resetAssert t v 3 0 0 else (t, v) := by
  subst hv
  exact if_neg (by simp [h])

end Requests

/-! ### The commands -/

section Commands
variable {s : State} {h : Nat}

theorem exec_resetAssert_unit {src reach b : Nat} (hw : (Instr.resetAssert .unit src reach b).wf = true) :
    exec (.resetAssert .unit src reach b) s =
      .next (s.afterAt (resetAssert s.time s.u src reach b).1 (resetAssert s.time s.u src reach b).2) := by
  rw [exec_resetAssert, execResetAssert]
  exact State.onReset_next (fun t u => resetAssert t u src reach b) hw

theorem exec_resetAssert_hub {src reach b : Nat} (hw : (Instr.resetAssert (.hub h) src reach b).wf = true) :
    exec (.resetAssert (.hub h) src reach b) s = .next (s.withHub h ((s.hub h).resetAssert src reach b)) := by
  rw [exec_resetAssert, execResetAssert]
  exact State.onHubReset_next h (fun _ w => w.resetAssert src reach b) hw

theorem exec_resetSourceRelease_unit {src : Nat} (hw : (Instr.resetSourceRelease .unit src).wf = true) :
    exec (.resetSourceRelease .unit src) s = .next (s.after (s.u.resetRelease src)) := by
  rw [exec_resetSourceRelease, execResetSourceRelease]
  exact State.onReset_next (fun t u => (t, u.resetRelease src)) hw

theorem exec_resetSourceRelease_hub {src : Nat} (hw : (Instr.resetSourceRelease (.hub h) src).wf = true) :
    exec (.resetSourceRelease (.hub h) src) s = .next (s.withHub h ((s.hub h).resetRelease src)) := by
  rw [exec_resetSourceRelease, execResetSourceRelease]
  exact State.onHubReset_next h (fun _ w => w.resetRelease src) hw

theorem exec_resetStageComplete_unit {k : Nat} (hw : (Instr.resetStageComplete .unit k).wf = true) :
    exec (.resetStageComplete .unit k) s = .next (s.afterAt (stageComplete s.time s.u k).1 (stageComplete s.time s.u k).2) := by
  rw [exec_resetStageComplete, execResetStageComplete]
  exact State.onReset_next (fun t u => stageComplete t u k) hw

theorem exec_resetStageComplete_hub {k : Nat} (hw : (Instr.resetStageComplete (.hub h) k).wf = true) :
    exec (.resetStageComplete (.hub h) k) s = .next (s.withHub h (s.hub h).stageComplete) := by
  rw [exec_resetStageComplete, execResetStageComplete]
  exact State.onHubReset_next h (fun _ w => w.stageComplete) hw

theorem exec_fuseLoadDone_unit {ws : List Nat} (hw : (Instr.fuseLoadDone .unit ws).wf = true) :
    exec (.fuseLoadDone .unit ws) s = .next (s.after (s.u.fuseDone s.time ws)) := by
  rw [exec_fuseLoadDone, execFuseLoadDone]
  exact State.onReset_next (fun t u => (t, u.fuseDone t ws)) hw

theorem exec_fuseLoadDone_hub {ws : List Nat} (hw : (Instr.fuseLoadDone (.hub h) ws).wf = true) :
    exec (.fuseLoadDone (.hub h) ws) s = .next (s.withHub h ((s.hub h).fuseDone ws)) := by
  rw [exec_fuseLoadDone, execFuseLoadDone]
  exact State.onHubReset_next h (fun _ w => w.fuseDone ws) hw

theorem exec_oscStopDetect_runs (s : State) :
    exec .oscStopDetect s = .next (s.afterAt (oscStopDetect s.time s.u).1 (oscStopDetect s.time s.u).2) := by
  rw [exec_oscStopDetect, execOscStopDetect]
  exact State.onReset_next (fun t u => oscStopDetect t u) rfl

theorem exec_stretchRelease_runs (s : State) :
    exec .stretchRelease s = .next (s.afterAt (stretchRelease s.time s.u).1 (stretchRelease s.time s.u).2) := by
  rw [exec_stretchRelease, execStretchRelease]
  exact State.onReset_next (fun t u => stretchRelease t u) rfl

/-- A command of the whole unit that the reset controller takes. -/
theorem State.onTime_whole {c : Instr} (f : TimeBase → U → TimeBase × U) (hw : c.wf = true) (hc : Instr.home c = none)
    (hh : s.u.held = false) : s.onTime c f = .next (s.afterAt (f s.time s.u).1 (f s.time s.u).2) :=
  State.onTime_next f hw ((U.deaf_whole hc).trans hh)

theorem exec_sysRstSystem_runs {key : Nat} (hw : (Instr.sysRstSystem key).wf = true) (hh : s.u.held = false) :
    exec (.sysRstSystem key) s = .next (s.afterAt (rstSystem s.time s.u key).1 (rstSystem s.time s.u key).2) :=
  State.onTime_whole (fun t u => rstSystem t u key) hw rfl hh

theorem exec_sysRstEngine_runs {key : Nat} (hw : (Instr.sysRstEngine key).wf = true) (hh : s.u.held = false) :
    exec (.sysRstEngine key) s = .next (s.afterAt (rstEngine s.time s.u key).1 (rstEngine s.time s.u key).2) :=
  State.onTime_whole (fun t u => rstEngine t u key) hw rfl hh

theorem exec_sysRstBlock_runs {key i : Nat} (hw : (Instr.sysRstBlock key i).wf = true) (hh : s.u.held = false) :
    exec (.sysRstBlock key i) s = .next (s.afterAt (rstBlock s.time s.u key i).1 (rstBlock s.time s.u key i).2) :=
  State.onTime_whole (fun t u => rstBlock t u key i) hw rfl hh

theorem exec_peerResetRx_runs {b : Block} (hw : (Instr.peerResetRx b).wf = true) (hh : s.u.held = false) :
    exec (.peerResetRx b) s = .next (s.afterAt (peerResetRx s.time s.u b).1 (peerResetRx s.time s.u b).2) :=
  State.onTime_whole (fun t u => peerResetRx t u b) hw rfl hh

theorem exec_wdogPeriodEnd_runs (hh : s.u.held = false) :
    exec .wdogPeriodEnd s = .next (s.afterAt (wdogPeriodEnd s.time s.u).1 (wdogPeriodEnd s.time s.u).2) :=
  State.onTime_whole (c := .wdogPeriodEnd) (fun t u => wdogPeriodEnd t u) rfl rfl hh

theorem exec_keyStoreViolation_runs (hh : s.u.held = false) :
    exec .keyStoreViolation s = .next (s.afterAt (resetAssert s.time s.u 7 0 0).1 (resetAssert s.time s.u 7 0 0).2) :=
  State.onTime_whole (c := .keyStoreViolation) (fun t u => keyStoreViolation t u) rfl rfl hh

theorem exec_sysRstPeer_runs {key : Nat} (hw : (Instr.sysRstPeer key).wf = true) (hh : s.u.held = false) :
    exec (.sysRstPeer key) s = .next (s.after (s.u.rstPeer s.time key)) :=
  State.onUnit_whole (fun t u => u.rstPeer t key) hw rfl hh

theorem exec_wdogEnable_runs (hh : s.u.held = false) : exec .wdogEnable s = .next (s.after s.u.wdogEnable) :=
  State.onUnit_whole (c := .wdogEnable) (fun _ u => u.wdogEnable) rfl rfl hh

theorem exec_wdogKick_runs {key : Nat} (hw : (Instr.wdogKick key).wf = true) (hh : s.u.held = false) :
    exec (.wdogKick key) s = .next (s.after (s.u.wdogKick key)) :=
  State.onUnit_whole (fun _ u => u.wdogKick key) hw rfl hh

/-- The state that the stopped oscillator leaves: held by the stretcher, without an episode (R519). -/
theorem exec_oscStopDetect_stretches (hs : s.u.sys.stretch = false) : ∃ t, exec .oscStopDetect s = .next t ∧ t.u.sys.ep = none ∧
    t.u.sys.stretch = true ∧ t.u.held = true ∧ t.u.flash = s.u.flash ∧ t.hubs = s.hubs ∧ t.cells = s.cells ∧ t.pending = s.pending := by
  have hr := exec_oscStopDetect_runs s
  rw [oscStopDetect_stops hs] at hr
  refine ⟨_, hr, ?_⟩
  have hcalm := s.u.oscStopped_calm
  have hview := s.u.resetView_oscStopped
  have hsys : ∀ t l, (s.u.oscStopped.finish t l).sys = s.u.oscStopped.sys := fun t l => U.finish_sys t l hcalm
  have hstretch : ∀ t l, (s.u.oscStopped.finish t l).sys.stretch = true := fun t l => (congrArg Sys.stretch (hsys t l)).trans s.u.oscStopped_stretch
  refine ⟨?_, hstretch _ _, ?_, ?_, rfl, rfl, rfl⟩
  · exact (congrArg Sys.ep (hsys _ _)).trans (congrArg Prod.fst hview)
  · exact (congrArg (· || _) (hstretch _ _)).trans (Bool.true_or _)
  · exact (U.finish_flash _ _ hcalm).trans (congrArg (fun x => x.2.2.1) hview)

end Commands

end Sys2Proof.Machine
end

section
/-! PROOFS. The obligation of resets, its clauses grouped by the command that they speak of (R513 to R532). -/
namespace Sys2Proof.Machine

section Clauses
variable {s : State}

/-- What a source of a hub does to it. -/
theorem H.resetAssert_complete (w : H) (src reach b : Nat) :
    (w.sys.ep = none → (w.resetAssert src reach b).sys.ep =
      some ⟨setBit 0 src, setBit 0 src, reach, if reach = 3 then [b] else [], 1, 0⟩) ∧
    (∀ e, w.sys.ep = some e → (w.resetAssert src reach b).sys.ep = some ⟨setBit e.srcs src, setBit e.now src, min e.reach reach,
      if reach = 3 then e.blocks.filter (· != b) ++ [b] else e.blocks, 1, e.ts⟩) ∧
    (w.resetAssert src reach b).sys.fuse = w.sys.fuse ∧
    (reach = 0 → (w.resetAssert src 0 b).orders = [] ∧ (w.resetAssert src 0 b).loops = [] ∧ (w.resetAssert src 0 b).lanes = [] ∧
      (w.resetAssert src 0 b).sys.shadow = false ∧ (w.resetAssert src 0 b).sys.owned = []) ∧
    (reach = 3 → b ≠ 2 → (w.resetAssert src 3 b).orders = w.orders ∧ (w.resetAssert src 3 b).loops = w.loops) ∧
    (reach = 3 → b ≠ 3 → (w.resetAssert src 3 b).dn = w.dn ∧ (w.resetAssert src 3 b).t = w.t) := by
  refine ⟨fun h => ?_, fun e h => ?_, w.resetAssert_fuse src reach b, fun _ => w.resetAssert_cold src b, fun _ h => w.resetBlock_orders h,
    fun _ h => w.resetBlock_time h⟩
  · rw [H.resetAssert_ep, h, Episode.join_none]
  · rw [H.resetAssert_ep, h, Episode.join_some]

/-- The stages of a hub. -/
theorem exec_resetStageComplete_hubStages {h k : Nat} (hw : (Instr.resetStageComplete (.hub h) k).wf = true) :
    ((s.hub h).sys.ep = none ∨ (∃ e, (s.hub h).sys.ep = some e ∧ (e.now ≠ 0 ∨ e.stage = 3)) →
      exec (.resetStageComplete (.hub h) k) s = .next (s.withHub h (s.hub h))) ∧
    (∀ e, (s.hub h).sys.ep = some e → e.now = 0 →
      (e.stage = 1 ∨ e.stage = 4 ∨ (e.stage = 5 ∧ e.reach = 0) → exec (.resetStageComplete (.hub h) k) s = .next (s.withHub h
        ((s.hub h).withSys (fun x => { x with
          ep := some { e with stage := if e.stage = 1 then (if e.reach = 0 then 3 else 4) else e.stage + 1 } })))) ∧
      (e.stage = 6 → exec (.resetStageComplete (.hub h) k) s = .next (s.withHub h ((s.hub h).withSys (fun x => { x with ep := none })))) ∧
      (e.stage = 5 → e.reach ≠ 0 → exec (.resetStageComplete (.hub h) k) s = .next (s.withHub h
        ((e.blocks.foldl (fun (w : H) i => w.resetBlock i) (s.hub h)).withSys (fun x => { x with ep := none }))))) := by
  rw [exec_resetStageComplete_hub hw]
  refine ⟨fun h => ?_, fun e he hn => ⟨fun hs => ?_, fun hs => ?_, fun hs hr => ?_⟩⟩
  · rw [H.stageComplete_waits h]
  · rw [H.stageComplete_enters he hn hs]
  · rw [H.stageComplete_boots he hn hs]
  · rw [H.stageComplete_ends he hn hs hr]

/-- The stages of the unit. -/
theorem exec_resetStageComplete_unitStages {k : Nat} {e : Episode} (hw : (Instr.resetStageComplete .unit k).wf = true)
    (he : s.u.sys.ep = some e) (hn : e.now = 0) (hs : s.u.sys.stretch = false) :
    (e.stage = 1 → exec (.resetStageComplete .unit k) s = .next (s.after (s.u.withSys (fun x => { x with
      ep := some { e with stage := if e.reach = 0 then (if bitAt e.srcs 0 then 2 else 3) else 4 } })))) ∧
    (e.stage = 2 → exec (.resetStageComplete .unit k) s = .next (s.afterAt (TimeBase.start (if bits k 2 2 = 3 then 0 else bits k 2 2))
      ((s.u.strapCapture s.time k).enterStage e 3))) ∧
    (e.stage = 3 → exec (.resetStageComplete .unit k) s = .next (s.after s.u)) ∧
    (e.stage = 4 → exec (.resetStageComplete .unit k) s = .next (s.after (s.u.enterStage e 5))) ∧
    (e.stage = 5 → e.reach ≤ 1 → exec (.resetStageComplete .unit k) s = .next (s.after
      (((s.u.releaseDomains e.reach).emit (.resetOut false)).enterStage e 6))) ∧
    (e.stage = 5 → 1 < e.reach → exec (.resetStageComplete .unit k) s = .next (s.after
      (((s.u.releaseDomains e.reach).heldReset s.time e).endEpisode e))) ∧
    (e.stage = 6 → exec (.resetStageComplete .unit k) s =
      .next (s.afterAt (boot s.time (s.u.endEpisode e)).1 (boot s.time (s.u.endEpisode e)).2)) := by
  obtain ⟨h1, h2, h3, h4, h5, h5', h6⟩ := stageComplete_stages (t := s.time) (k := k) he hn hs
  rw [exec_resetStageComplete_unit hw]
  refine ⟨fun h => ?_, fun h => ?_, fun h => ?_, fun h => ?_, fun h hr => ?_, fun h hr => ?_, fun h => ?_⟩
  · rw [h1 h]
    rfl
  · rw [h2 h]
  · rw [h3 h]
    rfl
  · rw [h4 h]
    rfl
  · rw [h5 h hr]
    rfl
  · rw [h5' h hr]
    rfl
  · rw [h6 h]

/-- A load in stage FUSE of the unit. -/
theorem exec_fuseLoadDone_passes {ws : List Nat} {e : Episode} {v : U} (hw : (Instr.fuseLoadDone .unit ws).wf = true)
    (he : s.u.sys.ep = some e) (hs : e.stage = 3) (hn : e.now = 0) (hp : fusePass ws = true)
    (hv : v = (((s.u.wr R.SYS_FUSE_STATE 1).wr R.SYS_FUSE_DEF_TRIM 0).wr R.SYS_FUSE_FUSE_FAIL 0).withSys
      (fun x => { x with words := ws, shadow := true })) :
    exec (.fuseLoadDone .unit ws) s = .next (s.after ((v.fuseFields.showBalls s.u).enterStage e 4)) := by
  rw [exec_fuseLoadDone_unit hw, U.fuseDone_runs he hs hn, if_pos hp, hv]

theorem exec_fuseLoadDone_fails {ws : List Nat} {e : Episode} {v : U} (hw : (Instr.fuseLoadDone .unit ws).wf = true)
    (he : s.u.sys.ep = some e) (hs : e.stage = 3) (hn : e.now = 0) (hp : fusePass ws = false)
    (hv : v = ((s.u.inc R.SYS_FUSE_FAILS).withSys (fun x => { x with words := ws })).raise s.time SYS.FUSE_RETRY []) :
    (v.rd R.SYS_FUSE_FAILS < 3 → exec (.fuseLoadDone .unit ws) s = .next (s.after v)) ∧
    (3 ≤ v.rd R.SYS_FUSE_FAILS → exec (.fuseLoadDone .unit ws) s = .next (s.after
      (((v.wr R.SYS_FUSE_FUSE_FAIL 1).wr R.SYS_FUSE_STATE 2).enterStage e 4))) := by
  rw [exec_fuseLoadDone_unit hw, U.fuseDone_runs he hs hn, if_neg (Bool.eq_false_iff.mp hp), ← hv]
  exact ⟨fun h => by rw [if_pos h], fun h => by rw [if_neg (Nat.not_lt.mpr h)]⟩

/-- The watchdog's period. -/
theorem exec_wdogPeriodEnd_answers {v : U} (hh : s.u.held = false)
    (hv : v = (s.u.raise s.time SYS.WDOG_WARN []).withSys (fun x => { x with missed := x.missed + 1 })) :
    (s.u.on R.SYS_WDOG_EN = false → exec .wdogPeriodEnd s = .next (s.after s.u)) ∧
    (s.u.on R.SYS_WDOG_EN = true → v.sys.missed < 2 → exec .wdogPeriodEnd s = .next (s.after v)) ∧
    (s.u.on R.SYS_WDOG_EN = true → 2 ≤ v.sys.missed → exec .wdogPeriodEnd s =
      .next (s.afterAt (resetAssert s.time v 3 0 0).1 (resetAssert s.time v 3 0 0).2)) := by
  rw [exec_wdogPeriodEnd_runs hh]
  refine ⟨fun h => ?_, fun h hm => ?_, fun h hm => ?_⟩
  · rw [wdogPeriodEnd_off h]
    rfl
  · rw [wdogPeriodEnd_on h hv, if_neg (Nat.not_le.mpr hm)]
    rfl
  · rw [wdogPeriodEnd_on h hv, if_pos hm]

/-- A Block reset asked for by software. -/
theorem exec_sysRstBlock_answers {key i : Nat} (hw : (Instr.sysRstBlock key i).wf = true) (hh : s.u.held = false) :
    (key = 0x5E7A → blockAt i = true → i ∉ [0, 1, 48, 83, 84, 85] →
      s.u.on R.DEP_CTL_CONV_EN = false ∨ (i < 16 ∨ 43 < i) ∧ i ≠ 49 → exec (.sysRstBlock key i) s =
      .next (s.afterAt (resetAssert s.time s.u 5 3 i).1 (resetAssert s.time s.u 5 3 i).2)) ∧
    (key ≠ 0x5E7A ∨ blockAt i = false ∨ i ∈ [0, 1, 48, 83, 84, 85] ∨
      (s.u.on R.DEP_CTL_CONV_EN = true ∧ ((16 ≤ i ∧ i ≤ 43) ∨ i = 49)) → exec (.sysRstBlock key i) s =
      .next (s.after (s.u.raise s.time SYS.RST_REJ []))) := by
  rw [exec_sysRstBlock_runs hw hh]
  refine ⟨fun hk hb hf hc => ?_, fun h => ?_⟩
  · rw [hk, rstBlock_asks ⟨hb, hf, hc⟩]
  · rw [rstBlock_refused h]
    rfl

/-- A System or Engine reset asked for by software. -/
theorem exec_sysRstSystem_answers {key : Nat} (hw : (Instr.sysRstSystem key).wf = true) (hh : s.u.held = false) :
    (key = 0x5E7A → exec (.sysRstSystem key) s = .next (s.afterAt (resetAssert s.time s.u 5 1 0).1 (resetAssert s.time s.u 5 1 0).2)) ∧
    (key ≠ 0x5E7A → exec (.sysRstSystem key) s = .next (s.after (s.u.raise s.time SYS.RST_REJ []))) := by
  rw [exec_sysRstSystem_runs hw hh]
  refine ⟨fun h => ?_, fun h => ?_⟩
  · rw [h, rstSystem_asks]
  · rw [rstSystem_refused h]
    rfl

theorem exec_sysRstEngine_answers {key : Nat} (hw : (Instr.sysRstEngine key).wf = true) (hh : s.u.held = false) :
    (key = 0x5E7A → s.u.on R.DEP_CTL_CONV_EN = false → exec (.sysRstEngine key) s =
      .next (s.afterAt (resetAssert s.time s.u 5 2 0).1 (resetAssert s.time s.u 5 2 0).2)) ∧
    (key ≠ 0x5E7A ∨ s.u.on R.DEP_CTL_CONV_EN = true →
      exec (.sysRstEngine key) s = .next (s.after (s.u.raise s.time SYS.RST_REJ []))) := by
  rw [exec_sysRstEngine_runs hw hh]
  refine ⟨fun h hc => ?_, fun h => ?_⟩
  · rw [h, rstEngine_asks hc]
  · rw [rstEngine_refused h]
    rfl

/-- PEER_RESET asked for, and received. -/
theorem exec_sysRstPeer_answers {key : Nat} (hw : (Instr.sysRstPeer key).wf = true) (hh : s.u.held = false) :
    (key = 0x5E7A → exec (.sysRstPeer key) s = .next (s.after (s.u.sidingControl peerResetBlock))) ∧
    (key = 0x5E7A → s.u.sidingUp = 0 → exec (.sysRstPeer key) s = .next (s.after s.u)) ∧
    (key ≠ 0x5E7A → exec (.sysRstPeer key) s = .next (s.after (s.u.raise s.time SYS.RST_REJ []))) := by
  rw [exec_sysRstPeer_runs hw hh]
  refine ⟨fun h => ?_, fun h hs => ?_, fun h => ?_⟩
  · rw [h, U.rstPeer_asks]
  · rw [h, U.rstPeer_asks, U.sidingControl_shut (.inl hs)]
  · rw [U.rstPeer_refused h]

theorem exec_peerResetRx_answers (hh : s.u.held = false) (hs : s.u.sidingUp ≠ 0) :
    (s.u.on R.SYS_RST_CTL_PEER_RST_EN = true → s.u.role ≠ 3 → exec (.peerResetRx peerResetBlock) s =
      .next (s.afterAt (resetAssert s.time s.u 4 1 0).1 (resetAssert s.time s.u 4 1 0).2)) ∧
    (s.u.on R.SYS_RST_CTL_PEER_RST_EN = false ∨ s.u.role = 3 →
      exec (.peerResetRx peerResetBlock) s = .next (s.after (s.u.raise s.time SYS.RST_REJ []))) := by
  rw [exec_peerResetRx_runs (by decide) hh, peerResetRx_heard hs]
  refine ⟨fun h hr => ?_, fun h => ?_⟩
  · rw [if_pos (by simp [h, hr])]
  · rw [if_neg (by rcases h with h | h <;> simp [h])]
    rfl

/-- The watchdog started and kicked. -/
theorem exec_wdogEnable_answers (hh : s.u.held = false) :
    (s.u.on R.SYS_WDOG_EN = false →
      exec .wdogEnable s = .next (s.after ((s.u.wr R.SYS_WDOG_EN 1).withSys (fun x => { x with missed := 0 })))) ∧
    (s.u.on R.SYS_WDOG_EN = true → exec .wdogEnable s = .next (s.after s.u)) := by
  rw [exec_wdogEnable_runs hh, U.wdogEnable]
  exact ⟨fun h => by rw [if_neg (Bool.eq_false_iff.mp h)], fun h => by rw [if_pos h]⟩

theorem exec_wdogKick_answers {key : Nat} (hw : (Instr.wdogKick key).wf = true) (hh : s.u.held = false) :
    (key = 0xD0C5 → exec (.wdogKick key) s = .next (s.after (s.u.withSys (fun x => { x with missed := 0 })))) ∧
    (key ≠ 0xD0C5 → exec (.wdogKick key) s = .next (s.after s.u)) := by
  rw [exec_wdogKick_runs hw hh]
  exact ⟨fun h => by rw [h, U.wdogKick_keyed], fun h => by rw [U.wdogKick_other h]⟩

end Clauses

/-- Every field of the blocks DEP to SBX that the obligation speaks of is at 0 after a source of Cold or System reach. -/
theorem resetAssert_safe {t : TimeBase} {u : U} {src reach : Nat} (b : Nat) (hsrc : src < 11) (hs : u.sys.stretch = false)
    (hr : reachOf src reach ≤ 1) : (resetAssert t u src reach b).2.rd R.DEP_CTL_CONV_EN = 0 ∧
      (resetAssert t u src reach b).2.rd R.SBX_PERM_LS = 0 ∧ (resetAssert t u src reach b).2.rd R.SDL_ROLE_ROLE = 0 ∧
      (resetAssert t u src reach b).2.flash = u.flash ∧ (resetAssert t u src reach b).2.sys.fuse = u.sys.fuse := by
  have hconv : Fld.Inner R.DEP_CTL_CONV_EN := ⟨by decide, by decide, by decide, by decide⟩
  have hperm : Fld.Inner R.SBX_PERM_LS := ⟨by decide, by decide, by decide, by decide⟩
  have hrole : Fld.Inner R.SDL_ROLE_ROLE := ⟨by decide, by decide, by decide, by decide⟩
  obtain ⟨hflash, hfuse⟩ := resetAssert_keeps (t := t) (b := b) hsrc hs hr
  exact ⟨resetAssert_rd hconv hsrc hs hr, resetAssert_rd hperm hsrc hs hr, resetAssert_rd hrole hsrc hs hr, hflash, hfuse⟩

/-- Settles O33: the sources, the stages, the fuse load, the stretcher, the requests of software and of the peer, the watchdog, the cores. -/
theorem resetCommandsComplete : Obligations.ResetCommandsComplete := by
  unfold Obligations.ResetCommandsComplete
  refine ⟨fun s src reach b hw => exec_resetAssert_unit hw, fun s h src reach b hw => exec_resetAssert_hub hw, H.resetAssert_complete,
    fun t u src reach b hsrc hs he => ?_, fun t u src reach b e hsrc hs he => ?_, fun t u src reach b hs => resetAssert_stretched hs,
    fun t u src reach b => resetAssert_safe b, fun s src hw => exec_resetSourceRelease_unit hw,
    fun s h src hw => exec_resetSourceRelease_hub hw, fun s k hw h => ?_, fun s h k hw => exec_resetStageComplete_hubStages hw,
    fun s k e => exec_resetStageComplete_unitStages, U.releaseDomains_out, fun u e => ⟨rfl, rfl, rfl⟩, fun s ws hw h => ?_, fusePass_iff,
    fun s ws e v => exec_fuseLoadDone_passes, fun s ws e v => exec_fuseLoadDone_fails, fun s h ws hw => exec_fuseLoadDone_hub hw,
    fun w ws e he hs hn => ⟨H.fuseDone_shown he hs hn, H.fuseDone_retried he hs hn⟩, fun s hs => exec_oscStopDetect_stretches hs,
    fun s hs => ⟨?_, ?_⟩, fun s hs => ?_, fun s key => exec_sysRstSystem_answers, fun s key => exec_sysRstEngine_answers,
    fun s key i => exec_sysRstBlock_answers, fun s key => exec_sysRstPeer_answers, fun s b hw hh h => ?_,
    fun s hh hs => exec_peerResetRx_answers hh hs, fun s hh => exec_wdogEnable_answers hh, fun s key => exec_wdogKick_answers,
    fun s v => exec_wdogPeriodEnd_answers, fun s v hw hh hc => ⟨_, exec_coreRelease_runs hw hh, fun c hlt => ?_⟩,
    fun s hh => exec_keyStoreViolation_runs hh⟩
  case refine_1 => rw [resetAssert_ep hsrc hs, he, Episode.join_none]
  case refine_2 => rw [resetAssert_ep hsrc hs, he, Episode.join_some]
  case refine_3 =>
    rw [exec_resetStageComplete_unit hw, stageComplete_waits h]
    rfl
  case refine_4 => rw [exec_fuseLoadDone_unit hw, U.fuseDone_waits h]
  case refine_5 =>
    rw [exec_oscStopDetect_runs, oscStopDetect, if_pos hs]
    rfl
  case refine_6 =>
    rw [exec_stretchRelease_runs, stretchRelease, if_neg (by simp [hs])]
    rfl
  case refine_7 =>
    rw [exec_stretchRelease_runs, stretchRelease, if_pos (by simp [hs])]
    rfl
  case refine_8 =>
    rw [exec_peerResetRx_runs hw hh, peerResetRx_other h]
    rfl
  case refine_9 =>
    rw [State.after_u, U.finish_rd _ _ (U.coreRelease_calm hc) (by decide), U.coreRelease_bit hlt]

end Sys2Proof.Machine
end

section
/-! PROOFS. What every step keeps: station time within its formats (R31), no event in flight (R426), SENDING (R501) and the reset registers
(R548) as the unit and BAK give them. -/
namespace Sys2Proof.Machine

/-! ### What the end of a handshake shows -/

/-- SENDING depends on fields that neither it nor the registers of BAK are among (R501). -/
theorem U.sending_of_rd {u v : U} (h : ∀ f : Fld, f.key ∉ shownKeys → v.rd f = u.rd f) : v.sending = u.sending := by
  unfold U.sending
  simp only [U.on_eq]
  rw [h R.SDL_ROLE_PEER_VALID (by decide), h R.SDL_ROLE_PEER_ROLE (by decide), h R.SDL_ROLE_ROLE (by decide),
    h R.SDL_CTL_SOLO (by decide)]

theorem U.syncBak_rd_sending (u : U) : u.syncBak.rd R.SDL_ROLE_SENDING = u.rd R.SDL_ROLE_SENDING := by
  simp only [U.syncBak, U.put_eq]
  iterate 14 rw [U.rd_wr_ne _ _ (by decide)]

theorem U.syncBak_showsBak (u : U) : u.syncBak.ShowsBak := by
  unfold U.ShowsBak
  simp only [U.syncBak, U.put_eq, U.wr_sys]
  constructor
  · iterate 11 rw [U.rd_wr_ne _ _ (by decide)]
    exact U.rd_wr_same _ _ _
  · iterate 13 rw [U.rd_wr_ne _ _ (by decide)]
    exact U.rd_wr_same _ _ _

theorem U.syncs_showsSending (u : U) : u.syncSending.syncBak.ShowsSending := by
  have hs : u.syncSending.syncBak.sending = u.sending :=
    U.sending_of_rd (fun f hf => (U.syncBak_rd _ hf).trans (U.syncSending_rd _ hf))
  unfold U.ShowsSending
  rw [hs, U.syncBak_rd_sending, U.syncSending_eq, U.rd_wr_same]
  exact b2n_mod _

/-- Registers and the state of the reset controller alone say what SENDING and the reset registers show. -/
theorem U.shows_congr {u v : U} (hr : v.regs = u.regs) (hs : v.sys = u.sys) (h : u.ShowsSending ∧ u.ShowsBak) :
    v.ShowsSending ∧ v.ShowsBak := by
  have hf : ∀ f, v.rd f = u.rd f := fun f => congrArg (fun r => Regs.get r f) hr
  have hse : v.sending = u.sending := U.sending_of_rd (fun f _ => hf f)
  unfold U.ShowsSending U.ShowsBak at *
  rw [hf, hf, hf, hs, hse]
  exact h

theorem U.putLines_sys (u : U) : u.putLines.sys = u.sys := by
  obtain ⟨l, n, h⟩ := u.putLines_keeps
  rw [h]

/-- What the end of a handshake leaves of a unit: no event in flight, the role and BAK as their registers show them. -/
def U.Shown (u : U) : Prop := u.evq = [] ∧ u.ShowsSending ∧ u.ShowsBak

theorem U.shown_finish (u l : U) (t : TimeBase) : (u.finish t l).Shown := by
  refine ⟨U.finish_evq u l t, ?_⟩
  unfold U.finish
  exact U.shows_congr (by rw [U.markEdge_regs, U.putLines_regs]) (by rw [U.markEdge_sys, U.putLines_sys])
    ⟨U.syncs_showsSending _, U.syncBak_showsBak _⟩

theorem U.shown_markEdge {u : U} (t : TimeBase) (h : u.Shown) : (u.markEdge t).Shown :=
  ⟨(U.markEdge_evq u t).trans h.1, U.shows_congr (U.markEdge_regs u t) (U.markEdge_sys u t) h.2⟩

theorem U.shown_pass {u : U} (old new : TimeBase) (h : u.Shown) : (u.pass old new).Shown := by
  unfold U.pass
  split
  · exact U.shown_finish _ _ _
  · split
    · exact U.shown_finish _ _ _
    · exact h

/-- A settled state holds a unit as a handshake leaves it. -/
theorem State.settled_iff (s : State) : s.Settled ↔ s.time.Fits ∧ s.u.Shown := Iff.rfl

/-! ### Station time within its formats (R31) -/

theorem TimeBase.fits_start (mode : Nat) : (TimeBase.start mode).Fits := by
  refine ⟨?_, ?_, ?_⟩ <;> exact Nat.zero_lt_of_lt (Nat.lt_add_one _)

theorem TimeBase.fits_place (t : TimeBase) (x : Nat) : (t.place x).Fits := by
  unfold TimeBase.Fits
  rw [TimeBase.place_sec, TimeBase.place_ns, TimeBase.place_frac]
  exact ⟨Nat.mod_lt _ (by decide), Nat.mod_lt _ (by decide), Nat.mod_lt _ (by decide)⟩

theorem TimeBase.fits_tick (t : TimeBase) (mode : Nat) : (t.tick mode).Fits := TimeBase.fits_place t _

/-- An operation of the unit that keeps station time within its formats. -/
def KeepsFits (f : TimeBase → U → TimeBase × U) : Prop := ∀ t u, t.Fits → (f t u).1.Fits

/-- An operation that leaves station time keeps its formats. -/
theorem keepsFits_still (f : TimeBase → U → U) : KeepsFits (fun t u => (t, f t u)) := fun _ _ h => h

theorem keepsFits_incIntWrite (v : Nat) : KeepsFits (fun t u => incIntWrite t u v) := by
  intro t u h
  dsimp only [incIntWrite]
  split
  · exact h
  · exact h

theorem keepsFits_setLoad (v : Nat) : KeepsFits (fun t u => setLoad t u v) := by
  intro t u h
  dsimp only [setLoad]
  split
  · exact h
  · rename_i hc
    simp only [Bool.or_eq_true, decide_eq_true_eq, not_or, not_le] at hc
    have hlo := U.rd_lt u R.TIM_SET_SECL_SEC_LO
    have hhi := U.rd_lt u R.TIM_SET_SECH_SEC_HI
    exact ⟨by dsimp only at hlo hhi ⊢; omega, hc.2, Nat.two_pow_pos 32⟩

theorem keepsFits_stepApply : KeepsFits stepApply := by
  intro t u h
  unfold stepApply
  split
  · exact h
  · rename_i d _
    dsimp only
    split
    · exact h
    · split
      · exact h
      · split
        · exact t.fits_place _
        · exact t.fits_place _

/-- Station time with the boundary of a count of µs emitted (R39). -/
def TimeBase.boundaryAt (t : TimeBase) (us : Nat) : TimeBase := { t with lastUs := us }

theorem TimeBase.fits_boundaryAt {t : TimeBase} (us : Nat) (h : t.Fits) : (t.boundaryAt us).Fits := h

/-! ### Resets and boots start station time anew or leave it (R35, R514) -/

theorem fits_resetReach {t : TimeBase} (u : U) (reach block : Nat) (h : t.Fits) : (resetReach t u reach block).1.Fits := by
  unfold resetReach
  split
  · exact TimeBase.fits_start _
  · exact TimeBase.fits_start _
  · exact h
  · exact h

theorem keepsFits_resetAssert (src reach block : Nat) : KeepsFits (fun t u => resetAssert t u src reach block) := by
  intro t u h
  dsimp only [resetAssert]
  split
  · exact h
  · exact fits_resetReach _ _ _ h

theorem keepsFits_rstSystem (key : Nat) : KeepsFits (fun t u => rstSystem t u key) := by
  intro t u h
  dsimp only [rstSystem]
  split
  · exact keepsFits_resetAssert _ _ _ t u h
  · exact h

theorem keepsFits_rstEngine (key : Nat) : KeepsFits (fun t u => rstEngine t u key) := by
  intro t u h
  dsimp only [rstEngine]
  split
  · exact keepsFits_resetAssert _ _ _ t u h
  · exact h

theorem keepsFits_rstBlock (key i : Nat) : KeepsFits (fun t u => rstBlock t u key i) := by
  intro t u h
  dsimp only [rstBlock]
  split
  · exact keepsFits_resetAssert _ _ _ t u h
  · exact h

theorem keepsFits_peerResetRx (b : Block) : KeepsFits (fun t u => peerResetRx t u b) := by
  intro t u h
  dsimp only [peerResetRx]
  split
  · exact h
  · split
    · exact keepsFits_resetAssert _ _ _ t u h
    · exact h

theorem keepsFits_rlqReset : KeepsFits rlqReset := by
  intro t u h
  unfold rlqReset
  split
  · exact keepsFits_resetAssert _ _ _ t u h
  · exact h

theorem keepsFits_wdogPeriodEnd : KeepsFits wdogPeriodEnd := by
  intro t u h
  dsimp only [wdogPeriodEnd]
  split
  · exact h
  · split
    · exact keepsFits_resetAssert _ _ _ t _ h
    · exact h

theorem keepsFits_dieTempChange (temp : Int) : KeepsFits (fun t u => dieTempChange t u temp) := by
  intro t u h
  show (dieTempChange t u temp).1.Fits
  unfold dieTempChange
  extract_lets lim on
  split
  · exact keepsFits_resetAssert _ _ _ t u h
  · split
    · exact h
    · split
      · exact h
      · exact h

theorem keepsFits_recBoot (uart : Bool) (o : List Nat) : KeepsFits (fun t u => recBoot t u uart o) := by
  intro t u h
  show (recBoot t u uart o).1.Fits
  unfold recBoot
  extract_lets acts v
  split
  · exact keepsFits_resetAssert _ _ _ t _ h
  · exact h

theorem keepsFits_oscStopDetect : KeepsFits oscStopDetect := by
  intro t u h
  dsimp only [oscStopDetect]
  split
  · exact h
  · exact TimeBase.fits_start _

theorem keepsFits_stretchRelease : KeepsFits stretchRelease := by
  intro t u h
  dsimp only [stretchRelease]
  split
  · exact h
  · exact h

theorem keepsFits_cfgLoad : KeepsFits cfgLoad := by
  intro t u h
  unfold cfgLoad
  split
  · exact TimeBase.fits_start _
  · split
    · exact h
    · exact TimeBase.fits_start _

theorem keepsFits_boot : KeepsFits boot := by
  intro t u h
  unfold boot
  extract_lets v w src
  split
  · exact h
  · split
    · exact h
    · split
      · exact h
      · dsimp only
        exact keepsFits_cfgLoad t _ h

theorem keepsFits_stageComplete (straps : Nat) : KeepsFits (fun t u => stageComplete t u straps) := by
  intro t u h
  dsimp only [stageComplete]
  split
  · exact h
  · split
    · exact h
    · split
      · exact h
      · exact TimeBase.fits_start _
      · exact h
      · exact h
      · split
        · exact h
        · exact h
      · exact keepsFits_boot t _ h

theorem keepsFits_injectChecks : KeepsFits injectChecks := by
  intro t u h
  unfold injectChecks injectCritical
  dsimp only
  split
  · exact h
  · split
    · exact h
    · split
      · exact h
      · exact keepsFits_resetAssert _ _ _ t _ h

/-! ### Stores of a core (R10, R36, R42, R526) -/

theorem keepsFits_rstSwWrite (v : Nat) : KeepsFits (fun t u => rstSwWrite t u v) := by
  intro t u h
  dsimp only [rstSwWrite]
  split
  · exact h
  · split
    · exact keepsFits_rstSystem _ t u h
    · exact keepsFits_rstEngine _ t u h
    · exact keepsFits_rstBlock _ _ t u h
    · exact h

theorem keepsFits_storeReg (core addr v : Nat) : KeepsFits (fun t u => storeReg t u core addr v) := by
  intro t u h
  dsimp only [storeReg]
  split
  · exact keepsFits_incIntWrite v t u h
  · split
    · exact keepsFits_setLoad v t u h
    · split
      · exact keepsFits_rstSwWrite v t u h
      · exact h

theorem keepsFits_store (core addr size v : Nat) : KeepsFits (fun t u => store t u core addr size v) := by
  intro t u h
  dsimp only [store]
  split
  · exact h
  · split
    · exact h
    · split
      · exact h
      · split
        · exact keepsFits_storeReg core addr v t u h
        · exact h

/-! ### Every command -/

/-- Whether an answer's next state holds station time within its formats. -/
def AnswerFits (r : Answer) : Prop := ∀ t, r = .next t → t.time.Fits

theorem AnswerFits.next {s : State} (h : s.time.Fits) : AnswerFits (.next s) := by
  rintro _ ⟨⟩
  exact h

theorem AnswerFits.setUnit {s : State} {t : TimeBase} {u l : U} (h : t.Fits) : AnswerFits (.next (s.setUnit t u l)) := .next h

section Lifts
variable {s : State} (c : Instr) (hs : s.time.Fits)
include hs

theorem State.onTime_fits {f : TimeBase → U → TimeBase × U} (hf : KeepsFits f) : AnswerFits (s.onTime c f) := by
  rcases State.onTime_cases (s := s) (c := c) (f := f) rfl with ⟨_, h⟩ | ⟨_, _, h⟩ | ⟨_, _, h⟩ <;> rw [h]
  · exact .next hs
  · exact .next hs
  · exact .next (hf _ _ hs)

theorem State.onReset_fits {f : TimeBase → U → TimeBase × U} (hf : KeepsFits f) : AnswerFits (s.onReset c f) := by
  rcases State.onReset_cases (s := s) (c := c) (f := f) rfl with ⟨_, h⟩ | ⟨_, h⟩ <;> rw [h]
  · exact .next hs
  · exact .next (hf _ _ hs)

end Lifts

/-- An effect at a place that does not move station time leaves its formats. -/
theorem Answered.fits {c : Instr} {s : State} {p : Place} {r : Answer} (h : Answered c s p r) (hs : s.time.Fits) (ht : p ≠ .timed)
    (hr : p ≠ .reset) : AnswerFits r := by
  obtain ⟨t, rfl, he, -⟩ := h
  obtain ⟨-, hu, -, hh, hc⟩ := he.keeps
  have htime : t.time = s.time := by
    cases p with
    | unit => exact (hu rfl).1
    | timed => exact absurd rfl ht
    | reset => exact absurd rfl hr
    | hub h => exact (hh h rfl).2.1
    | cell cid => exact (hc cid rfl).2.1
  exact .next (htime ▸ hs)

section Chips
variable {s : State} (c : Instr) (chip : Chip) {fu : TimeBase → U → TimeBase × U} (hs : s.time.Fits) (hf : KeepsFits fu)
include hs hf

theorem State.onChip_fits (fh : HubAt → H → H) (fc : Nat → C → Nat → C) : AnswerFits (s.onChip c chip fu fh fc) := by
  cases chip with
  | unit => exact State.onTime_fits c hs hf
  | hub h => exact (State.onChip_answered s c (.hub h) fu fh fc).fits hs nofun nofun
  | cell cid => exact (State.onChip_answered s c (.cell cid) fu fh fc).fits hs nofun nofun

theorem State.onController_fits (fh : H → H) : AnswerFits (s.onController c chip fu fh) := by
  cases chip with
  | unit => exact State.onReset_fits c hs hf
  | hub h => exact (State.onHubReset_answered s c h (fun _ => fh)).fits hs nofun nofun
  | cell cid => exact State.onReset_fits c hs hf

end Chips

theorem lanePlace_ne (l : LaneAt) : lanePlace l ≠ .timed ∧ lanePlace l ≠ .reset := by
  cases l <;> exact ⟨nofun, nofun⟩

/-- What the boundary that is due leaves of station time and of the unit (R39). -/
def State.boundaryEnd (s : State) : TimeBase × U :=
  injectChecks (s.time.boundaryAt (s.time.lastUs + 1)) (s.u.boundary (s.time.boundaryAt (s.time.lastUs + 1)) (s.time.lastUs + 1) s.u.latched)

theorem State.boundary_due {s : State} (h : ¬ (s.u.held || !s.time.due) = true) :
    execBoundary s = .next (s.setUnit s.boundaryEnd.1 s.boundaryEnd.2 s.u.latched) := by
  unfold execBoundary State.boundaryEnd TimeBase.boundaryAt
  rw [if_neg h]

theorem State.fits_boundaryEnd {s : State} (hs : s.time.Fits) : s.boundaryEnd.1.Fits := by
  unfold State.boundaryEnd
  exact keepsFits_injectChecks (s.time.boundaryAt (s.time.lastUs + 1)) _ (TimeBase.fits_boundaryAt _ hs)

section Exec
variable {s : State} (hs : s.time.Fits)
include hs

theorem execReferenceTick_fits : AnswerFits (execReferenceTick s) := by
  unfold execReferenceTick
  split
  · exact .next hs
  · exact .next (TimeBase.fits_tick _ _)

theorem execBoundary_fits : AnswerFits (execBoundary s) := by
  by_cases h : (s.u.held || !s.time.due) = true
  · have he : execBoundary s = .next s := if_pos h
    exact he ▸ .next hs
  · rw [State.boundary_due h]
    exact .setUnit (State.fits_boundaryEnd hs)

theorem execDieTempChange_fits (chip : Chip) (temp : Int) : AnswerFits (execDieTempChange chip temp s) := by
  cases chip with
  | unit => exact State.onReset_fits _ hs (keepsFits_dieTempChange temp)
  | hub h => exact (execDieTempChange_answered (.hub h) temp s).fits hs nofun nofun
  | cell cid => exact (execDieTempChange_answered (.cell cid) temp s).fits hs nofun nofun

/-- The commands of the unit with station time keep its formats. -/
theorem exec_fits_timed {c : Instr} (hp : placeAt c = .timed) : AnswerFits (exec c s) := by
  unfold placeAt at hp
  unfold exec
  cases c with
  | registerWrite | statusW1cWrite | blockAck => exact State.onChip_fits _ _ hs (keepsFits_store _ _ _ _) _ _
  | rcFieldRead | scrubRead | memoryUncorrRead | sysInjWrite | attChallengeRx | attStatementDone | secCommandDone =>
    exact State.onChip_fits _ _ hs (keepsFits_still _) _ _
  | referenceTick => exact execReferenceTick_fits hs
  | boundary => exact execBoundary_fits hs
  | timIncIntWrite v => exact State.onTime_fits _ hs (keepsFits_incIntWrite v)
  | stepApply => exact State.onTime_fits _ hs keepsFits_stepApply
  | timSetLoad v => exact State.onTime_fits _ hs (keepsFits_setLoad v)
  | rlqReset => exact State.onTime_fits _ hs keepsFits_rlqReset
  | sysRstSystem key => exact State.onTime_fits _ hs (keepsFits_rstSystem key)
  | sysRstEngine key => exact State.onTime_fits _ hs (keepsFits_rstEngine key)
  | sysRstBlock key i => exact State.onTime_fits _ hs (keepsFits_rstBlock key i)
  | peerResetRx b => exact State.onTime_fits _ hs (keepsFits_peerResetRx b)
  | wdogPeriodEnd => exact State.onTime_fits _ hs keepsFits_wdogPeriodEnd
  | keyStoreViolation => exact State.onTime_fits _ hs (keepsFits_resetAssert 7 0 0)
  | recBoot uart o => exact State.onTime_fits _ hs (keepsFits_recBoot uart o)
  | resetAssert chip | resetStageComplete chip | fuseLoadDone chip | resetSourceRelease chip | dieTempChange chip =>
    cases chip <;> cases hp
  | laneEnWrite l | laneSignalDetect l | laneCdrLock l | equalisationSettled l | laneLinkLoss l | laneCodeErrors l | laneCheckError l
  | crcWindowClose l | laneRetrainTimeout l | deskewTimeout l | laneRestore l | laneRetrainCmd l | laneTestWrite l | laneTxeqWrite l
  | prbsLockChange l | trainingRx l => exact absurd hp (lanePlace_ne l).1
  | _ => cases hp

/-- The events of the reset controller keep station time within its formats. -/
theorem exec_fits_reset {c : Instr} (hp : placeAt c = .reset) : AnswerFits (exec c s) := by
  unfold placeAt at hp
  unfold exec
  cases c with
  | registerWrite chip | statusW1cWrite chip | blockAck chip | rcFieldRead chip | scrubRead chip | memoryUncorrRead chip
  | sysInjWrite chip | attChallengeRx chip | attStatementDone chip | secCommandDone chip => cases chip <;> cases hp
  | oscStopDetect => exact State.onReset_fits _ hs keepsFits_oscStopDetect
  | stretchRelease => exact State.onReset_fits _ hs keepsFits_stretchRelease
  | vbakRise => exact State.onReset_fits _ hs (keepsFits_still _)
  | dieTempChange chip temp => exact execDieTempChange_fits hs chip temp
  | resetAssert chip src reach block => exact State.onController_fits _ chip hs (keepsFits_resetAssert src reach block) _
  | resetStageComplete chip straps => exact State.onController_fits _ chip hs (keepsFits_stageComplete straps) _
  | fuseLoadDone chip | resetSourceRelease chip => exact State.onController_fits _ chip hs (keepsFits_still _) _
  | laneEnWrite l | laneSignalDetect l | laneCdrLock l | equalisationSettled l | laneLinkLoss l | laneCodeErrors l | laneCheckError l
  | crcWindowClose l | laneRetrainTimeout l | deskewTimeout l | laneRestore l | laneRetrainCmd l | laneTestWrite l | laneTxeqWrite l
  | prbsLockChange l | trainingRx l => exact absurd hp (lanePlace_ne l).2
  | _ => cases hp

/-- Every command keeps station time within its formats: the ones of the two places that move it, the others by their place. -/
theorem exec_fits (c : Instr) : AnswerFits (exec c s) := by
  by_cases ht : placeAt c = .timed
  · exact exec_fits_timed hs ht
  · by_cases hr : placeAt c = .reset
    · exact exec_fits_reset hs hr
    · exact (exec_answered c s).fits hs ht hr

end Exec

/-! ### The obligations -/

theorem State.settled_idle {s : State} (h : s.Settled) : s.idle.Settled := by
  obtain ⟨hfits, hshown⟩ := h
  unfold State.idle
  split
  · exact ⟨hfits, hshown⟩
  · exact ⟨TimeBase.pass_fits hfits, U.shown_markEdge _ (U.shown_pass _ _ hshown)⟩

/-- A command leaves the unit as it was or as its handshake ends. -/
theorem Effect.shown {s t : State} {p : Place} (e : Effect s p t) (h : s.u.Shown) : t.u.Shown := by
  cases e with
  | still => exact h
  | unit => exact U.shown_finish _ _ _
  | timed => exact U.shown_finish _ _ _
  | reset => exact U.shown_finish _ _ _
  | hub => exact h
  | cell => exact h

theorem exec_settled {c : Instr} {s t : State} (h : s.Settled) (ht : exec c s = .next t) : t.Settled := by
  obtain ⟨hfits, hshown⟩ := h
  obtain ⟨t', ht', he, -⟩ := exec_answered c s
  obtain rfl : t' = t := by rw [ht] at ht'; exact (Host.Outcome.next.inj ht').symm
  exact ⟨exec_fits hfits c _ ht, he.shown hshown⟩

/-- Settles O44: a command ends its handshake or leaves the unit, and every command that moves station time keeps its formats; between
commands station time passes by a sixteenth of a nanosecond, which its formats do not hold. -/
theorem everyStepKeepsTheStateSettled : Obligations.EveryStepKeepsTheStateSettled := by
  unfold Obligations.EveryStepKeepsTheStateSettled
  intro s t h ht
  unfold step at ht
  split at ht
  · exact Host.Outcome.next.inj ht ▸ State.settled_idle h
  · rename_i c rest _
    exact exec_settled (s := { s with pending := rest }) h ht

/-- Settles O43: the registers after reset stand at the reset counter 0, no cause held and SENDING of an OFFLINE unit. -/
theorem resetIsSettled : Obligations.ResetIsSettled := by
  unfold Obligations.ResetIsSettled State.Settled TimeBase.Fits U.ShowsSending U.ShowsBak
  decide

/-- Settles O42: every field named reads its reset value, and no hub or cell is listed. -/
theorem resetState : Obligations.ResetState := by
  unfold Obligations.ResetState
  refine ⟨by decide, by decide, by decide, by decide, by decide, by decide, by decide, by decide, by decide, by decide, by decide,
    by decide, by decide, by decide, by decide, ?arms, fun _ => rfl, fun _ => rfl, by decide, by decide⟩
  case arms => decide

end Sys2Proof.Machine
end

section
/-! PROOFS. Station time: reference ticks and boundaries (R31, R36, R39), the increment (R36, R37), offset steps (R40, R41), loads (R42). -/
namespace Sys2Proof.Machine

/-! ### The commands -/

section Commands
variable {s : State} (hh : s.u.held = false)
include hh

theorem exec_referenceTick_runs : exec .referenceTick s = .next (s.afterAt (s.time.tick (s.u.rd R.SYS_STRAP_CLK_MODE))
    (s.u.eraEvent s.time (s.time.tick (s.u.rd R.SYS_STRAP_CLK_MODE)))) := by
  rw [exec_referenceTick, execReferenceTick, if_neg (by rw [hh]; exact Bool.false_ne_true)]
  rfl

omit hh in
theorem exec_boundary_waits (hd : s.time.due = false) : exec .boundary s = .next s := by
  rw [exec_boundary, execBoundary, if_pos (by rw [hd]; exact Bool.or_true _)]

theorem exec_timIncFracWrite_runs {v : Nat} (hw : (Instr.timIncFracWrite v).wf = true) :
    exec (.timIncFracWrite v) s = .next (s.after (s.u.wr R.TIM_INC_FRAC_FRAC v)) :=
  State.onUnit_whole (fun _ u => u.wr R.TIM_INC_FRAC_FRAC v) hw rfl hh

theorem exec_timIncIntWrite_runs {v : Nat} (hw : (Instr.timIncIntWrite v).wf = true) :
    exec (.timIncIntWrite v) s = .next (s.afterAt (incIntWrite s.time s.u v).1 (incIntWrite s.time s.u v).2) :=
  State.onTime_whole (fun t u => incIntWrite t u v) hw rfl hh

theorem exec_timStepWrite_runs {v : Nat} (hw : (Instr.timStepWrite v).wf = true) :
    exec (.timStepWrite v) s = .next (s.after (s.u.stepWrite v)) :=
  State.onUnit_whole (fun _ u => u.stepWrite v) hw rfl hh

theorem exec_stepApply_runs : exec .stepApply s = .next (s.afterAt (stepApply s.time s.u).1 (stepApply s.time s.u).2) :=
  State.onTime_whole (c := .stepApply) (fun t u => stepApply t u) rfl rfl hh

theorem exec_timSetLoad_runs {v : Nat} (hw : (Instr.timSetLoad v).wf = true) :
    exec (.timSetLoad v) s = .next (s.afterAt (setLoad s.time s.u v).1 (setLoad s.time s.u v).2) :=
  State.onTime_whole (fun t u => setLoad t u v) hw rfl hh

end Commands

/-! ### The increment (R36, R37) -/

section Increment
variable {t : TimeBase} {u : U} {v : Nat}

theorem incIntWrite_taken (hv : v < 2 ^ 32) (h : incOk (u.rd R.SYS_STRAP_CLK_MODE) (v * 2 ^ 32 + u.rd R.TIM_INC_FRAC_FRAC) = true) :
    incIntWrite t u v = ({ t with incNext := some (v * 2 ^ 32 + u.rd R.TIM_INC_FRAC_FRAC) }, u.wr R.TIM_INC_INT_INT v) := by
  unfold incIntWrite
  rw [Nat.mod_eq_of_lt hv]
  exact if_pos h

theorem incIntWrite_refused (hv : v < 2 ^ 32) (h : incOk (u.rd R.SYS_STRAP_CLK_MODE) (v * 2 ^ 32 + u.rd R.TIM_INC_FRAC_FRAC) = false) :
    incIntWrite t u v = (t, u.raise t TIM.INC_REJ []) := by
  unfold incIntWrite
  rw [Nat.mod_eq_of_lt hv]
  exact if_neg (Bool.eq_false_iff.mp h)

/-- The combined increment lies within 1,000 ppm of the nominal one (R37). -/
theorem incOk_iff (mode x : Nat) : incOk mode x = true ↔ 1000 * ((x : Int) - nominalInc mode).natAbs ≤ nominalInc mode := by
  unfold incOk
  rw [decide_eq_true_iff, Nat.mul_comm]

end Increment

theorem wordOk_lt {v : Nat} (h : wordOk v = true) : v < 2 ^ 32 := of_decide_eq_true h

section Increments
variable {s : State} {v : Nat} (hw : (Instr.timIncIntWrite v).wf = true) (hh : s.u.held = false)
include hw hh

theorem exec_timIncIntWrite_taken (h : incOk (s.u.rd R.SYS_STRAP_CLK_MODE) (v * 2 ^ 32 + s.u.rd R.TIM_INC_FRAC_FRAC) = true) :
    exec (.timIncIntWrite v) s =
      .next (s.afterAt { s.time with incNext := some (v * 2 ^ 32 + s.u.rd R.TIM_INC_FRAC_FRAC) } (s.u.wr R.TIM_INC_INT_INT v)) := by
  rw [exec_timIncIntWrite_runs hh hw, incIntWrite_taken (wordOk_lt hw) h]

theorem exec_timIncIntWrite_refused (h : incOk (s.u.rd R.SYS_STRAP_CLK_MODE) (v * 2 ^ 32 + s.u.rd R.TIM_INC_FRAC_FRAC) = false) :
    exec (.timIncIntWrite v) s = .next (s.after (s.u.raise s.time TIM.INC_REJ [])) := by
  rw [exec_timIncIntWrite_runs hh hw, incIntWrite_refused (wordOk_lt hw) h]
  rfl

end Increments

theorem U.faultSeen_evq (u : U) (cls : Nat) : (u.faultSeen cls).evq = u.evq := by
  have h := congrArg U.evq (U.faultSeen_unseen u cls)
  exact h

/-- A cause whose event is enabled puts its event into flight. -/
theorem U.markCause_evq {u : U} {c : Cause} (h : (u.wr (c.blk.status c.bit) 1).on c.enable = true) :
    (u.markCause c).evq = u.evq ++ [c.src] := by
  unfold U.markCause
  dsimp only
  rw [if_pos h]
  rfl

theorem U.offer_evq (u : U) (ts cls src bit : Nat) : (u.offer ts cls src bit).evq = u.evq := by
  unfold U.offer
  dsimp only
  split
  · rfl
  · rfl

theorem U.markFirst_evq (u : U) (ts : Nat) (c : Cause) (cls : Nat) (d : List (Nat × Nat × Nat)) : (u.markFirst ts c cls d).evq = u.evq := by
  unfold U.markFirst
  split
  · rfl
  · refine (foldl_leaves (p := U.evq) (fun v e => ?_) d _).trans rfl
    exact U.wr_evq _ _ _

theorem U.record_evq (u : U) (ts : Nat) (c : Cause) (base : Option Nat) (d : List (Nat × Nat × Nat)) :
    (u.record ts c base d).2.evq = (u.markCause c).evq := by
  have hclass : ∀ (v : U) cls, (v.markClass c cls).evq = v.evq := fun v cls => by
    unfold U.markClass
    dsimp only
    split
    · rfl
    · rfl
  cases base with
  | none => rfl
  | some b =>
    unfold U.record
    dsimp only
    split
    · rw [U.offer_evq, U.markFirst_evq, hclass]
    · rw [U.markFirst_evq, hclass]

theorem U.raise_incRej_evq {u : U} (t : TimeBase) (h : u.on TIM.INC_REJ.enable = true) :
    (u.raise t TIM.INC_REJ []).evq = u.evq ++ [116] := by
  rw [U.raise_low _ _ _ _ rfl, U.faultSeen_evq, U.record_evq]
  refine U.markCause_evq ?_
  rw [U.on_eq, U.rd_wr_ne _ _ (by decide)]
  exact h

/-- Settles O57: the window of R37 is that of `incOk`. -/
theorem incrementOutOfLimitIsRejected : Obligations.IncrementOutOfLimitIsRejected := by
  unfold Obligations.IncrementOutOfLimitIsRejected
  refine ⟨?_, fun u t => ⟨U.raise_status _ _ _ _ rfl (by decide), U.raise_incRej_evq t⟩⟩
  rintro s v x n hw hh rfl rfl
  refine ⟨fun h => exec_timIncIntWrite_refused hw hh ?_, fun h => exec_timIncIntWrite_taken hw hh ((incOk_iff _ _).mpr h)⟩
  exact Bool.eq_false_iff.mpr (fun hok => Nat.not_le.mpr h ((incOk_iff _ _).mp hok))

/-! ### Loads (R42) -/

section Load
variable {t : TimeBase} {u : U} {v : Nat}

/-- Station time as a load of these seconds and nanoseconds leaves it (R39, R42). -/
def TimeBase.loaded (t : TimeBase) (sec ns : Nat) : TimeBase :=
  { t with sec := sec, ns := ns, frac := 0, elapsed := 0, lastUs := (sec * 1000000000 + ns) / 1000 }

theorem setLoad_taken (hs : u.rd R.TIM_DEP_CTL_STATE = 0) (hn : bits v 0 30 < 1000000000) :
    setLoad t u v = (t.loaded (u.rd R.TIM_SET_SECL_SEC_LO + 2 ^ 32 * u.rd R.TIM_SET_SECH_SEC_HI) (bits v 0 30),
      u.wr R.TIM_SET_NS_NS (bits v 0 30)) := by
  have hc : ¬ (decide (u.rd R.TIM_DEP_CTL_STATE ≠ 0) || decide (bits v 0 30 ≥ 1000000000)) = true := by
    simp [hs, Nat.not_le.mpr hn]
  unfold setLoad TimeBase.loaded
  dsimp only
  rw [if_neg hc, TimeBase.us_mk]
  have hus : ∀ x : Nat, (x * 16 + 0 / 268435456 + 0) / 16 / 1000 = x / 1000 := fun x => by omega
  rw [hus]

theorem setLoad_refused (h : u.rd R.TIM_DEP_CTL_STATE ≠ 0 ∨ 1000000000 ≤ bits v 0 30) :
    setLoad t u v = (t, u.raise t TIM.SET_REJ []) := by
  unfold setLoad
  exact if_pos (by simpa using h)

end Load

section Loads
variable {s : State} {v : Nat} (hw : (Instr.timSetLoad v).wf = true) (hh : s.u.held = false)
include hw hh

theorem exec_timSetLoad_taken (hs : s.u.rd R.TIM_DEP_CTL_STATE = 0) (hn : bits v 0 30 < 1000000000) :
    exec (.timSetLoad v) s = .next (s.afterAt
      (s.time.loaded (s.u.rd R.TIM_SET_SECL_SEC_LO + 2 ^ 32 * s.u.rd R.TIM_SET_SECH_SEC_HI) (bits v 0 30))
      (s.u.wr R.TIM_SET_NS_NS (bits v 0 30))) := by
  rw [exec_timSetLoad_runs hh hw, setLoad_taken hs hn]

theorem exec_timSetLoad_refused (h : s.u.rd R.TIM_DEP_CTL_STATE ≠ 0 ∨ 1000000000 ≤ bits v 0 30) :
    exec (.timSetLoad v) s = .next (s.after (s.u.raise s.time TIM.SET_REJ [])) := by
  rw [exec_timSetLoad_runs hh hw, setLoad_refused h]
  rfl

end Loads

/-- A core's store of TIM_SET_NS with LOAD is the command of that row (R10, R42). -/
theorem exec_registerWrite_load {s : State} {core v : Nat} (hw : (Instr.registerWrite .unit core 0x40001001C 4 v).wf = true)
    (hv : v < 2 ^ 32) (hh : s.u.held = false) (hb : s.u.blockOn 0x40001001C = true) (hl : bitAt v 31 = true) :
    exec (.registerWrite .unit core 0x40001001C 4 v) s = exec (.timSetLoad v) s := by
  have hstore : store s.time s.u core 0x40001001C 4 v = setLoad s.time s.u v := by
    rw [store_register s.time core v (by decide) (by decide) (by decide) hb, storeReg, if_neg (by decide)]
    exact if_pos (by rw [hl]; rfl)
  rw [exec_registerWrite_unit hw hh, hstore, exec_timSetLoad_runs hh (decide_eq_true hv)]

/-- Settles O58: a store that LOAD is set in is the load of its row. -/
theorem timeSetIsLoadedOrRefused : Obligations.TimeSetIsLoadedOrRefused := by
  unfold Obligations.TimeSetIsLoadedOrRefused
  refine ⟨fun s v hw hh => ⟨fun hs hn => ?_, exec_timSetLoad_refused hw hh⟩, fun u t => ?_, fun s core v hw hv hh hb hl => ?_⟩
  · exact ⟨_, exec_timSetLoad_taken hw hh hs hn, rfl, rfl, rfl⟩
  · exact U.raise_status _ _ _ _ rfl (by decide)
  · exact exec_registerWrite_load hw hv hh hb hl

/-! ### Info causes leave what the generator reads -/

theorem U.raise_info_rd (u : U) (t : TimeBase) {c : Cause} (hc : c.cls = none) {f : Fld} (h : f.key ≠ (c.blk.status c.bit).key) :
    (u.raise t c []).rd f = u.rd f := by
  rw [U.raise_info _ _ _ hc, U.markCause_rd _ _ h]

theorem U.eraEvent_rd (u : U) (old new : TimeBase) {f : Fld} (h : f.key ≠ (TIM.ERA.blk.status TIM.ERA.bit).key) :
    (u.eraEvent old new).rd f = u.rd f := by
  unfold U.eraEvent
  split
  · exact U.raise_info_rd _ _ rfl h
  · rfl

/-! ### Offset steps (R40, R41) -/

section Step
variable {t : TimeBase} {u : U} {d : Int}

/-- Station time with a step of so many sixteenths of a ns added (R40). -/
def TimeBase.moved (t : TimeBase) (d : Int) : TimeBase := { t.place ((t.raw : Int) + d * 2 ^ 28).toNat with elapsed := t.elapsed }

/-- Station time with a step added while departures do not run: the next boundary is the next µs (R39). -/
def TimeBase.stepped (t : TimeBase) (d : Int) : TimeBase := { t.moved d with lastUs := (t.moved d).us }

/-! The projections go through a constructor's own fields, so that no check compares station time by unfolding. -/
theorem TimeBase.moved_eq (t : TimeBase) (d : Int) {x : Nat} (hx : x = ((t.raw : Int) + d * 2 ^ 28).toNat) : t.moved d =
    TimeBase.mk (x / 2 ^ 32 / 1000000000 % 2 ^ 48) (x / 2 ^ 32 % 1000000000) (x % 2 ^ 32) t.elapsed t.inc t.incNext t.lastUs t.ref80
      t.since := by
  unfold TimeBase.moved
  rw [← hx, TimeBase.place_eq]

theorem TimeBase.stepped_eq (t : TimeBase) (d : Int) {x : Nat} (hx : x = ((t.raw : Int) + d * 2 ^ 28).toNat) : t.stepped d =
    TimeBase.mk (x / 2 ^ 32 / 1000000000 % 2 ^ 48) (x / 2 ^ 32 % 1000000000) (x % 2 ^ 32) t.elapsed t.inc t.incNext (t.moved d).us t.ref80
      t.since := by
  unfold TimeBase.stepped
  rw [t.moved_eq d hx]

theorem TimeBase.stepped_place (t : TimeBase) (d : Int) {x : Nat} (hx : x = ((t.raw : Int) + d * 2 ^ 28).toNat) :
    (t.stepped d).sec = x / 2 ^ 32 / 1000000000 % 2 ^ 48 ∧ (t.stepped d).ns = x / 2 ^ 32 % 1000000000 ∧
      (t.stepped d).frac = x % 2 ^ 32 ∧ (t.stepped d).elapsed = t.elapsed := by
  rw [t.stepped_eq d hx]
  exact ⟨rfl, rfl, rfl, rfl⟩

theorem TimeBase.stepped_lastUs (t : TimeBase) (d : Int) : (t.stepped d).lastUs = (t.stepped d).us := by
  rw [t.stepped_eq d rfl, t.moved_eq d rfl, TimeBase.us_mk, TimeBase.us_mk]

/-- The unit with its pending step taken up. -/
def U.stepTaken (u : U) : U := (u.wr R.TIM_STATUS_STEP_PEND 0).withTim (fun h => { h with step := none, stepBnd := false })

/-- The unit as a step that is added leaves it, the era apart. -/
def U.stepDone (u : U) (t : TimeBase) : U := (u.stepTaken.withTim (fun h => { h with lastStep := some 0 })).raise t TIM.STEP_DONE []

theorem U.stepTaken_rd (u : U) {f : Fld} (h : f.key ≠ R.TIM_STATUS_STEP_PEND.key) : u.stepTaken.rd f = u.rd f := by
  rw [U.stepTaken, U.rd_withTim, U.rd_wr_ne _ _ h]

theorem U.stepDone_rd (u : U) (t : TimeBase) {f : Fld} (hp : f.key ≠ R.TIM_STATUS_STEP_PEND.key)
    (hd : f.key ≠ (TIM.STEP_DONE.blk.status TIM.STEP_DONE.bit).key) : (u.stepDone t).rd f = u.rd f :=
  (U.raise_info_rd _ _ rfl hd).trans (u.stepTaken_rd hp)

theorem U.stepRefused_stopped (hs : u.rd R.TIM_DEP_CTL_STATE = 0) (h : 0 ≤ (t.raw : Int) + d * 2 ^ 28) : u.stepRefused t d = false := by
  simp only [U.stepRefused, hs, Int.not_lt.mpr h]
  rfl

theorem U.stepRefused_running (hs : u.rd R.TIM_DEP_CTL_STATE = 2)
    (h : d.natAbs > u.rd R.TIM_STEP_LIM_STEP_MAX * 16 ∨ ∃ n, u.tim.lastStep = some n ∧ n < u.rd R.TIM_STEP_LIM_STEP_GAP) :
    u.stepRefused t d = true := by
  rcases h with h | ⟨n, hn, hg⟩
  · simp [U.stepRefused, hs, h]
  · simp [U.stepRefused, hs, hn, hg]

/-- What a step that has been added leaves: a start DN that it passes over is late (R38). -/
def U.stepPassed (u : U) (t t' : TimeBase) : U :=
  if u.rd R.TIM_DEP_CTL_STATE = 1 && !u.tim.runNext && dnDiff (u.rd R.TIM_DEP_START_DN_START) (t.lastUs % 2 ^ 32) > 0 &&
      dnDiff (u.rd R.TIM_DEP_START_DN_START) (t'.lastUs % 2 ^ 32) ≤ 0
  then (u.withTim (fun h => { h with runNext := true })).raise t' TIM.START_LATE []
  else u

theorem U.stepPassed_stopped (hs : u.rd R.TIM_DEP_CTL_STATE = 0) (t' : TimeBase) : u.stepPassed t t' = u := by
  unfold U.stepPassed
  rw [hs]
  rfl

theorem stepApply_added (hp : u.tim.step = some d) (hs : u.rd R.TIM_DEP_CTL_STATE ≠ 2) (h : u.stepTaken.stepRefused t d = false) :
    stepApply t u = (t.stepped d, ((u.stepDone (t.stepped d)).eraEvent t (t.stepped d)).stepPassed t (t.stepped d)) := by
  have hrun : ¬ (decide (u.rd R.TIM_DEP_CTL_STATE = 2) && !u.tim.stepBnd) = true := by simp [hs]
  have htime : (if u.rd R.TIM_DEP_CTL_STATE = 2 then t.moved d else t.stepped d) = t.stepped d := if_neg hs
  rw [← htime]
  unfold stepApply
  rw [hp]
  exact (if_neg hrun).trans (if_neg (Bool.eq_false_iff.mp h))

/-- A step with the generator STOPPED is added at its tick. -/
theorem stepApply_stopped (hp : u.tim.step = some d) (hs : u.rd R.TIM_DEP_CTL_STATE = 0) (h : 0 ≤ (t.raw : Int) + d * 2 ^ 28) :
    stepApply t u = (t.stepped d, (u.stepDone (t.stepped d)).eraEvent t (t.stepped d)) := by
  have hstate : ∀ w, ((u.stepDone w).eraEvent t w).rd R.TIM_DEP_CTL_STATE = 0 := fun w => by
    rw [U.eraEvent_rd _ _ _ (by decide), U.stepDone_rd _ _ (by decide) (by decide), hs]
  have href : u.stepTaken.stepRefused t d = false := U.stepRefused_stopped ((u.stepTaken_rd (by decide)).trans hs) h
  rw [stepApply_added hp (by rw [hs]; decide) href, U.stepPassed_stopped (hstate _)]

/-- A step that R40 or R41 refuses at the boundary after it leaves station time. -/
theorem stepApply_refused (hp : u.tim.step = some d) (hb : u.tim.stepBnd = true) (h : u.stepTaken.stepRefused t d = true) :
    stepApply t u = (t, u.stepTaken.raise t TIM.STEP_REJ []) := by
  unfold stepApply
  rw [hp]
  dsimp only
  rw [if_neg (by simp [hb])]
  exact if_pos h

end Step

section Steps
variable {s : State} {d : Int} (hh : s.u.held = false) (hp : s.u.tim.step = some d)
include hh hp

theorem exec_stepApply_stopped (hs : s.u.rd R.TIM_DEP_CTL_STATE = 0) (h : 0 ≤ (s.time.raw : Int) + d * 2 ^ 28) :
    exec .stepApply s = .next (s.afterAt (s.time.stepped d) ((s.u.stepDone (s.time.stepped d)).eraEvent s.time (s.time.stepped d))) := by
  rw [exec_stepApply_runs hh, stepApply_stopped hp hs h]

theorem exec_stepApply_refused (hs : s.u.rd R.TIM_DEP_CTL_STATE = 2) (hb : s.u.tim.stepBnd = true)
    (h : d.natAbs > s.u.rd R.TIM_STEP_LIM_STEP_MAX * 16 ∨ ∃ n, s.u.tim.lastStep = some n ∧ n < s.u.rd R.TIM_STEP_LIM_STEP_GAP) :
    exec .stepApply s = .next (s.after (s.u.stepTaken.raise s.time TIM.STEP_REJ [])) := by
  have href : s.u.stepTaken.stepRefused s.time d = true := by
    refine U.stepRefused_running ((s.u.stepTaken_rd (by decide)).trans hs) ?_
    rw [U.stepTaken_rd _ (by decide), U.stepTaken_rd _ (by decide)]
    exact h
  rw [exec_stepApply_runs hh, stepApply_refused hp hb href]
  rfl

end Steps

/-- Settles O3: a step is written, added in STOPPED or refused while RUNNING; a load is taken in STOPPED. -/
theorem stepsAndLoadsComplete : Obligations.StepsAndLoadsComplete := by
  unfold Obligations.StepsAndLoadsComplete
  refine ⟨fun s v hw hh => exec_timStepWrite_runs hh hw, ?step, fun s d hh hp hs hb h => exec_stepApply_refused hh hp hs hb h, ?load,
    fun s v hw hh h => exec_timSetLoad_refused hw hh h⟩
  case step =>
    rintro s d hh hp hs h x rfl
    obtain ⟨hsec, hns, hfrac, hel⟩ := s.time.stepped_place d rfl
    exact ⟨_, _, exec_stepApply_stopped hh hp hs h, hsec, hns, hfrac, hel, s.time.stepped_lastUs d, rfl, rfl, rfl, rfl, rfl⟩
  case load =>
    rintro s v hw hh hs hn sec rfl
    exact exec_timSetLoad_taken hw hh hs hn

/-! ### Reference ticks and boundaries (R31, R36, R39) -/

theorem U.inject_none {u : U} {target : Nat} (ho : u.rd (R.SYS_INJ_ONCE 0x400000000) = 0) (hc : u.rd (R.SYS_INJ_CONT 0x400000000) = 0) :
    u.inject target = (none, u) := by
  have hio : MemIO.inject ⟨u.regs, u.memh, [], 0⟩ 0x400000000 target = (none, ⟨u.regs, u.memh, [], 0⟩) := by
    have hno : ∀ x : Nat, ¬ (decide (x = target) && (decide (u.rd (R.SYS_INJ_ONCE 0x400000000) = 1) ||
        decide (u.rd (R.SYS_INJ_CONT 0x400000000) = 1))) = true := by simp [ho, hc]
    exact if_neg (hno _)
  rw [U.inject, hio]

/-- The checks of a boundary change nothing when no injection is set (R455). -/
theorem injectChecks_none {t : TimeBase} {u : U} (ho : u.rd (R.SYS_INJ_ONCE 0x400000000) = 0) (hc : u.rd (R.SYS_INJ_CONT 0x400000000) = 0) :
    injectChecks t u = (t, u) := by
  have hn := fun target => U.inject_none (target := target) ho hc
  have htables : u.injectTables t = u := by
    unfold U.injectTables
    rw [hn]
  have hloops : u.injectLoops t = u := by
    unfold U.injectLoops
    rw [hn]
    exact ite_self u
  have hcore : u.injectCore t = u := by
    unfold U.injectCore
    dsimp only
    rw [hn]
    exact ite_self u
  rw [injectChecks, htables, hloops, hcore, injectCritical]
  rw [hn]
  exact ite_self (t, u)

/-- Settles O1: a tick and a boundary leave what their one handshake gives, and the increment is taken within its window. -/
theorem tickAndIncrementComplete : Obligations.TickAndIncrementComplete := by
  unfold Obligations.TickAndIncrementComplete
  refine ⟨?tick, ?boundary, fun t u ho hc => injectChecks_none ho hc, fun s _ hd => exec_boundary_waits hd,
    fun s v hw hh => exec_timIncFracWrite_runs hh hw, fun s v hw hh h => exec_timIncIntWrite_taken hw hh h,
    fun s v hw hh h => exec_timIncIntWrite_refused hw hh h⟩
  case tick =>
    rintro s hh inc x rfl rfl t rfl
    rw [exec_referenceTick_runs hh, TimeBase.tick_eq]
    rfl
  case boundary =>
    rintro s hh hd t r ht hr
    have hdue : ¬ (s.u.held || !s.time.due) = true := by rw [hh, hd]; decide
    have hend : s.boundaryEnd = r := by rw [hr, ht]; rfl
    rw [exec_boundary, State.boundary_due hdue, hend]

/-- Station time in sixteenths of a ns is the count at the last tick, with what has passed since (R31). -/
theorem TimeBase.t16_eq_raw (t : TimeBase) : t.t16 = t.raw / 2 ^ 28 + t.elapsed := by
  unfold TimeBase.t16 TimeBase.raw
  omega

/-- A tick takes station time to the sixteenth of a ns that its count has reached, before it wraps. -/
theorem TimeBase.t16_tick (t : TimeBase) (mode : Nat) (h : t.raw + t.incNext.getD t.inc < 2 ^ 80 * 1000000000) :
    (t.tick mode).t16 = (t.raw + t.incNext.getD t.inc) / 2 ^ 28 := by
  rw [TimeBase.tick_eq]
  unfold TimeBase.t16
  dsimp only
  omega

/-- Settles O48: what has passed since the last tick is no more than the increment, so the tick reaches at least as far. -/
theorem stationTimeDoesNotRunBack : Obligations.StationTimeDoesNotRunBack := by
  unfold Obligations.StationTimeDoesNotRunBack
  intro s t _ hh he hr ht
  rw [exec_referenceTick_runs hh] at ht
  obtain rfl := Host.Outcome.next.inj ht
  show s.time.t16 ≤ (s.time.tick _).t16
  rw [TimeBase.t16_tick _ _ hr, TimeBase.t16_eq_raw]
  omega

end Sys2Proof.Machine
end

section
/-! PROOFS. The departure generator: START, STOP, TIM_DEP_START, the boundary from which it runs (R38). -/
namespace Sys2Proof.Machine

/-! ### The generator's operations -/

section Generator
variable {t : TimeBase} {u : U} {v : Nat}

/-- The generator armed. -/
def U.armed (u : U) : U := (u.wr R.TIM_DEP_CTL_STATE 1).wr R.TIM_DEP_CTL_START 1

/-- The generator let run from the next boundary, its start being late. -/
def U.startLate (u : U) (t : TimeBase) : U := (u.armed.withTim (fun h => { h with runNext := true })).raise t TIM.START_LATE []

/-- The generator stopped. -/
def U.depStopped (u : U) : U :=
  ((u.wr R.TIM_DEP_CTL_STATE 0).wr R.TIM_DEP_CTL_START 0).withTim (fun h => { h with runNext := false })

theorem U.armed_start (u : U) : u.armed.rd R.TIM_DEP_START_DN_START = u.rd R.TIM_DEP_START_DN_START := by
  rw [U.armed, U.rd_wr_ne _ _ (by decide), U.rd_wr_ne _ _ (by decide)]

theorem U.depCompare_ahead (h : 0 < dnDiff (u.rd R.TIM_DEP_START_DN_START) t.dn) : u.depCompare t = u.armed := by
  have hlate : ¬ dnDiff (u.armed.rd R.TIM_DEP_START_DN_START) t.dn ≤ 0 := by rw [U.armed_start]; exact Int.not_le.mpr h
  exact if_neg hlate

theorem U.depCompare_late (h : dnDiff (u.rd R.TIM_DEP_START_DN_START) t.dn ≤ 0) : u.depCompare t = u.startLate t := by
  have hlate : dnDiff (u.armed.rd R.TIM_DEP_START_DN_START) t.dn ≤ 0 := by rw [U.armed_start]; exact h
  exact if_pos hlate

theorem U.depStart_idle (h : u.rd R.TIM_DEP_CTL_STATE ≠ 2) : u.depStart t false = u.depCompare t := by
  unfold U.depStart
  rw [if_neg Bool.false_ne_true, if_neg h]

theorem U.depStart_running (h : u.rd R.TIM_DEP_CTL_STATE = 2) : u.depStart t false = u := by
  unfold U.depStart
  rw [if_neg Bool.false_ne_true, if_pos h]

theorem U.depStart_stop (u : U) (t : TimeBase) : u.depStart t true = u.depStop t := if_pos rfl

theorem U.depStop_taken (h : u.rd R.TIM_DEP_CTL_STATE = 1 ∨ (u.rd R.TIM_DEP_CTL_STATE = 2 ∧ u.rd R.DEP_CTL_CONV_EN = 0)) :
    u.depStop t = u.depStopped := if_pos (by simpa using h)

theorem U.depStop_refused (h : u.rd R.TIM_DEP_CTL_STATE = 2) (hc : u.rd R.DEP_CTL_CONV_EN ≠ 0) :
    u.depStop t = u.raise t TIM.STOP_REJ [] := by
  unfold U.depStop
  dsimp only
  rw [if_neg (by simp [h, hc]), if_pos h]

theorem U.depStop_stopped (h : u.rd R.TIM_DEP_CTL_STATE = 0) : u.depStop t = u := by
  unfold U.depStop
  dsimp only
  rw [if_neg (by simp [h]), if_neg (by rw [h]; decide)]

theorem U.depStartWrite_stored (h : u.rd R.TIM_DEP_CTL_STATE ≠ 1) : u.depStartWrite t v = u.wr R.TIM_DEP_START_DN_START v := by
  have hs : ¬ (u.wr R.TIM_DEP_START_DN_START v).rd R.TIM_DEP_CTL_STATE = 1 := by rw [U.rd_wr_ne _ _ (by decide)]; exact h
  exact if_neg hs

theorem U.depStartWrite_compared (h : u.rd R.TIM_DEP_CTL_STATE = 1) :
    u.depStartWrite t v = (u.wr R.TIM_DEP_START_DN_START v).depCompare t := by
  have hs : (u.wr R.TIM_DEP_START_DN_START v).rd R.TIM_DEP_CTL_STATE = 1 := by rw [U.rd_wr_ne _ _ (by decide)]; exact h
  exact if_pos hs

/-- A value of the register's width reads back as it was written. -/
theorem U.rd_depStart (hv : v < 2 ^ 32) : (u.wr R.TIM_DEP_START_DN_START v).rd R.TIM_DEP_START_DN_START = v := by
  rw [U.rd_wr_same]
  exact Nat.mod_eq_of_lt hv

/-! ### The generator at a boundary -/

/-- Whether the generator runs from the boundary of a DN: it is ARMED, and its start is late or the one of this DN. -/
def U.startsAt (u : U) (dn : Nat) : Prop :=
  u.rd R.TIM_DEP_CTL_STATE = 1 ∧ (u.tim.runNext = true ∨ u.rd R.TIM_DEP_START_DN_START = dn)

theorem U.depGenerator_waits {dn : Nat} (h : ¬ u.startsAt dn) : u.depGenerator t dn = u :=
  if_neg (by simpa [U.startsAt] using h)

/-- The unit whose generator runs, before its event. -/
def U.depRunning (u : U) : U :=
  (((u.wr R.TIM_DEP_CTL_STATE 2).wr R.TIM_DEP_CTL_START 0).withTim (fun h => { h with runNext := false })).withDep
    (fun d => { d with ranSince := true, fresh := List.range 12 })

theorem U.depRunning_rd (u : U) (f : Fld) : u.depRunning.rd f = ((u.wr R.TIM_DEP_CTL_STATE 2).wr R.TIM_DEP_CTL_START 0).rd f := by
  rw [U.depRunning, U.rd_withDep, U.rd_withTim]

theorem U.depGenerator_starts {dn : Nat} (h : u.startsAt dn) : u.depGenerator t dn = u.depRunning.raise t TIM.DEP_RUN [] :=
  if_pos (by simpa [U.startsAt] using h)

theorem U.depGenerator_runs {dn : Nat} (h : u.startsAt dn) :
    (u.depGenerator t dn).rd R.TIM_DEP_CTL_STATE = 2 ∧ (u.depGenerator t dn).rd R.TIM_DEP_CTL_START = 0 := by
  rw [U.depGenerator_starts h, U.raise_info_rd _ _ rfl (by decide), U.raise_info_rd _ _ rfl (by decide), U.depRunning_rd, U.depRunning_rd]
  exact ⟨(U.rd_wr_ne _ _ (by decide)).trans (U.rd_wr_same _ _ _), U.rd_wr_same _ _ _⟩

end Generator

/-! ### The commands -/

section Commands
variable {s : State} (hh : s.u.held = false)
include hh

theorem exec_depStart_runs (stop : Bool) : exec (.depStart stop) s = .next (s.after (s.u.depStart s.time stop)) :=
  State.onUnit_whole (c := .depStart stop) (fun t u => u.depStart t stop) rfl rfl hh

theorem exec_depStop_runs : exec .depStop s = .next (s.after (s.u.depStop s.time)) :=
  State.onUnit_whole (c := .depStop) (fun t u => u.depStop t) rfl rfl hh

theorem exec_timDepStartWrite_runs {v : Nat} (hw : (Instr.timDepStartWrite v).wf = true) :
    exec (.timDepStartWrite v) s = .next (s.after (s.u.depStartWrite s.time v)) :=
  State.onUnit_whole (fun t u => u.depStartWrite t v) hw rfl hh

/-- STOP, alone or written with START. -/
theorem exec_stop_runs {c : Instr} (hc : c = .depStop ∨ c = .depStart true) : exec c s = .next (s.after (s.u.depStop s.time)) := by
  rcases hc with rfl | rfl
  · exact exec_depStop_runs hh
  · rw [exec_depStart_runs hh, U.depStart_stop]

end Commands

/-- Settles O2: each command is its comparison or its refusal, and the generator runs from the boundary that its start names. -/
theorem departureGeneratorCommandsComplete : Obligations.DepartureGeneratorCommandsComplete := by
  unfold Obligations.DepartureGeneratorCommandsComplete
  refine ⟨?ahead, ?late, ?running, ?stored, ?armedAhead, ?armedLate, ?stop, ?refused, ?stopped, ?runs, ?waits⟩
  case ahead =>
    intro s hh hs hd
    rw [exec_depStart_runs hh, U.depStart_idle hs, U.depCompare_ahead hd]
    rfl
  case late =>
    intro s hh hs hd
    rw [exec_depStart_runs hh, U.depStart_idle hs, U.depCompare_late hd]
    rfl
  case running =>
    intro s hh hs
    rw [exec_depStart_runs hh, U.depStart_running hs]
  case stored =>
    intro s v hw hh hs
    rw [exec_timDepStartWrite_runs hh hw, U.depStartWrite_stored hs]
  case armedAhead =>
    intro s v hw hh hs hd
    rw [exec_timDepStartWrite_runs hh hw, U.depStartWrite_compared hs, U.depCompare_ahead (by rw [U.rd_depStart (wordOk_lt hw)]; exact hd)]
    rfl
  case armedLate =>
    intro s v hw hh hs hd
    rw [exec_timDepStartWrite_runs hh hw, U.depStartWrite_compared hs, U.depCompare_late (by rw [U.rd_depStart (wordOk_lt hw)]; exact hd)]
    rfl
  case stop =>
    intro s hh hs c hc
    rw [exec_stop_runs hh hc, U.depStop_taken hs]
    rfl
  case refused =>
    intro s hh hs hc
    rw [exec_depStop_runs hh, U.depStop_refused hs hc]
  case stopped =>
    intro s hh hs
    rw [exec_depStop_runs hh, U.depStop_stopped hs]
  case runs => exact fun u t dn hs h => U.depGenerator_runs ⟨hs, h⟩
  case waits =>
    rintro u t dn h
    refine U.depGenerator_waits ?_
    rintro ⟨hs, hn⟩
    rcases h with h | ⟨hr, hd⟩
    · exact h hs
    · rcases hn with hn | hn
      · rw [hr] at hn
        exact Bool.false_ne_true hn
      · exact hd hn

end Sys2Proof.Machine
end

section
/-! PROOFS. Readings of station time and time stamps: the latch of TIM_NOW (R51), TIME_STATE (R50), PTP events and their queues (R43 to R45). -/
namespace Sys2Proof.Machine

/-! ### The latch of TIM_NOW (R51) -/

section Latch
variable (u : U) (t : TimeBase) (core : Nat)

theorem U.nowLatch_out : (u.nowLatch t core).out = u.out ++ [.readData core 0x400010020 (t.ts64 % 2 ^ 32)] := by
  rw [U.nowLatch, U.emit_out]
  iterate 7 rw [U.wr_out]

theorem U.nowLatch_mem : (u.nowLatch t core).mem = u.mem := by
  rw [U.nowLatch, U.emit_mem]
  iterate 7 rw [U.wr_mem]

theorem U.Calm.wr {u : U} (h : u.Calm) (f : Fld) (x : Nat) : (u.wr f x).Calm := ⟨h.evq, h.shot, h.cur, h.tx⟩

theorem U.nowLatch_calm {u : U} (h : u.Calm) : (u.nowLatch t core).Calm := by
  unfold U.nowLatch
  refine U.Calm.emit ?_ _
  iterate 7 refine U.Calm.wr ?_ _ _
  exact h

/-- The fields that show the role and BAK stand beside the TIM_NOW registers, and in no core's own bank. -/
theorem shownKeys_place : ∀ k ∈ shownKeys, (k < 0x400010020 * 32 ∨ 0x400010035 * 32 ≤ k) ∧ k < 0x10000000000 * 32 := by decide

/-- A field of a core's TIM_NOW registers shows neither the role nor BAK. -/
theorem now_not_shown {f : Fld} {core : Nat} (h1 : 0x400010020 + core * 0x10000000000 ≤ f.addr)
    (h2 : f.addr ≤ 0x400010034 + core * 0x10000000000) (hl : f.lo < 32) : f.key ∉ shownKeys := by
  intro hk
  have hp := shownKeys_place _ hk
  unfold Fld.key at hp
  omega

theorem U.nowLatch_tsl : (u.nowLatch t core).rd (R.TIM_NOW_TSL_TS_LO core) = t.ts64 % 2 ^ 32 := by
  rw [U.nowLatch, U.rd_emit]
  iterate 6 rw [U.rd_wr_ne _ _ (by simp only [Fld.key]; omega)]
  exact U.rd_wr_same _ _ _

theorem U.nowLatch_tsh : (u.nowLatch t core).rd (R.TIM_NOW_TSH_TS_HI core) = t.ts64 / 2 ^ 32 % 2 ^ 32 := by
  rw [U.nowLatch, U.rd_emit]
  iterate 5 rw [U.rd_wr_ne _ _ (by simp only [Fld.key]; omega)]
  exact U.rd_wr_same _ _ _

theorem U.nowLatch_sechi : (u.nowLatch t core).rd (R.TIM_NOW_SECH_SEC_HI core) = t.tns / 1000000000 / 2 ^ 32 % 2 ^ 16 := by
  rw [U.nowLatch, U.rd_emit]
  iterate 4 rw [U.rd_wr_ne _ _ (by simp only [Fld.key]; omega)]
  exact U.rd_wr_same _ _ _

theorem U.nowLatch_era : (u.nowLatch t core).rd (R.TIM_NOW_SECH_ERA core) = t.era := by
  rw [U.nowLatch, U.rd_emit]
  iterate 3 rw [U.rd_wr_ne _ _ (by simp only [Fld.key]; omega)]
  rw [U.rd_wr_same]
  exact Nat.mod_mod _ 65536

theorem U.nowLatch_seclo : (u.nowLatch t core).rd (R.TIM_NOW_SECL_SEC_LO core) = t.tns / 1000000000 % 2 ^ 32 := by
  rw [U.nowLatch, U.rd_emit]
  iterate 2 rw [U.rd_wr_ne _ _ (by simp only [Fld.key]; omega)]
  exact U.rd_wr_same _ _ _

theorem U.nowLatch_ns : (u.nowLatch t core).rd (R.TIM_NOW_NS_NS core) = t.tns % 1000000000 := by
  rw [U.nowLatch, U.rd_emit, U.rd_wr_ne _ _ (by simp only [Fld.key]; omega), U.rd_wr_same]
  exact Nat.mod_eq_of_lt (Nat.lt_trans (Nat.mod_lt _ (by decide)) (show 1000000000 < 2 ^ 30 by decide))

theorem U.nowLatch_dn : (u.nowLatch t core).rd (R.TIM_NOW_DN_DN core) = t.dn := by
  rw [U.nowLatch, U.rd_emit, U.rd_wr_same]
  exact Nat.mod_mod _ (2 ^ 32)

end Latch

/-! ### TIM_CTL (R50) -/

theorem U.timCtlWrite_new {u : U} (t : TimeBase) {v : Nat} (hp : bits v 0 2 ≠ 3) (hs : bits v 4 2 ≠ 3)
    (hn : bits v 4 2 ≠ u.rd R.TIM_CTL_TIME_STATE) : u.timCtlWrite t v =
      (((u.wr R.TIM_CTL_PTP_PAIR (bits v 0 2)).wr R.TIM_CTL_PTP_DOMAIN (bits v 8 8)).wr R.TIM_CTL_TIME_STATE (bits v 4 2)).raise t
        TIM.TIME_STATE [] := by
  have hst : ((u.wr R.TIM_CTL_PTP_PAIR (bits v 0 2)).wr R.TIM_CTL_PTP_DOMAIN (bits v 8 8)).rd R.TIM_CTL_TIME_STATE =
      u.rd R.TIM_CTL_TIME_STATE := by
    rw [U.rd_wr_ne _ _ (by decide), U.rd_wr_ne _ _ (by decide)]
  unfold U.timCtlWrite
  rw [if_neg hp]
  exact if_neg (by rw [hst]; simp [hs, hn])

/-! ### Stamps of PTP events (R43 to R45) -/

section Ptp
variable {u : U} {t : TimeBase} {p m q raw : Nat}

theorem U.ptpRx_stamped {port : Nat} {octets : List Nat} (h : u.ptpOn (port / 2) = true) :
    u.ptpRx t port (u.rd R.TIM_CTL_PTP_DOMAIN) raw octets = u.ringPut t port (u.ingress port raw) 1 octets := by
  rw [U.ptpRx, if_pos h, if_pos rfl]

theorem U.ptpRx_dropped {port d : Nat} {octets : List Nat} (h : u.ptpOn (port / 2) = true) (hd : d ≠ u.rd R.TIM_CTL_PTP_DOMAIN) :
    u.ptpRx t port d raw octets = u := by
  rw [U.ptpRx, if_pos h, if_neg hd]

theorem U.ptpTx_queued (hm : m < 16) (hq : q < 65536) (h : (u.txq p).length < 16) :
    u.ptpTx t p m q raw = u.setTxq p (u.txq p ++ [⟨m, q, (raw + u.rd (R.TIM_PORT_LAT_EGRESS p)) % 2 ^ 64⟩]) := by
  unfold U.ptpTx
  rw [Nat.mod_eq_of_lt hm, Nat.mod_eq_of_lt hq]
  exact if_neg (Nat.not_le.mpr h)

theorem U.ptpTx_full (h : 16 ≤ (u.txq p).length) : u.ptpTx t p m q raw =
    ((u.inc (R.TIM_TXQ_STAT_DROP p)).wr (R.TIM_TXQ_STAT_OVF p) 1).raise t (TIM.TXQ_OVF p) [(8, 2, p)] := if_pos h

theorem U.txqPop_head {e : TxEntry} {l : List TxEntry} (h : u.txq p = e :: l) : u.txqPop p = u.setTxq p l := by
  rw [U.txqPop, h]

theorem U.hsrForward_sent {one : Bool} {corr rx tx : Nat} (hp : p = 2 ∨ p = 3) (hen : u.on R.PBX_CTL_HSR_EN = true)
    (hpair : u.rd R.TIM_CTL_PTP_PAIR = 1) : u.hsrForward p q one corr rx tx =
      u.emit (.hsrForward (5 - p) q (enc 64 ((corr : Int) + tsDiff tx rx * 4096)) one) := by
  have hother : (if p = 2 then 3 else 2) = 5 - p := by
    rcases hp with rfl | rfl
    · rfl
    · rfl
  unfold U.hsrForward
  rw [if_neg (by simp [hen, hpair]), hother]
  rfl

end Ptp

/-! ### The commands -/

section Commands
variable {s : State} (hh : s.u.held = false)
include hh

theorem exec_timNowLatch_runs {core : Nat} (hw : (Instr.timNowLatch core).wf = true) :
    exec (.timNowLatch core) s = .next (s.after (s.u.nowLatch s.time core)) :=
  State.onUnit_whole (fun t u => u.nowLatch t core) hw rfl hh

theorem exec_timeStateWrite_runs {v : Nat} (hw : (Instr.timeStateWrite v).wf = true) :
    exec (.timeStateWrite v) s = .next (s.after (s.u.timCtlWrite s.time v)) :=
  State.onUnit_whole (fun t u => u.timCtlWrite t v) hw rfl hh

theorem exec_ptpEventRx_runs {port m d q raw : Nat} {octets : List Nat} (hw : (Instr.ptpEventRx port m d q raw octets).wf = true) :
    exec (.ptpEventRx port m d q raw octets) s = .next (s.after (s.u.ptpRx s.time port d raw octets)) :=
  State.onUnit_whole (fun t u => u.ptpRx t port d raw octets) hw rfl hh

theorem exec_ptpEventTx_runs {p m q raw : Nat} (hw : (Instr.ptpEventTx p m q raw).wf = true) :
    exec (.ptpEventTx p m q raw) s = .next (s.after (s.u.ptpTx s.time p m q raw)) :=
  State.onUnit_whole (fun t u => u.ptpTx t p m q raw) hw rfl hh

theorem exec_txqPop_runs {p : Nat} (hw : (Instr.txqPop p).wf = true) : exec (.txqPop p) s = .next (s.after (s.u.txqPop p)) :=
  State.onUnit_whole (fun _ u => u.txqPop p) hw rfl hh

theorem exec_hsrSyncForward_runs {p q corr rx tx : Nat} {one : Bool} (hw : (Instr.hsrSyncForward p q one corr rx tx).wf = true) :
    exec (.hsrSyncForward p q one corr rx tx) s = .next (s.after (s.u.hsrForward p q one corr rx tx)) :=
  State.onUnit_whole (fun _ u => u.hsrForward p q one corr rx tx) hw rfl hh

end Commands

section Shown
variable (s : State) (core : Nat)

/-- The state that a latch of TIM_NOW leaves. -/
def State.nowLatched : State := s.after (s.u.nowLatch s.time core)

variable {s core} (hc : s.u.Calm)
include hc

/-- A core's TIM_NOW registers stand as latched once a calm handshake has ended. -/
theorem State.nowLatched_rd {f : Fld} (h1 : 0x400010020 + core * 0x10000000000 ≤ f.addr)
    (h2 : f.addr ≤ 0x400010034 + core * 0x10000000000) (hl : f.lo < 32) :
    (s.nowLatched core).u.rd f = (s.u.nowLatch s.time core).rd f :=
  U.finish_rd _ _ (U.nowLatch_calm _ _ hc) (now_not_shown h1 h2 hl)

theorem State.nowLatched_out : (s.nowLatched core).u.out = s.u.out ++ [.readData core 0x400010020 (s.time.ts64 % 2 ^ 32)] :=
  (U.finish_out _ _ (U.nowLatch_calm _ _ hc)).trans (U.nowLatch_out _ _ _)

theorem State.nowLatched_mem : (s.nowLatched core).u.mem = s.u.mem :=
  (U.finish_mem _ _ (U.nowLatch_calm _ _ hc)).trans (U.nowLatch_mem _ _ _)

end Shown

/-- Settles O4: each command is its operation, and what a latch holds stands in the registers of its core. -/
theorem timeReadingsAndStampsComplete : Obligations.TimeReadingsAndStampsComplete := by
  unfold Obligations.TimeReadingsAndStampsComplete
  refine ⟨?latch, ?state, ?stamped, ?dropped, ?queued, ?full, ?pop, ?forward⟩
  case latch =>
    intro s core hw hh hc
    refine ⟨_, exec_timNowLatch_runs hh hw, rfl, ?_, ?_, ?_, ?_, ?_, ?_, ?_, State.nowLatched_out hc, State.nowLatched_mem hc⟩
    · exact (State.nowLatched_rd hc (by simp) (by simp) (by simp)).trans (U.nowLatch_tsl _ _ _)
    · exact (State.nowLatched_rd hc (by simp) (by simp) (by simp)).trans (U.nowLatch_tsh _ _ _)
    · exact (State.nowLatched_rd hc (by simp) (by simp) (by simp)).trans (U.nowLatch_seclo _ _ _)
    · exact (State.nowLatched_rd hc (by simp) (by simp) (by simp)).trans (U.nowLatch_sechi _ _ _)
    · exact (State.nowLatched_rd hc (by simp) (by simp) (by simp)).trans (U.nowLatch_era _ _ _)
    · exact (State.nowLatched_rd hc (by simp) (by simp) (by simp)).trans (U.nowLatch_ns _ _ _)
    · exact (State.nowLatched_rd hc (by simp) (by simp) (by simp)).trans (U.nowLatch_dn _ _ _)
  case state =>
    intro s v hw hh hp hs hn
    rw [exec_timeStateWrite_runs hh hw, U.timCtlWrite_new s.time hp hs hn]
  case stamped =>
    rintro s port m d q raw octets hw hh hp rfl
    rw [exec_ptpEventRx_runs hh hw, U.ptpRx_stamped hp]
  case dropped =>
    intro s port m d q raw octets hw hh hp hd
    rw [exec_ptpEventRx_runs hh hw, U.ptpRx_dropped hp hd]
  case queued =>
    intro s p m q raw hw hh hl
    have hb := hw
    simp only [Instr.wf, Bool.and_eq_true, decide_eq_true_eq] at hb
    obtain ⟨⟨⟨-, hm⟩, hq⟩, -⟩ := hb
    rw [exec_ptpEventTx_runs hh hw, U.ptpTx_queued hm hq hl]
  case full =>
    intro s p m q raw hw hh hl
    rw [exec_ptpEventTx_runs hh hw, U.ptpTx_full hl]
  case pop =>
    intro s p e q hw hh hq
    rw [exec_txqPop_runs hh hw, U.txqPop_head hq]
  case forward =>
    intro s p q one corr rx tx hw hh hen hpair
    have hb := hw
    simp only [Instr.wf, Bool.and_eq_true, Bool.or_eq_true, beq_iff_eq] at hb
    obtain ⟨⟨⟨⟨hp, -⟩, -⟩, -⟩, -⟩ := hb
    rw [exec_hsrSyncForward_runs hh hw, U.hsrForward_sent hp hen hpair]

end Sys2Proof.Machine
end

section
/-! PROOFS. What a boundary does to the role that has been decided (R502), and the TIME frames that it sends (R46). -/
namespace Sys2Proof.Machine

/-! ### A decided role comes into force (R502) -/

section Role
variable {u : U} {t : TimeBase}

/-- A role taken leaves no handover pending. -/
theorem U.setRole_pending {r : Nat} (h : u.on R.SDL_ROLE_HO_PEND = false) : (u.setRole t r).on R.SDL_ROLE_HO_PEND = false := by
  have hraise : ∀ v : U, v.rd R.SDL_ROLE_HO_PEND = 0 → (v.syncSending.raise t SDL.ROLE_CHG []).on R.SDL_ROLE_HO_PEND = false := by
    intro v hv
    rw [U.on_eq, U.raise_info_rd _ _ rfl (by decide), U.syncSending_eq, U.rd_wr_ne _ _ (by decide), hv]
    rfl
  have hbase : ∀ v : U, (v.wr R.SDL_ROLE_HO_PEND 0).rd R.SDL_ROLE_HO_PEND = 0 := fun v => U.rd_wr_same _ _ _
  by_cases hr : u.role = r
  · rw [U.setRole_same hr]
    exact h
  · unfold U.setRole
    dsimp only
    rw [if_neg hr]
    split
    · refine hraise _ ?_
      rw [U.rd_withSdl, U.rd_wr_ne _ _ (by decide)]
      exact hbase _
    · exact hraise _ (hbase _)

/-- The role is the one taken, whether it changes or not. -/
theorem U.setRole_role {r : Nat} (hr : r < 8) : (u.setRole t r).role = r := by
  by_cases h : u.role = r
  · rw [U.setRole_same h]
    exact h
  · exact (U.setRole_shown h hr).1

/-- What the role's part of a boundary ends with: CONV_EN taken back, and as it then stands kept for the next boundary (R502). -/
def U.roleEnd (u : U) : U :=
  (if u.sdl.convOff && u.role = 2 then u.wr R.DEP_CTL_CONV_EN 0 else u).withSdl
    (fun s => { s with convWas := u.on R.DEP_CTL_CONV_EN, convOff := false })

theorem U.roleEnd_role (u : U) : u.roleEnd.role = u.role := by
  unfold U.roleEnd U.role
  rw [U.rd_withSdl]
  split
  · exact U.rd_wr_ne _ _ (by decide)
  · rfl

theorem U.roleEnd_next (u : U) : u.roleEnd.sdl.next = u.sdl.next := by
  unfold U.roleEnd
  split
  · rfl
  · rfl

/-- With a role decided and no handover pending a boundary takes the role, and nothing else of R502. -/
theorem U.roleBoundary_decided {r : Nat} (b : Nat) (hn : u.sdl.next = some r) (hp : u.on R.SDL_ROLE_HO_PEND = false) :
    u.roleBoundary t b = (u.setRole t r).roleEnd := by
  have hfell : ¬ (u.role == 2 && u.sdl.convWas && !u.on R.DEP_CTL_CONV_EN && u.sdl.next.isNone) = true := by simp [hn]
  have hdue : (!((u.setRole t r).on R.SDL_ROLE_HO_PEND && !(u.setRole t r).sdl.hoReq &&
      (u.setRole t r).rd R.SDL_HO_DN_DN == b)) = true := by simp [U.setRole_pending hp]
  unfold U.roleBoundary
  dsimp only
  rw [if_neg hfell, hn]
  dsimp only
  rw [if_pos hdue]
  rfl

end Role

/-! ### TIME frames (R46, R331) -/

section TimeFrames
variable (u : U) (us : Nat)

/-- What a frame sent to a hub puts out: one output for each of its lanes that is UP. -/
def U.hubOutputs (h : Nat) (f : List Nat) : List Output :=
  ([2 * h, 2 * h + 1].filter u.laneUp).map (fun n => .mainline n (sendBlocks f))

theorem U.sendHub_eq (h : Nat) (f : List Nat) : u.sendHub h f = { u with out := u.out ++ u.hubOutputs h f } := by
  have hlane : ∀ o n, U.laneUp { u with out := o } n = u.laneUp n := fun _ _ => rfl
  unfold U.sendHub U.hubOutputs
  simp only [List.foldl_cons, List.foldl_nil, List.filter_cons, List.filter_nil]
  cases h0 : u.laneUp (2 * h) <;> cases h1 : u.laneUp (2 * h + 1) <;> simp [hlane, h1, U.emit]

/-- The flags of the TIME frame to a hub. -/
def U.timeFlags (h : Nat) : OrderFlags := u.orderFlags (u.frozenFor h ((us + u.rd R.DEP_CTL_LEAD) % 2 ^ 32))

/-- The octets of the TIME frame to a hub. -/
def U.timeOctets (h : Nat) : List Nat :=
  timeBytes (u.timeFlags us h) (us % 2 ^ 32) (u.rd R.TIM_CTL_TIME_STATE) (us * 16000 % 2 ^ 64) (us * 16000 / 2 ^ 64 % 65536)

theorem U.timeFrame_waits (h : us % 2 ^ 32 % 1024 ≠ 0) : u.timeFrame us = u := by
  unfold U.timeFrame
  rw [if_neg (by simp only [Bool.and_eq_true, decide_eq_true_eq]; exact fun hc => h hc.2)]

/-- The TIME frames change nothing but what the unit has sent. -/
theorem U.timeFrames_sent (l : List Nat) (o : List Output) :
    l.foldl (fun (v : U) h => v.sendHub h (v.timeOctets us h)) { u with out := o } =
      { u with out := o ++ l.flatMap (fun h => u.hubOutputs h (u.timeOctets us h)) } := by
  induction l generalizing o with
  | nil => rw [List.flatMap_nil, List.append_nil]; rfl
  | cons h l ih =>
    have hstep : U.sendHub { u with out := o } h (U.timeOctets { u with out := o } us h) =
        { u with out := o ++ u.hubOutputs h (u.timeOctets us h) } := U.sendHub_eq { u with out := o } h _
    rw [List.foldl_cons, hstep, ih, List.flatMap_cons, List.append_assoc]

variable {u us}

theorem U.timeFrame_out (hr : u.role = 3) (hs : u.rd R.TIM_DEP_CTL_STATE = 2) (h : us % 2 ^ 32 % 1024 = 0) :
    (u.timeFrame us).out = u.out ++ u.topo.hubs.flatMap (fun h => u.hubOutputs h (u.timeOctets us h)) := by
  have hsent := u.timeFrames_sent us u.topo.hubs u.out
  have hrole : u.rd R.SDL_ROLE_ROLE = 3 := hr
  unfold U.timeFrame
  rw [if_pos (by simp only [Bool.and_eq_true, decide_eq_true_eq]; exact ⟨⟨hrole, hs⟩, h⟩)]
  exact congrArg U.out hsent

/-- A hub of the set gets its TIME frame on each of its lanes that is UP. -/
theorem U.timeFrame_mem {h n : Nat} (hr : u.role = 3) (hs : u.rd R.TIM_DEP_CTL_STATE = 2) (hus : us % 2 ^ 32 % 1024 = 0) (hh : h ∈ u.topo.hubs)
    (hn : n = 2 * h ∨ n = 2 * h + 1) (hl : u.laneUp n = true) : Output.mainline n (sendBlocks (u.timeOctets us h)) ∈ (u.timeFrame us).out := by
  have hlane : n ∈ [2 * h, 2 * h + 1].filter u.laneUp := List.mem_filter.mpr ⟨by simpa using hn, hl⟩
  rw [U.timeFrame_out hr hs hus]
  exact List.mem_append_right _ (List.mem_flatMap.mpr ⟨h, hh, List.mem_map_of_mem hlane⟩)

end TimeFrames

/-- Settles O56: the generator runs from the boundary of its start, the decided role is the one that the boundary takes, and a TIME frame
carries the flags of the ACTIVE unit. -/
theorem boundaryStartsDeparturesAndTakesRoles : Obligations.BoundaryStartsDeparturesAndTakesRoles := by
  unfold Obligations.BoundaryStartsDeparturesAndTakesRoles
  refine ⟨?armed, ?idle, ?role, ?time⟩
  case armed =>
    refine fun u t dn hs => ⟨fun h => U.depGenerator_runs ⟨hs, h⟩, fun hr hd => U.depGenerator_waits ?_⟩
    rintro ⟨-, hn | hn⟩
    · rw [hr] at hn
      exact Bool.false_ne_true hn
    · exact hd hn
  case idle => exact fun u t dn hs => U.depGenerator_waits (fun h => hs h.1)
  case role =>
    intro u t b r hn hr hp
    rw [U.roleBoundary_decided b hn hp, U.roleEnd_role, U.roleEnd_next]
    exact ⟨U.setRole_role (by omega), U.setRole_next _ _ _⟩
  case time =>
    intro u us hr hs
    have hact : (u.rd R.SDL_ROLE_ROLE == 3) = true := beq_iff_eq.mpr hr
    exact ⟨fun hus h n hh hn hl => ⟨u.timeFlags us h, U.timeFrame_mem hr hs hus hh hn hl, hact, rfl⟩, u.timeFrame_waits us⟩

end Sys2Proof.Machine
end

section
/-! PROOFS. What a handshake's end leaves of the register fields that nothing in it writes, and what passes on an empty queue (log entry 1). -/
namespace Sys2Proof.Machine

/-! ### What the action of a fault leaves (R447) -/

/-- The fields that the action of a fault's final class writes: glacier mode, an avalanche, a trip. -/
def actionKeys : List Nat :=
  glacierKeys ++ (permitKeys ++ (tripKeys ++ (avalancheKeys ++ ((B.DEP.status 2).key :: DEP.AVALANCHE.touches []))))

section Action
variable (u : U) (t : TimeBase) {f : Fld} (h : f.key ∉ actionKeys)
include h

theorem glacierKeys_of_action : f.key ∉ glacierKeys := fun hm => h (List.mem_append_left _ hm)

theorem tripped_of_action : f.key ∉ permitKeys ∧ f.key ∉ tripKeys ∧ f.key ∉ avalancheKeys ∧ f.key ≠ (B.DEP.status 2).key ∧
    f.key ∉ DEP.AVALANCHE.touches [] := by
  simp only [actionKeys, List.mem_append, List.mem_cons, not_or] at h
  exact h.2

theorem U.avalanche_rd (bit detail : Nat) : (u.avalanche t bit detail).rd f = u.rd f := by
  obtain ⟨hp, ht, ha, hs, hr⟩ := tripped_of_action h
  have hsrc : f.key ≠ R.DEP_AV_SRC_SRC.key := fun e => ha (e ▸ by decide)
  by_cases hl : u.on R.DEP_STATUS_AV_LATCHED = false ∨ u.on R.DEP_STATUS_CLR_SENDING = true
  · rw [U.avalanche_rd_start t bit detail hl hs hr hp ht hsrc, U.avalancheStart_rd _ _ _ _ ha]
  · rw [not_or, Bool.not_eq_false, Bool.not_eq_true] at hl
    rw [U.avalanche_further t bit detail hl.1 hl.2]
    exact U.rd_wr_ne _ _ hsrc

theorem U.classAct_rd (cls src : Nat) : (u.classAct t cls src).rd f = u.rd f := by
  obtain ⟨hp, ht, ha, -⟩ := tripped_of_action h
  have hsrc : f.key ≠ R.DEP_AV_SRC_SRC.key := fun e => ha (e ▸ by decide)
  by_cases h2 : cls = 2
  · rw [U.classAct, if_pos h2, U.glacier_rd _ _ (glacierKeys_of_action h)]
  · by_cases h3 : cls = 3
    · rw [h3, U.classAct_three, U.tripSource_rd_keeps _ hp ht hsrc, U.avalanche_rd _ _ h]
    · rw [U.classAct, if_neg h2, if_neg h3]

/-- A cause raised leaves every field outside its STATUS bit, its block's record, the first trip and the action of its class. -/
theorem U.raise_rd {c : Cause} {d : List (Nat × Nat × Nat)} (hs : f.key ≠ (c.blk.status c.bit).key) (ht : f.key ∉ c.touches d) :
    (u.raise t c d).rd f = u.rd f := by
  unfold U.raise U.raiseAt
  dsimp only
  split
  · exact U.record_rd _ _ _ _ _ hs ht
  · rw [U.classAct_rd _ _ h, U.faultSeen_rd, U.record_rd _ _ _ _ _ hs ht]

end Action

/-! ### What the work at a handshake's end leaves of ERA (R31) -/

/-- ERA of TIM_STATUS. -/
def eraBit : Fld := B.TIM.status 19

theorem eraBit_action : eraBit.key ∉ actionKeys := by decide

/-- A field of another register is not ERA. -/
theorem eraBit_key_ne {f : Fld} (hl : f.lo < 32) (ha : 0x400010048 ≠ f.addr) : eraBit.key ≠ f.key :=
  Fld.key_ne_of_addr (by decide) hl ha

section Relinquish
variable (u : U) (t : TimeBase)

theorem U.era_raise {c : Cause} {d : List (Nat × Nat × Nat)} (hs : eraBit.key ≠ (c.blk.status c.bit).key) (ht : eraBit.key ∉ c.touches d) :
    (u.raise t c d).rd eraBit = u.rd eraBit := U.raise_rd u t eraBit_action hs ht

theorem U.sidingControl_rd (b : Block) (f : Fld) : (u.sidingControl b).rd f = u.rd f := by
  have hcut : u.cutSiding.rd f = u.rd f := by
    unfold U.cutSiding
    split
    · rfl
    · dsimp only
      split <;> rfl
  unfold U.sidingControl
  split
  · rfl
  · exact hcut

theorem U.era_relinquish : (u.relinquish t).rd eraBit = u.rd eraBit :=
  (U.era_raise (u.sidingControl relinquishBlock) t (c := SDL.RELINQUISH) (by decide) (by decide)).trans (u.sidingControl_rd _ _)

theorem U.era_relinquishCause (blk : Nat) : (u.relinquishCause t blk).rd eraBit = u.rd eraBit := by
  have hby : ∀ (c : Bool) (l : List Nat), U.rd (if c then u else { u with sdl := { u.sdl with rlqBy := l } }) eraBit = u.rd eraBit := by
    intro c l
    split <;> rfl
  have hact : ∀ (c d : Bool) (w : U), w.rd eraBit = u.rd eraBit → U.rd (if c then w else if d then w.relinquish t
      else { w.raise t SDL.RLQ_BLOCKED [] with sdl := { (w.raise t SDL.RLQ_BLOCKED []).sdl with rlqHeld := true } }) eraBit = u.rd eraBit := by
    intro c d w hw
    split
    · exact hw
    · split
      · exact (w.era_relinquish t).trans hw
      · exact (w.era_raise t (c := SDL.RLQ_BLOCKED) (d := []) (by decide) (by decide)).trans hw
  exact hact _ _ _ (hby _ _)

theorem U.era_raiseRlq {c : Cause} (m : Nat) {d : List (Nat × Nat × Nat)} (hs : eraBit.key ≠ (c.blk.status c.bit).key)
    (ht : eraBit.key ∉ c.touches d) : (u.raiseRlq t c m d).rd eraBit = u.rd eraBit := by
  unfold U.raiseRlq
  dsimp only
  split
  · rw [U.era_relinquishCause, U.era_raise _ _ hs ht]
  · exact U.era_raise _ _ hs ht

end Relinquish

/-! ### A word read (R452, R453) -/

/-- The memory of the unit with ERA at a value and no cause raised but those of MEM_STATUS. -/
def MemIO.EraAt (x : Nat) (io : MemIO) : Prop := io.rd eraBit = x ∧ ∀ e ∈ io.raised, e.1 < 32

namespace MemIO.EraAt
variable {x : Nat} {io : MemIO}

theorem wr (h : io.EraAt x) {f : Fld} (v : Nat) (hf : eraBit.key ≠ f.key) : (io.wr f v).EraAt x :=
  ⟨(Regs.get_set_ne _ _ hf).trans h.1, h.2⟩

theorem cause (h : io.EraAt x) {bit : Nat} (bank : Nat) (hb : bit < 32) : (io.cause bit bank).EraAt x := by
  refine ⟨h.1, fun e he => ?_⟩
  rcases List.mem_append.mp he with he | he
  · exact h.2 e he
  · rw [List.mem_singleton.mp he]
    exact hb

theorem spareRow (h : io.EraAt x) (addr : Nat) : (io.spareRow addr).EraAt x := by
  have hspared : ∀ hid, MemIO.EraAt x { io with hid := hid } := fun _ => h
  unfold MemIO.spareRow
  dsimp only
  split
  · exact (hspared _).cause _ (by decide)
  · exact h.cause _ (by decide)

theorem uncorr (h : io.EraAt x) (addr : Nat) (injected : Bool) : (io.uncorr 0x400000000 addr injected).EraAt x := by
  have hraised : ((io.inc (R.SYS_MEM_CNT_UNC_CNT 0x400000000)).cause 0 (addr / 2 ^ 20)).EraAt x :=
    (h.wr _ (by decide)).cause _ (by decide)
  have hpoisoned : ∀ hid, MemIO.EraAt x { (io.inc (R.SYS_MEM_CNT_UNC_CNT 0x400000000)).cause 0 (addr / 2 ^ 20) with hid := hid } :=
    fun _ => hraised
  unfold MemIO.uncorr
  dsimp only
  split
  · exact hraised
  · split
    · exact hraised.spareRow _
    · exact (hpoisoned _).spareRow _

theorem corrected (h : io.EraAt x) : (io.corrected 0x400000000).EraAt x := h.wr _ (by decide)

theorem read (h : io.EraAt x) (addr symbols : Nat) (still : Bool) : (io.read 0x400000000 addr symbols still).2.EraAt x := by
  unfold MemIO.read
  extract_lets here once cont inj n used
  have hused : used.EraAt x := by
    unfold used
    split
    · exact h.wr _ (by decide)
    · exact h
  split
  · exact hused.uncorr _ _
  · split
    · exact hused
    · dsimp only
      split
      · exact hused.corrected.spareRow _
      · exact hused.corrected

end MemIO.EraAt

section Reading
variable (u : U) (t : TimeBase)

theorem U.era_onMem {f : MemIO → MemIO} (hf : (f ⟨u.regs, u.memh, [], 0⟩).EraAt (u.rd eraBit)) : (u.onMem t f).rd eraBit = u.rd eraBit := by
  have hstatus : ∀ bit, bit < 32 → eraBit.key ≠ (B.MEM.status bit).key := fun bit hb =>
    eraBit_key_ne hb (show 0x400010048 ≠ B.MEM.st by decide)
  have hrecord : ∀ bit cls bank, eraBit.key ∉ (Cause.mk B.MEM bit cls 232 false 1).touches [(8, 8, bank)] := by
    intro bit cls bank
    show eraBit.key ∉ (Cause.mk B.MEM 0 none 232 false 1).touches [(8, 8, 0)]
    decide
  unfold U.onMem
  refine List.foldlRecOn (motive := fun v : U => v.rd eraBit = u.rd eraBit) _ _ hf.1 (fun v hv e he => ?_)
  dsimp only
  split
  · exact (U.era_raiseRlq v t _ (hstatus 0 (by decide)) (hrecord _ _ _)).trans hv
  · exact (U.era_raise v t (hstatus e.1 (hf.2 e he)) (hrecord _ _ _)).trans hv

/-- Work that reads spans of SRAM leaves ERA where the work itself does. -/
theorem U.era_reading (spans : List (Nat × Nat)) {f : U → U} (hf : ∀ v : U, (f v).rd eraBit = v.rd eraBit) :
    (u.reading t spans f).rd eraBit = u.rd eraBit := by
  unfold U.reading
  split
  · exact hf u
  · dsimp only
    refine (foldl_leaves (p := fun v : U => v.rd eraBit) (fun v e => ?_) _ _).trans ((hf _).trans ?_)
    · split <;> rfl
    · refine foldl_leaves (p := fun r : List (Nat × List Nat) × U => r.2.rd eraBit) (fun r w => ?_) _ _
      have hread : (r.2.onMem t (fun io => (io.read 0x400000000 w 0 false).2)).rd eraBit = r.2.rd eraBit :=
        U.era_onMem _ _ (MemIO.EraAt.read ⟨rfl, fun _ he => absurd he List.not_mem_nil⟩ w 0 false)
      have hkept : ∀ (c : Prop) [Decidable c] (v : U) (m : Mem) (l l' : List (Nat × List Nat)), v.rd eraBit = r.2.rd eraBit →
          (if c then (l, { v with mem := m }) else (l', v)).2.rd eraBit = r.2.rd eraBit := by
        intro c _ v m l l' hv
        split
        · exact hv
        · exact hv
      exact hkept _ _ _ _ _ hread

end Reading

/-! ### Siding and the snapshot (R397, R398, R492) -/

section Siding
variable (u : U) (t : TimeBase)

theorem U.era_sideRead (f : SideFrame) (n : Nat) : (u.sideRead t f n).rd eraBit = u.rd eraBit := by
  unfold U.sideRead
  split
  · rfl
  · exact U.era_reading u t _ (fun _ => rfl)

theorem U.era_sideSkip (i : SideItem) : (u.sideSkip t i).rd eraBit = u.rd eraBit := by
  have hskip : (u.inc R.SDL_CNT_A_SKIP_CNT).rd eraBit = u.rd eraBit := U.rd_wr_ne _ _ (by decide)
  cases i with
  | ctrl b => rfl
  | region r => exact (U.era_raise _ t (c := SDL.MIR_SKIP) (d := []) (by decide) (by decide)).trans hskip
  | loop => exact hskip
  | arm a => exact hskip
  | frn a j => exact hskip

theorem U.era_sideRun (n : Nat) : (U.sideRun t n u).rd eraBit = u.rd eraBit := by
  induction n generalizing u with
  | zero => rfl
  | succ n ih =>
    unfold U.sideRun
    split
    · next f _ =>
      dsimp only
      split
      · exact u.era_sideRead t _ _
      · exact (ih _).trans (u.era_sideRead t _ _)
    · rfl
    · dsimp only
      refine (ih _).trans ?_
      split
      · exact U.era_sideSkip _ t _
      · rfl

theorem U.era_sideAdvance : (u.sideAdvance t).rd eraBit = u.rd eraBit := by
  unfold U.sideAdvance
  split
  · rfl
  · exact u.era_sideRun t _

theorem U.capTrigger_rd (bit : Nat) (f : Fld) : (u.capTrigger bit).rd f = u.rd f := by
  unfold U.capTrigger
  split <;> rfl

theorem U.era_snapshot (latch : U) : (u.snapshot t latch).rd eraBit = u.rd eraBit := by
  unfold U.snapshot
  dsimp only
  split
  · rfl
  · split
    · rfl
    · split
      · refine (U.era_raise _ t (c := SNP.SNP_BUSY) (d := []) (by decide) (by decide)).trans ?_
        exact U.rd_wr_ne _ _ (by decide)
      · have hseq : ∀ (v : U) (a b : Nat), ((v.wr R.SNP_LAST_SEQ a).wr R.SNP_LAST_SRC b).rd eraBit = v.rd eraBit := fun v a b =>
          (U.rd_wr_ne _ _ (by decide)).trans (U.rd_wr_ne _ _ (by decide))
        split
        · exact (U.capTrigger_rd _ _ _).trans (hseq _ _ _)
        · exact hseq _ _ _

end Siding

/-! ### The events delivered (R426, R427) -/

section Events
variable (u : U) (t : TimeBase)

/-- The registers of the scheduler lie above those of the time base. -/
theorem U.era_wr {f : Fld} (v : Nat) (h : 0x400010049 * 32 ≤ f.key) : (u.wr f v).rd eraBit = u.rd eraBit :=
  U.rd_wr_ne _ _ (Nat.ne_of_lt (Nat.lt_of_lt_of_le (by decide) h))

theorem U.era_syncFlow (flow : Nat) : (u.syncFlow flow).rd eraBit = u.rd eraBit := by
  unfold U.syncFlow
  dsimp only
  iterate 4 rw [U.era_wr _ _ (by simp only [Fld.key]; omega)]

theorem U.era_syncDepth : u.syncDepth.rd eraBit = u.rd eraBit :=
  foldl_leaves (p := fun v : U => v.rd eraBit) (fun v c => v.era_wr _ (by simp only [Fld.key]; omega)) _ _

theorem U.era_unreadyIdle : u.unreadyIdle.rd eraBit = u.rd eraBit := by
  refine foldl_leaves (p := fun v : U => v.rd eraBit) (fun v n => ?_) _ _
  split
  · rfl
  · exact U.era_wr _ _ (by simp only [Fld.key]; omega)

theorem U.era_started (core th : Nat) : (u.started t core th).rd eraBit = u.rd eraBit := by
  unfold U.started
  dsimp only
  iterate 5 rw [U.era_wr _ _ (by simp only [Fld.key]; omega)]
  rfl

theorem U.era_dispatchTold (core th : Nat) : (u.dispatchTold core th).rd eraBit = u.rd eraBit := U.era_syncDepth _

theorem U.era_plainTaken (core th : Nat) : (u.plainTaken core th).rd eraBit = u.rd eraBit := by
  unfold U.plainTaken
  dsimp only
  iterate 6 rw [U.era_wr _ _ (by simp only [Fld.key]; omega)]
  rfl

theorem U.era_itemTaken (core th : Nat) (i : Item) : (u.itemTaken t core th i).rd eraBit = u.rd eraBit := by
  unfold U.itemTaken
  extract_lets _ _ served pended timed calmed told
  have hpended : pended.rd eraBit = u.rd eraBit := by
    unfold pended
    split
    · exact U.era_wr served _ (by simp only [Fld.key]; omega)
    · rfl
  have htimed : timed.rd eraBit = u.rd eraBit := by
    unfold timed
    iterate 2 rw [U.era_wr _ _ (by simp only [Fld.key]; omega)]
    exact hpended
  have hcalmed : calmed.rd eraBit = u.rd eraBit := by
    unfold calmed
    split
    · exact htimed
    · exact htimed
  rw [U.era_unreadyIdle, U.era_syncFlow]
  unfold told
  iterate 6 rw [U.era_wr _ _ (by simp only [Fld.key]; omega)]
  exact hcalmed

theorem U.era_dispatch (core th : Nat) : (u.dispatch t core th).rd eraBit = u.rd eraBit := by
  cases hd : u.deliverable th with
  | none => rw [U.dispatch_plain hd, U.era_dispatchTold, U.era_plainTaken, U.era_started]
  | some i => rw [U.dispatch_item hd, U.era_dispatchTold, U.era_itemTaken, U.era_started]

theorem U.era_setPreempt (core : Nat) : (u.setPreempt core).rd eraBit = u.rd eraBit :=
  (U.rd_withSch _ _ _).trans (u.era_wr _ (by simp only [Fld.key]; omega))

theorem U.era_makeReady (th : Nat) : (u.makeReady t th).rd eraBit = u.rd eraBit := by
  unfold U.makeReady
  extract_lets waked listed asked
  have hwaked : waked.rd eraBit = u.rd eraBit := by
    unfold waked
    iterate 2 rw [U.era_wr _ _ (by simp only [Fld.key]; omega)]
  have hlisted : listed.rd eraBit = u.rd eraBit := (U.era_syncDepth _).trans hwaked
  have hasked : asked.rd eraBit = u.rd eraBit := by
    unfold asked
    split
    · exact hlisted
    · refine (U.era_raise _ t (c := SCH.AFF_EMPTY) (by decide) ?_).trans hlisted
      show eraBit.key ∉ SCH.AFF_EMPTY.touches (SCH.det 0 0)
      decide
  split
  · exact (U.era_dispatch _ t _ _).trans hasked
  · split
    · exact (U.era_setPreempt _ _).trans hasked
    · exact hasked

theorem U.era_settle : (u.settle t).rd eraBit = u.rd eraBit := by
  refine foldl_leaves (p := fun v : U => v.rd eraBit) (fun v i => ?_) _ _
  split
  · exact v.era_makeReady t _
  · rfl

theorem U.era_queueItem (flow th src data : Nat) (event : Bool) : (u.queueItem t flow th src data event).2.rd eraBit = u.rd eraBit := by
  unfold U.queueItem
  split
  · rfl
  · extract_lets seq queued counted high low warned noted
    have hcounted : counted.rd eraBit = u.rd eraBit :=
      (U.era_syncFlow _ _).trans (U.era_wr queued _ (by simp only [Fld.key]; omega))
    have hhigh : high.rd eraBit = u.rd eraBit := by
      unfold high
      split
      · exact (U.era_raise _ t (c := SCH.QHIGH) (d := []) (by decide) (by decide)).trans hcounted
      · exact hcounted
    have hwarned : warned.rd eraBit = u.rd eraBit := by
      unfold warned
      split
      · exact (U.era_raise _ t (c := SCH.POOL_LOW) (d := []) (by decide) (by decide)).trans hhigh
      · exact hhigh
    exact (U.era_settle noted t).trans ((U.rd_withSch warned _ _).trans hwarned)

theorem U.era_deliverEvent (src : Nat) : (u.deliverEvent t src).rd eraBit = u.rd eraBit := by
  have hqueued := u.era_queueItem t (u.rd (R.SCH_SRC_FLOW src)) (u.rd (R.SCH_SRC_THREAD src)) src 0 true
  unfold U.deliverEvent
  dsimp only
  split
  · rfl
  · split
    · exact U.era_wr u _ (f := R.SCH_POOL_COAL_CNT) (by decide)
    · split
      · next hq =>
        rw [hq] at hqueued
        exact (U.era_wr _ _ (by simp only [Fld.key]; omega)).trans hqueued
      · next hq =>
        rw [hq] at hqueued
        exact hqueued

theorem U.era_drain (n : Nat) : (U.drain n u t).rd eraBit = u.rd eraBit := by
  induction n generalizing u with
  | zero => rfl
  | succ n ih =>
    unfold U.drain
    split
    · rfl
    · exact (ih _).trans (U.era_deliverEvent _ t _)

/-- No handshake's end takes ERA back. -/
theorem U.era_finish (latch : U) : (u.finish t latch).rd eraBit = u.rd eraBit := by
  have hlines : ∀ v : U, (v.putLines.markEdge t).rd eraBit = v.rd eraBit := by
    intro v
    have hregs : (v.putLines.markEdge t).regs = v.regs := by simp
    unfold U.rd
    rw [hregs]
  unfold U.finish
  dsimp only
  rw [hlines, U.syncBak_rd _ (by decide), U.syncSending_rd _ (by decide), U.era_drain, U.era_snapshot, U.era_sideAdvance]

end Events

/-! ### Time passes (log entry 1) -/

section Pass
variable {t : TimeBase}

theorem TimeBase.pass_runs (h : (t.since + 1) * 2 ^ 28 ≤ t.incNext.getD t.inc) :
    t.pass = { t with elapsed := t.elapsed + 1, since := t.since + 1 } := if_pos h

theorem TimeBase.pass_waits (h : t.incNext.getD t.inc < (t.since + 1) * 2 ^ 28) : t.pass = t := if_neg (Nat.not_le.mpr h)

theorem TimeBase.t16_pass (h : (t.since + 1) * 2 ^ 28 ≤ t.incNext.getD t.inc) : t.pass.t16 = t.t16 + 1 := by
  rw [TimeBase.t16_eq_raw, TimeBase.t16_eq_raw, TimeBase.pass_runs h]
  rfl

variable {u : U} {old new : TimeBase}

/-- Siding goes on with the time. -/
theorem U.pass_sends (h : new.t16 / 2 ^ 64 ≤ old.t16 / 2 ^ 64) (hs : u.sdl.cur ≠ none ∨ u.sdl.tx ≠ []) : u.pass old new = u.finish new u := by
  have hsends : (u.sdl.cur.isSome || !u.sdl.tx.isEmpty) = true := by
    rcases hs with hs | hs
    · simp [Option.isSome_iff_ne_none.mpr hs]
    · simp [hs]
  unfold U.pass
  rw [if_neg (Nat.not_lt.mpr h), if_pos hsends]

/-- An era entered stands in ERA (R31). -/
theorem U.pass_era (h : old.t16 / 2 ^ 64 < new.t16 / 2 ^ 64) : (u.pass old new).rd eraBit = 1 := by
  unfold U.pass
  rw [if_pos h, U.era_finish, U.eraEvent, if_pos h, U.raise_info u new (c := TIM.ERA) [] rfl]
  exact U.markCause_status u TIM.ERA

theorem U.markEdge_rd (f : Fld) : (u.markEdge t).rd f = u.rd f := by
  have hregs : (u.markEdge t).regs = u.regs := by simp
  unfold U.rd
  rw [hregs]

end Pass

section Idle
variable {s : State}

theorem State.idle_unit (h : s.u.held = false) : s.idle.time = s.time.pass ∧ s.idle.u = (s.u.pass s.time s.time.pass).markEdge s.time.pass := by
  rw [State.idle_runs h]
  exact ⟨rfl, rfl⟩

theorem step_empty (h : s.pending = []) : step s = .next s.idle := by
  unfold step
  rw [h]

end Idle

/-- Settles O40: the step of an empty queue is `State.idle`, whose unit is the one that `U.pass` leaves in each of its three cases. -/
theorem emptyQueuePassesTime : Obligations.EmptyQueuePassesTime := by
  unfold Obligations.EmptyQueuePassesTime
  refine ⟨fun s hq => ⟨s.idle, step_empty hq, s.idle_hubs, s.idle_cells, s.idle_pending.trans hq, State.idle_held, fun hh hdue => ?passes,
    fun hh hwait => ?waits⟩, fun u t => rfl⟩
  case passes =>
    obtain ⟨htime, hunit⟩ := State.idle_unit hh
    have ht16 := TimeBase.t16_pass hdue
    rw [htime, hunit]
    refine ⟨TimeBase.pass_runs hdue, ht16, fun hin hcur htx => ?_, fun hin hsends => ?_, fun hera => ?_⟩
    · rw [U.pass_same (by omega) hcur htx]
    · rw [U.pass_sends (by omega) hsends]
    · rw [U.markEdge_rd]
      exact U.pass_era (by omega)
  case waits =>
    obtain ⟨htime, hunit⟩ := State.idle_unit hh
    rw [htime, hunit, TimeBase.pass_waits hwait]
    exact ⟨rfl, fun hcur htx => by rw [U.pass_same (Nat.le_refl _) hcur htx]⟩

end Sys2Proof.Machine
end
